-- ==== Sys2Proof/Word.lean ====
section
/-! DEFINITION. The word and byte of the device (00_scope.md R6, R10). -/

namespace Sys2Proof

/-- A register (00_scope.md R6): 32 bits, bit 0 the least significant (R10). -/
abbrev Word := BitVec 32

/-- A byte of a mailbox, a frame or a record. -/
abbrev Byte := BitVec 8

end Sys2Proof
end

