-- ==== Sys2Proof/Types.lean ====
section
/-! DEFINITION. The types of the commands' operands and of what the device sends: names of lanes and cages, the
findings of a receiver, messages and frames. -/

namespace Sys2Proof

/-- The part variants (00_scope.md R1, R4). -/
inductive Variant where
  /-- H4816-C, VARIANT 0x0: every resource enabled. -/
  | c
  /-- H4816-E, VARIANT 0x1: every resource enabled. -/
  | e
  /-- H4816-C4, VARIANT 0x2: trees T0-T23 and DRAM channels D0-D7 only (R2). -/
  | c4
  deriving DecidableEq, Repr

/-- A serial lane with a lane block (02_lanes.md; 19_gellen.md R548 for the Gellen lanes). -/
inductive LaneId where
  | tree (t : Fin 48)
  | upl (u : Fin 48)
  | fab (f : Fin 48)
  | glk (l : Fin 8)
  deriving DecidableEq, Repr

/-- A cage for an optical module: a tree's (03_tree_line.md R71) or one of the twelve pin cages
(22_electrical.md R640). -/
inductive CageId where
  | tree (t : Fin 48)
  | pin (k : Fin 12)
  deriving DecidableEq, Repr

/-- What owns a gate list: a tree (09_downstream.md R272) or an uplink port (15_uplinks.md R444). -/
inductive GateOwner where
  | tree (t : Fin 48)
  | upl (u : Fin 48)
  deriving DecidableEq, Repr

/-- The three kinds of Catalogue record with a handle (06_catalogue.md R158). -/
inductive RecKind where
  | term
  | alloc
  | chan
  deriving DecidableEq, Repr

/-- A delimiter candidate as the burst receiver finds it (04_burst_rx.md R105, R106). -/
structure Cand where
  /-- differing bits -/
  diff : Nat
  /-- position relative to D, in symbols; positive is late -/
  off : Int
  /-- the header check passes -/
  hdrOk : Bool
  /-- the ONU-ID the header carries -/
  onuId : Nat
  /-- measured round-trip delay in ns, of a ranging burst (05_activation.md R133) -/
  rtdNs : Nat
  deriving DecidableEq, Repr

/-- How a codeword decodes (04_burst_rx.md R118). -/
inductive CwResult where
  | clean
  | corrected
  | uncorrectable
  /-- the last codeword of a burst, decoded, whose trailer check fails -/
  | trailerBad
  deriving DecidableEq, Repr

/-- What the receiver holds of a burst when it closes a grant (04_burst_rx.md R100, R114, R204). -/
structure BurstEnd where
  /-- bytes the section carried in codewords that decoded -/
  carried : Nat
  /-- bytes of idle XGEM frames among them -/
  idle : Nat
  /-- the adapted 16-byte preset slot -/
  slot : List Byte
  /-- bytes of an XGEM frame that continues past the section, 0 where none -/
  fragment : Nat
  /-- measured mean squared error, receiver units -/
  mse : Nat
  deriving DecidableEq, Repr

/-- How an XGEM packet ends its reassembly (04_burst_rx.md R119). -/
inductive ReasmResult where
  /-- a whole packet -/
  | whole
  /-- the header of an XGEM frame fails its check: the rest of the section is lost -/
  | badHeader
  /-- the burst begins with a new frame though a fragment was due -/
  | newFrame
  deriving DecidableEq, Repr

/-- The MACsec tag of a received frame, and whether its ICV holds (15_uplinks.md R445, 10_cipher.md R298). -/
structure SecTag where
  sci : Nat
  an : Fin 4
  pn : Nat
  /-- the tag carries the SCI -/
  long : Bool
  icvOk : Bool
  deriving DecidableEq, Repr

/-- An uncorrectable error found in the forwarding memories (12_forwarding.md R374). -/
structure MemErr where
  /-- 0 buckets, 1 overflow, 2 trie -/
  mem : Nat
  /-- the slot (4 * bucket + slot), the overflow slot or the trie node -/
  idx : Nat
  /-- for a trie node, the prefixes whose walk passes through it, by their place in the trie's list -/
  lost : List Nat
  deriving DecidableEq, Repr

/-- A request to a DRAM controller (14_dram.md R411-R416). -/
structure DramReq where
  /-- the port, 0-5 (R411) -/
  port : Fin 6
  /-- the urgency it carries of its own -/
  urg : Fin 4
  /-- the physical byte address -/
  addr : Nat
  /-- a write's bytes; none for a read of the unit -/
  data : Option (List Byte)
  /-- the page hint (R416) -/
  hint : Fin 3
  /-- the instant it reached the controller, in ns of tick time -/
  since : Nat
  deriving DecidableEq, Repr

/-- A failing read of a march run (21_counters_test.md R622); operation 15 marks a segment left untested (R621). -/
structure MarchFind where
  element : Fin 8
  op : Fin 16
  /-- the sub-array, and the column within it (R623) -/
  sub : Fin 836
  col : Fin 512
  addr : Nat
  deriving DecidableEq, Repr

/-- What kind of thing the device sends; `Out.port` and `Out.args` are as each line says. -/
inductive OutKind where
  /-- a Gellen transaction as sent, START block and body (19_gellen.md R553); port 0 HA, 1 HB; args TYPE, SEQ -/
  | gellen
  /-- a Gellen ACK block; args ACK_SEQ, NAK -/
  | glkAck
  /-- a Gellen CREDIT block; args class, LIMIT -/
  | glkCredit
  /-- a Gellen lane mark's answer state; args lane, RX_READY -/
  | glkMark
  /-- a downstream frame start of tree `port`; args tick count, superframe counter, JX word (03_tree_line.md R59-R63); bytes the map's structures -/
  | frame
  /-- a PSBd-only idle frame of tree `port` (R80) -/
  | idleFrame
  /-- a PLOAM message in the frame of tree `port`; args type, ONU-ID; bytes content -/
  | ploam
  /-- a downstream XGEM frame of tree `port`; args port ID, key index and slot, PTI end of packet; bytes payload -/
  | xgem
  /-- a burst-receiver reset pulse of tree `port`; args receiver (0 service, 1 activation), start and end in ns after E (R75, R76) -/
  | brst
  /-- an RSSI pulse of tree `port`; args offset, width (R77) -/
  | rssi
  /-- a level of the transmit-disable pin of cage `port` (trees 0-47, pin cages 48-59); args level -/
  | txdis
  /-- a level of the module reset pin; args level -/
  | rstL
  /-- a fabric training frame's control and status words of lane `port`; args control, status (02_lanes.md R39) -/
  | train
  /-- an Ethernet frame on uplink port `port`; args queue; bytes the frame with its FCS -/
  | uplink
  /-- a fabric overhead cell on lane `port`; bytes its 256 bytes (16_fabric.md R461) -/
  | fabOverhead
  /-- a fabric slot on lane `port`; args slot, state (0 packet, 1 transit, 2 AIS, 3 unequipped); bytes -/
  | fabSlot
  /-- a copy of a fabric packet for another unit; args kind -/
  | fabPacket
  /-- a packet or event handed to the management processor; args kind; bytes -/
  | processor
  /-- a level of ALERT_L, TIME_OK, CLOCK_FAIL_L or a pulse output; args pin, level -/
  | pin
  /-- a pulse scheduled; port the output, args seconds and nanoseconds of its leading edge at the ball, width, active level -/
  | pulse
  /-- a DRAM request; port the DRAM port; args channel, address, write -/
  | dram
  /-- an interrupt to a core of the management processor; args core -/
  | irq
  /-- bits shifted out of the JTAG port -/
  | jtag
  deriving DecidableEq, Repr

/-- What leaves on a high-speed transmitter (22_electrical.md R637). -/
def OutKind.highSpeed : OutKind → Bool
  | .gellen | .glkAck | .glkCredit | .glkMark => true
  | .frame | .idleFrame | .ploam | .xgem => true
  | .train | .uplink | .fabOverhead | .fabSlot | .fabPacket => true
  | .brst | .rssi | .txdis | .rstL | .processor | .pin | .pulse | .dram | .irq | .jtag => false

/-- One thing the device has sent. -/
structure Out where
  kind : OutKind
  port : Nat
  args : List Nat
  bytes : List Byte
  deriving DecidableEq, Repr

end Sys2Proof
end

