-- ==== Sys2Proof/Syntax.lean ====
section
/-! DEFINITION. The commands: one constructor per row of spec/opcode_table.json, with the row's operands. What the
device takes from a host, a line, a pin or its memory devices in a command is an operand of it. -/

namespace Sys2Proof

/-- A command. A mailbox command names the mailbox that holds it; a register write its target and the value written; an
event its place and what the line, pin or measurement gave. -/
inductive Instr where
  -- 01_tick.md
  /-- TICK_BOUNDARY (R18): The start of each 125 µs tick. It performs the boundary events in order: snapshot, Edition change, page swap, frame start, pulse scheduling and the … -/
  | tickBoundary
  /-- SAMPLE_LATCH (R273): At T0 + 2 µs, every queue's depth and delay sample is latched, and protection health is evaluated for the previous tick. -/
  | sampleLatch
  /-- LADLE_DEADLINE (R245): At T0 + 100 µs, a held map is handed over and committed; a map that is not held commits nothing. -/
  | ladleDeadline
  /-- FRAMER_TAKES_MAP (R27): At T0 + 110 µs, the framer takes the finished map or builds a repeat map. -/
  | framerTakesMap
  /-- WRITE_BACK_BATCH_CLOSE (R177): At T0 + 120 µs, the Catalogue batch closes, line images are captured and their DRAM writes start. -/
  | writeBackBatchClose
  /-- REQUEST_CUTOFF (R19): At T0 + 124 µs, the cut-off for next-boundary actions passes and CUTOFF is set. -/
  | requestCutoff
  /-- TICK_REQ_SNAPSHOT (R19): A write of TICK_REQ.SNAPSHOT requests a counter snapshot at the next boundary. -/
  | tickReqSnapshot
  /-- TICK_REQ_EDITION (R22): A write of TICK_REQ.EDITION requests an Edition change at the next boundary, or sets NO_EDITION. -/
  | tickReqEdition
  /-- TICK_REQ_PAGE_SWAP (R19): A write of TICK_REQ.PAGE_SWAP requests a fabric page swap at the next boundary. -/
  | tickReqPageSwap
  /-- TICK_TREQ_SNAPSHOT (R20): A write of TICK_TREQ.SNAPSHOT requests a snapshot at the target tick, or is refused as late or busy. -/
  | tickTreqSnapshot
  /-- TICK_TREQ_EDITION (R20): A write of TICK_TREQ.EDITION requests an Edition change at the target tick, or is refused. -/
  | tickTreqEdition
  /-- TICK_TREQ_PAGE_SWAP (R20): A write of TICK_TREQ.PAGE_SWAP requests a page swap at the target tick, or is refused. -/
  | tickTreqPageSwap
  /-- TIME_TICK_QUERY (R26): Command that returns the tick count, the tick-in-second and the flags. -/
  | timeTickQuery (m : Fin 64)
  -- 02_lanes.md
  /-- LANE_TXFFE_WRITE (R35): A write of the transmit taps that is applied, or refused for range or busy training. -/
  | laneTxffeWrite (l : LaneId) (val : Word)
  /-- LANE_ENABLE (R44): LANE_CTRL.EN set to 1 takes the lane from OFF to DETECT and runs the receiver-detect probe. -/
  | laneEnable (l : LaneId)
  /-- LANE_DISABLE (R44): LANE_CTRL.EN set to 0 takes the lane to OFF with its transmitter in electrical idle. -/
  | laneDisable (l : LaneId)
  /-- RECEIVER_DETECT_DONE (R50): The 10 µs probe ends: far termination starts TRAIN, and an open sets RXDET_OPEN. -/
  | receiverDetectDone (l : LaneId) (far : Bool)
  /-- RECEIVER_DETECT_RETRY (R44): 1 ms after an open was found, the lane probes again. -/
  | receiverDetectRetry (l : LaneId)
  /-- TRAINING_FRAME (R42): A fabric training frame is received; its tap request is acted on and its status, including far RECEIVER_READY, is taken. -/
  | trainingFrame (l : LaneId) (control : BitVec 16) (status : BitVec 16) (checkOk : Bool) (inverted : Bool) (ask : Option (BitVec 16))
  /-- ADAPT_DONE (R38): The mean squared error stays under ADAPT_THR for 65,536 symbols; ADAPT_DONE is set and the lane may enter WAIT_FAR. -/
  | adaptDone (l : LaneId) (ctle : Fin 16) (taps : List Byte)
  /-- ADAPT_LOST (R38): The error exceeds twice ADAPT_THR for 4,096 symbols, and ADAPT_DONE clears. -/
  | adaptLost (l : LaneId)
  /-- TRAIN_TIMEOUT (R44): TRAIN_TIME expires in TRAIN or WAIT_FAR; the lane enters FAILED and raises LANE_TRAIN_FAIL. -/
  | trainTimeout (l : LaneId)
  /-- NO_RESPONSE (R43): No matching response arrives within 64 frames; NO_RESPONSE is set and the lane enters FAILED. -/
  | noResponse (l : LaneId)
  /-- START_DATA (R44): After 16 further frames in WAIT_FAR, the lane starts data. -/
  | startData (l : LaneId)
  /-- CDR_LOCK_LOST (R44): Loss of clock recovery in DATA returns the lane to TRAIN. -/
  | cdrLockLost (l : LaneId)
  /-- RETRAIN (R44): A write of RETRAIN restarts training from DATA, or from FAILED through DETECT. -/
  | retrain (l : LaneId)
  /-- AUTO_RETRAIN (R44): 100 ms in FAILED with AUTO_RETRAIN set returns the lane to DETECT. -/
  | autoRetrain (l : LaneId)
  /-- LANE_SLIP (R47): A write of LANE_SLIP moves the word boundary one bit or symbol later. -/
  | laneSlip (l : LaneId) (val : Word)
  /-- SLIP_DONE (R47): The slip completes and SLIP_BUSY clears. -/
  | slipDone (l : LaneId)
  /-- ESCAN_START (R46): ESCAN_CTRL.START begins an eye scan with the offset sampler. -/
  | escanStart (l : LaneId) (val : Word)
  /-- ESCAN_DONE (R46): The scan reaches its symbol count, writes LANE_ESCAN_RES and sets DONE. -/
  | escanDone (l : LaneId) (count : Word)
  /-- PAT_LOCK (R52): The pattern checker locks after 64 error-free symbols. -/
  | patLock (l : LaneId)
  /-- PAT_LOCK_LOST (R52): More than 256 wrong bits in 4,096 symbols make the checker drop lock and re-seed. -/
  | patLockLost (l : LaneId) (errs : Nat)
  /-- DIAG_LANE (R54): Command that reports on a lane, retrains it or runs a PRBS31 loopback check. -/
  | diagLane (m : Fin 64)
  -- 03_tree_line.md
  /-- TREE_LINE_CTRL_WRITE (R56): A write of the tree line mode or ACT_FITTED, ignored while EN is 1 or where MODE is reserved. -/
  | treeLineCtrlWrite (t : Fin 48) (val : Word)
  /-- TREE_ENABLE (R80): EN going from 0 to 1 starts the line PLL and idle frames, pending the first framed frame. -/
  | treeEnable (t : Fin 48)
  /-- TREE_DISABLE (R81): EN going from 1 to 0 completes the frame, asserts TXDIS, closes in-flight grants and takes terminals to ABSENT. -/
  | treeDisable (t : Fin 48)
  /-- DS_PRECODE_CHANGE (R66): A write changing DS_PRECODE in J100 starts a countdown of 8 frames, or is taken up at once. -/
  | dsPrecodeChange (t : Fin 48) (on : Bool)
  /-- LINE_PLL_LOCK (R80): The line PLL locks or relocks, PLL_LOCK is set, and the tree's restart wait begins. -/
  | linePllLock (t : Fin 48)
  /-- LINE_PLL_UNLOCK (R82): The line PLL loses lock; TXDIS is asserted and the tree is interrupted as though disabled. -/
  | linePllUnlock (t : Fin 48)
  /-- FIRST_FRAME (R80): 8 ticks after TXDIS release, the first frame with a map is sent, followed by broadcast Deactivate_ONU-ID and re-disables. -/
  | firstFrame (t : Fin 48)
  /-- MODULE_PRESENT (R72): PRS_L is low for 10 ms; the cage enters IDENT and releases RST_L. -/
  | modulePresent (c : CageId)
  /-- MODULE_IDENTIFY (R72): The identification read completes and the cage enters READY or REFUSED. -/
  | moduleIdentify (c : CageId) (opens : Nat) (id : Fin 256) (app : Fin 65536)
  /-- I2C_NACK_LIMIT (R72): 8 unacknowledged reads put the cage in FAULT with TXDIS held. -/
  | i2cNackLimit (c : CageId)
  /-- PRS_L_RISE (R72): PRS_L rises and TXDIS is asserted within 1 µs. -/
  | prsLRise (c : CageId)
  /-- MODULE_REMOVED (R72): PRS_L is high for 10 ms; the cage returns to EMPTY. -/
  | moduleRemoved (c : CageId)
  /-- REIDENT (R72): A write of REIDENT returns a REFUSED or FAULT cage to IDENT. -/
  | reident (c : CageId)
  /-- MOD_RESET (R72): A write of MOD_RESET holds or releases RST_L and delays identification. -/
  | modReset (c : CageId) (on : Bool)
  /-- LOW_SPEED_PIN_CHECK (R74): Every 1 ms each output is compared with its driven level; three mismatches set SHORT. -/
  | lowSpeedPinCheck (c : CageId) (mism : BitVec 10)
  /-- MODULE_INT (R74): A low transition on INT_L sets MOD_INT and raises MODULE_INT. -/
  | moduleInt (c : CageId)
  /-- RSSI_ARM (R77): A write of TREE_RSSI_CTRL.ARM selects the next qualifying burst of a terminal for an RSSI pulse. -/
  | rssiArm (t : Fin 48) (val : Word)
  /-- RSSI_DONE (R77): The RSSI pulse has been sent; DONE, BURST_SEEN and the tick are recorded. -/
  | rssiDone (t : Fin 48) (burstNs : Nat) (seen : Bool) (data : List Byte)
  /-- RSSI_TIMEOUT (R77): No qualifying burst within 8,000 ticks sets DONE and TIMEOUT. -/
  | rssiTimeout (t : Fin 48)
  /-- LINE_OPTIONS_EFFECTIVE (R68): At EFFECTIVE, acknowledged options are applied; otherwise LINE_OPTIONS is resent, or fails after three sends. -/
  | lineOptionsEffective (h : Fin 16384)
  /-- TREE_CONFIG (R84): Command that sets a tree's mode, enable and flags. -/
  | treeConfig (m : Fin 64)
  /-- TREE_STATUS (R85): Command that returns the tree line status registers. -/
  | treeStatus (m : Fin 64)
  /-- TREE_RSSI (R86): Command that arms the RSSI trigger and reads the module's RSSI. -/
  | treeRssi (m : Fin 64)
  -- 04_burst_rx.md
  /-- DESCRIPTOR_ENQUEUE (R247): A burst descriptor enters the receiver queue as soon as the queue has room. -/
  | descriptorEnqueue (t : Fin 48) (e : Fin 4096) (late : Bool)
  /-- DELIMITER_SEARCH (R106): The delimiter search window closes; candidates are tried and the burst is confirmed or missed and reported to activation. -/
  | delimiterSearch (t : Fin 48) (act : Bool) (found : List Cand) (taps : List Byte)
  /-- CODEWORD_DECODE (R118): A stored codeword is decoded and counted as corrected or uncorrectable. -/
  | codewordDecode (t : Fin 48) (r : CwResult) (hit : List Nat)
  /-- PACKET_REASSEMBLED (R119): A packet completes reassembly and is handed on for channel lookup and decryption. -/
  | packetReassembled (t : Fin 48) (a : Fin 65536) (port : Fin 65536) (keys : List (Fin 4)) (bytes : List Byte) (r : ReasmResult)
  /-- REASSEMBLY_TIMEOUT (R119): No further burst of the allocation within 64 ticks discards the partial packet. -/
  | reassemblyTimeout (a : Fin 65536)
  /-- GRANT_CLOSE (R121): Within 1 µs after E, the receiver closes the in-flight grant as received or lost. -/
  | grantClose (t : Fin 48) (e : Fin 4096) (fin : BurstEnd)
  /-- STRAY_LIGHT (R124): Signal outside every granted burst is reported as an unattributed rogue event. -/
  | strayLight (t : Fin 48)
  /-- OVERLONG (R124): Signal beyond E + 20 ns is reported as a rogue event of the burst's terminal. -/
  | overlong (t : Fin 48) (e : Fin 4096)
  /-- ROGUE_SEARCH_STEP (R148): A wait of the rogue search ends, and the next halving round or the result follows. -/
  | rogueSearchStep (t : Fin 48)
  /-- BRX_PRESET_ACCESS (R101): BRX_PRESET_CMD.GO reads or writes a terminal's preset record. -/
  | brxPresetAccess (t : Fin 48) (val : Word)
  /-- BRX_PROF_WRITE (R125): A write of a burst profile slot, refused with PROF_BUSY while the tree is enabled. -/
  | brxProfWrite (t : Fin 48) (k : Fin 4) (val : Word)
  /-- TAP_NEGOTIATION_START (R116): With no negotiation running, the tree starts one for the terminal at the head of its queue. -/
  | tapNegotiationStart (t : Fin 48)
  /-- TAP_RESPONSE (R113): A TAP_RESPONSE PLOAM reaches the negotiation engine and answers its outstanding request. -/
  | tapResponse (t : Fin 48) (id : Fin 1024) (content : List Byte)
  /-- TAP_MEASUREMENT_DONE (R114): BURSTS bursts have been measured; the round's trial is kept or reverted and the next round or the end follows. -/
  | tapMeasurementDone (t : Fin 48)
  /-- TAP_REQUEST_TIMEOUT (R115): A request unanswered within 16 frames after EFFECTIVE is resent once, or the negotiation fails. -/
  | tapRequestTimeout (t : Fin 48)
  /-- TAP_BURSTS_TIMEOUT (R115): BURSTS bursts are not received within 800 ticks, and the round fails. -/
  | tapBurstsTimeout (t : Fin 48)
  /-- RETUNE_DUE (R116): PERIOD ticks since AGE queue a terminal for renegotiation, at most one per tree per tick. -/
  | retuneDue (t : Fin 48) (h : Fin 16384)
  /-- EYESCAN_LIMIT (R123): A per-terminal scan not done within LIMIT ticks ends with TIMEOUT. -/
  | eyescanLimit (t : Fin 48) (count : Word)
  /-- TERM_RETUNE (R127): Command that queues a terminal for tap negotiation, or reads or writes its preset. -/
  | termRetune (m : Fin 64)
  /-- TERM_EYESCAN (R128): Command that runs one per-terminal eye scan. -/
  | termEyescan (m : Fin 64)
  /-- TREE_BRX_COUNTERS (R129): Command that returns the burst-receiver counters. -/
  | treeBrxCounters (m : Fin 64)
  -- 05_activation.md
  /-- ACT_CONFIG_WRITE (R131): A write of the reach or TEQD_TICKS, refused with CFG_BUSY while the tree is enabled. -/
  | actConfigWrite (t : Fin 48) (reach : Bool) (val : Word)
  /-- SERIAL_NUMBER_ONU (R134): A received serial number starts ranging of its record, or is handled as duplicate, stopped or unknown. -/
  | serialNumberOnu (t : Fin 48) (act : Bool) (sn : BitVec 64)
  /-- ACKNOWLEDGEMENT (R142): An upstream Acknowledgement message acknowledges Ranging_Time, LINE_OPTIONS or SEQ_CONFIG. -/
  | acknowledgement (t : Fin 48) (id : Fin 1024) (what : Fin 3) (port : Fin 65536)
  /-- RANGING_TIME_TIMEOUT (R142): A Ranging_Time unacknowledged after TEQD_TICKS + 4 ticks is resent or given up. -/
  | rangingTimeTimeout (h : Fin 16384)
  /-- LOST_TICKS_EXPIRY (R134): LOST_TICKS ticks in LOST deactivate the terminal and take it to ABSENT. -/
  | lostTicksExpiry (h : Fin 16384)
  /-- QW_SKIP (R140): A quiet window deferred for 64 ticks is skipped, counted and alerted. -/
  | qwSkip (t : Fin 48)
  /-- TERM_STOP (R155): Command that stops or enables one terminal, a serial number or the whole tree. -/
  | termStop (m : Fin 64)
  /-- TREE_ACT_CONFIG (R153): Command that sets the reach, TEQD and activation options of a tree. -/
  | treeActConfig (m : Fin 64)
  /-- TERM_STATE (R154): Command that returns a terminal's activation state and EqD. -/
  | termState (m : Fin 64)
  /-- TREE_SN_LIST (R156): Command that returns, and optionally empties, the unknown-serial list. -/
  | treeSnList (m : Fin 64)
  /-- ACT_TERM_SEL (R150): A write of ACT_TERM_SEL shows the chosen terminal in ACT_TERM_INFO and ACT_TERM_EQD. -/
  | actTermSel (t : Fin 48) (val : Word)
  -- 06_catalogue.md
  /-- TREE_TENANT (R193): Command that sets or queries a tenant's trees and quotas. -/
  | treeTenant (m : Fin 64)
  /-- TERM_CREATE (R188): Command that creates a terminal with its default allocation and management channel. -/
  | termCreate (m : Fin 64)
  /-- TERM_EDIT (R188): Command that edits a terminal record. -/
  | termEdit (m : Fin 64)
  /-- TERM_REMOVE (R191): Command that takes a terminal to ABSENT and removes it with its channels and allocations. -/
  | termRemove (m : Fin 64)
  /-- TERM_READ (R192): Command that returns a terminal record image. -/
  | termRead (m : Fin 64)
  /-- ALLOC_CREATE (R189): Command that creates an allocation. -/
  | allocCreate (m : Fin 64)
  /-- ALLOC_EDIT (R189): Command that edits an allocation. -/
  | allocEdit (m : Fin 64)
  /-- ALLOC_REMOVE (R191): Command that removes an allocation. -/
  | allocRemove (m : Fin 64)
  /-- ALLOC_READ (R192): Command that returns an allocation record image. -/
  | allocRead (m : Fin 64)
  /-- CHAN_CREATE (R190): Command that creates a service channel. -/
  | chanCreate (m : Fin 64)
  /-- CHAN_EDIT (R190): Command that edits a service channel. -/
  | chanEdit (m : Fin 64)
  /-- CHAN_REMOVE (R191): Command that removes a service channel. -/
  | chanRemove (m : Fin 64)
  /-- CHAN_READ (R192): Command that returns a channel record image. -/
  | chanRead (m : Fin 64)
  /-- QUARANTINE_END (R161): A removed object's quarantine ends; its handle and identifier are released and a terminal preset is zeroed. -/
  | quarantineEnd
  /-- CAT_REC_READ (R184): CAT_REC_CMD.GO with WRITE 0 copies a record into CAT_REC_DATA. -/
  | catRecRead (kind : Fin 4) (index : Fin 4194304)
  /-- CAT_REC_WRITE (R184): CAT_REC_CMD.GO with WRITE 1 applies a whole-image expert edit, create or removal. -/
  | catRecWrite (kind : Fin 4) (index : Fin 4194304)
  /-- RECORD_FETCH (R181): A cache-miss fetch from DRAM completes and fills the line, or faults it on an uncorrectable error. -/
  | recordFetch (k : RecKind) (h : Fin 262144) (bad : Bool)
  /-- WRITE_BACK_DONE (R177): A captured line image is written to DRAM and the line is unpinned. -/
  | writeBackDone
  /-- CAT_TEN_WRITE (R165): A write of a tenant's quota or tree mask, refused where minima or use would be broken. -/
  | catTenWrite (n : Fin 16) (w : Fin 12) (val : Word)
  /-- CAT_BASE_WRITE (R183): A write of CAT_BASE, ignored once READY is 1. -/
  | catBaseWrite (hi : Bool) (val : Word)
  /-- CATALOGUE_READY (R182): The region and caches are zeroed and CAT_STATUS.READY is set. -/
  | catalogueReady
  -- 07_ladle_demand.md and 08_ladle_maps.md
  /-- STATUS_REPORT (R203): A status report reaches the Ladle and is used from the next boundary. -/
  | statusReport (t : Fin 48) (e : Fin 4096) (good : Bool) (bytes : Nat)
  /-- SCHEDULE_NOTICE (R213): A notice frame is consumed and checked, and each entry is accepted, cancelled or refused with a code. -/
  | scheduleNotice (fabric : Bool) (lane : Fin 48) (ns : Fin 125000) (frame : List Byte)
  /-- TREE_ADMIT (R223): Command that sets or reads a tree's upstream admission limit. -/
  | treeAdmit (m : Fin 64)
  /-- ALLOC_DEMAND (R224): Command that returns an allocation's demand, credits and tags. -/
  | allocDemand (m : Fin 64)
  /-- ALLOC_NOTICE (R225): Command that passes a schedule notice or cancel to the Ladle. -/
  | allocNotice (m : Fin 64)
  /-- ALLOC_NOTICE_SRC (R226): Command that writes a notice-source entry. -/
  | allocNoticeSrc (m : Fin 64)
  /-- LADLE_ADMIT_WRITE (R201): A write of LADLE_ADMIT.LIMIT, ignored where it would lie below USED. -/
  | ladleAdmitWrite (t : Fin 48) (val : Word)
  /-- LADLE_NSRC_WRITE (R221): A write of a notice-source entry; setting VALID clears SEEN. -/
  | ladleNsrcWrite (j : Fin 256) (w : Fin 3) (val : Word)
  /-- MAP_HELD (R244): The map's build and checks finish, and the map is held or marked failed. -/
  | mapHeld (t : Fin 48) (ns : Fin 125000) (workBad : Bool)
  /-- INFLIGHT_STALE (R249): An entry still open at E + STALE µs is closed as lost and alerted. -/
  | inflightStale (t : Fin 48) (e : Fin 4096)
  /-- LADLE_IFT_COPY (R252): LADLE_IFT_SEL.GO copies an in-flight entry to LADLE_IFT_DATA. -/
  | ladleIftCopy (val : Word)
  /-- TREE_MAP_STATUS (R254): Command that returns the latest map's status and in-flight entries. -/
  | treeMapStatus (m : Fin 64)
  -- 09_downstream.md
  /-- DS_CHOICE (R267): At each payload position, the scheduler chooses and sends one packet, or idle fill. -/
  | dsChoice (t : Fin 48) (fs : Fin 1313216) (next : Fin 1313216) (ecc : Fin 3)
  /-- GATE_LIST_COMMIT (R272): COMMIT checks the pending gate list of a tree or port and arms it. -/
  | gateListCommit (g : GateOwner) (len : Fin 512)
  /-- GATE_LIST_ABORT (R272): ABORT disarms the armed gate list. -/
  | gateListAbort (g : GateOwner) (len : Fin 512)
  /-- GATE_LIST_ACTIVE (R272): The armed list becomes active at the first start of one of its cycles at or after CHANGE. -/
  | gateListActive (g : GateOwner)
  /-- DSQ_TEN_WRITE (R260): A write of a tenant node's CIR, PIR or weight, refused where admission would break. -/
  | dsqTenWrite (t : Fin 48) (n : Fin 17) (w : Fin 3) (val : Word)
  /-- DSQ_ADMIT_WRITE (R260): A write of the downstream admission limit, ignored where it would lie below USED. -/
  | dsqAdmitWrite (t : Fin 48) (val : Word)
  /-- DSQ_SAMPLE_COPY (R274): DSQ_SMP_SEL.GO copies one channel's sample to DSQ_SMP_DATA. -/
  | dsqSampleCopy (chan : Fin 262144)
  /-- HIST_COPY (R276): COPY, with CLEAR where set, copies a histogram at the next boundary. -/
  | histCopy (h : Fin 64) (val : Word)
  /-- HIST_CFG_WRITE (R276): A write of DSQ_HIST CFG zeroes the live bins. -/
  | histCfgWrite (h : Fin 64) (val : Word)
  /-- TREE_DS_CONFIG (R280): Command that sets a tree's FRAG, GATE_EN, MAX_AGE and admission limit. -/
  | treeDsConfig (m : Fin 64)
  /-- TREE_DS_TENANT (R281): Command that sets or queries a tenant node's downstream rates. -/
  | treeDsTenant (m : Fin 64)
  /-- TREE_GATE (R282): Command that loads, aborts or queries a tree's gate list. -/
  | treeGate (m : Fin 64)
  /-- CHAN_DS_SAMPLE (R283): Command that returns a channel's latest sample. -/
  | chanDsSample (m : Fin 64)
  /-- TREE_DS_HIST (R284): Command that configures or reads a latency histogram. -/
  | treeDsHist (m : Fin 64)
  -- 10_cipher.md
  /-- ENGINE_PARITY_ERROR (R287): A parity error fences the cipher engine and raises ENGINE_FENCED. -/
  | engineParityError (e : Fin 141)
  /-- KEY_SESSION (R314): Command that opens or closes a transport session. -/
  | keySession (m : Fin 64)
  /-- KEY_CERT (R315): Command that returns the device certificate. -/
  | keyCert (m : Fin 64)
  /-- KEY_INSTALL (R316): Command that unwraps and installs a tree key into a slot. -/
  | keyInstall (m : Fin 64)
  /-- KEY_STATUS (R317): Command that returns the state and counts of a terminal's key slots. -/
  | keyStatus (m : Fin 64)
  /-- KEY_SA_INSTALL (R318): Command that installs or removes a MACsec security association. -/
  | keySaInstall (m : Fin 64)
  /-- KEY_SELFTEST (R319): Command that tests one or every cipher engine. -/
  | keySelftest (m : Fin 64)
  /-- KEY_ZEROISE (R320): Command that starts a zeroisation. -/
  | keyZeroise (m : Fin 64)
  /-- TAMPER_INPUT (R305): An enabled tamper input holds its active level for its debounce time and starts a zeroisation. -/
  | tamperInput (k : Fin 4) (active : Bool)
  /-- SEC_ZEROISE (R313): A write of 0x5A to SEC_ZEROISE starts a zeroisation. -/
  | secZeroise (val : Word)
  /-- ZEROISATION_DONE (R306): Every key store is erased and verified, ZEROISED is set and TAMPER is raised. -/
  | zeroisationDone
  /-- CIPH_KEY_COPY (R311): CIPH_KEY_SEL.GO copies a slot's state and count. -/
  | ciphKeyCopy (index : Fin 16384) (slot : Fin 2)
  /-- ENGINE_TEST_START (R309): CIPH_TEST.START moves an engine's work to a spare and begins its test. -/
  | engineTestStart (e : Fin 256)
  /-- ENGINE_TEST_DONE (R310): An engine test ends; a pass returns the engine, and a failure fences it. -/
  | engineTestDone (e : Fin 141) (pass : Bool)
  /-- FENCE_RECOVERY (R309): Clearing a CIPH_FENCED bit starts the recovery test of that engine. -/
  | fenceRecovery (w : Fin 5) (val : Word)
  -- 11_colander.md
  /-- COLANDER_PASS (R331): One pass parses the packet, matches its key against the Edition's rules and applies the matched action. -/
  | colanderPass (corr : Nat) (errs : List MemErr)
  /-- COL_STAGE_READ (R345): COL_STAGE_CMD.GO with WRITE 0 reads a staging rule or action entry. -/
  | colStageRead (kind : Fin 2) (idx : Fin 131072)
  /-- COL_STAGE_WRITE (R345): COL_STAGE_CMD.GO with WRITE 1 writes a staging entry, or refuses it. -/
  | colStageWrite (kind : Fin 2) (idx : Fin 131072)
  /-- EDITION_OPEN (R349): Command that opens a staging image, empty or copied from the current Edition. -/
  | editionOpen (m : Fin 64)
  /-- EDITION_WRITE (R345): Command that writes rules or action entries to the staging image. -/
  | editionWrite (m : Fin 64)
  /-- EDITION_COMMIT (R343): Command that checks the staging image, copies it into a free slot and requests the change. -/
  | editionCommit (m : Fin 64)
  /-- EDITION_ABORT (R349): Command that aborts the staging image or the pending Edition. -/
  | editionAbort (m : Fin 64)
  /-- EDITION_STATUS (R349): Command that returns the state of each Edition slot. -/
  | editionStatus (m : Fin 64)
  /-- EDITION_EXC (R349): Command that sets an exception class's target and limits. -/
  | editionExc (m : Fin 64)
  /-- EDITION_MIRROR (R349): Command that sets a mirror session. -/
  | editionMirror (m : Fin 64)
  -- 12_forwarding.md
  /-- LEARN_REQUEST (R364): The table engine takes a learn request and inserts, moves or ignores the entry. -/
  | learnRequest
  /-- SWEEP_VISIT (R367): The aging sweep visits a bucket, clearing HIT or deleting aged entries. -/
  | sweepVisit (corr : Nat) (errs : List MemErr)
  /-- FWD_INSERT (R358): Command that inserts or replaces a table entry or prefix. -/
  | fwdInsert (m : Fin 64)
  /-- FWD_DELETE (R378): Command that deletes a key or prefix. -/
  | fwdDelete (m : Fin 64)
  /-- FWD_SEARCH (R378): Command that searches a table without setting HIT. -/
  | fwdSearch (m : Fin 64) (corr : Nat) (errs : List MemErr)
  /-- FWD_NEXT (R378): Command that walks a table's entries from a cursor. -/
  | fwdNext (m : Fin 64)
  /-- FWD_FLUSH_PORT (R378): Command that deletes every entry with a given PORT. -/
  | fwdFlushPort (m : Fin 64)
  /-- FWD_FLUSH_DOMAIN (R378): Command that deletes every entry of a given domain. -/
  | fwdFlushDomain (m : Fin 64)
  /-- FWD_TABLE (R378): Command that configures or queries a forwarding table. -/
  | fwdTable (m : Fin 64)
  /-- FWD_TBL_WRITE (R354): A write of a table's configuration, refused where USED is not 0. -/
  | fwdTblWrite (n : Fin 16) (w : Fin 3) (val : Word)
  /-- FWD_HASH_SEED_WRITE (R356): A write of the hash seed, ignored unless every exact table is empty. -/
  | fwdHashSeedWrite (val : Word)
  /-- FWD_READY (R375): The memories are zeroed and FWD_STATUS.READY is set. -/
  | fwdReady
  -- 13_stacks_pantry.md
  /-- BANK_RELEASE (R384): STK_CMD release starts draining a bank, or is refused. -/
  | bankRelease (b : Fin 64) (scrub : Bool)
  /-- BANK_ASSIGN (R384): STK_CMD assign gives a FREE bank to an owner, scrubbing it first where dirty. -/
  | bankAssign (b : Fin 64) (owner : Fin 8) (pool : Fin 4)
  /-- BANK_RELEASE_ASSIGN (R384): STK_CMD release and assign drains a bank and hands it to a new owner. -/
  | bankReleaseAssign (b : Fin 64) (scrub : Bool) (owner : Fin 8) (pool : Fin 4)
  /-- BANK_DRAINED (R384): The last buffer of a draining bank is freed, and it moves to scrub or FREE. -/
  | bankDrained
  /-- BANK_DRAIN_FAIL (R384): D ticks pass undrained; the bank rejoins its pool and the failure is alerted. -/
  | bankDrainFail
  /-- BANK_SCRUB_DONE (R384): A scrub ends; the bank becomes FREE or JOINING, or FAULTY on a mismatch. -/
  | bankScrubDone (bad : Option (Fin 4194304))
  /-- STK_LOCK (R383): A write of STK_CTRL.LOCK fixes the fixed owners' banks, or is refused. -/
  | stkLock (val : Word)
  /-- LIST_REBUILT (R391): After a list fault, the bank's free list has been rebuilt, and the bank rejoins the rotation. -/
  | listRebuilt (b : Fin 40)
  /-- PAN_RESERVE_WRITE (R393): A write of an egress or tenant MIN or MAX, refused where the sum or use would break. -/
  | panReserveWrite (ten : Bool) (e : Fin 98) (w : Fin 2) (val : Word)
  /-- STACKS_ASSIGN (R403): Command that releases or assigns a Stacks bank. -/
  | stacksAssign (m : Fin 64)
  /-- STACKS_RESERVE (R404): Command that sets or queries a reserve. -/
  | stacksReserve (m : Fin 64)
  /-- STACKS_STATUS (R405): Command that returns bank and pool status. -/
  | stacksStatus (m : Fin 64)
  -- 14_dram.md
  /-- DRAM_ACCESS_DONE (R417): A DRAM request is carried out, decoded and decrypted, and its data returned to its port. -/
  | dramAccessDone (c : Fin 16) (ns : Fin 125000) (arrived : List DramReq) (ready : BitVec 32) (bad : Fin 73)
  /-- REFRESH (R423): A per-bank refresh falls due and is carried out. -/
  | refresh (c : Fin 16) (b : Fin 32)
  /-- REFRESH_RATE_READ (R423): Every 16 ticks the DRAM refresh-rate report is read, and DRAM_HOT is raised where it is too hot. -/
  | refreshRateRead (c : Fin 16) (code : Fin 256) (hot : Bool)
  /-- READ_STROBE_CHECK (R424): Every RETRAIN_TICKS, a channel measures strobe drift and retrains its eyes where needed. -/
  | readStrobeCheck (c : Fin 16) (drifted : Bool)
  /-- SCRUB_READ (R421): The patrol scrub reads a unit and rewrites it where corrected. -/
  | scrubRead (bad : Fin 73) (raced : Bool)
  /-- DRAM_INIT_DONE (R422): Training and zero fill end; READY is set, or a failed channel is marked down. -/
  | dramInitDone (fails : List (Fin 16 × Nat))
  /-- DRAM_CTRL_WRITE (R408): A write of RATE, CAP or CH8, ignored once READY is 1. -/
  | dramCtrlWrite (val : Word)
  /-- SP_REGION_WRITE (R410): A write of SP_BASE or SP_SIZE, refused where the region would overlap or overflow. -/
  | spRegionWrite (w : Fin 3) (val : Word)
  /-- SPILL_WRITE_DONE (R427): A spilled packet has been written to Stockpot pages. -/
  | spillWriteDone (upl : Bool) (q : Fin 262144)
  /-- STOCKPOT_FETCH (R429): A spilled packet is fetched back into a Pantry buffer, and its pages are freed. -/
  | stockpotFetch (upl : Bool) (q : Fin 262144) (bad : Bool)
  /-- DIAG_DRAM (R435): Command that reports on a DRAM channel and writes its settings. -/
  | diagDram (m : Fin 64)
  /-- STACKS_SPILL (R436): Command that configures and reports on the Stockpot. -/
  | stacksSpill (m : Fin 64)
  -- 15_uplinks.md
  /-- UPL_PORT_CTRL_WRITE (R439): A write of the uplink port configuration, refused where busy, invalid or misaligned. -/
  | uplPortCtrlWrite (u : Fin 48) (val : Word)
  /-- UPLINK_ENABLE (R441): EN set to 1 starts training on the port's lanes. -/
  | uplinkEnable (u : Fin 48)
  /-- UPLINK_DISABLE (R441): EN set to 0 takes the port DOWN and discards its queued packets. -/
  | uplinkDisable (u : Fin 48)
  /-- UPLINK_UP (R441): All lanes are trained, aligned and FEC-locked; the link is UP. -/
  | uplinkUp (u : Fin 48)
  /-- UPLINK_DOWN (R441): Loss of alignment, FEC lock or a lane returns the port to TRAINING and discards its queues. -/
  | uplinkDown (u : Fin 48)
  /-- UPLINK_FRAME_RX (R442): A whole received frame is checked, validated, stamped and passed on, consumed or discarded. -/
  | uplinkFrameRx (u : Fin 48) (ns : Fin 125000) (frac : Fin 65536) (body : List Byte) (fcsOk : Bool) (sec : Option SecTag)
  /-- UPLINK_FRAME_TX (R443): The port sends the head of its highest queue that fits its gate, with MACsec, PTP and R-TAG handling. -/
  | uplinkFrameTx (u : Fin 48) (ns : Fin 125000) (frac : Fin 65536) (toPins : Nat) (ecc : Fin 3)
  /-- UPL_TS_POP (R452): UPL_TS_POP moves the oldest transmit timestamp into UPL_TS_DATA. -/
  | uplTsPop (u : Fin 48)
  /-- DIAG_UPLINK (R454): Command that reports on or configures an uplink port. -/
  | diagUplink (m : Fin 64)
  -- 16_fabric.md
  /-- FAB_BND_CTRL_WRITE (R456): A write of bundle configuration, refused where busy, misaligned or overlapping. -/
  | fabBndCtrlWrite (b : Fin 48) (val : Word)
  /-- BUNDLE_ENABLE (R457): EN set to 1 takes a bundle to TRAINING. -/
  | bundleEnable (b : Fin 48)
  /-- BUNDLE_DISABLE (R457): EN set to 0 takes a bundle to DOWN. -/
  | bundleDisable (b : Fin 48)
  /-- BUNDLE_LANES_TRAINED (R460): Every lane is in DATA; the bundle enters ALIGN and starts frames at a 64-tick boundary. -/
  | bundleLanesTrained (b : Fin 48)
  /-- FAB_OVERHEAD_CELL (R463): An overhead cell is received; frame sync, deskew, hello, defects, time offsets and bundle state are updated. -/
  | fabOverheadCell (f : Fin 48) (ns : Fin 125000) (diff : Fin 65) (cell : List Byte) (corr : Nat) (uncorr : Nat) (drops : Nat)
  /-- FAB_PACKET_RX (R474): A reassembled fabric packet is delivered to the Colander or firmware, routed onward, or discarded. -/
  | fabPacketRx (b : Fin 48) (trib : Fin 64) (ns : Fin 125000) (packet : List Byte) (sec : Option SecTag)
  /-- FAB_CM_READ (R470): FAB_CM_CMD.GO reads a connection-memory entry. -/
  | fabCmRead (lane : Fin 64) (dir : Fin 2) (page : Fin 2) (slot : Fin 8192)
  /-- FAB_CM_WRITE (R470): FAB_CM_CMD.GO writes a standby connection-memory entry and clears the page's mark. -/
  | fabCmWrite (lane : Fin 64) (dir : Fin 2) (page : Fin 2) (slot : Fin 8192)
  /-- FAB_CM_MARK (R470): FAB_CM_CMD.GO with MARK marks a page valid. -/
  | fabCmMark (lane : Fin 64) (dir : Fin 2) (page : Fin 2)
  /-- FAB_TBL_READ (R475): FAB_TBL_CMD.GO reads a route entry. -/
  | fabTblRead (table : Fin 2) (index : Fin 4096)
  /-- FAB_TBL_WRITE (R475): FAB_TBL_CMD.GO writes a route entry for the next packet. -/
  | fabTblWrite (table : Fin 2) (index : Fin 4096)
  /-- FAB_SHELFMARK_WRITE (R478): A write of the shelfmark, ignored while any bundle or bridge is in use. -/
  | fabShelfmarkWrite (val : Word)
  /-- FAB_CTRL_WRITE (R479): A write of FAB_CTRL, whose version range is refused where it excludes 1. -/
  | fabCtrlWrite (val : Word)
  /-- BRIDGE_HELLO_SEND (R477): Every 8 ticks a TYPE 3 hello is sent over each valid bridge. -/
  | bridgeHelloSend (b : Fin 16)
  /-- BRIDGE_TIMEOUT (R477): 64 ticks without a valid hello take a bridge out of UP. -/
  | bridgeTimeout (b : Fin 16)
  /-- CONFLICT_CLEAR (R481): 8,000 ticks with no duplicate shelfmark clear CONFLICT. -/
  | conflictClear
  /-- EDITION_FOLLOW (R481): The firmware fetches and commits a peer's higher Edition, retrying every 8,000 ticks. -/
  | editionFollow (b : Fin 48) (defFlags : Bool) (miss : Word) (rules : List (List Byte)) (actions : List (List Byte))
  /-- FAB_BUNDLE (R485): Command that reports on or configures a bundle. -/
  | fabBundle (m : Fin 64)
  /-- FAB_ROUTE (R486): Command that reads or writes a route entry. -/
  | fabRoute (m : Fin 64)
  /-- FAB_CONNECT (R487): Command that writes connection-memory entries and optionally requests a swap. -/
  | fabConnect (m : Fin 64)
  /-- FAB_PEERS (R488): Command that lists the UP bundles' and bridges' peers. -/
  | fabPeers (m : Fin 64)
  /-- FAB_BRIDGE (R489): Command that sets a bridge entry. -/
  | fabBridge (m : Fin 64)
  -- 17_protection.md
  /-- PROT_PAIR_WRITE (R493): A write of a pair's configuration, refused while the pair is enabled. -/
  | protPairWrite (t : Fin 48) (w : Fin 2) (val : Word)
  /-- HEALTH_REPORT (R493): A mate's health report arrives and drives pairing, refusal, roles and takeover. -/
  | healthReport (t : Fin 48) (ns : Fin 125000) (body : List Byte)
  /-- PROTECTION_COPY (R499): A kind 0 or 1 copy from the mate is taken into the Sieve or the channel queue. -/
  | protectionCopy (t : Fin 48) (kind : Fin 2) (port : Fin 65536) (yellow : Bool) (body : List Byte)
  /-- MIRROR_IMAGE (R505): A record image, removal, activation image or full-copy mark from the mate is applied. -/
  | mirrorImage (t : Fin 48) (kind : Fin 4) (body : List Byte)
  /-- SEQ_CONFIG_TIMEOUT (R497): An unacknowledged SEQ_CONFIG is resent, or fails after three resends. -/
  | seqConfigTimeout (c : Fin 262144)
  /-- SIEVE_STREAM_RESET (R503): A stream that has accepted nothing for RESET_TICKS returns to not started. -/
  | sieveStreamReset (c : Fin 262144)
  /-- SIEVE_COPY (R516): SIEVE_SEL.GO copies a channel's stream to SIEVE_DATA. -/
  | sieveCopy (c : Fin 262144)
  /-- PROT_PAIR (R519): Command that configures or queries a protection pair. -/
  | protPair (m : Fin 64)
  /-- PROT_STATUS (R520): Command that returns a pair's status and latest report. -/
  | protStatus (m : Fin 64)
  /-- PROT_SIEVE (R521): Command that returns a channel's Sieve stream. -/
  | protSieve (m : Fin 64)
  /-- PROT_SWITCH (R522): Command that makes the active side of a KIND 1 pair yield. -/
  | protSwitch (m : Fin 64)
  -- 18_almanac.md
  /-- ALM_MEAS (R542): A write of ALM_MEAS_HI delivers an offset to the servo. -/
  | almMeas (val : Word) (ns : Fin 125000)
  /-- SOURCE_TIMEOUT (R529): No offset for SRC_TIMEOUT ticks puts the servo in HOLDOVER. -/
  | sourceTimeout
  /-- HOLD_QUAL_EXPIRY (R531): HOLD_QUAL seconds in HOLDOVER drop TIME_OK. -/
  | holdQualExpiry
  /-- ALM_LATCH (R525): A write of ALM_LATCH copies the time counter into the time registers. -/
  | almLatch (val : Word) (ns : Fin 125000) (frac : Fin 65536)
  /-- ALM_SRC_WRITE (R527): A change of source kind or index passes the servo through HOLDOVER. -/
  | almSrcWrite (val : Word)
  /-- PULSE_INPUT_EDGE (R536): An active edge on the pulse input is stamped into the FIFO, and under KIND 3 yields an offset. -/
  | pulseInputEdge (ns : Fin 125000)
  /-- ALM_PIN_POP (R536): POP moves the oldest pulse-input stamp into its registers. -/
  | almPinPop
  /-- ALM_PULSE_WRITE (R538): A write of a pulse output's settings, which take effect at the next boundary. -/
  | almPulseWrite (k : Fin 4) (w : Fin 7) (val : Word)
  /-- TIME_OF_DAY (R535): Every TOD_PERIOD ticks, TIME_OF_DAY is broadcast on J100 trees. -/
  | timeOfDay
  /-- FREQ_ACK (R558): The host's FREQ_ACK is received for a frequency correction. -/
  | freqAck (p : Fin 2) (seq : Fin 65536) (applied : Fin 65536) (freq : Word)
  /-- FREQ_NOACK (R558): No FREQ_ACK within 1 ms; the message is resent and the alert raised. -/
  | freqNoack
  /-- TIME_STATUS (R544): Command that returns Almanac status and time. -/
  | timeStatus (m : Fin 64)
  /-- TIME_SOURCE (R544): Command that sets the servo's source and parameters. -/
  | timeSource (m : Fin 64)
  /-- TIME_SET (R544): Command that steps the time under R13. -/
  | timeSet (m : Fin 64)
  /-- TIME_PULSE (R544): Command that sets a pulse output. -/
  | timePulse (m : Fin 64)
  /-- TIME_TOD (R534): Command that returns the time of a superframe. -/
  | timeTod (m : Fin 64)
  /-- TIME_RADIO (R544): Command that sets or queries the radio frame grid. -/
  | timeRadio (m : Fin 64)
  -- 19_gellen.md
  /-- GELLEN_LANE_LOCK (R551): A Gellen lane locks its block boundary after 64 valid sync headers. -/
  | gellenLaneLock (l : Fin 8)
  /-- GELLEN_LANE_LOCK_LOST (R551): A lane loses lock; its port returns to LOCK and, if it was UP, goes down. -/
  | gellenLaneLockLost (l : Fin 8)
  /-- GELLEN_MARK (R550): A lane mark is received; BIP and inversion are checked and the port advances through ALIGN and WAIT_FAR to UP. -/
  | gellenMark (l : Fin 8) (hdr : Fin 4) (bytes : List Byte) (bip : Byte) (skew : Fin 4096)
  /-- GLK_CTRL_WRITE (R552): A write of GLK_CTRL enables or disables the ports and sets replay and alert options. -/
  | glkCtrlWrite (val : Word)
  /-- REG_READ (R557): A REG_READ transaction reads registers and returns a REG_COMPLETION. -/
  | regRead (p : Fin 2) (seq : Fin 65536) (req : Fin 32) (addr : Word) (tag : Fin 65536) (more : Fin 64)
  /-- REG_WRITE (R557): A REG_WRITE transaction writes consecutive registers. -/
  | regWrite (p : Fin 2) (seq : Fin 65536) (req : Fin 32) (addr : Word) (vals : List Word)
  /-- DMA_COMPLETION (R554): The host returns data for a DMA_READ of a transmit ring. -/
  | dmaCompletion (p : Fin 2) (seq : Fin 65536) (tag : Fin 65536) (err : Bool) (data : List Byte)
  /-- ACK (R555): An ACK block frees acknowledged transactions, or a NAK triggers replay. -/
  | ack (p : Fin 2) (seq : Fin 65536) (nak : Bool) (sound : Bool)
  /-- CREDIT (R556): A CREDIT block raises a class's LIMIT. -/
  | credit (p : Fin 2) (cls : Fin 256) (limit : Word) (sound : Bool)
  /-- REPLAY_TIMEOUT (R555): REPLAY_TIMEOUT without progress resends every unacknowledged transaction. -/
  | replayTimeout (p : Fin 2)
  /-- MBX_DOORBELL (R565): A doorbell write copies the request and starts the named command, or sets LOST while BUSY. -/
  | mbxDoorbell (m : Fin 64) (val : Word)
  /-- GLK_MBX_OWNER_WRITE (R568): A mailbox assignment change zeroes its areas, or is refused while it runs. -/
  | glkMbxOwnerWrite (k : Fin 16) (val : Word)
  /-- RING_CTRL_WRITE (R570): A write of a ring's control enables or disables it and resets HEAD and TAIL. -/
  | ringCtrlWrite (r : Fin 24) (val : Word)
  /-- RING_TAIL_WRITE (R571): The host advances TAIL and hands descriptors to the device. -/
  | ringTailWrite (r : Fin 24) (val : Word)
  /-- RING_EVENT (R572): COUNT completions, or TIME µs after the first unreported one, send a RING_EVENT. -/
  | ringEvent (r : Fin 24)
  /-- RING_FAULT (R573): A DMA_READ not completed within 100 µs stops the ring. -/
  | ringFault (r : Fin 24)
  /-- GLK_ALERT_ACK (R575): The host's write acknowledges alerts up to a sequence. -/
  | glkAlertAck (val : Word)
  /-- GLK_ALERT_SEL (R577): GO copies a logged alert to GLK_ALERT_DATA. -/
  | glkAlertSel (val : Word)
  /-- GLK_VIOL_POP (R577): A write of GLK_VIOL_POP removes the oldest violation entry. -/
  | glkViolPop (val : Word)
  /-- DIAG_LINK (R579): Command that reports on the link, configures a ring or sets the alert mask. -/
  | diagLink (m : Fin 64)
  /-- DIAG_MAILBOX (R580): Command that queries or assigns mailboxes, or pops violations. -/
  | diagMailbox (m : Fin 64)
  -- 20_clocks_boot.md
  /-- REF_VALID (R586): A host reference becomes valid; REFSEL selects it or leaves holdover. -/
  | refValid (r : Fin 2) (both : Bool)
  /-- REF_INVALID (R586): A host reference becomes invalid; REFSEL switches to the other or enters holdover. -/
  | refInvalid (r : Fin 2)
  /-- RING_STABLE (R588): A start attempt becomes stable; the supervisor enters RUN, or leaves VOID by warm reset. -/
  | ringStable (period : Fin 65536)
  /-- RING_OUT_OF_RANGE (R588): The ring's period leaves range; AO moves to SYSREF and the ring restarts, or VOID is entered. -/
  | ringOutOfRange (period : Fin 65536)
  /-- RING_ATTEMPT_FAIL (R588): A start attempt is not stable within 200 µs; another starts, or FAILED is reached. -/
  | ringAttemptFail
  /-- VOID_ATTEMPT (R589): 10 µs after the previous attempt, the supervisor makes the next start attempt in VOID. -/
  | voidAttempt
  /-- PWR_GOOD_RISE (R591): PWR_GOOD rises and starts a power-on reset and the first ring attempt. -/
  | pwrGoodRise
  /-- PWR_GOOD_FALL (R588): PWR_GOOD falls and the supervisor goes OFF. -/
  | pwrGoodFall
  /-- SUPPLY_UNDERVOLTAGE (R634): VDD_CORE or VDD_AO below 92 % for 1 µs acts as a fall of PWR_GOOD. -/
  | supplyUndervoltage
  /-- RESET_L (R591): RESET_L held low for 1 µs starts a pin reset. -/
  | resetL
  /-- WARM_RESET (R591): RST_CTRL with KEY 0x5A and WARM starts a warm reset. -/
  | warmReset (val : Word)
  /-- PLL_LOSS (R585): PLL_CORE, PLL_TBL or PLL_DDR losing lock starts a warm reset. -/
  | pllLoss (k : Fin 3)
  /-- PLL_MP_LOCK (R587): PLL_MP locks or unlocks, and the MP domain changes clock. -/
  | pllMpLock (locked : Bool)
  /-- BLOCK_RESET (R592): RST_BLOCK.GO resets one block and then releases it through the handshake. -/
  | blockReset (val : Word)
  /-- RESET_HANDSHAKE_ACK (R593): A peer leaving reset asserts ACK, and the crossing resynchronises to RUN. -/
  | resetHandshakeAck (c : Fin 165)
  /-- BOOT_ARCHIVE_VERIFIED (R596): A flash copy is verified and its firmware placed, or no copy verifies and boot enters NOBOOT. -/
  | bootArchiveVerified
  /-- BOOT_CLOCKS_LOCKED (R598): REFSEL and every PLL lock, and boot enters TEST. -/
  | bootClocksLocked
  /-- BOOT_TEST_DONE (R598): Cipher, SRAM and DRAM tests and fill finish, and the firmware starts. -/
  | bootTestDone (bad : List (Fin 141)) (memFail : Bool)
  /-- FIRMWARE_READY (R598): The firmware reports ready, and boot reaches READY or LIMITED. -/
  | firmwareReady (ms : Fin 65536)
  /-- FW_LIMIT (R598): FW_LIMIT ms pass without ready; the copy is marked bad and the other is tried. -/
  | fwLimit
  /-- FLASH_READ (R603): BOOT_FLASH_CMD read copies flash bytes into BOOT_FLASH_DATA. -/
  | flashRead (len : Fin 512) (err : Bool)
  /-- FLASH_PROGRAM (R603): BOOT_FLASH_CMD program writes and verifies flash bytes, or is refused. -/
  | flashProgram (len : Fin 512) (err : Bool)
  /-- FLASH_ERASE (R603): BOOT_FLASH_CMD erase clears a 64 KiB sector, or is refused. -/
  | flashErase (err : Bool)
  /-- DIAG_CLOCK (R604): Command that reports on clocks and writes CLK_CTRL. -/
  | diagClock (m : Fin 64)
  /-- DIAG_RESET (R605): Command that starts a warm or block reset. -/
  | diagReset (m : Fin 64)
  /-- DIAG_BOOT (R606): Command that reports on boot, accesses flash or verifies a copy. -/
  | diagBoot (m : Fin 64) (err : Bool)
  -- 21_counters_test.md
  /-- CNT_CFG_WRITE (R610): A write of a counter's event, filter and view, refused where inconsistent. -/
  | cntCfgWrite (n : Fin 4096) (val : Word)
  /-- CNT_FLT_WRITE (R610): A write of a filter profile, refused where it would make a counter inconsistent. -/
  | cntFltWrite (p : Fin 64) (w : Fin 5) (val : Word)
  /-- CNT_CLEAR (R612): CNT_CLEAR.GO zeroes counters FIRST to LAST in one cycle. -/
  | cntClear (val : Word)
  /-- SAMPLE_TRIGGER (R615): A sampling unit's REMAIN reaches 0; it reloads and takes a sample, or counts LOST. -/
  | sampleTrigger (u : Fin 16) (skid : Fin 64) (pc : BitVec 64) (busy : Bool)
  /-- CNT_SMP_POP (R618): POP moves the oldest sample into the unit's DATA words. -/
  | cntSmpPop (u : Fin 16)
  /-- MTEST_START (R620): MTEST_CTRL.GO starts a march run on a target, or is refused. -/
  | mtestStart (val : Word)
  /-- MTEST_DONE (R622): A march run ends; failures are logged, repairs assigned and bank states updated. -/
  | mtestDone (finds : List MarchFind) (again : List Nat)
  /-- MTEST_LOG_POP (R627): A write of MTEST_LOG_POP moves the oldest log entry into MTEST_LOG_DATA. -/
  | mtestLogPop
  /-- CNT_CONFIG (R628): Command that configures a counter and its profile. -/
  | cntConfig (m : Fin 64)
  /-- CNT_READ (R628): Command that reads live or snapshot counter values. -/
  | cntRead (m : Fin 64)
  /-- CNT_SNAPSHOT (R628): Command that schedules a counter snapshot. -/
  | cntSnapshot (m : Fin 64)
  /-- CNT_SAMPLE (R628): Command that configures or reads a sampling unit. -/
  | cntSample (m : Fin 64)
  /-- DIAG_MTEST (R628): Command that runs a march test and returns its log. -/
  | diagMtest (m : Fin 64)
  -- 22_electrical.md
  /-- TEMP_READING (R637): Each tick's temperature reading may raise TEMP_HIGH, or start or end a thermal trip. -/
  | tempReading (temp : BitVec 16)
  /-- JTAG_CHALLENGE (R643): The CHALLENGE instruction shifts out a fresh random challenge. -/
  | jtagChallenge
  /-- JTAG_RESPONSE (R643): A valid response zeroises and unlocks JTAG; an invalid one sets JTAG_FAIL. -/
  | jtagResponse (sig : List Byte)
  /-- DIAG_PIN (R646): Command that reports pin status and acts on a cage. -/
  | diagPin (m : Fin 64)
  -- rows the table lists last: register writes and completions
  /-- REGISTER_WRITE (R9): A write to a register that has no behaviour of its own stores the value as its access code lays down. -/
  | registerWrite (addr : Word) (val : Word)
  /-- FORCE_TXDIS_WRITE (R73): A write of FORCE_TXDIS in TREE_MOD_CTRL or PIN_CAGE_CTRL asserts TXDIS and interrupts an enabled tree, or clears it and lets the tree restart. -/
  | forceTxdisWrite (c : CageId) (on : Bool)
  /-- DIAG_LANE_CHECK_END (R54): When the duration of DIAG_LANE action 2 runs out, the final LANE_PAT_ERR is reported and LOOPBACK and the pattern settings are restored. -/
  | diagLaneCheckEnd (m : Fin 64) (errs : Nat)
  /-- COMMANDED_WARM_RESET (R605): The warm reset requested by DIAG_RESET begins 10 µs after the device writes DONE, with SOURCE 1. -/
  | commandedWarmReset
  /-- PANTRY_READY (R399): After a reset the Pantry finishes threading every bank's free list and sets PAN_STATUS.READY, so that PAN_TOTAL and the shared region become valid. -/
  | pantryReady
  /-- FABRIC_SLOT_DUE (R473): As a fabric slot falls due on a lane, it is filled from its transmit connection entry: a local tributary's next packet by PRIO with its slot header, … -/
  | fabricSlotDue (f : Fin 48) (slot : Fin 6000) (data : List Byte) (ecc : List (Fin 3))
  /-- TRANSACTION_DISCARDED (R554): A received Gellen transaction with an unknown TYPE, a bad CRC or a bad LEN is discarded; it draws a NAK, or, where it is sound and in sequence, … -/
  | transactionDiscarded (p : Fin 2) (seq : Fin 65536) (typ : Fin 256) (words : Fin 65536) (sound : Bool)
  /-- CNT_SMP_CTRL_WRITE (R615): A write of a sampling unit's CTRL binds and enables it, loading REMAIN with PERIOD, or is refused with SMP_CFG where the event is not in group 0x01 … -/
  | cntSmpCtrlWrite (u : Fin 16) (val : Word)
  deriving DecidableEq, Repr

end Sys2Proof
end

