-- ==== Sys2Proof/Machine/Bits.lean ====
section
/-! DEFINITION. Shared plain helpers: sparse maps in canonical form, little-endian and big-endian byte strings,
bit tests on natural numbers, and the cyclic redundancy checks the spec lays down. -/

namespace Sys2Proof.Machine

/-! Sparse maps: a list of (key, value) pairs with keys strictly rising and no value equal to the key's default, so
that equal maps are equal lists. -/

/-- The value at a key: the listed one, else the key's default. -/
def sget {α : Type} (dflt : Nat → α) : List (Nat × α) → Nat → α
  | [], k => dflt k
  | (j, v) :: m, k => if j = k then v else sget dflt m k

/-- Whether a key is listed. -/
def shas {α : Type} : List (Nat × α) → Nat → Bool
  | [], _ => false
  | (j, _) :: m, k => j == k || shas m k

/-- List a value at a key, in its place. -/
def sput {α : Type} : List (Nat × α) → Nat → α → List (Nat × α)
  | [], k, v => [(k, v)]
  | (j, w) :: m, k, v =>
    if k < j then (k, v) :: (j, w) :: m
    else if j = k then (k, v) :: m
    else (j, w) :: sput m k v

/-- Unlist a key. -/
def sdel {α : Type} : List (Nat × α) → Nat → List (Nat × α)
  | [], _ => []
  | (j, w) :: m, k => if j = k then sdel m k else (j, w) :: sdel m k

/-- Write a value at a key, keeping the canonical form. -/
def sset {α : Type} [DecidableEq α] (dflt : Nat → α) (m : List (Nat × α)) (k : Nat) (v : α) : List (Nat × α) :=
  if v = dflt k then sdel m k else sput m k v

/-- The canonical form: keys strictly rising from `lo`, no value its key's default. -/
def swfFrom {α : Type} [DecidableEq α] (dflt : Nat → α) : Nat → List (Nat × α) → Bool
  | _, [] => true
  | lo, (k, v) :: m => decide (lo ≤ k) && decide (v ≠ dflt k) && swfFrom dflt (k + 1) m

/-- The canonical form of a whole map. -/
def swf {α : Type} [DecidableEq α] (dflt : Nat → α) (m : List (Nat × α)) : Bool := swfFrom dflt 0 m

/-- Keep the entries whose key passes a test. -/
def skeep {α : Type} (p : Nat → Bool) (m : List (Nat × α)) : List (Nat × α) := m.filter (fun e => p e.1)

/-- Replace every listed value, unlisting those that become their default. -/
def smap {α : Type} [DecidableEq α] (dflt : Nat → α) (f : Nat → α → α) (m : List (Nat × α)) : List (Nat × α) :=
  (m.map (fun e => (e.1, f e.1 e.2))).filter (fun e => decide (e.2 ≠ dflt e.1))

/-- The listed keys, in rising order. -/
def skeys {α : Type} (m : List (Nat × α)) : List Nat := m.map Prod.fst

/-- Store bytes from an address on, keeping the canonical form. -/
def storeBytes (dflt : Nat → Byte) : List (Nat × Byte) → Nat → List Byte → List (Nat × Byte)
  | m, _, [] => m
  | m, a, b :: bs => storeBytes dflt (sset dflt m a b) (a + 1) bs

/-- Read `n` bytes from an address on. -/
def loadBytes (dflt : Nat → Byte) (m : List (Nat × Byte)) (a : Nat) : Nat → List Byte
  | 0 => []
  | n + 1 => sget dflt m a :: loadBytes dflt m (a + 1) n

/-! Numbers and bits. -/

/-- Bit `i` of a number. -/
def nbit (n i : Nat) : Bool := n / 2 ^ i % 2 == 1

/-- Bits `hi` to `lo` of a number. -/
def nbits (n hi lo : Nat) : Nat := n / 2 ^ lo % 2 ^ (hi - lo + 1)

/-- One for true, zero for false. -/
def b2n (b : Bool) : Nat := if b then 1 else 0

/-- A signed number as a two's-complement field of `w` bits. -/
def sfield (w : Nat) (x : Int) : Nat := (x % (2 ^ w : Int)).toNat

/-- A two's-complement field of `w` bits as a signed number. -/
def sval (w n : Nat) : Int := if n % 2 ^ w < 2 ^ (w - 1) then (n % 2 ^ w : Nat) else (n % 2 ^ w : Nat) - (2 ^ w : Int)

/-- A number as `n` bytes, least significant first (00_scope.md R6). -/
def leB (n v : Nat) : List Byte := (List.range n).map (fun i => BitVec.ofNat 8 (v / 256 ^ i))

/-- A number as `n` bytes, most significant first. -/
def beB (n v : Nat) : List Byte := (leB n v).reverse

/-- The byte at an offset of a byte string, 0 past its end. -/
def byteAt (bs : List Byte) (i : Nat) : Nat := (bs.getD i 0#8).toNat

/-- The little-endian number of `n` bytes at an offset. -/
def leAt (bs : List Byte) (i : Nat) : Nat → Nat
  | 0 => 0
  | n + 1 => byteAt bs i + 256 * leAt bs (i + 1) n

/-- The big-endian number of `n` bytes at an offset. -/
def beAt (bs : List Byte) (i n : Nat) : Nat := ((bs.drop i).take n ++ List.replicate (n - (bs.length - i)) 0#8).foldl (fun a b => a * 256 + b.toNat) 0

/-- `n` bytes from an offset, padded with zeros past the end. -/
def slice (bs : List Byte) (i n : Nat) : List Byte := (List.range n).map (fun k => bs.getD (i + k) 0#8)

/-- A byte string cut or zero-padded to a length. -/
def padTo (n : Nat) (bs : List Byte) : List Byte := slice bs 0 n

/-- Overwrite bytes at an offset of a byte string. -/
def patch (bs : List Byte) (i : Nat) (new : List Byte) : List Byte := bs.take i ++ new ++ bs.drop (i + new.length)

/-- The largest of a list of numbers, 0 of none. -/
def maxOf (l : List Nat) : Nat := l.foldl max 0

/-- The smallest number below `n` that passes a test. -/
def findBelow (n : Nat) (p : Nat → Bool) : Option Nat := (List.range n).find? p

/-- Insertion of one item into a list sorted by a key. -/
def insertBy {α : Type} (le' : α → α → Bool) (x : α) : List α → List α
  | [] => [x]
  | y :: ys => if le' x y then x :: y :: ys else y :: insertBy le' x ys

/-- Stable insertion sort. -/
def sortBy {α : Type} (le' : α → α → Bool) : List α → List α
  | [] => []
  | x :: xs => insertBy le' x (sortBy le' xs)

/-! Cyclic redundancy checks. -/

/-- One byte of a CRC register of `w` bits taken most significant bit first. -/
def crcMsbStep (w poly : Nat) (crc : Nat) (b : Nat) : Nat :=
  (List.range 8).foldl (fun c i =>
    let top := nbit c (w - 1) != nbit b (7 - i)
    let c2 := c * 2 % 2 ^ w
    if top then Nat.xor c2 poly else c2) crc

/-- CRC-8 of 19_gellen.md R549: x^8 + x^2 + x + 1, initial value 0. -/
def crc8 (bs : List Byte) : Nat := bs.foldl (fun c b => crcMsbStep 8 0x07 c b.toNat) 0

/-- One byte of a reflected 32-bit CRC. -/
def crcLsbStep (poly : Nat) (crc : Nat) (b : Nat) : Nat :=
  (List.range 8).foldl (fun c _ => if c % 2 = 1 then Nat.xor (c / 2) poly else c / 2) (Nat.xor crc b)

/-- A reflected 32-bit CRC from a start value, inverted at the end. -/
def crc32From (poly init : Nat) (bs : List Byte) : Nat :=
  Nat.xor (bs.foldl (fun c b => crcLsbStep poly c b.toNat) init) 0xFFFFFFFF

/-- The polynomial of CRC-32C, 0x1EDC_6F41, bits reflected. -/
def polyC : Nat := 0x82F63B78
/-- The polynomial of the CRC-32 of IEEE 802.3, bits reflected. -/
def polyE : Nat := 0xEDB88320

/-- CRC-32C (Castagnoli), as 19_gellen.md R553 and 12_forwarding.md R356 name it. -/
def crc32c (bs : List Byte) : Nat := crc32From polyC 0xFFFFFFFF bs

/-- The CRC-32 of an Ethernet frame check sequence. -/
def crc32 (bs : List Byte) : Nat := crc32From polyE 0xFFFFFFFF bs

end Sys2Proof.Machine
end

