-- ==== Sys2Proof/Machine/RegMap.lean ====
section
/-! DEFINITION. The register map of the device: one address function and the field places of every register the
spec's register maps name (00_scope.md R6-R9, 19_gellen.md R559 for the block bases; each block's chapter for the
rest), and the table of reset values and access codes. -/

namespace Sys2Proof.Machine

/-- A field of a register: its highest and its lowest bit (00_scope.md R10). -/
structure Fld where
  hi : Nat
  lo : Nat
  deriving DecidableEq, Repr

/-- One register of a block, or one array of them: the offset in the block, up to two array dimensions (count and
stride), the reset value, and the masks of the access codes of 00_scope.md R9. -/
structure RegRow where
  off : Nat
  n1 : Nat
  s1 : Nat
  n2 : Nat
  s2 : Nat
  reset : Nat
  rw : Nat
  w1c : Nat
  w1s : Nat
  wo : Nat
  rws : Nat
  deriving DecidableEq, Repr

/-- One block of registers: base, number of copies, distance between copies, and rows. -/
structure RegBlk where
  base : Nat
  count : Nat
  stride : Nat
  rows : List RegRow
  deriving Repr

/-! Block GLOBAL at 0x0. -/
/-- GLOBAL_ID (00_scope.md R4). -/
def rGLOBAL_ID : Nat := 0x0
/-- GLOBAL_ID.PART. -/ def fGLOBAL_ID_PART : Fld := ⟨31, 16⟩
/-- GLOBAL_ID.VARIANT. -/ def fGLOBAL_ID_VARIANT : Fld := ⟨15, 12⟩
/-- GLOBAL_ID.MAJOR_REV. -/ def fGLOBAL_ID_MAJOR_REV : Fld := ⟨7, 4⟩
/-- GLOBAL_ID.MINOR_REV. -/ def fGLOBAL_ID_MINOR_REV : Fld := ⟨3, 0⟩
/-- TICK_CTRL (01_tick.md R24). -/
def rTICK_CTRL : Nat := 0x100
/-- TICK_CTRL.OVR_RUN_ALERT. -/ def fTICK_CTRL_OVR_RUN_ALERT : Fld := ⟨7, 0⟩
/-- TICK_STATUS (01_tick.md R24). -/
def rTICK_STATUS : Nat := 0x104
/-- TICK_STATUS.ALIGNED. -/ def fTICK_STATUS_ALIGNED : Fld := ⟨31, 31⟩
/-- TICK_STATUS.CUTOFF. -/ def fTICK_STATUS_CUTOFF : Fld := ⟨30, 30⟩
/-- TICK_STATUS.TICK_IN_SEC. -/ def fTICK_STATUS_TICK_IN_SEC : Fld := ⟨12, 0⟩
/-- TICK_COUNT_LO (01_tick.md R24). -/
def rTICK_COUNT_LO : Nat := 0x108
/-- TICK_COUNT_HI (01_tick.md R24). -/
def rTICK_COUNT_HI : Nat := 0x10c
/-- TICK_REQ (01_tick.md R24). -/
def rTICK_REQ : Nat := 0x110
/-- TICK_REQ.PAGE_SWAP. -/ def fTICK_REQ_PAGE_SWAP : Fld := ⟨2, 2⟩
/-- TICK_REQ.EDITION. -/ def fTICK_REQ_EDITION : Fld := ⟨1, 1⟩
/-- TICK_REQ.SNAPSHOT. -/ def fTICK_REQ_SNAPSHOT : Fld := ⟨0, 0⟩
/-- TICK_TREQ (01_tick.md R24). -/
def rTICK_TREQ : Nat := 0x114
/-- TICK_TREQ.PAGE_SWAP. -/ def fTICK_TREQ_PAGE_SWAP : Fld := ⟨2, 2⟩
/-- TICK_TREQ.EDITION. -/ def fTICK_TREQ_EDITION : Fld := ⟨1, 1⟩
/-- TICK_TREQ.SNAPSHOT. -/ def fTICK_TREQ_SNAPSHOT : Fld := ⟨0, 0⟩
/-- TICK_TARGET_LO (01_tick.md R24). -/
def rTICK_TARGET_LO : Nat := 0x118
/-- TICK_TARGET_HI (01_tick.md R24). -/
def rTICK_TARGET_HI : Nat := 0x11c
/-- TICK_ERR (01_tick.md R24). -/
def rTICK_ERR : Nat := 0x120
/-- TICK_ERR.NO_EDITION. -/ def fTICK_ERR_NO_EDITION : Fld := ⟨3, 3⟩
/-- TICK_ERR.TARGET_BUSY. -/ def fTICK_ERR_TARGET_BUSY : Fld := ⟨2, 2⟩
/-- TICK_ERR.TARGET_LATE. -/ def fTICK_ERR_TARGET_LATE : Fld := ⟨1, 1⟩
/-- TICK_ERR.STEP_REFUSED. -/ def fTICK_ERR_STEP_REFUSED : Fld := ⟨0, 0⟩
/-- TICK_OVR (01_tick.md R24). -/
def rTICK_OVR (i : Nat) : Nat := 0x200 + 0x4 * i
/-- TICK_OVR.OVF. -/ def fTICK_OVR_OVF : Fld := ⟨31, 31⟩
/-- TICK_OVR.LAST_CAUSE. -/ def fTICK_OVR_LAST_CAUSE : Fld := ⟨30, 30⟩
/-- TICK_OVR.COUNT. -/ def fTICK_OVR_COUNT : Fld := ⟨23, 0⟩
/-- Reset values and access masks of block GLOBAL. -/
def rowsGLOBAL : List RegRow := [
  ⟨0x0, 1, 0x0, 1, 0x0, 0x48160000, 0x0, 0x0, 0x0, 0x0, 0x0⟩,
  ⟨0x100, 1, 0x0, 1, 0x0, 0x8, 0xff, 0x0, 0x0, 0x0, 0x0⟩,
  ⟨0x104, 1, 0x0, 1, 0x0, 0x0, 0x0, 0x0, 0x0, 0x0, 0x0⟩,
  ⟨0x108, 1, 0x0, 1, 0x0, 0x0, 0x0, 0x0, 0x0, 0x0, 0x0⟩,
  ⟨0x10c, 1, 0x0, 1, 0x0, 0x0, 0x0, 0x0, 0x0, 0x0, 0x0⟩,
  ⟨0x110, 1, 0x0, 1, 0x0, 0x0, 0x0, 0x0, 0x7, 0x0, 0x0⟩,
  ⟨0x114, 1, 0x0, 1, 0x0, 0x0, 0x0, 0x0, 0x7, 0x0, 0x0⟩,
  ⟨0x118, 1, 0x0, 1, 0x0, 0x0, 0xffffffff, 0x0, 0x0, 0x0, 0x0⟩,
  ⟨0x11c, 1, 0x0, 1, 0x0, 0x0, 0xffffffff, 0x0, 0x0, 0x0, 0x0⟩,
  ⟨0x120, 1, 0x0, 1, 0x0, 0x0, 0x0, 0xf, 0x0, 0x0, 0x0⟩,
  ⟨0x200, 48, 0x4, 1, 0x0, 0x0, 0x0, 0x80000000, 0x0, 0x0, 0x0⟩]
/-! Block CLK at 0x10000. -/
/-- CLK_CTRL (20_clocks_boot.md R601). -/
def rCLK_CTRL : Nat := 0x10000
/-- CLK_CTRL.RING_TRIM. -/ def fCLK_CTRL_RING_TRIM : Fld := ⟨23, 16⟩
/-- CLK_CTRL.REVERT. -/ def fCLK_CTRL_REVERT : Fld := ⟨1, 1⟩
/-- CLK_CTRL.REF_PREF. -/ def fCLK_CTRL_REF_PREF : Fld := ⟨0, 0⟩
/-- CLK_STATUS (20_clocks_boot.md R601). -/
def rCLK_STATUS : Nat := 0x10004
/-- CLK_STATUS.RING_STABLE. -/ def fCLK_STATUS_RING_STABLE : Fld := ⟨31, 31⟩
/-- CLK_STATUS.AO_SRC. -/ def fCLK_STATUS_AO_SRC : Fld := ⟨30, 30⟩
/-- CLK_STATUS.MP_SRC. -/ def fCLK_STATUS_MP_SRC : Fld := ⟨29, 29⟩
/-- CLK_STATUS.REF_A_VALID. -/ def fCLK_STATUS_REF_A_VALID : Fld := ⟨28, 28⟩
/-- CLK_STATUS.REF_B_VALID. -/ def fCLK_STATUS_REF_B_VALID : Fld := ⟨27, 27⟩
/-- CLK_STATUS.REF_SEL. -/ def fCLK_STATUS_REF_SEL : Fld := ⟨26, 26⟩
/-- CLK_STATUS.HOLDOVER. -/ def fCLK_STATUS_HOLDOVER : Fld := ⟨25, 25⟩
/-- CLK_STATUS.ARMED. -/ def fCLK_STATUS_ARMED : Fld := ⟨24, 24⟩
/-- CLK_STATUS.LOCK. -/ def fCLK_STATUS_LOCK : Fld := ⟨23, 19⟩
/-- CLK_STATUS.SUP_STATE. -/ def fCLK_STATUS_SUP_STATE : Fld := ⟨18, 16⟩
/-- CLK_STATUS.RING_COUNT. -/ def fCLK_STATUS_RING_COUNT : Fld := ⟨14, 0⟩
/-- CLK_ERR (20_clocks_boot.md R601). -/
def rCLK_ERR : Nat := 0x10008
/-- CLK_ERR.PLL_UNLOCK. -/ def fCLK_ERR_PLL_UNLOCK : Fld := ⟨4, 4⟩
/-- CLK_ERR.RING_RESTART. -/ def fCLK_ERR_RING_RESTART : Fld := ⟨3, 3⟩
/-- CLK_ERR.REF_SWITCH. -/ def fCLK_ERR_REF_SWITCH : Fld := ⟨2, 2⟩
/-- CLK_ERR.HOLDOVER. -/ def fCLK_ERR_HOLDOVER : Fld := ⟨1, 1⟩
/-- CLK_ERR.RING_FAIL. -/ def fCLK_ERR_RING_FAIL : Fld := ⟨0, 0⟩
/-- CLK_VOID (20_clocks_boot.md R601). -/
def rCLK_VOID : Nat := 0x1000c
/-- CLK_VOID.OVF. -/ def fCLK_VOID_OVF : Fld := ⟨31, 31⟩
/-- CLK_VOID.VOID_COUNT. -/ def fCLK_VOID_VOID_COUNT : Fld := ⟨15, 8⟩
/-- CLK_VOID.LAST_ATTEMPTS. -/ def fCLK_VOID_LAST_ATTEMPTS : Fld := ⟨3, 0⟩
/-- CLK_RING_PERIOD (20_clocks_boot.md R601). -/
def rCLK_RING_PERIOD : Nat := 0x10010
/-- CLK_RING_PERIOD.PS. -/ def fCLK_RING_PERIOD_PS : Fld := ⟨15, 0⟩
/-- Reset values and access masks of block CLK. -/
def rowsCLK : List RegRow := [
  ⟨0x0, 1, 0x0, 1, 0x0, 0x800000, 0xff0003, 0x0, 0x0, 0x0, 0xff0000⟩,
  ⟨0x4, 1, 0x0, 1, 0x0, 0x0, 0x0, 0x0, 0x0, 0x0, 0x0⟩,
  ⟨0x8, 1, 0x0, 1, 0x0, 0x0, 0x0, 0x1f, 0x0, 0x0, 0x0⟩,
  ⟨0xc, 1, 0x0, 1, 0x0, 0x0, 0x0, 0x80000000, 0x0, 0x0, 0x8000ff0f⟩,
  ⟨0x10, 1, 0x0, 1, 0x0, 0x0, 0x0, 0x0, 0x0, 0x0, 0x0⟩]
/-! Block RST at 0x20000. -/
/-- RST_CTRL (20_clocks_boot.md R601). -/
def rRST_CTRL : Nat := 0x20000
/-- RST_CTRL.KEY. -/ def fRST_CTRL_KEY : Fld := ⟨31, 24⟩
/-- RST_CTRL.FULL_TEST. -/ def fRST_CTRL_FULL_TEST : Fld := ⟨1, 1⟩
/-- RST_CTRL.WARM. -/ def fRST_CTRL_WARM : Fld := ⟨0, 0⟩
/-- RST_CAUSE (20_clocks_boot.md R601). -/
def rRST_CAUSE : Nat := 0x20004
/-- RST_CAUSE.KIND. -/ def fRST_CAUSE_KIND : Fld := ⟨31, 29⟩
/-- RST_CAUSE.SOURCE. -/ def fRST_CAUSE_SOURCE : Fld := ⟨28, 26⟩
/-- RST_BLOCK (20_clocks_boot.md R601). -/
def rRST_BLOCK : Nat := 0x20008
/-- RST_BLOCK.BUSY. -/ def fRST_BLOCK_BUSY : Fld := ⟨31, 31⟩
/-- RST_BLOCK.GO. -/ def fRST_BLOCK_GO : Fld := ⟨30, 30⟩
/-- RST_BLOCK.RESULT. -/ def fRST_BLOCK_RESULT : Fld := ⟨29, 27⟩
/-- RST_BLOCK.KIND. -/ def fRST_BLOCK_KIND : Fld := ⟨26, 24⟩
/-- RST_BLOCK.INDEX. -/ def fRST_BLOCK_INDEX : Fld := ⟨5, 0⟩
/-- RST_XDROP (20_clocks_boot.md R601). -/
def rRST_XDROP (i : Nat) : Nat := 0x20400 + 0x4 * i
/-- Reset values and access masks of block RST. -/
def rowsRST : List RegRow := [
  ⟨0x0, 1, 0x0, 1, 0x0, 0x0, 0x0, 0x0, 0x0, 0xff000003, 0x0⟩,
  ⟨0x4, 1, 0x0, 1, 0x0, 0x0, 0x0, 0x0, 0x0, 0x0, 0x0⟩,
  ⟨0x8, 1, 0x0, 1, 0x0, 0x0, 0x700003f, 0x0, 0x40000000, 0x0, 0x0⟩,
  ⟨0x400, 165, 0x4, 1, 0x0, 0x0, 0x0, 0x80000000, 0x0, 0x0, 0x0⟩]
/-! Block BOOT at 0x30000. -/
/-- BOOT_STATUS (20_clocks_boot.md R602). -/
def rBOOT_STATUS : Nat := 0x30000
/-- BOOT_STATUS.STATE. -/ def fBOOT_STATUS_STATE : Fld := ⟨31, 28⟩
/-- BOOT_STATUS.COPY. -/ def fBOOT_STATUS_COPY : Fld := ⟨27, 27⟩
/-- BOOT_STATUS.FULL. -/ def fBOOT_STATUS_FULL : Fld := ⟨26, 26⟩
/-- BOOT_STATUS.A_VALID. -/ def fBOOT_STATUS_A_VALID : Fld := ⟨25, 25⟩
/-- BOOT_STATUS.B_VALID. -/ def fBOOT_STATUS_B_VALID : Fld := ⟨24, 24⟩
/-- BOOT_ERR (20_clocks_boot.md R602). -/
def rBOOT_ERR : Nat := 0x30004
/-- BOOT_ERR.FW_TIMEOUT. -/ def fBOOT_ERR_FW_TIMEOUT : Fld := ⟨6, 6⟩
/-- BOOT_ERR.DRAM_LIMITED. -/ def fBOOT_ERR_DRAM_LIMITED : Fld := ⟨5, 5⟩
/-- BOOT_ERR.ED_REFUSED. -/ def fBOOT_ERR_ED_REFUSED : Fld := ⟨4, 4⟩
/-- BOOT_ERR.SET_REFUSED. -/ def fBOOT_ERR_SET_REFUSED : Fld := ⟨3, 3⟩
/-- BOOT_ERR.MEM_FAIL. -/ def fBOOT_ERR_MEM_FAIL : Fld := ⟨2, 2⟩
/-- BOOT_ERR.B_BAD. -/ def fBOOT_ERR_B_BAD : Fld := ⟨1, 1⟩
/-- BOOT_ERR.A_BAD. -/ def fBOOT_ERR_A_BAD : Fld := ⟨0, 0⟩
/-- BOOT_TIME (20_clocks_boot.md R602). -/
def rBOOT_TIME : Nat := 0x30008
/-- BOOT_TIME.MS. -/ def fBOOT_TIME_MS : Fld := ⟨15, 0⟩
/-- BOOT_CTRL (20_clocks_boot.md R602). -/
def rBOOT_CTRL : Nat := 0x3000c
/-- BOOT_CTRL.FORCE. -/ def fBOOT_CTRL_FORCE : Fld := ⟨31, 31⟩
/-- BOOT_CTRL.FORCE_COPY. -/ def fBOOT_CTRL_FORCE_COPY : Fld := ⟨30, 30⟩
/-- BOOT_CTRL.FULL_NEXT. -/ def fBOOT_CTRL_FULL_NEXT : Fld := ⟨29, 29⟩
/-- BOOT_CTRL.FW_LIMIT. -/ def fBOOT_CTRL_FW_LIMIT : Fld := ⟨15, 0⟩
/-- BOOT_SEQ_LO (20_clocks_boot.md R602). -/
def rBOOT_SEQ_LO : Nat := 0x30010
/-- BOOT_SEQ_HI (20_clocks_boot.md R602). -/
def rBOOT_SEQ_HI : Nat := 0x30014
/-- BOOT_FLASH_CMD (20_clocks_boot.md R602). -/
def rBOOT_FLASH_CMD : Nat := 0x30020
/-- BOOT_FLASH_CMD.BUSY. -/ def fBOOT_FLASH_CMD_BUSY : Fld := ⟨31, 31⟩
/-- BOOT_FLASH_CMD.GO. -/ def fBOOT_FLASH_CMD_GO : Fld := ⟨30, 30⟩
/-- BOOT_FLASH_CMD.OP. -/ def fBOOT_FLASH_CMD_OP : Fld := ⟨29, 28⟩
/-- BOOT_FLASH_CMD.RESULT. -/ def fBOOT_FLASH_CMD_RESULT : Fld := ⟨27, 25⟩
/-- BOOT_FLASH_CMD.LEN. -/ def fBOOT_FLASH_CMD_LEN : Fld := ⟨8, 0⟩
/-- BOOT_FLASH_ADDR (20_clocks_boot.md R602). -/
def rBOOT_FLASH_ADDR : Nat := 0x30024
/-- BOOT_FLASH_DATA (20_clocks_boot.md R602). -/
def rBOOT_FLASH_DATA (i : Nat) : Nat := 0x30100 + 0x4 * i
/-- Reset values and access masks of block BOOT. -/
def rowsBOOT : List RegRow := [
  ⟨0x0, 1, 0x0, 1, 0x0, 0x0, 0x0, 0x0, 0x0, 0x0, 0x0⟩,
  ⟨0x4, 1, 0x0, 1, 0x0, 0x0, 0x0, 0x7f, 0x0, 0x0, 0x0⟩,
  ⟨0x8, 1, 0x0, 1, 0x0, 0x0, 0x0, 0x0, 0x0, 0x0, 0x0⟩,
  ⟨0xc, 1, 0x0, 1, 0x0, 0x7d0, 0xe000ffff, 0x0, 0x0, 0x0, 0xe000ffff⟩,
  ⟨0x10, 1, 0x0, 1, 0x0, 0x0, 0x0, 0x0, 0x0, 0x0, 0x0⟩,
  ⟨0x14, 1, 0x0, 1, 0x0, 0x0, 0x0, 0x0, 0x0, 0x0, 0x0⟩,
  ⟨0x20, 1, 0x0, 1, 0x0, 0x0, 0x300001ff, 0x0, 0x40000000, 0x0, 0x0⟩,
  ⟨0x24, 1, 0x0, 1, 0x0, 0x0, 0xffffffff, 0x0, 0x0, 0x0, 0x0⟩,
  ⟨0x100, 64, 0x4, 1, 0x0, 0x0, 0xffffffff, 0x0, 0x0, 0x0, 0x0⟩]
/-! Block MBX at 0x40000. -/
/-- MBX_DOORBELL (19_gellen.md R564). -/
def rMBX_DOORBELL (b : Nat) : Nat := 0x40000 + 0x1000 * b
/-- MBX_DOORBELL.GO. -/ def fMBX_DOORBELL_GO : Fld := ⟨31, 31⟩
/-- MBX_DOORBELL.REQ_LEN. -/ def fMBX_DOORBELL_REQ_LEN : Fld := ⟨26, 16⟩
/-- MBX_DOORBELL.CODE. -/ def fMBX_DOORBELL_CODE : Fld := ⟨15, 0⟩
/-- MBX_STATUS (19_gellen.md R564). -/
def rMBX_STATUS (b : Nat) : Nat := 0x40004 + 0x1000 * b
/-- MBX_STATUS.STATE. -/ def fMBX_STATUS_STATE : Fld := ⟨31, 30⟩
/-- MBX_STATUS.LOST. -/ def fMBX_STATUS_LOST : Fld := ⟨29, 29⟩
/-- MBX_STATUS.RESP_LEN. -/ def fMBX_STATUS_RESP_LEN : Fld := ⟨27, 16⟩
/-- MBX_STATUS.RESULT. -/ def fMBX_STATUS_RESULT : Fld := ⟨15, 0⟩
/-- MBX_INFO (19_gellen.md R564). -/
def rMBX_INFO (b : Nat) : Nat := 0x40008 + 0x1000 * b
/-- MBX_INFO.SEQ. -/ def fMBX_INFO_SEQ : Fld := ⟨31, 16⟩
/-- MBX_INFO.ASSIGNED. -/ def fMBX_INFO_ASSIGNED : Fld := ⟨5, 5⟩
/-- MBX_INFO.CALLER. -/ def fMBX_INFO_CALLER : Fld := ⟨4, 0⟩
/-- MBX_CTRL (19_gellen.md R564). -/
def rMBX_CTRL (b : Nat) : Nat := 0x4000c + 0x1000 * b
/-- MBX_CTRL.DONE_MSG. -/ def fMBX_CTRL_DONE_MSG : Fld := ⟨0, 0⟩
/-- Reset values and access masks of block MBX. -/
def rowsMBX : List RegRow := [
  ⟨0x0, 1, 0x0, 1, 0x0, 0x0, 0x7ffffff, 0x0, 0x80000000, 0x0, 0x0⟩,
  ⟨0x4, 1, 0x0, 1, 0x0, 0x0, 0x0, 0x20000000, 0x0, 0x0, 0x0⟩,
  ⟨0x8, 1, 0x0, 1, 0x0, 0x1f, 0x0, 0x0, 0x0, 0x0, 0x0⟩,
  ⟨0xc, 1, 0x0, 1, 0x0, 0x0, 0x1, 0x0, 0x0, 0x0, 0x0⟩]
/-! Block GLK at 0x80000. -/
/-- GLK_CTRL (19_gellen.md R577). -/
def rGLK_CTRL : Nat := 0x80000
/-- GLK_CTRL.REPLAY_TIMEOUT. -/ def fGLK_CTRL_REPLAY_TIMEOUT : Fld := ⟨15, 8⟩
/-- GLK_CTRL.ALERT_DUP. -/ def fGLK_CTRL_ALERT_DUP : Fld := ⟨3, 3⟩
/-- GLK_CTRL.HB_EN. -/ def fGLK_CTRL_HB_EN : Fld := ⟨1, 1⟩
/-- GLK_CTRL.HA_EN. -/ def fGLK_CTRL_HA_EN : Fld := ⟨0, 0⟩
/-- GLK_STATUS (19_gellen.md R577). -/
def rGLK_STATUS : Nat := 0x80004
/-- GLK_STATUS.HA_STATE. -/ def fGLK_STATUS_HA_STATE : Fld := ⟨31, 29⟩
/-- GLK_STATUS.HB_STATE. -/ def fGLK_STATUS_HB_STATE : Fld := ⟨28, 26⟩
/-- GLK_STATUS.FREQ_ACKED. -/ def fGLK_STATUS_FREQ_ACKED : Fld := ⟨25, 25⟩
/-- GLK_STATUS.ALERT_PEND. -/ def fGLK_STATUS_ALERT_PEND : Fld := ⟨24, 24⟩
/-- GLK_STATUS.LANE_INV. -/ def fGLK_STATUS_LANE_INV : Fld := ⟨23, 16⟩
/-- GLK_ERR (19_gellen.md R577). -/
def rGLK_ERR : Nat := 0x80008
/-- GLK_ERR.PORT_SWAP. -/ def fGLK_ERR_PORT_SWAP : Fld := ⟨10, 10⟩
/-- GLK_ERR.RING_FAULT. -/ def fGLK_ERR_RING_FAULT : Fld := ⟨9, 9⟩
/-- GLK_ERR.RING_DROP. -/ def fGLK_ERR_RING_DROP : Fld := ⟨8, 8⟩
/-- GLK_ERR.FREQ_NOACK. -/ def fGLK_ERR_FREQ_NOACK : Fld := ⟨7, 7⟩
/-- GLK_ERR.ALERT_LOST. -/ def fGLK_ERR_ALERT_LOST : Fld := ⟨6, 6⟩
/-- GLK_ERR.UNMAPPED. -/ def fGLK_ERR_UNMAPPED : Fld := ⟨5, 5⟩
/-- GLK_ERR.VIOLATION. -/ def fGLK_ERR_VIOLATION : Fld := ⟨4, 4⟩
/-- GLK_ERR.BAD_REQ. -/ def fGLK_ERR_BAD_REQ : Fld := ⟨3, 3⟩
/-- GLK_ERR.REPLAY_FAIL. -/ def fGLK_ERR_REPLAY_FAIL : Fld := ⟨2, 2⟩
/-- GLK_ERR.CRC. -/ def fGLK_ERR_CRC : Fld := ⟨1, 1⟩
/-- GLK_ERR.LINK_DOWN. -/ def fGLK_ERR_LINK_DOWN : Fld := ⟨0, 0⟩
/-- GLK_ALERT_SEQ (19_gellen.md R577). -/
def rGLK_ALERT_SEQ : Nat := 0x80010
/-- GLK_ALERT_SEQ.SEQ. -/ def fGLK_ALERT_SEQ_SEQ : Fld := ⟨15, 0⟩
/-- GLK_ALERT_ACK (19_gellen.md R577). -/
def rGLK_ALERT_ACK : Nat := 0x80014
/-- GLK_ALERT_ACK.SEQ. -/ def fGLK_ALERT_ACK_SEQ : Fld := ⟨15, 0⟩
/-- GLK_ALERT_MASK (19_gellen.md R577). -/
def rGLK_ALERT_MASK : Nat := 0x80018
/-- GLK_ALERT_SEL (19_gellen.md R577). -/
def rGLK_ALERT_SEL : Nat := 0x80020
/-- GLK_ALERT_SEL.GO. -/ def fGLK_ALERT_SEL_GO : Fld := ⟨31, 31⟩
/-- GLK_ALERT_SEL.ENTRY. -/ def fGLK_ALERT_SEL_ENTRY : Fld := ⟨7, 0⟩
/-- GLK_ALERT_DATA (19_gellen.md R577). -/
def rGLK_ALERT_DATA (i : Nat) : Nat := 0x80024 + 0x4 * i
/-- GLK_VIOL_POP (19_gellen.md R577). -/
def rGLK_VIOL_POP : Nat := 0x80060
/-- GLK_VIOL_POP.POP. -/ def fGLK_VIOL_POP_POP : Fld := ⟨0, 0⟩
/-- GLK_VIOL_DATA (19_gellen.md R577). -/
def rGLK_VIOL_DATA (i : Nat) : Nat := 0x80064 + 0x4 * i
/-- GLK_VIOL_CNT (19_gellen.md R578). -/
def rGLK_VIOL_CNT (i : Nat) : Nat := 0x80080 + 0x4 * i
/-- GLK_MBX_OWNER (19_gellen.md R577). -/
def rGLK_MBX_OWNER (i : Nat) : Nat := 0x800c0 + 0x4 * i
/-- GLK_CNT (19_gellen.md R578). -/
def rGLK_CNT (i : Nat) : Nat := 0x80100 + 0x4 * i
/-- GLK_RING_CTRL (19_gellen.md R577). -/
def rGLK_RING_CTRL (i : Nat) : Nat := 0x81000 + 0x40 * i
/-- GLK_RING_CTRL.EN. -/ def fGLK_RING_CTRL_EN : Fld := ⟨31, 31⟩
/-- GLK_RING_CTRL.PORT. -/ def fGLK_RING_CTRL_PORT : Fld := ⟨30, 30⟩
/-- GLK_RING_CTRL.FAILOVER. -/ def fGLK_RING_CTRL_FAILOVER : Fld := ⟨29, 29⟩
/-- GLK_RING_CTRL.STOPPED. -/ def fGLK_RING_CTRL_STOPPED : Fld := ⟨28, 28⟩
/-- GLK_RING_CTRL.SIZE_LOG2. -/ def fGLK_RING_CTRL_SIZE_LOG2 : Fld := ⟨20, 16⟩
/-- GLK_RING_BASE_LO (19_gellen.md R577). -/
def rGLK_RING_BASE_LO (i : Nat) : Nat := 0x81004 + 0x40 * i
/-- GLK_RING_BASE_HI (19_gellen.md R577). -/
def rGLK_RING_BASE_HI (i : Nat) : Nat := 0x81008 + 0x40 * i
/-- GLK_RING_HEAD (19_gellen.md R577). -/
def rGLK_RING_HEAD (i : Nat) : Nat := 0x8100c + 0x40 * i
/-- GLK_RING_HEAD.HEAD. -/ def fGLK_RING_HEAD_HEAD : Fld := ⟨15, 0⟩
/-- GLK_RING_TAIL (19_gellen.md R577). -/
def rGLK_RING_TAIL (i : Nat) : Nat := 0x81010 + 0x40 * i
/-- GLK_RING_TAIL.TAIL. -/ def fGLK_RING_TAIL_TAIL : Fld := ⟨15, 0⟩
/-- GLK_RING_COAL (19_gellen.md R577). -/
def rGLK_RING_COAL (i : Nat) : Nat := 0x81014 + 0x40 * i
/-- GLK_RING_COAL.COUNT. -/ def fGLK_RING_COAL_COUNT : Fld := ⟨31, 16⟩
/-- GLK_RING_COAL.TIME. -/ def fGLK_RING_COAL_TIME : Fld := ⟨15, 0⟩
/-- GLK_RING_DROP (19_gellen.md R578). -/
def rGLK_RING_DROP (i : Nat) : Nat := 0x81018 + 0x40 * i
/-- GLK_LANE_CTRL (19_gellen.md R548). -/
def rLANE_CTRL (b : Nat) : Nat := b + 0x0
/-- LANE_CTRL.TX_INVERT. -/ def fLANE_CTRL_TX_INVERT : Fld := ⟨8, 8⟩
/-- LANE_CTRL.RX_POL_AUTO. -/ def fLANE_CTRL_RX_POL_AUTO : Fld := ⟨7, 7⟩
/-- LANE_CTRL.RX_INVERT. -/ def fLANE_CTRL_RX_INVERT : Fld := ⟨6, 6⟩
/-- LANE_CTRL.LOOPBACK. -/ def fLANE_CTRL_LOOPBACK : Fld := ⟨5, 4⟩
/-- LANE_CTRL.PRECODE_TX. -/ def fLANE_CTRL_PRECODE_TX : Fld := ⟨3, 3⟩
/-- LANE_CTRL.PRECODE_RX. -/ def fLANE_CTRL_PRECODE_RX : Fld := ⟨2, 2⟩
/-- LANE_CTRL.TX_EN. -/ def fLANE_CTRL_TX_EN : Fld := ⟨1, 1⟩
/-- LANE_CTRL.EN. -/ def fLANE_CTRL_EN : Fld := ⟨0, 0⟩
/-- GLK_LANE_STATUS (19_gellen.md R548). -/
def rLANE_STATUS (b : Nat) : Nat := b + 0x4
/-- LANE_STATUS.TRAIN_STATE. -/ def fLANE_STATUS_TRAIN_STATE : Fld := ⟨31, 29⟩
/-- LANE_STATUS.RX_POL_DETECTED. -/ def fLANE_STATUS_RX_POL_DETECTED : Fld := ⟨28, 28⟩
/-- LANE_STATUS.FAR_PRESENT. -/ def fLANE_STATUS_FAR_PRESENT : Fld := ⟨27, 27⟩
/-- LANE_STATUS.RX_SIGNAL. -/ def fLANE_STATUS_RX_SIGNAL : Fld := ⟨26, 26⟩
/-- LANE_STATUS.CDR_LOCK. -/ def fLANE_STATUS_CDR_LOCK : Fld := ⟨25, 25⟩
/-- LANE_STATUS.ADAPT_DONE. -/ def fLANE_STATUS_ADAPT_DONE : Fld := ⟨24, 24⟩
/-- LANE_STATUS.PAT_LOCK. -/ def fLANE_STATUS_PAT_LOCK : Fld := ⟨23, 23⟩
/-- LANE_STATUS.FAR_LANE. -/ def fLANE_STATUS_FAR_LANE : Fld := ⟨22, 17⟩
/-- LANE_STATUS.SLIP_BUSY. -/ def fLANE_STATUS_SLIP_BUSY : Fld := ⟨16, 16⟩
/-- GLK_LANE_TXFFE (19_gellen.md R548). -/
def rLANE_TXFFE (b : Nat) : Nat := b + 0x8
/-- LANE_TXFFE.CM3. -/ def fLANE_TXFFE_CM3 : Fld := ⟨26, 23⟩
/-- LANE_TXFFE.CM2. -/ def fLANE_TXFFE_CM2 : Fld := ⟨22, 18⟩
/-- LANE_TXFFE.CM1. -/ def fLANE_TXFFE_CM1 : Fld := ⟨17, 12⟩
/-- LANE_TXFFE.C0. -/ def fLANE_TXFFE_C0 : Fld := ⟨11, 6⟩
/-- LANE_TXFFE.C1. -/ def fLANE_TXFFE_C1 : Fld := ⟨5, 0⟩
/-- GLK_LANE_RXEQ (19_gellen.md R548). -/
def rLANE_RXEQ (b : Nat) : Nat := b + 0x10
/-- LANE_RXEQ.ADAPT_THR. -/ def fLANE_RXEQ_ADAPT_THR : Fld := ⟨21, 12⟩
/-- LANE_RXEQ.FREEZE. -/ def fLANE_RXEQ_FREEZE : Fld := ⟨5, 5⟩
/-- LANE_RXEQ.CTLE_MAN. -/ def fLANE_RXEQ_CTLE_MAN : Fld := ⟨4, 4⟩
/-- LANE_RXEQ.CTLE. -/ def fLANE_RXEQ_CTLE : Fld := ⟨3, 0⟩
/-- GLK_LANE_TRAIN_CTRL (19_gellen.md R548). -/
def rLANE_TRAIN_CTRL (b : Nat) : Nat := b + 0x18
/-- LANE_TRAIN_CTRL.RETRAIN. -/ def fLANE_TRAIN_CTRL_RETRAIN : Fld := ⟨15, 15⟩
/-- LANE_TRAIN_CTRL.AUTO_RETRAIN. -/ def fLANE_TRAIN_CTRL_AUTO_RETRAIN : Fld := ⟨14, 14⟩
/-- LANE_TRAIN_CTRL.INIT_PRESET. -/ def fLANE_TRAIN_CTRL_INIT_PRESET : Fld := ⟨13, 12⟩
/-- LANE_TRAIN_CTRL.TRAIN_TIME. -/ def fLANE_TRAIN_CTRL_TRAIN_TIME : Fld := ⟨9, 0⟩
/-- GLK_LANE_SLIP (19_gellen.md R548). -/
def rLANE_SLIP (b : Nat) : Nat := b + 0x20
/-- LANE_SLIP.SLIP. -/ def fLANE_SLIP_SLIP : Fld := ⟨0, 0⟩
/-- GLK_LANE_ESCAN_CTRL (19_gellen.md R548). -/
def rLANE_ESCAN_CTRL (b : Nat) : Nat := b + 0x24
/-- LANE_ESCAN_CTRL.DONE. -/ def fLANE_ESCAN_CTRL_DONE : Fld := ⟨31, 31⟩
/-- LANE_ESCAN_CTRL.START. -/ def fLANE_ESCAN_CTRL_START : Fld := ⟨30, 30⟩
/-- LANE_ESCAN_CTRL.DWELL. -/ def fLANE_ESCAN_CTRL_DWELL : Fld := ⟨29, 26⟩
/-- LANE_ESCAN_CTRL.EYE. -/ def fLANE_ESCAN_CTRL_EYE : Fld := ⟨25, 24⟩
/-- LANE_ESCAN_CTRL.VOFF. -/ def fLANE_ESCAN_CTRL_VOFF : Fld := ⟨23, 16⟩
/-- LANE_ESCAN_CTRL.HOFF. -/ def fLANE_ESCAN_CTRL_HOFF : Fld := ⟨5, 0⟩
/-- GLK_LANE_ESCAN_RES (19_gellen.md R548). -/
def rLANE_ESCAN_RES (b : Nat) : Nat := b + 0x28
/-- GLK_LANE_PAT_CTRL (19_gellen.md R548). -/
def rLANE_PAT_CTRL (b : Nat) : Nat := b + 0x30
/-- LANE_PAT_CTRL.CHK_EN. -/ def fLANE_PAT_CTRL_CHK_EN : Fld := ⟨5, 5⟩
/-- LANE_PAT_CTRL.GEN_EN. -/ def fLANE_PAT_CTRL_GEN_EN : Fld := ⟨4, 4⟩
/-- LANE_PAT_CTRL.PATTERN. -/ def fLANE_PAT_CTRL_PATTERN : Fld := ⟨3, 0⟩
/-- GLK_LANE_PAT_USER_LO (19_gellen.md R548). -/
def rLANE_PAT_USER_LO (b : Nat) : Nat := b + 0x34
/-- GLK_LANE_PAT_USER_HI (19_gellen.md R548). -/
def rLANE_PAT_USER_HI (b : Nat) : Nat := b + 0x38
/-- GLK_LANE_PAT_ERR (19_gellen.md R548). -/
def rLANE_PAT_ERR (b : Nat) : Nat := b + 0x3c
/-- GLK_LANE_ERR (19_gellen.md R548). -/
def rLANE_ERR (b : Nat) : Nat := b + 0x40
/-- LANE_ERR.TRAIN_TIMEOUT. -/ def fLANE_ERR_TRAIN_TIMEOUT : Fld := ⟨4, 4⟩
/-- LANE_ERR.NO_RESPONSE. -/ def fLANE_ERR_NO_RESPONSE : Fld := ⟨3, 3⟩
/-- LANE_ERR.TAP_BUSY. -/ def fLANE_ERR_TAP_BUSY : Fld := ⟨2, 2⟩
/-- LANE_ERR.TAP_RANGE. -/ def fLANE_ERR_TAP_RANGE : Fld := ⟨1, 1⟩
/-- LANE_ERR.RXDET_OPEN. -/ def fLANE_ERR_RXDET_OPEN : Fld := ⟨0, 0⟩
/-- GLK_LANE_RXTAP (19_gellen.md R548). -/
def rLANE_RXTAP (b : Nat) (i : Nat) : Nat := b + 0x80 + 0x4 * i
/-- LANE_RXTAP.TAP. -/ def fLANE_RXTAP_TAP : Fld := ⟨7, 0⟩
/-- Reset values and access masks of block GLK. -/
def rowsGLK : List RegRow := [
  ⟨0x0, 1, 0x0, 1, 0x0, 0xa0b, 0xff0b, 0x0, 0x0, 0x0, 0x0⟩,
  ⟨0x4, 1, 0x0, 1, 0x0, 0x24000000, 0x0, 0x0, 0x0, 0x0, 0x0⟩,
  ⟨0x8, 1, 0x0, 1, 0x0, 0x0, 0x0, 0x7ff, 0x0, 0x0, 0x0⟩,
  ⟨0x10, 1, 0x0, 1, 0x0, 0x0, 0x0, 0x0, 0x0, 0x0, 0x0⟩,
  ⟨0x14, 1, 0x0, 1, 0x0, 0x0, 0xffff, 0x0, 0x0, 0x0, 0x0⟩,
  ⟨0x18, 1, 0x0, 1, 0x0, 0x0, 0xffffffff, 0x0, 0x0, 0x0, 0x0⟩,
  ⟨0x20, 1, 0x0, 1, 0x0, 0x0, 0xff, 0x0, 0x80000000, 0x0, 0x0⟩,
  ⟨0x24, 10, 0x4, 1, 0x0, 0x0, 0x0, 0x0, 0x0, 0x0, 0x0⟩,
  ⟨0x60, 1, 0x0, 1, 0x0, 0x0, 0x0, 0x0, 0x0, 0x1, 0x0⟩,
  ⟨0x64, 4, 0x4, 1, 0x0, 0x0, 0x0, 0x0, 0x0, 0x0, 0x0⟩,
  ⟨0x80, 16, 0x4, 1, 0x0, 0x0, 0x0, 0x80000000, 0x0, 0x0, 0x0⟩,
  ⟨0xc0, 16, 0x4, 1, 0x0, 0x0, 0xffffffff, 0x0, 0x0, 0x0, 0x0⟩,
  ⟨0x100, 10, 0x4, 1, 0x0, 0x0, 0x0, 0x80000000, 0x0, 0x0, 0x0⟩,
  ⟨0x1000, 24, 0x40, 1, 0x0, 0x200a0000, 0xe01f0000, 0x0, 0x0, 0x0, 0x0⟩,
  ⟨0x1004, 24, 0x40, 1, 0x0, 0x0, 0xffffffff, 0x0, 0x0, 0x0, 0x0⟩,
  ⟨0x1008, 24, 0x40, 1, 0x0, 0x0, 0xffffffff, 0x0, 0x0, 0x0, 0x0⟩,
  ⟨0x100c, 24, 0x40, 1, 0x0, 0x0, 0x0, 0x0, 0x0, 0x0, 0x0⟩,
  ⟨0x1010, 24, 0x40, 1, 0x0, 0x0, 0xffff, 0x0, 0x0, 0x0, 0x0⟩,
  ⟨0x1014, 24, 0x40, 1, 0x0, 0x10008, 0xffffffff, 0x0, 0x0, 0x0, 0x0⟩,
  ⟨0x1018, 24, 0x40, 1, 0x0, 0x0, 0x0, 0x80000000, 0x0, 0x0, 0x0⟩,
  ⟨0x8000, 8, 0x1000, 1, 0x0, 0x83, 0x1ff, 0x0, 0x0, 0x0, 0x0⟩,
  ⟨0x8004, 8, 0x1000, 1, 0x0, 0x0, 0x0, 0x0, 0x0, 0x0, 0x0⟩,
  ⟨0x8008, 8, 0x1000, 1, 0x0, 0x3acfa, 0x7ffffff, 0x0, 0x0, 0x0, 0x0⟩,
  ⟨0x8010, 8, 0x1000, 1, 0x0, 0x40008, 0x3ff03f, 0x0, 0x0, 0x0, 0x0⟩,
  ⟨0x8018, 8, 0x1000, 1, 0x0, 0x51f4, 0x73ff, 0x0, 0x8000, 0x0, 0x0⟩,
  ⟨0x8020, 8, 0x1000, 1, 0x0, 0x0, 0x0, 0x0, 0x0, 0x1, 0x0⟩,
  ⟨0x8024, 8, 0x1000, 1, 0x0, 0x1000000, 0x3fff003f, 0x0, 0x40000000, 0x0, 0x0⟩,
  ⟨0x8028, 8, 0x1000, 1, 0x0, 0x0, 0x0, 0x0, 0x0, 0x0, 0x0⟩,
  ⟨0x8030, 8, 0x1000, 1, 0x0, 0x0, 0x3f, 0x0, 0x0, 0x0, 0x0⟩,
  ⟨0x8034, 8, 0x1000, 1, 0x0, 0x0, 0xffffffff, 0x0, 0x0, 0x0, 0x0⟩,
  ⟨0x8038, 8, 0x1000, 1, 0x0, 0x0, 0xffffffff, 0x0, 0x0, 0x0, 0x0⟩,
  ⟨0x803c, 8, 0x1000, 1, 0x0, 0x0, 0x0, 0x80000000, 0x0, 0x0, 0x0⟩,
  ⟨0x8040, 8, 0x1000, 1, 0x0, 0x0, 0x0, 0x1f, 0x0, 0x0, 0x0⟩,
  ⟨0x8080, 8, 0x1000, 16, 0x4, 0x0, 0x0, 0x0, 0x0, 0x0, 0x0⟩]
/-! Block ALM at 0x90000. -/
/-- ALM_CTRL (18_almanac.md R542). -/
def rALM_CTRL : Nat := 0x90000
/-- ALM_CTRL.LOCK_COUNT. -/ def fALM_CTRL_LOCK_COUNT : Fld := ⟨23, 16⟩
/-- ALM_CTRL.STEP_THR. -/ def fALM_CTRL_STEP_THR : Fld := ⟨15, 8⟩
/-- ALM_CTRL.TOD_EN. -/ def fALM_CTRL_TOD_EN : Fld := ⟨1, 1⟩
/-- ALM_CTRL.STEP_EN. -/ def fALM_CTRL_STEP_EN : Fld := ⟨0, 0⟩
/-- ALM_STATUS (18_almanac.md R542). -/
def rALM_STATUS : Nat := 0x90004
/-- ALM_STATUS.STATE. -/ def fALM_STATUS_STATE : Fld := ⟨31, 30⟩
/-- ALM_STATUS.TIME_OK. -/ def fALM_STATUS_TIME_OK : Fld := ⟨29, 29⟩
/-- ALM_STATUS.SRC_ACTIVE. -/ def fALM_STATUS_SRC_ACTIVE : Fld := ⟨28, 28⟩
/-- ALM_STATUS.HOLD_SEC. -/ def fALM_STATUS_HOLD_SEC : Fld := ⟨15, 0⟩
/-- ALM_ERR (18_almanac.md R542). -/
def rALM_ERR : Nat := 0x90008
/-- ALM_ERR.STEP_BLOCKED. -/ def fALM_ERR_STEP_BLOCKED : Fld := ⟨6, 6⟩
/-- ALM_ERR.MEAS_REFUSED. -/ def fALM_ERR_MEAS_REFUSED : Fld := ⟨5, 5⟩
/-- ALM_ERR.HOST_CLK_LOST. -/ def fALM_ERR_HOST_CLK_LOST : Fld := ⟨4, 4⟩
/-- ALM_ERR.PIN_OVF. -/ def fALM_ERR_PIN_OVF : Fld := ⟨3, 3⟩
/-- ALM_ERR.PULSE_LATE. -/ def fALM_ERR_PULSE_LATE : Fld := ⟨2, 2⟩
/-- ALM_ERR.OUTLIER. -/ def fALM_ERR_OUTLIER : Fld := ⟨1, 1⟩
/-- ALM_ERR.SOURCE_LOST. -/ def fALM_ERR_SOURCE_LOST : Fld := ⟨0, 0⟩
/-- ALM_LATCH (18_almanac.md R542). -/
def rALM_LATCH : Nat := 0x9000c
/-- ALM_LATCH.LATCH. -/ def fALM_LATCH_LATCH : Fld := ⟨0, 0⟩
/-- ALM_TIME_SEC_LO (18_almanac.md R542). -/
def rALM_TIME_SEC_LO : Nat := 0x90010
/-- ALM_TIME_SEC_HI (18_almanac.md R542). -/
def rALM_TIME_SEC_HI : Nat := 0x90014
/-- ALM_TIME_SEC_HI.HI. -/ def fALM_TIME_SEC_HI_HI : Fld := ⟨15, 0⟩
/-- ALM_TIME_NS (18_almanac.md R542). -/
def rALM_TIME_NS : Nat := 0x90018
/-- ALM_TIME_FRAC (18_almanac.md R542). -/
def rALM_TIME_FRAC : Nat := 0x9001c
/-- ALM_TIME_FRAC.FRAC. -/ def fALM_TIME_FRAC_FRAC : Fld := ⟨15, 0⟩
/-- ALM_SRC (18_almanac.md R542). -/
def rALM_SRC : Nat := 0x90020
/-- ALM_SRC.KIND. -/ def fALM_SRC_KIND : Fld := ⟨31, 29⟩
/-- ALM_SRC.INDEX. -/ def fALM_SRC_INDEX : Fld := ⟨5, 0⟩
/-- ALM_SERVO (18_almanac.md R542). -/
def rALM_SERVO : Nat := 0x90024
/-- ALM_SERVO.KP. -/ def fALM_SERVO_KP : Fld := ⟨31, 16⟩
/-- ALM_SERVO.KI. -/ def fALM_SERVO_KI : Fld := ⟨15, 0⟩
/-- ALM_LIMITS (18_almanac.md R542). -/
def rALM_LIMITS : Nat := 0x90028
/-- ALM_LIMITS.FREQ_LIMIT. -/ def fALM_LIMITS_FREQ_LIMIT : Fld := ⟨31, 16⟩
/-- ALM_LIMITS.SLEW. -/ def fALM_LIMITS_SLEW : Fld := ⟨15, 0⟩
/-- ALM_THR (18_almanac.md R542). -/
def rALM_THR : Nat := 0x9002c
/-- ALM_THR.LOCK_THR. -/ def fALM_THR_LOCK_THR : Fld := ⟨31, 16⟩
/-- ALM_THR.UNLOCK_THR. -/ def fALM_THR_UNLOCK_THR : Fld := ⟨15, 0⟩
/-- ALM_HOLD (18_almanac.md R542). -/
def rALM_HOLD : Nat := 0x90030
/-- ALM_HOLD.HOLD_QUAL. -/ def fALM_HOLD_HOLD_QUAL : Fld := ⟨31, 16⟩
/-- ALM_HOLD.SRC_TIMEOUT. -/ def fALM_HOLD_SRC_TIMEOUT : Fld := ⟨15, 0⟩
/-- ALM_FREQ (18_almanac.md R542). -/
def rALM_FREQ : Nat := 0x90034
/-- ALM_OFFSET (18_almanac.md R542). -/
def rALM_OFFSET : Nat := 0x90038
/-- ALM_MEAS_LO (18_almanac.md R542). -/
def rALM_MEAS_LO : Nat := 0x9003c
/-- ALM_PIN_CTRL (18_almanac.md R542). -/
def rALM_PIN_CTRL : Nat := 0x90040
/-- ALM_PIN_CTRL.EN. -/ def fALM_PIN_CTRL_EN : Fld := ⟨31, 31⟩
/-- ALM_PIN_CTRL.POL. -/ def fALM_PIN_CTRL_POL : Fld := ⟨30, 30⟩
/-- ALM_PIN_CTRL.POP. -/ def fALM_PIN_CTRL_POP : Fld := ⟨29, 29⟩
/-- ALM_PIN_CTRL.DEPTH. -/ def fALM_PIN_CTRL_DEPTH : Fld := ⟨28, 24⟩
/-- ALM_PIN_CTRL.DELAY. -/ def fALM_PIN_CTRL_DELAY : Fld := ⟨15, 0⟩
/-- ALM_PIN_SEC_LO (18_almanac.md R542). -/
def rALM_PIN_SEC_LO : Nat := 0x90044
/-- ALM_PIN_NS (18_almanac.md R542). -/
def rALM_PIN_NS : Nat := 0x90048
/-- ALM_PIN_SEC_HI (18_almanac.md R542). -/
def rALM_PIN_SEC_HI : Nat := 0x9004c
/-- ALM_PIN_SEC_HI.VALID. -/ def fALM_PIN_SEC_HI_VALID : Fld := ⟨31, 31⟩
/-- ALM_PIN_SEC_HI.HI. -/ def fALM_PIN_SEC_HI_HI : Fld := ⟨15, 0⟩
/-- ALM_MEAS_HI (18_almanac.md R542). -/
def rALM_MEAS_HI : Nat := 0x90050
/-- ALM_RADIO (18_almanac.md R542). -/
def rALM_RADIO : Nat := 0x90060
/-- ALM_RADIO.RF_OFFSET. -/ def fALM_RADIO_RF_OFFSET : Fld := ⟨23, 0⟩
/-- ALM_RADIO_STATUS (18_almanac.md R542). -/
def rALM_RADIO_STATUS : Nat := 0x90064
/-- ALM_RADIO_STATUS.SFN. -/ def fALM_RADIO_STATUS_SFN : Fld := ⟨25, 16⟩
/-- ALM_RADIO_STATUS.CYCLE_TICK. -/ def fALM_RADIO_STATUS_CYCLE_TICK : Fld := ⟨6, 0⟩
/-- ALM_TOD (18_almanac.md R542). -/
def rALM_TOD : Nat := 0x90068
/-- ALM_TOD.TOD_PERIOD. -/ def fALM_TOD_TOD_PERIOD : Fld := ⟨15, 0⟩
/-- ALM_SFN_ADJ (18_almanac.md R542). -/
def rALM_SFN_ADJ : Nat := 0x9006c
/-- ALM_SFN_ADJ.ADJ. -/ def fALM_SFN_ADJ_ADJ : Fld := ⟨9, 0⟩
/-- ALM_PULSE_CTRL (18_almanac.md R542). -/
def rALM_PULSE_CTRL (i : Nat) : Nat := 0x90100 + 0x20 * i
/-- ALM_PULSE_CTRL.EN. -/ def fALM_PULSE_CTRL_EN : Fld := ⟨31, 31⟩
/-- ALM_PULSE_CTRL.MODE. -/ def fALM_PULSE_CTRL_MODE : Fld := ⟨30, 29⟩
/-- ALM_PULSE_CTRL.POL. -/ def fALM_PULSE_CTRL_POL : Fld := ⟨28, 28⟩
/-- ALM_PULSE_CTRL.SQUELCH. -/ def fALM_PULSE_CTRL_SQUELCH : Fld := ⟨27, 27⟩
/-- ALM_PULSE_CTRL.DELAY. -/ def fALM_PULSE_CTRL_DELAY : Fld := ⟨15, 0⟩
/-- ALM_PULSE_START_SEC_LO (18_almanac.md R542). -/
def rALM_PULSE_START_SEC_LO (i : Nat) : Nat := 0x90104 + 0x20 * i
/-- ALM_PULSE_START_SEC_HI (18_almanac.md R542). -/
def rALM_PULSE_START_SEC_HI (i : Nat) : Nat := 0x90108 + 0x20 * i
/-- ALM_PULSE_START_SEC_HI.HI. -/ def fALM_PULSE_START_SEC_HI_HI : Fld := ⟨15, 0⟩
/-- ALM_PULSE_START_NS (18_almanac.md R542). -/
def rALM_PULSE_START_NS (i : Nat) : Nat := 0x9010c + 0x20 * i
/-- ALM_PULSE_PERIOD (18_almanac.md R542). -/
def rALM_PULSE_PERIOD (i : Nat) : Nat := 0x90110 + 0x20 * i
/-- ALM_PULSE_WIDTH (18_almanac.md R542). -/
def rALM_PULSE_WIDTH (i : Nat) : Nat := 0x90114 + 0x20 * i
/-- ALM_PULSE_COUNT (18_almanac.md R542). -/
def rALM_PULSE_COUNT (i : Nat) : Nat := 0x90118 + 0x20 * i
/-- ALM_CNT (18_almanac.md R543). -/
def rALM_CNT (i : Nat) : Nat := 0x90200 + 0x4 * i
/-- Reset values and access masks of block ALM. -/
def rowsALM : List RegRow := [
  ⟨0x0, 1, 0x0, 1, 0x0, 0x100a03, 0xffff03, 0x0, 0x0, 0x0, 0x0⟩,
  ⟨0x4, 1, 0x0, 1, 0x0, 0x0, 0x0, 0x0, 0x0, 0x0, 0x0⟩,
  ⟨0x8, 1, 0x0, 1, 0x0, 0x0, 0x0, 0x7f, 0x0, 0x0, 0x0⟩,
  ⟨0xc, 1, 0x0, 1, 0x0, 0x0, 0x0, 0x0, 0x0, 0x1, 0x0⟩,
  ⟨0x10, 1, 0x0, 1, 0x0, 0x0, 0x0, 0x0, 0x0, 0x0, 0x0⟩,
  ⟨0x14, 1, 0x0, 1, 0x0, 0x0, 0x0, 0x0, 0x0, 0x0, 0x0⟩,
  ⟨0x18, 1, 0x0, 1, 0x0, 0x0, 0x0, 0x0, 0x0, 0x0, 0x0⟩,
  ⟨0x1c, 1, 0x0, 1, 0x0, 0x0, 0x0, 0x0, 0x0, 0x0, 0x0⟩,
  ⟨0x20, 1, 0x0, 1, 0x0, 0x0, 0xe000003f, 0x0, 0x0, 0x0, 0x0⟩,
  ⟨0x24, 1, 0x0, 1, 0x0, 0x1000040, 0xffffffff, 0x0, 0x0, 0x0, 0x0⟩,
  ⟨0x28, 1, 0x0, 1, 0x0, 0xc35007d0, 0xffffffff, 0x0, 0x0, 0x0, 0x0⟩,
  ⟨0x2c, 1, 0x0, 1, 0x0, 0x6403e8, 0xffffffff, 0x0, 0x0, 0x0, 0x0⟩,
  ⟨0x30, 1, 0x0, 1, 0x0, 0x5dc0, 0xffffffff, 0x0, 0x0, 0x0, 0x0⟩,
  ⟨0x34, 1, 0x0, 1, 0x0, 0x0, 0x0, 0x0, 0x0, 0x0, 0x0⟩,
  ⟨0x38, 1, 0x0, 1, 0x0, 0x0, 0x0, 0x0, 0x0, 0x0, 0x0⟩,
  ⟨0x3c, 1, 0x0, 1, 0x0, 0x0, 0x0, 0x0, 0x0, 0xffffffff, 0x0⟩,
  ⟨0x40, 1, 0x0, 1, 0x0, 0x0, 0xc000ffff, 0x0, 0x20000000, 0x0, 0x0⟩,
  ⟨0x44, 1, 0x0, 1, 0x0, 0x0, 0x0, 0x0, 0x0, 0x0, 0x0⟩,
  ⟨0x48, 1, 0x0, 1, 0x0, 0x0, 0x0, 0x0, 0x0, 0x0, 0x0⟩,
  ⟨0x4c, 1, 0x0, 1, 0x0, 0x0, 0x0, 0x0, 0x0, 0x0, 0x0⟩,
  ⟨0x50, 1, 0x0, 1, 0x0, 0x0, 0x0, 0x0, 0x0, 0xffffffff, 0x0⟩,
  ⟨0x60, 1, 0x0, 1, 0x0, 0x0, 0xffffff, 0x0, 0x0, 0x0, 0x0⟩,
  ⟨0x64, 1, 0x0, 1, 0x0, 0x0, 0x0, 0x0, 0x0, 0x0, 0x0⟩,
  ⟨0x68, 1, 0x0, 1, 0x0, 0x1f40, 0xffff, 0x0, 0x0, 0x0, 0x0⟩,
  ⟨0x6c, 1, 0x0, 1, 0x0, 0x0, 0x3ff, 0x0, 0x0, 0x0, 0x0⟩,
  ⟨0x100, 4, 0x20, 1, 0x0, 0x0, 0xf800ffff, 0x0, 0x0, 0x0, 0x0⟩,
  ⟨0x104, 4, 0x20, 1, 0x0, 0x0, 0xffffffff, 0x0, 0x0, 0x0, 0x0⟩,
  ⟨0x108, 4, 0x20, 1, 0x0, 0x0, 0xffff, 0x0, 0x0, 0x0, 0x0⟩,
  ⟨0x10c, 4, 0x20, 1, 0x0, 0x0, 0xffffffff, 0x0, 0x0, 0x0, 0x0⟩,
  ⟨0x110, 4, 0x20, 1, 0x0, 0x3b9aca00, 0xffffffff, 0x0, 0x0, 0x0, 0x0⟩,
  ⟨0x114, 4, 0x20, 1, 0x0, 0xf4240, 0xffffffff, 0x0, 0x0, 0x0, 0x0⟩,
  ⟨0x118, 4, 0x20, 1, 0x0, 0x0, 0xffffffff, 0x0, 0x0, 0x0, 0x0⟩,
  ⟨0x200, 5, 0x4, 1, 0x0, 0x0, 0x0, 0x80000000, 0x0, 0x0, 0x0⟩]
/-! Block CNT at 0xa0000. -/
/-- EVC_LO (21_counters_test.md R625). -/
def rEVC_LO (i : Nat) : Nat := 0xa0000 + 0x8 * i
/-- EVC_HI (21_counters_test.md R625). -/
def rEVC_HI (i : Nat) : Nat := 0xa0004 + 0x8 * i
/-- CNT_OVF (21_counters_test.md R625). -/
def rCNT_OVF (i : Nat) : Nat := 0xa8000 + 0x4 * i
/-- CNT_ERR (21_counters_test.md R625). -/
def rCNT_ERR : Nat := 0xa8200
/-- CNT_ERR.SMP_LOST. -/ def fCNT_ERR_SMP_LOST : Fld := ⟨2, 2⟩
/-- CNT_ERR.SMP_CFG. -/ def fCNT_ERR_SMP_CFG : Fld := ⟨1, 1⟩
/-- CNT_ERR.CFG_BAD. -/ def fCNT_ERR_CFG_BAD : Fld := ⟨0, 0⟩
/-- CNT_CLEAR (21_counters_test.md R625). -/
def rCNT_CLEAR : Nat := 0xa8204
/-- CNT_CLEAR.GO. -/ def fCNT_CLEAR_GO : Fld := ⟨31, 31⟩
/-- CNT_CLEAR.LAST. -/ def fCNT_CLEAR_LAST : Fld := ⟨27, 16⟩
/-- CNT_CLEAR.FIRST. -/ def fCNT_CLEAR_FIRST : Fld := ⟨11, 0⟩
/-- CNT_FLT_CTRL (21_counters_test.md R625). -/
def rCNT_FLT_CTRL (i : Nat) : Nat := 0xa8400 + 0x20 * i
/-- CNT_FLT_CTRL.ADDR_EN. -/ def fCNT_FLT_CTRL_ADDR_EN : Fld := ⟨31, 31⟩
/-- CNT_FLT_CTRL.REQ_EN. -/ def fCNT_FLT_CTRL_REQ_EN : Fld := ⟨30, 30⟩
/-- CNT_FLT_CTRL.REQ. -/ def fCNT_FLT_CTRL_REQ : Fld := ⟨29, 25⟩
/-- CNT_FLT_CTRL.PRIV. -/ def fCNT_FLT_CTRL_PRIV : Fld := ⟨24, 23⟩
/-- CNT_FLT_CTRL.TC. -/ def fCNT_FLT_CTRL_TC : Fld := ⟨7, 0⟩
/-- CNT_FLT_ALO_LO (21_counters_test.md R625). -/
def rCNT_FLT_ALO_LO (i : Nat) : Nat := 0xa8408 + 0x20 * i
/-- CNT_FLT_ALO_HI (21_counters_test.md R625). -/
def rCNT_FLT_ALO_HI (i : Nat) : Nat := 0xa840c + 0x20 * i
/-- CNT_FLT_AHI_LO (21_counters_test.md R625). -/
def rCNT_FLT_AHI_LO (i : Nat) : Nat := 0xa8410 + 0x20 * i
/-- CNT_FLT_AHI_HI (21_counters_test.md R625). -/
def rCNT_FLT_AHI_HI (i : Nat) : Nat := 0xa8414 + 0x20 * i
/-- CNT_SMP_CTRL (21_counters_test.md R625). -/
def rCNT_SMP_CTRL (i : Nat) : Nat := 0xa9000 + 0x40 * i
/-- CNT_SMP_CTRL.EN. -/ def fCNT_SMP_CTRL_EN : Fld := ⟨31, 31⟩
/-- CNT_SMP_CTRL.IRQ. -/ def fCNT_SMP_CTRL_IRQ : Fld := ⟨30, 30⟩
/-- CNT_SMP_CTRL.CORE. -/ def fCNT_SMP_CTRL_CORE : Fld := ⟨29, 28⟩
/-- CNT_SMP_CTRL.CLASS. -/ def fCNT_SMP_CTRL_CLASS : Fld := ⟨27, 24⟩
/-- CNT_SMP_CTRL.DELIVER. -/ def fCNT_SMP_CTRL_DELIVER : Fld := ⟨23, 23⟩
/-- CNT_SMP_CTRL.DEPTH. -/ def fCNT_SMP_CTRL_DEPTH : Fld := ⟨15, 12⟩
/-- CNT_SMP_CTRL.COUNTER. -/ def fCNT_SMP_CTRL_COUNTER : Fld := ⟨11, 0⟩
/-- CNT_SMP_PERIOD (21_counters_test.md R625). -/
def rCNT_SMP_PERIOD (i : Nat) : Nat := 0xa9004 + 0x40 * i
/-- CNT_SMP_REMAIN (21_counters_test.md R625). -/
def rCNT_SMP_REMAIN (i : Nat) : Nat := 0xa9008 + 0x40 * i
/-- CNT_SMP_POP (21_counters_test.md R625). -/
def rCNT_SMP_POP (i : Nat) : Nat := 0xa900c + 0x40 * i
/-- CNT_SMP_POP.POP. -/ def fCNT_SMP_POP_POP : Fld := ⟨0, 0⟩
/-- CNT_SMP_DATA (21_counters_test.md R625). -/
def rCNT_SMP_DATA (i : Nat) (j : Nat) : Nat := 0xa9010 + 0x40 * i + 0x4 * j
/-- CNT_SMP_LOST (21_counters_test.md R625). -/
def rCNT_SMP_LOST (i : Nat) : Nat := 0xa9020 + 0x40 * i
/-- CNT_CFG (21_counters_test.md R625). -/
def rCNT_CFG (i : Nat) : Nat := 0xac000 + 0x4 * i
/-- CNT_CFG.VIEW. -/ def fCNT_CFG_VIEW : Fld := ⟨31, 27⟩
/-- CNT_CFG.FILTER. -/ def fCNT_CFG_FILTER : Fld := ⟨26, 21⟩
/-- CNT_CFG.EVENT. -/ def fCNT_CFG_EVENT : Fld := ⟨15, 0⟩
/-- Reset values and access masks of block CNT. -/
def rowsCNT : List RegRow := [
  ⟨0x0, 4096, 0x8, 1, 0x0, 0x0, 0x0, 0x0, 0x0, 0x0, 0x0⟩,
  ⟨0x4, 4096, 0x8, 1, 0x0, 0x0, 0x0, 0x0, 0x0, 0x0, 0x0⟩,
  ⟨0x8000, 128, 0x4, 1, 0x0, 0x0, 0x0, 0xffffffff, 0x0, 0x0, 0x0⟩,
  ⟨0x8200, 1, 0x0, 1, 0x0, 0x0, 0x0, 0x7, 0x0, 0x0, 0x0⟩,
  ⟨0x8204, 1, 0x0, 1, 0x0, 0x0, 0xfff0fff, 0x0, 0x80000000, 0x0, 0x0⟩,
  ⟨0x8400, 64, 0x20, 1, 0x0, 0x18000ff, 0xff8000ff, 0x0, 0x0, 0x0, 0x0⟩,
  ⟨0x8408, 64, 0x20, 1, 0x0, 0x0, 0xffffffff, 0x0, 0x0, 0x0, 0x0⟩,
  ⟨0x840c, 64, 0x20, 1, 0x0, 0x0, 0xffffffff, 0x0, 0x0, 0x0, 0x0⟩,
  ⟨0x8410, 64, 0x20, 1, 0x0, 0x0, 0xffffffff, 0x0, 0x0, 0x0, 0x0⟩,
  ⟨0x8414, 64, 0x20, 1, 0x0, 0x0, 0xffffffff, 0x0, 0x0, 0x0, 0x0⟩,
  ⟨0x9000, 16, 0x40, 1, 0x0, 0x0, 0xff800fff, 0x0, 0x0, 0x0, 0x0⟩,
  ⟨0x9004, 16, 0x40, 1, 0x0, 0x10000, 0xffffffff, 0x0, 0x0, 0x0, 0x0⟩,
  ⟨0x9008, 16, 0x40, 1, 0x0, 0x0, 0x0, 0x0, 0x0, 0x0, 0x0⟩,
  ⟨0x900c, 16, 0x40, 1, 0x0, 0x0, 0x0, 0x0, 0x0, 0x1, 0x0⟩,
  ⟨0x9010, 16, 0x40, 4, 0x4, 0x0, 0x0, 0x0, 0x0, 0x0, 0x0⟩,
  ⟨0x9020, 16, 0x40, 1, 0x0, 0x0, 0x0, 0x80000000, 0x0, 0x0, 0x0⟩,
  ⟨0xc000, 4096, 0x4, 1, 0x0, 0xf8000000, 0xffe0ffff, 0x0, 0x0, 0x0, 0x0⟩]
/-! Block SNAP at 0xb0000. -/
/-- SNAP_LO (21_counters_test.md R626). -/
def rSNAP_LO (i : Nat) : Nat := 0xb0000 + 0x8 * i
/-- SNAP_HI (21_counters_test.md R626). -/
def rSNAP_HI (i : Nat) : Nat := 0xb0004 + 0x8 * i
/-- SNAP_OVF (21_counters_test.md R626). -/
def rSNAP_OVF (i : Nat) : Nat := 0xb8000 + 0x4 * i
/-- SNAP_TICK_LO (21_counters_test.md R626). -/
def rSNAP_TICK_LO : Nat := 0xb8200
/-- SNAP_TICK_HI (21_counters_test.md R626). -/
def rSNAP_TICK_HI : Nat := 0xb8204
/-- Reset values and access masks of block SNAP. -/
def rowsSNAP : List RegRow := [
  ⟨0x0, 4096, 0x8, 1, 0x0, 0x0, 0x0, 0x0, 0x0, 0x0, 0x0⟩,
  ⟨0x4, 4096, 0x8, 1, 0x0, 0x0, 0x0, 0x0, 0x0, 0x0, 0x0⟩,
  ⟨0x8000, 128, 0x4, 1, 0x0, 0x0, 0x0, 0x0, 0x0, 0x0, 0x0⟩,
  ⟨0x8200, 1, 0x0, 1, 0x0, 0x0, 0x0, 0x0, 0x0, 0x0, 0x0⟩,
  ⟨0x8204, 1, 0x0, 1, 0x0, 0x0, 0x0, 0x0, 0x0, 0x0, 0x0⟩]
/-! Block MTEST at 0xc0000. -/
/-- MTEST_CTRL (21_counters_test.md R627). -/
def rMTEST_CTRL : Nat := 0xc0000
/-- MTEST_CTRL.GO. -/ def fMTEST_CTRL_GO : Fld := ⟨31, 31⟩
/-- MTEST_CTRL.BUSY. -/ def fMTEST_CTRL_BUSY : Fld := ⟨30, 30⟩
/-- MTEST_CTRL.ALG. -/ def fMTEST_CTRL_ALG : Fld := ⟨29, 28⟩
/-- MTEST_CTRL.PRESERVE. -/ def fMTEST_CTRL_PRESERVE : Fld := ⟨27, 27⟩
/-- MTEST_CTRL.BACKGROUND. -/ def fMTEST_CTRL_BACKGROUND : Fld := ⟨26, 25⟩
/-- MTEST_CTRL.REPAIR. -/ def fMTEST_CTRL_REPAIR : Fld := ⟨24, 24⟩
/-- MTEST_CTRL.TARGET. -/ def fMTEST_CTRL_TARGET : Fld := ⟨5, 0⟩
/-- MTEST_STATUS (21_counters_test.md R627). -/
def rMTEST_STATUS : Nat := 0xc0004
/-- MTEST_STATUS.DONE. -/ def fMTEST_STATUS_DONE : Fld := ⟨31, 31⟩
/-- MTEST_STATUS.PASS. -/ def fMTEST_STATUS_PASS : Fld := ⟨30, 30⟩
/-- MTEST_STATUS.REPAIRED. -/ def fMTEST_STATUS_REPAIRED : Fld := ⟨29, 29⟩
/-- MTEST_STATUS.REFUSED. -/ def fMTEST_STATUS_REFUSED : Fld := ⟨28, 28⟩
/-- MTEST_STATUS.LOGGED. -/ def fMTEST_STATUS_LOGGED : Fld := ⟨6, 0⟩
/-- MTEST_LOG_POP (21_counters_test.md R627). -/
def rMTEST_LOG_POP : Nat := 0xc0010
/-- MTEST_LOG_POP.POP. -/ def fMTEST_LOG_POP_POP : Fld := ⟨0, 0⟩
/-- MTEST_LOG_DATA (21_counters_test.md R627). -/
def rMTEST_LOG_DATA (i : Nat) : Nat := 0xc0014 + 0x4 * i
/-- MTEST_CNT (21_counters_test.md R627). -/
def rMTEST_CNT (i : Nat) : Nat := 0xc0100 + 0x4 * i
/-- MTEST_REPAIR (21_counters_test.md R627). -/
def rMTEST_REPAIR (i : Nat) : Nat := 0xc1000 + 0x4 * i
/-- MTEST_REPAIR.FUSED. -/ def fMTEST_REPAIR_FUSED : Fld := ⟨31, 30⟩
/-- MTEST_REPAIR.SOFT. -/ def fMTEST_REPAIR_SOFT : Fld := ⟨29, 28⟩
/-- MTEST_REPAIR.COL1. -/ def fMTEST_REPAIR_COL1 : Fld := ⟨26, 18⟩
/-- MTEST_REPAIR.COL0. -/ def fMTEST_REPAIR_COL0 : Fld := ⟨17, 9⟩
/-- Reset values and access masks of block MTEST. -/
def rowsMTEST : List RegRow := [
  ⟨0x0, 1, 0x0, 1, 0x0, 0x9000000, 0x3f00003f, 0x0, 0x80000000, 0x0, 0x0⟩,
  ⟨0x4, 1, 0x0, 1, 0x0, 0x0, 0x0, 0x0, 0x0, 0x0, 0x0⟩,
  ⟨0x10, 1, 0x0, 1, 0x0, 0x0, 0x0, 0x0, 0x0, 0x1, 0x0⟩,
  ⟨0x14, 4, 0x4, 1, 0x0, 0x0, 0x0, 0x0, 0x0, 0x0, 0x0⟩,
  ⟨0x100, 3, 0x4, 1, 0x0, 0x0, 0x0, 0x80000000, 0x0, 0x0, 0x0⟩,
  ⟨0x1000, 836, 0x4, 1, 0x0, 0x0, 0x0, 0x0, 0x0, 0x0, 0xffffffff⟩]
/-! Block SEC at 0xd0000. -/
/-- SEC_TAMPER_CTRL (10_cipher.md R313). -/
def rSEC_TAMPER_CTRL : Nat := 0xd0000
/-- SEC_TAMPER_CTRL.EN3. -/ def fSEC_TAMPER_CTRL_EN3 : Fld := ⟨31, 31⟩
/-- SEC_TAMPER_CTRL.POL3. -/ def fSEC_TAMPER_CTRL_POL3 : Fld := ⟨30, 30⟩
/-- SEC_TAMPER_CTRL.DEBOUNCE3. -/ def fSEC_TAMPER_CTRL_DEBOUNCE3 : Fld := ⟨27, 24⟩
/-- SEC_TAMPER_CTRL.EN2. -/ def fSEC_TAMPER_CTRL_EN2 : Fld := ⟨23, 23⟩
/-- SEC_TAMPER_CTRL.POL2. -/ def fSEC_TAMPER_CTRL_POL2 : Fld := ⟨22, 22⟩
/-- SEC_TAMPER_CTRL.DEBOUNCE2. -/ def fSEC_TAMPER_CTRL_DEBOUNCE2 : Fld := ⟨19, 16⟩
/-- SEC_TAMPER_CTRL.EN1. -/ def fSEC_TAMPER_CTRL_EN1 : Fld := ⟨15, 15⟩
/-- SEC_TAMPER_CTRL.POL1. -/ def fSEC_TAMPER_CTRL_POL1 : Fld := ⟨14, 14⟩
/-- SEC_TAMPER_CTRL.DEBOUNCE1. -/ def fSEC_TAMPER_CTRL_DEBOUNCE1 : Fld := ⟨11, 8⟩
/-- SEC_TAMPER_CTRL.EN0. -/ def fSEC_TAMPER_CTRL_EN0 : Fld := ⟨7, 7⟩
/-- SEC_TAMPER_CTRL.POL0. -/ def fSEC_TAMPER_CTRL_POL0 : Fld := ⟨6, 6⟩
/-- SEC_TAMPER_CTRL.DEBOUNCE0. -/ def fSEC_TAMPER_CTRL_DEBOUNCE0 : Fld := ⟨3, 0⟩
/-- SEC_STATUS (10_cipher.md R313). -/
def rSEC_STATUS : Nat := 0xd0004
/-- SEC_STATUS.ZEROISED. -/ def fSEC_STATUS_ZEROISED : Fld := ⟨31, 31⟩
/-- SEC_STATUS.CAUSE_IN. -/ def fSEC_STATUS_CAUSE_IN : Fld := ⟨30, 27⟩
/-- SEC_STATUS.CAUSE_CMD. -/ def fSEC_STATUS_CAUSE_CMD : Fld := ⟨26, 26⟩
/-- SEC_STATUS.CAUSE_CLOCK. -/ def fSEC_STATUS_CAUSE_CLOCK : Fld := ⟨25, 25⟩
/-- SEC_STATUS.LEVEL. -/ def fSEC_STATUS_LEVEL : Fld := ⟨3, 0⟩
/-- SEC_ZEROISE (10_cipher.md R313). -/
def rSEC_ZEROISE : Nat := 0xd0008
/-- Reset values and access masks of block SEC. -/
def rowsSEC : List RegRow := [
  ⟨0x0, 1, 0x0, 1, 0x0, 0xa0a0a0a, 0xcfcfcfcf, 0x0, 0x0, 0x0, 0xcfcfcfcf⟩,
  ⟨0x4, 1, 0x0, 1, 0x0, 0x0, 0x0, 0x0, 0x0, 0x0, 0x0⟩,
  ⟨0x8, 1, 0x0, 1, 0x0, 0x0, 0x0, 0x0, 0x0, 0xffffffff, 0x0⟩]
/-! Block STK at 0x100000. -/
/-- STK_CTRL (13_stacks_pantry.md R400). -/
def rSTK_CTRL : Nat := 0x100000
/-- STK_CTRL.LOCK. -/ def fSTK_CTRL_LOCK : Fld := ⟨31, 31⟩
/-- STK_CTRL.DRAIN_TICKS. -/ def fSTK_CTRL_DRAIN_TICKS : Fld := ⟨15, 0⟩
/-- STK_ERR (13_stacks_pantry.md R400). -/
def rSTK_ERR : Nat := 0x100004
/-- STK_ERR.CMD_REFUSED. -/ def fSTK_ERR_CMD_REFUSED : Fld := ⟨3, 3⟩
/-- STK_ERR.SCRUB_FAULT. -/ def fSTK_ERR_SCRUB_FAULT : Fld := ⟨2, 2⟩
/-- STK_ERR.DRAIN_FAIL. -/ def fSTK_ERR_DRAIN_FAIL : Fld := ⟨1, 1⟩
/-- STK_ERR.MAP_BAD. -/ def fSTK_ERR_MAP_BAD : Fld := ⟨0, 0⟩
/-- STK_CMD (13_stacks_pantry.md R400). -/
def rSTK_CMD : Nat := 0x100008
/-- STK_CMD.BUSY. -/ def fSTK_CMD_BUSY : Fld := ⟨31, 31⟩
/-- STK_CMD.GO. -/ def fSTK_CMD_GO : Fld := ⟨30, 30⟩
/-- STK_CMD.ACTION. -/ def fSTK_CMD_ACTION : Fld := ⟨29, 28⟩
/-- STK_CMD.SCRUB. -/ def fSTK_CMD_SCRUB : Fld := ⟨27, 27⟩
/-- STK_CMD.OWNER. -/ def fSTK_CMD_OWNER : Fld := ⟨26, 24⟩
/-- STK_CMD.POOL. -/ def fSTK_CMD_POOL : Fld := ⟨23, 22⟩
/-- STK_CMD.RESULT. -/ def fSTK_CMD_RESULT : Fld := ⟨21, 19⟩
/-- STK_CMD.BANK. -/ def fSTK_CMD_BANK : Fld := ⟨5, 0⟩
/-- STK_BANK (13_stacks_pantry.md R400). -/
def rSTK_BANK (i : Nat) : Nat := 0x100100 + 0x4 * i
/-- STK_BANK.STATE. -/ def fSTK_BANK_STATE : Fld := ⟨31, 29⟩
/-- STK_BANK.OWNER. -/ def fSTK_BANK_OWNER : Fld := ⟨28, 26⟩
/-- STK_BANK.POOL. -/ def fSTK_BANK_POOL : Fld := ⟨25, 24⟩
/-- STK_BANK.DIRTY. -/ def fSTK_BANK_DIRTY : Fld := ⟨23, 23⟩
/-- STK_BANK.LAST_OWNER. -/ def fSTK_BANK_LAST_OWNER : Fld := ⟨22, 20⟩
/-- STK_BANK.FREE_BUFS. -/ def fSTK_BANK_FREE_BUFS : Fld := ⟨16, 0⟩
/-- STK_CNT (13_stacks_pantry.md R402). -/
def rSTK_CNT (i : Nat) : Nat := 0x100200 + 0x4 * i
/-- Reset values and access masks of block STK. -/
def rowsSTK0 : List RegRow := [
  ⟨0x0, 1, 0x0, 1, 0x0, 0x1f40, 0xffff, 0x0, 0x80000000, 0x0, 0x0⟩,
  ⟨0x4, 1, 0x0, 1, 0x0, 0x0, 0x0, 0xf, 0x0, 0x0, 0x0⟩,
  ⟨0x8, 1, 0x0, 1, 0x0, 0x0, 0x3fc0003f, 0x0, 0x40000000, 0x0, 0x0⟩,
  ⟨0x100, 1, 0x0, 1, 0x0, 0x28000000, 0x0, 0x0, 0x0, 0x0, 0x0⟩,
  ⟨0x104, 1, 0x0, 1, 0x0, 0x28000000, 0x0, 0x0, 0x0, 0x0, 0x0⟩,
  ⟨0x108, 1, 0x0, 1, 0x0, 0x2c000000, 0x0, 0x0, 0x0, 0x0, 0x0⟩,
  ⟨0x10c, 1, 0x0, 1, 0x0, 0x2c000000, 0x0, 0x0, 0x0, 0x0, 0x0⟩,
  ⟨0x110, 1, 0x0, 1, 0x0, 0x30000000, 0x0, 0x0, 0x0, 0x0, 0x0⟩,
  ⟨0x114, 1, 0x0, 1, 0x0, 0x34000000, 0x0, 0x0, 0x0, 0x0, 0x0⟩,
  ⟨0x118, 1, 0x0, 1, 0x0, 0x24004000, 0x0, 0x0, 0x0, 0x0, 0x0⟩,
  ⟨0x11c, 1, 0x0, 1, 0x0, 0x24004000, 0x0, 0x0, 0x0, 0x0, 0x0⟩,
  ⟨0x120, 1, 0x0, 1, 0x0, 0x24004000, 0x0, 0x0, 0x0, 0x0, 0x0⟩,
  ⟨0x124, 1, 0x0, 1, 0x0, 0x24004000, 0x0, 0x0, 0x0, 0x0, 0x0⟩,
  ⟨0x128, 1, 0x0, 1, 0x0, 0x25001000, 0x0, 0x0, 0x0, 0x0, 0x0⟩,
  ⟨0x12c, 1, 0x0, 1, 0x0, 0x25001000, 0x0, 0x0, 0x0, 0x0, 0x0⟩,
  ⟨0x130, 1, 0x0, 1, 0x0, 0x25001000, 0x0, 0x0, 0x0, 0x0, 0x0⟩,
  ⟨0x134, 1, 0x0, 1, 0x0, 0x25001000, 0x0, 0x0, 0x0, 0x0, 0x0⟩,
  ⟨0x138, 1, 0x0, 1, 0x0, 0x25001000, 0x0, 0x0, 0x0, 0x0, 0x0⟩,
  ⟨0x13c, 1, 0x0, 1, 0x0, 0x25001000, 0x0, 0x0, 0x0, 0x0, 0x0⟩,
  ⟨0x140, 1, 0x0, 1, 0x0, 0x26000400, 0x0, 0x0, 0x0, 0x0, 0x0⟩,
  ⟨0x144, 1, 0x0, 1, 0x0, 0x26000400, 0x0, 0x0, 0x0, 0x0, 0x0⟩,
  ⟨0x148, 1, 0x0, 1, 0x0, 0x26000400, 0x0, 0x0, 0x0, 0x0, 0x0⟩,
  ⟨0x14c, 1, 0x0, 1, 0x0, 0x26000400, 0x0, 0x0, 0x0, 0x0, 0x0⟩,
  ⟨0x150, 1, 0x0, 1, 0x0, 0x26000400, 0x0, 0x0, 0x0, 0x0, 0x0⟩,
  ⟨0x154, 1, 0x0, 1, 0x0, 0x26000400, 0x0, 0x0, 0x0, 0x0, 0x0⟩,
  ⟨0x158, 1, 0x0, 1, 0x0, 0x26000400, 0x0, 0x0, 0x0, 0x0, 0x0⟩,
  ⟨0x15c, 1, 0x0, 1, 0x0, 0x26000400, 0x0, 0x0, 0x0, 0x0, 0x0⟩,
  ⟨0x160, 1, 0x0, 1, 0x0, 0x26000400, 0x0, 0x0, 0x0, 0x0, 0x0⟩,
  ⟨0x164, 1, 0x0, 1, 0x0, 0x26000400, 0x0, 0x0, 0x0, 0x0, 0x0⟩,
  ⟨0x168, 1, 0x0, 1, 0x0, 0x26000400, 0x0, 0x0, 0x0, 0x0, 0x0⟩,
  ⟨0x16c, 1, 0x0, 1, 0x0, 0x26000400, 0x0, 0x0, 0x0, 0x0, 0x0⟩,
  ⟨0x170, 1, 0x0, 1, 0x0, 0x27000100, 0x0, 0x0, 0x0, 0x0, 0x0⟩,
  ⟨0x174, 1, 0x0, 1, 0x0, 0x27000100, 0x0, 0x0, 0x0, 0x0, 0x0⟩,
  ⟨0x178, 1, 0x0, 1, 0x0, 0x27000100, 0x0, 0x0, 0x0, 0x0, 0x0⟩,
  ⟨0x17c, 1, 0x0, 1, 0x0, 0x27000100, 0x0, 0x0, 0x0, 0x0, 0x0⟩,
  ⟨0x180, 1, 0x0, 1, 0x0, 0x27000100, 0x0, 0x0, 0x0, 0x0, 0x0⟩,
  ⟨0x184, 1, 0x0, 1, 0x0, 0x27000100, 0x0, 0x0, 0x0, 0x0, 0x0⟩,
  ⟨0x188, 1, 0x0, 1, 0x0, 0x27000100, 0x0, 0x0, 0x0, 0x0, 0x0⟩,
  ⟨0x18c, 1, 0x0, 1, 0x0, 0x27000100, 0x0, 0x0, 0x0, 0x0, 0x0⟩,
  ⟨0x190, 1, 0x0, 1, 0x0, 0x27000100, 0x0, 0x0, 0x0, 0x0, 0x0⟩]
def rowsSTK1 : List RegRow := [
  ⟨0x194, 1, 0x0, 1, 0x0, 0x27000100, 0x0, 0x0, 0x0, 0x0, 0x0⟩,
  ⟨0x198, 1, 0x0, 1, 0x0, 0x27000100, 0x0, 0x0, 0x0, 0x0, 0x0⟩,
  ⟨0x19c, 1, 0x0, 1, 0x0, 0x27000100, 0x0, 0x0, 0x0, 0x0, 0x0⟩,
  ⟨0x200, 2, 0x4, 1, 0x0, 0x0, 0x0, 0x80000000, 0x0, 0x0, 0x0⟩]
/-- Reset values and access masks of block STK. -/
def rowsSTK : List RegRow := rowsSTK0 ++ rowsSTK1
/-! Block PAN at 0x110000. -/
/-- PAN_CTRL (13_stacks_pantry.md R401). -/
def rPAN_CTRL : Nat := 0x110000
/-- PAN_CTRL.YELLOW_THR. -/ def fPAN_CTRL_YELLOW_THR : Fld := ⟨7, 4⟩
/-- PAN_CTRL.UP_SPILL_EN. -/ def fPAN_CTRL_UP_SPILL_EN : Fld := ⟨1, 1⟩
/-- PAN_CTRL.DS_SPILL_EN. -/ def fPAN_CTRL_DS_SPILL_EN : Fld := ⟨0, 0⟩
/-- PAN_STATUS (13_stacks_pantry.md R401). -/
def rPAN_STATUS : Nat := 0x110004
/-- PAN_STATUS.READY. -/ def fPAN_STATUS_READY : Fld := ⟨31, 31⟩
/-- PAN_ERR (13_stacks_pantry.md R401). -/
def rPAN_ERR : Nat := 0x110008
/-- PAN_ERR.DROP. -/ def fPAN_ERR_DROP : Fld := ⟨4, 4⟩
/-- PAN_ERR.BUF_ECC. -/ def fPAN_ERR_BUF_ECC : Fld := ⟨3, 3⟩
/-- PAN_ERR.MIN_CFG. -/ def fPAN_ERR_MIN_CFG : Fld := ⟨2, 2⟩
/-- PAN_ERR.DOUBLE_FREE. -/ def fPAN_ERR_DOUBLE_FREE : Fld := ⟨1, 1⟩
/-- PAN_ERR.LIST_FAULT. -/ def fPAN_ERR_LIST_FAULT : Fld := ⟨0, 0⟩
/-- PAN_TOTAL (13_stacks_pantry.md R401). -/
def rPAN_TOTAL : Nat := 0x11000c
/-- PAN_TOTAL.BYTES. -/ def fPAN_TOTAL_BYTES : Fld := ⟨27, 0⟩
/-- PAN_SHARED_SIZE (13_stacks_pantry.md R401). -/
def rPAN_SHARED_SIZE : Nat := 0x110010
/-- PAN_SHARED_SIZE.BYTES. -/ def fPAN_SHARED_SIZE_BYTES : Fld := ⟨27, 0⟩
/-- PAN_SHARED_USED (13_stacks_pantry.md R401). -/
def rPAN_SHARED_USED : Nat := 0x110014
/-- PAN_SHARED_USED.BYTES. -/ def fPAN_SHARED_USED_BYTES : Fld := ⟨27, 0⟩
/-- PAN_SPILL_DS (13_stacks_pantry.md R401). -/
def rPAN_SPILL_DS : Nat := 0x110018
/-- PAN_SPILL_DS.BYTES. -/ def fPAN_SPILL_DS_BYTES : Fld := ⟨27, 0⟩
/-- PAN_SPILL_UP (13_stacks_pantry.md R401). -/
def rPAN_SPILL_UP : Nat := 0x11001c
/-- PAN_SPILL_UP.BYTES. -/ def fPAN_SPILL_UP_BYTES : Fld := ⟨27, 0⟩
/-- PAN_POOL_FREE (13_stacks_pantry.md R401). -/
def rPAN_POOL_FREE (i : Nat) : Nat := 0x110040 + 0x8 * i
/-- PAN_POOL_FREE.BUFS. -/ def fPAN_POOL_FREE_BUFS : Fld := ⟨19, 0⟩
/-- PAN_POOL_TOTAL (13_stacks_pantry.md R401). -/
def rPAN_POOL_TOTAL (i : Nat) : Nat := 0x110044 + 0x8 * i
/-- PAN_POOL_TOTAL.BUFS. -/ def fPAN_POOL_TOTAL_BUFS : Fld := ⟨19, 0⟩
/-- PAN_ENT_MIN (13_stacks_pantry.md R401). -/
def rPAN_ENT_MIN (i : Nat) : Nat := 0x110400 + 0x10 * i
/-- PAN_ENT_MIN.BYTES. -/ def fPAN_ENT_MIN_BYTES : Fld := ⟨27, 0⟩
/-- PAN_ENT_MAX (13_stacks_pantry.md R401). -/
def rPAN_ENT_MAX (i : Nat) : Nat := 0x110404 + 0x10 * i
/-- PAN_ENT_MAX.BYTES. -/ def fPAN_ENT_MAX_BYTES : Fld := ⟨27, 0⟩
/-- PAN_ENT_RES_USED (13_stacks_pantry.md R401). -/
def rPAN_ENT_RES_USED (i : Nat) : Nat := 0x110408 + 0x10 * i
/-- PAN_ENT_RES_USED.BYTES. -/ def fPAN_ENT_RES_USED_BYTES : Fld := ⟨27, 0⟩
/-- PAN_ENT_USED (13_stacks_pantry.md R401). -/
def rPAN_ENT_USED (i : Nat) : Nat := 0x11040c + 0x10 * i
/-- PAN_ENT_USED.BYTES. -/ def fPAN_ENT_USED_BYTES : Fld := ⟨27, 0⟩
/-- PAN_TEN_MIN (13_stacks_pantry.md R401). -/
def rPAN_TEN_MIN (i : Nat) : Nat := 0x110a80 + 0x10 * i
/-- PAN_TEN_MIN.BYTES. -/ def fPAN_TEN_MIN_BYTES : Fld := ⟨27, 0⟩
/-- PAN_TEN_MAX (13_stacks_pantry.md R401). -/
def rPAN_TEN_MAX (i : Nat) : Nat := 0x110a84 + 0x10 * i
/-- PAN_TEN_MAX.BYTES. -/ def fPAN_TEN_MAX_BYTES : Fld := ⟨27, 0⟩
/-- PAN_TEN_RES_USED (13_stacks_pantry.md R401). -/
def rPAN_TEN_RES_USED (i : Nat) : Nat := 0x110a88 + 0x10 * i
/-- PAN_TEN_RES_USED.BYTES. -/ def fPAN_TEN_RES_USED_BYTES : Fld := ⟨27, 0⟩
/-- PAN_TEN_USED (13_stacks_pantry.md R401). -/
def rPAN_TEN_USED (i : Nat) : Nat := 0x110a8c + 0x10 * i
/-- PAN_TEN_USED.BYTES. -/ def fPAN_TEN_USED_BYTES : Fld := ⟨27, 0⟩
/-- PAN_CNT (13_stacks_pantry.md R402). -/
def rPAN_CNT (i : Nat) : Nat := 0x110c00 + 0x4 * i
/-- Reset values and access masks of block PAN. -/
def rowsPAN : List RegRow := [
  ⟨0x0, 1, 0x0, 1, 0x0, 0xc0, 0xf3, 0x0, 0x0, 0x0, 0x0⟩,
  ⟨0x4, 1, 0x0, 1, 0x0, 0x0, 0x0, 0x0, 0x0, 0x0, 0x0⟩,
  ⟨0x8, 1, 0x0, 1, 0x0, 0x0, 0x0, 0x1f, 0x0, 0x0, 0x0⟩,
  ⟨0xc, 1, 0x0, 1, 0x0, 0x0, 0x0, 0x0, 0x0, 0x0, 0x0⟩,
  ⟨0x10, 1, 0x0, 1, 0x0, 0x0, 0x0, 0x0, 0x0, 0x0, 0x0⟩,
  ⟨0x14, 1, 0x0, 1, 0x0, 0x0, 0x0, 0x0, 0x0, 0x0, 0x0⟩,
  ⟨0x18, 1, 0x0, 1, 0x0, 0x4000, 0xfffffff, 0x0, 0x0, 0x0, 0x0⟩,
  ⟨0x1c, 1, 0x0, 1, 0x0, 0x100000, 0xfffffff, 0x0, 0x0, 0x0, 0x0⟩,
  ⟨0x40, 4, 0x8, 1, 0x0, 0x0, 0x0, 0x0, 0x0, 0x0, 0x0⟩,
  ⟨0x44, 4, 0x8, 1, 0x0, 0x0, 0x0, 0x0, 0x0, 0x0, 0x0⟩,
  ⟨0x400, 98, 0x10, 1, 0x0, 0x0, 0xfffffff, 0x0, 0x0, 0x0, 0x0⟩,
  ⟨0x404, 98, 0x10, 1, 0x0, 0x0, 0xfffffff, 0x0, 0x0, 0x0, 0x0⟩,
  ⟨0x408, 98, 0x10, 1, 0x0, 0x0, 0x0, 0x0, 0x0, 0x0, 0x0⟩,
  ⟨0x40c, 98, 0x10, 1, 0x0, 0x0, 0x0, 0x0, 0x0, 0x0, 0x0⟩,
  ⟨0xa80, 17, 0x10, 1, 0x0, 0x0, 0xfffffff, 0x0, 0x0, 0x0, 0x0⟩,
  ⟨0xa84, 17, 0x10, 1, 0x0, 0x0, 0xfffffff, 0x0, 0x0, 0x0, 0x0⟩,
  ⟨0xa88, 17, 0x10, 1, 0x0, 0x0, 0x0, 0x0, 0x0, 0x0, 0x0⟩,
  ⟨0xa8c, 17, 0x10, 1, 0x0, 0x0, 0x0, 0x0, 0x0, 0x0, 0x0⟩,
  ⟨0xc00, 14, 0x4, 1, 0x0, 0x0, 0x0, 0x80000000, 0x0, 0x0, 0x0⟩]
/-! Block DRAM at 0x120000. -/
/-- DRAM_CH_STATUS (14_dram.md R432). -/
def rDRAM_CH_STATUS (b : Nat) : Nat := 0x120000 + 0x1000 * b
/-- DRAM_CH_STATUS.TRAINED. -/ def fDRAM_CH_STATUS_TRAINED : Fld := ⟨31, 31⟩
/-- DRAM_CH_STATUS.DOWN. -/ def fDRAM_CH_STATUS_DOWN : Fld := ⟨30, 30⟩
/-- DRAM_CH_STATUS.CAUSE. -/ def fDRAM_CH_STATUS_CAUSE : Fld := ⟨29, 28⟩
/-- DRAM_CH_STATUS.REFRESH_CODE. -/ def fDRAM_CH_STATUS_REFRESH_CODE : Fld := ⟨23, 16⟩
/-- DRAM_CH_STATUS.OUTSTANDING. -/ def fDRAM_CH_STATUS_OUTSTANDING : Fld := ⟨8, 0⟩
/-- DRAM_CH_UE_LO (14_dram.md R432). -/
def rDRAM_CH_UE_LO (b : Nat) : Nat := 0x120008 + 0x1000 * b
/-- DRAM_CH_UE_HI (14_dram.md R432). -/
def rDRAM_CH_UE_HI (b : Nat) : Nat := 0x12000c + 0x1000 * b
/-- DRAM_CH_UE_HI.HI. -/ def fDRAM_CH_UE_HI_HI : Fld := ⟨3, 0⟩
/-- DRAM_CH_CNT (14_dram.md R434). -/
def rDRAM_CH_CNT (b : Nat) (i : Nat) : Nat := 0x120040 + 0x1000 * b + 0x4 * i
/-- Reset values and access masks of block DRAM. -/
def rowsDRAM : List RegRow := [
  ⟨0x0, 1, 0x0, 1, 0x0, 0x0, 0x0, 0x0, 0x0, 0x0, 0x0⟩,
  ⟨0x8, 1, 0x0, 1, 0x0, 0x0, 0x0, 0x0, 0x0, 0x0, 0x0⟩,
  ⟨0xc, 1, 0x0, 1, 0x0, 0x0, 0x0, 0x0, 0x0, 0x0, 0x0⟩,
  ⟨0x40, 8, 0x4, 1, 0x0, 0x0, 0x0, 0x80000000, 0x0, 0x0, 0x0⟩]
/-! Block DRAMG at 0x120800. -/
/-- DRAM_CTRL (14_dram.md R433). -/
def rDRAM_CTRL : Nat := 0x120800
/-- DRAM_CTRL.RATE. -/ def fDRAM_CTRL_RATE : Fld := ⟨31, 30⟩
/-- DRAM_CTRL.CH8. -/ def fDRAM_CTRL_CH8 : Fld := ⟨29, 29⟩
/-- DRAM_CTRL.CAP. -/ def fDRAM_CTRL_CAP : Fld := ⟨28, 27⟩
/-- DRAM_CTRL.SCRUB_EN. -/ def fDRAM_CTRL_SCRUB_EN : Fld := ⟨26, 26⟩
/-- DRAM_CTRL.SCRUB_HOURS. -/ def fDRAM_CTRL_SCRUB_HOURS : Fld := ⟨23, 16⟩
/-- DRAM_CTRL.PAGE_HIT_MAX. -/ def fDRAM_CTRL_PAGE_HIT_MAX : Fld := ⟨15, 12⟩
/-- DRAM_CTRL.RETRAIN_TICKS. -/ def fDRAM_CTRL_RETRAIN_TICKS : Fld := ⟨11, 0⟩
/-- DRAM_STATUS (14_dram.md R433). -/
def rDRAM_STATUS : Nat := 0x120804
/-- DRAM_STATUS.READY. -/ def fDRAM_STATUS_READY : Fld := ⟨31, 31⟩
/-- DRAM_STATUS.INIT_BUSY. -/ def fDRAM_STATUS_INIT_BUSY : Fld := ⟨30, 30⟩
/-- DRAM_STATUS.DOWN. -/ def fDRAM_STATUS_DOWN : Fld := ⟨15, 0⟩
/-- DRAM_ERR (14_dram.md R433). -/
def rDRAM_ERR : Nat := 0x120808
/-- DRAM_ERR.CFG_BUSY. -/ def fDRAM_ERR_CFG_BUSY : Fld := ⟨5, 5⟩
/-- DRAM_ERR.HOT. -/ def fDRAM_ERR_HOT : Fld := ⟨4, 4⟩
/-- DRAM_ERR.CH_DOWN. -/ def fDRAM_ERR_CH_DOWN : Fld := ⟨3, 3⟩
/-- DRAM_ERR.TRAIN_FAIL. -/ def fDRAM_ERR_TRAIN_FAIL : Fld := ⟨2, 2⟩
/-- DRAM_ERR.UNCORR. -/ def fDRAM_ERR_UNCORR : Fld := ⟨1, 1⟩
/-- DRAM_ERR.ADDR_RANGE. -/ def fDRAM_ERR_ADDR_RANGE : Fld := ⟨0, 0⟩
/-- DRAM_PORT_CFG (14_dram.md R433). -/
def rDRAM_PORT_CFG (i : Nat) : Nat := 0x120840 + 0x8 * i
/-- DRAM_PORT_CFG.BASE_URG. -/ def fDRAM_PORT_CFG_BASE_URG : Fld := ⟨31, 30⟩
/-- DRAM_PORT_CFG.MAX_OUT. -/ def fDRAM_PORT_CFG_MAX_OUT : Fld := ⟨8, 0⟩
/-- DRAM_PORT_LAT (14_dram.md R433). -/
def rDRAM_PORT_LAT (i : Nat) : Nat := 0x120844 + 0x8 * i
/-- DRAM_PORT_LAT.NS. -/ def fDRAM_PORT_LAT_NS : Fld := ⟨19, 0⟩
/-- SP_CTRL (14_dram.md R433). -/
def rSP_CTRL : Nat := 0x120900
/-- SP_CTRL.EN. -/ def fSP_CTRL_EN : Fld := ⟨31, 31⟩
/-- SP_STATUS (14_dram.md R433). -/
def rSP_STATUS : Nat := 0x120904
/-- SP_STATUS.ACTIVE. -/ def fSP_STATUS_ACTIVE : Fld := ⟨13, 0⟩
/-- SP_ERR (14_dram.md R433). -/
def rSP_ERR : Nat := 0x120908
/-- SP_ERR.CFG_BAD. -/ def fSP_ERR_CFG_BAD : Fld := ⟨1, 1⟩
/-- SP_ERR.FULL. -/ def fSP_ERR_FULL : Fld := ⟨0, 0⟩
/-- SP_BASE_LO (14_dram.md R433). -/
def rSP_BASE_LO : Nat := 0x120910
/-- SP_BASE_LO.LO. -/ def fSP_BASE_LO_LO : Fld := ⟨31, 20⟩
/-- SP_BASE_HI (14_dram.md R433). -/
def rSP_BASE_HI : Nat := 0x120914
/-- SP_BASE_HI.HI. -/ def fSP_BASE_HI_HI : Fld := ⟨3, 0⟩
/-- SP_SIZE (14_dram.md R433). -/
def rSP_SIZE : Nat := 0x120918
/-- SP_SIZE.MIB. -/ def fSP_SIZE_MIB : Fld := ⟨16, 0⟩
/-- SP_QMAX (14_dram.md R433). -/
def rSP_QMAX : Nat := 0x12091c
/-- SP_QMAX.BYTES. -/ def fSP_QMAX_BYTES : Fld := ⟨27, 0⟩
/-- SP_PREFETCH (14_dram.md R433). -/
def rSP_PREFETCH : Nat := 0x120920
/-- SP_PREFETCH.BYTES. -/ def fSP_PREFETCH_BYTES : Fld := ⟨27, 0⟩
/-- SP_BACKLOG (14_dram.md R433). -/
def rSP_BACKLOG : Nat := 0x120924
/-- SP_BACKLOG.BYTES. -/ def fSP_BACKLOG_BYTES : Fld := ⟨27, 0⟩
/-- SP_PAGES_FREE (14_dram.md R433). -/
def rSP_PAGES_FREE : Nat := 0x120928
/-- SP_PAGES_FREE.PAGES. -/ def fSP_PAGES_FREE_PAGES : Fld := ⟨24, 0⟩
/-- SP_CNT (14_dram.md R434). -/
def rSP_CNT (i : Nat) : Nat := 0x120940 + 0x4 * i
/-- Reset values and access masks of block DRAMG. -/
def rowsDRAMG : List RegRow := [
  ⟨0x0, 1, 0x0, 1, 0x0, 0x94184320, 0xfcffffff, 0x0, 0x0, 0x0, 0x0⟩,
  ⟨0x4, 1, 0x0, 1, 0x0, 0x0, 0x0, 0x0, 0x0, 0x0, 0x0⟩,
  ⟨0x8, 1, 0x0, 1, 0x0, 0x0, 0x0, 0x3f, 0x0, 0x0, 0x0⟩,
  ⟨0x40, 1, 0x0, 1, 0x0, 0x40, 0xc00001ff, 0x0, 0x0, 0x0, 0x0⟩,
  ⟨0x48, 1, 0x0, 1, 0x0, 0x60, 0xc00001ff, 0x0, 0x0, 0x0, 0x0⟩,
  ⟨0x50, 1, 0x0, 1, 0x0, 0x40000060, 0xc00001ff, 0x0, 0x0, 0x0, 0x0⟩,
  ⟨0x58, 1, 0x0, 1, 0x0, 0x40000040, 0xc00001ff, 0x0, 0x0, 0x0, 0x0⟩,
  ⟨0x60, 1, 0x0, 1, 0x0, 0x4, 0xc00001ff, 0x0, 0x0, 0x0, 0x0⟩,
  ⟨0x68, 1, 0x0, 1, 0x0, 0x100, 0xc00001ff, 0x0, 0x0, 0x0, 0x0⟩,
  ⟨0x44, 1, 0x0, 1, 0x0, 0x3e8, 0xfffff, 0x0, 0x0, 0x0, 0x0⟩,
  ⟨0x4c, 1, 0x0, 1, 0x0, 0x2710, 0xfffff, 0x0, 0x0, 0x0, 0x0⟩,
  ⟨0x54, 1, 0x0, 1, 0x0, 0x7d0, 0xfffff, 0x0, 0x0, 0x0, 0x0⟩,
  ⟨0x5c, 1, 0x0, 1, 0x0, 0x1f4, 0xfffff, 0x0, 0x0, 0x0, 0x0⟩,
  ⟨0x64, 1, 0x0, 1, 0x0, 0x0, 0xfffff, 0x0, 0x0, 0x0, 0x0⟩,
  ⟨0x6c, 1, 0x0, 1, 0x0, 0x0, 0xfffff, 0x0, 0x0, 0x0, 0x0⟩,
  ⟨0x100, 1, 0x0, 1, 0x0, 0x0, 0x80000000, 0x0, 0x0, 0x0, 0x0⟩,
  ⟨0x104, 1, 0x0, 1, 0x0, 0x0, 0x0, 0x0, 0x0, 0x0, 0x0⟩,
  ⟨0x108, 1, 0x0, 1, 0x0, 0x0, 0x0, 0x3, 0x0, 0x0, 0x0⟩,
  ⟨0x110, 1, 0x0, 1, 0x0, 0x0, 0xfff00000, 0x0, 0x0, 0x0, 0x0⟩,
  ⟨0x114, 1, 0x0, 1, 0x0, 0x0, 0xf, 0x0, 0x0, 0x0, 0x0⟩,
  ⟨0x118, 1, 0x0, 1, 0x0, 0x0, 0x1ffff, 0x0, 0x0, 0x0, 0x0⟩,
  ⟨0x11c, 1, 0x0, 1, 0x0, 0x1000000, 0xfffffff, 0x0, 0x0, 0x0, 0x0⟩,
  ⟨0x120, 1, 0x0, 1, 0x0, 0x4000, 0xfffffff, 0x0, 0x0, 0x0, 0x0⟩,
  ⟨0x124, 1, 0x0, 1, 0x0, 0x400000, 0xfffffff, 0x0, 0x0, 0x0, 0x0⟩,
  ⟨0x128, 1, 0x0, 1, 0x0, 0x0, 0x0, 0x0, 0x0, 0x0, 0x0⟩,
  ⟨0x140, 8, 0x4, 1, 0x0, 0x0, 0x0, 0x80000000, 0x0, 0x0, 0x0⟩]
/-! Block COL at 0x140000. -/
/-- COL_CTRL (11_colander.md R347). -/
def rCOL_CTRL : Nat := 0x140000
/-- COL_CTRL.PARSE_DEPTH. -/ def fCOL_CTRL_PARSE_DEPTH : Fld := ⟨25, 16⟩
/-- COL_CTRL.MAX_PASS. -/ def fCOL_CTRL_MAX_PASS : Fld := ⟨14, 12⟩
/-- COL_CTRL.MPLS_ETH. -/ def fCOL_CTRL_MPLS_ETH : Fld := ⟨8, 8⟩
/-- COL_STATUS (11_colander.md R347). -/
def rCOL_STATUS : Nat := 0x140004
/-- COL_STATUS.CURRENT. -/ def fCOL_STATUS_CURRENT : Fld := ⟨31, 30⟩
/-- COL_STATUS.PENDING. -/ def fCOL_STATUS_PENDING : Fld := ⟨29, 28⟩
/-- COL_STATUS.PEND_VALID. -/ def fCOL_STATUS_PEND_VALID : Fld := ⟨27, 27⟩
/-- COL_STATUS.STAGING. -/ def fCOL_STATUS_STAGING : Fld := ⟨26, 26⟩
/-- COL_STATUS.CHECKING. -/ def fCOL_STATUS_CHECKING : Fld := ⟨25, 25⟩
/-- COL_ERR (11_colander.md R347). -/
def rCOL_ERR : Nat := 0x140008
/-- COL_ERR.MIRROR_DROP. -/ def fCOL_ERR_MIRROR_DROP : Fld := ⟨5, 5⟩
/-- COL_ERR.BAD_ACTION. -/ def fCOL_ERR_BAD_ACTION : Fld := ⟨4, 4⟩
/-- COL_ERR.EDITION_CONFLICT. -/ def fCOL_ERR_EDITION_CONFLICT : Fld := ⟨3, 3⟩
/-- COL_ERR.STAGE_REFUSED. -/ def fCOL_ERR_STAGE_REFUSED : Fld := ⟨2, 2⟩
/-- COL_ERR.RECIRC_LIMIT. -/ def fCOL_ERR_RECIRC_LIMIT : Fld := ⟨1, 1⟩
/-- COL_ERR.EXC_DROP. -/ def fCOL_ERR_EXC_DROP : Fld := ⟨0, 0⟩
/-- COL_PORTS (11_colander.md R347). -/
def rCOL_PORTS : Nat := 0x14000c
/-- COL_PORTS.VXLAN_PORT. -/ def fCOL_PORTS_VXLAN_PORT : Fld := ⟨31, 16⟩
/-- COL_PORTS.GTPU_PORT. -/ def fCOL_PORTS_GTPU_PORT : Fld := ⟨15, 0⟩
/-- COL_ED_SEL (11_colander.md R347). -/
def rCOL_ED_SEL : Nat := 0x140010
/-- COL_ED_SEL.SLOT. -/ def fCOL_ED_SEL_SLOT : Fld := ⟨1, 0⟩
/-- COL_ED_INFO (11_colander.md R347). -/
def rCOL_ED_INFO : Nat := 0x140014
/-- COL_ED_INFO.STATE. -/ def fCOL_ED_INFO_STATE : Fld := ⟨31, 30⟩
/-- COL_ED_INFO.DEF_FLAGS. -/ def fCOL_ED_INFO_DEF_FLAGS : Fld := ⟨29, 29⟩
/-- COL_ED_INFO.INFLIGHT. -/ def fCOL_ED_INFO_INFLIGHT : Fld := ⟨23, 0⟩
/-- COL_ED_SIZE (11_colander.md R347). -/
def rCOL_ED_SIZE : Nat := 0x140018
/-- COL_ED_SIZE.ACTIONS. -/ def fCOL_ED_SIZE_ACTIONS : Fld := ⟨31, 15⟩
/-- COL_ED_SIZE.RULES. -/ def fCOL_ED_SIZE_RULES : Fld := ⟨14, 0⟩
/-- COL_ED_NUM_LO (11_colander.md R347). -/
def rCOL_ED_NUM_LO : Nat := 0x140020
/-- COL_ED_NUM_HI (11_colander.md R347). -/
def rCOL_ED_NUM_HI : Nat := 0x140024
/-- COL_ED_DIGEST (11_colander.md R347). -/
def rCOL_ED_DIGEST (i : Nat) : Nat := 0x140030 + 0x4 * i
/-- COL_STAGE_CMD (11_colander.md R347). -/
def rCOL_STAGE_CMD : Nat := 0x140040
/-- COL_STAGE_CMD.BUSY. -/ def fCOL_STAGE_CMD_BUSY : Fld := ⟨31, 31⟩
/-- COL_STAGE_CMD.GO. -/ def fCOL_STAGE_CMD_GO : Fld := ⟨30, 30⟩
/-- COL_STAGE_CMD.WRITE. -/ def fCOL_STAGE_CMD_WRITE : Fld := ⟨29, 29⟩
/-- COL_STAGE_CMD.KIND. -/ def fCOL_STAGE_CMD_KIND : Fld := ⟨28, 28⟩
/-- COL_STAGE_CMD.REASON. -/ def fCOL_STAGE_CMD_REASON : Fld := ⟨27, 25⟩
/-- COL_STAGE_CMD.INDEX. -/ def fCOL_STAGE_CMD_INDEX : Fld := ⟨16, 0⟩
/-- COL_STAGE_DATA (11_colander.md R347). -/
def rCOL_STAGE_DATA (i : Nat) : Nat := 0x140100 + 0x4 * i
/-- COL_EXC_RATE (11_colander.md R347). -/
def rCOL_EXC_RATE (i : Nat) : Nat := 0x140200 + 0x8 * i
/-- COL_EXC_RATE.RATE. -/ def fCOL_EXC_RATE_RATE : Fld := ⟨23, 0⟩
/-- COL_EXC_CTRL (11_colander.md R347). -/
def rCOL_EXC_CTRL (i : Nat) : Nat := 0x140204 + 0x8 * i
/-- COL_EXC_CTRL.TARGET. -/ def fCOL_EXC_CTRL_TARGET : Fld := ⟨31, 31⟩
/-- COL_EXC_CTRL.BURST. -/ def fCOL_EXC_CTRL_BURST : Fld := ⟨15, 0⟩
/-- COL_EXC_AGG_RATE (11_colander.md R347). -/
def rCOL_EXC_AGG_RATE : Nat := 0x140280
/-- COL_EXC_AGG_RATE.RATE. -/ def fCOL_EXC_AGG_RATE_RATE : Fld := ⟨23, 0⟩
/-- COL_EXC_AGG_BURST (11_colander.md R347). -/
def rCOL_EXC_AGG_BURST : Nat := 0x140284
/-- COL_EXC_AGG_BURST.BURST. -/ def fCOL_EXC_AGG_BURST_BURST : Fld := ⟨15, 0⟩
/-- COL_MIR_DEST (11_colander.md R347). -/
def rCOL_MIR_DEST (i : Nat) : Nat := 0x140300 + 0x10 * i
/-- COL_MIR_DEST.EN. -/ def fCOL_MIR_DEST_EN : Fld := ⟨31, 31⟩
/-- COL_MIR_DEST.KIND. -/ def fCOL_MIR_DEST_KIND : Fld := ⟨30, 29⟩
/-- COL_MIR_DEST.TARGET. -/ def fCOL_MIR_DEST_TARGET : Fld := ⟨23, 0⟩
/-- COL_MIR_CTRL (11_colander.md R347). -/
def rCOL_MIR_CTRL (i : Nat) : Nat := 0x140304 + 0x10 * i
/-- COL_MIR_CTRL.SAMPLE. -/ def fCOL_MIR_CTRL_SAMPLE : Fld := ⟨31, 16⟩
/-- COL_MIR_CTRL.TRUNC. -/ def fCOL_MIR_CTRL_TRUNC : Fld := ⟨15, 0⟩
/-- COL_CNT (11_colander.md R348). -/
def rCOL_CNT (i : Nat) : Nat := 0x140400 + 0x4 * i
/-- COL_EXC_SENT (11_colander.md R348). -/
def rCOL_EXC_SENT (i : Nat) : Nat := 0x140600 + 0x8 * i
/-- COL_EXC_DROPPED (11_colander.md R348). -/
def rCOL_EXC_DROPPED (i : Nat) : Nat := 0x140604 + 0x8 * i
/-- Reset values and access masks of block COL. -/
def rowsCOL : List RegRow := [
  ⟨0x0, 1, 0x0, 1, 0x0, 0x1004000, 0x3ff7100, 0x0, 0x0, 0x0, 0x0⟩,
  ⟨0x4, 1, 0x0, 1, 0x0, 0x0, 0x0, 0x0, 0x0, 0x0, 0x0⟩,
  ⟨0x8, 1, 0x0, 1, 0x0, 0x0, 0x0, 0x3f, 0x0, 0x0, 0x0⟩,
  ⟨0xc, 1, 0x0, 1, 0x0, 0x12b50868, 0xffffffff, 0x0, 0x0, 0x0, 0x0⟩,
  ⟨0x10, 1, 0x0, 1, 0x0, 0x0, 0x3, 0x0, 0x0, 0x0, 0x0⟩,
  ⟨0x14, 1, 0x0, 1, 0x0, 0xa0000000, 0x0, 0x0, 0x0, 0x0, 0x0⟩,
  ⟨0x18, 1, 0x0, 1, 0x0, 0x0, 0x0, 0x0, 0x0, 0x0, 0x0⟩,
  ⟨0x20, 1, 0x0, 1, 0x0, 0x0, 0x0, 0x0, 0x0, 0x0, 0x0⟩,
  ⟨0x24, 1, 0x0, 1, 0x0, 0x0, 0x0, 0x0, 0x0, 0x0, 0x0⟩,
  ⟨0x30, 4, 0x4, 1, 0x0, 0x0, 0x0, 0x0, 0x0, 0x0, 0x0⟩,
  ⟨0x40, 1, 0x0, 1, 0x0, 0x0, 0x3001ffff, 0x0, 0x40000000, 0x0, 0x0⟩,
  ⟨0x100, 40, 0x4, 1, 0x0, 0x0, 0xffffffff, 0x0, 0x0, 0x0, 0x0⟩,
  ⟨0x200, 16, 0x8, 1, 0x0, 0x2710, 0xffffff, 0x0, 0x0, 0x0, 0x0⟩,
  ⟨0x204, 16, 0x8, 1, 0x0, 0x100, 0x8000ffff, 0x0, 0x0, 0x0, 0x0⟩,
  ⟨0x280, 1, 0x0, 1, 0x0, 0xf4240, 0xffffff, 0x0, 0x0, 0x0, 0x0⟩,
  ⟨0x284, 1, 0x0, 1, 0x0, 0x1000, 0xffff, 0x0, 0x0, 0x0, 0x0⟩,
  ⟨0x300, 16, 0x10, 1, 0x0, 0x0, 0xe0ffffff, 0x0, 0x0, 0x0, 0x0⟩,
  ⟨0x304, 16, 0x10, 1, 0x0, 0x10000, 0xffffffff, 0x0, 0x0, 0x0, 0x0⟩,
  ⟨0x400, 9, 0x4, 1, 0x0, 0x0, 0x0, 0x80000000, 0x0, 0x0, 0x0⟩,
  ⟨0x600, 16, 0x8, 1, 0x0, 0x0, 0x0, 0x80000000, 0x0, 0x0, 0x0⟩,
  ⟨0x604, 16, 0x8, 1, 0x0, 0x0, 0x0, 0x80000000, 0x0, 0x0, 0x0⟩]
/-! Block FWD at 0x150000. -/
/-- FWD_CTRL (12_forwarding.md R376). -/
def rFWD_CTRL : Nat := 0x150000
/-- FWD_CTRL.AGE_TIME. -/ def fFWD_CTRL_AGE_TIME : Fld := ⟨31, 16⟩
/-- FWD_CTRL.LEARN_EN. -/ def fFWD_CTRL_LEARN_EN : Fld := ⟨0, 0⟩
/-- FWD_STATUS (12_forwarding.md R376). -/
def rFWD_STATUS : Nat := 0x150004
/-- FWD_STATUS.READY. -/ def fFWD_STATUS_READY : Fld := ⟨31, 31⟩
/-- FWD_STATUS.FIRST_PASS. -/ def fFWD_STATUS_FIRST_PASS : Fld := ⟨30, 30⟩
/-- FWD_STATUS.ENGINE_BUSY. -/ def fFWD_STATUS_ENGINE_BUSY : Fld := ⟨29, 29⟩
/-- FWD_STATUS.OVF_USED. -/ def fFWD_STATUS_OVF_USED : Fld := ⟨13, 0⟩
/-- FWD_ERR (12_forwarding.md R376). -/
def rFWD_ERR : Nat := 0x150008
/-- FWD_ERR.MEM_FAULT. -/ def fFWD_ERR_MEM_FAULT : Fld := ⟨5, 5⟩
/-- FWD_ERR.CFG_BUSY. -/ def fFWD_ERR_CFG_BUSY : Fld := ⟨4, 4⟩
/-- FWD_ERR.LEARN_LIMITED. -/ def fFWD_ERR_LEARN_LIMITED : Fld := ⟨3, 3⟩
/-- FWD_ERR.LEARN_DROP. -/ def fFWD_ERR_LEARN_DROP : Fld := ⟨2, 2⟩
/-- FWD_ERR.PFX_FULL. -/ def fFWD_ERR_PFX_FULL : Fld := ⟨1, 1⟩
/-- FWD_ERR.OVF_FULL. -/ def fFWD_ERR_OVF_FULL : Fld := ⟨0, 0⟩
/-- FWD_HASH_SEED (12_forwarding.md R376). -/
def rFWD_HASH_SEED : Nat := 0x15000c
/-- FWD_EXACT_USED (12_forwarding.md R376). -/
def rFWD_EXACT_USED : Nat := 0x150010
/-- FWD_EXACT_USED.SLOTS. -/ def fFWD_EXACT_USED_SLOTS : Fld := ⟨20, 0⟩
/-- FWD_PFX4_USED (12_forwarding.md R376). -/
def rFWD_PFX4_USED : Nat := 0x150014
/-- FWD_PFX4_USED.USED. -/ def fFWD_PFX4_USED_USED : Fld := ⟨20, 0⟩
/-- FWD_PFX6_USED (12_forwarding.md R376). -/
def rFWD_PFX6_USED : Nat := 0x150018
/-- FWD_PFX6_USED.USED. -/ def fFWD_PFX6_USED_USED : Fld := ⟨18, 0⟩
/-- FWD_CMD (12_forwarding.md R376). -/
def rFWD_CMD : Nat := 0x150020
/-- FWD_CMD.BUSY. -/ def fFWD_CMD_BUSY : Fld := ⟨31, 31⟩
/-- FWD_CMD.GO. -/ def fFWD_CMD_GO : Fld := ⟨30, 30⟩
/-- FWD_CMD.RESULT. -/ def fFWD_CMD_RESULT : Fld := ⟨23, 8⟩
/-- FWD_CMD.CODE. -/ def fFWD_CMD_CODE : Fld := ⟨7, 0⟩
/-- FWD_CMD_DATA (12_forwarding.md R376). -/
def rFWD_CMD_DATA (i : Nat) : Nat := 0x150100 + 0x4 * i
/-- FWD_TBL_CFG (12_forwarding.md R376). -/
def rFWD_TBL_CFG (i : Nat) : Nat := 0x151000 + 0x10 * i
/-- FWD_TBL_CFG.EN. -/ def fFWD_TBL_CFG_EN : Fld := ⟨31, 31⟩
/-- FWD_TBL_CFG.KIND. -/ def fFWD_TBL_CFG_KIND : Fld := ⟨30, 28⟩
/-- FWD_TBL_CFG.LEARN_EN. -/ def fFWD_TBL_CFG_LEARN_EN : Fld := ⟨27, 27⟩
/-- FWD_TBL_CFG.AGE_EN. -/ def fFWD_TBL_CFG_AGE_EN : Fld := ⟨26, 26⟩
/-- FWD_TBL_CFG.VID_ONLY. -/ def fFWD_TBL_CFG_VID_ONLY : Fld := ⟨25, 25⟩
/-- FWD_TBL_CFG.VRF_EN. -/ def fFWD_TBL_CFG_VRF_EN : Fld := ⟨24, 24⟩
/-- FWD_TBL_CFG.LEARN_SRC. -/ def fFWD_TBL_CFG_LEARN_SRC : Fld := ⟨23, 21⟩
/-- FWD_TBL_CFG.TENANT_VIEW. -/ def fFWD_TBL_CFG_TENANT_VIEW : Fld := ⟨20, 20⟩
/-- FWD_TBL_CFG.LEARN_ACTION. -/ def fFWD_TBL_CFG_LEARN_ACTION : Fld := ⟨15, 0⟩
/-- FWD_TBL_SELECT_LO (12_forwarding.md R376). -/
def rFWD_TBL_SELECT_LO (i : Nat) : Nat := 0x151004 + 0x10 * i
/-- FWD_TBL_SELECT_HI (12_forwarding.md R376). -/
def rFWD_TBL_SELECT_HI (i : Nat) : Nat := 0x151008 + 0x10 * i
/-- FWD_TBL_USED (12_forwarding.md R376). -/
def rFWD_TBL_USED (i : Nat) : Nat := 0x15100c + 0x10 * i
/-- FWD_TBL_USED.USED. -/ def fFWD_TBL_USED_USED : Fld := ⟨20, 0⟩
/-- FWD_TEN_LIMIT (12_forwarding.md R376). -/
def rFWD_TEN_LIMIT (i : Nat) : Nat := 0x151200 + 0x8 * i
/-- FWD_TEN_LIMIT.LIMIT. -/ def fFWD_TEN_LIMIT_LIMIT : Fld := ⟨20, 0⟩
/-- FWD_TEN_USE (12_forwarding.md R376). -/
def rFWD_TEN_USE (i : Nat) : Nat := 0x151204 + 0x8 * i
/-- FWD_TEN_USE.USE. -/ def fFWD_TEN_USE_USE : Fld := ⟨20, 0⟩
/-- FWD_CNT (12_forwarding.md R377). -/
def rFWD_CNT (i : Nat) : Nat := 0x151400 + 0x4 * i
/-- Reset values and access masks of block FWD. -/
def rowsFWD : List RegRow := [
  ⟨0x0, 1, 0x0, 1, 0x0, 0x12c0001, 0xffff0001, 0x0, 0x0, 0x0, 0x0⟩,
  ⟨0x4, 1, 0x0, 1, 0x0, 0x0, 0x0, 0x0, 0x0, 0x0, 0x0⟩,
  ⟨0x8, 1, 0x0, 1, 0x0, 0x0, 0x0, 0x3f, 0x0, 0x0, 0x0⟩,
  ⟨0xc, 1, 0x0, 1, 0x0, 0xffffffff, 0xffffffff, 0x0, 0x0, 0x0, 0x0⟩,
  ⟨0x10, 1, 0x0, 1, 0x0, 0x0, 0x0, 0x0, 0x0, 0x0, 0x0⟩,
  ⟨0x14, 1, 0x0, 1, 0x0, 0x0, 0x0, 0x0, 0x0, 0x0, 0x0⟩,
  ⟨0x18, 1, 0x0, 1, 0x0, 0x0, 0x0, 0x0, 0x0, 0x0, 0x0⟩,
  ⟨0x20, 1, 0x0, 1, 0x0, 0x0, 0xff, 0x0, 0x40000000, 0x0, 0x0⟩,
  ⟨0x100, 512, 0x4, 1, 0x0, 0x0, 0xffffffff, 0x0, 0x0, 0x0, 0x0⟩,
  ⟨0x1000, 16, 0x10, 1, 0x0, 0x6200000, 0xfff0ffff, 0x0, 0x0, 0x0, 0x0⟩,
  ⟨0x1004, 16, 0x10, 1, 0x0, 0x0, 0xffffffff, 0x0, 0x0, 0x0, 0x0⟩,
  ⟨0x1008, 16, 0x10, 1, 0x0, 0x0, 0xffffffff, 0x0, 0x0, 0x0, 0x0⟩,
  ⟨0x100c, 16, 0x10, 1, 0x0, 0x0, 0x0, 0x0, 0x0, 0x0, 0x0⟩,
  ⟨0x1200, 16, 0x8, 1, 0x0, 0x100000, 0x1fffff, 0x0, 0x0, 0x0, 0x0⟩,
  ⟨0x1204, 16, 0x8, 1, 0x0, 0x0, 0x0, 0x0, 0x0, 0x0, 0x0⟩,
  ⟨0x1400, 12, 0x4, 1, 0x0, 0x0, 0x0, 0x80000000, 0x0, 0x0, 0x0⟩]
/-! Block DSQ at 0x160000. -/
/-- DSQ_CTRL (09_downstream.md R278). -/
def rDSQ_CTRL : Nat := 0x160000
/-- DSQ_CTRL.ADJUST. -/ def fDSQ_CTRL_ADJUST : Fld := ⟨15, 8⟩
/-- DSQ_CTRL.SAMPLE_EN. -/ def fDSQ_CTRL_SAMPLE_EN : Fld := ⟨0, 0⟩
/-- DSQ_ERR (09_downstream.md R278). -/
def rDSQ_ERR : Nat := 0x160004
/-- DSQ_ERR.AGED. -/ def fDSQ_ERR_AGED : Fld := ⟨4, 4⟩
/-- DSQ_ERR.TOO_LONG. -/ def fDSQ_ERR_TOO_LONG : Fld := ⟨3, 3⟩
/-- DSQ_ERR.GATE_LATE. -/ def fDSQ_ERR_GATE_LATE : Fld := ⟨2, 2⟩
/-- DSQ_ERR.GATE_CFG. -/ def fDSQ_ERR_GATE_CFG : Fld := ⟨1, 1⟩
/-- DSQ_ERR.ADMIT_REFUSED. -/ def fDSQ_ERR_ADMIT_REFUSED : Fld := ⟨0, 0⟩
/-- DSQ_GATE_SEL (09_downstream.md R278). -/
def rDSQ_GATE_SEL : Nat := 0x160010
/-- DSQ_GATE_SEL.TREE. -/ def fDSQ_GATE_SEL_TREE : Fld := ⟨5, 0⟩
/-- DSQ_SMP_SEL (09_downstream.md R278). -/
def rDSQ_SMP_SEL : Nat := 0x160020
/-- DSQ_SMP_SEL.GO. -/ def fDSQ_SMP_SEL_GO : Fld := ⟨31, 31⟩
/-- DSQ_SMP_SEL.CHAN. -/ def fDSQ_SMP_SEL_CHAN : Fld := ⟨17, 0⟩
/-- DSQ_SMP_DATA (09_downstream.md R278). -/
def rDSQ_SMP_DATA (i : Nat) : Nat := 0x160030 + 0x4 * i
/-- DSQ_TREE_CTRL (09_downstream.md R278). -/
def rDSQ_TREE_CTRL (i : Nat) : Nat := 0x161000 + 0x200 * i
/-- DSQ_TREE_CTRL.MAX_AGE. -/ def fDSQ_TREE_CTRL_MAX_AGE : Fld := ⟨15, 8⟩
/-- DSQ_TREE_CTRL.FRAG. -/ def fDSQ_TREE_CTRL_FRAG : Fld := ⟨2, 2⟩
/-- DSQ_TREE_CTRL.GATE_EN. -/ def fDSQ_TREE_CTRL_GATE_EN : Fld := ⟨1, 1⟩
/-- DSQ_ADMIT (09_downstream.md R278). -/
def rDSQ_ADMIT (i : Nat) : Nat := 0x161004 + 0x200 * i
/-- DSQ_ADMIT.LIMIT. -/ def fDSQ_ADMIT_LIMIT : Fld := ⟨26, 0⟩
/-- DSQ_ADMIT_USED (09_downstream.md R278). -/
def rDSQ_ADMIT_USED (i : Nat) : Nat := 0x161008 + 0x200 * i
/-- DSQ_ADMIT_USED.USED. -/ def fDSQ_ADMIT_USED_USED : Fld := ⟨26, 0⟩
/-- DSQ_GATE_STATUS (09_downstream.md R278). -/
def rDSQ_GATE_STATUS (i : Nat) : Nat := 0x16100c + 0x200 * i
/-- DSQ_GATE_STATUS.ARMED. -/ def fDSQ_GATE_STATUS_ARMED : Fld := ⟨31, 31⟩
/-- DSQ_GATE_STATUS.ACTIVE. -/ def fDSQ_GATE_STATUS_ACTIVE : Fld := ⟨30, 30⟩
/-- DSQ_GATE_STATUS.CUR_ENTRY. -/ def fDSQ_GATE_STATUS_CUR_ENTRY : Fld := ⟨15, 8⟩
/-- DSQ_GATE_STATUS.OPEN. -/ def fDSQ_GATE_STATUS_OPEN : Fld := ⟨7, 0⟩
/-- DSQ_GATE_CYCLE (09_downstream.md R278). -/
def rDSQ_GATE_CYCLE (i : Nat) : Nat := 0x161010 + 0x200 * i
/-- DSQ_GATE_CYCLE.CYCLE. -/ def fDSQ_GATE_CYCLE_CYCLE : Fld := ⟨29, 0⟩
/-- DSQ_GATE_BASE_LO (09_downstream.md R278). -/
def rDSQ_GATE_BASE_LO (i : Nat) : Nat := 0x161014 + 0x200 * i
/-- DSQ_GATE_BASE_HI (09_downstream.md R278). -/
def rDSQ_GATE_BASE_HI (i : Nat) : Nat := 0x161018 + 0x200 * i
/-- DSQ_GATE_CHANGE_LO (09_downstream.md R278). -/
def rDSQ_GATE_CHANGE_LO (i : Nat) : Nat := 0x16101c + 0x200 * i
/-- DSQ_GATE_CHANGE_HI (09_downstream.md R278). -/
def rDSQ_GATE_CHANGE_HI (i : Nat) : Nat := 0x161020 + 0x200 * i
/-- DSQ_GATE_CMD (09_downstream.md R278). -/
def rDSQ_GATE_CMD (i : Nat) : Nat := 0x161024 + 0x200 * i
/-- DSQ_GATE_CMD.COMMIT. -/ def fDSQ_GATE_CMD_COMMIT : Fld := ⟨31, 31⟩
/-- DSQ_GATE_CMD.ABORT. -/ def fDSQ_GATE_CMD_ABORT : Fld := ⟨30, 30⟩
/-- DSQ_GATE_CMD.LEN. -/ def fDSQ_GATE_CMD_LEN : Fld := ⟨8, 0⟩
/-- DSQ_GATE_ACT_CYCLE (09_downstream.md R278). -/
def rDSQ_GATE_ACT_CYCLE (i : Nat) : Nat := 0x161028 + 0x200 * i
/-- DSQ_GATE_ACT_CYCLE.CYCLE. -/ def fDSQ_GATE_ACT_CYCLE_CYCLE : Fld := ⟨29, 0⟩
/-- DSQ_TEN_CIR (09_downstream.md R278). -/
def rDSQ_TEN_CIR (i : Nat) (j : Nat) : Nat := 0x161040 + 0x200 * i + 0x10 * j
/-- DSQ_TEN_CIR.RATE. -/ def fDSQ_TEN_CIR_RATE : Fld := ⟨26, 0⟩
/-- DSQ_TEN_PIR (09_downstream.md R278). -/
def rDSQ_TEN_PIR (i : Nat) (j : Nat) : Nat := 0x161044 + 0x200 * i + 0x10 * j
/-- DSQ_TEN_PIR.RATE. -/ def fDSQ_TEN_PIR_RATE : Fld := ⟨26, 0⟩
/-- DSQ_TEN_WEIGHT (09_downstream.md R278). -/
def rDSQ_TEN_WEIGHT (i : Nat) (j : Nat) : Nat := 0x161048 + 0x200 * i + 0x10 * j
/-- DSQ_TEN_WEIGHT.WEIGHT. -/ def fDSQ_TEN_WEIGHT_WEIGHT : Fld := ⟨15, 0⟩
/-- DSQ_CNT (09_downstream.md R279). -/
def rDSQ_CNT (i : Nat) (j : Nat) : Nat := 0x161180 + 0x200 * i + 0x4 * j
/-- DSQ_HIST_CFG (09_downstream.md R278). -/
def rDSQ_HIST_CFG (i : Nat) : Nat := 0x168000 + 0x100 * i
/-- DSQ_HIST_CFG.EN. -/ def fDSQ_HIST_CFG_EN : Fld := ⟨31, 31⟩
/-- DSQ_HIST_CFG.SCOPE. -/ def fDSQ_HIST_CFG_SCOPE : Fld := ⟨30, 29⟩
/-- DSQ_HIST_CFG.TREE. -/ def fDSQ_HIST_CFG_TREE : Fld := ⟨28, 23⟩
/-- DSQ_HIST_CFG.INDEX. -/ def fDSQ_HIST_CFG_INDEX : Fld := ⟨17, 0⟩
/-- DSQ_HIST_BASE (09_downstream.md R278). -/
def rDSQ_HIST_BASE (i : Nat) : Nat := 0x168004 + 0x100 * i
/-- DSQ_HIST_BASE.BASE_NS. -/ def fDSQ_HIST_BASE_BASE_NS : Fld := ⟨15, 0⟩
/-- DSQ_HIST_CMD (09_downstream.md R278). -/
def rDSQ_HIST_CMD (i : Nat) : Nat := 0x168008 + 0x100 * i
/-- DSQ_HIST_CMD.READY. -/ def fDSQ_HIST_CMD_READY : Fld := ⟨31, 31⟩
/-- DSQ_HIST_CMD.CLEAR. -/ def fDSQ_HIST_CMD_CLEAR : Fld := ⟨1, 1⟩
/-- DSQ_HIST_CMD.COPY. -/ def fDSQ_HIST_CMD_COPY : Fld := ⟨0, 0⟩
/-- DSQ_HIST_BIN (09_downstream.md R276). -/
def rDSQ_HIST_BIN (i : Nat) (j : Nat) : Nat := 0x168080 + 0x100 * i + 0x4 * j
/-- Reset values and access masks of block DSQ. -/
def rowsDSQ : List RegRow := [
  ⟨0x0, 1, 0x0, 1, 0x0, 0x801, 0xff01, 0x0, 0x0, 0x0, 0x0⟩,
  ⟨0x4, 1, 0x0, 1, 0x0, 0x0, 0x0, 0x1f, 0x0, 0x0, 0x0⟩,
  ⟨0x10, 1, 0x0, 1, 0x0, 0x0, 0x3f, 0x0, 0x0, 0x0, 0x0⟩,
  ⟨0x20, 1, 0x0, 1, 0x0, 0x0, 0x3ffff, 0x0, 0x80000000, 0x0, 0x0⟩,
  ⟨0x30, 4, 0x4, 1, 0x0, 0x0, 0x0, 0x0, 0x0, 0x0, 0x0⟩,
  ⟨0x1000, 48, 0x200, 1, 0x0, 0x4, 0xff06, 0x0, 0x0, 0x0, 0x0⟩,
  ⟨0x1004, 48, 0x200, 1, 0x0, 0x0, 0x7ffffff, 0x0, 0x0, 0x0, 0x0⟩,
  ⟨0x1008, 48, 0x200, 1, 0x0, 0x0, 0x0, 0x0, 0x0, 0x0, 0x0⟩,
  ⟨0x100c, 48, 0x200, 1, 0x0, 0xff, 0x0, 0x0, 0x0, 0x0, 0x0⟩,
  ⟨0x1010, 48, 0x200, 1, 0x0, 0x1e848, 0x3fffffff, 0x0, 0x0, 0x0, 0x0⟩,
  ⟨0x1014, 48, 0x200, 1, 0x0, 0x0, 0xffffffff, 0x0, 0x0, 0x0, 0x0⟩,
  ⟨0x1018, 48, 0x200, 1, 0x0, 0x0, 0xffffffff, 0x0, 0x0, 0x0, 0x0⟩,
  ⟨0x101c, 48, 0x200, 1, 0x0, 0x0, 0xffffffff, 0x0, 0x0, 0x0, 0x0⟩,
  ⟨0x1020, 48, 0x200, 1, 0x0, 0x0, 0xffffffff, 0x0, 0x0, 0x0, 0x0⟩,
  ⟨0x1024, 48, 0x200, 1, 0x0, 0x1, 0x1ff, 0x0, 0xc0000000, 0x0, 0x0⟩,
  ⟨0x1028, 48, 0x200, 1, 0x0, 0x0, 0x0, 0x0, 0x0, 0x0, 0x0⟩,
  ⟨0x1040, 48, 0x200, 17, 0x10, 0x0, 0x7ffffff, 0x0, 0x0, 0x0, 0x0⟩,
  ⟨0x1044, 48, 0x200, 17, 0x10, 0x0, 0x7ffffff, 0x0, 0x0, 0x0, 0x0⟩,
  ⟨0x1048, 48, 0x200, 17, 0x10, 0x1, 0xffff, 0x0, 0x0, 0x0, 0x0⟩,
  ⟨0x1180, 48, 0x200, 8, 0x4, 0x0, 0x0, 0x80000000, 0x0, 0x0, 0x0⟩,
  ⟨0x8000, 64, 0x100, 1, 0x0, 0x0, 0xff83ffff, 0x0, 0x0, 0x0, 0x0⟩,
  ⟨0x8004, 64, 0x100, 1, 0x0, 0xfa, 0xffff, 0x0, 0x0, 0x0, 0x0⟩,
  ⟨0x8008, 64, 0x100, 1, 0x0, 0x0, 0x0, 0x0, 0x3, 0x0, 0x0⟩,
  ⟨0x8080, 64, 0x100, 32, 0x4, 0x0, 0x0, 0x80000000, 0x0, 0x0, 0x0⟩]
/-! Block LADLE at 0x170000. -/
/-- LADLE_CTRL (07_ladle_demand.md R221). -/
def rLADLE_CTRL : Nat := 0x170000
/-- LADLE_CTRL.REPORT_AGE. -/ def fLADLE_CTRL_REPORT_AGE : Fld := ⟨31, 24⟩
/-- LADLE_CTRL.PROBE_PERIOD. -/ def fLADLE_CTRL_PROBE_PERIOD : Fld := ⟨23, 16⟩
/-- LADLE_CTRL.PLOAM_PERIOD. -/ def fLADLE_CTRL_PLOAM_PERIOD : Fld := ⟨15, 8⟩
/-- LADLE_CTRL.MON_SHIFT. -/ def fLADLE_CTRL_MON_SHIFT : Fld := ⟨7, 4⟩
/-- LADLE_NOTICE_CTRL (07_ladle_demand.md R221). -/
def rLADLE_NOTICE_CTRL : Nat := 0x170004
/-- LADLE_NOTICE_CTRL.OUI. -/ def fLADLE_NOTICE_CTRL_OUI : Fld := ⟨31, 8⟩
/-- LADLE_NOTICE_CTRL.UDP_EN. -/ def fLADLE_NOTICE_CTRL_UDP_EN : Fld := ⟨4, 4⟩
/-- LADLE_NOTICE_CTRL.EN. -/ def fLADLE_NOTICE_CTRL_EN : Fld := ⟨3, 3⟩
/-- LADLE_DEFALLOC (07_ladle_demand.md R221). -/
def rLADLE_DEFALLOC : Nat := 0x170008
/-- LADLE_DEFALLOC.MAX_RATE. -/ def fLADLE_DEFALLOC_MAX_RATE : Fld := ⟨25, 0⟩
/-- LADLE_ERR (07_ladle_demand.md R221). -/
def rLADLE_ERR : Nat := 0x17000c
/-- LADLE_ERR.STORE_FULL. -/ def fLADLE_ERR_STORE_FULL : Fld := ⟨3, 3⟩
/-- LADLE_ERR.ADMIT_REFUSED. -/ def fLADLE_ERR_ADMIT_REFUSED : Fld := ⟨2, 2⟩
/-- LADLE_ERR.NOTICE_REFUSED. -/ def fLADLE_ERR_NOTICE_REFUSED : Fld := ⟨1, 1⟩
/-- LADLE_ERR.REPORT_BAD. -/ def fLADLE_ERR_REPORT_BAD : Fld := ⟨0, 0⟩
/-- LADLE_STATUS (07_ladle_demand.md R221). -/
def rLADLE_STATUS : Nat := 0x170010
/-- LADLE_STATUS.PENDING. -/ def fLADLE_STATUS_PENDING : Fld := ⟨15, 0⟩
/-- LADLE_MAP_CTRL (08_ladle_maps.md R251). -/
def rLADLE_MAP_CTRL : Nat := 0x170014
/-- LADLE_MAP_CTRL.DESC_LEAD. -/ def fLADLE_MAP_CTRL_DESC_LEAD : Fld := ⟨15, 8⟩
/-- LADLE_MAP_CTRL.STALE. -/ def fLADLE_MAP_CTRL_STALE : Fld := ⟨7, 4⟩
/-- LADLE_MAP_CTRL.FIXED_CARRY. -/ def fLADLE_MAP_CTRL_FIXED_CARRY : Fld := ⟨1, 1⟩
/-- LADLE_MAP_CTRL.CHAIN_EN. -/ def fLADLE_MAP_CTRL_CHAIN_EN : Fld := ⟨0, 0⟩
/-- LADLE_MAP_ERR (08_ladle_maps.md R251). -/
def rLADLE_MAP_ERR : Nat := 0x170018
/-- LADLE_MAP_ERR.NO_PROFILE. -/ def fLADLE_MAP_ERR_NO_PROFILE : Fld := ⟨4, 4⟩
/-- LADLE_MAP_ERR.INFLIGHT_STALE. -/ def fLADLE_MAP_ERR_INFLIGHT_STALE : Fld := ⟨3, 3⟩
/-- LADLE_MAP_ERR.FIXED_DROPPED. -/ def fLADLE_MAP_ERR_FIXED_DROPPED : Fld := ⟨2, 2⟩
/-- LADLE_MAP_ERR.NOTICE_UNPLACED. -/ def fLADLE_MAP_ERR_NOTICE_UNPLACED : Fld := ⟨1, 1⟩
/-- LADLE_MAP_ERR.CHECK_FAIL. -/ def fLADLE_MAP_ERR_CHECK_FAIL : Fld := ⟨0, 0⟩
/-- LADLE_INFLIGHT (08_ladle_maps.md R251). -/
def rLADLE_INFLIGHT : Nat := 0x17001c
/-- LADLE_INFLIGHT.COUNT. -/ def fLADLE_INFLIGHT_COUNT : Fld := ⟨17, 0⟩
/-- LADLE_IFT_SEL (08_ladle_maps.md R251). -/
def rLADLE_IFT_SEL : Nat := 0x170020
/-- LADLE_IFT_SEL.GO. -/ def fLADLE_IFT_SEL_GO : Fld := ⟨31, 31⟩
/-- LADLE_IFT_SEL.TREE. -/ def fLADLE_IFT_SEL_TREE : Fld := ⟨27, 22⟩
/-- LADLE_IFT_SEL.ENTRY. -/ def fLADLE_IFT_SEL_ENTRY : Fld := ⟨11, 0⟩
/-- LADLE_IFT_DATA (08_ladle_maps.md R251). -/
def rLADLE_IFT_DATA (i : Nat) : Nat := 0x170030 + 0x4 * i
/-- LADLE_ADMIT (07_ladle_demand.md R221). -/
def rLADLE_ADMIT (i : Nat) : Nat := 0x170100 + 0x8 * i
/-- LADLE_ADMIT.LIMIT. -/ def fLADLE_ADMIT_LIMIT : Fld := ⟨25, 0⟩
/-- LADLE_ADMIT_USED (07_ladle_demand.md R221). -/
def rLADLE_ADMIT_USED (i : Nat) : Nat := 0x170104 + 0x8 * i
/-- LADLE_ADMIT_USED.USED. -/ def fLADLE_ADMIT_USED_USED : Fld := ⟨25, 0⟩
/-- LADLE_CNT (07_ladle_demand.md R222). -/
def rLADLE_CNT (i : Nat) : Nat := 0x170400 + 0x4 * i
/-- LADLE_NSRC_MAC_LO (07_ladle_demand.md R221). -/
def rLADLE_NSRC_MAC_LO (i : Nat) : Nat := 0x171000 + 0x10 * i
/-- LADLE_NSRC_W4 (07_ladle_demand.md R221). -/
def rLADLE_NSRC_W4 (i : Nat) : Nat := 0x171004 + 0x10 * i
/-- LADLE_NSRC_W4.VLAN_EN. -/ def fLADLE_NSRC_W4_VLAN_EN : Fld := ⟨31, 31⟩
/-- LADLE_NSRC_W4.VID. -/ def fLADLE_NSRC_W4_VID : Fld := ⟨27, 16⟩
/-- LADLE_NSRC_W4.MAC_HI. -/ def fLADLE_NSRC_W4_MAC_HI : Fld := ⟨15, 0⟩
/-- LADLE_NSRC_W8 (07_ladle_demand.md R221). -/
def rLADLE_NSRC_W8 (i : Nat) : Nat := 0x171008 + 0x10 * i
/-- LADLE_NSRC_W8.VALID. -/ def fLADLE_NSRC_W8_VALID : Fld := ⟨31, 31⟩
/-- LADLE_NSRC_W8.SEEN. -/ def fLADLE_NSRC_W8_SEEN : Fld := ⟨30, 30⟩
/-- LADLE_NSRC_W8.TENANT. -/ def fLADLE_NSRC_W8_TENANT : Fld := ⟨12, 8⟩
/-- LADLE_NSRC_W8.KIND. -/ def fLADLE_NSRC_W8_KIND : Fld := ⟨7, 6⟩
/-- LADLE_NSRC_W8.INDEX. -/ def fLADLE_NSRC_W8_INDEX : Fld := ⟨5, 0⟩
/-- LADLE_NSRC_LAST_SEQ (07_ladle_demand.md R221). -/
def rLADLE_NSRC_LAST_SEQ (i : Nat) : Nat := 0x17100c + 0x10 * i
/-- LADLE_MAP_STAT0 (08_ladle_maps.md R252). -/
def rLADLE_MAP_STAT0 (i : Nat) : Nat := 0x172000 + 0x10 * i
/-- LADLE_MAP_STAT0.CHECK. -/ def fLADLE_MAP_STAT0_CHECK : Fld := ⟨31, 28⟩
/-- LADLE_MAP_STAT0.GRANTS. -/ def fLADLE_MAP_STAT0_GRANTS : Fld := ⟨9, 0⟩
/-- LADLE_MAP_STAT4 (08_ladle_maps.md R252). -/
def rLADLE_MAP_STAT4 (i : Nat) : Nat := 0x172004 + 0x10 * i
/-- LADLE_MAP_STAT4.USED. -/ def fLADLE_MAP_STAT4_USED : Fld := ⟨19, 0⟩
/-- LADLE_MAP_STAT8 (08_ladle_maps.md R252). -/
def rLADLE_MAP_STAT8 (i : Nat) : Nat := 0x172008 + 0x10 * i
/-- LADLE_MAP_STAT8.DONE_NS. -/ def fLADLE_MAP_STAT8_DONE_NS : Fld := ⟨16, 0⟩
/-- LADLE_MAP_STATC (08_ladle_maps.md R252). -/
def rLADLE_MAP_STATC (i : Nat) : Nat := 0x17200c + 0x10 * i
/-- LADLE_MAP_STATC.INFLIGHT. -/ def fLADLE_MAP_STATC_INFLIGHT : Fld := ⟨12, 0⟩
/-- Reset values and access masks of block LADLE. -/
def rowsLADLE : List RegRow := [
  ⟨0x0, 1, 0x0, 1, 0x0, 0x10081040, 0xfffffff0, 0x0, 0x0, 0x0, 0x0⟩,
  ⟨0x4, 1, 0x0, 1, 0x0, 0x7ac31008, 0xffffff18, 0x0, 0x0, 0x0, 0x0⟩,
  ⟨0x8, 1, 0x0, 1, 0x0, 0xf4240, 0x3ffffff, 0x0, 0x0, 0x0, 0x0⟩,
  ⟨0xc, 1, 0x0, 1, 0x0, 0x0, 0x0, 0xf, 0x0, 0x0, 0x0⟩,
  ⟨0x10, 1, 0x0, 1, 0x0, 0x0, 0x0, 0x0, 0x0, 0x0, 0x0⟩,
  ⟨0x14, 1, 0x0, 1, 0x0, 0x443, 0xfff3, 0x0, 0x0, 0x0, 0x0⟩,
  ⟨0x18, 1, 0x0, 1, 0x0, 0x0, 0x0, 0x1f, 0x0, 0x0, 0x0⟩,
  ⟨0x1c, 1, 0x0, 1, 0x0, 0x0, 0x0, 0x0, 0x0, 0x0, 0x0⟩,
  ⟨0x20, 1, 0x0, 1, 0x0, 0x0, 0xfc00fff, 0x0, 0x80000000, 0x0, 0x0⟩,
  ⟨0x30, 4, 0x4, 1, 0x0, 0x0, 0x0, 0x0, 0x0, 0x0, 0x0⟩,
  ⟨0x100, 48, 0x8, 1, 0x0, 0x0, 0x3ffffff, 0x0, 0x0, 0x0, 0x0⟩,
  ⟨0x104, 48, 0x8, 1, 0x0, 0x0, 0x0, 0x0, 0x0, 0x0, 0x0⟩,
  ⟨0x400, 32, 0x4, 1, 0x0, 0x0, 0x0, 0x80000000, 0x0, 0x0, 0x0⟩,
  ⟨0x1000, 256, 0x10, 1, 0x0, 0x0, 0xffffffff, 0x0, 0x0, 0x0, 0x0⟩,
  ⟨0x1004, 256, 0x10, 1, 0x0, 0x0, 0x8fffffff, 0x0, 0x0, 0x0, 0x0⟩,
  ⟨0x1008, 256, 0x10, 1, 0x0, 0x0, 0x80001fff, 0x0, 0x0, 0x0, 0x0⟩,
  ⟨0x100c, 256, 0x10, 1, 0x0, 0x0, 0x0, 0x0, 0x0, 0x0, 0x0⟩,
  ⟨0x2000, 48, 0x10, 1, 0x0, 0x0, 0x0, 0x0, 0x0, 0x0, 0x0⟩,
  ⟨0x2004, 48, 0x10, 1, 0x0, 0x0, 0x0, 0x0, 0x0, 0x0, 0x0⟩,
  ⟨0x2008, 48, 0x10, 1, 0x0, 0x0, 0x0, 0x0, 0x0, 0x0, 0x0⟩,
  ⟨0x200c, 48, 0x10, 1, 0x0, 0x0, 0x0, 0x0, 0x0, 0x0, 0x0⟩]
/-! Block CAT at 0x180000. -/
/-- CAT_CTRL (06_catalogue.md R183). -/
def rCAT_CTRL : Nat := 0x180000
/-- CAT_CTRL.QUARANTINE. -/ def fCAT_CTRL_QUARANTINE : Fld := ⟨23, 16⟩
/-- CAT_CTRL.MISS_URG. -/ def fCAT_CTRL_MISS_URG : Fld := ⟨11, 10⟩
/-- CAT_CTRL.WB_URG. -/ def fCAT_CTRL_WB_URG : Fld := ⟨9, 8⟩
/-- CAT_STATUS (06_catalogue.md R183). -/
def rCAT_STATUS : Nat := 0x180004
/-- CAT_STATUS.READY. -/ def fCAT_STATUS_READY : Fld := ⟨31, 31⟩
/-- CAT_STATUS.WB_ACTIVE. -/ def fCAT_STATUS_WB_ACTIVE : Fld := ⟨30, 30⟩
/-- CAT_ERR (06_catalogue.md R183). -/
def rCAT_ERR : Nat := 0x180008
/-- CAT_ERR.REC_REFUSED. -/ def fCAT_ERR_REC_REFUSED : Fld := ⟨4, 4⟩
/-- CAT_ERR.BASE_BUSY. -/ def fCAT_ERR_BASE_BUSY : Fld := ⟨3, 3⟩
/-- CAT_ERR.QUOTA_CFG. -/ def fCAT_ERR_QUOTA_CFG : Fld := ⟨2, 2⟩
/-- CAT_ERR.WB_LATE. -/ def fCAT_ERR_WB_LATE : Fld := ⟨1, 1⟩
/-- CAT_ERR.REC_FAULT. -/ def fCAT_ERR_REC_FAULT : Fld := ⟨0, 0⟩
/-- CAT_DIRTY (06_catalogue.md R183). -/
def rCAT_DIRTY : Nat := 0x18000c
/-- CAT_DIRTY.CHAN. -/ def fCAT_DIRTY_CHAN : Fld := ⟨27, 14⟩
/-- CAT_DIRTY.TERM. -/ def fCAT_DIRTY_TERM : Fld := ⟨9, 0⟩
/-- CAT_REC_CMD (06_catalogue.md R183). -/
def rCAT_REC_CMD : Nat := 0x180020
/-- CAT_REC_CMD.BUSY. -/ def fCAT_REC_CMD_BUSY : Fld := ⟨31, 31⟩
/-- CAT_REC_CMD.GO. -/ def fCAT_REC_CMD_GO : Fld := ⟨30, 30⟩
/-- CAT_REC_CMD.WRITE. -/ def fCAT_REC_CMD_WRITE : Fld := ⟨29, 29⟩
/-- CAT_REC_CMD.KIND. -/ def fCAT_REC_CMD_KIND : Fld := ⟨28, 27⟩
/-- CAT_REC_CMD.REASON. -/ def fCAT_REC_CMD_REASON : Fld := ⟨26, 24⟩
/-- CAT_REC_CMD.INDEX. -/ def fCAT_REC_CMD_INDEX : Fld := ⟨21, 0⟩
/-- CAT_BASE_LO (06_catalogue.md R183). -/
def rCAT_BASE_LO : Nat := 0x180010
/-- CAT_BASE_HI (06_catalogue.md R183). -/
def rCAT_BASE_HI : Nat := 0x180014
/-- CAT_REC_DATA (06_catalogue.md R183). -/
def rCAT_REC_DATA (i : Nat) : Nat := 0x180200 + 0x4 * i
/-- CAT_TEN_TERM_QUOTA (06_catalogue.md R185). -/
def rCAT_TEN_TERM_QUOTA (i : Nat) : Nat := 0x180400 + 0x40 * i
/-- CAT_TEN_TERM_QUOTA.MIN. -/ def fCAT_TEN_TERM_QUOTA_MIN : Fld := ⟨30, 16⟩
/-- CAT_TEN_TERM_QUOTA.MAX. -/ def fCAT_TEN_TERM_QUOTA_MAX : Fld := ⟨14, 0⟩
/-- CAT_TEN_ALLOC_MIN (06_catalogue.md R185). -/
def rCAT_TEN_ALLOC_MIN (i : Nat) : Nat := 0x180404 + 0x40 * i
/-- CAT_TEN_ALLOC_MIN.N. -/ def fCAT_TEN_ALLOC_MIN_N : Fld := ⟨16, 0⟩
/-- CAT_TEN_ALLOC_MAX (06_catalogue.md R185). -/
def rCAT_TEN_ALLOC_MAX (i : Nat) : Nat := 0x180408 + 0x40 * i
/-- CAT_TEN_ALLOC_MAX.N. -/ def fCAT_TEN_ALLOC_MAX_N : Fld := ⟨16, 0⟩
/-- CAT_TEN_CHAN_MIN (06_catalogue.md R185). -/
def rCAT_TEN_CHAN_MIN (i : Nat) : Nat := 0x18040c + 0x40 * i
/-- CAT_TEN_CHAN_MIN.N. -/ def fCAT_TEN_CHAN_MIN_N : Fld := ⟨18, 0⟩
/-- CAT_TEN_CHAN_MAX (06_catalogue.md R185). -/
def rCAT_TEN_CHAN_MAX (i : Nat) : Nat := 0x180410 + 0x40 * i
/-- CAT_TEN_CHAN_MAX.N. -/ def fCAT_TEN_CHAN_MAX_N : Fld := ⟨18, 0⟩
/-- CAT_TEN_TREES_LO (06_catalogue.md R185). -/
def rCAT_TEN_TREES_LO (i : Nat) : Nat := 0x180414 + 0x40 * i
/-- CAT_TEN_TREES_HI (06_catalogue.md R185). -/
def rCAT_TEN_TREES_HI (i : Nat) : Nat := 0x180418 + 0x40 * i
/-- CAT_TEN_TREES_HI.TREES. -/ def fCAT_TEN_TREES_HI_TREES : Fld := ⟨15, 0⟩
/-- CAT_TEN_TERM_USE (06_catalogue.md R185). -/
def rCAT_TEN_TERM_USE (i : Nat) : Nat := 0x18041c + 0x40 * i
/-- CAT_TEN_TERM_USE.N. -/ def fCAT_TEN_TERM_USE_N : Fld := ⟨14, 0⟩
/-- CAT_TEN_ALLOC_USE (06_catalogue.md R185). -/
def rCAT_TEN_ALLOC_USE (i : Nat) : Nat := 0x180420 + 0x40 * i
/-- CAT_TEN_ALLOC_USE.N. -/ def fCAT_TEN_ALLOC_USE_N : Fld := ⟨16, 0⟩
/-- CAT_TEN_CHAN_USE (06_catalogue.md R185). -/
def rCAT_TEN_CHAN_USE (i : Nat) : Nat := 0x180424 + 0x40 * i
/-- CAT_TEN_CHAN_USE.N. -/ def fCAT_TEN_CHAN_USE_N : Fld := ⟨18, 0⟩
/-- CAT_TEN_OWNER_USE (06_catalogue.md R185). -/
def rCAT_TEN_OWNER_USE (i : Nat) : Nat := 0x180428 + 0x40 * i
/-- CAT_TEN_OWNER_USE.N. -/ def fCAT_TEN_OWNER_USE_N : Fld := ⟨18, 0⟩
/-- CAT_TEN_OWNER_SEL (06_catalogue.md R185). -/
def rCAT_TEN_OWNER_SEL (i : Nat) : Nat := 0x18042c + 0x40 * i
/-- CAT_TEN_OWNER_SEL.SEL. -/ def fCAT_TEN_OWNER_SEL_SEL : Fld := ⟨1, 0⟩
/-- CAT_CNT (06_catalogue.md R186). -/
def rCAT_CNT (i : Nat) : Nat := 0x180800 + 0x4 * i
/-- Reset values and access masks of block CAT. -/
def rowsCAT : List RegRow := [
  ⟨0x0, 1, 0x0, 1, 0x0, 0x100900, 0xff0f00, 0x0, 0x0, 0x0, 0x0⟩,
  ⟨0x4, 1, 0x0, 1, 0x0, 0x0, 0x0, 0x0, 0x0, 0x0, 0x0⟩,
  ⟨0x8, 1, 0x0, 1, 0x0, 0x0, 0x0, 0x1f, 0x0, 0x0, 0x0⟩,
  ⟨0xc, 1, 0x0, 1, 0x0, 0x0, 0x0, 0x0, 0x0, 0x0, 0x0⟩,
  ⟨0x20, 1, 0x0, 1, 0x0, 0x0, 0x383fffff, 0x0, 0x40000000, 0x0, 0x0⟩,
  ⟨0x10, 1, 0x0, 1, 0x0, 0x0, 0xffffffff, 0x0, 0x0, 0x0, 0x0⟩,
  ⟨0x14, 1, 0x0, 1, 0x0, 0x0, 0xffffffff, 0x0, 0x0, 0x0, 0x0⟩,
  ⟨0x200, 128, 0x4, 1, 0x0, 0x0, 0xffffffff, 0x0, 0x0, 0x0, 0x0⟩,
  ⟨0x400, 16, 0x40, 1, 0x0, 0x0, 0x7fff7fff, 0x0, 0x0, 0x0, 0x0⟩,
  ⟨0x404, 16, 0x40, 1, 0x0, 0x0, 0x1ffff, 0x0, 0x0, 0x0, 0x0⟩,
  ⟨0x408, 16, 0x40, 1, 0x0, 0x0, 0x1ffff, 0x0, 0x0, 0x0, 0x0⟩,
  ⟨0x40c, 16, 0x40, 1, 0x0, 0x0, 0x7ffff, 0x0, 0x0, 0x0, 0x0⟩,
  ⟨0x410, 16, 0x40, 1, 0x0, 0x0, 0x7ffff, 0x0, 0x0, 0x0, 0x0⟩,
  ⟨0x414, 16, 0x40, 1, 0x0, 0x0, 0xffffffff, 0x0, 0x0, 0x0, 0x0⟩,
  ⟨0x418, 16, 0x40, 1, 0x0, 0x0, 0xffff, 0x0, 0x0, 0x0, 0x0⟩,
  ⟨0x41c, 16, 0x40, 1, 0x0, 0x0, 0x0, 0x0, 0x0, 0x0, 0x0⟩,
  ⟨0x420, 16, 0x40, 1, 0x0, 0x0, 0x0, 0x0, 0x0, 0x0, 0x0⟩,
  ⟨0x424, 16, 0x40, 1, 0x0, 0x0, 0x0, 0x0, 0x0, 0x0, 0x0⟩,
  ⟨0x428, 16, 0x40, 1, 0x0, 0x0, 0x0, 0x0, 0x0, 0x0, 0x0⟩,
  ⟨0x42c, 16, 0x40, 1, 0x0, 0x0, 0x3, 0x0, 0x0, 0x0, 0x0⟩,
  ⟨0x800, 13, 0x4, 1, 0x0, 0x0, 0x0, 0x80000000, 0x0, 0x0, 0x0⟩]
/-! Block SIEVE at 0x190000. -/
/-- PROT_CTRL (17_protection.md R516). -/
def rPROT_CTRL : Nat := 0x190000
/-- PROT_CTRL.TRIB. -/ def fPROT_CTRL_TRIB : Fld := ⟨25, 20⟩
/-- PROT_CTRL.DARK_MIN. -/ def fPROT_CTRL_DARK_MIN : Fld := ⟨19, 16⟩
/-- PROT_CTRL.TEST_PERIOD. -/ def fPROT_CTRL_TEST_PERIOD : Fld := ⟨15, 8⟩
/-- PROT_CTRL.TEST_AGE. -/ def fPROT_CTRL_TEST_AGE : Fld := ⟨7, 0⟩
/-- PROT_TIMERS (17_protection.md R516). -/
def rPROT_TIMERS : Nat := 0x190004
/-- PROT_TIMERS.HOLDOFF. -/ def fPROT_TIMERS_HOLDOFF : Fld := ⟨31, 16⟩
/-- PROT_TIMERS.RESET_TICKS. -/ def fPROT_TIMERS_RESET_TICKS : Fld := ⟨15, 8⟩
/-- PROT_TIMERS.OOW_LIM. -/ def fPROT_TIMERS_OOW_LIM : Fld := ⟨7, 0⟩
/-- PROT_ERR (17_protection.md R516). -/
def rPROT_ERR : Nat := 0x190008
/-- PROT_ERR.CFG_BUSY. -/ def fPROT_ERR_CFG_BUSY : Fld := ⟨8, 8⟩
/-- PROT_ERR.SEQ_CONFIG_FAIL. -/ def fPROT_ERR_SEQ_CONFIG_FAIL : Fld := ⟨7, 7⟩
/-- PROT_ERR.MIRROR_FAIL. -/ def fPROT_ERR_MIRROR_FAIL : Fld := ⟨6, 6⟩
/-- PROT_ERR.STBY_FAIL. -/ def fPROT_ERR_STBY_FAIL : Fld := ⟨5, 5⟩
/-- PROT_ERR.PATH_DOWN. -/ def fPROT_ERR_PATH_DOWN : Fld := ⟨4, 4⟩
/-- PROT_ERR.TAKEOVER. -/ def fPROT_ERR_TAKEOVER : Fld := ⟨3, 3⟩
/-- PROT_ERR.MATE_LOST. -/ def fPROT_ERR_MATE_LOST : Fld := ⟨2, 2⟩
/-- PROT_ERR.REFUSED. -/ def fPROT_ERR_REFUSED : Fld := ⟨1, 1⟩
/-- PROT_ERR.BAD_TAG. -/ def fPROT_ERR_BAD_TAG : Fld := ⟨0, 0⟩
/-- PROT_STATUS (17_protection.md R516). -/
def rPROT_STATUS : Nat := 0x19000c
/-- PROT_STATUS.STREAMS. -/ def fPROT_STATUS_STREAMS : Fld := ⟨14, 0⟩
/-- SIEVE_SEL (17_protection.md R516). -/
def rSIEVE_SEL : Nat := 0x190010
/-- SIEVE_SEL.GO. -/ def fSIEVE_SEL_GO : Fld := ⟨31, 31⟩
/-- SIEVE_SEL.CHAN. -/ def fSIEVE_SEL_CHAN : Fld := ⟨17, 0⟩
/-- PROT_TEST_WIN (17_protection.md R516). -/
def rPROT_TEST_WIN : Nat := 0x190014
/-- PROT_TEST_WIN.NS. -/ def fPROT_TEST_WIN_NS : Fld := ⟨15, 0⟩
/-- SIEVE_DATA (17_protection.md R516). -/
def rSIEVE_DATA (i : Nat) : Nat := 0x190020 + 0x4 * i
/-- PROT_PAIR_CFG (17_protection.md R516). -/
def rPROT_PAIR_CFG (i : Nat) : Nat := 0x190100 + 0x10 * i
/-- PROT_PAIR_CFG.EN. -/ def fPROT_PAIR_CFG_EN : Fld := ⟨31, 31⟩
/-- PROT_PAIR_CFG.KIND. -/ def fPROT_PAIR_CFG_KIND : Fld := ⟨30, 30⟩
/-- PROT_PAIR_CFG.MODE. -/ def fPROT_PAIR_CFG_MODE : Fld := ⟨29, 29⟩
/-- PROT_PAIR_CFG.PREFER. -/ def fPROT_PAIR_CFG_PREFER : Fld := ⟨28, 28⟩
/-- PROT_PAIR_CFG.MATE_TREE. -/ def fPROT_PAIR_CFG_MATE_TREE : Fld := ⟨5, 0⟩
/-- PROT_PAIR_MATE (17_protection.md R516). -/
def rPROT_PAIR_MATE (i : Nat) : Nat := 0x190104 + 0x10 * i
/-- PROT_PAIR_MATE.VALID. -/ def fPROT_PAIR_MATE_VALID : Fld := ⟨31, 31⟩
/-- PROT_PAIR_MATE.SHELFMARK. -/ def fPROT_PAIR_MATE_SHELFMARK : Fld := ⟨19, 0⟩
/-- PROT_PAIR_STATE (17_protection.md R516). -/
def rPROT_PAIR_STATE (i : Nat) : Nat := 0x190108 + 0x10 * i
/-- PROT_PAIR_STATE.PAIR_STATE. -/ def fPROT_PAIR_STATE_PAIR_STATE : Fld := ⟨31, 29⟩
/-- PROT_PAIR_STATE.ROLE. -/ def fPROT_PAIR_STATE_ROLE : Fld := ⟨28, 26⟩
/-- PROT_PAIR_STATE.STBY_OK. -/ def fPROT_PAIR_STATE_STBY_OK : Fld := ⟨25, 25⟩
/-- PROT_PAIR_STATE.TREE_OK. -/ def fPROT_PAIR_STATE_TREE_OK : Fld := ⟨24, 24⟩
/-- PROT_PAIR_STATE.DARK. -/ def fPROT_PAIR_STATE_DARK : Fld := ⟨23, 23⟩
/-- PROT_PAIR_STATE.LATENCY. -/ def fPROT_PAIR_STATE_LATENCY : Fld := ⟨16, 0⟩
/-- PROT_PAIR_DELTA (17_protection.md R516). -/
def rPROT_PAIR_DELTA (i : Nat) : Nat := 0x19010c + 0x10 * i
/-- PROT_CNT (17_protection.md R517). -/
def rPROT_CNT (i : Nat) : Nat := 0x190400 + 0x4 * i
/-- Reset values and access masks of block SIEVE. -/
def rowsSIEVE : List RegRow := [
  ⟨0x0, 1, 0x0, 1, 0x0, 0x3f40840, 0x3ffffff, 0x0, 0x0, 0x0, 0x0⟩,
  ⟨0x4, 1, 0x0, 1, 0x0, 0x1f404008, 0xffffffff, 0x0, 0x0, 0x0, 0x0⟩,
  ⟨0x8, 1, 0x0, 1, 0x0, 0x0, 0x0, 0x1ff, 0x0, 0x0, 0x0⟩,
  ⟨0xc, 1, 0x0, 1, 0x0, 0x0, 0x0, 0x0, 0x0, 0x0, 0x0⟩,
  ⟨0x10, 1, 0x0, 1, 0x0, 0x0, 0x3ffff, 0x0, 0x80000000, 0x0, 0x0⟩,
  ⟨0x14, 1, 0x0, 1, 0x0, 0x2710, 0xffff, 0x0, 0x0, 0x0, 0x0⟩,
  ⟨0x20, 10, 0x4, 1, 0x0, 0x0, 0x0, 0x0, 0x0, 0x0, 0x0⟩,
  ⟨0x100, 48, 0x10, 1, 0x0, 0x0, 0xf000003f, 0x0, 0x0, 0x0, 0x0⟩,
  ⟨0x104, 48, 0x10, 1, 0x0, 0x0, 0x800fffff, 0x0, 0x0, 0x0, 0x0⟩,
  ⟨0x108, 48, 0x10, 1, 0x0, 0x0, 0x0, 0x0, 0x0, 0x0, 0x0⟩,
  ⟨0x10c, 48, 0x10, 1, 0x0, 0x0, 0x0, 0x0, 0x0, 0x0, 0x0⟩,
  ⟨0x400, 16, 0x4, 1, 0x0, 0x0, 0x0, 0x80000000, 0x0, 0x0, 0x0⟩]
/-! Block CIPH at 0x1a0000. -/
/-- CIPH_CTRL (10_cipher.md R311). -/
def rCIPH_CTRL : Nat := 0x1a0000
/-- CIPH_CTRL.SA_LIMIT_EXP. -/ def fCIPH_CTRL_SA_LIMIT_EXP : Fld := ⟨29, 24⟩
/-- CIPH_CTRL.TREE_LIMIT_EXP. -/ def fCIPH_CTRL_TREE_LIMIT_EXP : Fld := ⟨21, 16⟩
/-- CIPH_CTRL.FW_KEYS. -/ def fCIPH_CTRL_FW_KEYS : Fld := ⟨0, 0⟩
/-- CIPH_STATUS (10_cipher.md R311). -/
def rCIPH_STATUS : Nat := 0x1a0004
/-- CIPH_STATUS.STATE. -/ def fCIPH_STATUS_STATE : Fld := ⟨31, 30⟩
/-- CIPH_STATUS.SPARES_FREE. -/ def fCIPH_STATUS_SPARES_FREE : Fld := ⟨25, 24⟩
/-- CIPH_STATUS.FENCED_NUM. -/ def fCIPH_STATUS_FENCED_NUM : Fld := ⟨7, 0⟩
/-- CIPH_ERR (10_cipher.md R311). -/
def rCIPH_ERR : Nat := 0x1a0008
/-- CIPH_ERR.SA_EXHAUSTED. -/ def fCIPH_ERR_SA_EXHAUSTED : Fld := ⟨4, 4⟩
/-- CIPH_ERR.UNWRAP_FAIL. -/ def fCIPH_ERR_UNWRAP_FAIL : Fld := ⟨3, 3⟩
/-- CIPH_ERR.ENGINE_FENCED. -/ def fCIPH_ERR_ENGINE_FENCED : Fld := ⟨2, 2⟩
/-- CIPH_ERR.KEY_EXHAUSTED. -/ def fCIPH_ERR_KEY_EXHAUSTED : Fld := ⟨1, 1⟩
/-- CIPH_ERR.KEY_WARN. -/ def fCIPH_ERR_KEY_WARN : Fld := ⟨0, 0⟩
/-- CIPH_KEY_SEL (10_cipher.md R311). -/
def rCIPH_KEY_SEL : Nat := 0x1a0010
/-- CIPH_KEY_SEL.GO. -/ def fCIPH_KEY_SEL_GO : Fld := ⟨31, 31⟩
/-- CIPH_KEY_SEL.SLOT. -/ def fCIPH_KEY_SEL_SLOT : Fld := ⟨14, 14⟩
/-- CIPH_KEY_SEL.INDEX. -/ def fCIPH_KEY_SEL_INDEX : Fld := ⟨13, 0⟩
/-- CIPH_KEY_INFO (10_cipher.md R311). -/
def rCIPH_KEY_INFO : Nat := 0x1a0014
/-- CIPH_KEY_INFO.INSTALLED. -/ def fCIPH_KEY_INFO_INSTALLED : Fld := ⟨31, 31⟩
/-- CIPH_KEY_INFO.CURRENT. -/ def fCIPH_KEY_INFO_CURRENT : Fld := ⟨30, 30⟩
/-- CIPH_KEY_INFO.PENDING. -/ def fCIPH_KEY_INFO_PENDING : Fld := ⟨29, 29⟩
/-- CIPH_KEY_INFO.WARNED. -/ def fCIPH_KEY_INFO_WARNED : Fld := ⟨28, 28⟩
/-- CIPH_KEY_INFO.EXHAUSTED. -/ def fCIPH_KEY_INFO_EXHAUSTED : Fld := ⟨27, 27⟩
/-- CIPH_KEY_INFO.AES256. -/ def fCIPH_KEY_INFO_AES256 : Fld := ⟨26, 26⟩
/-- CIPH_KEY_INFO.BLOCKED. -/ def fCIPH_KEY_INFO_BLOCKED : Fld := ⟨25, 25⟩
/-- CIPH_KEY_INFO.LIMIT_EXP. -/ def fCIPH_KEY_INFO_LIMIT_EXP : Fld := ⟨24, 19⟩
/-- CIPH_TEST (10_cipher.md R311). -/
def rCIPH_TEST : Nat := 0x1a0020
/-- CIPH_TEST.START. -/ def fCIPH_TEST_START : Fld := ⟨31, 31⟩
/-- CIPH_TEST.BUSY. -/ def fCIPH_TEST_BUSY : Fld := ⟨30, 30⟩
/-- CIPH_TEST.DONE. -/ def fCIPH_TEST_DONE : Fld := ⟨29, 29⟩
/-- CIPH_TEST.PASS. -/ def fCIPH_TEST_PASS : Fld := ⟨28, 28⟩
/-- CIPH_TEST.NO_SPARE. -/ def fCIPH_TEST_NO_SPARE : Fld := ⟨27, 27⟩
/-- CIPH_TEST.ENGINE. -/ def fCIPH_TEST_ENGINE : Fld := ⟨7, 0⟩
/-- CIPH_KEY_COUNT_LO (10_cipher.md R311). -/
def rCIPH_KEY_COUNT_LO : Nat := 0x1a0018
/-- CIPH_KEY_COUNT_HI (10_cipher.md R311). -/
def rCIPH_KEY_COUNT_HI : Nat := 0x1a001c
/-- CIPH_FENCED (10_cipher.md R311). -/
def rCIPH_FENCED (i : Nat) : Nat := 0x1a0040 + 0x4 * i
/-- CIPH_CNT (10_cipher.md R312). -/
def rCIPH_CNT (i : Nat) : Nat := 0x1a0100 + 0x4 * i
/-- Reset values and access masks of block CIPH. -/
def rowsCIPH : List RegRow := [
  ⟨0x0, 1, 0x0, 1, 0x0, 0x1a1a0001, 0x3f3f0001, 0x0, 0x0, 0x0, 0x0⟩,
  ⟨0x4, 1, 0x0, 1, 0x0, 0x3000000, 0x0, 0x0, 0x0, 0x0, 0x0⟩,
  ⟨0x8, 1, 0x0, 1, 0x0, 0x0, 0x0, 0x1f, 0x0, 0x0, 0x0⟩,
  ⟨0x10, 1, 0x0, 1, 0x0, 0x0, 0x7fff, 0x0, 0x80000000, 0x0, 0x0⟩,
  ⟨0x14, 1, 0x0, 1, 0x0, 0x0, 0x0, 0x0, 0x0, 0x0, 0x0⟩,
  ⟨0x20, 1, 0x0, 1, 0x0, 0x0, 0xff, 0x0, 0x80000000, 0x0, 0x0⟩,
  ⟨0x18, 1, 0x0, 1, 0x0, 0x0, 0x0, 0x0, 0x0, 0x0, 0x0⟩,
  ⟨0x1c, 1, 0x0, 1, 0x0, 0x0, 0x0, 0x0, 0x0, 0x0, 0x0⟩,
  ⟨0x40, 5, 0x4, 1, 0x0, 0x0, 0x0, 0xffffffff, 0x0, 0x0, 0x0⟩,
  ⟨0x100, 8, 0x4, 1, 0x0, 0x0, 0x0, 0x80000000, 0x0, 0x0, 0x0⟩]
/-! Block TREE at 0x1000000. -/
/-- TREE_LINE_CTRL (03_tree_line.md R83). -/
def rTREE_LINE_CTRL (b : Nat) : Nat := 0x1000000 + 0x10000 * b
/-- TREE_LINE_CTRL.ACT_RX_INVERT. -/ def fTREE_LINE_CTRL_ACT_RX_INVERT : Fld := ⟨9, 9⟩
/-- TREE_LINE_CTRL.ACT_POL_AUTO. -/ def fTREE_LINE_CTRL_ACT_POL_AUTO : Fld := ⟨8, 8⟩
/-- TREE_LINE_CTRL.ACT_FITTED. -/ def fTREE_LINE_CTRL_ACT_FITTED : Fld := ⟨7, 7⟩
/-- TREE_LINE_CTRL.DS_PRECODE. -/ def fTREE_LINE_CTRL_DS_PRECODE : Fld := ⟨6, 6⟩
/-- TREE_LINE_CTRL.MODE. -/ def fTREE_LINE_CTRL_MODE : Fld := ⟨5, 4⟩
/-- TREE_LINE_CTRL.EN. -/ def fTREE_LINE_CTRL_EN : Fld := ⟨0, 0⟩
/-- TREE_LINE_STATUS (03_tree_line.md R83). -/
def rTREE_LINE_STATUS (b : Nat) : Nat := 0x1000004 + 0x10000 * b
/-- TREE_LINE_STATUS.MOD_STATE. -/ def fTREE_LINE_STATUS_MOD_STATE : Fld := ⟨31, 29⟩
/-- TREE_LINE_STATUS.PLL_LOCK. -/ def fTREE_LINE_STATUS_PLL_LOCK : Fld := ⟨28, 28⟩
/-- TREE_LINE_STATUS.FRAMING. -/ def fTREE_LINE_STATUS_FRAMING : Fld := ⟨27, 27⟩
/-- TREE_LINE_STATUS.LASER_ON. -/ def fTREE_LINE_STATUS_LASER_ON : Fld := ⟨26, 26⟩
/-- TREE_LINE_STATUS.DS_PRECODE_ACTIVE. -/ def fTREE_LINE_STATUS_DS_PRECODE_ACTIVE : Fld := ⟨25, 25⟩
/-- TREE_LINE_STATUS.COUNTDOWN. -/ def fTREE_LINE_STATUS_COUNTDOWN : Fld := ⟨24, 21⟩
/-- TREE_LINE_STATUS.ACT_SIGNAL. -/ def fTREE_LINE_STATUS_ACT_SIGNAL : Fld := ⟨20, 20⟩
/-- TREE_LINE_STATUS.ACT_POL_DETECTED. -/ def fTREE_LINE_STATUS_ACT_POL_DETECTED : Fld := ⟨19, 19⟩
/-- TREE_TXOFF (03_tree_line.md R83). -/
def rTREE_TXOFF (b : Nat) : Nat := 0x100000c + 0x10000 * b
/-- TREE_TXOFF.OFFSET. -/ def fTREE_TXOFF_OFFSET : Fld := ⟨9, 0⟩
/-- TREE_BRST (03_tree_line.md R83). -/
def rTREE_BRST (b : Nat) : Nat := 0x1000010 + 0x10000 * b
/-- TREE_BRST.POL. -/ def fTREE_BRST_POL : Fld := ⟨31, 31⟩
/-- TREE_BRST.SETUP. -/ def fTREE_BRST_SETUP : Fld := ⟨23, 16⟩
/-- TREE_BRST.WIDTH. -/ def fTREE_BRST_WIDTH : Fld := ⟨15, 8⟩
/-- TREE_BRST.DELAY. -/ def fTREE_BRST_DELAY : Fld := ⟨7, 0⟩
/-- TREE_RSSI_CTRL (03_tree_line.md R83). -/
def rTREE_RSSI_CTRL (b : Nat) : Nat := 0x1000018 + 0x10000 * b
/-- TREE_RSSI_CTRL.ARM. -/ def fTREE_RSSI_CTRL_ARM : Fld := ⟨31, 31⟩
/-- TREE_RSSI_CTRL.TERM. -/ def fTREE_RSSI_CTRL_TERM : Fld := ⟨29, 20⟩
/-- TREE_RSSI_CTRL.OFFSET. -/ def fTREE_RSSI_CTRL_OFFSET : Fld := ⟨19, 9⟩
/-- TREE_RSSI_CTRL.WIDTH. -/ def fTREE_RSSI_CTRL_WIDTH : Fld := ⟨7, 0⟩
/-- TREE_RSSI_STATUS (03_tree_line.md R83). -/
def rTREE_RSSI_STATUS (b : Nat) : Nat := 0x100001c + 0x10000 * b
/-- TREE_RSSI_STATUS.DONE. -/ def fTREE_RSSI_STATUS_DONE : Fld := ⟨31, 31⟩
/-- TREE_RSSI_STATUS.BURST_SEEN. -/ def fTREE_RSSI_STATUS_BURST_SEEN : Fld := ⟨30, 30⟩
/-- TREE_RSSI_STATUS.TIMEOUT. -/ def fTREE_RSSI_STATUS_TIMEOUT : Fld := ⟨29, 29⟩
/-- TREE_RSSI_STATUS.CLIPPED. -/ def fTREE_RSSI_STATUS_CLIPPED : Fld := ⟨28, 28⟩
/-- TREE_RSSI_STATUS.TICK. -/ def fTREE_RSSI_STATUS_TICK : Fld := ⟨27, 0⟩
/-- TREE_MOD_CTRL (03_tree_line.md R83). -/
def rTREE_MOD_CTRL (b : Nat) : Nat := 0x1000020 + 0x10000 * b
/-- TREE_MOD_CTRL.APP_ADDR. -/ def fTREE_MOD_CTRL_APP_ADDR : Fld := ⟨23, 16⟩
/-- TREE_MOD_CTRL.I2C_SPEED. -/ def fTREE_MOD_CTRL_I2C_SPEED : Fld := ⟨9, 8⟩
/-- TREE_MOD_CTRL.FORCE_TXDIS. -/ def fTREE_MOD_CTRL_FORCE_TXDIS : Fld := ⟨6, 6⟩
/-- TREE_MOD_CTRL.LPM. -/ def fTREE_MOD_CTRL_LPM : Fld := ⟨5, 5⟩
/-- TREE_MOD_CTRL.MOD_RESET. -/ def fTREE_MOD_CTRL_MOD_RESET : Fld := ⟨4, 4⟩
/-- TREE_MOD_CTRL.REIDENT. -/ def fTREE_MOD_CTRL_REIDENT : Fld := ⟨3, 3⟩
/-- TREE_MOD_STATUS (03_tree_line.md R83). -/
def rTREE_MOD_STATUS (b : Nat) : Nat := 0x1000024 + 0x10000 * b
/-- TREE_MOD_STATUS.ID. -/ def fTREE_MOD_STATUS_ID : Fld := ⟨31, 24⟩
/-- TREE_MOD_STATUS.APP. -/ def fTREE_MOD_STATUS_APP : Fld := ⟨23, 8⟩
/-- TREE_ERR (03_tree_line.md R83). -/
def rTREE_ERR (b : Nat) : Nat := 0x1000028 + 0x10000 * b
/-- TREE_ERR.MODE_BAD. -/ def fTREE_ERR_MODE_BAD : Fld := ⟨7, 7⟩
/-- TREE_ERR.MODE_BUSY. -/ def fTREE_ERR_MODE_BUSY : Fld := ⟨6, 6⟩
/-- TREE_ERR.MOD_INT. -/ def fTREE_ERR_MOD_INT : Fld := ⟨5, 5⟩
/-- TREE_ERR.PLL_UNLOCK. -/ def fTREE_ERR_PLL_UNLOCK : Fld := ⟨4, 4⟩
/-- TREE_ERR.PIN_FAULT. -/ def fTREE_ERR_PIN_FAULT : Fld := ⟨3, 3⟩
/-- TREE_ERR.MOD_REMOVED. -/ def fTREE_ERR_MOD_REMOVED : Fld := ⟨2, 2⟩
/-- TREE_ERR.MOD_REFUSED. -/ def fTREE_ERR_MOD_REFUSED : Fld := ⟨1, 1⟩
/-- TREE_ERR.I2C_NACK. -/ def fTREE_ERR_I2C_NACK : Fld := ⟨0, 0⟩
/-- TREE_PON_ID (03_tree_line.md R83). -/
def rTREE_PON_ID (b : Nat) : Nat := 0x1000008 + 0x10000 * b
/-- TREE_ACT_BRST (03_tree_line.md R83). -/
def rTREE_ACT_BRST (b : Nat) : Nat := 0x1000014 + 0x10000 * b
/-- TREE_ACT_BRST.POL. -/ def fTREE_ACT_BRST_POL : Fld := ⟨31, 31⟩
/-- TREE_ACT_BRST.SETUP. -/ def fTREE_ACT_BRST_SETUP : Fld := ⟨23, 16⟩
/-- TREE_ACT_BRST.WIDTH. -/ def fTREE_ACT_BRST_WIDTH : Fld := ⟨15, 8⟩
/-- TREE_ACT_BRST.DELAY. -/ def fTREE_ACT_BRST_DELAY : Fld := ⟨7, 0⟩
/-- TREE_PIN_FAULT (03_tree_line.md R83). -/
def rTREE_PIN_FAULT (b : Nat) : Nat := 0x100002c + 0x10000 * b
/-- TREE_PIN_FAULT.SHORT. -/ def fTREE_PIN_FAULT_SHORT : Fld := ⟨25, 16⟩
/-- TREE_PIN_FAULT.OPEN. -/ def fTREE_PIN_FAULT_OPEN : Fld := ⟨9, 0⟩
/-- TREE_BRST_SKIP (03_tree_line.md R83). -/
def rTREE_BRST_SKIP (b : Nat) : Nat := 0x1000030 + 0x10000 * b
/-- TREE_MOD_ACCEPT (03_tree_line.md R83). -/
def rTREE_MOD_ACCEPT (b : Nat) (i : Nat) : Nat := 0x1000040 + 0x10000 * b + 0x4 * i
/-- TREE_MOD_ACCEPT.VALID. -/ def fTREE_MOD_ACCEPT_VALID : Fld := ⟨31, 31⟩
/-- TREE_MOD_ACCEPT.ID. -/ def fTREE_MOD_ACCEPT_ID : Fld := ⟨23, 16⟩
/-- TREE_MOD_ACCEPT.APP. -/ def fTREE_MOD_ACCEPT_APP : Fld := ⟨15, 0⟩
/-- BRX_CTRL (04_burst_rx.md R125). -/
def rBRX_CTRL (b : Nat) : Nat := 0x1004000 + 0x10000 * b
/-- BRX_CTRL.MISS_LIM. -/ def fBRX_CTRL_MISS_LIM : Fld := ⟨31, 28⟩
/-- BRX_CTRL.GOOD_LIM. -/ def fBRX_CTRL_GOOD_LIM : Fld := ⟨27, 24⟩
/-- BRX_CTRL.DELIM_THR. -/ def fBRX_CTRL_DELIM_THR : Fld := ⟨23, 20⟩
/-- BRX_CTRL.UPDATE. -/ def fBRX_CTRL_UPDATE : Fld := ⟨15, 15⟩
/-- BRX_CTRL.MAX_PKT. -/ def fBRX_CTRL_MAX_PKT : Fld := ⟨13, 0⟩
/-- BRX_STATUS (04_burst_rx.md R125). -/
def rBRX_STATUS (b : Nat) : Nat := 0x1004004 + 0x10000 * b
/-- BRX_STATUS.DESC_DEPTH. -/ def fBRX_STATUS_DESC_DEPTH : Fld := ⟨31, 27⟩
/-- BRX_STATUS.TUNE_BUSY. -/ def fBRX_STATUS_TUNE_BUSY : Fld := ⟨26, 26⟩
/-- BRX_STATUS.TUNE_TERM. -/ def fBRX_STATUS_TUNE_TERM : Fld := ⟨25, 16⟩
/-- BRX_STATUS.TUNE_QUEUE. -/ def fBRX_STATUS_TUNE_QUEUE : Fld := ⟨14, 8⟩
/-- BRX_WIN (04_burst_rx.md R125). -/
def rBRX_WIN (b : Nat) : Nat := 0x1004008 + 0x10000 * b
/-- BRX_WIN.WINDOW. -/ def fBRX_WIN_WINDOW : Fld := ⟨23, 16⟩
/-- BRX_WIN.DRIFT_LIM. -/ def fBRX_WIN_DRIFT_LIM : Fld := ⟨7, 0⟩
/-- BRX_TUNE_CTRL (04_burst_rx.md R125). -/
def rBRX_TUNE_CTRL (b : Nat) : Nat := 0x100400c + 0x10000 * b
/-- BRX_TUNE_CTRL.MAX_ROUNDS. -/ def fBRX_TUNE_CTRL_MAX_ROUNDS : Fld := ⟨25, 21⟩
/-- BRX_TUNE_CTRL.BURSTS. -/ def fBRX_TUNE_CTRL_BURSTS : Fld := ⟨20, 16⟩
/-- BRX_TUNE_CTRL.TUNE_THR. -/ def fBRX_TUNE_CTRL_TUNE_THR : Fld := ⟨15, 0⟩
/-- BRX_RETUNE (04_burst_rx.md R125). -/
def rBRX_RETUNE (b : Nat) : Nat := 0x1004010 + 0x10000 * b
/-- BRX_RETUNE.PERIOD. -/ def fBRX_RETUNE_PERIOD : Fld := ⟨30, 0⟩
/-- BRX_ESCAN_SEL (04_burst_rx.md R125). -/
def rBRX_ESCAN_SEL (b : Nat) : Nat := 0x1004014 + 0x10000 * b
/-- BRX_ESCAN_SEL.EN. -/ def fBRX_ESCAN_SEL_EN : Fld := ⟨31, 31⟩
/-- BRX_ESCAN_SEL.SLOT. -/ def fBRX_ESCAN_SEL_SLOT : Fld := ⟨27, 26⟩
/-- BRX_ESCAN_SEL.TERM. -/ def fBRX_ESCAN_SEL_TERM : Fld := ⟨25, 16⟩
/-- BRX_ESCAN_SEL.LIMIT. -/ def fBRX_ESCAN_SEL_LIMIT : Fld := ⟨15, 0⟩
/-- BRX_ESCAN_STAT (04_burst_rx.md R125). -/
def rBRX_ESCAN_STAT (b : Nat) : Nat := 0x1004018 + 0x10000 * b
/-- BRX_ESCAN_STAT.TIMEOUT. -/ def fBRX_ESCAN_STAT_TIMEOUT : Fld := ⟨31, 31⟩
/-- BRX_ESCAN_STAT.BURSTS. -/ def fBRX_ESCAN_STAT_BURSTS : Fld := ⟨30, 0⟩
/-- BRX_ERR (04_burst_rx.md R125). -/
def rBRX_ERR (b : Nat) : Nat := 0x100401c + 0x10000 * b
/-- BRX_ERR.FORCE_L. -/ def fBRX_ERR_FORCE_L : Fld := ⟨3, 3⟩
/-- BRX_ERR.TUNE_FAIL. -/ def fBRX_ERR_TUNE_FAIL : Fld := ⟨2, 2⟩
/-- BRX_ERR.PROF_BUSY. -/ def fBRX_ERR_PROF_BUSY : Fld := ⟨1, 1⟩
/-- BRX_ERR.NO_TERM. -/ def fBRX_ERR_NO_TERM : Fld := ⟨0, 0⟩
/-- BRX_PRESET_CMD (04_burst_rx.md R125). -/
def rBRX_PRESET_CMD (b : Nat) : Nat := 0x1004040 + 0x10000 * b
/-- BRX_PRESET_CMD.BUSY. -/ def fBRX_PRESET_CMD_BUSY : Fld := ⟨31, 31⟩
/-- BRX_PRESET_CMD.GO. -/ def fBRX_PRESET_CMD_GO : Fld := ⟨30, 30⟩
/-- BRX_PRESET_CMD.WRITE. -/ def fBRX_PRESET_CMD_WRITE : Fld := ⟨29, 29⟩
/-- BRX_PRESET_CMD.TERM. -/ def fBRX_PRESET_CMD_TERM : Fld := ⟨9, 0⟩
/-- BRX_PROF (04_burst_rx.md R125). -/
def rBRX_PROF (b : Nat) (i : Nat) : Nat := 0x1004020 + 0x10000 * b + 0x4 * i
/-- BRX_PROF.CLASS. -/ def fBRX_PROF_CLASS : Fld := ⟨7, 6⟩
/-- BRX_PROF.RATE. -/ def fBRX_PROF_RATE : Fld := ⟨5, 4⟩
/-- BRX_PROF.FEC. -/ def fBRX_PROF_FEC : Fld := ⟨3, 3⟩
/-- BRX_PRESET_DATA (04_burst_rx.md R125). -/
def rBRX_PRESET_DATA (b : Nat) (i : Nat) : Nat := 0x1004080 + 0x10000 * b + 0x4 * i
/-- BRX_CNT (04_burst_rx.md R126). -/
def rBRX_CNT (b : Nat) (i : Nat) : Nat := 0x1004100 + 0x10000 * b + 0x4 * i
/-- ACT_CTRL (05_activation.md R150). -/
def rACT_CTRL (b : Nat) : Nat := 0x1008000 + 0x10000 * b
/-- ACT_CTRL.TEQD_TICKS. -/ def fACT_CTRL_TEQD_TICKS : Fld := ⟨15, 13⟩
/-- ACT_CTRL.LEGACY_QW. -/ def fACT_CTRL_LEGACY_QW : Fld := ⟨12, 12⟩
/-- ACT_CTRL.ROGUE_MODE. -/ def fACT_CTRL_ROGUE_MODE : Fld := ⟨11, 10⟩
/-- ACT_CTRL.SN_EN. -/ def fACT_CTRL_SN_EN : Fld := ⟨9, 9⟩
/-- ACT_REACH (05_activation.md R150). -/
def rACT_REACH (b : Nat) : Nat := 0x1008004 + 0x10000 * b
/-- ACT_REACH.DIFF_KM. -/ def fACT_REACH_DIFF_KM : Fld := ⟨13, 8⟩
/-- ACT_REACH.MIN_KM. -/ def fACT_REACH_MIN_KM : Fld := ⟨4, 0⟩
/-- ACT_PERIOD (05_activation.md R150). -/
def rACT_PERIOD (b : Nat) : Nat := 0x1008008 + 0x10000 * b
/-- ACT_PERIOD.SN_PERIOD. -/ def fACT_PERIOD_SN_PERIOD : Fld := ⟨31, 16⟩
/-- ACT_PERIOD.ACT_SN_PERIOD. -/ def fACT_PERIOD_ACT_SN_PERIOD : Fld := ⟨7, 0⟩
/-- ACT_RANGE (05_activation.md R150). -/
def rACT_RANGE (b : Nat) : Nat := 0x100800c + 0x10000 * b
/-- ACT_RANGE.RANGE_TRIES. -/ def fACT_RANGE_RANGE_TRIES : Fld := ⟨31, 28⟩
/-- ACT_RANGE.DRIFT_CONFIRM. -/ def fACT_RANGE_DRIFT_CONFIRM : Fld := ⟨27, 24⟩
/-- ACT_RANGE.FINE_TOL. -/ def fACT_RANGE_FINE_TOL : Fld := ⟨23, 16⟩
/-- ACT_RANGE.MARGIN. -/ def fACT_RANGE_MARGIN : Fld := ⟨11, 0⟩
/-- ACT_WL_OFFSET (05_activation.md R150). -/
def rACT_WL_OFFSET (b : Nat) : Nat := 0x1008010 + 0x10000 * b
/-- ACT_WL_OFFSET.OFFSET. -/ def fACT_WL_OFFSET_OFFSET : Fld := ⟨15, 0⟩
/-- ACT_LOB (05_activation.md R150). -/
def rACT_LOB (b : Nat) : Nat := 0x1008014 + 0x10000 * b
/-- ACT_LOB.LOB_LIM. -/ def fACT_LOB_LOB_LIM : Fld := ⟨31, 24⟩
/-- ACT_LOB.LOST_MARGIN. -/ def fACT_LOB_LOST_MARGIN : Fld := ⟨23, 12⟩
/-- ACT_LOB.LOST_TICKS. -/ def fACT_LOB_LOST_TICKS : Fld := ⟨11, 0⟩
/-- ACT_ROGUE (05_activation.md R150). -/
def rACT_ROGUE (b : Nat) : Nat := 0x1008018 + 0x10000 * b
/-- ACT_ROGUE.ROGUE_LIM. -/ def fACT_ROGUE_ROGUE_LIM : Fld := ⟨31, 28⟩
/-- ACT_ROGUE.ROGUE_TICKS. -/ def fACT_ROGUE_ROGUE_TICKS : Fld := ⟨27, 20⟩
/-- ACT_ROGUE.STRAY_LIM. -/ def fACT_ROGUE_STRAY_LIM : Fld := ⟨19, 14⟩
/-- ACT_ROGUE.SEARCH_DWELL. -/ def fACT_ROGUE_SEARCH_DWELL : Fld := ⟨13, 6⟩
/-- ACT_STATUS (05_activation.md R150). -/
def rACT_STATUS (b : Nat) : Nat := 0x100801c + 0x10000 * b
/-- ACT_STATUS.QW_STATE. -/ def fACT_STATUS_QW_STATE : Fld := ⟨31, 30⟩
/-- ACT_STATUS.SEARCH. -/ def fACT_STATUS_SEARCH : Fld := ⟨29, 28⟩
/-- ACT_STATUS.SEARCH_TERM. -/ def fACT_STATUS_SEARCH_TERM : Fld := ⟨27, 18⟩
/-- ACT_STATUS.REACH_OK. -/ def fACT_STATUS_REACH_OK : Fld := ⟨15, 15⟩
/-- ACT_STATUS.OPERATING. -/ def fACT_STATUS_OPERATING : Fld := ⟨10, 0⟩
/-- ACT_ERR (05_activation.md R150). -/
def rACT_ERR (b : Nat) : Nat := 0x1008020 + 0x10000 * b
/-- ACT_ERR.QW_SKIP. -/ def fACT_ERR_QW_SKIP : Fld := ⟨5, 5⟩
/-- ACT_ERR.ROGUE. -/ def fACT_ERR_ROGUE : Fld := ⟨4, 4⟩
/-- ACT_ERR.SN_DUPLICATE. -/ def fACT_ERR_SN_DUPLICATE : Fld := ⟨3, 3⟩
/-- ACT_ERR.UNKNOWN_SN. -/ def fACT_ERR_UNKNOWN_SN : Fld := ⟨2, 2⟩
/-- ACT_ERR.CFG_BUSY. -/ def fACT_ERR_CFG_BUSY : Fld := ⟨1, 1⟩
/-- ACT_ERR.REACH_CFG. -/ def fACT_ERR_REACH_CFG : Fld := ⟨0, 0⟩
/-- ACT_TERM_SEL (05_activation.md R150). -/
def rACT_TERM_SEL (b : Nat) : Nat := 0x1008024 + 0x10000 * b
/-- ACT_TERM_SEL.TERM. -/ def fACT_TERM_SEL_TERM : Fld := ⟨9, 0⟩
/-- ACT_TERM_INFO (05_activation.md R150). -/
def rACT_TERM_INFO (b : Nat) : Nat := 0x1008028 + 0x10000 * b
/-- ACT_TERM_INFO.STATE. -/ def fACT_TERM_INFO_STATE : Fld := ⟨31, 29⟩
/-- ACT_TERM_INFO.ACT_LANE. -/ def fACT_TERM_INFO_ACT_LANE : Fld := ⟨28, 28⟩
/-- ACT_TERM_INFO.LOB_RUN. -/ def fACT_TERM_INFO_LOB_RUN : Fld := ⟨27, 20⟩
/-- ACT_TERM_INFO.ENTRY_TICK. -/ def fACT_TERM_INFO_ENTRY_TICK : Fld := ⟨19, 0⟩
/-- ACT_TERM_EQD (05_activation.md R150). -/
def rACT_TERM_EQD (b : Nat) : Nat := 0x100802c + 0x10000 * b
/-- ACT_CNT (05_activation.md R152). -/
def rACT_CNT (b : Nat) (i : Nat) : Nat := 0x1008040 + 0x10000 * b + 0x4 * i
/-- Reset values and access masks of block TREE. -/
def rowsTREE0 : List RegRow := [
  ⟨0x0, 1, 0x0, 1, 0x0, 0x100, 0x3f1, 0x0, 0x0, 0x0, 0x0⟩,
  ⟨0x4, 1, 0x0, 1, 0x0, 0x0, 0x0, 0x0, 0x0, 0x0, 0x0⟩,
  ⟨0xc, 1, 0x0, 1, 0x0, 0x0, 0x3ff, 0x0, 0x0, 0x0, 0x0⟩,
  ⟨0x10, 1, 0x0, 1, 0x0, 0x141808, 0x80ffffff, 0x0, 0x0, 0x0, 0x0⟩,
  ⟨0x18, 1, 0x0, 1, 0x0, 0x8040, 0x3ffffeff, 0x0, 0x80000000, 0x0, 0x0⟩,
  ⟨0x1c, 1, 0x0, 1, 0x0, 0x0, 0x0, 0x0, 0x0, 0x0, 0x0⟩,
  ⟨0x20, 1, 0x0, 1, 0x0, 0x0, 0xff0370, 0x0, 0x8, 0x0, 0x0⟩,
  ⟨0x24, 1, 0x0, 1, 0x0, 0x0, 0x0, 0x0, 0x0, 0x0, 0x0⟩,
  ⟨0x28, 1, 0x0, 1, 0x0, 0x0, 0x0, 0xff, 0x0, 0x0, 0x0⟩,
  ⟨0x8, 1, 0x0, 1, 0x0, 0x0, 0xffffffff, 0x0, 0x0, 0x0, 0x0⟩,
  ⟨0x14, 1, 0x0, 1, 0x0, 0x141808, 0x80ffffff, 0x0, 0x0, 0x0, 0x0⟩,
  ⟨0x2c, 1, 0x0, 1, 0x0, 0x0, 0x0, 0x3ff03ff, 0x0, 0x0, 0x0⟩,
  ⟨0x30, 1, 0x0, 1, 0x0, 0x0, 0x0, 0x80000000, 0x0, 0x0, 0x0⟩,
  ⟨0x40, 4, 0x4, 1, 0x0, 0x0, 0x80ffffff, 0x0, 0x0, 0x0, 0x0⟩,
  ⟨0x4000, 1, 0x0, 1, 0x0, 0x4240a400, 0xfff0bfff, 0x0, 0x0, 0x0, 0x0⟩,
  ⟨0x4004, 1, 0x0, 1, 0x0, 0x0, 0x0, 0x0, 0x0, 0x0, 0x0⟩,
  ⟨0x4008, 1, 0x0, 1, 0x0, 0x400010, 0xff00ff, 0x0, 0x0, 0x0, 0x0⟩,
  ⟨0x400c, 1, 0x0, 1, 0x0, 0x2040100, 0x3ffffff, 0x0, 0x0, 0x0, 0x0⟩,
  ⟨0x4010, 1, 0x0, 1, 0x0, 0x493e00, 0x7fffffff, 0x0, 0x0, 0x0, 0x0⟩,
  ⟨0x4014, 1, 0x0, 1, 0x0, 0x0, 0x8fffffff, 0x0, 0x0, 0x0, 0x0⟩,
  ⟨0x4018, 1, 0x0, 1, 0x0, 0x0, 0x0, 0x0, 0x0, 0x0, 0x0⟩,
  ⟨0x401c, 1, 0x0, 1, 0x0, 0x0, 0x0, 0xf, 0x0, 0x0, 0x0⟩,
  ⟨0x4040, 1, 0x0, 1, 0x0, 0x0, 0x200003ff, 0x0, 0x40000000, 0x0, 0x0⟩,
  ⟨0x4020, 1, 0x0, 1, 0x0, 0x88, 0xf8, 0x0, 0x0, 0x0, 0x0⟩,
  ⟨0x4024, 1, 0x0, 1, 0x0, 0x48, 0xf8, 0x0, 0x0, 0x0, 0x0⟩,
  ⟨0x4028, 1, 0x0, 1, 0x0, 0x8, 0xf8, 0x0, 0x0, 0x0, 0x0⟩,
  ⟨0x402c, 1, 0x0, 1, 0x0, 0x18, 0xf8, 0x0, 0x0, 0x0, 0x0⟩,
  ⟨0x4080, 16, 0x4, 1, 0x0, 0x0, 0xffffffff, 0x0, 0x0, 0x0, 0x0⟩,
  ⟨0x4100, 16, 0x4, 1, 0x0, 0x0, 0x0, 0x80000000, 0x0, 0x0, 0x0⟩,
  ⟨0x8000, 1, 0x0, 1, 0x0, 0x4600, 0xfe00, 0x0, 0x0, 0x0, 0x0⟩,
  ⟨0x8004, 1, 0x0, 1, 0x0, 0x1400, 0x3f1f, 0x0, 0x0, 0x0, 0x0⟩,
  ⟨0x8008, 1, 0x0, 1, 0x0, 0x1f400008, 0xffff00ff, 0x0, 0x0, 0x0, 0x0⟩,
  ⟨0x800c, 1, 0x0, 1, 0x0, 0x44080100, 0xffff0fff, 0x0, 0x0, 0x0, 0x0⟩,
  ⟨0x8010, 1, 0x0, 1, 0x0, 0x0, 0xffff, 0x0, 0x0, 0x0, 0x0⟩,
  ⟨0x8014, 1, 0x0, 1, 0x0, 0x87d0320, 0xffffffff, 0x0, 0x0, 0x0, 0x0⟩,
  ⟨0x8018, 1, 0x0, 1, 0x0, 0x30840400, 0xffffffc0, 0x0, 0x0, 0x0, 0x0⟩,
  ⟨0x801c, 1, 0x0, 1, 0x0, 0x8000, 0x0, 0x0, 0x0, 0x0, 0x0⟩,
  ⟨0x8020, 1, 0x0, 1, 0x0, 0x0, 0x0, 0x3f, 0x0, 0x0, 0x0⟩,
  ⟨0x8024, 1, 0x0, 1, 0x0, 0x0, 0x3ff, 0x0, 0x0, 0x0, 0x0⟩,
  ⟨0x8028, 1, 0x0, 1, 0x0, 0x0, 0x0, 0x0, 0x0, 0x0, 0x0⟩]
def rowsTREE1 : List RegRow := [
  ⟨0x802c, 1, 0x0, 1, 0x0, 0x0, 0x0, 0x0, 0x0, 0x0, 0x0⟩,
  ⟨0x8040, 12, 0x4, 1, 0x0, 0x0, 0x0, 0x80000000, 0x0, 0x0, 0x0⟩,
  ⟨0xc000, 1, 0x0, 1, 0x0, 0x80, 0x1ff, 0x0, 0x0, 0x0, 0x0⟩,
  ⟨0xc004, 1, 0x0, 1, 0x0, 0x0, 0x0, 0x0, 0x0, 0x0, 0x0⟩,
  ⟨0xc008, 1, 0x0, 1, 0x0, 0x3acfa, 0x7ffffff, 0x0, 0x0, 0x0, 0x0⟩,
  ⟨0xc010, 1, 0x0, 1, 0x0, 0x40008, 0x3ff03f, 0x0, 0x0, 0x0, 0x0⟩,
  ⟨0xc018, 1, 0x0, 1, 0x0, 0x51f4, 0x73ff, 0x0, 0x8000, 0x0, 0x0⟩,
  ⟨0xc020, 1, 0x0, 1, 0x0, 0x0, 0x0, 0x0, 0x0, 0x1, 0x0⟩,
  ⟨0xc024, 1, 0x0, 1, 0x0, 0x1000000, 0x3fff003f, 0x0, 0x40000000, 0x0, 0x0⟩,
  ⟨0xc028, 1, 0x0, 1, 0x0, 0x0, 0x0, 0x0, 0x0, 0x0, 0x0⟩,
  ⟨0xc030, 1, 0x0, 1, 0x0, 0x0, 0x3f, 0x0, 0x0, 0x0, 0x0⟩,
  ⟨0xc034, 1, 0x0, 1, 0x0, 0x0, 0xffffffff, 0x0, 0x0, 0x0, 0x0⟩,
  ⟨0xc038, 1, 0x0, 1, 0x0, 0x0, 0xffffffff, 0x0, 0x0, 0x0, 0x0⟩,
  ⟨0xc03c, 1, 0x0, 1, 0x0, 0x0, 0x0, 0x80000000, 0x0, 0x0, 0x0⟩,
  ⟨0xc040, 1, 0x0, 1, 0x0, 0x0, 0x0, 0x1f, 0x0, 0x0, 0x0⟩,
  ⟨0xc080, 16, 0x4, 1, 0x0, 0x0, 0x0, 0x0, 0x0, 0x0, 0x0⟩]
/-- Reset values and access masks of block TREE. -/
def rowsTREE : List RegRow := rowsTREE0 ++ rowsTREE1
/-! Block UPL at 0x1400000. -/
/-- UPL_PORT_CTRL (15_uplinks.md R452). -/
def rUPL_PORT_CTRL (b : Nat) : Nat := 0x1400000 + 0x10000 * b
/-- UPL_PORT_CTRL.MAX_FRAME. -/ def fUPL_PORT_CTRL_MAX_FRAME : Fld := ⟨29, 16⟩
/-- UPL_PORT_CTRL.TX_SCI. -/ def fUPL_PORT_CTRL_TX_SCI : Fld := ⟨11, 11⟩
/-- UPL_PORT_CTRL.PTP_1STEP. -/ def fUPL_PORT_CTRL_PTP_1STEP : Fld := ⟨10, 10⟩
/-- UPL_PORT_CTRL.RTAG_TX. -/ def fUPL_PORT_CTRL_RTAG_TX : Fld := ⟨9, 9⟩
/-- UPL_PORT_CTRL.GATE_EN. -/ def fUPL_PORT_CTRL_GATE_EN : Fld := ⟨8, 8⟩
/-- UPL_PORT_CTRL.PTP_EN. -/ def fUPL_PORT_CTRL_PTP_EN : Fld := ⟨7, 7⟩
/-- UPL_PORT_CTRL.MACSEC_EN. -/ def fUPL_PORT_CTRL_MACSEC_EN : Fld := ⟨6, 6⟩
/-- UPL_PORT_CTRL.FEC. -/ def fUPL_PORT_CTRL_FEC : Fld := ⟨5, 5⟩
/-- UPL_PORT_CTRL.LANE_RATE. -/ def fUPL_PORT_CTRL_LANE_RATE : Fld := ⟨4, 3⟩
/-- UPL_PORT_CTRL.LANES. -/ def fUPL_PORT_CTRL_LANES : Fld := ⟨2, 1⟩
/-- UPL_PORT_CTRL.EN. -/ def fUPL_PORT_CTRL_EN : Fld := ⟨0, 0⟩
/-- UPL_PORT_STATUS (15_uplinks.md R452). -/
def rUPL_PORT_STATUS (b : Nat) : Nat := 0x1400004 + 0x10000 * b
/-- UPL_PORT_STATUS.LINK_UP. -/ def fUPL_PORT_STATUS_LINK_UP : Fld := ⟨31, 31⟩
/-- UPL_PORT_STATUS.TRAINING. -/ def fUPL_PORT_STATUS_TRAINING : Fld := ⟨30, 30⟩
/-- UPL_PORT_STATUS.FIRST_LANE. -/ def fUPL_PORT_STATUS_FIRST_LANE : Fld := ⟨29, 24⟩
/-- UPL_PORT_STATUS.FEC_LOCK. -/ def fUPL_PORT_STATUS_FEC_LOCK : Fld := ⟨23, 23⟩
/-- UPL_PORT_STATUS.ALIGNED. -/ def fUPL_PORT_STATUS_ALIGNED : Fld := ⟨22, 22⟩
/-- UPL_PORT_STATUS.TS_DEPTH. -/ def fUPL_PORT_STATUS_TS_DEPTH : Fld := ⟨6, 0⟩
/-- UPL_ERR (15_uplinks.md R452). -/
def rUPL_ERR (b : Nat) : Nat := 0x1400008 + 0x10000 * b
/-- UPL_ERR.GATE_TOO_LONG. -/ def fUPL_ERR_GATE_TOO_LONG : Fld := ⟨3, 3⟩
/-- UPL_ERR.TS_OVF. -/ def fUPL_ERR_TS_OVF : Fld := ⟨2, 2⟩
/-- UPL_ERR.LINK_DOWN. -/ def fUPL_ERR_LINK_DOWN : Fld := ⟨1, 1⟩
/-- UPL_ERR.CFG_BAD. -/ def fUPL_ERR_CFG_BAD : Fld := ⟨0, 0⟩
/-- UPL_PTP_ASYM (15_uplinks.md R452). -/
def rUPL_PTP_ASYM (b : Nat) : Nat := 0x140000c + 0x10000 * b
/-- UPL_PTP_ASYM.RX_DELAY. -/ def fUPL_PTP_ASYM_RX_DELAY : Fld := ⟨31, 16⟩
/-- UPL_PTP_ASYM.TX_DELAY. -/ def fUPL_PTP_ASYM_TX_DELAY : Fld := ⟨15, 0⟩
/-- UPL_TS_POP (15_uplinks.md R452). -/
def rUPL_TS_POP (b : Nat) : Nat := 0x1400010 + 0x10000 * b
/-- UPL_TS_POP.GO. -/ def fUPL_TS_POP_GO : Fld := ⟨0, 0⟩
/-- UPL_TS_DATA (15_uplinks.md R452). -/
def rUPL_TS_DATA (b : Nat) (i : Nat) : Nat := 0x1400014 + 0x10000 * b + 0x4 * i
/-- UPL_GATE_STATUS (15_uplinks.md R452). -/
def rUPL_GATE_STATUS (b : Nat) : Nat := 0x1400040 + 0x10000 * b
/-- UPL_GATE_STATUS.ARMED. -/ def fUPL_GATE_STATUS_ARMED : Fld := ⟨31, 31⟩
/-- UPL_GATE_STATUS.ACTIVE. -/ def fUPL_GATE_STATUS_ACTIVE : Fld := ⟨30, 30⟩
/-- UPL_GATE_STATUS.CUR_ENTRY. -/ def fUPL_GATE_STATUS_CUR_ENTRY : Fld := ⟨15, 8⟩
/-- UPL_GATE_STATUS.OPEN. -/ def fUPL_GATE_STATUS_OPEN : Fld := ⟨7, 0⟩
/-- UPL_GATE_CYCLE (15_uplinks.md R452). -/
def rUPL_GATE_CYCLE (b : Nat) : Nat := 0x1400044 + 0x10000 * b
/-- UPL_GATE_CYCLE.CYCLE. -/ def fUPL_GATE_CYCLE_CYCLE : Fld := ⟨29, 0⟩
/-- UPL_GATE_BASE_LO (15_uplinks.md R452). -/
def rUPL_GATE_BASE_LO (b : Nat) : Nat := 0x1400048 + 0x10000 * b
/-- UPL_GATE_BASE_HI (15_uplinks.md R452). -/
def rUPL_GATE_BASE_HI (b : Nat) : Nat := 0x140004c + 0x10000 * b
/-- UPL_GATE_CHANGE_LO (15_uplinks.md R452). -/
def rUPL_GATE_CHANGE_LO (b : Nat) : Nat := 0x1400050 + 0x10000 * b
/-- UPL_GATE_CHANGE_HI (15_uplinks.md R452). -/
def rUPL_GATE_CHANGE_HI (b : Nat) : Nat := 0x1400054 + 0x10000 * b
/-- UPL_GATE_CMD (15_uplinks.md R452). -/
def rUPL_GATE_CMD (b : Nat) : Nat := 0x1400058 + 0x10000 * b
/-- UPL_GATE_CMD.COMMIT. -/ def fUPL_GATE_CMD_COMMIT : Fld := ⟨31, 31⟩
/-- UPL_GATE_CMD.ABORT. -/ def fUPL_GATE_CMD_ABORT : Fld := ⟨30, 30⟩
/-- UPL_GATE_CMD.LEN. -/ def fUPL_GATE_CMD_LEN : Fld := ⟨8, 0⟩
/-- UPL_GATE_ACT_CYCLE (15_uplinks.md R452). -/
def rUPL_GATE_ACT_CYCLE (b : Nat) : Nat := 0x140005c + 0x10000 * b
/-- UPL_GATE_ACT_CYCLE.CYCLE. -/ def fUPL_GATE_ACT_CYCLE_CYCLE : Fld := ⟨29, 0⟩
/-- UPL_CNT (15_uplinks.md R453). -/
def rUPL_CNT (b : Nat) (i : Nat) : Nat := 0x1400100 + 0x10000 * b + 0x4 * i
/-- UPL_GATE_PENDING (15_uplinks.md R452). -/
def rUPL_GATE_PENDING (b : Nat) (i : Nat) : Nat := 0x1400400 + 0x10000 * b + 0x4 * i
/-- UPL_GATE_PENDING.OPEN. -/ def fUPL_GATE_PENDING_OPEN : Fld := ⟨31, 24⟩
/-- UPL_GATE_PENDING.INTERVAL. -/ def fUPL_GATE_PENDING_INTERVAL : Fld := ⟨23, 0⟩
/-- UPL_GATE_ACTIVE (15_uplinks.md R452). -/
def rUPL_GATE_ACTIVE (b : Nat) (i : Nat) : Nat := 0x1400800 + 0x10000 * b + 0x4 * i
/-- UPL_GATE_ACTIVE.OPEN. -/ def fUPL_GATE_ACTIVE_OPEN : Fld := ⟨31, 24⟩
/-- UPL_GATE_ACTIVE.INTERVAL. -/ def fUPL_GATE_ACTIVE_INTERVAL : Fld := ⟨23, 0⟩
/-- Reset values and access masks of block UPL. -/
def rowsUPL : List RegRow := [
  ⟨0x0, 1, 0x0, 1, 0x0, 0x24000830, 0x3fff0fff, 0x0, 0x0, 0x0, 0x0⟩,
  ⟨0x4, 1, 0x0, 1, 0x0, 0x0, 0x0, 0x0, 0x0, 0x0, 0x0⟩,
  ⟨0x8, 1, 0x0, 1, 0x0, 0x0, 0x0, 0xf, 0x0, 0x0, 0x0⟩,
  ⟨0xc, 1, 0x0, 1, 0x0, 0x0, 0xffffffff, 0x0, 0x0, 0x0, 0x0⟩,
  ⟨0x10, 1, 0x0, 1, 0x0, 0x0, 0x0, 0x0, 0x1, 0x0, 0x0⟩,
  ⟨0x14, 4, 0x4, 1, 0x0, 0x0, 0x0, 0x0, 0x0, 0x0, 0x0⟩,
  ⟨0x40, 1, 0x0, 1, 0x0, 0xff, 0x0, 0x0, 0x0, 0x0, 0x0⟩,
  ⟨0x44, 1, 0x0, 1, 0x0, 0x1e848, 0x3fffffff, 0x0, 0x0, 0x0, 0x0⟩,
  ⟨0x48, 1, 0x0, 1, 0x0, 0x0, 0xffffffff, 0x0, 0x0, 0x0, 0x0⟩,
  ⟨0x4c, 1, 0x0, 1, 0x0, 0x0, 0xffffffff, 0x0, 0x0, 0x0, 0x0⟩,
  ⟨0x50, 1, 0x0, 1, 0x0, 0x0, 0xffffffff, 0x0, 0x0, 0x0, 0x0⟩,
  ⟨0x54, 1, 0x0, 1, 0x0, 0x0, 0xffffffff, 0x0, 0x0, 0x0, 0x0⟩,
  ⟨0x58, 1, 0x0, 1, 0x0, 0x1, 0x1ff, 0x0, 0xc0000000, 0x0, 0x0⟩,
  ⟨0x5c, 1, 0x0, 1, 0x0, 0x0, 0x0, 0x0, 0x0, 0x0, 0x0⟩,
  ⟨0x100, 8, 0x4, 1, 0x0, 0x0, 0x0, 0x80000000, 0x0, 0x0, 0x0⟩,
  ⟨0x400, 256, 0x4, 1, 0x0, 0x0, 0xffffffff, 0x0, 0x0, 0x0, 0x0⟩,
  ⟨0x800, 256, 0x4, 1, 0x0, 0x0, 0x0, 0x0, 0x0, 0x0, 0x0⟩,
  ⟨0xc000, 1, 0x0, 1, 0x0, 0x80, 0x1ff, 0x0, 0x0, 0x0, 0x0⟩,
  ⟨0xc004, 1, 0x0, 1, 0x0, 0x0, 0x0, 0x0, 0x0, 0x0, 0x0⟩,
  ⟨0xc008, 1, 0x0, 1, 0x0, 0x3acfa, 0x7ffffff, 0x0, 0x0, 0x0, 0x0⟩,
  ⟨0xc010, 1, 0x0, 1, 0x0, 0x40008, 0x3ff03f, 0x0, 0x0, 0x0, 0x0⟩,
  ⟨0xc018, 1, 0x0, 1, 0x0, 0x51f4, 0x73ff, 0x0, 0x8000, 0x0, 0x0⟩,
  ⟨0xc020, 1, 0x0, 1, 0x0, 0x0, 0x0, 0x0, 0x0, 0x1, 0x0⟩,
  ⟨0xc024, 1, 0x0, 1, 0x0, 0x1000000, 0x3fff003f, 0x0, 0x40000000, 0x0, 0x0⟩,
  ⟨0xc028, 1, 0x0, 1, 0x0, 0x0, 0x0, 0x0, 0x0, 0x0, 0x0⟩,
  ⟨0xc030, 1, 0x0, 1, 0x0, 0x0, 0x3f, 0x0, 0x0, 0x0, 0x0⟩,
  ⟨0xc034, 1, 0x0, 1, 0x0, 0x0, 0xffffffff, 0x0, 0x0, 0x0, 0x0⟩,
  ⟨0xc038, 1, 0x0, 1, 0x0, 0x0, 0xffffffff, 0x0, 0x0, 0x0, 0x0⟩,
  ⟨0xc03c, 1, 0x0, 1, 0x0, 0x0, 0x0, 0x80000000, 0x0, 0x0, 0x0⟩,
  ⟨0xc040, 1, 0x0, 1, 0x0, 0x0, 0x0, 0x1f, 0x0, 0x0, 0x0⟩,
  ⟨0xc080, 16, 0x4, 1, 0x0, 0x0, 0x0, 0x0, 0x0, 0x0, 0x0⟩]
/-! Block FAB at 0x1800000. -/
/-- FAB_BND_CTRL (16_fabric.md R483). -/
def rFAB_BND_CTRL (b : Nat) : Nat := 0x1800000 + 0x10000 * b
/-- FAB_BND_CTRL.FORCE_AIS. -/ def fFAB_BND_CTRL_FORCE_AIS : Fld := ⟨6, 6⟩
/-- FAB_BND_CTRL.TSI_DELAY. -/ def fFAB_BND_CTRL_TSI_DELAY : Fld := ⟨5, 4⟩
/-- FAB_BND_CTRL.MACSEC_EN. -/ def fFAB_BND_CTRL_MACSEC_EN : Fld := ⟨3, 3⟩
/-- FAB_BND_CTRL.SIZE. -/ def fFAB_BND_CTRL_SIZE : Fld := ⟨2, 1⟩
/-- FAB_BND_CTRL.EN. -/ def fFAB_BND_CTRL_EN : Fld := ⟨0, 0⟩
/-- FAB_BND_STATUS (16_fabric.md R483). -/
def rFAB_BND_STATUS (b : Nat) : Nat := 0x1800004 + 0x10000 * b
/-- FAB_BND_STATUS.STATE. -/ def fFAB_BND_STATUS_STATE : Fld := ⟨31, 29⟩
/-- FAB_BND_STATUS.TX_PAGE. -/ def fFAB_BND_STATUS_TX_PAGE : Fld := ⟨28, 28⟩
/-- FAB_BND_STATUS.RX_PAGE. -/ def fFAB_BND_STATUS_RX_PAGE : Fld := ⟨27, 27⟩
/-- FAB_BND_STATUS.VERSION. -/ def fFAB_BND_STATUS_VERSION : Fld := ⟨26, 23⟩
/-- FAB_ERR (16_fabric.md R483). -/
def rFAB_ERR (b : Nat) : Nat := 0x1800008 + 0x10000 * b
/-- FAB_ERR.EDITION_MISMATCH. -/ def fFAB_ERR_EDITION_MISMATCH : Fld := ⟨9, 9⟩
/-- FAB_ERR.VERSION_FAIL. -/ def fFAB_ERR_VERSION_FAIL : Fld := ⟨8, 8⟩
/-- FAB_ERR.SWAP_PARTIAL. -/ def fFAB_ERR_SWAP_PARTIAL : Fld := ⟨7, 7⟩
/-- FAB_ERR.SLIP. -/ def fFAB_ERR_SLIP : Fld := ⟨6, 6⟩
/-- FAB_ERR.CFG_BAD. -/ def fFAB_ERR_CFG_BAD : Fld := ⟨5, 5⟩
/-- FAB_ERR.PAGE. -/ def fFAB_ERR_PAGE : Fld := ⟨4, 4⟩
/-- FAB_ERR.LABEL. -/ def fFAB_ERR_LABEL : Fld := ⟨3, 3⟩
/-- FAB_ERR.RDI. -/ def fFAB_ERR_RDI : Fld := ⟨2, 2⟩
/-- FAB_ERR.LOF. -/ def fFAB_ERR_LOF : Fld := ⟨1, 1⟩
/-- FAB_ERR.LOS. -/ def fFAB_ERR_LOS : Fld := ⟨0, 0⟩
/-- FAB_DEFECT (16_fabric.md R483). -/
def rFAB_DEFECT (b : Nat) : Nat := 0x180000c + 0x10000 * b
/-- FAB_DEFECT.PAGE. -/ def fFAB_DEFECT_PAGE : Fld := ⟨4, 4⟩
/-- FAB_DEFECT.LABEL. -/ def fFAB_DEFECT_LABEL : Fld := ⟨3, 3⟩
/-- FAB_DEFECT.RDI. -/ def fFAB_DEFECT_RDI : Fld := ⟨2, 2⟩
/-- FAB_DEFECT.LOF. -/ def fFAB_DEFECT_LOF : Fld := ⟨1, 1⟩
/-- FAB_DEFECT.LOS. -/ def fFAB_DEFECT_LOS : Fld := ⟨0, 0⟩
/-- FAB_ARRIVAL (16_fabric.md R483). -/
def rFAB_ARRIVAL (b : Nat) : Nat := 0x1800010 + 0x10000 * b
/-- FAB_PEER_SM (16_fabric.md R483). -/
def rFAB_PEER_SM (b : Nat) : Nat := 0x1800014 + 0x10000 * b
/-- FAB_PEER_SM.SHELFMARK. -/ def fFAB_PEER_SM_SHELFMARK : Fld := ⟨19, 0⟩
/-- FAB_PEER_ED_LO (16_fabric.md R483). -/
def rFAB_PEER_ED_LO (b : Nat) : Nat := 0x1800018 + 0x10000 * b
/-- FAB_PEER_ED_HI (16_fabric.md R483). -/
def rFAB_PEER_ED_HI (b : Nat) : Nat := 0x180001c + 0x10000 * b
/-- FAB_TX_LABEL (16_fabric.md R483). -/
def rFAB_TX_LABEL (b : Nat) (i : Nat) : Nat := 0x1800020 + 0x10000 * b + 0x4 * i
/-- FAB_EXP_LABEL (16_fabric.md R483). -/
def rFAB_EXP_LABEL (b : Nat) (i : Nat) : Nat := 0x1800060 + 0x10000 * b + 0x4 * i
/-- FAB_RX_LABEL (16_fabric.md R483). -/
def rFAB_RX_LABEL (b : Nat) (i : Nat) : Nat := 0x18000a0 + 0x10000 * b + 0x4 * i
/-- FAB_CNT (16_fabric.md R484). -/
def rFAB_CNT (b : Nat) (i : Nat) : Nat := 0x1800100 + 0x10000 * b + 0x4 * i
/-- FAB_LANE_STATUS (16_fabric.md R483). -/
def rFAB_LANE_STATUS (b : Nat) : Nat := 0x1800200 + 0x10000 * b
/-- FAB_LANE_STATUS.SYNC. -/ def fFAB_LANE_STATUS_SYNC : Fld := ⟨31, 30⟩
/-- FAB_LANE_STATUS.BAD. -/ def fFAB_LANE_STATUS_BAD : Fld := ⟨29, 27⟩
/-- FAB_LANE_STATUS.TX_STBY_VALID. -/ def fFAB_LANE_STATUS_TX_STBY_VALID : Fld := ⟨26, 26⟩
/-- FAB_LANE_STATUS.RX0_VALID. -/ def fFAB_LANE_STATUS_RX0_VALID : Fld := ⟨25, 25⟩
/-- FAB_LANE_STATUS.RX1_VALID. -/ def fFAB_LANE_STATUS_RX1_VALID : Fld := ⟨24, 24⟩
/-- FAB_LANE_STATUS.LANE. -/ def fFAB_LANE_STATUS_LANE : Fld := ⟨23, 21⟩
/-- Reset values and access masks of block FAB. -/
def rowsFAB : List RegRow := [
  ⟨0x0, 1, 0x0, 1, 0x0, 0x20, 0x7f, 0x0, 0x0, 0x0, 0x0⟩,
  ⟨0x4, 1, 0x0, 1, 0x0, 0x0, 0x0, 0x0, 0x0, 0x0, 0x0⟩,
  ⟨0x8, 1, 0x0, 1, 0x0, 0x0, 0x0, 0x3ff, 0x0, 0x0, 0x0⟩,
  ⟨0xc, 1, 0x0, 1, 0x0, 0x0, 0x0, 0x0, 0x0, 0x0, 0x0⟩,
  ⟨0x10, 1, 0x0, 1, 0x0, 0x0, 0x0, 0x0, 0x0, 0x0, 0x0⟩,
  ⟨0x14, 1, 0x0, 1, 0x0, 0x0, 0x0, 0x0, 0x0, 0x0, 0x0⟩,
  ⟨0x18, 1, 0x0, 1, 0x0, 0x0, 0x0, 0x0, 0x0, 0x0, 0x0⟩,
  ⟨0x1c, 1, 0x0, 1, 0x0, 0x0, 0x0, 0x0, 0x0, 0x0, 0x0⟩,
  ⟨0x20, 16, 0x4, 1, 0x0, 0x0, 0xffffffff, 0x0, 0x0, 0x0, 0x0⟩,
  ⟨0x60, 16, 0x4, 1, 0x0, 0x0, 0xffffffff, 0x0, 0x0, 0x0, 0x0⟩,
  ⟨0xa0, 16, 0x4, 1, 0x0, 0x0, 0x0, 0x0, 0x0, 0x0, 0x0⟩,
  ⟨0x100, 10, 0x4, 1, 0x0, 0x0, 0x0, 0x80000000, 0x0, 0x0, 0x0⟩,
  ⟨0x200, 1, 0x0, 1, 0x0, 0x0, 0x0, 0x0, 0x0, 0x0, 0x0⟩,
  ⟨0xc000, 1, 0x0, 1, 0x0, 0x80, 0x1ff, 0x0, 0x0, 0x0, 0x0⟩,
  ⟨0xc004, 1, 0x0, 1, 0x0, 0x0, 0x0, 0x0, 0x0, 0x0, 0x0⟩,
  ⟨0xc008, 1, 0x0, 1, 0x0, 0x3acfa, 0x7ffffff, 0x0, 0x0, 0x0, 0x0⟩,
  ⟨0xc010, 1, 0x0, 1, 0x0, 0x40008, 0x3ff03f, 0x0, 0x0, 0x0, 0x0⟩,
  ⟨0xc018, 1, 0x0, 1, 0x0, 0x51f4, 0x73ff, 0x0, 0x8000, 0x0, 0x0⟩,
  ⟨0xc020, 1, 0x0, 1, 0x0, 0x0, 0x0, 0x0, 0x0, 0x1, 0x0⟩,
  ⟨0xc024, 1, 0x0, 1, 0x0, 0x1000000, 0x3fff003f, 0x0, 0x40000000, 0x0, 0x0⟩,
  ⟨0xc028, 1, 0x0, 1, 0x0, 0x0, 0x0, 0x0, 0x0, 0x0, 0x0⟩,
  ⟨0xc030, 1, 0x0, 1, 0x0, 0x0, 0x3f, 0x0, 0x0, 0x0, 0x0⟩,
  ⟨0xc034, 1, 0x0, 1, 0x0, 0x0, 0xffffffff, 0x0, 0x0, 0x0, 0x0⟩,
  ⟨0xc038, 1, 0x0, 1, 0x0, 0x0, 0xffffffff, 0x0, 0x0, 0x0, 0x0⟩,
  ⟨0xc03c, 1, 0x0, 1, 0x0, 0x0, 0x0, 0x80000000, 0x0, 0x0, 0x0⟩,
  ⟨0xc040, 1, 0x0, 1, 0x0, 0x0, 0x0, 0x1f, 0x0, 0x0, 0x0⟩,
  ⟨0xc080, 16, 0x4, 1, 0x0, 0x0, 0x0, 0x0, 0x0, 0x0, 0x0⟩]
/-! Block FABG at 0x1808000. -/
/-- FAB_CTRL (16_fabric.md R483). -/
def rFAB_CTRL : Nat := 0x1808000
/-- FAB_CTRL.ED_FOLLOW. -/ def fFAB_CTRL_ED_FOLLOW : Fld := ⟨31, 31⟩
/-- FAB_CTRL.MASTER_EN. -/ def fFAB_CTRL_MASTER_EN : Fld := ⟨30, 30⟩
/-- FAB_CTRL.TIME_PRIO. -/ def fFAB_CTRL_TIME_PRIO : Fld := ⟨23, 16⟩
/-- FAB_CTRL.HOPS. -/ def fFAB_CTRL_HOPS : Fld := ⟨15, 8⟩
/-- FAB_CTRL.VER_MAX. -/ def fFAB_CTRL_VER_MAX : Fld := ⟨7, 4⟩
/-- FAB_CTRL.VER_MIN. -/ def fFAB_CTRL_VER_MIN : Fld := ⟨3, 0⟩
/-- FAB_SHELFMARK (16_fabric.md R483). -/
def rFAB_SHELFMARK : Nat := 0x1808004
/-- FAB_SHELFMARK.SET. -/ def fFAB_SHELFMARK_SET : Fld := ⟨31, 31⟩
/-- FAB_SHELFMARK.DOMAIN. -/ def fFAB_SHELFMARK_DOMAIN : Fld := ⟨19, 8⟩
/-- FAB_SHELFMARK.MEMBER. -/ def fFAB_SHELFMARK_MEMBER : Fld := ⟨7, 0⟩
/-- FAB_STATUS (16_fabric.md R483). -/
def rFAB_STATUS : Nat := 0x1808008
/-- FAB_STATUS.CONFLICT. -/ def fFAB_STATUS_CONFLICT : Fld := ⟨31, 31⟩
/-- FAB_STATUS.TIME_DISAGREE. -/ def fFAB_STATUS_TIME_DISAGREE : Fld := ⟨30, 30⟩
/-- FAB_STATUS.IS_MASTER. -/ def fFAB_STATUS_IS_MASTER : Fld := ⟨29, 29⟩
/-- FAB_STATUS.MASTER_VALID. -/ def fFAB_STATUS_MASTER_VALID : Fld := ⟨28, 28⟩
/-- FAB_STATUS.MASTER. -/ def fFAB_STATUS_MASTER : Fld := ⟨19, 0⟩
/-- FAB_GERR (16_fabric.md R483). -/
def rFAB_GERR : Nat := 0x180800c
/-- FAB_GERR.CONFLICT. -/ def fFAB_GERR_CONFLICT : Fld := ⟨3, 3⟩
/-- FAB_GERR.TIME_DISAGREE. -/ def fFAB_GERR_TIME_DISAGREE : Fld := ⟨2, 2⟩
/-- FAB_GERR.CFG_BUSY. -/ def fFAB_GERR_CFG_BUSY : Fld := ⟨1, 1⟩
/-- FAB_GERR.CFG_BAD. -/ def fFAB_GERR_CFG_BAD : Fld := ⟨0, 0⟩
/-- FAB_TBL_CMD (16_fabric.md R483). -/
def rFAB_TBL_CMD : Nat := 0x1808020
/-- FAB_TBL_CMD.BUSY. -/ def fFAB_TBL_CMD_BUSY : Fld := ⟨31, 31⟩
/-- FAB_TBL_CMD.GO. -/ def fFAB_TBL_CMD_GO : Fld := ⟨30, 30⟩
/-- FAB_TBL_CMD.WRITE. -/ def fFAB_TBL_CMD_WRITE : Fld := ⟨29, 29⟩
/-- FAB_TBL_CMD.TABLE. -/ def fFAB_TBL_CMD_TABLE : Fld := ⟨28, 28⟩
/-- FAB_TBL_CMD.INDEX. -/ def fFAB_TBL_CMD_INDEX : Fld := ⟨11, 0⟩
/-- FAB_CM_CMD (16_fabric.md R483). -/
def rFAB_CM_CMD : Nat := 0x1808040
/-- FAB_CM_CMD.BUSY. -/ def fFAB_CM_CMD_BUSY : Fld := ⟨31, 31⟩
/-- FAB_CM_CMD.GO. -/ def fFAB_CM_CMD_GO : Fld := ⟨30, 30⟩
/-- FAB_CM_CMD.WRITE. -/ def fFAB_CM_CMD_WRITE : Fld := ⟨29, 29⟩
/-- FAB_CM_CMD.DIR. -/ def fFAB_CM_CMD_DIR : Fld := ⟨28, 28⟩
/-- FAB_CM_CMD.PAGE. -/ def fFAB_CM_CMD_PAGE : Fld := ⟨27, 27⟩
/-- FAB_CM_CMD.MARK. -/ def fFAB_CM_CMD_MARK : Fld := ⟨26, 26⟩
/-- FAB_CM_CMD.RESULT. -/ def fFAB_CM_CMD_RESULT : Fld := ⟨25, 23⟩
/-- FAB_CM_CMD.LANE. -/ def fFAB_CM_CMD_LANE : Fld := ⟨18, 13⟩
/-- FAB_CM_CMD.SLOT. -/ def fFAB_CM_CMD_SLOT : Fld := ⟨12, 0⟩
/-- FAB_TBL_DATA (16_fabric.md R483). -/
def rFAB_TBL_DATA (i : Nat) : Nat := 0x1808030 + 0x4 * i
/-- FAB_CM_DATA (16_fabric.md R483). -/
def rFAB_CM_DATA : Nat := 0x1808044
/-- FAB_BRIDGE_MAC_LO (16_fabric.md R483). -/
def rFAB_BRIDGE_MAC_LO (i : Nat) : Nat := 0x1808100 + 0x10 * i
/-- FAB_BRIDGE_MAC_HI (16_fabric.md R483). -/
def rFAB_BRIDGE_MAC_HI (i : Nat) : Nat := 0x1808104 + 0x10 * i
/-- FAB_BRIDGE_MAC_HI.VLAN_EN. -/ def fFAB_BRIDGE_MAC_HI_VLAN_EN : Fld := ⟨31, 31⟩
/-- FAB_BRIDGE_MAC_HI.VID. -/ def fFAB_BRIDGE_MAC_HI_VID : Fld := ⟨27, 16⟩
/-- FAB_BRIDGE_MAC_HI.MAC_HI. -/ def fFAB_BRIDGE_MAC_HI_MAC_HI : Fld := ⟨15, 0⟩
/-- FAB_BRIDGE_CTRL (16_fabric.md R483). -/
def rFAB_BRIDGE_CTRL (i : Nat) : Nat := 0x1808108 + 0x10 * i
/-- FAB_BRIDGE_CTRL.VALID. -/ def fFAB_BRIDGE_CTRL_VALID : Fld := ⟨31, 31⟩
/-- FAB_BRIDGE_CTRL.UP. -/ def fFAB_BRIDGE_CTRL_UP : Fld := ⟨30, 30⟩
/-- FAB_BRIDGE_CTRL.LANE. -/ def fFAB_BRIDGE_CTRL_LANE : Fld := ⟨5, 0⟩
/-- Reset values and access masks of block FABG. -/
def rowsFABG : List RegRow := [
  ⟨0x0, 1, 0x0, 1, 0x0, 0x801011, 0xc0ffffff, 0x0, 0x0, 0x0, 0x0⟩,
  ⟨0x4, 1, 0x0, 1, 0x0, 0x0, 0x800fffff, 0x0, 0x0, 0x0, 0x0⟩,
  ⟨0x8, 1, 0x0, 1, 0x0, 0x0, 0x0, 0x0, 0x0, 0x0, 0x0⟩,
  ⟨0xc, 1, 0x0, 1, 0x0, 0x0, 0x0, 0xf, 0x0, 0x0, 0x0⟩,
  ⟨0x20, 1, 0x0, 1, 0x0, 0x0, 0x30000fff, 0x0, 0x40000000, 0x0, 0x0⟩,
  ⟨0x40, 1, 0x0, 1, 0x0, 0x0, 0x3c07ffff, 0x0, 0x40000000, 0x0, 0x0⟩,
  ⟨0x30, 4, 0x4, 1, 0x0, 0x0, 0xffffffff, 0x0, 0x0, 0x0, 0x0⟩,
  ⟨0x44, 1, 0x0, 1, 0x0, 0x0, 0xffffffff, 0x0, 0x0, 0x0, 0x0⟩,
  ⟨0x100, 16, 0x10, 1, 0x0, 0x0, 0xffffffff, 0x0, 0x0, 0x0, 0x0⟩,
  ⟨0x104, 16, 0x10, 1, 0x0, 0x0, 0x8fffffff, 0x0, 0x0, 0x0, 0x0⟩,
  ⟨0x108, 16, 0x10, 1, 0x0, 0x0, 0x8000003f, 0x0, 0x0, 0x0, 0x0⟩]
/-! Block PIN at 0x1c00000. -/
/-- PIN_CTRL (22_electrical.md R645). -/
def rPIN_CTRL : Nat := 0x1c00000
/-- PIN_CTRL.TEMP_WARN. -/ def fPIN_CTRL_TEMP_WARN : Fld := ⟨7, 0⟩
/-- PIN_STATUS (22_electrical.md R645). -/
def rPIN_STATUS : Nat := 0x1c00004
/-- PIN_STATUS.TIME_OK. -/ def fPIN_STATUS_TIME_OK : Fld := ⟨31, 31⟩
/-- PIN_STATUS.ALERT_L. -/ def fPIN_STATUS_ALERT_L : Fld := ⟨30, 30⟩
/-- PIN_STATUS.CLOCK_FAIL_L. -/ def fPIN_STATUS_CLOCK_FAIL_L : Fld := ⟨29, 29⟩
/-- PIN_STATUS.JTAG_UNLOCKED. -/ def fPIN_STATUS_JTAG_UNLOCKED : Fld := ⟨28, 28⟩
/-- PIN_STATUS.THERM_TRIP. -/ def fPIN_STATUS_THERM_TRIP : Fld := ⟨27, 27⟩
/-- PIN_STATUS.TAMPER. -/ def fPIN_STATUS_TAMPER : Fld := ⟨7, 4⟩
/-- PIN_STATUS.PULSE_OUT. -/ def fPIN_STATUS_PULSE_OUT : Fld := ⟨3, 0⟩
/-- PIN_ERR (22_electrical.md R645). -/
def rPIN_ERR : Nat := 0x1c00008
/-- PIN_ERR.JTAG_FAIL. -/ def fPIN_ERR_JTAG_FAIL : Fld := ⟨2, 2⟩
/-- PIN_ERR.THERM_TRIP. -/ def fPIN_ERR_THERM_TRIP : Fld := ⟨1, 1⟩
/-- PIN_ERR.TEMP_HIGH. -/ def fPIN_ERR_TEMP_HIGH : Fld := ⟨0, 0⟩
/-- PIN_TEMP (22_electrical.md R645). -/
def rPIN_TEMP : Nat := 0x1c0000c
/-- PIN_TEMP.PEAK. -/ def fPIN_TEMP_PEAK : Fld := ⟨31, 16⟩
/-- PIN_TEMP.TJ. -/ def fPIN_TEMP_TJ : Fld := ⟨15, 0⟩
/-- PIN_CAGE_CTRL (22_electrical.md R645). -/
def rPIN_CAGE_CTRL (i : Nat) : Nat := 0x1c00100 + 0x20 * i
/-- PIN_CAGE_CTRL.APP_ADDR. -/ def fPIN_CAGE_CTRL_APP_ADDR : Fld := ⟨23, 16⟩
/-- PIN_CAGE_CTRL.I2C_SPEED. -/ def fPIN_CAGE_CTRL_I2C_SPEED : Fld := ⟨9, 8⟩
/-- PIN_CAGE_CTRL.FORCE_TXDIS. -/ def fPIN_CAGE_CTRL_FORCE_TXDIS : Fld := ⟨6, 6⟩
/-- PIN_CAGE_CTRL.LPM. -/ def fPIN_CAGE_CTRL_LPM : Fld := ⟨5, 5⟩
/-- PIN_CAGE_CTRL.MOD_RESET. -/ def fPIN_CAGE_CTRL_MOD_RESET : Fld := ⟨4, 4⟩
/-- PIN_CAGE_CTRL.REIDENT. -/ def fPIN_CAGE_CTRL_REIDENT : Fld := ⟨3, 3⟩
/-- PIN_CAGE_STATUS (22_electrical.md R645). -/
def rPIN_CAGE_STATUS (i : Nat) : Nat := 0x1c00104 + 0x20 * i
/-- PIN_CAGE_STATUS.ID. -/ def fPIN_CAGE_STATUS_ID : Fld := ⟨31, 24⟩
/-- PIN_CAGE_STATUS.APP. -/ def fPIN_CAGE_STATUS_APP : Fld := ⟨23, 8⟩
/-- PIN_CAGE_STATUS.MOD_STATE. -/ def fPIN_CAGE_STATUS_MOD_STATE : Fld := ⟨7, 5⟩
/-- PIN_CAGE_FAULT (22_electrical.md R645). -/
def rPIN_CAGE_FAULT (i : Nat) : Nat := 0x1c00108 + 0x20 * i
/-- PIN_CAGE_FAULT.SHORT. -/ def fPIN_CAGE_FAULT_SHORT : Fld := ⟨22, 16⟩
/-- PIN_CAGE_FAULT.OPEN. -/ def fPIN_CAGE_FAULT_OPEN : Fld := ⟨6, 0⟩
/-- PIN_CAGE_ACCEPT (22_electrical.md R645). -/
def rPIN_CAGE_ACCEPT (i : Nat) (j : Nat) : Nat := 0x1c00110 + 0x20 * i + 0x4 * j
/-- PIN_CAGE_ACCEPT.VALID. -/ def fPIN_CAGE_ACCEPT_VALID : Fld := ⟨31, 31⟩
/-- PIN_CAGE_ACCEPT.ID. -/ def fPIN_CAGE_ACCEPT_ID : Fld := ⟨23, 16⟩
/-- PIN_CAGE_ACCEPT.APP. -/ def fPIN_CAGE_ACCEPT_APP : Fld := ⟨15, 0⟩
/-- Reset values and access masks of block PIN. -/
def rowsPIN : List RegRow := [
  ⟨0x0, 1, 0x0, 1, 0x0, 0x64, 0xff, 0x0, 0x0, 0x0, 0x0⟩,
  ⟨0x4, 1, 0x0, 1, 0x0, 0x60000000, 0x0, 0x0, 0x0, 0x0, 0x0⟩,
  ⟨0x8, 1, 0x0, 1, 0x0, 0x0, 0x0, 0x7, 0x0, 0x0, 0x0⟩,
  ⟨0xc, 1, 0x0, 1, 0x0, 0x0, 0x0, 0x0, 0x0, 0x0, 0x0⟩,
  ⟨0x100, 12, 0x20, 1, 0x0, 0x0, 0xff0370, 0x0, 0x8, 0x0, 0x0⟩,
  ⟨0x104, 12, 0x20, 1, 0x0, 0x0, 0x0, 0x0, 0x0, 0x0, 0x0⟩,
  ⟨0x108, 12, 0x20, 1, 0x0, 0x0, 0x0, 0x7f007f, 0x0, 0x0, 0x0⟩,
  ⟨0x110, 12, 0x20, 4, 0x4, 0x0, 0x80ffffff, 0x0, 0x0, 0x0, 0x0⟩]
/-- OVF, bit 31 of every counter register (R25 and its like). -/ def fOVF : Fld := ⟨31, 31⟩
/-- COUNT, bits 30:0 of every counter register. -/ def fCOUNT : Fld := ⟨30, 0⟩
/-- A register as one field. -/ def fALL : Fld := ⟨31, 0⟩

/-- Every block of 19_gellen.md R559; the fabric and DRAM device-wide registers stand inside their arrays and come first. -/
def regBlocks : List RegBlk := [
  ⟨0x120800, 1, 0x0, rowsDRAMG⟩,
  ⟨0x1808000, 1, 0x0, rowsFABG⟩,
  ⟨0x0, 1, 0x0, rowsGLOBAL⟩,
  ⟨0x10000, 1, 0x0, rowsCLK⟩,
  ⟨0x20000, 1, 0x0, rowsRST⟩,
  ⟨0x30000, 1, 0x0, rowsBOOT⟩,
  ⟨0x40000, 64, 0x1000, rowsMBX⟩,
  ⟨0x80000, 1, 0x0, rowsGLK⟩,
  ⟨0x90000, 1, 0x0, rowsALM⟩,
  ⟨0xa0000, 1, 0x0, rowsCNT⟩,
  ⟨0xb0000, 1, 0x0, rowsSNAP⟩,
  ⟨0xc0000, 1, 0x0, rowsMTEST⟩,
  ⟨0xd0000, 1, 0x0, rowsSEC⟩,
  ⟨0x100000, 1, 0x0, rowsSTK⟩,
  ⟨0x110000, 1, 0x0, rowsPAN⟩,
  ⟨0x120000, 16, 0x1000, rowsDRAM⟩,
  ⟨0x140000, 1, 0x0, rowsCOL⟩,
  ⟨0x150000, 1, 0x0, rowsFWD⟩,
  ⟨0x160000, 1, 0x0, rowsDSQ⟩,
  ⟨0x170000, 1, 0x0, rowsLADLE⟩,
  ⟨0x180000, 1, 0x0, rowsCAT⟩,
  ⟨0x190000, 1, 0x0, rowsSIEVE⟩,
  ⟨0x1a0000, 1, 0x0, rowsCIPH⟩,
  ⟨0x1000000, 48, 0x10000, rowsTREE⟩,
  ⟨0x1400000, 48, 0x10000, rowsUPL⟩,
  ⟨0x1800000, 48, 0x10000, rowsFAB⟩,
  ⟨0x1c00000, 1, 0x0, rowsPIN⟩]

end Sys2Proof.Machine
end

