-- ==== Sys2Proof/Config.lean ====
section
/-! DEFINITION. What the spec leaves to the part or names without computing: the free values and the
uninterpreted functions of cryptography. Each is a constant with no body, so no proof sees its value. -/

namespace Sys2Proof

/-- A fresh 64-bit free value for each position of the model's draw counter (random draws of
10_cipher.md R300, R303, 22_electrical.md R643, and every value the spec leaves open; log entry 3). -/
opaque Config.freeWord : Nat → BitVec 64

/-- FS bytes of one F50 frame, which 09_downstream.md R260 leaves to G.9804.3 and G.9804.2. -/
opaque Config.f50FsBytes : Nat

/-- The instant at which a byte of an F50 frame's FS frame leaves the pins, in ns from the frame's first symbol: the
layout is that of G.9804.3 and G.9804.2 (03_tree_line.md R59). -/
opaque Config.f50ByteNs : Nat → Nat

/-- The x-coordinate of the ECDH shared point of the device's private P-384 key and a public key: 48 bytes
(10_cipher.md R303). The private key comes from the die (R302). -/
opaque Config.ecdhX : List (BitVec 8) → List (BitVec 8)

/-- AES-256-GCM decryption of key, IV, additional data, ciphertext and tag (NIST SP 800-38D; 10_cipher.md R304): the
plaintext, or none where the tag fails. -/
opaque Config.gcmOpen : List (BitVec 8) → List (BitVec 8) → List (BitVec 8) → List (BitVec 8) → List (BitVec 8) → Option (List (BitVec 8))

/-- AES-256-GCM encryption of key, IV, additional data and plaintext: ciphertext and tag, the plaintext's length and 16 bytes
(NIST SP 800-38D; 10_cipher.md R298). -/
opaque Config.gcmSeal : List (BitVec 8) → List (BitVec 8) → List (BitVec 8) → List (BitVec 8) → List (BitVec 8)

/-- ECDSA P-384 verification of a public key, a message and a signature (FIPS 186-5; 20_clocks_boot.md R596, 22_electrical.md R643). -/
opaque Config.ecdsaOk : List (BitVec 8) → List (BitVec 8) → List (BitVec 8) → Bool

/-- The device's certificate (10_cipher.md R302). -/
opaque Config.certificate : List (BitVec 8)

/-- The device key that the physically unclonable function gives (10_cipher.md R301). -/
opaque Config.pufKey : List (BitVec 8)

/-- The fused hash of the owner's public key in a key slot, and whether the slot is revoked (20_clocks_boot.md R596). -/
opaque Config.keyHash : Nat → List (BitVec 8)
opaque Config.keyRevoked : Nat → Bool

/-- The fused minimum of the security version (20_clocks_boot.md R596). -/
opaque Config.minSvn : Nat

/-- The fused firmware key, usable only by the wrap engines (20_clocks_boot.md R596). -/
opaque Config.firmwareKey : List (BitVec 8)

/-- The vendor's debug key, a P-384 public key (22_electrical.md R643). -/
opaque Config.debugKey : List (BitVec 8)

end Sys2Proof
end

