-- ==== Sys2Proof/Machine/State.lean ====
section
/-! DEFINITION. The state of the device as plain data: the registers, the byte memories, what each chapter's block
keeps beside its registers, and the queue of waiting commands. The reasons a step can stop stand here too. -/

namespace Sys2Proof.Machine

/-! The Gellen link and the mailboxes (19_gellen.md). -/

/-- A transaction to be sent or sent and not yet acknowledged (R553, R554): TYPE, class, SEQ and the body before the
CRC word. -/
structure Trans where
  typ : Nat
  cls : Nat
  seq : Nat
  body : List Byte
  deriving DecidableEq, Repr

/-- What the device keeps for one Gellen port beside GLK_STATUS (R550-R556). -/
structure GlkPort where
  /-- lanes locked, bit l for lane l of the port (R551) -/
  locked : Nat := 0
  /-- good marks in a row, per lane (R552) -/
  marks : List Nat := [0, 0, 0, 0]
  /-- failed marks in a row, per lane (R552) -/
  bad : List Nat := [0, 0, 0, 0]
  /-- marks in a row with RX_READY = 1, per lane (R552) -/
  ready : List Nat := [0, 0, 0, 0]
  /-- whether the device sends RX_READY = 1 -/
  rxReady : Bool := false
  /-- the SEQ expected next (R555) -/
  rxNext : Nat := 0
  /-- whether a transaction has been accepted since UP: before the first, an ACK carries 0xFFFF (R555) -/
  rxAny : Bool := false
  /-- a NAK has been sent since the last acceptance (R555) -/
  nakSent : Bool := false
  /-- the SEQ given to the next new transaction -/
  txNext : Nat := 0
  /-- unacknowledged transactions, oldest first (R555) -/
  store : List Trans := []
  /-- transactions waiting for credit or for room in the store, oldest first (R555, R556) -/
  queue : List Trans := []
  /-- words consumed per class (R556) -/
  consumed : List Nat := [0, 0, 0]
  /-- the host's LIMIT per class (R556) -/
  limit : List Nat := [0, 0, 0]
  /-- the LIMIT the device offers per class (R556) -/
  offer : List Nat := [4096, 4096, 4096]
  /-- replays without progress (R552) -/
  noProgress : Nat := 0
  deriving DecidableEq, Repr

/-- One alert of the log (R574, R575). -/
structure AlertRec where
  seq : Nat
  code : Nat
  tick : Nat
  params : List Byte
  deriving DecidableEq, Repr

/-- One entry of the violation FIFO (R563). -/
structure Viol where
  tenant : Nat
  addr : Nat
  tick : Nat
  deriving DecidableEq, Repr

/-- A command taken from a mailbox and not yet done (R565). -/
structure Cmd where
  mbx : Nat
  code : Nat
  /-- the request area as copied, REQ_LEN bytes -/
  req : List Byte
  /-- the tenant the command runs as; none is the owner -/
  caller : Option Nat
  /-- whether it has begun and waits for a later event -/
  started : Bool
  /-- what it waits for, as its chapter lays down -/
  note : List Nat
  deriving DecidableEq, Repr

/-- What the device keeps for one ring (R570-R573). -/
structure RingX where
  /-- descriptors completed since the last event (R572) -/
  since : Nat := 0
  /-- the TAG of the DMA_READ outstanding, none where none is (R573) -/
  tag : Option Nat := none
  /-- whether that read fetches a descriptor (or a packet's data) -/
  fetchDesc : Bool := true
  /-- the descriptors of the packet being fetched: address, length, END -/
  descs : List (Nat × Nat × Bool) := []
  /-- descriptors of the owned range already fetched on rings 0-15: address and size -/
  posted : List (Nat × Nat) := []
  /-- bytes fetched of the packet in hand -/
  data : List Byte := []
  /-- the port in use -/
  port : Nat := 0
  /-- deliveries of rings 0-15 that wait for descriptors or for a port, oldest first (R570, R572) -/
  waits : List (List Byte) := []
  deriving DecidableEq, Repr

/-- The Gellen block's state beside its registers. -/
structure GlkState where
  portA : GlkPort := {}
  portB : GlkPort := {}
  /-- the newest frequency sequence and whether one was ever sent (R558) -/
  freqSeq : Nat := 0
  freqSent : Bool := false
  /-- the alert log, newest first, at most 256 (R575) -/
  log : List AlertRec := []
  /-- the violation FIFO, oldest first, at most 64 (R563) -/
  viols : List Viol := []
  /-- mailbox commands taken and not done, in order of arrival (R565, R566) -/
  cmds : List Cmd := []
  /-- per ring (R570-R573) -/
  rings : List (Nat × RingX) := []
  /-- the next TAG of a DMA_READ -/
  nextTag : Nat := 0
  deriving DecidableEq, Repr
/-- Requests bound to a boundary and the position in the tick (01_tick.md). -/
structure TickState where
  /-- TICK_REQ bits whose request came before the cut-off (R19) -/
  onTime : Nat := 0
  /-- TICK_REQ bits whose request came at or after the cut-off (R19) -/
  late : Nat := 0
  /-- TICK_TREQ bits pending (R20, R21) -/
  treq : Nat := 0
  /-- the sampled target tick -/
  target : Nat := 0
  /-- ns into the tick in progress that the commands have shown (R18) -/
  now : Nat := 0
  /-- the ns of its grid tick at which the tick in progress began: 0, but in a tick that began at a phase step (R13) -/
  origin : Nat := 0
  /-- consecutive repeat maps per tree (R30) -/
  ovrRun : List (Nat × Nat) := []
  deriving DecidableEq, Repr
/-- A sample of a sampling unit (21_counters_test.md R618): the four DATA words. -/
structure Sample where
  w0 : Nat
  w1 : Nat
  w2 : Nat
  w3 : Nat
  deriving DecidableEq, Repr

/-- One entry of the march test log (R622, R627). -/
structure MtestLog where
  target : Nat
  element : Nat
  op : Nat
  sub : Nat
  addr : Nat
  tick : Nat
  deriving DecidableEq, Repr

/-- Sampling units and the march test engine beside their registers (21_counters_test.md). -/
structure CntState where
  /-- FIFOs of samples per unit, oldest first, at most 8 (R618) -/
  fifos : List (Nat × List Sample) := []
  /-- the march test's log, oldest first, at most 64 (R622) -/
  mtLog : List MtestLog := []
  /-- the run active: MTEST_CTRL as it started (R620) -/
  run : Option Nat := none
  deriving DecidableEq, Repr
/-- What the device keeps for one lane beside its registers (02_lanes.md). -/
structure LaneX where
  /-- the receiver-detect probe runs (R50) -/
  probing : Bool := false
  /-- the request the receiver has outstanding toward the far transmitter, its control word (R43) -/
  ask : Option Nat := none
  /-- the far control word last acted on (R42) -/
  farCtrl : Nat := 0
  /-- RESPONSE and TAP_ECHO held toward the far receiver (R42) -/
  response : Nat := 0
  echo : Nat := 0
  /-- far RECEIVER_READY seen in this training (R44) -/
  farReady : Bool := false
  /-- alert LANE_OPEN has been raised in this probing (R44) -/
  openAlerted : Bool := false
  /-- the word boundary's position, 0-63 (R47) -/
  slip : Nat := 0
  /-- a scan is running (R46), and the tick at its start -/
  scan : Bool := false
  scanTick : Nat := 0
  /-- symbols counted by a per-terminal scan (04_burst_rx.md R123) -/
  scanSyms : Nat := 0
  /-- a DIAG_LANE check runs: LANE_CTRL and LANE_PAT_CTRL to restore (R54) -/
  saved : Option (BitVec 32 × BitVec 32) := none
  deriving DecidableEq, Repr
/-! Tree line (03_tree_line.md). -/

/-- The PLOAM messages the device sends. -/
inductive PloamKind where
  /-- Assign_ONU-ID of the recommendation (05_activation.md R134) -/
  | assignOnuId
  /-- Ranging_Time (R133) -/
  | rangingTime
  /-- Deactivate_ONU-ID (R134, R143) -/
  | deactivateOnuId
  /-- Disable_Serial_Number, disable form (R144, R145) -/
  | disableSerial
  /-- Disable_Serial_Number, enable form (R145) -/
  | enableSerial
  /-- the burst-profile message (04_burst_rx.md R91) -/
  | burstProfile
  /-- LINE_OPTIONS, type 0xF0 (03_tree_line.md R67) -/
  | lineOptions
  /-- ACT_ANNOUNCE, type 0xF1 (R69) -/
  | actAnnounce
  /-- TAP_REQUEST, type 0xF2 (04_burst_rx.md R111) -/
  | tapRequest
  /-- SEQ_CONFIG, type 0xF4 (17_protection.md R497) -/
  | seqConfig
  /-- TIME_OF_DAY, type 0xF5 (18_almanac.md R535) -/
  | timeOfDay
  /-- a key control message of the recommendation (10_cipher.md R295) -/
  | keyControl
  deriving DecidableEq, Repr

/-- A PLOAM message queued for a tree (R60). -/
structure Ploam where
  kind : PloamKind
  /-- ONU-ID, or 0x3FF to all -/
  dest : Nat
  content : List Byte
  deriving DecidableEq, Repr

/-- What the device keeps for one tree's line beside its registers. -/
structure TreeX where
  /-- the line PLL has locked since EN went 1 (R82) -/
  pllSeen : Bool := false
  /-- the first tick whose boundary may carry the first frame of the start in progress (R80) -/
  firstAt : Option Nat := none
  /-- frames sent since the start, up to 4 (05_activation.md R143) -/
  frames : Nat := 0
  /-- the tick in which the tree last started framing -/
  startTick : Nat := 0
  /-- the tree counts as enabled: EN is 1 and no interruption of R73 holds -/
  live : Bool := false
  /-- PLOAM messages queued, oldest first (R60) -/
  ploam : List Ploam := []
  /-- the tick at which the RSSI trigger was armed (R77) -/
  armTick : Nat := 0
  /-- the Catalogue handle the armed trigger waits for -/
  armOff : Nat := 0
  deriving DecidableEq, Repr
/-- One cage, of a tree or of the pins (R72-R74): runs of mismatches per pin, whether PRS_L has risen and not yet been
debounced, and whether a pin cage's TXDIS is deasserted. -/
structure CageX where
  runs : List (Nat × Nat) := []
  away : Bool := false
  laser : Bool := false
  deriving DecidableEq, Repr
/-- LINE_OPTIONS of one terminal (R67, R68). -/
structure LineOpt where
  /-- the options the device's receiver applies -/
  inForce : Nat := 0
  /-- the options last asked for, where a send is outstanding -/
  asked : Option Nat := none
  sends : Nat := 0
  effective : Nat := 0
  acked : Bool := false
  /-- a send waits for an unanswered TAP_REQUEST (04_burst_rx.md R116) -/
  waits : Bool := false
  deriving DecidableEq, Repr
/-! Upstream burst reception (04_burst_rx.md). -/

/-- A preset record (R96). -/
structure Preset where
  /-- VALID, bits 2:0 -/
  valid : Nat := 0
  forceL : Bool := false
  miss : Nat := 0
  good : Nat := 0
  rounds : Nat := 0
  result : Nat := 0
  age : Nat := 0
  /-- confirmed transmitter taps of slots 0 and 1: four signed bytes each -/
  taps0 : List Byte := [0#8, 0#8, 0#8, 0#8]
  taps1 : List Byte := [0#8, 0#8, 0#8, 0#8]
  /-- the three 16-byte slots -/
  slot0 : List Byte := List.replicate 16 0#8
  slot1 : List Byte := List.replicate 16 0#8
  slot2 : List Byte := List.replicate 16 0#8
  deriving DecidableEq, Repr

/-- What a grant is for (07_ladle_demand.md R196-R205, 08_ladle_maps.md R236, 05_activation.md, 17_protection.md R509). -/
inductive GKind where
  | coop
  | ranging
  | fine
  | lost
  | sn
  | keepalive
  | fixed
  | data
  | probe
  | test
  deriving DecidableEq, Repr

/-- A burst descriptor (R103, 08_ladle_maps.md R247). -/
structure Desc where
  /-- the entry of the in-flight partition -/
  entry : Nat
  term : Nat
  alloc : Nat
  profile : Nat
  slot : Nat
  kind : GKind
  /-- a later section of a chained burst -/
  cont : Bool
  /-- queued less than 2 us before S (R104) -/
  late : Bool
  /-- S or M named where R99 requires L -/
  mismatch : Bool
  deriving DecidableEq, Repr

/-- The burst being received (R105-R108, R118). -/
structure Burst where
  descs : List Desc
  confirmed : Bool
  /-- the slot's rate and terminal, for codewords -/
  off : Int
  uncorr : Bool
  /-- software has written the preset since the preload (R101) -/
  stale : Bool
  deriving DecidableEq, Repr

/-- Where a tap negotiation stands (R114). -/
inductive NegoPhase where
  /-- measuring the present taps for the first time -/
  | first
  /-- a trial request is unanswered -/
  | asked
  /-- measuring a trial -/
  | trial
  /-- the request that goes back to the kept taps is unanswered -/
  | back
  deriving DecidableEq, Repr

/-- A running tap negotiation (R110-R115). -/
structure Nego where
  term : Nat
  rate : Nat
  taps : List Int
  trial : List Int
  best : Nat
  rounds : Nat
  sinceGain : Nat
  /-- positions taken from the order so far -/
  pos : Nat
  /-- taps answered "not supported", by their index in the four -/
  removed : List Nat
  phase : NegoPhase
  seq : Nat
  effective : Nat
  resent : Bool
  failed : Bool
  bursts : Nat
  sum : Nat
  maxRounds : Nat
  deriving DecidableEq, Repr

/-- What the burst receiver keeps for one tree beside its registers. -/
structure RxTree where
  /-- descriptors of the service receiver, first first, at most 16 (R103) -/
  queue : List Desc := []
  /-- descriptors of the activation receiver -/
  actQueue : List Desc := []
  /-- the burst in progress on each receiver -/
  cur : Option Burst := none
  actCur : Option Burst := none
  /-- terminals waiting for negotiation: handle and MAX_ROUNDS override (R116, R127) -/
  tuneQ : List (Nat × Nat) := []
  nego : Option Nego := none
  /-- the tick at which RETUNE_DUE last queued a terminal (R116) -/
  dueTick : Option Nat := none
  deriving DecidableEq, Repr

/-- A packet part-way through reassembly (R119). -/
structure Reasm where
  bytes : Nat
  tick : Nat
  deriving DecidableEq, Repr
/-! Activation (05_activation.md). -/

/-- The states of a terminal (R134), numbered as ACT_TERM_INFO. -/
inductive TState where
  | absent
  | ranging
  | fine
  | operating
  | lost
  | stopped
  | isolated
  deriving DecidableEq, Repr

/-- A Ranging_Time sent and not acknowledged (R142). -/
structure RtOut where
  eqd : Nat
  sends : Nat
  /-- the tick of the frame that carried the latest send -/
  tick : Nat
  /-- sent on entry to FINE -/
  entry : Bool
  deriving DecidableEq, Repr

/-- One terminal record's activation state. -/
structure TermAct where
  state : TState := .absent
  actLane : Bool := false
  lobRun : Nat := 0
  entryTick : Nat := 0
  /-- equalisation delay in ranging units (R133) -/
  eqd : Nat := 0
  /-- last measured RTD, ns -/
  rtd : Nat := 0
  /-- last drift offset, ranging units -/
  drift : Int := 0
  /-- ranging grants lost (R650) -/
  rangeLost : Nat := 0
  /-- a ranging grant is open (R650) -/
  rangeOpen : Bool := false
  /-- consecutive service grants missed in FINE -/
  fineMiss : Nat := 0
  /-- the drift run: sign, length, sum of offsets in ranging units (R142) -/
  driftPos : Bool := false
  driftLen : Nat := 0
  driftSum : Int := 0
  rt : Option RtOut := none
  /-- the service burst confirmed since Ranging_Time was sent on entry to FINE -/
  fineSeen : Bool := false
  /-- the first frame without the wide margins of R142 -/
  marginUntil : Nat := 0
  /-- ticks of rogue events (R147) -/
  rogue : List Nat := []
  /-- entered RANGING through a quiet window (R140) -/
  viaQuiet : Bool := false
  deriving DecidableEq, Repr

/-- Disable_Serial_Number messages still to send (R145). -/
structure StopSend where
  /-- none is the broadcast form -/
  serial : Option Nat
  enable : Bool
  left : Nat
  /-- the tick of the first frame that carried it -/
  firstTick : Option Nat
  /-- the frame before which it may not start -/
  notBefore : Nat
  /-- the mailbox whose TERM_STOP waits for it -/
  mbx : Option Nat
  deriving DecidableEq, Repr

/-- Where a rogue search waits (R148). -/
inductive SearchPhase where
  /-- waits until stray light is seen, at most 64 ticks -/
  | light
  /-- waits SEARCH_DWELL ticks with a half stopped -/
  | half
  /-- waits SEARCH_DWELL ticks with the last candidate stopped -/
  | last
  deriving DecidableEq, Repr

/-- A rogue search (R148). -/
structure Search where
  cand : List Nat
  group : List Nat
  phase : SearchPhase
  /-- the tick at which the wait ends -/
  until_ : Nat
  lit : Bool
  deriving DecidableEq, Repr

/-- What the activation block keeps for one tree beside its registers. -/
structure ActTree where
  /-- unknown serial numbers, newest first, at most 64: serial, tick, lane (R151) -/
  snList : List (Nat × Nat × Nat) := []
  /-- ticks a quiet SN window has been deferred (R140) -/
  defer : Nat := 0
  /-- a quiet window is due and not opened -/
  qwDue : Bool := false
  /-- a skip has been alerted since the last opened window (R140) -/
  skipAlerted : Bool := false
  /-- a serial-number grant asked again, activation lane and service lane (R239) -/
  askAct : Bool := false
  askSvc : Bool := false
  /-- ticks of stray light among the last 64 (R148) -/
  stray : List Nat := []
  strayAlerted : Bool := false
  search : Option Search := none
  sends : List StopSend := []
  /-- broadcast Deactivate_ONU-ID frames still to send (R143) -/
  bcast : Nat := 0
  deriving DecidableEq, Repr
/-! The Catalogue (06_catalogue.md). -/

/-- A terminal record (R168). -/
structure TermRec where
  valid : Bool := false
  fault : Bool := false
  tenant : Nat := 0
  tree : Nat := 0
  termId : Nat := 0
  defAlloc : Nat := 0
  mgmtChan : Nat := 0
  /-- SERIAL, its eight bytes as a little-endian number -/
  serial : Nat := 0
  /-- REG_ID, 36 bytes as a little-endian number -/
  regId : Nat := 0
  profile : Nat := 0
  lineOpt : Nat := 0
  dual : Bool := false
  mirror : Bool := false
  key256 : Bool := false
  mateSm : Nat := 0
  mateTree : Nat := 0
  keyIndex : Nat := 0
  nAlloc : Nat := 0
  nChan : Nat := 0
  gen : Nat := 0
  created : Nat := 0
  /-- DESCR, 64 bytes as a little-endian number -/
  descr : Nat := 0
  /-- OPAQUE, 256 bytes as a little-endian number -/
  opaq : Nat := 0
  deriving DecidableEq, Repr

/-- An allocation record (R169). -/
structure AllocRec where
  valid : Bool := false
  fault : Bool := false
  police : Bool := false
  tenant : Nat := 0
  tree : Nat := 0
  cls : Nat := 0
  allocId : Nat := 0
  term : Nat := 0
  fixedRate : Nat := 0
  assuredRate : Nat := 0
  maxRate : Nat := 0
  cbs : Nat := 0
  pbs : Nat := 0
  weight : Nat := 0
  minGrant : Nat := 0
  rateSlot : Nat := 0
  interval : Nat := 0
  gen : Nat := 0
  deriving DecidableEq, Repr

/-- A channel record (R170). -/
structure ChanRec where
  valid : Bool := false
  fault : Bool := false
  us : Bool := false
  ds : Bool := false
  encrypt : Bool := false
  prot : Bool := false
  mgmt : Bool := false
  tenant : Nat := 0
  tree : Nat := 0
  portId : Nat := 0
  term : Nat := 0
  alloc : Nat := 0
  dsCir : Nat := 0
  dsPir : Nat := 0
  dsWeight : Nat := 0
  dsPrio : Nat := 0
  gateClass : Nat := 0
  metaV : Nat := 0
  seqWin : Nat := 0
  gen : Nat := 0
  deriving DecidableEq, Repr

/-- A handle and an identifier in quarantine (R161): kind, handle, tree, identifier, tick at which it ends. -/
structure Quar where
  kind : RecKind
  handle : Nat
  tree : Nat
  ident : Nat
  endTick : Nat
  deriving DecidableEq, Repr

/-- A line image captured for write-back (R177). -/
structure WbLine where
  kind : RecKind
  handle : Nat
  image : List Byte
  deriving DecidableEq, Repr

/-- The Catalogue's state beside its registers. -/
structure CatState where
  terms : List (Nat × TermRec) := []
  allocs : List (Nat × AllocRec) := []
  chans : List (Nat × ChanRec) := []
  /-- port map: tree * 65536 + port ID to channel index (R167) -/
  portMap : List (Nat × Option Nat) := []
  quar : List Quar := []
  /-- lines held by each cache, most recently used first (R174) -/
  lineT : List Nat := []
  lineA : List Nat := []
  lineC : List Nat := []
  /-- lines dirtied in the open batch (R177) -/
  openT : List Nat := []
  openA : List Nat := []
  openC : List Nat := []
  /-- the batch being written (R177) -/
  writing : List WbLine := []
  /-- the lines at its head that have been counted late (R177) -/
  counted : Nat := 0
  /-- allocation edits of the closed batch, for the Ladle at the next boundary (R179) -/
  ladleTakes : List (Nat × AllocRec) := []
  /-- the owner's USE: terminals, allocations, channels (R166) -/
  ownerUse : List Nat := [0, 0, 0]
  deriving DecidableEq, Repr
/-! The Ladle (07_ladle_demand.md, 08_ladle_maps.md). -/

/-- The Ladle's working state of one allocation. -/
structure LadAlloc where
  /-- the configuration as the Ladle has taken it (06_catalogue.md R179) -/
  cfg : AllocRec := {}
  /-- the newest report: bytes, the tick it came in, and the tick of the map that carried the reporting grant (R203) -/
  repBytes : Nat := 0
  repTick : Option Nat := none
  repMap : Nat := 0
  /-- a report that waits for the next boundary (R203): bytes, tick, map tick -/
  repNext : Option (Nat × Nat × Nat) := none
  /-- payload granted in recent maps, newest first: map tick and bytes (A of R203) -/
  granted : List (Nat × Nat) := []
  /-- U of the last burst section received, whether its idle share was small, and whether one was ever received (R204) -/
  used : Nat := 0
  nearFull : Bool := false
  heard : Bool := false
  /-- the last grant closed lost (R204) -/
  lastLost : Bool := false
  cc : Nat := 0
  pc : Nat := 0
  s : Nat := 0
  f : Nat := 0
  /-- the shared part stood above 0 in the previous map (R207) -/
  awake : Bool := false
  tc : Nat := 0
  tp : Nat := 0
  /-- the tick of the map that last granted it (R200) -/
  lastGrant : Nat := 0
  /-- a fixed grant carried over (R239) -/
  carried : Bool := false
  deriving DecidableEq, Repr

/-- A pending schedule notice (R213). -/
structure Notice where
  tree : Nat
  alloc : Nat
  bytes : Nat
  /-- the window: the tick of grant time, ns into it, and length in ns -/
  tick : Nat
  ns : Nat
  len : Nat
  /-- order of arrival -/
  order : Nat
  deriving DecidableEq, Repr

/-- A grant of a map, placed (R229-R239). -/
structure Grant where
  kind : GKind
  alloc : Nat
  term : Nat
  profile : Nat
  slot : Nat
  actLane : Bool
  /-- the BRX_PROF slot named in X10 and F50 (04_burst_rx.md R92) -/
  named : Nat
  start : Nat
  section_ : Nat
  payload : Nat
  /-- committed and shared parts of the payload (R197) -/
  committed : Nat
  shared : Nat
  report : Bool
  ploamu : Bool
  cont : Bool
  /-- the burst's span, in byte-times (R229) -/
  lo : Nat
  hi : Nat
  /-- empty time asked on each side, in byte-times (05_activation.md R141, R143) -/
  margin : Nat
  /-- a cooperative grant's window, in byte-times (R237) -/
  winLo : Nat
  winHi : Nat
  deriving DecidableEq, Repr

/-- A reserved interval of a map: lane (true the activation lane), from, to (R231). -/
structure Resv where
  actLane : Bool
  lo : Nat
  hi : Nat
  deriving DecidableEq, Repr

/-- A map under build, held, or sent. -/
structure MapRec where
  /-- the tick of grant time -/
  tick : Nat
  grants : List Grant
  resv : List Resv
  /-- the notices it took (R241) -/
  notices : List Notice
  /-- fixed grants not placed: allocation and whether it was already carried (R239) -/
  unplaced : List (Nat × Bool)
  /-- allocations with demand left in the shared order, and those whose shared part stood above 0 -/
  sharedLeft : List Nat
  awakeSet : List Nat
  /-- tags given to waking allocations in this build (R207) -/
  woken : List (Nat × Nat)
  /-- the last handle served in step 5 (R236) -/
  lastServed : Nat
  /-- a serial-number window placed on each lane (R231) -/
  snAct : Bool
  snSvc : Bool
  /-- held at (ns), none while building -/
  held : Option Nat
  /-- the code of the first failed check (R244) -/
  check : Nat
  repeat_ : Bool
  deriving DecidableEq, Repr

/-- An entry of the in-flight table (R248, R252). -/
structure Ift where
  used : Bool := false
  repeat_ : Bool := false
  kind : GKind := .data
  actLane : Bool := false
  profile : Nat := 0
  slot : Nat := 0
  /-- 0 open, 1 received, 2 lost -/
  state : Nat := 0
  alloc : Nat := 0
  tick : Nat := 0
  start : Nat := 0
  section_ : Nat := 0
  term : Nat := 0
  lo : Nat := 0
  hi : Nat := 0
  cont : Bool := false
  report : Bool := false
  ploamu : Bool := false
  /-- the delimiter of its burst was confirmed, and no write-back or miss may follow (R104) -/
  conf : Bool := false
  queued : Bool := false
  searched : Bool := false
  late : Bool := false
  uncorr : Bool := false
  stale : Bool := false
  /-- the payload it granted -/
  payload : Nat := 0
  deriving DecidableEq, Repr

/-- What the Ladle keeps for one tree. -/
structure LadTree where
  v : Nat := 0
  building : Option MapRec := none
  /-- the map handed over for the next frame -/
  handed : Option MapRec := none
  /-- the map sent in the frame of the tick in progress -/
  sent : Option MapRec := none
  lastServed : Nat := 0
  /-- serial-number windows open: lane and the byte-time, counted from offset 0 of `coverTick`, at which each ends -/
  coverAct : Nat := 0
  coverSvc : Nat := 0
  coverActTick : Nat := 0
  coverSvcTick : Nat := 0
  /-- the in-flight partition's next position never used, and the positions freed, oldest first (R250) -/
  fresh : Nat := 0
  freed : List Nat := []
  /-- allocations changed since the map last built from records (R28) -/
  changed : List (Nat × Nat) := []
  /-- the tick count of the latest map sent (R254) -/
  lastMap : Nat := 0
  deriving DecidableEq, Repr
/-! Packets, buffers and queues (13_stacks_pantry.md, 14_dram.md). -/

/-- A packet in the packet core. -/
structure Pkt where
  /-- from the first byte of the destination MAC address to the last byte of the FCS -/
  bytes : List Byte
  /-- TENANT of the Colander key: the channel's, or 0x1F (11_colander.md R327) -/
  tenant : Nat
  /-- SOURCE of the key: kind and index (R327) -/
  src : Nat
  /-- the channel of a tree source -/
  chan : Option Nat
  metaV : Nat
  yellow : Bool
  /-- the sequence number that travels with it (15_uplinks.md R450, 17_protection.md R496) -/
  seq : Option Nat
  /-- the source shelfmark of a fabric source (16_fabric.md R474) -/
  srcSm : Nat
  /-- the trailer that a received PTP event message is delivered with (15_uplinks.md R448) -/
  trailer : List Byte := []
  deriving DecidableEq, Repr

/-- A buffer in use: its pool, bank, index and size, and where it was charged (R395): 0 egress reserve, 1 tenant reserve,
2 shared region. -/
structure Buf where
  pool : Nat
  bank : Nat
  idx : Nat
  size : Nat
  charge : Nat
  ent : Nat
  ten : Nat
  deriving DecidableEq, Repr

/-- A packet that waits in a queue. -/
structure Held where
  pkt : Pkt
  /-- its buffer; none while it stands in the Stockpot -/
  buf : Option Buf
  ent : Nat
  ten : Nat
  /-- the instant it joined its queue: tick and ns -/
  tick : Nat
  ns : Nat
  /-- the Stockpot page in which it begins and the 64-byte units it takes (14_dram.md R427) -/
  page : Nat := 0
  units : Nat := 0
  /-- its spill write has been done (R427) -/
  written : Bool := false
  /-- it was fetched back from the Stockpot (R429) -/
  fetched : Bool := false
  /-- GATE_HELD has counted it (09_downstream.md R269) -/
  gateHeld : Bool := false
  /-- it is a mirror copy (11_colander.md R339) -/
  mirror : Bool := false
  /-- the sequence tag it carries downstream (17_protection.md R495) -/
  tag : Option Nat := none
  /-- bytes of a fragmented packet already sent (09_downstream.md R270) -/
  sent : Nat := 0
  /-- the fabric header that goes before it (16_fabric.md R472) -/
  hdr : List Byte := []
  deriving DecidableEq, Repr

/-- The Stockpot's chain of one queue (R426): pages in order, each with the packets that begin in it not yet fetched, and
the units used of the last page. -/
structure SpChain where
  pages : List (Nat × Nat) := []
  tail : Nat := 0
  deriving DecidableEq, Repr

/-- A Stacks bank beside STK_BANK: buffers never used since the list was threaded start at `fresh`; those returned stand
in `freed`, newest first (R389). -/
structure BankX where
  fresh : Nat := 0
  freed : List Nat := []
  /-- out of the rotation after a list fault (R391) -/
  off : Bool := false
  deriving DecidableEq, Repr

/-- The handover that runs (R384-R386). -/
structure BankJob where
  bank : Nat
  /-- 0 release, 1 assign, 2 release and assign -/
  action : Nat
  scrub : Bool
  owner : Nat
  pool : Nat
  drain : Nat
  startTick : Nat
  /-- the first boundary at which a JOINING bank may become OWNED -/
  joinTick : Option Nat
  mbx : Option Nat
  deriving DecidableEq, Repr

/-- The Stacks and the Pantry beside their registers. -/
structure PanState where
  banks : List (Nat × BankX) := []
  /-- the bank each pool took its last buffer from (R390) -/
  last : List Nat := [0, 0, 0, 0]
  job : Option BankJob := none
  deriving DecidableEq, Repr

/-- DRAM and the Stockpot beside their registers (14_dram.md). -/
structure DramState where
  /-- Stockpot chains by queue: channel index, or 0x100000 + 8 * port + PRIO -/
  chains : List (Nat × SpChain) := []
  /-- pages never used start at `fresh`; those freed stand in `freed`, newest first -/
  fresh : Nat := 0
  freed : List Nat := []
  /-- bytes of spills accepted and not yet written (R428) -/
  backlog : Nat := 0
  /-- the address the patrol scrub reads next (R421) -/
  scrubAt : Nat := 0
  /-- the channel that retrained in a tick, and the tick (R424) -/
  retrainTick : Option Nat := none
  /-- channels now in an excursion of temperature, one bit each (R423) -/
  hot : Nat := 0
  /-- requests in the channels' bank queues, and those that wait at their ports, oldest first (R413) -/
  reqs : List DramReq := []
  waits : List DramReq := []
  /-- the open row of a bank, by 32 * channel + bank queue: the row, the hint that opened it and the hits that have passed
  older requests in a row (R414, R416) -/
  rows : List (Nat × Nat × Nat × Nat) := []
  /-- the bank queue each channel served last (R414) -/
  turn : List (Nat × Nat) := []
  /-- units written by the processor, by address; unlisted units hold zeros (R422) -/
  units : List (Nat × List Byte) := []
  deriving DecidableEq, Repr
/-! Downstream (09_downstream.md). -/

/-- A tag pair, two buckets and the virtual time of the context below, for a node or a channel (R258, R265). -/
structure DsNode where
  cb : Nat := 0
  pb : Nat := 0
  s : Nat := 0
  f : Nat := 0
  /-- eligible at the last choice (R266) -/
  awake : Bool := false
  /-- V of the context whose members stand below -/
  v : Nat := 0
  deriving DecidableEq, Repr

/-- A gate control list (R268): CYCLE and BASE, and its entry words. -/
structure GateList where
  cycle : Nat
  base : Nat
  entries : List Nat
  deriving DecidableEq, Repr

/-- The gate lists of a tree or an uplink port (R268, R272; 15_uplinks.md R444). -/
structure GateX where
  /-- the pending list's entry words, by entry -/
  pend : List (Nat × Nat) := []
  /-- the armed list and the tick and ns at which it becomes active -/
  armed : Option (GateList × Nat × Nat) := none
  active : Option GateList := none
  deriving DecidableEq, Repr

/-- One latch of every channel's sample (R273): channel, bytes, packets, head delay. -/
structure Latch where
  tick : Nat := 0
  rows : List (Nat × Nat × Nat × Nat) := []
  deriving DecidableEq, Repr

/-- The downstream scheduler beside its registers. -/
structure DsState where
  /-- V of a tree's context of tenant nodes -/
  treeV : List (Nat × Nat) := []
  /-- tenant nodes, tree * 32 + tenant -/
  ten : List (Nat × DsNode) := []
  /-- terminal nodes, (tree * 32 + tenant) * 16384 + handle -/
  term : List (Nat × DsNode) := []
  /-- channels, by index -/
  chan : List (Nat × DsNode) := []
  /-- gate lists: tree, or 64 + first lane of an uplink port -/
  gates : List (Nat × GateX) := []
  latch : Latch := {}
  before : Latch := {}
  /-- live bins of the histograms, as counter words (R275) -/
  hist : List (Nat × List Nat) := []
  /-- the channel whose packet is part sent, per tree (R270) -/
  part : List (Nat × Option Nat) := []
  deriving DecidableEq, Repr
/-! Cipher engines and keys (10_cipher.md). -/

/-- One key slot (R290-R296). -/
structure KeySlot where
  installed : Bool := false
  key : List Byte := []
  aes256 : Bool := false
  /-- its own exponent, 0 where the class exponent applies (R291) -/
  exp : Nat := 0
  count : Nat := 0
  warned : Bool := false
  exhausted : Bool := false
  /-- the superframe counter at which it becomes current (R295) -/
  pending : Option Nat := none
  deriving DecidableEq, Repr

/-- One key entry: two slots and the current one, 0 where none is (R290, R294). -/
structure KeyEnt where
  s1 : KeySlot := {}
  s2 : KeySlot := {}
  cur : Nat := 0
  deriving DecidableEq, Repr

/-- A transport session (R303). -/
structure Session where
  num : Nat
  caller : Option Nat
  key : List Byte
  /-- the least sequence number not yet used up (R304) -/
  nextSeq : Nat
  fails : Nat
  deriving DecidableEq, Repr

/-- A MACsec security association (R298). -/
structure SaEnt where
  valid : Bool := false
  rx : Bool := false
  an : Nat := 0
  sci : Nat := 0
  ssci : Nat := 0
  salt : List Byte := []
  pn : Nat := 0
  win : Nat := 0
  key : List Byte := []
  count : Nat := 0
  /-- a transmit entry has been used -/
  used : Bool := false
  /-- SA_EXHAUSTED has been raised -/
  alerted : Bool := false
  deriving DecidableEq, Repr

/-- A test of an engine in progress (R308, R309). -/
structure EngineTest where
  engine : Nat
  recovery : Bool
  mbx : Option Nat
  /-- engines of KEY_SELFTEST still to test, those tested and those that failed -/
  rest : List Nat
  tested : Nat
  failed : Nat
  busy : Bool
  deriving DecidableEq, Repr

/-- The cipher block beside its registers. -/
structure CipherState where
  keys : List (Nat × KeyEnt) := []
  sessions : List Session := []
  sas : List (Nat × SaEnt) := []
  /-- spares in use: spare and the engine it stands in for; those that take over at the next boundary -/
  spares : List (Nat × Nat) := []
  tests : List EngineTest := []
  /-- a zeroisation runs (R306) -/
  zeroing : Bool := false
  /-- the device key and the two XTS keys; empty where erased -/
  devKey : List Byte := []
  xts1 : List Byte := []
  xts2 : List Byte := []
  deriving DecidableEq, Repr
/-! The Colander (11_colander.md). -/

/-- A packet between two passes (R331, R341): its Edition slot and the pass to come. -/
structure ColPkt where
  pkt : Pkt
  slot : Nat
  pass : Nat
  recirc : Bool
  /-- the header it begins with after DECAP (R331): 0 Ethernet, 4 IPv4, 6 IPv6 -/
  bare : Nat := 0
  deriving DecidableEq, Repr

/-- An Edition slot (R340, R344). -/
structure Edition where
  /-- 0 FREE, 1 PENDING, 2 CURRENT, 3 DRAINING -/
  state : Nat := 0
  number : Nat := 0
  /-- DIGEST, 16 bytes as a little-endian number -/
  digest : Nat := 0
  defFlags : Bool := true
  miss : Nat := 0
  ruleCount : Nat := 0
  actionCount : Nat := 0
  /-- rules and action entries, by index, as byte strings -/
  rules : List (Nat × List Byte) := []
  actions : List (Nat × List Byte) := []
  inflight : Nat := 0
  /-- the tick of the boundary at which it left CURRENT -/
  leftTick : Nat := 0
  deriving DecidableEq, Repr

/-- The staging image (R340). -/
structure Staging where
  rules : List (Nat × List Byte)
  actions : List (Nat × List Byte)
  deriving DecidableEq, Repr

/-- The Colander beside its registers. -/
structure ColState where
  /-- packets that wait for their next pass, oldest first -/
  queue : List ColPkt := []
  slot0 : Edition := { state := 2 }
  slot1 : Edition := {}
  slot2 : Edition := {}
  slot3 : Edition := {}
  staging : Option Staging := none
  /-- the highest NUMBER held since reset (R343) -/
  highest : Nat := 0
  /-- tokens of the exception buckets, in 1/8,000 packet (R337): class, and 16 the aggregate; unlisted is full -/
  tokens : List (Nat × Option Nat) := []
  /-- matching packets counted per mirror session (R339) -/
  mirrors : List (Nat × Nat) := []
  deriving DecidableEq, Repr
/-! Forwarding tables (12_forwarding.md). -/

/-- An entry of the exact-match memory (R357). -/
structure FwdEnt where
  tbl : Nat
  key : List Byte
  action : Nat
  hit : Bool
  static : Bool
  learned : Bool
  wide : Bool
  port : Nat
  deriving DecidableEq, Repr

/-- A learn request (R364). -/
structure LearnReq where
  tbl : Nat
  key : List Byte
  port : Nat
  deriving DecidableEq, Repr

/-- A prefix of the trie (R370). -/
structure PfxEnt where
  tbl : Nat
  vrf : Nat
  addr : List Byte
  len : Nat
  action : Nat
  /-- an uncorrectable error stands in a node on its path (R374) -/
  lost : Bool
  deriving DecidableEq, Repr

/-- The forwarding block beside its registers. -/
structure FwdState where
  /-- first slots of entries: 4 * bucket + slot, and from 0x100000 the overflow store (R355) -/
  slots : List (Nat × Option FwdEnt) := []
  learnQ : List LearnReq := []
  pfx : List PfxEnt := []
  /-- the sweep: passes completed, and the next bucket (R367) -/
  passes : Nat := 0
  sweepAt : Nat := 0
  /-- per table, the count of passes at which AGE_EN last went from 0 to 1 (R368) -/
  ageFrom : List (Nat × Nat) := []
  /-- relocation epochs (R359) -/
  epoch : List (Nat × Nat) := []
  /-- walks of prefix tables: cursor and the last prefix returned (R378) -/
  curs : List (Nat × Nat) := []
  nextCur : Nat := 1
  deriving DecidableEq, Repr
/-! Uplinks (15_uplinks.md). -/

/-- A transmit timestamp (R449). -/
structure TsEnt where
  typ : Nat
  seq : Nat
  sec : Nat
  ns : Nat
  frac : Nat
  deriving DecidableEq, Repr
/-! The fabric (16_fabric.md). -/

/-- What a hello says (R461, R462). -/
structure Hello where
  set : Bool
  sm : Nat
  verMin : Nat
  verMax : Nat
  number : Nat
  digest : Nat
  flags : Nat
  prio : Nat
  masterValid : Bool
  master : Nat
  hops : Nat
  deriving DecidableEq, Repr

/-- A fabric lane beside its registers (R460, R463, R469, R480). -/
structure FabLaneX where
  /-- the tick at which it begins frames -/
  framesFrom : Option Nat := none
  /-- the latest overhead cell whose CRC passed, and whether the latest cell's did -/
  cell : List Byte := []
  crcOk : Bool := false
  /-- ARRIVAL of the latest cell, in ns from the local boundary of its FRAME_TICK -/
  arrival : Int := 0
  frameTick : Nat := 0
  /-- the stamp of its receipt: seconds and ns -/
  rxSec : Nat := 0
  rxNs : Nat := 0
  /-- an overhead cell has been received since the lane entered DATA -/
  heard : Bool := false
  deriving DecidableEq, Repr

/-- Consecutive frames of a received tributary with and without label 0xFF, and not matching and matching (R467). -/
structure FabTrib where
  aisOn : Nat := 0
  aisOff : Nat := 0
  ais : Bool := false
  labOn : Nat := 0
  labOff : Nat := 0
  lab : Bool := false
  /-- SEQ of the next slot sent, and bytes of the packet part sent (R471) -/
  txSeq : Nat := 0
  txRest : List Byte := []
  deriving DecidableEq, Repr

/-- A bundle, by its first lane, beside its registers. -/
structure FabBnd where
  hello : Option Hello := none
  /-- lanes whose cell of the frame in progress has come -/
  seen : List Nat := []
  rdiOn : Nat := 0
  rdiOff : Nat := 0
  /-- the tick since which every lane has been in DATA with signal and lock -/
  losOk : Option Nat := none
  mismatch : Bool := false
  /-- received frames held for the interchange: FRAME_TICK and ARRIVAL, newest first (R469) -/
  held : List (Nat × Int) := []
  deriving DecidableEq, Repr

/-- A bridge beside its registers (R477). -/
structure BridgeX where
  hello : Option Hello := none
  lastTick : Nat := 0
  mismatch : Bool := false
  deriving DecidableEq, Repr

/-- The fabric beside its registers. -/
structure FabState where
  lanes : List (Nat × FabLaneX) := []
  bnds : List (Nat × FabBnd) := []
  /-- received and sent tributaries: 64 * first lane + tributary -/
  tribs : List (Nat × FabTrib) := []
  bridges : List (Nat × BridgeX) := []
  /-- connection memories: ((2 * lane + direction) * 2 + page) * 6000 + slot (R465) -/
  cm : List (Nat × Nat) := []
  /-- route entries as four words: 4096 * table + index (R475, R483) -/
  routes : List (Nat × List Nat) := []
  /-- MASTER_HOPS advertised (R480) -/
  hops : Nat := 0
  /-- the bundle from whose peer the master was learnt -/
  via : Option Nat := none
  /-- consecutive ticks within 0.5 us of the master (R481), and the latest offset -/
  agree : Nat := 0
  /-- the latest tick at which a duplicate shelfmark was seen -/
  dupTick : Nat := 0
  /-- the peer and NUMBER an Edition follow waits to take up again (R481) -/
  followTick : Option Nat := none
  deriving DecidableEq, Repr
/-! Protection and the Sieve (17_protection.md). -/

/-- A Sieve stream (R501-R503, R516). -/
structure Stream where
  valid : Bool := false
  started : Bool := false
  /-- H, the highest accepted number -/
  h : Nat := 0
  /-- W, the window -/
  w : Nat := 0
  /-- numbers of the window not seen -/
  unseen : List Nat := []
  nextDs : Nat := 0
  /-- PASSED, DUP, LATE, LOST, OOW, RESETS, RX_PATH0, RX_PATH1 as counter words -/
  cnt : List Nat := [0, 0, 0, 0, 0, 0, 0, 0]
  /-- the tick of the latest acceptance -/
  lastTick : Nat := 0
  /-- consecutive out-of-window packets -/
  oowRun : Nat := 0
  deriving DecidableEq, Repr

/-- What one side keeps for a pair beside its registers (R493-R514). -/
structure PairX where
  /-- the latest report received, and the tick it evaluated -/
  report : List Byte := []
  reportTick : Option Nat := none
  /-- the tick of the latest confirmed test burst, the last terminal tested, the last test grant's tick -/
  testOk : Option Nat := none
  testTerm : Nat := 0
  testTick : Nat := 0
  /-- the test grant to name in the next report: map tick, start time, terminal ID, rate slot -/
  testName : Option (Nat × Nat × Nat × Nat) := none
  /-- the test grant the mate has named: tick, start, terminal handle, slot -/
  testDue : Option (Nat × Nat × Nat × Nat) := none
  /-- DELTA has been measured -/
  deltaSet : Bool := false
  /-- no yield for DARK before this tick (R512) -/
  holdUntil : Nat := 0
  takeoverTick : Nat := 0
  /-- a YIELD to carry in the next report -/
  yields : Bool := false
  /-- the first frame after a takeover makes the role ACTIVE (R513) -/
  taking : Bool := false
  /-- the latest mirror batch applied (R505) -/
  batch : Nat := 0
  /-- mirror copies held for this pair, by kind number and handle -/
  copies : List (Nat × Nat) := []
  /-- mirror copies the running full copy has included, none where none runs -/
  fullSeen : List (Nat × Nat) := []
  /-- slot changes to report (R507) -/
  slots : List (Nat × Nat) := []
  /-- bursts confirmed, grants closed, grants of OPERATING terminals closed and closed received, in the tick in progress -/
  cur : List Nat := [0, 0, 0, 0]
  /-- the same for the previous tick -/
  prev : List Nat := [0, 0, 0, 0]
  /-- weak and not-weak runs of each path, and whether it was alerted (R510) -/
  weak : List Nat := [0, 0]
  sound : List Nat := [8, 8]
  /-- packets each path delivered and packets accepted in the tick in progress -/
  paths : List Nat := [0, 0, 0]
  /-- activation images last sent: terminal handle, state and EqD (R504) -/
  actSent : List (Nat × Nat × Nat) := []
  deriving DecidableEq, Repr

/-- A SEQ_CONFIG not acknowledged (R497). -/
structure SeqOut where
  sends : Nat
  term : Nat
  deriving DecidableEq, Repr
/-! The Almanac (18_almanac.md). -/

/-- A pulse output beside its registers (R537-R539). -/
structure PulseX where
  /-- the settings in force: CTRL, START_SEC_LO, START_SEC_HI, START_NS, PERIOD, WIDTH, COUNT -/
  cfg : List Nat := [0, 0, 0, 0, 1000000000, 1000000, 0]
  /-- a register has been written since the last boundary (R538) -/
  dirty : Bool := false
  /-- COUNT has been written since the last boundary -/
  recount : Bool := false
  /-- the one-shot has been sent or was late -/
  sent : Bool := false
  /-- the train has sent its COUNT pulses -/
  ended : Bool := false
  deriving DecidableEq, Repr

/-- The Almanac beside its registers. -/
structure AlmState where
  /-- the rate term r and the phase term p, in 2^-8 ppb (R528) -/
  r : Int := 0
  p : Int := 0
  /-- the FREQ last sent to the host (R528) -/
  sent : Int := 0
  /-- the offset to come is the first since ACQUIRE was entered (R529) -/
  first : Bool := true
  /-- offsets in a row within LOCK_THR, and outliers in a row (R529) -/
  inRow : Nat := 0
  outRow : Nat := 0
  /-- the tick of the latest offset, or of the start -/
  lastOff : Nat := 0
  /-- the tick at which HOLDOVER was entered (R531) -/
  holdTick : Nat := 0
  /-- TIME_STEP_BLOCKED has been raised since LOCKED (R530) -/
  blocked : Bool := false
  /-- the host clock is lost, or LOCKED has not been reached since it returned (R533) -/
  noClock : Bool := false
  unproved : Bool := false
  /-- stamps of the pulse input, oldest first, in ns of TAI, at most 16 (R536) -/
  stamps : List Nat := []
  /-- the latest edge, before DELAY is taken off -/
  lastEdge : Option Nat := none
  /-- the pulse outputs, by number -/
  pulses : List (Nat × PulseX) := []
  /-- the tick of the latest TIME_OF_DAY (R535) -/
  todTick : Option Nat := none
  deriving DecidableEq, Repr
/-! Clocks, resets and start-up (20_clocks_boot.md). -/

/-- The supervisor's states (R588). -/
inductive SupState where
  | off
  | ringStart
  | run
  | void
  | failed
  deriving DecidableEq, Repr

/-- A block reset that runs (R592, R593): KIND, INDEX, units dropped by its crossings, and the mailbox that waits. -/
structure BlkReset where
  kind : Nat
  idx : Nat
  drops : Nat
  mbx : Option Nat
  deriving DecidableEq, Repr

/-- Clocks, resets and boot beside their registers. -/
structure ClkState where
  sup : SupState := .ringStart
  /-- start attempts of the Void in progress (R588), and whether one runs now -/
  attempts : Nat := 0
  trying : Bool := true
  /-- the tick at which each reference last became valid (R583) -/
  validA : Nat := 0
  validB : Nat := 0
  /-- the tick of the loss of the host clock (R584) -/
  lostTick : Nat := 0
  /-- crossings that are not in RUN: 1 PEER_RESET, 2 RESYNC (R593) -/
  cross : List (Nat × Nat) := []
  blk : Option BlkReset := none
  /-- DEGRADE_CH8 of the copy in use (R595, R600) -/
  degrade : Bool := false
  /-- the copies of the Archive tried in this boot, bit 0 A, bit 1 B (R598) -/
  tried : Nat := 0
  /-- a warm reset commanded by DIAG_RESET is due (R605) -/
  warmDue : Bool := false
  /-- the management processor restarts after a block reset of KIND 0 (R592) -/
  mpDown : Bool := false
  /-- a Void was left by the reset: CLOCK_VOID is due after boot (R589) -/
  voidDue : Bool := false
  deriving DecidableEq, Repr
/-! Pins (22_electrical.md). -/

/-- Temperature and JTAG beside the PIN registers (R637, R643). -/
structure PinState where
  /-- the reading stands at or above TEMP_WARN -/
  warm : Bool := false
  /-- a reading has been taken since the reset -/
  read : Bool := false
  /-- the challenge shifted out last -/
  challenge : Option (List Byte) := none
  /-- invalid responses since the last cold reset -/
  fails : Nat := 0
  deriving DecidableEq, Repr

/-- Everything the device holds but its byte memories and the queue. -/
structure Dev where
  /-- the part variant, by fuses (00_scope.md R1) -/
  part : Variant := .c
  /-- every register that does not hold its reset value, by privileged-window address (19_gellen.md R559) -/
  regs : List (Nat × BitVec 32) := []
  /-- the Gellen block and the mailboxes (19_gellen.md) -/
  glk : GlkState := {}
  /-- the tick (01_tick.md) -/
  tick : TickState := {}
  /-- alerts raised in this tick that are raised at most once per tick: code and key -/
  once : List (Nat × Nat) := []
  /-- sampling units and the march test engine (21_counters_test.md) -/
  cnt : CntState := {}
  /-- lanes, by the address of their lane block (02_lanes.md) -/
  lanes : List (Nat × LaneX) := []
  /-- tree lines (03_tree_line.md) -/
  trees : List (Nat × TreeX) := []
  /-- cages, trees 0-47 and pin cages 48-59 (03_tree_line.md R72, 22_electrical.md R640) -/
  cages : List (Nat × CageX) := []
  /-- LINE_OPTIONS by terminal handle (03_tree_line.md R67, R68) -/
  lineOpts : List (Nat × LineOpt) := []
  /-- burst receivers by tree (04_burst_rx.md) -/
  rx : List (Nat × RxTree) := []
  /-- the preset store by terminal handle (04_burst_rx.md R96) -/
  presets : List (Nat × Preset) := []
  /-- SEQUENCE last used in a TAP_REQUEST, by terminal handle (04_burst_rx.md R111) -/
  tapSeq : List (Nat × Nat) := []
  /-- packets under reassembly, by allocation handle (04_burst_rx.md R119) -/
  reasm : List (Nat × Reasm) := []
  /-- activation state by terminal handle (05_activation.md R134) -/
  act : List (Nat × TermAct) := []
  /-- activation state by tree (05_activation.md) -/
  actTrees : List (Nat × ActTree) := []
  /-- the Catalogue (06_catalogue.md) -/
  cat : CatState := {}
  /-- the Ladle's working state by allocation handle (07_ladle_demand.md) -/
  lad : List (Nat × LadAlloc) := []
  /-- the Ladle's state by tree (08_ladle_maps.md) -/
  ladTrees : List (Nat × LadTree) := []
  /-- pending schedule notices, in order of arrival (07_ladle_demand.md R213) -/
  notices : List Notice := []
  /-- count of notices accepted, for their order of arrival -/
  noticeSeq : Nat := 0
  /-- the in-flight table: tree * 4096 + entry (08_ladle_maps.md R248) -/
  ift : List (Nat × Ift) := []
  /-- the Stacks and the Pantry (13_stacks_pantry.md) -/
  pan : PanState := {}
  /-- DRAM and the Stockpot (14_dram.md) -/
  dram : DramState := {}
  /-- downstream channel queues by channel index, head first (09_downstream.md R256) -/
  chanQ : List (Nat × List Held) := []
  /-- uplink egress queues: 8 * first lane + PRIO, head first (15_uplinks.md R443) -/
  uplQ : List (Nat × List Held) := []
  /-- fabric queues: (64 * (first lane, or 48 + bridge) + tributary) * 8 + PRIO, head first (16_fabric.md R473) -/
  fabQ : List (Nat × List Held) := []
  /-- the downstream scheduler (09_downstream.md) -/
  ds : DsState := {}
  /-- cipher engines and keys (10_cipher.md) -/
  ciph : CipherState := {}
  /-- the Colander (11_colander.md) -/
  col : ColState := {}
  /-- forwarding tables (12_forwarding.md) -/
  fwd : FwdState := {}
  /-- transmit timestamps by port (15_uplinks.md R449) -/
  tsFifo : List (Nat × List TsEnt) := []
  /-- the fabric (16_fabric.md) -/
  fab : FabState := {}
  /-- Sieve streams by channel index (17_protection.md R501) -/
  streams : List (Nat × Stream) := []
  /-- pairs by tree (17_protection.md R491) -/
  pairs : List (Nat × PairX) := []
  /-- SEQ_CONFIG outstanding by channel index (17_protection.md R497) -/
  seqOut : List (Nat × Option SeqOut) := []
  /-- the Almanac (18_almanac.md) -/
  alm : AlmState := {}
  /-- clocks, resets and boot (20_clocks_boot.md) -/
  clk : ClkState := {}
  /-- temperature and JTAG (22_electrical.md) -/
  pin : PinState := {}
  /-- what the device has sent in the step in progress or last done, newest first (log entry 2) -/
  out : List Out := []
  /-- free values drawn (log entry 3) -/
  free : Nat := 0
  /-- mailbox responses of the step in progress: mailbox and bytes; empty between steps (log entry 6) -/
  replies : List (Nat × List Byte) := []
  /-- mailboxes whose areas the step in progress zeroes (19_gellen.md R568); empty between steps -/
  wipes : List Nat := []
  deriving DecidableEq, Repr

/-- The machine: the queue of commands that wait, the byte memories, and the rest. -/
structure State where
  /-- commands waiting, first in, first out -/
  pending : List Instr
  /-- the mailbox request and response areas, by privileged-window address; an unlisted byte reads 0 (19_gellen.md R564, R576) -/
  mem : List Host.Cell
  /-- the 32 MiB boot flash; an unlisted byte reads 0xFF (20_clocks_boot.md R595; log entry 5) -/
  flash : List Host.Cell
  dev : Dev
  deriving DecidableEq, Repr

/-- Why a step can stop with a fault. No command stops this block: the constructor stands for an operand that no host,
line or pin can produce, and no meaning raises it (safe). -/
inductive Fault where
  | impossibleOperand
  deriving DecidableEq, Repr

/-- Why a step can be refused. -/
inductive Refusal where
  /-- exec's arm of a command that has no meaning yet (safe) -/
  | notModelled (mnemonic : String)
  deriving DecidableEq, Repr

/-- The machine right after reset (00_scope.md R9 and each chapter's "After reset"): every register at its reset
value, every block empty, the ring supervisor and the boot at their start (20_clocks_boot.md R588, R598). -/
def State.reset : State := { pending := [], mem := [], flash := [], dev := {} }

end Sys2Proof.Machine
end

