-- ==== Sys2Proof/Machine/Ops.lean ====
section
/-! DEFINITION. The named operations over registers, byte memories and the shared paths: counters, event counters,
alerts, Gellen transactions and mailbox replies. Every later file changes the state through these. -/

namespace Sys2Proof.Machine

/-! Registers (00_scope.md R6-R9). -/

/-- Whether a row covers an offset of its block: the offset is a multiple of each dimension's stride, within its count. -/
def rowHits (r : RegRow) (off : Nat) : Bool :=
  decide (r.off ≤ off) &&
  (let x := off - r.off
   if r.s1 = 0 then x == 0
   else if r.s2 = 0 then x % r.s1 == 0 && decide (x / r.s1 < r.n1)
   else
     let y := x % r.s1
     decide (x / r.s1 < r.n1) && y % r.s2 == 0 && decide (y / r.s2 < r.n2))

/-- The block and the row of a register address (19_gellen.md R559), with the block's copy number. -/
def regFind (a : Nat) : Option (RegBlk × Nat × RegRow) :=
  regBlocks.findSome? (fun b =>
    if b.base ≤ a ∧ a < b.base + b.count * (if b.count = 1 then 0x40000 else b.stride) then
      let off := if b.count = 1 then a - b.base else (a - b.base) % b.stride
      let k := if b.count = 1 then 0 else (a - b.base) / b.stride
      (b.rows.find? (fun r => rowHits r off)).map (fun r => (b, k, r))
    else none)

/-- The reset value of a register: the register map's, and for UPL_PORT_STATUS the lane's own number in FIRST_LANE
(15_uplinks.md R452). -/
def regReset (a : Nat) : BitVec 32 :=
  match regFind a with
  | none => 0#32
  | some (b, k, r) =>
    if b.base = 0x1400000 ∧ r.off = 4 then BitVec.ofNat 32 (r.reset + k * 2 ^ 24) else BitVec.ofNat 32 r.reset

/-- Read a register as it stands. -/
def Dev.rd (d : Dev) (a : Nat) : BitVec 32 := sget regReset d.regs a

/-- Write a register whole, whatever its access codes. -/
def Dev.wr (d : Dev) (a : Nat) (v : BitVec 32) : Dev := { d with regs := sset regReset d.regs a v }

/-- A register as a number. -/
def Dev.rdN (d : Dev) (a : Nat) : Nat := (d.rd a).toNat

/-- Write a register whole with a number. -/
def Dev.wrN (d : Dev) (a v : Nat) : Dev := d.wr a (BitVec.ofNat 32 v)

/-- The field of a word. -/
def fieldOf (w : Nat) (f : Fld) : Nat := w / 2 ^ f.lo % 2 ^ (f.hi - f.lo + 1)

/-- A word with one field replaced. -/
def fieldPut (w : Nat) (f : Fld) (v : Nat) : Nat :=
  w - fieldOf w f * 2 ^ f.lo + v % 2 ^ (f.hi - f.lo + 1) * 2 ^ f.lo

/-- Read a field of a register. -/
def Dev.get (d : Dev) (a : Nat) (f : Fld) : Nat := fieldOf (d.rdN a) f

/-- Whether a one-bit field reads 1. -/
def Dev.bit (d : Dev) (a : Nat) (f : Fld) : Bool := d.get a f == 1

/-- Replace a field of a register. -/
def Dev.put (d : Dev) (a : Nat) (f : Fld) (v : Nat) : Dev := d.wrN a (fieldPut (d.rdN a) f v)

/-- Set a one-bit field to 1: a sticky error bit, a status bit. -/
def Dev.mark (d : Dev) (a : Nat) (f : Fld) : Dev := d.put a f 1

/-- Apply a change where a condition holds. -/
def Dev.when (d : Dev) (c : Bool) (f : Dev → Dev) : Dev := if c then f d else d

/-- A 64-bit value in two registers, the low word at the lower address (R7). -/
def Dev.rd64 (d : Dev) (lo hi : Nat) : Nat := d.rdN lo + 2 ^ 32 * d.rdN hi

/-- Write a 64-bit value to two registers (R7). -/
def Dev.wr64 (d : Dev) (lo hi v : Nat) : Dev := (d.wrN lo (v % 2 ^ 32)).wrN hi (v / 2 ^ 32 % 2 ^ 32)

/-- Add to a counter register: COUNT in bits 30:0 wraps and sets OVF, sticky, in bit 31. -/
def Dev.bumpBy (d : Dev) (a n : Nat) : Dev :=
  let w := d.rdN a
  let c := w % 2 ^ 31 + n
  d.wrN a (c % 2 ^ 31 + (if nbit w 31 || decide (2 ^ 31 ≤ c) then 2 ^ 31 else 0))

/-- Count one event. -/
def Dev.bump (d : Dev) (a : Nat) : Dev := d.bumpBy a 1

/-- The tick count (01_tick.md R15). -/
def Dev.tickNow (d : Dev) : Nat := d.rd64 rTICK_COUNT_LO rTICK_COUNT_HI

/-- Send something: in a thermal trip every high-speed transmitter is in electrical idle (22_electrical.md R637). -/
def Dev.emit (d : Dev) (k : OutKind) (port : Nat) (args : List Nat) (bytes : List Byte := []) : Dev :=
  if k.highSpeed && d.bit rPIN_STATUS fPIN_STATUS_THERM_TRIP then d else { d with out := ⟨k, port, args, bytes⟩ :: d.out }

/-- Draw a free value (log entry 3). -/
def Dev.draw (d : Dev) : Nat × Dev := ((Config.freeWord d.free).toNat, { d with free := d.free + 1 })

/-- The tree exists in this part (00_scope.md R2). -/
def Dev.treeOk (d : Dev) (t : Nat) : Bool := if d.part = .c4 then decide (t < 24) else decide (t < 48)

/-- The DRAM channel exists in this part (00_scope.md R2). -/
def Dev.dramOk (d : Dev) (c : Nat) : Bool := if d.part = .c4 then decide (c < 8) else decide (c < 16)

/-! Event counters (21_counters_test.md R608-R612). -/

/-- The attributes an occurrence carries (R609). -/
structure EvAttr where
  priv : Option Nat := none
  req : Option Nat := none
  addr : Option Nat := none
  tc : Option Nat := none
  deriving DecidableEq, Repr

/-- Whether an occurrence passes a filter profile (R610). -/
def Dev.fltPass (d : Dev) (p : Nat) (a : EvAttr) : Bool :=
  if p = 0 then true else
  let w := d.rdN (rCNT_FLT_CTRL p)
  (match a.priv with | some v => nbit w (23 + v) | none => true) &&
  (match a.req with | some v => !(nbit w 30) || fieldOf w fCNT_FLT_CTRL_REQ == v | none => true) &&
  (match a.addr with
   | some v => !(nbit w 31) || (decide (d.rd64 (rCNT_FLT_ALO_LO p) (rCNT_FLT_ALO_HI p) ≤ v) &&
       decide (v ≤ d.rd64 (rCNT_FLT_AHI_LO p) (rCNT_FLT_AHI_HI p)))
   | none => true) &&
  (match a.tc with | some v => nbit w v | none => true)

/-- Add to one event counter, with its sticky bit and the sampling units bound to it (R612, R615). -/
def Dev.evcAdd (d : Dev) (c n : Nat) : Dev :=
  let v := d.rd64 (rEVC_LO c) (rEVC_HI c) + n
  let d := d.wr64 (rEVC_LO c) (rEVC_HI c) (v % 2 ^ 64)
  let d := d.when (decide (2 ^ 64 ≤ v)) (fun d =>
    d.put (rCNT_OVF (c / 32)) ⟨c % 32, c % 32⟩ 1)
  (List.range 16).foldl (fun d s =>
    if d.bit (rCNT_SMP_CTRL s) fCNT_SMP_CTRL_EN && d.get (rCNT_SMP_CTRL s) fCNT_SMP_CTRL_COUNTER == c then
      d.wrN (rCNT_SMP_REMAIN s) (d.rdN (rCNT_SMP_REMAIN s) - n)
    else d) d

/-- An event occurs `n` times (R608): every counter pointed at it whose view and filter pass adds it (R610, R611). -/
def Dev.evc (d : Dev) (ev n : Nat) (a : EvAttr) : Dev :=
  (skeys (skeep (fun k => decide (0xAC000 ≤ k) && decide (k < 0xB0000)) d.regs)).foldl (fun d k =>
    let w := d.rdN k
    let view := fieldOf w fCNT_CFG_VIEW
    if fieldOf w fCNT_CFG_EVENT == ev && (view == 0x1F || a.req == some view) && d.fltPass (fieldOf w fCNT_CFG_FILTER) a
    then d.evcAdd ((k - 0xAC000) / 4) n else d) d

/-! Gellen transactions (19_gellen.md R553-R556). -/

/-- The two ports. -/
def Dev.port (d : Dev) (p : Nat) : GlkPort := if p = 0 then d.glk.portA else d.glk.portB

/-- Change one port. -/
def Dev.setPort (d : Dev) (p : Nat) (x : GlkPort) : Dev :=
  { d with glk := if p = 0 then { d.glk with portA := x } else { d.glk with portB := x } }

/-- The state field of a port in GLK_STATUS. -/
def fPortState (p : Nat) : Fld := if p = 0 then fGLK_STATUS_HA_STATE else fGLK_STATUS_HB_STATE

/-- A port's state (R552): 0 OFF, 1 LOCK, 2 ALIGN, 3 WAIT_FAR, 4 UP. -/
def Dev.portState (d : Dev) (p : Nat) : Nat := d.get rGLK_STATUS (fPortState p)

/-- The words a transaction counts (R556): its START block, its body and the CRC word. -/
def Trans.words (t : Trans) : Nat := t.body.length / 8 + 2

/-- A transaction on the wire (R549, R553): START block with its CRC-8, body, and the word with the CRC-32C. -/
def Trans.wire (t : Trans) : List Byte :=
  let h := leB 2 (t.body.length / 8 + 1) ++ leB 1 t.typ ++ leB 2 t.seq ++ leB 1 0x1F
  let s := leB 1 0x78 ++ h
  s ++ leB 1 (crc8 s) ++ t.body ++ leB 4 (crc32c (h ++ t.body)) ++ leB 4 0

/-- The class of a TYPE (R554). -/
def transClass (typ : Nat) : Nat :=
  if typ = 0x01 ∨ typ = 0x02 ∨ typ = 0x81 then 0 else if typ = 0x03 ∨ typ = 0x82 ∨ typ = 0x83 then 1 else 2

/-- Whether credit allows a transaction of `w` words (R556). -/
def creditOk (limit consumed w : Nat) : Bool := decide ((limit + 2 ^ 33 - consumed - w) % 2 ^ 32 < 2 ^ 31)

/-- Send what a port's queue, credit and store allow, in order within each class (R555, R556). -/
def Dev.pumpList (d : Dev) (p : Nat) (blocked : List Nat) : List Trans → Dev
  | [] => d
  | t :: ts =>
    let x := d.port p
    let full := decide (512 ≤ x.store.length) || decide (65536 < (x.store.map (fun u => u.body.length + 16)).sum + t.body.length + 16)
    if full || blocked.contains t.cls || !(creditOk (x.limit.getD t.cls 0) (x.consumed.getD t.cls 0) t.words) then
      Dev.pumpList (d.setPort p { x with queue := x.queue ++ [t] }) p (t.cls :: blocked) ts
    else
      let t' := { t with seq := x.txNext }
      let d := d.setPort p { x with
        txNext := (x.txNext + 1) % 65536
        store := x.store ++ [t']
        consumed := x.consumed.set t.cls ((x.consumed.getD t.cls 0 + t.words) % 2 ^ 32) }
      Dev.pumpList ((d.bump (rGLK_CNT 0)).emit .gellen p [t'.typ, t'.seq] t'.wire) p blocked ts

/-- Send what a port's queue allows. -/
def Dev.pump (d : Dev) (p : Nat) : Dev :=
  if d.portState p = 4 then
    let x := d.port p
    Dev.pumpList (d.setPort p { x with queue := [] }) p [] x.queue
  else d

/-- Give a port a transaction to send; a port that is not UP sends nothing (R552). -/
def Dev.send (d : Dev) (p typ : Nat) (body : List Byte) : Dev :=
  if d.portState p = 4 then
    let x := d.port p
    (d.setPort p { x with queue := x.queue ++ [⟨typ, transClass typ, 0, padTo ((body.length + 7) / 8 * 8) body⟩] }).pump p
  else d

/-- The lowest-numbered port that is UP. -/
def Dev.upPort (d : Dev) : Option Nat := if d.portState 0 = 4 then some 0 else if d.portState 1 = 4 then some 1 else none

/-- Send a message on the lowest-numbered port that is UP; none is UP, and it is not sent (log entry 7). -/
def Dev.sendAny (d : Dev) (typ : Nat) (body : List Byte) : Dev :=
  match d.upPort with
  | some p => d.send p typ body
  | none => d

/-! Alerts (19_gellen.md R574, R575). -/

/-- The body of an alert (R574). -/
def AlertRec.body (a : AlertRec) : List Byte :=
  leB 2 a.code ++ leB 2 a.seq ++ leB 4 0 ++ leB 8 a.tick ++ padTo 24 a.params

/-- ALERT_L follows whether an unacknowledged alert stands (R575). -/
def Dev.alertPin (d : Dev) : Dev :=
  let pend := b2n (d.get rGLK_ALERT_SEQ fGLK_ALERT_SEQ_SEQ != d.get rGLK_ALERT_ACK fGLK_ALERT_ACK_SEQ)
  if d.get rGLK_STATUS fGLK_STATUS_ALERT_PEND = pend then d
  else ((d.put rGLK_STATUS fGLK_STATUS_ALERT_PEND pend).put rPIN_STATUS fPIN_STATUS_ALERT_L (1 - pend)).emit .pin 0 [0, 1 - pend]

/-- Send one alert of the log (R575): on the lowest port that is UP, or on both where ALERT_DUP is 1. -/
def Dev.sendAlert (d : Dev) (a : AlertRec) : Dev :=
  if d.bit rGLK_CTRL fGLK_CTRL_ALERT_DUP then
    let n := b2n (decide (d.portState 0 = 4)) + b2n (decide (d.portState 1 = 4))
    ((d.send 0 0x90 a.body).send 1 0x90 a.body).bumpBy (rGLK_CNT 6) n
  else match d.upPort with
    | some p => (d.send p 0x90 a.body).bump (rGLK_CNT 6)
    | none => d

/-- Raise an alert (R574, R575): unless its family is masked, it takes the next sequence, enters the log of 256 and is
sent; an unacknowledged entry it overwrites is lost. -/
def Dev.alert (d : Dev) (code : Nat) (params : List Byte) : Dev :=
  if nbit (d.rdN rGLK_ALERT_MASK) (code / 256) then d else
  let seq := d.get rGLK_ALERT_SEQ fGLK_ALERT_SEQ_SEQ
  let unacked := (seq + 65536 - d.get rGLK_ALERT_ACK fGLK_ALERT_ACK_SEQ) % 65536
  let d := d.when (decide (256 ≤ unacked)) (fun d => (d.bump (rGLK_CNT 7)).mark rGLK_ERR fGLK_ERR_ALERT_LOST)
  let a : AlertRec := ⟨(seq + 1) % 65536, code, d.tickNow, padTo 24 params⟩
  let d := d.put rGLK_ALERT_SEQ fGLK_ALERT_SEQ_SEQ a.seq
  let d := { d with glk := { d.glk with log := (a :: d.glk.log).take 256 } }
  (d.sendAlert a).alertPin

/-- A 4-byte alert parameter (R574). -/
def p4 (n : Nat) : List Byte := leB 4 n
/-- An 8-byte alert parameter: a serial number, tick count, Edition NUMBER or physical address (R574). -/
def p8 (n : Nat) : List Byte := leB 8 n

/-- The registers an alert can write (R574, R575). -/
def alertRegs : List Nat := [rGLK_CNT 0, rGLK_CNT 6, rGLK_CNT 7, rGLK_ERR, rGLK_ALERT_SEQ, rGLK_STATUS, rPIN_STATUS]

/-- Raise an alert at most once per tick per key; the marks are cleared at each boundary. -/
def Dev.alertOnce (d : Dev) (code key : Nat) (params : List Byte) : Dev :=
  if d.once.contains (code, key) then d
  else { d.alert code params with once := (code, key) :: d.once }

/-! Mailbox replies (19_gellen.md R565, R567). -/

/-- RESULT codes (R567). -/
def resOk : Nat := 0
def resBusy : Nat := 1
def resBadParam : Nat := 2
def resNoResource : Nat := 3
def resNotPermitted : Nat := 4
def resTimeout : Nat := 5
def resEditionConflict : Nat := 6
def resKeyExhausted : Nat := 7
def resNotReady : Nat := 8

/-- Finish a command (R565): the whole response, RESP_LEN and RESULT, STATE DONE, SEQ one more, and MBX_DONE where
DONE_MSG is 1. The response bytes reach the response area at the end of the step (`State.run`). -/
def Dev.finish (d : Dev) (m result : Nat) (resp : List Byte) : Dev :=
  let st := rMBX_STATUS m
  let d := d.put st fMBX_STATUS_RESP_LEN resp.length
  let d := d.put st fMBX_STATUS_RESULT result
  let d := d.put st fMBX_STATUS_STATE 2
  let seq := (d.get (rMBX_INFO m) fMBX_INFO_SEQ + 1) % 65536
  let d := d.put (rMBX_INFO m) fMBX_INFO_SEQ seq
  let d := { d with replies := d.replies ++ [(m, resp)],
                    glk := { d.glk with cmds := d.glk.cmds.filter (fun c => c.mbx != m) } }
  d.when (d.bit (rMBX_CTRL m) fMBX_CTRL_DONE_MSG) (fun d =>
    d.sendAny 0x93 (leB 1 m ++ leB 1 0 ++ leB 2 result ++ leB 2 seq ++ leB 2 0))

/-- Finish a command with OK. -/
def Cmd.ok (c : Cmd) (d : Dev) (resp : List Byte) : Dev := d.finish c.mbx resOk resp

/-- Finish a command with a result other than OK and no response bytes. -/
def Cmd.fail (c : Cmd) (d : Dev) (result : Nat) : Dev := d.finish c.mbx result []

/-- Leave a command running until a later event, with a note of what it waits for (R565). -/
def Cmd.wait (c : Cmd) (d : Dev) (note : List Nat) : Dev :=
  { d with glk := { d.glk with cmds := d.glk.cmds.map (fun x => if x.mbx = c.mbx then { x with started := true, note := note } else x) } }

/-- The commands of one code that wait for a later event. -/
def Dev.waiting (d : Dev) (code : Nat) : List Cmd := d.glk.cmds.filter (fun c => c.started && c.code == code)

/-- The most commands that run at once (R566). -/
def mbxConcurrent : Nat := 8

/-- What the device answers while it is ZEROISED (10_cipher.md R307): of the privileged mailboxes, KEY_STATUS, KEY_CERT and
the DIAG_ commands. -/
def Cmd.whileZeroised (c : Cmd) : Bool := c.caller.isNone && (c.code == 0x0804 || c.code == 0x0802 || c.code / 256 == 0x0C)

/-- Run the command of one code that mailbox `m` holds (R565, R566): it must stand there, not yet begun, with fewer
than eight others begun; otherwise nothing happens. While the device is ZEROISED most return NOT_READY
(10_cipher.md R307). -/
def Dev.command (d : Dev) (m code : Nat) (body : Cmd → Dev → Dev) : Dev :=
  match d.glk.cmds.find? (fun c => c.mbx == m && c.code == code && !c.started) with
  | none => d
  | some c =>
    if d.bit rSEC_STATUS fSEC_STATUS_ZEROISED && !c.whileZeroised then d.finish m resNotReady []
    else if (d.glk.cmds.filter (fun c => c.started)).length < mbxConcurrent then body c d else d

/-- The byte memories after the replies of a step: each response stands from offset 0 of its response area (R564). -/
def zeroByte : Nat → Byte := fun _ => 0#8

/-- What an unlisted byte of flash reads as (log entry 5). -/
def flashByte : Nat → Byte := fun _ => 0xFF#8

/-- The base of a mailbox in the privileged window (R559). -/
def mbxBase (m : Nat) : Nat := 0x40000 + 0x1000 * m

/-- Zero the request and response areas of a mailbox (R568). -/
def wipeMbx (mem : List Host.Cell) (m : Nat) : List Host.Cell :=
  skeep (fun a => !(decide (mbxBase m + 0x400 ≤ a) && decide (a < mbxBase m + 0x1000))) mem

/-- Zero the areas the step zeroes, and write its replies to the response areas. -/
def deliver (s : State) : State :=
  { s with
    mem := s.dev.replies.foldl (fun m r => storeBytes zeroByte m (mbxBase r.1 + 0x800) (r.2.take 0x800)) (s.dev.wipes.foldl wipeMbx s.mem)
    dev := { s.dev with replies := [], wipes := [] } }

/-- The device has a clock to run on: it is powered, and stands neither in the Clock Void nor in FAILED
(20_clocks_boot.md R588-R590). -/
def Dev.clocked (d : Dev) : Bool :=
  match d.clk.sup with
  | .ringStart => true
  | .run => true
  | .off => false
  | .void => false
  | .failed => false

/-- Run an effect on the device as one step, clocked or not: what was sent before is gone, the effect takes place, and the
replies it made reach the response areas. -/
def State.runAny (s : State) (f : Dev → Dev) : Host.Outcome State Fault Refusal :=
  .next (deliver { s with dev := f { s.dev with out := [] } })

/-- Run an effect of clocked logic as one step: with every domain clock stopped it has no effect (20_clocks_boot.md R589). -/
def State.run (s : State) (f : Dev → Dev) : Host.Outcome State Fault Refusal :=
  s.runAny (fun d => if d.clocked then f d else d)

end Sys2Proof.Machine
end

