-- ==== Sys2Proof/Machine/Access.lean ====
section
/-! DEFINITION. One accessor, one setter and one updater for each per-object map of the state. An object that the map
does not list has its type's empty value, and the setter keeps the map's canonical form. -/

namespace Sys2Proof.Machine

/-- The empty value of a lane beside its registers. -/
def noLaneX : Nat → LaneX := fun _ => {}
/-- Read a lane beside its registers. -/
def Dev.laneX (d : Dev) (k : Nat) : LaneX := sget noLaneX d.lanes k
/-- Write a lane beside its registers. -/
def Dev.setLaneX (d : Dev) (k : Nat) (v : LaneX) : Dev := { d with lanes := sset noLaneX d.lanes k v }
/-- Change a lane beside its registers. -/
def Dev.updLaneX (d : Dev) (k : Nat) (f : LaneX → LaneX) : Dev := d.setLaneX k (f (d.laneX k))

/-- The empty value of a tree's line beside its registers. -/
def noTree : Nat → TreeX := fun _ => {}
/-- Read a tree's line beside its registers. -/
def Dev.tree (d : Dev) (k : Nat) : TreeX := sget noTree d.trees k
/-- Write a tree's line beside its registers. -/
def Dev.setTree (d : Dev) (k : Nat) (v : TreeX) : Dev := { d with trees := sset noTree d.trees k v }
/-- Change a tree's line beside its registers. -/
def Dev.updTree (d : Dev) (k : Nat) (f : TreeX → TreeX) : Dev := d.setTree k (f (d.tree k))

/-- The empty value of a cage. -/
def noCage : Nat → CageX := fun _ => {}
/-- Read a cage. -/
def Dev.cage (d : Dev) (k : Nat) : CageX := sget noCage d.cages k
/-- Write a cage. -/
def Dev.setCage (d : Dev) (k : Nat) (v : CageX) : Dev := { d with cages := sset noCage d.cages k v }
/-- Change a cage. -/
def Dev.updCage (d : Dev) (k : Nat) (f : CageX → CageX) : Dev := d.setCage k (f (d.cage k))

/-- The empty value of LINE_OPTIONS of a terminal. -/
def noLineOpt : Nat → LineOpt := fun _ => {}
/-- Read LINE_OPTIONS of a terminal. -/
def Dev.lineOpt (d : Dev) (k : Nat) : LineOpt := sget noLineOpt d.lineOpts k
/-- Write LINE_OPTIONS of a terminal. -/
def Dev.setLineOpt (d : Dev) (k : Nat) (v : LineOpt) : Dev := { d with lineOpts := sset noLineOpt d.lineOpts k v }
/-- Change LINE_OPTIONS of a terminal. -/
def Dev.updLineOpt (d : Dev) (k : Nat) (f : LineOpt → LineOpt) : Dev := d.setLineOpt k (f (d.lineOpt k))

/-- The empty value of a tree's burst receiver. -/
def noRxT : Nat → RxTree := fun _ => {}
/-- Read a tree's burst receiver. -/
def Dev.rxT (d : Dev) (k : Nat) : RxTree := sget noRxT d.rx k
/-- Write a tree's burst receiver. -/
def Dev.setRxT (d : Dev) (k : Nat) (v : RxTree) : Dev := { d with rx := sset noRxT d.rx k v }
/-- Change a tree's burst receiver. -/
def Dev.updRxT (d : Dev) (k : Nat) (f : RxTree → RxTree) : Dev := d.setRxT k (f (d.rxT k))

/-- The empty value of a preset record. -/
def noPreset : Nat → Preset := fun _ => {}
/-- Read a preset record. -/
def Dev.preset (d : Dev) (k : Nat) : Preset := sget noPreset d.presets k
/-- Write a preset record. -/
def Dev.setPreset (d : Dev) (k : Nat) (v : Preset) : Dev := { d with presets := sset noPreset d.presets k v }
/-- Change a preset record. -/
def Dev.updPreset (d : Dev) (k : Nat) (f : Preset → Preset) : Dev := d.setPreset k (f (d.preset k))

/-- The empty value of the SEQUENCE last used toward a terminal. -/
def noTapSeqOf : Nat → Nat := fun _ => 0
/-- Read the SEQUENCE last used toward a terminal. -/
def Dev.tapSeqOf (d : Dev) (k : Nat) : Nat := sget noTapSeqOf d.tapSeq k
/-- Write the SEQUENCE last used toward a terminal. -/
def Dev.setTapSeqOf (d : Dev) (k : Nat) (v : Nat) : Dev := { d with tapSeq := sset noTapSeqOf d.tapSeq k v }
/-- Change the SEQUENCE last used toward a terminal. -/
def Dev.updTapSeqOf (d : Dev) (k : Nat) (f : Nat → Nat) : Dev := d.setTapSeqOf k (f (d.tapSeqOf k))

/-- The empty value of a packet part-way through reassembly. -/
def noReasmOf : Nat → Reasm := fun _ => ⟨0, 0⟩
/-- Read a packet part-way through reassembly. -/
def Dev.reasmOf (d : Dev) (k : Nat) : Reasm := sget noReasmOf d.reasm k
/-- Write a packet part-way through reassembly. -/
def Dev.setReasmOf (d : Dev) (k : Nat) (v : Reasm) : Dev := { d with reasm := sset noReasmOf d.reasm k v }
/-- Change a packet part-way through reassembly. -/
def Dev.updReasmOf (d : Dev) (k : Nat) (f : Reasm → Reasm) : Dev := d.setReasmOf k (f (d.reasmOf k))

/-- The empty value of a terminal's activation state. -/
def noActOf : Nat → TermAct := fun _ => {}
/-- Read a terminal's activation state. -/
def Dev.actOf (d : Dev) (k : Nat) : TermAct := sget noActOf d.act k
/-- Write a terminal's activation state. -/
def Dev.setActOf (d : Dev) (k : Nat) (v : TermAct) : Dev := { d with act := sset noActOf d.act k v }
/-- Change a terminal's activation state. -/
def Dev.updActOf (d : Dev) (k : Nat) (f : TermAct → TermAct) : Dev := d.setActOf k (f (d.actOf k))

/-- The empty value of a tree's activation state. -/
def noActT : Nat → ActTree := fun _ => {}
/-- Read a tree's activation state. -/
def Dev.actT (d : Dev) (k : Nat) : ActTree := sget noActT d.actTrees k
/-- Write a tree's activation state. -/
def Dev.setActT (d : Dev) (k : Nat) (v : ActTree) : Dev := { d with actTrees := sset noActT d.actTrees k v }
/-- Change a tree's activation state. -/
def Dev.updActT (d : Dev) (k : Nat) (f : ActTree → ActTree) : Dev := d.setActT k (f (d.actT k))

/-- The empty value of a terminal record. -/
def noTerm : Nat → TermRec := fun _ => {}
/-- Read a terminal record. -/
def Dev.term (d : Dev) (k : Nat) : TermRec := sget noTerm d.cat.terms k
/-- Write a terminal record. -/
def Dev.setTerm (d : Dev) (k : Nat) (v : TermRec) : Dev := { d with cat := { d.cat with terms := sset noTerm d.cat.terms k v } }
/-- Change a terminal record. -/
def Dev.updTerm (d : Dev) (k : Nat) (f : TermRec → TermRec) : Dev := d.setTerm k (f (d.term k))

/-- The empty value of an allocation record. -/
def noAlloc : Nat → AllocRec := fun _ => {}
/-- Read an allocation record. -/
def Dev.alloc (d : Dev) (k : Nat) : AllocRec := sget noAlloc d.cat.allocs k
/-- Write an allocation record. -/
def Dev.setAlloc (d : Dev) (k : Nat) (v : AllocRec) : Dev := { d with cat := { d.cat with allocs := sset noAlloc d.cat.allocs k v } }
/-- Change an allocation record. -/
def Dev.updAlloc (d : Dev) (k : Nat) (f : AllocRec → AllocRec) : Dev := d.setAlloc k (f (d.alloc k))

/-- The empty value of a channel record. -/
def noChan : Nat → ChanRec := fun _ => {}
/-- Read a channel record. -/
def Dev.chan (d : Dev) (k : Nat) : ChanRec := sget noChan d.cat.chans k
/-- Write a channel record. -/
def Dev.setChan (d : Dev) (k : Nat) (v : ChanRec) : Dev := { d with cat := { d.cat with chans := sset noChan d.cat.chans k v } }
/-- Change a channel record. -/
def Dev.updChan (d : Dev) (k : Nat) (f : ChanRec → ChanRec) : Dev := d.setChan k (f (d.chan k))

/-- The empty value of a port-map entry: tree * 65536 + port ID. -/
def noPortOf : Nat → Option Nat := fun _ => none
/-- Read a port-map entry: tree * 65536 + port ID. -/
def Dev.portOf (d : Dev) (k : Nat) : Option Nat := sget noPortOf d.cat.portMap k
/-- Write a port-map entry: tree * 65536 + port ID. -/
def Dev.setPortOf (d : Dev) (k : Nat) (v : Option Nat) : Dev := { d with cat := { d.cat with portMap := sset noPortOf d.cat.portMap k v } }
/-- Change a port-map entry: tree * 65536 + port ID. -/
def Dev.updPortOf (d : Dev) (k : Nat) (f : (Option Nat) → (Option Nat)) : Dev := d.setPortOf k (f (d.portOf k))

/-- The empty value of the Ladle's working state of an allocation. -/
def noLadA : Nat → LadAlloc := fun _ => {}
/-- Read the Ladle's working state of an allocation. -/
def Dev.ladA (d : Dev) (k : Nat) : LadAlloc := sget noLadA d.lad k
/-- Write the Ladle's working state of an allocation. -/
def Dev.setLadA (d : Dev) (k : Nat) (v : LadAlloc) : Dev := { d with lad := sset noLadA d.lad k v }
/-- Change the Ladle's working state of an allocation. -/
def Dev.updLadA (d : Dev) (k : Nat) (f : LadAlloc → LadAlloc) : Dev := d.setLadA k (f (d.ladA k))

/-- The empty value of the Ladle's state of a tree. -/
def noLadT : Nat → LadTree := fun _ => {}
/-- Read the Ladle's state of a tree. -/
def Dev.ladT (d : Dev) (k : Nat) : LadTree := sget noLadT d.ladTrees k
/-- Write the Ladle's state of a tree. -/
def Dev.setLadT (d : Dev) (k : Nat) (v : LadTree) : Dev := { d with ladTrees := sset noLadT d.ladTrees k v }
/-- Change the Ladle's state of a tree. -/
def Dev.updLadT (d : Dev) (k : Nat) (f : LadTree → LadTree) : Dev := d.setLadT k (f (d.ladT k))

/-- The empty value of an in-flight entry: tree * 4096 + entry. -/
def noIftE : Nat → Ift := fun _ => {}
/-- Read an in-flight entry: tree * 4096 + entry. -/
def Dev.iftE (d : Dev) (k : Nat) : Ift := sget noIftE d.ift k
/-- Write an in-flight entry: tree * 4096 + entry. -/
def Dev.setIftE (d : Dev) (k : Nat) (v : Ift) : Dev := { d with ift := sset noIftE d.ift k v }
/-- Change an in-flight entry: tree * 4096 + entry. -/
def Dev.updIftE (d : Dev) (k : Nat) (f : Ift → Ift) : Dev := d.setIftE k (f (d.iftE k))

/-- The empty value of consecutive repeat maps of a tree. -/
def noOvrRun : Nat → Nat := fun _ => 0
/-- Read consecutive repeat maps of a tree. -/
def Dev.ovrRun (d : Dev) (k : Nat) : Nat := sget noOvrRun d.tick.ovrRun k
/-- Write consecutive repeat maps of a tree. -/
def Dev.setOvrRun (d : Dev) (k : Nat) (v : Nat) : Dev := { d with tick := { d.tick with ovrRun := sset noOvrRun d.tick.ovrRun k v } }
/-- Change consecutive repeat maps of a tree. -/
def Dev.updOvrRun (d : Dev) (k : Nat) (f : Nat → Nat) : Dev := d.setOvrRun k (f (d.ovrRun k))

/-- The empty value of a ring beside its registers. -/
def noRing : Nat → RingX := fun _ => {}
/-- Read a ring beside its registers. -/
def Dev.ring (d : Dev) (k : Nat) : RingX := sget noRing d.glk.rings k
/-- Write a ring beside its registers. -/
def Dev.setRing (d : Dev) (k : Nat) (v : RingX) : Dev := { d with glk := { d.glk with rings := sset noRing d.glk.rings k v } }
/-- Change a ring beside its registers. -/
def Dev.updRing (d : Dev) (k : Nat) (f : RingX → RingX) : Dev := d.setRing k (f (d.ring k))

/-- The empty value of the FIFO of a sampling unit. -/
def noFifo : Nat → List Sample := fun _ => []
/-- Read the FIFO of a sampling unit. -/
def Dev.fifo (d : Dev) (k : Nat) : List Sample := sget noFifo d.cnt.fifos k
/-- Write the FIFO of a sampling unit. -/
def Dev.setFifo (d : Dev) (k : Nat) (v : List Sample) : Dev := { d with cnt := { d.cnt with fifos := sset noFifo d.cnt.fifos k v } }
/-- Change the FIFO of a sampling unit. -/
def Dev.updFifo (d : Dev) (k : Nat) (f : (List Sample) → (List Sample)) : Dev := d.setFifo k (f (d.fifo k))

/-- The empty value of a Stacks bank beside its register. -/
def noBankX : Nat → BankX := fun _ => {}
/-- Read a Stacks bank beside its register. -/
def Dev.bankX (d : Dev) (k : Nat) : BankX := sget noBankX d.pan.banks k
/-- Write a Stacks bank beside its register. -/
def Dev.setBankX (d : Dev) (k : Nat) (v : BankX) : Dev := { d with pan := { d.pan with banks := sset noBankX d.pan.banks k v } }
/-- Change a Stacks bank beside its register. -/
def Dev.updBankX (d : Dev) (k : Nat) (f : BankX → BankX) : Dev := d.setBankX k (f (d.bankX k))

/-- The empty value of a queue's Stockpot chain. -/
def noChain : Nat → SpChain := fun _ => {}
/-- Read a queue's Stockpot chain. -/
def Dev.chain (d : Dev) (k : Nat) : SpChain := sget noChain d.dram.chains k
/-- Write a queue's Stockpot chain. -/
def Dev.setChain (d : Dev) (k : Nat) (v : SpChain) : Dev := { d with dram := { d.dram with chains := sset noChain d.dram.chains k v } }
/-- Change a queue's Stockpot chain. -/
def Dev.updChain (d : Dev) (k : Nat) (f : SpChain → SpChain) : Dev := d.setChain k (f (d.chain k))

/-- The empty value of a channel's queue. -/
def noChQ : Nat → List Held := fun _ => []
/-- Read a channel's queue. -/
def Dev.chQ (d : Dev) (k : Nat) : List Held := sget noChQ d.chanQ k
/-- Write a channel's queue. -/
def Dev.setChQ (d : Dev) (k : Nat) (v : List Held) : Dev := { d with chanQ := sset noChQ d.chanQ k v }
/-- Change a channel's queue. -/
def Dev.updChQ (d : Dev) (k : Nat) (f : (List Held) → (List Held)) : Dev := d.setChQ k (f (d.chQ k))

/-- The empty value of an uplink egress queue. -/
def noUpQ : Nat → List Held := fun _ => []
/-- Read an uplink egress queue. -/
def Dev.upQ (d : Dev) (k : Nat) : List Held := sget noUpQ d.uplQ k
/-- Write an uplink egress queue. -/
def Dev.setUpQ (d : Dev) (k : Nat) (v : List Held) : Dev := { d with uplQ := sset noUpQ d.uplQ k v }
/-- Change an uplink egress queue. -/
def Dev.updUpQ (d : Dev) (k : Nat) (f : (List Held) → (List Held)) : Dev := d.setUpQ k (f (d.upQ k))

/-- The empty value of a fabric queue. -/
def noFaQ : Nat → List Held := fun _ => []
/-- Read a fabric queue. -/
def Dev.faQ (d : Dev) (k : Nat) : List Held := sget noFaQ d.fabQ k
/-- Write a fabric queue. -/
def Dev.setFaQ (d : Dev) (k : Nat) (v : List Held) : Dev := { d with fabQ := sset noFaQ d.fabQ k v }
/-- Change a fabric queue. -/
def Dev.updFaQ (d : Dev) (k : Nat) (f : (List Held) → (List Held)) : Dev := d.setFaQ k (f (d.faQ k))

/-- The empty value of V of a tree's context. -/
def noTreeV : Nat → Nat := fun _ => 0
/-- Read V of a tree's context. -/
def Dev.treeV (d : Dev) (k : Nat) : Nat := sget noTreeV d.ds.treeV k
/-- Write V of a tree's context. -/
def Dev.setTreeV (d : Dev) (k : Nat) (v : Nat) : Dev := { d with ds := { d.ds with treeV := sset noTreeV d.ds.treeV k v } }
/-- Change V of a tree's context. -/
def Dev.updTreeV (d : Dev) (k : Nat) (f : Nat → Nat) : Dev := d.setTreeV k (f (d.treeV k))

/-- The empty value of a tenant node. -/
def noTenNode : Nat → DsNode := fun _ => {}
/-- Read a tenant node. -/
def Dev.tenNode (d : Dev) (k : Nat) : DsNode := sget noTenNode d.ds.ten k
/-- Write a tenant node. -/
def Dev.setTenNode (d : Dev) (k : Nat) (v : DsNode) : Dev := { d with ds := { d.ds with ten := sset noTenNode d.ds.ten k v } }
/-- Change a tenant node. -/
def Dev.updTenNode (d : Dev) (k : Nat) (f : DsNode → DsNode) : Dev := d.setTenNode k (f (d.tenNode k))

/-- The empty value of a terminal node. -/
def noTermNode : Nat → DsNode := fun _ => {}
/-- Read a terminal node. -/
def Dev.termNode (d : Dev) (k : Nat) : DsNode := sget noTermNode d.ds.term k
/-- Write a terminal node. -/
def Dev.setTermNode (d : Dev) (k : Nat) (v : DsNode) : Dev := { d with ds := { d.ds with term := sset noTermNode d.ds.term k v } }
/-- Change a terminal node. -/
def Dev.updTermNode (d : Dev) (k : Nat) (f : DsNode → DsNode) : Dev := d.setTermNode k (f (d.termNode k))

/-- The empty value of a channel's node. -/
def noChNode : Nat → DsNode := fun _ => {}
/-- Read a channel's node. -/
def Dev.chNode (d : Dev) (k : Nat) : DsNode := sget noChNode d.ds.chan k
/-- Write a channel's node. -/
def Dev.setChNode (d : Dev) (k : Nat) (v : DsNode) : Dev := { d with ds := { d.ds with chan := sset noChNode d.ds.chan k v } }
/-- Change a channel's node. -/
def Dev.updChNode (d : Dev) (k : Nat) (f : DsNode → DsNode) : Dev := d.setChNode k (f (d.chNode k))

/-- The empty value of the gate lists of a tree or port. -/
def noGateX : Nat → GateX := fun _ => {}
/-- Read the gate lists of a tree or port. -/
def Dev.gateX (d : Dev) (k : Nat) : GateX := sget noGateX d.ds.gates k
/-- Write the gate lists of a tree or port. -/
def Dev.setGateX (d : Dev) (k : Nat) (v : GateX) : Dev := { d with ds := { d.ds with gates := sset noGateX d.ds.gates k v } }
/-- Change the gate lists of a tree or port. -/
def Dev.updGateX (d : Dev) (k : Nat) (f : GateX → GateX) : Dev := d.setGateX k (f (d.gateX k))

/-- The empty value of the live bins of a histogram. -/
def noHistOf : Nat → List Nat := fun _ => List.replicate 32 0
/-- Read the live bins of a histogram. -/
def Dev.histOf (d : Dev) (k : Nat) : List Nat := sget noHistOf d.ds.hist k
/-- Write the live bins of a histogram. -/
def Dev.setHistOf (d : Dev) (k : Nat) (v : List Nat) : Dev := { d with ds := { d.ds with hist := sset noHistOf d.ds.hist k v } }
/-- Change the live bins of a histogram. -/
def Dev.updHistOf (d : Dev) (k : Nat) (f : (List Nat) → (List Nat)) : Dev := d.setHistOf k (f (d.histOf k))

/-- The empty value of the channel whose packet is part sent. -/
def noPartOf : Nat → Option Nat := fun _ => none
/-- Read the channel whose packet is part sent. -/
def Dev.partOf (d : Dev) (k : Nat) : Option Nat := sget noPartOf d.ds.part k
/-- Write the channel whose packet is part sent. -/
def Dev.setPartOf (d : Dev) (k : Nat) (v : Option Nat) : Dev := { d with ds := { d.ds with part := sset noPartOf d.ds.part k v } }
/-- Change the channel whose packet is part sent. -/
def Dev.updPartOf (d : Dev) (k : Nat) (f : (Option Nat) → (Option Nat)) : Dev := d.setPartOf k (f (d.partOf k))

/-- The empty value of a key entry. -/
def noKeyEnt : Nat → KeyEnt := fun _ => {}
/-- Read a key entry. -/
def Dev.keyEnt (d : Dev) (k : Nat) : KeyEnt := sget noKeyEnt d.ciph.keys k
/-- Write a key entry. -/
def Dev.setKeyEnt (d : Dev) (k : Nat) (v : KeyEnt) : Dev := { d with ciph := { d.ciph with keys := sset noKeyEnt d.ciph.keys k v } }
/-- Change a key entry. -/
def Dev.updKeyEnt (d : Dev) (k : Nat) (f : KeyEnt → KeyEnt) : Dev := d.setKeyEnt k (f (d.keyEnt k))

/-- The empty value of a security association. -/
def noSaEnt : Nat → SaEnt := fun _ => {}
/-- Read a security association. -/
def Dev.saEnt (d : Dev) (k : Nat) : SaEnt := sget noSaEnt d.ciph.sas k
/-- Write a security association. -/
def Dev.setSaEnt (d : Dev) (k : Nat) (v : SaEnt) : Dev := { d with ciph := { d.ciph with sas := sset noSaEnt d.ciph.sas k v } }
/-- Change a security association. -/
def Dev.updSaEnt (d : Dev) (k : Nat) (f : SaEnt → SaEnt) : Dev := d.setSaEnt k (f (d.saEnt k))

/-- The empty value of the tokens of an exception bucket. -/
def noTokensOf : Nat → Option Nat := fun _ => none
/-- Read the tokens of an exception bucket. -/
def Dev.tokensOf (d : Dev) (k : Nat) : Option Nat := sget noTokensOf d.col.tokens k
/-- Write the tokens of an exception bucket. -/
def Dev.setTokensOf (d : Dev) (k : Nat) (v : Option Nat) : Dev := { d with col := { d.col with tokens := sset noTokensOf d.col.tokens k v } }
/-- Change the tokens of an exception bucket. -/
def Dev.updTokensOf (d : Dev) (k : Nat) (f : (Option Nat) → (Option Nat)) : Dev := d.setTokensOf k (f (d.tokensOf k))

/-- The empty value of the matches counted of a mirror session. -/
def noMirrorN : Nat → Nat := fun _ => 0
/-- Read the matches counted of a mirror session. -/
def Dev.mirrorN (d : Dev) (k : Nat) : Nat := sget noMirrorN d.col.mirrors k
/-- Write the matches counted of a mirror session. -/
def Dev.setMirrorN (d : Dev) (k : Nat) (v : Nat) : Dev := { d with col := { d.col with mirrors := sset noMirrorN d.col.mirrors k v } }
/-- Change the matches counted of a mirror session. -/
def Dev.updMirrorN (d : Dev) (k : Nat) (f : Nat → Nat) : Dev := d.setMirrorN k (f (d.mirrorN k))

/-- The empty value of a slot of the exact-match memory. -/
def noSlotF : Nat → Option FwdEnt := fun _ => none
/-- Read a slot of the exact-match memory. -/
def Dev.slotF (d : Dev) (k : Nat) : Option FwdEnt := sget noSlotF d.fwd.slots k
/-- Write a slot of the exact-match memory. -/
def Dev.setSlotF (d : Dev) (k : Nat) (v : Option FwdEnt) : Dev := { d with fwd := { d.fwd with slots := sset noSlotF d.fwd.slots k v } }
/-- Change a slot of the exact-match memory. -/
def Dev.updSlotF (d : Dev) (k : Nat) (f : (Option FwdEnt) → (Option FwdEnt)) : Dev := d.setSlotF k (f (d.slotF k))

/-- The empty value of the pass at which a table's aging began. -/
def noAgeFrom : Nat → Nat := fun _ => 0
/-- Read the pass at which a table's aging began. -/
def Dev.ageFrom (d : Dev) (k : Nat) : Nat := sget noAgeFrom d.fwd.ageFrom k
/-- Write the pass at which a table's aging began. -/
def Dev.setAgeFrom (d : Dev) (k : Nat) (v : Nat) : Dev := { d with fwd := { d.fwd with ageFrom := sset noAgeFrom d.fwd.ageFrom k v } }
/-- Change the pass at which a table's aging began. -/
def Dev.updAgeFrom (d : Dev) (k : Nat) (f : Nat → Nat) : Dev := d.setAgeFrom k (f (d.ageFrom k))

/-- The empty value of the relocation epoch of a table. -/
def noEpochOf : Nat → Nat := fun _ => 0
/-- Read the relocation epoch of a table. -/
def Dev.epochOf (d : Dev) (k : Nat) : Nat := sget noEpochOf d.fwd.epoch k
/-- Write the relocation epoch of a table. -/
def Dev.setEpochOf (d : Dev) (k : Nat) (v : Nat) : Dev := { d with fwd := { d.fwd with epoch := sset noEpochOf d.fwd.epoch k v } }
/-- Change the relocation epoch of a table. -/
def Dev.updEpochOf (d : Dev) (k : Nat) (f : Nat → Nat) : Dev := d.setEpochOf k (f (d.epochOf k))

/-- The empty value of a port's timestamp FIFO. -/
def noTsQ : Nat → List TsEnt := fun _ => []
/-- Read a port's timestamp FIFO. -/
def Dev.tsQ (d : Dev) (k : Nat) : List TsEnt := sget noTsQ d.tsFifo k
/-- Write a port's timestamp FIFO. -/
def Dev.setTsQ (d : Dev) (k : Nat) (v : List TsEnt) : Dev := { d with tsFifo := sset noTsQ d.tsFifo k v }
/-- Change a port's timestamp FIFO. -/
def Dev.updTsQ (d : Dev) (k : Nat) (f : (List TsEnt) → (List TsEnt)) : Dev := d.setTsQ k (f (d.tsQ k))

/-- The empty value of a fabric lane. -/
def noFabLane : Nat → FabLaneX := fun _ => {}
/-- Read a fabric lane. -/
def Dev.fabLane (d : Dev) (k : Nat) : FabLaneX := sget noFabLane d.fab.lanes k
/-- Write a fabric lane. -/
def Dev.setFabLane (d : Dev) (k : Nat) (v : FabLaneX) : Dev := { d with fab := { d.fab with lanes := sset noFabLane d.fab.lanes k v } }
/-- Change a fabric lane. -/
def Dev.updFabLane (d : Dev) (k : Nat) (f : FabLaneX → FabLaneX) : Dev := d.setFabLane k (f (d.fabLane k))

/-- The empty value of a bundle. -/
def noFabBnd : Nat → FabBnd := fun _ => {}
/-- Read a bundle. -/
def Dev.fabBnd (d : Dev) (k : Nat) : FabBnd := sget noFabBnd d.fab.bnds k
/-- Write a bundle. -/
def Dev.setFabBnd (d : Dev) (k : Nat) (v : FabBnd) : Dev := { d with fab := { d.fab with bnds := sset noFabBnd d.fab.bnds k v } }
/-- Change a bundle. -/
def Dev.updFabBnd (d : Dev) (k : Nat) (f : FabBnd → FabBnd) : Dev := d.setFabBnd k (f (d.fabBnd k))

/-- The empty value of a tributary. -/
def noFabTrib : Nat → FabTrib := fun _ => {}
/-- Read a tributary. -/
def Dev.fabTrib (d : Dev) (k : Nat) : FabTrib := sget noFabTrib d.fab.tribs k
/-- Write a tributary. -/
def Dev.setFabTrib (d : Dev) (k : Nat) (v : FabTrib) : Dev := { d with fab := { d.fab with tribs := sset noFabTrib d.fab.tribs k v } }
/-- Change a tributary. -/
def Dev.updFabTrib (d : Dev) (k : Nat) (f : FabTrib → FabTrib) : Dev := d.setFabTrib k (f (d.fabTrib k))

/-- The empty value of a bridge. -/
def noBridgeX : Nat → BridgeX := fun _ => {}
/-- Read a bridge. -/
def Dev.bridgeX (d : Dev) (k : Nat) : BridgeX := sget noBridgeX d.fab.bridges k
/-- Write a bridge. -/
def Dev.setBridgeX (d : Dev) (k : Nat) (v : BridgeX) : Dev := { d with fab := { d.fab with bridges := sset noBridgeX d.fab.bridges k v } }
/-- Change a bridge. -/
def Dev.updBridgeX (d : Dev) (k : Nat) (f : BridgeX → BridgeX) : Dev := d.setBridgeX k (f (d.bridgeX k))

/-- The empty value of a connection-memory entry. -/
def noCmWord : Nat → Nat := fun _ => 0
/-- Read a connection-memory entry. -/
def Dev.cmWord (d : Dev) (k : Nat) : Nat := sget noCmWord d.fab.cm k
/-- Write a connection-memory entry. -/
def Dev.setCmWord (d : Dev) (k : Nat) (v : Nat) : Dev := { d with fab := { d.fab with cm := sset noCmWord d.fab.cm k v } }
/-- Change a connection-memory entry. -/
def Dev.updCmWord (d : Dev) (k : Nat) (f : Nat → Nat) : Dev := d.setCmWord k (f (d.cmWord k))

/-- The empty value of a route entry. -/
def noRouteOf : Nat → List Nat := fun _ => [0, 0, 0, 0]
/-- Read a route entry. -/
def Dev.routeOf (d : Dev) (k : Nat) : List Nat := sget noRouteOf d.fab.routes k
/-- Write a route entry. -/
def Dev.setRouteOf (d : Dev) (k : Nat) (v : List Nat) : Dev := { d with fab := { d.fab with routes := sset noRouteOf d.fab.routes k v } }
/-- Change a route entry. -/
def Dev.updRouteOf (d : Dev) (k : Nat) (f : (List Nat) → (List Nat)) : Dev := d.setRouteOf k (f (d.routeOf k))

/-- The empty value of a Sieve stream by channel index. -/
def noStream : Nat → Stream := fun _ => {}
/-- Read a Sieve stream by channel index. -/
def Dev.stream (d : Dev) (k : Nat) : Stream := sget noStream d.streams k
/-- Write a Sieve stream by channel index. -/
def Dev.setStream (d : Dev) (k : Nat) (v : Stream) : Dev := { d with streams := sset noStream d.streams k v }
/-- Change a Sieve stream by channel index. -/
def Dev.updStream (d : Dev) (k : Nat) (f : Stream → Stream) : Dev := d.setStream k (f (d.stream k))

/-- The empty value of a pair beside its registers. -/
def noPair : Nat → PairX := fun _ => {}
/-- Read a pair beside its registers. -/
def Dev.pair (d : Dev) (k : Nat) : PairX := sget noPair d.pairs k
/-- Write a pair beside its registers. -/
def Dev.setPair (d : Dev) (k : Nat) (v : PairX) : Dev := { d with pairs := sset noPair d.pairs k v }
/-- Change a pair beside its registers. -/
def Dev.updPair (d : Dev) (k : Nat) (f : PairX → PairX) : Dev := d.setPair k (f (d.pair k))

/-- The empty value of a SEQ_CONFIG outstanding by channel index. -/
def noSeqOutOf : Nat → Option SeqOut := fun _ => none
/-- Read a SEQ_CONFIG outstanding by channel index. -/
def Dev.seqOutOf (d : Dev) (k : Nat) : Option SeqOut := sget noSeqOutOf d.seqOut k
/-- Write a SEQ_CONFIG outstanding by channel index. -/
def Dev.setSeqOutOf (d : Dev) (k : Nat) (v : Option SeqOut) : Dev := { d with seqOut := sset noSeqOutOf d.seqOut k v }
/-- Change a SEQ_CONFIG outstanding by channel index. -/
def Dev.updSeqOutOf (d : Dev) (k : Nat) (f : (Option SeqOut) → (Option SeqOut)) : Dev := d.setSeqOutOf k (f (d.seqOutOf k))

/-- The empty value of a pulse output beside its registers. -/
def noPulse : Nat → PulseX := fun _ => {}
/-- Read a pulse output beside its registers. -/
def Dev.pulse (d : Dev) (k : Nat) : PulseX := sget noPulse d.alm.pulses k
/-- Write a pulse output beside its registers. -/
def Dev.setPulse (d : Dev) (k : Nat) (v : PulseX) : Dev := { d with alm := { d.alm with pulses := sset noPulse d.alm.pulses k v } }
/-- Change a pulse output beside its registers. -/
def Dev.updPulse (d : Dev) (k : Nat) (f : PulseX → PulseX) : Dev := d.setPulse k (f (d.pulse k))

/-- The empty value of the state of a crossing: 0 RUN, 1 PEER_RESET, 2 RESYNC. -/
def noCrossing : Nat → Nat := fun _ => 0
/-- Read the state of a crossing: 0 RUN, 1 PEER_RESET, 2 RESYNC. -/
def Dev.crossing (d : Dev) (k : Nat) : Nat := sget noCrossing d.clk.cross k
/-- Write the state of a crossing: 0 RUN, 1 PEER_RESET, 2 RESYNC. -/
def Dev.setCrossing (d : Dev) (k : Nat) (v : Nat) : Dev := { d with clk := { d.clk with cross := sset noCrossing d.clk.cross k v } }
/-- Change the state of a crossing: 0 RUN, 1 PEER_RESET, 2 RESYNC. -/
def Dev.updCrossing (d : Dev) (k : Nat) (f : Nat → Nat) : Dev := d.setCrossing k (f (d.crossing k))

end Sys2Proof.Machine
end

