-- ==== Sys2Proof/Machine/Flags.lean ====
section
/-! DEFINITION. What a write does to a register by its access codes (00_scope.md R8, R9), and what a read shows. -/

namespace Sys2Proof.Machine

/-- The word after a write, by the access codes of its row (R9): RW and RWS bits take the value, W1C bits clear where
1 is written, W1S bits set where 1 is written, and RO, WO and reserved bits keep what they hold. -/
def accessWord (r : RegRow) (old v : Nat) : Nat :=
  let kept := old - Nat.land old r.rw
  let kept := kept - Nat.land kept (Nat.land v r.w1c)
  Nat.lor (Nat.lor kept (Nat.land v r.rw)) (Nat.land v r.w1s)

/-- Store a value in a register as its access codes lay down; an address with no register ignores it (R9, R559). -/
def Dev.access (d : Dev) (a : Nat) (v : Nat) : Dev :=
  match regFind a with
  | none => d
  | some (_, _, r) => d.wrN a (accessWord r (d.rdN a) v)

/-- The bits of a register that a read shows: all but its WO bits, which read 0 (R9). -/
def readMask (a : Nat) : Nat :=
  match regFind a with
  | none => 0
  | some (_, _, r) => 0xFFFFFFFF - r.wo

/-- The bits of a row that software may change: those a write that must be judged whole can differ in. -/
def writable (a : Nat) : Nat :=
  match regFind a with
  | none => 0
  | some (_, _, r) => Nat.lor (Nat.lor r.rw r.w1c) (Nat.lor r.w1s r.wo)

/-- Clear the sticky bits a write names. -/
def Dev.clearBits (d : Dev) (a v : Nat) : Dev := d.wrN a (d.rdN a - Nat.land (d.rdN a) v)

/-- A value has a bit set outside a register's fields that can be written (19_gellen.md R648). -/
def badValue (a v : Nat) : Bool := decide (Nat.land v (0xFFFFFFFF - writable a) ≠ 0) || decide (2 ^ 32 ≤ v)

end Sys2Proof.Machine
end

