-- ==== Sys2Proof/Machine/Operands.lean ====
section
/-! DEFINITION. The operand forms of mailbox commands: fields of a request, the checks of reserved bits and bytes, the
rights of the caller, and the flags byte's expert form (19_gellen.md R565-R567, R648, R649). -/

namespace Sys2Proof.Machine

/-- One byte of the request; bytes at and past REQ_LEN read 0 (log entry 8). -/
def Cmd.u8 (c : Cmd) (i : Nat) : Nat := byteAt c.req i
/-- Two bytes of the request, little-endian. -/
def Cmd.u16 (c : Cmd) (i : Nat) : Nat := leAt c.req i 2
/-- Four bytes of the request, little-endian. -/
def Cmd.u32 (c : Cmd) (i : Nat) : Nat := leAt c.req i 4
/-- Eight bytes of the request, little-endian. -/
def Cmd.u64 (c : Cmd) (i : Nat) : Nat := leAt c.req i 8

/-- Bytes of a request are all 0. -/
def Cmd.zero (c : Cmd) (i n : Nat) : Bool := (List.range n).all (fun k => c.u8 (i + k) == 0)

/-- Every byte of a request from an offset on is 0: the bytes its layout does not name (R648). -/
def Cmd.endsAt (c : Cmd) (i : Nat) : Bool := c.zero i (c.req.length - i)

/-- A request that asks for an expert block holds it, and nothing stands past its `i` bytes (R567, R648; log entry 8). -/
def Cmd.block (c : Cmd) (i : Nat) : Bool := decide (i ≤ c.req.length) && c.endsAt i

/-- A flags byte holds no bit but those of the mask (R648). -/
def Cmd.only (c : Cmd) (i mask : Nat) : Bool := Nat.land (c.u8 i) (0xFF - mask) == 0

/-- Bit 7 of a flags byte: the expert form (R649). -/
def Cmd.expert (c : Cmd) (i : Nat) : Bool := nbit (c.u8 i) 7

/-- The caller is the owner (R565). -/
def Cmd.isOwner (c : Cmd) : Bool := c.caller.isNone

/-- The caller as the 5-bit TENANT of a record: its number, or 0x1F for the owner (06_catalogue.md R162). -/
def Cmd.tenant (c : Cmd) : Nat := c.caller.getD 0x1F

/-- A signed byte of a request. -/
def Cmd.s8 (c : Cmd) (i : Nat) : Int := sval 8 (c.u8 i)

/-- Checks in order: the first that fails gives the command's result, and nothing changes; where all pass the command
runs. -/
def Cmd.checks (c : Cmd) (d : Dev) (cs : List (Bool × Nat)) (run : Dev → Dev) : Dev :=
  match cs.find? (fun x => !x.1) with
  | some x => c.fail d x.2
  | none => run d

/-- The check that the caller is the owner. -/
def Cmd.mustOwn (c : Cmd) : Bool × Nat := (c.isOwner, resNotPermitted)

/-- The check that the request is in form. -/
def inForm (b : Bool) : Bool × Nat := (b, resBadParam)

/-- The check that the expert form is asked by the owner alone (R649). -/
def Cmd.mayExpert (c : Cmd) (i : Nat) : Bool × Nat := (c.isOwner || !(c.expert i), resNotPermitted)

end Sys2Proof.Machine
end

