-- ==== Sys2Proof/Machine/LaneOps.lean ====
section
/-! DEFINITION. The serial lanes: blocks, transmitter taps, the training states and frames, probe, scan and pattern
checker (02_lanes.md R31-R54). -/

namespace Sys2Proof.Machine

/-- The address of a lane's block (02_lanes.md; 19_gellen.md R548 for the Gellen lanes). -/
def laneBase : LaneId → Nat
  | .tree t => 0x100C000 + 0x10000 * t.val
  | .upl u => 0x140C000 + 0x10000 * u.val
  | .fab f => 0x180C000 + 0x10000 * f.val
  | .glk l => 0x88000 + 0x1000 * l.val

/-- The lane exists in this part (00_scope.md R2). -/
def Dev.laneOk (d : Dev) : LaneId → Bool
  | .tree t => d.treeOk t.val
  | _ => true

/-- The lane trains (R44): fabric lanes by the device's own training, uplink lanes by that of IEEE 802.3; tree lanes do
not train, and a Gellen lane's TRAIN_STATE reads 0 (19_gellen.md R548). Log entry 12. -/
def laneTrains : LaneId → Bool
  | .upl _ => true
  | .fab _ => true
  | _ => false

/-! The training states, as LANE_STATUS.TRAIN_STATE. -/
def tsOff : Nat := 0
def tsDetect : Nat := 1
def tsTrain : Nat := 2
def tsWaitFar : Nat := 3
def tsData : Nat := 4
def tsFailed : Nat := 5

/-- A lane's training state. -/
def Dev.trainState (d : Dev) (l : LaneId) : Nat := d.get (rLANE_STATUS (laneBase l)) fLANE_STATUS_TRAIN_STATE

/-- Set a lane's training state. -/
def Dev.setTrain (d : Dev) (l : LaneId) (st : Nat) : Dev := d.put (rLANE_STATUS (laneBase l)) fLANE_STATUS_TRAIN_STATE st

/-! Transmitter taps (R34-R36). -/

/-- The five taps of a LANE_TXFFE word, c(-3) to c(1). -/
def tapsOf (w : Nat) : List Int :=
  [sval 4 (fieldOf w fLANE_TXFFE_CM3), sval 5 (fieldOf w fLANE_TXFFE_CM2), sval 6 (fieldOf w fLANE_TXFFE_CM1),
   (fieldOf w fLANE_TXFFE_C0 : Nat), sval 6 (fieldOf w fLANE_TXFFE_C1)]

/-- The LANE_TXFFE word of five taps. -/
def tapsWord (t : List Int) : Nat :=
  sfield 4 (t.getD 0 0) * 2 ^ 23 + sfield 5 (t.getD 1 0) * 2 ^ 18 + sfield 6 (t.getD 2 0) * 2 ^ 12 +
  sfield 6 (t.getD 3 0) * 2 ^ 6 + sfield 6 (t.getD 4 0)

/-- The taps keep R34: each in its range and the absolute values at most 63 together. -/
def tapsOk (t : List Int) : Bool :=
  decide (-8 ≤ t.getD 0 0 ∧ t.getD 0 0 ≤ 7) && decide (-16 ≤ t.getD 1 0 ∧ t.getD 1 0 ≤ 15) &&
  decide (-32 ≤ t.getD 2 0 ∧ t.getD 2 0 ≤ 31) && decide (24 ≤ t.getD 3 0 ∧ t.getD 3 0 ≤ 63) &&
  decide (-32 ≤ t.getD 4 0 ∧ t.getD 4 0 ≤ 31) && decide ((t.map Int.natAbs).sum ≤ 63)

/-- The transmitter presets P0-P3 (R36). -/
def tapPreset (p : Nat) : List Int :=
  if p = 0 then [0, 0, 0, 63, 0]
  else if p = 1 then [0, 0, -6, 51, -6]
  else if p = 2 then [0, 2, -10, 45, -6]
  else [1, 3, -14, 41, -4]

/-- Load a preset into a lane's taps. -/
def Dev.loadPreset (d : Dev) (l : LaneId) (p : Nat) : Dev := d.wrN (rLANE_TXFFE (laneBase l)) (tapsWord (tapPreset p))

/-- The lane is in TRAIN or WAIT_FAR. -/
def Dev.laneTraining (d : Dev) (l : LaneId) : Bool := d.trainState l == tsTrain || d.trainState l == tsWaitFar

/-- A write of LANE_TXFFE would be refused (R35). -/
def Dev.tapsRefused (d : Dev) (l : LaneId) (v : Nat) : Bool := !(tapsOk (tapsOf v)) || d.laneTraining l

/-- Write LANE_TXFFE (R35). -/
def Dev.writeTaps (d : Dev) (l : LaneId) (v : Nat) : Dev :=
  let b := laneBase l
  if d.tapsRefused l v then
    let d := d.when (!(tapsOk (tapsOf v))) (fun d => d.mark (rLANE_ERR b) fLANE_ERR_TAP_RANGE)
    d.when (d.laneTraining l) (fun d => d.mark (rLANE_ERR b) fLANE_ERR_TAP_BUSY)
  else d.access (rLANE_TXFFE b) v

/-! The transition table (R44). -/

/-- Enter DETECT and run the receiver-detect probe. -/
def Dev.enterDetect (d : Dev) (l : LaneId) : Dev :=
  let d := d.setTrain l tsDetect
  let d := d.put (rLANE_STATUS (laneBase l)) fLANE_STATUS_FAR_PRESENT 0
  d.updLaneX (laneBase l) (fun x => { x with probing := true, openAlerted := false })

/-- Enter TRAIN: load INIT_PRESET, forget the requests of the last training and send training frames. RETRAIN reads 1
until TRAIN is entered. -/
def Dev.enterTrain (d : Dev) (l : LaneId) : Dev :=
  let b := laneBase l
  let d := d.setTrain l tsTrain
  let d := d.loadPreset l (d.get (rLANE_TRAIN_CTRL b) fLANE_TRAIN_CTRL_INIT_PRESET)
  let d := d.put (rLANE_TRAIN_CTRL b) fLANE_TRAIN_CTRL_RETRAIN 0
  let d := d.put (rLANE_STATUS b) fLANE_STATUS_ADAPT_DONE 0
  d.updLaneX b (fun x => { x with ask := none, farCtrl := 0, response := 0, echo := 0, farReady := false, probing := false })

/-- Enter FAILED, marking an error bit. -/
def Dev.enterFailed (d : Dev) (l : LaneId) (f : Fld) : Dev := (d.setTrain l tsFailed).mark (rLANE_ERR (laneBase l)) f

/-- TRAIN goes to WAIT_FAR once the receiver has adapted and no request stands. -/
def Dev.trainReady (d : Dev) (l : LaneId) : Dev :=
  if d.trainState l = tsTrain ∧ d.bit (rLANE_STATUS (laneBase l)) fLANE_STATUS_ADAPT_DONE ∧ (d.laneX (laneBase l)).ask = none
  then d.setTrain l tsWaitFar else d

/-! The training words (R40-R42). -/

/-- TAP of a control word. -/
def ctlTap (c : Nat) : Nat := nbits c 11 9
/-- STEP of a control word. -/
def ctlStep (c : Nat) : Nat := nbits c 8 7

/-- RESPONSE codes of R41. -/
def rspNone : Nat := 0
def rspUpdated : Nat := 1
def rspAtLimit : Nat := 2
def rspNotSupported : Nat := 3

/-- What the transmitter does on a changed control word, and its response (R42). -/
def Dev.actOnRequest (d : Dev) (l : LaneId) (c : Nat) : Dev :=
  let b := laneBase l
  let d := d.put (rLANE_CTRL b) fLANE_CTRL_PRECODE_TX (nbits c 12 12)
  let answer := fun (d : Dev) (r : Nat) => d.updLaneX b (fun x => { x with response := r, echo := ctlTap c })
  if nbit c 15 then answer (d.loadPreset l (nbits c 14 13)) rspUpdated
  else if ctlStep c = 0 then answer d rspNone
  else if ctlStep c = 3 ∨ 5 ≤ ctlTap c then answer d rspNotSupported
  else
    let t := tapsOf (d.rdN (rLANE_TXFFE b))
    let t' := t.set (ctlTap c) (t.getD (ctlTap c) 0 + (if ctlStep c = 1 then 1 else -1))
    if tapsOk t' then answer (d.wrN (rLANE_TXFFE b) (tapsWord t')) rspUpdated else answer d rspAtLimit

/-- The response in a status word answers the request that stands. -/
def answers (ask status : Nat) : Bool := nbits status 10 9 != 0 && nbits status 13 11 == ctlTap ask

/-- The status word this side sends (R41), its lane number within the bundle given. -/
def Dev.statusWord (d : Dev) (l : LaneId) (num : Nat) : Nat :=
  let x := d.laneX (laneBase l)
  b2n (decide (tsWaitFar ≤ d.trainState l) && decide (d.trainState l ≤ tsData)) * 2 ^ 15 +
  d.get (rLANE_CTRL (laneBase l)) fLANE_CTRL_PRECODE_TX * 2 ^ 14 + x.echo * 2 ^ 11 + x.response * 2 ^ 9 + num % 64

/-- Send the training frame's words (R39). -/
def Dev.sendTraining (d : Dev) (l : LaneId) (num : Nat) : Dev :=
  d.emit .train (laneBase l) [(d.laneX (laneBase l)).ask.getD 0, d.statusWord l num]

/-! Receiver adaptation (R37, R38). -/

/-- Take adapted values: the peaking unless CTLE_MAN fixes it, and the sixteen taps, unless FREEZE holds all. -/
def Dev.adapted (d : Dev) (l : LaneId) (ctle : Nat) (taps : List Byte) : Dev :=
  let b := laneBase l
  if d.bit (rLANE_RXEQ b) fLANE_RXEQ_FREEZE then d else
  let d := d.when (!(d.bit (rLANE_RXEQ b) fLANE_RXEQ_CTLE_MAN)) (fun d => d.put (rLANE_RXEQ b) fLANE_RXEQ_CTLE ctle)
  (List.range 16).foldl (fun d k => d.wrN (rLANE_RXTAP b k) (byteAt taps k)) d

/-! Eye scan (R46) and patterns (R52). -/

/-- Write LANE_ESCAN_CTRL: ignored while a scan runs; START clears DONE, and on a tree the scan's status, and begins a
scan (R46, 04_burst_rx.md R123). -/
def Dev.writeEscan (d : Dev) (l : LaneId) (v : Nat) : Dev :=
  let b := laneBase l
  if (d.laneX b).scan then d else
  let d := d.access (rLANE_ESCAN_CTRL b) (v % 2 ^ 30)
  if nbit v 30 then
    let d := d.put (rLANE_ESCAN_CTRL b) fLANE_ESCAN_CTRL_DONE 0
    let d := d.put (rLANE_ESCAN_CTRL b) fLANE_ESCAN_CTRL_START 1
    let d := match l with
      | .tree t => d.wrN (rBRX_ESCAN_STAT t.val) 0
      | _ => d
    d.updLaneX b (fun x => { x with scan := true, scanTick := d.tickNow })
  else d

/-- End a scan with a count. -/
def Dev.endScan (d : Dev) (l : LaneId) (count : Nat) : Dev :=
  let b := laneBase l
  let d := d.wrN (rLANE_ESCAN_RES b) count
  let d := d.put (rLANE_ESCAN_CTRL b) fLANE_ESCAN_CTRL_START 0
  (d.put (rLANE_ESCAN_CTRL b) fLANE_ESCAN_CTRL_DONE 1).updLaneX b (fun x => { x with scan := false })

/-- Write LANE_PAT_CTRL: CHK_EN going 0 to 1 clears the count, and 1 to 0 drops the checker's lock (R52, LANE_PAT_ERR). -/
def Dev.writePat (d : Dev) (l : LaneId) (v : Nat) : Dev :=
  let b := laneBase l
  let was := d.bit (rLANE_PAT_CTRL b) fLANE_PAT_CTRL_CHK_EN
  let d := d.access (rLANE_PAT_CTRL b) v
  let now := d.bit (rLANE_PAT_CTRL b) fLANE_PAT_CTRL_CHK_EN
  if now && !was then (d.wrN (rLANE_PAT_ERR b) 0).put (rLANE_STATUS b) fLANE_STATUS_PAT_LOCK 0
  else if was && !now then d.put (rLANE_STATUS b) fLANE_STATUS_PAT_LOCK 0
  else d

/-- Move the word boundary one position later (R47): ignored while a slip is in progress. -/
def Dev.slip (d : Dev) (l : LaneId) (v : Nat) : Dev :=
  let b := laneBase l
  if nbit v 0 && !(d.bit (rLANE_STATUS b) fLANE_STATUS_SLIP_BUSY) then
    (d.put (rLANE_STATUS b) fLANE_STATUS_SLIP_BUSY 1).updLaneX b (fun x => { x with slip := (x.slip + 1) % 64 })
  else d

/-- A lane by its address range, where the address lies in a lane block. -/
def laneAt (a : Nat) : Option LaneId :=
  if 0x88000 ≤ a ∧ a < 0x90000 then some (.glk ⟨(a - 0x88000) / 0x1000 % 8, Nat.mod_lt _ (by decide)⟩)
  else
    let i := a / 0x10000 % 64
    if h : i < 48 then
      if a % 0x10000 < 0xC000 then none
      else if a / 0x400000 = 4 then some (.tree ⟨i, h⟩)
      else if a / 0x400000 = 5 then some (.upl ⟨i, h⟩)
      else if a / 0x400000 = 6 then some (.fab ⟨i, h⟩)
      else none
    else none

end Sys2Proof.Machine
end

