-- ==== Sys2Proof/Machine/Pantry.lean ====
section
/-! DEFINITION. The Stacks and the Pantry: buffers, pools, reserves, admission and release (13_stacks_pantry.md
R381-R398). -/

namespace Sys2Proof.Machine

/-- Bytes of a Stacks bank. -/
def bankBytes : Nat := 4194304

/-- The bytes a pool's buffer takes (R387). -/
def poolSize (p : Nat) : Nat := if p = 0 then 256 else if p = 1 then 1024 else if p = 2 then 4096 else 16384

/-- The packet bytes a pool's buffer holds (R387): all but its 32-byte header. -/
def poolHolds (p : Nat) : Nat := poolSize p - 32

/-- The buffers one bank gives a pool (R387). -/
def poolBufs (p : Nat) : Nat := bankBytes / poolSize p

/-- The largest packet the Pantry holds (R388). -/
def panMaxPacket : Nat := 16352

/-! Bank states and owners, as STK_BANK (R381, R384). -/
def bkFree : Nat := 0
def bkOwned : Nat := 1
def bkDraining : Nat := 2
def bkScrubbing : Nat := 3
def bkJoining : Nat := 4
def bkFaulty : Nat := 5
def ownPantry : Nat := 1

/-- A bank's state. -/
def Dev.bankState (d : Dev) (b : Nat) : Nat := d.get (rSTK_BANK b) fSTK_BANK_STATE
/-- A bank's owner. -/
def Dev.bankOwner (d : Dev) (b : Nat) : Nat := d.get (rSTK_BANK b) fSTK_BANK_OWNER
/-- A bank's pool. -/
def Dev.bankPool (d : Dev) (b : Nat) : Nat := d.get (rSTK_BANK b) fSTK_BANK_POOL
/-- Set a bank's state. -/
def Dev.setBank (d : Dev) (b st : Nat) : Dev := d.put (rSTK_BANK b) fSTK_BANK_STATE st

/-- A march run is active on a bank (21_counters_test.md R620). -/
def Dev.marchOn (d : Dev) (b : Nat) : Bool := match d.cnt.run with | some v => fieldOf v fMTEST_CTRL_TARGET == b | none => false

/-- The 40 banks. -/
def allBanks : List Nat := List.range 40

/-- The banks a pool takes buffers from: OWNED by the Pantry, of the pool, in the rotation (R390, R391). -/
def Dev.poolBanks (d : Dev) (p : Nat) : List Nat :=
  allBanks.filter (fun b => d.bankState b == bkOwned && d.bankOwner b == ownPantry && d.bankPool b == p && !(d.bankX b).off)

/-- Free buffers of a bank. -/
def Dev.bankFree (d : Dev) (b : Nat) : Nat := d.get (rSTK_BANK b) fSTK_BANK_FREE_BUFS

/-- A bank's buffers in use. -/
def Dev.bankUsed (d : Dev) (b : Nat) : Nat := poolBufs (d.bankPool b) - d.bankFree b

/-- The in-use bit of a buffer (R389): it has been taken and not returned. -/
def BankX.inUse (x : BankX) (i : Nat) : Bool := decide (i < x.fresh) && !(x.freed.contains i)

/-- The sum of every MIN (R393). -/
def Dev.sumMin (d : Dev) : Nat :=
  ((List.range 98).map (fun e => d.rdN (rPAN_ENT_MIN e))).sum + ((List.range 17).map (fun n => d.rdN (rPAN_TEN_MIN n))).sum

/-- The Pantry's total bytes: those of its OWNED banks (R394). -/
def Dev.panBytes (d : Dev) : Nat :=
  bankBytes * (allBanks.filter (fun b => d.bankState b == bkOwned && d.bankOwner b == ownPantry)).length

/-- Show the totals and the pools again, once READY (R393, R394, R401). -/
def Dev.showPan (d : Dev) : Dev :=
  if d.bit rPAN_STATUS fPAN_STATUS_READY then
    let d := d.wrN rPAN_TOTAL d.panBytes
    let d := d.wrN rPAN_SHARED_SIZE (d.panBytes - d.sumMin)
    (List.range 4).foldl (fun d p =>
      let bs := d.poolBanks p
      (d.wrN (rPAN_POOL_FREE p) ((bs.map d.bankFree).sum)).wrN (rPAN_POOL_TOTAL p) (bs.length * poolBufs p)) d
  else d

/-- A list fault of a bank (R391): it leaves the rotation until LIST_REBUILT. -/
def Dev.listFault (d : Dev) (b : Nat) : Dev :=
  let d := d.updBankX b (fun x => { x with off := true })
  let d := (d.bump (rPAN_CNT 12)).mark rPAN_ERR fPAN_ERR_LIST_FAULT
  (d.alert 0x0C04 (p4 b ++ p4 (d.bankPool b))).showPan

/-- Rebuild a bank's free list from its in-use bits (R391). -/
def BankX.rebuilt (x : BankX) : BankX :=
  { x with freed := (List.range x.fresh).filter (fun i => !(x.inUse i)), off := false }

/-- Take the head of a bank's free list (R389): its index, or none where the list is empty; a faulty link is a list
fault. -/
def Dev.takeFrom (d : Dev) (b : Nat) : Option Nat × Dev :=
  let x := d.bankX b
  let n := poolBufs (d.bankPool b)
  match x.freed with
  | i :: is =>
    if decide (x.fresh ≤ i) || decide (n ≤ i) || is.contains i then (none, d.listFault b)
    else (some i, (d.setBankX b { x with freed := is }).put (rSTK_BANK b) fSTK_BANK_FREE_BUFS (d.bankFree b - 1))
  | [] =>
    if x.fresh < n then
      (some x.fresh, (d.setBankX b { x with fresh := x.fresh + 1 }).put (rSTK_BANK b) fSTK_BANK_FREE_BUFS (d.bankFree b - 1))
    else (none, d)

/-- Take from the first bank of a list that gives a buffer. -/
def takeFirst (d : Dev) : List Nat → Option (Nat × Nat) × Dev
  | [] => (none, d)
  | b :: bs =>
    match d.takeFrom b with
    | (some i, d) => (some (b, i), d)
    | (none, d) => takeFirst d bs

/-- Take a buffer of a pool, in turn from its banks (R390). -/
def Dev.takePool (d : Dev) (p : Nat) : Option (Nat × Nat) × Dev :=
  let bs := d.poolBanks p
  let last := d.pan.last.getD p 0
  match takeFirst d (bs.filter (fun b => decide (last < b)) ++ bs.filter (fun b => decide (b ≤ last))) with
  | (some (b, i), d) =>
    (some (b, i), ({ d with pan := { d.pan with last := d.pan.last.set p b } }).wrN (rPAN_POOL_FREE p) (d.rdN (rPAN_POOL_FREE p) - 1))
  | (none, d) => (none, d)

/-- A pool has a free buffer. -/
def Dev.poolHas (d : Dev) (p : Nat) : Bool := (d.poolBanks p).any (fun b => decide (0 < d.bankFree b))

/-- The pool of a packet of B bytes (R388): the smallest that holds it, or the next larger with a free buffer. -/
def Dev.choosePool (d : Dev) (bytes : Nat) : Option Nat :=
  (List.range 4).find? (fun p => decide (bytes ≤ poolHolds p) && d.poolHas p)

/-- The smallest pool that holds a packet. -/
def smallestPool (bytes : Nat) : Nat := ((List.range 4).find? (fun p => decide (bytes ≤ poolHolds p))).getD 3

/-- Bytes charged to an entity or tenant: USED less nothing. -/
def Dev.chargeTo (d : Dev) (ent ten charge z : Nat) (add : Bool) : Dev :=
  let ch := fun (d : Dev) (a : Nat) => d.wrN a (if add then d.rdN a + z else d.rdN a - z)
  let d := ch (ch d (rPAN_ENT_USED ent)) (rPAN_TEN_USED ten)
  if charge = 0 then ch d (rPAN_ENT_RES_USED ent)
  else if charge = 1 then ch d (rPAN_TEN_RES_USED ten)
  else ch d rPAN_SHARED_USED

/-- What R395 decides: the step that ends the checks and, where the packet is admitted, where it is charged. -/
def Dev.admitStep (d : Dev) (ent ten z : Nat) (yellow mirror : Bool) : Nat × Option Nat :=
  let eMax := d.rdN (rPAN_ENT_MAX ent)
  let tMax := d.rdN (rPAN_TEN_MAX ten)
  let used := d.rdN rPAN_SHARED_USED
  let size := d.rdN rPAN_SHARED_SIZE
  if eMax ≠ 0 ∧ eMax < d.rdN (rPAN_ENT_USED ent) + z then (2, none)
  else if tMax ≠ 0 ∧ tMax < d.rdN (rPAN_TEN_USED ten) + z then (3, none)
  else if !mirror && decide (d.rdN (rPAN_ENT_RES_USED ent) + z ≤ d.rdN (rPAN_ENT_MIN ent)) then (4, some 0)
  else if !mirror && decide (d.rdN (rPAN_TEN_RES_USED ten) + z ≤ d.rdN (rPAN_TEN_MIN ten)) then (5, some 1)
  else if (yellow || mirror) && decide (size * d.get rPAN_CTRL fPAN_CTRL_YELLOW_THR < (used + z) * 16) then (6, none)
  else if used + z ≤ size then (7, some 2)
  else (8, none)

/-- The counter of the step that decides (R395, R402). -/
def stepCounter (step : Nat) (mirror : Bool) : Nat :=
  if step = 1 then 8 else if step = 2 then 3 else if step = 3 then 4 else if step = 4 then 0 else if step = 5 then 1
  else if step = 6 then (if mirror then 6 else 5) else if step = 7 then 2 else 7

/-- A discard by the Pantry at a step (R395): its counter, the error, the alert and the event. -/
def Dev.panDrop (d : Dev) (step ent ten prio : Nat) (mirror : Bool) : Dev :=
  let d := d.bump (rPAN_CNT (stepCounter step mirror))
  let d := d.evc 0x0201 1 { req := some ten, tc := some prio }
  if step = 1 then d else (d.mark rPAN_ERR fPAN_ERR_DROP).alertOnce 0x0C01 0 (p4 step ++ p4 ent ++ p4 ten)

/-- Admit a packet of B bytes (R388, R395): its buffer, or none where it is discarded. Before READY the Pantry has no
free buffer. -/
def Dev.admitBuf (d : Dev) (ent ten bytes prio : Nat) (yellow mirror : Bool) : Option Buf × Dev :=
  if panMaxPacket < bytes then (none, d.panDrop 1 ent ten prio mirror)
  else
    match d.choosePool bytes with
    | none =>
      let r := d.admitStep ent ten (poolSize (smallestPool bytes)) yellow mirror
      (none, d.panDrop (if r.2.isSome then 8 else r.1) ent ten prio mirror)
    | some p =>
      let z := poolSize p
      match d.admitStep ent ten z yellow mirror with
      | (step, none) => (none, d.panDrop step ent ten prio mirror)
      | (step, some charge) =>
        match d.takePool p with
        | (none, d) => (none, d.panDrop 8 ent ten prio mirror)
        | (some (b, i), d) =>
          let d := d.when (p != smallestPool bytes) (fun d => d.bump (rPAN_CNT 9))
          let d := (d.bump (rPAN_CNT (stepCounter step mirror))).chargeTo ent ten charge z true
          (some ⟨p, b, i, z, charge, ent, ten⟩, d.evc 0x0200 1 { req := some ten, tc := some prio })

/-- Return a buffer (R389, R391, R395): to its bank's list and its charge's place; a buffer not in use is ignored and
counted. -/
def Dev.freeBuf (d : Dev) (b : Buf) : Dev :=
  let x := d.bankX b.bank
  if x.inUse b.idx then
    let d := d.setBankX b.bank { x with freed := b.idx :: x.freed }
    let d := d.put (rSTK_BANK b.bank) fSTK_BANK_FREE_BUFS (d.bankFree b.bank + 1)
    let d := d.when ((d.poolBanks b.pool).contains b.bank) (fun d => d.wrN (rPAN_POOL_FREE b.pool) (d.rdN (rPAN_POOL_FREE b.pool) + 1))
    d.chargeTo b.ent b.ten b.charge b.size false
  else (d.bump (rPAN_CNT 12)).mark rPAN_ERR fPAN_ERR_DOUBLE_FREE

/-- Thread a bank's free list: every buffer free (R390). -/
def Dev.threadBank (d : Dev) (b : Nat) : Dev :=
  (d.setBankX b {}).put (rSTK_BANK b) fSTK_BANK_FREE_BUFS (poolBufs (d.bankPool b))

/-- A MIN of an entity or tenant may take a value (R393). -/
def Dev.minOk (d : Dev) (minReg resReg v : Nat) : Bool :=
  decide (d.sumMin - d.rdN minReg + v ≤ d.rdN rPAN_TOTAL) && decide (d.rdN resReg ≤ v)

/-! The Stockpot's place in a queue (14_dram.md R426-R429). -/

/-- Pages of the Stockpot region. -/
def Dev.spPages (d : Dev) : Nat := 512 * d.rdN rSP_SIZE

/-- Units of a page that carry packets (R426). -/
def spUnits : Nat := 31

/-- Units of a packet with its 16-byte header (R427). -/
def unitsOf (bytes : Nat) : Nat := (bytes + 16 + 63) / 64

/-- Pages a packet needs beyond the room left in a queue's last page. -/
def SpChain.need (c : SpChain) (units : Nat) : Nat :=
  if c.pages.isEmpty then (units + spUnits - 1) / spUnits else (units - (spUnits - c.tail) + spUnits - 1) / spUnits

/-- Free pages. -/
def Dev.spFree (d : Dev) : Nat := d.dram.freed.length + (d.spPages - d.dram.fresh)

/-- Show the free pages and the queues with spilled packets. -/
def Dev.showSp (d : Dev) : Dev :=
  (d.wrN rSP_PAGES_FREE (if d.bit rSP_CTRL fSP_CTRL_EN then d.spFree else d.rdN rSP_PAGES_FREE)).put rSP_STATUS fSP_STATUS_ACTIVE d.dram.chains.length

/-- Take pages: those freed last first, then those never used. -/
def Dev.takePages (d : Dev) : Nat → List Nat × Dev
  | 0 => ([], d)
  | n + 1 =>
    match d.dram.freed with
    | p :: ps =>
      let r := Dev.takePages { d with dram := { d.dram with freed := ps } } n
      (p :: r.1, r.2)
    | [] =>
      let r := Dev.takePages { d with dram := { d.dram with fresh := d.dram.fresh + 1 } } n
      (d.dram.fresh :: r.1, r.2)

/-- Bytes of units a queue holds spilled. -/
def spilledBytes (q : List Held) : Nat := ((q.filter (fun h => h.buf.isNone)).map (fun h => 64 * h.units)).sum

/-- Why the Stockpot refuses a spill (R428), as the number of its counter; none where it takes it. -/
def Dev.spRefuses (d : Dev) (key : Nat) (q : List Held) (bytes : Nat) : Option Nat :=
  let units := unitsOf bytes
  let c := d.chain key
  if !(d.bit rSP_CTRL fSP_CTRL_EN) || !(d.bit rDRAM_STATUS fDRAM_STATUS_READY) || d.get rDRAM_STATUS fDRAM_STATUS_DOWN != 0 then some 2
  else if c.pages.isEmpty && decide (8192 ≤ d.dram.chains.length) then some 3
  else if d.rdN rSP_QMAX < spilledBytes q + 64 * units then some 4
  else if d.rdN rSP_BACKLOG < d.dram.backlog + 64 * units then some 5
  else if d.spFree < c.need units then some 6
  else none

/-- Place a spilled packet at the tail of its queue's chain: the page it begins in. -/
def Dev.spPlace (d : Dev) (key bytes : Nat) : Nat × Dev :=
  let units := unitsOf bytes
  let c := d.chain key
  let starts := c.pages.isEmpty || decide (c.tail = spUnits)
  let r := d.takePages (c.need units)
  let pages := c.pages ++ r.1.map (fun p => (p, 0))
  let first := if starts then (r.1.head?).getD 0 else ((c.pages.getLast?).map Prod.fst).getD 0
  let total := (if c.pages.isEmpty then 0 else c.tail) + units
  let tail := if total % spUnits = 0 then spUnits else total % spUnits
  let pages := pages.map (fun e => if e.1 = first then (e.1, e.2 + 1) else e)
  let d := r.2.setChain key ⟨pages, tail⟩
  (first, ({ d with dram := { d.dram with backlog := d.dram.backlog + 64 * units } }).showSp)

/-- Free the leading pages of a chain in which no packet left begins, keeping the last. -/
def freeLead : List (Nat × Nat) → List Nat × List (Nat × Nat)
  | [] => ([], [])
  | [e] => ([], [e])
  | e :: es => if e.2 = 0 then let r := freeLead es; (e.1 :: r.1, r.2) else ([], e :: es)

/-- A spilled packet leaves its chain (R429): fetched, or discarded without being read. Where none is left, every page
of the queue is freed. -/
def Dev.spRelease (d : Dev) (key page : Nat) : Dev :=
  let c := d.chain key
  let pages := c.pages.map (fun e => if e.1 = page then (e.1, e.2 - 1) else e)
  let r := if pages.all (fun e => e.2 == 0) then (pages.map Prod.fst, []) else freeLead pages
  let d := d.setChain key (if r.2.isEmpty then {} else { c with pages := r.2 })
  ({ d with dram := { d.dram with freed := r.1.reverse ++ d.dram.freed } }).showSp

/-- Drop a waiting packet: its buffer, or its place in the Stockpot, is freed. -/
def Dev.dropHeld (d : Dev) (key : Nat) (h : Held) : Dev :=
  match h.buf with
  | some b => d.freeBuf b
  | none =>
    let d := d.when (!h.written) (fun d => { d with dram := { d.dram with backlog := d.dram.backlog - 64 * h.units } })
    d.spRelease key h.page

/-- The Stockpot's key of an uplink queue. -/
def spUplKey (q : Nat) : Nat := 0x100000 + q

/-- Bytes of a queue's packets in buffers. -/
def bufferedBytes (q : List Held) : Nat := (q.map (fun h => match h.buf with | some b => b.size | none => 0)).sum

/-- What becomes of a packet handed to a queue (R395-R397): its place, or none where it is discarded. `spill` is the
queue's Stockpot key and threshold register where its kind spills. -/
def Dev.store (d : Dev) (q : List Held) (spill : Option (Nat × Nat)) (ent ten bytes prio : Nat) (yellow mirror : Bool) :
    Option (Option Buf × Nat × Nat) × Dev :=
  let spilling := q.any (fun h => h.buf.isNone)
  let z := poolSize ((d.choosePool bytes).getD (smallestPool bytes))
  let takeBuf := fun (d : Dev) => match d.admitBuf ent ten bytes prio yellow mirror with
    | (some b, d) => (some (some b, 0, 0), d)
    | (none, d) => (none, d)
  match spill with
  | none => takeBuf d
  | some (key, thr) =>
    if decide (bytes ≤ panMaxPacket) && (spilling || decide (thr < bufferedBytes q + z)) then
      match d.spRefuses key q bytes with
      | none =>
        let r := d.spPlace key bytes
        (some (none, r.1, unitsOf bytes), (r.2.bump (rPAN_CNT 10)).bump (rSP_CNT 0))
      | some reason =>
        let d := d.bump (rSP_CNT reason)
        let d := d.when (reason == 6) (fun d => (d.mark rSP_ERR fSP_ERR_FULL).alertOnce 0x0D05 0 (p4 d.spFree))
        if spilling then (none, d.bump (rPAN_CNT 11)) else takeBuf d
    else takeBuf d

end Sys2Proof.Machine
end

