-- ==== Sys2Proof/Machine/Records.lean ====
section
/-! DEFINITION. Catalogue records: their images, how they are found, the three caches, quotas and quarantine
(06_catalogue.md R158-R182). -/

namespace Sys2Proof.Machine

/-! Record images (R168-R170); multi-byte fields little-endian, bytes not named 0 (R167). -/

/-- The 512-byte image of a terminal record (R168). -/
def TermRec.image (r : TermRec) : List Byte :=
  leB 1 (b2n r.valid + 2 * b2n r.fault) ++ leB 1 r.tenant ++ leB 1 r.tree ++ leB 1 0 ++ leB 2 r.termId ++ leB 2 r.defAlloc ++
  leB 4 r.mgmtChan ++ leB 8 r.serial ++ leB 36 r.regId ++ leB 1 r.profile ++ leB 1 r.lineOpt ++
  leB 1 (b2n r.dual + 2 * b2n r.mirror) ++ leB 1 (b2n r.key256) ++ leB 4 (r.mateSm + 2 ^ 20 * r.mateTree) ++
  leB 2 r.keyIndex ++ leB 2 r.nAlloc ++ leB 4 r.nChan ++ leB 4 r.gen ++ leB 8 r.created ++ leB 64 r.descr ++
  leB 108 0 ++ leB 256 r.opaq

/-- The terminal record an image holds (R168). -/
def termOfImage (b : List Byte) : TermRec :=
  { valid := nbit (byteAt b 0) 0, fault := nbit (byteAt b 0) 1, tenant := byteAt b 1, tree := byteAt b 2,
    termId := leAt b 4 2, defAlloc := leAt b 6 2, mgmtChan := leAt b 8 4, serial := leAt b 12 8, regId := leAt b 20 36,
    profile := byteAt b 56, lineOpt := byteAt b 57, dual := nbit (byteAt b 58) 0, mirror := nbit (byteAt b 58) 1,
    key256 := nbit (byteAt b 59) 0, mateSm := leAt b 60 4 % 2 ^ 20, mateTree := leAt b 60 4 / 2 ^ 20 % 64,
    keyIndex := leAt b 64 2, nAlloc := leAt b 66 2, nChan := leAt b 68 4, gen := leAt b 72 4, created := leAt b 76 8,
    descr := leAt b 84 64, opaq := leAt b 256 256 }

/-- The 64-byte image of an allocation record (R169). -/
def AllocRec.image (r : AllocRec) : List Byte :=
  leB 1 (b2n r.valid + 2 * b2n r.fault + 4 * b2n r.police) ++ leB 1 r.tenant ++ leB 1 r.tree ++ leB 1 r.cls ++
  leB 2 r.allocId ++ leB 2 r.term ++ leB 4 r.fixedRate ++ leB 4 r.assuredRate ++ leB 4 r.maxRate ++ leB 4 r.cbs ++
  leB 4 r.pbs ++ leB 2 r.weight ++ leB 2 r.minGrant ++ leB 1 r.rateSlot ++ leB 1 r.interval ++ leB 2 0 ++ leB 4 r.gen ++
  leB 24 0

/-- The allocation record an image holds (R169). -/
def allocOfImage (b : List Byte) : AllocRec :=
  { valid := nbit (byteAt b 0) 0, fault := nbit (byteAt b 0) 1, police := nbit (byteAt b 0) 2, tenant := byteAt b 1,
    tree := byteAt b 2, cls := byteAt b 3 % 4, allocId := leAt b 4 2, term := leAt b 6 2, fixedRate := leAt b 8 4,
    assuredRate := leAt b 12 4, maxRate := leAt b 16 4, cbs := leAt b 20 4, pbs := leAt b 24 4, weight := leAt b 28 2,
    minGrant := leAt b 30 2, rateSlot := byteAt b 32, interval := byteAt b 33, gen := leAt b 36 4 }

/-- The 64-byte image of a channel record (R170). -/
def ChanRec.image (r : ChanRec) : List Byte :=
  leB 1 (b2n r.valid + 2 * b2n r.fault + 4 * b2n r.us + 8 * b2n r.ds + 16 * b2n r.encrypt + 32 * b2n r.prot + 64 * b2n r.mgmt) ++
  leB 1 r.tenant ++ leB 1 r.tree ++ leB 1 0 ++ leB 2 r.portId ++ leB 2 r.term ++ leB 2 r.alloc ++ leB 2 0 ++ leB 4 r.dsCir ++
  leB 4 r.dsPir ++ leB 2 r.dsWeight ++ leB 1 r.dsPrio ++ leB 1 r.gateClass ++ leB 2 r.metaV ++ leB 2 r.seqWin ++ leB 4 r.gen ++
  leB 32 0

/-- The channel record an image holds (R170). -/
def chanOfImage (b : List Byte) : ChanRec :=
  { valid := nbit (byteAt b 0) 0, fault := nbit (byteAt b 0) 1, us := nbit (byteAt b 0) 2, ds := nbit (byteAt b 0) 3,
    encrypt := nbit (byteAt b 0) 4, prot := nbit (byteAt b 0) 5, mgmt := nbit (byteAt b 0) 6, tenant := byteAt b 1,
    tree := byteAt b 2, portId := leAt b 4 2, term := leAt b 6 2, alloc := leAt b 8 2, dsCir := leAt b 12 4, dsPir := leAt b 16 4,
    dsWeight := leAt b 20 2, dsPrio := byteAt b 22, gateClass := byteAt b 23, metaV := leAt b 24 2, seqWin := leAt b 26 2,
    gen := leAt b 28 4 }

/-- GEN after an accepted edit (R171): one more, wrapping from 0xFFFF_FFFF to 1. -/
def nextGen (g : Nat) : Nat := if g = 0xFFFFFFFF then 1 else g + 1

/-! Finding records (R158, R172). -/

/-- The handle of the terminal with an ID on a tree. -/
def Dev.findTerm (d : Dev) (t id : Nat) : Option Nat :=
  (d.cat.terms.find? (fun e => e.2.valid && e.2.tree == t && e.2.termId == id)).map Prod.fst

/-- The handle of the terminal with a serial number on a tree. -/
def Dev.findSerial (d : Dev) (t sn : Nat) : Option Nat :=
  (d.cat.terms.find? (fun e => e.2.valid && e.2.tree == t && e.2.serial == sn)).map Prod.fst

/-- The handle of the allocation with an ID on a tree. -/
def Dev.findAlloc (d : Dev) (t id : Nat) : Option Nat :=
  (d.cat.allocs.find? (fun e => e.2.valid && e.2.tree == t && e.2.allocId == id)).map Prod.fst

/-- The channel index of a port ID on a tree, by the port map (R172). -/
def Dev.findChan (d : Dev) (t port : Nat) : Option Nat := d.portOf (t * 65536 + port)

/-- The handles of a tree's terminals, in terminal ID order. -/
def Dev.termsOf (d : Dev) (t : Nat) : List Nat :=
  (sortBy (fun a b => decide (a.2.termId ≤ b.2.termId)) (d.cat.terms.filter (fun e => e.2.valid && e.2.tree == t))).map Prod.fst

/-- The handles of a terminal's allocations, in handle order. -/
def Dev.allocsOf (d : Dev) (h : Nat) : List Nat :=
  (d.cat.allocs.filter (fun e => e.2.valid && e.2.term == h)).map Prod.fst

/-- The indexes of a terminal's channels, in index order. -/
def Dev.chansOf (d : Dev) (h : Nat) : List Nat :=
  (d.cat.chans.filter (fun e => e.2.valid && e.2.term == h)).map Prod.fst

/-- The Catalogue is ready (R182). -/
def Dev.catReady (d : Dev) : Bool := d.bit rCAT_STATUS fCAT_STATUS_READY

/-- A handle is in quarantine (R161). -/
def Dev.quarHandle (d : Dev) (k : RecKind) (h : Nat) : Bool := d.cat.quar.any (fun q => q.kind == k && q.handle == h)

/-- An identifier is in quarantine (R161). -/
def Dev.quarIdent (d : Dev) (k : RecKind) (t id : Nat) : Bool := d.cat.quar.any (fun q => q.kind == k && q.tree == t && q.ident == id)

/-- Quarantine in ticks (R161): values below 8 act as 8. -/
def Dev.quarTicks (d : Dev) : Nat := max 8 (d.get rCAT_CTRL fCAT_CTRL_QUARANTINE)

/-! Limits per device and per tree (R158), ranges of identifiers, and batch limits (R178). -/

/-- The device figure of a kind. -/
def kTotal : RecKind → Nat
  | .term => 16384
  | .alloc => 65536
  | .chan => 262144

/-- The per-tree figure of a kind. -/
def kPerTree : RecKind → Nat
  | .term => 1020
  | .alloc => 4096
  | .chan => 65534

/-- The lines a batch accepts of a kind (R178). -/
def kBatch : RecKind → Nat
  | .term => 512
  | .alloc => 4096
  | .chan => 8192

/-- The lines a cache holds of a kind (R174). -/
def kLines : RecKind → Nat
  | .term => 2048
  | .alloc => 16384
  | .chan => 65536

/-- A kind as a number: 0 terminal, 1 allocation, 2 channel. -/
def kNum : RecKind → Nat
  | .term => 0
  | .alloc => 1
  | .chan => 2

/-- The address of a record in DRAM (R167). -/
def Dev.recAddr (d : Dev) (k : RecKind) (h : Nat) : Nat :=
  d.rd64 rCAT_BASE_LO rCAT_BASE_HI +
    match k with
    | .term => 512 * h
    | .alloc => 0x800000 + 64 * h
    | .chan => 0xC00000 + 64 * h

/-! Caches and the write-back batch (R174-R179). -/

/-- The lines a cache holds, most recent first. -/
def Dev.cacheOf (d : Dev) : RecKind → List Nat
  | .term => d.cat.lineT
  | .alloc => d.cat.lineA
  | .chan => d.cat.lineC

/-- Replace a cache's lines. -/
def Dev.setCache (d : Dev) (k : RecKind) (l : List Nat) : Dev :=
  match k with
  | .term => { d with cat := { d.cat with lineT := l } }
  | .alloc => { d with cat := { d.cat with lineA := l } }
  | .chan => { d with cat := { d.cat with lineC := l } }

/-- The dirty lines of the open batch. -/
def Dev.openOf (d : Dev) : RecKind → List Nat
  | .term => d.cat.openT
  | .alloc => d.cat.openA
  | .chan => d.cat.openC

/-- Replace the open batch's lines of a kind, and the registers that count them (R183, R185). -/
def Dev.setOpen (d : Dev) (k : RecKind) (l : List Nat) : Dev :=
  match k with
  | .term => ({ d with cat := { d.cat with openT := l } }).put rCAT_DIRTY fCAT_DIRTY_TERM l.length
  | .alloc => { d with cat := { d.cat with openA := l } }
  | .chan => ({ d with cat := { d.cat with openC := l } }).put rCAT_DIRTY fCAT_DIRTY_CHAN l.length

/-- A record is faulted (R181). -/
def Dev.recFault (d : Dev) (k : RecKind) (h : Nat) : Bool :=
  match k with
  | .term => (d.term h).fault
  | .alloc => (d.alloc h).fault
  | .chan => (d.chan h).fault

/-- A line may not be evicted: dirty, being written, or faulted (R174, R177, R181). -/
def Dev.pinned (d : Dev) (k : RecKind) (h : Nat) : Bool :=
  (d.openOf k).contains h || d.cat.writing.any (fun w => w.kind == k && w.handle == h) || d.recFault k h

/-- The lines after one is used: moved to the front, or brought in with the least recently used clean line evicted;
none where no line is clean. -/
def cacheUse (cap : Nat) (pin : Nat → Bool) (l : List Nat) (h : Nat) : Option (List Nat) :=
  if l.contains h then some (h :: l.erase h)
  else if l.length < cap then some (h :: l)
  else (l.reverse.find? (fun v => !(pin v))).map (fun v => h :: l.erase v)

/-- The first of the two counters of a cache's hits and misses (R186). -/
def kHitCnt (k : RecKind) : Nat := 2 * (kNum k)

/-- A data-path lookup of a record (R174): a hit, or a miss that fetches it from DRAM at MISS_URG (log entry 9). -/
def Dev.look (d : Dev) (k : RecKind) (h : Nat) : Dev :=
  let l := d.cacheOf k
  let hit := l.contains h
  let d := d.bump (rCAT_CNT ((kHitCnt k) + b2n (!hit)))
  let d := d.when (!hit) (fun d => d.emit .dram 0 [d.get rCAT_CTRL fCAT_CTRL_MISS_URG, d.recAddr k h, 0])
  match cacheUse (kLines k) (d.pinned k) l h with
  | some l' => d.setCache k l'
  | none => d

/-- Whether an edit of a line is accepted by the open batch and the cache (R178). -/
def Dev.canDirty (d : Dev) (k : RecKind) (hs : List Nat) : Bool :=
  let new := hs.filter (fun h => !((d.openOf k).contains h))
  decide ((d.openOf k).length + new.length ≤ (kBatch k)) &&
  (hs.foldl (fun (l : Option (List Nat)) h => l.bind (fun l => cacheUse (kLines k) (fun v => d.pinned k v || hs.contains v) l h))
    (some (d.cacheOf k))).isSome

/-- Mark a line written and dirty (R175, R177); an absent line is fetched. -/
def Dev.dirty (d : Dev) (k : RecKind) (h : Nat) : Dev :=
  let d := match cacheUse (kLines k) (d.pinned k) (d.cacheOf k) h with
    | some l => d.setCache k l
    | none => d
  if (d.openOf k).contains h then d else d.setOpen k (d.openOf k ++ [h])

/-! Quotas (R165, R166). -/

/-- A user's count of objects in use: a tenant's, or the owner's where it is 0x1F. -/
def Dev.useOf (d : Dev) (u : Nat) (k : RecKind) : Nat :=
  if u < 16 then
    match k with
    | .term => d.get (rCAT_TEN_TERM_USE u) fCAT_TEN_TERM_USE_N
    | .alloc => d.get (rCAT_TEN_ALLOC_USE u) fCAT_TEN_ALLOC_USE_N
    | .chan => d.get (rCAT_TEN_CHAN_USE u) fCAT_TEN_CHAN_USE_N
  else d.cat.ownerUse.getD (kNum k) 0

/-- Show the owner's count that OWNER_SEL selects (R185). -/
def Dev.showOwner (d : Dev) : Dev :=
  d.put (rCAT_TEN_OWNER_USE 0) fCAT_TEN_OWNER_USE_N (d.cat.ownerUse.getD (d.get (rCAT_TEN_OWNER_SEL 0) fCAT_TEN_OWNER_SEL_SEL) 0)

/-- Change a user's count. -/
def Dev.setUse (d : Dev) (u : Nat) (k : RecKind) (n : Nat) : Dev :=
  if u < 16 then
    match k with
    | .term => d.put (rCAT_TEN_TERM_USE u) fCAT_TEN_TERM_USE_N n
    | .alloc => d.put (rCAT_TEN_ALLOC_USE u) fCAT_TEN_ALLOC_USE_N n
    | .chan => d.put (rCAT_TEN_CHAN_USE u) fCAT_TEN_CHAN_USE_N n
  else ({ d with cat := { d.cat with ownerUse := d.cat.ownerUse.set (kNum k) n } }).showOwner

/-- A tenant's MIN of a kind. -/
def Dev.minOf (d : Dev) (u : Nat) (k : RecKind) : Nat :=
  if u < 16 then
    match k with
    | .term => d.get (rCAT_TEN_TERM_QUOTA u) fCAT_TEN_TERM_QUOTA_MIN
    | .alloc => d.get (rCAT_TEN_ALLOC_MIN u) fCAT_TEN_ALLOC_MIN_N
    | .chan => d.get (rCAT_TEN_CHAN_MIN u) fCAT_TEN_CHAN_MIN_N
  else 0

/-- A tenant's MAX of a kind; the owner has none. -/
def Dev.maxOfUser (d : Dev) (u : Nat) (k : RecKind) : Option Nat :=
  if u < 16 then
    match k with
    | .term => some (d.get (rCAT_TEN_TERM_QUOTA u) fCAT_TEN_TERM_QUOTA_MAX)
    | .alloc => some (d.get (rCAT_TEN_ALLOC_MAX u) fCAT_TEN_ALLOC_MAX_N)
    | .chan => some (d.get (rCAT_TEN_CHAN_MAX u) fCAT_TEN_CHAN_MAX_N)
  else none

/-- The users: tenants 0-15 and the owner. -/
def users : List Nat := List.range 16 ++ [0x1F]

/-- Objects of a kind in use in the device. -/
def Dev.totalUse (d : Dev) (k : RecKind) : Nat := (users.map (fun u => d.useOf u k)).sum

/-- Objects of a kind on a tree. -/
def Dev.treeUse (d : Dev) (k : RecKind) (t : Nat) : Nat :=
  match k with
  | .term => (d.cat.terms.filter (fun e => e.2.valid && e.2.tree == t)).length
  | .alloc => (d.cat.allocs.filter (fun e => e.2.valid && e.2.tree == t)).length
  | .chan => (d.cat.chans.filter (fun e => e.2.valid && e.2.tree == t)).length

/-- The admission test of R166 for one object. -/
def Dev.quotaOk (d : Dev) (u : Nat) (k : RecKind) (t : Nat) : Bool :=
  let use := d.useOf u k
  let free := (kTotal k) - d.totalUse k
  let res := ((users.filter (fun v => v != u)).map (fun v => d.minOf v k - d.useOf v k)).sum
  (match d.maxOfUser u k with | some m => decide (use < m) | none => true) &&
  (decide (use < d.minOf u k) || decide (res < free)) && decide (d.treeUse k t < (kPerTree k))

/-- The trees granted to a tenant (R163). -/
def Dev.grantedTree (d : Dev) (u t : Nat) : Bool :=
  if u < 16 then nbit (d.rdN (rCAT_TEN_TREES_LO u) + 2 ^ 32 * d.get (rCAT_TEN_TREES_HI u) fCAT_TEN_TREES_HI_TREES) t else true

/-- The lowest free handle of a kind (R160): neither in a valid record nor in quarantine. -/
def Dev.freeHandle (d : Dev) (k : RecKind) : Option Nat :=
  let used := match k with
    | .term => (d.cat.terms.filter (fun e => e.2.valid)).map Prod.fst
    | .alloc => (d.cat.allocs.filter (fun e => e.2.valid)).map Prod.fst
    | .chan => (d.cat.chans.filter (fun e => e.2.valid)).map Prod.fst
  let used := used ++ (d.cat.quar.filter (fun q => q.kind == k)).map (fun q => q.handle)
  (List.range (used.length + 1)).find? (fun h => decide (h < (kTotal k)) && !(used.contains h))

/-- The lowest free identifier of a kind on a tree from one on (R160). -/
def Dev.freeIdent (d : Dev) (k : RecKind) (t lo hi : Nat) : Option Nat :=
  let used := match k with
    | .term => (d.cat.terms.filter (fun e => e.2.valid && e.2.tree == t)).map (fun e => e.2.termId)
    | .alloc => (d.cat.allocs.filter (fun e => e.2.valid && e.2.tree == t)).map (fun e => e.2.allocId)
    | .chan => (d.cat.chans.filter (fun e => e.2.valid && e.2.tree == t)).map (fun e => e.2.portId)
  let used := used ++ (d.cat.quar.filter (fun q => q.kind == k && q.tree == t)).map (fun q => q.ident)
  (List.range (used.length + 1)).findSome? (fun i => if lo + i ≤ hi ∧ !(used.contains (lo + i)) then some (lo + i) else none)

/-- Put a handle and an identifier in quarantine (R161): QUARANTINE ticks from the boundary after the removal. -/
def Dev.quarantine (d : Dev) (k : RecKind) (h t id : Nat) : Dev :=
  { d with cat := { d.cat with quar := d.cat.quar ++ [⟨k, h, t, id, d.tickNow + 1 + d.quarTicks⟩] } }

end Sys2Proof.Machine
end

