-- ==== Sys2Proof/Machine/Terminal.lean ====
section
/-! DEFINITION. What every chapter needs of a tree and its terminals: mode and reach, PLOAM queues, preset records,
in-flight closure, withdrawal, and the terminal's state with all that leaving a state brings
(03_tree_line.md, 04_burst_rx.md, 05_activation.md R130-R136, 08_ladle_maps.md R240, R249). -/

namespace Sys2Proof.Machine

/-! Mode, rates and reach. -/

/-- The line mode (03_tree_line.md R55): 0 X10, 1 F50, 2 J100. -/
def Dev.mode (d : Dev) (t : Nat) : Nat := d.get (rTREE_LINE_CTRL t) fTREE_LINE_CTRL_MODE

/-- The tree is enabled. -/
def Dev.treeEn (d : Dev) (t : Nat) : Bool := d.bit (rTREE_LINE_CTRL t) fTREE_LINE_CTRL_EN

/-- The tree goes on sending frames: it sends them, and no disable or interruption has ended that. -/
def Dev.framing (d : Dev) (t : Nat) : Bool := d.bit (rTREE_LINE_STATUS t) fTREE_LINE_STATUS_FRAMING && (d.tree t).live

/-- The activation lane is fitted (R78). -/
def Dev.actFitted (d : Dev) (t : Nat) : Bool := d.bit (rTREE_LINE_CTRL t) fTREE_LINE_CTRL_ACT_FITTED

/-- The tree's protection role is STANDBY (17_protection.md R508, R512). -/
def Dev.standby (d : Dev) (t : Nat) : Bool := d.get (rPROT_PAIR_STATE t) fPROT_PAIR_STATE_ROLE == 4

/-- The mode's top upstream rate in kb/s (07_ladle_demand.md R201). -/
def topRate (mode : Nat) : Nat := if mode = 0 then 9953280 else 49766400

/-- How many times slower a slot's rate is than the mode's top rate (04_burst_rx.md R97, 08_ladle_maps.md R233). -/
def slotScale (mode slot : Nat) : Nat := if mode = 0 then 1 else if slot = 0 then 1 else if slot = 1 then 2 else 4

/-- The slots a mode has (R97). -/
def slotOk (mode slot : Nat) : Bool := decide (slot < (if mode = 0 then 1 else if mode = 1 then 3 else 2))

/-- Byte-times of one tick (08_ladle_maps.md R228). -/
def tickBt (mode : Nat) : Nat := if mode = 0 then 155520 else 777600

/-- Nanoseconds as byte-times, rounded down (R228): 1.24416 or 6.2208 byte-times per ns. -/
def nsToBt (mode ns : Nat) : Nat := if mode = 0 then ns * 124416 / 100000 else ns * 62208 / 10000

/-- Nanoseconds as byte-times, rounded up to a multiple of 4 (R229). -/
def nsToBtUp (mode ns : Nat) : Nat := ((if mode = 0 then (ns * 124416 + 99999) / 100000 else (ns * 62208 + 9999) / 10000) + 3) / 4 * 4

/-- Byte-times as nanoseconds, rounded down. -/
def btToNs (mode bt : Nat) : Nat := if mode = 0 then bt * 100000 / 124416 else bt * 10000 / 62208

/-- Ranging units of a delay, to the nearest (05_activation.md R133). -/
def rangeUnits (mode ns : Nat) : Nat := if mode = 0 then (ns * 995328 + 50000) / 100000 else (ns * 497664 + 5000) / 10000

/-- Ranging units per burst symbol (R133). -/
def unitsPerSymbol (mode slot : Nat) : Nat :=
  if mode = 0 then 1 else if mode = 2 then 2 else if slot = 0 then 1 else if slot = 1 then 2 else 4

/-- TEQD_TICKS of a tree. -/
def Dev.teqdTicks (d : Dev) (t : Nat) : Nat := d.get (rACT_CTRL t) fACT_CTRL_TEQD_TICKS
/-- MIN_KM of a tree. -/
def Dev.minKm (d : Dev) (t : Nat) : Nat := d.get (rACT_REACH t) fACT_REACH_MIN_KM
/-- DIFF_KM of a tree. -/
def Dev.diffKm (d : Dev) (t : Nat) : Nat := d.get (rACT_REACH t) fACT_REACH_DIFF_KM

/-- RTD_MIN in ns (R130). -/
def rtdMin (minKm : Nat) : Nat := 9800 * minKm + 34000
/-- RTD_MAX in ns (R130). -/
def rtdMax (minKm diffKm : Nat) : Nat := 9800 * (minKm + diffKm) + 36000
/-- TEQD in ns (R130). -/
def teqdNs (ticks : Nat) : Nat := 125000 * ticks
/-- W_SN in ns (R140). -/
def wSn (diffKm : Nat) : Nat := 9800 * diffKm + 52000
/-- W_R in ns (R140). -/
def wR : Nat := 52000

/-- A reach configuration is consistent (R130); TEQD_TICKS outside 2-5 never is (R150). -/
def reachOk (ticks minKm diffKm : Nat) : Bool :=
  decide (2 ≤ ticks) && decide (ticks ≤ 5) && decide (minKm ≤ 20) && decide (1 ≤ diffKm) && decide (diffKm ≤ 40) &&
  decide (minKm + diffKm ≤ 60) && decide (rtdMax minKm diffKm ≤ teqdNs ticks)

/-- Whether the tree's present reach is consistent (R131). -/
def Dev.reachOk (d : Dev) (t : Nat) : Bool := Sys2Proof.Machine.reachOk (d.teqdTicks t) (d.minKm t) (d.diffKm t)

/-! PLOAM messages (03_tree_line.md R60). -/

/-- The superframe counter of the frame of the tick in progress: the low 51 bits of the tick count (01_tick.md R16). -/
def Dev.sfc (d : Dev) : Nat := d.tickNow % 2 ^ 51

/-- Queue a PLOAM message on a tree; a tree that does not frame sends none. -/
def Dev.queuePloam (d : Dev) (t : Nat) (k : PloamKind) (dest : Nat) (content : List Byte) : Dev :=
  if d.framing t then d.updTree t (fun x => { x with ploam := x.ploam ++ [⟨k, dest, content⟩] }) else d

/-- Queue Deactivate_ONU-ID three times (05_activation.md R134). -/
def Dev.deactivate (d : Dev) (t id : Nat) : Dev :=
  ((d.queuePloam t .deactivateOnuId id []).queuePloam t .deactivateOnuId id []).queuePloam t .deactivateOnuId id []

/-! Preset records (04_burst_rx.md R96). -/

/-- A preset record as its 64 bytes (R96). -/
def Preset.image (p : Preset) : List Byte :=
  leB 1 (p.valid % 8 + 8 * b2n p.forceL) ++ leB 1 p.miss ++ leB 1 p.good ++ leB 1 (p.rounds % 32 + 32 * (p.result % 8)) ++
  leB 4 p.age ++ padTo 4 p.taps0 ++ padTo 4 p.taps1 ++ padTo 16 p.slot0 ++ padTo 16 p.slot1 ++ padTo 16 p.slot2

/-- The preset record of 64 bytes (R96). -/
def presetOfImage (b : List Byte) : Preset :=
  { valid := byteAt b 0 % 8, forceL := nbit (byteAt b 0) 3, miss := byteAt b 1 % 16, good := byteAt b 2 % 16,
    rounds := byteAt b 3 % 32, result := byteAt b 3 / 32, age := leAt b 4 4, taps0 := slice b 8 4, taps1 := slice b 12 4,
    slot0 := slice b 16 16, slot1 := slice b 32 16, slot2 := slice b 48 16 }

/-- One slot's 16 bytes. -/
def Preset.slot (p : Preset) (s : Nat) : List Byte := if s = 0 then p.slot0 else if s = 1 then p.slot1 else p.slot2

/-- Write one slot and set its VALID (R100). -/
def Preset.fill (p : Preset) (s : Nat) (b : List Byte) : Preset :=
  let p := if s = 0 then { p with slot0 := padTo 16 b } else if s = 1 then { p with slot1 := padTo 16 b } else { p with slot2 := padTo 16 b }
  { p with valid := Nat.lor p.valid (2 ^ s) }

/-- What R108 does to a record at MISS_LIM: FORCE_L set, every VALID cleared, MISS and GOOD zero. -/
def Preset.forced (p : Preset) : Preset := { p with forceL := true, valid := 0, miss := 0, good := 0 }

/-- What an entry to ABSENT does to a record (05_activation.md R136): as R108, and bytes 3-15 zero. -/
def Preset.absent (p : Preset) : Preset :=
  { p.forced with rounds := 0, result := 0, age := 0, taps0 := leB 4 0, taps1 := leB 4 0 }

/-- A burst must be granted profile L (R99). -/
def Dev.needsL (d : Dev) (h slot : Nat) : Bool := (d.preset h).forceL || !(nbit (d.preset h).valid slot)

/-! The in-flight table (08_ladle_maps.md R248-R250). -/

/-- Entries of a tree's partition. -/
def iftPerTree : Nat := 4096

/-- The positions a tree's partition has used so far. -/
def Dev.iftUsed (d : Dev) (t : Nat) : List Nat := List.range (d.ladT t).fresh

/-- The open entries of a tree, in order of position. -/
def Dev.openEntries (d : Dev) (t : Nat) : List Nat :=
  (d.ift.filter (fun e => e.1 / iftPerTree == t && e.2.used && e.2.state == 0)).map (fun e => e.1 % iftPerTree)

/-- Close an entry (R249, R250): 1 received, 2 lost. The counts follow, the position is freed, and a closure as lost sets
D to 0 under R204; an enabled pair counts the closures of the tick (17_protection.md R508). -/
def Dev.closeIft (d : Dev) (t e st : Nat) : Dev :=
  let x := d.iftE (t * iftPerTree + e)
  if x.used && x.state == 0 then
    let d := d.setIftE (t * iftPerTree + e) { x with state := st }
    let d := d.bump (rLADLE_CNT (if st = 1 then 29 else 30))
    let d := d.put rLADLE_INFLIGHT fLADLE_INFLIGHT_COUNT (d.get rLADLE_INFLIGHT fLADLE_INFLIGHT_COUNT - 1)
    let d := d.put (rLADLE_MAP_STATC t) fLADLE_MAP_STATC_INFLIGHT (d.get (rLADLE_MAP_STATC t) fLADLE_MAP_STATC_INFLIGHT - 1)
    let d := d.updLadT t (fun l => { l with freed := l.freed ++ [e] })
    let d := d.when (x.kind == .ranging) (fun d => d.updActOf x.term (fun a => { a with rangeOpen := false }))
    let d := d.when (d.bit (rPROT_PAIR_CFG t) fPROT_PAIR_CFG_EN) (fun d =>
      let op := x.kind != .sn && (d.actOf x.term).state == .operating
      d.updPair t (fun p => { p with
        cur := [p.cur.getD 0 0, p.cur.getD 1 0 + 1, p.cur.getD 2 0 + b2n op, p.cur.getD 3 0 + b2n (op && st == 1)] }))
    if x.kind == .sn then d else d.updLadA x.alloc (fun l => { l with lastLost := st == 2 })
  else d

/-- Drop the descriptors of entries that are no longer open from a tree's receiver queues. -/
def Dev.purgeDescs (d : Dev) (t : Nat) : Dev :=
  let live := fun (q : Desc) => (d.iftE (t * iftPerTree + q.entry)).state == 0
  let d := d.updRxT t (fun r => { r with queue := r.queue.filter live, actQueue := r.actQueue.filter live })
  d.put (rBRX_STATUS t) fBRX_STATUS_DESC_DEPTH ((d.rxT t).queue.length)

/-- Close as lost every open entry of a tree that passes a test, with no report to the activation block (R249). -/
def Dev.closeWhere (d : Dev) (t : Nat) (p : Ift → Bool) : Dev :=
  let es := (d.openEntries t).filter (fun e => p (d.iftE (t * iftPerTree + e)))
  (es.foldl (fun d e => d.closeIft t e 2) d).purgeDescs t

/-! Withdrawal from the held map, and the changes a repeat map leaves out (08_ladle_maps.md R240, 01_tick.md R28). -/

/-- The state a grant needs of its terminal (R240, 07_ladle_demand.md R196, R200). -/
def gkState : GKind → Option TState
  | .ranging => some .ranging
  | .fine => some .fine
  | .lost => some .lost
  | .sn => none
  | _ => some .operating

/-- Whether a grant may stay in the map: its terminal is in the state it needs, and FORCE_L does not meet S or M. -/
def Dev.grantStands (d : Dev) (g : Grant) : Bool :=
  (match gkState g.kind with | some s => (d.actOf g.term).state == s | none => true) &&
  !((d.preset g.term).forceL && decide (g.profile < 2) && !g.actLane && g.kind != .sn)

/-- Withdraw a terminal's grants that no longer stand from the map being built or held (R240). -/
def Dev.withdraw (d : Dev) (t h : Nat) : Dev :=
  match (d.ladT t).building with
  | none => d
  | some m =>
    let out := m.grants.filter (fun g => g.kind != .sn && g.term == h && !(d.grantStands g))
    if out.isEmpty then d else
    let d := d.bumpBy (rLADLE_CNT 25) out.length
    d.updLadT t (fun l => { l with building := some { m with
      grants := m.grants.filter (fun g => g.kind == .sn || g.term != h || d.grantStands g) } })

/-- Note a configuration change of an allocation (01_tick.md R28). -/
def Dev.noteChange (d : Dev) (t a : Nat) : Dev :=
  d.updLadT t (fun l => { l with changed := (a, d.tickNow) :: l.changed })

/-- Note a change of a terminal for all its allocations. -/
def Dev.noteTerm (d : Dev) (t h : Nat) : Dev := (d.allocsOf h).foldl (fun d a => d.noteChange t a) d

/-! Pending notices (07_ladle_demand.md R216). -/

/-- Discard the pending notices that pass a test, and count them. -/
def Dev.dropNotices (d : Dev) (p : Notice → Bool) : Dev :=
  let n := (d.notices.filter p).length
  let d := { d with notices := d.notices.filter (fun x => !(p x)) }
  let d := if n = 0 then d else d.bumpBy (rLADLE_CNT 22) n
  d.put rLADLE_STATUS fLADLE_STATUS_PENDING d.notices.length

/-! Terminal state (05_activation.md R134-R136). -/

/-- The number of a state, as ACT_TERM_INFO. -/
def tstateNum : TState → Nat
  | .absent => 0
  | .ranging => 1
  | .fine => 2
  | .operating => 3
  | .lost => 4
  | .stopped => 5
  | .isolated => 6

/-- The state a number names. -/
def tstateOf (n : Nat) : TState :=
  if n = 1 then .ranging else if n = 2 then .fine else if n = 3 then .operating else if n = 4 then .lost
  else if n = 5 then .stopped else if n = 6 then .isolated else .absent

/-- Show the selected terminal in ACT_TERM_INFO and ACT_TERM_EQD, and the count of OPERATING (R150). -/
def Dev.showTerm (d : Dev) (t : Nat) : Dev :=
  let n := ((d.termsOf t).filter (fun h => (d.actOf h).state == .operating)).length
  let d := d.put (rACT_STATUS t) fACT_STATUS_OPERATING n
  match d.findTerm t (d.get (rACT_TERM_SEL t) fACT_TERM_SEL_TERM) with
  | none => (d.wrN (rACT_TERM_INFO t) 0).wrN (rACT_TERM_EQD t) 0
  | some h =>
    let a := d.actOf h
    (d.wrN (rACT_TERM_INFO t) (tstateNum a.state * 2 ^ 29 + b2n a.actLane * 2 ^ 28 + min a.lobRun 255 * 2 ^ 20 + a.entryTick % 2 ^ 20)).wrN
      (rACT_TERM_EQD t) a.eqd

/-- The tree's tap negotiation is shown in BRX_STATUS (04_burst_rx.md R125). -/
def Dev.showTune (d : Dev) (t : Nat) : Dev :=
  let r := d.rxT t
  let d := d.put (rBRX_STATUS t) fBRX_STATUS_TUNE_BUSY (b2n r.nego.isSome)
  let d := d.put (rBRX_STATUS t) fBRX_STATUS_TUNE_QUEUE r.tuneQ.length
  d.put (rBRX_STATUS t) fBRX_STATUS_TUNE_TERM (match r.nego with | some n => (d.term n.term).termId | none => 0)

/-- End a negotiation whose terminal leaves operation: RESULT 5, no alert (04_burst_rx.md R115). -/
def Dev.abandonTune (d : Dev) (t h : Nat) : Dev :=
  match (d.rxT t).nego with
  | some n =>
    if n.term = h then
      let d := d.updPreset h (fun p => { p with rounds := min n.rounds 31, result := 5 })
      (d.updRxT t (fun r => { r with nego := none })).showTune t
    else d
  | none => d

/-- A state in which the device grants (R136). -/
def granted : TState → Bool
  | .ranging | .fine | .operating | .lost => true
  | _ => false

/-- Move a terminal to a state, with what leaving the old one brings: the entry tick, notices dropped and negotiation
ended on leaving OPERATING, grants withdrawn from the held map, in-flight grants closed on leaving the granted states,
and the preset record on entry to ABSENT (R134, R136, R216, R240, R249). -/
def Dev.setState (d : Dev) (h : Nat) (st : TState) : Dev :=
  let t := (d.term h).tree
  let old := (d.actOf h).state
  let d := d.updActOf h (fun a => { a with state := st, entryTick := d.tickNow })
  let d := d.when (st == .absent) (fun d =>
    (d.updActOf h (fun a =>
      { a with
        lobRun := 0
        rt := none
        driftLen := 0
        driftSum := 0
        rangeOpen := false
        rangeLost := 0
        fineMiss := 0
        fineSeen := false
        marginUntil := 0 })).updPreset h Preset.absent)
  let d := d.when (old == .operating && st != .operating) (fun d =>
    (d.dropNotices (fun n => (d.alloc n.alloc).term == h)).abandonTune t h)
  let d := d.when (granted old && !(granted st)) (fun d => d.closeWhere t (fun x => x.term == h && x.kind != .sn))
  let d := d.withdraw t h
  (d.noteTerm t h).showTerm t

/-- Take a terminal to ABSENT. -/
def Dev.toAbsent (d : Dev) (h : Nat) : Dev := d.setState h .absent

end Sys2Proof.Machine
end

