-- ==== Sys2Proof/Machine/CipherOps.lean ====
section
/-! DEFINITION. Key entries, usage limits and rollover, MACsec associations, engines and spares (10_cipher.md
R286-R310). -/

namespace Sys2Proof.Machine

/-- The device is ZEROISED (R306, R307). -/
def Dev.zeroised (d : Dev) : Bool := d.bit rSEC_STATUS fSEC_STATUS_ZEROISED

/-- No engine takes work: the device is ZEROISED, or a zeroisation runs (R306). -/
def Dev.cipherOff (d : Dev) : Bool := d.zeroised || d.ciph.zeroing

/-- The cipher block is in NORMAL. -/
def Dev.ciphNormal (d : Dev) : Bool := d.get rCIPH_STATUS fCIPH_STATUS_STATE == 1

/-- Engine numbers (R286). -/
def engDs (t : Nat) : Nat := t
def engUs (t : Nat) : Nat := 48 + t
def engMacTx (kind g : Nat) : Nat := 96 + 6 * kind + g
def engMacRx (kind g : Nat) : Nat := 108 + 6 * kind + g
def engDram (c : Nat) : Nat := 120 + c

/-- An engine is fenced (R287, R311). -/
def Dev.fenced (d : Dev) (e : Nat) : Bool := nbit (d.rdN (rCIPH_FENCED (e / 32))) (e % 32)

/-- A spare stands in for an engine. -/
def Dev.sparedBy (d : Dev) (e : Nat) : Option Nat := (d.ciph.spares.find? (fun x => x.2 == e)).map Prod.fst

/-- The spares that may stand in for an engine (R286). -/
def sparesFor (e : Nat) : List Nat := if e < 120 then [138, 139] else if e < 136 then [140] else []

/-- A free spare of an engine's kind: in no use and not fenced. -/
def Dev.freeSpare (d : Dev) (e : Nat) : Option Nat :=
  (sparesFor e).find? (fun s => !(d.ciph.spares.any (fun x => x.1 == s)) && !(d.fenced s))

/-- An engine's work is served: by itself or by a spare. -/
def Dev.engineServes (d : Dev) (e : Nat) : Bool := !(d.fenced e) || (d.sparedBy e).isSome

/-- Show the counts of spares and of fenced engines. -/
def Dev.showEngines (d : Dev) : Dev :=
  let free := ([138, 139, 140].filter (fun s => !(d.ciph.spares.any (fun x => x.1 == s)) && !(d.fenced s))).length
  let d := d.put rCIPH_STATUS fCIPH_STATUS_SPARES_FREE free
  d.put rCIPH_STATUS fCIPH_STATUS_FENCED_NUM ((List.range 141).filter (fun e => d.fenced e)).length

/-- A limit exponent of a class field: values outside 16-62 act as the nearer end. -/
def clampExp (e : Nat) : Nat := if e < 16 then 16 else if 62 < e then 62 else e

/-- A slot's exponent in force (R291). -/
def Dev.slotExp (d : Dev) (s : KeySlot) : Nat :=
  if s.exp = 0 then clampExp (d.get rCIPH_CTRL fCIPH_CTRL_TREE_LIMIT_EXP) else s.exp

/-- One slot of an entry. -/
def KeyEnt.slot (k : KeyEnt) (n : Nat) : KeySlot := if n = 1 then k.s1 else k.s2
/-- Replace one slot. -/
def KeyEnt.setSlot (k : KeyEnt) (n : Nat) (s : KeySlot) : KeyEnt := if n = 1 then { k with s1 := s } else { k with s2 := s }
/-- The other slot's number. -/
def otherSlot (n : Nat) : Nat := if n = 1 then 2 else 1

/-- A slot counts as installed for a terminal (R290): its key length agrees with KEY_256. -/
def slotFor (r : TermRec) (s : KeySlot) : Bool := s.installed && s.aes256 == r.key256

/-- The terminal is in KEY_EXHAUSTED (R294): it has no current slot that counts as installed. -/
def Dev.keyBlocked (d : Dev) (h : Nat) : Bool :=
  let r := d.term h
  let k := d.keyEnt r.keyIndex
  k.cur == 0 || !(slotFor r (k.slot k.cur)) || (k.slot k.cur).exhausted

/-- Enter KEY_EXHAUSTED, with its alert (R294). -/
def Dev.keyGone (d : Dev) (h : Nat) : Dev :=
  let r := d.term h
  (d.mark rCIPH_ERR fCIPH_ERR_KEY_EXHAUSTED).alert 0x0902 (p4 r.tree ++ p4 r.termId)

/-- The active side of a KIND 1 pair notes a change of current slot for its reports (17_protection.md R507). -/
def Dev.noteSlot (d : Dev) (h n : Nat) : Dev :=
  let t := (d.term h).tree
  if d.bit (rPROT_PAIR_CFG t) fPROT_PAIR_CFG_EN && d.bit (rPROT_PAIR_CFG t) fPROT_PAIR_CFG_KIND &&
      d.get (rPROT_PAIR_STATE t) fPROT_PAIR_STATE_ROLE == 3 then
    d.updPair t (fun p => { p with slots := p.slots ++ [((d.term h).termId, n)] })
  else d

/-- A slot is exhausted (R293): where it was current, the other slot takes over, or the terminal has none. -/
def Dev.exhaust (d : Dev) (h n : Nat) : Dev :=
  let r := d.term h
  let k := d.keyEnt r.keyIndex
  let k := k.setSlot n { k.slot n with exhausted := true }
  if k.cur = n then
    let o := otherSlot n
    if slotFor r (k.slot o) && !(k.slot o).exhausted then
      ((d.setKeyEnt r.keyIndex ({ k with cur := o }.setSlot o { k.slot o with pending := none })).bump (rCIPH_CNT 5)).noteSlot h o
    else (d.setKeyEnt r.keyIndex { k with cur := 0 }).keyGone h
  else d.setKeyEnt r.keyIndex k

/-- A slot encrypts or decrypts one XGEM frame (R291-R293). -/
def Dev.keyUse (d : Dev) (h n : Nat) : Dev :=
  let r := d.term h
  let k := d.keyEnt r.keyIndex
  let s := k.slot n
  let c := s.count + 1
  let lim := 2 ^ d.slotExp s
  let warn := !s.warned && decide ((9 * lim + 9) / 10 ≤ c)
  let d := d.setKeyEnt r.keyIndex (k.setSlot n { s with count := c, warned := s.warned || warn })
  let d := d.when warn (fun d => (d.mark rCIPH_ERR fCIPH_ERR_KEY_WARN).alert 0x0901 (p4 r.tree ++ p4 r.termId ++ p4 n))
  if lim ≤ c then d.exhaust h n else d

/-- A slot whose count stands at or above its limit is exhausted from its next frame (R291). -/
def Dev.keyLate (d : Dev) (h n : Nat) : Dev :=
  let k := d.keyEnt (d.term h).keyIndex
  let s := k.slot n
  if s.installed && !s.exhausted && decide (2 ^ d.slotExp s ≤ s.count) then d.exhaust h n else d

/-- A downstream frame of an encrypted channel may go now (R257, R294, R307, R310). -/
def Dev.dsKeyReady (d : Dev) (h : Nat) : Bool :=
  !(d.keyBlocked h) && !(d.cipherOff) && d.engineServes (engDs (d.term h).tree)

/-- Encrypt one downstream XGEM frame of a terminal: the slot it names, and the state after. -/
def Dev.encryptDs (d : Dev) (h : Nat) : Nat × Dev :=
  let n := (d.keyEnt (d.term h).keyIndex).cur
  (n, (d.keyUse h n).bump (rCIPH_CNT 0))

/-- What becomes of an upstream XGEM frame by its key index (R297): whether it goes on. -/
def Dev.decryptUs (d : Dev) (h key : Nat) (encrypt : Bool) : Bool × Dev :=
  let r := d.term h
  if (key == 0) == encrypt then (false, d.bump (rCIPH_CNT 4))
  else if !encrypt then (true, d)
  else if key = 1 ∨ key = 2 then
    let d := d.keyLate h key
    let s := (d.keyEnt r.keyIndex).slot key
    if !(slotFor r s) then (false, d.bump (rCIPH_CNT 2))
    else if s.exhausted then (false, d.bump (rCIPH_CNT 3))
    else if d.cipherOff || !(d.engineServes (engUs r.tree)) then (false, d.bump (rCIPH_CNT 7))
    else (true, (d.keyUse h key).bump (rCIPH_CNT 1))
  else (false, d.bump (rCIPH_CNT 2))

/-- At a downstream frame of a terminal's tree (R294, R295): a pending slot whose EFFECTIVE has come becomes current,
and a terminal with no current slot takes one that is installed. -/
def Dev.keyFrame (d : Dev) (h sfc : Nat) : Dev :=
  let r := d.term h
  let k := d.keyEnt r.keyIndex
  let take := fun (d : Dev) (n : Nat) =>
    (d.setKeyEnt r.keyIndex ({ k with cur := n }.setSlot n { k.slot n with pending := none })).noteSlot h n
  let due := [1, 2].find? (fun n => slotFor r (k.slot n) && !(k.slot n).exhausted &&
    (match (k.slot n).pending with | some e => decide (e ≤ sfc) | none => false))
  match due with
  | some n => (take d n).when (k.cur != 0) (fun d => d.bump (rCIPH_CNT 5))
  | none =>
    if k.cur = 0 then
      match [1, 2].find? (fun n => slotFor r (k.slot n) && !(k.slot n).exhausted) with
      | some n => take d n
      | none => d
    else d

/-! MACsec (R298, R299). Kind 0 uplink, 1 fabric. -/

/-- The key of an association entry. -/
def saKey (kind g e : Nat) : Nat := (6 * kind + g) * 512 + e

/-- An association is at its limit. -/
def Dev.saSpent (d : Dev) (s : SaEnt) : Bool :=
  decide (2 ^ clampExp (d.get rCIPH_CTRL fCIPH_CTRL_SA_LIMIT_EXP) ≤ s.count) || (!s.rx && decide (2 ^ 64 - 1 ≤ s.pn))

/-- The valid entries of a group and direction, by entry number. -/
def Dev.saList (d : Dev) (kind g : Nat) (rx : Bool) : List (Nat × SaEnt) :=
  (d.ciph.sas.filter (fun e => decide (saKey kind g 0 ≤ e.1) && decide (e.1 < saKey kind g 512) && e.2.valid && e.2.rx == rx))

/-- Count one protected frame sent with an entry. -/
def Dev.saSend (d : Dev) (k : Nat) : Dev :=
  (d.updSaEnt k (fun s => { s with count := s.count + 1, pn := s.pn + 1, used := true }))

/-- Choose the entry that protects a frame of a group, and count the frame (R298, R299): the entry as it stood, or none where
the frame is discarded. The entry is the one in use, else the lowest-numbered valid one (log entry 21). -/
def Dev.macsecTx (d : Dev) (kind g : Nat) : Option SaEnt × Dev :=
  if d.cipherOff || !(d.engineServes (engMacTx kind g)) then (none, d) else
  let l := d.saList kind g false
  match (l.reverse.find? (fun e => e.2.used)).orElse (fun _ => l.head?) with
  | none => (none, d)
  | some (k, s) =>
    if d.saSpent s then
      match l.find? (fun e => e.2.sci == s.sci && e.2.an == (s.an + 1) % 4 && !e.2.used) with
      | some (k', s') => (some s', d.saSend k')
      | none =>
        (none, if s.alerted then d else
          ((d.updSaEnt k (fun s => { s with alerted := true })).mark rCIPH_ERR fCIPH_ERR_SA_EXHAUSTED).alert 0x0903
            (p4 kind ++ p4 g ++ p4 (k % 512)))
    else (some s, d.saSend k)

/-- The SecTAG of an entry: EtherType 0x88E5, TCI and AN, SL, the low PN, and the SCI where it is carried (IEEE 802.1AE). -/
def SaEnt.tag (s : SaEnt) (long : Bool) (n : Nat) : List Byte :=
  beB 2 0x88E5 ++ leB 1 ((if long then 0x2C else 0x0C) + s.an % 4) ++ leB 1 (if n < 48 then n else 0) ++ beB 4 (s.pn % 2 ^ 32) ++
    (if long then beB 8 s.sci else [])

/-- A frame without its FCS, protected under an entry: the addresses, SecTAG, ciphertext and ICV; the IV is the salt combined
with SSCI and PN (IEEE 802.1AE, GCM-AES-XPN-256). -/
def SaEnt.seal (s : SaEnt) (long : Bool) (f : List Byte) : List Byte :=
  let head := slice f 0 12 ++ s.tag long (f.length - 12)
  let iv := (List.zip (beB 4 s.ssci ++ beB 8 s.pn) (padTo 12 s.salt)).map (fun e => e.1 ^^^ e.2)
  head ++ padTo (f.length - 12 + 16) (Config.gcmSeal s.key iv head (f.drop 12))

/-- Validate a received frame of a group (R298, R299): its SCI, AN, PN and whether its ICV holds. -/
def Dev.macsecRx (d : Dev) (kind g sci an pn : Nat) (icvOk : Bool) : Bool × Dev :=
  if d.cipherOff || !(d.engineServes (engMacRx kind g)) then (false, d) else
  match (d.saList kind g true).find? (fun e => e.2.sci == sci && e.2.an == an) with
  | none => (false, d)
  | some (k, s) =>
    if d.saSpent s || !icvOk || decide (pn < s.pn) then (false, d)
    else (true, d.updSaEnt k (fun s => { s with count := s.count + 1, pn := max s.pn (pn + 1 - s.win), used := true }))

end Sys2Proof.Machine
end

