-- ==== Sys2Proof/Machine/SieveOps.lean ====
section
/-! DEFINITION. The Sieve's streams and the sequence tag (17_protection.md R495, R501-R503), and the Edition slots by
number (11_colander.md R340). -/

namespace Sys2Proof.Machine

/-- One Edition slot. -/
def Dev.ed (d : Dev) (i : Nat) : Edition :=
  if i = 0 then d.col.slot0 else if i = 1 then d.col.slot1 else if i = 2 then d.col.slot2 else d.col.slot3

/-- Replace one Edition slot. -/
def Dev.setEd (d : Dev) (i : Nat) (e : Edition) : Dev :=
  { d with col :=
    if i = 0 then { d.col with slot0 := e } else if i = 1 then { d.col with slot1 := e }
    else if i = 2 then { d.col with slot2 := e } else { d.col with slot3 := e } }

/-- The slot in CURRENT. -/
def Dev.curSlot (d : Dev) : Nat := ((List.range 4).find? (fun i => (d.ed i).state == 2)).getD 0

/-- The CURRENT Edition. -/
def Dev.curEd (d : Dev) : Edition := d.ed d.curSlot

/-! The tag (R495, R496). -/

/-- The tag of a sequence number sent on a path. -/
def tagBytes (seq path : Nat) : List Byte :=
  let b := beB 2 seq ++ leB 1 (0x10 + path)
  b ++ leB 1 (crc8 b)

/-- The sequence number of a valid tag: its CRC and VERSION are right. -/
def tagSeq (b : List Byte) : Option Nat :=
  if byteAt b 3 = crc8 (slice b 0 3) ∧ byteAt b 2 / 16 = 1 then some (beAt b 0 2) else none

/-! Streams (R501-R503). -/

/-- Places of a stream's counters. -/
def scPassed : Nat := 0
def scDup : Nat := 1
def scLate : Nat := 2
def scLost : Nat := 3
def scOow : Nat := 4
def scResets : Nat := 5
def scPath0 : Nat := 6
def scPath1 : Nat := 7

/-- Add to a counter word: COUNT in bits 30:0, OVF sticky in bit 31. -/
def wordBump (w n : Nat) : Nat :=
  let c := w % 2 ^ 31 + n
  c % 2 ^ 31 + (if nbit w 31 || decide (2 ^ 31 ≤ c) then 2 ^ 31 else 0)

/-- Add to a stream's counter. -/
def Stream.count (s : Stream) (i n : Nat) : Stream := { s with cnt := s.cnt.set i (wordBump (s.cnt.getD i 0) n) }

/-- How a stream treats a packet. -/
inductive SieveOut where
  | accepted
  | duplicate
  | outOfWindow
  deriving DecidableEq, Repr

/-- Accept the first packet of a stream. -/
def Stream.start (s : Stream) (seq tick : Nat) : Stream :=
  { s with started := true, h := seq, unseen := [], lastTick := tick, oowRun := 0 }.count scPassed 1

/-- Run one packet through a stream (R502, R503): its number, its path, the tick and OOW_LIM. -/
def Stream.run (s : Stream) (seq path tick lim : Nat) : SieveOut × Stream :=
  let s := s.count (if path = 0 then scPath0 else scPath1) 1
  if !s.started then (.accepted, s.start seq tick)
  else
    let x := (seq + 65536 - s.h) % 65536
    let oow := fun (s : Stream) =>
      let s := { s with oowRun := s.oowRun + 1 }.count scOow 1
      if s.oowRun = lim then (SieveOut.accepted, ({ s with started := false }.count scResets 1).start seq tick)
      else (SieveOut.outOfWindow, s)
    if x = 0 then (.duplicate, { s with oowRun := 0 }.count scDup 1)
    else if x < 32768 then
      if s.w ≤ x then oow s
      else
        let un := s.unseen ++ (List.range (x - 1)).map (fun i => (s.h + 1 + i) % 65536)
        let gone := un.filter (fun u => decide (s.w ≤ (seq + 65536 - u) % 65536))
        let s := { s with h := seq, unseen := un.filter (fun u => decide ((seq + 65536 - u) % 65536 < s.w)),
                          lastTick := tick, oowRun := 0 }
        (.accepted, (s.count scLost gone.length).count scPassed 1)
    else if s.w ≤ 65536 - x then oow s
    else if s.unseen.contains seq then
      (.accepted, ({ s with unseen := s.unseen.erase seq, lastTick := tick, oowRun := 0 }.count scLate 1).count scPassed 1)
    else (.duplicate, { s with oowRun := 0 }.count scDup 1)

/-- A stream that has accepted nothing for RESET_TICKS ticks returns to not started (R503). -/
def Dev.streamIdle (d : Dev) (c : Nat) : Dev :=
  let s := d.stream c
  let lim := max 1 (d.get rPROT_TIMERS fPROT_TIMERS_RESET_TICKS)
  if s.started && decide (lim ≤ d.tickNow - s.lastTick) then
    d.setStream c ({ s with started := false, oowRun := 0 }.count scResets 1)
  else d

/-- Add to the device's totals what a stream's PASSED to RESETS gained (R517). -/
def Dev.sieveTotals (d : Dev) (old new : Stream) : Dev :=
  (List.range 6).foldl (fun d i =>
    let n := (new.cnt.getD i 0 % 2 ^ 31 + 2 ^ 31 - old.cnt.getD i 0 % 2 ^ 31) % 2 ^ 31
    if n = 0 then d else d.bumpBy (rPROT_CNT i) n) d

/-- A stream that has accepted nothing for RESET_TICKS ticks returns to not started (R503), counted. -/
def Dev.streamReset (d : Dev) (c : Nat) : Dev := (d.streamIdle c).sieveTotals (d.stream c) ((d.streamIdle c).stream c)

/-- Pass a packet of a channel through its stream. -/
def Dev.sieve (d : Dev) (c seq path : Nat) : SieveOut × Dev :=
  let d := d.streamReset c
  let r := (d.stream c).run seq path d.tickNow (max 1 (d.get rPROT_TIMERS fPROT_TIMERS_OOW_LIM))
  (r.1, (d.setStream c r.2).sieveTotals (d.stream c) r.2)

/-! The pair of a tree (R491-R500). -/

/-- Pair states, as PROT_PAIR_STATE (R516). -/
def prOff : Nat := 0
def prSeeking : Nat := 1
def prRefused : Nat := 2
def prPaired : Nat := 3
def prLost : Nat := 4

/-- Roles, as byte 1 of a report (R508): 0 none, 1 HOME, 2 MATE, 3 ACTIVE, 4 STANDBY. -/
def roHome : Nat := 1
def roMate : Nat := 2
def roActive : Nat := 3
def roStandby : Nat := 4

/-- A tree's pair is enabled. -/
def Dev.pairEn (d : Dev) (t : Nat) : Bool := d.bit (rPROT_PAIR_CFG t) fPROT_PAIR_CFG_EN
/-- Its KIND: 0 dual-parent, 1 tree protection. -/
def Dev.pairKind (d : Dev) (t : Nat) : Nat := d.get (rPROT_PAIR_CFG t) fPROT_PAIR_CFG_KIND
/-- Its state. -/
def Dev.pairState (d : Dev) (t : Nat) : Nat := d.get (rPROT_PAIR_STATE t) fPROT_PAIR_STATE_PAIR_STATE
/-- This side's role. -/
def Dev.role (d : Dev) (t : Nat) : Nat := d.get (rPROT_PAIR_STATE t) fPROT_PAIR_STATE_ROLE
/-- Set this side's role. -/
def Dev.setRole (d : Dev) (t r : Nat) : Dev := d.put (rPROT_PAIR_STATE t) fPROT_PAIR_STATE_ROLE r
/-- The mate's shelfmark and tree. -/
def Dev.mateSm (d : Dev) (t : Nat) : Nat := d.get (rPROT_PAIR_MATE t) fPROT_PAIR_MATE_SHELFMARK
/-- The mate's tree. -/
def Dev.mateTree (d : Dev) (t : Nat) : Nat := d.get (rPROT_PAIR_CFG t) fPROT_PAIR_CFG_MATE_TREE
/-- This device's shelfmark, and whether it is set (16_fabric.md R478). -/
def Dev.shelfmark (d : Dev) : Nat := d.rdN rFAB_SHELFMARK % 2 ^ 20
/-- The shelfmark is set. -/
def Dev.smSet (d : Dev) : Bool := d.bit rFAB_SHELFMARK fFAB_SHELFMARK_SET
/-- The mate sits on this device. -/
def Dev.mateHere (d : Dev) (t : Nat) : Bool := d.mateSm t == d.shelfmark
/-- The pair runs in NETWORK mode (R492: never where the mate sits on this device). -/
def Dev.network (d : Dev) (t : Nat) : Bool := d.bit (rPROT_PAIR_CFG t) fPROT_PAIR_CFG_MODE && !(d.mateHere t)

end Sys2Proof.Machine
end

