-- ==== Sys2Proof/Machine/FabOps.lean ====
section
/-! DEFINITION. The fabric: bundles and their states, defects, hellos, connection memories, routes, and sending
packets (16_fabric.md R456-R481). -/

namespace Sys2Proof.Machine

/-! Bundles (R456, R457). -/

/-- The lanes of a bundle register's SIZE. -/
def bndLanes (ctrl : Nat) : Nat := 2 ^ fieldOf ctrl fFAB_BND_CTRL_SIZE

/-- The bundle's lanes. -/
def Dev.bndSize (d : Dev) (b : Nat) : Nat := bndLanes (d.rdN (rFAB_BND_CTRL b))

/-- The bundle is enabled. -/
def Dev.bndEn (d : Dev) (b : Nat) : Bool := d.bit (rFAB_BND_CTRL b) fFAB_BND_CTRL_EN

/-- The member lanes. -/
def Dev.bndMembers (d : Dev) (b : Nat) : List Nat := (List.range (d.bndSize b)).map (fun i => b + i)

/-- The enabled bundle a lane belongs to (log entry 13: a bundle is one whose EN is 1). -/
def Dev.bundleOf (d : Dev) (f : Nat) : Option Nat :=
  (List.range 48).find? (fun b => d.bndEn b && decide (b ≤ f) && decide (f < b + d.bndSize b))

/-- A lane is the first lane of a bundle, or of none (R456). -/
def Dev.firstLane (d : Dev) (f : Nat) : Bool := match d.bundleOf f with | some b => b == f | none => true

/-- Bundle states, as FAB_BND_STATUS. -/
def bsDown : Nat := 0
def bsTraining : Nat := 1
def bsAlign : Nat := 2
def bsHello : Nat := 3
def bsUp : Nat := 4
def bsVersionFail : Nat := 5

/-- A bundle's state. -/
def Dev.bndState (d : Dev) (b : Nat) : Nat := d.get (rFAB_BND_STATUS b) fFAB_BND_STATUS_STATE
/-- Set a bundle's state. -/
def Dev.setBnd (d : Dev) (b st : Nat) : Dev := d.put (rFAB_BND_STATUS b) fFAB_BND_STATUS_STATE st

/-- Leave UP, or another state, for a state: FAB_BUNDLE_DOWN where it was UP (R457). -/
def Dev.bndFall (d : Dev) (b st : Nat) : Dev :=
  let was := d.bndState b
  let d := d.setBnd b st
  d.when (was == bsUp) (fun d => d.alert 0x0F01 (p4 b ++ p4 was))

/-- The defects, by their bit in FAB_DEFECT and FAB_ERR (R467). -/
def dfLos : Nat := 0
def dfLof : Nat := 1
def dfRdi : Nat := 2
def dfLabel : Nat := 3
def dfPage : Nat := 4
/-- AIS has no bit of its own: it is alerted as defect 5 (log entry 14). -/
def dfAis : Nat := 5

/-- A defect stands. -/
def Dev.defect (d : Dev) (b n : Nat) : Bool := nbit (d.rdN (rFAB_DEFECT b)) n

/-- Declare a defect: its bits and the alert naming bundle, defect and tributary (R467). -/
def Dev.declare (d : Dev) (b n trib : Nat) : Dev :=
  let d := d.when (decide (n < 5)) (fun d => (d.put (rFAB_DEFECT b) ⟨n, n⟩ 1).put (rFAB_ERR b) ⟨n, n⟩ 1)
  d.alert 0x0F03 (p4 b ++ p4 n ++ p4 trib)

/-- Clear a defect. -/
def Dev.clearDefect (d : Dev) (b n : Nat) : Dev := if n < 5 then d.put (rFAB_DEFECT b) ⟨n, n⟩ 0 else d

/-- Declare a bundle defect that does not stand yet. -/
def Dev.declareNew (d : Dev) (b n : Nat) : Dev := if d.defect b n then d else d.declare b n 0

/-- Discard the partial packets of a bundle's tributaries (R468): nothing of them is held, and the lines' counts name
them. -/
def Dev.fabLanesOf (d : Dev) (b : Nat) : List Nat := d.bndMembers b

/-- A fabric lane leaves DATA (R457, R467): LOS is declared, frames stop and its receiver hunts, and the bundle goes to
TRAINING. -/
def Dev.fabLaneLeft (d : Dev) (f : Nat) : Dev :=
  let d := d.setFabLane f {}
  let d := d.put (rFAB_LANE_STATUS f) fFAB_LANE_STATUS_SYNC 0
  match d.bundleOf f with
  | none => d
  | some b =>
    let d := d.declareNew b dfLos
    let d := d.updFabBnd b (fun x => { x with losOk := none, seen := [] })
    if d.bndState b ≥ bsAlign then d.bndFall b bsTraining else d

/-- Enable or disable the member lanes' EN, and TX_EN where they are enabled (R457). -/
def Dev.startLanes (d : Dev) (ls : List LaneId) : Dev :=
  ls.foldl (fun d l =>
    let a := rLANE_CTRL (laneBase l)
    let d := (d.put a fLANE_CTRL_EN 1).put a fLANE_CTRL_TX_EN 1
    if d.trainState l = tsOff then d.enterDetect l else d) d

/-- Take lanes to OFF (02_lanes.md R44). -/
def Dev.laneOff (d : Dev) (l : LaneId) : Dev :=
  let b := laneBase l
  let d := d.put (rLANE_CTRL b) fLANE_CTRL_EN 0
  let d := d.wr (rLANE_STATUS b) 0#32
  d.updLaneX b (fun x => { slip := x.slip, saved := x.saved, scan := x.scan, scanTick := x.scanTick, scanSyms := x.scanSyms })

/-- A fabric lane by its number. -/
def fabLaneId (f : Nat) : LaneId := .fab ⟨f % 48, Nat.mod_lt _ (by decide)⟩
/-- An uplink lane by its number. -/
def uplLaneId (u : Nat) : LaneId := .upl ⟨u % 48, Nat.mod_lt _ (by decide)⟩

/-- A write of FAB_BND_CTRL that R456 refuses. -/
def Dev.bndRefused (d : Dev) (b v : Nat) : Bool :=
  let old := d.rdN (rFAB_BND_CTRL b)
  let n := bndLanes v
  let cfg := fun w => (fieldOf w fFAB_BND_CTRL_SIZE, fieldOf w fFAB_BND_CTRL_MACSEC_EN, fieldOf w fFAB_BND_CTRL_TSI_DELAY)
  (d.bndEn b && cfg old != cfg v) || b % n != 0 || decide (48 < b + n) ||
  (nbit v 0 && (List.range n).any (fun i => match d.bundleOf (b + i) with | some o => o != b | none => false))

/-- Take a bundle to TRAINING (R457). -/
def Dev.bndStart (d : Dev) (b : Nat) : Dev :=
  let d := d.put (rFAB_BND_CTRL b) fFAB_BND_CTRL_EN 1
  let d := (d.setBnd b bsTraining).setFabBnd b {}
  d.startLanes ((d.bndMembers b).map fabLaneId)

/-- Take a bundle to DOWN (R457): its lanes' EN falls and its defects end. -/
def Dev.bndStop (d : Dev) (b : Nat) : Dev :=
  let ms := d.bndMembers b
  let d := d.put (rFAB_BND_CTRL b) fFAB_BND_CTRL_EN 0
  let d := (d.bndFall b bsDown).setFabBnd b {}
  let d := d.wrN (rFAB_DEFECT b) 0
  ms.foldl (fun d f => ((d.laneOff (fabLaneId f)).setFabLane f {}).put (rFAB_LANE_STATUS f) fFAB_LANE_STATUS_SYNC 0) d

/-- Write FAB_BND_CTRL (R456): refused whole, or stored, with what EN's change brings. A lane inside another bundle
ignores it. -/
def Dev.writeBnd (d : Dev) (b v : Nat) : Dev :=
  if !(d.firstLane b) then d
  else if d.bndRefused b v then d.mark (rFAB_ERR b) fFAB_ERR_CFG_BAD
  else
    let was := d.bndEn b
    let keep := fieldPut v fFAB_BND_CTRL_EN (b2n was)
    let d := d.access (rFAB_BND_CTRL b) keep
    if nbit v 0 && !was then d.bndStart b else if !(nbit v 0) && was then d.bndStop b else d

/-! Connection memories (R465, R470). -/

/-- Slots of a page. -/
def fabSlots : Nat := 6000

/-- The place of a connection-memory entry: direction 0 transmit, 1 receive. -/
def cmKey (lane dir page slot : Nat) : Nat := ((2 * lane + dir) * 2 + page) * fabSlots + slot

/-- The bundle a lane's pages follow: its own, or itself as a bundle of one. -/
def Dev.bndOr (d : Dev) (f : Nat) : Nat := (d.bundleOf f).getD f

/-- A page is in use (R470): the active transmit page, or the receive page in use. -/
def Dev.pageUsed (d : Dev) (lane dir page : Nat) : Bool :=
  let s := rFAB_BND_STATUS (d.bndOr lane)
  if dir = 0 then d.get s fFAB_BND_STATUS_TX_PAGE == page else d.get s fFAB_BND_STATUS_RX_PAGE == page

/-- The field that marks a page valid. -/
def markFld (dir page : Nat) : Fld :=
  if dir = 0 then fFAB_LANE_STATUS_TX_STBY_VALID else if page = 0 then fFAB_LANE_STATUS_RX0_VALID else fFAB_LANE_STATUS_RX1_VALID

/-- Write a connection-memory entry; any write to a page clears its mark (R470). -/
def Dev.cmWrite (d : Dev) (lane dir page slot v : Nat) : Dev :=
  (d.setCmWord (cmKey lane dir page slot) v).put (rFAB_LANE_STATUS lane) (markFld dir page) 0

/-- Bits an entry may hold (R483). -/
def cmMask (dir : Nat) : Nat := if dir = 0 then 0xFF3F1FFF else 0xBF000000

/-- Swap the transmit pages of every bundle whose lanes all have a marked standby page (R470). -/
def Dev.pageSwap (d : Dev) : Dev :=
  (List.range 48).foldl (fun d b =>
    if !(d.bndEn b) then d else
    let ms := d.bndMembers b
    let marked := fun f => d.bit (rFAB_LANE_STATUS f) fFAB_LANE_STATUS_TX_STBY_VALID
    if ms.all marked then
      let d := d.put (rFAB_BND_STATUS b) fFAB_BND_STATUS_TX_PAGE (1 - d.get (rFAB_BND_STATUS b) fFAB_BND_STATUS_TX_PAGE)
      ms.foldl (fun d f => d.put (rFAB_LANE_STATUS f) fFAB_LANE_STATUS_TX_STBY_VALID 0) d
    else if ms.any marked then d.mark (rFAB_ERR b) fFAB_ERR_SWAP_PARTIAL
    else d) d

/-- The tributaries a bundle's receive page in use names (R467), with TERM of one naming entry. -/
def Dev.rxTribs (d : Dev) (b : Nat) : List (Nat × Bool) :=
  let page := d.get (rFAB_BND_STATUS b) fFAB_BND_STATUS_RX_PAGE
  let ms := d.bndMembers b
  let listed := d.fab.cm.filter (fun e => ms.any (fun f => decide (cmKey f 1 page 0 ≤ e.1) && decide (e.1 < cmKey f 1 page fabSlots)))
  let named := listed.map (fun e => (nbits e.2 29 24, nbit e.2 31))
  let zero := if listed.length < fabSlots * ms.length then [(0, false)] else []
  (List.range 64).filterMap (fun t =>
    if (named ++ zero).any (fun x => x.1 == t) then some (t, named.any (fun x => x.1 == t && x.2)) else none)

/-- A label register's byte. -/
def Dev.label (d : Dev) (reg : Nat → Nat → Nat) (b t : Nat) : Nat := nbits (d.rdN (reg b (t / 4))) (8 * (t % 4) + 7) (8 * (t % 4))

/-! Hellos (R461, R462, R478-R481). -/

/-- The hello in a cell or in a bridge's packet, whose byte 0 is cell byte 0. -/
def helloOf (c : List Byte) : Hello :=
  { set := nbit (byteAt c 12) 7, sm := beAt c 12 3 % 2 ^ 20, verMin := byteAt c 15 / 16, verMax := byteAt c 15 % 16,
    number := beAt c 16 8, digest := leAt c 24 16, flags := byteAt c 40, prio := byteAt c 41,
    masterValid := nbit (byteAt c 42) 7, master := beAt c 42 3 % 2 ^ 20, hops := byteAt c 45 }

/-- The version ranges overlap; version 1 is the only one the device implements (R479). -/
def Dev.verOverlap (d : Dev) (h : Hello) : Bool :=
  decide (max h.verMin (d.get rFAB_CTRL fFAB_CTRL_VER_MIN) ≤ min h.verMax (d.get rFAB_CTRL fFAB_CTRL_VER_MAX))

/-- The highest common version. -/
def Dev.verCommon (d : Dev) (h : Hello) : Nat := min h.verMax (d.get rFAB_CTRL fFAB_CTRL_VER_MAX)

/-- Both ends are set, with unequal shelfmarks (R457, R478). -/
def Dev.bothSet (d : Dev) (h : Hello) : Bool := d.smSet && h.set && h.sm != d.shelfmark

/-- The device advertises MASTER_ELIGIBLE (R480). -/
def Dev.masterEligible (d : Dev) : Bool := d.bit rFAB_CTRL fFAB_CTRL_MASTER_EN && !(d.bit rFAB_STATUS fFAB_STATUS_TIME_DISAGREE)

/-- Byte 40 of the hello this device sends. -/
def Dev.helloFlags (d : Dev) : Nat :=
  d.get rFAB_STATUS fFAB_STATUS_CONFLICT + 2 * d.get rALM_STATUS fALM_STATUS_TIME_OK +
  4 * d.get rFAB_STATUS fFAB_STATUS_TIME_DISAGREE + 8 * b2n d.masterEligible

/-- The hello bytes 8-131 of an overhead cell this device sends, labels given (R461); a bridge carries the same. -/
def Dev.helloCell (d : Dev) (first11 : List Byte) (labels : List Byte) : List Byte :=
  first11 ++ beB 3 (d.get rFAB_SHELFMARK fFAB_SHELFMARK_SET * 2 ^ 23 + d.shelfmark) ++
  leB 1 (d.get rFAB_CTRL fFAB_CTRL_VER_MIN * 16 + d.get rFAB_CTRL fFAB_CTRL_VER_MAX) ++
  beB 8 d.curEd.number ++ leB 16 d.curEd.digest ++ leB 1 d.helloFlags ++ leB 1 (d.get rFAB_CTRL fFAB_CTRL_TIME_PRIO) ++
  beB 3 (d.get rFAB_STATUS fFAB_STATUS_MASTER_VALID * 2 ^ 23 + d.get rFAB_STATUS fFAB_STATUS_MASTER) ++ leB 1 d.fab.hops ++
  leB 22 0 ++ labels

/-- The candidates for fabric time master (R480), as (priority, shelfmark, hops, bundle): the device itself, each UP
peer that advertises both flags, and the master each UP peer advertises, ranked with the priority of the hello that
names it (log entry 15). -/
def Dev.masters (d : Dev) : List (Nat × Nat × Nat × Option Nat) :=
  let self := if d.bit rALM_STATUS fALM_STATUS_TIME_OK && d.masterEligible && d.smSet
    then [(d.get rFAB_CTRL fFAB_CTRL_TIME_PRIO, d.shelfmark, 0, none)] else []
  self ++ (List.range 48).flatMap (fun b =>
    if d.bndEn b && d.bndState b == bsUp then
      match (d.fabBnd b).hello with
      | none => []
      | some h =>
        (if nbit h.flags 1 && nbit h.flags 3 then [(h.prio, h.sm, 1, some b)] else []) ++
        (if h.masterValid && decide (h.hops ≤ 32) && h.master != d.shelfmark then [(h.prio, h.master, h.hops + 1, some b)] else [])
    else [])

/-- The better of two candidates: lower priority, then lower shelfmark, then fewer hops, then the earlier. -/
def betterMaster (x y : Nat × Nat × Nat × Option Nat) : Nat × Nat × Nat × Option Nat :=
  if y.1 < x.1 ∨ (y.1 = x.1 ∧ (y.2.1 < x.2.1 ∨ (y.2.1 = x.2.1 ∧ y.2.2.1 < x.2.2.1))) then y else x

/-- Choose the fabric time master again and show it (R480, FAB_STATUS). -/
def Dev.pickMaster (d : Dev) : Dev :=
  match d.masters with
  | [] =>
    let d := d.put rFAB_STATUS fFAB_STATUS_MASTER_VALID 0
    let d := (d.put rFAB_STATUS fFAB_STATUS_MASTER 0).put rFAB_STATUS fFAB_STATUS_IS_MASTER 0
    { d with fab := { d.fab with hops := 0, via := none } }
  | x :: xs =>
    let m := xs.foldl betterMaster x
    let d := d.put rFAB_STATUS fFAB_STATUS_MASTER_VALID 1
    let d := (d.put rFAB_STATUS fFAB_STATUS_MASTER m.2.1).put rFAB_STATUS fFAB_STATUS_IS_MASTER (b2n (m.2.1 == d.shelfmark && m.2.2.2.isNone))
    { d with fab := { d.fab with hops := m.2.2.1, via := m.2.2.2 } }

/-- A duplicate of this device's shelfmark is seen (R481). -/
def Dev.conflict (d : Dev) : Dev :=
  let d := { d with fab := { d.fab with dupTick := d.tickNow } }
  if d.bit rFAB_STATUS fFAB_STATUS_CONFLICT then d
  else ((d.mark rFAB_STATUS fFAB_STATUS_CONFLICT).mark rFAB_GERR fFAB_GERR_CONFLICT).alert 0x0F05 (p4 d.shelfmark)

/-- A hello tells of a conflicted shelfmark (R481): the route to it is removed. -/
def Dev.unroute (d : Dev) (h : Hello) : Dev :=
  if nbit h.flags 0 && h.set && h.sm / 256 == d.shelfmark / 256 then d.setRouteOf (h.sm % 256) [0, 0, 0, 0] else d

/-- A valid hello of a bundle takes effect (R457, R481). -/
def Dev.takeHello (d : Dev) (b : Nat) (h : Hello) : Dev :=
  let old := (d.fabBnd b).hello
  let d := d.updFabBnd b (fun x => { x with hello := some h })
  let d := d.wrN (rFAB_PEER_SM b) h.sm
  let d := d.wr64 (rFAB_PEER_ED_LO b) (rFAB_PEER_ED_HI b) h.number
  let d := (if h.set && d.smSet && h.sm == d.shelfmark then d.conflict else d).unroute h
  let differs := h.number != d.curEd.number || h.digest != d.curEd.digest
  let d := if differs && !(d.fabBnd b).mismatch then
      (d.mark (rFAB_ERR b) fFAB_ERR_EDITION_MISMATCH).alert 0x0F07 (p4 b ++ p8 h.number) else d
  let d := d.updFabBnd b (fun x => { x with mismatch := differs })
  let st := d.bndState b
  let up := fun (d : Dev) =>
    let d := (d.setBnd b bsUp).put (rFAB_BND_STATUS b) fFAB_BND_STATUS_VERSION (d.verCommon h)
    d.alert 0x0F02 (p4 b ++ p4 h.sm ++ p4 (d.verCommon h))
  let d :=
    if st = bsHello then
      if !(d.verOverlap h) then
        ((d.setBnd b bsVersionFail).mark (rFAB_ERR b) fFAB_ERR_VERSION_FAIL).alert 0x0F04 (p4 b ++ p4 (h.verMin * 16 + h.verMax))
      else if d.bothSet h then up d else d
    else if st = bsVersionFail then (if d.verOverlap h && d.bothSet h then up d else d)
    else if st = bsUp then
      (if !(d.verOverlap h) || (match old with | some o => o.sm != h.sm | none => false) || !(d.bothSet h) then d.bndFall b bsHello else d)
    else d
  d.pickMaster

/-! Routes and sending (R472, R473, R475). -/

/-- KIND, INDEX and TRIB of a route path. -/
def pathBridge (p : Nat) : Bool := nbit p 15
/-- INDEX of a path. -/
def pathIndex (p : Nat) : Nat := nbits p 13 8
/-- TRIB of a path. -/
def pathTrib (p : Nat) : Nat := nbits p 5 0

/-- The paths a route entry lists. -/
def routePaths (e : List Nat) : List Nat :=
  let all := [e.getD 1 0 % 65536, e.getD 1 0 / 65536 % 65536, e.getD 2 0 % 65536, e.getD 2 0 / 65536 % 65536]
  if nbit (e.getD 0 0) 31 then all.take (e.getD 0 0 % 4 + 1) else []

/-- A path is usable (R475): a bundle UP without RDI, or a bridge UP. -/
def Dev.pathUsable (d : Dev) (p : Nat) : Bool :=
  if pathBridge p then decide (pathIndex p < 16) && d.bit (rFAB_BRIDGE_CTRL (pathIndex p)) fFAB_BRIDGE_CTRL_UP
  else d.bndEn (pathIndex p) && d.bndState (pathIndex p) == bsUp && !(d.defect (pathIndex p) dfRdi)

/-- The route entry of a shelfmark (R475): the member table in its own domain, else the domain table. -/
def Dev.routeFor (d : Dev) (sm : Nat) : List Nat :=
  if sm / 256 = d.shelfmark / 256 then d.routeOf (sm % 256) else d.routeOf (4096 + sm / 256)

/-- The path of a flow toward a shelfmark, among the usable paths that pass a test. -/
def Dev.routePick (d : Dev) (sm flow : Nat) (p : Nat → Bool) : Option Nat :=
  let l := (routePaths (d.routeFor sm)).filter (fun x => d.pathUsable x && p x)
  if l.isEmpty then none else l[flow % l.length]?

/-- A fabric header (R472): TYPE, PRIO, YELLOW, HOPS, LENGTH, DEST, SRC, FLOW and sequence number. -/
def fabHeader (typ prio : Nat) (yellow : Bool) (hops len dest src flow : Nat) (seq : Option Nat) : List Byte :=
  let h := leB 1 (typ * 16 + prio % 8 * 2 + b2n yellow) ++ leB 1 hops ++ beB 2 len ++ beB 3 dest ++ beB 3 src ++ beB 2 flow ++
    beB 2 (seq.getD 0) ++ leB 1 (b2n seq.isSome)
  h ++ leB 1 (crc8 h)

/-- The place of a fabric queue: a bundle's first lane, or 48 + bridge, a tributary and a PRIO. -/
def fabQKey (idx trib prio : Nat) : Nat := (64 * idx + trib) * 8 + prio

/-- Egress entities (13_stacks_pantry.md). -/
def entFabric : Nat := 96
def entProc : Nat := 97

/-- The tenant charged: a tree channel's TENANT where it is 0-15, else the owner as 16. -/
def chargeTenant (tenant : Nat) : Nat := if tenant < 16 then tenant else 16

/-- The bridge's port of uplink. -/
def Dev.bridgePort (d : Dev) (b : Nat) : Nat := d.get (rFAB_BRIDGE_CTRL b) fFAB_BRIDGE_CTRL_LANE

/-- The tunnel frame of a bridge (R477): peer MAC, the port's MAC, VLAN tag where set, EtherType 0x88B8, the packet. The
MAC of a port is one the spec does not give: a free value (log entry 16). -/
def Dev.tunnelFrame (d : Dev) (b : Nat) (packet : List Byte) : List Byte :=
  let hi := d.rdN (rFAB_BRIDGE_MAC_HI b)
  let mac := beB 2 (hi % 65536) ++ beB 4 (d.rdN (rFAB_BRIDGE_MAC_LO b))
  let src := beB 6 ((Config.freeWord (d.bridgePort b)).toNat % 2 ^ 48)
  let vlan := if nbit hi 31 then beB 2 0x8100 ++ beB 2 (nbits hi 27 16) else []
  let f := mac ++ src ++ vlan ++ beB 2 0x88B8 ++ packet
  f ++ leB 4 (crc32 f)

/-- A mirror copy finds no buffer (11_colander.md R339). -/
def Dev.mirrorLost (d : Dev) : Dev := (d.bump (rCOL_CNT 7)).mark rCOL_ERR fCOL_ERR_MIRROR_DROP

/-- Put a fabric packet (its header and carried frame) in the queue of a path (R473, R475): charged to entity 96, never
spilled; a bridge's packet goes as a tunnel frame to its port's queue, where its link is UP (15_uplinks.md R442). -/
def Dev.fabEnqueue (d : Dev) (path trib prio tenant : Nat) (p : Pkt) (hdr : List Byte) (mirror : Bool) : Dev :=
  let packet := hdr ++ p.bytes
  let put := fun (d : Dev) (frame : List Byte) (h : List Byte) (key : Nat) (upl : Bool) =>
    match d.store [] none entFabric (chargeTenant tenant) (h.length + frame.length) prio p.yellow mirror with
    | (none, d) => d.when mirror Dev.mirrorLost
    | (some (buf, _, _), d) =>
      let e : Held := { pkt := { p with bytes := frame }, buf := buf, ent := entFabric, ten := chargeTenant tenant,
                        tick := d.tickNow, ns := d.tick.now, mirror := mirror, hdr := h }
      if upl then d.updUpQ key (fun q => q ++ [e]) else d.updFaQ key (fun q => q ++ [e])
  if pathBridge path then
    if !(d.bit (rUPL_PORT_STATUS (d.bridgePort (pathIndex path))) fUPL_PORT_STATUS_LINK_UP) then
      d.bump (rUPL_CNT (d.bridgePort (pathIndex path)) 4)
    else put d (d.tunnelFrame (pathIndex path) packet) [] (8 * d.bridgePort (pathIndex path) + prio) true
  else put d p.bytes hdr (fabQKey (pathIndex path) trib prio) false

/-- Route a fabric packet (R475): NO_ROUTE counts at bundle `cntAt` where none is usable. An unset device sends no packet
(R478). -/
def Dev.fabRoute (d : Dev) (cntAt : Nat) (p : Pkt) (typ prio : Nat) (hops dest src flow : Nat) (seq : Option Nat) (mirror : Bool) : Dev :=
  match (if d.smSet then d.routePick dest flow (fun _ => true) else none) with
  | none => d.bump (rFAB_CNT cntAt 7)
  | some path =>
    d.fabEnqueue path (pathTrib path) prio p.tenant p (fabHeader typ prio p.yellow hops p.bytes.length dest src flow seq) mirror

/-- HOPS of a packet this device originates: FAB_CTRL.HOPS, 0 acting as 1. -/
def Dev.initHops (d : Dev) : Nat := max 1 (d.get rFAB_CTRL fFAB_CTRL_HOPS)

/-- The carried frame: an Ethernet frame without its FCS (R472). -/
def noFcs (b : List Byte) : List Byte := b.take (b.length - 4)

/-- Send a packet to a shelfmark (R473). -/
def Dev.fabSend (d : Dev) (p : Pkt) (target prio flow : Nat) (mirror : Bool) : Dev :=
  d.fabRoute 0 { p with bytes := noFcs p.bytes } 1 prio d.initHops target d.shelfmark flow p.seq mirror

/-- Send a protection message to the mate's tree (17_protection.md R498): in tributary PROT_CTRL.TRIB, on bundles alone;
between trees of one device it goes internally, as an operand of the row that receives it (log entry 17). -/
def Dev.protSend (d : Dev) (t kind port : Nat) (yellow : Bool) (seq : Option Nat) (tenant : Nat) (body : List Byte) : Dev :=
  let frame := leB 1 (d.mateTree t) ++ leB 1 (kind + 128 * b2n yellow) ++ beB 2 port ++ body
  let sm := d.mateSm t
  if d.mateHere t then d.emit .fabPacket t [kind, port] frame
  else
    match (if d.smSet then d.routePick sm port (fun p => !(pathBridge p)) else none) with
    | none => d.bump (rFAB_CNT 0 7)
    | some path =>
      let p : Pkt := ⟨frame, tenant, 0, none, 0, yellow, seq, 0, []⟩
      d.fabEnqueue path (d.get rPROT_CTRL fPROT_CTRL_TRIB) 7 tenant p
        (fabHeader 1 7 yellow d.initHops frame.length sm d.shelfmark port seq) false

end Sys2Proof.Machine
end

