-- ==== Sys2Proof/Machine/Gates.lean ====
section
/-! DEFINITION. Gate control lists of trees and uplink ports (09_downstream.md R268-R272, 15_uplinks.md R444). Instants
are in ns of tick time: 125,000 times the tick count, and the ns into the tick. -/

namespace Sys2Proof.Machine

/-- The ns of one tick. -/
def tickNs : Nat := 125000

/-- The owner's place in the map of gate lists: a tree's number, or 64 and the port. -/
def gateKey : GateOwner → Nat
  | .tree t => t.val
  | .upl u => 64 + u.val

/-- The instant of a tick's boundary and ns into it. -/
def instant (tick ns : Nat) : Nat := tick * tickNs + ns

/-- Now, as far as the commands have shown it. -/
def Dev.nowNs (d : Dev) : Nat := instant d.tickNow d.tick.now

/-- OPEN of an entry. -/
def gateOpen (w : Nat) : Nat := nbits w 31 24
/-- INTERVAL of an entry. -/
def gateInterval (w : Nat) : Nat := nbits w 23 0

/-- The list keeps R268. -/
def gateListOk (cycle len : Nat) (es : List Nat) : Bool :=
  decide (1 ≤ len) && decide (len ≤ 256) && decide (1000 ≤ cycle) && decide (cycle ≤ 1000000000) &&
  es.all (fun e => decide (64 ≤ gateInterval e)) && (es.map gateInterval).sum == cycle

/-- The first start of one of a list's cycles at or after an instant (R268, R272). -/
def GateList.firstStart (l : GateList) (x : Nat) : Nat :=
  let b := instant l.base 0
  if x ≤ b then b else b + (x - b + l.cycle - 1) / l.cycle * l.cycle

/-- The entry in force at a position in the cycle, with its number. -/
def entryAt (pos : Nat) : List Nat → Nat → Nat × Nat
  | [], n => (n, 0)
  | e :: es, n => if pos < gateInterval e then (n, e) else entryAt (pos - gateInterval e) es (n + 1)

/-- The position in the list's cycle at an instant. -/
def GateList.pos (l : GateList) (x : Nat) : Nat := (x - instant l.base 0) % l.cycle

/-- The closed stretches of a class in a cycle that starts at `from_`. -/
def closedRuns (cls from_ : Nat) : List Nat → List (Nat × Nat)
  | [] => []
  | e :: es =>
    let next := from_ + gateInterval e
    (if nbit (gateOpen e) cls then [] else [(from_, next)]) ++ closedRuns cls next es

/-- A class is open throughout [a, b) under a list (R269). -/
def GateList.openAll (l : GateList) (cls a b : Nat) : Bool :=
  let closed := closedRuns cls 0 l.entries
  if b ≤ a then true
  else if closed.isEmpty then true
  else if l.cycle ≤ b - a then false
  else
    let p := l.pos a
    let q := p + (b - a)
    closed.all (fun c => (decide (q ≤ c.1) || decide (c.2 ≤ p)) && (decide (q ≤ c.1 + l.cycle) || decide (c.2 + l.cycle ≤ p)))

/-- The longest run of open time of a class in the cycle, one run crossing the cycle's end (R271). -/
def openRun (cls : Nat) : List Nat → Nat → Nat → Nat
  | [], _, best => best
  | e :: es, run, best =>
    if nbit (gateOpen e) cls then openRun cls es (run + gateInterval e) (max best (run + gateInterval e)) else openRun cls es 0 best

/-- The longest open run of a class; none where the class is always open. -/
def GateList.longest (l : GateList) (cls : Nat) : Option Nat :=
  if l.entries.all (fun e => nbit (gateOpen e) cls) then none else some (openRun cls (l.entries ++ l.entries) 0 0)

/-- The gates of an owner act: GATE_EN is 1 (R268). -/
def Dev.gateEn (d : Dev) : GateOwner → Bool
  | .tree t => d.bit (rDSQ_TREE_CTRL t.val) fDSQ_TREE_CTRL_GATE_EN
  | .upl u => d.bit (rUPL_PORT_CTRL u.val) fUPL_PORT_CTRL_GATE_EN

/-- A class of an owner is open throughout [a, b): under the active list up to the armed list's change, under the armed
list from it on (R269, R272). -/
def Dev.gateFits (d : Dev) (o : GateOwner) (cls a b : Nat) : Bool :=
  if !(d.gateEn o) then true else
  let x := d.gateX (gateKey o)
  let under := fun (l : Option GateList) (a b : Nat) => match l with | some l => l.openAll cls a b | none => true
  match x.armed with
  | none => under x.active a b
  | some (l, tick, ns) =>
    let c := instant tick ns
    under x.active a (min b c) && under (some l) (max a c) b

/-- The next gate change of the list in force after an instant, none where no gate acts (R267). -/
def Dev.nextChange (d : Dev) (o : GateOwner) (a : Nat) : Option Nat :=
  if !(d.gateEn o) then none else
  let x := d.gateX (gateKey o)
  let ofList := fun (l : GateList) =>
    let p := l.pos a
    let e := entryAt p l.entries 0
    let before := ((l.entries.take e.1).map gateInterval).sum
    a + (before + gateInterval e.2 - p)
  let c1 := x.active.map ofList
  match x.armed, c1 with
  | some (_, tick, ns), some c => some (if a < instant tick ns then min c (instant tick ns) else c)
  | some (_, tick, ns), none => if a < instant tick ns then some (instant tick ns) else none
  | none, c => c

/-- A packet that takes `span` ns can never fit its gate under the active list (R271). -/
def Dev.neverFits (d : Dev) (o : GateOwner) (cls span : Nat) : Bool :=
  if !(d.gateEn o) then false else
  match (d.gateX (gateKey o)).active with
  | none => false
  | some l => match l.longest cls with
    | none => false
    | some r => r == 0 || decide (r < span)

/-! Registers of a list. -/

/-- The status register of an owner's gates. -/
def gateStatus : GateOwner → Nat
  | .tree t => rDSQ_GATE_STATUS t.val
  | .upl u => rUPL_GATE_STATUS u.val

/-- Show ARMED, ACTIVE, the active entry and the classes open at an instant. -/
def Dev.showGate (d : Dev) (o : GateOwner) (a : Nat) : Dev :=
  let x := d.gateX (gateKey o)
  let s := gateStatus o
  let d := d.put s fDSQ_GATE_STATUS_ARMED (b2n x.armed.isSome)
  let d := d.put s fDSQ_GATE_STATUS_ACTIVE (b2n x.active.isSome)
  match x.active with
  | some l =>
    let e := entryAt (l.pos a) l.entries 0
    (d.put s fDSQ_GATE_STATUS_CUR_ENTRY e.1).put s fDSQ_GATE_STATUS_OPEN (if d.gateEn o then gateOpen e.2 else 0xFF)
  | none => (d.put s fDSQ_GATE_STATUS_CUR_ENTRY 0).put s fDSQ_GATE_STATUS_OPEN 0xFF

/-- The pending list of an owner: CYCLE, BASE, CHANGE, LEN and the entries. -/
def Dev.pendingList (d : Dev) (o : GateOwner) : Nat × Nat × Nat × Nat × List Nat :=
  match o with
  | .tree t =>
    let t := t.val
    let len := d.get (rDSQ_GATE_CMD t) fDSQ_GATE_CMD_LEN
    (d.get (rDSQ_GATE_CYCLE t) fDSQ_GATE_CYCLE_CYCLE, d.rd64 (rDSQ_GATE_BASE_LO t) (rDSQ_GATE_BASE_HI t),
      d.rd64 (rDSQ_GATE_CHANGE_LO t) (rDSQ_GATE_CHANGE_HI t), len,
      (List.range len).map (fun e => sget (fun _ => 0) (d.gateX t).pend e))
  | .upl u =>
    let u := u.val
    let len := d.get (rUPL_GATE_CMD u) fUPL_GATE_CMD_LEN
    (d.get (rUPL_GATE_CYCLE u) fUPL_GATE_CYCLE_CYCLE, d.rd64 (rUPL_GATE_BASE_LO u) (rUPL_GATE_BASE_HI u),
      d.rd64 (rUPL_GATE_CHANGE_LO u) (rUPL_GATE_CHANGE_HI u), len,
      (List.range len).map (fun e => d.rdN (rUPL_GATE_PENDING u e)))

/-- The pending list may be committed (R268). -/
def Dev.pendingOk (d : Dev) (o : GateOwner) : Bool :=
  let p := d.pendingList o
  gateListOk p.1 p.2.2.2.1 p.2.2.2.2

/-- Commit the pending list (R272): whether it was armed and whether it came late, and the instant of its change. -/
def Dev.gateCommit (d : Dev) (o : GateOwner) : (Bool × Bool × Nat) × Dev :=
  let p := d.pendingList o
  if !(d.pendingOk o) then
    ((false, false, 0), match o with
      | .tree _ => d.mark rDSQ_ERR fDSQ_ERR_GATE_CFG
      | .upl u => d.mark (rUPL_ERR u.val) fUPL_ERR_CFG_BAD)
  else
    let l : GateList := ⟨p.1, p.2.1, p.2.2.2.2⟩
    let soonest := d.nowNs + tickNs
    let late := decide (instant p.2.2.1 0 < soonest)
    let c := l.firstStart (if late then soonest else instant p.2.2.1 0)
    let d := d.updGateX (gateKey o) (fun x => { x with armed := some (l, c / tickNs, c % tickNs) })
    let d := d.when late (fun d => match o with
      | .tree t => (d.mark rDSQ_ERR fDSQ_ERR_GATE_LATE).alert 0x0802 (p4 t.val)
      | .upl _ => d)
    ((true, late, c), d.showGate o d.nowNs)

/-- Disarm the armed list (R272). -/
def Dev.gateAbort (d : Dev) (o : GateOwner) : Dev :=
  (d.updGateX (gateKey o) (fun x => { x with armed := none })).showGate o d.nowNs

/-- The armed list becomes active (R272). -/
def Dev.gateActivate (d : Dev) (o : GateOwner) : Dev :=
  match (d.gateX (gateKey o)).armed with
  | none => d
  | some (l, tick, ns) =>
    let d := d.updGateX (gateKey o) (fun x => { x with active := some l, armed := none })
    let d := match o with
      | .tree t => (d.bump (rDSQ_CNT t.val 7)).put (rDSQ_GATE_ACT_CYCLE t.val) fDSQ_GATE_ACT_CYCLE_CYCLE l.cycle
      | .upl u =>
        let d := d.put (rUPL_GATE_ACT_CYCLE u.val) fUPL_GATE_ACT_CYCLE_CYCLE l.cycle
        (List.range 256).foldl (fun d e => d.wrN (rUPL_GATE_ACTIVE u.val e) (l.entries.getD e 0)) d
    d.showGate o (instant tick ns)

/-- End an owner's active and armed lists (R277). -/
def Dev.gateEnd (d : Dev) (o : GateOwner) : Dev :=
  let d := d.updGateX (gateKey o) (fun x => { x with armed := none, active := none })
  let d := match o with
    | .tree t => d.put (rDSQ_GATE_ACT_CYCLE t.val) fDSQ_GATE_ACT_CYCLE_CYCLE 0
    | .upl u => d.put (rUPL_GATE_ACT_CYCLE u.val) fUPL_GATE_ACT_CYCLE_CYCLE 0
  d.showGate o d.nowNs

/-- Write a GATE_CMD register (R272): the fields store, then COMMIT, then ABORT. -/
def Dev.gateCmd (d : Dev) (o : GateOwner) (v : Nat) : Dev :=
  let d := match o with
    | .tree t => d.put (rDSQ_GATE_CMD t.val) fDSQ_GATE_CMD_LEN (fieldOf v fDSQ_GATE_CMD_LEN)
    | .upl u => d.put (rUPL_GATE_CMD u.val) fUPL_GATE_CMD_LEN (fieldOf v fUPL_GATE_CMD_LEN)
  let d := if nbit v 31 then (d.gateCommit o).2 else d
  if nbit v 30 then d.gateAbort o else d

end Sys2Proof.Machine
end

