-- ==== Sys2Proof/Machine/DsOps.lean ====
section
/-! DEFINITION. The downstream scheduler: joining a channel's queue, shapers and virtual time, instants of the frame,
the choice of a packet and its sending, samples and histograms (06_catalogue.md R173, 09_downstream.md R256-R277,
17_protection.md R495-R500). -/

namespace Sys2Proof.Machine

/-! Nodes. -/

/-- Tenant number of a node: 0-15, or 31 for the owner (R264). -/
def nodeTenant (ten : Nat) : Nat := if ten < 16 then ten else 31

/-- The register index of a tenant node: 16 for the owner (R278). -/
def nodeReg (n : Nat) : Nat := if n < 16 then n else 16

/-- The place of a tenant node. -/
def tenKey (t n : Nat) : Nat := t * 32 + n

/-- The place of a terminal node under a tenant node. -/
def termKey (t n h : Nat) : Nat := tenKey t n * 16384 + h

/-- Bytes a bucket of a rate gains per tick (R258). -/
def dsGain (rate : Nat) : Nat := rate / 64

/-- A bucket's cap (R258). -/
def dsCap (rate : Nat) : Nat := max (2 * rate / 64) 9216

/-- A tenant node's CIR, PIR and WEIGHT. -/
def Dev.tenCir (d : Dev) (t n : Nat) : Nat := d.get (rDSQ_TEN_CIR t (nodeReg n)) fDSQ_TEN_CIR_RATE
def Dev.tenPir (d : Dev) (t n : Nat) : Nat := d.get (rDSQ_TEN_PIR t (nodeReg n)) fDSQ_TEN_PIR_RATE
def Dev.tenWeight (d : Dev) (t n : Nat) : Nat := d.get (rDSQ_TEN_WEIGHT t (nodeReg n)) fDSQ_TEN_WEIGHT_WEIGHT

/-- The tenant nodes: 0-15 and 31. -/
def dsTenants : List Nat := List.range 16 ++ [31]

/-- The channels of a tree with DS = 1, by index. -/
def Dev.dsChans (d : Dev) (t : Nat) : List Nat :=
  (d.cat.chans.filter (fun e => e.2.valid && e.2.tree == t && e.2.ds)).map Prod.fst

/-- Fill a channel's buckets (R258). -/
def Dev.fillChan (d : Dev) (c : Nat) : Dev :=
  let r := d.chan c
  d.updChNode c (fun n => { n with cb := dsCap r.dsCir, pb := dsCap r.dsPir })

/-- Fill a tenant node's buckets (R258). -/
def Dev.fillTen (d : Dev) (t n : Nat) : Dev :=
  d.updTenNode (tenKey t n) (fun x => { x with cb := dsCap (d.tenCir t n), pb := dsCap (d.tenPir t n) })

/-- At a boundary every bucket gains its share (R258). -/
def Dev.dsRefill (d : Dev) : Dev :=
  let d := (d.cat.chans.filter (fun e => e.2.valid && e.2.ds)).foldl (fun d e =>
    d.updChNode e.1 (fun n => { n with cb := min (dsCap e.2.dsCir) (n.cb + dsGain e.2.dsCir),
                                        pb := min (dsCap e.2.dsPir) (n.pb + dsGain e.2.dsPir) })) d
  (List.range 48).foldl (fun d t =>
    if (d.tree t).live then
      dsTenants.foldl (fun d n =>
        d.updTenNode (tenKey t n) (fun x => { x with cb := min (dsCap (d.tenCir t n)) (x.cb + dsGain (d.tenCir t n)),
                                                      pb := min (dsCap (d.tenPir t n)) (x.pb + dsGain (d.tenPir t n)) })) d
    else d) d

/-! Admission (R260). -/

/-- FS bytes of one frame (R59, R64); those of F50 are the recommendations'. -/
def fsBytes (mode : Nat) : Nat := if mode = 0 then 135432 else if mode = 1 then Config.f50FsBytes else 1313216

/-- The limit in force (R260): LIMIT, or 90 % of the mode's FS rate, rounded down. -/
def Dev.dsResolve (d : Dev) (t limit : Nat) : Nat := if limit = 0 then fsBytes (d.mode t) * 64 * 9 / 10 else limit

/-- RESOLVED of a tree. -/
def Dev.dsLimit (d : Dev) (t : Nat) : Nat := d.dsResolve t (d.get (rDSQ_ADMIT t) fDSQ_ADMIT_LIMIT)

/-- USED: the sum of the tenant nodes' CIR. -/
def Dev.dsUsed (d : Dev) (t : Nat) : Nat := (dsTenants.map (fun n => d.tenCir t n)).sum

/-- The sum of DS_CIR of a tenant's channels on a tree, one channel left out. -/
def Dev.dsCirSum (d : Dev) (t n : Nat) (skip : Option Nat) : Nat :=
  ((d.dsChans t).map (fun c => if nodeTenant (d.chan c).tenant == n && some c != skip then (d.chan c).dsCir else 0)).sum

/-- R260's cases for a tenant node's new values: the CIR's (true where refused), and the others'. -/
def Dev.dsTenBad (d : Dev) (t n cir pir weight : Nat) : Bool × Bool :=
  (decide (d.dsLimit t < d.dsUsed t - d.tenCir t n + cir) || decide (cir < d.dsCirSum t n none),
   (pir != 0 && decide (pir < cir)) || weight == 0)

/-- Write a tenant node whole, with USED and the buckets (R258, R260). -/
def Dev.dsTenSet (d : Dev) (t n cir pir weight : Nat) : Dev :=
  let d := d.put (rDSQ_TEN_CIR t (nodeReg n)) fDSQ_TEN_CIR_RATE cir
  let d := d.put (rDSQ_TEN_PIR t (nodeReg n)) fDSQ_TEN_PIR_RATE pir
  let d := d.put (rDSQ_TEN_WEIGHT t (nodeReg n)) fDSQ_TEN_WEIGHT_WEIGHT weight
  (d.put (rDSQ_ADMIT_USED t) fDSQ_ADMIT_USED_USED (d.dsUsed t)).fillTen t n

/-- A channel's downstream rates, checked under R261: 0 admitted, or the result; the alert is the caller's. -/
def Dev.dsChanCheck (d : Dev) (r : ChanRec) (skip : Option Nat) : Nat :=
  if !r.ds then 0
  else if (r.dsPir != 0 && decide (r.dsPir < r.dsCir)) || r.dsWeight == 0 then resBadParam
  else
    let n := nodeTenant r.tenant
    let lowered := match skip with | some c => (d.chan c).ds && (d.chan c).tenant == r.tenant && decide (r.dsCir ≤ (d.chan c).dsCir) | none => false
    if !lowered && decide (d.tenCir r.tree n < d.dsCirSum r.tree n skip + r.dsCir) then resNoResource else 0

/-- Refuse a channel's committed rate: DSQ_ERR.ADMIT_REFUSED and its alert (R261). -/
def Dev.dsChanRefused (d : Dev) (t ten port : Nat) : Dev :=
  (d.mark rDSQ_ERR fDSQ_ERR_ADMIT_REFUSED).alert 0x0801 (p4 t ++ p4 ten ++ p4 port)

/-! Joining a channel's queue (06_catalogue.md R173). -/

/-- A channel takes downstream packets (R173). -/
def Dev.chanTakes (d : Dev) (c : Nat) : Bool :=
  let r := d.chan c
  r.valid && r.ds && !r.fault && !(d.quarHandle .chan c)

/-- The queue's Stockpot key and threshold where downstream queues spill (13_stacks_pantry.md R396). -/
def Dev.dsSpill (d : Dev) (c : Nat) : Option (Nat × Nat) :=
  if d.bit rPAN_CTRL fPAN_CTRL_DS_SPILL_EN then some (c, d.rdN rPAN_SPILL_DS) else none

/-- Put a packet in a channel's queue, with the tag it carries: whether the Pantry or the Stockpot took it. -/
def Dev.dsEnqueue (d : Dev) (c : Nat) (p : Pkt) (prio : Nat) (mirror : Bool) (tag : Option Nat) : Bool × Dev :=
  let r := d.chan c
  let q := d.chQ c
  match d.store q (d.dsSpill c) r.tree (chargeTenant r.tenant) p.bytes.length prio p.yellow mirror with
  | (none, d) => (false, d)
  | (some (buf, page, units), d) =>
    let e : Held := { pkt := p, buf := buf, ent := r.tree, ten := chargeTenant r.tenant, tick := d.tickNow, ns := d.tick.now,
                      page := page, units := units, mirror := mirror, tag := tag }
    (true, d.setChQ c (q ++ [e]))

/-- NEXT_DS of a stream after one number is given (17_protection.md R499). -/
def Dev.nextDs (d : Dev) (c n : Nat) : Dev := d.updStream c (fun s => { s with nextDs := n % 65536 })

/-- A packet that the Colander or a mate hands to a channel (R173, 17_protection.md R499, R500). -/
def Dev.dsJoin (d : Dev) (c : Nat) (p : Pkt) (prio : Nat) (mirror : Bool) : Dev :=
  let r := d.chan c
  let d := d.look .chan c
  if !(d.chanTakes c) then d.bump (rCAT_CNT 11)
  else if !r.prot then (d.dsEnqueue c p prio mirror none).2
  else if d.network r.tree then
    match p.seq with
    | none => d.bump (rPROT_CNT 7)
    | some s =>
      match d.sieve c s 0 with
      | (.accepted, d) => (d.dsEnqueue c p prio mirror (some s)).2
      | (_, d) => d
  else if d.role r.tree = roMate then d.bump (rPROT_CNT 8)
  else
    let s := (d.stream c).nextDs
    match d.dsEnqueue c p prio mirror (some s) with
    | (false, d) => d
    | (true, d) =>
      let d := d.nextDs c (s + 1)
      if d.role r.tree = roHome then
        (d.bump (rPROT_CNT 9)).protSend r.tree 1 r.portId p.yellow (some s) r.tenant (tagBytes s 1 ++ p.bytes)
      else d

/-! Leaving a queue. -/

/-- Bytes a packet waits as: its length and its buffer or place are given back. -/
def Dev.dsDrop (d : Dev) (c : Nat) (h : Held) : Dev := d.dropHeld c h

/-- Discard every queued packet of a channel, counted in NO_TERM (R277). -/
def Dev.dsFlush (d : Dev) (c : Nat) : Dev :=
  let q := d.chQ c
  let t := (d.chan c).tree
  let d := q.foldl (fun d h => d.dropHeld c h) (d.setChQ c [])
  d.bumpBy (rDSQ_CNT t 4) q.length

/-- L of a packet (R259): its bytes and ADJUST, at least 1. -/
def Dev.dsLen (d : Dev) (h : Held) : Nat :=
  (max 1 ((h.pkt.bytes.length : Int) + sval 8 (d.get rDSQ_CTRL fDSQ_CTRL_ADJUST))).toNat

/-- XGEM payload of a packet: its sequence tag, where it carries one, and its bytes (17_protection.md R495). -/
def Dev.xgemBody (d : Dev) (t : Nat) (h : Held) : List Byte :=
  (match h.tag with | some s => tagBytes s (b2n (d.role t == roMate)) | none => []) ++ h.pkt.bytes

/-- Bytes of an XGEM frame: its 8-byte header and the payload, padded to a multiple of 4 (log entry 19). -/
def xgemLen (n : Nat) : Nat := 8 + (n + 3) / 4 * 4

/-! Instants of the frame (R267). -/

/-- The instant, in ns from the frame's first symbol, at which an FS byte leaves the pins (R59, R61, R64). -/
def fsNs (mode fs : Nat) : Nat :=
  if mode = 0 then (24 + fs / 216 * 248 + fs % 216) * 100000 / 124416
  else if mode = 1 then Config.f50ByteNs fs
  else (256 + fs / 1824 * 8640 + fs % 1824 * 4) * 10000 / 497664

/-- The instant of an FS byte of the frame of a tick, TREE_TXOFF added (R57). -/
def Dev.txInstant (d : Dev) (t tick fs : Nat) : Nat :=
  instant tick (d.get (rTREE_TXOFF t) fTREE_TXOFF_OFFSET + fsNs (d.mode t) fs)

/-- The span of `n` FS bytes from one: to the instant after the last. -/
def Dev.txSpan (d : Dev) (t tick fs n : Nat) : Nat × Nat := (d.txInstant t tick fs, d.txInstant t tick (fs + n - 1) + 1)

/-! Virtual time (R265, R266; 07_ladle_demand.md R206, R207). -/

/-- x precedes y. -/
def vPrecedes (x y : Nat) : Bool := decide (1 ≤ (y + 2 ^ 48 - x) % 2 ^ 48) && decide ((y + 2 ^ 48 - x) % 2 ^ 48 < 2 ^ 47)

/-- The later of two tags. -/
def vLater (x y : Nat) : Nat := if vPrecedes x y then y else x

/-- The tag after a charge of `l` bytes at a weight: at least 1 unit. -/
def vCharge (s l weight : Nat) : Nat := (s + max 1 (l * 65536 / max 1 weight)) % 2 ^ 48

/-- The member with the smallest start tag; ties go to the one listed first. -/
def vFirst (tag : Nat → Nat) : List Nat → Option Nat
  | [] => none
  | k :: ks =>
    match vFirst tag ks with
    | none => some k
    | some j => if vPrecedes (tag j) (tag k) then some j else some k

/-- A context's V after a choice: the smallest start tag among its eligible members, where that is later. -/
def vNext (v : Nat) (tag : Nat → Nat) (ks : List Nat) : Nat :=
  match vFirst tag ks with
  | some k => vLater v (tag k)
  | none => v

/-- A member before a choice: one that is not eligible sleeps; one that becomes eligible wakes at V, or at its own F. -/
def DsNode.wake (n : DsNode) (v : Nat) (now : Bool) : DsNode :=
  if now && !n.awake then { n with s := vLater v n.f, awake := true } else { n with awake := now }

/-- A member that a choice charges. -/
def DsNode.charge (n : DsNode) (l weight : Nat) : DsNode := let f := vCharge n.s l weight; { n with f := f, s := f }

/-! Heads and eligibility (R257, R262, R271). -/

/-- The head of a channel's queue may be discarded now: 4 NO_TERM, 3 AGED, 2 TOO_LONG, as their counters. -/
def Dev.headGone (d : Dev) (t c : Nat) (h : Held) (at_ : Nat) : Option Nat :=
  let r := d.chan c
  let st := (d.actOf r.term).state
  let age := d.get (rDSQ_TREE_CTRL t) fDSQ_TREE_CTRL_MAX_AGE
  let n := xgemLen (d.xgemBody t h).length
  let o : GateOwner := .tree ⟨t % 48, Nat.mod_lt _ (by decide)⟩
  if st == .absent || st == .stopped || st == .isolated then some 4
  else if age != 0 && decide (instant h.tick h.ns + age * 1000000 < at_) then some 3
  else if d.neverFits o (r.gateClass % 8) (fsNs (d.mode t) (n - 1) - fsNs (d.mode t) 0 + 1) then some 2
  else none

/-- Discard the heads that go, up to one that stays (R257, R271). -/
def Dev.dsClear (d : Dev) (t c at_ : Nat) : List Held → List Held × Dev
  | [] => ([], d)
  | h :: hs =>
    if h.sent ≠ 0 then (h :: hs, d) else
    match d.headGone t c h at_ with
    | none => (h :: hs, d)
    | some i =>
      let d := (d.dropHeld c h).bump (rDSQ_CNT t i)
      let d := d.when (i == 3) (fun d => (d.mark rDSQ_ERR fDSQ_ERR_AGED).alertOnce 0x0804 t (p4 t))
      let d := d.when (i == 2) (fun d => (d.mark rDSQ_ERR fDSQ_ERR_TOO_LONG).alertOnce 0x0803 t (p4 t))
      Dev.dsClear d t c at_ hs

/-- Clear the head of one channel's queue. -/
def Dev.dsClearChan (d : Dev) (t c at_ : Nat) : Dev :=
  let r := d.dsClear t c at_ (d.chQ c)
  r.2.setChQ c r.1

/-- How a head would be sent at a position: whole, or with a first fragment of some bytes of payload. -/
inductive Fit where
  | whole
  | split (bytes : Nat)
  | no
  deriving DecidableEq, Repr

/-- Whether a head fits the frame and its gate (R269, R270): `room` FS bytes are left, and the next frame's payload
begins at FS byte `next`. -/
def Dev.headFit (d : Dev) (t c : Nat) (h : Held) (fs room next : Nat) : Fit :=
  let r := d.chan c
  let o : GateOwner := .tree ⟨t % 48, Nat.mod_lt _ (by decide)⟩
  let cls := r.gateClass % 8
  let body := (d.xgemBody t h).length
  let n := xgemLen body
  let open_ := fun (tick fs n : Nat) => let s := d.txSpan t tick fs n; d.gateFits o cls s.1 s.2
  if n ≤ room then (if open_ d.tickNow fs n then .whole else .no)
  else if d.bit (rDSQ_TREE_CTRL t) fDSQ_TREE_CTRL_FRAG && !r.prot && decide (12 ≤ room) then
    let first := (room - 8) / 4 * 4
    if open_ d.tickNow fs (8 + first) && open_ (d.tickNow + 1) next (xgemLen (body - first)) then .split first else .no
  else .no

/-- Whether the head's terminal lets it go (R257; 10_cipher.md R294). -/
def Dev.headMay (d : Dev) (c : Nat) : Bool :=
  let r := d.chan c
  (d.actOf r.term).state == .operating && (!r.encrypt || d.dsKeyReady r.term)

/-- A channel of the tree as the choice sees it: index, head, L and fit; none where it has no head in a buffer that
may go. -/
structure DsCand where
  ch : Nat
  ten : Nat
  h : Nat
  head : Held
  l : Nat
  fit : Fit
  deriving DecidableEq, Repr

/-- The candidate of a channel. -/
def Dev.dsCand (d : Dev) (t fs room next c : Nat) : Option DsCand :=
  match d.chQ c with
  | [] => none
  | h :: _ =>
    if h.buf.isSome && d.headMay c then
      some ⟨c, nodeTenant (d.chan c).tenant, (d.chan c).term, h, d.dsLen h, d.headFit t c h fs room next⟩
    else none

/-- The channel is eligible (R262). -/
def Dev.dsEligible (d : Dev) (t : Nat) (x : DsCand) : Bool :=
  x.fit != .no && ((d.chan x.ch).dsPir == 0 || decide (x.l ≤ (d.chNode x.ch).pb)) &&
  (d.tenPir t x.ten == 0 || decide (x.l ≤ (d.tenNode (tenKey t x.ten)).pb))

/-- The channel is committed-eligible (R262). -/
def Dev.dsCommitted (d : Dev) (t : Nat) (x : DsCand) : Bool :=
  (d.chan x.ch).dsCir != 0 && decide (x.l ≤ (d.chNode x.ch).cb) &&
  d.tenCir t x.ten != 0 && decide (x.l ≤ (d.tenNode (tenKey t x.ten)).cb)

/-- R263's order: the highest DS_PRIO, then the earliest join, then the lowest index. -/
def Dev.dsBefore (d : Dev) (x y : DsCand) : Bool :=
  let px := (d.chan x.ch).dsPrio
  let py := (d.chan y.ch).dsPrio
  let jx := instant x.head.tick x.head.ns
  let jy := instant y.head.tick y.head.ns
  decide (py < px) || (px == py && (decide (jx < jy) || (jx == jy && decide (x.ch ≤ y.ch))))

/-- A list's numbers, rising and each once. -/
def distinct (l : List Nat) : List Nat :=
  l.foldl (fun acc k => if acc.contains k then acc else insertBy (fun a b => decide (a ≤ b)) k acc) []

/-- Wake and put to sleep the members of every context of the tree (R266). -/
def Dev.dsWake (d : Dev) (t : Nat) (es : List DsCand) : Dev :=
  let d := dsTenants.foldl (fun d n =>
    d.updTenNode (tenKey t n) (fun x => x.wake (d.treeV t) (es.any (fun e => e.ten == n)))) d
  let terms := distinct ((skeys (skeep (fun k => decide (k / 16384 / 32 = t)) d.ds.term)) ++ es.map (fun e => termKey t e.ten e.h))
  let d := terms.foldl (fun d k =>
    d.updTermNode k (fun x => x.wake (d.tenNode (k / 16384)).v (es.any (fun e => termKey t e.ten e.h == k)))) d
  (d.dsChans t).foldl (fun d c =>
    let k := termKey t (nodeTenant (d.chan c).tenant) (d.chan c).term
    d.updChNode c (fun x => x.wake (d.termNode k).v (es.any (fun e => e.ch == c)))) d

/-- The choice (R263, R264): the candidate, and whether it is committed. -/
def Dev.dsChoose (d : Dev) (t : Nat) (es : List DsCand) : Option (DsCand × Bool) :=
  match es.filter (fun e => d.dsCommitted t e) with
  | x :: xs => some (xs.foldl (fun b y => if d.dsBefore y b then y else b) x, true)
  | [] =>
    match vFirst (fun n => (d.tenNode (tenKey t n)).s) (distinct (es.map (fun e => e.ten))) with
    | none => none
    | some n =>
      let mine := es.filter (fun e => e.ten == n)
      let p := maxOf (mine.map (fun e => (d.chan e.ch).dsPrio))
      let atP := mine.filter (fun e => (d.chan e.ch).dsPrio == p)
      match vFirst (fun h => (d.termNode (termKey t n h)).s) (distinct (atP.map (fun e => e.h))) with
      | none => none
      | some h =>
        let inH := atP.filter (fun e => e.h == h)
        match vFirst (fun c => (d.chNode c).s) (distinct (inH.map (fun e => e.ch))) with
        | none => none
        | some c => (inH.find? (fun e => e.ch == c)).map (fun e => (e, false))

/-- Take L from the buckets and charge the chosen members (R263-R265). -/
def Dev.dsCharge (d : Dev) (t : Nat) (es : List DsCand) (x : DsCand) (committed : Bool) : Dev :=
  let c := committed
  let d := d.updChNode x.ch (fun n => { n with cb := if c then n.cb - x.l else n.cb, pb := n.pb - x.l })
  let d := d.updTenNode (tenKey t x.ten) (fun n => { n with cb := if c then n.cb - x.l else n.cb, pb := n.pb - x.l })
  let k := termKey t x.ten x.h
  let d := if c then d else
    let w := min 1048575 (((es.filter (fun e => e.ten == x.ten && e.h == x.h)).map (fun e => (d.chan e.ch).dsWeight)).sum)
    let d := d.updTenNode (tenKey t x.ten) (fun n => n.charge x.l (d.tenWeight t x.ten))
    let d := d.updTermNode k (fun n => n.charge x.l w)
    d.updChNode x.ch (fun n => n.charge x.l (d.chan x.ch).dsWeight)
  let d := d.setTreeV t (vNext (d.treeV t) (fun n => (d.tenNode (tenKey t n)).s) (distinct (es.map (fun e => e.ten))))
  let d := (distinct (es.map (fun e => e.ten))).foldl (fun d n =>
    d.updTenNode (tenKey t n) (fun y => { y with
      v := vNext y.v (fun h => (d.termNode (termKey t n h)).s) (distinct ((es.filter (fun e => e.ten == n)).map (fun e => e.h))) })) d
  (distinct (es.map (fun e => termKey t e.ten e.h))).foldl (fun d k =>
    d.updTermNode k (fun y => { y with
      v := vNext y.v (fun c => (d.chNode c).s) (distinct ((es.filter (fun e => termKey t e.ten e.h == k)).map (fun e => e.ch))) })) d

/-! Histograms (R275, R276). -/

/-- The bin of a sojourn (R275). -/
def histBin (base x : Nat) : Nat :=
  if x < base then 0 else ((List.range 30).find? (fun i => decide (x < base * 2 ^ (i + 1)))).elim 31 (fun i => i + 1)

/-- A histogram's scope holds a channel (R275). -/
def Dev.histCovers (d : Dev) (cfg c : Nat) : Bool :=
  let r := d.chan c
  let s := fieldOf cfg fDSQ_HIST_CFG_SCOPE
  let i := fieldOf cfg fDSQ_HIST_CFG_INDEX
  let onTree := fieldOf cfg fDSQ_HIST_CFG_TREE == r.tree
  if s = 0 then i == c
  else if s = 1 then onTree && i == r.term
  else if s = 2 then onTree && i == r.tenant
  else onTree

/-- The live bins of a histogram. -/
def Dev.bins (d : Dev) (h : Nat) : List Nat := if (d.histOf h).isEmpty then List.replicate 32 0 else d.histOf h

/-- Count a packet's sojourn in every histogram that holds its channel. -/
def Dev.histCount (d : Dev) (c sojourn : Nat) : Dev :=
  (List.range 64).foldl (fun d h =>
    let cfg := d.rdN (rDSQ_HIST_CFG h)
    if nbit cfg 31 && d.histCovers cfg c then
      let b := histBin (max 1 (d.get (rDSQ_HIST_BASE h) fDSQ_HIST_BASE_BASE_NS)) sojourn
      d.setHistOf h ((d.bins h).set b (wordBump ((d.bins h).getD b 0) 1))
    else d) d

/-- Copy the histograms asked for to their read areas at a boundary, clearing those that ask for it (R276). -/
def Dev.histCopy (d : Dev) : Dev :=
  (List.range 64).foldl (fun d h =>
    if d.bit (rDSQ_HIST_CMD h) fDSQ_HIST_CMD_COPY then
      let bs := d.bins h
      let d := (List.range 32).foldl (fun d i => d.wrN (rDSQ_HIST_BIN h i) (bs.getD i 0)) d
      let d := if d.bit (rDSQ_HIST_CMD h) fDSQ_HIST_CMD_CLEAR then d.setHistOf h [] else d
      let d := (d.put (rDSQ_HIST_CMD h) fDSQ_HIST_CMD_COPY 0).put (rDSQ_HIST_CMD h) fDSQ_HIST_CMD_CLEAR 0
      d.put (rDSQ_HIST_CMD h) fDSQ_HIST_CMD_READY 1
    else d) d

/-! Sending (R267, R270). -/

/-- Emit an XGEM frame of a channel: its port ID, whether it ends the packet, its key slot and its payload bytes. -/
def Dev.xgemOut (d : Dev) (t c : Nat) (last : Bool) (body : List Byte) : Dev :=
  let r := d.chan c
  if r.encrypt then
    let k := d.encryptDs r.term
    k.2.emit .xgem t [r.portId, k.1, b2n last] body
  else d.emit .xgem t [r.portId, 0, b2n last] body

/-- The head packet has left: its buffer is free, and it is counted. -/
def Dev.dsSent (d : Dev) (t c : Nat) (h : Held) (committed : Bool) : Dev :=
  let d := (d.updChQ c (fun q => q.drop 1)).dropHeld c h
  let d := (d.bump (rDSQ_CNT t 0)).when committed (fun d => d.bump (rDSQ_CNT t 6))
  d.evc 0x0600 1 { req := some h.ten, tc := some (d.chan c).dsPrio }

/-- Send the head of a channel at a position, whole or in its first fragment. -/
def Dev.dsSend (d : Dev) (t fs : Nat) (x : DsCand) (committed : Bool) : Dev :=
  let at_ := d.txInstant t d.tickNow fs
  let d := d.histCount x.ch (at_ - instant x.head.tick x.head.ns)
  let body := d.xgemBody t x.head
  match x.fit with
  | .split n =>
    let d := (d.xgemOut t x.ch false (body.take n)).bump (rDSQ_CNT t 5)
    let d := d.updChQ x.ch (fun q => match q with | h :: hs => { h with sent := n } :: hs | [] => [])
    (d.setPartOf t (some x.ch)).when committed (fun d => d.bump (rDSQ_CNT t 6))
  | _ => (d.xgemOut t x.ch true body).dsSent t x.ch x.head committed

/-- Reading a packet from its buffer (13_stacks_pantry.md R398): 0 clean, 1 with a corrected error, 2 with an
uncorrectable one, which discards the packet. -/
def Dev.bufRead (d : Dev) (ecc : Nat) : Dev :=
  if ecc = 1 then d.bump (rSTK_CNT 0)
  else if ecc = 2 then ((d.bump (rSTK_CNT 1)).bump (rPAN_CNT 13)).mark rPAN_ERR fPAN_ERR_BUF_ECC
  else d

/-- Discard the head of a channel's queue, whose buffer could not be read. -/
def Dev.dsLost (d : Dev) (c : Nat) (h : Held) : Dev := (d.updChQ c (fun q => q.drop 1)).dropHeld c h

/-- Send the rest of a fragmented packet (R270). -/
def Dev.dsRest (d : Dev) (t c ecc : Nat) : Dev :=
  let d := d.setPartOf t none
  match d.chQ c with
  | [] => d
  | h :: _ =>
    let d := d.bufRead ecc
    if ecc = 2 then d.dsLost c h else (d.xgemOut t c true ((d.xgemBody t h).drop h.sent)).dsSent t c h false

/-- Count the heads that miss a choice for their gate, once each (R269). -/
def Dev.countHeld (d : Dev) (t fs : Nat) (xs : List DsCand) : Dev :=
  xs.foldl (fun d x =>
    let o : GateOwner := .tree ⟨t % 48, Nat.mod_lt _ (by decide)⟩
    let s := d.txSpan t d.tickNow fs (xgemLen (d.xgemBody t x.head).length)
    if x.fit == .no && !x.head.gateHeld && !(d.gateFits o ((d.chan x.ch).gateClass % 8) s.1 s.2) then
      (d.updChQ x.ch (fun q => match q with | h :: hs => { h with gateHeld := true } :: hs | [] => [])).bump (rDSQ_CNT t 1)
    else d) d

/-- One choice at a payload position (R262-R267). -/
def Dev.dsChoice (d : Dev) (t fs next ecc : Nat) : Dev :=
  let room := fsBytes (d.mode t) - fs
  if !(d.framing t) || room = 0 then d else
  match d.partOf t with
  | some c => d.dsRest t c ecc
  | none =>
    let at_ := d.txInstant t d.tickNow fs
    let d := (d.dsChans t).foldl (fun d c => d.dsClearChan t c at_) d
    let cands := (d.dsChans t).filterMap (fun c => d.dsCand t fs room next c)
    let d := d.countHeld t fs cands
    let es := cands.filter (fun x => d.dsEligible t x)
    let d := d.dsWake t es
    let d := d.showGate (.tree ⟨t % 48, Nat.mod_lt _ (by decide)⟩) at_
    match d.dsChoose t es with
    | some (x, committed) =>
      let d := (d.dsCharge t es x committed).bufRead ecc
      if ecc = 2 then d.dsLost x.ch x.head else d.dsSend t fs x committed
    | none =>
      let stop := match d.nextChange (.tree ⟨t % 48, Nat.mod_lt _ (by decide)⟩) at_ with
        | some c => ((List.range 64).find? (fun i => decide (c ≤ d.txInstant t d.tickNow (fs + i + 1)))).elim 64 (fun i => i + 1)
        | none => 64
      d.emit .xgem t [0xFFFF, 0, min stop room] []

/-! Samples (R273, R274). -/

/-- Latch every channel's sample. -/
def Dev.dsLatch (d : Dev) (now : Nat) : Dev :=
  if d.bit rDSQ_CTRL fDSQ_CTRL_SAMPLE_EN then
    let rows := (d.chanQ.filter (fun e => (d.chan e.1).valid && (d.chan e.1).ds)).map (fun e =>
      (e.1, (e.2.map (fun h => h.pkt.bytes.length)).sum, e.2.length,
        match e.2 with | h :: _ => min 0xFFFFFFFF (now - instant h.tick h.ns) | [] => 0))
    { d with ds := { d.ds with before := d.ds.latch, latch := ⟨d.tickNow, rows⟩ } }
  else d

/-- The four words of a channel's sample as a read returns them now: the new latch from T0 + 30 us on (R274). -/
def Dev.dsSample (d : Dev) (c : Nat) : List Nat :=
  let l := if d.ds.latch.tick = d.tickNow ∧ d.tick.now < 30000 then d.ds.before else d.ds.latch
  match l.rows.find? (fun r => r.1 == c) with
  | some r => [r.2.1, r.2.2.1, r.2.2.2, l.tick % 2 ^ 32]
  | none => [0, 0, 0, l.tick % 2 ^ 32]

/-! Enabling and disabling a tree (R277). -/

/-- What an enable brings: tags and V 0, buckets full, no list active or armed. -/
def Dev.dsEnable (d : Dev) (t : Nat) : Dev :=
  let d := d.setTreeV t 0
  let d := { d with ds := { d.ds with
    ten := skeep (fun k => decide (k / 32 ≠ t)) d.ds.ten
    term := skeep (fun k => decide (k / 16384 / 32 ≠ t)) d.ds.term } }
  let d := dsTenants.foldl (fun d n => d.fillTen t n) d
  let d := (d.dsChans t).foldl (fun d c => (d.setChNode c {}).fillChan c) d
  d.gateEnd (.tree ⟨t % 48, Nat.mod_lt _ (by decide)⟩)

/-- What a disable or an interruption brings: every queued packet of the tree discarded, its lists ended. -/
def Dev.dsDisable (d : Dev) (t : Nat) : Dev :=
  let cs := (d.chanQ.filter (fun e => (d.chan e.1).tree == t)).map Prod.fst
  let d := cs.foldl (fun d c => d.dsFlush c) (d.setPartOf t none)
  d.gateEnd (.tree ⟨t % 48, Nat.mod_lt _ (by decide)⟩)

end Sys2Proof.Machine
end

