-- ==== Sys2Proof/Machine/LadOps.lean ====
section
/-! DEFINITION. The Ladle's demand side: classes, credits, admission, reports and notices
(07_ladle_demand.md R195-R220). -/

namespace Sys2Proof.Machine

/-! Classes and rates. -/

def clsFixed : Nat := 0
def clsCoop : Nat := 1
def clsAssured : Nat := 2
def clsBest : Nat := 3

/-- Bytes a rate is worth per tick. -/
def perTick (r : Nat) : Nat := r / 64

/-- FIXED_SIZE (R196): rounded up. -/
def AllocRec.fixedSize (a : AllocRec) : Nat := (a.fixedRate * a.interval + 63) / 64

/-- The committed credit's gain and cap (R197): 0 but for an assured allocation. -/
def AllocRec.ccGain (a : AllocRec) : Nat := if a.cls = clsAssured then perTick a.assuredRate else 0
/-- The peak credit's gain (R197). -/
def AllocRec.pcGain (a : AllocRec) : Nat := if 2 ≤ a.cls then perTick a.maxRate else 0

/-- The policer's CIR (R218). -/
def AllocRec.policeCir (a : AllocRec) : Nat := if a.cls = clsFixed then a.fixedRate else if a.cls = clsBest then 0 else a.assuredRate
/-- The policer's PIR (R218). -/
def AllocRec.policePir (a : AllocRec) : Nat := if a.cls = clsFixed then a.fixedRate else a.maxRate

/-- A slot's rate in kb/s. -/
def slotRate (mode slot : Nat) : Nat := topRate mode / slotScale mode slot

/-- The cost of an allocation (R201). -/
def AllocRec.cost (a : AllocRec) (mode : Nat) : Nat :=
  (if a.cls = clsFixed then a.fixedRate else if a.cls = clsBest then 0 else a.assuredRate) * slotScale mode a.rateSlot

/-- USED of a tree, one allocation left out (R201). -/
def Dev.ladUsed (d : Dev) (t : Nat) (skip : Option Nat) : Nat :=
  ((d.cat.allocs.filter (fun e => e.2.valid && e.2.tree == t && some e.1 != skip)).map (fun e => e.2.cost (d.mode t))).sum

/-- The limit a LIMIT value resolves to (R201). -/
def Dev.ladResolve (d : Dev) (t limit : Nat) : Nat := if limit = 0 then topRate (d.mode t) * 9 / 10 else limit

/-- The limit in force. -/
def Dev.ladLimit (d : Dev) (t : Nat) : Nat := d.ladResolve t (d.get (rLADLE_ADMIT t) fLADLE_ADMIT_LIMIT)

/-- Show USED. -/
def Dev.ladShowUsed (d : Dev) (t : Nat) : Dev := d.put (rLADLE_ADMIT_USED t) fLADLE_ADMIT_USED_USED (d.ladUsed t none)

/-- An allocation's cost is admitted in place of the old one (R201). -/
def Dev.ladAdmits (d : Dev) (a : AllocRec) (old : Option (Nat × AllocRec)) : Bool :=
  let t := a.tree
  let new := a.cost (d.mode t)
  match old with
  | some (h, o) => decide (new ≤ o.cost (d.mode t)) || decide (d.ladUsed t (some h) + new ≤ d.ladLimit t)
  | none => decide (d.ladUsed t none + new ≤ d.ladLimit t)

/-- Refuse an admission: the error bit and the alert naming the tree and the allocation ID (R201, R227). -/
def Dev.ladRefused (d : Dev) (t id : Nat) : Dev :=
  (d.mark rLADLE_ERR fLADLE_ERR_ADMIT_REFUSED).alert 0x0701 (p4 t ++ p4 id)

/-- BRX_PROF slot k has a class and a rate (04_burst_rx.md R92). -/
def Dev.profHas (d : Dev) (t k cls rate : Nat) : Bool :=
  d.get (rBRX_PROF t k) fBRX_PROF_CLASS == cls && d.get (rBRX_PROF t k) fBRX_PROF_RATE == rate

/-- LINE_OPT permits a slot's rate in J100 (R67): bit 1 NRZ (slot 1), bit 2 PAM4 (slot 0). -/
def lineOptPermits (opt slot : Nat) : Bool := nbit opt (if slot = 0 then 2 else 1)

/-- The slot may be used on the tree by the terminal (R199, check 7 of R244). -/
def Dev.slotFits (d : Dev) (t h slot : Nat) : Bool :=
  let m := d.mode t
  slotOk m slot && (if m = 2 then lineOptPermits (d.term h).lineOpt slot else true)

/-- R199's table and its common conditions. -/
def Dev.allocOk (d : Dev) (a : AllocRec) : Bool :=
  let m := d.mode a.tree
  let pkt := max 64 (d.get (rBRX_CTRL a.tree) fBRX_CTRL_MAX_PKT)
  (if a.cls = clsFixed then
     decide (0 < a.fixedRate) && decide (1 ≤ a.interval) && decide (a.interval ≤ 255) && decide (a.fixedSize ≤ 65535) &&
     decide (a.minGrant ≤ a.fixedSize) && a.assuredRate == 0
   else if a.cls = clsCoop then
     a.fixedRate == 0 && decide (a.assuredRate ≤ a.maxRate) && decide (0 < a.maxRate) && decide (a.minGrant ≤ perTick a.maxRate)
   else if a.cls = clsAssured then
     a.fixedRate == 0 && decide (0 < a.assuredRate) && decide (a.assuredRate ≤ a.maxRate) && decide (1 ≤ a.weight)
   else a.fixedRate == 0 && a.assuredRate == 0 && decide (0 < a.maxRate) && decide (1 ≤ a.weight)) &&
  decide (64 ≤ a.minGrant) && decide (a.minGrant ≤ 16384) && d.slotFits a.tree a.term a.rateSlot &&
  (m == 2 || (List.range 4).any (fun k => d.profHas a.tree k 2 a.rateSlot)) &&
  (!a.police || (decide (pkt ≤ a.cbs) && decide (pkt ≤ a.pbs) && decide (a.cbs ≤ a.pbs))) &&
  decide (a.fixedRate ≤ topRate m) && decide (a.assuredRate ≤ topRate m) && (a.cls == clsFixed || decide (a.maxRate ≤ topRate m))

/-! Working state (R220). -/

/-- An allocation's working state as a tree is enabled or the Ladle takes its creation: no report, full credits and
buckets, tags 0. -/
def ladFresh (a : AllocRec) (tick : Nat) : LadAlloc :=
  { cfg := a, cc := 2 * a.ccGain, pc := 2 * a.pcGain, tc := a.cbs, tp := a.pbs, lastGrant := tick }

/-- The Ladle takes an edited configuration (06_catalogue.md R179): a creation starts afresh; POLICE going 1 fills the
buckets; credits keep within their caps. -/
def Dev.ladTake (d : Dev) (h : Nat) (a : AllocRec) : Dev :=
  let old := (d.ladA h).cfg
  if !a.valid then d.setLadA h {}
  else if !old.valid || old.allocId != a.allocId || old.tree != a.tree then d.setLadA h (ladFresh a d.tickNow)
  else
    d.updLadA h (fun x => { x with
      cfg := a, cc := min x.cc (2 * a.ccGain), pc := min x.pc (2 * a.pcGain),
      tc := if a.police && !old.police then a.cbs else min x.tc a.cbs,
      tp := if a.police && !old.police then a.pbs else min x.tp a.pbs })

/-- Credits and policer buckets gain at each boundary (R197, R218). -/
def Dev.ladRefill (d : Dev) : Dev :=
  { d with lad := smap noLadA (fun _ x => { x with
      cc := min (2 * x.cfg.ccGain) (x.cc + x.cfg.ccGain), pc := min (2 * x.cfg.pcGain) (x.pc + x.cfg.pcGain),
      tc := min x.cfg.cbs (x.tc + perTick x.cfg.policeCir), tp := min x.cfg.pbs (x.tp + perTick x.cfg.policePir) }) d.lad }

/-- A report that waits is used from a boundary on (R203). -/
def Dev.ladReports (d : Dev) : Dev :=
  { d with lad := smap noLadA (fun _ x => match x.repNext with
      | some (b, tick, map) => { x with repBytes := b, repTick := some tick, repMap := map, repNext := none }
      | none => x) d.lad }

/-- REPORT_AGE, PROBE_PERIOD, PLOAM_PERIOD and MON_SHIFT; 0 acts as 1. -/
def Dev.reportAge (d : Dev) : Nat := max 1 (d.get rLADLE_CTRL fLADLE_CTRL_REPORT_AGE)
def Dev.probePeriod (d : Dev) : Nat := max 1 (d.get rLADLE_CTRL fLADLE_CTRL_PROBE_PERIOD)
def Dev.ploamPeriod (d : Dev) : Nat := max 1 (d.get rLADLE_CTRL fLADLE_CTRL_PLOAM_PERIOD)
def Dev.monShift (d : Dev) : Nat := max 1 (d.get rLADLE_CTRL fLADLE_CTRL_MON_SHIFT)

/-- The newest report is in use (R203). -/
def Dev.repFresh (d : Dev) (x : LadAlloc) : Bool :=
  match x.repTick with | some r => decide (d.tickNow - r ≤ d.reportAge) | none => false

/-- D of an assured or best-effort allocation (R203, R204). -/
def Dev.demand (d : Dev) (h : Nat) : Nat :=
  let x := d.ladA h
  if d.repFresh x then
    x.repBytes - ((x.granted.filter (fun g => decide (x.repMap < g.1))).map Prod.snd).sum
  else if x.lastLost || !x.heard then 0
  else if x.nearFull then 2 * x.used else x.used

/-- c and s of R197 with R198, each cut to a multiple of 4 bytes (08_ladle_maps.md R229): no grant exceeds PC or D. -/
def Dev.demandParts (d : Dev) (h : Nat) : Nat × Nat :=
  let x := d.ladA h
  let dm := d.demand h
  let c0 := min dm x.cc / 4 * 4
  if c0 < x.cfg.minGrant then
    let s := min dm x.pc / 4 * 4
    (0, if s < x.cfg.minGrant then 0 else s)
  else (c0, min (dm - c0) (x.pc - c0) / 4 * 4)

/-- What an enable of a tree brings to the Ladle (R208, R220). -/
def Dev.ladEnable (d : Dev) (t : Nat) : Dev :=
  let d := (d.cat.allocs.filter (fun e => e.2.valid && e.2.tree == t)).foldl (fun d e => d.setLadA e.1 (ladFresh e.2 d.tickNow)) d
  let d := d.updLadT t (fun l => { fresh := l.fresh, freed := l.freed, lastMap := l.lastMap })
  let d := d.dropNotices (fun n => n.tree == t)
  (List.range 256).foldl (fun d j =>
    (d.wrN (rLADLE_NSRC_LAST_SEQ j) 0).put (rLADLE_NSRC_W8 j) fLADLE_NSRC_W8_SEEN 0) d

/-- What a disable or an interruption brings: no map is held, handed over or repeated (R81, R216, R249). -/
def Dev.ladDisable (d : Dev) (t : Nat) : Dev :=
  let d := d.closeWhere t (fun _ => true)
  let d := d.updLadT t (fun l => { l with building := none, handed := none, sent := none, coverAct := 0, coverSvc := 0 })
  d.dropNotices (fun n => n.tree == t)

/-! Schedule notices (R209-R217). -/

/-- One entry of a notice PDU. -/
structure NoticeEntry where
  tree : Nat
  alloc : Nat
  bytes : Nat
  sec : Nat
  ns : Nat
  len : Nat
  deriving DecidableEq, Repr

/-- The entry's window start, in ns of grant time. -/
def NoticeEntry.start (e : NoticeEntry) : Nat := e.sec * 1000000000 + e.ns

/-- Checks 4 to 14 of one entry, or R215 for a cancel, in order (R213): its reason code. -/
def Dev.noticeCode (d : Dev) (tenant : Nat) (cancel : Bool) (arrival : Nat) (e : NoticeEntry) : Nat :=
  match (if d.treeOk e.tree && d.treeEn e.tree && (d.tree e.tree).live then d.findAlloc e.tree e.alloc else none) with
  | none => 4
  | some h =>
    let a := d.alloc h
    let w := e.start
    let tick := w / tickNs
    let b := max e.bytes a.minGrant
    let mine := d.notices.filter (fun n => n.alloc == h && n.tree == e.tree)
    if d.quarIdent .alloc e.tree e.alloc then 4
    else if tenant ≠ 0x1F ∧ tenant ≠ a.tenant then 5
    else if a.cls ≠ clsCoop then 6
    else if (d.actOf a.term).state ≠ .operating then 7
    else if w < arrival + 250000 then 8
    else if arrival / tickNs + 8000 ≤ tick then 9
    else if e.len = 0 ∨ 999999999 < e.ns ∨ tickNs < w % tickNs + e.len then 10
    else if cancel then
      (if mine.any (fun n => instant n.tick n.ns == w) then 0 else 15)
    else if e.bytes = 0 ∨ e.len * slotRate (d.mode e.tree) a.rateSlot < b * 8000000 ∨ perTick a.maxRate < b then 11
    else if mine.any (fun n => decide (instant n.tick n.ns < w + e.len) && decide (w < instant n.tick n.ns + n.len)) then 12
    else if perTick a.maxRate < ((mine.filter (fun n => n.tick == tick)).map (fun n => max n.bytes a.minGrant)).sum + b then 13
    else if 32768 ≤ d.notices.length then 14
    else 0

/-- What follows from an entry's code: the count, the error bits, the alerts (R213, R221, R227). -/
def Dev.noticeCount (d : Dev) (code tree : Nat) : Dev :=
  let d := d.bump (rLADLE_CNT code)
  let d := d.when (decide (1 ≤ code) && decide (code ≤ 14)) (fun d => d.mark rLADLE_ERR fLADLE_ERR_NOTICE_REFUSED)
  let d := d.when (code == 14) (fun d => (d.mark rLADLE_ERR fLADLE_ERR_STORE_FULL).alertOnce 0x0703 0 (p4 tree))
  d.when (code == 2 || code == 3 || code == 5) (fun d => d.alertOnce 0x0702 0 (p4 tree))

/-- Take one entry: its code, and the store after. -/
def Dev.noticeTake (d : Dev) (tenant : Nat) (cancel : Bool) (arrival : Nat) (e : NoticeEntry) : Nat × Dev :=
  let code := d.noticeCode tenant cancel arrival e
  let h := (d.findAlloc e.tree e.alloc).getD 0
  let d :=
    if code ≠ 0 then d
    else if cancel then
      { d with notices := d.notices.filter (fun n => !(n.alloc == h && n.tree == e.tree && instant n.tick n.ns == e.start)) }
    else
      { d with notices := d.notices ++ [⟨e.tree, h, e.bytes, e.start / tickNs, e.start % tickNs, e.len, d.noticeSeq⟩],
               noticeSeq := d.noticeSeq + 1 }
  (code, (d.put rLADLE_STATUS fLADLE_STATUS_PENDING d.notices.length).noticeCount code e.tree)

/-- The entry at an index of a notice PDU (R210). -/
def noticeEntryAt (p : List Byte) (i : Nat) : NoticeEntry :=
  let o := 12 + 24 * i
  ⟨byteAt p o, beAt p (o + 2) 2, beAt p (o + 4) 4, beAt p (o + 8) 6, beAt p (o + 14) 4, beAt p (o + 18) 4⟩

/-- Where the payload of an Ethernet frame begins, past up to two VLAN tags, with its EtherType and the outer VLAN ID. -/
def etherPayload (f : List Byte) : Nat × Nat × Option Nat :=
  let tag := fun (o : Nat) => beAt f o 2 == 0x8100 || beAt f o 2 == 0x88A8
  if tag 12 then
    let vid := beAt f 14 2 % 4096
    if tag 16 then (22, beAt f 20 2, some vid) else (18, beAt f 16 2, some vid)
  else (14, beAt f 12 2, none)

/-- Where a notice PDU begins in a frame, its length, and whether it came over UDP (R209). The frame has no FCS. -/
def Dev.noticeAt (d : Dev) (f : List Byte) : Option (Nat × Nat × Bool) :=
  let (o, typ, _) := etherPayload f
  let n := f.length
  let oui := fun (p : Nat) => beAt f p 3 == d.get rLADLE_NOTICE_CTRL fLADLE_NOTICE_CTRL_OUI
  if typ = 0x88B7 then (if oui o then some (o, n - o, false) else none)
  else if d.bit rLADLE_NOTICE_CTRL fLADLE_NOTICE_CTRL_UDP_EN then
    let udp := fun (u : Nat) =>
      if beAt f (u + 2) 2 = 47120 ∧ oui (u + 8) ∧ u + 8 ≤ n then some (u + 8, min (n - (u + 8)) (beAt f (u + 4) 2 - 8), true) else none
    if typ = 0x0800 ∧ byteAt f o = 0x45 ∧ byteAt f (o + 9) = 17 then udp (o + 20)
    else if typ = 0x86DD ∧ byteAt f o / 16 = 6 ∧ byteAt f (o + 6) = 17 then udp (o + 40)
    else none
  else none

/-- The notice source a frame matches (R212): the lowest valid entry. `kind` is 0 for an uplink lane, 1 for fabric. -/
def Dev.noticeSource (d : Dev) (f : List Byte) (kind lane : Nat) : Option Nat :=
  let (_, _, vid) := etherPayload f
  let src := beAt f 6 6
  (List.range 256).find? (fun j =>
    let w1 := d.rdN (rLADLE_NSRC_W4 j)
    let w2 := d.rdN (rLADLE_NSRC_W8 j)
    nbit w2 31 && src == d.rdN (rLADLE_NSRC_MAC_LO j) + 2 ^ 32 * (w1 % 65536) &&
    (!(nbit w1 31) || vid == some (nbits w1 27 16)) &&
    (nbits w2 7 6 == 3 || (nbits w2 7 6 == kind && nbits w2 5 0 == lane)))

/-- The one's-complement sum of a byte string's 16-bit words. -/
def inetSum (b : List Byte) : Nat :=
  let s := ((List.range ((b.length + 1) / 2)).map (fun i => byteAt b (2 * i) * 256 + byteAt b (2 * i + 1))).sum
  let fold := fun (x : Nat) => x % 65536 + x / 65536
  fold (fold (fold s))

/-- The Internet checksum field of a byte string. -/
def inetCheck (b : List Byte) : Nat := 0xFFFF - inetSum b

/-- The response frame to a notice (R217), without its FCS: addresses swapped, tags kept, the PDU's codes. -/
def noticeResponse (f : List Byte) (at_ : Nat) (udp : Bool) (codes : List (Nat × Nat × Nat)) : List Byte :=
  let p := f.drop at_
  let pdu := slice p 0 3 ++ beB 2 2 ++ slice p 5 7 ++ codes.flatMap (fun c => leB 1 c.1 ++ leB 1 c.2.1 ++ beB 2 c.2.2)
  let (o, typ, _) := etherPayload f
  let eth := slice f 6 6 ++ slice f 0 6 ++ slice f 12 (o - 12)
  if !udp then eth ++ pdu
  else
    let len := 8 + pdu.length
    let ports := fun (u : Nat) => slice f (u + 2) 2 ++ slice f u 2 ++ beB 2 len
    if typ = 0x0800 then
      let h := slice f o 2 ++ beB 2 (20 + len) ++ slice f (o + 4) 6 ++ beB 2 0 ++ slice f (o + 16) 4 ++ slice f (o + 12) 4
      let h := patch h 10 (beB 2 (inetCheck h))
      let pseudo := slice f (o + 16) 4 ++ slice f (o + 12) 4 ++ beB 2 17 ++ beB 2 len ++ ports (o + 20) ++ beB 2 0 ++ pdu
      let ck := inetCheck pseudo
      eth ++ h ++ ports (o + 20) ++ beB 2 (if ck = 0 then 0xFFFF else ck) ++ pdu
    else
      let h := slice f o 4 ++ beB 2 len ++ slice f (o + 6) 2 ++ slice f (o + 24) 16 ++ slice f (o + 8) 16
      let pseudo := slice f (o + 24) 16 ++ slice f (o + 8) 16 ++ beB 4 len ++ beB 4 17 ++ ports (o + 40) ++ beB 2 0 ++ pdu
      let ck := inetCheck pseudo
      eth ++ h ++ ports (o + 40) ++ beB 2 (if ck = 0 then 0xFFFF else ck) ++ pdu

/-- Take a notice frame from a lane (R209-R217): none where the frame is no notice, or matches no source, and so goes on
as ordinary traffic; otherwise the response to send, where one is, and the state after. -/
def Dev.noticeFrame (d : Dev) (f : List Byte) (kind lane arrival : Nat) : Option (Option (List Byte) × Dev) :=
  match d.noticeAt f, d.noticeSource f kind lane with
  | some (at_, len, udp), some j =>
    let p := (f.drop at_).take len
    let count := byteAt p 7
    let seq := beAt p 8 4
    let last := d.rdN (rLADLE_NSRC_LAST_SEQ j)
    let fmt := byteAt p 5 != 1 || count == 0 || decide (16 < count) || beAt p 3 2 != 1 || decide (p.length < 12 + 24 * count)
    let es := (List.range (min count 16)).map (noticeEntryAt p)
    let frameCode :=
      if fmt then 1
      else if !(d.bit rLADLE_NOTICE_CTRL fLADLE_NOTICE_CTRL_EN) then 2
      else if d.bit (rLADLE_NSRC_W8 j) fLADLE_NSRC_W8_SEEN &&
          ((seq + 2 ^ 32 - last) % 2 ^ 32 == 0 || decide (2 ^ 31 ≤ (seq + 2 ^ 32 - last) % 2 ^ 32)) then 3
      else 0
    if frameCode ≠ 0 then
      let d := (if es.isEmpty then [noticeEntryAt p 0] else es).foldl (fun d e => d.noticeCount frameCode e.tree) d
      if frameCode = 3 ∧ nbit (byteAt p 6) 0 then
        some (some (noticeResponse f at_ udp (es.map (fun e => (3, e.tree, e.alloc)))), d.bump (rLADLE_CNT 23))
      else some (none, d)
    else
      let d := (d.wrN (rLADLE_NSRC_LAST_SEQ j) seq).put (rLADLE_NSRC_W8 j) fLADLE_NSRC_W8_SEEN 1
      let tenant := d.get (rLADLE_NSRC_W8 j) fLADLE_NSRC_W8_TENANT
      let r := es.foldl (fun (r : List (Nat × Nat × Nat) × Dev) e =>
        let x := r.2.noticeTake tenant (nbit (byteAt p 6) 1) arrival e
        (r.1 ++ [(x.1, e.tree, e.alloc)], x.2)) ([], d)
      if nbit (byteAt p 6) 0 then some (some (noticeResponse f at_ udp r.1), r.2.bump (rLADLE_CNT 23))
      else some (none, r.2)
  | _, _ => none

/-! Policing (R218, R219). -/

/-- Meter a packet: 0 green, 1 yellow, 2 red, and the state after. An allocation without POLICE passes green and is not
counted. -/
def Dev.police (d : Dev) (h bytes : Nat) : Nat × Dev :=
  let x := d.ladA h
  if !x.cfg.police then (0, d)
  else if x.tp < bytes then (2, d.bump (rLADLE_CNT 21))
  else if x.tc < bytes then (1, (d.updLadA h (fun x => { x with tp := x.tp - bytes })).bump (rLADLE_CNT 20))
  else (0, (d.updLadA h (fun x => { x with tp := x.tp - bytes, tc := x.tc - bytes })).bump (rLADLE_CNT 19))

end Sys2Proof.Machine
end

