-- ==== Sys2Proof/Machine/MapOps.lean ====
section
/-! DEFINITION. The Ladle's map: sizing, placement, checks, commit, repeat, and the in-flight entries
(08_ladle_maps.md R228-R253, 01_tick.md R27-R30). -/

namespace Sys2Proof.Machine

/-! Burst overheads and sizes (R229, R232, R233). -/

/-- Round up to a multiple of 4. -/
def up4 (n : Nat) : Nat := (n + 3) / 4 * 4

/-- The guard of a burst (R88, R232). -/
def guardBt (mode : Nat) (act : Bool) : Nat := if mode = 0 then 64 else if act then 320 else 256

/-- The time before a burst's start time (R232): profile 0 S, 1 M, 2 L, 3 A. -/
def headBt (mode profile : Nat) : Nat :=
  if mode = 0 then (if profile = 0 then 324 else if profile = 1 then 580 else if profile = 2 then 2116 else 2128)
  else (if profile = 0 then 1536 else if profile = 1 then 2784 else if profile = 2 then 10272 else 10640)

/-- The scale of a grant's line bytes (R233). -/
def Grant.scale (mode : Nat) (g : Grant) : Nat :=
  if g.actLane then (if mode = 0 then 4 else 20) else slotScale mode g.slot

/-- The bytes one section puts into the FS burst. -/
def Grant.bytes (g : Grant) : Nat := (if g.ploamu then 48 else 0) + (if g.report then 4 else 0) + g.payload

/-- The FS bytes of a burst (R233). -/
def fsLen (gs : List Grant) : Nat := 12 + (gs.map Grant.bytes).sum

/-- Info and parity bytes of a codeword (R233). -/
def codeword (mode : Nat) : Nat × Nat := if mode = 0 then (216, 32) else (1824, 336)

/-- FEC of a grant's burst (R91, R93, R94). -/
def Dev.fecOn (d : Dev) (t : Nat) (g : Grant) : Bool :=
  if g.actLane then false else if d.mode t = 2 then true else d.bit (rBRX_PROF t g.named) fBRX_PROF_FEC

/-- The line bytes of FS bytes. -/
def lineBytes (mode : Nat) (fec : Bool) (fs : Nat) : Nat :=
  let c := codeword mode
  if fec then fs + (fs + c.1 - 1) / c.1 * c.2 else fs

/-- The most FS bytes some line bytes carry. -/
def fsOfLine (mode : Nat) (fec : Bool) (line : Nat) : Nat :=
  let c := codeword mode
  if fec then line / (c.1 + c.2) * c.1 + (line % (c.1 + c.2) - c.2) else line

/-- The span of a burst in byte-times (R229, R233), without margins. -/
def Dev.spanOf (d : Dev) (t : Nat) (gs : List Grant) : Nat :=
  match gs with
  | [] => 0
  | g :: _ => headBt (d.mode t) g.profile + lineBytes (d.mode t) (d.fecOn t g) (fsLen gs) * g.scale (d.mode t)

/-- The time a burst asks for: its span and its margins. -/
def Dev.roomOf (d : Dev) (t : Nat) (gs : List Grant) : Nat :=
  d.spanOf t gs + 2 * maxOf (gs.map (fun g => g.margin))

/-- The largest payload of a grant that fits a room in byte-times, the other grants of its burst given: a multiple of 4. -/
def Dev.payloadFit (d : Dev) (t : Nat) (others : List Grant) (g : Grant) (room : Nat) : Nat :=
  let m := d.mode t
  let line := (room - headBt m g.profile - 2 * g.margin) / g.scale m
  (fsOfLine m (d.fecOn t g) line - fsLen (others ++ [{ g with payload := 0 }])) / 4 * 4

/-! Free time (R238). -/

/-- Intervals in rising order. -/
def sortIv (l : List (Nat × Nat)) : List (Nat × Nat) := sortBy (fun a b => decide (a.1 ≤ b.1)) l

/-- The earliest position of a run of `len` among sorted busy intervals, from a position on, up to an end. -/
def firstFit (len hi : Nat) : List (Nat × Nat) → Nat → Option Nat
  | [], pos => if pos + len ≤ hi then some pos else none
  | b :: bs, pos => if pos + len ≤ b.1 then some pos else firstFit len hi bs (max pos (up4 b.2))

/-- The longest free run among sorted busy intervals. -/
def longestRun (hi : Nat) : List (Nat × Nat) → Nat → Nat
  | [], pos => hi - pos
  | b :: bs, pos => max (b.1 - pos) (longestRun hi bs (max pos (up4 b.2)))

/-- The length of the union of sorted intervals, from a position on. -/
def unionLen : List (Nat × Nat) → Nat → Nat
  | [], _ => 0
  | b :: bs, pos => (b.2 - max pos b.1) + unionLen bs (max pos b.2)

/-- The reserved intervals of a lane. -/
def resvOf (rs : List Resv) (act : Bool) : List (Nat × Nat) :=
  (rs.filter (fun r => r.actLane == act)).map (fun r => (r.lo, r.hi))

/-- The time placed grants take of a lane, margins included; a serial-number grant forms no span (R231). -/
def spansOf (gs : List Grant) (act : Bool) : List (Nat × Nat) :=
  (gs.filter (fun g => g.actLane == act && g.kind != .sn)).map (fun g => (g.lo - g.margin, g.hi + g.margin))

/-! The draft of a map. -/

/-- A burst to be placed, with its earliest step (R236, R238). -/
structure WBurst where
  step : Nat
  grants : List Grant
  deriving DecidableEq, Repr

/-- What a build holds. -/
structure Draft where
  resv : List Resv := []
  /-- grants placed during sizing: cooperative, and those in windows -/
  placed : List Grant := []
  bursts : List WBurst := []
  unplaced : List (Nat × Bool) := []
  /-- allocations without a profile: their IDs (R92) -/
  noProf : List Nat := []
  /-- notices not placed -/
  missed : List Notice := []
  snAct : Bool := false
  snSvc : Bool := false
  deferred : Bool := false
  lastServed : Nat := 0
  sharedLeft : List Nat := []
  awakeSet : List Nat := []
  woken : List (Nat × Nat) := []
  deriving DecidableEq, Repr

/-- The structures drafted. -/
def Draft.count (x : Draft) : Nat := x.placed.length + (x.bursts.map (fun b => b.grants.length)).sum

/-- Most structures of a map. -/
def mapMax : Nat := 512

/-- Service-lane time left by what is drafted. -/
def Dev.roomLeft (d : Dev) (t : Nat) (x : Draft) : Nat :=
  tickBt (d.mode t) - unionLen (sortIv (resvOf x.resv false ++ spansOf x.placed false)) 0 -
    (x.bursts.map (fun b => d.roomOf t b.grants)).sum

/-- The allocation has a grant in the draft. -/
def Draft.has (x : Draft) (a : Nat) : Bool :=
  x.placed.any (fun g => g.kind != .sn && g.alloc == a) || x.bursts.any (fun b => b.grants.any (fun g => g.alloc == a))

/-- Kinds that chain (R234). -/
def chains : GKind → Bool
  | .fixed | .data | .probe | .keepalive => true
  | _ => false

/-- A grant joins a burst (R234). -/
def Dev.chainsWith (d : Dev) (g : Grant) (b : WBurst) : Bool :=
  match b.grants with
  | [] => false
  | f :: _ =>
    d.bit rLADLE_MAP_CTRL fLADLE_MAP_CTRL_CHAIN_EN && chains f.kind && chains g.kind && f.margin == 0 && g.margin == 0 &&
    f.term == g.term && f.slot == g.slot && f.profile == g.profile && f.named == g.named

/-- Put a grant into a draft's bursts: onto the burst it chains with, else as one of its own. -/
def Dev.joinBurst (d : Dev) (g : Grant) (step : Nat) : List WBurst → List WBurst
  | [] => [⟨step, [g]⟩]
  | b :: bs => if d.chainsWith g b then { b with grants := b.grants ++ [g] } :: bs else b :: d.joinBurst g step bs

/-- The grants of the burst a grant would join. -/
def Dev.mates (d : Dev) (g : Grant) (bs : List WBurst) : List Grant :=
  ((bs.find? (fun b => d.chainsWith g b)).map WBurst.grants).getD []

/-- Add a grant at its full size, or not at all (R236); cut to at least `minP` where `cut` is set. -/
def Dev.addGrant (d : Dev) (t step : Nat) (cut : Bool) (minP : Nat) (g : Grant) (x : Draft) : Option Grant × Draft :=
  if mapMax ≤ x.count then (none, x) else
  let ms := d.mates g x.bursts
  let room := d.roomLeft t x + (if ms.isEmpty then 0 else d.roomOf t ms)
  let put := fun (g : Grant) => (some g, { x with bursts := d.joinBurst g step x.bursts })
  if d.roomOf t (ms ++ [g]) ≤ room then put g
  else if cut then
    let p := min g.payload (d.payloadFit t ms g room)
    if minP ≤ p && decide (d.roomOf t (ms ++ [{ g with payload := p }]) ≤ room) then put { g with payload := p } else (none, x)
  else (none, x)

/-- Replace the grant of an allocation in a list. -/
def swapGrant (a : Nat) (f : Grant → Grant) (gs : List Grant) : List Grant := gs.map (fun g => if g.alloc = a then f g else g)

/-- Enlarge an allocation's grant by a payload (R236): in full, or cut to at least `minP`; the bytes added. -/
def Dev.growGrant (d : Dev) (t a extra minP : Nat) (cut : Bool) (x : Draft) : Nat × Draft :=
  match x.bursts.find? (fun b => b.grants.any (fun g => g.alloc == a)) with
  | none => (0, x)
  | some b =>
    match b.grants.find? (fun g => g.alloc == a) with
    | none => (0, x)
    | some g =>
      let others := b.grants.filter (fun g => g.alloc != a)
      let room := d.roomLeft t x + d.roomOf t b.grants
      let p := g.payload + extra
      let q := if d.roomOf t (others ++ [{ g with payload := p }]) ≤ room then p else if cut then min p (d.payloadFit t others g room) else 0
      if g.payload + minP ≤ q ∨ (q = p ∧ g.payload ≤ q) then
        (q - g.payload, { x with bursts := x.bursts.map (fun b =>
          if b.grants.any (fun g => g.alloc == a) then { b with grants := swapGrant a (fun g => { g with payload := q }) b.grants } else b) })
      else (0, x)

/-- Change what a drafted grant records. -/
def Draft.mark (x : Draft) (a : Nat) (f : Grant → Grant) : Draft :=
  { x with bursts := x.bursts.map (fun b => { b with grants := swapGrant a f b.grants }) }

/-! Profiles (04_burst_rx.md R92, R99). -/

/-- The profile and the BRX_PROF slot of a grant: none where R92 finds none. -/
def Dev.profileFor (d : Dev) (t h rate : Nat) (needL : Bool) : Option (Nat × Nat) :=
  let p := (d.term h).profile
  let c := if needL || d.needsL h rate || decide (2 ≤ p) then 2 else p
  if d.mode t = 2 then some (c, 0)
  else
    match (List.range 4).find? (fun k => d.profHas t k c rate) with
    | some k => some (c, k)
    | none => ((List.range 4).find? (fun k => d.profHas t k 2 rate)).map (fun k => (2, k))

/-- A service grant of an allocation, not yet placed; the profile is the caller's. -/
def Dev.newGrant (d : Dev) (k : GKind) (a payload margin : Nat) (prof : Nat × Nat) : Grant :=
  let r := (d.ladA a).cfg
  { kind := k, alloc := a, term := r.term, profile := prof.1, slot := r.rateSlot, actLane := false, named := prof.2, start := 0,
    section_ := 0, payload := payload, committed := 0, shared := 0, report := decide (2 ≤ r.cls) && k != .ranging,
    ploamu := (d.term r.term).defAlloc == a, cont := false, lo := 0, hi := 0, margin := margin, winLo := 0, winHi := 0 }

/-- MARGIN of a tree in byte-times: values below 64 act as 64 (05_activation.md R141). -/
def Dev.marginBt (d : Dev) (t : Nat) : Nat := nsToBtUp (d.mode t) (max 64 (d.get (rACT_RANGE t) fACT_RANGE_MARGIN))
/-- LOST_MARGIN in byte-times (R143). -/
def Dev.lostMarginBt (d : Dev) (t : Nat) : Nat := nsToBtUp (d.mode t) (d.get (rACT_LOB t) fACT_LOB_LOST_MARGIN)

/-- The margin of a terminal's ordinary grants (R142). -/
def Dev.dataMargin (d : Dev) (t h tick : Nat) : Nat := if tick < (d.actOf h).marginUntil then d.marginBt t else 0

/-- Give a profile to a grant, or note that there is none. -/
def Dev.withProfile (d : Dev) (t a : Nat) (needL : Bool) (x : Draft) (f : Nat × Nat → Draft → Draft) : Draft :=
  let r := (d.ladA a).cfg
  match d.profileFor t r.term r.rateSlot needL with
  | some p => f p x
  | none => if x.noProf.contains r.allocId then x else { x with noProf := x.noProf ++ [r.allocId] }

/-! The allocations of a tree as the Ladle has taken them. -/

/-- Their handles, in handle order, faulted records left out (06_catalogue.md R181). -/
def Dev.ladOf (d : Dev) (t : Nat) : List Nat :=
  (d.lad.filter (fun e => e.2.cfg.valid && e.2.cfg.tree == t && !(d.alloc e.1).fault && !(d.term e.2.cfg.term).fault)).map Prod.fst

/-- A terminal's state. -/
def Dev.stateOf (d : Dev) (h : Nat) : TState := (d.actOf h).state

/-- The default allocation's handle, where the Ladle holds it. -/
def Dev.defOf (d : Dev) (h : Nat) : Option Nat :=
  let a := (d.term h).defAlloc
  if (d.ladA a).cfg.valid && (d.ladA a).cfg.term == h && !(d.alloc a).fault && !(d.term h).fault then some a else none

/-! Step 1: windows still open, and new serial-number windows (R231, R236; 05_activation.md R137, R140). -/

/-- What a lane's open window covers of a tick, in byte-times. -/
def coverIn (mode endBt from_ tick : Nat) : Nat := if tick < from_ then 0 else min (tickBt mode) (endBt - (tick - from_) * tickBt mode)

/-- The windows that cover a tick. -/
def Dev.covers (d : Dev) (t tick : Nat) : Nat × Nat :=
  let l := d.ladT t
  (coverIn (d.mode t) l.coverAct l.coverActTick tick, coverIn (d.mode t) l.coverSvc l.coverSvcTick tick)

/-- Quiet windows may open (R140). -/
def Dev.quietOk (d : Dev) (t : Nat) : Bool := !(d.actFitted t) || d.bit (rACT_CTRL t) fACT_CTRL_LEGACY_QW

/-- A stretch of grant time meets an accepted cooperative window of the tree. -/
def Dev.meetsNotice (d : Dev) (t lo hi : Nat) : Bool :=
  d.notices.any (fun n => n.tree == t && decide (instant n.tick n.ns < hi) && decide (lo < instant n.tick n.ns + n.len))

/-- SN_PERIOD in force (R140). -/
def Dev.snPeriod (d : Dev) (t : Nat) : Nat :=
  if (d.termsOf t).any (fun h => d.stateOf h == .operating) then max 16 (d.get (rACT_PERIOD t) fACT_PERIOD_SN_PERIOD) else 16

/-- A serial-number grant. -/
def snGrant (act : Bool) (named : Nat) : Grant :=
  { kind := .sn, alloc := 0, term := 0, profile := if act then 3 else 2, slot := 0, actLane := act, named := named, start := 0,
    section_ := 0, payload := 0, committed := 0, shared := 0, report := false, ploamu := true, cont := false, lo := 0, hi := 0,
    margin := 0, winLo := 0, winHi := 0 }

/-- Reserve what open windows cover, then place the serial-number grants due. -/
def Dev.draftWindows (d : Dev) (t tick : Nat) (x : Draft) : Draft :=
  let m := d.mode t
  let c := d.covers t tick
  let w := nsToBtUp m (wSn (d.diffKm t))
  let keep := fun (act : Bool) (n : Nat) (x : Draft) => if n = 0 then x else { x with resv := x.resv ++ [⟨act, 0, n⟩] }
  let x := keep true c.1 (keep false c.2 x)
  let may := d.reachOk t && d.bit (rACT_CTRL t) fACT_CTRL_SN_EN && decide (3 ≤ (d.tree t).frames)
  let act := d.actT t
  let wantA := may && d.actFitted t && (act.askAct || tick % max 1 (d.get (rACT_PERIOD t) fACT_PERIOD_ACT_SN_PERIOD) == 0)
  let x := if wantA && c.1 == 0 then
      { x with snAct := true, placed := x.placed ++ [snGrant true 0], resv := x.resv ++ [⟨true, 0, min w (tickBt m)⟩] } else x
  let wantS := may && d.quietOk t && (act.qwDue || act.askSvc || tick % d.snPeriod t == 0)
  if wantS && c.2 == 0 then
    if d.meetsNotice t (instant tick 0) (instant tick 0 + wSn (d.diffKm t)) then
      { x with deferred := true }
    else
      match (if m = 2 then some 0 else (List.range 4).find? (fun k => d.profHas t k 2 0)) with
      | none => { x with noProf := x.noProf ++ [1023] }
      | some k => { x with snSvc := true, placed := x.placed ++ [snGrant false k], resv := x.resv ++ [⟨false, 0, min w (tickBt m)⟩] }
  else x

/-! Step 2: cooperative notices (R237). -/

/-- The earliest start time of a cooperative burst: the span lies in free time and the FS burst in its window. -/
def coopFit (head line winHi : Nat) : List (Nat × Nat) → Nat → Option Nat
  | [], st => if st + line ≤ winHi then some st else none
  | b :: bs, st =>
    if b.2 ≤ st - head ∨ st + line ≤ b.1 then coopFit head line winHi bs st else coopFit head line winHi bs (up4 b.2 + head)

/-- Place one notice, or miss it. -/
def Dev.draftCoop (d : Dev) (t : Nat) (x : Draft) (n : Notice) : Draft :=
  let m := d.mode t
  let r := (d.ladA n.alloc).cfg
  let miss := fun (x : Draft) => { x with missed := x.missed ++ [n] }
  if !(r.valid) || d.stateOf r.term != .operating || decide (mapMax ≤ x.count) then miss x else
  match d.profileFor t r.term r.rateSlot false with
  | none => miss { x with noProf := x.noProf ++ [r.allocId] }
  | some p =>
    let g := d.newGrant .coop n.alloc (up4 (max n.bytes r.minGrant)) (d.dataMargin t r.term n.tick) p
    let head := headBt m g.profile + g.margin
    let line := lineBytes m (d.fecOn t g) (fsLen [g]) * g.scale m
    let lo := nsToBtUp m n.ns
    let hi := min (nsToBt m (n.ns + n.len)) (tickBt m)
    let busy := sortIv (resvOf x.resv false ++ spansOf x.placed false)
    match coopFit head (line + g.margin) (hi + g.margin) busy (max lo head) with
    | none => miss x
    | some st =>
      { x with placed := x.placed ++ [{ g with start := st, lo := st - headBt m g.profile, hi := st + line, winLo := lo, winHi := hi }] }

/-! Step 3: activation grants and keep-alives (05_activation.md R138-R143, R650; 07_ladle_demand.md R200). -/

/-- Place one burst at once on a lane, with a window reserved around its span. -/
def Dev.placeWindow (d : Dev) (t : Nat) (act : Bool) (before after : Nat) (avoid : List (Nat × Nat)) (g : Grant) (x : Draft) : Option Draft :=
  if mapMax ≤ x.count then none else
  let m := d.mode t
  let span := d.spanOf t [g]
  let len := max (up4 (before + span + after)) (up4 span)
  (firstFit len (tickBt m) (sortIv (avoid ++ resvOf x.resv act ++ spansOf x.placed act)) 0).map (fun lo =>
    let glo := lo + up4 before
    { x with placed := x.placed ++ [{ g with lo := glo, hi := glo + span, start := glo + headBt m g.profile }],
             resv := x.resv ++ [⟨act, lo, lo + len⟩] })

/-- The ranging grant of a terminal (R650): in profile A within its search window, or in a ranging window. -/
def Dev.draftRanging (d : Dev) (t tick h a : Nat) (x : Draft) : Draft :=
  let m := d.mode t
  if !(d.reachOk t) || (d.actOf h).rangeOpen then x
  else if (d.actOf h).actLane then
    let g := { d.newGrant .ranging a 0 0 (3, 0) with actLane := true, slot := 0 }
    (d.placeWindow t true (nsToBtUp m 24000) (nsToBtUp m 24000) [] g x).getD x
  else
    d.withProfile t a true x (fun p x =>
      let g := d.newGrant .ranging a 0 0 p
      let coop := (d.notices.filter (fun n => n.tree == t && n.tick == tick)).map (fun n => (nsToBt m n.ns, nsToBtUp m (n.ns + n.len)))
      (d.placeWindow t false 0 (nsToBtUp m wR - d.spanOf t [g]) coop g x).getD x)

/-- The terminal tested next by a KIND 1 pair's active side (17_protection.md R509). -/
def Dev.testDue (d : Dev) (t tick : Nat) : Option Nat :=
  let p := d.get rPROT_CTRL fPROT_CTRL_TEST_PERIOD
  if d.pairEn t && d.pairKind t == 1 && d.role t == roActive && p != 0 && tick % p == 0 then
    let ops := (d.termsOf t).filter (fun h => d.stateOf h == .operating)
    (ops.find? (fun h => decide ((d.pair t).testTerm < (d.term h).termId))).orElse (fun _ => ops.head?)
  else none

/-- The activation grants, test burst and keep-alive of one terminal. -/
def Dev.draftTerm (d : Dev) (t tick : Nat) (test : Option Nat) (x : Draft) (h : Nat) : Draft :=
  match d.defOf h with
  | none => x
  | some a =>
    let r := (d.ladA a).cfg
    let wide := fun (k : GKind) (payload margin : Nat) (x : Draft) =>
      d.withProfile t a true x (fun p x => (d.addGrant t 3 false 0 (d.newGrant k a payload margin p) x).2)
    match d.stateOf h with
    | .ranging => d.draftRanging t tick h a x
    | .fine => wide .fine (up4 r.minGrant) (d.marginBt t) x
    | .lost => wide .lost 0 (d.lostMarginBt t) x
    | .operating =>
      if test = some h then wide .test 0 (d.lostMarginBt t) x
      else if decide ((d.ladA a).lastGrant + d.ploamPeriod < tick) || (d.actOf h).rt.isSome then
        d.withProfile t a false x (fun p x =>
          if x.has a then x else (d.addGrant t 3 false 0 (d.newGrant .keepalive a (up4 r.minGrant) (d.dataMargin t h tick) p) x).2)
      else x
    | _ => x

/-! Steps 4 to 7 (R236, R239). -/

/-- The allocation may receive ordinary grants in this draft. -/
def Dev.ordinary (d : Dev) (x : Draft) (a : Nat) : Bool :=
  d.stateOf (d.ladA a).cfg.term == .operating &&
  !(x.bursts.any (fun b => b.grants.any (fun g => g.alloc == a && !(chains g.kind))))

/-- Give an allocation a payload: a new grant, or its present one enlarged; the bytes given. -/
def Dev.givePart (d : Dev) (t tick step a want minP : Nat) (cut : Bool) (k : GKind) (x : Draft) : Nat × Draft :=
  if x.bursts.any (fun b => b.grants.any (fun g => g.alloc == a)) then d.growGrant t a want minP cut x
  else
    let r := (d.ladA a).cfg
    match d.profileFor t r.term r.rateSlot false with
    | none => (0, if x.noProf.contains r.allocId then x else { x with noProf := x.noProf ++ [r.allocId] })
    | some p =>
      match d.addGrant t step cut minP (d.newGrant k a want (d.dataMargin t r.term tick) p) x with
      | (some g, x) => (g.payload, x)
      | (none, x) => (0, x)

/-- A fixed allocation is due in the map of a tick (R196). -/
def fixedDue (a : AllocRec) (h tick : Nat) : Bool := tick % max 1 a.interval == h % max 1 a.interval

/-- One fixed grant: carried, or due. -/
def Dev.draftFixed (d : Dev) (t tick : Nat) (carried : Bool) (x : Draft) (a : Nat) : Draft :=
  let r := (d.ladA a).cfg
  if r.cls = clsFixed ∧ d.ordinary x a ∧ (if carried then (d.ladA a).carried else fixedDue r a tick) then
    let n := up4 r.fixedSize
    let y := d.givePart t tick 4 a n n false .fixed x
    if y.1 = 0 then { y.2 with unplaced := y.2.unplaced ++ [(a, carried)] }
    else y.2.mark a (fun g => { g with kind := .fixed })
  else x

/-- The committed part of an assured allocation. -/
def Dev.draftCommitted (d : Dev) (t tick : Nat) (x : Draft) (a : Nat) : Draft :=
  let r := (d.ladA a).cfg
  let c := (d.demandParts a).1
  if r.cls = clsAssured ∧ 0 < c ∧ d.ordinary x a then
    let had := (((x.bursts.flatMap WBurst.grants).find? (fun g => g.alloc == a)).map (fun g => g.payload)).getD 0
    let y := if up4 c ≤ had then (c, x) else d.givePart t tick 5 a (up4 c - had) (r.minGrant - had) true .data x
    let got := if up4 c ≤ had then c else if y.1 = 0 then 0 else min c (had + y.1)
    if got = 0 then y.2
    else { y.2.mark a (fun g => { g with committed := got }) with lastServed := a }
  else x

/-- A probe (07_ladle_demand.md R205). -/
def Dev.draftProbe (d : Dev) (t tick : Nat) (x : Draft) (a : Nat) : Draft :=
  let r := (d.ladA a).cfg
  if 2 ≤ r.cls ∧ d.demand a = 0 ∧ tick % d.probePeriod = a % d.probePeriod ∧ d.ordinary x a ∧ !(x.has a) then
    (d.givePart t tick 6 a (up4 r.minGrant) (up4 r.minGrant) false .probe x).2
  else x

/-- The shared part of an allocation, as far as time remains. -/
def Dev.draftShared (d : Dev) (t tick : Nat) (x : Draft) (a : Nat) : Draft :=
  let r := (d.ladA a).cfg
  let s := (d.demandParts a).2
  let g0 := (x.bursts.flatMap WBurst.grants).find? (fun g => g.alloc == a)
  let c := (g0.map (fun g => g.committed)).getD 0
  let had := (g0.map (fun g => g.payload)).getD 0
  let want := up4 (c + s)
  let y := if want ≤ had then (s, x) else d.givePart t tick 7 a (want - had) (if c = 0 then r.minGrant - had else r.minGrant) true .data x
  let got := if want ≤ had then s else if y.1 = 0 then had - c else min s (had + y.1 - c)
  let z := if got = 0 then y.2 else y.2.mark a (fun g => { g with shared := got })
  if got < s then { z with sharedLeft := z.sharedLeft ++ [a] } else z

/-- The order of the shared parts (R206), with the tags of waking allocations (R207): handles and the tags woken. -/
def Dev.sharedOrder (d : Dev) (t : Nat) (x : Draft) (as : List Nat) : List Nat × List (Nat × Nat) :=
  let v := (d.ladT t).v
  let live := as.filter (fun a => decide (2 ≤ (d.ladA a).cfg.cls) && d.ordinary x a && decide (0 < (d.demandParts a).2))
  let woken := (live.filter (fun a => !(d.ladA a).awake)).map (fun a => (a, vLater v (d.ladA a).f))
  let tag := fun (a : Nat) => match woken.find? (fun w => w.1 == a) with | some w => w.2 | none => (d.ladA a).s
  (sortBy (fun a b => vPrecedes (tag a) (tag b) || (tag a == tag b && decide (a ≤ b))) live, woken)

/-- The sizing pass (R236). -/
def Dev.draftMap (d : Dev) (t tick : Nat) : Draft :=
  let as := d.ladOf t
  let last := (d.ladT t).lastServed
  let x := d.draftWindows t tick { lastServed := last }
  let coops := sortBy (fun (a b : Notice) => decide (a.ns + a.len < b.ns + b.len) || (a.ns + a.len == b.ns + b.len && decide (a.order ≤ b.order)))
    (d.notices.filter (fun n => n.tree == t && n.tick == tick))
  let x := coops.foldl (fun x n => d.draftCoop t x n) x
  let test := d.testDue t tick
  let x := (d.termsOf t).foldl (fun x h => d.draftTerm t tick test x h) x
  let x := as.foldl (fun x a => d.draftFixed t tick true x a) x
  let x := as.foldl (fun x a => d.draftFixed t tick false x a) x
  let x := (as.filter (fun a => decide (last < a)) ++ as.filter (fun a => decide (a ≤ last))).foldl (fun x a => d.draftCommitted t tick x a) x
  let x := as.foldl (fun x a => d.draftProbe t tick x a) x
  let o := d.sharedOrder t x as
  o.1.foldl (fun x a => d.draftShared t tick x a) { x with awakeSet := o.1, woken := o.2 }

/-! The placement pass (R238). -/

/-- The busy time of the service lane. -/
def svcBusy (x : Draft) : List (Nat × Nat) := sortIv (resvOf x.resv false ++ spansOf x.placed false)

/-- A burst at a position: its grants with start time and span. -/
def Dev.putAt (d : Dev) (t lo : Nat) (gs : List Grant) : List Grant :=
  match gs with
  | [] => []
  | f :: _ =>
    let glo := lo + f.margin
    let hi := glo + d.spanOf t gs
    let st := glo + headBt (d.mode t) f.profile
    gs.zipIdx.map (fun e => { e.1 with lo := glo, hi := hi, start := st, cont := e.2 != 0 })

/-- Note a grant that found no time (R239). -/
def Dev.noTime (d : Dev) (tick : Nat) (x : Draft) (g : Grant) : Draft :=
  if g.kind = .fixed then
    let l := d.ladA g.alloc
    { x with unplaced := x.unplaced ++ (if l.carried then [(g.alloc, true)] else []) ++ (if fixedDue l.cfg g.alloc tick then [(g.alloc, false)] else []) }
  else if 0 < g.shared ∧ !(x.sharedLeft.contains g.alloc) then { x with sharedLeft := x.sharedLeft ++ [g.alloc] } else x

/-- A grant cut to a payload: the shared part first (R238). -/
def Grant.cutTo (g : Grant) (p : Nat) : Grant :=
  { g with payload := p, committed := min g.committed p, shared := min g.shared (p - min g.committed p) }

/-- Place one grant alone, cut where it is a shared or committed grant. -/
def Dev.placeAlone (d : Dev) (t tick : Nat) (x : Draft) (g : Grant) : Draft :=
  let m := d.mode t
  match firstFit (d.roomOf t [g]) (tickBt m) (svcBusy x) 0 with
  | some lo => { x with placed := x.placed ++ d.putAt t lo [g] }
  | none =>
    let p := d.payloadFit t [] g (longestRun (tickBt m) (svcBusy x) 0)
    if (0 < g.committed ∨ 0 < g.shared) ∧ g.kind ≠ .fixed ∧ (d.ladA g.alloc).cfg.minGrant ≤ p ∧ p < g.payload then
      let g' := g.cutTo p
      match firstFit (d.roomOf t [g']) (tickBt m) (svcBusy x) 0 with
      | some lo =>
        let x := if g'.shared < g.shared ∧ !(x.sharedLeft.contains g.alloc) then { x with sharedLeft := x.sharedLeft ++ [g.alloc] } else x
        { x with placed := x.placed ++ d.putAt t lo [g'] }
      | none => d.noTime tick x g
    else d.noTime tick x g

/-- Place one burst, or its grants one by one. -/
def Dev.placeBurst (d : Dev) (t tick : Nat) (x : Draft) (b : WBurst) : Draft :=
  match firstFit (d.roomOf t b.grants) (tickBt (d.mode t)) (svcBusy x) 0 with
  | some lo => { x with placed := x.placed ++ d.putAt t lo b.grants }
  | none => b.grants.foldl (fun x g => d.placeAlone t tick x g) x

/-- Place the drafted bursts in the order of their earliest step, lower terminal handles first. -/
def Dev.placeMap (d : Dev) (t tick : Nat) (x : Draft) : Draft :=
  let key := fun (b : WBurst) => (b.step, ((b.grants.head?).map (fun g => g.term)).getD 0)
  let bs := sortBy (fun a b => decide ((key a).1 < (key b).1) || ((key a).1 == (key b).1 && decide ((key a).2 ≤ (key b).2))) x.bursts
  bs.foldl (fun x b => d.placeBurst t tick x b) { x with bursts := [] }

/-- The map a draft gives, its structures in the order of R242 with their section lengths (R233). -/
def Draft.toMap (x : Draft) (tick : Nat) (notices : List Notice) : MapRec :=
  let fin := fun (g : Grant) => { g with section_ := g.payload + (if g.report then 4 else 0) }
  let by_ := fun (act : Bool) => sortBy (fun (a b : Grant) => decide (a.start ≤ b.start)) (x.placed.filter (fun g => g.actLane == act))
  { tick := tick, grants := (by_ false ++ by_ true).map fin, resv := x.resv, notices := notices, unplaced := x.unplaced,
    sharedLeft := x.sharedLeft, awakeSet := x.awakeSet, woken := x.woken, lastServed := x.lastServed, snAct := x.snAct,
    snSvc := x.snSvc, held := none, check := 0, repeat_ := false }

/-! Beginning a build (R235, R239, R241). -/

/-- Count notices not placed (R239, R245, R255). -/
def Dev.noticesMissed (d : Dev) (t : Nat) (ns : List Notice) : Dev :=
  match ns with
  | [] => d
  | n :: _ =>
    let d := (d.bumpBy (rLADLE_CNT 26) ns.length).mark rLADLE_MAP_ERR fLADLE_MAP_ERR_NOTICE_UNPLACED
    d.alertOnce 0x0704 t (p4 t ++ p4 (d.alloc n.alloc).allocId)

/-- Show QW_STATE at a tick (05_activation.md R150): 2 while a quiet window covers it, 1 while one is deferred. -/
def Dev.showQw (d : Dev) (t tick : Nat) : Dev :=
  d.put (rACT_STATUS t) fACT_STATUS_QW_STATE
    (if 0 < coverIn (d.mode t) (d.ladT t).coverSvc (d.ladT t).coverSvcTick tick then 2 else if 0 < (d.actT t).defer then 1 else 0)

/-- What the windows due in a build leave to later maps (05_activation.md R140). -/
def Dev.windowAsks (d : Dev) (t tick : Nat) (x : Draft) : Dev :=
  let may := d.reachOk t && d.bit (rACT_CTRL t) fACT_CTRL_SN_EN && decide (3 ≤ (d.tree t).frames)
  let dueA := may && d.actFitted t && tick % max 1 (d.get (rACT_PERIOD t) fACT_PERIOD_ACT_SN_PERIOD) == 0
  let dueS := may && d.quietOk t && tick % d.snPeriod t == 0
  let d := d.updActT t (fun a => { a with
    askAct := a.askAct || dueA, askSvc := a.askSvc || dueS || a.qwDue, qwDue := x.deferred,
    defer := if x.deferred then min 64 (a.defer + 1) else a.defer })
  d.showQw t d.tickNow

/-- Begin the map of the next tick for a tree. -/
def Dev.beginMap (d : Dev) (t : Nat) : Dev :=
  let tick := d.tickNow + 1
  let x := d.placeMap t tick (d.draftMap t tick)
  let ns := d.notices.filter (fun n => n.tree == t && n.tick == tick)
  let d := d.windowAsks t tick x
  let d := { d with notices := d.notices.filter (fun n => !(n.tree == t && decide (n.tick ≤ tick))) }
  let d := d.put rLADLE_STATUS fLADLE_STATUS_PENDING d.notices.length
  let d := d.noticesMissed t x.missed
  let d := match x.noProf with
    | [] => d
    | i :: _ => (d.mark rLADLE_MAP_ERR fLADLE_MAP_ERR_NO_PROFILE).alertOnce 0x0707 t (p4 t ++ p4 i)
  d.updLadT t (fun l => { l with building := some (x.toMap tick (ns.filter (fun n => !(x.missed.contains n)))) })

/-! Checks (R244). -/

/-- Two spans of one timeline meet; sections of one chain share theirs. -/
def overlap (g h : Grant) : Bool :=
  g.actLane == h.actLane && g.kind != .sn && h.kind != .sn && decide (g.lo < h.hi) && decide (h.lo < g.hi) &&
  !(g.lo == h.lo && g.hi == h.hi && g.term == h.term && (g.cont || h.cont))

/-- Some pair of a list meets. -/
def anyOverlap : List Grant → Bool
  | [] => false
  | g :: gs => gs.any (overlap g) || anyOverlap gs

/-- A grant lies in a reserved interval that is its own: a window opened for it. -/
def ownWindow (g : Grant) (r : Resv) : Bool := g.kind == .ranging && decide (r.lo ≤ g.lo) && decide (g.hi ≤ r.hi)

/-- A grant's terminal was in a state that permits it. -/
def Dev.statePermits (d : Dev) (g : Grant) : Bool :=
  match gkState g.kind with | some s => d.stateOf g.term == s | none => true

/-- The code of the first check that fails, 0 where all pass. -/
def Dev.mapCheck (d : Dev) (t : Nat) (m : MapRec) (workBad : Bool) : Nat :=
  let mode := d.mode t
  let gs := m.grants
  let free := iftPerTree - (d.ladT t).fresh + (d.ladT t).freed.length
  if mapMax < gs.length then 1
  else if gs.any (fun g => g.kind != .sn && (decide (g.lo < g.margin) || decide (tickBt mode < g.hi + g.margin))) then 2
  else if anyOverlap gs then 3
  else if gs.any (fun g => g.kind != .sn && m.resv.any (fun r => r.actLane == g.actLane && decide (g.lo < r.hi) && decide (r.lo < g.hi) && !(ownWindow g r))) then 4
  else if gs.any (fun g => g.kind != .sn && !g.actLane && (g.profile == 3 || (decide (g.profile < 2) && d.needsL g.term g.slot))) then 5
  else if gs.any (fun g => !(d.statePermits g)) then 6
  else if gs.any (fun g => g.kind != .sn && !g.actLane && !(d.slotFits t g.term g.slot)) then 7
  else if gs.any (fun g => g.kind == .coop && (decide (g.start < g.winLo) || decide (g.winHi < g.hi))) then 8
  else if free < gs.length then 9
  else if gs.any (fun g => g.start % 4 != 0 || g.section_ % 4 != 0 || decide (2 ^ 20 ≤ g.start) || decide (2 ^ 20 ≤ g.section_)) then 10
  else if workBad then 11
  else 0

/-! In-flight entries (R248, R250). -/

/-- Take the next position of a tree's partition, if there is one. -/
def Dev.iftTake (d : Dev) (t : Nat) : Option Nat × Dev :=
  let l := d.ladT t
  if l.fresh < iftPerTree then (some l.fresh, d.updLadT t (fun l => { l with fresh := l.fresh + 1 }))
  else match l.freed with
    | e :: es => (some e, d.updLadT t (fun l => { l with freed := es }))
    | [] => (none, d)

/-- Write the entry of a grant. -/
def Dev.iftWrite (d : Dev) (t tick : Nat) (rep : Bool) (g : Grant) : Dev :=
  match d.iftTake t with
  | (none, d) => d
  | (some e, d) =>
    let d := d.setIftE (t * iftPerTree + e)
      { used := true, repeat_ := rep, kind := g.kind, actLane := g.actLane, profile := g.profile, slot := g.slot, state := 0,
        alloc := g.alloc, tick := tick, start := g.start, section_ := g.section_, term := g.term, lo := g.lo, hi := g.hi,
        cont := g.cont, report := g.report, ploamu := g.ploamu, payload := g.payload }
    let d := d.put rLADLE_INFLIGHT fLADLE_INFLIGHT_COUNT (d.get rLADLE_INFLIGHT fLADLE_INFLIGHT_COUNT + 1)
    d.put (rLADLE_MAP_STATC t) fLADLE_MAP_STATC_INFLIGHT (d.get (rLADLE_MAP_STATC t) fLADLE_MAP_STATC_INFLIGHT + 1)

/-- The payload granted is added to A (R203); entries too old to matter are dropped. -/
def Dev.addA (d : Dev) (tick : Nat) (g : Grant) : Dev :=
  if g.kind = .sn then d
  else d.updLadA g.alloc (fun x => { x with granted := (tick, g.payload) :: x.granted.filter (fun e => decide (tick < e.1 + 1024)) })

/-! Fixed grants that were not sent (R239, R245). -/

/-- A fixed grant not made: carried on, or dropped. -/
def Dev.fixedMissed (d : Dev) (t : Nat) (e : Nat × Bool) : Dev :=
  if !e.2 && d.bit rLADLE_MAP_CTRL fLADLE_MAP_CTRL_FIXED_CARRY then
    (d.bump (rLADLE_CNT 27)).updLadA e.1 (fun x => { x with carried := true })
  else ((d.bump (rLADLE_CNT 28)).mark rLADLE_MAP_ERR fLADLE_MAP_ERR_FIXED_DROPPED).alertOnce 0x0705 t (p4 t)

/-- The fixed grants of a map, placed or not: whether each was carried. -/
def Dev.fixedOf (d : Dev) (m : MapRec) : List (Nat × Bool) :=
  m.unplaced ++ (m.grants.filter (fun g => g.kind == .fixed)).flatMap (fun g =>
    let l := d.ladA g.alloc
    (if l.carried && !(m.unplaced.contains (g.alloc, true)) then [(g.alloc, true)] else []) ++
    (if fixedDue l.cfg g.alloc m.tick && !(m.unplaced.contains (g.alloc, false)) then [(g.alloc, false)] else []))

/-- Carried grants of a map are settled: none of its allocations is carried any longer, but as its misses lay down. -/
def Dev.settleFixed (d : Dev) (t : Nat) (all missed : List (Nat × Bool)) : Dev :=
  let d := all.foldl (fun d e => d.updLadA e.1 (fun x => { x with carried := false })) d
  missed.foldl (fun d e => d.fixedMissed t e) d

/-! Handover (R245). -/

/-- A map is discarded: its cooperative notices and fixed grants as R245 lays down, and no window opened. What stays in its
place until the framer takes a map is the code of its failed check alone. -/
def Dev.discardMap (d : Dev) (t : Nat) (m : MapRec) : Dev :=
  let d := d.noticesMissed t m.notices
  let f := d.fixedOf m
  (d.settleFixed t f f).updLadT t (fun l => { l with building := some { m with grants := [], notices := [], held := some 0 } })

/-- The working state a grant commits: credits, tags, A and the tick of its last grant. -/
def Dev.commitGrant (d : Dev) (t : Nat) (m : MapRec) (g : Grant) : Dev :=
  let d := d.addA m.tick g
  let d := if g.kind = .sn then d else d.updLadA g.alloc (fun x =>
    let x := { x with lastGrant := m.tick }
    if 0 < g.committed + g.shared then { x with cc := x.cc - g.payload, pc := x.pc - g.payload } else x)
  let d := if 0 < g.shared then
      d.updLadA g.alloc (fun x => let f := vCharge x.s g.shared x.cfg.weight; { x with f := f, s := f }) else d
  let d := d.when (g.kind == .probe) (fun d => d.bump (rLADLE_CNT 18))
  let d := d.when (g.kind == .ranging) (fun d =>
    (d.updActOf g.term (fun a => { a with rangeOpen := true })).when (!g.actLane) (fun d => d.bump (rACT_CNT t 10)))
  let d := d.when (g.kind == .test) (fun d => d.updPair t (fun p => { p with
    testTick := m.tick, testTerm := (d.term g.term).termId, testName := some (m.tick, g.start, (d.term g.term).termId, g.slot) }))
  d.iftWrite t m.tick false g

/-- V after a map (R206): the smallest S among the allocations left with a shared part, where it exceeds V. -/
def Dev.setMapV (d : Dev) (t : Nat) (left : List Nat) : Dev :=
  d.updLadT t (fun l => { l with v := vNext l.v (fun a => (d.ladA a).s) left })

/-- A held map is handed over and committed. -/
def Dev.commitMap (d : Dev) (t : Nat) (m : MapRec) : Dev :=
  let d := m.woken.foldl (fun d w => d.updLadA w.1 (fun x => { x with s := w.2 })) d
  let d := d.settleFixed t (d.fixedOf m) m.unplaced
  let d := m.grants.foldl (fun d g => d.commitGrant t m g) d
  let d := (d.ladOf t).foldl (fun d a => d.updLadA a (fun x => { x with awake := m.awakeSet.contains a })) d
  let d := d.setMapV t m.sharedLeft
  let w := nsToBtUp (d.mode t) (wSn (d.diffKm t))
  let d := d.when m.snAct (fun d => (d.updLadT t (fun l => { l with coverAct := w, coverActTick := m.tick })).updActT t (fun a => { a with askAct := false }))
  let d := d.when m.snSvc (fun d =>
    ((d.updLadT t (fun l => { l with coverSvc := w, coverSvcTick := m.tick })).bump (rACT_CNT t 10)).updActT t (fun a =>
      { a with askSvc := false, qwDue := false, defer := 0, skipAlerted := false }))
  d.updLadT t (fun l => { l with building := none, handed := some m, lastServed := m.lastServed })

/-- The Ladle's deadline for one tree (R18, R245): a held map that passed is committed; another is discarded. -/
def Dev.mapDeadline (d : Dev) (t : Nat) : Dev :=
  match (d.ladT t).building with
  | none => d
  | some m =>
    if m.held.isSome && m.check == 0 then d.commitMap t m
    else (d.discardMap t m).updLadT t (fun l => { l with handed := none })

/-- The repeat map of the next tick (01_tick.md R28, R29), from the map sent at this tick's boundary. -/
def Dev.repeatMap (d : Dev) (t cause : Nat) : MapRec :=
  let l := d.ladT t
  let keep := fun (m : MapRec) (g : Grant) =>
    g.kind != .sn && !(l.changed.any (fun c => c.1 == g.alloc && decide (m.tick ≤ c.2 + 1)))
  { tick := d.tickNow + 1,
    grants := match l.sent with | some m => m.grants.filter (keep m) | none => [],
    resv := [], notices := [], unplaced := [], sharedLeft := [], awakeSet := [], woken := [], lastServed := l.lastServed,
    snAct := false, snSvc := false, held := none, check := cause, repeat_ := true }

/-- The framer takes the finished map of a tree, or builds a repeat map whose grants enter the in-flight table
(01_tick.md R27, R30; R246). -/
def Dev.takeMap (d : Dev) (t : Nat) : Dev :=
  match (d.ladT t).handed with
  | some _ => d
  | none =>
    let m := d.repeatMap t (match (d.ladT t).building with | some b => b.check | none => 0)
    let d := m.grants.foldl (fun d g => (d.addA m.tick g).iftWrite t m.tick true g) d
    d.updLadT t (fun l => { l with building := none, handed := some m, changed := l.changed.filter (fun c => decide (d.tickNow ≤ c.2 + 4)) })

/-! Sending (R252, R253; 01_tick.md R30). -/

/-- Byte-times of spans in a map: each burst once. -/
def mapUsed (m : MapRec) : Nat := ((m.grants.filter (fun g => !g.cont && g.kind != .sn)).map (fun g => g.hi - g.lo)).sum

/-- A map's structures as the frame carries them: lane, allocation, start, section, profile, rate, flags. The coding is
that of the recommendation (R229). -/
def Dev.mapImage (d : Dev) (m : MapRec) : List Byte :=
  m.grants.flatMap (fun g =>
    let id := if g.kind = .sn then (if g.actLane then 1021 else 1023) else (d.ladA g.alloc).cfg.allocId
    leB 2 id ++ leB 1 (g.profile + 4 * g.slot + 16 * b2n g.actLane + 32 * b2n g.report + 64 * b2n g.ploamu + 128 * b2n g.cont) ++
    leB 1 g.named ++ leB 4 g.start ++ leB 4 g.section_)

/-- The map of the frame of this tick leaves: status, counters, and what a repeat map counts and alerts. -/
def Dev.sendMap (d : Dev) (t : Nat) (m : MapRec) : Dev :=
  let d := (d.bumpBy (rLADLE_CNT 24) m.grants.length).put (rLADLE_MAP_STAT0 t) fLADLE_MAP_STAT0_GRANTS m.grants.length
  let d := d.put (rLADLE_MAP_STAT4 t) fLADLE_MAP_STAT4_USED (mapUsed m)
  let d := d.updLadT t (fun l => { l with sent := some m, handed := none, lastMap := m.tick })
  if m.repeat_ then
    let n := d.get (rTICK_OVR t) fTICK_OVR_COUNT + 1
    let d := d.put (rTICK_OVR t) fTICK_OVR_COUNT n
    let d := d.when (decide (2 ^ 24 ≤ n)) (fun d => d.mark (rTICK_OVR t) fTICK_OVR_OVF)
    let d := d.put (rTICK_OVR t) fTICK_OVR_LAST_CAUSE (b2n (m.check != 0))
    let run := d.ovrRun t + 1
    let d := d.setOvrRun t run
    let d := d.when (run == 1) (fun d => d.alert 0x0101 (p4 t))
    d.when (run == d.get rTICK_CTRL fTICK_CTRL_OVR_RUN_ALERT) (fun d => d.alert 0x0102 (p4 t))
  else d.setOvrRun t 0

end Sys2Proof.Machine
end

