-- ==== Sys2Proof/Machine/TreeOps.lean ====
section
/-! DEFINITION. Tree lines and module cages: enabling, interruption and restart, TXDIS, identification, LINE_OPTIONS
(03_tree_line.md R55-R86; 22_electrical.md R640). -/

namespace Sys2Proof.Machine

/-! Cages (R71, R72; 22_electrical.md R640, R645). -/

/-- The place of a cage in the map of cages. -/
def cageKey : CageId → Nat
  | .tree t => t.val
  | .pin k => 48 + k.val

/-- The cage exists in this part. -/
def Dev.cageOk (d : Dev) : CageId → Bool
  | .tree t => d.treeOk t.val
  | .pin _ => true

/-- The control register of a cage. -/
def cageCtrl : CageId → Nat
  | .tree t => rTREE_MOD_CTRL t.val
  | .pin k => rPIN_CAGE_CTRL k.val

/-- Its status register. -/
def cageStat : CageId → Nat
  | .tree t => rTREE_MOD_STATUS t.val
  | .pin k => rPIN_CAGE_STATUS k.val

/-- Its pin faults. -/
def cageFault : CageId → Nat
  | .tree t => rTREE_PIN_FAULT t.val
  | .pin k => rPIN_CAGE_FAULT k.val

/-- One of its accept entries. -/
def cageAccept (c : CageId) (i : Nat) : Nat :=
  match c with
  | .tree t => rTREE_MOD_ACCEPT t.val i
  | .pin k => rPIN_CAGE_ACCEPT k.val i

/-- The register and field of its state. -/
def cageStateAt : CageId → Nat × Fld
  | .tree t => (rTREE_LINE_STATUS t.val, fTREE_LINE_STATUS_MOD_STATE)
  | .pin k => (rPIN_CAGE_STATUS k.val, ⟨7, 5⟩)

/-! The states of R72. -/
def cgEmpty : Nat := 0
def cgIdent : Nat := 1
def cgReady : Nat := 2
def cgRefused : Nat := 3
def cgFault : Nat := 4

/-- A cage's state. -/
def Dev.cageState (d : Dev) (c : CageId) : Nat := d.get (cageStateAt c).1 (cageStateAt c).2
/-- Set a cage's state. -/
def Dev.setCageState (d : Dev) (c : CageId) (st : Nat) : Dev := d.put (cageStateAt c).1 (cageStateAt c).2 st

/-- Raise an alert of a cage (22_electrical.md R640, R647): its number, and for a pin fault the fault word. -/
def Dev.cageAlert (d : Dev) (c : CageId) (code : Nat) : Dev :=
  let more := if code = 3 then p4 (d.rdN (cageFault c)) else []
  match c with
  | .tree t => d.alert (0x300 + code) (p4 t.val ++ more)
  | .pin k => d.alert (0x1500 + code) (p4 k.val ++ more)

/-- Set an error bit of a tree's cage; the PIN block has none of them. -/
def Dev.cageErr (d : Dev) (c : CageId) (f : Fld) : Dev :=
  match c with
  | .tree t => d.mark (rTREE_ERR t.val) f
  | .pin _ => d

/-- Every laser is held off: the thermal trip holds (22_electrical.md R637), or the device stands in the Clock Void
(20_clocks_boot.md R589, R590). -/
def Dev.tripped (d : Dev) : Bool :=
  d.bit rPIN_STATUS fPIN_STATUS_THERM_TRIP || d.clk.sup == .void || d.clk.sup == .failed

/-- What the cage itself asks of TXDIS (R73): READY and present, neither held nor tripped. -/
def Dev.cageLit (d : Dev) (c : CageId) : Bool :=
  d.cageState c == cgReady && !(d.cage (cageKey c)).away && !(d.bit (cageCtrl c) fTREE_MOD_CTRL_FORCE_TXDIS) && !d.tripped

/-- The lane of an uplink belongs to an enabled port (15_uplinks.md R439). -/
def Dev.uplLaneOn (d : Dev) (u : Nat) : Bool :=
  d.bit (rUPL_PORT_CTRL (d.get (rUPL_PORT_STATUS u) fUPL_PORT_STATUS_FIRST_LANE)) fUPL_PORT_CTRL_EN

/-- Some lane of a pin cage belongs to an enabled port or bundle: cages 0-5 hold eight uplink lanes each, cages 6-11 eight
fabric lanes each. -/
def Dev.pinCageOn (d : Dev) (k : Nat) : Bool :=
  (List.range 8).any (fun i => if k < 6 then d.uplLaneOn (8 * k + i) else (d.bundleOf (8 * (k - 6) + i)).isSome)

/-- Drive TXDIS of a pin cage (22_electrical.md R640). -/
def Dev.pinUpdate (d : Dev) (k : Nat) : Dev :=
  let c : CageId := .pin ⟨k % 12, Nat.mod_lt _ (by decide)⟩
  let on := d.cageLit c && d.pinCageOn (k % 12)
  if (d.cage (cageKey c)).laser == on then d
  else (d.updCage (cageKey c) (fun x => { x with laser := on })).emit .txdis (cageKey c) [b2n (!on)]

/-- Drive TXDIS of every pin cage. -/
def Dev.pinUpdateAll (d : Dev) : Dev := (List.range 12).foldl Dev.pinUpdate d

/-! RSSI trigger (R77). -/

/-- End the trigger: its status, and the TREE_RSSI command that waits for it (R86). -/
def Dev.rssiEnd (d : Dev) (t : Nat) (seen timeout clipped : Bool) (data : List Byte) : Dev :=
  let st := rTREE_RSSI_STATUS t
  let d := d.put (rTREE_RSSI_CTRL t) fTREE_RSSI_CTRL_ARM 0
  let d := d.wrN st (2 ^ 31 + b2n seen * 2 ^ 30 + b2n timeout * 2 ^ 29 + b2n clipped * 2 ^ 28 + d.tickNow % 2 ^ 28)
  (d.waiting 0x0103).foldl (fun d c =>
    if c.note.getD 0 48 = t then (if timeout then c.fail d resTimeout else c.ok d (leB 4 (d.rdN st) ++ padTo 2 data)) else d) d

/-- Write TREE_RSSI_CTRL: ignored while ARM reads 1; ARM clears the status and arms. -/
def Dev.writeRssi (d : Dev) (t v : Nat) : Dev :=
  if d.bit (rTREE_RSSI_CTRL t) fTREE_RSSI_CTRL_ARM then d else
  let d := d.access (rTREE_RSSI_CTRL t) v
  if nbit v 31 then
    (d.wrN (rTREE_RSSI_STATUS t) 0).updTree t (fun x => { x with armTick := d.tickNow, armOff := fieldOf v fTREE_RSSI_CTRL_TERM })
  else d

/-! Interruption, enabling and restart (R73, R80-R82). -/

/-- Everything a disable or an interruption brings to a tree (R81, R82; 05_activation.md R134; 17_protection.md R512: a
standby's terminals follow images alone). -/
def Dev.treeDown (d : Dev) (t : Nat) : Dev :=
  let d := d.updTree t (fun x => { x with live := false, firstAt := none, ploam := [], frames := 0 })
  let d := d.ladDisable t
  let d := if d.standby t then d else
    (d.termsOf t).foldl (fun d h => if granted (d.stateOf h) then d.toAbsent h else d) d
  let d := d.dsDisable t
  let d := d.updRxT t (fun r => { r with cur := none, actCur := none, queue := [], actQueue := [] })
  let d := d.put (rBRX_STATUS t) fBRX_STATUS_DESC_DEPTH 0
  let d := d.updActT t (fun a => { a with
    defer := 0, qwDue := false, askAct := false, askSvc := false, stray := [], strayAlerted := false, search := none, bcast := 0 })
  let d := d.when (d.get (rACT_STATUS t) fACT_STATUS_SEARCH == 1) (fun d => d.put (rACT_STATUS t) fACT_STATUS_SEARCH 0)
  let d := d.put (rACT_STATUS t) fACT_STATUS_QW_STATE 0
  if d.bit (rTREE_RSSI_CTRL t) fTREE_RSSI_CTRL_ARM then d.rssiEnd t false true false [] else d

/-- The tree may send (R73), the role aside. -/
def Dev.treeCan (d : Dev) (t : Nat) : Bool :=
  let c : CageId := .tree ⟨t % 48, Nat.mod_lt _ (by decide)⟩
  d.treeEn t && d.cageLit c && !(d.bit (cageCtrl c) fTREE_MOD_CTRL_MOD_RESET) && d.bit (rTREE_LINE_STATUS t) fTREE_LINE_STATUS_PLL_LOCK

/-- What an enable or a restart brings to the blocks behind a tree (R82). -/
def Dev.treeStart (d : Dev) (t : Nat) : Dev :=
  ((d.dsEnable t).ladEnable t).updActT t (fun a => { a with stray := [], strayAlerted := false })

/-- TREE_CONFIG answers once TXDIS is released (R84). -/
def Dev.treeConfigDone (d : Dev) (t : Nat) : Dev :=
  (d.waiting 0x0101).foldl (fun d c =>
    if c.note.getD 0 48 = t then c.ok d (leB 4 (d.rdN (rTREE_LINE_STATUS t)) ++ leB 8 ((d.tree t).firstAt.getD 0)) else d) d

/-- Nothing is sent any more: an interruption cuts the frame in progress off, a disable lets it end, and its PLL stops with it
(R80-R82). -/
def Dev.lineQuiet (d : Dev) (t : Nat) : Dev :=
  let d := (d.put (rTREE_LINE_STATUS t) fTREE_LINE_STATUS_FRAMING 0).put (rTREE_LINE_STATUS t) fTREE_LINE_STATUS_COUNTDOWN 0
  let d := d.put (rTREE_LINE_STATUS t) fTREE_LINE_STATUS_DS_PRECODE_ACTIVE 0
  if d.treeEn t then d else d.put (rTREE_LINE_STATUS t) fTREE_LINE_STATUS_PLL_LOCK 0

/-- The value DS_PRECODE that the next frames carry, without a countdown (R66); where nothing is sent none is shown. -/
def Dev.precodeNow (d : Dev) (t : Nat) : Dev :=
  let d := d.put (rTREE_LINE_STATUS t) fTREE_LINE_STATUS_COUNTDOWN 0
  d.put (rTREE_LINE_STATUS t) fTREE_LINE_STATUS_DS_PRECODE_ACTIVE
    (if d.mode t = 2 ∧ (d.tree t).live then d.get (rTREE_LINE_CTRL t) fTREE_LINE_CTRL_DS_PRECODE else 0)

/-- The last frame of a disable is still in progress (R81). -/
def Dev.frameEnding (d : Dev) (t : Nat) : Bool := d.bit (rTREE_LINE_STATUS t) fTREE_LINE_STATUS_FRAMING && !(d.tree t).live

/-- Follow the causes of R73: an interruption begins or ends, and TXDIS follows.  A tree enabled again while its last frame
is in progress waits for the end of that frame. -/
def Dev.treeUpdate (d : Dev) (t : Nat) : Dev :=
  let can := d.treeCan t
  if can && d.frameEnding t then d else
  let live := (d.tree t).live
  let d := if can && !live then
      ((d.treeStart t).updTree t (fun x => { x with live := true, firstAt := some (d.tickNow + 9) })).precodeNow t
    else if !can && live then d.treeDown t else d
  let d := if can then d else d.lineQuiet t
  let on := can && (!(d.standby t) || (d.pair t).taking)
  let was := d.bit (rTREE_LINE_STATUS t) fTREE_LINE_STATUS_LASER_ON
  let d := if was == on then d
    else (d.put (rTREE_LINE_STATUS t) fTREE_LINE_STATUS_LASER_ON (b2n on)).emit .txdis t [b2n (!on)]
  if can && !live then d.treeConfigDone t else d

/-- Follow the causes of TXDIS of one cage. -/
def Dev.cageUpdate (d : Dev) : CageId → Dev
  | .tree t => d.treeUpdate t.val
  | .pin k => d.pinUpdate k.val

/-- EN goes from 0 to 1 (R80; 05_activation.md R131): at the frame's end where the last frame of a disable is in progress. -/
def Dev.treeEnable (d : Dev) (t : Nat) : Dev :=
  if d.frameEnding t then d else
  let d := d.put (rTREE_LINE_STATUS t) fTREE_LINE_STATUS_PLL_LOCK 0
  let d := d.updTree t (fun x => { x with pllSeen := false, frames := 0 })
  let d := d.when (!(d.reachOk t)) (fun d => (d.mark (rACT_ERR t) fACT_ERR_REACH_CFG).alert 0x0509 (p4 t))
  (d.treeStart t).treeUpdate t

/-- EN goes from 1 to 0 (R81): TXDIS is asserted at the end of the frame in progress, by the next boundary. -/
def Dev.treeDisable (d : Dev) (t : Nat) : Dev := (d.treeDown t).updTree t (fun x => { x with pllSeen := false })

/-- The boundary ends the frame in progress: a disable takes effect on the line, and an enable that waited for it acts. -/
def Dev.treeFrameEnd (d : Dev) (t : Nat) : Dev :=
  if d.frameEnding t && d.treeEn t then (d.put (rTREE_LINE_STATUS t) fTREE_LINE_STATUS_FRAMING 0).treeEnable t
  else d.treeUpdate t

/-- A countdown runs, or is due in the next frame. -/
def Dev.precodePending (d : Dev) (t : Nat) : Bool :=
  d.framing t && d.mode t == 2 &&
  d.get (rTREE_LINE_CTRL t) fTREE_LINE_CTRL_DS_PRECODE != d.get (rTREE_LINE_STATUS t) fTREE_LINE_STATUS_DS_PRECODE_ACTIVE

/-- Why a write of TREE_LINE_CTRL is ignored as a whole: its error bit (R56, R66, R79; 17_protection.md R492). -/
def Dev.lineCtrlRefused (d : Dev) (t v : Nat) : Option Fld :=
  let differs := fun (f : Fld) => fieldOf v f != d.get (rTREE_LINE_CTRL t) f
  if fieldOf v fTREE_LINE_CTRL_MODE = 3 then some fTREE_ERR_MODE_BAD
  else if d.treeEn t && (differs fTREE_LINE_CTRL_MODE || differs fTREE_LINE_CTRL_ACT_FITTED) then some fTREE_ERR_MODE_BUSY
  else if d.pairEn t && d.pairKind t == 0 && differs fTREE_LINE_CTRL_MODE then some fTREE_ERR_MODE_BUSY
  else if d.precodePending t && differs fTREE_LINE_CTRL_DS_PRECODE then some fTREE_ERR_MODE_BUSY
  else none

/-- Write TREE_LINE_CTRL. -/
def Dev.writeLineCtrl (d : Dev) (t v : Nat) : Dev :=
  if !(d.treeOk t) then d else
  match d.lineCtrlRefused t v with
  | some f => d.mark (rTREE_ERR t) f
  | none =>
    let was := d.treeEn t
    let d := d.access (rTREE_LINE_CTRL t) v
    let d := d.when (d.treeEn t && !(d.framing t) && !(d.frameEnding t)) (fun d => d.precodeNow t)
    if d.treeEn t && !was then d.treeEnable t else if !(d.treeEn t) && was then d.treeDisable t else d

/-! Cage events (R72-R74). -/

/-- The level of RST_L follows the state and MOD_RESET. -/
def Dev.rstLevel (d : Dev) (c : CageId) : Nat := b2n (d.cageState c != cgEmpty && !(d.bit (cageCtrl c) fTREE_MOD_CTRL_MOD_RESET))

/-- Enter IDENT. -/
def Dev.cageIdent (d : Dev) (c : CageId) : Dev :=
  let d := d.setCageState c cgIdent
  d.emit .rstL (cageKey c) [d.rstLevel c]

/-- Write a cage's control register: REIDENT, MOD_RESET and FORCE_TXDIS act (R72, R73). -/
def Dev.writeModCtrl (d : Dev) (c : CageId) (v : Nat) : Dev :=
  if !(d.cageOk c) then d else
  let rst := d.rstLevel c
  let d := d.access (cageCtrl c) v
  let d := d.put (cageCtrl c) fTREE_MOD_CTRL_REIDENT 0
  let d := d.when (d.rstLevel c != rst) (fun d => d.emit .rstL (cageKey c) [d.rstLevel c])
  let d := d.when (nbit v 3 && (d.cageState c == cgRefused || d.cageState c == cgFault)) (fun d => d.cageIdent c)
  d.cageUpdate c

/-- The accept entries match what was read (R72). -/
def Dev.cageAccepts (d : Dev) (c : CageId) (id app : Nat) : Bool :=
  (List.range 4).any (fun i =>
    let w := d.rdN (cageAccept c i)
    fieldOf w fTREE_MOD_ACCEPT_VALID == 1 && fieldOf w fTREE_MOD_ACCEPT_ID == id && fieldOf w fTREE_MOD_ACCEPT_APP == app)

/-- Inputs found open: their bits are set (R74). -/
def Dev.cageOpen (d : Dev) (c : CageId) (opens : Nat) : Dev :=
  let m := opens % (match c with | .tree _ => 2 ^ 10 | .pin _ => 2 ^ 7)
  if m = 0 then d else (d.wrN (cageFault c) (Nat.lor (d.rdN (cageFault c)) m)).cageErr c fTREE_ERR_PIN_FAULT

/-- One comparison of the outputs of a cage (R74): the third mismatch in a row sets SHORT, and on TXDIS, RST_L or LPM of a
READY cage takes it to FAULT. -/
def Dev.cageCheck (d : Dev) (c : CageId) (mism : Nat) : Dev :=
  let n := match c with | .tree _ => 10 | .pin _ => 7
  let run := fun (i : Nat) => sget (fun _ => 0) (d.cage (cageKey c)).runs i
  let short := (List.range n).filter (fun i => nbit mism i && run i == 2)
  let d := d.updCage (cageKey c) (fun x => { x with
    runs := (List.range n).foldl (fun m i => sset (fun _ => 0) m i (if nbit mism i then min 3 (run i + 1) else 0)) x.runs })
  if short.isEmpty then d else
  let d := short.foldl (fun d i => d.put (cageFault c) ⟨16 + i, 16 + i⟩ 1) d
  let d := d.cageErr c fTREE_ERR_PIN_FAULT
  if d.cageState c = cgReady ∧ short.any (fun i => i == 3 || i == 4 || i == 5) then
    ((d.setCageState c cgFault).cageAlert c 3).cageUpdate c
  else d

/-! LINE_OPTIONS (R67, R68). -/

/-- A TAP_REQUEST of the terminal is unanswered (04_burst_rx.md R116). -/
def Dev.tapAsked (d : Dev) (t h : Nat) : Bool :=
  match (d.rxT t).nego with
  | some n => n.term == h && (n.phase == .asked || n.phase == .back)
  | none => false

/-- The content of LINE_OPTIONS: US_PRECODE, the permitted rates, EFFECTIVE. -/
def lineOptContent (opt eff : Nat) : List Byte :=
  leB 1 (opt % 2) ++ leB 1 (opt / 2 % 4) ++ beB 7 (eff % 2 ^ 51) ++ leB 27 0

/-- Send LINE_OPTIONS to a terminal, or hold it until an outstanding TAP_REQUEST is answered. -/
def Dev.sendLineOpt (d : Dev) (h : Nat) : Dev :=
  let r := d.term h
  let t := r.tree
  if d.mode t ≠ 2 then d
  else if d.tapAsked t h then d.updLineOpt h (fun l => { l with asked := some r.lineOpt, waits := true })
  else
    let eff := d.sfc + 16
    let d := d.updLineOpt h (fun l => { l with asked := some r.lineOpt, sends := l.sends + 1, effective := eff, acked := false, waits := false })
    d.queuePloam t .lineOptions r.termId (lineOptContent r.lineOpt eff)

/-- A terminal enters ranging, or its record's options change: a new run of sends. -/
def Dev.startLineOpt (d : Dev) (h : Nat) : Dev := (d.updLineOpt h (fun l => { l with sends := 0 })).sendLineOpt h

/-- EFFECTIVE has come (R68): an acknowledged set applies; another is sent again, three times at most. A change of
US_PRECODE takes slot 0's preset (04_burst_rx.md R102). -/
def Dev.lineOptEffective (d : Dev) (h : Nat) : Dev :=
  let l := d.lineOpt h
  let r := d.term h
  match l.asked with
  | none => d
  | some a =>
    if l.waits || decide (d.sfc < l.effective) then d
    else if l.acked then
      let changed := a % 2 != l.inForce % 2
      let d := d.updLineOpt h (fun l => { l with inForce := a, asked := none, sends := 0 })
      d.when changed (fun d => d.updPreset h (fun p => { p with valid := Nat.land p.valid 6 }))
    else if l.sends < 3 then d.sendLineOpt h
    else (d.updLineOpt h (fun l => { l with asked := none, sends := 0 })).alert 0x0306 (p4 r.tree ++ p4 r.termId)

/-- The burst-profile messages (04_burst_rx.md R91): each of the four slots, in X10 and F50. -/
def Dev.burstProfiles (d : Dev) (t dest : Nat) : Dev :=
  if d.mode t = 2 then d
  else (List.range 4).foldl (fun d k => d.queuePloam t .burstProfile dest (leB 1 k ++ leB 4 (d.rdN (rBRX_PROF t k)))) d

/-! SEQ_CONFIG (17_protection.md R497). -/

/-- Send SEQ_CONFIG of a channel to its terminal, as the n-th send; a tree that does not frame has none outstanding. -/
def Dev.sendSeq (d : Dev) (c n : Nat) : Dev :=
  let h := d.chan c
  if !(d.framing h.tree) then d.setSeqOutOf c none else
  (d.setSeqOutOf c (some ⟨n, h.term⟩)).queuePloam h.tree .seqConfig (d.term h.term).termId
    (beB 2 h.portId ++ beB 2 h.seqWin ++ leB 1 (b2n h.prot) ++ leB 31 0)

/-- A terminal enters OPERATING: SEQ_CONFIG for each of its protected channels. -/
def Dev.seqOperating (d : Dev) (h : Nat) : Dev :=
  ((d.chansOf h).filter (fun c => (d.chan c).prot)).foldl (fun d c => d.sendSeq c 1) d

end Sys2Proof.Machine
end

