-- ==== Sys2Proof/Machine/ActOps.lean ====
section
/-! DEFINITION. Activation: the terminal's transitions, Ranging_Time, drift, stops, rogue terminals and the rogue search
(05_activation.md R130-R157). -/

namespace Sys2Proof.Machine

/-! Fields that act as 1 where they hold 0. -/

def Dev.rangeTries (d : Dev) (t : Nat) : Nat := max 1 (d.get (rACT_RANGE t) fACT_RANGE_RANGE_TRIES)
def Dev.driftConfirm (d : Dev) (t : Nat) : Nat := max 1 (d.get (rACT_RANGE t) fACT_RANGE_DRIFT_CONFIRM)
def Dev.lobLim (d : Dev) (t : Nat) : Nat := max 1 (d.get (rACT_LOB t) fACT_LOB_LOB_LIM)
def Dev.lostTicks (d : Dev) (t : Nat) : Nat := max 1 (d.get (rACT_LOB t) fACT_LOB_LOST_TICKS)
def Dev.rogueLim (d : Dev) (t : Nat) : Nat := max 1 (d.get (rACT_ROGUE t) fACT_ROGUE_ROGUE_LIM)
def Dev.rogueTicks (d : Dev) (t : Nat) : Nat := max 1 (d.get (rACT_ROGUE t) fACT_ROGUE_ROGUE_TICKS)
def Dev.strayLim (d : Dev) (t : Nat) : Nat := max 1 (d.get (rACT_ROGUE t) fACT_ROGUE_STRAY_LIM)
def Dev.searchDwell (d : Dev) (t : Nat) : Nat := max 1 (d.get (rACT_ROGUE t) fACT_ROGUE_SEARCH_DWELL)
/-- ROGUE_MODE; 3 acts as 2. -/
def Dev.rogueMode (d : Dev) (t : Nat) : Nat := min 2 (d.get (rACT_CTRL t) fACT_CTRL_ROGUE_MODE)

/-- Alert parameters that name a terminal: its tree and terminal ID (R157). -/
def Dev.termParams (d : Dev) (h : Nat) : List Byte := p4 (d.term h).tree ++ p4 (d.term h).termId

/-! Ranging_Time (R133, R142). -/

/-- Send Ranging_Time with an equalisation delay; what was outstanding is replaced, and the drift run ends. -/
def Dev.sendRt (d : Dev) (h eqd : Nat) (entry : Bool) : Dev :=
  let r := d.term h
  let d := d.updActOf h (fun a => { a with rt := some ⟨eqd, 1, d.tickNow + 1, entry⟩, driftLen := 0, driftSum := 0 })
  d.queuePloam r.tree .rangingTime r.termId (beB 4 eqd)

/-- A correction under R142: Ranging_Time with EqD less an offset, counted, with wide margins for 16 frames. -/
def Dev.rerange (d : Dev) (h : Nat) (off : Int) : Dev :=
  let t := (d.term h).tree
  let d := d.sendRt h (((d.actOf h).eqd : Int) - off).toNat false
  (d.bump (rACT_CNT t 6)).updActOf h (fun a => { a with marginUntil := d.tickNow + 18 })

/-- Ranging_Time is acknowledged (R142). -/
def Dev.rtAcked (d : Dev) (h : Nat) : Dev :=
  match (d.actOf h).rt with
  | some r => (d.updActOf h (fun a => { a with eqd := r.eqd, rt := none })).showTerm (d.term h).tree
  | none => d

/-! Transitions (R134). -/

/-- Take a terminal to ABSENT with Deactivate_ONU-ID sent three times and one of the counters counted. -/
def Dev.giveUp (d : Dev) (h cnt : Nat) : Dev :=
  let r := d.term h
  ((d.toAbsent h).deactivate r.tree r.termId).bump (rACT_CNT r.tree cnt)

/-- Enter RANGING from a Serial_Number_ONU on a lane. -/
def Dev.enterRanging (d : Dev) (h : Nat) (act : Bool) : Dev :=
  let r := d.term h
  let d := d.setState h .ranging
  let d := (d.updActOf h (fun a => { a with actLane := act, viaQuiet := !act, rangeLost := 0, rangeOpen := false })).showTerm r.tree
  let d := d.queuePloam r.tree .assignOnuId 0x3FF (beB 2 r.termId ++ leB 8 r.serial)
  if d.mode r.tree = 2 then d.startLineOpt h else d.burstProfiles r.tree r.termId

/-- A ranging burst is confirmed with its measured round-trip delay (R133, R134, R139). -/
def Dev.ranged (d : Dev) (h measured : Nat) : Dev :=
  let r := d.term h
  let t := r.tree
  let off : Int := if (d.actOf h).actLane then sval 16 (d.get (rACT_WL_OFFSET t) fACT_WL_OFFSET_OFFSET) else 0
  let rtd := ((measured : Int) + off).toNat
  let d := d.updActOf h (fun a => { a with rtd := rtd })
  if rtdMin (d.minKm t) ≤ rtd + 1000 ∧ rtd ≤ rtdMax (d.minKm t) (d.diffKm t) then
    let eqd := rangeUnits (d.mode t) (teqdNs (d.teqdTicks t) - rtd)
    let d := d.setState h .fine
    let d := (d.updActOf h (fun a => { a with eqd := eqd, fineMiss := 0, fineSeen := false })).showTerm t
    d.sendRt h eqd true
  else (d.giveUp h 5).alert 0x0503 (d.termParams h)

/-! Tap negotiation's queue (04_burst_rx.md R116). -/

/-- A terminal is queued, or its negotiation runs. -/
def Dev.tuneHas (d : Dev) (t h : Nat) : Bool :=
  (d.rxT t).tuneQ.any (fun e => e.1 == h) || (match (d.rxT t).nego with | some n => n.term == h | none => false)

/-- Queue a terminal at the head or the tail; one already queued is not queued twice, and a full queue takes none. -/
def Dev.tuneJoin (d : Dev) (t h rounds : Nat) (head : Bool) : Dev :=
  if d.tuneHas t h || decide (64 ≤ (d.rxT t).tuneQ.length) then d
  else (d.updRxT t (fun r => { r with tuneQ := if head then (h, rounds) :: r.tuneQ else r.tuneQ ++ [(h, rounds)] })).showTune t

/-! Reports of bursts (R107, R108, R141-R143). -/

/-- A confirmed service burst in FINE (R141): the first one takes the terminal to OPERATING. -/
def Dev.fineConfirmed (d : Dev) (h : Nat) (off : Int) : Dev :=
  let r := d.term h
  let d := if (match (d.actOf h).rt with | some x => x.entry | none => false) then d.rtAcked h else d
  let d := (d.setState h .operating).updActOf h (fun a => { a with fineSeen := true, fineMiss := 0, lobRun := 0, drift := off })
  let d := (d.bump (rACT_CNT r.tree 3)).seqOperating h
  let d := if d.get (rACT_RANGE r.tree) fACT_RANGE_FINE_TOL < off.natAbs then d.sendRt h (((d.actOf h).eqd : Int) - off).toNat false else d
  (d.when (d.mode r.tree == 2) (fun d => d.tuneJoin r.tree h 0 true)).showTerm r.tree

/-- A drift report in OPERATING (R142): beyond DRIFT_LIM, or a burst within it. -/
def Dev.driftReport (d : Dev) (h : Nat) (off : Int) (beyond : Bool) : Dev :=
  let d := d.updActOf h (fun a => { a with drift := off })
  let a := d.actOf h
  if a.rt.isSome then d
  else if !beyond then d.updActOf h (fun a => { a with driftLen := 0, driftSum := 0 })
  else
    let pos := decide (0 < off)
    let same := decide (0 < a.driftLen) && a.driftPos == pos
    let n := if same then a.driftLen + 1 else 1
    let s := if same then a.driftSum + off else off
    let d := d.updActOf h (fun a => { a with driftPos := pos, driftLen := n, driftSum := s })
    if d.driftConfirm (d.term h).tree ≤ n then d.rerange h (s.tdiv n) else d

/-- A burst of a terminal is confirmed at an offset in ranging units. -/
def Dev.burstConfirmed (d : Dev) (h : Nat) (off : Int) (beyond : Bool) : Dev :=
  match d.stateOf h with
  | .fine => d.fineConfirmed h off
  | .operating => ((d.updActOf h (fun a => { a with lobRun := 0 })).driftReport h off beyond).showTerm (d.term h).tree
  | .lost =>
    let d := (d.setState h .operating).updActOf h (fun a => { a with lobRun := 0, drift := off })
    ((d.seqOperating h).rerange h off).showTerm (d.term h).tree
  | _ => d

/-- A burst of a terminal is missed (R134, R143). -/
def Dev.burstMissed (d : Dev) (h : Nat) : Dev :=
  let t := (d.term h).tree
  match d.stateOf h with
  | .fine =>
    let d := d.updActOf h (fun a => { a with fineMiss := a.fineMiss + 1 })
    if 16 ≤ (d.actOf h).fineMiss then d.giveUp h 4 else d
  | .operating =>
    let d := d.updActOf h (fun a => { a with lobRun := min 255 (a.lobRun + 1) })
    if d.lobLim t ≤ (d.actOf h).lobRun then
      ((d.setState h .lost).bump (rACT_CNT t 7)).alert 0x0504 (d.termParams h)
    else d.showTerm t
  | .lost => (d.updActOf h (fun a => { a with lobRun := min 255 (a.lobRun + 1) })).showTerm t
  | _ => d

/-- A ranging grant has closed lost (R650). -/
def Dev.rangeMissed (d : Dev) (h : Nat) : Dev :=
  if d.stateOf h != .ranging then d else
  let d := d.updActOf h (fun a => { a with rangeLost := a.rangeLost + 1 })
  if d.rangeTries (d.term h).tree ≤ (d.actOf h).rangeLost then d.giveUp h 4 else d

/-! Stops (R144, R145). -/

/-- Ask for Disable_Serial_Number messages. -/
def Dev.stopSend (d : Dev) (t : Nat) (serial : Option Nat) (enable : Bool) (n notBefore : Nat) (mbx : Option Nat) : Dev :=
  d.updActT t (fun a => { a with sends := a.sends ++ [⟨serial, enable, n, none, notBefore, mbx⟩] })

/-- Disable one terminal. -/
def Dev.stopTerm (d : Dev) (h : Nat) (mbx : Option Nat) : Dev :=
  let r := d.term h
  let d := if d.stateOf h == .isolated then d else d.setState h .stopped
  d.stopSend r.tree (some r.serial) false 3 0 mbx

/-- Enable one terminal. -/
def Dev.enableTerm (d : Dev) (h : Nat) (mbx : Option Nat) : Dev :=
  let r := d.term h
  let d := if d.stateOf h == .stopped || d.stateOf h == .isolated then d.toAbsent h else d
  d.stopSend r.tree (some r.serial) true 3 0 mbx

/-- Stop the whole tree. -/
def Dev.stopTree (d : Dev) (t : Nat) (mbx : Option Nat) : Dev :=
  let d := (d.termsOf t).foldl (fun d h => if d.stateOf h == .isolated then d else d.setState h .stopped) d
  d.stopSend t none false 3 0 mbx

/-- Enable the whole tree: every ISOLATED record is disabled again in the three frames that follow. -/
def Dev.enableTree (d : Dev) (t : Nat) (mbx : Option Nat) : Dev :=
  let d := (d.termsOf t).foldl (fun d h => if d.stateOf h == .stopped then d.toAbsent h else d) d
  let d := d.stopSend t none true 3 0 mbx
  (d.termsOf t).foldl (fun d h => if d.stateOf h == .isolated then d.stopSend t (some (d.term h).serial) false 3 (d.tickNow + 4) none else d) d

/-! Rogue terminals (R146-R148). -/

/-- Isolate a terminal (R147). -/
def Dev.isolate (d : Dev) (h : Nat) : Dev :=
  (d.setState h .isolated).stopSend (d.term h).tree (some (d.term h).serial) false 3 0 none

/-- A rogue event of a terminal: 0 WRONG_ID, 1 OVERLONG. -/
def Dev.rogueEvent (d : Dev) (h cause : Nat) : Dev :=
  let t := (d.term h).tree
  let d := d.bump (rACT_CNT t 9)
  let ticks := d.tickNow :: (d.actOf h).rogue.filter (fun k => decide (d.tickNow < k + d.rogueTicks t))
  if d.rogueLim t ≤ ticks.length then
    let d := d.updActOf h (fun a => { a with rogue := [] })
    let d := (d.mark (rACT_ERR t) fACT_ERR_ROGUE).alert 0x0506 (d.termParams h ++ p4 cause)
    if 1 ≤ d.rogueMode t ∧ granted (d.stateOf h) then d.isolate h else d
  else d.updActOf h (fun a => { a with rogue := ticks })

/-- The search ends unresolved. -/
def Dev.searchFail (d : Dev) (t : Nat) : Dev :=
  ((d.updActT t (fun a => { a with search := none })).put (rACT_STATUS t) fACT_STATUS_SEARCH 3).alert 0x0508 (p4 t)

/-- Set the search's next wait. -/
def Dev.searchWait (d : Dev) (t : Nat) (s : Search) : Dev := d.updActT t (fun a => { a with search := some s })

/-- The loop of R148 goes round, or its last part begins. -/
def Dev.searchNext (d : Dev) (t : Nat) (cand : List Nat) (lit : Bool) : Dev :=
  match cand with
  | [] => d.searchFail t
  | [h] => (d.stopTerm h none).searchWait t ⟨[h], [h], .last, d.tickNow + 3 + d.searchDwell t, false⟩
  | _ => d.searchWait t ⟨cand, [], .light, d.tickNow + 64, lit⟩

/-- A rogue search starts (R148). -/
def Dev.searchStart (d : Dev) (t : Nat) : Dev :=
  let c := (d.termsOf t).filter (fun h => granted (d.stateOf h))
  ((d.put (rACT_STATUS t) fACT_STATUS_SEARCH 1).put (rACT_STATUS t) fACT_STATUS_SEARCH_TERM 0).searchNext t c true

/-- A wait of the search ends. -/
def Dev.searchStep (d : Dev) (t : Nat) : Dev :=
  match (d.actT t).search with
  | none => d
  | some s =>
    let due := decide (s.until_ ≤ d.tickNow)
    match s.phase with
    | .light =>
      if s.lit then
        let g := s.cand.take ((s.cand.length + 1) / 2)
        (g.foldl (fun d h => d.stopTerm h none) d).searchWait t ⟨s.cand, g, .half, d.tickNow + 3 + d.searchDwell t, false⟩
      else if due then d.searchFail t else d
    | .half =>
      if due then
        let d := s.group.foldl (fun d h => d.enableTerm h none) d
        d.searchNext t (if s.lit then s.cand.filter (fun h => !(s.group.contains h)) else s.group) false
      else d
    | .last =>
      if due then
        match s.cand with
        | h :: _ =>
          if s.lit then (d.enableTerm h none).searchFail t
          else
            let d := (d.isolate h).updActT t (fun a => { a with search := none })
            (d.put (rACT_STATUS t) fACT_STATUS_SEARCH 2).put (rACT_STATUS t) fACT_STATUS_SEARCH_TERM (d.term h).termId
        | [] => d.searchFail t
      else d

/-- Stray light is reported (R146, R148). -/
def Dev.strayReport (d : Dev) (t : Nat) : Dev :=
  let d := d.bump (rACT_CNT t 9)
  let old := (d.actT t).stray.filter (fun k => decide (d.tickNow < k + 64))
  let d := d.updActT t (fun a => { a with
    stray := if old.contains d.tickNow then old else d.tickNow :: old,
    strayAlerted := a.strayAlerted && !old.isEmpty,
    search := a.search.map (fun s => { s with lit := true }) })
  if d.strayLim t ≤ (d.actT t).stray.length then
    let d := if (d.actT t).strayAlerted then d
      else (d.alert 0x0507 (p4 t)).updActT t (fun a => { a with strayAlerted := true })
    if d.rogueMode t = 2 ∧ d.actFitted t ∧ (d.actT t).search.isNone then d.searchStart t else d
  else d

/-! Serial numbers (R134, R135, R151). -/

/-- A serial number with no record. -/
def Dev.unknownSerial (d : Dev) (t sn lane : Nat) : Dev :=
  let d := (d.bump (rACT_CNT t 2)).mark (rACT_ERR t) fACT_ERR_UNKNOWN_SN
  let l := (d.actT t).snList
  let new := !(l.any (fun e => e.1 == sn))
  let d := d.updActT t (fun a => { a with snList := ((sn, d.tickNow, lane) :: a.snList.filter (fun e => e.1 != sn)).take 64 })
  d.when new (fun d => d.alert 0x0501 (p4 t ++ p8 sn))

/-- A Serial_Number_ONU arrives on a lane. -/
def Dev.serialSeen (d : Dev) (t sn : Nat) (act : Bool) : Dev :=
  match d.findSerial t sn with
  | none => d.unknownSerial t sn (b2n act)
  | some h =>
    match d.stateOf h with
    | .absent => d.enterRanging h act
    | .lost => d.enterRanging h act
    | .stopped => d.stopSend t (some sn) false 1 0 none
    | .isolated => d.stopSend t (some sn) false 1 0 none
    | _ => ((d.bump (rACT_CNT t 2)).mark (rACT_ERR t) fACT_ERR_SN_DUPLICATE).alert 0x0502 (d.termParams h)

/-- Ranging_Time is not acknowledged in time (R134, R142). -/
def Dev.rtTimeout (d : Dev) (h : Nat) : Dev :=
  let r := d.term h
  match (d.actOf h).rt with
  | none => d
  | some x =>
    if d.tickNow < x.tick + d.teqdTicks r.tree + 4 then d
    else if x.sends < (if x.entry then 3 else 4) then
      let d := d.updActOf h (fun a => { a with rt := some { x with sends := x.sends + 1, tick := d.tickNow + 1 } })
      d.queuePloam r.tree .rangingTime r.termId (beB 4 x.eqd)
    else
      let d := d.updActOf h (fun a => { a with rt := none })
      if x.entry ∧ d.stateOf h = .fine ∧ !((d.actOf h).fineSeen) then d.giveUp h 4 else d

/-- Write one of the reach registers (R131): ACT_CTRL or ACT_REACH. -/
def Dev.writeReach (d : Dev) (t a v : Nat) : Dev :=
  let old := (d.teqdTicks t, d.minKm t, d.diffKm t)
  let e := d.access a v
  if d.treeEn t && (e.teqdTicks t, e.minKm t, e.diffKm t) != old then d.mark (rACT_ERR t) fACT_ERR_CFG_BUSY
  else e.put (rACT_STATUS t) fACT_STATUS_REACH_OK (b2n (e.reachOk t))

end Sys2Proof.Machine
end

