-- ==== Sys2Proof/Machine/RxOps.lean ====
section
/-! DEFINITION. Upstream burst reception: descriptors, the delimiter search, codewords, grant closure, presets and tap
negotiation (04_burst_rx.md R87-R129; 17_protection.md R509 for test bursts). -/

namespace Sys2Proof.Machine

/-! Fields with values that act as others. -/

def Dev.missLim (d : Dev) (t : Nat) : Nat := max 1 (d.get (rBRX_CTRL t) fBRX_CTRL_MISS_LIM)
def Dev.goodLim (d : Dev) (t : Nat) : Nat := max 1 (d.get (rBRX_CTRL t) fBRX_CTRL_GOOD_LIM)
def Dev.maxPkt (d : Dev) (t : Nat) : Nat := max 64 (d.get (rBRX_CTRL t) fBRX_CTRL_MAX_PKT)
def Dev.searchWin (d : Dev) (t : Nat) : Nat := d.get (rBRX_WIN t) fBRX_WIN_WINDOW
/-- DRIFT_LIM: values of WINDOW or more act as WINDOW less 1. -/
def Dev.driftLim (d : Dev) (t : Nat) : Nat := min (d.get (rBRX_WIN t) fBRX_WIN_DRIFT_LIM) (d.searchWin t - 1)
/-- MAX_ROUNDS: 0 and values above 16 act as 16. -/
def Dev.tuneRounds (d : Dev) (t : Nat) : Nat :=
  let n := d.get (rBRX_TUNE_CTRL t) fBRX_TUNE_CTRL_MAX_ROUNDS
  if n = 0 ∨ 16 < n then 16 else n
def Dev.tuneBursts (d : Dev) (t : Nat) : Nat := max 1 (d.get (rBRX_TUNE_CTRL t) fBRX_TUNE_CTRL_BURSTS)

/-- Symbols of a burst in some ns (R88), rounded down. -/
def nsToSym (mode slot ns : Nat) : Nat :=
  if mode = 0 then ns * 995328 / 100000
  else if mode = 2 then ns * 248832 / 10000
  else if slot = 0 then ns * 497664 / 10000 else if slot = 1 then ns * 248832 / 10000 else ns * 124416 / 10000

/-- Bits of a delimiter (R88). -/
def delimBits (mode slot : Nat) (act : Bool) : Nat :=
  if act || mode == 0 then 32 else if mode = 2 then 128 else if slot = 0 then 256 else if slot = 1 then 128 else 64

/-- The differing bits a candidate may have (R105). -/
def Dev.delimLimit (d : Dev) (t bits : Nat) : Nat := d.get (rBRX_CTRL t) fBRX_CTRL_DELIM_THR * bits / 64

/-! Descriptors (R103, R104, 08_ladle_maps.md R247). -/

/-- Put the descriptor of an open entry into its receiver's queue, where there is room. A continuation that finds the queue
empty belongs to the burst being received, and joins it (R103, 08_ladle_maps.md R247). -/
def Dev.descEnqueue (d : Dev) (t e : Nat) (late : Bool) : Dev :=
  let k := t * iftPerTree + e
  let x := d.iftE k
  let r := d.rxT t
  let queue := if x.actLane then r.actQueue else r.queue
  if !x.used || x.state != 0 || x.queued || decide (16 ≤ queue.length) then d else
  let q : Desc := ⟨e, x.term, x.alloc, x.profile, x.slot, x.kind, x.cont, late, false⟩
  let x := { x with queued := true, late := late }
  match (if x.cont && queue.isEmpty then (if x.actLane then r.actCur else r.cur) else none) with
  | some b =>
    let b := { b with descs := b.descs ++ [q] }
    (d.setIftE k { x with searched := true, conf := b.confirmed, uncorr := b.uncorr }).updRxT t (fun r =>
      if x.actLane then { r with actCur := some b } else { r with cur := some b })
  | none =>
    let d := (d.setIftE k x).updRxT t (fun r =>
      if x.actLane then { r with actQueue := r.actQueue ++ [q] } else { r with queue := r.queue ++ [q] })
    d.put (rBRX_STATUS t) fBRX_STATUS_DESC_DEPTH (d.rxT t).queue.length

/-- The sections of the burst at the head of a queue: the head and the continuations after it. -/
def headBurst (q : List Desc) : List Desc :=
  match q with
  | [] => []
  | x :: xs => x :: xs.takeWhile (fun y => y.cont)

/-! The search (R105, R106). -/

/-- The half-width of the search window of a burst in symbols; none where the whole window is searched. -/
def Dev.windowOf (d : Dev) (t : Nat) (q : Desc) : Option Nat :=
  let m := d.mode t
  let ns := fun (n : Nat) => some (nsToSym m q.slot n)
  match q.kind with
  | .ranging => none
  | .sn => none
  | .fine => ns (max 64 (d.get (rACT_RANGE t) fACT_RANGE_MARGIN))
  | .lost => ns (d.get (rACT_LOB t) fACT_LOB_LOST_MARGIN)
  | .test => ns (d.get (rACT_LOB t) fACT_LOB_LOST_MARGIN)
  | _ =>
    if (d.iftE (t * iftPerTree + q.entry)).tick < (d.actOf q.term).marginUntil then
      ns (max 64 (d.get (rACT_RANGE t) fACT_RANGE_MARGIN))
    else some (d.searchWin t)

/-- R105's ranking: fewest differing bits, nearest to D, earlier. -/
def candLe (a b : Cand) : Bool :=
  decide (a.diff < b.diff) || (a.diff == b.diff &&
    (decide (a.off.natAbs < b.off.natAbs) || (a.off.natAbs == b.off.natAbs && decide (a.off ≤ b.off))))

/-- The candidates kept, in order. -/
def Dev.candidates (d : Dev) (t : Nat) (q : Desc) (act : Bool) (found : List Cand) : List Cand :=
  let lim := d.delimLimit t (delimBits (d.mode t) q.slot act)
  let inWin := fun (c : Cand) => match d.windowOf t q with | some w => decide (c.off.natAbs ≤ w) | none => true
  (sortBy candLe (found.filter (fun c => decide (c.diff ≤ lim) && inWin c))).take 4

/-- A header of another terminal is reported (R106, 05_activation.md R146). -/
def Dev.wrongId (d : Dev) (t id : Nat) : Dev :=
  let d := d.bump (rBRX_CNT t 4)
  match d.findTerm t id with
  | some h => if granted (d.stateOf h) && !(d.standby t) then d.rogueEvent h 0 else d
  | none => d

/-- Try the candidates in order: the confirmed one, or none; each rejected one is counted. -/
def Dev.tryCands (d : Dev) (t id : Nat) : List Cand → Option Cand × Dev
  | [] => (none, d)
  | c :: cs =>
    if c.hdrOk && c.onuId == id then (some c, d)
    else
      let d := d.bump (rBRX_CNT t 2)
      Dev.tryCands (if c.hdrOk then d.wrongId t c.onuId else d) t id cs

/-- A serial-number window (05_activation.md R138, R140): every burst whose header passes, up to 16. -/
def Dev.searchSn (d : Dev) (t : Nat) (act : Bool) (q : Desc) (found : List Cand) : Bool × Dev :=
  let lim := d.delimLimit t (delimBits (d.mode t) q.slot act)
  let cs := found.filter (fun c => decide (c.diff ≤ lim))
  let good := (cs.filter (fun c => c.hdrOk && c.onuId == 1023)).take 16
  let bad := cs.filter (fun c => !c.hdrOk)
  (!good.isEmpty, (if good.isEmpty then d else d.bumpBy (rACT_CNT t 0) good.length) |> fun d =>
    if bad.isEmpty then d else d.bumpBy (rACT_CNT t 1) bad.length)

/-! Misses (R108). -/

/-- FORCE_L is set (R108). -/
def Dev.forceL (d : Dev) (t h : Nat) : Dev :=
  let d := d.updPreset h Preset.forced
  let d := (d.bump (rBRX_CNT t 15)).mark (rBRX_ERR t) fBRX_ERR_FORCE_L
  let d := d.alert 0x0401 (d.termParams h)
  (d.noteTerm t h).withdraw t h

/-- A burst of a terminal is missed: MISS of the preset record, and the report to activation. -/
def Dev.missed (d : Dev) (t : Nat) (q : Desc) (found : Bool) : Dev :=
  let d := d.bump (rBRX_CNT t (if found then 3 else 1))
  if q.late || q.kind == .ranging then d else
  let d := if q.profile < 2 then
      let d := d.updPreset q.term (fun p => { p with miss := p.miss + 1 })
      if d.missLim t ≤ (d.preset q.term).miss then d.forceL t q.term else d
    else d
  if d.standby t then d else d.burstMissed q.term

/-- A burst of a terminal is confirmed at a candidate. -/
def Dev.confirmed (d : Dev) (t : Nat) (q : Desc) (c : Cand) : Dev :=
  let d := d.updPreset q.term (fun p => { p with miss := 0 })
  let st := d.stateOf q.term
  let beyond := decide (d.driftLim t < c.off.natAbs)
  let d := d.when (beyond && (st == .operating || st == .lost) && q.kind != .ranging) (fun d => d.bump (rBRX_CNT t 5))
  if d.standby t then d
  else if q.kind == .ranging then (if st == .ranging then d.ranged q.term c.rtdNs else d)
  else d.burstConfirmed q.term (c.off * (unitsPerSymbol (d.mode t) q.slot : Int)) beyond

/-! A standby's test burst (17_protection.md R509). -/

/-- DELTA of a pair, signed ns. -/
def Dev.pairDelta (d : Dev) (t : Nat) : Int := sval 32 (d.rdN (rPROT_PAIR_DELTA t))

/-- The test burst the active has named is found o ns late, or missed. -/
def Dev.testBurst (d : Dev) (t h slot : Nat) (cs : List Cand) (taps : List Byte) : Dev :=
  let d := d.updPair t (fun p => { p with testDue := none })
  let m := d.mode t
  let w := nsToSym m slot (d.get rPROT_TEST_WIN fPROT_TEST_WIN_NS)
  let near := (sortBy candLe (cs.filter (fun c => decide (c.diff ≤ d.delimLimit t (delimBits m slot false)) && decide (c.off.natAbs ≤ w)))).take 4
  match d.tryCands t (d.term h).termId near with
  | (none, d) => d.bump (rPROT_CNT 15)
  | (some c, d) =>
    let ns : Int := (c.off * 10000).tdiv (nsToSym m slot 10000)
    let delta := d.pairDelta t
    let two := 2 * (delta.tdiv 2 + ns)
    let next := if (d.pair t).deltaSet then (3 * delta + two).tdiv 4 else two
    let d := (d.wrN (rPROT_PAIR_DELTA t) (sfield 32 next)).bump (rPROT_CNT 14)
    let d := if d.bit (rBRX_CTRL t) fBRX_CTRL_UPDATE || !(nbit (d.preset h).valid slot) then d.updPreset h (fun p => p.fill slot taps) else d
    d.updPair t (fun p => { p with deltaSet := true, testOk := some d.tickNow })

/-! The search as one event. -/

/-- Set what an entry keeps of its search. -/
def Dev.markEntry (d : Dev) (t e : Nat) (f : Ift → Ift) : Dev := d.updIftE (t * iftPerTree + e) f

/-- Add to one of a pair's counts of the tick in progress; the grants closed are counted where they close. -/
def Dev.pairCount (d : Dev) (t i : Nat) : Dev :=
  if d.pairEn t then d.updPair t (fun p => { p with cur := p.cur.set i (p.cur.getD i 0 + 1) }) else d

/-- The search window of the burst at the head of a receiver's queue closes; `taps` are those a standby's test burst has
adapted (R100, 17_protection.md R509). -/
def Dev.delimSearch (d : Dev) (t : Nat) (act : Bool) (found : List Cand) (taps : List Byte) : Dev :=
  match (if act then none else (d.pair t).testDue), d.standby t with
  | some (_, _, h, slot), true => d.testBurst t h slot found taps
  | _, _ =>
  let r := d.rxT t
  match headBurst (if act then r.actQueue else r.queue) with
  | [] => d
  | q :: qs =>
    let all := q :: qs
    let d := d.updRxT t (fun r =>
      if act then { r with actQueue := r.actQueue.drop all.length } else { r with queue := r.queue.drop all.length })
    let d := d.put (rBRX_STATUS t) fBRX_STATUS_DESC_DEPTH (d.rxT t).queue.length
    let d := d.when q.late (fun d => d.bump (rBRX_CNT t 9))
    let d := d.when (q.kind != .sn && !act && decide (q.profile < 2) && d.needsL q.term q.slot) (fun d => d.bump (rBRX_CNT t 10))
    let cs := d.candidates t q act found
    let res := if q.kind == .sn then d.searchSn t act q found
      else match d.tryCands t (d.term q.term).termId cs with
        | (some c, d) => (true, (d.confirmed t q c).pairCount t 0)
        | (none, d) => (false, d.missed t q (!cs.isEmpty))
    let off := if q.kind == .sn then 0 else ((cs.find? (fun c => c.hdrOk && c.onuId == (d.term q.term).termId)).map Cand.off).getD 0
    let d := all.foldl (fun d x => d.markEntry t x.entry (fun i => { i with searched := true, conf := res.1 })) res.2
    let b : Burst := ⟨all, res.1, off, false, false⟩
    d.updRxT t (fun r => if act then { r with actCur := some b } else { r with cur := some b })

/-! Reassembly and codewords (R118, R119). -/

/-- A partial packet is discarded. -/
def Dev.reasmDrop (d : Dev) (t a : Nat) : Dev :=
  if (d.reasmOf a).bytes = 0 then d else (d.setReasmOf a ⟨0, 0⟩).bump (rBRX_CNT t 11)

/-- A codeword of the burst in progress is decoded; `hit` are the allocations whose partial packet it held. -/
def Dev.codeword (d : Dev) (t : Nat) (r : CwResult) (hit : List Nat) : Dev :=
  match (d.rxT t).cur with
  | none => d
  | some b =>
    match r with
    | .clean => d
    | .corrected => d.bump (rBRX_CNT t 6)
    | .trailerBad => d.bump (rBRX_CNT t 8)
    | .uncorrectable =>
      let d := d.bump (rBRX_CNT t 7)
      let d := d.updRxT t (fun r => { r with cur := some { b with uncorr := true } })
      let d := b.descs.foldl (fun d q => d.markEntry t q.entry (fun i => { i with uncorr := true })) d
      hit.foldl (fun d a => d.reasmDrop t a) d

/-! Closing grants (R100, R109, R121, R123, 07_ladle_demand.md R204). -/

/-- Write back the adapted preset (R100), unless software has written the record since (R101). -/
def Dev.writeBack (d : Dev) (t : Nat) (x : Ift) (slot : List Byte) : Dev :=
  let p := d.preset x.term
  if x.late || x.stale || (!(d.bit (rBRX_CTRL t) fBRX_CTRL_UPDATE) && nbit p.valid x.slot) then d
  else d.updPreset x.term (fun p => p.fill x.slot slot)

/-- A good burst counts toward the end of FORCE_L (R109). -/
def Dev.goodBurst (d : Dev) (t h : Nat) : Dev :=
  if (d.preset h).forceL then
    let n := (d.preset h).good + 1
    if d.goodLim t ≤ n then (d.updPreset h (fun p => { p with forceL := false, good := n })).noteTerm t h
    else d.updPreset h (fun p => { p with good := n })
  else d

/-- A negotiation measures a burst of its terminal at its rate, from frames at or after EFFECTIVE (R114). -/
def Dev.tuneMeasure (d : Dev) (t : Nat) (x : Ift) (mse : Nat) : Dev :=
  d.updRxT t (fun r => { r with nego := r.nego.map (fun n =>
    if n.term = x.term ∧ n.rate = x.slot ∧ (n.phase = .first ∨ n.phase = .trial) ∧ n.effective ≤ x.tick then
      { n with bursts := n.bursts + 1, sum := n.sum + mse } else n) })

/-- A per-terminal eye scan uses a burst (R123). -/
def Dev.scanBurst (d : Dev) (t : Nat) (x : Ift) : Dev :=
  let sel := d.rdN (rBRX_ESCAN_SEL t)
  if (d.laneX (0x100C000 + 0x10000 * t)).scan &&
      (!(nbit sel 31) || (fieldOf sel fBRX_ESCAN_SEL_TERM == (d.term x.term).termId && fieldOf sel fBRX_ESCAN_SEL_SLOT == x.slot))
  then d.put (rBRX_ESCAN_STAT t) fBRX_ESCAN_STAT_BURSTS (d.get (rBRX_ESCAN_STAT t) fBRX_ESCAN_STAT_BURSTS + 1) else d

/-- A section was received: U and the idle share of its allocation, and the fragment its next burst must continue. -/
def Dev.sectionHeard (d : Dev) (x : Ift) (fin : BurstEnd) : Dev :=
  let d := d.updLadA x.alloc (fun l => { l with
    used := fin.carried - fin.idle, nearFull := decide (fin.idle * 2 ^ d.monShift < x.section_), heard := true })
  d.setReasmOf x.alloc (if fin.fragment = 0 then ⟨0, 0⟩ else ⟨fin.fragment, d.tickNow⟩)

/-- The burst-reset pulse that follows a granted burst (03_tree_line.md R75, R76): from E + DELAY to the earlier of WIDTH
later and SETUP before the next granted burst's S; none, and counted, where less than 4 ns are left. Instants are in ns of
grant time. -/
def Dev.burstReset (d : Dev) (t : Nat) (x : Ift) : Dev :=
  let m := d.mode t
  let w := d.rdN (if x.actLane then rTREE_ACT_BRST t else rTREE_BRST t)
  let ns := fun (tick bt : Nat) => instant tick (btToNs m bt)
  let e := ns x.tick (if x.kind = .sn then nsToBtUp m (wSn (d.diffKm t)) else x.hi)
  let later := (d.openEntries t).filterMap (fun k =>
    let y := d.iftE (t * iftPerTree + k)
    let st := ns y.tick (y.lo + guardBt m y.actLane)
    if y.actLane == x.actLane && !y.cont && decide (e ≤ st) then some st else none)
  let start := e + fieldOf w fTREE_BRST_DELAY
  let stop0 := start + max 4 (fieldOf w fTREE_BRST_WIDTH)
  let stop := later.foldl (fun a st => min a (st - fieldOf w fTREE_BRST_SETUP)) stop0
  if stop < start + 4 then d.bump (rTREE_BRST_SKIP t) else d.emit .brst t [b2n x.actLane, start, stop]

/-- The receiver closes a grant within 1 us of its E (R121). -/
def Dev.grantClose (d : Dev) (t e : Nat) (fin : BurstEnd) : Dev :=
  let x := d.iftE (t * iftPerTree + e)
  if !x.used || x.state != 0 || !x.searched then d else
  let d := d.when (!x.cont) (fun d => d.burstReset t x)
  let d :=
    if x.conf then
      let d := if x.kind == .sn then d else d.sectionHeard x fin
      if x.kind == .sn || x.cont then d
      else if x.actLane then (if x.uncorr then d else d.bump (rBRX_CNT t 0))
      else
        let d := d.scanBurst t x
        if x.uncorr then d
        else ((((d.bump (rBRX_CNT t 0)).goodBurst t x.term).writeBack t x fin.slot).tuneMeasure t x fin.mse)
    else if x.kind == .sn then d else d.reasmDrop t x.alloc
  let lost := x.kind == .ranging && !x.conf
  let d := d.closeIft t e (if x.conf then 1 else 2)
  if lost && !(d.standby t) then d.rangeMissed x.term else d

/-! Tap negotiation (R110-R116). -/

/-- The order of trials: the tap (0 c(-2), 1 c(-1), 3 c(1)) and the direction. -/
def tuneOrder : List (Nat × Int) := [(1, 1), (1, -1), (3, 1), (3, -1), (0, 1), (0, -1)]

/-- One side tap moved by a unit, c(0) the rest of 63. -/
def tuneStep (taps : List Int) (s : Nat × Int) : List Int :=
  let side := taps.set s.1 (taps.getD s.1 0 + s.2)
  side.set 2 (63 - (((side.getD 0 0).natAbs + (side.getD 1 0).natAbs + (side.getD 3 0).natAbs : Nat) : Int))

/-- The taps keep R110. -/
def termTapsOk (t : List Int) : Bool :=
  decide (-16 ≤ t.getD 0 0 ∧ t.getD 0 0 ≤ 15) && decide (-32 ≤ t.getD 1 0 ∧ t.getD 1 0 ≤ 31) &&
  decide (24 ≤ t.getD 2 0 ∧ t.getD 2 0 ≤ 63) && decide (-32 ≤ t.getD 3 0 ∧ t.getD 3 0 ≤ 31) && decide ((t.map Int.natAbs).sum ≤ 63)

/-- The next SEQUENCE of a terminal: 1-255, skipping 0 (R111). -/
def Dev.nextTapSeq (d : Dev) (h : Nat) : Nat × Dev :=
  let n := d.tapSeqOf h % 255 + 1
  (n, d.setTapSeqOf h n)

/-- Replace the running negotiation. -/
def Dev.setNego (d : Dev) (t : Nat) (n : Option Nego) : Dev := (d.updRxT t (fun r => { r with nego := n })).showTune t

/-- Send TAP_REQUEST for the taps given (R111, R114): SEQUENCE as given, EFFECTIVE 8 frames on. -/
def Dev.tapRequest (d : Dev) (t : Nat) (n : Nego) (taps : List Int) (phase : NegoPhase) (seq : Nat) (resent : Bool) : Dev :=
  let eff := d.sfc + 8
  let d := d.queuePloam t .tapRequest (d.term n.term).termId
    (leB 1 seq ++ leB 1 n.rate ++ leB 1 0 ++ (taps.map (fun x => BitVec.ofNat 8 (sfield 8 x))) ++ beB 7 eff ++ leB 22 0)
  d.setNego t (some { n with phase := phase, seq := seq, effective := eff, resent := resent, trial := taps })

/-- Send a fresh request. -/
def Dev.tapAsk (d : Dev) (t : Nat) (n : Nego) (taps : List Int) (phase : NegoPhase) : Dev :=
  let s := d.nextTapSeq n.term
  s.2.tapRequest t n taps phase s.1 false

/-- LINE_OPTIONS that waited for the negotiation's answer may go (R116). -/
def Dev.lineOptResume (d : Dev) (h : Nat) : Dev :=
  if (d.lineOpt h).waits && !(d.tapAsked (d.term h).tree h) then d.sendLineOpt h else d

/-- Confirmed taps enter the record (R96). -/
def Preset.setTaps (p : Preset) (rate : Nat) (taps : List Int) : Preset :=
  let b := taps.map (fun x => BitVec.ofNat 8 (sfield 8 x))
  if rate = 0 then { p with taps0 := padTo 4 b } else { p with taps1 := padTo 4 b }

/-- The next slot a terminal may use after a rate: J100 negotiates slot 0, then slot 1 (R110). -/
def Dev.tuneRates (d : Dev) (h : Nat) : List Nat := (List.range 2).filter (fun s => lineOptPermits (d.term h).lineOpt s)

/-- Start measuring a terminal at a rate with the taps its record confirms; a record that holds none has the terminal's
own, c(0) 63. -/
def Dev.tuneStart (d : Dev) (t h rate rounds : Nat) : Dev :=
  let b := if rate = 0 then (d.preset h).taps0 else (d.preset h).taps1
  let taps := (List.range 4).map (fun i => sval 8 (byteAt b i))
  let taps := if taps.all (fun x => x == 0) then [0, 0, 63, 0] else taps
  d.setNego t (some ⟨h, rate, taps, taps, 0, 0, 0, 0, [], .first, 0, d.tickNow, false, false, 0, 0,
    if rounds = 0 then d.tuneRounds t else min rounds 16⟩)

/-- A negotiation of one rate ends (R114, R115): RESULT, ROUNDS, the confirmed taps and, unless it failed, AGE; then the
terminal's next rate follows. -/
def Dev.tuneEnd (d : Dev) (t : Nat) (n : Nego) (result : Nat) : Dev :=
  let h := n.term
  let d := d.updPreset h (fun p =>
    let p := { p.setTaps n.rate n.taps with rounds := min n.rounds 31, result := result }
    if result ≤ 3 then { p with age := d.tickNow % 2 ^ 32 } else p)
  let d := d.setNego t none
  let d := d.when (result == 4) (fun d => (d.mark (rBRX_ERR t) fBRX_ERR_TUNE_FAIL).alert 0x0402 (d.termParams h))
  let d := d.lineOptResume h
  match (d.tuneRates h).find? (fun s => decide (n.rate < s)) with
  | some s => if result = 4 then d else d.tuneStart t h s n.maxRounds
  | none => d

/-- Go round the loop of R114: end, or the next trial. -/
def Dev.tuneLoop (d : Dev) (t : Nat) : Nat → Nego → Dev
  | 0, n => d.setNego t (some n)
  | fuel + 1, n =>
    let thr := d.get (rBRX_TUNE_CTRL t) fBRX_TUNE_CTRL_TUNE_THR
    let order := tuneOrder.filter (fun s => !(n.removed.contains s.1))
    if n.best < thr then d.tuneEnd t n 1
    else if n.maxRounds ≤ n.rounds then d.tuneEnd t n 2
    else if 6 ≤ n.sinceGain || order.isEmpty then d.tuneEnd t n 3
    else
      let trial := tuneStep n.taps (order.getD (n.rounds % order.length) (1, 1))
      let n := { n with rounds := n.rounds + 1, pos := n.rounds + 1 }
      if trial.getD 2 0 < 24 then d.tuneLoop t fuel { n with sinceGain := n.sinceGain + 1 }
      else d.tapAsk t { n with failed := false } trial .asked

/-- Start the negotiation at the head of the queue, where none runs, the tree runs J100 and no LINE_OPTIONS to the
terminal is unacknowledged (R116). -/
def Dev.tuneNext (d : Dev) (t : Nat) : Dev :=
  let r := d.rxT t
  match r.nego, r.tuneQ with
  | none, (h, rounds) :: rest =>
    if d.mode t != 2 || (d.lineOpt h).asked.isSome then d
    else
      let d := (d.updRxT t (fun r => { r with tuneQ := rest })).showTune t
      match d.tuneRates h with
      | [] => d
      | s :: _ => if d.stateOf h == .operating then d.tuneStart t h s rounds else d
  | _, _ => d

/-- The taps of a TAP_RESPONSE's content. -/
def respTaps (b : List Byte) : List Int := (List.range 4).map (fun i => sval 8 (byteAt b (3 + i)))

/-- A second failure ends the negotiation; the first resends (R115). -/
def Dev.tuneFail (d : Dev) (t : Nat) (n : Nego) : Dev :=
  if n.resent then d.tuneEnd t n 4 else d.tapRequest t n n.trial n.phase n.seq true

/-- A TAP_RESPONSE arrives (R112-R114). -/
def Dev.tapAnswer (d : Dev) (t h : Nat) (content : List Byte) : Dev :=
  match (d.rxT t).nego with
  | none => d
  | some n =>
    if n.term ≠ h ∨ byteAt content 0 ≠ n.seq ∨ byteAt content 1 ≠ n.rate ∨ (n.phase ≠ .asked ∧ n.phase ≠ .back) then d
    else
      let result := byteAt content 2
      if n.phase = .back then
        if result = 3 then d.tuneFail t n
        else ((d.tuneLoop t 32 { n with sinceGain := n.sinceGain + 1 }).lineOptResume h)
      else if result = 0 then ((d.setNego t (some { n with phase := .trial, bursts := 0, sum := 0 })).lineOptResume h)
      else if result = 3 then d.tuneFail t n
      else
        let order := tuneOrder.filter (fun s => !(n.removed.contains s.1))
        let tap := (order.getD ((n.rounds - 1) % max 1 order.length) (1, 1)).1
        let n := if result = 2 then { n with removed := tap :: n.removed } else n
        ((d.tuneLoop t 32 { n with sinceGain := n.sinceGain + 1 }).lineOptResume h)

/-- BURSTS bursts have been measured (R114). -/
def Dev.tuneMeasured (d : Dev) (t : Nat) : Dev :=
  match (d.rxT t).nego with
  | none => d
  | some n =>
    if n.bursts < d.tuneBursts t then d
    else
      let e := n.sum / n.bursts
      if n.phase = .first then d.tuneLoop t 32 { n with best := e, bursts := 0, sum := 0 }
      else if n.phase = .trial then
        if e < n.best then d.tuneLoop t 32 { n with taps := n.trial, best := e, sinceGain := 0, bursts := 0, sum := 0 }
        else d.tapAsk t { n with bursts := 0, sum := 0 } n.taps .back
      else d

/-- A request is unanswered 16 frames after its EFFECTIVE (R115). -/
def Dev.tapTimeout (d : Dev) (t : Nat) : Dev :=
  match (d.rxT t).nego with
  | some n => if (n.phase = .asked ∨ n.phase = .back) ∧ n.effective + 16 ≤ d.sfc then d.tuneFail t n else d
  | none => d

/-- BURSTS bursts have not come within 800 ticks of EFFECTIVE (R115): the round fails in the same way. -/
def Dev.tuneBurstsTimeout (d : Dev) (t : Nat) : Dev :=
  match (d.rxT t).nego with
  | some n =>
    if (n.phase = .first ∨ n.phase = .trial) ∧ n.effective + 800 ≤ d.sfc then
      if n.failed then d.tuneEnd t n 4
      else if n.phase = .first then d.setNego t (some { n with failed := true, effective := d.sfc, bursts := 0, sum := 0 })
      else d.tapRequest t { n with failed := true, bursts := 0, sum := 0 } n.trial .asked n.seq true
    else d
  | none => d

/-- A terminal whose AGE is PERIOD ticks old joins the tail of the queue, one per tree per tick (R116). -/
def Dev.retuneDue (d : Dev) (t h : Nat) : Dev :=
  let p := d.get (rBRX_RETUNE t) fBRX_RETUNE_PERIOD
  if d.mode t == 2 && p != 0 && (d.term h).tree == t && d.stateOf h == .operating && (d.rxT t).dueTick != some d.tickNow &&
      decide (p ≤ (d.tickNow % 2 ^ 32 + 2 ^ 32 - (d.preset h).age) % 2 ^ 32) && !(d.tuneHas t h)
  then (d.tuneJoin t h 0 false).updRxT t (fun r => { r with dueTick := some d.tickNow }) else d

/-! Preset access (R101). -/

/-- Software writes a record: bursts whose preload began before keep no write-back.  A record written with FORCE_L
set leaves the profile at L, so a grant of the map not yet released that names S or M is withdrawn (R240). -/
def Dev.presetWrite (d : Dev) (t h : Nat) (b : List Byte) : Dev :=
  let d := d.setPreset h (presetOfImage b)
  let d := (d.openEntries t).foldl (fun d e => d.markEntry t e (fun x => if x.term == h && x.searched then { x with stale := true } else x)) d
  (d.noteTerm t h).withdraw t h

/-- Write BRX_PRESET_CMD: the access is done by the end of the step. -/
def Dev.writePresetCmd (d : Dev) (t v : Nat) : Dev :=
  let a := rBRX_PRESET_CMD t
  let d := (d.put a fBRX_PRESET_CMD_WRITE (fieldOf v fBRX_PRESET_CMD_WRITE)).put a fBRX_PRESET_CMD_TERM (fieldOf v fBRX_PRESET_CMD_TERM)
  if nbit v 30 then
    match d.findTerm t (fieldOf v fBRX_PRESET_CMD_TERM) with
    | none => d.mark (rBRX_ERR t) fBRX_ERR_NO_TERM
    | some h =>
      if nbit v 29 then d.presetWrite t h ((List.range 16).flatMap (fun i => leB 4 (d.rdN (rBRX_PRESET_DATA t i))))
      else (List.range 16).foldl (fun d i => d.wrN (rBRX_PRESET_DATA t i) (leAt (d.preset h).image (4 * i) 4)) d
  else d

/-- Write BRX_PROF: while the tree is enabled it keeps its value (R125). -/
def Dev.writeProf (d : Dev) (t k v : Nat) : Dev :=
  if d.treeEn t then d.mark (rBRX_ERR t) fBRX_ERR_PROF_BUSY else d.access (rBRX_PROF t k) v

end Sys2Proof.Machine
end

