-- ==== Sys2Proof/Machine/FrameOps.lean ====
section
/-! DEFINITION. The downstream frame of a tree: its map, its PLOAM messages and, in J100, the JX structure
(03_tree_line.md R57-R69, R80; 05_activation.md R143, R145; 10_cipher.md R295). -/

namespace Sys2Proof.Machine

/-- The JX structure without its HEC (R63). -/
def Dev.jx (d : Dev) (t : Nat) : Nat :=
  let a := d.get (rTREE_LINE_STATUS t) fTREE_LINE_STATUS_DS_PRECODE_ACTIVE
  let cd := d.get (rTREE_LINE_STATUS t) fTREE_LINE_STATUS_COUNTDOWN
  let next := if cd = 0 then a else d.get (rTREE_LINE_CTRL t) fTREE_LINE_CTRL_DS_PRECODE
  2 ^ 56 + a * 2 ^ 55 + next * 2 ^ 54 + cd * 2 ^ 50 + b2n (d.actFitted t) * 2 ^ 49 + b2n (d.pairEn t && d.pairKind t == 0) * 2 ^ 48

/-- The precoding countdown steps at a frame (R66). -/
def Dev.precodeStep (d : Dev) (t : Nat) : Dev :=
  let s := rTREE_LINE_STATUS t
  let cd := d.get s fTREE_LINE_STATUS_COUNTDOWN
  if !(d.precodePending t) then d
  else if cd = 0 then d.put s fTREE_LINE_STATUS_COUNTDOWN 8
  else if cd = 1 then d.precodeNow t
  else d.put s fTREE_LINE_STATUS_COUNTDOWN (cd - 1)

/-- One Disable_Serial_Number message of a stop still sending; what is left of it, and the mailbox it completes. -/
def StopSend.sent (s : StopSend) (tick : Nat) : StopSend :=
  { s with left := s.left - 1, firstTick := some (s.firstTick.getD tick) }

/-- The stop messages of a frame, while there is room for them among its eight (R60, R145). -/
def takeStops (tick : Nat) : Nat → List StopSend → List Ploam × List StopSend
  | _, [] => ([], [])
  | 0, ss => ([], ss)
  | n + 1, s :: ss =>
    if s.left = 0 ∨ tick < s.notBefore then let r := takeStops tick (n + 1) ss; (r.1, s :: r.2)
    else
      let r := takeStops tick n ss
      (⟨if s.enable then .enableSerial else .disableSerial, 0x3FF, leB 8 (s.serial.getD (2 ^ 64 - 1)) ++ leB 1 (b2n s.serial.isNone)⟩ :: r.1,
        s.sent tick :: r.2)

/-- TERM_STOP answers once its third message has been sent, with the tick of the first (R155). -/
def Dev.stopsDone (d : Dev) (t : Nat) : Dev :=
  let done := (d.actT t).sends.filter (fun s => s.left == 0)
  let d := d.updActT t (fun a => { a with sends := a.sends.filter (fun s => s.left != 0) })
  done.foldl (fun d s => match s.mbx with
    | some m => d.finish m resOk (leB 8 (s.firstTick.getD 0))
    | none => d) d

/-- The tick of the frame that carries a Ranging_Time is the one its acknowledgement is waited from (R142). -/
def Dev.rtCarried (d : Dev) (t : Nat) (m : Ploam) : Dev :=
  if m.kind = .rangingTime then
    match d.findTerm t m.dest with
    | some h => d.updActOf h (fun a => { a with rt := a.rt.map (fun r => { r with tick := d.tickNow }) })
    | none => d
  else d

/-- The queued messages a frame takes, while there is room for them: Deactivate_ONU-ID goes to one ONU-ID once in a frame,
so that the three of a terminal leave in three frames (05_activation.md R134). -/
def takePloams : Nat → List Nat → List Ploam → List Ploam × List Ploam
  | _, _, [] => ([], [])
  | 0, _, q => ([], q)
  | n + 1, gone, m :: ms =>
    if m.kind = .deactivateOnuId ∧ m.dest ∈ gone then let r := takePloams (n + 1) gone ms; (r.1, m :: r.2)
    else let r := takePloams n (if m.kind = .deactivateOnuId then m.dest :: gone else gone) ms; (m :: r.1, r.2)

/-- The PLOAM messages of a frame, at most eight: the broadcast Deactivate_ONU-ID of a start, ACT_ANNOUNCE, stops, then
the queue (R60, R69, R143, R145). -/
def Dev.framePloams (d : Dev) (t : Nat) : List Ploam × Dev :=
  let a := d.actT t
  let b : List Ploam := if 0 < a.bcast then [⟨.deactivateOnuId, 0x3FF, []⟩] else []
  let ann : List Ploam := if d.mode t ≠ 2 ∧ d.tickNow % 8 = 0 then [⟨.actAnnounce, 0x3FF, leB 1 (b2n (d.actFitted t))⟩] else []
  let s := takeStops d.tickNow (8 - (b ++ ann).length) a.sends
  let first := b ++ ann ++ s.1
  let q := takePloams (8 - first.length) [] (d.tree t).ploam
  let d := d.updActT t (fun a => { a with bcast := a.bcast - 1, sends := s.2 })
  (first ++ q.1, d.updTree t (fun x => { x with ploam := q.2 }))

/-- Send a frame of a tree with a map; a standby's frame does not leave its pins (17_protection.md R512). -/
def Dev.sendFrame (d : Dev) (t : Nat) (m : MapRec) : Dev :=
  let d := d.precodeStep t
  let d := d.updTree t (fun x => { x with frames := min 4 (x.frames + 1) })
  let d := (d.termsOf t).foldl (fun d h => d.keyFrame h d.sfc) d
  let p := d.framePloams t
  let d := p.2
  let d := if d.standby t then d else d.emit .frame t [d.tickNow, d.sfc, if d.mode t = 2 then d.jx t else 0] (d.mapImage m)
  let d := p.1.foldl (fun d x =>
    let d := if d.standby t then d else d.emit .ploam t [match x.kind with
      | .assignOnuId => 0x03 | .rangingTime => 0x04 | .deactivateOnuId => 0x05 | .disableSerial => 0x06 | .enableSerial => 0x06
      | .burstProfile => 0x01 | .keyControl => 0x0D | .lineOptions => 0xF0 | .actAnnounce => 0xF1 | .tapRequest => 0xF2
      | .seqConfig => 0xF4 | .timeOfDay => 0xF5, x.dest] x.content
    d.rtCarried t x) d
  (d.stopsDone t).sendMap t m

/-- A map without grants: that of the first frame (R80). -/
def emptyMap (tick : Nat) : MapRec :=
  { tick := tick, grants := [], resv := [], notices := [], unplaced := [], sharedLeft := [], awakeSet := [], woken := [],
    lastServed := 0, snAct := false, snSvc := false, held := none, check := 0, repeat_ := false }

/-- The first frame of a start (R80): the tree frames, every terminal is told to start afresh in the first three frames,
stopped and isolated records are stopped again, and the map of the next tick begins. -/
def Dev.firstFrame (d : Dev) (t : Nat) : Dev :=
  let x := d.tree t
  match x.firstAt with
  | none => d
  | some f =>
    if !x.live || d.framing t || decide (d.tickNow < f) then d else
    let d := (d.mark (rTREE_LINE_STATUS t) fTREE_LINE_STATUS_FRAMING).precodeNow t
    let d := d.updTree t (fun x => { x with firstAt := none, frames := 0, startTick := d.tickNow })
    let d := d.updActT t (fun a => { a with bcast := 3 })
    let d := (d.termsOf t).foldl (fun d h =>
      if d.stateOf h == .stopped || d.stateOf h == .isolated then d.stopSend t (some (d.term h).serial) false 1 (d.tickNow + 3) none else d) d
    let d := d.burstProfiles t 0x3FF
    let d := d.setOvrRun t 0
    (d.sendFrame t (emptyMap d.tickNow)).beginMap t

end Sys2Proof.Machine
end

