-- ==== Sys2Proof/Machine/ActCmds.lean ====
section
/-! DEFINITION. The commands of 05_activation.md: reach, serial numbers, acknowledgements, Ranging_Time's timeout, LOST,
skipped quiet windows, and the mailbox commands TREE_ACT_CONFIG, TERM_STATE, TERM_STOP and TREE_SN_LIST (R130-R157). -/

namespace Sys2Proof.Machine

/-- ACT_CONFIG_WRITE (R131): a write of ACT_REACH or ACT_CTRL. -/
def execActConfigWrite (t : Fin 48) (reach : Bool) (val : Word) (s : State) : Host.Outcome State Fault Refusal :=
  s.run (fun d => if d.treeOk t.val then d.writeReach t.val (if reach then rACT_REACH t.val else rACT_CTRL t.val) val.toNat else d)

/-- SERIAL_NUMBER_ONU (R134, R135, R151): a tree that frames receives a serial number on a lane. -/
def execSerialNumberOnu (t : Fin 48) (act : Bool) (sn : BitVec 64) (s : State) : Host.Outcome State Fault Refusal :=
  s.run (fun d => if d.framing t.val && !(d.standby t.val) then d.serialSeen t.val sn.toNat act else d)

/-- ACKNOWLEDGEMENT (R142; 03_tree_line.md R68; 17_protection.md R497): `what` is the message acknowledged, 0
Ranging_Time, 1 LINE_OPTIONS, 2 SEQ_CONFIG of a port ID. -/
def execAcknowledgement (t : Fin 48) (id : Fin 1024) (what : Fin 3) (port : Fin 65536) (s : State) : Host.Outcome State Fault Refusal :=
  s.run (fun d =>
    match d.findTerm t.val id.val with
    | none => d
    | some h =>
      if !(granted (d.stateOf h)) then d
      else if what.val = 0 then d.rtAcked h
      else if what.val = 1 then
        let l := d.lineOpt h
        if l.asked.isSome && !l.waits && decide (d.sfc < l.effective) then d.updLineOpt h (fun l => { l with acked := true }) else d
      else match d.findChan t.val port.val with
        | some c => if (d.chan c).term = h then d.setSeqOutOf c none else d
        | none => d)

/-- RANGING_TIME_TIMEOUT (R134, R142). -/
def execRangingTimeTimeout (h : Fin 16384) (s : State) : Host.Outcome State Fault Refusal := s.run (fun d => d.rtTimeout h.val)

/-- LOST_TICKS_EXPIRY (R134). -/
def execLostTicksExpiry (h : Fin 16384) (s : State) : Host.Outcome State Fault Refusal :=
  s.run (fun d =>
    let t := (d.term h.val).tree
    if d.stateOf h.val == .lost && decide ((d.actOf h.val).entryTick + d.lostTicks t ≤ d.tickNow) then
      (d.giveUp h.val 8).alert 0x0505 (d.termParams h.val)
    else d)

/-- QW_SKIP (R140): a quiet window deferred for 64 ticks is skipped; the first skip after an opened window is alerted. -/
def execQwSkip (t : Fin 48) (s : State) : Host.Outcome State Fault Refusal :=
  s.run (fun d =>
    let a := d.actT t.val
    if a.defer < 64 then d else
    let d := (d.bump (rACT_CNT t.val 11)).mark (rACT_ERR t.val) fACT_ERR_QW_SKIP
    let d := d.when (!a.skipAlerted) (fun d => d.alert 0x050A (p4 t.val))
    (d.updActT t.val (fun a => { a with skipAlerted := true, askSvc := false, qwDue := false, defer := 0 })).put
      (rACT_STATUS t.val) fACT_STATUS_QW_STATE 0)

/-! Mailbox commands. -/

/-- The owner, or the tenant that owns a terminal (R154, R155). -/
def Cmd.termRights (c : Cmd) (d : Dev) (h : Nat) : Bool × Nat :=
  (match c.caller with | none => true | some n => (d.term h).tenant == n, resNotPermitted)

/-- TERM_STOP (R145, R155), code 0x0281. -/
def execTermStop (m : Fin 64) (s : State) : Host.Outcome State Fault Refusal :=
  s.run (fun d => d.command m.val 0x0281 (fun c d =>
    let t := c.u8 0
    let en := nbit (c.u8 1) 0
    let whole := nbit (c.u8 1) 1
    let x := c.expert 1
    let form := inForm (d.treeOk t && c.only 1 0x83 && !(whole && x) && (if x then c.block 12 else c.endsAt 4) && !((whole || x) && c.u16 2 != 0))
    let own : Bool × Nat := (c.isOwner || !(whole || x), resNotPermitted)
    if whole then c.checks d [own, form] (fun d => c.wait (if en then d.enableTree t (some m.val) else d.stopTree t (some m.val)) [t])
    else if x then
      c.checks d [own, form] (fun d =>
        c.wait (match d.findSerial t (c.u64 4) with
          | some h => if en then d.enableTerm h (some m.val) else d.stopTerm h (some m.val)
          | none => d.stopSend t (some (c.u64 4)) en 3 0 (some m.val)) [t])
    else match d.findTerm t (c.u16 2) with
      | none => c.checks d [form, inForm false] (fun d => d)
      | some h => c.checks d [c.termRights d h, form] (fun d =>
          c.wait (if en then d.enableTerm h (some m.val) else d.stopTerm h (some m.val)) [t])))

/-- The registers of TREE_ACT_CONFIG's expert block, in order (R153). -/
def actExpert (t : Nat) : List Nat := [rACT_PERIOD t, rACT_RANGE t, rACT_WL_OFFSET t, rACT_LOB t, rACT_ROGUE t]

/-- TREE_ACT_CONFIG (R153), code 0x0105. -/
def execTreeActConfig (m : Fin 64) (s : State) : Host.Outcome State Fault Refusal :=
  s.run (fun d => d.command m.val 0x0105 (fun c d =>
    let t := c.u8 0
    let minKm := c.u8 1
    let diff := c.u8 2
    let ticks := c.u8 3
    let x := c.expert 4
    let mask := c.u8 0x1C
    c.checks d
      [c.mustOwn,
       inForm (d.treeOk t && c.only 4 0x8D && decide (minKm < 32) && decide (diff < 64) && decide (ticks < 8) &&
         (if x then c.zero 5 3 && decide (mask < 32) && c.block 0x1D else c.endsAt 5)),
       inForm (!x || (List.range 5).all (fun k => !(nbit mask k) || !(badValue ((actExpert t).getD k 0) (c.u32 (8 + 4 * k))))),
       (!(d.treeEn t) || (decide (minKm = d.minKm t) && decide (diff = d.diffKm t) && decide (ticks = d.teqdTicks t)), resBusy),
       inForm (reachOk ticks minKm diff)]
      (fun d =>
        let d := if x then (List.range 5).foldl (fun d k => if nbit mask k then d.access ((actExpert t).getD k 0) (c.u32 (8 + 4 * k)) else d) d
          else d
        let w := fieldPut (fieldPut (fieldPut (d.rdN (rACT_CTRL t)) fACT_CTRL_TEQD_TICKS ticks) fACT_CTRL_LEGACY_QW (c.u8 4 % 2))
          fACT_CTRL_ROGUE_MODE (c.u8 4 / 4 % 4)
        let d := d.writeReach t (rACT_CTRL t) w
        let d := d.writeReach t (rACT_REACH t) (fieldPut (fieldPut (d.rdN (rACT_REACH t)) fACT_REACH_MIN_KM minKm) fACT_REACH_DIFF_KM diff)
        c.ok d ([rtdMin minKm, rtdMax minKm diff, wSn diff, wR].flatMap (leB 4)))))

/-- TERM_STATE (R154), code 0x0280. -/
def execTermState (m : Fin 64) (s : State) : Host.Outcome State Fault Refusal :=
  s.run (fun d => d.command m.val 0x0280 (fun c d =>
    match d.findTerm (c.u8 0) (c.u16 2) with
    | none => c.checks d [c.mayExpert 1, inForm false] (fun d => d)
    | some h =>
      c.checks d [c.termRights d h, c.mayExpert 1, inForm (c.only 1 0x80 && c.endsAt 4)] (fun d =>
        let a := d.actOf h
        let b := leB 1 (tstateNum a.state) ++ leB 1 (b2n a.actLane) ++ leB 2 0 ++ leB 4 a.eqd ++ leB 8 a.entryTick
        c.ok d (if c.expert 1 then b ++ leB 4 a.rtd ++ leB 4 (sfield 32 a.drift) ++ leB 1 a.lobRun else b))))

/-- TREE_SN_LIST (R156), code 0x0106. -/
def execTreeSnList (m : Fin 64) (s : State) : Host.Outcome State Fault Refusal :=
  s.run (fun d => d.command m.val 0x0106 (fun c d =>
    let t := c.u8 0
    c.checks d [c.mustOwn, inForm (d.treeOk t && c.only 1 1 && c.endsAt 2)] (fun d =>
      let l := (d.actT t).snList
      let resp := leB 1 l.length ++ leB 3 0 ++ l.flatMap (fun e => leB 8 e.1 ++ leB 4 e.2.1 ++ leB 1 e.2.2 ++ leB 3 0)
      c.ok (d.when (nbit (c.u8 1) 0) (fun d => d.updActT t (fun a => { a with snList := [] }))) resp)))

/-- ACT_TERM_SEL (R150). -/
def execActTermSel (t : Fin 48) (val : Word) (s : State) : Host.Outcome State Fault Refusal :=
  s.run (fun d => if d.treeOk t.val then (d.access (rACT_TERM_SEL t.val) val.toNat).showTerm t.val else d)

end Sys2Proof.Machine
end

