-- ==== Sys2Proof/Machine/CntOps.lean ====
section
/-! DEFINITION. Event counters, filters, the snapshot and the march test engine (21_counters_test.md R608-R624). -/

namespace Sys2Proof.Machine

/-! Configuration (R609-R612). -/

/-- The attributes an event carries (R609): privilege, requester, address, class. -/
def evCarries (ev : Nat) : Bool × Bool × Bool × Bool :=
  if ev = 0x0100 ∨ ev = 0x0101 ∨ ev = 0x0103 then (false, true, false, false)
  else if ev = 0x0102 ∨ ev = 0x0200 ∨ ev = 0x0201 ∨ (0x0600 ≤ ev ∧ ev ≤ 0x0602) then (false, true, false, true)
  else if ev = 0x0300 ∨ ev = 0x0301 then (false, true, true, false)
  else if ev = 0x0500 ∨ ev = 0x0501 then (true, true, false, false)
  else if ev = 0x0400 ∨ ev = 0x0401 ∨ (0x0502 ≤ ev ∧ ev ≤ 0x0504) then (true, true, true, false)
  else (false, false, false, false)

/-- The requester of an event is a tenant, or REQUESTER (R611). -/
def evTenant (ev : Nat) : Bool := (evCarries ev).2.1 && (ev / 256 == 1 || ev / 256 == 2 || ev / 256 == 4 || ev / 256 == 6)

/-- A profile's CTRL tests an attribute that an event does not carry (R610). -/
def profileBad (ctrl ev : Nat) : Bool :=
  let c := evCarries ev
  (fieldOf ctrl fCNT_FLT_CTRL_PRIV != 3 && !c.1) || (nbit ctrl 30 && !c.2.1) || (nbit ctrl 31 && !c.2.2.1) ||
  (fieldOf ctrl fCNT_FLT_CTRL_TC != 0xFF && !c.2.2.2)

/-- CTRL of a profile; profile 0 passes everything. -/
def Dev.profile (d : Dev) (p : Nat) : Nat := if p = 0 then 0x018000FF else d.rdN (rCNT_FLT_CTRL p)

/-- A configuration that R610 or R611 refuses, with its profile's CTRL. -/
def cntBad (cfg ctrl : Nat) : Bool :=
  let ev := fieldOf cfg fCNT_CFG_EVENT
  let view := fieldOf cfg fCNT_CFG_VIEW
  profileBad ctrl ev || (decide (16 ≤ view) && view != 0x1F) || (decide (view < 16) && !(evTenant ev))

/-- Write CNT_CFG[n] (R610, R611). -/
def Dev.writeCntCfg (d : Dev) (n v : Nat) : Dev :=
  if cntBad v (d.profile (fieldOf v fCNT_CFG_FILTER)) then d.mark rCNT_ERR fCNT_ERR_CFG_BAD else d.access (rCNT_CFG n) v

/-- Some counter that names a profile would be inconsistent under a CTRL (R610). -/
def Dev.profileClash (d : Dev) (p ctrl : Nat) : Bool :=
  (List.range 4096).any (fun n => d.get (rCNT_CFG n) fCNT_CFG_FILTER == p && cntBad (d.rdN (rCNT_CFG n)) ctrl)

/-- Write a word of a filter profile: 0 CTRL, 1-4 the address words (R610). Profile 0 ignores writes. -/
def Dev.writeCntFlt (d : Dev) (p w v : Nat) : Dev :=
  if p = 0 then d
  else if w = 0 then
    (if d.profileClash p v then d.mark rCNT_ERR fCNT_ERR_CFG_BAD else d.access (rCNT_FLT_CTRL p) v)
  else d.access (rCNT_FLT_CTRL p + 4 * (w + 1)) v

/-- Zero counters and sticky bits from one to another (R612). -/
def Dev.cntZero (d : Dev) (first last : Nat) : Dev :=
  if last < first then d else
  let d := { d with regs := skeep (fun a => !(decide (rEVC_LO first ≤ a) && decide (a ≤ rEVC_HI last))) d.regs }
  (List.range 128).foldl (fun d i =>
    let w := d.rdN (rCNT_OVF i)
    if w = 0 then d
    else d.wrN (rCNT_OVF i) ((List.range 32).foldl (fun x j =>
      if first ≤ 32 * i + j ∧ 32 * i + j ≤ last then fieldPut x ⟨j, j⟩ 0 else x) w)) d

/-- Write CNT_CLEAR (R612); GO reads 0. -/
def Dev.writeCntClear (d : Dev) (v : Nat) : Dev :=
  let d := (d.access rCNT_CLEAR v).put rCNT_CLEAR fCNT_CLEAR_GO 0
  if nbit v 31 then d.cntZero (fieldOf v fCNT_CLEAR_FIRST) (fieldOf v fCNT_CLEAR_LAST) else d

/-! The snapshot (R613). -/

/-- Copy every counter and sticky bit, and the tick count of the boundary. -/
def Dev.snapshot (d : Dev) : Dev :=
  let live := d.regs.filter (fun e => decide (0xA0000 ≤ e.1) && decide (e.1 < 0xA8200))
  let d := { d with regs := skeep (fun a => !(decide (0xB0000 ≤ a) && decide (a < 0xB8208))) d.regs }
  let d := live.foldl (fun d e => d.wr (e.1 + 0x10000) e.2) d
  d.wr64 rSNAP_TICK_LO rSNAP_TICK_HI d.tickNow

/-! Sampling (R615-R618). -/

/-- A counter's event may drive a sampling unit (R615). -/
def Dev.sampleable (d : Dev) (c : Nat) : Bool :=
  let g := d.get (rCNT_CFG c) fCNT_CFG_EVENT / 256
  g == 1 || g == 5

/-- PERIOD as it acts. -/
def Dev.smpPeriod (d : Dev) (s : Nat) : Nat := max 1 (d.rdN (rCNT_SMP_PERIOD s))

/-- A write of a unit's CTRL that R615 refuses: it binds a counter, or enables the unit, on an event of another group. -/
def Dev.smpBad (d : Dev) (s v : Nat) : Bool :=
  (nbit v 31 || fieldOf v fCNT_SMP_CTRL_COUNTER != d.get (rCNT_SMP_CTRL s) fCNT_SMP_CTRL_COUNTER) &&
  !(d.sampleable (fieldOf v fCNT_SMP_CTRL_COUNTER))

/-- Write a unit's CTRL (R615): an enabled unit loads REMAIN with PERIOD. -/
def Dev.writeSmpCtrl (d : Dev) (s v : Nat) : Dev :=
  if d.smpBad s v then d.mark rCNT_ERR fCNT_ERR_SMP_CFG
  else
    let d := d.access (rCNT_SMP_CTRL s) v
    d.when (nbit v 31) (fun d => d.wrN (rCNT_SMP_REMAIN s) (d.smpPeriod s))

/-- A sample enters the unit's FIFO of 8, or is lost (R618). -/
def Dev.smpTake (d : Dev) (s : Nat) (x : Sample) : Dev :=
  if (d.fifo s).length < 8 then
    (d.updFifo s (fun q => q ++ [x])).put (rCNT_SMP_CTRL s) fCNT_SMP_CTRL_DEPTH ((d.fifo s).length + 1)
  else ((d.bump (rCNT_SMP_LOST s)).mark rCNT_ERR fCNT_ERR_SMP_LOST).alertOnce 0x1402 s (p4 s)

/-- POP moves the oldest sample into DATA; with none held DATA reads 0 (R618). -/
def Dev.smpPop (d : Dev) (s : Nat) : Dev :=
  let put := fun (d : Dev) (x : Sample) => (((d.wrN (rCNT_SMP_DATA s 0) x.w0).wrN (rCNT_SMP_DATA s 1) x.w1).wrN (rCNT_SMP_DATA s 2) x.w2).wrN
    (rCNT_SMP_DATA s 3) x.w3
  match d.fifo s with
  | [] => put d ⟨0, 0, 0, 0⟩
  | x :: q => put ((d.setFifo s q).put (rCNT_SMP_CTRL s) fCNT_SMP_CTRL_DEPTH q.length) x

/-! The march test engine (R619-R623). -/

/-- The engine may test a target now (R620): a bank that is FREE or FAULTY destructively, OWNED or FREE and in no handover
preserving; processor memory preserving; a channel in service preserving. ALG 2 and 3 are reserved. -/
def Dev.marchOk (d : Dev) (v : Nat) : Bool :=
  let t := fieldOf v fMTEST_CTRL_TARGET
  let keep := fieldOf v fMTEST_CTRL_PRESERVE == 1
  let handed := match d.pan.job with | some j => j.bank == t | none => false
  decide (fieldOf v fMTEST_CTRL_ALG < 2) &&
  (if t < 40 then
    !handed && (if keep then d.bankState t == bkOwned || d.bankState t == bkFree else d.bankState t == bkFree || d.bankState t == bkFaulty)
  else if t = 42 then keep
  else decide (48 ≤ t) && keep && d.dramOk (t - 48) && !(d.bit rDRAM_CTRL fDRAM_CTRL_CH8 && decide (56 ≤ t)) &&
    d.bit rDRAM_STATUS fDRAM_STATUS_READY)

/-- Write MTEST_CTRL (R620, R627): GO starts a run; one that is not allowed, or that comes while a run is active, sets
REFUSED and starts nothing. -/
def Dev.writeMtest (d : Dev) (v : Nat) : Dev :=
  let d := (d.access rMTEST_CTRL v).put rMTEST_CTRL fMTEST_CTRL_GO 0
  if !(nbit v 31) then d
  else if d.cnt.run.isSome || !(d.marchOk v) then d.put rMTEST_STATUS fMTEST_STATUS_REFUSED 1
  else
    let d := ((d.put rMTEST_STATUS fMTEST_STATUS_DONE 0).put rMTEST_CTRL fMTEST_CTRL_BUSY 1).put rMTEST_STATUS fMTEST_STATUS_REFUSED 0
    ({ d with cnt := { d.cnt with run := some v } }).bump (rMTEST_CNT 0)

/-- Enter a finding in the log, while it has room (R622). -/
def Dev.marchLog (d : Dev) (target : Nat) (f : MarchFind) : Dev :=
  let l := d.cnt.mtLog
  if 64 ≤ l.length then d
  else
    let x : MtestLog := ⟨target, f.element.val, f.op.val, f.sub.val, f.addr, d.tickNow⟩
    ({ d with cnt := { d.cnt with mtLog := l ++ [x] } }).put rMTEST_STATUS
      fMTEST_STATUS_LOGGED (l.length + 1)

/-- Give a sub-array soft spares for its failing columns, where they suffice (R623). -/
def Dev.softSpare (d : Dev) (sub : Nat) (cols : List Nat) : Bool × Dev :=
  let a := rMTEST_REPAIR sub
  let used := d.get a fMTEST_REPAIR_SOFT
  if 2 < used + cols.length then (false, d)
  else
    let d := cols.zipIdx.foldl (fun d c => d.put a (if used + c.2 = 0 then fMTEST_REPAIR_COL0 else fMTEST_REPAIR_COL1) c.1) d
    (true, (d.put a fMTEST_REPAIR_SOFT (used + cols.length)).bumpBy (rMTEST_CNT 2) cols.length)

/-- What a run leaves (R621-R623): findings, the sub-arrays whose retest fails, and whether it is destructive and repairs.
The answer says whether failures stand unrepaired. -/
def Dev.marchEnd (d : Dev) (target : Nat) (destructive repair : Bool) (finds : List MarchFind) (again : List Nat) : Bool × Dev :=
  let fails := finds.filter (fun f => f.op.val != 15)
  let d := finds.foldl (fun d f => d.marchLog target f) d
  let d := d.bumpBy (rMTEST_CNT 1) fails.length
  let subs := (fails.map (fun f => f.sub.val)).eraseDups
  let r := if destructive && repair && decide (target < 48) then
      subs.foldl (fun (r : Bool × Bool × Dev) sub =>
        let cols := ((fails.filter (fun f => f.sub.val == sub)).map (fun f => f.col.val)).eraseDups
        let x := r.2.2.softSpare sub cols
        (r.1 || !x.1 || again.contains sub, r.2.1 || x.1, x.2)) (false, false, d)
    else (!(fails.isEmpty), false, d)
  let d := r.2.2
  let d := d.put rMTEST_STATUS fMTEST_STATUS_REPAIRED (b2n r.2.1)
  let d := d.put rMTEST_STATUS fMTEST_STATUS_PASS (b2n !r.1)
  let d :=
    if r.1 then
      let d := d.when (decide (target < 40)) (fun d =>
        ((d.setBank target bkFaulty).showPan).alert 0x0C03 (p4 target ++ p4 (match fails with | f :: _ => f.addr | [] => 0)))
      d.alert 0x1401 (p4 target ++ p4 fails.length ++ p4 (subs.headD 0))
    else
      d.when (destructive && decide (target < 40)) (fun d =>
        let d := d.put (rSTK_BANK target) fSTK_BANK_DIRTY 0
        d.when (d.bankState target == bkFaulty) (fun d => d.setBank target bkFree))
  (r.1, d.put rMTEST_STATUS fMTEST_STATUS_DONE 1)

/-- The four words of a log entry (R627). -/
def MtestLog.words (x : MtestLog) : List Nat :=
  [2 ^ 31 + x.target % 64 * 2 ^ 24 + x.element % 8 * 2 ^ 20 + x.op % 16 * 2 ^ 16 + x.sub % 1024, x.addr % 2 ^ 32, x.addr / 2 ^ 32 % 16,
   x.tick % 2 ^ 32]

/-- A write of MTEST_LOG_POP with bit 0: the oldest entry goes to MTEST_LOG_DATA, which reads 0 where none is held. -/
def Dev.mtestPop (d : Dev) : Dev :=
  let put := fun (d : Dev) (l : List Nat) => l.zipIdx.foldl (fun d x => d.wrN (rMTEST_LOG_DATA x.2) x.1) d
  match d.cnt.mtLog with
  | [] => put d [0, 0, 0, 0]
  | x :: q => put (({ d with cnt := { d.cnt with mtLog := q } }).put rMTEST_STATUS fMTEST_STATUS_LOGGED q.length) x.words

end Sys2Proof.Machine
end

