-- ==== Sys2Proof/Machine/ColParse.lean ====
section
/-! DEFINITION. The Colander's parser and its keys (11_colander.md R323-R327). -/

namespace Sys2Proof.Machine

/-- The header that comes next. -/
inductive HdrKind where
  | eth
  | vlan
  | mpls
  | ip4
  | ip6
  | ext
  | tcp
  | udp
  | vxlan
  | gtpu
  | gre
  | stop
  deriving DecidableEq, Repr

/-- The headers of one tunnel level, as its key's fields (R327). -/
structure Level where
  /-- offset of the level's first header, and which it is -/
  start : Nat
  first : HdrKind
  /-- 0 none, 1 IPv4, 2 IPv6, 3 MPLS -/
  l3 : Nat := 0
  vlans : Nat := 0
  outer : Nat := 0
  inner : Nat := 0
  ether : Nat := 0
  /-- an Ethernet header has been parsed at this level -/
  hasEth : Bool := false
  dmac : Nat := 0
  smac : Nat := 0
  /-- 16 bytes each, as a big-endian number -/
  src : Nat := 0
  dst : Nat := 0
  proto : Nat := 0
  tclass : Nat := 0
  sport : Nat := 0
  dport : Nat := 0
  tcpFlags : Nat := 0
  mpls : Nat := 0
  exts : Nat := 0
  deriving DecidableEq, Repr

/-- What the parser goes by: COL_CTRL and COL_PORTS. -/
structure ParseCfg where
  depth : Nat
  mplsEth : Bool
  vxlanPort : Nat
  gtpuPort : Nat
  deriving DecidableEq, Repr

/-- The parser on its way. -/
structure Walk where
  /-- the frame without its FCS, cut where the innermost length field says -/
  data : List Byte
  /-- the frame with its FCS is 64 bytes long, so that trailing bytes are padding (R325) -/
  padded : Bool
  off : Nat := 0
  next : HdrKind
  /-- the next header opens a tunnel level -/
  opens : Bool
  /-- levels parsed, innermost first -/
  levels : List Level := []
  /-- the IP packet at hand is a fragment -/
  fragment : Bool := false
  depthExceeded : Bool := false
  lengthMismatch : Bool := false
  parseError : Bool := false
  ipFrag : Bool := false
  ipOptions : Bool := false
  deriving DecidableEq, Repr

namespace ParseStep

/-- The level at hand: the innermost parsed, or a new one where the header opens it. -/
def level (w : Walk) : Level :=
  if w.opens then { start := w.off, first := w.next } else w.levels.headD { start := w.off, first := w.next }

/-- Keep a header's fields in its level, and stop. -/
def keep (w : Walk) (l : Level) : Walk :=
  { w with
    levels := if w.opens then l :: w.levels else l :: w.levels.drop 1
    opens := false
    next := .stop }

/-- Keep a header's fields and go on after its bytes with the header it names; one that would open a fourth tunnel level
exceeds the depth (R324). -/
def go (w : Walk) (l : Level) (n : Nat) (next : HdrKind) (opens : Bool) : Walk :=
  let w := keep w l
  if opens && next != .stop && decide (4 ≤ w.levels.length) then { w with depthExceeded := true }
  else { w with
    off := w.off + n
    next := next
    opens := opens }

/-- Keep a header's fields; its length does not agree (R325). -/
def bad (w : Walk) (l : Level) : Walk := { keep w l with lengthMismatch := true }

/-- The header would break a limit: it is not parsed (R324). -/
def deep (w : Walk) : Walk := { w with depthExceeded := true, next := .stop }

/-- The header an EtherType names. -/
def byEther (e : Nat) : HdrKind :=
  if e = 0x8100 ∨ e = 0x88A8 then .vlan else if e = 0x8847 ∨ e = 0x8848 then .mpls
  else if e = 0x0800 then .ip4 else if e = 0x86DD then .ip6 else .stop

/-- The header the first nibble of an IP packet names. -/
def byNibble (w : Walk) (i : Nat) : HdrKind :=
  if w.data.length ≤ i then .stop else if byteAt w.data i / 16 = 4 then .ip4 else if byteAt w.data i / 16 = 6 then .ip6 else .stop

/-- The header an IP protocol names, and whether it opens a level (R323). -/
def byProto (p : Nat) (six : Bool) : HdrKind × Bool :=
  if p = 6 then (.tcp, false) else if p = 17 then (.udp, false) else if p = 47 then (.gre, false)
  else if p = 4 then (.ip4, true) else if p = 41 then (.ip6, true)
  else if six && (p = 0 || p = 43 || p = 44 || p = 60) then (.ext, false) else (.stop, false)

/-- Bytes left from the header on. -/
def left (w : Walk) : Nat := w.data.length - w.off

/-- The length a header gives its packet agrees with the bytes left: equal, or less in a padded frame (R325). -/
def lenOk (w : Walk) (n : Nat) : Bool := n == left w || (w.padded && decide (n < left w))

/-- Cut what follows the packet. -/
def cut (w : Walk) (n : Nat) : Walk := { w with data := w.data.take (w.off + n) }

/-- Bytes of a big-endian field from the header. -/
def f (w : Walk) (i n : Nat) : Nat := beAt w.data (w.off + i) n

/-- An Ethernet header. The MAC addresses and the EtherType of a level are those of its first. -/
def eth (w : Walk) : Walk :=
  let l := level w
  let l := if l.hasEth then l else { l with hasEth := true, dmac := f w 0 6, smac := f w 6 6, ether := f w 12 2 }
  if left w < 14 then bad w l else go w l 14 (byEther (f w 12 2)) false

/-- A VLAN tag. -/
def vlan (w : Walk) : Walk :=
  let l := level w
  if 8 ≤ l.vlans then deep w else
  let l := { l with
    vlans := l.vlans + 1
    outer := if l.vlans = 0 then f w 0 2 else l.outer
    inner := if l.vlans = 1 then f w 0 2 else l.inner
    ether := f w 2 2 }
  if left w < 4 then bad w l else go w l 4 (byEther (f w 2 2)) false

/-- An MPLS label. -/
def mpls (cfg : ParseCfg) (w : Walk) : Walk :=
  let l := level w
  if 8 ≤ l.mpls then deep w else
  let l := { l with
    mpls := l.mpls + 1
    l3 := 3
    sport := if l.mpls = 0 then f w 0 2 else l.sport }
  if left w < 4 then bad w l
  else if nbit (f w 2 1) 0 then go w l 4 (if cfg.mplsEth then .eth else byNibble w (w.off + 4)) false
  else go w l 4 .mpls false

/-- An IPv4 header. -/
def ip4 (cfg : ParseCfg) (w : Walk) : Walk :=
  let n := max 20 (4 * (f w 0 1 % 16))
  if left w ≠ 0 ∧ (f w 0 1 / 16 ≠ 4 ∨ f w 0 1 % 16 < 5) then { w with parseError := true, next := .stop }
  else if cfg.depth < w.off + n then deep w
  else
    let l := level w
    let l := { l with
      l3 := if l.l3 = 0 then 1 else l.l3
      src := f w 12 4 * 2 ^ 96
      dst := f w 16 4 * 2 ^ 96
      proto := f w 9 1
      tclass := f w 1 1 }
    let w := { w with ipOptions := w.ipOptions || decide (20 < n) }
    let total := f w 2 2
    if left w < n ∨ total < n ∨ !(lenOk w total) then bad w l
    else
      let w := { cut w total with fragment := f w 6 2 % 16384 != 0 }
      if f w 6 2 % 8192 ≠ 0 then keep { w with ipFrag := true } l
      else let p := byProto (f w 9 1) false; go w l n p.1 p.2

/-- An IPv6 header. -/
def ip6 (w : Walk) : Walk :=
  if left w ≠ 0 ∧ f w 0 1 / 16 ≠ 6 then { w with parseError := true, next := .stop }
  else
    let l := level w
    let l := { l with
      l3 := if l.l3 = 0 then 2 else l.l3
      src := f w 8 16
      dst := f w 24 16
      proto := f w 6 1
      tclass := f w 0 2 / 16 % 256
      exts := 0 }
    if left w < 40 ∨ !(lenOk w (40 + f w 4 2)) then bad w l
    else
      let w := { cut w (40 + f w 4 2) with fragment := false }
      let p := byProto (f w 6 1) true
      go w l 40 p.1 p.2

/-- An IPv6 extension header; the level's protocol says which. -/
def ext (cfg : ParseCfg) (w : Walk) : Walk :=
  let l := level w
  let frag := l.proto == 44
  let n := if frag then 8 else 8 * (f w 1 1 + 1)
  if 4 ≤ l.exts ∨ cfg.depth < w.off + n then deep w else
  let off := if frag then f w 2 2 / 8 else 0
  let l := { l with exts := l.exts + 1, proto := f w 0 1 }
  if left w < n then bad w l
  else
    let w := { w with fragment := w.fragment || (frag && (off != 0 || nbit (f w 3 1) 0)) }
    if off ≠ 0 then keep { w with ipFrag := true } l
    else let p := byProto (f w 0 1) true; go w l n p.1 p.2

/-- A TCP header. -/
def tcp (cfg : ParseCfg) (w : Walk) : Walk :=
  let n := max 20 (4 * (f w 12 1 / 16))
  if cfg.depth < w.off + n then deep w else
  let l := { level w with sport := f w 0 2, dport := f w 2 2, tcpFlags := f w 13 1 }
  if left w < n then bad w l else keep w l

/-- A UDP header. -/
def udp (cfg : ParseCfg) (w : Walk) : Walk :=
  let l := { level w with sport := f w 0 2, dport := f w 2 2 }
  if left w < 8 ∨ (!w.fragment && f w 4 2 != left w) then bad w l
  else if f w 2 2 = cfg.vxlanPort then go w l 8 .vxlan false
  else if f w 2 2 = cfg.gtpuPort ∧ (left w = 8 ∨ f w 9 1 = 255) then go w l 8 (if left w = 8 then .stop else .gtpu) false
  else keep w l

/-- Bytes of a GTP-U header's extension headers from an offset on. -/
def gtpExt (w : Walk) : Nat → Nat → Nat → Nat
  | 0, _, n => n
  | fuel + 1, kind, n =>
    if kind = 0 ∨ f w n 1 = 0 then n
    else let m := n + 4 * f w n 1; gtpExt w fuel (f w (m - 1) 1) m

/-- A GTP-U header. -/
def gtpu (cfg : ParseCfg) (w : Walk) : Walk :=
  let flags := f w 0 1
  let n := if flags % 8 = 0 then 8 else if nbit flags 2 then gtpExt w 128 (f w 11 1) 12 else 12
  if cfg.depth < w.off + n then deep w else
  let l := { level w with dport := f w 6 2 }
  if left w < n ∨ f w 2 2 ≠ left w - 8 then bad w l else go w l n (byNibble w (w.off + n)) true

/-- A GRE header. -/
def gre (cfg : ParseCfg) (w : Walk) : Walk :=
  let flags := f w 0 2
  let n := 4 + 4 * b2n (nbit flags 15) + 4 * b2n (nbit flags 13) + 4 * b2n (nbit flags 12)
  if cfg.depth < w.off + n then deep w else
  let l := level w
  let e := f w 2 2
  if left w < n then bad w l
  else go w l n (if flags % 8 ≠ 0 then .stop else if e = 0x6558 then .eth else if e = 0x0800 then .ip4 else if e = 0x86DD then .ip6 else .stop) true

/-- The least bytes of a header. -/
def least : HdrKind → Nat
  | .eth => 14
  | .vlan => 4
  | .mpls => 4
  | .ip4 => 20
  | .ip6 => 40
  | .ext => 8
  | .tcp => 20
  | .udp => 8
  | .vxlan => 8
  | .gtpu => 8
  | .gre => 4
  | .stop => 0

/-- Parse one header. -/
def one (cfg : ParseCfg) (w : Walk) : Walk :=
  if cfg.depth < w.off + least w.next then deep w else
  match w.next with
  | .eth => eth w
  | .vlan => vlan w
  | .mpls => mpls cfg w
  | .ip4 => ip4 cfg w
  | .ip6 => ip6 w
  | .ext => ext cfg w
  | .tcp => tcp cfg w
  | .udp => udp cfg w
  | .vxlan => if left w < 8 then bad w (level w) else go w (level w) 8 .eth true
  | .gtpu => gtpu cfg w
  | .gre => gre cfg w
  | .stop => w

end ParseStep

/-- Walk the headers: every header takes at least four bytes, so a frame's depth bounds the steps. -/
def walkHeaders (cfg : ParseCfg) : Nat → Walk → Walk
  | 0, w => w
  | n + 1, w => if w.next = .stop then w else walkHeaders cfg n (ParseStep.one cfg w)

/-- Parse a frame with its FCS (R323), beginning with the header of a kind. -/
def parseFrame (cfg : ParseCfg) (bytes : List Byte) (first : HdrKind) : Walk :=
  walkHeaders cfg 136 { data := bytes.take (bytes.length - 4), padded := bytes.length == 64, next := first, opens := true }

/-- The key of one level (R327): `pre` is bytes 0-2 and `meta2` bytes 4-5. -/
def levelKey (pre : List Byte) (tunnels meta2 pass : Nat) (l : Level) : List Byte :=
  pre ++ leB 1 (l.l3 * 64 + tunnels * 16 + l.vlans % 16) ++ beB 2 meta2 ++ beB 2 l.outer ++ beB 2 l.inner ++ beB 2 l.ether ++
  beB 6 l.dmac ++ beB 6 l.smac ++ beB 16 l.src ++ beB 16 l.dst ++ leB 1 l.proto ++ leB 1 l.tclass ++ beB 2 l.sport ++
  beB 2 l.dport ++ leB 1 l.tcpFlags ++ leB 1 pass

end Sys2Proof.Machine
end

