-- ==== Sys2Proof/Machine/FwdOps.lean ====
section
/-! DEFINITION. The forwarding tables: keys and hashes, the exact-match memory with insertion and relocation, the prefix
trie, lookups, learning, the sweep, flushes and memory errors (12_forwarding.md R351-R374). -/

namespace Sys2Proof.Machine

/-! Tables (R351, R354). -/

/-- The tables are ready (R375). -/
def Dev.fwdReady (d : Dev) : Bool := d.bit rFWD_STATUS fFWD_STATUS_READY
/-- A table is in use. -/
def Dev.tblEn (d : Dev) (n : Nat) : Bool := d.bit (rFWD_TBL_CFG n) fFWD_TBL_CFG_EN
/-- A table's kind: 0 narrow, 1 wide, 2 bridge, 3 IPv4 prefix, 4 IPv6 prefix. -/
def Dev.tblKind (d : Dev) (n : Nat) : Nat := d.get (rFWD_TBL_CFG n) fFWD_TBL_CFG_KIND
/-- A table kept in the exact-match memory. -/
def Dev.tblExact (d : Dev) (n : Nat) : Bool := decide (d.tblKind n < 3)
/-- Bytes of a table's lookup key (R351); a prefix table's includes the VRF byte. -/
def keyWidth (kind : Nat) : Nat := if kind = 1 then 20 else if kind = 3 then 5 else if kind = 4 then 17 else 8

/-- How many of a word's low bits are 1. -/
def popcount (w n : Nat) : Nat := ((List.range n).map (fun i => b2n (nbit w i))).sum

/-! The exact-match memory (R355-R357). -/

/-- The domain of an exact-match key (R353). -/
def keyDomain (key : List Byte) : Nat := beAt key 0 2 % 4096

/-- The two candidate buckets of a key (R356). -/
def Dev.buckets (d : Dev) (tbl : Nat) (key : List Byte) : Nat × Nat :=
  let s := leB 1 tbl ++ key
  let seed := d.rdN rFWD_HASH_SEED
  let h0 := crc32From polyC seed s % 2 ^ 18
  let h1 := crc32From polyE seed s % 2 ^ 18
  (h0, if h1 = h0 then Nat.xor h0 1 else h1)

/-- The first overflow slot's key in the slot map. -/
def ovfBase : Nat := 0x100000

/-- A slot is taken: it holds an entry, or it is the second slot of a wide one. -/
def Dev.slotTaken (d : Dev) (k : Nat) : Bool :=
  (d.slotF k).isSome || (k % 2 == 1 && (match d.slotF (k - 1) with | some e => e.wide | none => false))

/-- The lowest free slot of a bucket, or for a wide entry the lowest free aligned pair. -/
def Dev.freeSlot (d : Dev) (b : Nat) (wide : Bool) : Option Nat :=
  if wide then ([0, 2].find? (fun s => !(d.slotTaken (4 * b + s)) && !(d.slotTaken (4 * b + s + 1)))).map (fun s => 4 * b + s)
  else ((List.range 4).find? (fun s => !(d.slotTaken (4 * b + s)))).map (fun s => 4 * b + s)

/-- The lowest free overflow slot, or aligned pair. -/
def Dev.freeOvf (d : Dev) (wide : Bool) : Option Nat :=
  let n := (d.fwd.slots.filter (fun e => decide (ovfBase ≤ e.1))).length
  let fits := fun (s : Nat) => decide (s + b2n wide < 8192) && !(d.slotTaken (ovfBase + s)) && (!wide || (s % 2 == 0 && !(d.slotTaken (ovfBase + s + 1))))
  ((List.range (2 * n + 3)).find? fits).map (fun s => ovfBase + s)

/-- The place of a key: in a candidate bucket or in the overflow store. -/
def Dev.fwdFind (d : Dev) (tbl : Nat) (key : List Byte) : Option Nat :=
  let wide := d.tblKind tbl == 1
  let hit := fun (k : Nat) => match d.slotF k with | some e => e.tbl == tbl && e.wide == wide && e.key == key | none => false
  let b := d.buckets tbl key
  ((List.range 4).map (fun s => 4 * b.1 + s) ++ (List.range 4).map (fun s => 4 * b.2 + s) ++
    (d.fwd.slots.filter (fun e => decide (ovfBase ≤ e.1))).map Prod.fst).find? hit

/-- The tenant that PORT charges: that of a tree channel (R365). -/
def Dev.portTenant (d : Dev) (port : Nat) : Option Nat :=
  if nbits port 31 30 = 0 then
    let r := d.chan (port % 2 ^ 20)
    if r.valid && decide (r.tenant < 16) then some r.tenant else none
  else none

/-- Count an entry in or out of its tenant's USE. -/
def Dev.useEntry (d : Dev) (e : FwdEnt) (into : Bool) : Dev :=
  match e.learned, d.portTenant e.port with
  | true, some n =>
    let u := d.get (rFWD_TEN_USE n) fFWD_TEN_USE_USE
    d.put (rFWD_TEN_USE n) fFWD_TEN_USE_USE (if into then u + 1 else u - 1)
  | _, _ => d

/-- Show the counts of entries and slots in use. -/
def Dev.fwdShow (d : Dev) : Dev :=
  let size := fun (e : Nat × Option FwdEnt) => match e.2 with | some x => 1 + b2n x.wide | none => 0
  let d := d.put rFWD_EXACT_USED fFWD_EXACT_USED_SLOTS (((d.fwd.slots.filter (fun e => decide (e.1 < ovfBase))).map size).sum)
  let d := d.put rFWD_STATUS fFWD_STATUS_OVF_USED (((d.fwd.slots.filter (fun e => decide (ovfBase ≤ e.1))).map size).sum)
  let d := d.put rFWD_PFX4_USED fFWD_PFX4_USED_USED (d.fwd.pfx.filter (fun p => d.tblKind p.tbl == 3)).length
  let d := d.put rFWD_PFX6_USED fFWD_PFX6_USED_USED (d.fwd.pfx.filter (fun p => d.tblKind p.tbl == 4)).length
  (List.range 16).foldl (fun d n => d.put (rFWD_TBL_USED n) fFWD_TBL_USED_USED
    ((d.fwd.slots.filter (fun e => match e.2 with | some x => x.tbl == n | none => false)).length +
     (d.fwd.pfx.filter (fun p => p.tbl == n)).length)) d

/-- Write an entry into a slot. -/
def Dev.placeEnt (d : Dev) (k : Nat) (e : FwdEnt) : Dev := (d.setSlotF k (some e)).useEntry e true

/-- Clear a slot's entry. -/
def Dev.clearEnt (d : Dev) (k : Nat) : Dev :=
  match d.slotF k with
  | some e => (d.useEntry e false).setSlotF k none
  | none => d

/-- Move an entry to a free slot (R359). -/
def Dev.moveEnt (d : Dev) (k k' : Nat) : Dev :=
  match d.slotF k with
  | some e =>
    let d := (d.setSlotF k' (some e)).setSlotF k none
    (d.bump (rFWD_CNT 4)).setEpochOf e.tbl (d.epochOf e.tbl + 1)
  | none => d

/-- The other candidate bucket of a narrow entry in a bucket. -/
def Dev.otherBucket (d : Dev) (e : FwdEnt) (b : Nat) : Nat :=
  let c := d.buckets e.tbl e.key
  if c.1 = b then c.2 else c.1

/-- Step 3 of R358: the first narrow entry of the two buckets whose other bucket has a free slot. -/
def Dev.oneMove (d : Dev) (b0 b1 : Nat) : Option (List (Nat × Nat)) :=
  ((List.range 4).map (fun s => (b0, 4 * b0 + s)) ++ (List.range 4).map (fun s => (b1, 4 * b1 + s))).findSome? (fun x =>
    match d.slotF x.2 with
    | some e => if e.wide then none else (d.freeSlot (d.otherBucket e x.1) false).map (fun f => [(x.2, f)])
    | none => none)

/-- Step 4 of R358: the walk from the H0 bucket; the moves found, in the order they are carried out. -/
def Dev.walk (d : Dev) (h0 : Nat) : Nat → Nat → List Nat → List Nat → Option (List (Nat × Nat))
  | 0, _, _, _ => none
  | n + 1, cur, seen, path =>
    let i := path.length
    let order := (List.range 4).map (fun j => 4 * cur + (i + h0 % 4 + j) % 4)
    match order.findSome? (fun k => match d.slotF k with | some e => if e.wide then none else some (k, e) | none => none) with
    | none => none
    | some (k, e) =>
      let next := d.otherBucket e cur
      match d.freeSlot next false with
      | some f => some ((k, f) :: ((path.zip (k :: path)).map (fun p => (p.1, p.2))))
      | none => if seen.contains next then none else Dev.walk d h0 n next (next :: seen) (k :: path)

/-- Insert an entry whose key is absent (R358-R360): where it went (0 H0 bucket, 1 H1 bucket, 2 overflow), the moves made,
and its slot; none where no place is found. -/
def Dev.fwdPlace (d : Dev) (e : FwdEnt) (noMove : Bool) : Option (Nat × Nat × Nat) × Dev :=
  let b := d.buckets e.tbl e.key
  match d.freeSlot b.1 e.wide, d.freeSlot b.2 e.wide with
  | some k, _ => (some (0, 0, k), (d.placeEnt k e).fwdShow)
  | none, some k => (some (1, 0, k), (d.placeEnt k e).fwdShow)
  | none, none =>
    let path := if e.wide || noMove then none else (d.oneMove b.1 b.2).orElse (fun _ => d.walk b.1 8 b.1 [b.1] [])
    match path with
    | some ms =>
      let k := (ms.getLast?.map Prod.fst).getD 0
      let d := ms.foldl (fun d m => d.moveEnt m.1 m.2) d
      (some (if k / 4 = b.1 then 0 else 1, ms.length, k), (d.placeEnt k e).fwdShow)
    | none =>
      match d.freeOvf e.wide with
      | some k => (some (2, 0, k), (d.placeEnt k e).fwdShow)
      | none => (none, (d.mark rFWD_ERR fFWD_ERR_OVF_FULL).alertOnce 0x0B01 e.tbl (p4 e.tbl))

/-- Delete every entry that passes a test; how many (R378). -/
def Dev.fwdFlush (d : Dev) (p : FwdEnt → Bool) : Nat × Dev :=
  let ks := (d.fwd.slots.filter (fun e => match e.2 with | some x => p x | none => false)).map Prod.fst
  let d := ks.foldl Dev.clearEnt d
  (ks.length, (d.bumpBy (rFWD_CNT 10) ks.length).fwdShow)

/-- A channel is removed (R366): the entries whose PORT names it go from every table. -/
def Dev.fwdChanGone (d : Dev) (c : Nat) : Dev := (d.fwdFlush (fun e => e.port == c)).2

/-! Memory errors (R374). -/

/-- Errors that a reading of the memories finds. -/
def Dev.memErrs (d : Dev) (corr : Nat) (errs : List MemErr) : Dev :=
  let d := if corr = 0 then d else d.bumpBy (rFWD_CNT 11) corr
  errs.foldl (fun d x =>
    let d := (d.mark rFWD_ERR fFWD_ERR_MEM_FAULT).alert 0x0B04 (p4 x.mem ++ p4 x.idx)
    if x.mem = 2 then
      { d with fwd := { d.fwd with pfx := d.fwd.pfx.zipIdx.map (fun p => if x.lost.contains p.2 then { p.1 with lost := true } else p.1) } }
    else
      let k := if x.mem = 0 then x.idx else ovfBase + x.idx
      let k := if k % 2 = 1 ∧ (d.slotF k).isNone ∧ d.slotTaken k then k - 1 else k
      (d.setSlotF k none).fwdShow) d

/-! The prefix trie (R370). -/

/-- A prefix's place in the order of a walk: VRF, address, length. -/
def PfxEnt.order (p : PfxEnt) : Nat := (p.vrf * 2 ^ 128 + beAt p.addr 0 p.addr.length) * 256 + p.len

/-- A prefix matches an address. -/
def PfxEnt.covers (p : PfxEnt) (tbl vrf : Nat) (addr : List Byte) : Bool :=
  let w := 8 * addr.length
  p.tbl == tbl && p.vrf == vrf && beAt p.addr 0 addr.length / 2 ^ (w - p.len) == beAt addr 0 addr.length / 2 ^ (w - p.len)

/-- The longest prefix of a table that matches an address; none where the walk meets a faulted node. -/
def Dev.pfxLongest (d : Dev) (tbl vrf : Nat) (addr : List Byte) : Option PfxEnt :=
  ((d.fwd.pfx.filter (fun p => p.covers tbl vrf addr)).foldl (fun (b : Option PfxEnt) p =>
    match b with | some q => if q.len < p.len then some p else b | none => some p) none).filter (fun p => !p.lost)

/-- The exact prefix. -/
def Dev.pfxFind (d : Dev) (tbl vrf : Nat) (addr : List Byte) (len : Nat) : Option PfxEnt :=
  d.fwd.pfx.find? (fun p => p.tbl == tbl && p.vrf == vrf && p.addr == addr && p.len == len)

/-- Remove the exact prefix. -/
def Dev.pfxDel (d : Dev) (tbl vrf : Nat) (addr : List Byte) (len : Nat) : Dev :=
  ({ d with fwd := { d.fwd with pfx := d.fwd.pfx.filter (fun p => !(p.tbl == tbl && p.vrf == vrf && p.addr == addr && p.len == len)) } }).fwdShow

/-- Room for one more prefix of a table's family (R370). -/
def Dev.pfxRoom (d : Dev) (tbl : Nat) : Bool :=
  let n := (d.fwd.pfx.filter (fun p => d.tblKind p.tbl == d.tblKind tbl)).length
  decide (n < if d.tblKind tbl = 3 then 1048576 else 262144)

/-- Add a prefix. -/
def Dev.pfxAdd (d : Dev) (p : PfxEnt) : Dev := ({ d with fwd := { d.fwd with pfx := d.fwd.pfx ++ [p] } }).fwdShow

/-! Lookups (R361, R362). -/

/-- An exact lookup: the entry, with HIT set. -/
def Dev.fwdLook (d : Dev) (tbl : Nat) (key : List Byte) : Option FwdEnt × Dev :=
  match d.fwdFind tbl key with
  | none => (none, d)
  | some k => match d.slotF k with
    | some e => (some e, d.setSlotF k (some { e with hit := true }))
    | none => (none, d)

/-! Learning (R363-R365). -/

/-- A learn request joins the queue (R364). -/
def Dev.learnJoin (d : Dev) (r : LearnReq) : Dev :=
  let q := d.fwd.learnQ
  if q.any (fun x => x.tbl == r.tbl && x.key == r.key) then
    { d with fwd := { d.fwd with learnQ := q.map (fun x => if x.tbl == r.tbl && x.key == r.key then r else x) } }
  else if q.length < 4096 then { d with fwd := { d.fwd with learnQ := q ++ [r] } }
  else ((d.bump (rFWD_CNT 5)).mark rFWD_ERR fFWD_ERR_LEARN_DROP).alertOnce 0x0B02 0 (p4 r.tbl)

/-- The learn lookup of a bridge table (R363). -/
def Dev.learnLook (d : Dev) (r : LearnReq) : Dev :=
  match d.fwdLook r.tbl r.key with
  | (none, d) => d.learnJoin r
  | (some e, d) => if e.port = r.port then d else if e.static then d.bump (rFWD_CNT 8) else d.learnJoin r

/-- A tenant's learned entries have reached its limit (R365). -/
def Dev.learnFull (d : Dev) (port : Nat) : Option Nat :=
  match d.portTenant port with
  | some n => if d.get (rFWD_TEN_LIMIT n) fFWD_TEN_LIMIT_LIMIT ≤ d.get (rFWD_TEN_USE n) fFWD_TEN_USE_USE then some n else none
  | none => none

/-- A learn is refused (R365). -/
def Dev.learnRefused (d : Dev) (n : Nat) : Dev :=
  ((d.bump (rFWD_CNT 7)).mark rFWD_ERR fFWD_ERR_LEARN_LIMITED).alertOnce 0x0B03 n (p4 n)

/-- The engine takes one learn request (R364). -/
def Dev.learnTake (d : Dev) (r : LearnReq) : Dev :=
  if !(d.tblEn r.tbl) then d else
  match d.fwdFind r.tbl r.key with
  | some k => match d.slotF k with
    | none => d
    | some e =>
      if e.port = r.port then d
      else if e.static then d.bump (rFWD_CNT 8)
      else match (if d.portTenant e.port = d.portTenant r.port ∨ !e.learned then none else d.learnFull r.port) with
        | some n => d.learnRefused n
        | none => ((d.useEntry e false).placeEnt k { e with port := r.port }).bump (rFWD_CNT 3)
  | none => match d.learnFull r.port with
    | some n => d.learnRefused n
    | none =>
      match d.fwdPlace ⟨r.tbl, r.key, 0, true, false, true, false, r.port⟩ false with
      | (some _, d) => d.bump (rFWD_CNT 2)
      | (none, d) => d.bump (rFWD_CNT 6)

/-! Aging (R367-R369). -/

/-- The sweep may delete entries of a table (R368). -/
def Dev.sweepDeletes (d : Dev) (n : Nat) : Bool := decide (1 ≤ d.fwd.passes) && decide (d.ageFrom n ≤ d.fwd.passes)

/-- The sweep visits one slot. -/
def Dev.sweepSlot (d : Dev) (k : Nat) : Dev :=
  match d.slotF k with
  | none => d
  | some e =>
    if e.static || !(d.bit (rFWD_TBL_CFG e.tbl) fFWD_TBL_CFG_AGE_EN) then d
    else if e.hit then d.setSlotF k (some { e with hit := false })
    else if d.sweepDeletes e.tbl then (d.clearEnt k).bump (rFWD_CNT 9)
    else d

/-- The sweep visits an overflow slot: as any, and the entry moves into a candidate bucket with a free slot. -/
def Dev.sweepOvf (d : Dev) (k : Nat) : Dev :=
  let d := d.sweepSlot k
  match d.slotF k with
  | none => d
  | some e =>
    let b := d.buckets e.tbl e.key
    match (d.freeSlot b.1 e.wide).orElse (fun _ => d.freeSlot b.2 e.wide) with
    | some k' => d.moveEnt k k'
    | none => d

/-- Count every tenant's learned entries afresh (R374). -/
def Dev.fwdRecount (d : Dev) : Dev :=
  let d := (List.range 16).foldl (fun d n => d.put (rFWD_TEN_USE n) fFWD_TEN_USE_USE 0) d
  d.fwd.slots.foldl (fun d e => match e.2 with | some x => d.useEntry x true | none => d) d

/-- The sweep visits its next bucket, and after every 32nd an overflow slot. -/
def Dev.sweepVisit (d : Dev) : Dev :=
  let b := d.fwd.sweepAt
  let d := (List.range 4).foldl (fun d s => d.sweepSlot (4 * b + s)) d
  let d := if b % 32 = 0 then d.sweepOvf (ovfBase + b / 32) else d
  if b + 1 < 262144 then ({ d with fwd := { d.fwd with sweepAt := b + 1 } }).fwdShow
  else
    let d := { d with fwd := { d.fwd with sweepAt := 0, passes := d.fwd.passes + 1 } }
    (d.fwdRecount.mark rFWD_STATUS fFWD_STATUS_FIRST_PASS).fwdShow

/-! Configuration (R354, R356). -/

/-- A table's new configuration is refused. -/
def Dev.tblRefused (d : Dev) (n cfg lo hi : Nat) : Bool :=
  let old := d.rdN (rFWD_TBL_CFG n)
  let f := fun (w : Nat) => (fieldOf w fFWD_TBL_CFG_KIND, fieldOf w fFWD_TBL_CFG_VID_ONLY, fieldOf w fFWD_TBL_CFG_VRF_EN)
  let kind := fieldOf cfg fFWD_TBL_CFG_KIND
  let sel := popcount lo 32 + popcount hi 32
  let moves := f old != f cfg || d.rdN (rFWD_TBL_SELECT_LO n) != lo || d.rdN (rFWD_TBL_SELECT_HI n) != hi
  (moves && d.get (rFWD_TBL_USED n) fFWD_TBL_USED_USED != 0) || decide (4 < kind) ||
    (kind == 0 && decide (8 < sel)) || (kind == 1 && decide (20 < sel))

/-- Write a table's configuration whole. -/
def Dev.tblSet (d : Dev) (n cfg lo hi : Nat) : Dev :=
  let was := d.bit (rFWD_TBL_CFG n) fFWD_TBL_CFG_AGE_EN
  let d := ((d.access (rFWD_TBL_CFG n) cfg).wrN (rFWD_TBL_SELECT_LO n) lo).wrN (rFWD_TBL_SELECT_HI n) hi
  if !was && d.bit (rFWD_TBL_CFG n) fFWD_TBL_CFG_AGE_EN then
    d.setAgeFrom n (d.fwd.passes + (if d.fwd.sweepAt = 0 then 1 else 2))
  else d

/-- Write one of a table's three registers: 0 CFG, 1 SELECT_LO, 2 SELECT_HI. -/
def Dev.writeTbl (d : Dev) (n w v : Nat) : Dev :=
  let cfg := if w = 0 then v else d.rdN (rFWD_TBL_CFG n)
  let lo := if w = 1 then v else d.rdN (rFWD_TBL_SELECT_LO n)
  let hi := if w = 2 then v else d.rdN (rFWD_TBL_SELECT_HI n)
  if d.tblRefused n cfg lo hi then d.mark rFWD_ERR fFWD_ERR_CFG_BUSY else d.tblSet n cfg lo hi

/-- Write FWD_HASH_SEED (R356). -/
def Dev.writeSeed (d : Dev) (v : Nat) : Dev :=
  if (List.range 16).any (fun n => d.tblExact n && d.get (rFWD_TBL_USED n) fFWD_TBL_USED_USED != 0) then
    d.mark rFWD_ERR fFWD_ERR_CFG_BUSY
  else d.wrN rFWD_HASH_SEED v

end Sys2Proof.Machine
end

