-- ==== Sys2Proof/Machine/GlkOps.lean ====
section
/-! DEFINITION. The Gellen ports' receive side, link transitions, and the DMA rings (19_gellen.md R546-R556, R570-R575),
with the entry of a packet to the Colander (11_colander.md R341). -/

namespace Sys2Proof.Machine

/-! Entering the Colander. -/

/-- A packet enters the Colander: it is counted and stamped with the current Edition's slot (11_colander.md R341). -/
def Dev.colEnter (d : Dev) (p : Pkt) : Dev :=
  let ten := if p.tenant < 16 then p.tenant else 16
  let d := ((d.bump (rCOL_CNT 0)).evc 0x0100 1 { req := some ten }).evc 0x0101 p.bytes.length { req := some ten }
  let k := d.curSlot
  let e := d.ed k
  let d := d.setEd k { e with inflight := e.inflight + 1 }
  { d with col := { d.col with queue := d.col.queue ++ [{ pkt := p, slot := k, pass := 0, recirc := false }] } }

/-! DMA rings (R570-R573). -/

/-- Descriptors of a ring: 6-16 bits of them. -/
def Dev.ringSize (d : Dev) (r : Nat) : Nat := 2 ^ max 6 (min 16 (d.get (rGLK_RING_CTRL r) fGLK_RING_CTRL_SIZE_LOG2))

/-- HEAD of a ring. -/
def Dev.ringHead (d : Dev) (r : Nat) : Nat := d.get (rGLK_RING_HEAD r) fGLK_RING_HEAD_HEAD

/-- Descriptors the device owns: from HEAD to TAIL - 1 (R571). -/
def Dev.ringOwned (d : Dev) (r : Nat) : Nat :=
  (d.get (rGLK_RING_TAIL r) fGLK_RING_TAIL_TAIL + d.ringSize r - d.ringHead r % d.ringSize r) % d.ringSize r

/-- The host address of a descriptor. -/
def Dev.ringAddr (d : Dev) (r i : Nat) : Nat := d.rd64 (rGLK_RING_BASE_LO r) (rGLK_RING_BASE_HI r) + 16 * (i % d.ringSize r)

/-- The ring runs: enabled and not stopped. -/
def Dev.ringRuns (d : Dev) (r : Nat) : Bool :=
  d.bit (rGLK_RING_CTRL r) fGLK_RING_CTRL_EN && !(d.bit (rGLK_RING_CTRL r) fGLK_RING_CTRL_STOPPED)

/-- The port a ring uses now: the one in use, or with FAILOVER the other where that one is not UP (R570). -/
def Dev.ringPort (d : Dev) (r : Nat) : Option Nat :=
  let p := (d.ring r).port
  if d.portState p = 4 then some p
  else if d.bit (rGLK_RING_CTRL r) fGLK_RING_CTRL_FAILOVER && d.portState (1 - p) == 4 then some (1 - p)
  else none

/-- Send a DMA_WRITE of at most 4,096 bytes. -/
def Dev.dmaWrite (d : Dev) (p r addr : Nat) (bs : List Byte) : Dev :=
  d.send p 0x82 (leB 8 addr ++ leB 2 bs.length ++ leB 1 r ++ leB 5 0 ++ bs)

/-- Send the data of a buffer in pieces of at most 4,096 bytes. -/
def Dev.dmaWrites (d : Dev) (p r addr : Nat) (bs : List Byte) : Dev :=
  (List.range ((bs.length + 4095) / 4096)).foldl (fun d i => d.dmaWrite p r (addr + 4096 * i) ((bs.drop (4096 * i)).take 4096)) d

/-- Send a DMA_READ, whose completion the ring then waits for. -/
def Dev.dmaRead (d : Dev) (p r addr bytes : Nat) (desc : Bool) : Dev :=
  let tag := d.glk.nextTag
  let d := { d with glk := { d.glk with nextTag := (tag + 1) % 65536 } }
  let d := d.updRing r (fun x => { x with tag := some tag, fetchDesc := desc, port := p })
  d.send p 0x83 (leB 8 addr ++ leB 2 bytes ++ leB 2 tag ++ leB 1 r ++ leB 3 0)

/-- Send a RING_EVENT where descriptors have completed since the last (R572). -/
def Dev.ringEvent (d : Dev) (r : Nat) : Dev :=
  if (d.ring r).since = 0 then d else
  match d.ringPort r with
  | none => d
  | some p => (d.updRing r (fun x => { x with since := 0 })).send p 0x92 (leB 1 r ++ leB 3 0 ++ leB 4 (d.ringHead r))

/-- Descriptors have completed: HEAD advances, and COUNT of them send an event. -/
def Dev.ringAdvance (d : Dev) (r n : Nat) : Dev :=
  let d := d.put (rGLK_RING_HEAD r) fGLK_RING_HEAD_HEAD ((d.ringHead r + n) % d.ringSize r)
  let d := d.updRing r (fun x => { x with since := x.since + n })
  if max 1 (d.get (rGLK_RING_COAL r) fGLK_RING_COAL_COUNT) ≤ (d.ring r).since then d.ringEvent r else d

/-- Fill posted buffers in order with the bytes of a delivery: the buffers used, each with its bytes. -/
def fillBuffers : List (Nat × Nat) → List Byte → List (Nat × List Byte)
  | [], _ => []
  | (a, n) :: ps, bs => if bs.isEmpty then [] else (a, bs.take n) :: fillBuffers ps (bs.drop n)

/-- A delivery that does not fit is discarded whole (R572). -/
def Dev.ringDrop (d : Dev) (r : Nat) : Dev :=
  ((d.bump (rGLK_RING_DROP r)).mark rGLK_ERR fGLK_ERR_RING_DROP).alertOnce 0x1205 r (p4 r)

/-- Write one delivery to the host: the data, then each descriptor with DONE, and END on the last (R572). -/
def Dev.ringWrite (d : Dev) (p r : Nat) (bs : List Byte) : Dev :=
  let used := fillBuffers (d.ring r).posted bs
  let h := d.ringHead r
  let d := d.updRing r (fun x => { x with port := p, posted := x.posted.drop used.length })
  let d := used.foldl (fun d u => d.dmaWrites p r u.1 u.2) d
  let d := used.zipIdx.foldl (fun d u =>
    d.dmaWrite p r (d.ringAddr r (h + u.2)) (leB 8 u.1.1 ++ leB 2 u.1.2.length ++ leB 2 (1 + 2 * b2n (u.2 + 1 == used.length)) ++
      leB 4 d.tickNow)) d
  d.ringAdvance r used.length

/-- Fetch the descriptors the host has handed over and the device has not yet read, up to the ring's end. -/
def Dev.ringFetch (d : Dev) (r : Nat) : Dev :=
  let x := d.ring r
  let have_ := x.posted.length
  if x.tag.isSome || !(d.ringRuns r) || decide (d.ringOwned r ≤ have_) then d else
  match d.ringPort r with
  | none => d
  | some p =>
    let i := (d.ringHead r + have_) % d.ringSize r
    let n := min (min 256 (d.ringOwned r - have_)) (d.ringSize r - i)
    d.dmaRead p r (d.ringAddr r i) (16 * n) true

/-- Take the waiting deliveries of a ring, in order, as far as descriptors have been read and its port is UP. -/
def Dev.ringServe (d : Dev) (r : Nat) : List (List Byte) → Dev
  | [] => d
  | bs :: rest =>
    let x := d.ring r
    let rest' := (d.updRing r (fun x => { x with waits := bs :: rest }))
    if !(d.ringRuns r) then (d.ringDrop r).ringServe r rest
    else if x.tag.isSome || decide (x.posted.length < d.ringOwned r) then rest'.ringFetch r
    else
      match d.ringPort r with
      | none => rest'
      | some p =>
        if (x.posted.map Prod.snd).sum < bs.length then (d.ringDrop r).ringServe r rest
        else (d.ringWrite p r bs).ringServe r rest

/-- Deliver bytes to the host on a ring (R338, R572). -/
def Dev.ringDeliver (d : Dev) (r : Nat) (bs : List Byte) : Dev :=
  let w := (d.ring r).waits ++ [bs]
  (d.updRing r (fun x => { x with waits := [] })).ringServe r w

/-- Take the waiting deliveries of a ring again. -/
def Dev.ringAgain (d : Dev) (r : Nat) : Dev :=
  let w := (d.ring r).waits
  ((d.updRing r (fun x => { x with waits := [] })).ringServe r w).ringFetch r

/-- Bytes of the packet of a ring of rings 16-23. -/
def RingX.total (x : RingX) : Nat := (x.descs.map (fun e => e.2.1)).sum

/-- The packet's last descriptor has been read. -/
def RingX.whole (x : RingX) : Bool := match x.descs.getLast? with | some e => e.2.2 | none => false

/-- Bytes a packet from the host may have (R573). -/
def hostLenOk (n : Nat) : Bool := decide (14 ≤ n) && decide (n ≤ 16352)

/-- A host packet is whole, or out of range (R573): it enters the Colander, DONE is written, and HEAD advances. -/
def Dev.ringFinish (d : Dev) (p r : Nat) : Dev :=
  let x := d.ring r
  let ok := hostLenOk x.total
  let h := d.ringHead r
  let d := d.setRing r { x with descs := [], data := [], port := p }
  let d := if ok then
      d.colEnter ⟨x.data ++ leB 4 (crc32 x.data), 0x1F, 0xC0 + 8 + (r - 16), none, 0, false, none, 0, []⟩
    else d
  let d := x.descs.zipIdx.foldl (fun d e =>
    d.dmaWrite p r (d.ringAddr r (h + e.2)) (leB 8 e.1.1 ++ leB 2 e.1.2.1 ++ leB 2 (1 + 2 * b2n e.1.2.2 + 4 * b2n !ok) ++ leB 4 0)) d
  d.ringAdvance r x.descs.length

/-- Where the next bytes of a packet are: the host address and how many are left in that buffer. -/
def nextPiece : List (Nat × Nat × Bool) → Nat → Option (Nat × Nat)
  | [], _ => none
  | (a, n, _) :: ds, got => if got < n then some (a + got, n - got) else nextPiece ds (got - n)

/-- A ring from the host goes on: finish its packet where it is whole, then read what comes next (R573). -/
def Dev.ringGo (d : Dev) (r : Nat) : Dev :=
  if (d.ring r).tag.isSome || !(d.ringRuns r) then d else
  match d.ringPort r with
  | none => d
  | some p =>
    let x := d.ring r
    let d := if x.whole && (!(hostLenOk x.total) || decide (x.total ≤ x.data.length)) then d.ringFinish p r else d
    let x := d.ring r
    if x.whole then
      match nextPiece x.descs x.data.length with
      | some (a, n) => d.dmaRead p r a (min 4096 n) false
      | none => d
    else if x.descs.length < d.ringOwned r then d.dmaRead p r (d.ringAddr r (d.ringHead r + x.descs.length)) 16 true
    else d

/-- A ring goes on, whichever way it carries. -/
def Dev.ringStep (d : Dev) (r : Nat) : Dev := if r < 16 then d.ringAgain r else d.ringGo r

/-- A ring stops (R573). -/
def Dev.ringFault (d : Dev) (r : Nat) : Dev :=
  ((d.updRing r (fun x => { x with tag := none })).put (rGLK_RING_CTRL r) fGLK_RING_CTRL_STOPPED 1).mark rGLK_ERR fGLK_ERR_RING_FAULT

/-- The host answers a DMA_READ of a ring: its descriptors, or a packet's data (R571, R573). -/
def Dev.ringData (d : Dev) (r : Nat) (bs : List Byte) : Dev :=
  let x := d.ring r
  let desc := fun (i : Nat) => (leAt bs (16 * i) 8, leAt bs (16 * i + 8) 2, nbit (byteAt bs (16 * i + 10)) 1)
  let d :=
    if r < 16 then
      d.setRing r { x with tag := none, posted := x.posted ++ (List.range (bs.length / 16)).map (fun i => ((desc i).1, (desc i).2.1)) }
    else if x.fetchDesc then d.setRing r { x with tag := none, descs := x.descs ++ [desc 0] }
    else d.setRing r { x with tag := none, data := x.data ++ bs }
  d.ringStep r

/-- A port that leaves UP cuts short what the rings read through it: they read it again (R555). -/
def Dev.ringsCut (d : Dev) (p : Nat) : Dev :=
  (List.range 24).foldl (fun d r =>
    if (d.ring r).port = p then (d.updRing r (fun x => { x with tag := none, descs := [], data := [] })).ringStep r else d) d

/-! The ports (R548-R556). -/

/-- Enter a state. -/
def Dev.setPortState (d : Dev) (p st : Nat) : Dev := d.put rGLK_STATUS (fPortState p) st

/-- Leave ALIGN, WAIT_FAR or UP for OFF or LOCK (R552, R555): what is unacknowledged is discarded. Where every lane is
still locked, LOCK is left for ALIGN at once. -/
def Dev.portFall (d : Dev) (p st : Nat) : Dev :=
  let was := d.portState p
  let x := d.port p
  let d := d.setPort p { locked := x.locked }
  let d := d.setPortState p (if st = 1 ∧ x.locked = 15 then 2 else st)
  if was = 4 then ((d.mark rGLK_ERR fGLK_ERR_LINK_DOWN).alert 0x1201 (p4 p ++ p4 was)).ringsCut p else d

/-- Enter UP (R552, R556, R575): counters and credits begin, and every alert not acknowledged is sent again. -/
def Dev.portUp (d : Dev) (p : Nat) : Dev :=
  let x := d.port p
  let d := (d.setPort p { locked := x.locked, marks := x.marks, ready := x.ready, rxReady := true, limit := [1024, 1024, 1024] }).setPortState p 4
  let ack := d.get rGLK_ALERT_ACK fGLK_ALERT_ACK_SEQ
  let newest := d.get rGLK_ALERT_SEQ fGLK_ALERT_SEQ_SEQ
  let after := (d.glk.log.filter (fun a => decide ((newest + 65536 - a.seq) % 65536 < (newest + 65536 - ack) % 65536))).reverse
  let d := (List.range 3).foldl (fun d c => d.emit .glkCredit p [c, 4096] []) d
  let d := after.foldl (fun d a => (d.send p 0x90 a.body).bump (rGLK_CNT 6)) d
  (List.range 24).foldl (fun d r => d.ringStep r) (d.alert 0x1202 (p4 p))

/-- Send an ACK: the last SEQ accepted, or 0xFFFF before the first (R555). -/
def Dev.sendAck (d : Dev) (p : Nat) (nak : Bool) : Dev :=
  let x := d.port p
  d.emit .glkAck p [if x.rxAny then (x.rxNext + 65535) % 65536 else 0xFFFF, b2n nak] []

/-- A transaction arrives (R553, R555, R556): whether it is accepted. -/
def Dev.receive (d : Dev) (p seq cls words : Nat) (sound : Bool) : Bool × Dev :=
  if d.portState p ≠ 4 then (false, d) else
  let x := d.port p
  let ahead := (seq + 65536 - x.rxNext) % 65536
  let nak := fun (d : Dev) => if x.nakSent then d else (d.setPort p { x with nakSent := true }).sendAck p true
  if !sound then (false, nak ((d.bump (rGLK_CNT 2)).mark rGLK_ERR fGLK_ERR_CRC))
  else if ahead = 0 then
    let lim := (x.offer.getD cls 0 + words) % 2 ^ 32
    let d := d.setPort p { x with rxNext := (seq + 1) % 65536, rxAny := true, nakSent := false, offer := x.offer.set cls lim }
    (true, ((d.bump (rGLK_CNT 1)).sendAck p false).emit .glkCredit p [cls, lim] [])
  else if 32768 ≤ ahead then (false, d.sendAck p false)
  else (false, nak d)

/-- A transaction whose REQUESTER or address is not allowed has no effect but its acceptance (R553). -/
def Dev.badReq (d : Dev) : Dev := (d.bump (rGLK_CNT 5)).mark rGLK_ERR fGLK_ERR_BAD_REQ

/-- Send again every unacknowledged transaction, in order (R555); a fourth time without progress the port falls (R552). -/
def Dev.replay (d : Dev) (p : Nat) : Dev :=
  let x := d.port p
  if x.noProgress + 1 ≥ 4 then ((d.bump (rGLK_CNT 3)).mark rGLK_ERR fGLK_ERR_REPLAY_FAIL).portFall p 1
  else
    let d := (d.setPort p { x with noProgress := x.noProgress + 1 }).bump (rGLK_CNT 3)
    x.store.foldl (fun d t => d.emit .gellen p [t.typ, t.seq] t.wire) d

end Sys2Proof.Machine
end

