-- ==== Sys2Proof/Machine/TickOps.lean ====
section
/-! DEFINITION. Requests bound to a tick boundary: for the next one and for a target tick (01_tick.md R19-R24). -/

namespace Sys2Proof.Machine

/-- A slot is PENDING (11_colander.md R344). -/
def Dev.pendSlot (d : Dev) : Option Nat := (List.range 4).find? (fun i => (d.ed i).state == 1)

/-- The cut-off of the tick in progress has passed (R18). -/
def Dev.cutOff (d : Dev) : Bool := d.bit rTICK_STATUS fTICK_STATUS_CUTOFF

/-- The tick whose boundary a request for the next boundary takes effect at (R19). -/
def Dev.nextEffect (d : Dev) : Nat := d.tickNow + (if d.cutOff then 2 else 1)

/-- Show the pending bits of TICK_REQ and TICK_TREQ. -/
def Dev.showReq (d : Dev) : Dev :=
  (d.wrN rTICK_REQ (Nat.lor d.tick.onTime d.tick.late)).wrN rTICK_TREQ d.tick.treq

/-- The actions of a request: an Edition change asked while none is pending does nothing and sets NO_EDITION (R22). -/
def Dev.reqActions (d : Dev) (v : Nat) : Nat × Dev :=
  let bits := v % 8
  if nbit bits 1 && d.pendSlot.isNone then (bits - 2, d.mark rTICK_ERR fTICK_ERR_NO_EDITION) else (bits, d)

/-- Request actions at the next boundary (R19). -/
def Dev.reqNext (d : Dev) (v : Nat) : Dev :=
  let r := d.reqActions v
  let t := r.2.tick
  ({ r.2 with tick := if r.2.cutOff then { t with late := Nat.lor t.late r.1 } else { t with onTime := Nat.lor t.onTime r.1 } }).showReq

/-- A target tick comes too soon or lies too far ahead (R20). -/
def Dev.targetLate (d : Dev) (target : Nat) : Bool :=
  decide (target < d.nextEffect) || decide (d.tickNow + 2 ^ 32 < target)

/-- Request actions at a target tick (R20, R21): 0 accepted or nothing to do, else the result a command returns. -/
def Dev.reqTarget (d : Dev) (v target : Nat) : Nat × Dev :=
  let r := d.reqActions v
  let d := r.2
  if r.1 = 0 then (resOk, d)
  else if d.tick.treq ≠ 0 then (resBusy, d.mark rTICK_ERR fTICK_ERR_TARGET_BUSY)
  else if d.targetLate target then (resTimeout, d.mark rTICK_ERR fTICK_ERR_TARGET_LATE)
  else (resOk, ({ d with tick := { d.tick with treq := r.1, target := target } }).showReq)

/-- A command schedules an action (R23): the result, the tick at which it takes effect, and the device. -/
def Dev.schedule (d : Dev) (bits target : Nat) : Nat × Nat × Dev :=
  if target = 0 then (resOk, d.nextEffect, d.reqNext bits)
  else let r := d.reqTarget bits target; (r.1, target, r.2)

/-- The target tick that software has written. -/
def Dev.targetReg (d : Dev) : Nat := d.rd64 rTICK_TARGET_LO rTICK_TARGET_HI

/-- A write of TICK_TREQ (R20, R21, R24). -/
def Dev.writeTreq (d : Dev) (v : Nat) : Dev := (d.reqTarget v d.targetReg).2

end Sys2Proof.Machine
end

