-- ==== Sys2Proof/Machine/UplOps.lean ====
section
/-! DEFINITION. Uplink ports: rates, the frame as it leaves the pins, the fit of a gate, and the discard of heads that
can never fit (15_uplinks.md R438-R450, 09_downstream.md R271). -/

namespace Sys2Proof.Machine

/-- Gb/s of one lane at a LANE_RATE (R438). -/
def uplLaneGb (r : Nat) : Nat := if r = 2 then 100 else if r = 1 then 50 else 25

/-- Lanes of a port by its UPL_PORT_CTRL. -/
def uplLanes (ctrl : Nat) : Nat := 2 ^ fieldOf ctrl fUPL_PORT_CTRL_LANES

/-- Gb/s of a port. -/
def Dev.uplGb (d : Dev) (u : Nat) : Nat :=
  let c := d.rdN (rUPL_PORT_CTRL u)
  uplLaneGb (fieldOf c fUPL_PORT_CTRL_LANE_RATE) * uplLanes c

/-- The port's link is UP (R441). -/
def Dev.linkUp (d : Dev) (u : Nat) : Bool := d.bit (rUPL_PORT_STATUS u) fUPL_PORT_STATUS_LINK_UP

/-- The port a lane belongs to: its first lane (R452). -/
def Dev.uplFirst (d : Dev) (u : Nat) : Nat := d.get (rUPL_PORT_STATUS u) fUPL_PORT_STATUS_FIRST_LANE

/-- The place of a queue of a port: its first lane and PRIO (R443). -/
def uplKey (u prio : Nat) : Nat := 8 * u + prio % 8

/-- Whether two bytes at a place are a VLAN tag's EtherType. -/
def isVlanAt (f : List Byte) (i : Nat) : Bool := beAt f i 2 == 0x8100 || beAt f i 2 == 0x88A8

/-- Where the EtherType after up to two VLAN tags stands. -/
def etherAt (f : List Byte) : Nat := if isVlanAt f 12 then (if isVlanAt f 16 then 20 else 16) else 12

/-- A frame with its FCS made again. -/
def withFcs (body : List Byte) : List Byte := body ++ leB 4 (crc32 body)

/-- The frame a waiting packet leaves as, before MACsec: an R-TAG goes before the EtherType of a packet with a sequence
number where RTAG_TX is 1 (R450). -/
def Dev.uplFrame (d : Dev) (u : Nat) (h : Held) : List Byte :=
  let f := h.pkt.bytes
  match h.pkt.seq, d.bit (rUPL_PORT_CTRL u) fUPL_PORT_CTRL_RTAG_TX with
  | some s, true =>
    let b := f.take (f.length - 4)
    let i := etherAt b
    withFcs (b.take i ++ beB 2 0xF1C1 ++ beB 2 0 ++ beB 2 s ++ b.drop i)
  | _, _ => f

/-- The frame leaves protected: MACSEC_EN, and not EAPOL from the processor (R445, R446). -/
def Dev.uplProtects (d : Dev) (u : Nat) (h : Held) : Bool :=
  d.bit (rUPL_PORT_CTRL u) fUPL_PORT_CTRL_MACSEC_EN && !(h.pkt.src / 64 == 3 && beAt h.pkt.bytes 12 2 == 0x888E)

/-- Bytes of a frame at the pins, its 8 preamble bytes, SecTAG and ICV in them (R444). -/
def Dev.uplWire (d : Dev) (u : Nat) (h : Held) : Nat :=
  8 + (d.uplFrame u h).length +
    (if d.uplProtects u h then (if d.bit (rUPL_PORT_CTRL u) fUPL_PORT_CTRL_TX_SCI then 32 else 24) else 0)

/-- The ns a frame takes at the pins, rounded up. -/
def Dev.uplSpan (d : Dev) (u : Nat) (h : Held) : Nat := (d.uplWire u h * 8 + d.uplGb u - 1) / d.uplGb u

/-- A port's lane as the owner of its gates. -/
def uplOwner (u : Nat) : GateOwner := .upl ⟨u % 48, Nat.mod_lt _ (by decide)⟩

/-- Discard the heads of a queue that can never fit their gate (09_downstream.md R271, 15_uplinks.md R444). -/
def Dev.uplClear (d : Dev) (u prio : Nat) : List Held → List Held × Dev
  | [] => ([], d)
  | h :: hs =>
    if d.neverFits (uplOwner u) prio (d.uplSpan u h) then
      let d := (d.dropHeld (spUplKey (uplKey u prio)) h).bump (rUPL_CNT u 7)
      let d := (d.mark (rUPL_ERR u) fUPL_ERR_GATE_TOO_LONG).alertOnce 0x0E03 u (p4 u)
      Dev.uplClear d u prio hs
    else (h :: hs, d)

/-- Clear the head of one queue of a port. -/
def Dev.uplClearQ (d : Dev) (u prio : Nat) : Dev :=
  let r := d.uplClear u prio (d.upQ (uplKey u prio))
  r.2.setUpQ (uplKey u prio) r.1

/-- Clear the heads of every queue of a port. -/
def Dev.uplClearAll (d : Dev) (u : Nat) : Dev := (List.range 8).foldl (fun d p => d.uplClearQ u p) d

/-- Discard every queued packet of a port (R441). -/
def Dev.uplDiscard (d : Dev) (u : Nat) : Dev :=
  (List.range 8).foldl (fun d p =>
    (d.upQ (uplKey u p)).foldl (fun d h => d.dropHeld (spUplKey (uplKey u p)) h) (d.setUpQ (uplKey u p) [])) d

end Sys2Proof.Machine
end

