-- ==== Sys2Proof/Machine/ColOps.lean ====
section
/-! DEFINITION. The Colander's pass: rules, dispositions, actions, exception classes, mirror sessions and lookups
(11_colander.md R328-R339, R341; 12_forwarding.md R361-R363). -/

namespace Sys2Proof.Machine

/-! Editions (R328, R332). -/

/-- A rule's image; an index no write has reached holds zeros. -/
def noEntry (n : Nat) : Nat → List Byte := fun _ => List.replicate n 0#8
/-- A rule of an Edition. -/
def ruleAt (rs : List (Nat × List Byte)) (i : Nat) : List Byte := sget (noEntry 160) rs i
/-- An action entry of an Edition. -/
def actionAt (es : List (Nat × List Byte)) (i : Nat) : List Byte := sget (noEntry 16) es i

/-- A key matches a rule's VALUE under its MASK (R328). -/
def keyMatches (rule key : List Byte) : Bool :=
  (List.range 64).all (fun i => Nat.land (byteAt key i) (byteAt rule (64 + i)) == Nat.land (byteAt rule i) (byteAt rule (64 + i)))

/-- The first rule in index order that matches a pass's keys (R328): its index and image. -/
def Edition.firstRule (e : Edition) (keys : List (List Byte)) : Option (Nat × List Byte) :=
  e.rules.find? (fun r => decide (r.1 < e.ruleCount) && nbit (byteAt r.2 128) 7 &&
    (match keys[byteAt r.2 128 % 4]? with | some k => keyMatches r.2 k | none => false))

/-- An action entry of an Edition; none where the index reaches ACTION_COUNT or the KIND is reserved (R333). -/
def Edition.action (e : Edition) (i : Nat) : Option (List Byte) :=
  if i < e.actionCount ∧ byteAt (actionAt e.actions i) 0 < 5 then some (actionAt e.actions i) else none

/-! A pass in hand. -/

/-- A packet in its pass: what its headers and its match say. -/
structure Pass where
  cp : ColPkt
  /-- the keys of the levels parsed, outermost first, and key bytes 0-2 -/
  keys : List (List Byte)
  pre : List Byte
  /-- the matched rule's index, 0xFFFF where none -/
  rule : Nat := 0xFFFF
  deriving DecidableEq, Repr

/-- The tenant of an occurrence's attributes: the owner is 16 (21_counters_test.md R609). -/
def ColPkt.who (c : ColPkt) : Nat := if c.pkt.tenant < 16 then c.pkt.tenant else 16

/-- FLOW (16_fabric.md R473): of the level-0 key. -/
def Pass.flow (x : Pass) : Nat := crc32c (slice (x.keys.headD []) 12 50) % 65536

/-- The packet leaves forwarding: its slot's in-flight count falls (R341). -/
def Dev.colLeave (d : Dev) (c : ColPkt) : Dev :=
  d.setEd c.slot { d.ed c.slot with inflight := (d.ed c.slot).inflight - 1 }

/-- The packet is discarded by the Colander or by forwarding. -/
def Dev.colGone (d : Dev) (c : ColPkt) : Dev := (d.colLeave c).evc 0x0103 1 { req := some c.who }

/-! Exception classes (R337, R338). -/

/-- The cap of a bucket in 1/8,000 packets: of a class, and 16 the aggregate (R337). -/
def Dev.excCap (d : Dev) (k : Nat) : Nat :=
  8000 * (if k < 16 then max 1 (d.get (rCOL_EXC_CTRL k) fCOL_EXC_CTRL_BURST) else d.get rCOL_EXC_AGG_BURST fCOL_EXC_AGG_BURST_BURST)

/-- Tokens of a bucket; it starts full. -/
def Dev.excTokens (d : Dev) (k : Nat) : Nat := min (d.excCap k) ((d.tokensOf k).getD (d.excCap k))

/-- A tick's share of RATE packets per second, in 1/8,000 packets. -/
def Dev.excGain (d : Dev) (k : Nat) : Nat :=
  if k < 16 then d.get (rCOL_EXC_RATE k) fCOL_EXC_RATE_RATE else d.get rCOL_EXC_AGG_RATE fCOL_EXC_AGG_RATE_RATE

/-- At a boundary every bucket gains its share. -/
def Dev.excRefill (d : Dev) : Dev :=
  d.col.tokens.foldl (fun d e =>
    let n := d.excTokens e.1 + d.excGain e.1
    d.setTokensOf e.1 (if d.excCap e.1 ≤ n then none else some n)) d

/-- A delivery that its buckets refuse is lost (R337). -/
def Dev.excLost (d : Dev) (c : Nat) : Dev :=
  let d := d.bump (rCOL_EXC_DROPPED c)
  if d.once.contains (0x0A01, 0) then d else (d.mark rCOL_ERR fCOL_ERR_EXC_DROP).alertOnce 0x0A01 0 (p4 c)

/-- The header that precedes a delivery (R338). -/
def Dev.excHeader (d : Dev) (x : Pass) (c : Nat) (copy : Bool) : List Byte :=
  leB 1 (c + 128 * b2n copy) ++ x.pre ++ leB 4 (x.cp.pkt.chan.getD 0xFFFFFFFF) ++ leB 2 x.rule ++
  leB 1 (x.cp.slot + 16 * (x.cp.pass % 4)) ++ leB 1 0 ++ leB 4 (d.tickNow % 2 ^ 32)

/-- Hand bytes to the management processor: they take a Pantry buffer of entity 97, which is free again once they are
handed over (13_stacks_pantry.md R392). -/
def Dev.toProcessor (d : Dev) (x : Pass) (kind : Nat) (bs : List Byte) (mirror : Bool) : Bool × Dev :=
  match d.admitBuf entProc x.cp.who bs.length 0 x.cp.pkt.yellow mirror with
  | (none, d) => (false, d)
  | (some b, d) => (true, (d.freeBuf b).emit .processor 0 [kind] bs)

/-- Deliver a packet, as it entered the pass, under an exception class (R337, R338). -/
def Dev.excDeliver (d : Dev) (x : Pass) (c : Nat) (copy : Bool) : Dev :=
  if d.excTokens c < 8000 ∨ d.excTokens 16 < 8000 then d.excLost c
  else
    let d := (d.setTokensOf c (some (d.excTokens c - 8000))).setTokensOf 16 (some (d.excTokens 16 - 8000))
    let d := d.bump (rCOL_EXC_SENT c)
    let bs := d.excHeader x c copy ++ x.cp.pkt.bytes ++ x.cp.pkt.trailer
    if d.bit (rCOL_EXC_CTRL c) fCOL_EXC_CTRL_TARGET then (d.toProcessor x c bs false).2 else d.ringDeliver c bs

/-- The packet is discarded and delivered under a class. -/
def Dev.colExcept (d : Dev) (x : Pass) (c : Nat) : Dev := (d.excDeliver x c false).colGone x.cp

/-! Egress. -/

/-- The VLAN operation of an action entry (R332): push, pop or replace the outer tag. -/
def vlanOp (bytes : List Byte) (w : Nat) : List Byte :=
  let f := bytes.take (bytes.length - 4)
  let op := w / 2 ^ 30 % 4
  if op = 1 then withFcs (f.take 12 ++ beB 2 0x8100 ++ beB 2 (w % 65536) ++ f.drop 12)
  else if op = 2 ∧ isVlanAt f 12 then withFcs (f.take 12 ++ f.drop 16)
  else if op = 3 ∧ isVlanAt f 12 then withFcs (patch f 14 (beB 2 (w % 65536)))
  else bytes

/-- Put a packet in an egress queue of a port (15_uplinks.md R442, R443): whether the queue took it. -/
def Dev.uplEnqueue (d : Dev) (u prio : Nat) (p : Pkt) (mirror : Bool) : Bool × Dev :=
  if 48 ≤ u then (false, d)
  else if !(d.linkUp u) then (false, d.bump (rUPL_CNT u 4))
  else
    let key := uplKey u prio
    let q := d.upQ key
    let spill := if d.bit rPAN_CTRL fPAN_CTRL_UP_SPILL_EN then some (spUplKey key, d.rdN rPAN_SPILL_UP) else none
    match d.store q spill (48 + u) (chargeTenant p.tenant) p.bytes.length prio p.yellow mirror with
    | (none, d) => (false, d.when mirror Dev.mirrorLost)
    | (some (buf, page, units), d) =>
      let e : Held := { pkt := p, buf := buf, ent := 48 + u, ten := chargeTenant p.tenant, tick := d.tickNow, ns := d.tick.now,
                        page := page, units := units, mirror := mirror }
      (true, d.setUpQ key (q ++ [e]))

/-- Hand a packet to its destination (R332, R333): KIND, TARGET, PRIO and the VLAN operation. -/
def Dev.colSend (d : Dev) (x : Pass) (kind target prio vlan : Nat) : Dev :=
  let p := if x.cp.bare = 0 then { x.cp.pkt with bytes := vlanOp x.cp.pkt.bytes vlan } else x.cp.pkt
  let handed := fun (d : Dev) => (d.colLeave x.cp).evc 0x0102 1 { req := some x.cp.who, tc := some prio }
  if kind = 1 then handed (d.uplEnqueue target prio p false).2
  else if kind = 2 then handed (d.fabSend p (target % 2 ^ 20) prio x.flow false)
  else if kind = 3 then
    if (d.chan target).valid && p.tenant != 0x1F && (d.chan target).tenant != p.tenant then (d.bump (rCOL_CNT 8)).colGone x.cp
    else handed (d.dsJoin target p prio false)
  else if kind = 4 then d.colExcept x (target % 16)
  else d.colGone x.cp

/-- A bad action index or entry (R333). -/
def Dev.colBad (d : Dev) (x : Pass) : Dev := ((d.bump (rCOL_CNT 6)).mark rCOL_ERR fCOL_ERR_BAD_ACTION).colExcept x 5

/-- Resolve an action index in the packet's own Edition and send the packet there (R331-R333). -/
def Dev.colResolve (d : Dev) (x : Pass) (i : Nat) : Dev :=
  match (d.ed x.cp.slot).action i with
  | none => d.colBad x
  | some a => d.colSend x (byteAt a 0) (leAt a 4 4) (byteAt a 1 % 8) (leAt a 8 4)

/-- A packet goes where a learned entry's PORT says, with PRIO and the VLAN operation of an action entry
(12_forwarding.md R362). -/
def Dev.colLearned (d : Dev) (x : Pass) (port i : Nat) : Dev :=
  if (d.ed x.cp.slot).actionCount ≤ i then d.colBad x
  else
    let a := actionAt (d.ed x.cp.slot).actions i
    let k := nbits port 31 30
    d.colSend x (if k = 0 then 3 else if k = 1 then 1 else 2) (port % 2 ^ 20) (byteAt a 1 % 8) (leAt a 8 4)

/-! Lookups (12_forwarding.md R351-R354, R361-R363). -/

/-- Key bytes with VID_ONLY applied. -/
def vidOnly (key : List Byte) : List Byte := patch key 6 (beB 2 (beAt key 6 2 % 4096) ++ beB 2 (beAt key 8 2 % 4096))

/-- The lookup key of an exact table (R352). -/
def Dev.exactKey (d : Dev) (n : Nat) (key : List Byte) : List Byte :=
  if d.tblKind n = 2 then beB 2 (beAt key 6 2 % 4096) ++ slice key 12 6
  else
    let k := if d.bit (rFWD_TBL_CFG n) fFWD_TBL_CFG_VID_ONLY then vidOnly key else key
    let sel := d.rd64 (rFWD_TBL_SELECT_LO n) (rFWD_TBL_SELECT_HI n)
    padTo (keyWidth (d.tblKind n)) (((List.range 64).filter (nbit sel)).map (fun i => k.getD i 0#8))

/-- What a lookup finds. -/
inductive Found where
  | miss
  | action (i : Nat)
  | port (p : Nat)
  deriving DecidableEq, Repr

/-- Consult a table with a key (R351, R361, R362). -/
def Dev.consult (d : Dev) (n : Nat) (key : List Byte) : Found × Dev :=
  if 16 ≤ n then (.miss, d)
  else if !(d.fwdReady) || !(d.tblEn n) then (.miss, d)
  else if d.tblExact n then
    match d.fwdLook n (d.exactKey n key) with
    | (none, d) => (.miss, d)
    | (some e, d) => (if e.learned then .port e.port else .action e.action, d)
  else
    let vrf := if d.bit (rFWD_TBL_CFG n) fFWD_TBL_CFG_VRF_EN then byteAt key 5 else 0
    let four := d.tblKind n == 3
    if byteAt key 3 / 64 ≠ (if four then 1 else 2) then (.miss, d)
    else match d.pfxLongest n vrf (slice key 40 (if four then 4 else 16)) with
      | some p => (.action p.action, d)
      | none => (.miss, d)

/-- PORT of a packet's source; the processor has none (R363). -/
def Pkt.port (p : Pkt) : Option Nat :=
  if p.src / 64 = 0 then p.chan
  else if p.src / 64 = 1 then some (2 ^ 30 + p.src % 64)
  else if p.src / 64 = 2 then some (2 ^ 31 + p.srcSm)
  else none

/-- A LOOKUP in a bridge table learns (R363). -/
def Dev.colLearn (d : Dev) (n : Nat) (key : List Byte) (p : Pkt) : Dev :=
  let cfg := d.rdN (rFWD_TBL_CFG n)
  match p.port with
  | none => d
  | some port =>
    if n < 16 ∧ d.fwdReady ∧ d.tblEn n ∧ d.tblKind n = 2 ∧ d.bit rFWD_CTRL fFWD_CTRL_LEARN_EN ∧
        fieldOf cfg fFWD_TBL_CFG_LEARN_EN = 1 ∧ nbit (fieldOf cfg fFWD_TBL_CFG_LEARN_SRC) (p.src / 64) ∧
        byteAt key 2 % 8 = 0 ∧ beAt key 18 6 ≠ 0 ∧ byteAt key 18 % 2 = 0 then
      d.learnLook ⟨n, beB 2 (beAt key 6 2 % 4096) ++ slice key 18 6, port⟩
    else d

/-- LOOKUP (R331): the table's answer, or on a miss the Edition's MISS_ACTION. -/
def Dev.colLookup (d : Dev) (x : Pass) (n : Nat) (key : List Byte) : Dev :=
  let r := (d.bump (rFWD_CNT 0)).consult n key
  let d := (r.2.when (r.1 != .miss) (fun d => d.bump (rFWD_CNT 1))).colLearn n key x.cp.pkt
  match r.1 with
  | .miss => d.colResolve x (d.ed x.cp.slot).miss
  | .action i => d.colResolve x i
  | .port p => d.colLearned x p (d.get (rFWD_TBL_CFG n) fFWD_TBL_CFG_LEARN_ACTION)

/-! Mirror sessions (R339). -/

/-- TRUNC of a session: 0 none, 1-63 act as 64, above 16,384 as 16,384. -/
def truncTo (t : Nat) (bytes : List Byte) : List Byte :=
  let n := if t = 0 then bytes.length else min 16384 (max 64 t)
  if bytes.length ≤ n then bytes else withFcs (bytes.take (n - 4))

/-- A matching packet of a session: every SAMPLE-th is copied (R339). -/
def Dev.mirrorOne (d : Dev) (x : Pass) (m : Nat) : Dev :=
  let dest := d.rdN (rCOL_MIR_DEST m)
  if fieldOf dest fCOL_MIR_DEST_EN = 0 then d else
  let n := d.mirrorN m + 1
  if n < max 1 (d.get (rCOL_MIR_CTRL m) fCOL_MIR_CTRL_SAMPLE) then d.setMirrorN m n else
  let d := d.setMirrorN m 0
  let p := { x.cp.pkt with bytes := truncTo (d.get (rCOL_MIR_CTRL m) fCOL_MIR_CTRL_TRUNC) x.cp.pkt.bytes }
  let target := fieldOf dest fCOL_MIR_DEST_TARGET
  let kind := fieldOf dest fCOL_MIR_DEST_KIND
  if kind = 0 then (d.uplEnqueue target 0 p true).2
  else if kind = 1 then d.fabSend p (target % 2 ^ 20) 0 x.flow true
  else if kind = 2 then d.excDeliver { x with cp := { x.cp with pkt := p } } (target % 16) true
  else d

/-! The pass (R322-R336). -/

/-- COL_CTRL and COL_PORTS as the parser takes them (R324). -/
def Dev.parseCfg (d : Dev) : ParseCfg :=
  { depth := min 512 (max 64 (d.get rCOL_CTRL fCOL_CTRL_PARSE_DEPTH))
    mplsEth := d.bit rCOL_CTRL fCOL_CTRL_MPLS_ETH
    vxlanPort := d.get rCOL_PORTS fCOL_PORTS_VXLAN_PORT
    gtpuPort := d.get rCOL_PORTS fCOL_PORTS_GTPU_PORT }

/-- The header a packet begins with. -/
def ColPkt.first (c : ColPkt) : HdrKind := if c.bare = 4 then .ip4 else if c.bare = 6 then .ip6 else .eth

/-- FLAGS of a pass (R327). -/
def Walk.flags (w : Walk) (yellow recirc : Bool) : Nat :=
  b2n w.depthExceeded + 2 * b2n w.lengthMismatch + 4 * b2n w.parseError + 8 * b2n yellow + 16 * b2n w.ipFrag +
  32 * b2n w.ipOptions + 64 * b2n recirc

/-- The passes a packet may take (R334). -/
def Dev.maxPass (d : Dev) : Nat := min 4 (max 1 (d.get rCOL_CTRL fCOL_CTRL_MAX_PASS))

/-- RECIRC (R331, R334): the packet starts a new pass, without the headers before its level where DECAP says so. -/
def Dev.colRecirc (d : Dev) (x : Pass) (w : Walk) (decap : Bool) (lvl : Nat) : Dev :=
  if d.maxPass ≤ x.cp.pass + 1 then
    ((d.bump (rCOL_CNT 5)).mark rCOL_ERR fCOL_ERR_RECIRC_LIMIT).colExcept x 4
  else
    let c := { x.cp with
      pass := x.cp.pass + 1
      recirc := true }
    let c := match decap, w.levels.reverse[lvl]? with
      | true, some l => { c with
          pkt := { c.pkt with bytes := withFcs (w.data.drop l.start) }
          bare := if l.first = .ip4 then 4 else if l.first = .ip6 then 6 else 0 }
      | _, _ => c
    let d := d.bump (rCOL_CNT 1)
    { d with col := { d.col with queue := d.col.queue ++ [c] } }

/-- Carry out a matched rule (R329, R331). -/
def Dev.colApply (d : Dev) (x : Pass) (w : Walk) (rule : List Byte) : Dev :=
  let ops := byteAt rule 129
  let lvl := byteAt rule 128 % 4
  let d := d.when (nbit ops 5) (fun d => d.excDeliver x (byteAt rule 130 % 16) true)
  let d := d.when (nbit ops 6) (fun d => d.mirrorOne x (byteAt rule 131 % 16))
  if nbit ops 0 then d.colGone x.cp
  else if nbit ops 1 then d.colResolve x (leAt rule 136 4)
  else if nbit ops 2 then d.colLookup x (byteAt rule 132) ((x.keys[lvl]?).getD [])
  else d.colRecirc x w (nbit ops 4) lvl

/-- One pass of the packet at the front. -/
def Dev.colPass (d : Dev) : Dev :=
  match d.col.queue with
  | [] => d
  | c :: rest =>
    let d := { d with col := { d.col with queue := rest } }
    let w := parseFrame d.parseCfg c.pkt.bytes c.first
    let d := d.when w.depthExceeded (fun d => d.bump (rCOL_CNT 2))
    let d := d.when w.lengthMismatch (fun d => d.bump (rCOL_CNT 3))
    let d := d.when w.parseError (fun d => d.bump (rCOL_CNT 4))
    let pre := leB 1 c.pkt.src ++ leB 1 c.pkt.tenant ++ leB 1 (w.flags c.pkt.yellow c.recirc)
    let x : Pass := ⟨c, w.levels.reverse.map (levelKey pre (w.levels.length - 1) c.pkt.metaV c.pass), pre, 0xFFFF⟩
    let e := d.ed c.slot
    if e.defFlags && w.parseError then d.colExcept x 3
    else if e.defFlags && w.lengthMismatch then d.colExcept x 2
    else if e.defFlags && w.depthExceeded then d.colExcept x 1
    else match e.firstRule x.keys with
      | none => d.colExcept x 0
      | some (i, rule) => d.colApply { x with rule := i } w rule

end Sys2Proof.Machine
end

