-- ==== Sys2Proof/Machine/CatOps.lean ====
section
/-! DEFINITION. The Catalogue engine: the checks of a create, an edit and a removal, and what each brings to the chapters
that use the records (06_catalogue.md R158-R191; 17_protection.md R497, R501, R506). -/

namespace Sys2Proof.Machine

/-! Checks. A check is whether it holds, the result and the REASON where it does not (R184), and what a refusal brings. -/

/-- One check of the engine. -/
abbrev CatCheck : Type := Bool × Nat × Nat × (Dev → Dev)

/-- A refusal with BAD_PARAM and a REASON. -/
def badIf (b : Bool) (reason : Nat) : CatCheck := (!b, resBadParam, reason, id)

/-- A refusal with BUSY (R161). -/
def busyIf (b : Bool) : CatCheck := (!b, resBusy, 4, id)

/-- The first check that fails: its result and REASON, and the state after. -/
def Dev.catTry (d : Dev) (cs : List CatCheck) : Option (Nat × Nat) × Dev :=
  match cs.find? (fun x => !x.1) with
  | some x => (some (x.2.1, x.2.2.1), x.2.2.2 d)
  | none => (none, d)

/-- A record is a mirror copy (17_protection.md R506). -/
def Dev.isCopy (d : Dev) (k : RecKind) (h : Nat) : Bool := d.pairs.any (fun p => p.2.copies.contains (kNum k, h))

/-- The refusal of a mirror copy. -/
def Dev.copyCheck (d : Dev) (k : RecKind) (h : Nat) : CatCheck := (!(d.isCopy k h), resNotPermitted, 2, id)

/-- The admission of R166 for one object, with its alert. -/
def Dev.quotaCheck (d : Dev) (u : Nat) (k : RecKind) (t : Nat) : CatCheck :=
  (d.quotaOk u k t, resNoResource, 3, fun d => d.alert 0x0603 (p4 u ++ p4 (kNum k)))

/-- A TENANT value names a user (R162). -/
def tenantOk (n : Nat) : Bool := decide (n < 16) || n == 0x1F

/-- An object of a user may stand under a terminal (R162). -/
def Dev.underTerm (d : Dev) (ten h : Nat) : Bool :=
  let r := d.term h
  r.tenant == ten || (r.tenant == 0x1F && d.grantedTree ten r.tree)

/-- An identifier is in use on a tree. -/
def Dev.identUsed (d : Dev) (k : RecKind) (t id : Nat) : Bool :=
  match k with
  | .term => (d.findTerm t id).isSome
  | .alloc => (d.findAlloc t id).isSome
  | .chan => (d.findChan t id).isSome

/-- The checks of a name that a create takes (R160, R161). -/
def Dev.nameChecks (d : Dev) (k : RecKind) (h t id : Nat) : List CatCheck :=
  [badIf (d.identUsed k t id) 1, busyIf (d.quarIdent k t id), busyIf (d.quarHandle k h)]

/-- A tree has an enabled KIND 0 pair (17_protection.md R492). -/
def Dev.dualTree (d : Dev) (t : Nat) : Bool := d.pairEn t && d.pairKind t == 0

/-- The checks of a terminal's new image (R162, R164, R168, R188). -/
def Dev.termChecks (d : Dev) (h : Nat) (r : TermRec) : List CatCheck :=
  let old := d.term h
  [d.copyCheck .term h,
   badIf (old.valid && (old.tenant != r.tenant || old.tree != r.tree || old.termId != r.termId)) 5,
   badIf (!(d.treeOk r.tree) || decide (1019 < r.termId) || decide (2 < r.profile) || decide (7 < r.lineOpt) ||
     decide (16383 < r.keyIndex) || decide (47 < r.mateTree) || decide (2 ^ 18 ≤ r.mgmtChan)) 1,
   badIf (!(tenantOk r.tenant) || !(d.grantedTree r.tenant r.tree)) 2,
   badIf (d.cat.terms.any (fun e => e.1 != h && e.2.valid && e.2.tree == r.tree && e.2.serial == r.serial)) 1,
   badIf (r.dual && !(old.valid && old.dual) && !(d.dualTree r.tree)) 1,
   badIf (d.cat.terms.any (fun e => e.1 != h && e.2.valid && e.2.keyIndex == r.keyIndex)) 1,
   (!(old.valid && d.stateOf h != .absent && (old.serial != r.serial || old.regId != r.regId)), resNotReady, 4, id)] ++
  (if old.valid then [] else d.nameChecks .term h r.tree r.termId ++ [d.quotaCheck r.tenant .term r.tree])

/-- A default allocation's ID is its terminal's; any other's is 1024-16383 (R158). -/
def Dev.allocIdOk (d : Dev) (a : AllocRec) : Bool :=
  a.allocId == (d.term a.term).termId || (decide (1024 ≤ a.allocId) && decide (a.allocId ≤ 16383))

/-- The checks of an allocation's new image (R162, R164, R189; 07_ladle_demand.md R199, R201); a refused admission is
alerted with the ID the caller named. -/
def Dev.allocChecks (d : Dev) (h : Nat) (a : AllocRec) (named : Nat) : List CatCheck :=
  let old := d.alloc h
  let r := d.term a.term
  [d.copyCheck .alloc h,
   badIf (old.valid && (old.tenant != a.tenant || old.tree != a.tree || old.allocId != a.allocId || old.term != a.term)) 5,
   badIf (!(d.treeOk a.tree) || !r.valid || r.tree != a.tree || !(d.allocIdOk a) || decide (3 < a.cls) || decide (2 < a.rateSlot)) 1,
   badIf (!(tenantOk a.tenant) || !(d.underTerm a.tenant a.term)) 2,
   badIf (!(d.allocOk a)) 1] ++
  (if old.valid then [] else d.nameChecks .alloc h a.tree a.allocId ++ [d.quotaCheck a.tenant .alloc a.tree]) ++
  [(d.ladAdmits a (if old.valid then some (h, old) else none), resNoResource, 3, fun d => d.ladRefused a.tree named)]

/-- Sieve streams in use. -/
def Dev.streamsUsed (d : Dev) : Nat := d.get rPROT_STATUS fPROT_STATUS_STREAMS

/-- The checks of a channel's new image (R158, R162, R164, R190; 09_downstream.md R261; 17_protection.md R501); a
refused admission is alerted with the port ID the caller named. -/
def Dev.chanChecks (d : Dev) (c : Nat) (r : ChanRec) (named : Nat) : List CatCheck :=
  let old := d.chan c
  let tr := d.term r.term
  let al := d.alloc r.alloc
  let ds := d.dsChanCheck r (if old.valid then some c else none)
  [d.copyCheck .chan c,
   badIf (old.valid && (old.tenant != r.tenant || old.tree != r.tree || old.portId != r.portId || old.term != r.term)) 5,
   badIf (old.valid && old.mgmt && (!r.us || r.alloc != old.alloc)) 1,
   badIf (!(d.treeOk r.tree) || !tr.valid || tr.tree != r.tree || decide (7 < r.dsPrio) || decide (7 < r.gateClass)) 1,
   badIf (if r.mgmt then r.portId != tr.termId || !r.us || al.allocId != tr.termId || r.tenant != tr.tenant
     else decide (r.portId < 1020) || decide (65533 < r.portId)) 1,
   badIf (r.us && (!al.valid || al.term != r.term || al.tree != r.tree)) 1,
   badIf (!(tenantOk r.tenant) || !(if r.us then al.tenant == r.tenant else d.underTerm r.tenant r.term)) 2,
   badIf (r.prot && (!tr.dual || decide (r.seqWin < 2) || decide (1024 < r.seqWin))) 1,
   badIf (ds == resBadParam || r.dsWeight == 0) 1] ++
  (if old.valid then [] else d.nameChecks .chan c r.tree r.portId ++ [d.quotaCheck r.tenant .chan r.tree]) ++
  [(ds == 0, ds, 3, fun d => d.dsChanRefused r.tree r.tenant named),
   (!(r.prot && !old.prot && decide (16384 ≤ d.streamsUsed)), resNoResource, 3, id)]

/-- The lines that an edit dirties are accepted by the open batch; a refusal counts in EDIT_BUSY (R178). -/
def Dev.dirtyCheck (d : Dev) (t a c : List Nat) : CatCheck :=
  (d.canDirty .term t && d.canDirty .alloc a && d.canDirty .chan c, resBusy, 4, fun d => d.bump (rCAT_CNT 8))

/-! Writing a record, with all that follows (R175, R179). -/

/-- Write a terminal record: a create begins ABSENT, and a change of line options is sent (03_tree_line.md R68). -/
def Dev.termPut (d : Dev) (h : Nat) (r : TermRec) : Dev :=
  let old := d.term h
  if old.valid then
    let r := { r with valid := true, gen := nextGen old.gen, created := old.created, nAlloc := old.nAlloc, nChan := old.nChan, mirror := old.mirror }
    let d := ((d.setTerm h r).dirty .term h).noteTerm r.tree h
    let d := d.when (old.lineOpt != r.lineOpt && granted (d.stateOf h)) (fun d => d.startLineOpt h)
    d.showTerm r.tree
  else
    let r := { r with valid := true, gen := 1, created := d.tickNow, nAlloc := 0, nChan := 0, mirror := false }
    let d := ((d.setTerm h r).dirty .term h).setUse r.tenant .term (d.useOf r.tenant .term + 1)
    (((d.setActOf h {}).setLineOpt h {}).setTapSeqOf h 0).showTerm r.tree

/-- Write an allocation record: what it brings to the Ladle (07_ladle_demand.md R201, R216; 01_tick.md R28). -/
def Dev.allocPut (d : Dev) (h : Nat) (a : AllocRec) : Dev :=
  let old := d.alloc h
  let a := { a with valid := true, gen := if old.valid then nextGen old.gen else 1 }
  let d := ((d.setAlloc h a).dirty .alloc h).noteChange a.tree h
  let d := if old.valid then d else
    ((d.setUse a.tenant .alloc (d.useOf a.tenant .alloc + 1)).updTerm a.term (fun r => { r with nAlloc := r.nAlloc + 1 })).dirty .term a.term
  let d := d.when (old.valid && old.cls != a.cls) (fun d => d.dropNotices (fun n => n.alloc == h))
  d.ladShowUsed a.tree

/-- A stream's window follows its channel's SEQ_WIN. -/
def Stream.rewin (s : Stream) (w : Nat) : Stream :=
  { s with w := w, unseen := s.unseen.filter (fun n => decide ((s.h + 65536 - n) % 65536 < w)) }

/-- A channel's stream follows PROTECTED and SEQ_WIN (17_protection.md R501). -/
def Dev.streamFor (d : Dev) (c : Nat) (was now : Bool) (w : Nat) : Dev :=
  if now then
    if was then d.updStream c (fun s => s.rewin w)
    else (d.setStream c { valid := true, w := w }).put rPROT_STATUS fPROT_STATUS_STREAMS (d.streamsUsed + 1)
  else if was then (d.setStream c {}).put rPROT_STATUS fPROT_STATUS_STREAMS (d.streamsUsed - 1)
  else d

/-- Write a channel record: its port-map entry, buckets (09_downstream.md R258), stream and SEQ_CONFIG
(17_protection.md R497, R501). -/
def Dev.chanPut (d : Dev) (c : Nat) (r : ChanRec) : Dev :=
  let old := d.chan c
  let r := { r with valid := true, gen := if old.valid then nextGen old.gen else 1 }
  let d := (d.setChan c r).dirty .chan c
  let d := if old.valid then d else
    let d := ((d.setUse r.tenant .chan (d.useOf r.tenant .chan + 1)).updTerm r.term (fun x => { x with nChan := x.nChan + 1 })).dirty .term r.term
    ((d.setPortOf (r.tree * 65536 + r.portId) (some c)).setChNode c {}).fillChan c
  let d := d.when (old.valid && (old.dsCir != r.dsCir || old.dsPir != r.dsPir)) (fun d =>
    d.updChNode c (fun n => { n with cb := min n.cb (dsCap r.dsCir), pb := min n.pb (dsCap r.dsPir) }))
  let d := d.streamFor c old.prot r.prot r.seqWin
  d.when ((r.prot || old.prot) && d.stateOf r.term == .operating) (fun d => d.sendSeq c 1)

/-! Removal (R161, R191). -/

/-- A record that was a mirror copy is one no more. -/
def Dev.dropCopy (d : Dev) (k : RecKind) (h : Nat) : Dev :=
  { d with pairs := smap noPair (fun _ p => { p with copies := p.copies.filter (fun e => !(e.1 == kNum k && e.2 == h)) }) d.pairs }

/-- Remove a channel: its queue (09_downstream.md R277), its table entries (12_forwarding.md R366) and its stream go. -/
def Dev.chanDrop (d : Dev) (c : Nat) : Dev :=
  let r := d.chan c
  let d := ((d.dsFlush c).fwdChanGone c).streamFor c r.prot false 0
  let d := d.when (d.partOf r.tree == some c) (fun d => d.setPartOf r.tree none)
  let d := ((d.setSeqOutOf c none).setPortOf (r.tree * 65536 + r.portId) none).setChNode c {}
  let d := ((d.setChan c {}).dirty .chan c).setUse r.tenant .chan (d.useOf r.tenant .chan - 1)
  let d := (d.updTerm r.term (fun x => { x with nChan := x.nChan - 1 })).dropCopy .chan c
  d.quarantine .chan c r.tree r.portId

/-- Remove an allocation: its notices go (07_ladle_demand.md R216). -/
def Dev.allocDrop (d : Dev) (h : Nat) : Dev :=
  let a := d.alloc h
  let d := (d.dropNotices (fun n => n.alloc == h)).noteChange a.tree h
  let d := ((d.setAlloc h {}).dirty .alloc h).setUse a.tenant .alloc (d.useOf a.tenant .alloc - 1)
  let d := ((d.updTerm a.term (fun x => { x with nAlloc := x.nAlloc - 1 })).dropCopy .alloc h).setReasmOf h ⟨0, 0⟩
  (d.quarantine .alloc h a.tree a.allocId).ladShowUsed a.tree

/-- Remove a terminal with its channels and allocations: it is first taken to ABSENT and told so three times
(05_activation.md R134). -/
def Dev.termDrop (d : Dev) (h : Nat) : Dev :=
  let r := d.term h
  let d := ((d.toAbsent h).deactivate r.tree r.termId).updRxT r.tree (fun x => { x with tuneQ := x.tuneQ.filter (fun e => e.1 != h) })
  let d := d.showTune r.tree
  let d := (d.chansOf h).foldl Dev.chanDrop d
  let d := (d.allocsOf h).foldl Dev.allocDrop d
  let d := ((d.setTerm h {}).dirty .term h).setUse r.tenant .term (d.useOf r.tenant .term - 1)
  let d := ((d.setActOf h {}).setLineOpt h {}).dropCopy .term h
  (d.quarantine .term h r.tree r.termId).showTerm r.tree

/-- The checks of removing a terminal with all it holds. -/
def Dev.termDropChecks (d : Dev) (h : Nat) : List CatCheck :=
  [(!(d.isCopy .term h || (d.allocsOf h).any (fun a => d.isCopy .alloc a) || (d.chansOf h).any (fun c => d.isCopy .chan c)), resNotPermitted, 2, id),
   d.dirtyCheck [h] (d.allocsOf h) (d.chansOf h)]

/-- The checks of removing an allocation (R191). -/
def Dev.allocDropChecks (d : Dev) (h : Nat) : List CatCheck :=
  let a := d.alloc h
  [d.copyCheck .alloc h, badIf (a.allocId == (d.term a.term).termId || d.cat.chans.any (fun e => e.2.valid && e.2.us && e.2.alloc == h)) 1,
   d.dirtyCheck [a.term] [h] []]

/-- The checks of removing a channel (R191). -/
def Dev.chanDropChecks (d : Dev) (c : Nat) : List CatCheck :=
  [d.copyCheck .chan c, badIf (d.chan c).mgmt 1, d.dirtyCheck [(d.chan c).term] [] [c]]

/-! Creating a terminal with its default allocation and management channel (R159, R188). -/

/-- The default allocation of a new terminal (07_ladle_demand.md R200). -/
def Dev.newDefAlloc (d : Dev) (r : TermRec) (h : Nat) : AllocRec :=
  { tenant := r.tenant, tree := r.tree, cls := 3, allocId := r.termId, term := h,
    maxRate := d.get rLADLE_DEFALLOC fLADLE_DEFALLOC_MAX_RATE, weight := 1, minGrant := 64, interval := 1 }

/-- The management channel of a new terminal (R159). -/
def newMgmtChan (r : TermRec) (h a : Nat) : ChanRec :=
  { us := true, ds := true, mgmt := true, tenant := r.tenant, tree := r.tree, portId := r.termId, term := h, alloc := a, dsWeight := 1, dsPrio := 7 }

/-- Create a terminal: the result and REASON where it is refused, and the state after. -/
def Dev.termCreate (d : Dev) (r : TermRec) (ownKey : Bool) : Option (Nat × Nat) × Nat × Dev :=
  match d.freeHandle .term, d.freeHandle .alloc, d.freeHandle .chan with
  | some h, some a, some c =>
    let r := { r with defAlloc := a, mgmtChan := c, keyIndex := if ownKey then h else r.keyIndex }
    let t := d.catTry (d.termChecks h r ++
      [d.quotaCheck r.tenant .alloc r.tree, d.quotaCheck r.tenant .chan r.tree,
       busyIf (d.quarIdent .alloc r.tree r.termId || d.quarIdent .chan r.tree r.termId), d.dirtyCheck [h] [a] [c]])
    match t with
    | (some e, d) => (some e, 0, d)
    | (none, d) => (none, h, ((d.termPut h r).allocPut a (d.newDefAlloc r h)).chanPut c (newMgmtChan r h a))
  | _, _, _ => (some (resNoResource, 3), 0, d)

/-! Direct access (R184). -/

/-- The bytes of CAT_REC_DATA. -/
def Dev.recData (d : Dev) (n : Nat) : List Byte := (List.range (n / 4)).flatMap (fun i => leB 4 (d.rdN (rCAT_REC_DATA i)))

/-- Put bytes into CAT_REC_DATA. -/
def Dev.setRecData (d : Dev) (b : List Byte) : Dev :=
  (List.range (b.length / 4)).foldl (fun d i => d.wrN (rCAT_REC_DATA i) (leAt b (4 * i) 4)) d

/-- A record's image as the cache holds it. -/
def Dev.recImage (d : Dev) (k : RecKind) (h : Nat) : List Byte :=
  match k with
  | .term => (d.term h).image
  | .alloc => (d.alloc h).image
  | .chan => (d.chan h).image

/-- The kind a number names. -/
def kindOf (n : Nat) : RecKind := if n = 0 then .term else if n = 1 then .alloc else .chan

/-- The bytes that CAT_REC_CMD's record read gives: an image, or a port-map entry (R167). -/
def Dev.recRead (d : Dev) (kind idx : Nat) : List Byte :=
  if kind = 3 then
    match d.portOf idx with
    | some c => leB 4 (2 ^ 31 + c)
    | none => leB 4 0
  else if d.catReady then d.recImage (kindOf kind) idx
  else leB (if kind = 0 then 512 else 64) 0

/-- An edit of the whole image at an index (R184): the refusal's result and REASON, and the state after. -/
def Dev.recWrite (d : Dev) (kind idx : Nat) : Option (Nat × Nat) × Dev :=
  if kind = 3 then (some (resBadParam, 1), d)
  else if !d.catReady then (some (resNotReady, 4), d)
  else if kTotal (kindOf kind) ≤ idx then (some (resBadParam, 1), d)
  else
    let go := fun (cs : List CatCheck) (f : Dev → Dev) => match d.catTry cs with
      | (some e, d) => (some e, d)
      | (none, d) => (none, f d)
    if kind = 0 then
      let b := d.recData 512
      let r := termOfImage b
      if r.valid then go (badIf (r.image != b) 1 :: d.termChecks idx r ++ [d.dirtyCheck [idx] [] []]) (fun d => d.termPut idx { r with fault := false })
      else go (badIf (!((d.term idx).valid)) 1 :: d.termDropChecks idx) (fun d => d.termDrop idx)
    else if kind = 1 then
      let b := d.recData 64
      let r := allocOfImage b
      if r.valid then go (badIf (r.image != b) 1 :: d.allocChecks idx r r.allocId ++ [d.dirtyCheck [r.term] [idx] []]) (fun d => d.allocPut idx { r with fault := false })
      else go (badIf (!((d.alloc idx).valid)) 1 :: d.allocDropChecks idx) (fun d => d.allocDrop idx)
    else
      let b := d.recData 64
      let r := chanOfImage b
      let r := if r.us then r else { r with alloc := 0 }
      if r.valid then go (badIf ((chanOfImage b).image != b) 1 :: d.chanChecks idx r r.portId ++ [d.dirtyCheck [r.term] [] [idx]]) (fun d => d.chanPut idx { r with fault := false })
      else go (badIf (!((d.chan idx).valid)) 1 :: d.chanDropChecks idx) (fun d => d.chanDrop idx)

/-- A write of CAT_REC_CMD (R184). -/
def Dev.writeRecCmd (d : Dev) (v : Nat) : Dev :=
  let d := d.access rCAT_REC_CMD (v % 2 ^ 30)
  if !(nbit v 30) then d else
  let kind := fieldOf v fCAT_REC_CMD_KIND
  let idx := fieldOf v fCAT_REC_CMD_INDEX
  if nbit v 29 then
    match d.recWrite kind idx with
    | (some e, d) => (d.mark rCAT_ERR fCAT_ERR_REC_REFUSED).put rCAT_REC_CMD fCAT_REC_CMD_REASON e.2
    | (none, d) => d.put rCAT_REC_CMD fCAT_REC_CMD_REASON 0
  else (d.setRecData (d.recRead kind idx)).put rCAT_REC_CMD fCAT_REC_CMD_REASON 0

/-! Quotas and the tree mask (R165, R185, R193). -/

/-- A tenant's tree mask. -/
def Dev.treeMask (d : Dev) (n : Nat) : Nat := d.rdN (rCAT_TEN_TREES_LO n) + 2 ^ 32 * d.get (rCAT_TEN_TREES_HI n) fCAT_TEN_TREES_HI_TREES

/-- A tenant owns an object on a tree that a new mask leaves out. -/
def Dev.maskBreaks (d : Dev) (n mask : Nat) : Bool :=
  d.cat.terms.any (fun e => e.2.valid && e.2.tenant == n && !(nbit mask e.2.tree)) ||
  d.cat.allocs.any (fun e => e.2.valid && e.2.tenant == n && !(nbit mask e.2.tree)) ||
  d.cat.chans.any (fun e => e.2.valid && e.2.tenant == n && !(nbit mask e.2.tree))

/-- R165 refuses a tenant's MIN or MAX of a kind. -/
def Dev.quotaBreaks (d : Dev) (n : Nat) (k : RecKind) (mn mx : Nat) : Bool :=
  let sum := (((List.range 16).filter (fun v => v != n)).map (fun v => d.minOf v k)).sum
  decide (kTotal k < sum + mn) && decide (d.minOf n k < mn) || (decide (mx < d.useOf n k) && (d.maxOfUser n k != some mx))

/-- Write one register of CAT_TEN[n], by its word offset (R165, R185). -/
def Dev.writeCatTen (d : Dev) (n w v : Nat) : Dev :=
  let a := rCAT_TEN_TERM_QUOTA n + 4 * w
  let mx := fun (k : RecKind) => (d.maxOfUser n k).getD 0
  let refused :=
    if w = 0 then d.quotaBreaks n .term (fieldOf v fCAT_TEN_TERM_QUOTA_MIN) (fieldOf v fCAT_TEN_TERM_QUOTA_MAX)
    else if w = 1 then d.quotaBreaks n .alloc (v % 2 ^ 17) (mx .alloc)
    else if w = 2 then d.quotaBreaks n .alloc (d.minOf n .alloc) (v % 2 ^ 17)
    else if w = 3 then d.quotaBreaks n .chan (v % 2 ^ 19) (mx .chan)
    else if w = 4 then d.quotaBreaks n .chan (d.minOf n .chan) (v % 2 ^ 19)
    else if w = 5 then d.maskBreaks n (v + d.treeMask n / 2 ^ 32 * 2 ^ 32)
    else if w = 6 then d.maskBreaks n (d.treeMask n % 2 ^ 32 + v % 2 ^ 16 * 2 ^ 32)
    else false
  if refused then d.mark rCAT_ERR fCAT_ERR_QUOTA_CFG
  else if w = 11 ∧ n ≠ 0 then d
  else (d.access a v).showOwner

/-- Write CAT_BASE (R183). -/
def Dev.writeCatBase (d : Dev) (hi : Bool) (v : Nat) : Dev :=
  if d.catReady then d.mark rCAT_ERR fCAT_ERR_BASE_BUSY
  else d.wrN (if hi then rCAT_BASE_HI else rCAT_BASE_LO) v

/-! A record cannot be read (R181). -/

/-- A fetch of a record meets an uncorrectable error: the line of a valid record is faulted and held. -/
def Dev.recFaulted (d : Dev) (k : RecKind) (h : Nat) : Dev :=
  let d := match k with
    | .term => if (d.term h).valid then d.updTerm h (fun r => { r with fault := true }) else d
    | .alloc => if (d.alloc h).valid then d.updAlloc h (fun r => { r with fault := true }) else d
    | .chan => if (d.chan h).valid then d.updChan h (fun r => { r with fault := true }) else d
  ((d.bump (rCAT_CNT 12)).mark rCAT_ERR fCAT_ERR_REC_FAULT).alert 0x0601 (p4 (kNum k) ++ p4 h)

end Sys2Proof.Machine
end

