-- ==== Sys2Proof/Machine/CatCmds.lean ====
section
/-! DEFINITION. The commands of 06_catalogue.md: the mailbox commands of tenants, terminals, allocations and channels,
quarantine, direct access, fetch and write-back, and the Catalogue's start (R158-R193). -/

namespace Sys2Proof.Machine

/-- The check that the Catalogue is ready (R182). -/
def Dev.readyCheck (d : Dev) : Bool × Nat := (d.catReady, resNotReady)

/-- The rights of a create on a tree (R163). -/
def Cmd.mayCreate (c : Cmd) (d : Dev) (t : Nat) (flags : Nat) : Bool × Nat :=
  (match c.caller with | none => true | some n => d.grantedTree n t && !(c.expert flags), resNotPermitted)

/-- The rights over an existing object (R163). -/
def Cmd.mayTouch (c : Cmd) (tenant : Nat) (x : Bool) : Bool × Nat :=
  (match c.caller with | none => true | some n => tenant == n && !x, resNotPermitted)

/-- The TENANT a create or edit uses: the owner's byte, or the caller's own number. -/
def Cmd.useTenant (c : Cmd) (i : Nat) : Nat := match c.caller with | none => c.u8 i | some n => n

/-- Finish a command that the engine has judged. -/
def Cmd.judged (c : Cmd) (r : Option (Nat × Nat) × Dev) (run : Dev → Dev) : Dev :=
  match r with
  | (some e, d) => c.fail d e.1
  | (none, d) => run d

/-- TREE_TENANT (R193), code 0x0107. -/
def execTreeTenant (m : Fin 64) (s : State) : Host.Outcome State Fault Refusal :=
  s.run (fun d => d.command m.val 0x0107 (fun c d =>
    let n := c.u8 0
    let query := nbit (c.u8 1) 0
    let mask := c.u64 4
    let own := match c.caller with | none => true | some k => query && n == k && !(c.expert 1)
    let fits := decide (mask < 2 ^ 48) && decide (c.u32 0x0C < 2 ^ 15) && decide (c.u32 0x10 < 2 ^ 15) && decide (c.u32 0x14 < 2 ^ 17) &&
      decide (c.u32 0x18 < 2 ^ 17) && decide (c.u32 0x1C < 2 ^ 19) && decide (c.u32 0x20 < 2 ^ 19)
    let shown := fun (d : Dev) => leB 8 (d.treeMask n) ++
      [RecKind.term, .alloc, .chan].flatMap (fun k => leB 4 (d.minOf n k) ++ leB 4 ((d.maxOfUser n k).getD 0)) ++
      [RecKind.term, .alloc, .chan].flatMap (fun k => leB 4 (d.useOf n k))
    c.checks d
      [d.readyCheck, (own, resNotPermitted), inForm (decide (n < 16) && c.only 1 0x81 && c.zero 2 2 && c.endsAt 0x24),
       inForm (query || (fits && !(d.maskBreaks n mask))),
       (query || !(d.quotaBreaks n .term (c.u32 0x0C) (c.u32 0x10) || d.quotaBreaks n .alloc (c.u32 0x14) (c.u32 0x18) ||
         d.quotaBreaks n .chan (c.u32 0x1C) (c.u32 0x20)), resNoResource)]
      (fun d =>
        let d := if query then d else
          let d := d.wrN (rCAT_TEN_TERM_QUOTA n) (c.u32 0x0C * 2 ^ 16 + c.u32 0x10)
          let d := (d.wrN (rCAT_TEN_ALLOC_MIN n) (c.u32 0x14)).wrN (rCAT_TEN_ALLOC_MAX n) (c.u32 0x18)
          let d := (d.wrN (rCAT_TEN_CHAN_MIN n) (c.u32 0x1C)).wrN (rCAT_TEN_CHAN_MAX n) (c.u32 0x20)
          (d.wrN (rCAT_TEN_TREES_LO n) (mask % 2 ^ 32)).wrN (rCAT_TEN_TREES_HI n) (mask / 2 ^ 32)
        c.ok d (shown d))))

/-! Terminals (R188, R191, R192). -/

/-- The response of TERM_CREATE and TERM_EDIT. -/
def Dev.termResp (d : Dev) (h : Nat) : List Byte :=
  let r := d.term h
  leB 2 h ++ leB 2 r.termId ++ leB 2 r.defAlloc ++ leB 2 0 ++ leB 4 r.mgmtChan ++ leB 4 r.gen

/-- The form of a terminal request. -/
def Cmd.termForm (c : Cmd) (edit : Bool) : Bool :=
  let x := c.expert 3
  c.only 3 0x80 && c.zero 7 1 && (edit || c.u32 0x34 == 0) && (if x then c.zero 0x38 8 && c.block 0x240 else c.endsAt 0x38)

/-- The fields of the basic request over a record. -/
def Cmd.termFields (c : Cmd) (r : TermRec) : TermRec :=
  { r with profile := c.u8 1, lineOpt := c.u8 2, serial := c.u64 8, regId := leAt c.req 0x10 36 }

/-- The image of the expert form. -/
def Cmd.termImage (c : Cmd) : TermRec := termOfImage (slice c.req 0x40 512)

/-- The image of the expert form names nothing outside R168's fields, and is valid. -/
def Cmd.termImageOk (c : Cmd) : Bool := c.termImage.valid && c.termImage.image == slice c.req 0x40 512

/-- TERM_CREATE (R159, R188), code 0x0201. -/
def execTermCreate (m : Fin 64) (s : State) : Host.Outcome State Fault Refusal :=
  s.run (fun d => d.command m.val 0x0201 (fun c d =>
    let t := c.u8 0
    let x := c.expert 3
    let img := c.termImage
    c.checks d
      [d.readyCheck, c.mayCreate d t 3, inForm (d.treeOk t && c.termForm false),
       inForm (!x || (c.termImageOk && img.tree == t && (c.u16 4 == 0xFFFF || img.termId == c.u16 4)))]
      (fun d =>
        match (if c.u16 4 = 0xFFFF then d.freeIdent .term t 0 1019 else some (c.u16 4)) with
        | none => c.fail d resNoResource
        | some id =>
          let r : TermRec := if x then { img with termId := id, fault := false }
            else c.termFields { tenant := c.useTenant 6, tree := t, termId := id }
          let res := d.termCreate r (!x)
          match res.1 with
          | some e => c.fail res.2.2 e.1
          | none => c.ok res.2.2 (res.2.2.termResp res.2.1))))

/-- TERM_EDIT (R188), code 0x0202. -/
def execTermEdit (m : Fin 64) (s : State) : Host.Outcome State Fault Refusal :=
  s.run (fun d => d.command m.val 0x0202 (fun c d =>
    let t := c.u8 0
    let x := c.expert 3
    let img := c.termImage
    match d.findTerm t (c.u16 4) with
    | none => c.checks d [d.readyCheck, c.mayExpert 3, inForm false] (fun d => d)
    | some h =>
      let old := d.term h
      c.checks d
        [d.readyCheck, c.mayTouch old.tenant x, inForm (c.termForm true && (!c.isOwner || c.u8 6 == old.tenant)), inForm (!x || c.termImageOk)]
        (fun d =>
          if c.u32 0x34 ≠ 0 ∧ c.u32 0x34 ≠ old.gen then d.finish c.mbx resBusy (d.termResp h)
          else
            let r := if x then { img with fault := false } else c.termFields old
            c.judged (d.catTry (d.termChecks h r ++ [d.dirtyCheck [h] [] []])) (fun d =>
              let d := d.termPut h r
              c.ok d (d.termResp h)))))

/-- The tick at which a quarantine that begins now ends (R161, R191). -/
def Dev.quarEnd (d : Dev) : Nat := d.tickNow + 1 + d.quarTicks

/-- The form of the commands that name an object by tree, flags and identifier. -/
def Cmd.nameForm (c : Cmd) (d : Dev) : Bool := d.treeOk (c.u8 0) && c.only 1 0x80 && c.endsAt 4

/-- The form of the removals and reads (R191, R192): tree and identifier alone, so byte 1 is unnamed and must be 0 (R648). -/
def Cmd.bareForm (c : Cmd) (d : Dev) : Bool := d.treeOk (c.u8 0) && c.zero 1 1 && c.endsAt 4

/-- TERM_REMOVE (R191), code 0x0203. -/
def execTermRemove (m : Fin 64) (s : State) : Host.Outcome State Fault Refusal :=
  s.run (fun d => d.command m.val 0x0203 (fun c d =>
    match d.findTerm (c.u8 0) (c.u16 2) with
    | none => c.checks d [d.readyCheck, inForm false] (fun d => d)
    | some h => c.checks d [d.readyCheck, c.mayTouch (d.term h).tenant false, inForm (c.bareForm d)] (fun d =>
        c.judged (d.catTry (d.termDropChecks h)) (fun d => c.ok (d.termDrop h) (leB 8 d.quarEnd)))))

/-- TERM_READ (R192), code 0x0204. -/
def execTermRead (m : Fin 64) (s : State) : Host.Outcome State Fault Refusal :=
  s.run (fun d => d.command m.val 0x0204 (fun c d =>
    match d.findTerm (c.u8 0) (c.u16 2) with
    | none => c.checks d [d.readyCheck, inForm false] (fun d => d)
    | some h => c.checks d [d.readyCheck, c.mayTouch (d.term h).tenant false, inForm (c.bareForm d)] (fun d => c.ok d (d.term h).image)))

/-! Allocations (R189, R191, R192). -/

/-- The response of ALLOC_CREATE and ALLOC_EDIT. -/
def Dev.allocResp (d : Dev) (h : Nat) : List Byte := leB 2 h ++ leB 2 (d.alloc h).allocId ++ leB 4 (d.alloc h).gen

/-- The form of an allocation request. -/
def Cmd.allocForm (c : Cmd) (edit : Bool) : Bool :=
  c.only 3 0x81 && c.zero 9 3 && (edit || c.u32 0x1C == 0) && (if c.expert 3 then c.block 0x29 else c.endsAt 0x20)

/-- The fields of a request over a record. -/
def Cmd.allocFields (c : Cmd) (a : AllocRec) : AllocRec :=
  let a := { a with cls := c.u8 1, rateSlot := c.u8 2, police := nbit (c.u8 3) 0, fixedRate := c.u32 0x0C, assuredRate := c.u32 0x10,
                    maxRate := c.u32 0x14, weight := c.u16 0x18, minGrant := c.u16 0x1A }
  if c.expert 3 then { a with cbs := c.u32 0x20, pbs := c.u32 0x24, interval := c.u8 0x28 } else a

/-- ALLOC_CREATE (R189), code 0x0301. -/
def execAllocCreate (m : Fin 64) (s : State) : Host.Outcome State Fault Refusal :=
  s.run (fun d => d.command m.val 0x0301 (fun c d =>
    let t := c.u8 0
    match d.findTerm t (c.u16 6) with
    | none => c.checks d [d.readyCheck, c.mayCreate d t 3, inForm false] (fun d => d)
    | some th =>
      let own := match c.caller with | none => true | some n => d.underTerm n th
      c.checks d
        [d.readyCheck, c.mayCreate d t 3, (own, resNotPermitted),
         inForm (c.allocForm false && (c.u16 4 == 0xFFFF || (decide (1024 ≤ c.u16 4) && decide (c.u16 4 ≤ 16383))))]
        (fun d =>
          match (if c.u16 4 = 0xFFFF then d.freeIdent .alloc t 1024 16383 else some (c.u16 4)), d.freeHandle .alloc with
          | some id, some h =>
            let a := c.allocFields { tenant := c.useTenant 8, tree := t, allocId := id, term := th, interval := 1 }
            c.judged (d.catTry (d.allocChecks h a (c.u16 4) ++ [d.dirtyCheck [th] [h] []])) (fun d =>
              let d := d.allocPut h a
              c.ok d (d.allocResp h))
          | _, _ => c.fail d resNoResource)))

/-- ALLOC_EDIT (R189), code 0x0302. -/
def execAllocEdit (m : Fin 64) (s : State) : Host.Outcome State Fault Refusal :=
  s.run (fun d => d.command m.val 0x0302 (fun c d =>
    match d.findAlloc (c.u8 0) (c.u16 4) with
    | none => c.checks d [d.readyCheck, c.mayExpert 3, inForm false] (fun d => d)
    | some h =>
      let old := d.alloc h
      c.checks d
        [d.readyCheck, c.mayTouch old.tenant (c.expert 3),
         inForm (c.allocForm true && (!c.isOwner || c.u8 8 == old.tenant) && c.u16 6 == (d.term old.term).termId)]
        (fun d =>
          if c.u32 0x1C ≠ 0 ∧ c.u32 0x1C ≠ old.gen then d.finish c.mbx resBusy (d.allocResp h)
          else
            let a := c.allocFields old
            c.judged (d.catTry (d.allocChecks h a a.allocId ++ [d.dirtyCheck [] [h] []])) (fun d =>
              let d := d.allocPut h a
              c.ok d (d.allocResp h)))))

/-- ALLOC_REMOVE (R191), code 0x0303. -/
def execAllocRemove (m : Fin 64) (s : State) : Host.Outcome State Fault Refusal :=
  s.run (fun d => d.command m.val 0x0303 (fun c d =>
    match d.findAlloc (c.u8 0) (c.u16 2) with
    | none => c.checks d [d.readyCheck, inForm false] (fun d => d)
    | some h => c.checks d [d.readyCheck, c.mayTouch (d.alloc h).tenant false, inForm (c.bareForm d)] (fun d =>
        c.judged (d.catTry (d.allocDropChecks h)) (fun d => c.ok (d.allocDrop h) (leB 8 d.quarEnd)))))

/-- ALLOC_READ (R192), code 0x0304. -/
def execAllocRead (m : Fin 64) (s : State) : Host.Outcome State Fault Refusal :=
  s.run (fun d => d.command m.val 0x0304 (fun c d =>
    match d.findAlloc (c.u8 0) (c.u16 2) with
    | none => c.checks d [d.readyCheck, inForm false] (fun d => d)
    | some h => c.checks d [d.readyCheck, c.mayTouch (d.alloc h).tenant false, inForm (c.bareForm d)] (fun d => c.ok d (d.alloc h).image)))

/-! Channels (R190-R192). -/

/-- The response of CHAN_CREATE and CHAN_EDIT. -/
def Dev.chanResp (d : Dev) (h : Nat) : List Byte := leB 4 h ++ leB 2 (d.chan h).portId ++ leB 2 0 ++ leB 4 (d.chan h).gen

/-- The form of a channel request. -/
def Cmd.chanForm (c : Cmd) (edit : Bool) : Bool :=
  c.only 1 0x8F && c.zero 0x0B 1 && c.zero 0x1A 2 && (edit || c.u32 0x1C == 0) && c.endsAt 0x20

/-- The fields of a request over a record. -/
def Cmd.chanFields (c : Cmd) (r : ChanRec) (al : Nat) : ChanRec :=
  let f := c.u8 1
  { r with us := nbit f 0, ds := nbit f 1, encrypt := nbit f 2, prot := nbit f 3, alloc := if nbit f 0 then al else 0, dsPrio := c.u8 9,
           gateClass := c.u8 0x0A, dsCir := c.u32 0x0C, dsPir := c.u32 0x10, dsWeight := c.u16 0x14, metaV := c.u16 0x16, seqWin := c.u16 0x18 }

/-- The allocation a channel request names; US = 1 needs one. -/
def Cmd.chanAlloc (c : Cmd) (d : Dev) : Option Nat :=
  if nbit (c.u8 1) 0 then d.findAlloc (c.u8 0) (c.u16 6) else some 0

/-- CHAN_CREATE (R190), code 0x0401. -/
def execChanCreate (m : Fin 64) (s : State) : Host.Outcome State Fault Refusal :=
  s.run (fun d => d.command m.val 0x0401 (fun c d =>
    let t := c.u8 0
    match d.findTerm t (c.u16 4), c.chanAlloc d with
    | some th, some al =>
      let own := match c.caller with
        | none => true
        | some n => d.underTerm n th
      c.checks d
        [d.readyCheck, c.mayCreate d t 1, (own, resNotPermitted),
         inForm (c.chanForm false && (c.u16 2 == 0xFFFF || (decide (1020 ≤ c.u16 2) && decide (c.u16 2 ≤ 65533))))]
        (fun d =>
          match (if c.u16 2 = 0xFFFF then d.freeIdent .chan t 1020 65533 else some (c.u16 2)), d.freeHandle .chan with
          | some id, some h =>
            let r := c.chanFields { tenant := c.useTenant 8, tree := t, portId := id, term := th } al
            c.judged (d.catTry (d.chanChecks h r (c.u16 2) ++ [d.dirtyCheck [th] [] [h]])) (fun d =>
              let d := d.chanPut h r
              c.ok d (d.chanResp h))
          | _, _ => c.fail d resNoResource)
    | _, _ => c.checks d [d.readyCheck, c.mayCreate d t 1, inForm false] (fun d => d)))

/-- CHAN_EDIT (R190), code 0x0402. -/
def execChanEdit (m : Fin 64) (s : State) : Host.Outcome State Fault Refusal :=
  s.run (fun d => d.command m.val 0x0402 (fun c d =>
    match d.findChan (c.u8 0) (c.u16 2) with
    | none => c.checks d [d.readyCheck, c.mayExpert 1, inForm false] (fun d => d)
    | some h =>
      let old := d.chan h
      match c.chanAlloc d with
      | none => c.checks d [d.readyCheck, c.mayTouch old.tenant (c.expert 1), inForm false] (fun d => d)
      | some al =>
        c.checks d
          [d.readyCheck, c.mayTouch old.tenant (c.expert 1),
           inForm (c.chanForm true && (!c.isOwner || c.u8 8 == old.tenant) && c.u16 4 == (d.term old.term).termId)]
          (fun d =>
            if c.u32 0x1C ≠ 0 ∧ c.u32 0x1C ≠ old.gen then d.finish c.mbx resBusy (d.chanResp h)
            else
              let r := c.chanFields old al
              c.judged (d.catTry (d.chanChecks h r r.portId ++ [d.dirtyCheck [] [] [h]])) (fun d =>
                let d := d.chanPut h r
                c.ok d (d.chanResp h)))))

/-- CHAN_REMOVE (R191), code 0x0403. -/
def execChanRemove (m : Fin 64) (s : State) : Host.Outcome State Fault Refusal :=
  s.run (fun d => d.command m.val 0x0403 (fun c d =>
    match d.findChan (c.u8 0) (c.u16 2) with
    | none => c.checks d [d.readyCheck, inForm false] (fun d => d)
    | some h => c.checks d [d.readyCheck, c.mayTouch (d.chan h).tenant false, inForm (c.bareForm d)] (fun d =>
        c.judged (d.catTry (d.chanDropChecks h)) (fun d => c.ok (d.chanDrop h) (leB 8 d.quarEnd)))))

/-- CHAN_READ (R192), code 0x0404. -/
def execChanRead (m : Fin 64) (s : State) : Host.Outcome State Fault Refusal :=
  s.run (fun d => d.command m.val 0x0404 (fun c d =>
    match d.findChan (c.u8 0) (c.u16 2) with
    | none => c.checks d [d.readyCheck, inForm false] (fun d => d)
    | some h => c.checks d [d.readyCheck, c.mayTouch (d.chan h).tenant false, inForm (c.bareForm d)] (fun d => c.ok d (d.chan h).image)))

/-! What the Catalogue does of itself. -/

/-- QUARANTINE_END (R161): the quarantines whose tick has come end; a terminal handle released takes its preset with it
(04_burst_rx.md R98). -/
def execQuarantineEnd (s : State) : Host.Outcome State Fault Refusal :=
  s.run (fun d =>
    let ended := fun (q : Quar) => decide (q.endTick ≤ d.tickNow)
    let d := (d.cat.quar.filter (fun q => ended q && q.kind == .term)).foldl (fun d q => d.setPreset q.handle {}) d
    { d with cat := { d.cat with quar := d.cat.quar.filter (fun q => !(ended q)) } })

/-- CAT_REC_READ (R184): CAT_REC_CMD.GO with WRITE 0. -/
def execCatRecRead (kind : Fin 4) (index : Fin 4194304) (s : State) : Host.Outcome State Fault Refusal :=
  s.run (fun d => d.writeRecCmd (2 ^ 30 + kind.val * 2 ^ 27 + index.val))

/-- CAT_REC_WRITE (R184): CAT_REC_CMD.GO with WRITE 1. -/
def execCatRecWrite (kind : Fin 4) (index : Fin 4194304) (s : State) : Host.Outcome State Fault Refusal :=
  s.run (fun d => d.writeRecCmd (2 ^ 30 + 2 ^ 29 + kind.val * 2 ^ 27 + index.val))

/-- RECORD_FETCH (R174, R181): a fetch fills its line, or faults it. -/
def execRecordFetch (k : RecKind) (h : Fin 262144) (bad : Bool) (s : State) : Host.Outcome State Fault Refusal :=
  s.run (fun d =>
    let d := match cacheUse (kLines k) (d.pinned k) (d.cacheOf k) h.val with
      | some l => d.setCache k l
      | none => d
    if bad then d.recFaulted k h.val else d)

/-- WRITE_BACK_DONE (R177): the oldest line of the batch reaches DRAM at WB_URG and is unpinned. -/
def execWriteBackDone (s : State) : Host.Outcome State Fault Refusal :=
  s.run (fun d =>
    match d.cat.writing with
    | [] => d
    | w :: ws =>
      let d := { d with cat := { d.cat with writing := ws, counted := d.cat.counted - 1 } }
      let d := (d.emit .dram 0 [d.get rCAT_CTRL fCAT_CTRL_WB_URG, d.recAddr w.kind w.handle, 1] w.image).bump (rCAT_CNT 6)
      d.put rCAT_STATUS fCAT_STATUS_WB_ACTIVE (b2n (!ws.isEmpty)))

/-- CAT_TEN_WRITE (R165, R185): register `w` of tenant `n`. -/
def execCatTenWrite (n : Fin 16) (w : Fin 12) (val : Word) (s : State) : Host.Outcome State Fault Refusal :=
  s.run (fun d => d.writeCatTen n.val w.val val.toNat)

/-- CAT_BASE_WRITE (R183). -/
def execCatBaseWrite (hi : Bool) (val : Word) (s : State) : Host.Outcome State Fault Refusal :=
  s.run (fun d => d.writeCatBase hi val.toNat)

/-- CATALOGUE_READY (R182): the region and the caches are zeroed. -/
def execCatalogueReady (s : State) : Host.Outcome State Fault Refusal :=
  s.run (fun d => if d.catReady then d else (({ d with cat := {} } : Dev).showOwner).mark rCAT_STATUS fCAT_STATUS_READY)

end Sys2Proof.Machine
end

