-- ==== Sys2Proof/Machine/TreeCmds.lean ====
section
/-! DEFINITION. The commands of 03_tree_line.md: TREE_LINE_CTRL, enabling and the line PLL, the first frame, cages, the
RSSI trigger, LINE_OPTIONS, and the mailbox commands TREE_CONFIG, TREE_STATUS and TREE_RSSI (R55-R86). -/

namespace Sys2Proof.Machine

/-- TREE_LINE_CTRL_WRITE (R56). -/
def execTreeLineCtrlWrite (t : Fin 48) (val : Word) (s : State) : Host.Outcome State Fault Refusal :=
  s.run (fun d => d.writeLineCtrl t.val val.toNat)

/-- TREE_ENABLE (R80): a write that sets EN. -/
def execTreeEnable (t : Fin 48) (s : State) : Host.Outcome State Fault Refusal :=
  s.run (fun d => d.writeLineCtrl t.val (fieldPut (d.rdN (rTREE_LINE_CTRL t.val)) fTREE_LINE_CTRL_EN 1))

/-- TREE_DISABLE (R81): a write that clears EN. -/
def execTreeDisable (t : Fin 48) (s : State) : Host.Outcome State Fault Refusal :=
  s.run (fun d => d.writeLineCtrl t.val (fieldPut (d.rdN (rTREE_LINE_CTRL t.val)) fTREE_LINE_CTRL_EN 0))

/-- DS_PRECODE_CHANGE (R66): a write of DS_PRECODE. -/
def execDsPrecodeChange (t : Fin 48) (on : Bool) (s : State) : Host.Outcome State Fault Refusal :=
  s.run (fun d => d.writeLineCtrl t.val (fieldPut (d.rdN (rTREE_LINE_CTRL t.val)) fTREE_LINE_CTRL_DS_PRECODE (b2n on)))

/-- LINE_PLL_LOCK (R80): the PLL of an enabled tree locks. -/
def execLinePllLock (t : Fin 48) (s : State) : Host.Outcome State Fault Refusal :=
  s.run (fun d =>
    if d.treeEn t.val then
      ((d.put (rTREE_LINE_STATUS t.val) fTREE_LINE_STATUS_PLL_LOCK 1).updTree t.val (fun x => { x with pllSeen := true })).treeUpdate t.val
    else d)

/-- LINE_PLL_UNLOCK (R82): a PLL that has locked loses lock. -/
def execLinePllUnlock (t : Fin 48) (s : State) : Host.Outcome State Fault Refusal :=
  s.run (fun d =>
    if d.bit (rTREE_LINE_STATUS t.val) fTREE_LINE_STATUS_PLL_LOCK then
      let d := d.put (rTREE_LINE_STATUS t.val) fTREE_LINE_STATUS_PLL_LOCK 0
      ((d.mark (rTREE_ERR t.val) fTREE_ERR_PLL_UNLOCK).alert 0x0304 (p4 t.val)).treeUpdate t.val
    else d)

/-- FIRST_FRAME (R80). -/
def execFirstFrame (t : Fin 48) (s : State) : Host.Outcome State Fault Refusal := s.run (fun d => d.firstFrame t.val)

/-! Cages (R72-R74). -/

/-- MODULE_PRESENT (R72): PRS_L has been low for 10 ms; a cage that was not EMPTY keeps its state. -/
def execModulePresent (c : CageId) (s : State) : Host.Outcome State Fault Refusal :=
  s.run (fun d =>
    if !(d.cageOk c) then d else
    let d := d.updCage (cageKey c) (fun x => { x with away := false })
    if d.cageState c = cgEmpty then d.cageIdent c else d.cageUpdate c)

/-- MODULE_IDENTIFY (R72, R74): the open test and the reads of the ID byte and the application code. -/
def execModuleIdentify (c : CageId) (opens : Nat) (id : Fin 256) (app : Fin 65536) (s : State) : Host.Outcome State Fault Refusal :=
  s.run (fun d =>
    if d.cageState c ≠ cgIdent ∨ d.bit (cageCtrl c) fTREE_MOD_CTRL_MOD_RESET then d else
    let d := d.cageOpen c opens
    let d := (d.put (cageStat c) fTREE_MOD_STATUS_ID id.val).put (cageStat c) fTREE_MOD_STATUS_APP app.val
    if d.cageAccepts c id.val app.val then (d.setCageState c cgReady).cageUpdate c
    else ((d.setCageState c cgRefused).cageErr c fTREE_ERR_MOD_REFUSED).cageAlert c 1)

/-- I2C_NACK_LIMIT (R72): the eighth read without acknowledgement. -/
def execI2cNackLimit (c : CageId) (s : State) : Host.Outcome State Fault Refusal :=
  s.run (fun d =>
    if d.cageState c ≠ cgIdent ∨ d.bit (cageCtrl c) fTREE_MOD_CTRL_MOD_RESET then d
    else ((d.setCageState c cgFault).cageErr c fTREE_ERR_I2C_NACK).cageAlert c 7)

/-- PRS_L_RISE (R72): TXDIS is asserted at once, whatever the 10 ms bring. -/
def execPrsLRise (c : CageId) (s : State) : Host.Outcome State Fault Refusal :=
  s.run (fun d =>
    if d.cageOk c && d.cageState c != cgEmpty then (d.updCage (cageKey c) (fun x => { x with away := true })).cageUpdate c else d)

/-- MODULE_REMOVED (R72): PRS_L has been high for 10 ms. -/
def execModuleRemoved (c : CageId) (s : State) : Host.Outcome State Fault Refusal :=
  s.run (fun d =>
    let st := d.cageState c
    if st = cgEmpty then d else
    let d := (d.setCageState c cgEmpty).updCage (cageKey c) (fun x => { x with away := false })
    let d := (d.emit .rstL (cageKey c) [0]).cageUpdate c
    let d := d.cageErr c fTREE_ERR_MOD_REMOVED
    d.when (st == cgReady) (fun d => d.cageAlert c 2))

/-- REIDENT (R72): a write of a cage's control register with REIDENT. -/
def execReident (c : CageId) (s : State) : Host.Outcome State Fault Refusal :=
  s.run (fun d => d.writeModCtrl c (fieldPut (d.rdN (cageCtrl c)) fTREE_MOD_CTRL_REIDENT 1))

/-- MOD_RESET (R72): a write of MOD_RESET. -/
def execModReset (c : CageId) (on : Bool) (s : State) : Host.Outcome State Fault Refusal :=
  s.run (fun d => d.writeModCtrl c (fieldPut (d.rdN (cageCtrl c)) fTREE_MOD_CTRL_MOD_RESET (b2n on)))

/-- FORCE_TXDIS_WRITE (R73): a write of FORCE_TXDIS. -/
def execForceTxdisWrite (c : CageId) (on : Bool) (s : State) : Host.Outcome State Fault Refusal :=
  s.run (fun d => d.writeModCtrl c (fieldPut (d.rdN (cageCtrl c)) fTREE_MOD_CTRL_FORCE_TXDIS (b2n on)))

/-- LOW_SPEED_PIN_CHECK (R74): one comparison of the outputs with the levels driven. -/
def execLowSpeedPinCheck (c : CageId) (mism : BitVec 10) (s : State) : Host.Outcome State Fault Refusal :=
  s.run (fun d => if d.cageOk c then d.cageCheck c mism.toNat else d)

/-- MODULE_INT (R74). -/
def execModuleInt (c : CageId) (s : State) : Host.Outcome State Fault Refusal :=
  s.run (fun d => if d.cageOk c then (d.cageErr c fTREE_ERR_MOD_INT).cageAlert c 5 else d)

/-! RSSI (R77). -/

/-- RSSI_ARM (R77): a write of TREE_RSSI_CTRL. -/
def execRssiArm (t : Fin 48) (val : Word) (s : State) : Host.Outcome State Fault Refusal :=
  s.run (fun d => if d.treeOk t.val then d.writeRssi t.val val.toNat else d)

/-- RSSI_DONE (R77): the pulse has been sent within a burst of some ns; `data` are the two bytes then read from the
module. -/
def execRssiDone (t : Fin 48) (burstNs : Nat) (seen : Bool) (data : List Byte) (s : State) : Host.Outcome State Fault Refusal :=
  s.run (fun d =>
    let c := d.rdN (rTREE_RSSI_CTRL t.val)
    let off := fieldOf c fTREE_RSSI_CTRL_OFFSET
    let width := max 1 (fieldOf c fTREE_RSSI_CTRL_WIDTH)
    if !(nbit c 31) || decide (burstNs ≤ off) then d
    else (d.emit .rssi t.val [off, min width (burstNs - off)]).rssiEnd t.val seen false (decide (burstNs < off + width)) data)

/-- RSSI_TIMEOUT (R77): no such burst within 8,000 ticks. -/
def execRssiTimeout (t : Fin 48) (s : State) : Host.Outcome State Fault Refusal :=
  s.run (fun d =>
    if d.bit (rTREE_RSSI_CTRL t.val) fTREE_RSSI_CTRL_ARM && decide ((d.tree t.val).armTick + 8000 ≤ d.tickNow) then
      d.rssiEnd t.val false true false []
    else d)

/-- LINE_OPTIONS_EFFECTIVE (R68). -/
def execLineOptionsEffective (h : Fin 16384) (s : State) : Host.Outcome State Fault Refusal :=
  s.run (fun d => d.lineOptEffective h.val)

/-! Mailbox commands (R84-R86). -/

/-- The registers of TREE_CONFIG's expert block, in order. -/
def treeExpert (t : Nat) : List Nat :=
  [rTREE_PON_ID t, rTREE_TXOFF t, rTREE_BRST t, rTREE_ACT_BRST t, rTREE_MOD_CTRL t] ++ (List.range 4).map (fun k => rTREE_MOD_ACCEPT t k)

/-- Write one of them. -/
def Dev.treeExpertWrite (d : Dev) (t k v : Nat) : Dev :=
  if k = 4 then d.writeModCtrl (.tree ⟨t % 48, Nat.mod_lt _ (by decide)⟩) v else d.access ((treeExpert t).getD k 0) v

/-- TREE_CONFIG (R84), code 0x0101. -/
def execTreeConfig (m : Fin 64) (s : State) : Host.Outcome State Fault Refusal :=
  s.run (fun d => d.command m.val 0x0101 (fun c d =>
    let t := c.u8 0
    let x := c.expert 3
    let mask := c.u16 0x28
    let old := d.rdN (rTREE_LINE_CTRL t)
    let v := fieldPut (fieldPut (fieldPut (fieldPut old fTREE_LINE_CTRL_MODE (c.u8 1)) fTREE_LINE_CTRL_EN (c.u8 2))
      fTREE_LINE_CTRL_ACT_FITTED (c.u8 3 % 2)) fTREE_LINE_CTRL_DS_PRECODE (c.u8 3 / 2 % 2)
    let moves := d.mode t != c.u8 1 || d.get (rTREE_LINE_CTRL t) fTREE_LINE_CTRL_ACT_FITTED != c.u8 3 % 2
    c.checks d
      [c.mustOwn, inForm (d.treeOk t && decide (c.u8 1 ≤ 2) && decide (c.u8 2 ≤ 1) && c.only 3 0x83),
       inForm (if x then decide (mask < 512) && c.block 0x2A else c.endsAt 4),
       inForm (!x || (List.range 9).all (fun k => !(nbit mask k) || !(badValue ((treeExpert t).getD k 0) (c.u32 (4 + 4 * k))))),
       (!(d.pairEn t && d.pairKind t == 0 && d.mode t != c.u8 1), resBusy),
       (moves || !(d.precodePending t) || d.get (rTREE_LINE_CTRL t) fTREE_LINE_CTRL_DS_PRECODE == c.u8 3 / 2 % 2, resBusy)]
      (fun d =>
        let d := if x then (List.range 9).foldl (fun d k => if nbit mask k then d.treeExpertWrite t k (c.u32 (4 + 4 * k)) else d) d else d
        let d := if moves && d.treeEn t then
            (d.writeLineCtrl t (fieldPut old fTREE_LINE_CTRL_EN 0)).writeLineCtrl t (fieldPut v fTREE_LINE_CTRL_EN 0) else d
        let d := d.writeLineCtrl t v
        let st := d.rdN (rTREE_LINE_STATUS t)
        let done := fun (tick : Nat) => c.ok d (leB 4 st ++ leB 8 tick)
        if c.u8 2 = 0 then done 0
        else if (d.tree t).live then done ((d.tree t).firstAt.getD (d.tickNow + 1))
        else if d.cageLit (.tree ⟨t % 48, Nat.mod_lt _ (by decide)⟩) && !(d.bit (rTREE_MOD_CTRL t) fTREE_MOD_CTRL_MOD_RESET) &&
            !(d.standby t) then c.wait d [t]
        else done 0)))

/-- A tenant owns at least one channel on a tree (R85). -/
def Dev.ownsOn (d : Dev) (ten t : Nat) : Bool := d.cat.chans.any (fun e => e.2.valid && e.2.tree == t && e.2.tenant == ten)

/-- The rights of TREE_STATUS (R85). -/
def Cmd.treeRights (c : Cmd) (d : Dev) (t : Nat) : Bool × Nat :=
  (match c.caller with | none => true | some n => d.ownsOn n t, resNotPermitted)

/-- TREE_STATUS (R85), code 0x0102. -/
def execTreeStatus (m : Fin 64) (s : State) : Host.Outcome State Fault Refusal :=
  s.run (fun d => d.command m.val 0x0102 (fun c d =>
    let t := c.u8 0
    c.checks d [c.treeRights d t, inForm (d.treeOk t && c.endsAt 1)] (fun d =>
      c.ok d ([rTREE_LINE_STATUS t, rTREE_MOD_STATUS t, rTREE_ERR t, rTREE_PIN_FAULT t, rTREE_BRST_SKIP t].flatMap (fun a => leB 4 (d.rdN a))))))

/-- TREE_RSSI (R86), code 0x0103. -/
def execTreeRssi (m : Fin 64) (s : State) : Host.Outcome State Fault Refusal :=
  s.run (fun d => d.command m.val 0x0103 (fun c d =>
    let t := c.u8 0
    c.checks d
      [c.mustOwn, inForm (d.treeOk t && c.zero 1 1 && decide (c.u16 2 ≤ 1019) && decide (c.u16 4 < 2048) && c.only 7 0x80 &&
        (if c.expert 7 then c.block 9 else c.endsAt 8)),
       (d.cageState (.tree ⟨t % 48, Nat.mod_lt _ (by decide)⟩) == cgReady, resNotReady),
       (!(d.bit (rTREE_RSSI_CTRL t) fTREE_RSSI_CTRL_ARM), resBusy)]
      (fun d => c.wait (d.writeRssi t (2 ^ 31 + c.u16 2 * 2 ^ 20 + c.u16 4 * 2 ^ 9 + c.u8 6)) [t])))

end Sys2Proof.Machine
end

