-- ==== Sys2Proof/Machine/DsCmds.lean ====
section
/-! DEFINITION. The commands of 09_downstream.md: choices, gate lists, tenant nodes, admission, samples and histograms
(R256-R285). -/

namespace Sys2Proof.Machine

/-- DS_CHOICE (R262-R271): a choice at FS byte `fs` of the frame on its way out of a tree; `next` is the FS byte at which
the next frame's payload begins, and `ecc` how the packet reads from its buffer: 0 clean, 1 corrected, 2 uncorrectable. -/
def execDsChoice (t : Fin 48) (fs next : Fin 1313216) (ecc : Fin 3) (s : State) : Host.Outcome State Fault Refusal :=
  s.run (fun d => d.dsChoice t.val fs.val next.val ecc.val)

/-! Gate lists (R268-R272; 15_uplinks.md R444). -/

/-- The owner's gates exist: a tree of this part, or the first lane of a port (00_scope.md R2; 15_uplinks.md R452). -/
def Dev.gateOk (d : Dev) : GateOwner → Bool
  | .tree t => d.treeOk t.val
  | .upl u => d.uplFirst u.val == u.val

/-- GATE_LIST_COMMIT (R272): a write of GATE_CMD with COMMIT. -/
def execGateListCommit (g : GateOwner) (len : Fin 512) (s : State) : Host.Outcome State Fault Refusal :=
  s.run (fun d => if d.gateOk g then d.gateCmd g (2 ^ 31 + len.val) else d)

/-- GATE_LIST_ABORT (R272): a write of GATE_CMD with ABORT. -/
def execGateListAbort (g : GateOwner) (len : Fin 512) (s : State) : Host.Outcome State Fault Refusal :=
  s.run (fun d => if d.gateOk g then d.gateCmd g (2 ^ 30 + len.val) else d)

/-- Discard the heads that can never fit a list that has become active (R271). -/
def Dev.gateTooLong (d : Dev) (g : GateOwner) (at_ : Nat) : Dev :=
  match g with
  | .tree t => (d.dsChans t.val).foldl (fun d c => d.dsClearChan t.val c at_) d
  | .upl u => d.uplClearAll u.val

/-- GATE_LIST_ACTIVE (R271, R272): the instant of the armed list's change comes in this tick. -/
def execGateListActive (g : GateOwner) (s : State) : Host.Outcome State Fault Refusal :=
  s.run (fun d =>
    match (d.gateX (gateKey g)).armed with
    | none => d
    | some (_, tick, ns) => if d.tickNow < tick then d else (d.gateActivate g).gateTooLong g (instant tick ns))

/-! Tenant nodes and admission (R260, R280, R281). -/

/-- Write one register of a tenant node, refused under R260: 0 CIR, 1 PIR, 2 WEIGHT. -/
def Dev.writeDsTen (d : Dev) (t n w v : Nat) : Dev :=
  let cir := if w = 0 then fieldOf v fDSQ_TEN_CIR_RATE else d.tenCir t n
  let pir := if w = 1 then fieldOf v fDSQ_TEN_PIR_RATE else d.tenPir t n
  let weight := if w = 2 then fieldOf v fDSQ_TEN_WEIGHT_WEIGHT else d.tenWeight t n
  let bad := d.dsTenBad t n cir pir weight
  if bad.1 || bad.2 then d.mark rDSQ_ERR fDSQ_ERR_ADMIT_REFUSED else d.dsTenSet t n cir pir weight

/-- The node of a DSQ_TEN register: 31 for the owner. -/
def regNode (n : Nat) : Nat := if n < 16 then n else 31

/-- DSQ_TEN_WRITE (R260). -/
def execDsqTenWrite (t : Fin 48) (n : Fin 17) (w : Fin 3) (val : Word) (s : State) : Host.Outcome State Fault Refusal :=
  s.run (fun d => if d.treeOk t.val then d.writeDsTen t.val (regNode n.val) w.val val.toNat else d)

/-- Write DSQ_ADMIT: a limit that resolves below USED is ignored (R278). -/
def Dev.writeDsAdmit (d : Dev) (t v : Nat) : Dev :=
  let lim := fieldOf v fDSQ_ADMIT_LIMIT
  if d.dsResolve t lim < d.dsUsed t then d.mark rDSQ_ERR fDSQ_ERR_ADMIT_REFUSED else d.put (rDSQ_ADMIT t) fDSQ_ADMIT_LIMIT lim

/-- DSQ_ADMIT_WRITE (R260, R278). -/
def execDsqAdmitWrite (t : Fin 48) (val : Word) (s : State) : Host.Outcome State Fault Refusal :=
  s.run (fun d => if d.treeOk t.val then d.writeDsAdmit t.val val.toNat else d)

/-- Write a tree's DSQ_TREE_CTRL, and show its gates. -/
def Dev.writeDsTree (d : Dev) (t v : Nat) : Dev :=
  (d.access (rDSQ_TREE_CTRL t) v).showGate (.tree ⟨t % 48, Nat.mod_lt _ (by decide)⟩) d.nowNs

/-- TREE_DS_CONFIG (R280), code 0x010A. -/
def execTreeDsConfig (m : Fin 64) (s : State) : Host.Outcome State Fault Refusal :=
  s.run (fun d => d.command m.val 0x010A (fun c d =>
    let t := c.u8 0
    let x := c.expert 1
    let lim := c.u32 4
    let keep := lim == 0xFFFFFFFF
    let wr := x && nbit (c.u8 0x0C) 0
    c.checks d
      [c.mustOwn, inForm (d.treeOk t && c.only 1 0x83 && c.zero 3 1 && (if x then c.only 0x0C 1 && c.block 0x0D else c.endsAt 8)),
       inForm (keep || (decide (lim < 2 ^ 27) && decide (d.dsUsed t ≤ d.dsResolve t lim))), inForm (!wr || !(badValue rDSQ_CTRL (c.u32 8)))]
      (fun d =>
        let f := c.u8 1
        let d := d.writeDsTree t (c.u8 2 * 256 + f % 2 * 4 + f / 2 % 2 * 2)
        let d := if keep then d else d.put (rDSQ_ADMIT t) fDSQ_ADMIT_LIMIT lim
        let d := if wr then d.access rDSQ_CTRL (c.u32 8) else d
        c.ok d (leB 4 (d.dsLimit t) ++ leB 4 (d.dsUsed t)))))

/-- Bytes queued in a tenant node's channels at the latest sample (R281). -/
def Dev.tenQueued (d : Dev) (t n : Nat) : Nat :=
  ((d.dsChans t).map (fun c => if nodeTenant (d.chan c).tenant == n then (d.dsSample c).getD 0 0 else 0)).sum

/-- TREE_DS_TENANT (R281), code 0x010B. -/
def execTreeDsTenant (m : Fin 64) (s : State) : Host.Outcome State Fault Refusal :=
  s.run (fun d => d.command m.val 0x010B (fun c d =>
    let t := c.u8 0
    let n := c.u8 1
    let query := nbit (c.u8 2) 0
    let cir := c.u32 4
    let pir := c.u32 8
    let weight := c.u16 0x0C
    let bad := d.dsTenBad t n cir pir weight
    c.checks d
      [c.mayExpert 2, (match c.caller with | none => true | some k => query && n == k && d.grantedTree k t, resNotPermitted),
       inForm (d.treeOk t && (decide (n < 16) || n == 31) && c.only 2 0x81 && c.zero 3 1 && c.endsAt 0x0E),
       inForm (query || (decide (cir < 2 ^ 27) && decide (pir < 2 ^ 27)))]
      (fun d =>
        if !query && bad.1 then c.fail (d.mark rDSQ_ERR fDSQ_ERR_ADMIT_REFUSED) resNoResource
        else if !query && bad.2 then c.fail (d.mark rDSQ_ERR fDSQ_ERR_ADMIT_REFUSED) resBadParam
        else
          let d := if query then d else d.dsTenSet t n cir pir weight
          c.ok d (leB 4 (d.tenCir t n) ++ leB 4 (d.tenPir t n) ++ leB 2 (d.tenWeight t n) ++ leB 2 0 ++ leB 4 (d.dsCirSum t n none) ++
            leB 4 (d.tenQueued t n)))))

/-! TREE_GATE (R282). -/

/-- The entries of a request. -/
def Cmd.gateEntries (c : Cmd) : List Nat := (List.range (c.u16 2)).map (fun i => c.u32 (0x18 + 4 * i))

/-- Write a tree's pending list from a request, and its LEN. -/
def Cmd.putPending (c : Cmd) (d : Dev) (t : Nat) : Dev :=
  let d := (d.put (rDSQ_GATE_CYCLE t) fDSQ_GATE_CYCLE_CYCLE (c.u32 4)).wr64 (rDSQ_GATE_BASE_LO t) (rDSQ_GATE_BASE_HI t) (c.u64 8)
  let d := (d.wr64 (rDSQ_GATE_CHANGE_LO t) (rDSQ_GATE_CHANGE_HI t) (c.u64 0x10)).put (rDSQ_GATE_CMD t) fDSQ_GATE_CMD_LEN (c.u16 2)
  d.updGateX t (fun x => { x with pend := c.gateEntries.zipIdx.foldl (fun p e => sset (fun _ => 0) p e.2 e.1) x.pend })

/-- What a query returns. -/
def Dev.gateReport (d : Dev) (t : Nat) : List Byte :=
  let es := match (d.gateX t).active with | some l => l.entries.take 256 | none => []
  leB 4 (d.rdN (rDSQ_GATE_STATUS t)) ++ leB 4 (d.get (rDSQ_GATE_ACT_CYCLE t) fDSQ_GATE_ACT_CYCLE_CYCLE) ++ leB 2 es.length ++ es.flatMap (leB 4)

/-- TREE_GATE (R282), code 0x010C: a load, an abort or a query. -/
def execTreeGate (m : Fin 64) (s : State) : Host.Outcome State Fault Refusal :=
  s.run (fun d => d.command m.val 0x010C (fun c d =>
    let t := c.u8 0
    let g : GateOwner := .tree ⟨t % 48, Nat.mod_lt _ (by decide)⟩
    let query := nbit (c.u8 1) 0
    let abort := nbit (c.u8 1) 1
    let n := c.u16 2
    c.checks d
      [c.mayExpert 1, (if query && !abort then c.treeRights d t else c.mustOwn),
       inForm (d.treeOk t && c.only 1 0x83), inForm (query || abort || (decide (n ≤ 248) && c.endsAt (0x18 + 4 * n)))]
      (fun d =>
        if query || abort then
          let d := if abort then d.gateAbort g else d
          c.ok d (if query then (d.showGate g d.nowNs).gateReport t else [])
        else if !(gateListOk (c.u32 4) n c.gateEntries) then c.fail (d.mark rDSQ_ERR fDSQ_ERR_GATE_CFG) resBadParam
        else
          let r := (c.putPending d t).gateCommit g
          c.ok r.2 (leB 8 (r.1.2.2 / tickNs) ++ leB 4 (r.1.2.2 % tickNs) ++ leB 1 (b2n r.1.2.1)))))

/-! Samples (R274, R283). -/

/-- A write of DSQ_SMP_SEL: GO copies a channel's sample. -/
def Dev.writeSmpSel (d : Dev) (v : Nat) : Dev :=
  let d := d.access rDSQ_SMP_SEL (v % 2 ^ 31)
  if nbit v 31 then (d.dsSample (fieldOf v fDSQ_SMP_SEL_CHAN)).zipIdx.foldl (fun d w => d.wrN (rDSQ_SMP_DATA w.2) w.1) d else d

/-- DSQ_SAMPLE_COPY (R274): a write of DSQ_SMP_SEL with GO. -/
def execDsqSampleCopy (chan : Fin 262144) (s : State) : Host.Outcome State Fault Refusal :=
  s.run (fun d => d.writeSmpSel (2 ^ 31 + chan.val))

/-- CHAN_DS_SAMPLE (R283), code 0x0405. -/
def execChanDsSample (m : Fin 64) (s : State) : Host.Outcome State Fault Refusal :=
  s.run (fun d => d.command m.val 0x0405 (fun c d =>
    match d.findChan (c.u8 0) (c.u16 2) with
    | none => c.checks d [d.readyCheck, c.mayExpert 1, inForm false] (fun d => d)
    | some h => c.checks d [d.readyCheck, c.mayTouch (d.chan h).tenant (c.expert 1), inForm (c.nameForm d)] (fun d =>
        c.ok d ((d.dsSample h).flatMap (leB 4)))))

/-! Histograms (R276, R284). -/

/-- A write of DSQ_HIST CMD: COPY, with CLEAR where it comes with it, waits for the boundary. -/
def Dev.writeHistCmd (d : Dev) (h v : Nat) : Dev :=
  if nbit v 0 then
    let d := (d.put (rDSQ_HIST_CMD h) fDSQ_HIST_CMD_COPY 1).put (rDSQ_HIST_CMD h) fDSQ_HIST_CMD_READY 0
    if nbit v 1 then d.put (rDSQ_HIST_CMD h) fDSQ_HIST_CMD_CLEAR 1 else d
  else d

/-- HIST_COPY (R276). -/
def execHistCopy (h : Fin 64) (val : Word) (s : State) : Host.Outcome State Fault Refusal :=
  s.run (fun d => d.writeHistCmd h.val val.toNat)

/-- A write of DSQ_HIST CFG: a change zeroes the live bins. -/
def Dev.writeHistCfg (d : Dev) (h v : Nat) : Dev :=
  let old := d.rdN (rDSQ_HIST_CFG h)
  let d := d.access (rDSQ_HIST_CFG h) v
  if d.rdN (rDSQ_HIST_CFG h) = old then d else d.setHistOf h []

/-- HIST_CFG_WRITE (R276). -/
def execHistCfgWrite (h : Fin 64) (val : Word) (s : State) : Host.Outcome State Fault Refusal :=
  s.run (fun d => d.writeHistCfg h.val val.toNat)

/-- A tenant may read a histogram (R284): its channel, its tenant node, or a terminal node all of whose channels are its
own. -/
def Dev.mayReadHist (d : Dev) (h ten : Nat) : Bool :=
  let cfg := d.rdN (rDSQ_HIST_CFG h)
  let i := fieldOf cfg fDSQ_HIST_CFG_INDEX
  let scope := fieldOf cfg fDSQ_HIST_CFG_SCOPE
  if scope = 0 then (d.chan i).valid && (d.chan i).tenant == ten
  else if scope = 1 then
    let cs := (d.dsChans (fieldOf cfg fDSQ_HIST_CFG_TREE)).filter (fun c => (d.chan c).term == i)
    !cs.isEmpty && cs.all (fun c => (d.chan c).tenant == ten)
  else scope == 2 && i == ten

/-- TREE_DS_HIST (R284), code 0x010D: a read answers after the copy at the next boundary. -/
def execTreeDsHist (m : Fin 64) (s : State) : Host.Outcome State Fault Refusal :=
  s.run (fun d => d.command m.val 0x010D (fun c d =>
    let h := c.u8 0
    let act := c.u8 1
    c.checks d
      [(match c.caller with | none => true | some k => act != 1 && decide (h < 64) && d.mayReadHist h k, resNotPermitted),
       inForm (decide (h < 64) && decide (act < 3) && c.zero 2 2 && (act == 1 || c.endsAt 10)),
       inForm (act != 1 || (c.endsAt 10 && !(badValue (rDSQ_HIST_CFG h) (c.u32 4))))]
      (fun d =>
        if act = 1 then c.ok ((d.writeHistCfg h (c.u32 4)).put (rDSQ_HIST_BASE h) fDSQ_HIST_BASE_BASE_NS (c.u16 8)) []
        else c.wait (d.writeHistCmd h (if act = 2 then 3 else 1)) [h])))

/-- At a boundary the histogram reads that wait are answered from the read areas just copied (R276, R284). -/
def Dev.histReplies (d : Dev) : Dev :=
  (d.waiting 0x010D).foldl (fun d c =>
    let h := c.note.getD 0 0
    c.ok d (leB 8 d.tickNow ++ (List.range 32).flatMap (fun i => leB 4 (d.rdN (rDSQ_HIST_BIN h i))))) d

end Sys2Proof.Machine
end

