-- ==== Sys2Proof/Machine/DramOps.lean ====
section
/-! DEFINITION. The DRAM controllers: addresses, the bank queues and the pick, what an access gives, channels out of
service, and the Stockpot's fetches (14_dram.md R407-R436). -/

namespace Sys2Proof.Machine

/-! Channels and addresses (R407-R409). -/

/-- Enabled channels: 8 or 16 (R408). -/
def Dev.dramN (d : Dev) : Nat := if d.bit rDRAM_CTRL fDRAM_CTRL_CH8 || d.part == .c4 then 8 else 16

/-- A channel is enabled. -/
def Dev.dramOn (d : Dev) (c : Nat) : Bool := decide (c < d.dramN)

/-- Bytes of one channel (R408); the reserved code acts as 2. -/
def Dev.dramCap (d : Dev) : Nat := 2 ^ (30 + min 2 (d.get rDRAM_CTRL fDRAM_CTRL_CAP))

/-- Bytes of the DRAM. -/
def Dev.dramSize (d : Dev) : Nat := d.dramN * d.dramCap

/-- The channel of a physical address (R409). -/
def Dev.dramChan (d : Dev) (a : Nat) : Nat :=
  if d.dramN = 16 then Nat.xor (a / 2 ^ 8 % 16) (a / 2 ^ 14 % 16) else Nat.xor (a / 2 ^ 8 % 8) (a / 2 ^ 14 % 8)

/-- The local address within the channel (R409). -/
def Dev.dramLocal (d : Dev) (a : Nat) : Nat := (if d.dramN = 16 then a / 2 ^ 12 else a / 2 ^ 11) * 256 + a % 256

/-- The row of a local address, above 11 column bits, one subchannel bit and four bank bits (R409; the widths are
PRESUMED, log entry 40). -/
def localRow (l : Nat) : Nat := l / 2 ^ 16

/-- The bank queue of a local address: the subchannel, and the bank number XORed with the row's low bits (R409, R413). -/
def localBank (l : Nat) : Nat := l / 2 ^ 11 % 2 * 16 + Nat.xor (l / 2 ^ 12 % 16) (localRow l % 16)

/-- The unit of a byte address. -/
def unitOf (a : Nat) : Nat := a / 64

/-- The bank queue of a request, numbered over all channels. -/
def Dev.reqBank (d : Dev) (r : DramReq) : Nat := 32 * d.dramChan r.addr + localBank (d.dramLocal r.addr)

/-- The row of a request. -/
def Dev.reqRow (d : Dev) (r : DramReq) : Nat := localRow (d.dramLocal r.addr)

/-- A channel is out of service (R425). -/
def Dev.dramIsDown (d : Dev) (c : Nat) : Bool := d.bit (rDRAM_CH_STATUS c) fDRAM_CH_STATUS_DOWN

/-- DRAM is READY (R422). -/
def Dev.dramReady (d : Dev) : Bool := d.bit rDRAM_STATUS fDRAM_STATUS_READY

/-- Take a channel out of service, until the next reset (R425). -/
def Dev.dramDown (d : Dev) (c cause : Nat) : Dev :=
  if d.dramIsDown c || !(d.dramOn c) then d else
  let d := (d.put (rDRAM_CH_STATUS c) fDRAM_CH_STATUS_DOWN 1).put (rDRAM_CH_STATUS c) fDRAM_CH_STATUS_CAUSE cause
  let d := (d.put rDRAM_STATUS ⟨c % 16, c % 16⟩ 1).mark rDRAM_ERR fDRAM_ERR_CH_DOWN
  d.alert 0x0D02 (p4 c ++ p4 cause)

/-! Contents. -/

/-- A unit that nothing has written holds zeros (R422). -/
def unitZero : Nat → List Byte := fun _ => List.replicate 64 0#8

/-- The 64 bytes of a unit. -/
def Dev.unitAt (d : Dev) (u : Nat) : List Byte := sget unitZero d.dram.units u

/-- A unit's bytes after a write of some of them (R415). -/
def unitMerge (old : List Byte) (at_ : Nat) (bs : List Byte) : List Byte :=
  old.take (at_ % 64) ++ bs.take (64 - at_ % 64) ++ old.drop (at_ % 64 + min bs.length (64 - at_ % 64))

/-- A unit's bytes after the writes of a list of requests, oldest first. -/
def unitAfter (u : Nat) (old : List Byte) (rs : List DramReq) : List Byte :=
  rs.foldl (fun b r => match r.data with | some x => if unitOf r.addr = u then unitMerge b r.addr x else b | none => b) old

/-! What an access gives (R418-R420). -/

/-- A read answers its port: the data, or poison. -/
def Dev.dramAnswer (d : Dev) (r : DramReq) (poison : Bool) (bs : List Byte) : Dev :=
  let d := d.emit .dram r.port.val [d.dramChan r.addr, r.addr, 0, b2n poison] bs
  if poison && r.port.val == 3 then d.emit .processor 0 [2, r.addr] [] else d

/-- An uncorrectable read (R420): counted, its address kept, alerted once per tick per channel. -/
def Dev.dramUncorr (d : Dev) (a : Nat) : Dev :=
  let c := d.dramChan a
  let d := (d.bump (rDRAM_CH_CNT c 4)).wr64 (rDRAM_CH_UE_LO c) (rDRAM_CH_UE_HI c) a
  (d.mark rDRAM_ERR fDRAM_ERR_UNCORR).alertOnce 0x0D01 c (p4 c ++ p8 a)

/-- How a unit with some erroneous bytes decodes (R419): 0 clean, 1 corrected, 2 uncorrectable; past six bytes the code
promises nothing, and whether it reports the unit is a free value (log entry 3). -/
def Dev.dramDecode (d : Dev) (bad : Nat) : Nat × Dev :=
  if bad = 0 then (0, d) else if bad ≤ 2 then (1, d) else if bad ≤ 6 then (2, d)
  else let r := d.draw; (r.1 % 3, r.2)

/-- Carry out a read of a unit: whether it is poisoned. -/
def Dev.dramRead (d : Dev) (port a bad : Nat) : Bool × Dev :=
  let c := d.dramChan a
  let d := (d.bump (rDRAM_CH_CNT c 0)).evc 0x0300 1 { req := some port, addr := some a }
  let r := d.dramDecode bad
  if r.1 = 1 then (false, r.2.bump (rDRAM_CH_CNT c 3))
  else if r.1 = 2 then (true, r.2.dramUncorr a)
  else (false, r.2)

/-- Count a write of a unit. -/
def Dev.dramWrote (d : Dev) (port a : Nat) : Dev :=
  (d.bump (rDRAM_CH_CNT (d.dramChan a) 1)).evc 0x0301 1 { req := some port, addr := some a }

/-! The queues (R411-R416). -/

/-- MAX_OUT of a port: 0 acts as 1, above 256 as 256 (R413). -/
def Dev.maxOut (d : Dev) (p : Nat) : Nat := min 256 (max 1 (d.get (rDRAM_PORT_CFG p) fDRAM_PORT_CFG_MAX_OUT))

/-- The urgency of a waiting request (R412). -/
def Dev.urgency (d : Dev) (r : DramReq) (now : Nat) : Nat :=
  let lat := d.get (rDRAM_PORT_LAT r.port.val) fDRAM_PORT_LAT_NS
  let aged := if lat = 0 then 0 else if 2 * lat ≤ now - r.since then 3 else if lat ≤ now - r.since then 2 else 0
  max (max r.urg.val (d.get (rDRAM_PORT_CFG r.port.val) fDRAM_PORT_CFG_BASE_URG)) aged

/-- Requests held by a channel. -/
def Dev.chanReqs (d : Dev) (c : Nat) : List DramReq := d.dram.reqs.filter (fun r => d.dramChan r.addr == c)

/-- A request finds a place in its channel (R413). -/
def Dev.hasPlace (d : Dev) (r : DramReq) (now : Nat) : Bool :=
  let mine := d.chanReqs (d.dramChan r.addr)
  decide ((mine.filter (fun x => d.reqBank x == d.reqBank r)).length < 8) &&
  decide (mine.length < (if d.urgency r now < 3 then 240 else 256)) &&
  decide ((mine.filter (fun x => x.port == r.port)).length < d.maxOut r.port.val)

/-- Show OUTSTANDING of every channel. -/
def Dev.showReqs (d : Dev) : Dev :=
  (List.range 16).foldl (fun d c =>
    if d.dramOn c then d.put (rDRAM_CH_STATUS c) fDRAM_CH_STATUS_OUTSTANDING (d.chanReqs c).length else d) d

/-- What a request meets at its channel: whether it is done without one (R409, R415, R425), is queued, or waits. -/
def Dev.dramPlace (d : Dev) (r : DramReq) (now : Nat) : Option Dev :=
  let c := d.dramChan r.addr
  if d.dramSize ≤ r.addr then
    let d := d.mark rDRAM_ERR fDRAM_ERR_ADDR_RANGE
    some (if r.data.isNone then d.dramAnswer r true [] else d)
  else if !(d.dramReady) || d.cipherOff then none
  else if d.dramIsDown c then
    let d := d.bump (rDRAM_CH_CNT c 6)
    some (if r.data.isNone then d.dramAnswer r true [] else d)
  else
    let older := d.dram.reqs.filter (fun x => x.data.isSome && unitOf x.addr == unitOf r.addr)
    if r.data.isNone && !older.isEmpty then some (d.dramAnswer r false (unitAfter (unitOf r.addr) (d.unitAt (unitOf r.addr)) older))
    else if d.hasPlace r now then some { d with dram := { d.dram with reqs := d.dram.reqs ++ [r] } }
    else none

/-- Place the waiting requests of every port, in order; one that finds no place stalls its port alone (R413). -/
def Dev.placeAll (d : Dev) (now : Nat) : List DramReq → List (Fin 6) → Dev
  | [], _ => d.showReqs
  | r :: rs, stalled =>
    let keep := Dev.placeAll { d with dram := { d.dram with waits := d.dram.waits ++ [r] } } now rs (r.port :: stalled)
    if stalled.contains r.port then keep else
    match d.dramPlace r now with
    | some d => Dev.placeAll d now rs stalled
    | none => keep

/-- Requests reach the controllers. -/
def Dev.arrive (d : Dev) (now : Nat) (rs : List DramReq) : Dev :=
  Dev.placeAll { d with dram := { d.dram with waits := [] } } now (d.dram.waits ++ rs) []

/-- The request a bank queue offers (R414): its oldest, or one to the open row that may pass, with whether it passes. -/
def Dev.bankHead (d : Dev) (b now : Nat) : Option (DramReq × Bool) :=
  match d.dram.reqs.filter (fun r => d.reqBank r == b) with
  | [] => none
  | r :: rs =>
    match d.dram.rows.find? (fun x => x.1 == b) with
    | none => some (r, false)
    | some (_, row, _, hits) =>
      if d.reqRow r = row || decide (d.get rDRAM_CTRL fDRAM_CTRL_PAGE_HIT_MAX ≤ hits) then some (r, false)
      else
        let may := fun (q : DramReq) =>
          let older := (r :: rs).takeWhile (fun x => x != q)
          d.reqRow q == row && older.all (fun x => decide (d.urgency x now ≤ d.urgency q now) && unitOf x.addr != unitOf q.addr)
        match rs.find? may with
        | some q => some (q, true)
        | none => some (r, false)

/-- The pick of a channel (R414): the highest urgency among the bank queues the DRAM timing allows, ties in rotating
order. -/
def Dev.dramPick (d : Dev) (c now : Nat) (ready : BitVec 32) : Option (Nat × DramReq × Bool) :=
  let last := ((d.dram.turn.find? (fun x => x.1 == c)).map Prod.snd).getD 31
  let order := (List.range 32).map (fun i => (last + 1 + i) % 32)
  let heads := order.filterMap (fun b => if ready.getLsbD b then (d.bankHead (32 * c + b) now).map (fun x => (b, x.1, x.2)) else none)
  heads.foldl (fun best x => match best with
    | none => some x
    | some y => if d.urgency y.2.1 now < d.urgency x.2.1 now then some x else some y) none

/-- The banks' open rows after a request is picked (R416). -/
def Dev.rowAfter (d : Dev) (b : Nat) (r : DramReq) (passed : Bool) : Dev :=
  let old := d.dram.rows.find? (fun x => x.1 == b)
  let row := d.reqRow r
  let hits := if passed then (old.map (fun x => x.2.2.2)).getD 0 + 1 else 0
  let another := d.dram.reqs.any (fun x => d.reqBank x == b && d.reqRow x == row)
  let stays := r.hint.val == 1 || (r.hint.val == 2 && another)
  let rest := d.dram.rows.filter (fun x => x.1 != b)
  { d with dram := { d.dram with rows := if stays then (b, row, r.hint.val, hits) :: rest else rest } }

/-- Carry out one request of a channel, and answer it. -/
def Dev.dramServe (d : Dev) (c : Nat) (b : Nat) (r : DramReq) (passed : Bool) (bad : Nat) : Dev :=
  let hit := match d.dram.rows.find? (fun x => x.1 == 32 * c + b) with | some x => x.2.1 == d.reqRow r | none => false
  let d := { d with dram := { d.dram with
    reqs := d.dram.reqs.erase r
    turn := (c, b) :: d.dram.turn.filter (fun x => x.1 != c) } }
  let d := (d.when hit (fun d => d.bump (rDRAM_CH_CNT c 2))).rowAfter (32 * c + b) r passed
  let u := unitOf r.addr
  match r.data with
  | none =>
    let x := d.dramRead r.port.val r.addr bad
    x.2.dramAnswer r x.1 (if x.1 then [] else x.2.unitAt u)
  | some bs =>
    let whole := r.addr % 64 == 0 && decide (64 ≤ bs.length)
    let x := if whole then (false, d) else d.dramRead r.port.val r.addr bad
    if x.1 then x.2.dramAnswer r true []
    else
      let d := { x.2 with dram := { x.2.dram with units := sset unitZero x.2.dram.units u (unitMerge (x.2.unitAt u) r.addr bs) } }
      d.dramWrote r.port.val r.addr

/-! The Stockpot's region and fetches (R410, R426-R429). -/

/-- Where the Stockpot region begins. -/
def Dev.spBase (d : Dev) : Nat := d.rd64 rSP_BASE_LO rSP_BASE_HI

/-- A region of the Stockpot breaks R410: it meets the Catalogue's 40 MiB, or passes the DRAM's end. -/
def Dev.spBad (d : Dev) (base mib : Nat) : Bool :=
  let cat := d.rd64 rCAT_BASE_LO rCAT_BASE_HI
  let size := mib * 2 ^ 20
  decide (d.dramSize < base + size) || (mib != 0 && decide (base < cat + 40 * 2 ^ 20) && decide (cat < base + size))

/-- The region may not change now (R426). -/
def Dev.spHeld (d : Dev) : Bool := d.bit rSP_CTRL fSP_CTRL_EN || !d.dram.chains.isEmpty

/-- Switch the Stockpot: set on, every page is free (R431). -/
def Dev.writeSpCtrl (d : Dev) (on : Bool) : Dev :=
  let was := d.bit rSP_CTRL fSP_CTRL_EN
  let d := d.put rSP_CTRL fSP_CTRL_EN (b2n on)
  let d := if on && !was && d.dram.chains.isEmpty then { d with dram := { d.dram with fresh := 0, freed := [] } } else d
  d.showSp

/-- A queue by its Stockpot key. -/
def Dev.spQueue (d : Dev) (key : Nat) : List Held := if 0x100000 ≤ key then d.upQ (key - 0x100000) else d.chQ key

/-- Replace a queue. -/
def Dev.setSpQueue (d : Dev) (key : Nat) (q : List Held) : Dev := if 0x100000 ≤ key then d.setUpQ (key - 0x100000) q else d.setChQ key q

/-- Change the first element of a list that a test accepts. -/
def mapFirst {α : Type} (p : α → Bool) (f : α → α) : List α → List α
  | [] => []
  | x :: xs => if p x then f x :: xs else x :: mapFirst p f xs

/-- The oldest spill of a queue still to be written is written (R427). -/
def Dev.spillDone (d : Dev) (key : Nat) : Dev :=
  let q := d.spQueue key
  let p := fun (h : Held) => h.buf.isNone && !h.written
  match q.find? p with
  | none => d
  | some h =>
    let d := d.setSpQueue key (mapFirst p (fun h => { h with written := true }) q)
    { d with dram := { d.dram with backlog := d.dram.backlog - 64 * h.units } }

/-- Fetch a queue's first spilled packet (R429): where a read is poisoned the packet is lost; where no buffer is found
it waits. The charge follows R395, and a refusal discards nothing (13_stacks_pantry.md R397). -/
def Dev.spFetch (d : Dev) (key : Nat) (bad : Bool) : Dev :=
  let q := d.spQueue key
  let p := fun (h : Held) => h.buf.isNone
  match q.find? p with
  | none => d
  | some h =>
    if !h.written || decide (d.rdN rSP_PREFETCH ≤ bufferedBytes q) || !(d.dramReady) || d.cipherOff then d
    else if bad then
      ((d.setSpQueue key (q.erase h)).spRelease key h.page).bump (rSP_CNT 7)
    else
      match d.choosePool h.pkt.bytes.length with
      | none => d
      | some pool =>
        let z := poolSize pool
        match d.admitStep h.ent h.ten z h.pkt.yellow h.mirror with
        | (_, none) => d
        | (_, some charge) =>
          match d.takePool pool with
          | (none, d) => d
          | (some (b, i), d) =>
            let d := d.chargeTo h.ent h.ten charge z true
            let buf : Buf := ⟨pool, b, i, z, charge, h.ent, h.ten⟩
            ((d.setSpQueue key (mapFirst p (fun x => { x with buf := some buf, fetched := true, page := 0, units := 0 }) q)).spRelease key
              h.page).bump (rSP_CNT 1)

end Sys2Proof.Machine
end

