-- ==== Sys2Proof/Machine/EngOps.lean ====
section
/-! DEFINITION. Fencing, spares and tests of engines, zeroisation, and wrapped keys (10_cipher.md R286-R310). -/

namespace Sys2Proof.Machine

/-! Fencing (R287, R310). -/

/-- A DRAM engine fenced with no spare in its place and none free takes its channel out of service (14_dram.md R425). -/
def Dev.dramEngineCheck (d : Dev) : Dev :=
  (List.range 16).foldl (fun d c =>
    if d.fenced (engDram c) && (d.sparedBy (engDram c)).isNone && (d.freeSpare (engDram c)).isNone then d.dramDown c 2 else d) d

/-- Set or clear an engine's FENCED bit. -/
def Dev.setFenced (d : Dev) (e v : Nat) : Dev := d.put (rCIPH_FENCED (e / 32)) ⟨e % 32, e % 32⟩ v

/-- Fence an engine, with its alert: 0 parity, 1 test failure. A spare that is fenced stands in for none. -/
def Dev.fence (d : Dev) (e cause : Nat) : Dev :=
  if d.fenced e then d else
  let d := (d.setFenced e 1).mark rCIPH_ERR fCIPH_ERR_ENGINE_FENCED
  let d := { d with ciph := { d.ciph with spares := d.ciph.spares.filter (fun x => x.1 != e) } }
  ((d.alert 0x0905 (p4 e ++ p4 cause)).dramEngineCheck).showEngines

/-- An engine is under test. -/
def Dev.underTest (d : Dev) (e : Nat) : Bool := d.ciph.tests.any (fun t => t.engine == e)

/-- At a boundary engines return from their tests, and spares take the work of fenced engines (R309, R310). -/
def Dev.spareBoundary (d : Dev) : Dev :=
  let d := { d with ciph := { d.ciph with spares := d.ciph.spares.filter (fun x => d.fenced x.2 || d.underTest x.2) } }
  let d := ((List.range 136).filter (fun e => d.fenced e)).foldl (fun d e =>
    if (d.sparedBy e).isSome then d else
    match d.freeSpare e with
    | some s => { d with ciph := { d.ciph with spares := d.ciph.spares ++ [(s, e)] } }
    | none => d) d
  (d.dramEngineCheck).showEngines

/-! Tests (R308, R309). -/

/-- An engine may be tested: it is fenced, or a spare of its kind may take its work; of two wrap engines the other. -/
def Dev.testable (d : Dev) (e : Nat) : Bool :=
  d.fenced e || (d.sparedBy e).isSome ||
  (if e < 136 then (d.freeSpare e).isSome else !(d.fenced (273 - e)) && !(d.underTest (273 - e)))

/-- Begin a test: where the engine is in use a spare takes its work. -/
def Dev.beginTest (d : Dev) (t : EngineTest) : Dev :=
  let d := if d.fenced t.engine || (d.sparedBy t.engine).isSome then d else
    match d.freeSpare t.engine with
    | some s => { d with ciph := { d.ciph with spares := d.ciph.spares ++ [(s, t.engine)] } }
    | none => d
  { d with ciph := { d.ciph with tests := d.ciph.tests ++ [t] } }.showEngines

/-- KEY_SELFTEST goes on to its next engine, or answers (R319). -/
def Dev.selfNext (d : Dev) (m : Nat) (rest : List Nat) (tested failed : Nat) (busy : Bool) : Dev :=
  match rest with
  | [] =>
    let d := d.put rCIPH_TEST fCIPH_TEST_BUSY 0
    d.finish m (if busy then resBusy else resOk)
      (leB 1 tested ++ leB 1 failed ++ leB 2 0 ++ (List.range 5).flatMap (fun i => leB 4 (d.rdN (rCIPH_FENCED i))))
  | e :: es =>
    if d.testable e then d.beginTest ⟨e, false, some m, es, tested, failed, busy⟩
    else Dev.selfNext d m es tested failed true

/-- A test ends (R309, R310). -/
def Dev.testDone (d : Dev) (t : EngineTest) (pass : Bool) : Dev :=
  let d := { d with ciph := { d.ciph with tests := d.ciph.tests.filter (fun x => x.engine != t.engine) } }
  let d := if pass then (if t.recovery then (d.setFenced t.engine 0).showEngines else d) else d.fence t.engine 1
  match t.mbx with
  | some m => d.selfNext m t.rest (t.tested + 1) (t.failed + b2n !pass) t.busy
  | none =>
    if t.recovery then d
    else ((d.put rCIPH_TEST fCIPH_TEST_BUSY 0).put rCIPH_TEST fCIPH_TEST_DONE 1).put rCIPH_TEST fCIPH_TEST_PASS (b2n pass)

/-! Zeroisation (R305-R307). -/

/-- Start a zeroisation, with its cause in SEC_STATUS; in ZEROISED, or while one runs, the cause alone is added. -/
def Dev.zeroise (d : Dev) (cause : Fld) : Dev :=
  let d := d.put rSEC_STATUS cause 1
  if d.cipherOff then d else { d with ciph := { d.ciph with zeroing := true } }

/-- Every key store is erased (R306): tree, MACsec and transport keys, sessions, both XTS keys and the device key. -/
def Dev.eraseStores (d : Dev) : Dev :=
  { d with ciph := { d.ciph with
    keys := []
    sessions := []
    sas := []
    zeroing := false
    devKey := []
    xts1 := []
    xts2 := [] } }

/-- The key stores are erased (R306): every terminal that had a current key enters KEY_EXHAUSTED. -/
def Dev.eraseKeys (d : Dev) : Dev :=
  let had := ((d.cat.terms.filter (fun e => e.2.valid)).map Prod.fst).filter (fun h => !(d.keyBlocked h))
  had.foldl (fun d h => d.keyGone h) d.eraseStores

/-! Transport sessions and wrapped keys (R303, R304). -/

/-- A session of a caller. -/
def Dev.sessionOf (d : Dev) (caller : Option Nat) (n : Nat) : Option Session :=
  d.ciph.sessions.find? (fun x => x.num == n && x.caller == caller)

/-- Close a session. -/
def Dev.closeSession (d : Dev) (n : Nat) : Dev :=
  { d with ciph := { d.ciph with sessions := d.ciph.sessions.filter (fun x => x.num != n) } }

/-- The transport key of a session (R303). -/
def transportKey (callerNonce devNonce pub : List Byte) (n : Nat) : List Byte :=
  hkdf384 (callerNonce ++ devNonce) (Config.ecdhX pub) (beB 6 0x5658532D4B54 ++ leB 1 n) 32

/-- Both wrap engines are fenced, or the block is outside NORMAL (R310, R316). -/
def Dev.wrapReady (d : Dev) : Bool := d.ciphNormal && !d.ciph.zeroing && !(d.fenced 136 && d.fenced 137)

/-- Unwrap a key (R304): the 32 bytes, of which the last `zeros` must be 0; a failure is counted, and the sixteenth closes
the session. -/
def Dev.unwrap (d : Dev) (x : Session) (seqB aad ct tag : List Byte) (zeros : Nat) : Option (List Byte) × Dev :=
  let seq := beAt seqB 0 4
  let got := if x.nextSeq ≤ seq then Config.gcmOpen x.key (seqB ++ List.replicate 8 0#8) aad ct tag else none
  let good := match got with | some k => if (k.drop (32 - zeros)).all (fun b => b == 0#8) then some k else none | none => none
  match good with
  | some k =>
    (some k, { d with ciph := { d.ciph with
      sessions := d.ciph.sessions.map (fun y => if y.num = x.num then { y with nextSeq := seq + 1 } else y) } })
  | none =>
    let d := (d.bump (rCIPH_CNT 6)).mark rCIPH_ERR fCIPH_ERR_UNWRAP_FAIL
    let d := if 16 ≤ x.fails + 1 then (d.closeSession x.num).alert 0x0906 (p4 x.num ++ p4 (x.caller.getD 0x1F))
      else { d with ciph := { d.ciph with
        sessions := d.ciph.sessions.map (fun y => if y.num = x.num then { y with fails := y.fails + 1 } else y) } }
    (none, d)

end Sys2Proof.Machine
end

