-- ==== Sys2Proof/Machine/AlmOps.lean ====
section
/-! DEFINITION. The Almanac: TIME_OK, the servo's states and arithmetic, frequency messages, pulses, the radio grid and
TIME_OF_DAY (18_almanac.md R524-R540, 19_gellen.md R558). -/

namespace Sys2Proof.Machine

/-- ns in a second. -/
def nsPerSec : Nat := 1000000000

/-- A signed alert parameter of 4 bytes. -/
def p4s (x : Int) : List Byte := leB 4 (sfield 32 x)

/-- Limit a number to the range -m to m (R528). -/
def clampI (x m : Int) : Int := max (-m) (min x m)

/-! TIME_OK (R531). -/

/-- Servo states, as ALM_STATUS.STATE. -/
def svAcquire : Nat := 0
def svLocked : Nat := 1
def svHoldover : Nat := 2

/-- The servo's state. -/
def Dev.servo (d : Dev) : Nat := d.get rALM_STATUS fALM_STATUS_STATE

/-- TIME_OK holds: LOCKED, or HOLDOVER for less than HOLD_QUAL seconds; no TIME_DISAGREE; the host clock not lost since
LOCKED (R531, R533). -/
def Dev.timeGood (d : Dev) : Bool :=
  (d.servo == svLocked || (d.servo == svHoldover && decide (d.get rALM_STATUS fALM_STATUS_HOLD_SEC < d.get rALM_HOLD fALM_HOLD_HOLD_QUAL))) &&
  !(d.bit rFAB_STATUS fFAB_STATUS_TIME_DISAGREE) && !d.alm.noClock && !d.alm.unproved

/-- Show TIME_OK at the pin and in ALM_STATUS; each change raises TIME_OK_CHANGE and alters what the device advertises. -/
def Dev.showTimeOk (d : Dev) : Dev :=
  let v := b2n d.timeGood
  if d.get rALM_STATUS fALM_STATUS_TIME_OK = v then d
  else
    let d := (d.put rALM_STATUS fALM_STATUS_TIME_OK v).put rPIN_STATUS fPIN_STATUS_TIME_OK v
    ((d.emit .pin 1 [1, v]).alert 0x1103 (p4 v ++ p8 d.tickNow)).pickMaster

/-- HOLD_SEC follows the time in HOLDOVER. -/
def Dev.holdSecs (d : Dev) : Dev :=
  if d.servo = svHoldover then
    (d.put rALM_STATUS fALM_STATUS_HOLD_SEC (min 65535 ((d.tickNow - d.alm.holdTick) / 8000))).showTimeOk
  else d

/-! The servo (R528, R529). -/

/-- LOCK_COUNT, LOCK_THR, UNLOCK_THR, STEP_THR in ns, SRC_TIMEOUT. -/
def Dev.lockCount (d : Dev) : Nat := max 1 (d.get rALM_CTRL fALM_CTRL_LOCK_COUNT)
def Dev.lockThr (d : Dev) : Int := d.get rALM_THR fALM_THR_LOCK_THR
def Dev.unlockThr (d : Dev) : Int := d.get rALM_THR fALM_THR_UNLOCK_THR
def Dev.stepThr (d : Dev) : Int := 1000 * d.get rALM_CTRL fALM_CTRL_STEP_THR
def Dev.srcTimeout (d : Dev) : Nat := max 1 (d.get rALM_HOLD fALM_HOLD_SRC_TIMEOUT)

/-- FREQ_LIMIT in 2^-8 ppb. -/
def Dev.freqLimit (d : Dev) : Int := 256 * (d.get rALM_LIMITS fALM_LIMITS_FREQ_LIMIT : Int)

/-- Show FREQ. -/
def Dev.setFreq (d : Dev) (f : Int) : Dev := d.wrN rALM_FREQ (sfield 32 f)

/-- The source's KIND; 5-7 act as 0. -/
def Dev.srcKind (d : Dev) : Nat := let k := d.get rALM_SRC fALM_SRC_KIND; if k < 5 then k else 0

/-- Take an offset into the correction (R528), to the precision of FREQ: a quotient is cut toward zero. -/
def Dev.servoUse (d : Dev) (theta : Int) : Dev :=
  let kp : Int := d.get rALM_SERVO fALM_SERVO_KP
  let ki : Int := d.get rALM_SERVO fALM_SERVO_KI
  let p := clampI (-(theta * kp)) (256 * (d.get rALM_LIMITS fALM_LIMITS_SLEW : Int))
  let r := clampI (d.alm.r - (theta * ki).tdiv 256) d.freqLimit
  let d := { d with alm := { d.alm with p := p, r := r } }
  let d := d.setFreq (clampI (r + p) d.freqLimit)
  (d.wrN rALM_OFFSET (sfield 32 (max (-(2 ^ 31)) (min theta (2 ^ 31 - 1))))).bump (rALM_CNT 0)

/-- Enter ACQUIRE. -/
def Dev.toAcquire (d : Dev) : Dev :=
  ({ d.put rALM_STATUS fALM_STATUS_STATE svAcquire with alm := { d.alm with first := true, inRow := 0, outRow := 0 } }).showTimeOk

/-- Enter LOCKED (R529): TIME_LOCKED; the tick is aligned (01_tick.md R14). -/
def Dev.toLocked (d : Dev) : Dev :=
  let d := d.put rALM_STATUS fALM_STATUS_STATE svLocked
  let d := { d with alm := { d.alm with inRow := 0, outRow := 0, blocked := false, unproved := false } }
  let d := d.put rTICK_STATUS fTICK_STATUS_ALIGNED 1
  (d.alert 0x1101 (p4 d.srcKind ++ p4 (d.get rALM_SRC fALM_SRC_INDEX))).showTimeOk

/-- Enter HOLDOVER from ACQUIRE or LOCKED (R529): cause 0 timeout, 1 source change. -/
def Dev.toHoldover (d : Dev) (cause : Nat) : Dev :=
  let d := d.put rALM_STATUS fALM_STATUS_SRC_ACTIVE 0
  if d.servo = svHoldover then d
  else
    let d := (d.put rALM_STATUS fALM_STATUS_STATE svHoldover).put rALM_STATUS fALM_STATUS_HOLD_SEC 0
    let d := { d with alm := { d.alm with p := 0, holdTick := d.tickNow, inRow := 0, outRow := 0 } }
    let d := (d.setFreq d.alm.r).mark rALM_ERR fALM_ERR_SOURCE_LOST
    (d.alert 0x1102 (p4 cause ++ p4s d.alm.r)).showTimeOk

/-- A phase step is permitted: no tree port is enabled and no fabric link is in sync (01_tick.md R13). -/
def Dev.stepFree (d : Dev) : Bool :=
  (List.range 48).all (fun t => !(d.treeEn t)) && (List.range 48).all (fun f => d.get (rFAB_LANE_STATUS f) fFAB_LANE_STATUS_SYNC != 2)

/-- The host clock is lost (R533). -/
def Dev.almClockLost (d : Dev) : Dev := ({ d with alm := { d.alm with noClock := true, unproved := true } }).showTimeOk

/-- The host clock is back (R533): ACQUIRE with r unchanged. -/
def Dev.almClockBack (d : Dev) : Dev :=
  (({ d with alm := { d.alm with noClock := false } }).mark rALM_ERR fALM_ERR_HOST_CLK_LOST).toAcquire

/-! The frequency message (19_gellen.md R558). -/

/-- The body of FREQ_CTRL. -/
def Dev.freqBody (d : Dev) : List Byte := leB 4 (sfield 32 d.alm.sent) ++ leB 2 d.glk.freqSeq ++ leB 2 0 ++ leB 8 d.tickNow

/-- Send the newest correction on every port that is UP. -/
def Dev.freqAgain (d : Dev) : Dev :=
  let n := b2n (decide (d.portState 0 = 4)) + b2n (decide (d.portState 1 = 4))
  ((d.send 0 0x91 d.freqBody).send 1 0x91 d.freqBody).bumpBy (rGLK_CNT 8) n

/-- At T0 + 2 us a FREQ that has changed is sent, unless the host clock is lost (R528, R533). -/
def Dev.freqSend (d : Dev) : Dev :=
  let f := sval 32 (d.rdN rALM_FREQ)
  if f = d.alm.sent ∨ d.alm.noClock then d
  else
    let d := { d with alm := { d.alm with sent := f }, glk := { d.glk with freqSeq := (d.glk.freqSeq + 1) % 65536, freqSent := true } }
    (d.put rGLK_STATUS fGLK_STATUS_FREQ_ACKED 0).freqAgain

/-! Pulses (R537-R539). -/

/-- The settings as the registers hold them. -/
def Dev.pulseRegs (d : Dev) (k : Nat) : List Nat :=
  [d.rdN (rALM_PULSE_CTRL k), d.rdN (rALM_PULSE_START_SEC_LO k), d.rdN (rALM_PULSE_START_SEC_HI k), d.rdN (rALM_PULSE_START_NS k),
   d.rdN (rALM_PULSE_PERIOD k), d.rdN (rALM_PULSE_WIDTH k), d.rdN (rALM_PULSE_COUNT k)]

/-- CTRL of the settings in force. -/
def PulseX.ctrl (x : PulseX) : Nat := x.cfg.getD 0 0
/-- MODE: 3 acts as 0. -/
def PulseX.mode (x : PulseX) : Nat := let m := fieldOf x.ctrl fALM_PULSE_CTRL_MODE; if m = 3 then 0 else m
/-- START in ns. -/
def PulseX.start (x : PulseX) : Nat := (x.cfg.getD 1 0 + x.cfg.getD 2 0 % 65536 * 2 ^ 32) * nsPerSec + x.cfg.getD 3 0
/-- PERIOD as it acts. -/
def PulseX.period (x : PulseX) : Nat := max 1000 (x.cfg.getD 4 0)
/-- WIDTH as it acts. -/
def PulseX.width (x : PulseX) : Nat :=
  let w := max 8 (x.cfg.getD 5 0)
  if x.mode = 1 ∧ x.period ≤ w then x.period - 8 else w
/-- Pulses left to send; 0 is no limit. -/
def PulseX.left (x : PulseX) : Nat := x.cfg.getD 6 0

/-- RF_OFFSET as it acts (R540). -/
def Dev.rfOffset (d : Dev) : Nat := min 9999999 (d.get rALM_RADIO fALM_RADIO_RF_OFFSET)

/-- The first number not below `a` that is `s` modulo `m`, from `s` on. -/
def nextOn (s m a : Nat) : Nat := if a ≤ s then s else s + (a - s + m - 1) / m * m

/-- The leading edges from `a` up to `b`, in order, `n` of them at most. -/
def edgesFrom (m b : Nat) : Nat → Nat → List Nat
  | 0, _ => []
  | n + 1, e => if e < b then e :: edgesFrom m b n (e + m) else []

/-- The leading edges of an output that fall from `a` to before `b` (R537). -/
def Dev.pulseEdges (d : Dev) (x : PulseX) (a b : Nat) : List Nat :=
  let cap := fun l : List Nat => if x.left = 0 then l else l.take x.left
  if !(nbit x.ctrl 31) then []
  else if x.mode = 0 then (if x.sent ∨ x.start < a ∨ b ≤ x.start then [] else [x.start])
  else if x.ended then []
  else if x.mode = 1 then cap (edgesFrom x.period b 126 (nextOn x.start x.period a))
  else cap (edgesFrom 10000000 b 1 (nextOn d.rfOffset 10000000 a))

/-- The output's active level at an instant: a pulse has begun and has not ended. -/
def Dev.pulseOn (d : Dev) (x : PulseX) (t : Nat) : Bool :=
  nbit x.ctrl 31 &&
  (if x.mode = 0 then decide (x.start ≤ t) && decide (t < x.start + x.width)
   else if x.mode = 1 then !x.ended && decide (x.start ≤ t) && decide ((t - x.start) % x.period < x.width)
   else !x.ended && decide (d.rfOffset ≤ t) && decide ((t - d.rfOffset) % 10000000 < x.width))

/-- An output holds its inactive level: SQUELCH while TIME_OK is low (R539). -/
def Dev.squelched (d : Dev) (x : PulseX) : Bool := nbit x.ctrl 27 && !(d.bit rALM_STATUS fALM_STATUS_TIME_OK)

/-- Drive one pulse: its leading edge reaches the ball DELAY after the time it names. -/
def Dev.pulseOut (d : Dev) (k : Nat) (x : PulseX) (e : Nat) : Dev :=
  let t := ((e : Int) + sval 16 x.ctrl).toNat
  d.emit .pulse k [t / nsPerSec, t % nsPerSec, x.width, 1 - fieldOf x.ctrl fALM_PULSE_CTRL_POL]

/-- A one-shot whose START has passed is not sent (R538, R539). -/
def Dev.pulseLate (d : Dev) (k : Nat) : Dev :=
  ((d.mark rALM_ERR fALM_ERR_PULSE_LATE).bump (rALM_CNT 3)).alert 0x1104 (p4 k)

/-- At the start of a tick one output takes the settings written, and its edges of the tick are scheduled (R537-R539). -/
def Dev.pulseTick (d : Dev) (k a b : Nat) : Dev :=
  let x := d.pulse k
  let x := if x.dirty then { x with cfg := d.pulseRegs k, dirty := false, recount := false, sent := false, ended := x.ended && !x.recount } else x
  let late := nbit x.ctrl 31 && x.mode == 0 && !x.sent && decide (x.start < a)
  let d := d.when late (fun d => d.pulseLate k)
  let es := d.pulseEdges x a b
  let d := if d.squelched x then d else es.foldl (fun d e => d.pulseOut k x e) d
  let left := x.left - es.length
  let x := { x with
    sent := x.sent || late || (x.mode == 0 && !(es.isEmpty))
    ended := x.ended || (x.mode != 0 && decide (0 < x.left) && left == 0)
    cfg := if x.mode = 0 then x.cfg else x.cfg.set 6 left }
  let d := d.setPulse k x
  let d := d.when (nbit x.ctrl 31 && x.mode != 0) (fun d => d.wrN (rALM_PULSE_COUNT k) left)
  let level := if d.pulseOn x a && !(d.squelched x) then 1 - fieldOf x.ctrl fALM_PULSE_CTRL_POL else fieldOf x.ctrl fALM_PULSE_CTRL_POL
  d.put rPIN_STATUS ⟨k, k⟩ level

/-- The instant at which the tick in progress began, and at which it ends, in ns of TAI. -/
def Dev.tickStart (d : Dev) : Nat := instant d.tickNow d.tick.origin
def Dev.tickEnd (d : Dev) : Nat := instant (d.tickNow + 1) 0

/-- Schedule every output's edges of the tick (R537; 01_tick.md R18). -/
def Dev.pulses (d : Dev) : Dev := (List.range 4).foldl (fun d k => d.pulseTick k d.tickStart d.tickEnd) d

/-- Write a word of a pulse output: it takes effect at the next boundary (R538). -/
def Dev.writePulse (d : Dev) (k w v : Nat) : Dev :=
  (d.access (rALM_PULSE_CTRL k + 4 * w) v).updPulse k (fun x => { x with dirty := true, recount := x.recount || w == 6 })

/-! The radio grid (R540). -/

/-- SFN of the tick in progress and its place in its grant cycle, both at the tick's start. -/
def Dev.radioTick (d : Dev) : Dev :=
  let f := ((instant d.tickNow 0 : Int) - d.rfOffset).fdiv 10000000
  let sfn := ((f + d.get rALM_SFN_ADJ fALM_SFN_ADJ_ADJ) % 1024).toNat
  let cyc := (d.tickNow + 80 - d.rfOffset / tickNs) % 80
  (d.put rALM_RADIO_STATUS fALM_RADIO_STATUS_SFN sfn).put rALM_RADIO_STATUS fALM_RADIO_STATUS_CYCLE_TICK cyc

/-! Time of day (R534, R535). -/

/-- Extend a superframe counter to a full tick count, the value nearest the present. -/
def Dev.fullTick (d : Dev) (n : Nat) : Nat :=
  let b := d.tickNow - d.tickNow % 2 ^ 51 + n % 2 ^ 51
  if d.tickNow + 2 ^ 50 < b ∧ 2 ^ 51 ≤ b then b - 2 ^ 51
  else if b + 2 ^ 50 < d.tickNow then b + 2 ^ 51 else b

/-- The time of superframe N of a tree: seconds and ns (R534). -/
def Dev.timeOf (d : Dev) (t n : Nat) : Nat × Nat :=
  let k := d.fullTick n
  (k / 8000, k % 8000 * tickNs + d.get (rTREE_TXOFF t) fTREE_TXOFF_OFFSET)

/-- TOD_PERIOD; 0 acts as 1. -/
def Dev.todPeriod (d : Dev) : Nat := max 1 (d.get rALM_TOD fALM_TOD_TOD_PERIOD)

/-- The content of TIME_OF_DAY on a tree: it names the first frame of the second that follows the frame it is sent in. -/
def Dev.todContent (d : Dev) (t : Nat) : List Byte :=
  let sec := (d.tickNow + 1) / 8000 + 1
  let x := d.timeOf t (sec * 8000)
  padTo 36 (beB 7 (sec * 8000 % 2 ^ 51) ++ beB 6 x.1 ++ beB 4 x.2 ++ leB 1 (d.get rALM_STATUS fALM_STATUS_TIME_OK))

/-- Queue TIME_OF_DAY on every J100 tree that frames, every TOD_PERIOD ticks while TOD_EN is 1 (R535). -/
def Dev.timeOfDay (d : Dev) : Dev :=
  if !(d.bit rALM_CTRL fALM_CTRL_TOD_EN) || (match d.alm.todTick with | some k => decide (d.tickNow < k + d.todPeriod) | none => false) then d
  else
    let d := { d with alm := { d.alm with todTick := some d.tickNow } }
    ((List.range 48).filter (fun t => d.mode t == 2 && d.framing t)).foldl (fun d t =>
      d.queuePloam t .timeOfDay 0x3FF (d.todContent t)) d

/-! The pulse input (R536). -/

/-- Move the oldest stamp to its registers; none leaves VALID 0. -/
def Dev.pinPop (d : Dev) : Dev :=
  match d.alm.stamps with
  | [] => d.put rALM_PIN_SEC_HI fALM_PIN_SEC_HI_VALID 0
  | x :: q =>
    let d := { d with alm := { d.alm with stamps := q } }
    let d := d.put rALM_PIN_CTRL fALM_PIN_CTRL_DEPTH q.length
    let s := x / nsPerSec
    ((d.wrN rALM_PIN_SEC_LO (s % 2 ^ 32)).wrN rALM_PIN_NS (x % nsPerSec)).wrN rALM_PIN_SEC_HI (2 ^ 31 + s / 2 ^ 32 % 65536)

/-- Write ALM_PIN_CTRL. -/
def Dev.writePinCtrl (d : Dev) (v : Nat) : Dev :=
  let d := (d.access rALM_PIN_CTRL v).put rALM_PIN_CTRL fALM_PIN_CTRL_POP 0
  if nbit v 29 then d.pinPop else d

end Sys2Proof.Machine
end

