-- ==== Sys2Proof/Machine/FabTx.lean ====
section
/-! DEFINITION. What a fabric lane sends: overhead cells at the start of each frame, and the slots of its transmit
connection memory (16_fabric.md R458-R473, R476). -/

namespace Sys2Proof.Machine

/-! Frames (R460, R461). -/

/-- Cells from the multiple-of-64 boundary to the start of frame k', for k' = 0-64 (R460). -/
def frameCells (k : Nat) : Nat := (k * 390625 + 63) / 64

/-- The instant at which frame n's overhead cell leaves the pins, in ns of TAI. -/
def frameSent (n : Nat) : Nat := instant n 0 + (frameCells (n % 64) * 2048 - n % 64 * 12500000) / 100

/-- IDLE_COUNT of frame n (R460). -/
def idleCount (n : Nat) : Nat := frameCells (n % 64 + 1) - frameCells (n % 64) - 6001

/-- A lane sends frames in the tick in progress. -/
def Dev.framesOn (d : Dev) (f : Nat) : Bool := match (d.fabLane f).framesFrom with | some k => decide (k ≤ d.tickNow) | none => false

/-- TSI_DELAY as it acts. -/
def Dev.tsiDelay (d : Dev) (b : Nat) : Nat := max 1 (d.get (rFAB_BND_CTRL b) fFAB_BND_CTRL_TSI_DELAY)

/-- A received frame is usable for the local frame of the tick in progress (R469). -/
def Dev.tsiUsable (d : Dev) (b : Nat) : Bool :=
  let k := (d.tickNow + 65536 - d.tsiDelay b) % 65536
  d.bndEn b && (d.fabBnd b).held.any (fun h => h.1 == k && decide (-10000 ≤ h.2) && decide (h.2 ≤ (d.tsiDelay b : Int) * 125000 - 123100))

/-- The receive entry of a slot of a lane, in the page in use. -/
def Dev.rxEntry (d : Dev) (f slot : Nat) : Nat :=
  d.cmWord (cmKey f 1 (d.get (rFAB_BND_STATUS (d.bndOr f)) fFAB_BND_STATUS_RX_PAGE) slot)

/-- A transit slot's source is not sound (R468): LOS or LOF, or AIS or LABEL of its tributary; nor is one
that names no slot. -/
def Dev.transitAis (d : Dev) (f slot : Nat) : Bool :=
  if 48 ≤ f ∨ fabSlots ≤ slot then true else
  let b := d.bndOr f
  let x := d.fabTrib (64 * b + nbits (d.rxEntry f slot) 29 24)
  d.defect b dfLos || d.defect b dfLof || x.ais || x.lab

/-- The lane, slot and entry of every equipped slot of a bundle's active transmit page. -/
def Dev.txEntries (d : Dev) (b : Nat) : List (Nat × Nat) :=
  let page := d.get (rFAB_BND_STATUS b) fFAB_BND_STATUS_TX_PAGE
  (d.fab.cm.filter (fun e => (d.bndMembers b).any (fun f => decide (cmKey f 0 page 0 ≤ e.1) && decide (e.1 < cmKey f 0 page fabSlots))))

/-- The label a bundle sends for a tributary (R466, R468). -/
def Dev.labelOut (d : Dev) (b : Nat) (es : List (Nat × Nat)) (n : Nat) : Nat :=
  let mine := es.filter (fun e => nbits e.2 29 24 == n && decide (0 < e.2 / 2 ^ 30))
  let forced := d.bit (rFAB_BND_CTRL b) fFAB_BND_CTRL_FORCE_AIS && !(mine.isEmpty)
  let lost := mine.any (fun e => e.2 / 2 ^ 30 == 2 &&
    (d.transitAis (nbits e.2 21 16) (nbits e.2 12 0) || !(d.tsiUsable (d.bndOr (nbits e.2 21 16)))))
  if forced || lost then 0xFF else d.label rFAB_TX_LABEL b n

/-- No usable frame is held for the interchange (R469): counted, with its alert, once per tick per bundle. -/
def Dev.fabSlip (d : Dev) (b : Nat) : Dev :=
  if d.once.contains (0x0F08, b) then d
  else ((d.bump (rFAB_CNT b 4)).mark (rFAB_ERR b) fFAB_ERR_SLIP).alertOnce 0x0F08 b (p4 b ++ p4 (d.rdN (rFAB_ARRIVAL b)))

/-- The overhead cell a lane sends at its frame of the tick in progress (R461). -/
def Dev.overheadCell (d : Dev) (b f : Nat) (labels : List Byte) : List Byte :=
  let n := d.tickNow
  let rdi := b2n (d.defect b dfLos || d.defect b dfLof)
  let head := beB 8 0x3CB8E147D28F5A61 ++ beB 2 (n % 65536) ++ leB 1 (idleCount n) ++
    leB 1 ((f - b) * 32 + d.get (rFAB_BND_CTRL b) fFAB_BND_CTRL_SIZE * 4 + d.get (rFAB_BND_STATUS b) fFAB_BND_STATUS_TX_PAGE * 2 + rdi)
  let x := d.fabLane f
  let t := frameSent n
  let stamps := beB 6 (t / nsPerSec) ++ beB 4 (t % nsPerSec) ++ beB 6 x.rxSec ++ beB 4 x.rxNs ++ beB 2 x.frameTick
  let c := padTo 252 (patch (d.helloCell head labels) 46 stamps)
  c ++ beB 4 (crc32c (c.drop 8))

/-- Every lane that sends frames begins the frame of this tick (R460, R468, R469); idle is sent while the device is ZEROISED
(10_cipher.md R307). -/
def Dev.fabFrames (d : Dev) : Dev :=
  if d.zeroised then d else
  (List.range 48).foldl (fun d b =>
    let ls := (d.bndMembers b).filter (fun f => d.framesOn f)
    if !(d.bndEn b) || ls.isEmpty then d
    else
      let es := d.txEntries b
      let srcs := ((es.filter (fun e => e.2 / 2 ^ 30 == 2 && decide (nbits e.2 21 16 < 48))).map (fun e => d.bndOr (nbits e.2 21 16))).eraseDups
      let d := srcs.foldl (fun d sb => if d.tsiUsable sb then d else d.fabSlip sb) d
      let labels := (List.range 64).map (fun n => BitVec.ofNat 8 (d.labelOut b es n))
      ls.foldl (fun d f => d.emit .fabOverhead f [] (d.overheadCell b f labels)) d) d

/-! Slots (R465, R468, R471, R473). -/

/-- The packet that leaves next of a local tributary: the queue of the highest PRIO that holds one. -/
def Dev.fabNext (d : Dev) (b n : Nat) : Option (Nat × Held) :=
  (List.range 8).reverse.findSome? (fun p => match d.faQ (fabQKey b n p) with | h :: _ => some (p, h) | [] => none)

/-- A packet's header and carried frame as sent: protected where MACSEC_EN is 1 (R476); none where MACsec discards it. -/
def Dev.fabProtect (d : Dev) (b : Nat) (h : Held) : Option (List Byte) × Dev :=
  let typ := byteAt h.hdr 0 / 16
  if d.bit (rFAB_BND_CTRL b) fFAB_BND_CTRL_MACSEC_EN && (typ == 1 || typ == 2) then
    match d.macsecTx 1 (b / 8) with
    | (none, d) => (none, d)
    | (some s, d) =>
      let f := s.seal true h.pkt.bytes
      let hd := patch (h.hdr.take 15) 2 (beB 2 f.length)
      (some (hd ++ leB 1 (crc8 hd) ++ f), d)
  else (some (h.hdr ++ h.pkt.bytes), d)

/-- Take the packet that leaves next of a local tributary: its bytes, none where the queues are empty. `ecc` says how its
buffer reads (13_stacks_pantry.md R398); a packet lost there, or discarded by MACsec, gives no bytes. -/
def Dev.fabTake (d : Dev) (b n ecc : Nat) : Option (List Byte) × Dev :=
  match d.fabNext b n with
  | none => (none, d)
  | some (p, h) =>
    let d := ((d.updFaQ (fabQKey b n p) (fun q => q.drop 1)).dropHeld 0 h).bufRead ecc
    if ecc = 2 then (some [], d)
    else
      match d.fabProtect b h with
      | (none, d) => (some [], d)
      | (some bs, d) => (some bs, (d.bump (rFAB_CNT b 1)).evc 0x0602 1 { req := some h.ten, tc := some p })

/-- A fill header (R471, R472). -/
def fillHeader : List Byte := let h := List.replicate 15 0#8; h ++ leB 1 (crc8 h)

/-- Fill a slot's 252 bytes: the rest of the packet in hand, then packets, then fill. Gives the bytes, where the first header
begins, and what is left over. -/
def Dev.fillSlot (b n : Nat) : Nat → List (Fin 3) → Dev → List Byte → Option Nat → List Byte × Option Nat × List Byte × Dev
  | 0, _, d, acc, first => (padTo 252 acc, first, [], d)
  | fuel + 1, ecc, d, acc, first =>
    if 252 ≤ acc.length then (acc.take 252, first, acc.drop 252, d)
    else
      let at_ := some (first.getD (4 + acc.length))
      match (if d.bndState b = bsUp then d.fabTake b n (ecc.headD 0).val else (none, d)) with
      | (none, d) => (padTo 252 (acc ++ fillHeader), at_, [], d)
      | (some [], d) => Dev.fillSlot b n fuel ecc.tail d acc first
      | (some bs, d) => Dev.fillSlot b n fuel ecc.tail d (acc ++ bs) at_

/-- A local tributary's slot (R471): its header and 252 bytes. -/
def Dev.localSlot (d : Dev) (f b n slot : Nat) (ecc : List (Fin 3)) : Dev :=
  let x := d.fabTrib (64 * b + n)
  let rest := if d.bndState b = bsUp then x.txRest else []
  match Dev.fillSlot b n 64 ecc d rest none with
  | (bs, first, left, d) =>
    let d := d.updFabTrib (64 * b + n) (fun x => { x with txSeq := (x.txSeq + 1) % 256, txRest := left })
    d.emit .fabSlot f [slot, 0] (leB 1 (first.getD 0xFF) ++ leB 1 x.txSeq ++ leB 2 0 ++ bs)

/-- All data bytes 0xFF (R468). -/
def Dev.aisSlot (d : Dev) (f slot : Nat) : Dev := d.emit .fabSlot f [slot, 2] (List.replicate 256 0xFF#8)

/-- A slot falls due on a lane (R465, R468, R473); `data` is what the received frame holds of a transit slot. -/
def Dev.slotDue (d : Dev) (f slot : Nat) (data : List Byte) (ecc : List (Fin 3)) : Dev :=
  match d.bundleOf f with
  | none => d
  | some b =>
    if d.zeroised || !(d.framesOn f) then d
    else
      let e := d.cmWord (cmKey f 0 (d.get (rFAB_BND_STATUS b) fFAB_BND_STATUS_TX_PAGE) slot)
      let force := d.bit (rFAB_BND_CTRL b) fFAB_BND_CTRL_FORCE_AIS
      if e / 2 ^ 30 = 1 then
        if force then d.aisSlot f slot else d.localSlot f b (nbits e 29 24) slot ecc
      else if e / 2 ^ 30 = 2 then
        let src := nbits e 21 16
        if force || d.transitAis src (nbits e 12 0) || !(d.tsiUsable (d.bndOr src)) then d.aisSlot f slot
        else d.emit .fabSlot f [slot, 1] (padTo 256 data)
      else d.emit .fabSlot f [slot, 3] (List.replicate 256 0#8)

end Sys2Proof.Machine
end

