-- ==== Sys2Proof/Machine/PanCmds.lean ====
section
/-! DEFINITION. The commands of 13_stacks_pantry.md: handing banks over, the lock, rebuilt lists, reserves and readiness
(R381-R406). -/

namespace Sys2Proof.Machine

/-! Handing a bank over (R384-R386). -/

/-- A fixed owner (R381). -/
def fixedOwner (o : Nat) : Bool := decide (2 ≤ o) && decide (o ≤ 5)

/-- LOCK is 1. -/
def Dev.stkLocked (d : Dev) : Bool := d.bit rSTK_CTRL fSTK_CTRL_LOCK

/-- Why a handover is refused (R386), as RESULT: 0 not refused, 1 BUSY, 2 BAD_PARAM, 5 NO_RESOURCE. -/
def Dev.bankRefused (d : Dev) (action b owner : Nat) : Nat :=
  let owned := d.bankState b == bkOwned
  let badOwner := owner == 0 || owner == 7 || (d.stkLocked && fixedOwner owner)
  if 40 ≤ b ∨ 3 ≤ action then 2
  else if action = 1 then (if d.bankState b ≠ bkFree then 1 else if badOwner then 2 else 0)
  else if !owned || (d.stkLocked && fixedOwner (d.bankOwner b)) then 1
  else if d.bankOwner b = ownPantry ∧ d.panBytes - bankBytes < d.sumMin + d.rdN rPAN_SHARED_USED then 5
  else if action = 2 && badOwner then 2
  else 0

/-- The handover ends: RESULT, BUSY 0, and the mailbox that asked for it answers. -/
def Dev.bankEnd (d : Dev) (j : BankJob) (result : Nat) : Dev :=
  let d := { d with pan := { d.pan with job := none } }
  let d := (d.put rSTK_CMD fSTK_CMD_BUSY 0).put rSTK_CMD fSTK_CMD_RESULT result
  let d := d.showPan
  match j.mbx with
  | none => d
  | some m => if result = 0 then d.finish m resOk (leB 8 d.tickNow) else d.finish m resTimeout []

/-- Record where the handover stands. -/
def Dev.setJob (d : Dev) (j : BankJob) : Dev := { d with pan := { d.pan with job := some j } }

/-- A bank enters JOINING for its new owner, which prepares it within 50 µs; it is OWNED at the next boundary (R384, R385). -/
def Dev.bankJoin (d : Dev) (j : BankJob) : Dev :=
  let d := (d.setBank j.bank bkJoining).put (rSTK_BANK j.bank) fSTK_BANK_OWNER j.owner
  let d := d.when (j.owner == ownPantry) (fun d => d.put (rSTK_BANK j.bank) fSTK_BANK_POOL j.pool)
  d.setJob { j with joinTick := some (d.tickNow + (if d.tick.now + 50000 ≤ 125000 then 1 else 2)) }

/-- Assign a FREE bank: scrubbed first where it is DIRTY and its last owner is another (R384). -/
def Dev.bankAssign (d : Dev) (j : BankJob) : Dev :=
  let w := rSTK_BANK j.bank
  if d.bit w fSTK_BANK_DIRTY && d.get w fSTK_BANK_LAST_OWNER != j.owner then (d.setBank j.bank bkScrubbing).setJob j
  else d.bankJoin j

/-- A bank is FREE: the handover ends, or goes on with the assign. -/
def Dev.bankFreed (d : Dev) (j : BankJob) : Dev :=
  let d := (d.setBank j.bank bkFree).put (rSTK_BANK j.bank) fSTK_BANK_OWNER 0
  if j.action = 0 then d.bankEnd j 0 else d.bankAssign { j with action := 1 }

/-- A bank has drained (R384): its last owner is recorded and it is DIRTY; it is scrubbed where asked, else FREE. -/
def Dev.bankDrained (d : Dev) (j : BankJob) : Dev :=
  let w := rSTK_BANK j.bank
  let d := (d.put w fSTK_BANK_LAST_OWNER (d.bankOwner j.bank)).put w fSTK_BANK_DIRTY 1
  let d := d.put w fSTK_BANK_FREE_BUFS 0
  if j.scrub then ((d.setBank j.bank bkScrubbing).put w fSTK_BANK_OWNER 0).setJob j else d.bankFreed j

/-- Begin a handover that is not refused. A bank of an owner other than the Pantry drains at once. -/
def Dev.bankStart (d : Dev) (j : BankJob) : Dev :=
  let d := (d.put rSTK_CMD fSTK_CMD_BUSY 1).setJob j
  if j.action = 1 then d.bankAssign j
  else
    let d := (d.setBank j.bank bkDraining).showPan
    if d.bankOwner j.bank = ownPantry then d else d.bankDrained j

/-- A handover is asked for: its RESULT where it is refused, and the device. -/
def Dev.bankAsk (d : Dev) (j : BankJob) : Nat × Dev :=
  let r := if d.marchOn j.bank then 1 else d.bankRefused j.action j.bank j.owner
  if r = 0 then (0, d.bankStart j) else (r, d.mark rSTK_ERR fSTK_ERR_CMD_REFUSED)

/-- D of R384. -/
def Dev.drainTicks (d : Dev) : Nat := max 1 (d.get rSTK_CTRL fSTK_CTRL_DRAIN_TICKS)

/-- A write of STK_CMD: ignored in GO while a handover runs. -/
def Dev.writeStkCmd (d : Dev) (v : Nat) : Dev :=
  let d := (d.access rSTK_CMD v).put rSTK_CMD fSTK_CMD_GO 0
  if !(nbit v 30) || d.pan.job.isSome then d
  else
    let j : BankJob := ⟨fieldOf v fSTK_CMD_BANK, fieldOf v fSTK_CMD_ACTION, nbit v 27, fieldOf v fSTK_CMD_OWNER, fieldOf v fSTK_CMD_POOL,
      d.drainTicks, d.tickNow, none, none⟩
    let r := d.bankAsk j
    if r.1 = 0 then r.2 else r.2.put rSTK_CMD fSTK_CMD_RESULT r.1

/-- The word of STK_CMD for an action. -/
def stkWord (b action scrub owner pool : Nat) : Nat :=
  2 ^ 30 + action * 2 ^ 28 + scrub * 2 ^ 27 + owner * 2 ^ 24 + pool * 2 ^ 22 + b

/-- BANK_RELEASE (R384, R386): a write of STK_CMD. -/
def execBankRelease (b : Fin 64) (scrub : Bool) (s : State) : Host.Outcome State Fault Refusal :=
  s.run (fun d => d.writeStkCmd (stkWord b.val 0 (b2n scrub) 0 0))

/-- BANK_ASSIGN (R384, R386): a write of STK_CMD. -/
def execBankAssign (b : Fin 64) (owner : Fin 8) (pool : Fin 4) (s : State) : Host.Outcome State Fault Refusal :=
  s.run (fun d => d.writeStkCmd (stkWord b.val 1 0 owner.val pool.val))

/-- BANK_RELEASE_ASSIGN (R384, R386): a write of STK_CMD. -/
def execBankReleaseAssign (b : Fin 64) (scrub : Bool) (owner : Fin 8) (pool : Fin 4) (s : State) : Host.Outcome State Fault Refusal :=
  s.run (fun d => d.writeStkCmd (stkWord b.val 2 (b2n scrub) owner.val pool.val))

/-- The handover in hand, where its bank is in a state. -/
def Dev.jobIn (d : Dev) (st : Nat) (f : BankJob → Dev) : Dev :=
  match d.pan.job with
  | some j => if d.bankState j.bank = st then f j else d
  | none => d

/-- BANK_DRAINED (R384): every buffer of the draining bank is free. -/
def execBankDrained (s : State) : Host.Outcome State Fault Refusal :=
  s.run (fun d => d.jobIn bkDraining (fun j => if d.bankUsed j.bank = 0 then d.bankDrained j else d))

/-- BANK_DRAIN_FAIL (R384): D ticks have passed. -/
def execBankDrainFail (s : State) : Host.Outcome State Fault Refusal :=
  s.run (fun d => d.jobIn bkDraining (fun j =>
    if d.tickNow - j.startTick < j.drain ∨ d.bankUsed j.bank = 0 then d
    else
      let d := (d.setBank j.bank bkOwned).mark rSTK_ERR fSTK_ERR_DRAIN_FAIL
      (d.alert 0x0C02 (p4 j.bank ++ p4 (d.bankUsed j.bank))).bankEnd j 3))

/-- BANK_SCRUB_DONE (R384): zeros read back, or the first address that does not. -/
def execBankScrubDone (bad : Option (Fin 4194304)) (s : State) : Host.Outcome State Fault Refusal :=
  s.run (fun d => d.jobIn bkScrubbing (fun j =>
    match bad with
    | some a =>
      let d := (d.setBank j.bank bkFaulty).mark rSTK_ERR fSTK_ERR_SCRUB_FAULT
      (d.alert 0x0C03 (p4 j.bank ++ p4 a.val)).bankEnd j 4
    | none =>
      let d := d.put (rSTK_BANK j.bank) fSTK_BANK_DIRTY 0
      if j.action = 1 then d.bankJoin j else d.bankFreed j))

/-- At a tick boundary a prepared bank is OWNED; a Pantry bank's list is threaded and it joins the rotation (R384, R390). -/
def Dev.stkBoundary (d : Dev) : Dev :=
  d.jobIn bkJoining (fun j =>
    match j.joinTick with
    | none => d
    | some t =>
      if d.tickNow < t then d
      else
        let d := d.setBank j.bank bkOwned
        (d.when (j.owner == ownPantry) (fun d => d.threadBank j.bank)).bankEnd j 0)

/-! The lock (R383). -/

/-- Banks a fixed owner needs (R381). -/
def needBanks (o : Nat) : Nat := if o = 2 ∨ o = 3 then 2 else 1

/-- Banks an owner holds. -/
def Dev.heldBanks (d : Dev) (o : Nat) : Nat := (allBanks.filter (fun b => d.bankState b == bkOwned && d.bankOwner b == o)).length

/-- A write of STK_CTRL: one that sets LOCK while a fixed owner holds another number of banks is refused (R383). -/
def Dev.writeStkCtrl (d : Dev) (v : Nat) : Dev :=
  if nbit v 31 && !d.stkLocked && [2, 3, 4, 5].any (fun o => d.heldBanks o != needBanks o) then d.mark rSTK_ERR fSTK_ERR_MAP_BAD
  else d.access rSTK_CTRL v

/-- STK_LOCK (R383): a write of STK_CTRL with LOCK set. -/
def execStkLock (val : Word) (s : State) : Host.Outcome State Fault Refusal :=
  s.run (fun d => d.writeStkCtrl (Nat.lor val.toNat (2 ^ 31)))

/-- LIST_REBUILT (R391). -/
def execListRebuilt (b : Fin 40) (s : State) : Host.Outcome State Fault Refusal :=
  s.run (fun d => if (d.bankX b.val).off then (d.updBankX b.val BankX.rebuilt).showPan else d)

/-! Reserves (R393, R404). -/

/-- The base register of an entry: MIN, then MAX, RES_USED and USED. -/
def panEntry (ten : Bool) (i : Nat) : Nat := if ten then rPAN_TEN_MIN i else rPAN_ENT_MIN i

/-- The entry exists. -/
def panHas (ten : Bool) (i : Nat) : Bool := decide (i < if ten then 17 else 98)

/-- Write MIN (0) or MAX (1) of an entry; a MIN that R393 does not allow is refused. -/
def Dev.writePanRes (d : Dev) (ten : Bool) (i w v : Nat) : Dev :=
  let a := panEntry ten i
  if !(panHas ten i) then d
  else if w = 1 then d.access (a + 4) v
  else if d.minOk a (a + 8) (v % 2 ^ 28) then (d.access a v).showPan
  else d.mark rPAN_ERR fPAN_ERR_MIN_CFG

/-- PAN_RESERVE_WRITE (R393). -/
def execPanReserveWrite (ten : Bool) (i : Fin 98) (w : Fin 2) (val : Word) (s : State) : Host.Outcome State Fault Refusal :=
  s.run (fun d => d.writePanRes ten i.val w.val val.toNat)

/-- STACKS_ASSIGN (R403), code 0x0D01: it answers once the bank reaches FREE or OWNED, or the handover fails. -/
def execStacksAssign (m : Fin 64) (s : State) : Host.Outcome State Fault Refusal :=
  s.run (fun d => d.command m.val 0x0D01 (fun c d =>
    let drain := if c.expert 4 then max 1 (c.u16 8) else d.drainTicks
    let j : BankJob := ⟨c.u8 0, c.u8 1, nbit (c.u8 4) 0, c.u8 2, c.u8 3, drain, d.tickNow, none, some c.mbx⟩
    c.checks d
      [c.mustOwn, inForm (c.only 4 0x81 && c.zero 5 3 && (if c.expert 4 then c.block 0x0A else c.endsAt 8)),
       inForm (decide (c.u8 1 < 3) && decide (c.u8 2 < 8) && decide (c.u8 3 < 4))]
      (fun d =>
        if d.pan.job.isSome then c.fail (d.mark rSTK_ERR fSTK_ERR_CMD_REFUSED) resBusy
        else
          let r := (c.wait d []).bankAsk j
          if r.1 = 0 then r.2
          else c.fail r.2 (if r.1 = 1 then resBusy else if r.1 = 2 then resBadParam else resNoResource))))

/-- STACKS_RESERVE (R404), code 0x0D02. -/
def execStacksReserve (m : Fin 64) (s : State) : Host.Outcome State Fault Refusal :=
  s.run (fun d => d.command m.val 0x0D02 (fun c d =>
    let ten := c.u8 0 == 1
    let i := c.u8 1
    let query := nbit (c.u8 2) 0
    let a := panEntry ten i
    let answer := fun (d : Dev) => c.ok d ((List.range 4).flatMap (fun k => leB 4 (d.rdN (a + 4 * k))) ++
      leB 4 (d.rdN rPAN_SHARED_SIZE) ++ leB 4 (d.rdN rPAN_SHARED_USED))
    c.checks d
      [(match c.caller with | none => true | some t => ten && i == t && query, resNotPermitted), c.mayExpert 2,
       inForm (decide (c.u8 0 < 2) && panHas ten i && c.only 2 0x81 && c.zero 3 1 && c.endsAt 0x0C),
       inForm (query || (decide (c.u32 4 < 2 ^ 28) && decide (c.u32 8 < 2 ^ 28)))]
      (fun d =>
        if query then answer d
        else if d.minOk a (a + 8) (c.u32 4) then answer (((d.wrN a (c.u32 4)).wrN (a + 4) (c.u32 8)).showPan)
        else c.fail (d.mark rPAN_ERR fPAN_ERR_MIN_CFG) resNoResource)))

/-- STACKS_STATUS (R405), code 0x0D03. -/
def execStacksStatus (m : Fin 64) (s : State) : Host.Outcome State Fault Refusal :=
  s.run (fun d => d.command m.val 0x0D03 (fun c d =>
    c.checks d [c.mustOwn, inForm (c.endsAt 0)] (fun d =>
      c.ok d (allBanks.flatMap (fun b => leB 4 (d.rdN (rSTK_BANK b))) ++
        (List.range 4).flatMap (fun p => leB 4 (d.rdN (rPAN_POOL_FREE p)) ++ leB 4 (d.rdN (rPAN_POOL_TOTAL p))) ++
        leB 4 (d.rdN rPAN_TOTAL)))))

/-- PANTRY_READY (R399): every list is threaded and the Pantry is READY. -/
def execPantryReady (s : State) : Host.Outcome State Fault Refusal :=
  s.run (fun d =>
    if d.bit rPAN_STATUS fPAN_STATUS_READY then d
    else
      let d := (allBanks.filter (fun b => d.bankState b == bkOwned && d.bankOwner b == ownPantry)).foldl Dev.threadBank d
      (d.mark rPAN_STATUS fPAN_STATUS_READY).showPan)

end Sys2Proof.Machine
end

