-- ==== Sys2Proof/Machine/ProtOps.lean ====
section
/-! DEFINITION. Protection pairs: configuration, health reports, roles, takeover, copies, and mirrored records
(17_protection.md R491-R516). -/

namespace Sys2Proof.Machine

/-! Roles (R494, R512-R514). -/

/-- The role that leads a pair of a tree's kind: HOME or ACTIVE. -/
def Dev.roTop (d : Dev) (t : Nat) : Nat := if d.pairKind t = 0 then roHome else roActive
/-- The role that follows: MATE or STANDBY. -/
def Dev.roBottom (d : Dev) (t : Nat) : Nat := if d.pairKind t = 0 then roMate else roStandby

/-- Take a role; the laser follows it (R512). -/
def Dev.takeRole (d : Dev) (t r : Nat) : Dev := if d.role t = r then d else (d.setRole t r).treeUpdate t

/-- Set a pair's state. -/
def Dev.setPairState (d : Dev) (t st : Nat) : Dev := d.put (rPROT_PAIR_STATE t) fPROT_PAIR_STATE_PAIR_STATE st

/-- This side wins a tie (R494): the lower shelfmark, or between two trees of one device the lower tree. -/
def Dev.winsTie (d : Dev) (t : Nat) : Bool :=
  if d.mateHere t then decide (t < d.mateTree t) else decide (d.shelfmark < d.mateSm t)

/-- The role this side takes, given the mate's role and PREFER (R494, R481). -/
def Dev.settledRole (d : Dev) (t mateRole : Nat) (matePrefers : Bool) : Nat :=
  let mine := d.role t
  let top := d.roTop t
  let prefers := d.bit (rPROT_PAIR_CFG t) fPROT_PAIR_CFG_PREFER
  if mine = top then (if mateRole = top && !(d.winsTie t) then d.roBottom t else top)
  else if mine = d.roBottom t then mine
  else if mateRole = top then d.roBottom t
  else if mateRole = d.roBottom t then top
  else if prefers != matePrefers then (if prefers then top else d.roBottom t)
  else if d.winsTie t then top else d.roBottom t

/-- Record a takeover (R513): its tick, count, error and alert. -/
def Dev.tookOver (d : Dev) (t : Nat) : Dev :=
  let d := d.updPair t (fun p => { p with
    takeoverTick := d.tickNow
    holdUntil := d.tickNow + d.get rPROT_TIMERS fPROT_TIMERS_HOLDOFF })
  ((d.bump (rPROT_CNT 13)).mark rPROT_ERR fPROT_ERR_TAKEOVER).alert 0x1004 (p4 t ++ p4 (d.role t) ++ p8 d.tickNow)

/-- A standby takes over (R513): it releases TXDIS now, and is ACTIVE from its first frame. -/
def Dev.standbyTakes (d : Dev) (t : Nat) : Dev :=
  if d.role t == roStandby && d.bit (rPROT_PAIR_STATE t) fPROT_PAIR_STATE_STBY_OK then
    (d.updPair t (fun p => { p with taking := true })).treeUpdate t
  else d

/-- A MATE takes HOME at once (R514): its mirror copies become its own records, with MIRROR = 1, and each stream's
NEXT_DS moves on by the window less one. -/
def Dev.mateTakes (d : Dev) (t : Nat) : Dev :=
  if d.role t == roMate && !(d.network t) then
    let d := (d.pair t).copies.foldl (fun d e =>
      if e.1 = 0 then d.updTerm e.2 (fun r => { r with mirror := true }) else d) d
    let d := d.updPair t (fun p => { p with copies := [] })
    let d := (d.cat.chans.filter (fun e => e.2.valid && e.2.tree == t && e.2.prot)).foldl (fun d e =>
      d.updStream e.1 (fun s => { s with nextDs := (s.nextDs + s.w + 65535) % 65536 })) d
    (d.takeRole t roHome).tookOver t
  else d

/-- What a missing mate or its YIELD brings, by the pair's kind. -/
def Dev.mateGone (d : Dev) (t : Nat) : Dev := if d.pairKind t = 0 then d.mateTakes t else d.standbyTakes t

/-- At the boundary, before the frames, a standby that has released TXDIS becomes ACTIVE (R513). -/
def Dev.protBoundary (d : Dev) : Dev :=
  d.pairs.foldl (fun d e =>
    if e.2.taking then ((d.updPair e.1 (fun p => { p with taking := false })).takeRole e.1 roActive).tookOver e.1 else d) d

/-! Mirrored records (R504-R506). The layout of the bodies of kinds 3 to 6 is the model's own (log entry 43): byte 0 the
record kind, bit 0 of byte 1 the end of a batch, bytes 2-3 the record's identifier, bytes 4-5 the ID of its terminal,
bytes 6-7 the ID of the allocation a channel names, bytes 8-11 the tick of its batch, then the image. -/

/-- The header of a mirror message. -/
def mirrorHead (kind last ident term alloc batch : Nat) : List Byte :=
  leB 1 kind ++ leB 1 last ++ beB 2 ident ++ beB 2 term ++ beB 2 alloc ++ beB 4 batch

/-- Send a mirror message of a pair. -/
def Dev.mirrorSend (d : Dev) (t kind : Nat) (body : List Byte) : Dev := d.protSend t kind 0 false none 0x1F body

/-- A terminal is mirrored (R504). -/
def Dev.termMirrored (d : Dev) (h : Nat) : Bool := (d.term h).valid && (d.pairKind (d.term h).tree == 1 || (d.term h).dual)

/-- A channel is mirrored (R504). -/
def Dev.chanMirrored (d : Dev) (c : Nat) : Bool :=
  let r := d.chan c
  r.valid && (d.pairKind r.tree == 1 || (r.prot && (d.term r.term).dual))

/-- An allocation is mirrored (R504). -/
def Dev.allocMirrored (d : Dev) (a : Nat) : Bool :=
  let r := d.alloc a
  r.valid && (d.pairKind r.tree == 1 || d.cat.chans.any (fun e => d.chanMirrored e.1 && e.2.us && e.2.alloc == a))

/-- Send the image of a mirrored record (R505); the device sets MIRROR on a terminal it mirrors. -/
def Dev.sendImage (d : Dev) (k : RecKind) (h : Nat) : Dev :=
  let b := d.tickNow % 2 ^ 32
  match k with
  | .term =>
    if d.termMirrored h then
      let d := d.updTerm h (fun r => { r with mirror := true })
      let r := d.term h
      d.mirrorSend r.tree 3 (mirrorHead 0 0 r.termId r.termId 0 b ++ r.image)
    else d
  | .alloc =>
    let r := d.alloc h
    if d.allocMirrored h then d.mirrorSend r.tree 3 (mirrorHead 1 0 r.allocId (d.term r.term).termId 0 b ++ r.image) else d
  | .chan =>
    let r := d.chan h
    if d.chanMirrored h then
      d.mirrorSend r.tree 3 (mirrorHead 2 0 r.portId (d.term r.term).termId (d.alloc r.alloc).allocId b ++ r.image) else d

/-- Send the activation image of a terminal of a KIND 1 pair, where it has changed since the last. -/
def Dev.sendAct (d : Dev) (t h : Nat) : Dev :=
  let now := (h, tstateNum (d.stateOf h), (d.actOf h).eqd)
  let sent := (d.pair t).actSent
  if sent.contains now then d
  else
    let d := d.updPair t (fun p => { p with actSent := now :: p.actSent.filter (fun e => e.1 != h) })
    d.mirrorSend t 5 (mirrorHead 0 0 (d.term h).termId (d.term h).termId 0 (d.tickNow % 2 ^ 32) ++ leB 1 now.2.1 ++ leB 3 0 ++ beB 4 now.2.2)

/-- This side mirrors: PAIRED and HOME or ACTIVE. -/
def Dev.mirrors (d : Dev) (t : Nat) : Bool := d.pairState t == prPaired && d.role t == d.roTop t

/-- A full copy (R505): an image of every mirrored record, then the mark. -/
def Dev.fullCopy (d : Dev) (t : Nat) : Dev :=
  if !(d.mirrors t) then d else
  let d := d.updPair t (fun p => { p with actSent := [] })
  let d := (d.termsOf t).foldl (fun d h => d.sendImage .term h) d
  let d := ((d.cat.allocs.filter (fun e => e.2.valid && e.2.tree == t)).map Prod.fst).foldl (fun d a => d.sendImage .alloc a) d
  let d := ((d.cat.chans.filter (fun e => e.2.valid && e.2.tree == t)).map Prod.fst).foldl (fun d c => d.sendImage .chan c) d
  let d := if d.pairKind t = 1 then (d.termsOf t).foldl (fun d h => d.sendAct t h) d else d
  d.mirrorSend t 6 (mirrorHead 0 1 0 0 0 (d.tickNow % 2 ^ 32))

/-- What a written line of a batch brings to its tree's pair: an image, or a removal (R505). -/
def Dev.mirrorLine (d : Dev) (k : RecKind) (h : Nat) : Dev :=
  let valid := match k with | .term => (d.term h).valid | .alloc => (d.alloc h).valid | .chan => (d.chan h).valid
  let tree := match k with | .term => (d.term h).tree | .alloc => (d.alloc h).tree | .chan => (d.chan h).tree
  if valid then (if d.mirrors tree then d.sendImage k h else d)
  else match d.cat.quar.find? (fun q => q.kind == k && q.handle == h) with
    | some q => if d.mirrors q.tree then d.mirrorSend q.tree 4 (mirrorHead (kNum k) 0 q.ident 0 0 (d.tickNow % 2 ^ 32)) else d
    | none => d

/-- The pairs that mirror end a batch: activation images, then the end of the batch. -/
def Dev.mirrorBatchEnd (d : Dev) : Dev :=
  (List.range 48).foldl (fun d t =>
    if d.mirrors t then
      let d := if d.pairKind t = 1 then (d.termsOf t).foldl (fun d h => d.sendAct t h) d else d
      d.mirrorSend t 5 (mirrorHead 3 1 0 0 0 (d.tickNow % 2 ^ 32))
    else d) d

/-- An image cannot be applied (R506). -/
def Dev.mirrorFail (d : Dev) (t kind ident : Nat) : Dev :=
  ((d.bump (rPROT_CNT 12)).mark rPROT_ERR fPROT_ERR_MIRROR_FAIL).alert 0x1007 (p4 t ++ p4 kind ++ p4 ident)

/-- A record has become a mirror copy of a pair. -/
def Dev.addCopy (d : Dev) (t kind h : Nat) : Dev :=
  d.updPair t (fun p => { p with
    copies := if p.copies.contains (kind, h) then p.copies else p.copies ++ [(kind, h)]
    fullSeen := if p.fullSeen.contains (kind, h) then p.fullSeen else p.fullSeen ++ [(kind, h)] })

/-- Apply an image through the engine (R505): its checks but the one that guards mirror copies from callers. -/
def Dev.applyImage (d : Dev) (t kind ident h : Nat) (cs : List CatCheck) (put : Dev → Dev) : Dev :=
  match d.catTry (cs.drop 1) with
  | (some _, _) => d.mirrorFail t kind ident
  | (none, d) => (put d).addCopy t kind h

/-- Apply a terminal's image. -/
def Dev.applyTerm (d : Dev) (t ident : Nat) (b : List Byte) : Dev :=
  match (d.findTerm t ident).orElse (fun _ => d.freeHandle .term) with
  | none => d.mirrorFail t 0 ident
  | some h =>
    let old := d.term h
    let r := { termOfImage b with
      tree := t
      mateSm := d.mateSm t
      mateTree := d.mateTree t
      mirror := false
      defAlloc := (d.findAlloc t ident).getD 0
      mgmtChan := (d.findChan t ident).getD 0
      keyIndex := if old.valid then old.keyIndex else h }
    d.applyImage t 0 ident h (d.termChecks h r ++ [d.dirtyCheck [h] [] []]) (fun d => d.termPut h r)

/-- Apply an allocation's image; a default allocation takes its place in its terminal's record. -/
def Dev.applyAlloc (d : Dev) (t ident term : Nat) (b : List Byte) : Dev :=
  match (d.findAlloc t ident).orElse (fun _ => d.freeHandle .alloc), d.findTerm t term with
  | some a, some h =>
    let r := { allocOfImage b with
      tree := t
      term := h }
    d.applyImage t 1 ident a (d.allocChecks a r ident ++ [d.dirtyCheck [h] [a] []]) (fun d =>
      let d := d.allocPut a r
      if ident = term then d.updTerm h (fun x => { x with defAlloc := a }) else d)
  | _, _ => d.mirrorFail t 1 ident

/-- Apply a channel's image; a management channel takes its place in its terminal's record. -/
def Dev.applyChan (d : Dev) (t ident term alloc : Nat) (b : List Byte) : Dev :=
  match (d.findChan t ident).orElse (fun _ => d.freeHandle .chan), d.findTerm t term with
  | some c, some h =>
    let r := { chanOfImage b with
      tree := t
      term := h
      alloc := (d.findAlloc t alloc).getD 0 }
    d.applyImage t 2 ident c (d.chanChecks c r ident ++ [d.dirtyCheck [h] [] [c]]) (fun d =>
      let d := d.chanPut c r
      if ident = term then d.updTerm h (fun x => { x with mgmtChan := c }) else d)
  | _, _ => d.mirrorFail t 2 ident

/-- Remove one mirror copy, where the record still is one. -/
def Dev.removeCopy (d : Dev) (kind h : Nat) : Dev :=
  if kind = 0 then (if d.isCopy .term h then d.termDrop h else d)
  else if kind = 1 then (if d.isCopy .alloc h then d.allocDrop h else d)
  else (if d.isCopy .chan h then d.chanDrop h else d)

/-- A message of kinds 3 to 6 from the mate (R505, R506): applied while PAIRED by a side that is MATE or STANDBY. -/
def Dev.mirrorMsg (d : Dev) (t kind : Nat) (b : List Byte) : Dev :=
  if d.pairState t ≠ prPaired ∨ d.role t ≠ d.roBottom t then d else
  let k := byteAt b 0
  let ident := beAt b 2 2
  let body := b.drop 12
  let d :=
    if kind = 3 then
      (if k = 0 then d.applyTerm t ident body else if k = 1 then d.applyAlloc t ident (beAt b 4 2) body
       else d.applyChan t ident (beAt b 4 2) (beAt b 6 2) body)
    else if kind = 4 then
      match (if k = 0 then d.findTerm t ident else if k = 1 then d.findAlloc t ident else d.findChan t ident) with
      | some h => d.removeCopy k h
      | none => d
    else if kind = 5 then
      match (if k = 0 then d.findTerm t ident else none) with
      | some h =>
        let st := tstateOf (byteAt body 0)
        let d := if d.stateOf h = st then d else d.setState h st
        (d.updActOf h (fun a => { a with eqd := beAt body 4 4 })).showTerm t
      | none => d
    else
      let p := d.pair t
      let gone := p.copies.filter (fun e => !(p.fullSeen.contains e))
      let d := (gone.filter (fun e => e.1 == 2) ++ gone.filter (fun e => e.1 == 1) ++ gone.filter (fun e => e.1 == 0)).foldl
        (fun d e => d.removeCopy e.1 e.2) d
      d.updPair t (fun p => { p with fullSeen := [] })
  if nbit (byteAt b 1) 0 then d.updPair t (fun p => { p with batch := beAt b 8 4 }) else d

/-! Reports (R493, R508-R511). -/

/-- TREE_OK (R508). -/
def Dev.protTreeOk (d : Dev) (t : Nat) : Bool :=
  d.treeEn t && d.bit (rTREE_LINE_STATUS t) fTREE_LINE_STATUS_PLL_LOCK && d.cageState (.tree ⟨t % 48, Nat.mod_lt _ (by decide)⟩) == cgReady

/-- Bytes 20-26 of a report: what a KIND 1 pair's configuration must agree on. -/
def Dev.reportCfg (d : Dev) (t : Nat) : List Byte :=
  beB 4 (d.rdN (rTREE_PON_ID t)) ++ leB 1 (d.mode t + 16 * d.teqdTicks t) ++ leB 1 (d.minKm t) ++ leB 1 (d.diffKm t)

/-- A report (R508) for a tick, and the slot changes it carries. -/
def Dev.report (d : Dev) (t tick : Nat) : List Byte :=
  let p := d.pair t
  let s := rPROT_PAIR_STATE t
  let changes := p.slots.take 16
  let test := match p.testName with
    | some (k, start, term, slot) => beB 8 k ++ beB 4 start ++ beB 2 term ++ leB 1 slot ++ leB 1 0
    | none => leB 16 0
  leB 1 1 ++ leB 1 (d.role t) ++
  leB 1 (b2n p.yields + 2 * d.get s fPROT_PAIR_STATE_TREE_OK + 4 * d.get s fPROT_PAIR_STATE_DARK + 8 * d.get s fPROT_PAIR_STATE_STBY_OK +
    16 * d.pairKind t + 32 * b2n (d.network t) + 64 * d.get (rPROT_PAIR_CFG t) fPROT_PAIR_CFG_PREFER) ++
  leB 1 t ++ beB 8 tick ++ beB 4 (p.prev.getD 0 0) ++ beB 4 (p.prev.getD 1 0) ++ d.reportCfg t ++ leB 1 changes.length ++
  beB 4 p.batch ++ beB 4 (d.rdN (rPROT_PAIR_DELTA t)) ++ test ++ beB 8 d.curEd.number ++ leB 16 d.curEd.digest ++
  changes.flatMap (fun c => beB 2 c.1 ++ leB 1 c.2 ++ leB 1 0)

/-- Send the report of a tick; what it carries once is sent. -/
def Dev.sendReport (d : Dev) (t tick : Nat) : Dev :=
  let b := d.report t tick
  (d.updPair t (fun p => { p with
    yields := false
    testName := none
    slots := p.slots.drop 16 })).protSend t 2 0 false none 0x1F b

/-- The active side yields (R512): TXDIS is asserted, and it takes STANDBY, or no role where its tree is not OK. -/
def Dev.yield_ (d : Dev) (t : Nat) : Dev :=
  (d.updPair t (fun p => { p with yields := true })).takeRole t (if d.protTreeOk t then roStandby else 0)

/-- A path's runs after a tick (R510): alerted after 8 weak ticks, and again only after 8 that are not. -/
def Dev.pathRun (d : Dev) (t i : Nat) (weak : Bool) : Dev :=
  let p := d.pair t
  if weak then
    let n := p.weak.getD i 0 + 1
    let armed := p.sound.getD i 8 == 8
    let d := d.updPair t (fun p => { p with
      weak := p.weak.set i (min n 8)
      sound := p.sound.set i (if n ≥ 8 ∨ !armed then 0 else 8) })
    d.when (n == 8 && armed) (fun d => (d.mark rPROT_ERR fPROT_ERR_PATH_DOWN).alert 0x1005 (p4 t ++ p4 i))
  else d.updPair t (fun p => { p with
    weak := p.weak.set i 0
    sound := p.sound.set i (min 8 (p.sound.getD i 8 + 1)) })

/-- Evaluate a pair for the previous tick at T0 + 2 µs (R508-R512), and send its report. -/
def Dev.protEvaluate (d : Dev) (t : Nat) : Dev :=
  if d.pairState t = prOff then d else
  let s := rPROT_PAIR_STATE t
  let p := d.pair t
  let ok := d.protTreeOk t
  let dark := decide (max 1 (d.get rPROT_CTRL fPROT_CTRL_DARK_MIN) ≤ p.cur.getD 2 0) && p.cur.getD 3 0 == 0
  let d := (d.put s fPROT_PAIR_STATE_TREE_OK (b2n ok)).put s fPROT_PAIR_STATE_DARK (b2n dark)
  let d := d.updPair t (fun p => { p with
    prev := p.cur
    cur := [0, 0, 0, 0]
    paths := [0, 0, 0] })
  -- the standby's self-test
  let d := if d.pairKind t = 1 && d.role t == roStandby then
      let age := match p.testOk with | some k => d.tickNow - k | none => 0xFFFFFFFF
      let fit := ok && decide (age ≤ max 1 (d.get rPROT_CTRL fPROT_CTRL_TEST_AGE))
      let was := d.bit s fPROT_PAIR_STATE_STBY_OK
      (d.put s fPROT_PAIR_STATE_STBY_OK (b2n fit)).when (was && !fit) (fun d =>
        (d.mark rPROT_ERR fPROT_ERR_STBY_FAIL).alert 0x1006 (p4 t ++ p4 age))
    else d
  -- the paths of a dual-parent pair
  let d := if d.pairKind t = 0 && d.role t == roHome && !(d.network t) then
      let weak := fun (i : Nat) => decide (16 ≤ p.paths.getD 2 0) && decide (2 * p.paths.getD i 0 < p.paths.getD 2 0)
      (d.pathRun t 0 (weak 0)).pathRun t 1 (weak 1)
    else d
  -- the mate
  let missing := (d.pairState t == prPaired || d.pairState t == prRefused) &&
    (match p.reportTick with | some k => decide (k + 2 < d.tickNow) | none => true)
  let d := if missing then
      let d := d.bump (rPROT_CNT 11)
      let d := if d.pairState t = prPaired then d.mateGone t else d
      ((d.setPairState t prLost).mark rPROT_ERR fPROT_ERR_MATE_LOST).alert 0x1003 (p4 t ++ p4 (d.mateSm t))
    else d
  let d := if d.pairKind t = 1 && d.role t == roActive && (!ok || (dark && decide (p.holdUntil ≤ d.tickNow))) then d.yield_ t else d
  d.sendReport t (d.tickNow - 1)

/-- A report agrees with this side's configuration (R493). -/
def Dev.reportAgrees (d : Dev) (t : Nat) (b : List Byte) : Bool :=
  nbit (byteAt b 2) 4 == (d.pairKind t == 1) &&
  (if d.pairKind t = 1 then slice b 20 7 == d.reportCfg t else nbit (byteAt b 2) 5 == d.network t)

/-- The Editions match. -/
def Dev.reportEdition (d : Dev) (b : List Byte) : Bool := beAt b 52 8 == d.curEd.number && leAt b 60 16 == d.curEd.digest

/-- Enter PAIRED (R493, R494). -/
def Dev.pairUp (d : Dev) (t : Nat) (b : List Byte) : Dev :=
  let d := d.setPairState t prPaired
  let d := (d.takeRole t (d.settledRole t (byteAt b 1) (nbit (byteAt b 2) 6))).updPair t (fun p => { p with fullSeen := [] })
  (d.alert 0x1001 (p4 t ++ p4 (d.mateSm t) ++ p4 (d.role t))).fullCopy t

/-- A slot change that the active reports is followed (R507). -/
def Dev.followSlot (d : Dev) (t term slot : Nat) : Dev :=
  match d.findTerm t term with
  | none => d
  | some h =>
    let r := d.term h
    let k := d.keyEnt r.keyIndex
    if (slot = 1 ∨ slot = 2) ∧ slotFor r (k.slot slot) then
      d.setKeyEnt r.keyIndex ({ k with cur := slot }.setSlot slot { k.slot slot with pending := none })
    else d

/-- A health report of the mate arrives, `ns` into the tick (R493, R494, R507-R514). One from another tree or version
is ignored; one more than 100 µs after it was sent counts as missing. -/
def Dev.healthReport (d : Dev) (t ns : Nat) (b : List Byte) : Dev :=
  if d.pairState t = prOff ∨ byteAt b 0 ≠ 1 ∨ byteAt b 3 ≠ d.mateTree t then d else
  let tick := beAt b 4 8
  let latency := d.tickNow * 125000 + ns - ((tick + 1) * 125000 + 2000)
  let s := rPROT_PAIR_STATE t
  let d := d.put s fPROT_PAIR_STATE_LATENCY (min 0x1FFFF latency)
  let d := d.updPair t (fun p => { p with
    report := b
    reportTick := if latency ≤ 100000 then some tick else p.reportTick })
  let agrees := d.reportAgrees t b
  let same := d.reportEdition b
  let st := d.pairState t
  let refuse := fun (d : Dev) =>
    ((d.setPairState t prRefused).mark rPROT_ERR fPROT_ERR_REFUSED).alert 0x1002 (p4 t ++ p4 (b2n same))
  let d :=
    if st = prLost then d.setPairState t prSeeking
    else if agrees && same then (if st = prPaired then d else d.pairUp t b)
    else if st = prRefused then d
    else refuse d
  -- both claim the leading role (R481)
  let d := if d.role t = d.roTop t ∧ byteAt b 1 = d.roTop t ∧ !(d.winsTie t) then d.takeRole t (d.roBottom t) else d
  let d := if d.pairKind t = 1 && d.role t == roActive then d.put s fPROT_PAIR_STATE_STBY_OK (b2n (nbit (byteAt b 2) 3)) else d
  let d := if d.pairKind t = 1 && d.role t == roStandby then
      let d := (List.range (min 16 (byteAt b 27))).foldl (fun d i => d.followSlot t (beAt b (76 + 4 * i) 2) (byteAt b (78 + 4 * i))) d
      if beAt b 36 8 = 0 then d
      else match d.findTerm t (beAt b 48 2) with
        | some h => d.updPair t (fun p => { p with testDue := some (beAt b 36 8, beAt b 44 4, h, byteAt b 50) })
        | none => d
    else d
  if nbit (byteAt b 2) 0 && d.pairState t == prPaired then d.mateGone t else d

/-! Copies (R495-R500). -/

/-- The fields of a packet from a tree channel, as it enters the Colander (06_catalogue.md R172, 11_colander.md R327). -/
def Dev.treePkt (d : Dev) (t c : Nat) (bytes : List Byte) (yellow : Bool) (seq : Option Nat) : Pkt :=
  ⟨bytes, (d.chan c).tenant, t, some c, (d.chan c).metaV, yellow, seq, 0, []⟩

/-- A tag that is wrong (R496). -/
def Dev.badTag (d : Dev) : Dev := (d.bump (rPROT_CNT 6)).mark rPROT_ERR fPROT_ERR_BAD_TAG

/-- A packet of a protected channel passes the home's stream, counted for its path (R499, R503, R510). -/
def Dev.sieveUp (d : Dev) (t c seq path : Nat) (p : Pkt) : Dev :=
  match d.sieve c seq path with
  | (out, d) =>
    let d := d.updPair t (fun x => { x with
      paths := (x.paths.set path (x.paths.getD path 0 + 1)).set 2 (x.paths.getD 2 0 + b2n (out == .accepted)) })
    if out = .accepted then d.colEnter p else d

/-- An upstream packet of a protected channel, its tag first (R496, R499, R500). -/
def Dev.protUp (d : Dev) (t c : Nat) (bytes : List Byte) (yellow : Bool) : Dev :=
  match tagSeq bytes with
  | none => d.badTag
  | some s =>
    let body := bytes.drop 4
    if d.network t then d.colEnter (d.treePkt t c body yellow (some s))
    else if d.role t = roMate then
      (d.bump (rPROT_CNT 9)).protSend t 0 (d.chan c).portId yellow (some s) (d.chan c).tenant (slice bytes 0 4 ++ body)
    else d.sieveUp t c s 0 (d.treePkt t c body yellow (some s))

/-- A kind 0 or kind 1 copy of the mate (R499): an upstream copy passes the home's stream as path 1; a downstream copy
joins the mate's queue with its tag, and its SEQ is kept as NEXT_DS. -/
def Dev.protCopy (d : Dev) (t kind port : Nat) (yellow : Bool) (b : List Byte) : Dev :=
  match d.findChan t port, tagSeq b with
  | none, _ => d.bump (rCAT_CNT 11)
  | some _, none => d.badTag
  | some c, some s =>
    let d := d.bump (rPROT_CNT 10)
    let p := d.treePkt t c (b.drop 4) yellow (some s)
    if !(d.chan c).prot then d
    else if kind = 0 then (if d.role t = roMate then d else d.sieveUp t c s 1 p)
    else if d.role t ≠ roMate ∨ d.network t then d
    else
      let d := (d.look .chan c).nextDs c s
      if d.chanTakes c then (d.dsEnqueue c p 0 false (some s)).2 else d.bump (rCAT_CNT 11)

/-- A protection message arrives (R498): prefix and body. -/
def Dev.protMsg (d : Dev) (ns : Nat) (frame : List Byte) : Dev :=
  let t := byteAt frame 0
  let k := byteAt frame 1 % 8
  let b := frame.drop 4
  if !(d.treeOk t) || !(d.pairEn t) then d
  else if k < 2 then d.protCopy t k (beAt frame 2 2) (nbit (byteAt frame 1) 7) b
  else if k = 2 then d.healthReport t ns b
  else if k < 7 then d.mirrorMsg t k b
  else d

/-! Configuration (R492, R493, R516). -/

/-- A write of CFG that would enable the pair is refused: no mate named, no such tree, or KIND 0 outside J100 (R492). -/
def Dev.pairBad (d : Dev) (t cfg mate : Nat) : Bool :=
  let mt := fieldOf cfg fPROT_PAIR_CFG_MATE_TREE
  !(nbit mate 31) || decide (48 ≤ mt) ||
  (fieldOf cfg fPROT_PAIR_CFG_KIND == 0 && (d.mode t != 2 || (mate % 2 ^ 20 == d.shelfmark && d.mode mt != 2)))

/-- EN goes from 0 to 1, or back (R493). -/
def Dev.pairSwitch (d : Dev) (t : Nat) (on : Bool) : Dev :=
  if on then (d.setPair t {}).setPairState t prSeeking
  else
    let d := (d.setPair t {}).wrN (rPROT_PAIR_STATE t) 0
    d.treeUpdate t

/-- Write CFG (0) or MATE (1) of a pair (R493): a change while EN is 1, but of EN itself, is refused. -/
def Dev.writePair (d : Dev) (t w v : Nat) : Dev :=
  let a := if w = 0 then rPROT_PAIR_CFG t else rPROT_PAIR_MATE t
  let en := d.pairEn t
  let same := if w = 0 then v % 2 ^ 31 == d.rdN a % 2 ^ 31 else v == d.rdN a
  let rises := w == 0 && nbit v 31 && !en
  if (en && !same) || (rises && d.pairBad t v (d.rdN (rPROT_PAIR_MATE t))) then d.mark rPROT_ERR fPROT_ERR_CFG_BUSY
  else
    let d := d.access a v
    if rises then d.pairSwitch t true else if w = 0 ∧ en ∧ !(nbit v 31) then d.pairSwitch t false else d

/-! What SIEVE_SEL shows (R516). -/

/-- The ten words of a channel's stream. -/
def Dev.streamWords (d : Dev) (c : Nat) : List Nat :=
  let s := d.stream c
  [b2n s.valid * 2 ^ 31 + b2n s.started * 2 ^ 30 + s.h % 65536, s.nextDs % 65536 * 65536 + s.w % 2048] ++ s.cnt

end Sys2Proof.Machine
end

