-- ==== Sys2Proof/Machine/RefOps.lean ====
section
/-! DEFINITION. Reference selection and the loss of the host clock (20_clocks_boot.md R583-R586). -/

namespace Sys2Proof.Machine

/-- A reference is valid: 0 HA, 1 HB. -/
def Dev.refValid (d : Dev) (r : Nat) : Bool := d.bit rCLK_STATUS (if r = 0 then fCLK_STATUS_REF_A_VALID else fCLK_STATUS_REF_B_VALID)

/-- Set a reference's validity. -/
def Dev.setRef (d : Dev) (r : Nat) (v : Bool) : Dev :=
  let d := d.put rCLK_STATUS (if r = 0 then fCLK_STATUS_REF_A_VALID else fCLK_STATUS_REF_B_VALID) (b2n v)
  if v then { d with clk := if r = 0 then { d.clk with validA := d.tickNow } else { d.clk with validB := d.tickNow } } else d

/-- The reference selected. -/
def Dev.refSel (d : Dev) : Nat := d.get rCLK_STATUS fCLK_STATUS_REF_SEL

/-- The monitor is armed (R586). -/
def Dev.armed (d : Dev) : Bool := d.bit rCLK_STATUS fCLK_STATUS_ARMED

/-- The host clock is lost (R586). -/
def Dev.hostLost (d : Dev) : Bool := d.armed && !(d.refValid 0) && !(d.refValid 1)

/-- Drive every transmit-disable pin to its asserted level. -/
def Dev.lasersOff (d : Dev) : Dev :=
  let d := (List.range 48).foldl (fun d t =>
    if d.bit (rTREE_LINE_STATUS t) fTREE_LINE_STATUS_LASER_ON then (d.put (rTREE_LINE_STATUS t) fTREE_LINE_STATUS_LASER_ON 0).emit .txdis t [1]
    else d) d
  (List.range 12).foldl (fun d k =>
    if (d.cage (48 + k)).laser then (d.updCage (48 + k) (fun x => { x with laser := false })).emit .txdis (48 + k) [1] else d) d

/-- Drive TIME_OK low. -/
def Dev.timeOkLow (d : Dev) : Dev :=
  if d.bit rPIN_STATUS fPIN_STATUS_TIME_OK then
    ((d.put rALM_STATUS fALM_STATUS_TIME_OK 0).put rPIN_STATUS fPIN_STATUS_TIME_OK 0).emit .pin 1 [1, 0]
  else d

/-- Enter VOID (R588, R589): every clock stops, the PLLs with them; lasers go dark, TIME_OK goes low, a zeroisation starts, and
the first of up to eight start attempts begins. -/
def Dev.enterVoid (d : Dev) : Dev :=
  let d := ((d.put rCLK_STATUS fCLK_STATUS_LOCK 0).put rCLK_STATUS fCLK_STATUS_MP_SRC 0).put rCLK_STATUS fCLK_STATUS_AO_SRC 0
  let d := (d.put rCLK_STATUS fCLK_STATUS_HOLDOVER 0).put rCLK_STATUS fCLK_STATUS_RING_STABLE 0
  let d := d.put rCLK_STATUS fCLK_STATUS_RING_COUNT 0
  let d := { d with clk := { d.clk with sup := .void, attempts := 1, trying := true } }
  (d.lasersOff.timeOkLow).zeroise fSEC_STATUS_CAUSE_CLOCK

/-- REFSEL changes reference (R583). -/
def Dev.refSwitch (d : Dev) (r : Nat) : Dev :=
  if d.refSel = r then d
  else ((d.put rCLK_STATUS fCLK_STATUS_REF_SEL r).mark rCLK_ERR fCLK_ERR_REF_SWITCH).alert 0x1306 (p4 r)

/-- Neither reference is valid (R584): SYSREF holds, both Gellen ports leave UP, and the Almanac loses the host clock. -/
def Dev.clockLost (d : Dev) : Dev :=
  let d := (d.put rCLK_STATUS fCLK_STATUS_HOLDOVER 1).mark rCLK_ERR fCLK_ERR_HOLDOVER
  let d := { d with clk := { d.clk with lostTick := d.tickNow } }
  let d := if d.portState 0 = 4 then d.portFall 0 1 else d
  let d := if d.portState 1 = 4 then d.portFall 1 1 else d
  (d.alert 0x1304 (p8 d.tickNow)).almClockLost

/-- A reference is valid again after the loss (R584). -/
def Dev.clockBack (d : Dev) (r : Nat) : Dev :=
  let d := (d.put rCLK_STATUS fCLK_STATUS_HOLDOVER 0).put rCLK_STATUS fCLK_STATUS_REF_SEL r
  (d.alert 0x1305 (p4 r ++ p4 ((d.tickNow - d.clk.lostTick) / 8))).almClockBack

/-- A reference becomes valid (R583, R584, R586); `both` where the other becomes valid in the same window. The monitor is
armed as REFSEL locks. In the Clock Void the monitors alone follow it. -/
def Dev.refUp (d : Dev) (r : Nat) (both : Bool) : Dev :=
  if d.refValid r then d
  else
    let pref := d.get rCLK_CTRL fCLK_CTRL_REF_PREF
    let first := !(d.refValid 0) && !(d.refValid 1)
    let d := d.setRef r true
    let d := if both then d.setRef (1 - r) true else d
    let take := if both then pref else r
    if !d.clocked then d
    else
      let d := if d.get rCLK_STATUS fCLK_STATUS_LOCK = 31 then d.put rCLK_STATUS fCLK_STATUS_ARMED 1 else d
      if d.bit rCLK_STATUS fCLK_STATUS_HOLDOVER then d.clockBack take
      else if first then d.put rCLK_STATUS fCLK_STATUS_REF_SEL take
      else d

/-- A reference becomes invalid (R583, R584); where the ring is restarting too, the device enters VOID (R588). -/
def Dev.refDown (d : Dev) (r : Nat) : Dev :=
  if !(d.refValid r) then d
  else
    let d := d.setRef r false
    if !d.clocked then d
    else if d.refValid (1 - r) then (if d.refSel = r then d.refSwitch (1 - r) else d)
    else if !d.armed then d
    else if d.clk.sup = .ringStart then d.enterVoid
    else d.clockLost

/-- REVERT (R583): the preferred reference has been valid for 64 windows of 1,024 ring cycles, 327,680 ns: three ticks
hold them. -/
def Dev.refRevert (d : Dev) : Dev :=
  let pref := d.get rCLK_CTRL fCLK_CTRL_REF_PREF
  let since := if pref = 0 then d.clk.validA else d.clk.validB
  if d.bit rCLK_CTRL fCLK_CTRL_REVERT && d.refSel != pref && d.refValid pref && decide (since + 3 ≤ d.tickNow) then d.refSwitch pref else d

end Sys2Proof.Machine
end

