-- ==== Sys2Proof/Machine/Boundary.lean ====
section
/-! DEFINITION. What happens at the start of a tick, and at its set times (01_tick.md R11-R30 with what each chapter binds to
a boundary). -/

namespace Sys2Proof.Machine

/-! Editions (11_colander.md R344). -/

/-- The pending Edition becomes current; with none pending the request finds nothing (01_tick.md R22). -/
def Dev.edChange (d : Dev) : Dev :=
  match d.pendSlot with
  | none => d.mark rTICK_ERR fTICK_ERR_NO_EDITION
  | some k =>
    let c := d.curSlot
    let d := d.setEd c { d.ed c with state := 3, leftTick := d.tickNow }
    let d := d.setEd k { d.ed k with state := 2 }
    d.alert 0x0A02 (p4 k ++ p8 (d.ed k).number ++ p8 d.tickNow)

/-- Draining slots whose last packet has gone are free, at least one tick after they left CURRENT. -/
def Dev.edRetire (d : Dev) : Dev :=
  (List.range 4).foldl (fun d i =>
    let e := d.ed i
    if e.state = 3 ∧ e.leftTick + 1 ≤ d.tickNow ∧ e.inflight = 0 then d.setEd i {} else d) d

/-! The boundary (R18). -/

/-- The bundles of TICK_REQ and TICK_TREQ that act at this boundary; those asked for after the cut-off wait for the next. -/
def Dev.takeReqs (d : Dev) : Nat × Dev :=
  let t := d.tick
  let due := decide (t.treq ≠ 0) && t.target == d.tickNow
  let lost := decide (t.treq ≠ 0) && decide (t.target < d.tickNow)
  let bits := Nat.lor t.onTime (if due then t.treq else 0)
  let d := { d with tick := { t with onTime := t.late, late := 0, treq := if due || lost then 0 else t.treq } }
  (bits, (d.when lost (fun d => d.mark rTICK_ERR fTICK_ERR_TARGET_LATE)).showReq)

/-- One framing tree sends its frame with the map its framer took, and the next map begins (R18); while the device is
ZEROISED the maps are empty (10_cipher.md R307). -/
def Dev.treeFrame (d : Dev) (t : Nat) : Dev :=
  if d.zeroised then
    (d.sendFrame t (emptyMap d.tickNow)).updLadT t (fun l => { l with building := none, handed := some (emptyMap (d.tickNow + 1)) })
  else
    match (d.ladT t).handed with
    | some m => (d.sendFrame t m).beginMap t
    | none => (d.sendFrame t (emptyMap d.tickNow)).beginMap t

/-- The Ladle takes the allocation edits of the batch closed (06_catalogue.md R179). -/
def Dev.ladTakes (d : Dev) : Dev :=
  let l := d.cat.ladleTakes
  l.foldl (fun d e => d.ladTake e.1 e.2) { d with cat := { d.cat with ladleTakes := [] } }

/-- The trees that frame. -/
def Dev.framers (d : Dev) : List Nat := (List.range 48).filter (fun t => d.framing t)

/-- A bundle's LOS clears once every lane has been in DATA, with signal and lock, for one tick (16_fabric.md R467). -/
def Dev.losClear (d : Dev) (b : Nat) : Dev :=
  let good := (d.bndMembers b).all (fun f =>
    d.trainState (fabLaneId f) == tsData && d.bit (rLANE_STATUS (laneBase (fabLaneId f))) fLANE_STATUS_RX_SIGNAL &&
    d.bit (rLANE_STATUS (laneBase (fabLaneId f))) fLANE_STATUS_CDR_LOCK)
  if !good then d.updFabBnd b (fun x => { x with losOk := none })
  else match (d.fabBnd b).losOk with
    | none => d.updFabBnd b (fun x => { x with losOk := some d.tickNow })
    | some _ => if d.defect b dfLos then d.clearDefect b dfLos else d

/-- ns of core clock cycles: the core runs at 2.0 GHz (20_clocks_boot.md R582). -/
def coreCycles (ns : Nat) : Nat := 2 * ns

/-- A tick begins, `origin` ns into its grid tick: everything that happens at T0, in order (R18 and the chapters bound to
it). The tick before has ended at `left` ns of its own grid. -/
def Dev.tickBegin (d : Dev) (tick origin left : Nat) : Dev :=
  let d := d.evc 0x0001 (coreCycles (left - d.tick.origin)) {}
  -- a framer that has taken no map by now sends a repeat map (R27)
  let d := d.framers.foldl (fun d t => d.takeMap t) d
  let d := d.wr64 rTICK_COUNT_LO rTICK_COUNT_HI (tick % 2 ^ 64)
  let d := (d.put rTICK_STATUS fTICK_STATUS_TICK_IN_SEC (tick % 8000)).put rTICK_STATUS fTICK_STATUS_CUTOFF 0
  let d := { d with once := [], tick := { d.tick with now := origin, origin := origin } }
  let r := d.takeReqs
  let d := r.2
  let d := d.when (nbit r.1 0) Dev.snapshot
  let d := d.when (nbit r.1 1) Dev.edChange
  let d := d.edRetire
  let d := (d.when (nbit r.1 2) Dev.pageSwap).fabFrames
  let d := d.protBoundary
  let d := (((d.ladTakes).ladRefill).ladReports).dsRefill
  let d := d.framers.foldl (fun d t => d.treeFrame t) d
  let d := ((d.pulses).radioTick).holdSecs
  let d := ((d.histCopy).histReplies).spareBoundary
  let d := (d.excRefill).stkBoundary
  let d := (List.range 48).foldl (fun d t => (d.treeFrameEnd t).showQw t d.tickNow) d
  let d := ((List.range 48).filter (fun b => d.bndEn b)).foldl (fun d b => d.losClear b) d
  d.refRevert

/-- The next tick begins at its own time. -/
def Dev.nextTick (d : Dev) : Dev := d.tickBegin (d.tickNow + 1) 0 tickNs

/-- A phase step to a time in ns of TAI, at `ns` into the tick in progress (R13): the tick ends at the step, and the tick of
the new time that holds the step instant begins. Its first offset aligns the tick (R14). -/
def Dev.stepTo (d : Dev) (ns time : Nat) : Dev :=
  let old := d.tickNow
  let new := time / tickNs
  let d := d.tickBegin new (time % tickNs) ns
  d.alert 0x0103 (p8 old ++ p8 new)

/-- An event of the tick table falls at `ns` after T0 (R18); in a tick that began at a step it does not occur where the tick
has ended before it (R13). -/
def Dev.atTime (d : Dev) (ns : Nat) (f : Dev → Dev) : Dev :=
  if tickNs ≤ d.tick.origin + ns then d
  else f { d with tick := { d.tick with now := max d.tick.now (d.tick.origin + ns) } }

end Sys2Proof.Machine
end

