-- ==== Sys2Proof/Machine/AlmServo.lean ====
section
/-! DEFINITION. The Almanac's servo: what an offset does, phase steps, stamps of the pulse input and the latch
(18_almanac.md R524-R536; 01_tick.md R13, R14). -/

namespace Sys2Proof.Machine

/-- The tick has run to `ns` of its grid at least. -/
def Dev.seen (d : Dev) (ns : Nat) : Dev := { d with tick := { d.tick with now := max d.tick.now ns } }

/-- Almanac time of the tick in progress, in ns of TAI. -/
def Dev.timeNow (d : Dev) : Nat := instant d.tickNow d.tick.now

/-- The span of the seconds counter in ns: a time below 0 wraps (R524). -/
def timeSpan : Nat := 2 ^ 48 * nsPerSec

/-- A time moved by some ns. -/
def shiftTime (t : Nat) (x : Int) : Nat := (((t : Int) + x) % (timeSpan : Int)).toNat

/-- A phase step to a new time (01_tick.md R13): what the servo counts in ticks keeps its distance. -/
def Dev.phaseStep (d : Dev) (time : Nat) : Dev :=
  let old := d.timeNow
  let was := d.tickNow
  let d := d.stepTo d.tick.now time
  { d with alm := { d.alm with
      lastOff := d.tickNow - (was - d.alm.lastOff)
      holdTick := d.tickNow - (was - d.alm.holdTick)
      lastEdge := d.alm.lastEdge.map (fun e => shiftTime e ((time : Int) - old)) } }

/-- The servo follows an offset in ACQUIRE (R529, R530): the first steps the time where it lies beyond STEP_THR and a step is
permitted; a step that R13 refuses is not made, and the first stays to be tried. -/
def Dev.acquire (d : Dev) (theta : Int) : Dev :=
  let far := decide (d.stepThr < theta.natAbs) && d.bit rALM_CTRL fALM_CTRL_STEP_EN
  if far && d.alm.first && d.stepFree then
    let d := d.phaseStep (shiftTime d.timeNow (-theta))
    let d := { d with alm := { d.alm with first := false, inRow := 0, lastOff := d.tickNow } }
    (d.put rTICK_STATUS fTICK_STATUS_ALIGNED 1).bump (rALM_CNT 2)
  else
    let stuck := far && !d.stepFree
    let d := d.when stuck (fun d =>
      let d := (d.mark rALM_ERR fALM_ERR_STEP_BLOCKED).mark rTICK_ERR fTICK_ERR_STEP_REFUSED
      if d.alm.blocked then d
      else { d.alert 0x1105 (p4s (max (-(2 ^ 31)) (min theta (2 ^ 31 - 1)))) with alm := { d.alm with blocked := true } })
    let d := { d with alm := { d.alm with
      first := d.alm.first && stuck, inRow := if (theta.natAbs : Int) ≤ d.lockThr then d.alm.inRow + 1 else 0 } }
    let d := d.servoUse theta
    if d.lockCount ≤ d.alm.inRow then d.toLocked else d

/-- The servo takes an offset (R528, R529). -/
def Dev.offset (d : Dev) (theta : Int) : Dev :=
  let d := (d.put rALM_STATUS fALM_STATUS_SRC_ACTIVE 1)
  let d := { d with alm := { d.alm with lastOff := d.tickNow } }
  if d.servo = svLocked then
    if (theta.natAbs : Int) ≤ d.unlockThr then ({ d with alm := { d.alm with outRow := 0 } }).servoUse theta
    else if d.alm.outRow < 3 then
      (({ d with alm := { d.alm with outRow := d.alm.outRow + 1 } }).bump (rALM_CNT 1)).mark rALM_ERR fALM_ERR_OUTLIER
    else (d.servoUse theta).toAcquire
  else if d.servo = svHoldover then
    let d := d.servoUse theta
    if (theta.natAbs : Int) ≤ d.lockThr then d.toLocked else d.toAcquire
  else d.acquire theta

/-- A write of ALM_MEAS_LO or ALM_MEAS_HI (R526, R542): under KIND 0, 2 or 3 it is refused; the offset is taken when the high
word is written. -/
def Dev.writeMeas (d : Dev) (hi : Bool) (v : Nat) : Dev :=
  if d.srcKind ≠ 1 ∧ d.srcKind ≠ 4 then d.mark rALM_ERR fALM_ERR_MEAS_REFUSED
  else if hi then
    let d := d.wrN rALM_MEAS_HI v
    d.offset (sval 64 (d.rd64 rALM_MEAS_LO rALM_MEAS_HI))
  else d.wrN rALM_MEAS_LO v

/-- A write of ALM_SRC (R527): a change of KIND or INDEX passes the servo through HOLDOVER. -/
def Dev.writeSrc (d : Dev) (v : Nat) : Dev :=
  let old := (d.srcKind, d.get rALM_SRC fALM_SRC_INDEX)
  let d := d.access rALM_SRC v
  if (d.srcKind, d.get rALM_SRC fALM_SRC_INDEX) = old then d else d.toHoldover 1

/-- Show a time in ns of TAI, and a fraction, in the latched registers (R525). -/
def Dev.showTime (d : Dev) (t frac : Nat) : Dev :=
  let s := t / nsPerSec
  (((d.wrN rALM_TIME_SEC_LO (s % 2 ^ 32)).wrN rALM_TIME_SEC_HI (s / 2 ^ 32 % 65536)).wrN rALM_TIME_NS (t % nsPerSec)).wrN rALM_TIME_FRAC frac

/-- Writing 1 to ALM_LATCH copies the counter (R525). -/
def Dev.latchTime (d : Dev) (v frac : Nat) : Dev := if nbit v 0 then d.showTime d.timeNow frac else d

/-- The signed distance of a stamp to the nearest whole second (R526). -/
def secondOff (t : Nat) : Int :=
  let x := t % nsPerSec
  if x < nsPerSec / 2 then x else (x : Int) - nsPerSec

/-- An active edge on the pulse input (R536): within 100 ns of the one before it is ignored; otherwise it is stamped, and under
KIND 3 gives an offset. -/
def Dev.pinEdge (d : Dev) : Dev :=
  let t := d.timeNow
  let near := match d.alm.lastEdge with | some e => decide (t ≤ e + 100) | none => false
  let d := { d with alm := { d.alm with lastEdge := some t } }
  if near then d
  else
    let stamp := shiftTime t (-(sval 16 (d.get rALM_PIN_CTRL fALM_PIN_CTRL_DELAY)))
    let d := if d.srcKind = 3 then d.offset (secondOff stamp) else d
    if d.alm.stamps.length < 16 then
      let d := { d with alm := { d.alm with stamps := d.alm.stamps ++ [stamp] } }
      d.put rALM_PIN_CTRL fALM_PIN_CTRL_DEPTH d.alm.stamps.length
    else (d.bump (rALM_CNT 4)).mark rALM_ERR fALM_ERR_PIN_OVF

end Sys2Proof.Machine
end

