-- ==== Sys2Proof/Machine/AlmCmds.lean ====
section
/-! DEFINITION. The commands of 18_almanac.md: offsets, the latch, pulses, the frequency message's answer and the mailbox
commands (R524-R545; 19_gellen.md R558). -/

namespace Sys2Proof.Machine

/-- ALM_MEAS (R542): a write of ALM_MEAS_HI, `ns` into the tick. -/
def execAlmMeas (val : Word) (ns : Fin 125000) (s : State) : Host.Outcome State Fault Refusal :=
  s.run (fun d => (d.seen ns.val).writeMeas true val.toNat)

/-- SOURCE_TIMEOUT (R529): no offset for SRC_TIMEOUT ticks. -/
def execSourceTimeout (s : State) : Host.Outcome State Fault Refusal :=
  s.run (fun d => if d.alm.lastOff + d.srcTimeout ≤ d.tickNow then d.toHoldover 0 else d)

/-- HOLD_QUAL_EXPIRY (R531): HOLD_SEC has come to HOLD_QUAL. -/
def execHoldQualExpiry (s : State) : Host.Outcome State Fault Refusal := s.run (fun d => d.holdSecs)

/-- ALM_LATCH (R525): a write of ALM_LATCH `ns` into the tick, the counter's fraction being `frac`. -/
def execAlmLatch (val : Word) (ns : Fin 125000) (frac : Fin 65536) (s : State) : Host.Outcome State Fault Refusal :=
  s.run (fun d => (d.seen ns.val).latchTime val.toNat frac.val)

/-- ALM_SRC_WRITE (R527). -/
def execAlmSrcWrite (val : Word) (s : State) : Host.Outcome State Fault Refusal := s.run (fun d => d.writeSrc val.toNat)

/-- PULSE_INPUT_EDGE (R536): an active edge `ns` into the tick. -/
def execPulseInputEdge (ns : Fin 125000) (s : State) : Host.Outcome State Fault Refusal :=
  s.run (fun d => if d.bit rALM_PIN_CTRL fALM_PIN_CTRL_EN then (d.seen ns.val).pinEdge else d)

/-- ALM_PIN_POP (R536). -/
def execAlmPinPop (s : State) : Host.Outcome State Fault Refusal := s.run (fun d => d.pinPop)

/-- ALM_PULSE_WRITE (R538): word `w` of output `k`. -/
def execAlmPulseWrite (k : Fin 4) (w : Fin 7) (val : Word) (s : State) : Host.Outcome State Fault Refusal :=
  s.run (fun d => d.writePulse k.val w.val val.toNat)

/-- TIME_OF_DAY (R535). -/
def execTimeOfDay (s : State) : Host.Outcome State Fault Refusal := s.run (fun d => d.timeOfDay)

/-- FREQ_ACK (19_gellen.md R554, R558): the transaction arrives on port `p`; the newest sequence is acknowledged. -/
def execFreqAck (p : Fin 2) (seq : Fin 65536) (applied : Fin 65536) (freq : Word) (s : State) : Host.Outcome State Fault Refusal :=
  s.run (fun d =>
    match d.receive p.val seq.val 2 3 true with
    | (false, d) => d
    | (true, d) =>
      if d.glk.freqSent ∧ applied.val = d.glk.freqSeq ∧ freq.toNat = sfield 32 d.alm.sent then
        d.put rGLK_STATUS fGLK_STATUS_FREQ_ACKED 1
      else d)

/-- FREQ_NOACK (19_gellen.md R558): no acknowledgement of the newest sequence within 1 ms; it is sent again. -/
def execFreqNoack (s : State) : Host.Outcome State Fault Refusal :=
  s.run (fun d =>
    if d.glk.freqSent && !(d.bit rGLK_STATUS fGLK_STATUS_FREQ_ACKED) then
      ((d.mark rGLK_ERR fGLK_ERR_FREQ_NOACK).alert 0x1204 (p4 d.glk.freqSeq)).freqAgain
    else d)

/-- The latched time as a response carries it: 6 bytes of seconds, 4 of ns, 2 of fraction. -/
def Dev.latchedBytes (d : Dev) : List Byte :=
  leB 4 (d.rdN rALM_TIME_SEC_LO) ++ leB 2 (d.rdN rALM_TIME_SEC_HI) ++ leB 4 (d.rdN rALM_TIME_NS) ++ leB 2 (d.rdN rALM_TIME_FRAC)

/-- TIME_STATUS (R544), code 0x0702. -/
def execTimeStatus (m : Fin 64) (s : State) : Host.Outcome State Fault Refusal :=
  s.run (fun d => d.command m.val 0x0702 (fun c d =>
    c.checks d [c.mayExpert 0, inForm (c.only 0 0x80 && c.endsAt 1)]
      (fun d => c.ok d ([rALM_STATUS, rALM_FREQ, rALM_OFFSET, rALM_SRC].flatMap (fun a => leB 4 (d.rdN a)) ++ d.latchedBytes ++
        (if c.expert 0 then leB 4 (d.rdN rFAB_STATUS) else [])))))

/-- TIME_SOURCE (R544), code 0x0703. -/
def execTimeSource (m : Fin 64) (s : State) : Host.Outcome State Fault Refusal :=
  s.run (fun d => d.command m.val 0x0703 (fun c d =>
    let v := c.u8 0 % 8 * 2 ^ 29 + c.u8 1 % 64
    c.checks d
      [c.mustOwn, inForm (decide (c.u8 0 < 8) && decide (c.u8 1 < 64) && c.only 2 0x80 && c.zero 3 1 &&
        (if c.expert 2 then c.block 0x14 else c.endsAt 4)),
       inForm (c.u8 0 != 1 || (decide (c.u8 1 < 48) && d.bit (rUPL_PORT_CTRL (c.u8 1)) fUPL_PORT_CTRL_EN && d.uplFirst (c.u8 1) == c.u8 1))]
      (fun d =>
        let d := if c.expert 2 then
            (((d.wrN rALM_SERVO (c.u32 4)).wrN rALM_LIMITS (c.u32 8)).wrN rALM_THR (c.u32 0xC)).wrN rALM_HOLD (c.u32 0x10)
          else d
        let d := d.writeSrc v
        c.ok d (leB 4 (d.rdN rALM_SRC) ++ leB 4 (d.rdN rALM_STATUS)))))

/-- TIME_SET (R544), code 0x0704: BUSY, with STEP_REFUSED set, where R13 refuses the step. -/
def execTimeSet (m : Fin 64) (s : State) : Host.Outcome State Fault Refusal :=
  s.run (fun d => d.command m.val 0x0704 (fun c d =>
    c.checks d [c.mustOwn, inForm (c.zero 6 2 && decide (c.u32 8 < nsPerSec) && c.endsAt 0xC)]
      (fun d =>
        if d.stepFree then c.ok (d.phaseStep ((c.u32 0 + 2 ^ 32 * c.u16 4) * nsPerSec + c.u32 8)) []
        else c.fail (d.mark rTICK_ERR fTICK_ERR_STEP_REFUSED) resBusy)))

/-- TIME_PULSE (R544), code 0x0705. -/
def execTimePulse (m : Fin 64) (s : State) : Host.Outcome State Fault Refusal :=
  s.run (fun d => d.command m.val 0x0705 (fun c d =>
    let k := c.u8 0
    c.checks d
      [c.mustOwn, inForm (decide (k < 4) && c.zero 1 3 && c.endsAt 0x20),
       inForm ((List.range 7).all (fun w => !(badValue (rALM_PULSE_CTRL k + 4 * w) (c.u32 (4 + 4 * w)))))]
      (fun d =>
        let d := (List.range 7).foldl (fun d w => d.writePulse k w (c.u32 (4 + 4 * w))) d
        c.ok d (leB 8 (d.tickNow + 1)))))

/-- TIME_TOD (R534, R544), code 0x0706. -/
def execTimeTod (m : Fin 64) (s : State) : Host.Outcome State Fault Refusal :=
  s.run (fun d => d.command m.val 0x0706 (fun c d =>
    let t := c.u8 0
    let n := leAt c.req 2 7
    c.checks d
      [(match c.caller with | none => true | some k => d.grantedTree k t, resNotPermitted),
       inForm (d.treeOk t && c.zero 1 1 && decide (n < 2 ^ 51) && c.endsAt 9)]
      (fun d =>
        let x := d.timeOf t n
        c.ok d (leB 6 x.1 ++ leB 2 0 ++ leB 4 x.2 ++ leB 1 (d.get rALM_STATUS fALM_STATUS_TIME_OK)))))

/-- TIME_RADIO (R544), code 0x0707: a tenant may query. -/
def execTimeRadio (m : Fin 64) (s : State) : Host.Outcome State Fault Refusal :=
  s.run (fun d => d.command m.val 0x0707 (fun c d =>
    let query := nbit (c.u8 0) 0
    c.checks d
      [(c.isOwner || (query && !(c.expert 0)), resNotPermitted),
       inForm (c.only 0 0x81 && c.zero 1 3 && decide (c.u32 4 < 2 ^ 24) && decide (c.u16 8 < 1024) && c.endsAt 0xA)]
      (fun d =>
        let d := if query then d else (d.wrN rALM_RADIO (c.u32 4)).wrN rALM_SFN_ADJ (c.u16 8)
        c.ok d (leB 4 (d.rdN rALM_RADIO) ++ leB 4 (d.rdN rALM_SFN_ADJ) ++ leB 4 (d.rdN rALM_RADIO_STATUS) ++ leB 8 d.tickNow))))

end Sys2Proof.Machine
end

