-- ==== Sys2Proof/Machine/CipherCmds.lean ====
section
/-! DEFINITION. The commands of 10_cipher.md: engines and their tests, sessions, keys, tamper and zeroisation
(R286-R321). -/

namespace Sys2Proof.Machine

/-- ENGINE_PARITY_ERROR (R287). -/
def execEngineParityError (e : Fin 141) (s : State) : Host.Outcome State Fault Refusal := s.run (fun d => d.fence e.val 0)

/-! Sessions and the certificate (R302, R303, R314, R315). -/

/-- KEY_SESSION (R303, R314), code 0x0801. -/
def execKeySession (m : Fin 64) (s : State) : Host.Outcome State Fault Refusal :=
  s.run (fun d => d.command m.val 0x0801 (fun c d =>
    let close := nbit (c.u8 0) 0
    let pub := slice c.req 0x14 97
    let mine := (d.ciph.sessions.filter (fun x => x.caller == c.caller)).length
    let free := (List.range 32).find? (fun n => !(d.ciph.sessions.any (fun x => x.num == n)))
    c.checks d
      [c.mayExpert 0, inForm (c.only 0 0x81 && c.zero 2 2 && c.endsAt 0x75), (!close || (d.sessionOf c.caller (c.u8 1)).isSome, resNotPermitted),
       (close || d.wrapReady, resNotReady), inForm (close || onP384 pub),
       (close || (free.isSome && (c.isOwner || decide (mine < 2))), resNoResource)]
      (fun d =>
        if close then c.ok (d.closeSession (c.u8 1)) []
        else
          let n := free.getD 0
          let r1 := d.draw
          let r2 := r1.2.draw
          let nonce := beB 8 r1.1 ++ beB 8 r2.1
          let x : Session := ⟨n, c.caller, transportKey (slice c.req 4 16) nonce pub n, 0, 0⟩
          c.ok { r2.2 with ciph := { r2.2.ciph with sessions := r2.2.ciph.sessions ++ [x] } } (leB 1 n ++ leB 3 0 ++ nonce))))

/-- KEY_CERT (R302, R315), code 0x0802. -/
def execKeyCert (m : Fin 64) (s : State) : Host.Outcome State Fault Refusal :=
  s.run (fun d => d.command m.val 0x0802 (fun c d =>
    let cert := Config.certificate.take 1536
    c.checks d [inForm (c.endsAt 0)] (fun d => c.ok d (leB 2 cert.length ++ leB 2 0 ++ cert))))

/-! Tree keys (R290-R296, R316, R317). -/

/-- KEY_INSTALL (R290, R295, R296, R304, R316), code 0x0803. -/
def execKeyInstall (m : Fin 64) (s : State) : Host.Outcome State Fault Refusal :=
  s.run (fun d => d.command m.val 0x0803 (fun c d =>
    match d.findTerm (c.u8 0) (c.u16 2), d.sessionOf c.caller (c.u8 4) with
    | some h, some x =>
      let r := d.term h
      let n := c.u8 1
      let big := nbit (c.u8 5) 0
      let e := c.u8 0x18
      let k := d.keyEnt r.keyIndex
      let shared := d.cat.terms.any (fun t => t.2.valid && t.2.keyIndex == r.keyIndex && t.1 != h)
      c.checks d
        [(match c.caller with | none => true | some t => r.tenant == t && !(c.expert 5), resNotPermitted), (d.wrapReady, resNotReady),
         inForm ((n == 1 || n == 2) && c.only 5 0x81 && c.zero 6 2 && c.zero 0x0C 4 && c.zero 0x19 7 && c.endsAt 0x50),
         inForm (if c.expert 5 then e == 0 || (decide (16 ≤ e) && decide (e ≤ 62)) else e == 0), inForm (!shared && big == r.key256),
         (k.cur != n, resBusy)]
        (fun d =>
          match d.unwrap x (slice c.req 8 4) (slice c.req 0 0x20) (slice c.req 0x20 32) (slice c.req 0x40 16) (if big then 0 else 16) with
          | (none, d) => c.fail d resBadParam
          | (some key, d) =>
            let slot : KeySlot := { installed := true, key := if big then key else key.take 16, aes256 := big, exp := e,
                                    pending := if c.u64 0x10 = 0 then none else some (c.u64 0x10) }
            c.ok (d.setKeyEnt r.keyIndex (k.setSlot n slot)) (leB 2 r.keyIndex ++ leB 1 k.cur ++ leB 1 0))
    | some _, none => c.fail d resNotPermitted
    | none, _ => c.fail d (if c.isOwner then resBadParam else resNotPermitted)))

/-- Bits 31:25 of CIPH_KEY_INFO for a slot of an entry (R311), as a terminal that names it sees it. -/
def keyBits (r : Option TermRec) (k : KeyEnt) (n : Nat) : Nat :=
  let s := k.slot n
  let here := match r with | some r => slotFor r s | none => s.installed
  let cs := k.slot k.cur
  let blocked := k.cur == 0 || cs.exhausted || !(match r with | some r => slotFor r cs | none => cs.installed)
  b2n here * 64 + b2n (k.cur == n) * 32 + b2n s.pending.isSome * 16 + b2n s.warned * 8 + b2n s.exhausted * 4 + b2n s.aes256 * 2 + b2n blocked

/-- The exponent in force for an entry: its current slot's, else the class's. -/
def Dev.keyExp (d : Dev) (k : KeyEnt) : Nat := d.slotExp (if k.cur = 0 then {} else k.slot k.cur)

/-- KEY_STATUS (R317), code 0x0804. -/
def execKeyStatus (m : Fin 64) (s : State) : Host.Outcome State Fault Refusal :=
  s.run (fun d => d.command m.val 0x0804 (fun c d =>
    match d.findTerm (c.u8 0) (c.u16 2) with
    | none => c.checks d [c.mayExpert 1, inForm false] (fun d => d)
    | some h =>
      c.checks d [c.mayExpert 1, c.termRights d h, inForm (c.only 1 0x80 && c.endsAt 4)] (fun d =>
        let r := d.term h
        let k := d.keyEnt r.keyIndex
        d.finish c.mbx (if d.keyBlocked h then resKeyExhausted else resOk)
          (leB 1 (2 * keyBits (some r) k 1) ++ leB 1 (2 * keyBits (some r) k 2) ++ leB 1 (d.keyExp k) ++ leB 1 0 ++
            leB 8 k.s1.count ++ leB 8 k.s2.count))))

/-- A write of CIPH_KEY_SEL (R311): GO copies the slot's state and count. -/
def Dev.writeKeySel (d : Dev) (v : Nat) : Dev :=
  let d := d.access rCIPH_KEY_SEL (v % 2 ^ 31)
  if !(nbit v 31) then d else
  let i := fieldOf v fCIPH_KEY_SEL_INDEX
  let n := fieldOf v fCIPH_KEY_SEL_SLOT + 1
  let k := d.keyEnt i
  let r := (d.cat.terms.find? (fun t => t.2.valid && t.2.keyIndex == i)).map Prod.snd
  let d := d.wrN rCIPH_KEY_INFO (keyBits r k n * 2 ^ 25 + d.slotExp (k.slot n) * 2 ^ 19)
  d.wr64 rCIPH_KEY_COUNT_LO rCIPH_KEY_COUNT_HI (k.slot n).count

/-- CIPH_KEY_COPY (R311): a write of CIPH_KEY_SEL with GO. -/
def execCiphKeyCopy (index : Fin 16384) (slot : Fin 2) (s : State) : Host.Outcome State Fault Refusal :=
  s.run (fun d => d.writeKeySel (2 ^ 31 + slot.val * 2 ^ 14 + index.val))

/-! MACsec associations (R298, R299, R318). -/

/-- KEY_SA_INSTALL (R318), code 0x0805. -/
def execKeySaInstall (m : Fin 64) (s : State) : Host.Outcome State Fault Refusal :=
  s.run (fun d => d.command m.val 0x0805 (fun c d =>
    let kind := c.u8 0
    let g := c.u8 1
    let e := c.u16 2
    let rx := nbit (c.u8 5) 0
    let valid := nbit (c.u8 5) 1
    let k := saKey kind g e
    let old := d.saEnt k
    c.checks d
      [c.mustOwn, (d.ciphNormal && !d.ciph.zeroing && (!valid || d.wrapReady), resNotReady),
       inForm (decide (kind < 2) && decide (g < 6) && decide (e < 512) && c.only 5 0x83 && decide (c.u8 6 < 4) && c.zero 7 1 && c.zero 0x0C 4 &&
         c.zero 0x1C 4 && c.zero 0x2C 4 && c.zero 0x3C 4 && (!valid || c.endsAt 0x70)),
       (!(old.valid && !old.rx && old.used && !(d.saSpent old)), resBusy)]
      (fun d =>
        if !valid then c.ok (d.setSaEnt k {}) []
        else
          match d.sessionOf c.caller (c.u8 4) with
          | none => c.fail d resNotPermitted
          | some x =>
            match d.unwrap x (slice c.req 8 4) (slice c.req 0 0x40) (slice c.req 0x40 32) (slice c.req 0x60 16) 0 with
            | (none, d) => c.fail d resBadParam
            | (some key, d) =>
              c.ok (d.setSaEnt k { valid := true, rx := rx, an := c.u8 6, sci := beAt c.req 0x10 8, ssci := beAt c.req 0x18 4,
                                   salt := slice c.req 0x30 12, pn := c.u64 0x20, win := c.u32 0x28, key := key }) [])))

/-! Tests (R308-R310, R319). -/

/-- A write of CIPH_TEST (R309, R311): START is ignored while a test runs. -/
def Dev.writeCiphTest (d : Dev) (v : Nat) : Dev :=
  if d.bit rCIPH_TEST fCIPH_TEST_BUSY then d.access rCIPH_TEST (v % 2 ^ 31) else
  let d := d.access rCIPH_TEST (v % 2 ^ 31)
  let e := fieldOf v fCIPH_TEST_ENGINE
  if !(nbit v 31) || decide (137 < e) then d else
  let d := ((d.put rCIPH_TEST fCIPH_TEST_DONE 0).put rCIPH_TEST fCIPH_TEST_PASS 0).put rCIPH_TEST fCIPH_TEST_NO_SPARE 0
  if d.underTest e || !(d.testable e) then d.put rCIPH_TEST fCIPH_TEST_NO_SPARE 1
  else (d.put rCIPH_TEST fCIPH_TEST_BUSY 1).beginTest ⟨e, false, none, [], 0, 0, false⟩

/-- ENGINE_TEST_START (R309): a write of CIPH_TEST with START. -/
def execEngineTestStart (e : Fin 256) (s : State) : Host.Outcome State Fault Refusal := s.run (fun d => d.writeCiphTest (2 ^ 31 + e.val))

/-- ENGINE_TEST_DONE (R308-R310). -/
def execEngineTestDone (e : Fin 141) (pass : Bool) (s : State) : Host.Outcome State Fault Refusal :=
  s.run (fun d =>
    match d.ciph.tests.find? (fun t => t.engine == e.val) with
    | some t => d.testDone t pass
    | none => d)

/-- A write of CIPH_FENCED (R309, R311): each bit written with 1 of a fenced engine starts its recovery test. -/
def Dev.writeFenced (d : Dev) (i v : Nat) : Dev :=
  (List.range 32).foldl (fun d j =>
    let e := 32 * i + j
    if nbit v j && d.fenced e && !(d.underTest e) then d.beginTest ⟨e, true, none, [], 0, 0, false⟩ else d) d

/-- FENCE_RECOVERY (R309). -/
def execFenceRecovery (i : Fin 5) (val : Word) (s : State) : Host.Outcome State Fault Refusal :=
  s.run (fun d => d.writeFenced i.val val.toNat)

/-- KEY_SELFTEST (R319), code 0x0806. -/
def execKeySelftest (m : Fin 64) (s : State) : Host.Outcome State Fault Refusal :=
  s.run (fun d => d.command m.val 0x0806 (fun c d =>
    let e := c.u8 0
    c.checks d
      [c.mustOwn, inForm ((decide (e < 138) || e == 0xFF) && c.endsAt 1), (!(d.bit rCIPH_TEST fCIPH_TEST_BUSY), resBusy)]
      (fun d =>
        let d := (c.wait d [e]).put rCIPH_TEST fCIPH_TEST_BUSY 1
        d.selfNext c.mbx (if e = 0xFF then List.range 138 else [e]) 0 0 false)))

/-! Tamper and zeroisation (R305-R307, R313, R320). -/

/-- KEY_ZEROISE (R320), code 0x0807: it answers once ZEROISED is 1. -/
def execKeyZeroise (m : Fin 64) (s : State) : Host.Outcome State Fault Refusal :=
  s.run (fun d => d.command m.val 0x0807 (fun c d =>
    c.checks d [c.mustOwn, inForm (c.u8 0 == 0x5A && c.endsAt 1)] (fun d => (c.wait d []).zeroise fSEC_STATUS_CAUSE_CMD)))

/-- TAMPER_INPUT (R305, R313): an input has held its active level for its debounce time, or left it. -/
def execTamperInput (k : Fin 4) (active : Bool) (s : State) : Host.Outcome State Fault Refusal :=
  s.run (fun d =>
    let d := d.put rSEC_STATUS ⟨k.val, k.val⟩ (b2n active)
    let d := d.put rPIN_STATUS ⟨4 + k.val, 4 + k.val⟩ (b2n (active == nbit (d.rdN rSEC_TAMPER_CTRL) (8 * k.val + 6)))
    if active && nbit (d.rdN rSEC_TAMPER_CTRL) (8 * k.val + 7) then d.zeroise ⟨27 + k.val, 27 + k.val⟩ else d)

/-- A write of SEC_ZEROISE (R313). -/
def Dev.writeZeroise (d : Dev) (v : Nat) : Dev := if v = 0x5A then d.zeroise fSEC_STATUS_CAUSE_CMD else d

/-- SEC_ZEROISE (R313). -/
def execSecZeroise (val : Word) (s : State) : Host.Outcome State Fault Refusal := s.run (fun d => d.writeZeroise val.toNat)

/-- ZEROISATION_DONE (R306): every key store is erased and verified, by self-timed logic in the Clock Void too
(20_clocks_boot.md R589), where no clocked logic can tell of it. -/
def execZeroisationDone (s : State) : Host.Outcome State Fault Refusal :=
  s.runAny (fun d =>
    if !d.ciph.zeroing then d
    else if !d.clocked then d.eraseStores.mark rSEC_STATUS fSEC_STATUS_ZEROISED
    else
    let d := (d.eraseKeys.mark rSEC_STATUS fSEC_STATUS_ZEROISED).put rCIPH_STATUS fCIPH_STATUS_STATE 2
    let d := d.alert 0x0904 (p4 (d.rdN rSEC_STATUS))
    (d.waiting 0x0807).foldl (fun d c => c.ok d []) d)

end Sys2Proof.Machine
end

