-- ==== Sys2Proof/Machine/CntCmds.lean ====
section
/-! DEFINITION. The commands of 21_counters_test.md: counters, sampling and the march test (R608-R628). -/

namespace Sys2Proof.Machine

/-- CNT_CFG_WRITE (R610, R611). -/
def execCntCfgWrite (n : Fin 4096) (val : Word) (s : State) : Host.Outcome State Fault Refusal :=
  s.run (fun d => d.writeCntCfg n.val val.toNat)

/-- CNT_FLT_WRITE (R610): CTRL (0), or a word of ADDR_LO and ADDR_HI. -/
def execCntFltWrite (p : Fin 64) (w : Fin 5) (val : Word) (s : State) : Host.Outcome State Fault Refusal :=
  s.run (fun d => d.writeCntFlt p.val w.val val.toNat)

/-- CNT_CLEAR (R612): a write of CNT_CLEAR with GO. -/
def execCntClear (val : Word) (s : State) : Host.Outcome State Fault Refusal :=
  s.run (fun d => d.writeCntClear (Nat.lor val.toNat (2 ^ 31)))

/-- The newest packet that has entered the Colander and waits for its first pass. -/
def Dev.newest (d : Dev) : Option ColPkt := (d.col.queue.filter (fun c => c.pass == 0)).getLast?

/-- A packet with its keys, before any match. -/
def Dev.passOf (d : Dev) (c : ColPkt) : Pass :=
  let w := parseFrame d.parseCfg c.pkt.bytes c.first
  let pre := leB 1 c.pkt.src ++ leB 1 c.pkt.tenant ++ leB 1 (w.flags c.pkt.yellow c.recirc)
  ⟨c, w.levels.reverse.map (levelKey pre (w.levels.length - 1) c.pkt.metaV c.pass), pre, 0xFFFF⟩

/-- SAMPLE_TRIGGER (R615-R618): REMAIN has reached 0. The unit reloads; while its previous sample is still being taken it
counts LOST, else it samples the instruction at `pc`, or the newest packet in the Colander. -/
def execSampleTrigger (u : Fin 16) (skid : Fin 64) (pc : BitVec 64) (busy : Bool) (s : State) : Host.Outcome State Fault Refusal :=
  s.run (fun d =>
    let a := rCNT_SMP_CTRL u.val
    let cpu := d.get (rCNT_CFG (d.get a fCNT_SMP_CTRL_COUNTER)) fCNT_CFG_EVENT / 256 == 5
    let tick := d.tickNow % 2 ^ 32
    if !(d.bit a fCNT_SMP_CTRL_EN) || d.rdN (rCNT_SMP_REMAIN u.val) != 0 then d
    else
      let d := d.wrN (rCNT_SMP_REMAIN u.val) (d.smpPeriod u.val)
      if busy then d.bump (rCNT_SMP_LOST u.val)
      else if cpu then
        let d := d.smpTake u.val ⟨2 ^ 31 + min 8 skid.val, pc.toNat % 2 ^ 32, pc.toNat / 2 ^ 32, tick⟩
        d.when (d.bit a fCNT_SMP_CTRL_IRQ) (fun d => d.emit .irq 0 [d.get a fCNT_SMP_CTRL_CORE])
      else match d.newest with
        | none => d
        | some c =>
          let x := { d.passOf c with rule := 0xFFFE }
          let d := d.smpTake u.val ⟨2 ^ 31 + 2 ^ 30 + skid.val, leAt x.pre 0 3, c.pkt.chan.getD 0xFFFFFFFF, tick⟩
          d.when (d.bit a fCNT_SMP_CTRL_DELIVER) (fun d => d.excDeliver x (d.get a fCNT_SMP_CTRL_CLASS) true))

/-- CNT_SMP_POP (R618). -/
def execCntSmpPop (u : Fin 16) (s : State) : Host.Outcome State Fault Refusal := s.run (fun d => d.smpPop u.val)

/-- MTEST_START (R620): a write of MTEST_CTRL with GO. -/
def execMtestStart (val : Word) (s : State) : Host.Outcome State Fault Refusal :=
  s.run (fun d => d.writeMtest (Nat.lor val.toNat (2 ^ 31)))

/-- A log entry in a response: its four words. -/
def mtestLogBytes (l : List MtestLog) : List Byte := l.flatMap (fun x => x.words.flatMap (leB 4))

/-- MTEST_DONE (R622, R623): the run active ends with its findings and the sub-arrays whose retest fails; a DIAG_MTEST that
waits for it answers. -/
def execMtestDone (finds : List MarchFind) (again : List Nat) (s : State) : Host.Outcome State Fault Refusal :=
  s.run (fun d =>
    match d.cnt.run with
    | none => d
    | some v =>
      let keep := fieldOf v fMTEST_CTRL_PRESERVE == 1
      let d := ({ d with cnt := { d.cnt with run := none } }).put rMTEST_CTRL fMTEST_CTRL_BUSY 0
      let d := (d.marchEnd (fieldOf v fMTEST_CTRL_TARGET) (!keep) (fieldOf v fMTEST_CTRL_REPAIR == 1) finds again).2
      (d.waiting 0x0C09).foldl (fun d c => c.ok d (leB 4 (d.rdN rMTEST_STATUS) ++ mtestLogBytes d.cnt.mtLog)) d)

/-- MTEST_LOG_POP (R627). -/
def execMtestLogPop (s : State) : Host.Outcome State Fault Refusal := s.run Dev.mtestPop

/-- CNT_CONFIG (R628), code 0x0B01: a configuration and a profile that R610 or R611 refuses changes nothing. -/
def execCntConfig (m : Fin 64) (s : State) : Host.Outcome State Fault Refusal :=
  s.run (fun d => d.command m.val 0x0B01 (fun c d =>
    let n := c.u16 0
    let cfg := c.u32 4
    let p := fieldOf cfg fCNT_CFG_FILTER
    let withP := nbit (c.u8 2) 0
    let ctrl := if withP && p != 0 then c.u32 8 else d.profile p
    c.checks d
      [c.mustOwn,
       inForm (decide (n < 4096) && c.only 2 0x81 && c.zero 3 1 && !(badValue (rCNT_CFG 0) cfg) &&
         (if withP then !(badValue (rCNT_FLT_CTRL 0) (c.u32 8)) && c.endsAt 0x1C else c.endsAt 8)),
       inForm (!(cntBad cfg ctrl) &&
         !(withP && p != 0 && (List.range 4096).any (fun k => k != n && d.get (rCNT_CFG k) fCNT_CFG_FILTER == p && cntBad (d.rdN (rCNT_CFG k)) ctrl)))]
      (fun d =>
        let d := d.wrN (rCNT_CFG n) cfg
        let d := d.when (withP && p != 0) (fun d =>
          ((d.wrN (rCNT_FLT_CTRL p) ctrl).wr64 (rCNT_FLT_ALO_LO p) (rCNT_FLT_ALO_HI p) (c.u64 0x0C)).wr64
            (rCNT_FLT_AHI_LO p) (rCNT_FLT_AHI_HI p) (c.u64 0x14))
        c.ok d [])))

/-- A counter is the caller's: the owner's are all. -/
def Dev.cntMine (d : Dev) (c : Cmd) (n : Nat) : Bool := c.isOwner || d.get (rCNT_CFG n) fCNT_CFG_VIEW == c.tenant

/-- The 16 bytes of sticky bits of `count` counters from `first`, bit i for counter first + i. -/
def stickyBytes (bit : Nat → Bool) (first count : Nat) : List Byte :=
  leB 16 ((List.range count).foldl (fun x i => x + (if bit (first + i) then 2 ^ i else 0)) 0)

/-- CNT_READ (R628), code 0x0B02: live or snapshot values; the owner may clear the live sticky bits after. -/
def execCntRead (m : Fin 64) (s : State) : Host.Outcome State Fault Refusal :=
  s.run (fun d => d.command m.val 0x0B02 (fun c d =>
    let first := c.u16 0
    let count := c.u8 2
    let live := nbit (c.u8 3) 0
    let clear := nbit (c.u8 3) 1
    c.checks d
      [(c.isOwner || !clear, resNotPermitted), c.mayExpert 3,
       inForm (decide (1 ≤ count) && decide (count ≤ 128) && decide (first + count ≤ 4096) && c.only 3 0x83 && c.endsAt 4)]
      (fun d =>
        let value := fun n => if !(d.cntMine c n) then 0
          else if live then d.rd64 (rEVC_LO n) (rEVC_HI n) else d.rd64 (rSNAP_LO n) (rSNAP_HI n)
        let bit := fun n => d.cntMine c n && nbit (d.rdN (if live then rCNT_OVF (n / 32) else rSNAP_OVF (n / 32))) (n % 32)
        let resp := leB 8 (d.rd64 rSNAP_TICK_LO rSNAP_TICK_HI) ++ (List.range count).flatMap (fun i => leB 8 (value (first + i))) ++
          stickyBytes bit first count
        let d := d.when clear (fun d => (List.range count).foldl (fun d i =>
          d.put (rCNT_OVF ((first + i) / 32)) ⟨(first + i) % 32, (first + i) % 32⟩ 0) d)
        c.ok d resp)))

/-- CNT_SNAPSHOT (R628, R23), code 0x0B03. -/
def execCntSnapshot (m : Fin 64) (s : State) : Host.Outcome State Fault Refusal :=
  s.run (fun d => d.command m.val 0x0B03 (fun c d =>
    c.checks d [c.mustOwn, inForm (c.only 0 0x80 && c.zero 1 7 && (if c.expert 0 then c.block 0x10 else c.endsAt 8))] (fun d =>
      let r := d.schedule 1 (if c.expert 0 then c.u64 8 else 0)
      if r.1 = resOk then c.ok r.2.2 (leB 8 r.2.1) else c.fail r.2.2 r.1)))

/-- CNT_SAMPLE (R628), code 0x0B04: reads and empties a unit's FIFO, or configures the unit. -/
def execCntSample (m : Fin 64) (s : State) : Host.Outcome State Fault Refusal :=
  s.run (fun d => d.command m.val 0x0B04 (fun c d =>
    let u := c.u8 0
    let conf := c.u8 1 == 1
    let ctrl := c.u32 4
    c.checks d
      [c.mustOwn, inForm (decide (u < 16) && decide (c.u8 1 < 2) && c.zero 2 2 && (if conf then c.endsAt 0x0C else c.endsAt 4)),
       inForm (!conf || (!(badValue (rCNT_SMP_CTRL u) ctrl) && !(d.smpBad u ctrl)))]
      (fun d =>
        if conf then c.ok ((d.wrN (rCNT_SMP_PERIOD u) (c.u32 8)).writeSmpCtrl u ctrl) []
        else
          let q := d.fifo u
          c.ok ((d.setFifo u []).put (rCNT_SMP_CTRL u) fCNT_SMP_CTRL_DEPTH 0)
            (q.flatMap (fun x => leB 4 x.w0 ++ leB 4 x.w1 ++ leB 4 x.w2 ++ leB 4 x.w3)))))

/-- DIAG_MTEST (R628), code 0x0C09: it answers once the run is DONE. -/
def execDiagMtest (m : Fin 64) (s : State) : Host.Outcome State Fault Refusal :=
  s.run (fun d => d.command m.val 0x0C09 (fun c d =>
    let v := Nat.lor (c.u32 0) (2 ^ 31)
    c.checks d
      [c.mustOwn, inForm (!(badValue rMTEST_CTRL (c.u32 0)) && c.endsAt 4),
       (d.cnt.run.isNone, resBusy), (d.marchOk v, resNotReady)]
      (fun d => (c.wait d []).writeMtest v)))

/-- CNT_SMP_CTRL_WRITE (R615). -/
def execCntSmpCtrlWrite (u : Fin 16) (val : Word) (s : State) : Host.Outcome State Fault Refusal :=
  s.run (fun d => d.writeSmpCtrl u.val val.toNat)

end Sys2Proof.Machine
end

