-- ==== Sys2Proof/Machine/ColCmds.lean ====
section
/-! DEFINITION. The commands of 11_colander.md: passes, the staging image, Editions, exception classes and mirror
sessions (R322-R350). -/

namespace Sys2Proof.Machine

/-- COLANDER_PASS (R322-R341): one pass of the packet that waits longest; `corr` and `errs` are the corrected and
uncorrectable errors its lookups find in the forwarding memories (12_forwarding.md R374). -/
def execColanderPass (corr : Nat) (errs : List MemErr) (s : State) : Host.Outcome State Fault Refusal :=
  s.run (fun d => (d.memErrs corr errs).colPass)

/-! The staging image (R340, R345, R347). -/

/-- Bytes of an entry: a rule's or an action's. -/
def entrySize (kind : Nat) : Nat := if kind = 0 then 160 else 16
/-- Entries of a kind an Edition may hold. -/
def entryLimit (kind : Nat) : Nat := if kind = 0 then 16384 else 65536

/-- Why a rule is refused, as REASON (R329, R330): 0 none, 2 combination, 3 reserved bits. -/
def ruleReason (r : List Byte) : Nat :=
  let ops := byteAt r 129
  let disp := b2n (nbit ops 0) + b2n (nbit ops 1) + b2n (nbit ops 2) + b2n (nbit ops 3)
  if byteAt r 128 / 4 % 32 ≠ 0 ∨ nbit ops 7 ∨ 16 ≤ byteAt r 130 ∨ 16 ≤ byteAt r 131 ∨ leAt r 133 3 ≠ 0 ∨ leAt r 140 20 ≠ 0 then 3
  else if nbit (byteAt r 128) 7 ∧ (disp ≠ 1 ∨ (nbit ops 4 ∧ (!(nbit ops 3) ∨ byteAt r 128 % 4 = 0))) then 2
  else 0

/-- Why an action entry is refused (R332). -/
def actionReason (a : List Byte) : Nat :=
  if 5 ≤ byteAt a 0 ∨ 8 ≤ byteAt a 1 ∨ leAt a 2 2 ≠ 0 ∨ leAt a 8 4 / 65536 % 2 ^ 14 ≠ 0 ∨ leAt a 12 4 ≠ 0 then 3 else 0

/-- Why an entry is refused at an index: 1 index, 2 combination, 3 reserved bits. -/
def entryReason (kind idx : Nat) (e : List Byte) : Nat :=
  if entryLimit kind ≤ idx then 1 else if kind = 0 then ruleReason e else actionReason e

/-- An entry of the staging image. -/
def Staging.entry (s : Staging) (kind idx : Nat) : List Byte := if kind = 0 then ruleAt s.rules idx else actionAt s.actions idx

/-- Write an entry of the staging image. -/
def Staging.put (s : Staging) (kind idx : Nat) (e : List Byte) : Staging :=
  if kind = 0 then { s with rules := sset (noEntry 160) s.rules idx e } else { s with actions := sset (noEntry 16) s.actions idx e }

/-- Open, replace or close the staging image. -/
def Dev.setStaging (d : Dev) (s : Option Staging) : Dev := { d with col := { d.col with staging := s } }

/-- The bytes in COL_STAGE_DATA. -/
def Dev.stageData (d : Dev) (n : Nat) : List Byte := (List.range (n / 4)).flatMap (fun i => leB 4 (d.rdN (rCOL_STAGE_DATA i)))

/-- Show a staging access's REASON; a refused direct write sets STAGE_REFUSED. -/
def Dev.stageDone (d : Dev) (write : Bool) (reason : Nat) : Dev :=
  (d.put rCOL_STAGE_CMD fCOL_STAGE_CMD_REASON reason).when (write && reason != 0) (fun d => d.mark rCOL_ERR fCOL_ERR_STAGE_REFUSED)

/-- A staging access (R345, R347): an entry to COL_STAGE_DATA, or the reverse. -/
def Dev.stageAccess (d : Dev) (write : Bool) (kind idx : Nat) : Dev :=
  match d.col.staging with
  | none => d.stageDone write 4
  | some s =>
    let n := entrySize kind
    if write then
      let e := d.stageData n
      let reason := entryReason kind idx e
      (d.when (reason == 0) (fun d => d.setStaging (some (s.put kind idx e)))).stageDone true reason
    else if entryLimit kind ≤ idx then d.stageDone false 1
    else
      ((List.range (n / 4)).foldl (fun d i => d.wrN (rCOL_STAGE_DATA i) (leAt (s.entry kind idx) (4 * i) 4)) d).stageDone false 0

/-- A write of COL_STAGE_CMD: the access is done within the step, so that BUSY reads 0. -/
def Dev.writeStageCmd (d : Dev) (v : Nat) : Dev :=
  let d := (d.access rCOL_STAGE_CMD v).put rCOL_STAGE_CMD fCOL_STAGE_CMD_GO 0
  if nbit v 30 then
    d.stageAccess (fieldOf v fCOL_STAGE_CMD_WRITE == 1) (fieldOf v fCOL_STAGE_CMD_KIND) (fieldOf v fCOL_STAGE_CMD_INDEX)
  else d

/-- COL_STAGE_READ (R345): COL_STAGE_CMD written with GO and WRITE 0. -/
def execColStageRead (kind : Fin 2) (idx : Fin 131072) (s : State) : Host.Outcome State Fault Refusal :=
  s.run (fun d => d.writeStageCmd (2 ^ 30 + kind.val * 2 ^ 28 + idx.val))

/-- COL_STAGE_WRITE (R345): COL_STAGE_CMD written with GO and WRITE 1. -/
def execColStageWrite (kind : Fin 2) (idx : Fin 131072) (s : State) : Host.Outcome State Fault Refusal :=
  s.run (fun d => d.writeStageCmd (2 ^ 30 + 2 ^ 29 + kind.val * 2 ^ 28 + idx.val))

/-- EDITION_OPEN (R349), code 0x0501. -/
def execEditionOpen (m : Fin 64) (s : State) : Host.Outcome State Fault Refusal :=
  s.run (fun d => d.command m.val 0x0501 (fun c d =>
    c.checks d [c.mustOwn, inForm (c.only 0 0x83 && c.endsAt 1), (d.col.staging.isNone || nbit (c.u8 0) 1, resBusy)]
      (fun d => c.ok (d.setStaging (some (if nbit (c.u8 0) 0 then ⟨d.curEd.rules, d.curEd.actions⟩ else ⟨[], []⟩))) [])))

/-- EDITION_WRITE (R345, R349), code 0x0502. -/
def execEditionWrite (m : Fin 64) (s : State) : Host.Outcome State Fault Refusal :=
  s.run (fun d => d.command m.val 0x0502 (fun c d =>
    let kind := c.u8 0
    let n := c.u8 1
    let first := leAt c.req 2 4
    let size := entrySize kind
    let es := (List.range n).map (fun i => (first + i, slice c.req (6 + size * i) size))
    let formed := decide (kind < 2) && decide (1 ≤ n) && decide (n ≤ if kind = 0 then 6 else 63) &&
      decide (6 + size * n ≤ c.req.length) && c.endsAt (6 + size * n)
    c.checks d [c.mustOwn]
      (fun d =>
        match d.col.staging with
        | none => if formed then c.fail d resNotReady else d.finish c.mbx resBadParam (leB 4 first)
        | some st =>
          if !formed then d.finish c.mbx resBadParam (leB 4 first) else
          match es.find? (fun e => entryReason kind e.1 e.2 != 0) with
          | some e => d.finish c.mbx resBadParam (leB 4 e.1)
          | none => c.ok (d.setStaging (some (es.foldl (fun st e => st.put kind e.1 e.2) st))) [])))

/-! Commits (R342, R343). -/

/-- What a commit asks. -/
structure CommitReq where
  defFlags : Bool
  rules : Nat
  actions : Nat
  miss : Nat
  number : Nat
  /-- expected DIGEST, 0 for no check -/
  digest : Nat
  deriving DecidableEq, Repr

/-- The bytes a DIGEST is taken over (R342). -/
def digestBytes (q : CommitReq) (s : Staging) : List Byte :=
  leB 1 (b2n q.defFlags) ++ leB 4 q.miss ++ (List.range q.rules).flatMap (ruleAt s.rules) ++ (List.range q.actions).flatMap (actionAt s.actions)

/-- DIGEST (R342), its 16 bytes as a little-endian number. -/
def editionDigest (q : CommitReq) (s : Staging) : Nat := leAt (sha384 (digestBytes q s)) 0 16

/-- An ACTION_INDEX that FORWARD uses, or MISS_ACTION, reaches ACTION_COUNT (R343). -/
def actionsReach (q : CommitReq) (s : Staging) : Bool :=
  decide (q.actions ≤ q.miss) ||
  s.rules.any (fun r => decide (r.1 < q.rules) && nbit (byteAt r.2 128) 7 && nbit (byteAt r.2 129) 1 && decide (q.actions ≤ leAt r.2 136 4))

/-- Commit the staging image (R343): the result and the slot that becomes PENDING. -/
def Dev.commitEdition (d : Dev) (q : CommitReq) : Nat × Nat × Dev :=
  match d.col.staging with
  | none => (resNotReady, 0, d)
  | some s =>
    if d.pendSlot.isSome then (resBusy, 0, d)
    else match (List.range 4).find? (fun i => (d.ed i).state == 0) with
      | none => (resEditionConflict, 0, d.mark rCOL_ERR fCOL_ERR_EDITION_CONFLICT)
      | some k =>
        let dig := editionDigest q s
        if 16384 < q.rules ∨ 65536 < q.actions ∨ q.number ≤ d.col.highest ∨ (q.digest ≠ 0 ∧ q.digest ≠ dig) ∨ actionsReach q s then
          (resBadParam, 0, d)
        else
          let e : Edition := { state := 1, number := q.number, digest := dig, defFlags := q.defFlags, miss := q.miss, ruleCount := q.rules,
                               actionCount := q.actions, rules := skeep (fun i => decide (i < q.rules)) s.rules,
                               actions := skeep (fun i => decide (i < q.actions)) s.actions }
          let d := d.setEd k e
          (resOk, k, { d with col := { d.col with highest := q.number } })

/-- EDITION_COMMIT (R343, R349), code 0x0503. -/
def execEditionCommit (m : Fin 64) (s : State) : Host.Outcome State Fault Refusal :=
  s.run (fun d => d.command m.val 0x0503 (fun c d =>
    let hold := nbit (c.u8 0) 1
    let q : CommitReq := ⟨nbit (c.u8 0) 0, c.u32 4, c.u32 8, c.u32 0x0C, c.u64 0x10, leAt c.req 0x18 16⟩
    c.checks d [c.mustOwn, inForm (c.only 0 0x83 && c.zero 1 3 && (if c.expert 0 then c.block 0x30 else c.endsAt 0x28))]
      (fun d =>
        match d.commitEdition q with
        | (res, k, d) =>
          if res ≠ resOk then c.fail d res
          else
            let r := if hold then (resOk, 0, d) else d.schedule 2 (if c.expert 0 then c.u64 0x28 else 0)
            r.2.2.finish c.mbx r.1 (leB 1 k ++ leB 3 0 ++ leB 16 (d.ed k).digest ++ leB 8 (if r.1 = resOk then r.2.1 else 0)))))

/-- EDITION_ABORT (R344, R349), code 0x0504. -/
def execEditionAbort (m : Fin 64) (s : State) : Host.Outcome State Fault Refusal :=
  s.run (fun d => d.command m.val 0x0504 (fun c d =>
    let stage := c.u8 0 == 0
    c.checks d [c.mustOwn, inForm (decide (c.u8 0 < 2) && c.endsAt 1), ((if stage then d.col.staging.isSome else d.pendSlot.isSome), resNotReady)]
      (fun d => c.ok (if stage then d.setStaging none else d.setEd (d.pendSlot.getD 0) {}) [])))

/-- EDITION_STATUS (R349), code 0x0505. -/
def execEditionStatus (m : Fin 64) (s : State) : Host.Outcome State Fault Refusal :=
  s.run (fun d => d.command m.val 0x0505 (fun c d =>
    c.checks d [c.mustOwn, inForm (c.endsAt 0)] (fun d =>
      c.ok d ((List.range 4).flatMap (fun i =>
        let e := d.ed i
        leB 1 e.state ++ leB 3 0 ++ leB 4 e.inflight ++ leB 8 e.number ++ leB 16 e.digest)))))

/-- EDITION_EXC (R349), code 0x0506. -/
def execEditionExc (m : Fin 64) (s : State) : Host.Outcome State Fault Refusal :=
  s.run (fun d => d.command m.val 0x0506 (fun c d =>
    let k := c.u8 0
    c.checks d [c.mustOwn, inForm (decide (k < 16) && decide (c.u8 1 < 2) && c.zero 2 2 && decide (c.u32 4 < 2 ^ 24) && c.endsAt 0x0A)]
      (fun d =>
        let d := (d.wrN (rCOL_EXC_RATE k) (c.u32 4)).wrN (rCOL_EXC_CTRL k) (c.u8 1 * 2 ^ 31 + c.u16 8)
        c.ok d (leB 4 (d.rdN (rCOL_EXC_RATE k)) ++ leB 4 (d.rdN (rCOL_EXC_CTRL k)) ++ leB 4 (d.rdN (rCOL_EXC_SENT k)) ++
          leB 4 (d.rdN (rCOL_EXC_DROPPED k))))))

/-- EDITION_MIRROR (R349), code 0x0507: EN and KIND stand in byte 1 as in bits 31:29 of the session's DEST. -/
def execEditionMirror (m : Fin 64) (s : State) : Host.Outcome State Fault Refusal :=
  s.run (fun d => d.command m.val 0x0507 (fun c d =>
    let k := c.u8 0
    c.checks d
      [c.mustOwn, inForm (decide (k < 16) && c.only 1 0xE0 && c.u8 1 / 32 % 4 != 3 && c.zero 2 2 && decide (c.u32 4 < 2 ^ 24) && c.endsAt 0x0C)]
      (fun d =>
        let d := (d.wrN (rCOL_MIR_DEST k) (c.u8 1 * 2 ^ 24 + c.u32 4)).wrN (rCOL_MIR_CTRL k) (c.u16 8 * 65536 + c.u16 0x0A)
        c.ok d (leB 4 (d.rdN (rCOL_MIR_DEST k)) ++ leB 4 (d.rdN (rCOL_MIR_CTRL k))))))

/-! What the registers of the block show (R347). -/

/-- COL_STATUS. -/
def Dev.colStatus (d : Dev) : Nat :=
  d.curSlot * 2 ^ 30 + (d.pendSlot.getD 0) * 2 ^ 28 + b2n d.pendSlot.isSome * 2 ^ 27 + b2n d.col.staging.isSome * 2 ^ 26

/-- A register of the block that shows state: COL_STATUS, and the slot that COL_ED_SEL names. -/
def Dev.colView (d : Dev) (a : Nat) : Option Nat :=
  let e := d.ed (d.rdN rCOL_ED_SEL % 4)
  if a = rCOL_STATUS then some d.colStatus
  else if a = rCOL_ED_INFO then some (e.state * 2 ^ 30 + b2n e.defFlags * 2 ^ 29 + e.inflight % 2 ^ 24)
  else if a = rCOL_ED_SIZE then some (e.actionCount * 2 ^ 15 + e.ruleCount)
  else if a = rCOL_ED_NUM_LO then some (e.number % 2 ^ 32)
  else if a = rCOL_ED_NUM_HI then some (e.number / 2 ^ 32)
  else ((List.range 4).find? (fun i => a == rCOL_ED_DIGEST i)).map (fun i => leAt (leB 16 e.digest).reverse (4 * i) 4)

end Sys2Proof.Machine
end

