-- ==== Sys2Proof/Machine/DramCmds.lean ====
section
/-! DEFINITION. The commands of 14_dram.md: accesses, refresh, strobes, scrub, start-up, the registers that refuse a write,
spills and fetches (R407-R437). -/

namespace Sys2Proof.Machine

/-- DRAM_ACCESS_DONE (R409-R420): at `ns` into the tick, after the requests `arrived`, a channel whose bank queues `ready`
the DRAM timing allows carries one out; `bad` bytes of its unit are erroneous. -/
def execDramAccessDone (c : Fin 16) (ns : Fin 125000) (arrived : List DramReq) (ready : BitVec 32) (bad : Fin 73) (s : State) :
    Host.Outcome State Fault Refusal :=
  s.run (fun d =>
    let now := instant d.tickNow ns.val
    let d := d.arrive now arrived
    if !(d.dramReady) || d.cipherOff || d.dramIsDown c.val then d else
    match d.dramPick c.val now ready with
    | some (b, r, passed) => ((d.dramServe c.val b r passed bad.val).arrive now []).showReqs
    | none => d)

/-- REFRESH (R416, R423): a bank is refreshed, and its open row closed. -/
def execRefresh (c : Fin 16) (b : Fin 32) (s : State) : Host.Outcome State Fault Refusal :=
  s.run (fun d => { d with dram := { d.dram with rows := d.dram.rows.filter (fun x => x.1 != 32 * c.val + b.val) } })

/-- REFRESH_RATE_READ (R423): the refresh-rate report of a channel, and whether it shows the DRAM too hot. -/
def execRefreshRateRead (c : Fin 16) (code : Fin 256) (hot : Bool) (s : State) : Host.Outcome State Fault Refusal :=
  s.run (fun d =>
    if !(d.dramOn c.val) then d else
    let was := nbit d.dram.hot c.val
    let d := d.put (rDRAM_CH_STATUS c.val) fDRAM_CH_STATUS_REFRESH_CODE code.val
    let d := { d with dram := { d.dram with hot := d.dram.hot - b2n was * 2 ^ c.val + b2n hot * 2 ^ c.val } }
    if hot && !was then (d.mark rDRAM_ERR fDRAM_ERR_HOT).alert 0x0D04 (p4 c.val ++ p4 code.val) else d)

/-- READ_STROBE_CHECK (R424): a drift past a quarter of a unit interval retrains the channel, one channel in a tick. -/
def execReadStrobeCheck (c : Fin 16) (drifted : Bool) (s : State) : Host.Outcome State Fault Refusal :=
  s.run (fun d =>
    if !drifted || !(d.dramOn c.val) || d.dram.retrainTick == some d.tickNow then d
    else { d with dram := { d.dram with retrainTick := some d.tickNow } }.bump (rDRAM_CH_CNT c.val 5))

/-- SCRUB_READ (R421): the patrol scrub reads the next unit; `raced` where a write to it has reached the controller since. -/
def execScrubRead (bad : Fin 73) (raced : Bool) (s : State) : Host.Outcome State Fault Refusal :=
  s.run (fun d =>
    if !(d.bit rDRAM_CTRL fDRAM_CTRL_SCRUB_EN) || !(d.dramReady) || d.cipherOff then d else
    let a := d.dram.scrubAt
    let c := d.dramChan a
    let d := { d with dram := { d.dram with scrubAt := (a + 64) % d.dramSize } }
    if d.dramIsDown c then d.bump (rDRAM_CH_CNT c 6) else
    let n := d.rdN (rDRAM_CH_CNT c 3)
    let x := d.dramRead 4 a bad.val
    let fixed := !x.1 && x.2.rdN (rDRAM_CH_CNT c 3) != n
    if fixed && !raced then (x.2.dramWrote 4 a).bump (rDRAM_CH_CNT c 7) else x.2)

/-- A failure of channels that DEGRADE_CH8 mends (20_clocks_boot.md R600): all of them lie in D8-D15, and CH8 is 0. -/
def Dev.dramDegrades (d : Dev) (fails : List (Fin 16 × Nat)) : Bool :=
  d.clk.degrade && !fails.isEmpty && d.dramN == 16 && fails.all (fun f => decide (8 ≤ f.1.val))

/-- DRAM_INIT_DONE (R422, R431; 20_clocks_boot.md R600): training and the fill end; the channels that failed, with the step.
Where DEGRADE_CH8 mends the failure, CH8 is set and D0-D7 are trained again. -/
def execDramInitDone (fails : List (Fin 16 × Nat)) (s : State) : Host.Outcome State Fault Refusal :=
  s.run (fun d =>
    if !(d.bit rDRAM_STATUS fDRAM_STATUS_INIT_BUSY) then d else
    let d := d.put rDRAM_STATUS fDRAM_STATUS_INIT_BUSY 0
    let failed := fun (c : Nat) => fails.any (fun f => f.1.val == c)
    if d.dramDegrades fails then
      let d := fails.foldl (fun d f => (d.mark rDRAM_ERR fDRAM_ERR_TRAIN_FAIL).alert 0x0D03 (p4 f.1.val ++ p4 f.2)) d
      (d.put rDRAM_CTRL fDRAM_CTRL_CH8 1).put rDRAM_STATUS fDRAM_STATUS_INIT_BUSY 1
    else
    let d := (List.range d.dramN).foldl (fun d c => if failed c then d else d.put (rDRAM_CH_STATUS c) fDRAM_CH_STATUS_TRAINED 1) d
    let d := fails.foldl (fun d f =>
      if d.dramOn f.1.val then
        (((d.mark rDRAM_ERR fDRAM_ERR_TRAIN_FAIL).alert 0x0D03 (p4 f.1.val ++ p4 f.2)).dramDown f.1.val 1)
      else d) d
    if (List.range d.dramN).any failed then d
    else ({ d with dram := { d.dram with scrubAt := 0 } }.mark rDRAM_STATUS fDRAM_STATUS_READY).arrive d.nowNs [])

/-- A value of DRAM_CTRL would change RATE, CAP or CH8 while READY is 1 (R408). -/
def Dev.dramCtrlBusy (d : Dev) (v : Nat) : Bool :=
  let ch8 := d.part != .c4 && fieldOf v fDRAM_CTRL_CH8 != d.get rDRAM_CTRL fDRAM_CTRL_CH8
  d.dramReady && (fieldOf v fDRAM_CTRL_RATE != d.get rDRAM_CTRL fDRAM_CTRL_RATE || fieldOf v fDRAM_CTRL_CAP != d.get rDRAM_CTRL fDRAM_CTRL_CAP || ch8)

/-- Write DRAM_CTRL (R408): a change refused leaves those fields and sets CFG_BUSY. -/
def Dev.writeDramCtrl (d : Dev) (v : Nat) : Dev :=
  let busy := d.dramCtrlBusy v
  let keep := fun (v : Nat) (f : Fld) => fieldPut v f (d.get rDRAM_CTRL f)
  let v := if busy then keep (keep (keep v fDRAM_CTRL_RATE) fDRAM_CTRL_CAP) fDRAM_CTRL_CH8 else v
  let v := if d.part = .c4 then fieldPut v fDRAM_CTRL_CH8 1 else v
  (d.access rDRAM_CTRL v).when busy (fun d => d.mark rDRAM_ERR fDRAM_ERR_CFG_BUSY)

/-- DRAM_CTRL_WRITE (R408). -/
def execDramCtrlWrite (val : Word) (s : State) : Host.Outcome State Fault Refusal := s.run (fun d => d.writeDramCtrl val.toNat)

/-- Write a word of the Stockpot's region (R410, R426): 0 SP_BASE_LO, 1 SP_BASE_HI, 2 SP_SIZE. -/
def Dev.writeSpRegion (d : Dev) (w v : Nat) : Dev :=
  if d.spHeld then d else
  let lo := if w = 0 then v / 2 ^ 20 % 2 ^ 12 * 2 ^ 20 else d.rdN rSP_BASE_LO
  let hi := if w = 1 then v % 16 else d.rdN rSP_BASE_HI
  let size := if w = 2 then v % 2 ^ 17 else d.rdN rSP_SIZE
  if d.spBad (lo + 2 ^ 32 * hi) size then d.mark rSP_ERR fSP_ERR_CFG_BAD
  else ((d.wrN rSP_BASE_LO lo).wrN rSP_BASE_HI hi).wrN rSP_SIZE size

/-- SP_REGION_WRITE (R410, R426). -/
def execSpRegionWrite (w : Fin 3) (val : Word) (s : State) : Host.Outcome State Fault Refusal :=
  s.run (fun d => d.writeSpRegion w.val val.toNat)

/-- The Stockpot key of a queue: an uplink queue by port and PRIO, or a channel. -/
def spKey (upl : Bool) (q : Nat) : Nat := if upl then spUplKey (q % 384) else q

/-- SPILL_WRITE_DONE (R427): the oldest spill of a queue still to be written has been written. -/
def execSpillWriteDone (upl : Bool) (q : Fin 262144) (s : State) : Host.Outcome State Fault Refusal :=
  s.run (fun d => if d.dramReady && !d.cipherOff then d.spillDone (spKey upl q.val) else d)

/-- STOCKPOT_FETCH (R429). -/
def execStockpotFetch (upl : Bool) (q : Fin 262144) (bad : Bool) (s : State) : Host.Outcome State Fault Refusal :=
  s.run (fun d => d.spFetch (spKey upl q.val) bad)

/-! Commands (R435, R436). -/

/-- The registers DIAG_DRAM's expert form names: DRAM_CTRL, the six CFG words, then the six LAT_TARGET words. -/
def diagDramRegs : List Nat := rDRAM_CTRL :: ((List.range 6).map rDRAM_PORT_CFG ++ (List.range 6).map rDRAM_PORT_LAT)

/-- DIAG_DRAM (R435), code 0x0C02. -/
def execDiagDram (m : Fin 64) (s : State) : Host.Outcome State Fault Refusal :=
  s.run (fun d => d.command m.val 0x0C02 (fun c d =>
    let ch := c.u8 0
    let x := c.expert 1
    let mask := c.u8 2
    let picked := fun (i : Nat) => x && nbit mask (if i = 0 then 0 else (i - 1) % 6 + 1)
    let words := diagDramRegs.zipIdx.filter (fun r => picked r.2)
    c.checks d
      [c.mustOwn, inForm (d.dramOk ch && c.only 1 0x80 && (if x then c.only 2 0x7F && c.zero 3 1 && c.block 0x38 else c.endsAt 2)),
       inForm (words.all (fun r => !(badValue r.1 (c.u32 (4 + 4 * r.2))))), (!(picked 0 && d.dramCtrlBusy (c.u32 4)), resBusy)]
      (fun d =>
        let b := leB 4 (d.rdN rDRAM_STATUS) ++ leB 4 (d.rdN (rDRAM_CH_STATUS ch)) ++ leB 4 (d.rdN (rDRAM_CH_UE_LO ch)) ++
          leB 4 (d.rdN (rDRAM_CH_UE_HI ch)) ++ (List.range 8).flatMap (fun i => leB 4 (d.rdN (rDRAM_CH_CNT ch i)))
        let b := if x then b ++ diagDramRegs.flatMap (fun a => leB 4 (d.rdN a)) else b
        let d := words.foldl (fun d r =>
          if r.1 = rDRAM_CTRL then d.writeDramCtrl (c.u32 4) else d.access r.1 (c.u32 (4 + 4 * r.2))) d
        c.ok d b)))

/-- STACKS_SPILL (R436), code 0x0D04. -/
def execStacksSpill (m : Fin 64) (s : State) : Host.Outcome State Fault Refusal :=
  s.run (fun d => d.command m.val 0x0D04 (fun c d =>
    let query := nbit (c.u8 0) 1
    let base := c.u64 4
    let size := c.u32 0x0C
    let same := base == d.spBase && size == d.rdN rSP_SIZE
    c.checks d
      [c.mustOwn, inForm (c.only 0 0x83 && c.zero 1 3 && c.endsAt 0x1C),
       inForm (query || (base % 2 ^ 20 == 0 && decide (base < 2 ^ 36) && decide (size < 2 ^ 17) &&
         (List.range 3).all (fun i => decide (c.u32 (0x10 + 4 * i) < 2 ^ 28)))),
       (query || same || !(d.spHeld), resBusy)]
      (fun d =>
        let answer := fun (d : Dev) => c.ok d (leB 4 (d.rdN rSP_STATUS) ++ leB 4 (d.rdN rSP_PAGES_FREE) ++
          (List.range 8).flatMap (fun i => leB 4 (d.rdN (rSP_CNT i))))
        if query then answer d
        else if !same && d.spBad base size then c.fail (d.mark rSP_ERR fSP_ERR_CFG_BAD) resBadParam
        else
          let d := (d.wr64 rSP_BASE_LO rSP_BASE_HI base).wrN rSP_SIZE size
          let d := ((d.wrN rSP_QMAX (c.u32 0x10)).wrN rSP_PREFETCH (c.u32 0x14)).wrN rSP_BACKLOG (c.u32 0x18)
          answer (d.writeSpCtrl (nbit (c.u8 0) 0)))))

end Sys2Proof.Machine
end

