-- ==== Sys2Proof/Machine/FwdCmds.lean ====
section
/-! DEFINITION. The commands of 12_forwarding.md: the learn engine, the sweep, and the table commands, which run alike
from a mailbox and through FWD_CMD (R351-R379). -/

namespace Sys2Proof.Machine

/-- LEARN_REQUEST (R364): the engine takes the oldest learn request. -/
def execLearnRequest (s : State) : Host.Outcome State Fault Refusal :=
  s.run (fun d =>
    match d.fwd.learnQ with
    | [] => d
    | r :: rs => ({ d with fwd := { d.fwd with learnQ := rs } }).learnTake r)

/-- SWEEP_VISIT (R367): the sweep visits its next bucket; the errors its reads find are handled first (R374). -/
def execSweepVisit (corr : Nat) (errs : List MemErr) (s : State) : Host.Outcome State Fault Refusal :=
  s.run (fun d => if d.fwdReady then (d.memErrs corr errs).sweepVisit else d)

/-! Table commands (R378, R379). A result is its code, its response and the state after. -/

/-- What a table command answers. -/
structure FwdRes where
  code : Nat
  resp : List Byte
  dev : Dev

/-- Answer a result other than OK. -/
def fwdFail (d : Dev) (code : Nat) : FwdRes := ⟨code, [], d⟩

/-- Checks in order. -/
def fwdChecks (d : Dev) (cs : List (Bool × Nat)) (run : FwdRes) : FwdRes :=
  match ((d.fwdReady, resNotReady) :: cs).find? (fun x => !x.1) with
  | some x => fwdFail d x.2
  | none => run

/-- The table's key of a request: as wide as its kind, with zeros beyond. -/
def Cmd.fwdKey (c : Cmd) (d : Dev) (n : Nat) : List Byte := slice c.req 0x0C (keyWidth (d.tblKind n))

/-- The key and the prefix length keep the rules of R378. -/
def Cmd.fwdKeyOk (c : Cmd) (d : Dev) (n : Nat) : Bool :=
  let w := keyWidth (d.tblKind n)
  let len := c.u8 8
  let bits := 8 * (w - 1)
  c.zero (0x0C + w) (20 - w) &&
  (if d.tblExact n then len == 0 else decide (len ≤ bits) && beAt c.req 0x0D (w - 1) % 2 ^ (bits - len) == 0)

/-- A table that a command may name. -/
def Dev.tblNamed (d : Dev) (n : Nat) : Bool := decide (n < 16) && d.tblEn n

/-- A PORT's reserved bits are 0 (R357). -/
def portOk (p : Nat) : Bool := nbits p 29 20 == 0

/-- The request head's form: reserved bytes by command. -/
def Cmd.fwdHead (c : Cmd) (flags : Nat) (act port len : Bool) : Bool :=
  c.only 1 (flags + 0x80) && (act || c.zero 2 2) && (port || c.zero 4 4) && (len || c.zero 8 1) && c.zero 0x0B 1 &&
  c.endsAt 0x28

/-- The images of an entry's two slots (R357). -/
def FwdEnt.image (e : FwdEnt) : List Byte :=
  padTo 8 e.key ++ leB 2 e.action ++
  leB 1 (0x80 + b2n e.hit * 0x40 + b2n e.static * 0x20 + b2n e.learned * 0x10 + b2n e.wide * 8) ++ leB 1 e.tbl ++ leB 4 e.port ++
  (if e.wide then slice e.key 8 12 ++ leB 4 0 else leB 16 0)

/-- The bucket and slot of a place, as a response carries them; a place outside the buckets has no bucket, and its slot
byte is free (R378). -/
def Dev.placeBytes (d : Dev) (k : Option Nat) : List Byte × Dev :=
  match k with
  | some k => if k < ovfBase then (leB 4 (k / 4) ++ leB 1 (k % 4), d) else (leB 4 0xFFFFFFFF ++ leB 1 d.draw.1, d.draw.2)
  | none => (leB 4 0xFFFFFFFF ++ leB 1 d.draw.1, d.draw.2)

/-- An entry a caller may see (R379). -/
def Cmd.seesEnt (c : Cmd) (d : Dev) (e : FwdEnt) : Bool :=
  match c.caller with
  | none => true
  | some n => nbits e.port 31 30 == 0 && (d.chan e.port).valid && (d.chan e.port).tenant == n

/-- The rights of a search or a walk (R379). -/
def Cmd.fwdView (c : Cmd) (d : Dev) (n : Nat) : Bool × Nat :=
  (c.isOwner || (!(c.expert 1) && decide (n < 16) && d.bit (rFWD_TBL_CFG n) fFWD_TBL_CFG_TENANT_VIEW), resNotPermitted)

/-- FWD_INSERT. -/
def fwdInsert (c : Cmd) (d : Dev) : FwdRes :=
  let n := c.u8 0
  let replace := nbit (c.u8 1) 0
  let static := nbit (c.u8 1) 1
  let learned := nbit (c.u8 1) 2
  let x := c.expert 1
  let key := c.fwdKey d n
  fwdChecks d
    [c.mustOwn, inForm (d.tblNamed n && c.fwdHead 7 true true true && c.zero 0x0A 1 && c.zero 0x20 8),
     inForm (c.fwdKeyOk d n && (if x then c.only 9 1 else c.zero 9 1) && portOk (c.u32 4) && (!learned || d.tblKind n == 2))]
    (if d.tblExact n then
      match d.fwdFind n key with
      | some k =>
        if !replace then fwdFail d resBadParam
        else
          let d := (d.clearEnt k).placeEnt k ⟨n, key, c.u16 2, true, static, learned, d.tblKind n == 1, c.u32 4⟩
          let p := d.placeBytes (some k)
          ⟨resOk, leB 1 (if ovfBase ≤ k then 2 else if k / 4 = (d.buckets n key).1 then 0 else 1) ++ leB 1 0 ++ leB 1 1 ++ leB 1 0 ++ p.1, p.2⟩
      | none =>
        match d.fwdPlace ⟨n, key, c.u16 2, true, static, learned, d.tblKind n == 1, c.u32 4⟩ (nbit (c.u8 9) 0) with
        | (none, d) => fwdFail d resNoResource
        | (some (place, moves, k), d) =>
          let p := d.placeBytes (some k)
          ⟨resOk, leB 1 place ++ leB 1 moves ++ leB 2 0 ++ p.1, p.2⟩
    else
      let vrf := byteAt key 0
      let addr := key.drop 1
      let old := d.pfxFind n vrf addr (c.u8 8)
      if old.isSome && !replace then fwdFail d resBadParam
      else if old.isNone && !(d.pfxRoom n) then
        fwdFail ((d.mark rFWD_ERR fFWD_ERR_PFX_FULL).alertOnce 0x0B01 n (p4 n)) resNoResource
      else
        let d := (d.pfxDel n vrf addr (c.u8 8)).pfxAdd ⟨n, vrf, addr, c.u8 8, c.u16 2, match old with | some o => o.lost | none => false⟩
        let p := d.placeBytes none
        ⟨resOk, leB 1 3 ++ leB 1 0 ++ leB 1 (b2n old.isSome) ++ leB 1 0 ++ p.1, p.2⟩)

/-- FWD_DELETE. -/
def fwdDelete (c : Cmd) (d : Dev) : FwdRes :=
  let n := c.u8 0
  let key := c.fwdKey d n
  fwdChecks d
    [c.mustOwn, inForm (d.tblNamed n && c.fwdHead 0 false false true && c.zero 9 2 && c.zero 0x20 8), inForm (c.fwdKeyOk d n)]
    (if d.tblExact n then
      match d.fwdFind n key with
      | some k => ⟨resOk, leB 1 1, (d.clearEnt k).fwdShow⟩
      | none => ⟨resOk, leB 1 0, d⟩
    else
      let vrf := byteAt key 0
      ⟨resOk, leB 1 (b2n (d.pfxFind n vrf (key.drop 1) (c.u8 8)).isSome), d.pfxDel n vrf (key.drop 1) (c.u8 8)⟩)

/-- FWD_SEARCH: no HIT is set. -/
def fwdSearch (c : Cmd) (d : Dev) : FwdRes :=
  let n := c.u8 0
  let key := c.fwdKey d n
  let x := c.expert 1
  let more := fun (r : List Byte) (k : Option Nat) => if x then let p := d.placeBytes k; (⟨resOk, padTo 0x24 r ++ p.1, p.2⟩ : FwdRes) else ⟨resOk, r, d⟩
  fwdChecks d
    [c.fwdView d n, inForm (d.tblNamed n && c.fwdHead 1 false false true && c.zero 9 2 && c.zero 0x20 8), inForm (c.fwdKeyOk d n)]
    (if d.tblExact n then
      let hit := (d.fwdFind n key).bind (fun k => (d.slotF k).bind (fun e => if c.seesEnt d e then some (k, e) else none))
      match hit with
      | some (k, e) => more (leB 4 1 ++ e.image) (some k)
      | none => more (leB 36 0) none
    else
      let vrf := byteAt key 0
      let hit := if nbit (c.u8 1) 0 then d.pfxLongest n vrf (key.drop 1)
        else (d.pfxFind n vrf (key.drop 1) (c.u8 8)).filter (fun p => !p.lost)
      match hit.filter (fun _ => c.isOwner) with
      | some p => more (leB 4 1 ++ leB 2 p.len ++ leB 2 p.action) none
      | none => more (leB 8 0) none)

/-- FWD_NEXT: a walk of a table from a cursor. An exact table's cursor holds the next slot, one more, and the epoch at the
walk's start; a prefix table's names the last prefix returned. -/
def fwdNext (c : Cmd) (d : Dev) : FwdRes :=
  let n := c.u8 0
  let cnt := c.u8 0x0A
  let cur := c.u64 0x20
  fwdChecks d
    [c.fwdView d n, inForm (d.tblNamed n && c.fwdHead 0 false false false && c.zero 9 1 && decide (1 ≤ cnt) && decide (cnt ≤ 60)),
     inForm (cur == 0 || d.tblExact n || d.fwd.curs.any (fun e => e.1 == cur))]
    (if d.tblExact n then
      let from_ := cur % 2 ^ 32 - 1
      let epoch := if cur = 0 then d.epochOf n % 2 ^ 32 else cur / 2 ^ 32
      let es := d.fwd.slots.filterMap (fun e => match e.2 with
        | some x => if x.tbl == n && decide (from_ ≤ e.1) && c.seesEnt d x then some (e.1, x) else none
        | none => none)
      let got := es.take cnt
      let next := (match got.getLast? with | some g => g.1 + 1 | none => from_) + 1 + epoch * 2 ^ 32
      let fl := b2n (decide (es.length ≤ cnt)) + 2 * b2n (epoch != d.epochOf n % 2 ^ 32)
      ⟨resOk, leB 1 got.length ++ leB 1 fl ++ leB 2 0 ++ leB 8 next ++ got.flatMap (fun g => g.2.image), d⟩
    else
      let last := if cur = 0 then none else (d.fwd.curs.find? (fun e => e.1 == cur)).map Prod.snd
      let ps := sortBy (fun a b => decide (a.order ≤ b.order)) (d.fwd.pfx.filter (fun p => p.tbl == n && c.isOwner &&
        (match last with | some o => decide (o < p.order) | none => true)))
      let got := ps.take cnt
      let id := d.fwd.nextCur
      let d := { d with fwd := { d.fwd with
        nextCur := id + 1
        curs := (id, (got.getLast?.map PfxEnt.order).getD (last.getD 0)) :: d.fwd.curs.filter (fun e => e.1 != cur) } }
      ⟨resOk, leB 1 got.length ++ leB 1 (b2n (decide (ps.length ≤ cnt))) ++ leB 2 0 ++ leB 8 id ++
        got.flatMap (fun p => padTo 20 (leB 1 p.vrf ++ p.addr) ++ leB 1 p.len ++ leB 1 0 ++ leB 2 p.action ++ leB 8 0), d⟩)

/-- The tables a flush names. -/
def Dev.flushNamed (d : Dev) (n : Nat) : Bool := n == 0xFF || (d.tblNamed n && d.tblExact n)

/-- FWD_FLUSH_PORT. -/
def fwdFlushPort (c : Cmd) (d : Dev) : FwdRes :=
  let n := c.u8 0
  let port := c.u32 4
  let own := match c.caller with
    | none => true
    | some t => !(c.expert 1) && nbits port 31 30 == 0 && (d.chan port).valid && (d.chan port).tenant == t
  fwdChecks d
    [(own, resNotPermitted), inForm (d.flushNamed n && c.fwdHead 1 false true false && c.zero 9 2 && c.zero 0x20 8 && portOk port)]
    (let r := d.fwdFlush (fun e => (n == 0xFF || e.tbl == n) && e.port == port && (nbit (c.u8 1) 0 || !e.static))
     ⟨resOk, leB 4 r.1, r.2⟩)

/-- FWD_FLUSH_DOMAIN. -/
def fwdFlushDomain (c : Cmd) (d : Dev) : FwdRes :=
  let n := c.u8 0
  fwdChecks d
    [c.mustOwn, inForm (d.flushNamed n && c.fwdHead 1 true false false && c.zero 9 2 && c.zero 0x20 8 && decide (c.u16 2 < 4096))]
    (let r := d.fwdFlush (fun e => (n == 0xFF || e.tbl == n) && keyDomain e.key == c.u16 2 && (nbit (c.u8 1) 0 || !e.static))
     ⟨resOk, leB 4 r.1, r.2⟩)

/-- FWD_TABLE. -/
def fwdTable (c : Cmd) (d : Dev) : FwdRes :=
  let n := c.u8 0
  let query := nbit (c.u8 1) 0
  let shown := fun (d : Dev) => leB 4 (d.rdN (rFWD_TBL_CFG n)) ++ leB 4 (d.rdN (rFWD_TBL_USED n))
  fwdChecks d
    [c.mustOwn, inForm (decide (n < 16) && c.only 1 0x81 && c.zero 2 2 && c.endsAt 0x10),
     inForm (query || (!(badValue (rFWD_TBL_CFG n) (c.u32 4)) && decide (fieldOf (c.u32 4) fFWD_TBL_CFG_KIND ≤ 4))),
     (query || !(d.tblRefused n (c.u32 4) (c.u32 8) (c.u32 0xC)), resBusy)]
    (let d := if query then d else d.tblSet n (c.u32 4) (c.u32 8) (c.u32 0xC)
     ⟨resOk, shown d, d⟩)

/-- Run a table command from a mailbox. -/
def Dev.fwdCommand (d : Dev) (m code : Nat) (f : Cmd → Dev → FwdRes) : Dev :=
  d.command m code (fun c d => let r := f c d; r.dev.finish c.mbx r.code r.resp)

/-- FWD_INSERT (R358, R378), code 0x0601. -/
def execFwdInsert (m : Fin 64) (s : State) : Host.Outcome State Fault Refusal := s.run (fun d => d.fwdCommand m.val 0x0601 fwdInsert)
/-- FWD_DELETE (R378), code 0x0602. -/
def execFwdDelete (m : Fin 64) (s : State) : Host.Outcome State Fault Refusal := s.run (fun d => d.fwdCommand m.val 0x0602 fwdDelete)
/-- FWD_SEARCH (R378), code 0x0603; the errors its reads find are handled first (R374). -/
def execFwdSearch (m : Fin 64) (corr : Nat) (errs : List MemErr) (s : State) : Host.Outcome State Fault Refusal :=
  s.run (fun d => (d.memErrs corr errs).fwdCommand m.val 0x0603 fwdSearch)
/-- FWD_NEXT (R378), code 0x0604. -/
def execFwdNext (m : Fin 64) (s : State) : Host.Outcome State Fault Refusal := s.run (fun d => d.fwdCommand m.val 0x0604 fwdNext)
/-- FWD_FLUSH_PORT (R378), code 0x0605. -/
def execFwdFlushPort (m : Fin 64) (s : State) : Host.Outcome State Fault Refusal := s.run (fun d => d.fwdCommand m.val 0x0605 fwdFlushPort)
/-- FWD_FLUSH_DOMAIN (R378), code 0x0606. -/
def execFwdFlushDomain (m : Fin 64) (s : State) : Host.Outcome State Fault Refusal := s.run (fun d => d.fwdCommand m.val 0x0606 fwdFlushDomain)
/-- FWD_TABLE (R378), code 0x0607. -/
def execFwdTable (m : Fin 64) (s : State) : Host.Outcome State Fault Refusal := s.run (fun d => d.fwdCommand m.val 0x0607 fwdTable)

/-- FWD_CMD.GO (R376): the command of CODE runs on FWD_CMD_DATA with the owner's rights, and its response stands there
afterwards. -/
def Dev.writeFwdCmd (d : Dev) (v : Nat) : Dev :=
  let d := d.put rFWD_CMD fFWD_CMD_CODE (v % 256)
  if !(nbit v 30) then d else
  let req := (List.range (if v % 256 = 7 then 4 else 10)).flatMap (fun i => leB 4 (d.rdN (rFWD_CMD_DATA i)))
  let c : Cmd := ⟨64, 0x0600 + v % 256, req, none, false, []⟩
  let f := fun (k : Nat) => if k = 1 then fwdInsert c d else if k = 2 then fwdDelete c d else if k = 3 then fwdSearch c d
    else if k = 4 then fwdNext c d else if k = 5 then fwdFlushPort c d else if k = 6 then fwdFlushDomain c d
    else if k = 7 then fwdTable c d else fwdFail d resBadParam
  let r := f (v % 256)
  let d := r.dev.put rFWD_CMD fFWD_CMD_RESULT r.code
  (List.range ((r.resp.length + 3) / 4)).foldl (fun d i => d.wrN (rFWD_CMD_DATA i) (leAt r.resp (4 * i) 4)) d

/-- FWD_TBL_WRITE (R354): register 0 CFG, 1 SELECT_LO, 2 SELECT_HI of a table. -/
def execFwdTblWrite (n : Fin 16) (w : Fin 3) (val : Word) (s : State) : Host.Outcome State Fault Refusal :=
  s.run (fun d => d.writeTbl n.val w.val val.toNat)

/-- FWD_HASH_SEED_WRITE (R356). -/
def execFwdHashSeedWrite (val : Word) (s : State) : Host.Outcome State Fault Refusal := s.run (fun d => d.writeSeed val.toNat)

/-- FWD_READY (R375): the memories are zeroed. -/
def execFwdReady (s : State) : Host.Outcome State Fault Refusal :=
  s.run (fun d => if d.fwdReady then d else
    ({ d with fwd := {} }.fwdRecount.fwdShow).mark rFWD_STATUS fFWD_STATUS_READY)

end Sys2Proof.Machine
end

