-- ==== Sys2Proof/Machine/MbxOps.lean ====
section
/-! DEFINITION. Mailboxes: the doorbell, the least length of each command's request, and assignment to tenants
(19_gellen.md R564-R569). -/

namespace Sys2Proof.Machine

/-! The commands (R567, R569). -/

/-- The command's list of requests: for a CODE that names a command, the bytes that the form asked for takes up; none for
a CODE that names no command. A byte that only another form uses is not counted. -/
def basicLen (code : Nat) (q : List Byte) : Option Nat :=
  let bit := fun (i b : Nat) => nbit (byteAt q i) b
  let act := fun (i : Nat) => byteAt q i
  match code with
  | 0x0101 => some 4
  | 0x0102 => some 1
  | 0x0103 => some 7
  | 0x0104 => some 1
  | 0x0105 => some 5
  | 0x0106 => some 1
  | 0x0107 => some (if bit 1 0 then 4 else 0x24)
  | 0x0108 => some 8
  | 0x0109 => some 2
  | 0x010A => some 8
  | 0x010B => some (if bit 2 0 then 4 else 14)
  | 0x010C => some (if bit 1 0 || bit 1 1 then 4 else 0x18 + 4 * leAt q 2 2)
  | 0x010D => some (if act 1 = 1 then 10 else 4)
  | 0x0201 => some 0x34
  | 0x0202 => some 0x38
  | 0x0203 => some 4
  | 0x0204 => some 4
  | 0x0280 => some 4
  | 0x0281 => some 4
  | 0x02C0 => some 5
  | 0x02C1 => some 11
  | 0x0301 => some 0x1C
  | 0x0302 => some 0x20
  | 0x0303 => some 4
  | 0x0304 => some 4
  | 0x0305 => some 4
  | 0x0306 => some 28
  | 0x0307 => some 16
  | 0x0401 => some 0x1C
  | 0x0402 => some 0x20
  | 0x0403 => some 4
  | 0x0404 => some 4
  | 0x0405 => some 4
  | 0x0501 => some 1
  | 0x0502 => some 6
  | 0x0503 => some 0x28
  | 0x0504 => some 1
  | 0x0505 => some 0
  | 0x0506 => some 10
  | 0x0507 => some 12
  | 0x0601 => some 0x20
  | 0x0602 => some 0x20
  | 0x0603 => some 0x20
  | 0x0604 => some 0x28
  | 0x0605 => some 0x20
  | 0x0606 => some 0x20
  | 0x0607 => some (if bit 1 0 then 4 else 16)
  | 0x0701 => some 0
  | 0x0702 => some 0
  | 0x0703 => some 4
  | 0x0704 => some 12
  | 0x0705 => some 32
  | 0x0706 => some 9
  | 0x0707 => some (if bit 0 0 then 4 else 10)
  | 0x0801 => some (if bit 0 0 then 4 else 117)
  | 0x0802 => some 0
  | 0x0803 => some 0x50
  | 0x0804 => some 4
  | 0x0805 => some (if bit 5 1 then 0x70 else 0x40)
  | 0x0806 => some 1
  | 0x0807 => some 1
  | 0x0901 => some (if bit 1 0 then 4 else 12)
  | 0x0902 => some 1
  | 0x0903 => some 4
  | 0x0904 => some 1
  | 0x0A01 => some (if act 1 = 1 then 8 else 4)
  | 0x0A02 => some (if bit 1 0 then 20 else 4)
  | 0x0A03 => some (8 + 4 * act 3)
  | 0x0A04 => some 0
  | 0x0A05 => some 16
  | 0x0B01 => some (if bit 2 0 then 28 else 8)
  | 0x0B02 => some 4
  | 0x0B03 => some 1
  | 0x0B04 => some (if act 1 = 1 then 12 else 4)
  | 0x0C01 => some (if act 2 = 2 then 8 else 4)
  | 0x0C02 => some 2
  | 0x0C03 => some (if act 1 = 1 then 8 else 4)
  | 0x0C04 => some (if act 0 = 1 then 20 else if act 0 = 2 then 12 else 4)
  | 0x0C05 => some 4
  | 0x0C06 => some 1
  | 0x0C07 => some 4
  | 0x0C08 => some (if act 0 = 0 ∨ act 0 = 4 then 4 else if act 0 = 2 then 0x10 + leAt q 8 2 else 0x10)
  | 0x0C09 => some 4
  | 0x0C0A => some 3
  | 0x0D01 => some 8
  | 0x0D02 => some (if bit 2 0 then 4 else 12)
  | 0x0D03 => some 0
  | 0x0D04 => some (if bit 0 1 then 4 else 28)
  | _ => none

/-! Assignment (R564, R568). -/

/-- The tenant a mailbox is assigned to; none for the owner. -/
def Dev.mbxTenant (d : Dev) (m : Nat) : Option Nat :=
  let b := d.rdN (rGLK_MBX_OWNER (m / 4)) / 2 ^ (8 * (m % 4)) % 256
  if 8 ≤ m ∧ nbit b 7 then some (b % 16) else none

/-- A mailbox runs no command, so that its assignment may change. -/
def Dev.mbxFree (d : Dev) (m : Nat) : Bool := d.get (rMBX_STATUS m) fMBX_STATUS_STATE != 1

/-- Change the assignment byte of a mailbox (R568, R577): refused while a command runs; on a change its areas are zeroed and
it is IDLE again. -/
def Dev.assignMbx (d : Dev) (m byte : Nat) : Dev :=
  let f : Fld := ⟨8 * (m % 4) + 7, 8 * (m % 4)⟩
  let byte := byte / 128 * 128 + byte % 16
  if m < 8 ∨ !(d.mbxFree m) ∨ d.get (rGLK_MBX_OWNER (m / 4)) f = byte then d
  else
    let old := d.mbxTenant m
    let d := d.put (rGLK_MBX_OWNER (m / 4)) f byte
    if d.mbxTenant m = old then d
    else
      let d := (d.put (rMBX_STATUS m) fMBX_STATUS_STATE 0).put (rMBX_STATUS m) fMBX_STATUS_LOST 0
      let d := d.put (rMBX_CTRL m) fMBX_CTRL_DONE_MSG 0
      let d := d.put (rMBX_INFO m) fMBX_INFO_ASSIGNED (b2n (d.mbxTenant m).isSome)
      let d := d.put (rMBX_INFO m) fMBX_INFO_CALLER ((d.mbxTenant m).getD 0x1F)
      { d with wipes := d.wipes ++ [m] }

/-- Write GLK_MBX_OWNER[i]: each byte for its own mailbox. -/
def Dev.writeOwner (d : Dev) (i v : Nat) : Dev :=
  (List.range 4).foldl (fun d j => d.assignMbx (4 * i + j) (v / 2 ^ (8 * j) % 256)) d

/-- The 64 assignment bytes. -/
def Dev.ownerBytes (d : Dev) : List Byte := (List.range 16).flatMap (fun i => leB 4 (d.rdN (rGLK_MBX_OWNER i)))

/-! The doorbell (R565-R567). -/

/-- Commands run: boot has completed, and the management processor is not restarting (20_clocks_boot.md R592, R598). -/
def Dev.mbxReady (d : Dev) : Bool :=
  (d.get rBOOT_STATUS fBOOT_STATUS_STATE == 5 || d.get rBOOT_STATUS fBOOT_STATUS_STATE == 6) && !d.clk.mpDown

/-- Write MBX_DOORBELL, with the request area as it stands. With GO, a doorbell while BUSY is ignored and sets LOST; any
other starts the command, which completes at once where nothing can run, or where it is out of form. -/
def Dev.doorbell (d : Dev) (m v : Nat) (area : List Byte) : Dev :=
  let st := rMBX_STATUS m
  if !(nbit v 31) then d.access (rMBX_DOORBELL m) v
  else if d.get st fMBX_STATUS_STATE = 1 then d.put st fMBX_STATUS_LOST 1
  else
    let d := (d.access (rMBX_DOORBELL m) v).put (rMBX_DOORBELL m) fMBX_DOORBELL_GO 0
    let len := fieldOf v fMBX_DOORBELL_REQ_LEN
    let code := fieldOf v fMBX_DOORBELL_CODE
    let req := area.take len
    let d := ((d.put st fMBX_STATUS_STATE 1).put st fMBX_STATUS_RESP_LEN 0).put st fMBX_STATUS_RESULT 0
    let d := { d with glk := { d.glk with cmds := d.glk.cmds ++ [⟨m, code, req, d.mbxTenant m, false, []⟩] } }
    if !d.mbxReady then d.finish m resNotReady []
    else match basicLen code req with
      | none => d.finish m resBadParam []
      | some n => if len < n ∨ 1024 < len then d.finish m resBadParam [] else d

/-- Every command taken completes with NOT_READY (20_clocks_boot.md R592). -/
def Dev.abandonCmds (d : Dev) : Dev := d.glk.cmds.foldl (fun d c => d.finish c.mbx resNotReady []) d

end Sys2Proof.Machine
end

