-- ==== Sys2Proof/Machine/LinkOps.lean ====
section
/-! DEFINITION. The Gellen link's lane marks, acknowledgements and credit, the control of the DMA rings, and the alert and
violation registers (19_gellen.md R548-R577). -/

namespace Sys2Proof.Machine

/-! Lanes and marks (R548-R552). -/

/-- The port of a Gellen lane, and the lane within it. -/
def glkPortOf (l : Nat) : Nat := l / 4
def glkLaneOf (l : Nat) : Nat := l % 4

/-- Leave LOCK for ALIGN where every lane is locked (R552). -/
def Dev.tryAlign (d : Dev) (p : Nat) : Dev :=
  if d.portState p = 1 ∧ (d.port p).locked = 15 then
    (d.setPort p { (d.port p) with marks := [0, 0, 0, 0], bad := [0, 0, 0, 0], ready := [0, 0, 0, 0] }).setPortState p 2
  else d

/-- A mark as it arrives in mark position: its sync header (1 for 01, 2 for 10), its eight bytes, and the BIP-8 the receiver
computed over the frame before it (R550). -/
structure MarkIn where
  hdr : Nat
  bytes : List Byte
  bip : Nat

/-- A control block with the bytes of a mark: its type, its version and its CRC-8 are right (R549, R550). -/
def markValid (bs : List Byte) : Bool :=
  byteAt bs 0 == 0xA5 && byteAt bs 1 % 16 == 1 && crc8 (bs.take 7) == bs.getD 7 0#8

/-- The mark with every bit inverted. -/
def invBytes (bs : List Byte) : List Byte := bs.map (fun b => ~~~b)

/-- Count a mark, good or failed, for its lane. -/
def Dev.markRun (d : Dev) (p i : Nat) (good swapped rxReady : Bool) : Dev :=
  let x := d.port p
  let up := fun (c : Bool) (l : List Nat) => l.set i (if c then min 4 (l.getD i 0 + 1) else 0)
  d.setPort p { x with marks := up (good && !swapped) x.marks, bad := up (!good) x.bad, ready := up (good && rxReady) x.ready }

/-- The port moves on after a mark (R552): ALIGN with two valid marks a lane and little skew, WAIT_FAR with RX_READY twice
on every lane, and back to LOCK after four failed marks of a lane. -/
def Dev.markMove (d : Dev) (p skew : Nat) : Dev :=
  let x := d.port p
  if x.bad.any (fun n => decide (4 ≤ n)) then d.portFall p 1
  else if d.portState p = 2 ∧ x.marks.all (fun n => decide (2 ≤ n)) ∧ skew ≤ 16 then
    ((d.setPort p { x with rxReady := true, ready := [0, 0, 0, 0] }).setPortState p 3).emit .glkMark p [1]
  else if d.portState p = 3 ∧ x.ready.all (fun n => decide (2 ≤ n)) then d.portUp p
  else d

/-- A block arrives in the mark position of a locked lane (R548-R552). -/
def Dev.markArrives (d : Dev) (l : Nat) (k : MarkIn) (skew : Nat) : Dev :=
  let p := glkPortOf l
  let i := glkLaneOf l
  if !(nbit (d.port p).locked i) then d else
  let good := k.hdr == 2 && markValid k.bytes
  let inverted := k.hdr == 1 && byteAt k.bytes 0 == 0x5A && markValid (invBytes k.bytes)
  let swapped := good && byteAt k.bytes 1 / 64 != p
  let d := d.when inverted (fun d => d.put rGLK_STATUS ⟨16 + l, 16 + l⟩ 1)
  let d := d.when (k.hdr == 2 && !good) (fun d => (d.bump (rGLK_CNT 2)).mark rGLK_ERR fGLK_ERR_CRC)
  let d := d.when (good && byteAt k.bytes 6 != k.bip) (fun d => d.bump (rGLK_CNT 4))
  let d := d.when swapped (fun d => d.mark rGLK_ERR fGLK_ERR_PORT_SWAP)
  if d.portState p < 2 then d else (d.markRun p i good swapped (nbit (byteAt k.bytes 4) 0)).markMove p skew

/-- Write GLK_CTRL (R552): EN of a port takes it from OFF to LOCK, and from any state to OFF. -/
def Dev.writeGlkCtrl (d : Dev) (v : Nat) : Dev :=
  let d := d.access rGLK_CTRL v
  [0, 1].foldl (fun d p =>
    let en := nbit v p
    if en && d.portState p == 0 then (d.setPortState p 1).tryAlign p
    else if !en && d.portState p != 0 then d.portFall p 0 else d) d

/-! Acknowledgement and credit (R555, R556). -/

/-- An ACK frees what it acknowledges; a NAK has the rest sent again. -/
def Dev.ackIn (d : Dev) (p seq : Nat) (nak : Bool) : Dev :=
  if d.portState p ≠ 4 then d else
  let x := d.port p
  let n := match x.store with
    | [] => 0
    | t :: _ => let k := (seq + 65536 - t.seq) % 65536; if k < x.store.length then k + 1 else 0
  let d := if n = 0 then d else d.setPort p { x with store := x.store.drop n, noProgress := 0 }
  let d := if nak && !((d.port p).store.isEmpty) then d.replay p else d
  d.pump p

/-- A CREDIT block raises a class's LIMIT. -/
def Dev.creditIn (d : Dev) (p cls lim : Nat) : Dev :=
  if d.portState p ≠ 4 ∨ 3 ≤ cls then d else
  let x := d.port p
  let old := x.limit.getD cls 0
  if (lim + 2 ^ 32 - old) % 2 ^ 32 < 2 ^ 31 then (d.setPort p { x with limit := x.limit.set cls lim }).pump p else d

/-! The rings (R570-R573). -/

/-- A write of a ring's CTRL changes PORT or SIZE_LOG2 while EN is 1. -/
def Dev.ringBusy (d : Dev) (r v : Nat) : Bool :=
  let a := rGLK_RING_CTRL r
  d.bit a fGLK_RING_CTRL_EN &&
  (fieldOf v fGLK_RING_CTRL_PORT != d.get a fGLK_RING_CTRL_PORT || fieldOf v fGLK_RING_CTRL_SIZE_LOG2 != d.get a fGLK_RING_CTRL_SIZE_LOG2)

/-- Write a ring's CTRL (R570, R573): while EN is 1, PORT and SIZE_LOG2 keep their values; EN going 1 sets HEAD and TAIL to
0 and ends a stop; EN going 0 lets go of what the ring held. -/
def Dev.writeRingCtrl (d : Dev) (r v : Nat) : Dev :=
  let a := rGLK_RING_CTRL r
  let was := d.bit a fGLK_RING_CTRL_EN
  let port := d.get a fGLK_RING_CTRL_PORT
  let size := d.get a fGLK_RING_CTRL_SIZE_LOG2
  let d := d.access a v
  let d := if was then (d.put a fGLK_RING_CTRL_PORT port).put a fGLK_RING_CTRL_SIZE_LOG2 size else d
  let now := nbit v 31
  if now && !was then
    let d := (d.wrN (rGLK_RING_HEAD r) 0).wrN (rGLK_RING_TAIL r) 0
    let d := d.put a fGLK_RING_CTRL_STOPPED 0
    (d.setRing r { port := d.get a fGLK_RING_CTRL_PORT }).ringStep r
  else if was && !now then (d.updRing r (fun x => { waits := x.waits, port := x.port })).ringStep r
  else d

/-- Write a word of a ring: 1 BASE_LO, 2 BASE_HI, 4 TAIL, 5 COAL, 6 DROP. -/
def Dev.writeRing (d : Dev) (r w v : Nat) : Dev :=
  let a := rGLK_RING_CTRL r + 4 * w
  if w = 0 then d.writeRingCtrl r v
  else if w = 1 ∨ w = 2 then (if d.bit (rGLK_RING_CTRL r) fGLK_RING_CTRL_EN then d else d.access a v)
  else if w = 4 then (d.access a v).ringStep r
  else d.access a v

/-- A DMA_COMPLETION answers the read of the ring that holds its TAG (R573). -/
def Dev.dmaDone (d : Dev) (tag : Nat) (err : Bool) (bs : List Byte) : Dev :=
  match (List.range 24).find? (fun r => (d.ring r).tag == some tag) with
  | none => d
  | some r => if err then d.ringFault r else d.ringData r bs

/-! Alerts and violations (R563, R575, R577). -/

/-- Write GLK_ALERT_ACK. -/
def Dev.writeAlertAck (d : Dev) (v : Nat) : Dev := (d.access rGLK_ALERT_ACK v).alertPin

/-- Write GLK_ALERT_SEL: GO copies the body of the logged alert whose sequence ends in ENTRY. -/
def Dev.writeAlertSel (d : Dev) (v : Nat) : Dev :=
  let d := d.access rGLK_ALERT_SEL (v % 2 ^ 31)
  if !(nbit v 31) then d else
  let body := match d.glk.log.find? (fun a => a.seq % 256 == fieldOf v fGLK_ALERT_SEL_ENTRY) with
    | some a => a.body
    | none => List.replicate 40 0#8
  (List.range 10).foldl (fun d i => d.wrN (rGLK_ALERT_DATA i) (leAt body (4 * i) 4)) d

/-- The four words of a violation entry (R577). -/
def Viol.words (x : Viol) : List Nat := [2 ^ 31 + x.tenant, x.addr, x.tick % 2 ^ 32, x.tick / 2 ^ 32]

/-- GLK_VIOL_DATA shows the oldest violation. -/
def Dev.showViol (d : Dev) : Dev :=
  let w := match d.glk.viols with | x :: _ => x.words | [] => [0, 0, 0, 0]
  (List.range 4).foldl (fun d i => d.wrN (rGLK_VIOL_DATA i) (w.getD i 0)) d

/-- Take the oldest violations away. -/
def Dev.violDrop (d : Dev) (n : Nat) : Dev := ({ d with glk := { d.glk with viols := d.glk.viols.drop n } }).showViol

/-- A violation (R563): counted, logged while there is room, and alerted once per tick per tenant. -/
def Dev.violation (d : Dev) (ten addr : Nat) : Dev :=
  let d := (d.bump (rGLK_VIOL_CNT ten)).mark rGLK_ERR fGLK_ERR_VIOLATION
  let x : Viol := ⟨ten, addr, d.tickNow⟩
  let d := if 64 ≤ d.glk.viols.length then d
    else ({ d with glk := { d.glk with viols := d.glk.viols ++ [x] } }).showViol
  d.alertOnce 0x1203 ten (p4 ten ++ p4 addr)

end Sys2Proof.Machine
end

