-- ==== Sys2Proof/Machine/GlkCmds.lean ====
section
/-! DEFINITION. The commands of 19_gellen.md but register access: lanes and marks, acknowledgement, credit, rings, alerts,
assignment, and the two diagnostic commands (R546-R580). -/

namespace Sys2Proof.Machine

/-- GELLEN_LANE_LOCK (R551, R552). -/
def execGellenLaneLock (l : Fin 8) (s : State) : Host.Outcome State Fault Refusal :=
  s.run (fun d =>
    let p := glkPortOf l.val
    let x := d.port p
    (d.setPort p { x with locked := Nat.lor x.locked (2 ^ glkLaneOf l.val) }).tryAlign p)

/-- GELLEN_LANE_LOCK_LOST (R551, R552, R555). -/
def execGellenLaneLockLost (l : Fin 8) (s : State) : Host.Outcome State Fault Refusal :=
  s.run (fun d =>
    let p := glkPortOf l.val
    let i := glkLaneOf l.val
    let x := d.port p
    if !(nbit x.locked i) then d
    else
      let d := d.setPort p { x with locked := x.locked - 2 ^ i }
      if 2 ≤ d.portState p then d.portFall p 1 else d)

/-- GELLEN_MARK (R548-R552): a block in mark position on lane `l`: its sync header, its bytes, the BIP-8 the receiver
computed, and the skew of the port's lanes in blocks. -/
def execGellenMark (l : Fin 8) (hdr : Fin 4) (bytes : List Byte) (bip : Byte) (skew : Fin 4096) (s : State) :
    Host.Outcome State Fault Refusal :=
  s.run (fun d => d.markArrives l.val ⟨hdr.val, bytes, bip.toNat⟩ skew.val)

/-- GLK_CTRL_WRITE (R552, R577). -/
def execGlkCtrlWrite (val : Word) (s : State) : Host.Outcome State Fault Refusal := s.run (fun d => d.writeGlkCtrl val.toNat)

/-- DMA_COMPLETION (R554, R573): the transaction arrives on port `p`. -/
def execDmaCompletion (p : Fin 2) (seq : Fin 65536) (tag : Fin 65536) (err : Bool) (data : List Byte) (s : State) :
    Host.Outcome State Fault Refusal :=
  s.run (fun d =>
    let r := d.receive p.val seq.val 1 (3 + (data.length + 7) / 8) true
    if r.1 then r.2.dmaDone tag.val err data else r.2)

/-- A control block whose CRC fails is ignored and counted (R549). -/
def Dev.badBlock (d : Dev) : Dev := (d.bump (rGLK_CNT 2)).mark rGLK_ERR fGLK_ERR_CRC

/-- ACK (R549, R555). -/
def execAck (p : Fin 2) (seq : Fin 65536) (nak : Bool) (sound : Bool) (s : State) : Host.Outcome State Fault Refusal :=
  s.run (fun d => if sound then d.ackIn p.val seq.val nak else d.badBlock)

/-- CREDIT (R549, R556). -/
def execCredit (p : Fin 2) (cls : Fin 256) (limit : Word) (sound : Bool) (s : State) : Host.Outcome State Fault Refusal :=
  s.run (fun d => if sound then d.creditIn p.val cls.val limit.toNat else d.badBlock)

/-- REPLAY_TIMEOUT (R552, R555). -/
def execReplayTimeout (p : Fin 2) (s : State) : Host.Outcome State Fault Refusal :=
  s.run (fun d => if d.portState p.val = 4 ∧ !((d.port p.val).store.isEmpty) then d.replay p.val else d)

/-- TRANSACTION_DISCARDED (R553-R555): a TYPE that is none of R554's, or a bad CRC or LEN. -/
def execTransactionDiscarded (p : Fin 2) (seq : Fin 65536) (typ : Fin 256) (words : Fin 65536) (sound : Bool) (s : State) :
    Host.Outcome State Fault Refusal :=
  s.run (fun d =>
    let r := d.receive p.val seq.val (transClass typ.val) (1 + words.val) sound
    if r.1 then r.2.badReq else r.2)

/-- MBX_DOORBELL (R565, R566). -/
def execMbxDoorbell (m : Fin 64) (val : Word) (s : State) : Host.Outcome State Fault Refusal :=
  s.run (fun d => d.doorbell m.val val.toNat (loadBytes zeroByte s.mem (mbxBase m.val + 0x400) 0x400))

/-- GLK_MBX_OWNER_WRITE (R568, R577). -/
def execGlkMbxOwnerWrite (i : Fin 16) (val : Word) (s : State) : Host.Outcome State Fault Refusal :=
  s.run (fun d => d.writeOwner i.val val.toNat)

/-- RING_CTRL_WRITE (R570). -/
def execRingCtrlWrite (r : Fin 24) (val : Word) (s : State) : Host.Outcome State Fault Refusal :=
  s.run (fun d => d.writeRing r.val 0 val.toNat)

/-- RING_TAIL_WRITE (R571, R573). -/
def execRingTailWrite (r : Fin 24) (val : Word) (s : State) : Host.Outcome State Fault Refusal :=
  s.run (fun d => d.writeRing r.val 4 val.toNat)

/-- RING_EVENT (R572): TIME has passed since the first completion not yet reported. -/
def execRingEvent (r : Fin 24) (s : State) : Host.Outcome State Fault Refusal := s.run (fun d => d.ringEvent r.val)

/-- RING_FAULT (R573): a DMA_READ of the ring is not completed within 100 us. -/
def execRingFault (r : Fin 24) (s : State) : Host.Outcome State Fault Refusal :=
  s.run (fun d => if (d.ring r.val).tag.isSome then d.ringFault r.val else d)

/-- GLK_ALERT_ACK (R575). -/
def execGlkAlertAck (val : Word) (s : State) : Host.Outcome State Fault Refusal := s.run (fun d => d.writeAlertAck val.toNat)

/-- GLK_ALERT_SEL (R577). -/
def execGlkAlertSel (val : Word) (s : State) : Host.Outcome State Fault Refusal := s.run (fun d => d.writeAlertSel val.toNat)

/-- Write GLK_VIOL_POP. -/
def Dev.violPop (d : Dev) (v : Nat) : Dev := if nbit v 0 then d.violDrop 1 else d

/-- GLK_VIOL_POP (R577). -/
def execGlkViolPop (val : Word) (s : State) : Host.Outcome State Fault Refusal := s.run (fun d => d.violPop val.toNat)

/-- DIAG_LINK (R579), code 0x0C04. -/
def execDiagLink (m : Fin 64) (s : State) : Host.Outcome State Fault Refusal :=
  s.run (fun d => d.command m.val 0x0C04 (fun c d =>
    let act := c.u8 0
    let r := c.u8 1
    let a := rGLK_RING_CTRL r
    let base := c.u32 8 + 2 ^ 32 * c.u32 12
    let used := if act = 1 then 20 else if act = 2 then 12 else 4
    let form := decide (act < 3) && (if act = 1 then decide (r < 24) else r == 0) && c.only 2 0x80 && c.zero 3 1 && c.endsAt used
    let wide := (act == 1 && badValue a (c.u32 4)) || (act == 2 && decide (65536 ≤ c.u32 8))
    let held := act == 1 && d.bit a fGLK_RING_CTRL_EN && (d.ringBusy r (c.u32 4) || base != d.rd64 (rGLK_RING_BASE_LO r) (rGLK_RING_BASE_HI r))
    c.checks d [c.mustOwn, inForm form, inForm (!wide), (!held, resBusy)] (fun d =>
      let d := if act = 1 then
          (((d.writeRing r 1 (c.u32 8)).writeRing r 2 (c.u32 12)).writeRing r 5 (c.u32 16)).writeRing r 0 (c.u32 4)
        else if act = 2 then (d.wrN rGLK_ALERT_MASK (c.u32 4)).writeAlertAck (c.u32 8)
        else d
      let ring := if act = 1 then leB 4 (d.rdN a) ++ leB 4 (d.rdN (rGLK_RING_HEAD r)) ++ leB 4 (d.rdN (rGLK_RING_TAIL r)) ++ leB 4 (d.rdN (rGLK_RING_DROP r))
        else []
      c.ok d (leB 4 (d.rdN rGLK_STATUS) ++ leB 4 (d.rdN rGLK_ERR) ++ (List.range 10).flatMap (fun i => leB 4 (d.rdN (rGLK_CNT i))) ++ ring))))

/-- DIAG_MAILBOX (R580), code 0x0C05. -/
def execDiagMailbox (m : Fin 64) (s : State) : Host.Outcome State Fault Refusal :=
  s.run (fun d => d.command m.val 0x0C05 (fun c d =>
    let act := c.u8 0
    let b := c.u8 1
    let t := c.u8 2
    let form := decide (act < 3) && c.only 3 0x80 && c.endsAt 4 &&
      (if act = 1 then decide (8 ≤ b) && decide (b < 64) && (decide (t < 16) || t == 0xFF)
       else if act = 2 then b == 0 && decide (1 ≤ t) && decide (t < 64) else b == 0 && t == 0)
    c.checks d [c.mustOwn, inForm form, (act != 1 || d.mbxFree b, resBusy)] (fun d =>
      if act = 2 then
        let l := d.glk.viols.take t
        c.ok (d.violDrop t) (leB 1 l.length ++ leB 3 0 ++ l.flatMap (fun x => x.words.flatMap (leB 4)))
      else
        let d := if act = 1 then d.assignMbx b (if t = 0xFF then 0 else 128 + t) else d
        c.ok d d.ownerBytes)))

end Sys2Proof.Machine
end

