-- ==== Sys2Proof/Machine/UplTx.lean ====
section
/-! DEFINITION. Frames leaving an uplink port: MACsec, PTP stamps and R-TAGs (15_uplinks.md R443-R450). -/

namespace Sys2Proof.Machine

/-! PTP messages (R447-R449). -/

/-- Where the PTP message of a frame begins: after EtherType 0x88F7, or in UDP to port 319; and where its UDP header is. -/
def ptpAt (f : List Byte) : Option (Nat × Option Nat) :=
  let i := etherAt f
  let e := beAt f i 2
  let o := i + 2
  let udp := fun (u : Nat) => if beAt f (u + 2) 2 = 319 then some (u + 8, some u) else none
  if e = 0x88F7 then some (o, none)
  else if e = 0x0800 ∧ byteAt f (o + 9) = 17 then udp (o + 4 * (byteAt f o % 16))
  else if e = 0x86DD ∧ byteAt f (o + 6) = 17 then udp (o + 40)
  else none

/-- The event message of a frame: Sync, Delay_Req, Pdelay_Req or Pdelay_Resp, with its place. -/
def ptpEvent (f : List Byte) : Option (Nat × Option Nat) :=
  match ptpAt f with
  | some (o, u) => if byteAt f o % 16 < 4 ∧ o < f.length then some (o, u) else none
  | none => none

/-- A UDP checksum after one 16-bit word has changed (RFC 1624). -/
def fixCheck (ck old new : Nat) : Nat :=
  let s := (0xFFFF - ck) + (0xFFFF - old) + new
  let s := s % 65536 + s / 65536
  0xFFFF - (s % 65536 + s / 65536)

/-- Add to the correctionField of a message, and mend the UDP checksum where one is present. -/
def addCorrection (f : List Byte) (o : Nat) (udp : Option Nat) (x : Nat) : List Byte :=
  let old := beAt f (o + 8) 8
  let new := (old + x) % 2 ^ 64
  let g := patch f (o + 8) (beB 8 new)
  match udp with
  | none => g
  | some u =>
    let ck := beAt f (u + 6) 2
    if ck = 0 then g
    else
      let ck := [0, 1, 2, 3].foldl (fun c k => fixCheck c (old / 65536 ^ k % 65536) (new / 65536 ^ k % 65536)) ck
      patch g (u + 6) (beB 2 (if ck = 0 then 0xFFFF else ck))

/-- A transmit stamp enters the port's FIFO of 64 (R449). -/
def Dev.pushTs (d : Dev) (u : Nat) (e : TsEnt) : Dev :=
  let q := d.tsQ u
  if q.length < 64 then (d.setTsQ u (q ++ [e])).put (rUPL_PORT_STATUS u) fUPL_PORT_STATUS_TS_DEPTH (q.length + 1)
  else (d.bump (rUPL_CNT u 6)).mark (rUPL_ERR u) fUPL_ERR_TS_OVF

/-- A stamp: Almanac time in ns, moved by a board delay. -/
def boardTime (t : Nat) (delay : Int) : Nat := ((t : Int) + delay).toNat

/-- PTP handling of a frame without its FCS that leaves at `t` ns and `frac` (R447, R449): the frame as it leaves, and the device.
`toPins` is the time from the egress stamp point to the pins, in 2^-16 ns. -/
def Dev.ptpSend (d : Dev) (u : Nat) (f : List Byte) (prot : Bool) (t frac toPins : Nat) : List Byte × Dev :=
  let c := d.rdN (rUPL_PORT_CTRL u)
  match (if fieldOf c fUPL_PORT_CTRL_PTP_EN = 1 then ptpEvent f else none) with
  | none => (f, d)
  | some (o, udp) =>
    if fieldOf c fUPL_PORT_CTRL_PTP_1STEP = 1 ∧ !prot ∧ byteAt f o % 16 = 0 then (addCorrection f o udp toPins, d)
    else
      let t := boardTime t (sval 16 (d.rdN (rUPL_PTP_ASYM u)))
      (f, d.pushTs u ⟨byteAt f o % 16, beAt f (o + 30) 2, t / 1000000000, t % 1000000000, frac⟩)

/-- Send a frame without its FCS on a port (R445): protected where asked, and discarded where MACsec does not let it go. `q` is
the queue, 8 for a frame the device makes itself. -/
def Dev.uplOut (d : Dev) (u q : Nat) (f : List Byte) (prot : Bool) : Bool × Dev :=
  if prot then
    match d.macsecTx 0 (u / 8) with
    | (none, d) => (false, d)
    | (some s, d) => (true, d.emit .uplink u [q, 1] (withFcs (s.seal (d.bit (rUPL_PORT_CTRL u) fUPL_PORT_CTRL_TX_SCI) f)))
  else (true, d.emit .uplink u [q, 0] (withFcs f))

/-- Send the response to a notice on the port it came from (07_ladle_demand.md R217). -/
def Dev.noticeReply (d : Dev) (u : Nat) (f : List Byte) : Dev :=
  (d.uplOut u 8 f (d.bit (rUPL_PORT_CTRL u) fUPL_PORT_CTRL_MACSEC_EN)).2

/-- The queue that sends next: the highest PRIO whose head stands in a buffer and whose gate fits (R443, R444). -/
def Dev.uplNext (d : Dev) (u at_ : Nat) : Option (Nat × Held) :=
  (List.range 8).reverse.findSome? (fun p =>
    match d.upQ (uplKey u p) with
    | h :: _ => if h.buf.isSome && d.gateFits (uplOwner u) p at_ (at_ + d.uplSpan u h) then some (p, h) else none
    | [] => none)

/-- The port can send a frame that begins at its pins `ns` into the tick (R443-R450). -/
def Dev.uplTx (d : Dev) (u ns frac toPins ecc : Nat) : Dev :=
  if 48 ≤ u || !(d.linkUp u) || d.zeroised then d
  else
    let d := d.uplClearAll u
    let at_ := instant d.tickNow ns
    match d.uplNext u at_ with
    | none => d
    | some (p, h) =>
      let f := d.uplFrame u h
      let prot := d.uplProtects u h
      let d := ((d.updUpQ (uplKey u p) (fun q => q.drop 1)).dropHeld (spUplKey (uplKey u p)) h).bufRead ecc
      if ecc = 2 then d
      else
        match d.ptpSend u (f.take (f.length - 4)) prot at_ frac toPins with
        | (f, d) =>
          match d.uplOut u p f prot with
          | (false, d) => d
          | (true, d) => (d.bump (rUPL_CNT u 1)).evc 0x0601 1 { req := some h.ten, tc := some p }

end Sys2Proof.Machine
end

