-- ==== Sys2Proof/Machine/LadCmds.lean ====
section
/-! DEFINITION. The commands of 07_ladle_demand.md and 08_ladle_maps.md: reports, schedule notices, admission, notice
sources, the map's checks and the in-flight table (R195-R255). -/

namespace Sys2Proof.Machine

/-- STATUS_REPORT (R202, R203): a report of the entry that asked for it; one that fails its check is ignored. It waits for
the next boundary. -/
def execStatusReport (t : Fin 48) (e : Fin 4096) (good : Bool) (bytes : Nat) (s : State) : Host.Outcome State Fault Refusal :=
  s.run (fun d =>
    let x := d.iftE (t.val * iftPerTree + e.val)
    if !x.used || !x.report then d
    else if !good then (d.bump (rLADLE_CNT 17)).mark rLADLE_ERR fLADLE_ERR_REPORT_BAD
    else (d.bump (rLADLE_CNT 16)).updLadA x.alloc (fun l => { l with repNext := some (bytes, d.tickNow, x.tick) }))

/-- SCHEDULE_NOTICE (R209-R217): a frame, without its FCS, whose last byte arrives `ns` into the tick at an uplink lane, or
at a fabric lane. A response leaves on the lane. -/
def execScheduleNotice (fabric : Bool) (lane : Fin 48) (ns : Fin 125000) (frame : List Byte) (s : State) : Host.Outcome State Fault Refusal :=
  s.run (fun d =>
    match d.noticeFrame frame (b2n fabric) lane.val (instant d.tickNow ns.val) with
    | some (some r, d) =>
      if fabric then d.emit .fabPacket lane.val [2] (withFcs r) else d.noticeReply lane.val r
    | some (none, d) => d
    | none => d)

/-! Admission (R201, R223). -/

/-- Write LADLE_ADMIT.LIMIT: a limit below USED is ignored. -/
def Dev.writeLadAdmit (d : Dev) (t v : Nat) : Dev :=
  let lim := fieldOf v fLADLE_ADMIT_LIMIT
  if d.ladResolve t lim < d.ladUsed t none then d.mark rLADLE_ERR fLADLE_ERR_ADMIT_REFUSED
  else d.put (rLADLE_ADMIT t) fLADLE_ADMIT_LIMIT lim

/-- LADLE_ADMIT_WRITE (R201). -/
def execLadleAdmitWrite (t : Fin 48) (val : Word) (s : State) : Host.Outcome State Fault Refusal :=
  s.run (fun d => if d.treeOk t.val then d.writeLadAdmit t.val val.toNat else d)

/-- TREE_ADMIT (R223), code 0x0108. -/
def execTreeAdmit (m : Fin 64) (s : State) : Host.Outcome State Fault Refusal :=
  s.run (fun d => d.command m.val 0x0108 (fun c d =>
    let t := c.u8 0
    let lim := c.u32 4
    let keep := lim == 0xFFFFFFFF
    c.checks d
      [c.mustOwn, inForm (d.treeOk t && c.zero 1 3 && c.endsAt 8),
       inForm (keep || (decide (lim ≤ topRate (d.mode t)) && decide (d.ladUsed t none ≤ d.ladResolve t lim)))]
      (fun d =>
        let d := if keep then d else d.put (rLADLE_ADMIT t) fLADLE_ADMIT_LIMIT lim
        c.ok d (leB 4 (d.ladLimit t) ++ leB 4 (d.ladUsed t none)))))

/-! Demand (R224). -/

/-- Where an allocation's demand comes from: 0 probing, 1 reports, 2 idle monitoring, 3 notices, 4 fixed. -/
def Dev.demandSource (d : Dev) (h : Nat) : Nat :=
  let a := d.alloc h
  let x := d.ladA h
  if a.cls = clsFixed then 4 else if a.cls = clsCoop then 3
  else if d.repFresh x then 1 else if x.heard && !x.lastLost && x.used != 0 then 2 else 0

/-- ALLOC_DEMAND (R224), code 0x0305. R196 gives a fixed allocation no demand, so its D is 0; D of a
cooperative one is the bytes its pending notices ask. -/
def execAllocDemand (m : Fin 64) (s : State) : Host.Outcome State Fault Refusal :=
  s.run (fun d => d.command m.val 0x0305 (fun c d =>
    match d.findAlloc (c.u8 0) (c.u16 2) with
    | none => c.checks d [(d.catReady, resNotReady), c.mayExpert 1, inForm false] (fun d => d)
    | some h =>
      let a := d.alloc h
      c.checks d
        [(d.catReady, resNotReady), (match c.caller with | none => true | some n => a.tenant == n && !(c.expert 1), resNotPermitted),
         inForm (c.only 1 0x80 && c.endsAt 4)]
        (fun d =>
          let x := d.ladA h
          let mine := d.notices.filter (fun n => n.alloc == h)
          let dm := if a.cls = clsFixed then 0 else if a.cls = clsCoop then (mine.map Notice.bytes).sum else d.demand h
          let age := match x.repTick with | some r => d.tickNow - r | none => 0xFFFFFFFF
          let b := leB 1 a.cls ++ leB 1 (d.demandSource h) ++ leB 2 mine.length ++ leB 4 dm ++ leB 4 x.repBytes ++ leB 4 age
          c.ok d (if c.expert 1 then
            b ++ leB 8 x.s ++ leB 8 x.f ++ leB 8 (d.ladT a.tree).v ++ leB 4 x.cc ++ leB 4 x.pc ++ leB 4 x.tc ++ leB 4 x.tp else b))))

/-! Notices from a mailbox, and their sources (R221, R225, R226). -/

/-- ALLOC_NOTICE (R225), code 0x0306. -/
def execAllocNotice (m : Fin 64) (s : State) : Host.Outcome State Fault Refusal :=
  s.run (fun d => d.command m.val 0x0306 (fun c d =>
    let e : NoticeEntry := ⟨c.u8 4, c.u16 6, c.u32 8, leAt c.req 0x0C 6, c.u32 0x12, c.u32 0x16⟩
    c.checks d [c.mayExpert 0, inForm (c.only 0 0x82 && c.zero 1 3 && c.zero 5 1 && c.zero 0x1A 2 && c.endsAt 0x1C)] (fun d =>
      let r := d.noticeTake c.tenant (nbit (c.u8 0) 1) d.nowNs e
      c.ok r.2 (leB 1 r.1))))

/-- Write word `w` of a notice source (R221): setting VALID clears SEEN; LAST_SEQ is read only. -/
def Dev.writeNsrc (d : Dev) (j w v : Nat) : Dev :=
  let a := rLADLE_NSRC_MAC_LO j + 4 * w
  let d := d.access a v
  if w = 2 ∧ nbit v 31 then d.put (rLADLE_NSRC_W8 j) fLADLE_NSRC_W8_SEEN 0 else d

/-- LADLE_NSRC_WRITE (R221). -/
def execLadleNsrcWrite (j : Fin 256) (w : Fin 3) (val : Word) (s : State) : Host.Outcome State Fault Refusal :=
  s.run (fun d => d.writeNsrc j.val w.val val.toNat)

/-- ALLOC_NOTICE_SRC (R226), code 0x0307. -/
def execAllocNoticeSrc (m : Fin 64) (s : State) : Host.Outcome State Fault Refusal :=
  s.run (fun d => d.command m.val 0x0307 (fun c d =>
    let j := c.u16 0
    let a := rLADLE_NSRC_MAC_LO j
    c.checks d
      [c.mustOwn, inForm (decide (j < 256) && c.zero 2 2 && c.endsAt 16),
       inForm (!(badValue (a + 4) (c.u32 8)) && !(badValue (a + 8) (c.u32 12)))]
      (fun d =>
        let d := ((d.writeNsrc j 0 (c.u32 4)).writeNsrc j 1 (c.u32 8)).writeNsrc j 2 (c.u32 12)
        c.ok d ((List.range 4).flatMap (fun k => leB 4 (d.rdN (a + 4 * k)))))))

/-! The map and the in-flight table (R244, R249, R252, R254). -/

/-- MAP_HELD (R244): the build ends `ns` into the tick and the checks are made, the last of them on what was read of the
working state. -/
def execMapHeld (t : Fin 48) (ns : Fin 125000) (workBad : Bool) (s : State) : Host.Outcome State Fault Refusal :=
  s.run (fun d =>
    match (d.ladT t.val).building with
    | none => d
    | some m =>
      if m.held.isSome then d else
      let code := d.mapCheck t.val m workBad
      let d := d.updLadT t.val (fun l => { l with building := some { m with held := some ns.val, check := code } })
      let d := d.put (rLADLE_MAP_STAT8 t.val) fLADLE_MAP_STAT8_DONE_NS ns.val
      if code = 0 then d
      else (d.put (rLADLE_MAP_STAT0 t.val) fLADLE_MAP_STAT0_CHECK code).mark rLADLE_MAP_ERR fLADLE_MAP_ERR_CHECK_FAIL)

/-- The instant E of an in-flight entry (04_burst_rx.md R103, 05_activation.md R132). -/
def Dev.iftEnd (d : Dev) (t : Nat) (x : Ift) : Nat := instant (x.tick + d.teqdTicks t) (btToNs (d.mode t) x.hi)

/-- INFLIGHT_STALE (R249): an entry is still open at E + STALE. -/
def execInflightStale (t : Fin 48) (e : Fin 4096) (s : State) : Host.Outcome State Fault Refusal :=
  s.run (fun d =>
    let x := d.iftE (t.val * iftPerTree + e.val)
    let stale := max 2 (d.get rLADLE_MAP_CTRL fLADLE_MAP_CTRL_STALE)
    if !x.used || x.state != 0 || decide (instant (d.tickNow + 1) 0 ≤ d.iftEnd t.val x + 1000 * stale) then d
    else
      let d := ((d.closeIft t.val e.val 2).purgeDescs t.val).bump (rLADLE_CNT 31)
      (d.mark rLADLE_MAP_ERR fLADLE_MAP_ERR_INFLIGHT_STALE).alertOnce 0x0706 t.val (p4 t.val))

/-- An in-flight entry's four words (R252). -/
def Ift.words (x : Ift) : List Nat :=
  [b2n x.used * 2 ^ 31 + b2n x.repeat_ * 2 ^ 30 + b2n (x.kind == .probe) * 2 ^ 29 + b2n x.actLane * 2 ^ 28 + x.profile % 4 * 2 ^ 26 +
     x.slot % 4 * 2 ^ 24 + x.state % 4 * 2 ^ 22 + x.alloc % 2 ^ 16,
   x.tick % 4096 * 2 ^ 20 + x.start % 2 ^ 20, x.section_ % 2 ^ 20, x.term % 2 ^ 14]

/-- A write of LADLE_IFT_SEL (R251): GO copies an entry to LADLE_IFT_DATA. -/
def Dev.writeIftSel (d : Dev) (v : Nat) : Dev :=
  let d := d.access rLADLE_IFT_SEL (v % 2 ^ 31)
  if !(nbit v 31) then d else
  let t := fieldOf v fLADLE_IFT_SEL_TREE
  let x := if d.treeOk t then d.iftE (t * iftPerTree + fieldOf v fLADLE_IFT_SEL_ENTRY) else {}
  x.words.zipIdx.foldl (fun d w => d.wrN (rLADLE_IFT_DATA w.2) w.1) d

/-- LADLE_IFT_COPY (R252): a write of LADLE_IFT_SEL. -/
def execLadleIftCopy (val : Word) (s : State) : Host.Outcome State Fault Refusal := s.run (fun d => d.writeIftSel val.toNat)

/-- TREE_MAP_STATUS (R254), code 0x0109. -/
def execTreeMapStatus (m : Fin 64) (s : State) : Host.Outcome State Fault Refusal :=
  s.run (fun d => d.command m.val 0x0109 (fun c d =>
    let t := c.u8 0
    let x := c.expert 1
    let first := c.u16 2
    let n := c.u8 4
    c.checks d
      [c.treeRights d t, c.mayExpert 1, inForm (d.treeOk t && c.only 1 0x80 && (if x then c.block 5 else c.endsAt 2)),
       inForm (!x || (decide (1 ≤ n) && decide (n ≤ 120) && decide (first + n ≤ 4096)))]
      (fun d =>
        let b := leB 2 (d.get (rLADLE_MAP_STAT0 t) fLADLE_MAP_STAT0_GRANTS) ++ leB 1 (d.get (rLADLE_MAP_STAT0 t) fLADLE_MAP_STAT0_CHECK) ++ leB 1 0 ++
          leB 4 (d.get (rLADLE_MAP_STAT4 t) fLADLE_MAP_STAT4_USED) ++ leB 4 (d.get (rLADLE_MAP_STAT8 t) fLADLE_MAP_STAT8_DONE_NS) ++
          leB 4 (d.get (rLADLE_MAP_STATC t) fLADLE_MAP_STATC_INFLIGHT) ++ leB 8 (d.ladT t).lastMap ++ leB 4 (d.rdN (rTICK_OVR t)) ++ leB 4 0
        c.ok d (if x then b ++ ((List.range n).flatMap (fun i => (d.iftE (t * iftPerTree + first + i)).words)).flatMap (leB 4) else b))))

end Sys2Proof.Machine
end

