-- ==== Sys2Proof/Machine/LaneCmds.lean ====
section
/-! DEFINITION. What the lane registers' writes do, and the commands of 02_lanes.md: link training, the receiver's
events, eye scan, pattern checker, slip, and DIAG_LANE (R34-R54). -/

namespace Sys2Proof.Machine

/-! Writes of the lane registers. -/

/-- Write LANE_CTRL (R44): EN going 1 takes the lane from OFF to DETECT, EN going 0 to OFF. -/
def Dev.writeLaneCtrl (d : Dev) (l : LaneId) (v : Nat) : Dev :=
  let b := laneBase l
  let was := d.bit (rLANE_CTRL b) fLANE_CTRL_EN
  let d := d.access (rLANE_CTRL b) v
  let now := d.bit (rLANE_CTRL b) fLANE_CTRL_EN
  if now && !was && laneTrains l then d.enterDetect l
  else if was && !now then
    let inData := d.trainState l == tsData
    let d := d.laneOff l
    match l with
    | .fab f => if inData then d.fabLaneLeft f.val else d
    | _ => d
  else d

/-- Leave DATA for TRAIN (R44); a fabric lane tells its bundle (16_fabric.md R457). -/
def Dev.leaveData (d : Dev) (l : LaneId) : Dev :=
  let d := d.enterTrain l
  match l with
  | .fab f => d.fabLaneLeft f.val
  | _ => d

/-- Write LANE_TRAIN_CTRL (R44): RETRAIN restarts training from DATA, or from FAILED through DETECT. -/
def Dev.writeTrainCtrl (d : Dev) (l : LaneId) (v : Nat) : Dev :=
  let d := d.access (rLANE_TRAIN_CTRL (laneBase l)) v
  if nbit v 15 && laneTrains l then
    if d.trainState l = tsData then d.leaveData l
    else if d.trainState l = tsFailed then d.enterDetect l
    else d
  else d

/-- The lane's registers that have a behaviour of their own, by their offset in the block; the others store. -/
def Dev.writeLane (d : Dev) (l : LaneId) (off v : Nat) : Dev :=
  if !(d.laneOk l) then d
  else if off = 0x000 then d.writeLaneCtrl l v
  else if off = 0x008 then d.writeTaps l v
  else if off = 0x018 then d.writeTrainCtrl l v
  else if off = 0x020 then d.slip l v
  else if off = 0x024 then d.writeEscan l v
  else if off = 0x030 then d.writePat l v
  else d.access (laneBase l + off) v

/-- LANE_TXFFE_WRITE (R35). -/
def execLaneTxffeWrite (l : LaneId) (val : Word) (s : State) : Host.Outcome State Fault Refusal :=
  s.run (fun d => d.writeLane l 0x008 val.toNat)

/-- LANE_ENABLE (R44). -/
def execLaneEnable (l : LaneId) (s : State) : Host.Outcome State Fault Refusal :=
  s.run (fun d => d.writeLane l 0x000 (fieldPut (d.rdN (rLANE_CTRL (laneBase l))) fLANE_CTRL_EN 1))

/-- LANE_DISABLE (R44). -/
def execLaneDisable (l : LaneId) (s : State) : Host.Outcome State Fault Refusal :=
  s.run (fun d => d.writeLane l 0x000 (fieldPut (d.rdN (rLANE_CTRL (laneBase l))) fLANE_CTRL_EN 0))

/-! Probe and training. -/

/-- RECEIVER_DETECT_DONE (R44, R50): the probe ends with a far termination or an open. -/
def execReceiverDetectDone (l : LaneId) (far : Bool) (s : State) : Host.Outcome State Fault Refusal :=
  s.run (fun d =>
    let b := laneBase l
    if d.trainState l = tsDetect ∧ (d.laneX b).probing then
      let d := d.updLaneX b (fun x => { x with probing := false })
      if far then (d.mark (rLANE_STATUS b) fLANE_STATUS_FAR_PRESENT).enterTrain l
      else
        let d := d.mark (rLANE_ERR b) fLANE_ERR_RXDET_OPEN
        if (d.laneX b).openAlerted then d
        else (d.updLaneX b (fun x => { x with openAlerted := true })).alert 0x0202 []
    else d)

/-- RECEIVER_DETECT_RETRY (R44): 1 ms after an open the lane probes again. -/
def execReceiverDetectRetry (l : LaneId) (s : State) : Host.Outcome State Fault Refusal :=
  s.run (fun d =>
    if d.trainState l = tsDetect then d.updLaneX (laneBase l) (fun x => { x with probing := true }) else d)

/-- What the receiver takes of a far status word whose check passes (R41, R43, R49). -/
def Dev.takeStatus (d : Dev) (l : LaneId) (status : Nat) : Dev :=
  let b := laneBase l
  let d := d.put (rLANE_STATUS b) fLANE_STATUS_FAR_LANE (nbits status 5 0)
  let d := d.put (rLANE_CTRL b) fLANE_CTRL_PRECODE_RX (nbits status 14 14)
  let d := match (d.laneX b).ask with
    | some a => if answers a status then d.updLaneX b (fun x => { x with ask := none }) else d
    | none => d
  d.updLaneX b (fun x => { x with farReady := x.farReady || nbit status 15 })

/-- TRAINING_FRAME (R40-R43, R48, R49): signal and lock are seen, an inverted marker is corrected under RX_POL_AUTO, and
a frame whose check passes is acted on once per change of its control word. `ask` is the receiver's next request, taken
where none is outstanding. -/
def execTrainingFrame (l : LaneId) (control status : BitVec 16) (checkOk inverted : Bool) (ask : Option (BitVec 16)) (s : State) :
    Host.Outcome State Fault Refusal :=
  s.run (fun d =>
    let b := laneBase l
    if !(laneTrains l) || !(d.laneTraining l) then d else
    let d := (d.mark (rLANE_STATUS b) fLANE_STATUS_RX_SIGNAL).mark (rLANE_STATUS b) fLANE_STATUS_CDR_LOCK
    let d := d.when (inverted && d.bit (rLANE_CTRL b) fLANE_CTRL_RX_POL_AUTO) (fun d => d.mark (rLANE_STATUS b) fLANE_STATUS_RX_POL_DETECTED)
    let d :=
      if checkOk then
        let d := if control.toNat ≠ (d.laneX b).farCtrl then
            (d.actOnRequest l control.toNat).updLaneX b (fun x => { x with farCtrl := control.toNat }) else d
        d.takeStatus l status.toNat
      else d
    let d := if d.trainState l = tsTrain ∧ (d.laneX b).ask = none then
        d.updLaneX b (fun x => { x with ask := ask.map BitVec.toNat }) else d
    let num := match l with
      | .fab f => f.val - (d.bundleOf f.val).getD f.val
      | _ => 0
    (d.trainReady l).sendTraining l num)

/-- ADAPT_DONE (R38): the bit is set and the adapted values read from their registers. -/
def execAdaptDone (l : LaneId) (ctle : Fin 16) (taps : List Byte) (s : State) : Host.Outcome State Fault Refusal :=
  s.run (fun d =>
    if !(d.laneOk l) then d else
    (((d.adapted l ctle.val taps).mark (rLANE_STATUS (laneBase l)) fLANE_STATUS_ADAPT_DONE)).trainReady l)

/-- ADAPT_LOST (R38). -/
def execAdaptLost (l : LaneId) (s : State) : Host.Outcome State Fault Refusal :=
  s.run (fun d => d.put (rLANE_STATUS (laneBase l)) fLANE_STATUS_ADAPT_DONE 0)

/-- TRAIN_TIMEOUT (R44). -/
def execTrainTimeout (l : LaneId) (s : State) : Host.Outcome State Fault Refusal :=
  s.run (fun d => if d.laneTraining l then (d.enterFailed l fLANE_ERR_TRAIN_TIMEOUT).alert 0x0201 [] else d)

/-- NO_RESPONSE (R43): the request that stands is unanswered within 64 frames. -/
def execNoResponse (l : LaneId) (s : State) : Host.Outcome State Fault Refusal :=
  s.run (fun d =>
    if d.laneTraining l ∧ (d.laneX (laneBase l)).ask ≠ none then
      (d.enterFailed l fLANE_ERR_NO_RESPONSE).updLaneX (laneBase l) (fun x => { x with ask := none })
    else d)

/-- START_DATA (R44): far RECEIVER_READY has been seen in WAIT_FAR and 16 further frames have been sent. -/
def execStartData (l : LaneId) (s : State) : Host.Outcome State Fault Refusal :=
  s.run (fun d => if d.trainState l = tsWaitFar ∧ (d.laneX (laneBase l)).farReady then d.setTrain l tsData else d)

/-- CDR_LOCK_LOST (R44). -/
def execCdrLockLost (l : LaneId) (s : State) : Host.Outcome State Fault Refusal :=
  s.run (fun d =>
    let was := d.trainState l
    let d := d.put (rLANE_STATUS (laneBase l)) fLANE_STATUS_CDR_LOCK 0
    if was = tsData then d.leaveData l else d)

/-- RETRAIN (R44): a write of LANE_TRAIN_CTRL.RETRAIN. -/
def execRetrain (l : LaneId) (s : State) : Host.Outcome State Fault Refusal :=
  s.run (fun d => d.writeLane l 0x018 (fieldPut (d.rdN (rLANE_TRAIN_CTRL (laneBase l))) fLANE_TRAIN_CTRL_RETRAIN 1))

/-- AUTO_RETRAIN (R44): 100 ms in FAILED. -/
def execAutoRetrain (l : LaneId) (s : State) : Host.Outcome State Fault Refusal :=
  s.run (fun d =>
    if d.trainState l = tsFailed ∧ d.bit (rLANE_TRAIN_CTRL (laneBase l)) fLANE_TRAIN_CTRL_AUTO_RETRAIN then d.enterDetect l else d)

/-! Slip, scan and patterns. -/

/-- LANE_SLIP (R47). -/
def execLaneSlip (l : LaneId) (val : Word) (s : State) : Host.Outcome State Fault Refusal :=
  s.run (fun d => d.writeLane l 0x020 val.toNat)

/-- SLIP_DONE (R47). -/
def execSlipDone (l : LaneId) (s : State) : Host.Outcome State Fault Refusal :=
  s.run (fun d => d.put (rLANE_STATUS (laneBase l)) fLANE_STATUS_SLIP_BUSY 0)

/-- ESCAN_START (R46): a write of LANE_ESCAN_CTRL. -/
def execEscanStart (l : LaneId) (val : Word) (s : State) : Host.Outcome State Fault Refusal :=
  s.run (fun d => d.writeLane l 0x024 val.toNat)

/-- ESCAN_DONE (R46): the count of disagreements is written, then DONE is set; a TERM_EYESCAN that waits for the scan
answers with the result and the scan's status (04_burst_rx.md R123, R128). -/
def execEscanDone (l : LaneId) (count : Word) (s : State) : Host.Outcome State Fault Refusal :=
  s.run (fun d =>
    let b := laneBase l
    if !((d.laneX b).scan) then d else
    let d := d.endScan l count.toNat
    match l with
    | .tree t =>
      (d.waiting 0x02C1).foldl (fun d c =>
        if c.note.getD 0 0 = t.val then c.ok d (leB 4 count.toNat ++ leB 4 (d.rdN (rBRX_ESCAN_STAT t.val))) else d) d
    | _ => d)

/-- PAT_LOCK (R52). -/
def execPatLock (l : LaneId) (s : State) : Host.Outcome State Fault Refusal :=
  s.run (fun d =>
    if d.bit (rLANE_PAT_CTRL (laneBase l)) fLANE_PAT_CTRL_CHK_EN then d.mark (rLANE_STATUS (laneBase l)) fLANE_STATUS_PAT_LOCK else d)

/-- PAT_LOCK_LOST (R52): the wrong bits are counted, and the checker drops lock and re-seeds. -/
def execPatLockLost (l : LaneId) (errs : Nat) (s : State) : Host.Outcome State Fault Refusal :=
  s.run (fun d =>
    let b := laneBase l
    if d.bit (rLANE_STATUS b) fLANE_STATUS_PAT_LOCK then (d.bumpBy (rLANE_PAT_ERR b) errs).put (rLANE_STATUS b) fLANE_STATUS_PAT_LOCK 0 else d)

/-! DIAG_LANE (R54). -/

/-- The lane a request's kind and index name. -/
def laneNamed (kind i : Nat) : Option LaneId :=
  if h : i < 48 then
    if kind = 0 then some (.tree ⟨i, h⟩) else if kind = 1 then some (.upl ⟨i, h⟩) else if kind = 2 then some (.fab ⟨i, h⟩) else none
  else none

/-- The offsets of the six registers of the expert block, by mask bit. -/
def diagLaneRegs : List Nat := [0x000, 0x008, 0x010, 0x018, 0x024, 0x030]

/-- The report: LANE_STATUS, LANE_TXFFE and LANE_ERR. -/
def Dev.laneReport (d : Dev) (l : LaneId) : List Byte :=
  let b := laneBase l
  leB 4 (d.rdN (rLANE_STATUS b)) ++ leB 4 (d.rdN (rLANE_TXFFE b)) ++ leB 4 (d.rdN (rLANE_ERR b))

/-- Begin action 2: PRBS31 sent and checked in near-end serial loopback. -/
def Dev.laneCheck (d : Dev) (l : LaneId) : Dev :=
  let b := laneBase l
  let d := d.updLaneX b (fun x => { x with saved := some (d.rd (rLANE_CTRL b), d.rd (rLANE_PAT_CTRL b)) })
  let d := d.put (rLANE_CTRL b) fLANE_CTRL_LOOPBACK 1
  (d.writePat l 0).writePat l 0x35

/-- The checks of DIAG_LANE's request for one lane, in order. -/
def Cmd.diagLaneChecks (c : Cmd) (d : Dev) (l : LaneId) : List (Bool × Nat) :=
  let xp := nbit (c.u8 3) 0
  let sel := fun (k : Nat) => xp && nbit (c.u8 0x20) k
  [inForm (c.only 3 0x81), inForm (decide (c.u8 2 ≤ 2)), inForm (d.laneOk l),
   inForm (c.u8 2 != 2 || (decide (1 ≤ c.u32 4) && decide (c.u32 4 ≤ 60000))),
   inForm (if xp then decide (c.u8 0x20 < 64) && c.block 0x21 else c.endsAt 8),
   inForm ((List.range 6).all (fun k => !(sel k) || !(badValue (laneBase l + diagLaneRegs.getD k 0) (c.u32 (8 + 4 * k))))),
   inForm (!(sel 1) || !(d.tapsRefused l (c.u32 0x0C))),
   (c.u8 2 != 2 || (d.laneX (laneBase l)).saved.isNone, resBusy)]

/-- DIAG_LANE (R54), code 0x0C01. -/
def execDiagLane (m : Fin 64) (s : State) : Host.Outcome State Fault Refusal :=
  s.run (fun d => d.command m.val 0x0C01 (fun c d =>
    match laneNamed (c.u8 0) (c.u8 1) with
    | none => c.checks d [c.mustOwn, inForm false] (fun d => d)
    | some l =>
      c.checks d (c.mustOwn :: c.diagLaneChecks d l) (fun d =>
        let d := (List.range 6).foldl (fun d k =>
          if nbit (c.u8 3) 0 && nbit (c.u8 0x20) k then d.writeLane l (diagLaneRegs.getD k 0) (c.u32 (8 + 4 * k)) else d) d
        if c.u8 2 = 2 then c.wait (d.laneCheck l) [c.u8 0, c.u8 1]
        else
          let d := if c.u8 2 = 1 then d.writeLane l 0x018 (fieldPut (d.rdN (rLANE_TRAIN_CTRL (laneBase l))) fLANE_TRAIN_CTRL_RETRAIN 1) else d
          c.ok d (d.laneReport l))))

/-- DIAG_LANE_CHECK_END (R54): the wrong bits of the check are counted, the loopback and pattern settings return, and
the command answers with the final LANE_PAT_ERR. -/
def execDiagLaneCheckEnd (m : Fin 64) (errs : Nat) (s : State) : Host.Outcome State Fault Refusal :=
  s.run (fun d =>
    match (d.waiting 0x0C01).find? (fun c => c.mbx == m.val) with
    | none => d
    | some c =>
      match laneNamed (c.note.getD 0 0) (c.note.getD 1 0) with
      | none => d
      | some l =>
        let b := laneBase l
        let d := d.bumpBy (rLANE_PAT_ERR b) errs
        let resp := d.laneReport l ++ leB 4 (d.rdN (rLANE_PAT_ERR b))
        let d := match (d.laneX b).saved with
          | some (ctrl, pat) =>
            let d := d.put (rLANE_CTRL b) fLANE_CTRL_LOOPBACK (fieldOf ctrl.toNat fLANE_CTRL_LOOPBACK)
            d.writePat l pat.toNat
          | none => d
        c.ok (d.updLaneX b (fun x => { x with saved := none })) resp)

end Sys2Proof.Machine
end

