-- ==== Sys2Proof/Machine/ProtCmds.lean ====
section
/-! DEFINITION. The commands of 17_protection.md: pairs, the messages of the mate, streams and SEQ_CONFIG (R491-R523). -/

namespace Sys2Proof.Machine

/-- PROT_PAIR_WRITE (R493): a write of CFG (0) or MATE (1). -/
def execProtPairWrite (t : Fin 48) (w : Fin 2) (val : Word) (s : State) : Host.Outcome State Fault Refusal :=
  s.run (fun d => if d.treeOk t.val then d.writePair t.val w.val val.toNat else d)

/-- A protection message reaches a tree whose pair is enabled (R498). -/
def Dev.toPair (d : Dev) (t : Nat) (f : Dev → Dev) : Dev := if d.treeOk t && d.pairEn t then f d else d

/-- HEALTH_REPORT (R493, R508): the mate's report arrives `ns` into the tick. -/
def execHealthReport (t : Fin 48) (ns : Fin 125000) (body : List Byte) (s : State) : Host.Outcome State Fault Refusal :=
  s.run (fun d => d.toPair t.val (fun d => d.healthReport t.val ns.val body))

/-- PROTECTION_COPY (R498, R499): a kind 0 or kind 1 copy arrives; the body is the tag and the packet. -/
def execProtectionCopy (t : Fin 48) (kind : Fin 2) (port : Fin 65536) (yellow : Bool) (body : List Byte) (s : State) :
    Host.Outcome State Fault Refusal :=
  s.run (fun d => d.toPair t.val (fun d => d.protCopy t.val kind.val port.val yellow body))

/-- MIRROR_IMAGE (R505): a message of kind 3, 4, 5 or 6 arrives. -/
def execMirrorImage (t : Fin 48) (kind : Fin 4) (body : List Byte) (s : State) : Host.Outcome State Fault Refusal :=
  s.run (fun d => d.toPair t.val (fun d => d.mirrorMsg t.val (kind.val + 3) body))

/-- SEQ_CONFIG_TIMEOUT (R497): no acknowledgement has come; it is resent up to three times, then fails. -/
def execSeqConfigTimeout (c : Fin 262144) (s : State) : Host.Outcome State Fault Refusal :=
  s.run (fun d =>
    match d.seqOutOf c.val with
    | none => d
    | some x =>
      if x.sends < 4 then d.sendSeq c.val (x.sends + 1)
      else
        let r := d.chan c.val
        ((d.setSeqOutOf c.val none).mark rPROT_ERR fPROT_ERR_SEQ_CONFIG_FAIL).alert 0x1008
          (p4 r.tree ++ p4 (d.term x.term).termId ++ p4 r.portId))

/-- SIEVE_STREAM_RESET (R503): a stream that has accepted nothing for RESET_TICKS ticks returns to not started. -/
def execSieveStreamReset (c : Fin 262144) (s : State) : Host.Outcome State Fault Refusal := s.run (fun d => d.streamReset c.val)

/-- A write of SIEVE_SEL: GO copies the channel's stream to SIEVE_DATA, within the step. -/
def Dev.writeSieveSel (d : Dev) (v : Nat) : Dev :=
  let d := (d.access rSIEVE_SEL v).put rSIEVE_SEL fSIEVE_SEL_GO 0
  if nbit v 31 then
    (d.streamWords (fieldOf v fSIEVE_SEL_CHAN)).zipIdx.foldl (fun d w => d.wrN (rSIEVE_DATA w.2) w.1) d
  else d

/-- SIEVE_COPY (R516): a write of SIEVE_SEL with GO. -/
def execSieveCopy (c : Fin 262144) (s : State) : Host.Outcome State Fault Refusal := s.run (fun d => d.writeSieveSel (2 ^ 31 + c.val))

/-- PROT_PAIR (R519), code 0x0901. -/
def execProtPair (m : Fin 64) (s : State) : Host.Outcome State Fault Refusal :=
  s.run (fun d => d.command m.val 0x0901 (fun c d =>
    let t := c.u8 0
    let query := nbit (c.u8 1) 0
    let cfg := c.u32 4
    let mate := c.u32 8
    let a := rPROT_PAIR_CFG t
    let moves := cfg % 2 ^ 31 != d.rdN a % 2 ^ 31 || mate != d.rdN (a + 4)
    c.checks d
      [c.mustOwn, inForm (d.treeOk t && c.only 1 0x81 && c.zero 2 2 && c.endsAt 0x0C),
       inForm (query || !(badValue a cfg || badValue (a + 4) mate)), (query || !(d.pairEn t && moves), resBusy),
       inForm (query || !(nbit cfg 31) || d.pairEn t || !(d.pairBad t cfg mate))]
      (fun d =>
        let d := if query then d else (if d.pairEn t then d else d.writePair t 1 mate).writePair t 0 cfg
        c.ok d ((List.range 4).flatMap (fun i => leB 4 (d.rdN (a + 4 * i)))))))

/-- PROT_STATUS (R520), code 0x0902. -/
def execProtStatus (m : Fin 64) (s : State) : Host.Outcome State Fault Refusal :=
  s.run (fun d => d.command m.val 0x0902 (fun c d =>
    let t := c.u8 0
    c.checks d [c.treeRights d t, inForm (d.treeOk t && c.endsAt 1)] (fun d =>
      c.ok d (leB 4 (d.rdN (rPROT_PAIR_STATE t)) ++ leB 4 (d.rdN (rPROT_PAIR_DELTA t)) ++ leB 4 (d.rdN (rPROT_PAIR_CFG t)) ++
        leB 8 (d.pair t).takeoverTick ++ padTo 36 (d.pair t).report))))

/-- PROT_SIEVE (R521), code 0x0903. -/
def execProtSieve (m : Fin 64) (s : State) : Host.Outcome State Fault Refusal :=
  s.run (fun d => d.command m.val 0x0903 (fun c d =>
    match d.findChan (c.u8 0) (c.u16 2) with
    | none => c.checks d [c.mayExpert 1, inForm false] (fun d => d)
    | some h =>
      c.checks d
        [c.mayTouch (d.chan h).tenant (c.expert 1), inForm (c.only 1 0x80 && (if c.expert 1 then c.only 4 0x01 && c.block 5 else c.endsAt 4)),
         inForm (d.chan h).prot]
        (fun d =>
          let d := if c.expert 1 && nbit (c.u8 4) 0 then d.updStream h (fun s => { s with started := false }) else d
          c.ok d ((d.streamWords h).flatMap (leB 4)))))

/-- PROT_SWITCH (R522), code 0x0904: the active side yields at once and reports it; the standby's first frame leaves at the
boundary after the report's 100 µs. -/
def execProtSwitch (m : Fin 64) (s : State) : Host.Outcome State Fault Refusal :=
  s.run (fun d => d.command m.val 0x0904 (fun c d =>
    let t := c.u8 0
    c.checks d
      [c.mustOwn, inForm (d.treeOk t && c.only 1 0x80 && c.endsAt 2 && d.pairEn t && d.pairKind t == 1),
       (d.pairState t == prPaired && d.role t == roActive && (c.expert 1 || d.bit (rPROT_PAIR_STATE t) fPROT_PAIR_STATE_STBY_OK), resNotReady)]
      (fun d => c.ok ((d.yield_ t).sendReport t (d.tickNow - 1))
        (leB 8 (d.tickNow + (if d.tick.now + 100000 ≤ 125000 then 1 else 2))))))

end Sys2Proof.Machine
end

