-- ==== Sys2Proof/Machine/FabRx.lean ====
section
/-! DEFINITION. Fabric packets received: from a bundle's tributary, or from a bridge's tunnel frame (16_fabric.md R472-R478,
R481). -/

namespace Sys2Proof.Machine

/-- A header that is sound (R472): its CRC, its TYPE and its LENGTH. -/
def fabHeaderOk (p : List Byte) : Bool :=
  decide (16 ≤ p.length) && crc8 (p.take 15) == byteAt p 15 &&
  decide (1 ≤ byteAt p 0 / 16) && decide (byteAt p 0 / 16 ≤ 3) && decide (14 ≤ beAt p 2 2) && decide (beAt p 2 2 ≤ 16352)

/-- The bundle whose counters a source uses: its own, or FAB[0] for a bridge, 48 + b. -/
def fabCntOf (idx : Nat) : Nat := if idx < 48 then idx else 0

/-- A bridge's hello (R477, R481): its body holds cell bytes 12-45 and 68-131. -/
def Dev.bridgeHello (d : Dev) (b : Nat) (body : List Byte) : Dev :=
  if body.length ≠ 98 then d
  else
    let h := helloOf (leB 12 0 ++ body.take 34 ++ leB 22 0 ++ body.drop 34)
    let d := d.updBridgeX b (fun x => { x with hello := some h })
    let d := (if h.set && d.smSet && h.sm == d.shelfmark then d.conflict else d).unroute h
    let differs := h.number != d.curEd.number || h.digest != d.curEd.digest
    let d := if differs && !(d.bridgeX b).mismatch then d.alert 0x0F07 (p4 (48 + b) ++ p8 h.number) else d
    let d := d.updBridgeX b (fun x => { x with mismatch := differs })
    if d.verOverlap h then
      let d := d.updBridgeX b (fun x => { x with lastTick := d.tickNow })
      if d.bit (rFAB_BRIDGE_CTRL b) fFAB_BRIDGE_CTRL_UP then d
      else (d.put (rFAB_BRIDGE_CTRL b) fFAB_BRIDGE_CTRL_UP 1).alert 0x0F02 (p4 (48 + b) ++ p4 h.sm ++ p4 (d.verCommon h))
    else d

/-- Route a packet that is for another device (R474, R475); a protection message stays in its tributary, on bundles alone
(17_protection.md R498). -/
def Dev.fabTransit (d : Dev) (idx : Nat) (prot : Bool) (packet frame : List Byte) : Dev :=
  let hops := byteAt packet 1
  let c := fabCntOf idx
  if hops ≤ 1 then d.bump (rFAB_CNT c 8)
  else
    let typ := byteAt packet 0 / 16
    let prio := byteAt packet 0 / 2 % 8
    let yellow := nbit (byteAt packet 0) 0
    let dest := beAt packet 4 3 % 2 ^ 20
    let src := beAt packet 7 3 % 2 ^ 20
    let flow := beAt packet 10 2
    let seq := if nbit (byteAt packet 14) 0 then some (beAt packet 12 2) else none
    let p : Pkt := ⟨frame, 0x1F, 128 + idx, none, 0, yellow, seq, src, []⟩
    if prot then
      match (if d.smSet then d.routePick dest flow (fun p => !(pathBridge p)) else none) with
      | none => d.bump (rFAB_CNT c 7)
      | some path =>
        d.fabEnqueue path (d.get rPROT_CTRL fPROT_CTRL_TRIB) prio 0x1F p (fabHeader typ prio yellow (hops - 1) frame.length dest src flow seq) false
    else d.fabRoute c p typ prio (hops - 1) dest src flow seq false

/-- A packet for this device (R474): a protection message, a notice, data for the Colander, or a packet for the processor. -/
def Dev.fabLocal (d : Dev) (idx : Nat) (prot : Bool) (ns : Nat) (packet frame : List Byte) : Dev :=
  let typ := byteAt packet 0 / 16
  if typ ≠ 1 then d.emit .processor 0 [32 + typ, idx] packet
  else if d.bit rFAB_STATUS fFAB_STATUS_CONFLICT then d.bump (rFAB_CNT (fabCntOf idx) 7)
  else if prot then d.protMsg ns frame
  else
    match d.noticeFrame frame 1 idx (instant d.tickNow ns) with
    | some (some r, d) => d.emit .fabPacket idx [2] (withFcs r)
    | some (none, d) => d
    | none =>
      let seq := if nbit (byteAt packet 14) 0 then some (beAt packet 12 2) else none
      d.colEnter ⟨withFcs frame, 0x1F, 128 + idx, none, 0, nbit (byteAt packet 0) 0, seq, beAt packet 7 3 % 2 ^ 20, []⟩

/-- A fabric packet arrives whole from bundle `idx`, or from bridge idx - 48, `ns` into the tick, in a tributary or in none
(R472-R477). -/
def Dev.fabPacketIn (d : Dev) (idx : Nat) (prot : Bool) (ns : Nat) (packet : List Byte) (sec : Option SecTag) : Dev :=
  let c := fabCntOf idx
  if !(fabHeaderOk packet) then d.bump (rFAB_CNT c 6)
  else
    let d := d.bump (rFAB_CNT c 0)
    let typ := byteAt packet 0 / 16
    let frame := if sec.isSome then packet.drop 16 else (packet.drop 16).take (beAt packet 2 2)
    let guarded := decide (idx < 48) && d.bit (rFAB_BND_CTRL idx) fFAB_BND_CTRL_MACSEC_EN && typ != 3
    match (if guarded then (match sec with | none => (false, d) | some t => d.macsecRx 1 (idx / 8) t.sci t.an.val t.pn t.icvOk) else (true, d)) with
    | (false, d) => d.bump (rFAB_CNT c 9)
    | (true, d) =>
      if typ = 3 ∧ 48 ≤ idx then d.bridgeHello (idx - 48) frame
      else if d.smSet && beAt packet 4 3 % 2 ^ 20 == d.shelfmark then d.fabLocal idx prot ns packet frame
      else d.fabTransit idx prot packet frame

end Sys2Proof.Machine
end

