-- ==== Sys2Proof/Machine/FabCell.lean ====
section
/-! DEFINITION. Overhead cells received: finding the frame, deskew, defects, hellos, the interchange's frames and time offsets
(16_fabric.md R462-R470, R480, R481; 18_almanac.md R526, R532). -/

namespace Sys2Proof.Machine

/-- The tick nearest the present whose count has the low 16 bits given. -/
def Dev.nearTick (d : Dev) (low : Nat) : Int :=
  let n := d.tickNow
  let x := (low % 65536 + 65536 - n % 65536) % 65536
  if x < 32768 then (n : Int) + x else (n : Int) + x - 65536

/-- A lane's SYNC state. -/
def Dev.sync (d : Dev) (f : Nat) : Nat := d.get (rFAB_LANE_STATUS f) fFAB_LANE_STATUS_SYNC
/-- Set a lane's SYNC state. -/
def Dev.setSync (d : Dev) (f st : Nat) : Dev := d.put (rFAB_LANE_STATUS f) fFAB_LANE_STATUS_SYNC st

/-- LOF of a bundle (R457, R467): it is declared, and a bundle that was UP goes to ALIGN. -/
def Dev.lof (d : Dev) (b : Nat) : Dev :=
  let d := d.declareNew b dfLof
  if d.bndState b = bsUp then d.bndFall b bsAlign else d

/-- What is found where a lane expects the frame alignment word (R463): `diff` bits differ, and the overhead CRC passes or not. -/
def Dev.findFrame (d : Dev) (b f diff : Nat) (crcOk : Bool) : Dev :=
  if d.sync f = 0 then (if diff = 0 ∧ crcOk then d.setSync f 1 else d)
  else if d.sync f = 1 then
    if diff = 0 then (d.setSync f 2).put (rFAB_LANE_STATUS f) fFAB_LANE_STATUS_BAD 0 else d.setSync f 0
  else if diff ≤ 2 then d.put (rFAB_LANE_STATUS f) fFAB_LANE_STATUS_BAD 0
  else
    let bad := d.get (rFAB_LANE_STATUS f) fFAB_LANE_STATUS_BAD + 1
    let d := d.put (rFAB_LANE_STATUS f) fFAB_LANE_STATUS_BAD bad
    if bad < 4 then d else (d.setSync f 0).lof b

/-- Keep what a cell in a synchronised lane says: the cell, its ARRIVAL and the stamp of its receipt (R461, R469). -/
def Dev.keepCell (d : Dev) (f : Nat) (cell : List Byte) (crcOk : Bool) : Dev :=
  if !crcOk then d.updFabLane f (fun x => { x with crcOk := false })
  else
    let t := d.timeNow
    let tick := beAt cell 8 2
    let d := d.put (rFAB_LANE_STATUS f) fFAB_LANE_STATUS_LANE (byteAt cell 11 / 32)
    d.updFabLane f (fun x => { x with
      cell := cell, crcOk := true, heard := true, arrival := (t : Int) - d.nearTick tick * 125000, frameTick := tick,
      rxSec := t / nsPerSec, rxNs := t % nsPerSec })

/-- A bundle is deskewed (R464): each lane has been heard, each reports a LANE of its own, and the skew is 64 cells at most. -/
def Dev.deskewed (d : Dev) (b : Nat) : Bool :=
  let xs := (d.bndMembers b).map (fun f => d.fabLane f)
  let as_ := xs.map (fun x => x.arrival)
  xs.all (fun x => x.heard) && ((xs.map (fun x => byteAt x.cell 11 / 32)).eraseDups.length == xs.length) &&
  as_.all (fun x => as_.all (fun y => decide (x - y ≤ 1310)))

/-- One tributary's label of a frame (R466, R467). -/
def Dev.tribLabel (d : Dev) (b n : Nat) (term : Bool) (label : Nat) : Dev :=
  let k := 64 * b + n
  let x := d.fabTrib k
  let ais := label == 0xFF
  let good := label == d.label rFAB_EXP_LABEL b n
  let x := { x with
    aisOn := if ais then x.aisOn + 1 else 0, aisOff := if ais then 0 else x.aisOff + 1
    labOn := if term && !good && !ais then x.labOn + 1 else 0, labOff := if good || !term then x.labOff + 1 else 0 }
  let newAis := !x.ais && decide (2 ≤ x.aisOn)
  let newLab := !x.lab && decide (2 ≤ x.labOn)
  let x := { x with ais := (x.ais || newAis) && decide (x.aisOff < 2), lab := (x.lab || newLab) && decide (x.labOff < 2) }
  let d := d.setFabTrib k { x with aisOn := min x.aisOn 2, aisOff := min x.aisOff 2, labOn := min x.labOn 2, labOff := min x.labOff 2 }
  (d.when newAis (fun d => d.declare b dfAis n)).when newLab (fun d => d.declare b dfLabel n)

/-- The labels of a frame: shown, and judged for every tributary that the receive page in use names. -/
def Dev.takeLabels (d : Dev) (b : Nat) (c : List Byte) : Dev :=
  let d := (List.range 16).foldl (fun d i => d.wrN (rFAB_RX_LABEL b i) (leAt c (68 + 4 * i) 4)) d
  let d := (d.rxTribs b).foldl (fun d e => d.tribLabel b e.1 e.2 (byteAt c (68 + e.1))) d
  if (List.range 64).any (fun n => (d.fabTrib (64 * b + n)).lab) then d else d.clearDefect b dfLabel

/-- RDI of a frame (R467). -/
def Dev.takeRdi (d : Dev) (b : Nat) (on : Bool) : Dev :=
  let x := d.fabBnd b
  let n := if on then min 2 (x.rdiOn + 1) else 0
  let m := if on then 0 else min 2 (x.rdiOff + 1)
  let d := d.updFabBnd b (fun x => { x with rdiOn := n, rdiOff := m })
  if n = 2 then d.declareNew b dfRdi else if m = 2 then d.clearDefect b dfRdi else d

/-- PAGE of a frame (R467, R470): the receiver uses the page it names. -/
def Dev.takePage (d : Dev) (b page : Nat) : Dev :=
  let d := d.put (rFAB_BND_STATUS b) fFAB_BND_STATUS_RX_PAGE page
  if (d.bndMembers b).all (fun f => d.bit (rFAB_LANE_STATUS f) (markFld 1 page)) then d.clearDefect b dfPage
  else d.declareNew b dfPage

/-- The upstream neighbour (R480; 18_almanac.md R526): of the UP peers that advertise TIME_QUAL and this device's MASTER, the one
with the fewest hops, then the lowest bundle; none for the master itself. -/
def Dev.upstream (d : Dev) : Option Nat :=
  if d.bit rFAB_STATUS fFAB_STATUS_IS_MASTER || !(d.bit rFAB_STATUS fFAB_STATUS_MASTER_VALID) then none
  else
    let l := (List.range 48).filterMap (fun b =>
      if d.bndEn b && d.bndState b == bsUp then
        match (d.fabBnd b).hello with
        | some h =>
          if nbit h.flags 1 && h.masterValid && h.master == d.get rFAB_STATUS fFAB_STATUS_MASTER && decide (h.hops ≤ 32) then some (h.hops, b) else none
        | none => none
      else none)
    (l.find? (fun x => l.all (fun y => decide (x.1 ≤ y.1)))).map Prod.snd

/-- Judge the offset to the fabric time master (R481): beyond 1 us TIME_DISAGREE is set; 64 ticks in a row within 0.5 us clear it. -/
def Dev.judgeTime (d : Dev) (theta : Int) : Dev :=
  let dis := d.bit rFAB_STATUS fFAB_STATUS_TIME_DISAGREE
  if 1000 < theta.natAbs then
    let d := { d with fab := { d.fab with agree := 0 } }
    if dis then d
    else
      let d := (d.put rFAB_STATUS fFAB_STATUS_TIME_DISAGREE 1).mark rFAB_GERR fFAB_GERR_TIME_DISAGREE
      ((d.alert 0x0F06 (p4s theta ++ p4 (d.get rFAB_STATUS fFAB_STATUS_MASTER))).showTimeOk).pickMaster
  else
    let n := if theta.natAbs ≤ 500 then min 64 (d.fab.agree + 1) else 0
    let d := { d with fab := { d.fab with agree := n } }
    if dis ∧ n = 64 then ((d.put rFAB_STATUS fFAB_STATUS_TIME_DISAGREE 0).showTimeOk).pickMaster else d

/-- The offset to the neighbour of a bundle, from the stamps of its cell (R480); none before the neighbour has heard a cell. -/
def Dev.neighbourOff (d : Dev) (x : FabLaneX) : Option Int :=
  let c := x.cell
  let t4 := beAt c 56 6 * nsPerSec + beAt c 62 4
  if t4 = 0 then none
  else
    let t1 : Int := beAt c 46 6 * nsPerSec + beAt c 52 4
    let t2 : Int := x.rxSec * nsPerSec + x.rxNs
    let t3 : Int := frameSent (d.nearTick (beAt c 66 2)).toNat
    some ((t2 - t1 - ((t4 : Int) - t3)).tdiv 2)

/-- Each frame from the upstream neighbour measures the offset from the master, and under KIND 2 steers the servo. -/
def Dev.takeOffset (d : Dev) (b : Nat) (x : FabLaneX) : Dev :=
  if d.upstream = some b then
    match d.neighbourOff x with
    | none => d
    | some theta =>
      let d := d.judgeTime theta
      if d.srcKind = 2 then d.offset theta else d
  else d

/-- A frame's overhead is in from the lanes of a bundle (R462, R464, R467-R470). -/
def Dev.takeFrame (d : Dev) (b : Nat) : Dev :=
  let d := d.updFabBnd b (fun x => { x with seen := [] })
  let ms := d.bndMembers b
  let synced := ms.all (fun f => d.sync f == 2)
  let aligned := synced && d.deskewed b
  let heard := synced && ms.all (fun f => (d.fabLane f).heard)
  let d :=
    if aligned then
      let d := if d.defect b dfLof then d.clearDefect b dfLof else d
      if d.bndState b = bsAlign then d.setBnd b bsHello else d
    else if heard then d.lof b else d
  let good := (ms.filter (fun f => d.sync f == 2 && (d.fabLane f).crcOk)).map (fun f => d.fabLane f)
  let lane := fun (x : FabLaneX) => byteAt x.cell 11 / 32
  let zero := good.find? (fun x => lane x == 0)
  let d := match zero with
    | some x => (d.wrN (rFAB_ARRIVAL b) (sfield 32 x.arrival)).updFabBnd b (fun y => { y with held := ((x.frameTick, x.arrival) :: y.held).take 8 })
    | none => d
  match zero.orElse (fun _ => (sortBy (fun x y => decide (lane x ≤ lane y)) good).head?) with
  | none => d
  | some x =>
    let c := x.cell
    let d := d.takeRdi b (nbit (byteAt c 11) 0)
    let d := d.takePage b (byteAt c 11 / 2 % 2)
    if !aligned || byteAt c 11 / 4 % 4 != d.get (rFAB_BND_CTRL b) fFAB_BND_CTRL_SIZE || decide (d.bndSize b ≤ lane x) then d
    else
      let d := (d.takeLabels b c).takeHello b (helloOf c)
      match zero with
      | some x => d.takeOffset b x
      | none => d

/-- An overhead cell arrives at a lane that is in DATA, `ns` into the tick: what the frame before it counted is added first. -/
def Dev.fabCell (d : Dev) (f ns diff : Nat) (cell : List Byte) (corr uncorr drops : Nat) : Dev :=
  match d.bundleOf f with
  | none => d
  | some b =>
    if d.trainState (fabLaneId f) ≠ tsData then d
    else
      let d := d.seen ns
      let d := ((d.bumpBy (rFAB_CNT b 2) corr).bumpBy (rFAB_CNT b 3) uncorr).bumpBy (rFAB_CNT b 5) drops
      let crcOk := crc32c ((slice cell 0 252).drop 8) == beAt cell 252 4
      let d := d.findFrame b f diff crcOk
      if d.sync f ≠ 2 then d
      else
        let d := d.keepCell f cell crcOk
        let d := if (d.fabBnd b).seen.contains f then d.takeFrame b else d
        let d := d.updFabBnd b (fun x => { x with seen := f :: x.seen })
        if (d.bndMembers b).all (fun g => d.sync g != 2 || (d.fabBnd b).seen.contains g) then d.takeFrame b else d

end Sys2Proof.Machine
end

