-- ==== Sys2Proof/Machine/FabCmds.lean ====
section
/-! DEFINITION. The commands of 16_fabric.md: bundles, cells, packets and slots, connection memories, routes, the shelfmark,
bridges, disagreement, and the mailbox commands (R456-R490). -/

namespace Sys2Proof.Machine

/-! Bundles (R456, R457, R460). -/

/-- Write FAB_BND_CTRL; the pin cages of the lanes follow (22_electrical.md R640). -/
def Dev.writeBndCtrl (d : Dev) (b v : Nat) : Dev := (d.writeBnd b v).pinUpdateAll

/-- FAB_BND_CTRL_WRITE (R456). -/
def execFabBndCtrlWrite (b : Fin 48) (val : Word) (s : State) : Host.Outcome State Fault Refusal :=
  s.run (fun d => d.writeBndCtrl b.val val.toNat)

/-- BUNDLE_ENABLE (R457): EN is set. -/
def execBundleEnable (b : Fin 48) (s : State) : Host.Outcome State Fault Refusal :=
  s.run (fun d => d.writeBndCtrl b.val (fieldPut (d.rdN (rFAB_BND_CTRL b.val)) fFAB_BND_CTRL_EN 1))

/-- BUNDLE_DISABLE (R457): EN is cleared. -/
def execBundleDisable (b : Fin 48) (s : State) : Host.Outcome State Fault Refusal :=
  s.run (fun d => d.writeBndCtrl b.val (fieldPut (d.rdN (rFAB_BND_CTRL b.val)) fFAB_BND_CTRL_EN 0))

/-- BUNDLE_LANES_TRAINED (R457, R460): every lane is in DATA; lanes with no frames begin them at a tick that is a multiple of
64. -/
def execBundleLanesTrained (b : Fin 48) (s : State) : Host.Outcome State Fault Refusal :=
  s.run (fun d =>
    if d.bndEn b.val && d.bndState b.val == bsTraining && (d.bndMembers b.val).all (fun f => d.trainState (fabLaneId f) == tsData) then
      (d.bndMembers b.val).foldl (fun d f => d.updFabLane f (fun x =>
        { x with framesFrom := some (x.framesFrom.getD ((d.tickNow / 64 + 1) * 64)) })) (d.setBnd b.val bsAlign)
    else d)

/-! Cells, packets and slots. -/

/-- FAB_OVERHEAD_CELL (R461-R470, R480, R481): `diff` bits of its first 64 differ from the frame alignment word; `corr` and
`uncorr` count the cells corrected and uncorrectable since the one before, `drops` the partial packets discarded (R471). -/
def execFabOverheadCell (f : Fin 48) (ns : Fin 125000) (diff : Fin 65) (cell : List Byte) (corr uncorr drops : Nat) (s : State) :
    Host.Outcome State Fault Refusal :=
  s.run (fun d => d.fabCell f.val ns.val diff.val cell corr uncorr drops)

/-- FAB_PACKET_RX (R466-R474): a packet is whole in a terminated tributary of a bundle; outside UP, with a label other than
0x01, or under AIS, LABEL or PAGE, nothing is delivered. -/
def execFabPacketRx (b : Fin 48) (trib : Fin 64) (ns : Fin 125000) (packet : List Byte) (sec : Option SecTag) (s : State) :
    Host.Outcome State Fault Refusal :=
  s.run (fun d =>
    let x := d.fabTrib (64 * b.val + trib.val)
    if d.bndEn b.val && d.bndState b.val == bsUp && (d.rxTribs b.val).contains (trib.val, true) &&
        d.label rFAB_EXP_LABEL b.val trib.val == 1 && d.label rFAB_RX_LABEL b.val trib.val == 1 &&
        !x.ais && !x.lab && !(d.defect b.val dfPage) then
      (d.seen ns.val).fabPacketIn b.val (trib.val == d.get rPROT_CTRL fPROT_CTRL_TRIB) ns.val packet sec
    else d)

/-- FABRIC_SLOT_DUE (R465, R468, R469, R471, R473): `data` is the received slot of a transit connection, `ecc` how the buffers of
the packets taken read. -/
def execFabricSlotDue (f : Fin 48) (slot : Fin 6000) (data : List Byte) (ecc : List (Fin 3)) (s : State) :
    Host.Outcome State Fault Refusal :=
  s.run (fun d => d.slotDue f.val slot.val data ecc)

/-! Connection memories (R470, R483). -/

/-- A connection-memory access: its RESULT and the device after. -/
def Dev.cmAccess (d : Dev) (write : Bool) (dir page : Nat) (mark : Bool) (lane slot : Nat) : Nat × Dev :=
  if 48 ≤ lane ∨ (!mark && decide (fabSlots ≤ slot)) then (2, d)
  else if mark then
    if dir = 0 ∧ d.pageUsed lane 0 page then (1, d) else (0, d.put (rFAB_LANE_STATUS lane) (markFld dir page) 1)
  else if write then
    if d.pageUsed lane dir page then (1, d) else (0, d.cmWrite lane dir page slot (Nat.land (d.rdN rFAB_CM_DATA) (cmMask dir)))
  else (0, d.wrN rFAB_CM_DATA (d.cmWord (cmKey lane dir page slot)))

/-- A write of FAB_CM_CMD: the access is done within the step, so that BUSY reads 0. -/
def Dev.writeCmCmd (d : Dev) (v : Nat) : Dev :=
  let d := (d.access rFAB_CM_CMD v).put rFAB_CM_CMD fFAB_CM_CMD_GO 0
  if nbit v 30 then
    let r := d.cmAccess (nbit v 29) (fieldOf v fFAB_CM_CMD_DIR) (fieldOf v fFAB_CM_CMD_PAGE) (nbit v 26) (fieldOf v fFAB_CM_CMD_LANE)
      (fieldOf v fFAB_CM_CMD_SLOT)
    r.2.put rFAB_CM_CMD fFAB_CM_CMD_RESULT r.1
  else d

/-- The word of FAB_CM_CMD with GO. -/
def cmCmdWord (write : Bool) (dir page : Nat) (mark : Bool) (lane slot : Nat) : Nat :=
  2 ^ 30 + b2n write * 2 ^ 29 + dir * 2 ^ 28 + page * 2 ^ 27 + b2n mark * 2 ^ 26 + lane * 2 ^ 13 + slot

/-- FAB_CM_READ (R470). -/
def execFabCmRead (lane : Fin 64) (dir page : Fin 2) (slot : Fin 8192) (s : State) : Host.Outcome State Fault Refusal :=
  s.run (fun d => d.writeCmCmd (cmCmdWord false dir.val page.val false lane.val slot.val))

/-- FAB_CM_WRITE (R470): the entry is FAB_CM_DATA. -/
def execFabCmWrite (lane : Fin 64) (dir page : Fin 2) (slot : Fin 8192) (s : State) : Host.Outcome State Fault Refusal :=
  s.run (fun d => d.writeCmCmd (cmCmdWord true dir.val page.val false lane.val slot.val))

/-- FAB_CM_MARK (R470). -/
def execFabCmMark (lane : Fin 64) (dir page : Fin 2) (s : State) : Host.Outcome State Fault Refusal :=
  s.run (fun d => d.writeCmCmd (cmCmdWord false dir.val page.val true lane.val 0))

/-! Routes (R475, R483). -/

/-- The bits a route entry's words hold. -/
def routeMask (w : Nat) : Nat := if w = 0 then 0x80000003 else if w = 3 then 0 else 0xBF3FBF3F

/-- The place of a route entry: its table and index; none where the index is past the table. -/
def routeKey (table index : Nat) : Option Nat :=
  if table = 0 ∧ 256 ≤ index ∨ 4096 ≤ index then none else some (4096 * table + index)

/-- A write of FAB_TBL_CMD: the access is done within the step, so that BUSY reads 0. -/
def Dev.writeTblCmd (d : Dev) (v : Nat) : Dev :=
  let d := (d.access rFAB_TBL_CMD v).put rFAB_TBL_CMD fFAB_TBL_CMD_GO 0
  match routeKey (fieldOf v fFAB_TBL_CMD_TABLE) (fieldOf v fFAB_TBL_CMD_INDEX) with
  | none => d
  | some k =>
    if !(nbit v 30) then d
    else if nbit v 29 then d.setRouteOf k ((List.range 4).map (fun i => Nat.land (d.rdN (rFAB_TBL_DATA i)) (routeMask i)))
    else (List.range 4).foldl (fun d i => d.wrN (rFAB_TBL_DATA i) ((d.routeOf k).getD i 0)) d

/-- FAB_TBL_READ (R475). -/
def execFabTblRead (table : Fin 2) (index : Fin 4096) (s : State) : Host.Outcome State Fault Refusal :=
  s.run (fun d => d.writeTblCmd (2 ^ 30 + table.val * 2 ^ 28 + index.val))

/-- FAB_TBL_WRITE (R475). -/
def execFabTblWrite (table : Fin 2) (index : Fin 4096) (s : State) : Host.Outcome State Fault Refusal :=
  s.run (fun d => d.writeTblCmd (2 ^ 30 + 2 ^ 29 + table.val * 2 ^ 28 + index.val))

/-! The device's own registers (R478, R479). -/

/-- A bundle is enabled or a bridge entry valid (R478). -/
def Dev.fabBusy (d : Dev) : Bool :=
  (List.range 48).any (fun b => d.bndEn b) || (List.range 16).any (fun b => d.bit (rFAB_BRIDGE_CTRL b) fFAB_BRIDGE_CTRL_VALID)

/-- Write FAB_SHELFMARK (R478); a rewrite clears CONFLICT (R481). -/
def Dev.writeShelfmark (d : Dev) (v : Nat) : Dev :=
  if d.fabBusy then d.mark rFAB_GERR fFAB_GERR_CFG_BUSY
  else ((d.access rFAB_SHELFMARK v).put rFAB_STATUS fFAB_STATUS_CONFLICT 0).pickMaster

/-- FAB_SHELFMARK_WRITE (R478). -/
def execFabShelfmarkWrite (val : Word) (s : State) : Host.Outcome State Fault Refusal := s.run (fun d => d.writeShelfmark val.toNat)

/-- Write FAB_CTRL (R479): a version range without 1 is ignored. -/
def Dev.writeFabCtrl (d : Dev) (v : Nat) : Dev :=
  if fieldOf v fFAB_CTRL_VER_MIN ≤ 1 ∧ 1 ≤ fieldOf v fFAB_CTRL_VER_MAX then (d.access rFAB_CTRL v).pickMaster
  else d.mark rFAB_GERR fFAB_GERR_CFG_BAD

/-- FAB_CTRL_WRITE (R479). -/
def execFabCtrlWrite (val : Word) (s : State) : Host.Outcome State Fault Refusal := s.run (fun d => d.writeFabCtrl val.toNat)

/-! Bridges (R477). -/

/-- A bridge entry is valid. -/
def Dev.bridgeOk (d : Dev) (b : Nat) : Bool := d.bit (rFAB_BRIDGE_CTRL b) fFAB_BRIDGE_CTRL_VALID

/-- Write a word of a bridge entry; an entry that ceases to be valid is not UP. -/
def Dev.writeBridge (d : Dev) (b w v : Nat) : Dev :=
  let d := d.access (rFAB_BRIDGE_MAC_LO b + 4 * w) v
  if w = 2 ∧ !(d.bridgeOk b) then (d.put (rFAB_BRIDGE_CTRL b) fFAB_BRIDGE_CTRL_UP 0).setBridgeX b {} else d

/-- BRIDGE_HELLO_SEND (R477): the hello goes to the entry's port, with the peer's shelfmark where it is known. -/
def execBridgeHelloSend (b : Fin 16) (s : State) : Host.Outcome State Fault Refusal :=
  s.run (fun d =>
    if !(d.bridgeOk b.val) || d.zeroised then d
    else
      let c := d.helloCell (List.replicate 12 0#8) (List.replicate 64 0#8)
      let body := slice c 12 34 ++ slice c 68 64
      let dest := match (d.bridgeX b.val).hello with | some h => h.sm | none => 0
      let p : Pkt := ⟨body, 0x1F, 0xC0, none, 0, false, none, 0, []⟩
      d.fabEnqueue (2 ^ 15 + 2 ^ 8 * b.val) 0 7 0x1F p (fabHeader 3 7 false d.initHops body.length dest d.shelfmark 0 none) false)

/-- BRIDGE_TIMEOUT (R477): 64 ticks without a valid hello. -/
def execBridgeTimeout (b : Fin 16) (s : State) : Host.Outcome State Fault Refusal :=
  s.run (fun d =>
    if d.bit (rFAB_BRIDGE_CTRL b.val) fFAB_BRIDGE_CTRL_UP && decide ((d.bridgeX b.val).lastTick + 64 ≤ d.tickNow) then
      (d.put (rFAB_BRIDGE_CTRL b.val) fFAB_BRIDGE_CTRL_UP 0).alert 0x0F01 (p4 (48 + b.val) ++ p4 bsUp)
    else d)

/-! Disagreement (R481). -/

/-- CONFLICT_CLEAR (R481): 8,000 ticks with no duplicate seen. -/
def execConflictClear (s : State) : Host.Outcome State Fault Refusal :=
  s.run (fun d => if d.fab.dupTick + 8000 ≤ d.tickNow then d.put rFAB_STATUS fFAB_STATUS_CONFLICT 0 else d)

/-- The peer of an UP bundle advertises a higher NUMBER. -/
def Dev.higherEdition (d : Dev) (b : Nat) : Option Hello :=
  match (d.fabBnd b).hello with
  | some h => if d.bndEn b && d.bndState b == bsUp && decide (d.curEd.number < h.number) then some h else none
  | none => none

/-- The Edition that a peer's hello names, with what the firmware has fetched of it, is staged and committed (R481). -/
def Dev.followEdition (d : Dev) (h : Hello) (defFlags : Bool) (miss : Nat) (rules actions : List (List Byte)) : Dev :=
  let bad := rules.zipIdx.any (fun e => entryReason 0 e.2 e.1 != 0) || actions.zipIdx.any (fun e => entryReason 1 e.2 e.1 != 0)
  let st : Staging := actions.zipIdx.foldl (fun s e => s.put 1 e.2 e.1) (rules.zipIdx.foldl (fun s e => s.put 0 e.2 e.1) ⟨[], []⟩)
  let q : CommitReq := ⟨defFlags, rules.length, actions.length, miss, h.number, h.digest⟩
  match (if bad then (resBadParam, 0, d) else (d.setStaging (some st)).commitEdition q) with
  | (res, _, d) =>
    let d := d.setStaging none
    if res = resOk then ({ d with fab := { d.fab with followTick := none } }).reqNext 2
    else { d with fab := { d.fab with followTick := some d.tickNow } }

/-- EDITION_FOLLOW (R481): the firmware has fetched the Edition of the peer of bundle `b`: its miss word, rules and actions. -/
def execEditionFollow (b : Fin 48) (defFlags : Bool) (miss : Word) (rules actions : List (List Byte)) (s : State) :
    Host.Outcome State Fault Refusal :=
  s.run (fun d =>
    match d.higherEdition b.val with
    | none => d
    | some h =>
      let early := match d.fab.followTick with | some k => decide (d.tickNow < k + 8000) | none => false
      if !(d.bit rFAB_CTRL fFAB_CTRL_ED_FOLLOW) || d.col.staging.isSome || early then d
      else d.followEdition h defFlags miss.toNat rules actions)

/-! Mailbox commands (R485-R489). -/

/-- A bundle's report (R485). -/
def Dev.bundleReport (d : Dev) (b : Nat) : List Byte :=
  ([rFAB_BND_STATUS b, rFAB_DEFECT b, rFAB_ARRIVAL b, rFAB_PEER_SM b, rFAB_PEER_ED_LO b, rFAB_PEER_ED_HI b] ++
    (List.range 10).map (fun i => rFAB_CNT b i)).flatMap (fun a => leB 4 (d.rdN a))

/-- FAB_BUNDLE (R485), code 0x0A01. -/
def execFabBundle (m : Fin 64) (s : State) : Host.Outcome State Fault Refusal :=
  s.run (fun d => d.command m.val 0x0A01 (fun c d =>
    let b := c.u8 0
    let conf := c.u8 1 == 1
    let v := c.u32 4
    c.checks d
      [c.mustOwn, inForm (decide (b < 48) && decide (c.u8 1 < 2) && c.only 2 0x80 && c.zero 3 1 && (if c.expert 2 then c.block 0x88 else c.endsAt 8)),
       inForm (d.firstLane b),
       inForm (!conf || (!(badValue (rFAB_BND_CTRL b) v) && !(d.bndRefused b v)))]
      (fun d =>
        let d := if conf then
            let d := if c.expert 2 then
                (List.range 16).foldl (fun d i => (d.wrN (rFAB_TX_LABEL b i) (c.u32 (8 + 4 * i))).wrN (rFAB_EXP_LABEL b i) (c.u32 (0x48 + 4 * i))) d
              else d
            d.writeBndCtrl b v
          else d
        c.ok d (d.bundleReport b))))

/-- A path of a new route is refused (R486): it names a lane inside a bundle, or an invalid bridge. -/
def Dev.pathBad (d : Dev) (p : Nat) : Bool :=
  if pathBridge p then decide (16 ≤ pathIndex p) || !(d.bridgeOk (pathIndex p))
  else decide (48 ≤ pathIndex p) || !(d.firstLane (pathIndex p))

/-- FAB_ROUTE (R486), code 0x0A02. -/
def execFabRoute (m : Fin 64) (s : State) : Host.Outcome State Fault Refusal :=
  s.run (fun d => d.command m.val 0x0A02 (fun c d =>
    let write := nbit (c.u8 1) 0
    let e := (List.range 4).map (fun i => c.u32 (4 + 4 * i))
    let k := routeKey (c.u8 0) (c.u16 2)
    c.checks d
      [c.mustOwn, inForm (decide (c.u8 0 < 2) && c.only 1 0x81 && k.isSome && c.endsAt 0x14),
       inForm (!write || (e.zipIdx.all (fun x => Nat.land x.1 (0xFFFFFFFF - routeMask x.2) == 0) && (routePaths e).all (fun p => !(d.pathBad p))))]
      (fun d =>
        let k := k.getD 0
        let d := if write then d.setRouteOf k e else d
        c.ok d ((d.routeOf k).flatMap (fun w => leB 4 w)))))

/-- An entry that FAB_CONNECT writes holds no reserved bit or value (R465, R648). -/
def cmEntryOk (dir e : Nat) : Bool := Nat.land e (0xFFFFFFFF - cmMask dir) == 0 && (dir == 1 || decide (e / 2 ^ 30 < 3))

/-- FAB_CONNECT (R487), code 0x0A03. -/
def execFabConnect (m : Fin 64) (s : State) : Host.Outcome State Fault Refusal :=
  s.run (fun d => d.command m.val 0x0A03 (fun c d =>
    let lane := c.u8 0
    let dir := c.u8 1 % 2
    let page := c.u8 2
    let n := c.u8 3
    let slot := c.u16 4
    let es := (List.range n).map (fun i => c.u32 (8 + 4 * i))
    let x := c.expert 1
    c.checks d
      [c.mustOwn, inForm (decide (lane < 48) && c.only 1 0x83 && decide (page < 2) && decide (1 ≤ n) && decide (n ≤ 240) && c.zero 6 2 &&
        decide (slot + n ≤ fabSlots) && (if x then c.block (8 + 4 * n + 8) else c.endsAt (8 + 4 * n))),
       inForm (es.all (cmEntryOk dir)), (!(d.pageUsed lane dir page), resBusy)]
      (fun d =>
        let r := if x then d.schedule 4 (c.u64 (8 + 4 * n)) else (resOk, 0, d)
        if r.1 ≠ resOk then c.fail r.2.2 r.1
        else
          let d := es.zipIdx.foldl (fun d e => d.cmWrite lane dir page (slot + e.2) e.1) r.2.2
          let d := if nbit (c.u8 1) 1 then d.put (rFAB_LANE_STATUS lane) (markFld dir page) 1 else d
          c.ok d (if x then leB 8 r.2.1 else []))))

/-- One peer as FAB_PEERS lists it (R488). -/
def peerBytes (idx : Nat) (h : Hello) : List Byte := leB 1 idx ++ leB 3 0 ++ leB 4 h.sm ++ leB 8 h.number ++ leB 1 h.flags ++ leB 3 0

/-- FAB_PEERS (R488), code 0x0A04. -/
def execFabPeers (m : Fin 64) (s : State) : Host.Outcome State Fault Refusal :=
  s.run (fun d => d.command m.val 0x0A04 (fun c d =>
    c.checks d [c.mustOwn, inForm (c.endsAt 0)] (fun d =>
      let bs := (List.range 48).filterMap (fun b => if d.bndEn b && d.bndState b == bsUp then (d.fabBnd b).hello.map (peerBytes b) else none)
      let gs := (List.range 16).filterMap (fun b =>
        if d.bit (rFAB_BRIDGE_CTRL b) fFAB_BRIDGE_CTRL_UP then (d.bridgeX b).hello.map (peerBytes (48 + b)) else none)
      c.ok d (leB 4 (d.rdN rFAB_STATUS) ++ (bs ++ gs).flatten))))

/-- FAB_BRIDGE (R489), code 0x0A05. -/
def execFabBridge (m : Fin 64) (s : State) : Host.Outcome State Fault Refusal :=
  s.run (fun d => d.command m.val 0x0A05 (fun c d =>
    let b := c.u8 0
    let lane := c.u32 0xC % 64
    c.checks d
      [c.mustOwn, inForm (decide (b < 16) && c.zero 1 3 && c.endsAt 0x10),
       inForm ((List.range 3).all (fun w => !(badValue (rFAB_BRIDGE_MAC_LO b + 4 * w) (c.u32 (4 + 4 * w))))),
       inForm (decide (lane < 48) && d.bit (rUPL_PORT_CTRL lane) fUPL_PORT_CTRL_EN && d.uplFirst lane == lane)]
      (fun d =>
        let d := (List.range 3).foldl (fun d w => d.writeBridge b w (c.u32 (4 + 4 * w))) d
        c.ok d ((List.range 3).flatMap (fun w => leB 4 (d.rdN (rFAB_BRIDGE_MAC_LO b + 4 * w)))))))

end Sys2Proof.Machine
end

