-- ==== Sys2Proof/Machine/UplCmds.lean ====
section
/-! DEFINITION. The commands of 15_uplinks.md: port configuration, link state, frames received and sent, timestamps and the
diagnostic command (R438-R455). -/

namespace Sys2Proof.Machine

/-! Configuration (R438, R439). -/

/-- A lane rate and a number of lanes that R438 lists. -/
def uplCombo (ctrl : Nat) : Bool :=
  let r := fieldOf ctrl fUPL_PORT_CTRL_LANE_RATE
  let n := fieldOf ctrl fUPL_PORT_CTRL_LANES
  r == 2 || (r == 1 && decide (n < 3)) || (r == 0 && (n == 0 || n == 2))

/-- The lane is in use by another port: one that is enabled, or that has more lanes than one. -/
def Dev.uplTaken (d : Dev) (u w : Nat) : Bool :=
  let f := d.uplFirst w
  f != u && (f != w || d.bit (rUPL_PORT_CTRL f) fUPL_PORT_CTRL_EN || decide (1 < uplLanes (d.rdN (rUPL_PORT_CTRL f))))

/-- A write of UPL_PORT_CTRL that R439 refuses. -/
def Dev.uplRefused (d : Dev) (u v : Nat) : Bool :=
  let old := d.rdN (rUPL_PORT_CTRL u)
  let cfg := fun w => (fieldOf w fUPL_PORT_CTRL_LANES, fieldOf w fUPL_PORT_CTRL_LANE_RATE, fieldOf w fUPL_PORT_CTRL_FEC, fieldOf w fUPL_PORT_CTRL_MAX_FRAME)
  let n := uplLanes v
  (nbit old 0 && cfg old != cfg v) || !(uplCombo v) || u % n != 0 || (List.range n).any (fun i => d.uplTaken u (u + i))

/-- The lanes of a port. -/
def Dev.uplMembers (d : Dev) (u : Nat) : List Nat := (List.range (uplLanes (d.rdN (rUPL_PORT_CTRL u)))).map (fun i => u + i)

/-- Show which port each lane belongs to: the lanes left are one-lane ports again, those taken read 0 (R439, R451, R452). -/
def Dev.uplRegroup (d : Dev) (u : Nat) (old new : List Nat) : Dev :=
  let d := old.foldl (fun d w =>
    if new.contains w then d
    else (d.wr (rUPL_PORT_CTRL w) (regReset (rUPL_PORT_CTRL w))).put (rUPL_PORT_STATUS w) fUPL_PORT_STATUS_FIRST_LANE w) d
  new.foldl (fun d w =>
    if w = u then d else (d.wrN (rUPL_PORT_CTRL w) 0).put (rUPL_PORT_STATUS w) fUPL_PORT_STATUS_FIRST_LANE u) d

/-- Show a port's link as not UP. -/
def Dev.linkDown (d : Dev) (u : Nat) : Dev :=
  let s := rUPL_PORT_STATUS u
  ((d.put s fUPL_PORT_STATUS_LINK_UP 0).put s fUPL_PORT_STATUS_FEC_LOCK 0).put s fUPL_PORT_STATUS_ALIGNED 0

/-- EN goes to 1 (R439, R441): training starts on every member lane. -/
def Dev.uplStart (d : Dev) (u : Nat) : Dev :=
  (d.put (rUPL_PORT_STATUS u) fUPL_PORT_STATUS_TRAINING 1).startLanes ((d.uplMembers u).map uplLaneId)

/-- EN goes to 0 (R441): the transmitters fall silent and queued packets are discarded. -/
def Dev.uplStop (d : Dev) (u : Nat) : Dev :=
  let d := ((d.linkDown u).put (rUPL_PORT_STATUS u) fUPL_PORT_STATUS_TRAINING 0).uplDiscard u
  (d.uplMembers u).foldl (fun d w => d.laneOff (uplLaneId w)) d

/-- Write UPL_PORT_CTRL (R439): in a lane that is not a port's first it is ignored. -/
def Dev.writeUplCtrl (d : Dev) (u v : Nat) : Dev :=
  if d.uplFirst u ≠ u then d
  else if d.uplRefused u v then d.mark (rUPL_ERR u) fUPL_ERR_CFG_BAD
  else
    let was := d.bit (rUPL_PORT_CTRL u) fUPL_PORT_CTRL_EN
    let old := d.uplMembers u
    let d := d.access (rUPL_PORT_CTRL u) v
    let d := d.uplRegroup u old (d.uplMembers u)
    let d := if nbit v 0 && !was then d.uplStart u else if !(nbit v 0) && was then d.uplStop u else d
    d.pinUpdateAll

/-- UPL_PORT_CTRL_WRITE (R439). -/
def execUplPortCtrlWrite (u : Fin 48) (val : Word) (s : State) : Host.Outcome State Fault Refusal :=
  s.run (fun d => d.writeUplCtrl u.val val.toNat)

/-- UPLINK_ENABLE (R441): EN is set. -/
def execUplinkEnable (u : Fin 48) (s : State) : Host.Outcome State Fault Refusal :=
  s.run (fun d => d.writeUplCtrl u.val (fieldPut (d.rdN (rUPL_PORT_CTRL u.val)) fUPL_PORT_CTRL_EN 1))

/-- UPLINK_DISABLE (R441): EN is cleared. -/
def execUplinkDisable (u : Fin 48) (s : State) : Host.Outcome State Fault Refusal :=
  s.run (fun d => d.writeUplCtrl u.val (fieldPut (d.rdN (rUPL_PORT_CTRL u.val)) fUPL_PORT_CTRL_EN 0))

/-! Link state (R441). -/

/-- A port that is enabled, by its first lane. -/
def Dev.uplPort (d : Dev) (u : Nat) : Bool := d.uplFirst u == u && d.bit (rUPL_PORT_CTRL u) fUPL_PORT_CTRL_EN

/-- UPLINK_UP (R441): every lane is trained, the lanes are aligned and FEC, where the type has one, is locked. -/
def execUplinkUp (u : Fin 48) (s : State) : Host.Outcome State Fault Refusal :=
  s.run (fun d =>
    let u := u.val
    let st := rUPL_PORT_STATUS u
    if d.uplPort u && !(d.linkUp u) && (d.uplMembers u).all (fun w => d.trainState (uplLaneId w) == tsData) then
      let c := d.rdN (rUPL_PORT_CTRL u)
      let fec := fieldOf c fUPL_PORT_CTRL_LANE_RATE != 0 || fieldOf c fUPL_PORT_CTRL_FEC == 1
      let d := ((d.put st fUPL_PORT_STATUS_LINK_UP 1).put st fUPL_PORT_STATUS_TRAINING 0).put st fUPL_PORT_STATUS_ALIGNED 1
      (d.put st fUPL_PORT_STATUS_FEC_LOCK (b2n fec)).alert 0x0E02 (p4 u)
    else d)

/-- UPLINK_DOWN (R441): alignment or FEC lock is lost for 1 ms, or a lane leaves DATA. -/
def execUplinkDown (u : Fin 48) (s : State) : Host.Outcome State Fault Refusal :=
  s.run (fun d =>
    let u := u.val
    if d.uplPort u && d.linkUp u then
      let d := ((d.linkDown u).put (rUPL_PORT_STATUS u) fUPL_PORT_STATUS_TRAINING 1).uplDiscard u
      (d.mark (rUPL_ERR u) fUPL_ERR_LINK_DOWN).alert 0x0E01 (p4 u)
    else d)

/-! Frames received (R442, R445-R450). -/

/-- The bridge whose tunnel frame this is (16_fabric.md R477): its port, the peer's MAC and, where one is set, the VLAN ID. -/
def Dev.tunnelOf (d : Dev) (u : Nat) (f : List Byte) : Option Nat :=
  if beAt f (etherAt f) 2 ≠ 0x88B8 then none
  else (List.range 16).find? (fun b =>
    let hi := d.rdN (rFAB_BRIDGE_MAC_HI b)
    d.bit (rFAB_BRIDGE_CTRL b) fFAB_BRIDGE_CTRL_VALID && d.bridgePort b == u &&
    beAt f 6 6 == hi % 65536 * 2 ^ 32 + d.rdN (rFAB_BRIDGE_MAC_LO b) &&
    (!(nbit hi 31) || (isVlanAt f 12 && beAt f 14 2 % 4096 == nbits hi 27 16)))

/-- Take the R-TAG off a frame, directly after the source MAC or after one VLAN tag (R450): the frame and its number. -/
def takeRtag (f : List Byte) : List Byte × Option Nat :=
  let at_ := fun (i : Nat) => (f.take i ++ f.drop (i + 6), some (beAt f (i + 4) 2))
  if beAt f 12 2 = 0xF1C1 then at_ 12
  else if isVlanAt f 12 && beAt f 16 2 == 0xF1C1 then at_ 16
  else (f, none)

/-- The trailer of a received event message (R448). -/
def Dev.ptpTrailer (d : Dev) (u : Nat) (f : List Byte) (t frac : Nat) : List Byte :=
  if d.bit (rUPL_PORT_CTRL u) fUPL_PORT_CTRL_PTP_EN && (ptpEvent f).isSome then
    let t := boardTime t (-(sval 16 (d.rdN (rUPL_PTP_ASYM u) / 65536)))
    leB 6 (t / 1000000000) ++ leB 4 (t % 1000000000) ++ leB 2 frac ++ leB 1 u ++ leB 3 0
  else []

/-- A frame that has been validated goes on (R446, R448, R450): a notice, a tunnel frame, or a packet for the Colander. -/
def Dev.uplPass (d : Dev) (u ns frac : Nat) (f : List Byte) : Dev :=
  let t := instant d.tickNow ns
  match d.noticeFrame f 0 u t with
  | some (some r, d) => d.noticeReply u r
  | some (none, d) => d
  | none =>
    match d.tunnelOf u f with
    | some b => d.fabPacketIn (48 + b) false ns (f.drop (etherAt f + 2)) none
    | none =>
      let g := takeRtag f
      d.colEnter ⟨withFcs g.1, 0x1F, 64 + u, none, 0, false, g.2, 0, d.ptpTrailer u g.1 t frac⟩

/-- Bytes of a frame as received, with its FCS and what MACsec adds. -/
def rxBytes (f : List Byte) : Option SecTag → Nat
  | none => f.length + 4
  | some t => f.length + 4 + (if t.long then 32 else 24)

/-- A whole frame is received (R442, R445, R446). -/
def Dev.uplRx (d : Dev) (u ns frac : Nat) (f : List Byte) (fcsOk : Bool) (sec : Option SecTag) : Dev :=
  let n := rxBytes f sec
  let c := d.rdN (rUPL_PORT_CTRL u)
  if !fcsOk || decide (n < 64) || decide (max 64 (fieldOf c fUPL_PORT_CTRL_MAX_FRAME) < n) then d.bump (rUPL_CNT u 2)
  else
    let d := d.bump (rUPL_CNT u 0)
    if sec.isNone ∧ beAt f 12 2 = 0x8808 then d.bump (rUPL_CNT u 3)
    else if fieldOf c fUPL_PORT_CTRL_MACSEC_EN = 1 then
      match sec with
      | none => if beAt f 12 2 = 0x888E then d.uplPass u ns frac f else d.bump (rUPL_CNT u 5)
      | some t =>
        match d.macsecRx 0 (u / 8) t.sci t.an.val t.pn t.icvOk with
        | (true, d) => d.uplPass u ns frac f
        | (false, d) => d.bump (rUPL_CNT u 5)
    else d.uplPass u ns frac f

/-- UPLINK_FRAME_RX (R442, R445-R450): a frame is whole at a port, without its FCS and what MACsec adds; `ns` and `frac` are the
time its message timestamp point crossed the pins. -/
def execUplinkFrameRx (u : Fin 48) (ns : Fin 125000) (frac : Fin 65536) (body : List Byte) (fcsOk : Bool) (sec : Option SecTag) (s : State) :
    Host.Outcome State Fault Refusal :=
  s.run (fun d => if d.uplPort u.val && d.linkUp u.val then (d.seen ns.val).uplRx u.val ns.val frac.val body fcsOk sec else d)

/-- UPLINK_FRAME_TX (R443-R450): the port can send a frame that begins `ns` into the tick; `frac` is the stamp's fraction,
`toPins` the time from the egress stamp point to the pins in 2^-16 ns, `ecc` how its buffer reads. -/
def execUplinkFrameTx (u : Fin 48) (ns : Fin 125000) (frac : Fin 65536) (toPins : Nat) (ecc : Fin 3) (s : State) :
    Host.Outcome State Fault Refusal :=
  s.run (fun d => (d.seen ns.val).uplTx u.val ns.val frac.val toPins ecc.val)

/-! Timestamps (R452) and the command (R454). -/

/-- Move the oldest transmit stamp into UPL_TS_DATA; none leaves VALID 0. -/
def Dev.tsPop (d : Dev) (u : Nat) : Dev :=
  match d.tsQ u with
  | [] => d.put (rUPL_TS_DATA u 0) ⟨31, 31⟩ 0
  | e :: q =>
    let d := (d.setTsQ u q).put (rUPL_PORT_STATUS u) fUPL_PORT_STATUS_TS_DEPTH q.length
    (((d.wrN (rUPL_TS_DATA u 0) (2 ^ 31 + e.typ * 65536 + e.seq)).wrN (rUPL_TS_DATA u 1) e.ns).wrN (rUPL_TS_DATA u 2) (e.sec % 2 ^ 32)).wrN
      (rUPL_TS_DATA u 3) (e.frac * 65536 + e.sec / 2 ^ 32 % 65536)

/-- UPL_TS_POP (R452). -/
def execUplTsPop (u : Fin 48) (s : State) : Host.Outcome State Fault Refusal := s.run (fun d => d.tsPop u.val)

/-- DIAG_UPLINK (R454), code 0x0C03. -/
def execDiagUplink (m : Fin 64) (s : State) : Host.Outcome State Fault Refusal :=
  s.run (fun d => d.command m.val 0x0C03 (fun c d =>
    let u := c.u8 0
    let conf := c.u8 1 == 1
    let v := c.u32 4
    let x := c.expert 2
    c.checks d
      [c.mustOwn, inForm (decide (u < 48) && decide (c.u8 1 < 2) && c.only 2 0x80 && c.zero 3 1 && (if x then c.block 0xD else c.endsAt 8) &&
        (!x || c.only 0xC 1)),
       inForm (d.uplFirst u == u),
       inForm (!conf || (!(badValue (rUPL_PORT_CTRL u) v) && !(d.uplRefused u v)))]
      (fun d =>
        let d := if conf then d.writeUplCtrl u v else d
        let d := if x && c.u8 0xC == 1 then d.wrN (rUPL_PTP_ASYM u) (c.u32 8) else d
        c.ok d (leB 4 (d.rdN (rUPL_PORT_STATUS u)) ++ leB 4 (d.rdN (rUPL_ERR u)) ++ (List.range 8).flatMap (fun i => leB 4 (d.rdN (rUPL_CNT u i)))))))

end Sys2Proof.Machine
end

