-- ==== Sys2Proof/Machine/ResetOps.lean ====
section
/-! DEFINITION. Resets: power-on, pin, warm and block resets, what each keeps, the ring supervisor, and the handshake at the
clock crossings (20_clocks_boot.md R585-R594, R598). -/

namespace Sys2Proof.Machine

/-! What a reset keeps (R591). -/

/-- The device with everything at reset but the part, the free values drawn and what this step has sent. -/
def Dev.blank (d : Dev) : Dev := { part := d.part, free := d.free, out := d.out, wipes := List.range 64 }

/-- Drive the pins to their reset levels: lasers dark, TIME_OK low, ALERT_L and CLOCK_FAIL_L high. -/
def Dev.pinsReset (d : Dev) : Dev :=
  let d := d.lasersOff.timeOkLow
  let d := if d.bit rPIN_STATUS fPIN_STATUS_ALERT_L then d else (d.put rPIN_STATUS fPIN_STATUS_ALERT_L 1).emit .pin 0 [0, 1]
  if d.bit rPIN_STATUS fPIN_STATUS_CLOCK_FAIL_L then d else (d.put rPIN_STATUS fPIN_STATUS_CLOCK_FAIL_L 1).emit .pin 2 [2, 1]

/-- Carry fields of a register over a reset: the bits of a mask. -/
def Dev.carry (d old : Dev) (a mask : Nat) : Dev := d.wrN a (d.rdN a - Nat.land (d.rdN a) mask + Nat.land (old.rdN a) mask)

/-- Eight fresh random bytes four times over: a 256-bit key drawn from the device's generator (10_cipher.md R300). -/
def Dev.drawKey (d : Dev) : List Byte × Dev :=
  (List.range 4).foldl (fun r _ => let x := r.2.draw; (r.1 ++ leB 8 x.1, x.2)) ([], d)

/-- No enabled tamper input is at its active level (10_cipher.md R307). -/
def Dev.tamperQuiet (d : Dev) : Bool :=
  (List.range 4).all (fun k => !(nbit (d.rdN rSEC_STATUS) k && nbit (d.rdN rSEC_TAMPER_CTRL) (8 * k + 7)))

/-- START (R598), once AO is clocked: the device key is derived at a cold reset, and at the warm reset that follows a
zeroisation where no enabled tamper input is active (10_cipher.md R301, R307), and boot goes on to ARCHIVE. -/
def Dev.bootStart (d : Dev) (cold : Bool) : Dev :=
  if d.get rBOOT_STATUS fBOOT_STATUS_STATE ≠ 0 then d
  else
    let d := d.put rBOOT_STATUS fBOOT_STATUS_STATE 1
    if cold || (d.zeroised && d.tamperQuiet) then { d with ciph := { d.ciph with devKey := Config.pufKey } } else d

/-- AO has a clock: the stable ring, or SYSREF while the ring restarts (R582). -/
def Dev.aoClocked (d : Dev) : Bool := d.clk.sup == .run || (d.clk.sup == .ringStart && d.bit rCLK_STATUS fCLK_STATUS_AO_SRC)

/-- The latest reset's KIND and SOURCE (R601). -/
def Dev.cause (d : Dev) (kind source : Nat) : Dev := (d.put rRST_CAUSE fRST_CAUSE_KIND kind).put rRST_CAUSE fRST_CAUSE_SOURCE source

/-- What a warm reset keeps of the registers: RWS fields, the clock tree, soft spares, the zeroisation's status, and what
the pins and the die alone decide (R591; 10_cipher.md R305, R307, R313; 22_electrical.md R637, R643). -/
def Dev.keepWarm (d old : Dev) : Dev :=
  let d := (d.carry old rCLK_CTRL 0x00FF0000).carry old rCLK_STATUS 0xFEFFFFFF
  let d := ((d.carry old rCLK_VOID 0xFFFFFFFF).carry old rCLK_RING_PERIOD 0xFFFF).carry old rBOOT_CTRL 0xE000FFFF
  let d := (d.carry old rSEC_TAMPER_CTRL 0xFFFFFFFF).carry old rSEC_STATUS 0xFFFFFFFF
  let d := d.carry old rPIN_STATUS 0x180000F0
  (List.range 836).foldl (fun d i => d.wr (rMTEST_REPAIR i) (old.rd (rMTEST_REPAIR i))) d

/-- A warm reset, with its SOURCE: 0 register, 1 command, 2 Clock Void, 3 PLL loss, 4 firmware limit (R591). -/
def Dev.warmReset (d : Dev) (source : Nat) : Dev :=
  let d := d.pinsReset
  let n := (d.blank).keepWarm d
  let n := { n with
    clk := { sup := d.clk.sup, attempts := d.clk.attempts, trying := d.clk.trying }
    ciph := { devKey := d.ciph.devKey, zeroing := d.ciph.zeroing }
    pin := { challenge := d.pin.challenge, fails := d.pin.fails } }
  let n := if d.zeroised then n.put rCIPH_STATUS fCIPH_STATUS_STATE 2 else n
  let n := n.cause 2 source
  if n.aoClocked then n.bootStart false else n

/-- A pin reset (R591): as power-on, but for soft spares and a running, stable ring. -/
def Dev.pinReset (d : Dev) : Dev :=
  let d := d.pinsReset
  let n := (List.range 836).foldl (fun n i => n.wr (rMTEST_REPAIR i) (d.rd (rMTEST_REPAIR i))) d.blank
  let n := n.cause 1 0
  if d.clk.sup = .run then
    let n := (n.carry d rCLK_STATUS 0x80077FFF).carry d rCLK_RING_PERIOD 0xFFFF
    ({ n with clk := { sup := .run } }).bootStart true
  else n

/-- Power-on (R588, R591): the first ring attempt begins. -/
def Dev.powerOn (d : Dev) : Dev := d.blank

/-- PWR_GOOD falls (R588): the supervisor goes OFF, and nothing is kept. -/
def Dev.powerOff (d : Dev) : Dev :=
  let n := d.blank
  { n with clk := { n.clk with sup := .off, trying := false } }

/-! The ring supervisor (R586-R590). -/

/-- A start attempt is stable (R588): the ring's measured period in ps. -/
def Dev.ringStable (d : Dev) (period : Nat) : Dev :=
  let good := fun (d : Dev) =>
    let d := (d.put rCLK_STATUS fCLK_STATUS_RING_STABLE 1).put rCLK_STATUS fCLK_STATUS_RING_COUNT 16384
    let d := (d.put rCLK_STATUS fCLK_STATUS_AO_SRC 0).put rCLK_STATUS fCLK_STATUS_SUP_STATE 1
    { d.wrN rCLK_RING_PERIOD (period % 65536) with clk := { d.clk with sup := .run, trying := false } }
  match d.clk.sup with
  | .ringStart => (good d).bootStart (d.get rRST_CAUSE fRST_CAUSE_KIND != 2)
  | .void =>
    if !d.clk.trying then d
    else
      let n := d.get rCLK_VOID fCLK_VOID_VOID_COUNT + 1
      let a := d.clk.attempts
      let d := (d.put rCLK_VOID fCLK_VOID_VOID_COUNT n).put rCLK_VOID fCLK_VOID_LAST_ATTEMPTS a
      let d := d.when (decide (256 ≤ n)) (fun d => d.mark rCLK_VOID fCLK_VOID_OVF)
      let d := (good d).warmReset 2
      { d with clk := { d.clk with voidDue := true, attempts := 0 } }
  | _ => d

/-- A stable ring's period leaves its range (R587, R588). -/
def Dev.ringLost (d : Dev) (period : Nat) : Dev :=
  if d.clk.sup ≠ .run then d
  else
    let d := (d.put rCLK_STATUS fCLK_STATUS_RING_STABLE 0).put rCLK_STATUS fCLK_STATUS_RING_COUNT 0
    let d := d.wrN rCLK_RING_PERIOD (period % 65536)
    if d.hostLost then d.enterVoid
    else
      let d := (d.put rCLK_STATUS fCLK_STATUS_SUP_STATE 0).put rCLK_STATUS fCLK_STATUS_AO_SRC (b2n (d.refValid 0 || d.refValid 1))
      let d := { d with clk := { d.clk with sup := .ringStart, trying := true } }
      (d.mark rCLK_ERR fCLK_ERR_RING_RESTART).alert 0x1307 (p4 (d.rdN rCLK_RING_PERIOD))

/-- A start attempt fails (R588, R590). -/
def Dev.attemptFails (d : Dev) : Dev :=
  match d.clk.sup with
  | .ringStart => d.mark rCLK_ERR fCLK_ERR_RING_FAIL
  | .void =>
    if !d.clk.trying then d
    else if 8 ≤ d.clk.attempts then
      ({ d with clk := { d.clk with sup := .failed, trying := false } }.put rPIN_STATUS fPIN_STATUS_CLOCK_FAIL_L 0).emit .pin 2 [2, 0]
    else { d with clk := { d.clk with trying := false } }
  | _ => d

/-- The next start attempt in VOID begins (R589). -/
def Dev.voidAttempt (d : Dev) : Dev :=
  if d.clk.sup = .void ∧ !d.clk.trying then { d with clk := { d.clk with trying := true, attempts := d.clk.attempts + 1 } } else d

/-! RST_CTRL (R601). -/

/-- Write RST_CTRL: it acts only with its KEY. -/
def Dev.writeRstCtrl (d : Dev) (v : Nat) : Dev :=
  if fieldOf v fRST_CTRL_KEY ≠ 0x5A then d
  else
    let d := if nbit v 1 then d.put rBOOT_CTRL fBOOT_CTRL_FULL_NEXT 1 else d
    if nbit v 0 then d.warmReset 0 else d

/-! Block resets (R592-R594). -/

/-- The crossings of a block with the core. -/
def Dev.crossingsOf (d : Dev) (kind idx : Nat) : List Nat :=
  if kind = 0 then [162]
  else if kind = 1 then [idx]
  else if kind = 2 then (d.uplMembers idx).map (fun u => 48 + u)
  else (d.bndMembers idx).map (fun f => 96 + f)

/-- A block that can be reset: KIND 0, a tree that is present, or a port or bundle by its first lane. -/
def Dev.blockOk (d : Dev) (kind idx : Nat) : Bool :=
  kind == 0 || (kind == 1 && d.treeOk idx) || (kind == 2 && decide (idx < 48) && d.uplFirst idx == idx) ||
  (kind == 3 && decide (idx < 48) && d.firstLane idx)

/-- Return the registers of an address range to their reset values. -/
def Dev.regsReset (d : Dev) (lo hi : Nat) : Dev := { d with regs := skeep (fun a => !(decide (lo ≤ a) && decide (a < hi))) d.regs }

/-- A tree's four sub-blocks return to their reset values; Catalogue records are kept (R592). -/
def Dev.resetTree (d : Dev) (t : Nat) : Dev :=
  let hs := d.termsOf t
  let d := if d.treeEn t then (d.put (rTREE_LINE_CTRL t) fTREE_LINE_CTRL_EN 0).treeDisable t else d
  let d := if d.bit (rTREE_LINE_STATUS t) fTREE_LINE_STATUS_LASER_ON then d.emit .txdis t [1] else d
  let d := d.regsReset (0x1000000 + 0x10000 * t) (0x1010000 + 0x10000 * t)
  let d := (((d.setTree t {}).setRxT t {}).setActT t {}).setCage t {}
  let d := d.setLaneX (0x100C000 + 0x10000 * t) {}
  hs.foldl (fun d h => (d.setPreset h {}).setLineOpt h {}) d

/-- An uplink port goes to DOWN, and the registers of its lanes to their reset values. -/
def Dev.resetUpl (d : Dev) (u : Nat) : Dev :=
  let ms := d.uplMembers u
  let d := if d.bit (rUPL_PORT_CTRL u) fUPL_PORT_CTRL_EN then d.uplStop u else d
  (ms.foldl (fun d w =>
    let d := d.regsReset (0x1400000 + 0x10000 * w) (0x1410000 + 0x10000 * w)
    ((d.setLaneX (0x140C000 + 0x10000 * w) {}).setGateX (64 + w) {}).setTsQ w []) d).pinUpdateAll

/-- A bundle goes to DOWN, and its registers to their reset values; connection-memory pages are kept. -/
def Dev.resetBnd (d : Dev) (b : Nat) : Dev :=
  let ms := d.bndMembers b
  let d := if d.bndEn b then d.bndStop b else d
  let d := d.regsReset (0x1800000 + 0x10000 * b) (0x1808000 + 0x10000 * b)
  (ms.foldl (fun d f =>
    let d := d.regsReset (0x180C000 + 0x10000 * f) (0x1810000 + 0x10000 * f)
    d.setLaneX (0x180C000 + 0x10000 * f) {}) (d.setFabBnd b {})).pinUpdateAll

/-- The units a crossing discards at a reset and while its peer is in reset: what its FIFO holds at that instant is no state
of this model, so the number is a free value (log entry 3). -/
def Dev.crossDrop (d : Dev) (c : Nat) : Dev :=
  let r := d.draw
  let n := r.1 % 1024
  let d := (r.2.bumpBy (rRST_XDROP c) n).setCrossing c 1
  match d.clk.blk with
  | some b => { d with clk := { d.clk with blk := some { b with drops := b.drops + n } } }
  | none => d

/-- A block reset begins (R592, R593): its crossings discard what they hold, and the block returns to reset. -/
def Dev.blockReset (d : Dev) (kind idx : Nat) (mbx : Option Nat) : Dev :=
  let cs := d.crossingsOf kind idx
  let d := { d with clk := { d.clk with blk := some ⟨kind, idx, 0, mbx⟩ } }
  let d := cs.foldl Dev.crossDrop (d.put rRST_BLOCK fRST_BLOCK_BUSY 1)
  if kind = 0 then
    let d := { d with clk := { d.clk with mpDown := true } }
    (d.glk.cmds.filter (fun c => mbx != some c.mbx)).foldl (fun d c => d.finish c.mbx resNotReady []) d
  else if kind = 1 then d.resetTree idx
  else if kind = 2 then d.resetUpl idx
  else d.resetBnd idx

/-- Write RST_BLOCK. -/
def Dev.writeRstBlock (d : Dev) (v : Nat) : Dev :=
  let d := (d.access rRST_BLOCK v).put rRST_BLOCK fRST_BLOCK_GO 0
  if !(nbit v 30) then d
  else if d.clk.blk.isSome then d.put rRST_BLOCK fRST_BLOCK_RESULT 1
  else if !(d.blockOk (fieldOf v fRST_BLOCK_KIND) (fieldOf v fRST_BLOCK_INDEX)) then d.put rRST_BLOCK fRST_BLOCK_RESULT 2
  else (d.put rRST_BLOCK fRST_BLOCK_RESULT 0).blockReset (fieldOf v fRST_BLOCK_KIND) (fieldOf v fRST_BLOCK_INDEX) none

/-- The reset ends once every crossing is back in RUN (R605). -/
def Dev.blockDone (d : Dev) : Dev :=
  match d.clk.blk with
  | none => d
  | some b =>
    if !(d.clk.cross.isEmpty) then d
    else
      let d := { d with clk := { d.clk with blk := none } }.put rRST_BLOCK fRST_BLOCK_BUSY 0
      match b.mbx with
      | some m => d.finish m resOk (leB 8 d.tickNow ++ leB 4 b.drops)
      | none => d

/-- A peer leaves reset and asserts ACK (R593): PEER_RESET, RESYNC, and RUN once both ACKs are seen. -/
def Dev.handshake (d : Dev) (c : Nat) : Dev := if d.crossing c = 0 then d else (d.setCrossing c 0).blockDone

end Sys2Proof.Machine
end

