-- ==== Sys2Proof/Machine/RxCmds.lean ====
section
/-! DEFINITION. The commands of 04_burst_rx.md but PACKET_REASSEMBLED: descriptors, the search, codewords, closure,
presets, tap negotiation, per-terminal scans and their mailbox commands (R87-R129). -/

namespace Sys2Proof.Machine

/-- DESCRIPTOR_ENQUEUE (08_ladle_maps.md R247; R103, R104). -/
def execDescriptorEnqueue (t : Fin 48) (e : Fin 4096) (late : Bool) (s : State) : Host.Outcome State Fault Refusal :=
  s.run (fun d => d.descEnqueue t.val e.val late)

/-- DELIMITER_SEARCH (R105-R108): the candidates found; `taps` as adapted in a standby's test burst. -/
def execDelimiterSearch (t : Fin 48) (act : Bool) (found : List Cand) (taps : List Byte) (s : State) : Host.Outcome State Fault Refusal :=
  s.run (fun d => d.delimSearch t.val act found taps)

/-- CODEWORD_DECODE (R118, R119). -/
def execCodewordDecode (t : Fin 48) (r : CwResult) (hit : List Nat) (s : State) : Host.Outcome State Fault Refusal :=
  s.run (fun d => d.codeword t.val r hit)

/-- REASSEMBLY_TIMEOUT (R119): no further burst of the allocation within 64 ticks. -/
def execReassemblyTimeout (a : Fin 65536) (s : State) : Host.Outcome State Fault Refusal :=
  s.run (fun d => if (d.reasmOf a.val).tick + 64 ≤ d.tickNow then d.reasmDrop (d.alloc a.val).tree a.val else d)

/-- GRANT_CLOSE (R121). -/
def execGrantClose (t : Fin 48) (e : Fin 4096) (fin : BurstEnd) (s : State) : Host.Outcome State Fault Refusal :=
  s.run (fun d => d.grantClose t.val e.val fin)

/-- STRAY_LIGHT (R124; 05_activation.md R146, R148). -/
def execStrayLight (t : Fin 48) (s : State) : Host.Outcome State Fault Refusal :=
  s.run (fun d =>
    let d := d.bump (rBRX_CNT t.val 13)
    if d.standby t.val then d else d.strayReport t.val)

/-- OVERLONG (R124; 05_activation.md R146): signal beyond E + 20 ns of an entry's burst. -/
def execOverlong (t : Fin 48) (e : Fin 4096) (s : State) : Host.Outcome State Fault Refusal :=
  s.run (fun d =>
    let x := d.iftE (t.val * iftPerTree + e.val)
    if !x.used || x.kind == .sn then d else
    let d := d.bump (rBRX_CNT t.val 14)
    if d.standby t.val then d else d.rogueEvent x.term 1)

/-- ROGUE_SEARCH_STEP (05_activation.md R148). -/
def execRogueSearchStep (t : Fin 48) (s : State) : Host.Outcome State Fault Refusal := s.run (fun d => d.searchStep t.val)

/-- BRX_PRESET_ACCESS (R101): a write of BRX_PRESET_CMD. -/
def execBrxPresetAccess (t : Fin 48) (val : Word) (s : State) : Host.Outcome State Fault Refusal :=
  s.run (fun d => if d.treeOk t.val then d.writePresetCmd t.val val.toNat else d)

/-- BRX_PROF_WRITE (R125). -/
def execBrxProfWrite (t : Fin 48) (k : Fin 4) (val : Word) (s : State) : Host.Outcome State Fault Refusal :=
  s.run (fun d => if d.treeOk t.val then d.writeProf t.val k.val val.toNat else d)

/-! Tap negotiation (R110-R116). -/

/-- TAP_NEGOTIATION_START (R116). -/
def execTapNegotiationStart (t : Fin 48) (s : State) : Host.Outcome State Fault Refusal := s.run (fun d => d.tuneNext t.val)

/-- TAP_RESPONSE (R112, R113): the content of the message of a terminal. -/
def execTapResponse (t : Fin 48) (id : Fin 1024) (content : List Byte) (s : State) : Host.Outcome State Fault Refusal :=
  s.run (fun d => match d.findTerm t.val id.val with
    | some h => d.tapAnswer t.val h content
    | none => d)

/-- TAP_MEASUREMENT_DONE (R114). -/
def execTapMeasurementDone (t : Fin 48) (s : State) : Host.Outcome State Fault Refusal := s.run (fun d => d.tuneMeasured t.val)

/-- TAP_REQUEST_TIMEOUT (R115). -/
def execTapRequestTimeout (t : Fin 48) (s : State) : Host.Outcome State Fault Refusal := s.run (fun d => d.tapTimeout t.val)

/-- TAP_BURSTS_TIMEOUT (R115). -/
def execTapBurstsTimeout (t : Fin 48) (s : State) : Host.Outcome State Fault Refusal := s.run (fun d => d.tuneBurstsTimeout t.val)

/-- RETUNE_DUE (R116). -/
def execRetuneDue (t : Fin 48) (h : Fin 16384) (s : State) : Host.Outcome State Fault Refusal := s.run (fun d => d.retuneDue t.val h.val)

/-! Per-terminal scan (R123) and the mailbox commands (R127-R129). -/

/-- EYESCAN_LIMIT (R123): LIMIT ticks have passed; the scan ends with the disagreements counted so far. -/
def execEyescanLimit (t : Fin 48) (count : Word) (s : State) : Host.Outcome State Fault Refusal :=
  s.run (fun d =>
    let l : LaneId := .tree t
    let x := d.laneX (laneBase l)
    let lim := d.get (rBRX_ESCAN_SEL t.val) fBRX_ESCAN_SEL_LIMIT
    if !x.scan || lim == 0 || decide (d.tickNow < x.scanTick + lim) then d else
    let d := (d.endScan l count.toNat).mark (rBRX_ESCAN_STAT t.val) fBRX_ESCAN_STAT_TIMEOUT
    (d.waiting 0x02C1).foldl (fun d c => if c.note.getD 0 48 = t.val then c.fail d resTimeout else d) d)

/-- TERM_RETUNE (R127), code 0x02C0. -/
def execTermRetune (m : Fin 64) (s : State) : Host.Outcome State Fault Refusal :=
  s.run (fun d => d.command m.val 0x02C0 (fun c d =>
    let t := c.u8 0
    let x := c.expert 4
    let act := if x then c.u8 5 else 0
    match d.findTerm t (c.u16 2) with
    | none => c.checks d [c.mustOwn, inForm false] (fun d => d)
    | some h =>
      c.checks d
        [c.mustOwn, inForm (d.treeOk t && c.zero 1 1 && c.only 4 0x80 && decide (act ≤ 2)),
         inForm (if !x then c.endsAt 5 else if act = 0 then decide (c.u8 6 ≤ 16) && c.block 7 else if act = 1 then c.block 6 else
           c.zero 6 10 && c.block 0x50 && c.u8 0x10 < 16 && c.u8 0x11 < 16 && c.u8 0x12 < 16),
         (act != 0 || d.mode t == 2, resNotReady),
         (act != 0 || d.tuneHas t h || decide ((d.rxT t).tuneQ.length < 64), resBusy)]
        (fun d =>
          if act = 0 then
            let d := d.tuneJoin t h (if x then c.u8 6 else 0) false
            c.ok d (leB 1 ((((d.rxT t).tuneQ.map Prod.fst).idxOf? h).getD 0))
          else if act = 1 then c.ok d (d.preset h).image
          else c.ok (d.presetWrite t h (slice c.req 0x10 64)) [])))

/-- TERM_EYESCAN (R128), code 0x02C1. -/
def execTermEyescan (m : Fin 64) (s : State) : Host.Outcome State Fault Refusal :=
  s.run (fun d => d.command m.val 0x02C1 (fun c d =>
    let t := c.u8 0
    let slot := c.u8 4
    let eye := c.u8 5
    let dwell := c.u8 6
    let ctrl := 2 ^ 30 + dwell % 16 * 2 ^ 26 + eye % 4 * 2 ^ 24 + c.u8 8 * 2 ^ 16 + c.u8 7 % 64
    let l : LaneId := .tree ⟨t % 48, Nat.mod_lt _ (by decide)⟩
    c.checks d
      [c.mustOwn, inForm (d.treeOk t && c.zero 1 1 && decide (slot < 4) && decide (eye < 4) && decide (dwell < 16) &&
        decide (-32 ≤ c.s8 7) && decide (c.s8 7 < 32) && c.endsAt 11),
       inForm (d.findTerm t (c.u16 2)).isSome, (!(d.laneX (laneBase l)).scan, resBusy)]
      (fun d =>
        let d := d.wrN (rBRX_ESCAN_SEL t) (2 ^ 31 + slot * 2 ^ 26 + c.u16 2 % 1024 * 2 ^ 16 + c.u16 9)
        c.wait (d.writeEscan l ctrl) [t])))

/-- TREE_BRX_COUNTERS (R129), code 0x0104. -/
def execTreeBrxCounters (m : Fin 64) (s : State) : Host.Outcome State Fault Refusal :=
  s.run (fun d => d.command m.val 0x0104 (fun c d =>
    let t := c.u8 0
    let x := nbit (c.u8 1) 0
    c.checks d [c.treeRights d t, (c.isOwner || !x, resNotPermitted), inForm (d.treeOk t && c.only 1 1 && c.endsAt 2)] (fun d =>
      let resp := (List.range 16).flatMap (fun i => leB 4 (d.rdN (rBRX_CNT t i)))
      let d := if x then (List.range 16).foldl (fun d i => d.put (rBRX_CNT t i) ⟨31, 31⟩ 0) d else d
      c.ok d resp)))

end Sys2Proof.Machine
end

