-- ==== Sys2Proof/Machine/RegOps.lean ====
section
/-! DEFINITION. A register by its address in the privileged window: what a read shows, and what a write does: the
behaviour its chapter gives it, or storing as its access codes lay down (00_scope.md R2, R6-R9, 19_gellen.md R559). -/

namespace Sys2Proof.Machine

/-! Windows onto a selected list (09_downstream.md R278). -/

/-- The tree that DSQ_GATE_SEL names. -/
def Dev.gateSel (d : Dev) : Nat := d.get rDSQ_GATE_SEL fDSQ_GATE_SEL_TREE

/-- Entry `e` of the pending list (0) or of the active list (1) of that tree. -/
def Dev.gateWindow (d : Dev) (which e : Nat) : Nat :=
  let g := d.gateX d.gateSel
  if !(d.treeOk d.gateSel) then 0
  else if which = 0 then sget (fun _ => 0) g.pend e
  else match g.active with | some l => l.entries.getD e 0 | none => 0

/-- Write an entry of the pending list of that tree. -/
def Dev.writePend (d : Dev) (e v : Nat) : Dev :=
  if d.treeOk d.gateSel then d.updGateX d.gateSel (fun x => { x with pend := sset (fun _ => 0) x.pend e v }) else d

/-! Absent blocks (R2, R559). -/

/-- The address belongs to a fused-off tree or DRAM channel. -/
def Dev.fusedOff (d : Dev) (a : Nat) : Bool :=
  d.part == .c4 &&
  ((decide (0x1180000 ≤ a) && decide (a < 0x1300000)) || (decide (0x120000 ≤ a) && decide (a < 0x130000) && decide (8 ≤ (a - 0x120000) / 0x1000) &&
      decide ((a - 0x120000) % 0x1000 < 0x800)) ||
   (decide (0x161000 ≤ a) && decide (a < 0x167000) && decide (24 ≤ (a - 0x161000) / 0x200)))

/-- The address belongs to a block of the privileged window (R559). -/
def inBlock (a : Nat) : Bool :=
  decide (a < 0x130000) || (decide (0x140000 ≤ a) && decide (a < 0x1300000)) ||
  (decide (0x1400000 ≤ a) && decide (a < 0x1700000)) || (decide (0x1800000 ≤ a) && decide (a < 0x1B00000)) ||
  (decide (0x1C00000 ≤ a) && decide (a < 0x1C10000))

/-! Reads. -/

/-- What a register shows. -/
def Dev.regRead (d : Dev) (a : Nat) : Nat :=
  if d.fusedOff a then 0
  else if a = rGLOBAL_ID then
    fieldPut (d.rdN a) fGLOBAL_ID_VARIANT (match d.part with | .c => 0 | .e => 1 | .c4 => 2)
  else if a = rDRAM_CTRL ∧ d.part = .c4 then fieldPut (d.rdN a) fDRAM_CTRL_CH8 1
  else if a = rCAT_TEN_CHAN_USE 0 then Nat.lor (Nat.land (d.rdN a) (readMask a)) (d.cat.openA.length * 2 ^ 16)
  else if 0x167000 ≤ a ∧ a < 0x167800 then d.gateWindow ((a - 0x167000) / 0x400) ((a - 0x167000) % 0x400 / 4)
  else match d.colView a with
    | some v => v
    | none => Nat.land (d.rdN a) (readMask a)

/-! Writes, block by block. -/

/-- A write within the GLOBAL block. -/
def Dev.writeGlobal (d : Dev) (a v : Nat) : Dev :=
  if a = rTICK_REQ then d.reqNext v
  else if a = rTICK_TREQ then d.writeTreq v
  else d.access a v

/-- A write within the GLK block (R577). -/
def Dev.writeGlk (d : Dev) (a v : Nat) : Dev :=
  if a = rGLK_CTRL then d.writeGlkCtrl v
  else if a = rGLK_ALERT_ACK then d.writeAlertAck v
  else if a = rGLK_ALERT_SEL then d.writeAlertSel v
  else if a = rGLK_VIOL_POP then d.violPop v
  else if 0x800C0 ≤ a ∧ a < 0x80100 then d.writeOwner ((a - 0x800C0) / 4) v
  else if 0x81000 ≤ a ∧ a < 0x81600 then
    (if (a - 0x81000) % 0x40 < 0x1C then d.writeRing ((a - 0x81000) / 0x40) ((a - 0x81000) % 0x40 / 4) v else d)
  else if h : 0x88000 ≤ a ∧ a < 0x90000 then d.writeLane (.glk ⟨(a - 0x88000) / 0x1000, by omega⟩) ((a - 0x88000) % 0x1000) v
  else d.access a v

/-- A write within the ALM block (18_almanac.md R541); a latch or an offset takes the time the commands have shown, and the
fraction of the latched time is a free value. -/
def Dev.writeAlm (d : Dev) (a v : Nat) : Dev :=
  if a = rALM_LATCH then (let r := d.draw; r.2.latchTime v (r.1 % 65536))
  else if a = rALM_SRC then d.writeSrc v
  else if a = rALM_MEAS_LO then d.writeMeas false v
  else if a = rALM_MEAS_HI then d.writeMeas true v
  else if a = rALM_PIN_CTRL then d.writePinCtrl v
  else if 0x90100 ≤ a ∧ a < 0x90180 then
    (if (a - 0x90100) % 0x20 < 0x1C then d.writePulse ((a - 0x90100) / 0x20) ((a - 0x90100) % 0x20 / 4) v else d)
  else d.access a v

/-- A write within the CNT block (21_counters_test.md R625). -/
def Dev.writeCnt (d : Dev) (a v : Nat) : Dev :=
  if a = rCNT_CLEAR then d.writeCntClear v
  else if 0xA8400 ≤ a ∧ a < 0xA8C00 then
    (let w := (a - 0xA8400) % 0x20
     if w = 0 then d.writeCntFlt ((a - 0xA8400) / 0x20) 0 v
     else if 8 ≤ w ∧ w < 0x18 then d.writeCntFlt ((a - 0xA8400) / 0x20) (w / 4 - 1) v else d)
  else if 0xA9000 ≤ a ∧ a < 0xA9400 then
    (let u := (a - 0xA9000) / 0x40
     let w := (a - 0xA9000) % 0x40
     if w = 0 then d.writeSmpCtrl u v else if w = 0xC then (if nbit v 0 then d.smpPop u else d) else d.access a v)
  else if 0xAC000 ≤ a ∧ a < 0xB0000 then d.writeCntCfg ((a - 0xAC000) / 4) v
  else d.access a v

/-- A write within the STK and PAN blocks (13_stacks_pantry.md R400, R401). -/
def Dev.writePan (d : Dev) (a v : Nat) : Dev :=
  if a = rSTK_CMD then d.writeStkCmd v
  else if a = rSTK_CTRL then d.writeStkCtrl v
  else if 0x110400 ≤ a ∧ a < 0x110A20 then
    (let w := (a - 0x110400) % 0x10
     if w < 8 then d.writePanRes false ((a - 0x110400) / 0x10) (w / 4) v else d)
  else if 0x110A80 ≤ a ∧ a < 0x110B90 then
    (let w := (a - 0x110A80) % 0x10
     if w < 8 then d.writePanRes true ((a - 0x110A80) / 0x10) (w / 4) v else d)
  else d.access a v

/-- A write within the DRAM block (14_dram.md R432, R433). -/
def Dev.writeDram (d : Dev) (a v : Nat) : Dev :=
  if a = rDRAM_CTRL then d.writeDramCtrl v
  else if a = rSP_BASE_LO then d.writeSpRegion 0 v
  else if a = rSP_BASE_HI then d.writeSpRegion 1 v
  else if a = rSP_SIZE then d.writeSpRegion 2 v
  else if a = rSP_CTRL then d.writeSpCtrl (nbit v fSP_CTRL_EN.lo)
  else d.access a v

/-- A write within the DSQ block (09_downstream.md R278). -/
def Dev.writeDsq (d : Dev) (a v : Nat) : Dev :=
  if a = rDSQ_SMP_SEL then d.writeSmpSel v
  else if h : 0x161000 ≤ a ∧ a < 0x167000 then
    (let t := (a - 0x161000) / 0x200
     let w := (a - 0x161000) % 0x200
     if w = 0 then d.writeDsTree t v
     else if w = 4 then d.writeDsAdmit t v
     else if w = 0x24 then d.gateCmd (.tree ⟨t, by omega⟩) v
     else if 0x40 ≤ w ∧ w < 0x150 then
       (if w % 0x10 < 0xC then d.writeDsTen t (regNode ((w - 0x40) / 0x10)) (w % 0x10 / 4) v else d)
     else d.access a v)
  else if 0x167000 ≤ a ∧ a < 0x167400 then d.writePend ((a - 0x167000) / 4) v
  else if 0x168000 ≤ a ∧ a < 0x16C000 then
    (let k := (a - 0x168000) / 0x100
     let w := (a - 0x168000) % 0x100
     if w = 0 then d.writeHistCfg k v else if w = 8 then d.writeHistCmd k v else d.access a v)
  else d.access a v

/-- A write within the LADLE block (07_ladle_demand.md R222, 08_ladle_maps.md R251). -/
def Dev.writeLad (d : Dev) (a v : Nat) : Dev :=
  if a = rLADLE_IFT_SEL then d.writeIftSel v
  else if 0x170100 ≤ a ∧ a < 0x170280 then (if a % 8 = 0 then d.writeLadAdmit ((a - 0x170100) / 8) v else d)
  else if 0x171000 ≤ a ∧ a < 0x172000 then
    (if (a - 0x171000) % 0x10 < 0xC then d.writeNsrc ((a - 0x171000) / 0x10) ((a - 0x171000) % 0x10 / 4) v else d)
  else d.access a v

/-- A write within the CAT block (06_catalogue.md R183-R185). -/
def Dev.writeCat (d : Dev) (a v : Nat) : Dev :=
  if a = rCAT_BASE_LO then d.writeCatBase false v
  else if a = rCAT_BASE_HI then d.writeCatBase true v
  else if a = rCAT_REC_CMD then d.writeRecCmd v
  else if 0x180400 ≤ a ∧ a < 0x180800 then
    (if (a - 0x180400) % 0x40 < 0x30 then d.writeCatTen ((a - 0x180400) / 0x40) ((a - 0x180400) % 0x40 / 4) v else d)
  else d.access a v

/-- A write within the CIPH and SEC blocks (10_cipher.md R311, R313). -/
def Dev.writeCiph (d : Dev) (a v : Nat) : Dev :=
  if a = rSEC_ZEROISE then d.writeZeroise v
  else if a = rCIPH_KEY_SEL then d.writeKeySel v
  else if a = rCIPH_TEST then d.writeCiphTest v
  else if 0x1A0040 ≤ a ∧ a < 0x1A0054 then d.writeFenced ((a - 0x1A0040) / 4) v
  else d.access a v

/-- A write within the COL, FWD and SIEVE blocks (11_colander.md R347, 12_forwarding.md R375, 17_protection.md R515). -/
def Dev.writeCore (d : Dev) (a v : Nat) : Dev :=
  if a = rCOL_STAGE_CMD then d.writeStageCmd v
  else if a = rFWD_CMD then d.writeFwdCmd v
  else if a = rFWD_HASH_SEED then d.writeSeed v
  else if 0x151000 ≤ a ∧ a < 0x151100 then
    (if a % 0x10 < 0xC then d.writeTbl ((a - 0x151000) / 0x10) (a % 0x10 / 4) v else d)
  else if a = rSIEVE_SEL then d.writeSieveSel v
  else if 0x190100 ≤ a ∧ a < 0x190400 then
    (if a % 0x10 < 8 then d.writePair ((a - 0x190100) / 0x10) (a % 0x10 / 4) v else d)
  else d.access a v

/-- A write within TREE[t]: tree line, BRX, ACT and lane. -/
def Dev.writeTree (d : Dev) (t : Fin 48) (w v : Nat) : Dev :=
  let a := 0x1000000 + 0x10000 * t.val + w
  if a = rTREE_LINE_CTRL t.val then d.writeLineCtrl t.val v
  else if a = rTREE_RSSI_CTRL t.val then d.writeRssi t.val v
  else if a = rTREE_MOD_CTRL t.val then d.writeModCtrl (.tree t) v
  else if 0x4020 ≤ w ∧ w < 0x4040 then d.writeProf t.val ((w - 0x4020) / 4) v
  else if a = rBRX_PRESET_CMD t.val then d.writePresetCmd t.val v
  else if a = rACT_CTRL t.val ∨ a = rACT_REACH t.val then d.writeReach t.val a v
  else if a = rACT_TERM_SEL t.val then (d.access a v).showTerm t.val
  else if 0xC000 ≤ w then d.writeLane (.tree t) (w - 0xC000) v
  else d.access a v

/-- A write within UPL[u]. -/
def Dev.writeUpl (d : Dev) (u : Fin 48) (w v : Nat) : Dev :=
  let a := 0x1400000 + 0x10000 * u.val + w
  if a = rUPL_PORT_CTRL u.val then d.writeUplCtrl u.val v
  else if a = rUPL_TS_POP u.val then (if nbit v 0 then d.tsPop u.val else d)
  else if a = rUPL_GATE_CMD u.val then d.gateCmd (.upl u) v
  else if 0xC000 ≤ w then d.writeLane (.upl u) (w - 0xC000) v
  else d.access a v

/-- A write within FAB[f]; the device-wide registers stand in FAB[0] (16_fabric.md R483). -/
def Dev.writeFab (d : Dev) (f : Fin 48) (w v : Nat) : Dev :=
  let a := 0x1800000 + 0x10000 * f.val + w
  if a = rFAB_BND_CTRL f.val then d.writeBndCtrl f.val v
  else if a = rFAB_CTRL then d.writeFabCtrl v
  else if a = rFAB_SHELFMARK then d.writeShelfmark v
  else if a = rFAB_CM_CMD then d.writeCmCmd v
  else if a = rFAB_TBL_CMD then d.writeTblCmd v
  else if 0x1808100 ≤ a ∧ a < 0x1808200 then
    (if a % 0x10 < 0xC then d.writeBridge ((a - 0x1808100) / 0x10) (a % 0x10 / 4) v else d)
  else if 0xC000 ≤ w then d.writeLane (.fab f) (w - 0xC000) v
  else d.access a v

/-- A write within the PIN block (22_electrical.md R645). -/
def Dev.writePinBlk (d : Dev) (a v : Nat) : Dev :=
  if h : 0x1C00100 ≤ a ∧ a < 0x1C00280 then
    (if (a - 0x1C00100) % 0x20 = 0 then d.writeModCtrl (.pin ⟨(a - 0x1C00100) / 0x20, by omega⟩) v else d.access a v)
  else d.access a v

/-- A write of a register outside the mailboxes and BOOT_FLASH_CMD, which reach the byte memories. In NOBOOT only the
BOOT_FLASH registers act, with the ports and the resets that follow a rewrite (20_clocks_boot.md R598). -/
def Dev.regWrite (d : Dev) (a v : Nat) : Dev :=
  if d.fusedOff a then d
  else if 0x80000 ≤ a ∧ a < 0x90000 then d.writeGlk a v
  else if a = rRST_CTRL then d.writeRstCtrl v
  else if 0x30000 ≤ a ∧ a < 0x40000 then d.access a v
  else if d.get rBOOT_STATUS fBOOT_STATUS_STATE = 7 then d
  else if a < 0x10000 then d.writeGlobal a v
  else if a = rRST_BLOCK then d.writeRstBlock v
  else if a < 0x30000 then d.access a v
  else if 0x90000 ≤ a ∧ a < 0xA0000 then d.writeAlm a v
  else if 0xA0000 ≤ a ∧ a < 0xB0000 then d.writeCnt a v
  else if a = rMTEST_CTRL then d.writeMtest v
  else if a = rMTEST_LOG_POP then (if nbit v 0 then d.mtestPop else d)
  else if 0x100000 ≤ a ∧ a < 0x120000 then d.writePan a v
  else if 0x120000 ≤ a ∧ a < 0x130000 then d.writeDram a v
  else if 0x160000 ≤ a ∧ a < 0x170000 then d.writeDsq a v
  else if 0x170000 ≤ a ∧ a < 0x180000 then d.writeLad a v
  else if 0x180000 ≤ a ∧ a < 0x190000 then d.writeCat a v
  else if (0xD0000 ≤ a ∧ a < 0x100000) ∨ (0x1A0000 ≤ a ∧ a < 0x1000000) then d.writeCiph a v
  else if 0x140000 ≤ a ∧ a < 0x1A0000 then d.writeCore a v
  else if h : 0x1000000 ≤ a ∧ a < 0x1300000 then d.writeTree ⟨(a - 0x1000000) / 0x10000, by omega⟩ (a % 0x10000) v
  else if h : 0x1400000 ≤ a ∧ a < 0x1700000 then d.writeUpl ⟨(a - 0x1400000) / 0x10000, by omega⟩ (a % 0x10000) v
  else if h : 0x1800000 ≤ a ∧ a < 0x1B00000 then d.writeFab ⟨(a - 0x1800000) / 0x10000, by omega⟩ (a % 0x10000) v
  else if 0x1C00000 ≤ a ∧ a < 0x1C10000 then d.writePinBlk a v
  else d.access a v

end Sys2Proof.Machine
end

