-- ==== Sys2Proof/Machine/BootOps.lean ====
section
/-! DEFINITION. The Archive in flash, its checks, the flash accesses, and the states of boot (20_clocks_boot.md R595-R603). -/

namespace Sys2Proof.Machine

/-! Effects on the byte memories. -/

/-- Run an effect of clocked logic on the whole machine as one step. -/
def State.runS (s : State) (f : State → State) : Host.Outcome State Fault Refusal :=
  .next (deliver (if s.dev.clocked then f { s with dev := { s.dev with out := [] } } else { s with dev := { s.dev with out := [] } }))

/-! The Archive (R595, R596). -/

/-- The flash offset of a copy: 0 A, 1 B. -/
def copyBase (c : Nat) : Nat := c * 0x1000000

/-- The 512-byte header of a copy. -/
def copyHeader (flash : List Host.Cell) (c : Nat) : List Byte := loadBytes flashByte flash (copyBase c) 512

/-- A part of a copy, by the header offset of its OFF and LEN. -/
def copyPart (flash : List Host.Cell) (c i : Nat) : List Byte :=
  let h := copyHeader flash c
  loadBytes flashByte flash (copyBase c + leAt h i 4) (min (leAt h (i + 4) 4) 0x1000000)

/-- The key of a header's KEY_SLOT is its PUBKEY, and the slot is not revoked. -/
def slotKeyOk (h : List Byte) : Bool :=
  let k := byteAt h 244
  decide (k < 4) && !(Config.keyRevoked k) && sha384 (slice h 248 97) == Config.keyHash k

/-- MAGIC, FORMAT, MIN_REV and SVN are as they must be. -/
def headerOk (rev : Nat) (h : List Byte) : Bool :=
  leAt h 0 4 == 0x52415856 && leAt h 4 2 == 1 && decide (byteAt h 16 ≤ rev) && decide (Config.minSvn ≤ leAt h 20 4)

/-- The plaintext of the firmware, where its tag is right and it is at most 7 MiB long. -/
def firmwareOk (flash : List Host.Cell) (c : Nat) : Bool :=
  let h := copyHeader flash c
  let fw := copyPart flash c 24
  decide (leAt h 28 4 ≤ 0x700000) && sha384 fw == slice h 100 48 &&
    (Config.gcmOpen Config.firmwareKey (slice h 72 12) (h.take 24) fw (slice h 84 16)).isSome

/-- What is wrong with a copy (R596, R606): 0 nothing, 1 header, 2 signature, 3 firmware, 4 settings, 5 Edition. -/
def copyCode (rev : Nat) (flash : List Host.Cell) (c : Nat) : Nat :=
  let h := copyHeader flash c
  if !(headerOk rev h) then 1
  else if !(slotKeyOk h && Config.ecdsaOk (slice h 248 97) (h.take 416) (slice h 416 96)) then 2
  else if !(firmwareOk flash c) then 3
  else if sha384 (copyPart flash c 32) != slice h 148 48 then 4
  else if sha384 (copyPart flash c 40) != slice h 196 48 then 5
  else 0

/-- The silicon's revision. -/
def Dev.revision (d : Dev) : Nat := d.rdN rGLOBAL_ID % 256

/-- SEQUENCE of a copy. -/
def copySeq (flash : List Host.Cell) (c : Nat) : Nat := leAt (copyHeader flash c) 8 8

/-! Boot (R597-R600). -/

/-- Set a copy's bit in BOOT_ERR, with its alert. -/
def Dev.copyBad (d : Dev) (c : Nat) : Dev :=
  let d := d.mark rBOOT_ERR (if c = 0 then fBOOT_ERR_A_BAD else fBOOT_ERR_B_BAD)
  d.alert 0x1302 (p4 c ++ p4 (d.rdN rBOOT_ERR))

/-- Boot's state. -/
def Dev.bootState (d : Dev) : Nat := d.get rBOOT_STATUS fBOOT_STATUS_STATE

/-- Go to a state of boot. -/
def Dev.setBoot (d : Dev) (st : Nat) : Dev := d.put rBOOT_STATUS fBOOT_STATUS_STATE st

/-- REFSEL has a reference, or holds one. -/
def Dev.refOk (d : Dev) : Bool := d.refValid 0 || d.refValid 1 || d.bit rCLK_STATUS fCLK_STATUS_HOLDOVER

/-- CLOCKS is passed once REFSEL and every PLL is locked: the monitor is armed (R586), and training and fill of DRAM begin. -/
def Dev.bootClocks (d : Dev) : Dev :=
  if d.bootState = 2 ∧ d.get rCLK_STATUS fCLK_STATUS_LOCK = 31 ∧ d.refOk then
    let d := d.when (d.refValid 0 || d.refValid 1) (fun d => d.put rCLK_STATUS fCLK_STATUS_ARMED 1)
    (d.setBoot 3).put rDRAM_STATUS fDRAM_STATUS_INIT_BUSY 1
  else d

/-- The copies boot may take, in the order it takes them: FORCE first, then the higher SEQUENCE, A on a tie; a copy tried in
this boot is not taken again. -/
def Dev.copyOrder (d : Dev) (flash : List Host.Cell) (valid : Nat → Bool) : List Nat :=
  let byAge := if copySeq flash 0 < copySeq flash 1 then [1, 0] else [0, 1]
  let named := d.get rBOOT_CTRL fBOOT_CTRL_FORCE_COPY
  let order := if d.bit rBOOT_CTRL fBOOT_CTRL_FORCE && valid named then [named, 1 - named] else byAge
  order.filter (fun c => valid c && !(nbit d.clk.tried c))

/-- Take the first copy whose checks pass: those before it are bad. -/
def Dev.takeCopy (d : Dev) (flash : List Host.Cell) : List Nat → Dev
  | [] => d.setBoot 7
  | c :: cs =>
    if copyCode d.revision flash c = 0 then
      let h := copyHeader flash c
      let full := nbit (byteAt h 6) 0 || d.bit rBOOT_CTRL fBOOT_CTRL_FULL_NEXT
      let d := (d.put rBOOT_STATUS fBOOT_STATUS_COPY c).put rBOOT_STATUS fBOOT_STATUS_FULL (b2n full)
      let d := d.wr64 rBOOT_SEQ_LO rBOOT_SEQ_HI (copySeq flash c)
      let d := { d with clk := { d.clk with degrade := nbit (byteAt h 6) 1 } }
      (d.setBoot 2).bootClocks
    else Dev.takeCopy (d.copyBad c) flash cs

/-- ARCHIVE (R596). -/
def Dev.bootArchive (d : Dev) (flash : List Host.Cell) : Dev :=
  if d.bootState ≠ 1 then d
  else
    let code := fun c => copyCode d.revision flash c
    let valid := fun c => !(code c == 1) && !(code c == 2)
    let order := d.copyOrder flash valid
    let d := (d.put rBOOT_STATUS fBOOT_STATUS_A_VALID (b2n (valid 0))).put rBOOT_STATUS fBOOT_STATUS_B_VALID (b2n (valid 1))
    let d := (([0, 1].filter (fun c => !(valid c) && !(nbit d.clk.tried c))).foldl Dev.copyBad d)
    d.takeCopy flash order

/-- TEST is passed (R598): engines that failed are fenced, recovery clears ZEROISED where no enabled tamper input is active
(10_cipher.md R307), and the XTS keys are drawn (10_cipher.md R300). -/
def Dev.bootTested (d : Dev) (bad : List Nat) (memFail : Bool) : Dev :=
  if d.bootState ≠ 3 ∨ d.bit rDRAM_STATUS fDRAM_STATUS_INIT_BUSY then d
  else
    let d := (bad.eraseDups).foldl (fun d e => d.fence e 1) d
    let x1 := d.drawKey
    let x2 := x1.2.drawKey
    let d := { x2.2 with ciph := { x2.2.ciph with xts1 := x1.1, xts2 := x2.1 } }
    let d := if d.zeroised && d.tamperQuiet then d.wrN rSEC_STATUS (Nat.land (d.rdN rSEC_STATUS) 0xF) else d
    let d := if d.zeroised then { d with ciph := { d.ciph with xts1 := [], xts2 := [] } } else d.put rCIPH_STATUS fCIPH_STATUS_STATE 1
    let d := (d.put rBOOT_CTRL fBOOT_CTRL_FULL_NEXT 0).when memFail (fun d => d.mark rBOOT_ERR fBOOT_ERR_MEM_FAIL)
    d.setBoot 4

/-! The settings and the Edition of the copy in use (R597). -/

/-- The records of the settings: address and value, up to the address 0xFFFF_FFFF. -/
def settingsOf (bs : List Byte) : List (Nat × Nat) :=
  ((List.range (bs.length / 8)).map (fun i => (leAt bs (8 * i) 4, leAt bs (8 * i + 4) 4))).takeWhile (fun e => e.1 != 0xFFFFFFFF)

/-- Commit the Edition image of the Archive for the next boundary. -/
def Dev.bootEdition (d : Dev) (h image : List Byte) : Dev :=
  let rules := (List.range (leAt image 0 4)).map (fun i => slice image (13 + 160 * i) 160)
  let actions := (List.range (leAt image 4 4)).map (fun i => slice image (13 + 160 * rules.length + 16 * i) 16)
  let bad := rules.zipIdx.any (fun e => entryReason 0 e.2 e.1 != 0) || actions.zipIdx.any (fun e => entryReason 1 e.2 e.1 != 0)
  let st : Staging := actions.zipIdx.foldl (fun s e => s.put 1 e.2 e.1) (rules.zipIdx.foldl (fun s e => s.put 0 e.2 e.1) ⟨[], []⟩)
  let q : CommitReq := ⟨byteAt image 8 == 1, rules.length, actions.length, leAt image 9 4, leAt h 48 8, leAt h 56 16⟩
  match (if bad then (resBadParam, 0, d) else (d.setStaging (some st)).commitEdition q) with
  | (res, _, d) =>
    let d := d.setStaging none
    if res = resOk then d.reqNext 2 else d.mark rBOOT_ERR fBOOT_ERR_ED_REFUSED

/-- READY or LIMITED (R598, R600), with the alerts that waited for it. -/
def Dev.bootReady (d : Dev) (ms : Nat) : Dev :=
  let limited := !(d.bit rDRAM_STATUS fDRAM_STATUS_READY)
  let d := (d.wrN rBOOT_TIME ms).setBoot (if limited then 6 else 5)
  let d := d.when limited (fun d => d.mark rBOOT_ERR fBOOT_ERR_DRAM_LIMITED)
  let d := d.alert 0x1301 (p4 (d.get rBOOT_STATUS fBOOT_STATUS_COPY) ++ p4 (d.rdN rBOOT_SEQ_LO) ++ p4 ms ++ p4 (b2n limited))
  if d.clk.voidDue then
    ({ d with clk := { d.clk with voidDue := false } }).alert 0x1303
      (p4 (d.get rCLK_VOID fCLK_VOID_LAST_ATTEMPTS) ++ p4 (d.get rCLK_VOID fCLK_VOID_VOID_COUNT))
  else d

/-- FW_LIMIT ms pass in FIRMWARE (R598): a warm reset with SOURCE 4, and the copy is bad. -/
def Dev.firmwareLimit (d : Dev) : Dev :=
  if d.bootState ≠ 4 then d
  else
    let c := d.get rBOOT_STATUS fBOOT_STATUS_COPY
    let tried := Nat.lor d.clk.tried (2 ^ c)
    let d := d.warmReset 4
    ({ d with clk := { d.clk with tried := tried } }.mark rBOOT_ERR fBOOT_ERR_FW_TIMEOUT).copyBad c

/-! Flash accesses (R603). -/

/-- Bytes of flash in the address space. -/
def flashSize : Nat := 0x2000000

/-- The bytes an access touches belong to the copy in use; in NOBOOT none is. -/
def Dev.copyTouched (d : Dev) (addr len : Nat) : Bool :=
  let b := copyBase (d.get rBOOT_STATUS fBOOT_STATUS_COPY)
  d.bootState != 7 && decide (addr < b + 0x1000000) && decide (b < addr + len)

/-- What a flash access answers before it begins: 1 refused, 2 flash error, 0 it may run. -/
def Dev.flashCheck (d : Dev) (op addr len : Nat) (err : Bool) : Nat :=
  let a := if op = 2 then addr / 0x10000 * 0x10000 else addr
  let n := if op = 2 then 0x10000 else len
  if !(d.bootState == 5 || d.bootState == 6 || d.bootState == 7) || op == 3 || (op != 0 && d.copyTouched a n) then 1
  else if err ∨ flashSize < a + n then 2
  else 0

/-- Program bytes: a program clears bits and sets none (log entry 5). -/
def programFlash (flash : List Host.Cell) (addr : Nat) (bs : List Byte) : List Host.Cell :=
  storeBytes flashByte flash addr ((bs.zip (loadBytes flashByte flash addr bs.length)).map (fun e => e.1 &&& e.2))

/-- Erase a 64 KiB sector: its bytes read 0xFF. -/
def eraseFlash (flash : List Host.Cell) (addr : Nat) : List Host.Cell :=
  skeep (fun a => decide (a / 0x10000 ≠ addr / 0x10000)) flash

/-- A flash access: RESULT, the bytes read, and the machine after it. A program is read back and compared. -/
def State.flashAccess (s : State) (op addr : Nat) (len : Nat) (bs : List Byte) (err : Bool) : Nat × List Byte × State :=
  let c := s.dev.flashCheck op addr len err
  if c ≠ 0 then (c, [], s)
  else if op = 0 then (0, loadBytes flashByte s.flash addr len, s)
  else if op = 1 then
    let f := programFlash s.flash addr bs
    (if loadBytes flashByte f addr bs.length = bs then 0 else 3, [], { s with flash := f })
  else (0, [], { s with flash := eraseFlash s.flash addr })

/-- The bytes of BOOT_FLASH_DATA. -/
def Dev.flashData (d : Dev) : List Byte := (List.range 64).flatMap (fun i => leB 4 (d.rdN (rBOOT_FLASH_DATA i)))

/-- Place bytes in BOOT_FLASH_DATA from its first byte. -/
def Dev.setFlashData (d : Dev) (bs : List Byte) : Dev :=
  let all := patch d.flashData 0 bs
  (List.range 64).foldl (fun d i => d.wrN (rBOOT_FLASH_DATA i) (leAt all (4 * i) 4)) d

/-- Write BOOT_FLASH_CMD: with GO the access runs to its end; LEN outside 1-256 of a read or a program is refused. -/
def State.flashCmd (s : State) (v : Nat) (err : Bool) : State :=
  let s := { s with dev := (s.dev.access rBOOT_FLASH_CMD v).put rBOOT_FLASH_CMD fBOOT_FLASH_CMD_GO 0 }
  if !(nbit v 30) then s
  else
    let op := fieldOf v fBOOT_FLASH_CMD_OP
    let len := fieldOf v fBOOT_FLASH_CMD_LEN
    let done := fun (s : State) r => { s with dev := s.dev.put rBOOT_FLASH_CMD fBOOT_FLASH_CMD_RESULT r }
    if op ≤ 1 ∧ (len = 0 ∨ 256 < len) then done s 1
    else match s.flashAccess op (s.dev.rdN rBOOT_FLASH_ADDR) len (s.dev.flashData.take len) err with
      | (r, bs, s) => done { s with dev := if bs = [] then s.dev else s.dev.setFlashData bs } r

end Sys2Proof.Machine
end

