-- ==== Sys2Proof/Machine/RegCmds.lean ====
section
/-! DEFINITION. Register access from the host: the privileged window, the tenant windows and what is granted in them,
violations, and the transactions that read and write (19_gellen.md R553, R557, R559-R564). -/

namespace Sys2Proof.Machine

/-! The privileged window (R559, R564). -/

/-- Four bytes of a mailbox area, as a register. -/
def State.areaWord (s : State) (a : Nat) : Nat := leAt (loadBytes zeroByte s.mem a 4) 0 4

/-- Read a register of the mailbox array: the response area reads 0 while the command runs (R565). -/
def State.mbxRead (s : State) (a : Nat) : Nat :=
  let w := a % 0x1000
  if w < 0x10 then s.dev.regRead a
  else if w < 0x400 then 0
  else if 0x800 ≤ w ∧ s.dev.get (rMBX_STATUS ((a - 0x40000) / 0x1000)) fMBX_STATUS_STATE = 1 then 0
  else s.areaWord a

/-- Write a register of the mailbox array (R564, R565). -/
def State.mbxWrite (s : State) (a v : Nat) : State :=
  let m := (a - 0x40000) / 0x1000
  let w := a % 0x1000
  if w = 0 then { s with dev := s.dev.doorbell m v (loadBytes zeroByte s.mem (mbxBase m + 0x400) 0x400) }
  else if w < 0x10 then { s with dev := s.dev.access a v }
  else if 0x400 ≤ w ∧ w < 0x800 then { s with mem := storeBytes zeroByte s.mem a (leB 4 v) }
  else s

/-- The address is one of the mailbox array's. -/
def inMbx (a : Nat) : Bool := decide (0x40000 ≤ a) && decide (a < 0x80000)

/-- What a register of the privileged window shows. -/
def State.regRead (s : State) (a : Nat) : Nat := if inMbx a then s.mbxRead a else s.dev.regRead a

/-- Write a register of the privileged window. -/
def State.regWrite (s : State) (a v : Nat) : State :=
  if inMbx a then s.mbxWrite a v
  else if a = rBOOT_FLASH_CMD then s.flashCmd v false
  else { s with dev := s.dev.regWrite a v }

/-! A tenant's window (R561, R562; 21_counters_test.md R614). -/

/-- The counter is assigned to the tenant. -/
def Dev.viewed (d : Dev) (n c : Nat) : Bool := d.get (rCNT_CFG c) fCNT_CFG_VIEW == n

/-- The filtered counter view at an offset of the window (21_counters_test.md R614). -/
def Dev.viewRead (d : Dev) (n off : Nat) : Nat :=
  let w := off % 0x10000
  if 0x100000 ≤ off ∧ off < 0x108000 then (if d.viewed n (w / 8) then d.rdN (rEVC_LO 0 + w) else 0)
  else if 0x110000 ≤ off ∧ off < 0x118000 then (if d.viewed n (w / 8) then d.rdN (rSNAP_LO 0 + w) else 0)
  else if 0x120000 ≤ off ∧ off < 0x120200 then
    ((List.range 32).map (fun j => if d.viewed n (8 * w + j) && nbit (d.rdN (rSNAP_OVF (w / 4))) j then 2 ^ j else 0)).sum
  else if off = 0x120200 then d.rdN rSNAP_TICK_LO
  else if off = 0x120204 then d.rdN rSNAP_TICK_HI
  else 0

/-- Word `w` of a terminal's status entry (R562). -/
def Dev.termEntry (d : Dev) (h w : Nat) : Nat :=
  let r := d.term h
  let a := d.actOf h
  if w = 0 then
    2 ^ 31 + tstateNum a.state * 2 ^ 28 + b2n (d.keyBlocked h) * 2 ^ 27 + b2n (d.preset h).forceL * 2 ^ 26 + r.tree * 2 ^ 16 + r.termId
  else if w = 1 then a.eqd
  else if w = 2 then a.entryTick % 2 ^ 32
  else r.gen

/-- Word `w` of an allocation's status entry: D is the demand the Ladle works with (07_ladle_demand.md R203, R204). -/
def Dev.allocEntry (d : Dev) (h w : Nat) : Nat :=
  let a := d.alloc h
  if w = 0 then 2 ^ 31 + a.cls * 2 ^ 28 + a.tree * 2 ^ 16 + a.allocId
  else if a.cls = clsFixed then a.fixedSize
  else if a.cls = clsCoop then ((d.notices.filter (fun n => n.alloc == h)).map Notice.bytes).sum
  else d.demand h

/-- A channel's status entry. -/
def Dev.chanEntry (d : Dev) (c : Nat) : Nat :=
  let x := d.chan c
  2 ^ 31 + b2n x.us * 2 ^ 30 + b2n x.ds * 2 ^ 29 + b2n x.prot * 2 ^ 28 + b2n x.fault * 2 ^ 27 + x.tree * 2 ^ 16 + x.portId

/-- A terminal's status is granted to its tenant, and to a tenant of the tree where the owner holds it. -/
def Dev.termGranted (d : Dev) (n h : Nat) : Bool :=
  (d.term h).tenant == n || ((d.term h).tenant == 0x1F && d.grantedTree n (d.term h).tree)

/-- The status entries at an offset: none where the record is valid and not granted; 0 where there is no valid record. -/
def Dev.statusRead (d : Dev) (n off : Nat) : Option Nat :=
  if off < 0x240000 then
    (let h := (off - 0x200000) / 16
     if !(d.term h).valid then some 0 else if d.termGranted n h then some (d.termEntry h (off % 16 / 4)) else none)
  else if off < 0x2C0000 then
    (let h := (off - 0x240000) / 8
     if !(d.alloc h).valid then some 0 else if (d.alloc h).tenant = n then some (d.allocEntry h (off % 8 / 4)) else none)
  else
    (let c := (off - 0x2C0000) / 4
     if !(d.chan c).valid then some 0 else if (d.chan c).tenant = n then some (d.chanEntry c) else none)

/-- The mask of mailboxes assigned to a tenant. -/
def Dev.mbxMask (d : Dev) (n : Nat) : Nat := ((List.range 64).map (fun m => if d.mbxTenant m = some n then 2 ^ m else 0)).sum

/-- TENANT_ID. -/
def Dev.tenantId (d : Dev) (n w : Nat) : Nat :=
  if w = 0 then n else if w = 1 then d.regRead rGLOBAL_ID else if w = 2 then d.mbxMask n % 2 ^ 32 else d.mbxMask n / 2 ^ 32

/-- A mailbox of the window that is assigned to the tenant. -/
def Dev.winMbx (d : Dev) (n off : Nat) : Bool :=
  decide (0x8000 ≤ off) && decide (off < 0x40000) && d.mbxTenant (off / 0x1000) == some n

/-- What tenant `n` reads at an offset of its window; none outside the grant. -/
def State.tenRead (s : State) (n off : Nat) : Option Nat :=
  if s.dev.winMbx n off then some (s.mbxRead (0x40000 + off))
  else if 0x100000 ≤ off ∧ off < 0x200000 then some (s.dev.viewRead n off)
  else if 0x200000 ≤ off ∧ off < 0x3C0000 then s.dev.statusRead n off
  else if 0x3C0000 ≤ off ∧ off < 0x3C0010 then some (s.dev.tenantId n (off % 16 / 4))
  else none

/-! One access of a requester (R560, R563). -/

/-- An address outside every block (R559). -/
def Dev.unmapped (d : Dev) : Dev := (d.bump (rGLK_CNT 9)).mark rGLK_ERR fGLK_ERR_UNMAPPED

/-- The tenant of a tenant window. -/
def winTenant (a : Nat) : Nat := a / 0x1000000 - 0x40

/-- An address of the tenant windows. -/
def inWindows (a : Nat) : Bool := decide (0x40000000 ≤ a) && decide (a < 0x50000000)

/-- A register access occurs (21_counters_test.md R609). -/
def Dev.accessEvent (d : Dev) (ev req a : Nat) : Dev :=
  d.evc ev 1 { priv := some (if req = 0x1F then 0 else 1), req := some req, addr := some a }

/-- Read one register for a requester. -/
def State.hostRead (s : State) (req a : Nat) : Nat × State :=
  let s := { s with dev := s.dev.accessEvent 0x0400 req a }
  if req = 0x1F then
    if inWindows a then ((s.tenRead (winTenant a) (a % 0x1000000)).getD 0xFFFFFFFF, s)
    else if inBlock a then (s.regRead a, s)
    else (0, { s with dev := s.dev.unmapped })
  else match (if inWindows a && winTenant a == req then s.tenRead req (a % 0x1000000) else none) with
    | some v => (v, s)
    | none => (0xFFFFFFFF, { s with dev := s.dev.violation req a })

/-- Write one register for a requester. -/
def State.hostWrite (s : State) (req a v : Nat) : State :=
  let s := { s with dev := s.dev.accessEvent 0x0401 req a }
  let off := a % 0x1000000
  if req = 0x1F then
    if inWindows a then (if s.dev.winMbx (winTenant a) off then s.mbxWrite (0x40000 + off) v else s)
    else if inBlock a then s.regWrite a v
    else { s with dev := s.dev.unmapped }
  else if inWindows a && winTenant a == req && s.dev.winMbx req off then s.mbxWrite (0x40000 + off) v
  else { s with dev := s.dev.violation req a }

/-- Read consecutive registers in rising order. -/
def State.hostReads (s : State) (req a : Nat) : Nat → List Nat × State
  | 0 => ([], s)
  | n + 1 =>
    let r := s.hostRead req a
    let t := State.hostReads r.2 req (a + 4) n
    (r.1 :: t.1, t.2)

/-- Write consecutive registers in rising order. -/
def State.hostWrites (s : State) (req a : Nat) : List Nat → State
  | [] => s
  | v :: vs => State.hostWrites (s.hostWrite req a v) req (a + 4) vs

/-! The transactions (R553-R557). -/

/-- Accept a register transaction of `words` body words; where its REQUESTER or address is not allowed it has no other effect. -/
def State.accepted (s : State) (p seq req addr words : Nat) (run : State → State) : State :=
  let r := s.dev.receive p seq 0 (1 + words) (decide (2 ≤ words) && decide (words ≤ 520))
  let s := { s with dev := r.2 }
  if !r.1 then s
  else if (16 ≤ req ∧ req ≠ 0x1F) ∨ addr % 4 ≠ 0 then { s with dev := s.dev.badReq }
  else run s

/-- REG_READ (R557, R560): `more` is COUNT less 1. The completion leaves on the same port. -/
def execRegRead (p : Fin 2) (seq : Fin 65536) (req : Fin 32) (addr : Word) (tag : Fin 65536) (more : Fin 64) (s : State) :
    Host.Outcome State Fault Refusal :=
  s.runS (fun s => s.accepted p.val seq.val req.val addr.toNat 2 (fun s =>
    let r := s.hostReads req.val addr.toNat (more.val + 1)
    { r.2 with dev := r.2.dev.send p.val 0x81 (leB 2 tag.val ++ leB 1 (more.val + 1) ++ leB 5 0 ++
        r.1.flatMap (leB 4) ++ leB (4 * ((more.val + 1) % 2)) 0) }))

/-- REG_WRITE (R557, R560). -/
def execRegWrite (p : Fin 2) (seq : Fin 65536) (req : Fin 32) (addr : Word) (vals : List Word) (s : State) :
    Host.Outcome State Fault Refusal :=
  s.runS (fun s => s.accepted p.val seq.val req.val addr.toNat (2 + (vals.length + 1) / 2) (fun s =>
    s.hostWrites req.val addr.toNat (vals.map BitVec.toNat)))

/-- REGISTER_WRITE (00_scope.md R9): a write to a register that has no behaviour of its own stores the value as its access
codes lay down; an address with no register ignores it (R559), and one with a behaviour of its own acts as its row does. -/
def execRegisterWrite (addr : Word) (val : Word) (s : State) : Host.Outcome State Fault Refusal :=
  s.runS (fun s => s.regWrite addr.toNat val.toNat)

end Sys2Proof.Machine
end

