-- ==== Sys2Proof/Machine/BootCmds.lean ====
section
/-! DEFINITION. The commands of 20_clocks_boot.md on boot and flash (R595-R600, R603, R606). -/

namespace Sys2Proof.Machine

/-- BOOT_ARCHIVE_VERIFIED (R596, R598): the copies of the Archive are checked; one is taken, or boot enters NOBOOT. -/
def execBootArchiveVerified (s : State) : Host.Outcome State Fault Refusal := s.run (fun d => d.bootArchive s.flash)

/-- BOOT_CLOCKS_LOCKED (R586, R598): REFSEL and every PLL lock. -/
def execBootClocksLocked (s : State) : Host.Outcome State Fault Refusal :=
  s.run (fun d =>
    if d.refOk then
      let d := (d.put rCLK_STATUS fCLK_STATUS_LOCK 31).put rCLK_STATUS fCLK_STATUS_MP_SRC 1
      (d.when (d.refValid 0 || d.refValid 1) (fun d => d.put rCLK_STATUS fCLK_STATUS_ARMED 1)).bootClocks
    else d)

/-- BOOT_TEST_DONE (R598): the engines that failed their test (10_cipher.md R309), and whether a march failed beyond repair. -/
def execBootTestDone (bad : List (Fin 141)) (memFail : Bool) (s : State) : Host.Outcome State Fault Refusal :=
  s.run (fun d => d.bootTested (bad.map Fin.val) memFail)

/-- One record of the settings, as an owner's write: refused where its register does not take the value. -/
def State.setting (s : State) (e : Nat × Nat) : State :=
  let t := if inBlock e.1 then s.regWrite e.1 e.2 else s
  let rw := match regFind e.1 with | some (_, _, r) => r.rw | none => 0
  if Nat.land (t.dev.rdN e.1) rw = Nat.land e.2 rw then t else { t with dev := t.dev.mark rBOOT_ERR fBOOT_ERR_SET_REFUSED }

/-- What the firmware does before it reports ready (R597, R598): the settings, STK_CTRL.LOCK, and the Edition. -/
def State.firmwareUp (s : State) (ms : Nat) : State :=
  let c := s.dev.get rBOOT_STATUS fBOOT_STATUS_COPY
  let s := (settingsOf (copyPart s.flash c 32)).foldl State.setting s
  let d := s.dev.writeStkCtrl (Nat.lor (s.dev.rdN rSTK_CTRL) (2 ^ 31))
  { s with dev := (d.bootEdition (copyHeader s.flash c) (copyPart s.flash c 40)).bootReady ms }

/-- FIRMWARE_READY (R592, R597, R598): `ms` from the reset instant; after a block reset of the management processor the
firmware alone restarts. -/
def execFirmwareReady (ms : Fin 65536) (s : State) : Host.Outcome State Fault Refusal :=
  s.runS (fun s =>
    if s.dev.clk.mpDown then { s with dev := { s.dev with clk := { s.dev.clk with mpDown := false } } }
    else if s.dev.bootState = 4 then s.firmwareUp ms.val else s)

/-- FW_LIMIT (R598). -/
def execFwLimit (s : State) : Host.Outcome State Fault Refusal := s.run Dev.firmwareLimit

/-- FLASH_READ (R602, R603): `err` where the flash reports an error. -/
def execFlashRead (len : Fin 512) (err : Bool) (s : State) : Host.Outcome State Fault Refusal :=
  s.runS (fun s => s.flashCmd (2 ^ 30 + len.val) err)

/-- FLASH_PROGRAM (R602, R603). -/
def execFlashProgram (len : Fin 512) (err : Bool) (s : State) : Host.Outcome State Fault Refusal :=
  s.runS (fun s => s.flashCmd (2 ^ 30 + 2 ^ 28 + len.val) err)

/-- FLASH_ERASE (R602, R603). -/
def execFlashErase (err : Bool) (s : State) : Host.Outcome State Fault Refusal :=
  s.runS (fun s => s.flashCmd (2 ^ 30 + 2 ^ 29) err)

/-- Run a mailbox command on the whole machine, as `Dev.command` does on the device. -/
def State.command (s : State) (m code : Nat) (body : Cmd → State → State) : State :=
  match s.dev.glk.cmds.find? (fun c => c.mbx == m && c.code == code && !c.started) with
  | none => s
  | some c =>
    if s.dev.bit rSEC_STATUS fSEC_STATUS_ZEROISED && !c.whileZeroised then { s with dev := s.dev.finish m resNotReady [] }
    else if (s.dev.glk.cmds.filter (fun c => c.started)).length < mbxConcurrent then body c s else s

/-- The result of a flash access of DIAG_BOOT (R606). -/
def flashResult (r : Nat) : Nat := if r = 0 then resOk else if r = 1 then resBusy else resTimeout

/-- DIAG_BOOT (R606), code 0x0C08: `err` where the flash reports an error. -/
def execDiagBoot (m : Fin 64) (err : Bool) (s : State) : Host.Outcome State Fault Refusal :=
  s.runS (fun s => s.command m.val 0x0C08 (fun c s =>
    let act := c.u8 0
    let len := c.u16 8
    let lenOk := decide (1 ≤ len) && decide (len ≤ 512)
    let form := c.zero 2 2 &&
      (if act = 1 then lenOk && c.zero 0xA 6 && c.endsAt 0x10
       else if act = 2 then lenOk && c.zero 0xA 6 && c.endsAt (0x10 + len)
       else if act = 3 then c.zero 0xA 6 && c.endsAt 0x10
       else act == 0 || (act == 4 && decide (c.u8 1 < 2)))
    if !c.isOwner then { s with dev := c.fail s.dev resNotPermitted }
    else if !form then { s with dev := c.fail s.dev resBadParam }
    else if act = 0 then
      { s with dev := c.ok s.dev ([rBOOT_STATUS, rBOOT_ERR, rBOOT_TIME, rBOOT_SEQ_LO, rBOOT_SEQ_HI].flatMap (fun a => leB 4 (s.dev.rdN a))) }
    else if act = 4 then
      { s with dev := c.ok s.dev (leB 8 (copyCode s.dev.revision s.flash (c.u8 1)) ++ leB 8 (copySeq s.flash (c.u8 1))) }
    else match s.flashAccess (act - 1) (c.u32 4) len (slice c.req 0x10 len) err with
      | (r, bs, s) => { s with dev := s.dev.finish c.mbx (flashResult r) bs }))

end Sys2Proof.Machine
end

