-- ==== Sys2Proof/Machine/ClkCmds.lean ====
section
/-! DEFINITION. The commands of 20_clocks_boot.md on clocks and resets: references, the ring supervisor, power, PLLs, warm and
block resets (R582-R594, R601, R604, R605). -/

namespace Sys2Proof.Machine

/-- The device is powered: PWR_GOOD is high. -/
def Dev.powered (d : Dev) : Bool := d.clk.sup != .off

/-- REF_VALID (R583, R586): `both` where the other reference becomes valid in the same window. -/
def execRefValid (r : Fin 2) (both : Bool) (s : State) : Host.Outcome State Fault Refusal :=
  s.runAny (fun d =>
    let e := d.refUp r.val both
    if !d.powered then d else if d.clocked then e.bootClocks else e)

/-- REF_INVALID (R583, R584, R588). -/
def execRefInvalid (r : Fin 2) (s : State) : Host.Outcome State Fault Refusal :=
  s.runAny (fun d => if d.powered then d.refDown r.val else d)

/-- RING_STABLE (R586, R588): with the period measured, in ps. -/
def execRingStable (period : Fin 65536) (s : State) : Host.Outcome State Fault Refusal := s.runAny (fun d => d.ringStable period.val)

/-- RING_OUT_OF_RANGE (R587, R588). -/
def execRingOutOfRange (period : Fin 65536) (s : State) : Host.Outcome State Fault Refusal := s.runAny (fun d => d.ringLost period.val)

/-- RING_ATTEMPT_FAIL (R588, R590). -/
def execRingAttemptFail (s : State) : Host.Outcome State Fault Refusal := s.runAny Dev.attemptFails

/-- VOID_ATTEMPT (R589). -/
def execVoidAttempt (s : State) : Host.Outcome State Fault Refusal := s.runAny Dev.voidAttempt

/-- PWR_GOOD_RISE (R588, R591). -/
def execPwrGoodRise (s : State) : Host.Outcome State Fault Refusal := s.runAny (fun d => if d.powered then d else d.powerOn)

/-- PWR_GOOD_FALL (R588). -/
def execPwrGoodFall (s : State) : Host.Outcome State Fault Refusal := s.runAny (fun d => if d.powered then d.powerOff else d)

/-- SUPPLY_UNDERVOLTAGE (22_electrical.md R634): as a fall of PWR_GOOD. -/
def execSupplyUndervoltage (s : State) : Host.Outcome State Fault Refusal := s.runAny (fun d => if d.powered then d.powerOff else d)

/-- RESET_L (R590, R591): ignored in FAILED. -/
def execResetL (s : State) : Host.Outcome State Fault Refusal :=
  s.runAny (fun d => if d.clk.sup = .failed ∨ !d.powered then d else d.pinReset)

/-- WARM_RESET (R591, R601): a write of RST_CTRL. -/
def execWarmReset (val : Word) (s : State) : Host.Outcome State Fault Refusal := s.run (fun d => d.writeRstCtrl val.toNat)

/-- The bit of LOCK of a PLL whose loss resets the device: 0 PLL_CORE, 1 PLL_TBL, 2 PLL_DDR. -/
def pllBit (k : Nat) : Nat := if k = 0 then 4 else if k = 1 then 2 else 1

/-- PLL_LOSS (R585). -/
def execPllLoss (k : Fin 3) (s : State) : Host.Outcome State Fault Refusal :=
  s.run (fun d =>
    let l := d.get rCLK_STATUS fCLK_STATUS_LOCK
    if nbit l (pllBit k.val) then (d.put rCLK_STATUS fCLK_STATUS_LOCK (l - 2 ^ pllBit k.val)).warmReset 3 else d)

/-- PLL_MP_LOCK (R585, R587): PLL_MP locks, and the MP domain runs from it; or it loses lock, and MP moves to the ring. -/
def execPllMpLock (locked : Bool) (s : State) : Host.Outcome State Fault Refusal :=
  s.run (fun d =>
    let l := d.get rCLK_STATUS fCLK_STATUS_LOCK
    if locked = nbit l 3 ∨ (locked ∧ !d.refOk) then d
    else if locked then ((d.put rCLK_STATUS fCLK_STATUS_LOCK (l + 8)).put rCLK_STATUS fCLK_STATUS_MP_SRC 1).bootClocks
    else ((d.put rCLK_STATUS fCLK_STATUS_LOCK (l - 8)).put rCLK_STATUS fCLK_STATUS_MP_SRC 0).mark rCLK_ERR fCLK_ERR_PLL_UNLOCK)

/-- BLOCK_RESET (R592, R601): a write of RST_BLOCK. -/
def execBlockReset (val : Word) (s : State) : Host.Outcome State Fault Refusal := s.run (fun d => d.writeRstBlock val.toNat)

/-- RESET_HANDSHAKE_ACK (R593). -/
def execResetHandshakeAck (c : Fin 165) (s : State) : Host.Outcome State Fault Refusal := s.run (fun d => d.handshake c.val)

/-- DIAG_CLOCK (R604), code 0x0C06. -/
def execDiagClock (m : Fin 64) (s : State) : Host.Outcome State Fault Refusal :=
  s.run (fun d => d.command m.val 0x0C06 (fun c d =>
    let v := c.u32 4
    let write := c.expert 0 && nbit (c.u8 8) 0
    c.checks d
      [c.mustOwn, inForm (c.only 0 0x80 && (if c.expert 0 then c.zero 1 3 && c.only 8 1 && c.block 9 else c.endsAt 1)),
       inForm (!(write && badValue rCLK_CTRL v))]
      (fun d =>
        let d := d.when write (fun d => d.access rCLK_CTRL v)
        c.ok d ([rCLK_STATUS, rCLK_ERR, rCLK_VOID, rCLK_RING_PERIOD, rRST_CAUSE].flatMap (fun a => leB 4 (d.rdN a))))))

/-- DIAG_RESET (R605), code 0x0C07: a warm reset is due once the answer is written; a block reset answers at its end. -/
def execDiagReset (m : Fin 64) (s : State) : Host.Outcome State Fault Refusal :=
  s.run (fun d => d.command m.val 0x0C07 (fun c d =>
    let block := c.u8 0 == 1
    c.checks d
      [c.mustOwn, inForm (decide (c.u8 0 < 2) && c.only 3 0x81 && c.endsAt 4 && (!block || d.blockOk (c.u8 1) (c.u8 2))),
       (!(block && d.clk.blk.isSome), resBusy)]
      (fun d =>
        if block then (c.wait d []).blockReset (c.u8 1) (c.u8 2) (some c.mbx)
        else
          let d := d.when (nbit (c.u8 3) 0) (fun d => d.put rBOOT_CTRL fBOOT_CTRL_FULL_NEXT 1)
          let d := c.ok d []
          { d with clk := { d.clk with warmDue := true } })))

/-- COMMANDED_WARM_RESET (R605): 10 us after DONE. -/
def execCommandedWarmReset (s : State) : Host.Outcome State Fault Refusal :=
  s.run (fun d => if d.clk.warmDue then d.warmReset 1 else d)

end Sys2Proof.Machine
end

