-- ==== Sys2Proof/Machine/PinCmds.lean ====
section
/-! DEFINITION. The commands of 22_electrical.md: temperature, JTAG, and DIAG_PIN (R637, R640, R643, R646). -/

namespace Sys2Proof.Machine

/-! Temperature (R637). -/

/-- Drive every TXDIS as the thermal trip now asks. -/
def Dev.lasersNow (d : Dev) : Dev := ((List.range 48).foldl Dev.treeUpdate d).pinUpdateAll

/-- A trip begins at 125 degrees and holds until the reading falls below 115. -/
def Dev.tripNow (d : Dev) (c : Int) : Dev :=
  let on := d.bit rPIN_STATUS fPIN_STATUS_THERM_TRIP
  if !on && decide (125 ≤ c) then
    let d := (d.put rPIN_STATUS fPIN_STATUS_THERM_TRIP 1).mark rPIN_ERR fPIN_ERR_THERM_TRIP
    (d.alert 0x1509 (p4 (sfield 32 c))).lasersNow
  else if on && decide (c < 115) then (d.put rPIN_STATUS fPIN_STATUS_THERM_TRIP 0).lasersNow
  else d

/-- A reading reaches TEMP_WARN: once for each rise above it. -/
def Dev.warnNow (d : Dev) (c : Int) : Dev :=
  let hot := decide ((d.get rPIN_CTRL fPIN_CTRL_TEMP_WARN : Int) ≤ c)
  let rise := hot && !d.pin.warm
  let d := { d with pin := { d.pin with warm := hot } }
  d.when rise (fun d => (d.mark rPIN_ERR fPIN_ERR_TEMP_HIGH).alert 0x1508 (p4 (sfield 32 c)))

/-- TEMP_READING (R637, R645): a reading, in signed degrees. -/
def execTempReading (temp : BitVec 16) (s : State) : Host.Outcome State Fault Refusal :=
  s.run (fun d =>
    let c := sval 16 temp.toNat
    let peak := if d.pin.read then max (sval 16 (d.get rPIN_TEMP fPIN_TEMP_PEAK)) c else c
    let d := (d.put rPIN_TEMP fPIN_TEMP_TJ temp.toNat).put rPIN_TEMP fPIN_TEMP_PEAK (sfield 16 peak)
    let d := { d with pin := { d.pin with read := true } }
    (d.warnNow c).tripNow c)

/-! JTAG (R643). -/

/-- JTAG_CHALLENGE (R643): 32 fresh random bytes are shifted out, until three responses have failed. -/
def execJtagChallenge (s : State) : Host.Outcome State Fault Refusal :=
  s.run (fun d =>
    if 3 ≤ d.pin.fails then d
    else
      let x := d.drawKey
      { x.2 with pin := { x.2.pin with challenge := some x.1 } }.emit .jtag 0 [] x.1)

/-- A response is the debug key's signature over the challenge and GLOBAL_ID. -/
def Dev.jtagOk (d : Dev) (sig : List Byte) : Bool :=
  match d.pin.challenge with
  | some ch => sig.length == 96 && Config.ecdsaOk Config.debugKey (ch ++ leB 4 (d.regRead rGLOBAL_ID)) sig
  | none => false

/-- JTAG_RESPONSE (R643). -/
def execJtagResponse (sig : List Byte) (s : State) : Host.Outcome State Fault Refusal :=
  s.run (fun d =>
    if d.jtagOk sig then (d.zeroise fSEC_STATUS_CAUSE_CMD).put rPIN_STATUS fPIN_STATUS_JTAG_UNLOCKED 1
    else { d with pin := { d.pin with fails := d.pin.fails + 1 } }.mark rPIN_ERR fPIN_ERR_JTAG_FAIL)

/-! DIAG_PIN (R646). -/

/-- What DIAG_PIN does to a cage: 1 identify again, 2 set FORCE_TXDIS, 3 clear it. -/
def Dev.cageAction (d : Dev) (c : CageId) (act : Nat) : Dev :=
  let w := d.rdN (cageCtrl c)
  if act = 1 then d.writeModCtrl c (Nat.lor w 8)
  else if act = 2 then d.writeModCtrl c (fieldPut w fTREE_MOD_CTRL_FORCE_TXDIS 1)
  else if act = 3 then d.writeModCtrl c (fieldPut w fTREE_MOD_CTRL_FORCE_TXDIS 0)
  else d

/-- DIAG_PIN (R646), code 0x0C0A. -/
def execDiagPin (m : Fin 64) (s : State) : Host.Outcome State Fault Refusal :=
  s.run (fun d => d.command m.val 0x0C0A (fun c d =>
    let k := c.u8 0
    let act := c.u8 1
    let cage : CageId := .pin ⟨k % 12, Nat.mod_lt _ (by decide)⟩
    let expert := c.expert 2
    c.checks d
      [c.mustOwn,
       inForm ((decide (k < 12) || (k == 0xFF && act == 0)) && decide (act < 4) && c.only 2 0x80 &&
         (if expert then c.zero 3 1 && c.block 8 else c.endsAt 3)),
       inForm (!(expert && badValue rPIN_CTRL (c.u32 4))),
       (!(act == 1 && d.cageState cage == cgEmpty), resNotReady)]
      (fun d =>
        let d := d.when expert (fun d => d.access rPIN_CTRL (c.u32 4))
        let d := d.cageAction cage act
        let head := [rPIN_STATUS, rPIN_ERR, rPIN_TEMP].flatMap (fun a => leB 4 (d.rdN a))
        c.ok d (if k = 0xFF then head
          else head ++ [rPIN_CAGE_CTRL k, rPIN_CAGE_STATUS k, rPIN_CAGE_FAULT k].flatMap (fun a => leB 4 (d.rdN a))))))

end Sys2Proof.Machine
end

