-- ==== Sys2Proof/Machine/TickCmds.lean ====
section
/-! DEFINITION. The commands of 01_tick.md: the tick boundary, the events of the tick table, and the requests bound to a
boundary (R11-R30). -/

namespace Sys2Proof.Machine

/-- TICK_BOUNDARY (R18): the next tick begins. -/
def execTickBoundary (s : State) : Host.Outcome State Fault Refusal := s.run (fun d => d.nextTick)

/-- At T0 + 2 µs samples are latched (09_downstream.md R273), protection health is evaluated for the previous tick
(17_protection.md R508) and a changed frequency correction is sent (18_almanac.md R528). -/
def Dev.sampleEvents (d : Dev) : Dev :=
  let d := d.dsLatch (instant d.tickNow d.tick.now)
  let d := (List.range 48).foldl (fun d t => d.protEvaluate t) d
  d.freqSend

/-- SAMPLE_LATCH (R18; 09_downstream.md R273). -/
def execSampleLatch (s : State) : Host.Outcome State Fault Refusal := s.run (fun d => d.atTime 2000 Dev.sampleEvents)

/-- LADLE_DEADLINE (R18; 08_ladle_maps.md R245): each tree's held map is handed over. -/
def execLadleDeadline (s : State) : Host.Outcome State Fault Refusal :=
  s.run (fun d => d.atTime 100000 (fun d => d.framers.foldl (fun d t => d.mapDeadline t) d))

/-- FRAMER_TAKES_MAP (R18, R27): each framer takes its finished map or builds a repeat map. -/
def execFramerTakesMap (s : State) : Host.Outcome State Fault Refusal :=
  s.run (fun d => d.atTime 110000 (fun d => d.framers.foldl (fun d t => d.takeMap t) d))

/-- Lines of the batch before that are not written yet are late: each is counted once, and the alert is raised once
(06_catalogue.md R177). -/
def Dev.lateLines (d : Dev) : Dev :=
  let n := d.cat.writing.length - d.cat.counted
  if n = 0 then d
  else
    let d := { d with cat := { d.cat with counted := d.cat.writing.length } }
    ((d.bumpBy (rCAT_CNT 7) n).mark rCAT_ERR fCAT_ERR_WB_LATE).alert 0x0602 []

/-- The lines the open batches hold, with the images they have at the close. -/
def Dev.openLines (d : Dev) : List WbLine :=
  [RecKind.term, .alloc, .chan].flatMap (fun k => (d.openOf k).map (fun h => ⟨k, h, d.recImage k h⟩))

/-- A batch closes (06_catalogue.md R177, R179; 17_protection.md R505): its images are captured, their writes follow those of
earlier batches, the Ladle has its allocation edits at the next boundary, and mirroring is fed. -/
def Dev.closeBatch (d : Dev) : Dev :=
  let d := d.lateLines
  let ls := d.openLines
  let edits := d.cat.openA.map (fun h => (h, d.alloc h))
  let d := { d with cat := { d.cat with writing := d.cat.writing ++ ls, ladleTakes := d.cat.ladleTakes ++ edits } }
  let d := ((d.setOpen .term []).setOpen .alloc []).setOpen .chan []
  let d := d.put rCAT_STATUS fCAT_STATUS_WB_ACTIVE (b2n (!(d.cat.writing.isEmpty)))
  (ls.foldl (fun d l => d.mirrorLine l.kind l.handle) d).mirrorBatchEnd

/-- WRITE_BACK_BATCH_CLOSE (R18; 06_catalogue.md R177). -/
def execWriteBackBatchClose (s : State) : Host.Outcome State Fault Refusal := s.run (fun d => d.atTime 120000 Dev.closeBatch)

/-- REQUEST_CUTOFF (R18, R19). -/
def execRequestCutoff (s : State) : Host.Outcome State Fault Refusal :=
  s.run (fun d => d.atTime 124000 (fun d => d.put rTICK_STATUS fTICK_STATUS_CUTOFF 1))

/-- TICK_REQ_SNAPSHOT (R19). -/
def execTickReqSnapshot (s : State) : Host.Outcome State Fault Refusal := s.run (fun d => d.reqNext 1)
/-- TICK_REQ_EDITION (R19, R22). -/
def execTickReqEdition (s : State) : Host.Outcome State Fault Refusal := s.run (fun d => d.reqNext 2)
/-- TICK_REQ_PAGE_SWAP (R19). -/
def execTickReqPageSwap (s : State) : Host.Outcome State Fault Refusal := s.run (fun d => d.reqNext 4)
/-- TICK_TREQ_SNAPSHOT (R20, R21). -/
def execTickTreqSnapshot (s : State) : Host.Outcome State Fault Refusal := s.run (fun d => d.writeTreq 1)
/-- TICK_TREQ_EDITION (R20-R22). -/
def execTickTreqEdition (s : State) : Host.Outcome State Fault Refusal := s.run (fun d => d.writeTreq 2)
/-- TICK_TREQ_PAGE_SWAP (R20, R21). -/
def execTickTreqPageSwap (s : State) : Host.Outcome State Fault Refusal := s.run (fun d => d.writeTreq 4)

/-- The response of TIME_TICK_QUERY (R26): the basic bytes, and in the expert form every TICK_OVR word. -/
def Dev.tickAnswer (d : Dev) (expert : Bool) : List Byte :=
  leB 8 d.tickNow ++ leB 2 (d.get rTICK_STATUS fTICK_STATUS_TICK_IN_SEC) ++
    leB 1 (d.get rTICK_STATUS fTICK_STATUS_ALIGNED + 2 * d.get rTICK_STATUS fTICK_STATUS_CUTOFF) ++ leB 1 0 ++
    (if expert then (List.range 48).flatMap (fun t => leB 4 (d.rdN (rTICK_OVR t))) else [])

/-- TIME_TICK_QUERY (R26), code 0x0701. -/
def execTimeTickQuery (m : Fin 64) (s : State) : Host.Outcome State Fault Refusal :=
  s.run (fun d => d.command m.val 0x0701 (fun c d =>
    let expert := nbit (c.u8 0) 0 || nbit (c.u8 0) 7
    c.checks d [(c.isOwner || !expert, resNotPermitted), inForm (c.only 0 0x81 && c.endsAt 1)]
      (fun d => c.ok d (d.tickAnswer expert))))

end Sys2Proof.Machine
end

