-- ==== Sys2Proof/Machine/UpCmds.lean ====
section
/-! DEFINITION. The upstream packet path: reassembly's end, the port map, decryption, policing and the Sieve
(04_burst_rx.md R119, R120; 06_catalogue.md R172; 10_cipher.md R297; 07_ladle_demand.md R218, R219; 17_protection.md R496). -/

namespace Sys2Proof.Machine

/-- Each XGEM frame of a packet is treated by its key index (10_cipher.md R297); the packet goes on where every one does. -/
def Dev.decryptAll (d : Dev) (h : Nat) (encrypt : Bool) (keys : List (Fin 4)) : Bool × Dev :=
  keys.foldl (fun r k => match r.2.decryptUs h k.val encrypt with | (ok, d) => (r.1 && ok, d)) (true, d)

/-- A packet of a channel, decrypted: it is policed, then goes to the Sieve or the Colander (07_ladle_demand.md R218, R219;
17_protection.md R496). -/
def Dev.upPass (d : Dev) (t a c : Nat) (bytes : List Byte) : Dev :=
  match d.police a bytes.length with
  | (2, d) => d
  | (n, d) =>
    if (d.chan c).prot then d.protUp t c bytes (n == 1)
    else d.colEnter (d.treePkt t c bytes (n == 1) none)

/-- The channel of an upstream packet (06_catalogue.md R172). -/
def Dev.upChannel (d : Dev) (t a port : Nat) (keys : List (Fin 4)) (bytes : List Byte) : Dev :=
  match d.findChan t port with
  | none => d.bump (rCAT_CNT 9)
  | some c =>
    let d := d.look .chan c
    let r := d.chan c
    if !(d.catReady) || !r.valid || d.quarHandle .chan c then d.bump (rCAT_CNT 9)
    else if !r.us || r.alloc != a then d.bump (rCAT_CNT 10)
    else if r.fault then d.bump (rCAT_CNT 11)
    else match d.decryptAll r.term r.encrypt keys with
      | (false, d) => d
      | (true, d) => d.upPass t a c bytes

/-- PACKET_REASSEMBLED (04_burst_rx.md R119, R120): an XGEM packet of an allocation ends its reassembly, carried by XGEM
frames of the key indices given. -/
def execPacketReassembled (t : Fin 48) (a : Fin 65536) (port : Fin 65536) (keys : List (Fin 4)) (bytes : List Byte) (r : ReasmResult)
    (s : State) : Host.Outcome State Fault Refusal :=
  s.run (fun d =>
    match r with
    | .badHeader => (d.setReasmOf a.val ⟨0, 0⟩).bump (rBRX_CNT t.val 11)
    | .newFrame => d.reasmDrop t.val a.val
    | .whole =>
      let d := d.setReasmOf a.val ⟨0, 0⟩
      if d.maxPkt t.val < bytes.length then d.bump (rBRX_CNT t.val 12)
      else d.upChannel t.val a.val port.val keys bytes)

end Sys2Proof.Machine
end

