-- ==== Sys2Proof/Machine/Dispatch.lean ====
section
/-! DEFINITION. The dispatch: one arm per command, each a direct call of its meaning. -/

namespace Sys2Proof.Machine

def exec (i : Instr) (s : State) : Host.Outcome State Fault Refusal :=
  match i with
  | .tickBoundary => Sys2Proof.Machine.execTickBoundary s
  | .sampleLatch => Sys2Proof.Machine.execSampleLatch s
  | .ladleDeadline => Sys2Proof.Machine.execLadleDeadline s
  | .framerTakesMap => Sys2Proof.Machine.execFramerTakesMap s
  | .writeBackBatchClose => Sys2Proof.Machine.execWriteBackBatchClose s
  | .requestCutoff => Sys2Proof.Machine.execRequestCutoff s
  | .tickReqSnapshot => Sys2Proof.Machine.execTickReqSnapshot s
  | .tickReqEdition => Sys2Proof.Machine.execTickReqEdition s
  | .tickReqPageSwap => Sys2Proof.Machine.execTickReqPageSwap s
  | .tickTreqSnapshot => Sys2Proof.Machine.execTickTreqSnapshot s
  | .tickTreqEdition => Sys2Proof.Machine.execTickTreqEdition s
  | .tickTreqPageSwap => Sys2Proof.Machine.execTickTreqPageSwap s
  | .timeTickQuery m => Sys2Proof.Machine.execTimeTickQuery m s
  | .laneTxffeWrite l val => Sys2Proof.Machine.execLaneTxffeWrite l val s
  | .laneEnable l => Sys2Proof.Machine.execLaneEnable l s
  | .laneDisable l => Sys2Proof.Machine.execLaneDisable l s
  | .receiverDetectDone l far => Sys2Proof.Machine.execReceiverDetectDone l far s
  | .receiverDetectRetry l => Sys2Proof.Machine.execReceiverDetectRetry l s
  | .trainingFrame l control status checkOk inverted ask => Sys2Proof.Machine.execTrainingFrame l control status checkOk inverted ask s
  | .adaptDone l ctle taps => Sys2Proof.Machine.execAdaptDone l ctle taps s
  | .adaptLost l => Sys2Proof.Machine.execAdaptLost l s
  | .trainTimeout l => Sys2Proof.Machine.execTrainTimeout l s
  | .noResponse l => Sys2Proof.Machine.execNoResponse l s
  | .startData l => Sys2Proof.Machine.execStartData l s
  | .cdrLockLost l => Sys2Proof.Machine.execCdrLockLost l s
  | .retrain l => Sys2Proof.Machine.execRetrain l s
  | .autoRetrain l => Sys2Proof.Machine.execAutoRetrain l s
  | .laneSlip l val => Sys2Proof.Machine.execLaneSlip l val s
  | .slipDone l => Sys2Proof.Machine.execSlipDone l s
  | .escanStart l val => Sys2Proof.Machine.execEscanStart l val s
  | .escanDone l count => Sys2Proof.Machine.execEscanDone l count s
  | .patLock l => Sys2Proof.Machine.execPatLock l s
  | .patLockLost l errs => Sys2Proof.Machine.execPatLockLost l errs s
  | .diagLane m => Sys2Proof.Machine.execDiagLane m s
  | .treeLineCtrlWrite t val => Sys2Proof.Machine.execTreeLineCtrlWrite t val s
  | .treeEnable t => Sys2Proof.Machine.execTreeEnable t s
  | .treeDisable t => Sys2Proof.Machine.execTreeDisable t s
  | .dsPrecodeChange t on => Sys2Proof.Machine.execDsPrecodeChange t on s
  | .linePllLock t => Sys2Proof.Machine.execLinePllLock t s
  | .linePllUnlock t => Sys2Proof.Machine.execLinePllUnlock t s
  | .firstFrame t => Sys2Proof.Machine.execFirstFrame t s
  | .modulePresent c => Sys2Proof.Machine.execModulePresent c s
  | .moduleIdentify c opens id app => Sys2Proof.Machine.execModuleIdentify c opens id app s
  | .i2cNackLimit c => Sys2Proof.Machine.execI2cNackLimit c s
  | .prsLRise c => Sys2Proof.Machine.execPrsLRise c s
  | .moduleRemoved c => Sys2Proof.Machine.execModuleRemoved c s
  | .reident c => Sys2Proof.Machine.execReident c s
  | .modReset c on => Sys2Proof.Machine.execModReset c on s
  | .lowSpeedPinCheck c mism => Sys2Proof.Machine.execLowSpeedPinCheck c mism s
  | .moduleInt c => Sys2Proof.Machine.execModuleInt c s
  | .rssiArm t val => Sys2Proof.Machine.execRssiArm t val s
  | .rssiDone t burstNs seen data => Sys2Proof.Machine.execRssiDone t burstNs seen data s
  | .rssiTimeout t => Sys2Proof.Machine.execRssiTimeout t s
  | .lineOptionsEffective h => Sys2Proof.Machine.execLineOptionsEffective h s
  | .treeConfig m => Sys2Proof.Machine.execTreeConfig m s
  | .treeStatus m => Sys2Proof.Machine.execTreeStatus m s
  | .treeRssi m => Sys2Proof.Machine.execTreeRssi m s
  | .descriptorEnqueue t e late => Sys2Proof.Machine.execDescriptorEnqueue t e late s
  | .delimiterSearch t act found taps => Sys2Proof.Machine.execDelimiterSearch t act found taps s
  | .codewordDecode t r hit => Sys2Proof.Machine.execCodewordDecode t r hit s
  | .packetReassembled t a port keys bytes r => Sys2Proof.Machine.execPacketReassembled t a port keys bytes r s
  | .reassemblyTimeout a => Sys2Proof.Machine.execReassemblyTimeout a s
  | .grantClose t e fin => Sys2Proof.Machine.execGrantClose t e fin s
  | .strayLight t => Sys2Proof.Machine.execStrayLight t s
  | .overlong t e => Sys2Proof.Machine.execOverlong t e s
  | .rogueSearchStep t => Sys2Proof.Machine.execRogueSearchStep t s
  | .brxPresetAccess t val => Sys2Proof.Machine.execBrxPresetAccess t val s
  | .brxProfWrite t k val => Sys2Proof.Machine.execBrxProfWrite t k val s
  | .tapNegotiationStart t => Sys2Proof.Machine.execTapNegotiationStart t s
  | .tapResponse t id content => Sys2Proof.Machine.execTapResponse t id content s
  | .tapMeasurementDone t => Sys2Proof.Machine.execTapMeasurementDone t s
  | .tapRequestTimeout t => Sys2Proof.Machine.execTapRequestTimeout t s
  | .tapBurstsTimeout t => Sys2Proof.Machine.execTapBurstsTimeout t s
  | .retuneDue t h => Sys2Proof.Machine.execRetuneDue t h s
  | .eyescanLimit t count => Sys2Proof.Machine.execEyescanLimit t count s
  | .termRetune m => Sys2Proof.Machine.execTermRetune m s
  | .termEyescan m => Sys2Proof.Machine.execTermEyescan m s
  | .treeBrxCounters m => Sys2Proof.Machine.execTreeBrxCounters m s
  | .actConfigWrite t reach val => Sys2Proof.Machine.execActConfigWrite t reach val s
  | .serialNumberOnu t act sn => Sys2Proof.Machine.execSerialNumberOnu t act sn s
  | .acknowledgement t id what port => Sys2Proof.Machine.execAcknowledgement t id what port s
  | .rangingTimeTimeout h => Sys2Proof.Machine.execRangingTimeTimeout h s
  | .lostTicksExpiry h => Sys2Proof.Machine.execLostTicksExpiry h s
  | .qwSkip t => Sys2Proof.Machine.execQwSkip t s
  | .termStop m => Sys2Proof.Machine.execTermStop m s
  | .treeActConfig m => Sys2Proof.Machine.execTreeActConfig m s
  | .termState m => Sys2Proof.Machine.execTermState m s
  | .treeSnList m => Sys2Proof.Machine.execTreeSnList m s
  | .actTermSel t val => Sys2Proof.Machine.execActTermSel t val s
  | .treeTenant m => Sys2Proof.Machine.execTreeTenant m s
  | .termCreate m => Sys2Proof.Machine.execTermCreate m s
  | .termEdit m => Sys2Proof.Machine.execTermEdit m s
  | .termRemove m => Sys2Proof.Machine.execTermRemove m s
  | .termRead m => Sys2Proof.Machine.execTermRead m s
  | .allocCreate m => Sys2Proof.Machine.execAllocCreate m s
  | .allocEdit m => Sys2Proof.Machine.execAllocEdit m s
  | .allocRemove m => Sys2Proof.Machine.execAllocRemove m s
  | .allocRead m => Sys2Proof.Machine.execAllocRead m s
  | .chanCreate m => Sys2Proof.Machine.execChanCreate m s
  | .chanEdit m => Sys2Proof.Machine.execChanEdit m s
  | .chanRemove m => Sys2Proof.Machine.execChanRemove m s
  | .chanRead m => Sys2Proof.Machine.execChanRead m s
  | .quarantineEnd => Sys2Proof.Machine.execQuarantineEnd s
  | .catRecRead kind index => Sys2Proof.Machine.execCatRecRead kind index s
  | .catRecWrite kind index => Sys2Proof.Machine.execCatRecWrite kind index s
  | .recordFetch k h bad => Sys2Proof.Machine.execRecordFetch k h bad s
  | .writeBackDone => Sys2Proof.Machine.execWriteBackDone s
  | .catTenWrite n w val => Sys2Proof.Machine.execCatTenWrite n w val s
  | .catBaseWrite hi val => Sys2Proof.Machine.execCatBaseWrite hi val s
  | .catalogueReady => Sys2Proof.Machine.execCatalogueReady s
  | .statusReport t e good bytes => Sys2Proof.Machine.execStatusReport t e good bytes s
  | .scheduleNotice fabric lane ns frame => Sys2Proof.Machine.execScheduleNotice fabric lane ns frame s
  | .treeAdmit m => Sys2Proof.Machine.execTreeAdmit m s
  | .allocDemand m => Sys2Proof.Machine.execAllocDemand m s
  | .allocNotice m => Sys2Proof.Machine.execAllocNotice m s
  | .allocNoticeSrc m => Sys2Proof.Machine.execAllocNoticeSrc m s
  | .ladleAdmitWrite t val => Sys2Proof.Machine.execLadleAdmitWrite t val s
  | .ladleNsrcWrite j w val => Sys2Proof.Machine.execLadleNsrcWrite j w val s
  | .mapHeld t ns workBad => Sys2Proof.Machine.execMapHeld t ns workBad s
  | .inflightStale t e => Sys2Proof.Machine.execInflightStale t e s
  | .ladleIftCopy val => Sys2Proof.Machine.execLadleIftCopy val s
  | .treeMapStatus m => Sys2Proof.Machine.execTreeMapStatus m s
  | .dsChoice t fs next ecc => Sys2Proof.Machine.execDsChoice t fs next ecc s
  | .gateListCommit g len => Sys2Proof.Machine.execGateListCommit g len s
  | .gateListAbort g len => Sys2Proof.Machine.execGateListAbort g len s
  | .gateListActive g => Sys2Proof.Machine.execGateListActive g s
  | .dsqTenWrite t n w val => Sys2Proof.Machine.execDsqTenWrite t n w val s
  | .dsqAdmitWrite t val => Sys2Proof.Machine.execDsqAdmitWrite t val s
  | .dsqSampleCopy chan => Sys2Proof.Machine.execDsqSampleCopy chan s
  | .histCopy h val => Sys2Proof.Machine.execHistCopy h val s
  | .histCfgWrite h val => Sys2Proof.Machine.execHistCfgWrite h val s
  | .treeDsConfig m => Sys2Proof.Machine.execTreeDsConfig m s
  | .treeDsTenant m => Sys2Proof.Machine.execTreeDsTenant m s
  | .treeGate m => Sys2Proof.Machine.execTreeGate m s
  | .chanDsSample m => Sys2Proof.Machine.execChanDsSample m s
  | .treeDsHist m => Sys2Proof.Machine.execTreeDsHist m s
  | .engineParityError e => Sys2Proof.Machine.execEngineParityError e s
  | .keySession m => Sys2Proof.Machine.execKeySession m s
  | .keyCert m => Sys2Proof.Machine.execKeyCert m s
  | .keyInstall m => Sys2Proof.Machine.execKeyInstall m s
  | .keyStatus m => Sys2Proof.Machine.execKeyStatus m s
  | .keySaInstall m => Sys2Proof.Machine.execKeySaInstall m s
  | .keySelftest m => Sys2Proof.Machine.execKeySelftest m s
  | .keyZeroise m => Sys2Proof.Machine.execKeyZeroise m s
  | .tamperInput k active => Sys2Proof.Machine.execTamperInput k active s
  | .secZeroise val => Sys2Proof.Machine.execSecZeroise val s
  | .zeroisationDone => Sys2Proof.Machine.execZeroisationDone s
  | .ciphKeyCopy index slot => Sys2Proof.Machine.execCiphKeyCopy index slot s
  | .engineTestStart e => Sys2Proof.Machine.execEngineTestStart e s
  | .engineTestDone e pass => Sys2Proof.Machine.execEngineTestDone e pass s
  | .fenceRecovery w val => Sys2Proof.Machine.execFenceRecovery w val s
  | .colanderPass corr errs => Sys2Proof.Machine.execColanderPass corr errs s
  | .colStageRead kind idx => Sys2Proof.Machine.execColStageRead kind idx s
  | .colStageWrite kind idx => Sys2Proof.Machine.execColStageWrite kind idx s
  | .editionOpen m => Sys2Proof.Machine.execEditionOpen m s
  | .editionWrite m => Sys2Proof.Machine.execEditionWrite m s
  | .editionCommit m => Sys2Proof.Machine.execEditionCommit m s
  | .editionAbort m => Sys2Proof.Machine.execEditionAbort m s
  | .editionStatus m => Sys2Proof.Machine.execEditionStatus m s
  | .editionExc m => Sys2Proof.Machine.execEditionExc m s
  | .editionMirror m => Sys2Proof.Machine.execEditionMirror m s
  | .learnRequest => Sys2Proof.Machine.execLearnRequest s
  | .sweepVisit corr errs => Sys2Proof.Machine.execSweepVisit corr errs s
  | .fwdInsert m => Sys2Proof.Machine.execFwdInsert m s
  | .fwdDelete m => Sys2Proof.Machine.execFwdDelete m s
  | .fwdSearch m corr errs => Sys2Proof.Machine.execFwdSearch m corr errs s
  | .fwdNext m => Sys2Proof.Machine.execFwdNext m s
  | .fwdFlushPort m => Sys2Proof.Machine.execFwdFlushPort m s
  | .fwdFlushDomain m => Sys2Proof.Machine.execFwdFlushDomain m s
  | .fwdTable m => Sys2Proof.Machine.execFwdTable m s
  | .fwdTblWrite n w val => Sys2Proof.Machine.execFwdTblWrite n w val s
  | .fwdHashSeedWrite val => Sys2Proof.Machine.execFwdHashSeedWrite val s
  | .fwdReady => Sys2Proof.Machine.execFwdReady s
  | .bankRelease b scrub => Sys2Proof.Machine.execBankRelease b scrub s
  | .bankAssign b owner pool => Sys2Proof.Machine.execBankAssign b owner pool s
  | .bankReleaseAssign b scrub owner pool => Sys2Proof.Machine.execBankReleaseAssign b scrub owner pool s
  | .bankDrained => Sys2Proof.Machine.execBankDrained s
  | .bankDrainFail => Sys2Proof.Machine.execBankDrainFail s
  | .bankScrubDone bad => Sys2Proof.Machine.execBankScrubDone bad s
  | .stkLock val => Sys2Proof.Machine.execStkLock val s
  | .listRebuilt b => Sys2Proof.Machine.execListRebuilt b s
  | .panReserveWrite ten e w val => Sys2Proof.Machine.execPanReserveWrite ten e w val s
  | .stacksAssign m => Sys2Proof.Machine.execStacksAssign m s
  | .stacksReserve m => Sys2Proof.Machine.execStacksReserve m s
  | .stacksStatus m => Sys2Proof.Machine.execStacksStatus m s
  | .dramAccessDone c ns arrived ready bad => Sys2Proof.Machine.execDramAccessDone c ns arrived ready bad s
  | .refresh c b => Sys2Proof.Machine.execRefresh c b s
  | .refreshRateRead c code hot => Sys2Proof.Machine.execRefreshRateRead c code hot s
  | .readStrobeCheck c drifted => Sys2Proof.Machine.execReadStrobeCheck c drifted s
  | .scrubRead bad raced => Sys2Proof.Machine.execScrubRead bad raced s
  | .dramInitDone fails => Sys2Proof.Machine.execDramInitDone fails s
  | .dramCtrlWrite val => Sys2Proof.Machine.execDramCtrlWrite val s
  | .spRegionWrite w val => Sys2Proof.Machine.execSpRegionWrite w val s
  | .spillWriteDone upl q => Sys2Proof.Machine.execSpillWriteDone upl q s
  | .stockpotFetch upl q bad => Sys2Proof.Machine.execStockpotFetch upl q bad s
  | .diagDram m => Sys2Proof.Machine.execDiagDram m s
  | .stacksSpill m => Sys2Proof.Machine.execStacksSpill m s
  | .uplPortCtrlWrite u val => Sys2Proof.Machine.execUplPortCtrlWrite u val s
  | .uplinkEnable u => Sys2Proof.Machine.execUplinkEnable u s
  | .uplinkDisable u => Sys2Proof.Machine.execUplinkDisable u s
  | .uplinkUp u => Sys2Proof.Machine.execUplinkUp u s
  | .uplinkDown u => Sys2Proof.Machine.execUplinkDown u s
  | .uplinkFrameRx u ns frac body fcsOk sec => Sys2Proof.Machine.execUplinkFrameRx u ns frac body fcsOk sec s
  | .uplinkFrameTx u ns frac toPins ecc => Sys2Proof.Machine.execUplinkFrameTx u ns frac toPins ecc s
  | .uplTsPop u => Sys2Proof.Machine.execUplTsPop u s
  | .diagUplink m => Sys2Proof.Machine.execDiagUplink m s
  | .fabBndCtrlWrite b val => Sys2Proof.Machine.execFabBndCtrlWrite b val s
  | .bundleEnable b => Sys2Proof.Machine.execBundleEnable b s
  | .bundleDisable b => Sys2Proof.Machine.execBundleDisable b s
  | .bundleLanesTrained b => Sys2Proof.Machine.execBundleLanesTrained b s
  | .fabOverheadCell f ns diff cell corr uncorr drops => Sys2Proof.Machine.execFabOverheadCell f ns diff cell corr uncorr drops s
  | .fabPacketRx b trib ns packet sec => Sys2Proof.Machine.execFabPacketRx b trib ns packet sec s
  | .fabCmRead lane dir page slot => Sys2Proof.Machine.execFabCmRead lane dir page slot s
  | .fabCmWrite lane dir page slot => Sys2Proof.Machine.execFabCmWrite lane dir page slot s
  | .fabCmMark lane dir page => Sys2Proof.Machine.execFabCmMark lane dir page s
  | .fabTblRead table index => Sys2Proof.Machine.execFabTblRead table index s
  | .fabTblWrite table index => Sys2Proof.Machine.execFabTblWrite table index s
  | .fabShelfmarkWrite val => Sys2Proof.Machine.execFabShelfmarkWrite val s
  | .fabCtrlWrite val => Sys2Proof.Machine.execFabCtrlWrite val s
  | .bridgeHelloSend b => Sys2Proof.Machine.execBridgeHelloSend b s
  | .bridgeTimeout b => Sys2Proof.Machine.execBridgeTimeout b s
  | .conflictClear => Sys2Proof.Machine.execConflictClear s
  | .editionFollow b defFlags miss rules actions => Sys2Proof.Machine.execEditionFollow b defFlags miss rules actions s
  | .fabBundle m => Sys2Proof.Machine.execFabBundle m s
  | .fabRoute m => Sys2Proof.Machine.execFabRoute m s
  | .fabConnect m => Sys2Proof.Machine.execFabConnect m s
  | .fabPeers m => Sys2Proof.Machine.execFabPeers m s
  | .fabBridge m => Sys2Proof.Machine.execFabBridge m s
  | .protPairWrite t w val => Sys2Proof.Machine.execProtPairWrite t w val s
  | .healthReport t ns body => Sys2Proof.Machine.execHealthReport t ns body s
  | .protectionCopy t kind port yellow body => Sys2Proof.Machine.execProtectionCopy t kind port yellow body s
  | .mirrorImage t kind body => Sys2Proof.Machine.execMirrorImage t kind body s
  | .seqConfigTimeout c => Sys2Proof.Machine.execSeqConfigTimeout c s
  | .sieveStreamReset c => Sys2Proof.Machine.execSieveStreamReset c s
  | .sieveCopy c => Sys2Proof.Machine.execSieveCopy c s
  | .protPair m => Sys2Proof.Machine.execProtPair m s
  | .protStatus m => Sys2Proof.Machine.execProtStatus m s
  | .protSieve m => Sys2Proof.Machine.execProtSieve m s
  | .protSwitch m => Sys2Proof.Machine.execProtSwitch m s
  | .almMeas val ns => Sys2Proof.Machine.execAlmMeas val ns s
  | .sourceTimeout => Sys2Proof.Machine.execSourceTimeout s
  | .holdQualExpiry => Sys2Proof.Machine.execHoldQualExpiry s
  | .almLatch val ns frac => Sys2Proof.Machine.execAlmLatch val ns frac s
  | .almSrcWrite val => Sys2Proof.Machine.execAlmSrcWrite val s
  | .pulseInputEdge ns => Sys2Proof.Machine.execPulseInputEdge ns s
  | .almPinPop => Sys2Proof.Machine.execAlmPinPop s
  | .almPulseWrite k w val => Sys2Proof.Machine.execAlmPulseWrite k w val s
  | .timeOfDay => Sys2Proof.Machine.execTimeOfDay s
  | .freqAck p seq applied freq => Sys2Proof.Machine.execFreqAck p seq applied freq s
  | .freqNoack => Sys2Proof.Machine.execFreqNoack s
  | .timeStatus m => Sys2Proof.Machine.execTimeStatus m s
  | .timeSource m => Sys2Proof.Machine.execTimeSource m s
  | .timeSet m => Sys2Proof.Machine.execTimeSet m s
  | .timePulse m => Sys2Proof.Machine.execTimePulse m s
  | .timeTod m => Sys2Proof.Machine.execTimeTod m s
  | .timeRadio m => Sys2Proof.Machine.execTimeRadio m s
  | .gellenLaneLock l => Sys2Proof.Machine.execGellenLaneLock l s
  | .gellenLaneLockLost l => Sys2Proof.Machine.execGellenLaneLockLost l s
  | .gellenMark l hdr bytes bip skew => Sys2Proof.Machine.execGellenMark l hdr bytes bip skew s
  | .glkCtrlWrite val => Sys2Proof.Machine.execGlkCtrlWrite val s
  | .regRead p seq req addr tag more => Sys2Proof.Machine.execRegRead p seq req addr tag more s
  | .regWrite p seq req addr vals => Sys2Proof.Machine.execRegWrite p seq req addr vals s
  | .dmaCompletion p seq tag err data => Sys2Proof.Machine.execDmaCompletion p seq tag err data s
  | .ack p seq nak sound => Sys2Proof.Machine.execAck p seq nak sound s
  | .credit p cls limit sound => Sys2Proof.Machine.execCredit p cls limit sound s
  | .replayTimeout p => Sys2Proof.Machine.execReplayTimeout p s
  | .mbxDoorbell m val => Sys2Proof.Machine.execMbxDoorbell m val s
  | .glkMbxOwnerWrite k val => Sys2Proof.Machine.execGlkMbxOwnerWrite k val s
  | .ringCtrlWrite r val => Sys2Proof.Machine.execRingCtrlWrite r val s
  | .ringTailWrite r val => Sys2Proof.Machine.execRingTailWrite r val s
  | .ringEvent r => Sys2Proof.Machine.execRingEvent r s
  | .ringFault r => Sys2Proof.Machine.execRingFault r s
  | .glkAlertAck val => Sys2Proof.Machine.execGlkAlertAck val s
  | .glkAlertSel val => Sys2Proof.Machine.execGlkAlertSel val s
  | .glkViolPop val => Sys2Proof.Machine.execGlkViolPop val s
  | .diagLink m => Sys2Proof.Machine.execDiagLink m s
  | .diagMailbox m => Sys2Proof.Machine.execDiagMailbox m s
  | .refValid r both => Sys2Proof.Machine.execRefValid r both s
  | .refInvalid r => Sys2Proof.Machine.execRefInvalid r s
  | .ringStable period => Sys2Proof.Machine.execRingStable period s
  | .ringOutOfRange period => Sys2Proof.Machine.execRingOutOfRange period s
  | .ringAttemptFail => Sys2Proof.Machine.execRingAttemptFail s
  | .voidAttempt => Sys2Proof.Machine.execVoidAttempt s
  | .pwrGoodRise => Sys2Proof.Machine.execPwrGoodRise s
  | .pwrGoodFall => Sys2Proof.Machine.execPwrGoodFall s
  | .supplyUndervoltage => Sys2Proof.Machine.execSupplyUndervoltage s
  | .resetL => Sys2Proof.Machine.execResetL s
  | .warmReset val => Sys2Proof.Machine.execWarmReset val s
  | .pllLoss k => Sys2Proof.Machine.execPllLoss k s
  | .pllMpLock locked => Sys2Proof.Machine.execPllMpLock locked s
  | .blockReset val => Sys2Proof.Machine.execBlockReset val s
  | .resetHandshakeAck c => Sys2Proof.Machine.execResetHandshakeAck c s
  | .bootArchiveVerified => Sys2Proof.Machine.execBootArchiveVerified s
  | .bootClocksLocked => Sys2Proof.Machine.execBootClocksLocked s
  | .bootTestDone bad memFail => Sys2Proof.Machine.execBootTestDone bad memFail s
  | .firmwareReady ms => Sys2Proof.Machine.execFirmwareReady ms s
  | .fwLimit => Sys2Proof.Machine.execFwLimit s
  | .flashRead len err => Sys2Proof.Machine.execFlashRead len err s
  | .flashProgram len err => Sys2Proof.Machine.execFlashProgram len err s
  | .flashErase err => Sys2Proof.Machine.execFlashErase err s
  | .diagClock m => Sys2Proof.Machine.execDiagClock m s
  | .diagReset m => Sys2Proof.Machine.execDiagReset m s
  | .diagBoot m err => Sys2Proof.Machine.execDiagBoot m err s
  | .cntCfgWrite n val => Sys2Proof.Machine.execCntCfgWrite n val s
  | .cntFltWrite p w val => Sys2Proof.Machine.execCntFltWrite p w val s
  | .cntClear val => Sys2Proof.Machine.execCntClear val s
  | .sampleTrigger u skid pc busy => Sys2Proof.Machine.execSampleTrigger u skid pc busy s
  | .cntSmpPop u => Sys2Proof.Machine.execCntSmpPop u s
  | .mtestStart val => Sys2Proof.Machine.execMtestStart val s
  | .mtestDone finds again => Sys2Proof.Machine.execMtestDone finds again s
  | .mtestLogPop => Sys2Proof.Machine.execMtestLogPop s
  | .cntConfig m => Sys2Proof.Machine.execCntConfig m s
  | .cntRead m => Sys2Proof.Machine.execCntRead m s
  | .cntSnapshot m => Sys2Proof.Machine.execCntSnapshot m s
  | .cntSample m => Sys2Proof.Machine.execCntSample m s
  | .diagMtest m => Sys2Proof.Machine.execDiagMtest m s
  | .tempReading temp => Sys2Proof.Machine.execTempReading temp s
  | .jtagChallenge => Sys2Proof.Machine.execJtagChallenge s
  | .jtagResponse sig => Sys2Proof.Machine.execJtagResponse sig s
  | .diagPin m => Sys2Proof.Machine.execDiagPin m s
  | .registerWrite addr val => Sys2Proof.Machine.execRegisterWrite addr val s
  | .forceTxdisWrite c on => Sys2Proof.Machine.execForceTxdisWrite c on s
  | .diagLaneCheckEnd m errs => Sys2Proof.Machine.execDiagLaneCheckEnd m errs s
  | .commandedWarmReset => Sys2Proof.Machine.execCommandedWarmReset s
  | .pantryReady => Sys2Proof.Machine.execPantryReady s
  | .fabricSlotDue f slot data ecc => Sys2Proof.Machine.execFabricSlotDue f slot data ecc s
  | .transactionDiscarded p seq typ words sound => Sys2Proof.Machine.execTransactionDiscarded p seq typ words sound s
  | .cntSmpCtrlWrite u val => Sys2Proof.Machine.execCntSmpCtrlWrite u val s

end Sys2Proof.Machine
end

