-- ==== Sys2Proof/Safety.lean ====
section
/-! DEFINITION. What counts as a safe state and a safe step, and the terms the statements are made in: a command that stands
ready in a mailbox, a mailbox command that is done, and what a step leaves alone. -/

namespace Sys2Proof.Machine

/-- The mailbox memory is in canonical form: addresses rising, and no byte listed that reads 0 unlisted. -/
def Memory.wf (mem : List Host.Cell) : Bool := swf zeroByte mem

/-- The flash is in canonical form: addresses rising, and no byte listed that reads 0xFF unlisted. -/
def Flash.wf (flash : List Host.Cell) : Bool := swf flashByte flash

/-- The invariant every step keeps: both byte memories are canonical, and no reply or zeroing of a step waits. -/
abbrev State.Inv (s : State) : Prop :=
  Memory.wf s.mem = true ∧ Flash.wf s.flash = true ∧ s.dev.replies = [] ∧ s.dev.wipes = []

/-- A step that does not stop. -/
def State.SafeStep (s : State) : Prop := ∃ t, step s = .next t

/-- The device runs: it has a clock, and nothing of a step is left undelivered. -/
abbrev State.Runs (s : State) : Prop := s.dev.clocked = true ∧ s.dev.replies = [] ∧ s.dev.wipes = []

/-- The command of one code stands in a mailbox, taken and not begun, and may begin (19_gellen.md R565, R566): fewer than
eight others have begun, and the device is not zeroised (10_cipher.md R307). -/
abbrev State.Ready (s : State) (m : Fin 64) (code : Nat) (c : Cmd) : Prop :=
  s.Runs ∧ c.mbx = m.val ∧ s.dev.glk.cmds.find? (fun x => x.mbx == m.val && x.code == code && !x.started) = some c ∧
  (s.dev.glk.cmds.filter (fun x => x.started)).length < mbxConcurrent ∧ s.dev.bit rSEC_STATUS fSEC_STATUS_ZEROISED = false

/-- A mailbox shows its command done (R565): STATE DONE, the RESULT, RESP_LEN, and the response bytes at the start of its
response area (R564). -/
def State.Done (t : State) (m : Fin 64) (result : Nat) (resp : List Byte) : Prop :=
  t.dev.get (rMBX_STATUS m.val) fMBX_STATUS_STATE = 2 ∧ t.dev.get (rMBX_STATUS m.val) fMBX_STATUS_RESULT = result ∧
  t.dev.get (rMBX_STATUS m.val) fMBX_STATUS_RESP_LEN = resp.length ∧
  loadBytes zeroByte t.mem (mbxBase m.val + 0x800) resp.length = resp

/-- Nothing changes but the answer in a mailbox: of the registers MBX_STATUS and MBX_INFO of that mailbox and the counter of
transactions sent, of the device the mailbox's command and what the ports send, of memory the response area. -/
def State.OnlyAnswers (s t : State) (m : Fin 64) : Prop :=
  (∀ a, a ≠ rMBX_STATUS m.val → a ≠ rMBX_INFO m.val → a ≠ rGLK_CNT 0 → t.dev.rd a = s.dev.rd a) ∧
  t.dev = { s.dev with
    regs := t.dev.regs, out := t.dev.out
    glk := { s.dev.glk with portA := t.dev.glk.portA, portB := t.dev.glk.portB, cmds := s.dev.glk.cmds.filter (fun x => x.mbx != m.val) } } ∧
  (∀ a, a < mbxBase m.val + 0x800 ∨ mbxBase m.val + 0x1000 ≤ a → sget zeroByte t.mem a = sget zeroByte s.mem a) ∧
  t.flash = s.flash ∧ t.pending = s.pending

/-- A step changes of the registers only the listed ones, and beside the registers and what was sent it changes the device only
into `e`; memory, flash and the queue stand. -/
def State.OnlyChanges (s t : State) (l : List Nat) (e : Dev) : Prop :=
  (∀ a, a ∉ l → t.dev.rd a = s.dev.rd a) ∧ t = { s with dev := { e with regs := t.dev.regs, out := t.dev.out } }

/-- The device at the start of a step: what was sent before is gone (log entry 2). -/
def State.start (s : State) : Dev := { s.dev with out := [] }

/-- The state after a step that leaves the device in `e`: its replies reach the mailboxes. -/
def State.after (s : State) (e : Dev) : State := deliver { s with dev := e }

/-- What a register holds after a write of software, by its row's access codes (00_scope.md R9). -/
def Dev.stored (d : Dev) (a v : Nat) : Nat :=
  match regFind a with
  | none => d.rdN a
  | some (_, _, r) => accessWord r (d.rdN a) v % 2 ^ 32

/-- A counter register has counted `n` more: COUNT, its bits 30:0, wraps. -/
def State.Counts (s t : State) (a n : Nat) : Prop := t.dev.rdN a % 2 ^ 31 = (s.dev.rdN a + n) % 2 ^ 31

/-- A port may send one more transaction of a TYPE with a body of `len` bytes at once: it is UP, nothing waits before it, the
store has room, and credit allows it (19_gellen.md R552, R555, R556). -/
abbrev Dev.MaySend (d : Dev) (p typ len : Nat) : Prop :=
  d.portState p = 4 ∧ (d.port p).queue = [] ∧ (d.port p).store.length < 512 ∧
  ((d.port p).store.map (fun u => u.body.length + 16)).sum + len + 16 ≤ 65536 ∧
  creditOk ((d.port p).limit.getD (transClass typ) 0) ((d.port p).consumed.getD (transClass typ) 0) (len / 8 + 2) = true

/-- A step sends one transaction on a port: it joins the unacknowledged ones with the next SEQ (R555). -/
def State.Sends (s t : State) (p typ : Nat) (body : List Byte) : Prop :=
  (t.dev.port p).store = (s.dev.port p).store ++ [⟨typ, transClass typ, (s.dev.port p).txNext, body⟩] ∧ (t.dev.port p).queue = []

/-- The next transaction of a port arrives (R552, R555): the port is UP and the SEQ is the one it expects. -/
abbrev Dev.Takes (d : Dev) (p seq : Nat) : Prop := d.portState p = 4 ∧ (d.port p).rxNext = seq

/-- The mailbox commands that are open to the owner alone (19_gellen.md R569), with their codes. -/
def OwnerCommand (m : Fin 64) (i : Instr) (code : Nat) : Prop :=
  (i, code) ∈ [(.treeConfig m, 0x0101), (.treeRssi m, 0x0103), (.treeActConfig m, 0x0105), (.treeSnList m, 0x0106), (.treeAdmit m, 0x0108),
   (.treeDsConfig m, 0x010A), (.termRetune m, 0x02C0), (.termEyescan m, 0x02C1), (.allocNoticeSrc m, 0x0307),
   (.editionOpen m, 0x0501), (.editionWrite m, 0x0502), (.editionCommit m, 0x0503), (.editionAbort m, 0x0504),
   (.editionStatus m, 0x0505), (.editionExc m, 0x0506), (.editionMirror m, 0x0507), (.timeSource m, 0x0703),
   (.timeSet m, 0x0704), (.timePulse m, 0x0705), (.keySaInstall m, 0x0805), (.keySelftest m, 0x0806), (.keyZeroise m, 0x0807),
   (.protPair m, 0x0901), (.protSwitch m, 0x0904), (.fabBundle m, 0x0A01), (.fabRoute m, 0x0A02), (.fabConnect m, 0x0A03),
   (.fabPeers m, 0x0A04), (.fabBridge m, 0x0A05), (.cntConfig m, 0x0B01), (.cntSnapshot m, 0x0B03), (.cntSample m, 0x0B04),
   (.diagLane m, 0x0C01), (.diagDram m, 0x0C02), (.diagUplink m, 0x0C03), (.diagLink m, 0x0C04), (.diagMailbox m, 0x0C05),
   (.diagClock m, 0x0C06), (.diagReset m, 0x0C07), (.diagBoot m false, 0x0C08), (.diagBoot m true, 0x0C08), (.diagMtest m, 0x0C09),
   (.diagPin m, 0x0C0A),
   (.stacksAssign m, 0x0D01), (.stacksStatus m, 0x0D03), (.stacksSpill m, 0x0D04)]

/-- The other mailbox commands (19_gellen.md R569), with their codes. -/
def SharedCommand (m : Fin 64) (i : Instr) (code : Nat) : Prop :=
  (∃ corr errs, i = .fwdSearch m corr errs ∧ code = 0x0603) ∨
  (i, code) ∈ [(.treeStatus m, 0x0102), (.treeBrxCounters m, 0x0104), (.treeTenant m, 0x0107), (.treeMapStatus m, 0x0109),
   (.treeDsTenant m, 0x010B), (.treeGate m, 0x010C), (.treeDsHist m, 0x010D), (.termCreate m, 0x0201), (.termEdit m, 0x0202),
   (.termRemove m, 0x0203), (.termRead m, 0x0204), (.termState m, 0x0280), (.termStop m, 0x0281), (.allocCreate m, 0x0301),
   (.allocEdit m, 0x0302), (.allocRemove m, 0x0303), (.allocRead m, 0x0304), (.allocDemand m, 0x0305),
   (.allocNotice m, 0x0306), (.chanCreate m, 0x0401), (.chanEdit m, 0x0402), (.chanRemove m, 0x0403), (.chanRead m, 0x0404),
   (.chanDsSample m, 0x0405), (.fwdInsert m, 0x0601), (.fwdDelete m, 0x0602),
   (.fwdNext m, 0x0604), (.fwdFlushPort m, 0x0605), (.fwdFlushDomain m, 0x0606), (.fwdTable m, 0x0607),
   (.timeTickQuery m, 0x0701), (.timeStatus m, 0x0702), (.timeTod m, 0x0706), (.timeRadio m, 0x0707), (.keySession m, 0x0801),
   (.keyCert m, 0x0802), (.keyInstall m, 0x0803), (.keyStatus m, 0x0804), (.protStatus m, 0x0902), (.protSieve m, 0x0903),
   (.cntRead m, 0x0B02), (.stacksReserve m, 0x0D02)]

/-- What self-timed logic, the monitors and the pins do without a clock (20_clocks_boot.md R588-R591). -/
def selfTimed (i : Instr) : Bool :=
  match i with
  | .refValid _ _ | .refInvalid _ | .ringStable _ | .ringOutOfRange _ | .ringAttemptFail | .voidAttempt => true
  | .pwrGoodRise | .pwrGoodFall | .supplyUndervoltage | .resetL | .zeroisationDone => true
  | _ => false

/-- The commands that may change the flash (20_clocks_boot.md R603, R606), by themselves or through a register. -/
def flashWriter (i : Instr) : Bool :=
  match i with
  | .flashProgram _ _ | .flashErase _ | .diagBoot _ _ | .regWrite _ _ _ _ _ | .registerWrite _ _ | .firmwareReady _ => true
  | _ => false

/-- A device after reset whose clocks run and that has counted `n` ticks. -/
def State.quiet (n : Nat) : State :=
  { State.reset with dev := Dev.wr64 { clk := { sup := .run } } rTICK_COUNT_LO rTICK_COUNT_HI n }

end Sys2Proof.Machine
end

