-- ==== Sys2Proof/Certificates/Slice0/Obligations.lean ====
section
/-! DEFINITION. The statements for the provers, one per family of commands or rule of the whole machine. A clause
`∃ t, exec i s = .next t ∧ …` says that the command completes and what its next state holds. -/

open Sys2Proof Sys2Proof.Machine

/-- TICK_BOUNDARY counts the tick: TICK_COUNT advances by one in 64 bits, TICK_IN_SEC is the tick within its second, and the
cut-off has not passed (01_tick.md R15, R18). -/
def Obligations.TickBoundaryCountsTicks : Prop :=
  ∀ n, n < 2 ^ 64 → ∃ t, exec .tickBoundary (State.quiet n) = .next t ∧ t.dev.tickNow = (n + 1) % 2 ^ 64 ∧
    t.dev.get rTICK_STATUS fTICK_STATUS_TICK_IN_SEC = (n + 1) % 8000 ∧ t.dev.get rTICK_STATUS fTICK_STATUS_CUTOFF = 0 ∧
    t.dev.tick.now = 0

/-- The requests of TICK_REQ (01_tick.md R19, R22). -/
def Obligations.RequestsBindToTheNextBoundary : Prop :=
  (∀ s i b, s.Runs → (i, b) ∈ [(Instr.tickReqSnapshot, 1), (.tickReqEdition, 2), (.tickReqPageSwap, 4)] →
    (b = 2 → s.dev.pendSlot ≠ none) →
    ∃ t, exec i s = .next t ∧
      t.dev.tick = (if s.dev.bit rTICK_STATUS fTICK_STATUS_CUTOFF then { s.dev.tick with late := Nat.lor s.dev.tick.late b }
        else { s.dev.tick with onTime := Nat.lor s.dev.tick.onTime b }) ∧
      t.dev.rd rTICK_REQ = BitVec.ofNat 32 (Nat.lor t.dev.tick.onTime t.dev.tick.late) ∧
      s.OnlyChanges t [rTICK_REQ, rTICK_TREQ] { s.dev with tick := t.dev.tick }) ∧
  (∀ s, s.Runs → s.dev.pendSlot = none →
    ∃ t, exec .tickReqEdition s = .next t ∧ t.dev.bit rTICK_ERR fTICK_ERR_NO_EDITION = true ∧ t.dev.tick = s.dev.tick)

/-- The requests of TICK_TREQ (01_tick.md R20, R21, R24). -/
def Obligations.RequestsBindToATargetTick : Prop :=
  ∀ s i b, s.Runs → (i, b) ∈ [(Instr.tickTreqSnapshot, 1), (.tickTreqEdition, 2), (.tickTreqPageSwap, 4)] →
    (b = 2 → s.dev.pendSlot ≠ none) →
    (s.dev.tick.treq = 0 → s.dev.nextEffect ≤ s.dev.targetReg → s.dev.targetReg ≤ s.dev.tickNow + 2 ^ 32 →
      ∃ t, exec i s = .next t ∧ t.dev.tick = { s.dev.tick with treq := b, target := s.dev.targetReg } ∧
        t.dev.rd rTICK_TREQ = BitVec.ofNat 32 b ∧
        s.OnlyChanges t [rTICK_REQ, rTICK_TREQ] { s.dev with tick := t.dev.tick }) ∧
    (s.dev.tick.treq ≠ 0 →
      ∃ t, exec i s = .next t ∧ t.dev.bit rTICK_ERR fTICK_ERR_TARGET_BUSY = true ∧ s.OnlyChanges t [rTICK_ERR] s.dev) ∧
    (s.dev.tick.treq = 0 → (s.dev.targetReg < s.dev.nextEffect ∨ s.dev.tickNow + 2 ^ 32 < s.dev.targetReg) →
      ∃ t, exec i s = .next t ∧ t.dev.bit rTICK_ERR fTICK_ERR_TARGET_LATE = true ∧ s.OnlyChanges t [rTICK_ERR] s.dev)

/-- The events at the set times of a tick (01_tick.md R18): the samples (09_downstream.md R273), the Ladle's deadline
(08_ladle_maps.md R245), the framer (01_tick.md R27), the write-back batch (06_catalogue.md R177), the cut-off, and the query
of the tick (01_tick.md R26). -/
def Obligations.SetTimesOfTheTick : Prop :=
  (∀ s, s.Runs → s.dev.tick.origin = 0 → s.dev.bit rDSQ_CTRL fDSQ_CTRL_SAMPLE_EN = true →
    (∀ k < 48, s.dev.pairState k = prOff) → sval 32 (s.dev.rdN rALM_FREQ) = s.dev.alm.sent →
    ∃ t, exec .sampleLatch s = .next t ∧ t.dev.ds.before = s.dev.ds.latch ∧ t.dev.ds.latch.tick = s.dev.tickNow ∧
      t.dev.ds.latch.rows = (s.dev.chanQ.filter (fun e => (s.dev.chan e.1).valid && (s.dev.chan e.1).ds)).map (fun e =>
        (e.1, (e.2.map (fun h => h.pkt.bytes.length)).sum, e.2.length,
          match e.2 with
          | h :: _ => min 0xFFFFFFFF (s.dev.tickNow * tickNs + max s.dev.tick.now 2000 - (h.tick * tickNs + h.ns))
          | [] => 0)) ∧
      s.OnlyChanges t [] { s.dev with ds := t.dev.ds, tick := { s.dev.tick with now := max s.dev.tick.now 2000 } }) ∧
  (∀ s k m, s.Runs → s.dev.tick.origin = 0 → s.dev.framers = [k] → (s.dev.ladT k).building = some m → m.held ≠ none → m.check = 0 →
    ∃ t, exec .ladleDeadline s = .next t ∧ (t.dev.ladT k).handed = some m ∧ (t.dev.ladT k).building = none ∧
      (t.dev.ladT k).lastServed = m.lastServed) ∧
  (∀ s k, s.Runs → s.dev.tick.origin = 0 → s.dev.framers = [k] → (s.dev.ladT k).handed = none →
    ∃ t m, exec .framerTakesMap s = .next t ∧ (t.dev.ladT k).handed = some m ∧ (t.dev.ladT k).building = none ∧
      m.repeat_ = true ∧ m.tick = s.dev.tickNow + 1 ∧ ∀ g ∈ m.grants, g.kind ≠ .sn) ∧
  (∀ s, s.Runs → s.dev.tick.origin = 0 → s.dev.cat.quar = [] → (∀ k < 48, s.dev.mirrors k = false) →
    s.dev.cat.writing.length = s.dev.cat.counted → (∀ h ∈ s.dev.cat.openT, (s.dev.term h).tree < 48) →
    (∀ h ∈ s.dev.cat.openA, (s.dev.alloc h).tree < 48) → (∀ h ∈ s.dev.cat.openC, (s.dev.chan h).tree < 48) →
    ∃ t, exec .writeBackBatchClose s = .next t ∧ t.dev.cat.writing = s.dev.cat.writing ++ s.dev.openLines ∧
      t.dev.cat.openT = [] ∧ t.dev.cat.openA = [] ∧ t.dev.cat.openC = [] ∧
      t.dev.cat.ladleTakes = s.dev.cat.ladleTakes ++ s.dev.cat.openA.map (fun h => (h, s.dev.alloc h))) ∧
  (∀ s, s.Runs → s.dev.tick.origin = 0 → ∃ t, exec .requestCutoff s = .next t ∧
      t.dev.get rTICK_STATUS fTICK_STATUS_CUTOFF = 1 ∧
      s.OnlyChanges t [rTICK_STATUS] { s.dev with tick := { s.dev.tick with now := max s.dev.tick.now 124000 } }) ∧
  (∀ s m c, s.Ready m 0x0701 c → c.only 0 0x81 = true → c.endsAt 1 = true →
    c.isOwner = true ∨ (nbit (c.u8 0) 0 = false ∧ nbit (c.u8 0) 7 = false) →
    ∃ t, exec (.timeTickQuery m) s = .next t ∧ s.OnlyAnswers t m ∧
      t.Done m 0 (leB 8 s.dev.tickNow ++ leB 2 (s.dev.get rTICK_STATUS fTICK_STATUS_TICK_IN_SEC) ++
        leB 1 (s.dev.get rTICK_STATUS fTICK_STATUS_ALIGNED + 2 * s.dev.get rTICK_STATUS fTICK_STATUS_CUTOFF) ++ leB 1 0 ++
        (if nbit (c.u8 0) 0 || nbit (c.u8 0) 7 then (List.range 48).flatMap (fun k => leB 4 (s.dev.rdN (rTICK_OVR k))) else [])))

/-- A lane enabled probes for a far receiver and, finding one, trains; a lane disabled is OFF (02_lanes.md R44, R50). -/
def Obligations.LanesEnableProbeAndStop : Prop :=
  ∀ s l, s.Runs → laneTrains l = true →
    (s.dev.bit (rLANE_CTRL (laneBase l)) fLANE_CTRL_EN = false →
      ∃ t, exec (.laneEnable l) s = .next t ∧ t.dev.bit (rLANE_CTRL (laneBase l)) fLANE_CTRL_EN = true ∧
        t.dev.trainState l = tsDetect ∧ t.dev.bit (rLANE_STATUS (laneBase l)) fLANE_STATUS_FAR_PRESENT = false ∧
        (t.dev.laneX (laneBase l)).probing = true ∧
        s.OnlyChanges t [rLANE_CTRL (laneBase l), rLANE_STATUS (laneBase l)] { s.dev with lanes := t.dev.lanes }) ∧
    (s.dev.trainState l = tsDetect → (s.dev.laneX (laneBase l)).probing = true →
      (∃ t, exec (.receiverDetectDone l true) s = .next t ∧ t.dev.trainState l = tsTrain ∧
        t.dev.bit (rLANE_STATUS (laneBase l)) fLANE_STATUS_FAR_PRESENT = true ∧
        t.dev.rd (rLANE_TXFFE (laneBase l)) = BitVec.ofNat 32 (tapsWord (tapPreset
          (s.dev.get (rLANE_TRAIN_CTRL (laneBase l)) fLANE_TRAIN_CTRL_INIT_PRESET))) ∧
        s.OnlyChanges t [rLANE_STATUS (laneBase l), rLANE_TXFFE (laneBase l), rLANE_TRAIN_CTRL (laneBase l)]
          { s.dev with lanes := t.dev.lanes }) ∧
      (∃ t, exec (.receiverDetectDone l false) s = .next t ∧ t.dev.trainState l = tsDetect ∧
        t.dev.bit (rLANE_ERR (laneBase l)) fLANE_ERR_RXDET_OPEN = true ∧ (t.dev.laneX (laneBase l)).probing = false)) ∧
    (s.dev.trainState l = tsDetect →
      ∃ t, exec (.receiverDetectRetry l) s = .next t ∧ (t.dev.laneX (laneBase l)).probing = true ∧
        s.OnlyChanges t [] { s.dev with lanes := t.dev.lanes }) ∧
    (s.dev.bit (rLANE_CTRL (laneBase l)) fLANE_CTRL_EN = true → (s.dev.trainState l ≠ tsData ∨ ∃ u, l = .upl u) →
      ∃ t, exec (.laneDisable l) s = .next t ∧ t.dev.bit (rLANE_CTRL (laneBase l)) fLANE_CTRL_EN = false ∧
        t.dev.rd (rLANE_STATUS (laneBase l)) = 0#32 ∧ t.dev.trainState l = tsOff ∧
        s.OnlyChanges t [rLANE_CTRL (laneBase l), rLANE_STATUS (laneBase l)] { s.dev with lanes := t.dev.lanes })

/-- The transitions of training (02_lanes.md R38, R43, R44). -/
def Obligations.TrainingEndsInDataOrFailure : Prop :=
  ∀ s l, s.Runs →
    (∀ ctle taps, s.dev.laneOk l = true → s.dev.trainState l = tsTrain → (s.dev.laneX (laneBase l)).ask = none →
      ∃ t, exec (.adaptDone l ctle taps) s = .next t ∧ t.dev.trainState l = tsWaitFar ∧
        t.dev.bit (rLANE_STATUS (laneBase l)) fLANE_STATUS_ADAPT_DONE = true) ∧
    (∃ t, exec (.adaptLost l) s = .next t ∧ t.dev.bit (rLANE_STATUS (laneBase l)) fLANE_STATUS_ADAPT_DONE = false ∧
      t.dev.trainState l = s.dev.trainState l ∧ s.OnlyChanges t [rLANE_STATUS (laneBase l)] s.dev) ∧
    (s.dev.trainState l = tsWaitFar → (s.dev.laneX (laneBase l)).farReady = true →
      ∃ t, exec (.startData l) s = .next t ∧ t.dev.trainState l = tsData ∧ s.OnlyChanges t [rLANE_STATUS (laneBase l)] s.dev) ∧
    (s.dev.trainState l = tsTrain ∨ s.dev.trainState l = tsWaitFar →
      (∃ t, exec (.trainTimeout l) s = .next t ∧ t.dev.trainState l = tsFailed ∧
        t.dev.bit (rLANE_ERR (laneBase l)) fLANE_ERR_TRAIN_TIMEOUT = true) ∧
      ((s.dev.laneX (laneBase l)).ask ≠ none → ∃ t, exec (.noResponse l) s = .next t ∧ t.dev.trainState l = tsFailed ∧
        t.dev.bit (rLANE_ERR (laneBase l)) fLANE_ERR_NO_RESPONSE = true ∧ (t.dev.laneX (laneBase l)).ask = none)) ∧
    (s.dev.trainState l = tsFailed → s.dev.bit (rLANE_TRAIN_CTRL (laneBase l)) fLANE_TRAIN_CTRL_AUTO_RETRAIN = true →
      ∃ t, exec (.autoRetrain l) s = .next t ∧ t.dev.trainState l = tsDetect ∧ (t.dev.laneX (laneBase l)).probing = true) ∧
    (∀ u, l = .upl u →
      (s.dev.trainState l = tsData → ∃ t, exec (.retrain l) s = .next t ∧ t.dev.trainState l = tsTrain ∧
        t.dev.bit (rLANE_TRAIN_CTRL (laneBase l)) fLANE_TRAIN_CTRL_RETRAIN = false) ∧
      (s.dev.trainState l = tsFailed → ∃ t, exec (.retrain l) s = .next t ∧ t.dev.trainState l = tsDetect) ∧
      (∃ t, exec (.cdrLockLost l) s = .next t ∧ t.dev.bit (rLANE_STATUS (laneBase l)) fLANE_STATUS_CDR_LOCK = false ∧
        t.dev.trainState l = if s.dev.trainState l = tsData then tsTrain else s.dev.trainState l))

/-- Taps: LANE_TXFFE (02_lanes.md R34, R35) and the training frame's preset request (R41, R42, R44, R49). -/
def Obligations.TapsObeyTheirLimits : Prop :=
  ∀ s l, s.Runs → laneTrains l = true →
    (∀ val : Word, s.dev.trainState l ≠ tsTrain → s.dev.trainState l ≠ tsWaitFar → tapsOk (tapsOf val.toNat) = true →
      ∃ t, exec (.laneTxffeWrite l val) s = .next t ∧
        t.dev.rdN (rLANE_TXFFE (laneBase l)) = s.dev.stored (rLANE_TXFFE (laneBase l)) val.toNat ∧
        s.OnlyChanges t [rLANE_TXFFE (laneBase l)] s.dev) ∧
    (∀ val : Word, tapsOk (tapsOf val.toNat) = false →
      ∃ t, exec (.laneTxffeWrite l val) s = .next t ∧ t.dev.bit (rLANE_ERR (laneBase l)) fLANE_ERR_TAP_RANGE = true ∧
        s.OnlyChanges t [rLANE_ERR (laneBase l)] s.dev) ∧
    (∀ control status : BitVec 16, s.dev.trainState l = tsTrain → (s.dev.laneX (laneBase l)).ask = none →
      nbit control.toNat 15 = true → control.toNat ≠ (s.dev.laneX (laneBase l)).farCtrl →
      ∃ t, exec (.trainingFrame l control status true false none) s = .next t ∧
        t.dev.rd (rLANE_TXFFE (laneBase l)) = BitVec.ofNat 32 (tapsWord (tapPreset (nbits control.toNat 14 13))) ∧
        (t.dev.laneX (laneBase l)).response = 1 ∧ (t.dev.laneX (laneBase l)).echo = nbits control.toNat 11 9 ∧
        (t.dev.laneX (laneBase l)).farReady = ((s.dev.laneX (laneBase l)).farReady || nbit status.toNat 15) ∧
        t.dev.bit (rLANE_STATUS (laneBase l)) fLANE_STATUS_RX_SIGNAL = true ∧
        t.dev.bit (rLANE_STATUS (laneBase l)) fLANE_STATUS_CDR_LOCK = true ∧
        t.dev.get (rLANE_STATUS (laneBase l)) fLANE_STATUS_FAR_LANE = nbits status.toNat 5 0 ∧
        t.dev.trainState l = if s.dev.bit (rLANE_STATUS (laneBase l)) fLANE_STATUS_ADAPT_DONE then tsWaitFar else tsTrain)

/-- The lane's tools: slip (02_lanes.md R47), eye scan (R46), pattern checker (R52) and DIAG_LANE (R54). -/
def Obligations.LaneScanPatternAndSlip : Prop :=
  (∀ s l (val : Word), s.Runs → s.dev.laneOk l = true → nbit val.toNat 0 = true →
    s.dev.bit (rLANE_STATUS (laneBase l)) fLANE_STATUS_SLIP_BUSY = false →
    ∃ t, exec (.laneSlip l val) s = .next t ∧ t.dev.bit (rLANE_STATUS (laneBase l)) fLANE_STATUS_SLIP_BUSY = true ∧
      (t.dev.laneX (laneBase l)).slip = ((s.dev.laneX (laneBase l)).slip + 1) % 64 ∧
      s.OnlyChanges t [rLANE_STATUS (laneBase l)] { s.dev with lanes := t.dev.lanes }) ∧
  (∀ s l, s.Runs → ∃ t, exec (.slipDone l) s = .next t ∧
      t.dev.bit (rLANE_STATUS (laneBase l)) fLANE_STATUS_SLIP_BUSY = false ∧ s.OnlyChanges t [rLANE_STATUS (laneBase l)] s.dev) ∧
  (∀ s l (val : Word), s.Runs → s.dev.laneOk l = true → nbit val.toNat 30 = true → (s.dev.laneX (laneBase l)).scan = false →
    ∃ t, exec (.escanStart l val) s = .next t ∧ (t.dev.laneX (laneBase l)).scan = true ∧
      t.dev.bit (rLANE_ESCAN_CTRL (laneBase l)) fLANE_ESCAN_CTRL_START = true ∧
      t.dev.bit (rLANE_ESCAN_CTRL (laneBase l)) fLANE_ESCAN_CTRL_DONE = false) ∧
  (∀ s l (count : Word), s.Runs → (∀ k, l ≠ .tree k) → (s.dev.laneX (laneBase l)).scan = true →
    ∃ t, exec (.escanDone l count) s = .next t ∧ (t.dev.laneX (laneBase l)).scan = false ∧
      t.dev.rd (rLANE_ESCAN_RES (laneBase l)) = count ∧
      t.dev.bit (rLANE_ESCAN_CTRL (laneBase l)) fLANE_ESCAN_CTRL_START = false ∧
      t.dev.bit (rLANE_ESCAN_CTRL (laneBase l)) fLANE_ESCAN_CTRL_DONE = true ∧
      s.OnlyChanges t [rLANE_ESCAN_RES (laneBase l), rLANE_ESCAN_CTRL (laneBase l)] { s.dev with lanes := t.dev.lanes }) ∧
  (∀ s l, s.Runs → s.dev.bit (rLANE_PAT_CTRL (laneBase l)) fLANE_PAT_CTRL_CHK_EN = true →
    ∃ t, exec (.patLock l) s = .next t ∧ t.dev.bit (rLANE_STATUS (laneBase l)) fLANE_STATUS_PAT_LOCK = true ∧
      s.OnlyChanges t [rLANE_STATUS (laneBase l)] s.dev) ∧
  (∀ s l errs, s.Runs → s.dev.bit (rLANE_STATUS (laneBase l)) fLANE_STATUS_PAT_LOCK = true →
    ∃ t, exec (.patLockLost l errs) s = .next t ∧ t.dev.bit (rLANE_STATUS (laneBase l)) fLANE_STATUS_PAT_LOCK = false ∧
      t.dev.rdN (rLANE_PAT_ERR (laneBase l)) % 2 ^ 31 = (s.dev.rdN (rLANE_PAT_ERR (laneBase l)) + errs) % 2 ^ 31 ∧
      s.OnlyChanges t [rLANE_STATUS (laneBase l), rLANE_PAT_ERR (laneBase l)] s.dev) ∧
  (∀ s m c l, s.Ready m 0x0C01 c → c.isOwner = true → laneNamed (c.u8 0) (c.u8 1) = some l → s.dev.laneOk l = true →
    c.u8 2 = 0 → c.u8 3 = 0 → c.endsAt 8 = true →
    ∃ t, exec (.diagLane m) s = .next t ∧ s.OnlyAnswers t m ∧
      t.Done m 0 (leB 4 (s.dev.rdN (rLANE_STATUS (laneBase l))) ++ leB 4 (s.dev.rdN (rLANE_TXFFE (laneBase l))) ++
        leB 4 (s.dev.rdN (rLANE_ERR (laneBase l))))) ∧
  (∀ s (m : Fin 64) c l errs ctrl pat, s.Runs → (s.dev.waiting 0x0C01).find? (fun c => c.mbx == m.val) = some c →
    laneNamed (c.note.getD 0 0) (c.note.getD 1 0) = some l → (s.dev.laneX (laneBase l)).saved = some (ctrl, pat) →
    ∃ t w, exec (.diagLaneCheckEnd m errs) s = .next t ∧ w % 2 ^ 31 = (s.dev.rdN (rLANE_PAT_ERR (laneBase l)) + errs) % 2 ^ 31 ∧
      t.Done m 0 (leB 4 (s.dev.rdN (rLANE_STATUS (laneBase l))) ++ leB 4 (s.dev.rdN (rLANE_TXFFE (laneBase l))) ++
        leB 4 (s.dev.rdN (rLANE_ERR (laneBase l))) ++ leB 4 w) ∧
      (t.dev.laneX (laneBase l)).saved = none ∧
      t.dev.get (rLANE_CTRL (laneBase l)) fLANE_CTRL_LOOPBACK = fieldOf ctrl.toNat fLANE_CTRL_LOOPBACK)

/-- A tree's line: TREE_LINE_CTRL (03_tree_line.md R56, R66), enabling and disabling (R80, R81), the PLL (R80, R82) and the
first frame (R80). -/
def Obligations.TreeLineControl : Prop :=
  ∀ s (k : Fin 48), s.Runs → s.dev.treeOk k.val = true →
    (∀ val : Word, s.dev.treeEn k.val = false → s.dev.framing k.val = false → s.dev.pairEn k.val = false → nbit val.toNat 0 = false →
      (fieldOf val.toNat fTREE_LINE_CTRL_MODE ≠ 3 → ∃ t, exec (.treeLineCtrlWrite k val) s = .next t ∧
        t.dev.rdN (rTREE_LINE_CTRL k.val) = s.dev.stored (rTREE_LINE_CTRL k.val) val.toNat ∧
        s.OnlyChanges t [rTREE_LINE_CTRL k.val] s.dev) ∧
      (fieldOf val.toNat fTREE_LINE_CTRL_MODE = 3 → ∃ t, exec (.treeLineCtrlWrite k val) s = .next t ∧
        t.dev.bit (rTREE_ERR k.val) fTREE_ERR_MODE_BAD = true ∧ s.OnlyChanges t [rTREE_ERR k.val] s.dev)) ∧
    (∀ on, s.dev.treeEn k.val = false → s.dev.framing k.val = false → s.dev.mode k.val ≠ 3 →
      ∃ t, exec (.dsPrecodeChange k on) s = .next t ∧
        t.dev.get (rTREE_LINE_CTRL k.val) fTREE_LINE_CTRL_DS_PRECODE = b2n on ∧ s.OnlyChanges t [rTREE_LINE_CTRL k.val] s.dev) ∧
    (s.dev.treeEn k.val = false → s.dev.frameEnding k.val = false → s.dev.mode k.val ≠ 3 → (s.dev.tree k.val).live = false →
      ∃ t, exec (.treeEnable k) s = .next t ∧ t.dev.treeEn k.val = true ∧
        t.dev.bit (rTREE_LINE_STATUS k.val) fTREE_LINE_STATUS_PLL_LOCK = false ∧
        t.dev.bit (rTREE_LINE_STATUS k.val) fTREE_LINE_STATUS_LASER_ON = false ∧ (t.dev.tree k.val).live = false) ∧
    (s.dev.treeEn k.val = true → s.dev.cageLit (.tree k) = true →
      s.dev.bit (rTREE_MOD_CTRL k.val) fTREE_MOD_CTRL_MOD_RESET = false → (s.dev.tree k.val).live = false →
      s.dev.standby k.val = false → s.dev.frameEnding k.val = false → s.dev.waiting 0x0101 = [] →
      ∃ t, exec (.linePllLock k) s = .next t ∧ t.dev.bit (rTREE_LINE_STATUS k.val) fTREE_LINE_STATUS_PLL_LOCK = true ∧
        t.dev.bit (rTREE_LINE_STATUS k.val) fTREE_LINE_STATUS_LASER_ON = true ∧ (t.dev.tree k.val).live = true ∧
        (t.dev.tree k.val).pllSeen = true ∧ (t.dev.tree k.val).firstAt = some (s.dev.tickNow + 9)) ∧
    (s.dev.bit (rTREE_LINE_STATUS k.val) fTREE_LINE_STATUS_PLL_LOCK = true → (s.dev.tree k.val).live = false →
      ∃ t, exec (.linePllUnlock k) s = .next t ∧ t.dev.bit (rTREE_LINE_STATUS k.val) fTREE_LINE_STATUS_PLL_LOCK = false ∧
        t.dev.bit (rTREE_LINE_STATUS k.val) fTREE_LINE_STATUS_LASER_ON = false ∧
        t.dev.bit (rTREE_ERR k.val) fTREE_ERR_PLL_UNLOCK = true) ∧
    (∀ f, (s.dev.tree k.val).firstAt = some f → (s.dev.tree k.val).live = true → s.dev.framing k.val = false →
      f ≤ s.dev.tickNow → s.dev.termsOf k.val = [] → s.dev.mode k.val = 2 →
      ∃ e : Dev, exec (.firstFrame k) s = .next (s.after ((e.sendFrame k.val (emptyMap s.dev.tickNow)).beginMap k.val)) ∧
        e.framing k.val = true ∧ (e.tree k.val).frames = 0 ∧ (e.tree k.val).startTick = s.dev.tickNow ∧
        (e.actT k.val).bcast = 3 ∧ e.out = []) ∧
    (s.dev.treeEn k.val = true → s.dev.mode k.val ≠ 3 → s.dev.termsOf k.val = [] → s.dev.openEntries k.val = [] →
      (∀ e ∈ s.dev.chanQ, (s.dev.chan e.1).tree ≠ k.val) →
      ∃ t, exec (.treeDisable k) s = .next t ∧ t.dev.treeEn k.val = false ∧ (t.dev.tree k.val).live = false ∧
        (t.dev.tree k.val).firstAt = none ∧ (t.dev.tree k.val).pllSeen = false ∧ (t.dev.tree k.val).ploam = [])

/-- A cage's states and pins (03_tree_line.md R72-R74; 22_electrical.md R640). -/
def Obligations.CagesFollowTheirModules : Prop :=
  ∀ s c, s.Runs → s.dev.cageOk c = true → (∀ k, c = .tree k → s.dev.treeEn k.val = false ∧ (s.dev.tree k.val).live = false) →
    (s.dev.cageState c = cgEmpty → ∃ t, exec (.modulePresent c) s = .next t ∧ t.dev.cageState c = cgIdent ∧
      s.OnlyChanges t [(cageStateAt c).1] { s.dev with cages := t.dev.cages }) ∧
    (∀ (id : Fin 256) (app : Fin 65536), s.dev.cageState c = cgIdent → s.dev.bit (cageCtrl c) fTREE_MOD_CTRL_MOD_RESET = false →
      ∃ t, exec (.moduleIdentify c 0 id app) s = .next t ∧
        t.dev.get (cageStat c) fTREE_MOD_STATUS_ID = id.val ∧ t.dev.get (cageStat c) fTREE_MOD_STATUS_APP = app.val ∧
        t.dev.cageState c = if s.dev.cageAccepts c id.val app.val then cgReady else cgRefused) ∧
    (s.dev.cageState c = cgIdent → s.dev.bit (cageCtrl c) fTREE_MOD_CTRL_MOD_RESET = false →
      ∃ t, exec (.i2cNackLimit c) s = .next t ∧ t.dev.cageState c = cgFault ∧
        ∀ k, c = .tree k → t.dev.bit (rTREE_ERR k.val) fTREE_ERR_I2C_NACK = true) ∧
    (s.dev.cageState c ≠ cgEmpty →
      (∃ t, exec (.prsLRise c) s = .next t ∧ (t.dev.cage (cageKey c)).away = true ∧
        (∀ k, c = .tree k → t.dev.bit (rTREE_LINE_STATUS k.val) fTREE_LINE_STATUS_LASER_ON = false) ∧
        (∀ k, c = .pin k → (t.dev.cage (cageKey c)).laser = false)) ∧
      (∃ t, exec (.moduleRemoved c) s = .next t ∧ t.dev.cageState c = cgEmpty ∧ (t.dev.cage (cageKey c)).away = false ∧
        ∀ k, c = .tree k → t.dev.bit (rTREE_ERR k.val) fTREE_ERR_MOD_REMOVED = true)) ∧
    (s.dev.cageState c = cgRefused ∨ s.dev.cageState c = cgFault →
      ∃ t, exec (.reident c) s = .next t ∧ t.dev.cageState c = cgIdent ∧ t.dev.bit (cageCtrl c) fTREE_MOD_CTRL_REIDENT = false) ∧
    (∀ on, s.dev.bit (cageCtrl c) fTREE_MOD_CTRL_REIDENT = false →
      (∃ t, exec (.modReset c on) s = .next t ∧ t.dev.get (cageCtrl c) fTREE_MOD_CTRL_MOD_RESET = b2n on ∧
        t.dev.cageState c = s.dev.cageState c) ∧
      (∃ t, exec (.forceTxdisWrite c on) s = .next t ∧ t.dev.get (cageCtrl c) fTREE_MOD_CTRL_FORCE_TXDIS = b2n on ∧
        t.dev.cageState c = s.dev.cageState c)) ∧
    (∀ j, j < 7 → s.dev.cageState c ≠ cgReady →
      (sget (fun _ => 0) (s.dev.cage (cageKey c)).runs j = 0 → ∃ t, exec (.lowSpeedPinCheck c (BitVec.ofNat 10 (2 ^ j))) s = .next t ∧
        (∀ i < 7, sget (fun _ => 0) (t.dev.cage (cageKey c)).runs i = if i = j then 1 else 0) ∧
        ∀ a, t.dev.rd a = s.dev.rd a) ∧
      (sget (fun _ => 0) (s.dev.cage (cageKey c)).runs j = 2 → ∃ t, exec (.lowSpeedPinCheck c (BitVec.ofNat 10 (2 ^ j))) s = .next t ∧
        nbit (t.dev.rdN (cageFault c)) (16 + j) = true)) ∧
    (∃ t, exec (.moduleInt c) s = .next t ∧ (∀ k, c = .tree k → t.dev.bit (rTREE_ERR k.val) fTREE_ERR_MOD_INT = true) ∧
      ∀ a, a ∉ alertRegs → (∀ k, c = .tree k → a ≠ rTREE_ERR k.val) → t.dev.rd a = s.dev.rd a)

/-- RSSI (03_tree_line.md R77), LINE_OPTIONS (R68) and the commands TREE_CONFIG, TREE_STATUS and TREE_RSSI (R84-R86). -/
def Obligations.RssiLineOptionsAndTreeCommands : Prop :=
  (∀ s (k : Fin 48) (val : Word), s.Runs → s.dev.treeOk k.val = true → s.dev.bit (rTREE_RSSI_CTRL k.val) fTREE_RSSI_CTRL_ARM = false →
    nbit val.toNat 31 = true →
    ∃ t, exec (.rssiArm k val) s = .next t ∧ t.dev.rd (rTREE_RSSI_STATUS k.val) = 0#32 ∧
      t.dev.rdN (rTREE_RSSI_CTRL k.val) = s.dev.stored (rTREE_RSSI_CTRL k.val) val.toNat ∧
      (t.dev.tree k.val).armTick = s.dev.tickNow ∧ (t.dev.tree k.val).armOff = fieldOf val.toNat fTREE_RSSI_CTRL_TERM ∧
      s.OnlyChanges t [rTREE_RSSI_CTRL k.val, rTREE_RSSI_STATUS k.val] { s.dev with trees := t.dev.trees }) ∧
  (∀ s (k : Fin 48) ns seen data, s.Runs → s.dev.waiting 0x0103 = [] → s.dev.bit (rTREE_RSSI_CTRL k.val) fTREE_RSSI_CTRL_ARM = true →
    s.dev.get (rTREE_RSSI_CTRL k.val) fTREE_RSSI_CTRL_OFFSET < ns →
    ∃ t, exec (.rssiDone k ns seen data) s = .next t ∧ t.dev.bit (rTREE_RSSI_CTRL k.val) fTREE_RSSI_CTRL_ARM = false ∧
      t.dev.rdN (rTREE_RSSI_STATUS k.val) = 2 ^ 31 + b2n seen * 2 ^ 30 +
        b2n (decide (ns < s.dev.get (rTREE_RSSI_CTRL k.val) fTREE_RSSI_CTRL_OFFSET +
          max 1 (s.dev.get (rTREE_RSSI_CTRL k.val) fTREE_RSSI_CTRL_WIDTH))) * 2 ^ 28 + s.dev.tickNow % 2 ^ 28 ∧
      s.OnlyChanges t [rTREE_RSSI_CTRL k.val, rTREE_RSSI_STATUS k.val] s.dev) ∧
  (∀ s (k : Fin 48), s.Runs → s.dev.waiting 0x0103 = [] → s.dev.bit (rTREE_RSSI_CTRL k.val) fTREE_RSSI_CTRL_ARM = true →
    (s.dev.tree k.val).armTick + 8000 ≤ s.dev.tickNow →
    ∃ t, exec (.rssiTimeout k) s = .next t ∧ t.dev.bit (rTREE_RSSI_CTRL k.val) fTREE_RSSI_CTRL_ARM = false ∧
      t.dev.rdN (rTREE_RSSI_STATUS k.val) = 2 ^ 31 + 2 ^ 29 + s.dev.tickNow % 2 ^ 28 ∧
      s.OnlyChanges t [rTREE_RSSI_CTRL k.val, rTREE_RSSI_STATUS k.val] s.dev) ∧
  (∀ s (h : Fin 16384) a, s.Runs → (s.dev.lineOpt h.val).asked = some a → (s.dev.lineOpt h.val).waits = false →
    (s.dev.lineOpt h.val).effective ≤ s.dev.tickNow % 2 ^ 51 → (s.dev.lineOpt h.val).acked = true →
    ∃ t, exec (.lineOptionsEffective h) s = .next t ∧ (t.dev.lineOpt h.val).inForce = a ∧ (t.dev.lineOpt h.val).asked = none ∧
      s.OnlyChanges t [] { s.dev with lineOpts := t.dev.lineOpts, presets := t.dev.presets }) ∧
  (∀ s m c, s.Ready m 0x0101 c → c.isOwner = true → s.dev.treeOk (c.u8 0) = true → c.u8 1 ≤ 2 → c.u8 2 = 0 → c.u8 3 < 4 →
    c.endsAt 4 = true → s.dev.treeEn (c.u8 0) = false → s.dev.framing (c.u8 0) = false → s.dev.pairEn (c.u8 0) = false →
    ∃ t, exec (.treeConfig m) s = .next t ∧ t.Done m 0 (leB 4 (s.dev.rdN (rTREE_LINE_STATUS (c.u8 0))) ++ leB 8 0) ∧
      t.dev.get (rTREE_LINE_CTRL (c.u8 0)) fTREE_LINE_CTRL_MODE = c.u8 1 ∧
      t.dev.get (rTREE_LINE_CTRL (c.u8 0)) fTREE_LINE_CTRL_ACT_FITTED = c.u8 3 % 2 ∧
      t.dev.get (rTREE_LINE_CTRL (c.u8 0)) fTREE_LINE_CTRL_DS_PRECODE = c.u8 3 / 2 ∧ t.dev.treeEn (c.u8 0) = false) ∧
  (∀ s m c, s.Ready m 0x0102 c → (∀ n, c.caller = some n → s.dev.ownsOn n (c.u8 0) = true) → s.dev.treeOk (c.u8 0) = true →
    c.endsAt 1 = true →
    ∃ t, exec (.treeStatus m) s = .next t ∧ s.OnlyAnswers t m ∧
      t.Done m 0 (leB 4 (s.dev.rdN (rTREE_LINE_STATUS (c.u8 0))) ++ leB 4 (s.dev.rdN (rTREE_MOD_STATUS (c.u8 0))) ++
        leB 4 (s.dev.rdN (rTREE_ERR (c.u8 0))) ++ leB 4 (s.dev.rdN (rTREE_PIN_FAULT (c.u8 0))) ++
        leB 4 (s.dev.rdN (rTREE_BRST_SKIP (c.u8 0))))) ∧
  (∀ s m c, s.Ready m 0x0103 c → c.isOwner = true → s.dev.treeOk (c.u8 0) = true → c.zero 1 1 = true → c.u16 2 ≤ 1019 →
    c.u16 4 < 2048 → c.u8 7 = 0 → c.endsAt 8 = true →
    (∀ k : Fin 48, k.val = c.u8 0 → s.dev.cageState (.tree k) = cgReady) →
    s.dev.bit (rTREE_RSSI_CTRL (c.u8 0)) fTREE_RSSI_CTRL_ARM = false →
    ∃ t, exec (.treeRssi m) s = .next t ∧ t.dev.bit (rTREE_RSSI_CTRL (c.u8 0)) fTREE_RSSI_CTRL_ARM = true ∧
      t.dev.rd (rTREE_RSSI_STATUS (c.u8 0)) = 0#32 ∧ (t.dev.tree (c.u8 0)).armTick = s.dev.tickNow ∧
      ∃ x ∈ t.dev.glk.cmds, x.mbx = m.val ∧ x.started = true ∧ x.note = [c.u8 0])

/-- Reception of upstream bursts (04_burst_rx.md R103-R124). -/
def Obligations.DescriptorsSearchAndClosure : Prop :=
  (∀ s (k : Fin 48) (e : Fin 4096) late, s.Runs →
    (s.dev.iftE (k.val * iftPerTree + e.val)).used = true → (s.dev.iftE (k.val * iftPerTree + e.val)).state = 0 →
    (s.dev.iftE (k.val * iftPerTree + e.val)).queued = false → (s.dev.iftE (k.val * iftPerTree + e.val)).actLane = false →
    (s.dev.rxT k.val).queue.length < 16 →
    ((s.dev.iftE (k.val * iftPerTree + e.val)).cont = false ∨ (s.dev.rxT k.val).queue ≠ [] ∨ (s.dev.rxT k.val).cur = none) →
    ∃ t q, exec (.descriptorEnqueue k e late) s = .next t ∧ (t.dev.rxT k.val).queue = (s.dev.rxT k.val).queue ++ [q] ∧
      q.entry = e.val ∧ q.term = (s.dev.iftE (k.val * iftPerTree + e.val)).term ∧ q.late = late ∧
      t.dev.get (rBRX_STATUS k.val) fBRX_STATUS_DESC_DEPTH = ((s.dev.rxT k.val).queue.length + 1) % 32 ∧
      (t.dev.iftE (k.val * iftPerTree + e.val)).queued = true ∧
      s.OnlyChanges t [rBRX_STATUS k.val] { s.dev with ift := t.dev.ift, rx := t.dev.rx }) ∧
  (∀ s (k : Fin 48) q, s.Runs → s.dev.standby k.val = false → (s.dev.rxT k.val).queue = [q] → q.kind = .data →
    (∃ t, exec (.delimiterSearch k false [] []) s = .next t ∧ (t.dev.rxT k.val).cur = some ⟨[q], false, 0, false, false⟩) ∧
    (∀ c, c.hdrOk = true → c.onuId = (s.dev.term q.term).termId → s.dev.candidates k.val q false [c] = [c] →
      ∃ t, exec (.delimiterSearch k false [c] []) s = .next t ∧ (t.dev.rxT k.val).cur = some ⟨[q], true, c.off, false, false⟩)) ∧
  (∀ s (k : Fin 48) b, s.Runs → (s.dev.rxT k.val).cur = some b →
    (∃ t, exec (.codewordDecode k .corrected []) s = .next t ∧ s.Counts t (rBRX_CNT k.val 6) 1 ∧ s.OnlyChanges t [rBRX_CNT k.val 6] s.dev) ∧
    (∃ t, exec (.codewordDecode k .uncorrectable []) s = .next t ∧ s.Counts t (rBRX_CNT k.val 7) 1 ∧
      (t.dev.rxT k.val).cur = some { b with uncorr := true } ∧
      s.OnlyChanges t [rBRX_CNT k.val 7] { s.dev with ift := t.dev.ift, rx := t.dev.rx })) ∧
  (∀ s (k : Fin 48) (e : Fin 4096) fin, s.Runs →
    (s.dev.iftE (k.val * iftPerTree + e.val)).used = true → (s.dev.iftE (k.val * iftPerTree + e.val)).state = 0 →
    (s.dev.iftE (k.val * iftPerTree + e.val)).searched = true → (s.dev.iftE (k.val * iftPerTree + e.val)).kind ≠ .ranging →
    ∃ t, exec (.grantClose k e fin) s = .next t ∧
      (t.dev.iftE (k.val * iftPerTree + e.val)).state = (if (s.dev.iftE (k.val * iftPerTree + e.val)).conf then 1 else 2) ∧
      (t.dev.ladT k.val).freed = (s.dev.ladT k.val).freed ++ [e.val]) ∧
  (∀ s (a : Fin 65536), s.Runs → (s.dev.reasmOf a.val).bytes ≠ 0 → (s.dev.reasmOf a.val).tick + 64 ≤ s.dev.tickNow →
    ∃ t, exec (.reassemblyTimeout a) s = .next t ∧ t.dev.reasmOf a.val = ⟨0, 0⟩ ∧
      s.Counts t (rBRX_CNT (s.dev.alloc a.val).tree 11) 1 ∧
      s.OnlyChanges t [rBRX_CNT (s.dev.alloc a.val).tree 11] { s.dev with reasm := t.dev.reasm }) ∧
  (∀ s (k : Fin 48) (a port : Fin 65536) bytes, s.Runs →
    (∃ t, exec (.packetReassembled k a port [] bytes .badHeader) s = .next t ∧ t.dev.reasmOf a.val = ⟨0, 0⟩ ∧
      s.Counts t (rBRX_CNT k.val 11) 1) ∧
    (s.dev.maxPkt k.val < bytes.length → ∃ t, exec (.packetReassembled k a port [] bytes .whole) s = .next t ∧
      s.Counts t (rBRX_CNT k.val 12) 1 ∧ s.OnlyChanges t [rBRX_CNT k.val 12] { s.dev with reasm := t.dev.reasm }) ∧
    (∀ c, bytes.length ≤ s.dev.maxPkt k.val → s.dev.findChan k.val port.val = some c → s.dev.catReady = true →
      (s.dev.chan c).valid = true → s.dev.quarHandle .chan c = false → (s.dev.chan c).us = true → (s.dev.chan c).alloc = a.val →
      (s.dev.chan c).fault = false → (s.dev.chan c).prot = false → (s.dev.ladA a.val).cfg.police = false →
      ∃ t slot, exec (.packetReassembled k a port [] bytes .whole) s = .next t ∧
        t.dev.col.queue = s.dev.col.queue ++
          [{ pkt := ⟨bytes, (s.dev.chan c).tenant, k.val, some c, (s.dev.chan c).metaV, false, none, 0, []⟩,
             slot := slot, pass := 0, recirc := false }])) ∧
  (∀ s (k : Fin 48), s.Runs → s.dev.standby k.val = false → (s.dev.actT k.val).stray = [] → 1 < s.dev.strayLim k.val →
    ∃ t, exec (.strayLight k) s = .next t ∧ s.Counts t (rBRX_CNT k.val 13) 1 ∧ s.Counts t (rACT_CNT k.val 9) 1 ∧
      (t.dev.actT k.val).stray = [s.dev.tickNow] ∧
      s.OnlyChanges t [rBRX_CNT k.val 13, rACT_CNT k.val 9] { s.dev with actTrees := t.dev.actTrees }) ∧
  (∀ s (k : Fin 48) (e : Fin 4096), s.Runs → s.dev.standby k.val = false → (s.dev.iftE (k.val * iftPerTree + e.val)).used = true →
    (s.dev.iftE (k.val * iftPerTree + e.val)).kind ≠ .sn →
    (s.dev.actOf (s.dev.iftE (k.val * iftPerTree + e.val)).term).rogue = [] →
    1 < s.dev.rogueLim (s.dev.term (s.dev.iftE (k.val * iftPerTree + e.val)).term).tree →
    ∃ t, exec (.overlong k e) s = .next t ∧ s.Counts t (rBRX_CNT k.val 14) 1 ∧
      (t.dev.actOf (s.dev.iftE (k.val * iftPerTree + e.val)).term).rogue = [s.dev.tickNow]) ∧
  (∀ s (k : Fin 48) (e : Fin 4096) late b, s.Runs →
    (s.dev.iftE (k.val * iftPerTree + e.val)).used = true → (s.dev.iftE (k.val * iftPerTree + e.val)).state = 0 →
    (s.dev.iftE (k.val * iftPerTree + e.val)).queued = false → (s.dev.iftE (k.val * iftPerTree + e.val)).actLane = false →
    (s.dev.iftE (k.val * iftPerTree + e.val)).cont = true → (s.dev.rxT k.val).queue = [] → (s.dev.rxT k.val).cur = some b →
    ∃ t q, exec (.descriptorEnqueue k e late) s = .next t ∧ (t.dev.rxT k.val).cur = some { b with descs := b.descs ++ [q] } ∧
      (t.dev.rxT k.val).queue = [] ∧ q.entry = e.val ∧ q.cont = true ∧
      (t.dev.iftE (k.val * iftPerTree + e.val)).searched = true ∧ (t.dev.iftE (k.val * iftPerTree + e.val)).conf = b.confirmed ∧
      s.OnlyChanges t [] { s.dev with ift := t.dev.ift, rx := t.dev.rx })

/-- The preset store (04_burst_rx.md R101), profiles (R125), scans (R123, R128), counters (R129) and the search for a rogue
terminal (05_activation.md R148). -/
def Obligations.PresetsAndProfiles : Prop :=
  (∀ s (k : Fin 48) (val : Word), s.Runs → s.dev.treeOk k.val = true → nbit val.toNat 30 = true → nbit val.toNat 29 = false →
    (∀ h, s.dev.findTerm k.val (fieldOf val.toNat fBRX_PRESET_CMD_TERM) = some h →
      ∃ t, exec (.brxPresetAccess k val) s = .next t ∧
        (∀ i < 16, t.dev.rd (rBRX_PRESET_DATA k.val i) = BitVec.ofNat 32 (leAt (s.dev.preset h).image (4 * i) 4)) ∧
        t.dev.presets = s.dev.presets) ∧
    (s.dev.findTerm k.val (fieldOf val.toNat fBRX_PRESET_CMD_TERM) = none →
      ∃ t, exec (.brxPresetAccess k val) s = .next t ∧ t.dev.bit (rBRX_ERR k.val) fBRX_ERR_NO_TERM = true ∧
        s.OnlyChanges t [rBRX_PRESET_CMD k.val, rBRX_ERR k.val] s.dev)) ∧
  (∀ s (k : Fin 48) (i : Fin 4) (val : Word), s.Runs → s.dev.treeOk k.val = true →
    (s.dev.treeEn k.val = false → ∃ t, exec (.brxProfWrite k i val) s = .next t ∧
      t.dev.rdN (rBRX_PROF k.val i.val) = s.dev.stored (rBRX_PROF k.val i.val) val.toNat ∧
      s.OnlyChanges t [rBRX_PROF k.val i.val] s.dev) ∧
    (s.dev.treeEn k.val = true → ∃ t, exec (.brxProfWrite k i val) s = .next t ∧
      t.dev.bit (rBRX_ERR k.val) fBRX_ERR_PROF_BUSY = true ∧ s.OnlyChanges t [rBRX_ERR k.val] s.dev)) ∧
  (∀ s (k : Fin 48) (count : Word), s.Runs → (s.dev.laneX (laneBase (.tree k))).scan = true →
    s.dev.get (rBRX_ESCAN_SEL k.val) fBRX_ESCAN_SEL_LIMIT ≠ 0 →
    (s.dev.laneX (laneBase (.tree k))).scanTick + s.dev.get (rBRX_ESCAN_SEL k.val) fBRX_ESCAN_SEL_LIMIT ≤ s.dev.tickNow →
    s.dev.waiting 0x02C1 = [] →
    ∃ t, exec (.eyescanLimit k count) s = .next t ∧ (t.dev.laneX (laneBase (.tree k))).scan = false ∧
      t.dev.rd (rLANE_ESCAN_RES (laneBase (.tree k))) = count ∧ t.dev.bit (rBRX_ESCAN_STAT k.val) fBRX_ESCAN_STAT_TIMEOUT = true ∧
      s.OnlyChanges t [rLANE_ESCAN_RES (laneBase (.tree k)), rLANE_ESCAN_CTRL (laneBase (.tree k)), rBRX_ESCAN_STAT k.val]
        { s.dev with lanes := t.dev.lanes }) ∧
  (∀ s m c (k : Fin 48), s.Ready m 0x02C1 c → c.isOwner = true → c.u8 0 = k.val → s.dev.treeOk k.val = true → c.zero 1 1 = true →
    c.u8 4 < 4 → c.u8 5 < 4 → c.u8 6 < 16 → -32 ≤ c.s8 7 → c.s8 7 < 32 → c.endsAt 11 = true →
    (s.dev.findTerm k.val (c.u16 2)).isSome = true → (s.dev.laneX (laneBase (.tree k))).scan = false →
    ∃ t, exec (.termEyescan m) s = .next t ∧ (t.dev.laneX (laneBase (.tree k))).scan = true ∧
      (t.dev.laneX (laneBase (.tree k))).scanTick = s.dev.tickNow ∧
      ∃ x ∈ t.dev.glk.cmds, x.mbx = m.val ∧ x.started = true ∧ x.note = [k.val]) ∧
  (∀ s m c, s.Ready m 0x0104 c → (∀ n, c.caller = some n → s.dev.ownsOn n (c.u8 0) = true) → s.dev.treeOk (c.u8 0) = true →
    c.u8 1 = 0 → c.endsAt 2 = true →
    ∃ t, exec (.treeBrxCounters m) s = .next t ∧ s.OnlyAnswers t m ∧
      t.Done m 0 ((List.range 16).flatMap (fun i => leB 4 (s.dev.rdN (rBRX_CNT (c.u8 0) i))))) ∧
  (∀ s (k : Fin 48) x, s.Runs → (s.dev.actT k.val).search = some x → x.phase = .light → x.lit = false → x.until_ ≤ s.dev.tickNow →
    ∃ t, exec (.rogueSearchStep k) s = .next t ∧ (t.dev.actT k.val).search = none ∧
      t.dev.get (rACT_STATUS k.val) fACT_STATUS_SEARCH = 3 ∧ t.dev.actT k.val = { s.dev.actT k.val with search := none })

/-- Tap negotiation (04_burst_rx.md R110-R116, R127). -/
def Obligations.TapNegotiation : Prop :=
  (∀ s (k : Fin 48) (h : Fin 16384), s.Runs → s.dev.mode k.val = 2 → s.dev.get (rBRX_RETUNE k.val) fBRX_RETUNE_PERIOD ≠ 0 →
    (s.dev.term h.val).tree = k.val → s.dev.stateOf h.val = .operating → (s.dev.rxT k.val).dueTick ≠ some s.dev.tickNow →
    s.dev.get (rBRX_RETUNE k.val) fBRX_RETUNE_PERIOD ≤ (s.dev.tickNow % 2 ^ 32 + 2 ^ 32 - (s.dev.preset h.val).age) % 2 ^ 32 →
    s.dev.tuneHas k.val h.val = false → (s.dev.rxT k.val).tuneQ.length < 64 →
    ∃ t, exec (.retuneDue k h) s = .next t ∧ (t.dev.rxT k.val).tuneQ = (s.dev.rxT k.val).tuneQ ++ [(h.val, 0)] ∧
      (t.dev.rxT k.val).dueTick = some s.dev.tickNow ∧ s.OnlyChanges t [rBRX_STATUS k.val] { s.dev with rx := t.dev.rx }) ∧
  (∀ s m c h, s.Ready m 0x02C0 c → c.isOwner = true → s.dev.treeOk (c.u8 0) = true → c.zero 1 1 = true → c.u8 4 = 0 →
    c.endsAt 5 = true → s.dev.findTerm (c.u8 0) (c.u16 2) = some h → s.dev.mode (c.u8 0) = 2 →
    s.dev.tuneHas (c.u8 0) h = false → (s.dev.rxT (c.u8 0)).tuneQ.length < 64 →
    ∃ t, exec (.termRetune m) s = .next t ∧ t.Done m 0 (leB 1 (s.dev.rxT (c.u8 0)).tuneQ.length) ∧
      (t.dev.rxT (c.u8 0)).tuneQ = (s.dev.rxT (c.u8 0)).tuneQ ++ [(h, 0)]) ∧
  (∀ s (k : Fin 48) h rounds rest rate rates, s.Runs → (s.dev.rxT k.val).nego = none → (s.dev.rxT k.val).tuneQ = (h, rounds) :: rest →
    s.dev.mode k.val = 2 → (s.dev.lineOpt h).asked = none → s.dev.tuneRates h = rate :: rates → s.dev.stateOf h = .operating →
    ∃ t n, exec (.tapNegotiationStart k) s = .next t ∧ (t.dev.rxT k.val).nego = some n ∧ n.term = h ∧ n.rate = rate ∧
      n.phase = .first ∧ n.rounds = 0 ∧ (t.dev.rxT k.val).tuneQ = rest ∧
      t.dev.get (rBRX_STATUS k.val) fBRX_STATUS_TUNE_BUSY = 1) ∧
  (∀ s (k : Fin 48) (id : Fin 1024) content h n, s.Runs → s.dev.findTerm k.val id.val = some h → (s.dev.rxT k.val).nego = some n →
    n.term = h → byteAt content 0 = n.seq → byteAt content 1 = n.rate → byteAt content 2 = 0 → n.phase = .asked →
    ∃ t, exec (.tapResponse k id content) s = .next t ∧
      (t.dev.rxT k.val).nego = some { n with phase := .trial, bursts := 0, sum := 0 }) ∧
  (∀ s (k : Fin 48) n, s.Runs → (s.dev.rxT k.val).nego = some n → n.phase = .first → s.dev.tuneBursts k.val ≤ n.bursts →
    n.sum / n.bursts < s.dev.get (rBRX_TUNE_CTRL k.val) fBRX_TUNE_CTRL_TUNE_THR →
    ∃ t, exec (.tapMeasurementDone k) s = .next t ∧ (t.dev.preset n.term).result = 1 ∧
      (t.dev.preset n.term).rounds = min n.rounds 31 ∧ (t.dev.preset n.term).age = s.dev.tickNow % 2 ^ 32) ∧
  (∀ s (k : Fin 48) n, s.Runs → (s.dev.rxT k.val).nego = some n →
    (n.phase = .asked → n.resent = false → n.effective + 16 ≤ s.dev.tickNow % 2 ^ 51 →
      ∃ t, exec (.tapRequestTimeout k) s = .next t ∧ (t.dev.rxT k.val).nego =
        some { n with seq := n.seq, effective := s.dev.tickNow % 2 ^ 51 + 8, resent := true, trial := n.trial }) ∧
    (n.phase = .first → n.failed = false → n.effective + 800 ≤ s.dev.tickNow % 2 ^ 51 →
      ∃ t, exec (.tapBurstsTimeout k) s = .next t ∧ (t.dev.rxT k.val).nego =
        some { n with failed := true, effective := s.dev.tickNow % 2 ^ 51, bursts := 0, sum := 0 }))

/-- What a tree's terminals send moves them through activation (05_activation.md R134, R135, R142, R151), and what they fail to
send in time (R134, R140). -/
def Obligations.ActivationFollowsTheTerminal : Prop :=
  (∀ s (k : Fin 48) act (sn : BitVec 64), s.Runs → s.dev.framing k.val = true → s.dev.standby k.val = false →
    (s.dev.findSerial k.val sn.toNat = none →
      ∃ t rest, exec (.serialNumberOnu k act sn) s = .next t ∧ t.dev.bit (rACT_ERR k.val) fACT_ERR_UNKNOWN_SN = true ∧
        s.Counts t (rACT_CNT k.val 2) 1 ∧ (t.dev.actT k.val).snList = (sn.toNat, s.dev.tickNow, b2n act) :: rest) ∧
    (∀ h, s.dev.findSerial k.val sn.toNat = some h →
      (s.dev.stateOf h = .absent →
        ∃ t, exec (.serialNumberOnu k act sn) s = .next t ∧ t.dev.stateOf h = .ranging ∧ (t.dev.actOf h).actLane = act ∧
          (t.dev.actOf h).entryTick = s.dev.tickNow) ∧
      (s.dev.stateOf h = .stopped ∨ s.dev.stateOf h = .isolated →
        ∃ t, exec (.serialNumberOnu k act sn) s = .next t ∧
          (t.dev.actT k.val).sends = (s.dev.actT k.val).sends ++ [⟨some sn.toNat, false, 1, none, 0, none⟩] ∧
          s.OnlyChanges t [] { s.dev with actTrees := t.dev.actTrees }) ∧
      (s.dev.stateOf h = .fine ∨ s.dev.stateOf h = .operating →
        ∃ t, exec (.serialNumberOnu k act sn) s = .next t ∧ t.dev.bit (rACT_ERR k.val) fACT_ERR_SN_DUPLICATE = true ∧
          t.dev.act = s.dev.act))) ∧
  (∀ s (k : Fin 48) (id : Fin 1024) h, s.Runs → s.dev.findTerm k.val id.val = some h → granted (s.dev.stateOf h) = true →
    (∀ r port, (s.dev.actOf h).rt = some r → ∃ t, exec (.acknowledgement k id 0 port) s = .next t ∧
      t.dev.actOf h = { s.dev.actOf h with eqd := r.eqd, rt := none } ∧
      s.OnlyChanges t [rACT_STATUS (s.dev.term h).tree, rACT_TERM_INFO (s.dev.term h).tree, rACT_TERM_EQD (s.dev.term h).tree]
        { s.dev with act := t.dev.act }) ∧
    (∀ port, (s.dev.lineOpt h).asked ≠ none → (s.dev.lineOpt h).waits = false → s.dev.sfc < (s.dev.lineOpt h).effective →
      ∃ t, exec (.acknowledgement k id 1 port) s = .next t ∧ t.dev.lineOpt h = { s.dev.lineOpt h with acked := true } ∧
        s.OnlyChanges t [] { s.dev with lineOpts := t.dev.lineOpts }) ∧
    (∀ port c, s.dev.findChan k.val port.val = some c → (s.dev.chan c).term = h →
      ∃ t, exec (.acknowledgement k id 2 port) s = .next t ∧ t.dev.seqOutOf c = none ∧
        s.OnlyChanges t [] { s.dev with seqOut := t.dev.seqOut })) ∧
  (∀ s (h : Fin 16384) x, s.Runs → (s.dev.actOf h.val).rt = some x →
    x.tick + s.dev.teqdTicks (s.dev.term h.val).tree + 4 ≤ s.dev.tickNow →
    ((x.entry = true → x.sends < 3) → (x.entry = false → x.sends < 4) →
      ∃ t, exec (.rangingTimeTimeout h) s = .next t ∧
        (t.dev.actOf h.val).rt = some { x with sends := x.sends + 1, tick := s.dev.tickNow + 1 } ∧
        s.OnlyChanges t [] { s.dev with act := t.dev.act, trees := t.dev.trees }) ∧
    (x.entry = false → 4 ≤ x.sends →
      ∃ t, exec (.rangingTimeTimeout h) s = .next t ∧ t.dev.actOf h.val = { s.dev.actOf h.val with rt := none } ∧
        s.OnlyChanges t [] { s.dev with act := t.dev.act })) ∧
  (∀ s (h : Fin 16384), s.Runs → s.dev.stateOf h.val = .lost →
    (s.dev.actOf h.val).entryTick + s.dev.lostTicks (s.dev.term h.val).tree ≤ s.dev.tickNow →
    ∃ t, exec (.lostTicksExpiry h) s = .next t ∧ t.dev.stateOf h.val = .absent ∧
      (t.dev.actOf h.val).entryTick = s.dev.tickNow ∧ (t.dev.actOf h.val).lobRun = 0) ∧
  (∀ s (k : Fin 48), s.Runs → 64 ≤ (s.dev.actT k.val).defer →
    ∃ t, exec (.qwSkip k) s = .next t ∧ t.dev.bit (rACT_ERR k.val) fACT_ERR_QW_SKIP = true ∧
      t.dev.get (rACT_STATUS k.val) fACT_STATUS_QW_STATE = 0 ∧ s.Counts t (rACT_CNT k.val 11) 1 ∧
      t.dev.actT k.val = { s.dev.actT k.val with skipAlerted := true, askSvc := false, qwDue := false, defer := 0 })

/-- The registers and mailbox commands of activation (05_activation.md R131, R145, R150, R153-R156). -/
def Obligations.ActivationCommands : Prop :=
  (∀ s (k : Fin 48) reach (val : Word), s.Runs → s.dev.treeOk k.val = true → s.dev.treeEn k.val = false →
    ∃ t, exec (.actConfigWrite k reach val) s = .next t ∧
      t.dev.rdN (if reach then rACT_REACH k.val else rACT_CTRL k.val)
        = s.dev.stored (if reach then rACT_REACH k.val else rACT_CTRL k.val) val.toNat ∧
      t.dev.get (rACT_STATUS k.val) fACT_STATUS_REACH_OK = b2n (t.dev.reachOk k.val) ∧
      s.OnlyChanges t [if reach then rACT_REACH k.val else rACT_CTRL k.val, rACT_STATUS k.val] s.dev) ∧
  (∀ s (k : Fin 48) (val : Word), s.Runs → s.dev.treeOk k.val = true →
    ∃ t, exec (.actTermSel k val) s = .next t ∧
      t.dev.rdN (rACT_TERM_SEL k.val) = s.dev.stored (rACT_TERM_SEL k.val) val.toNat ∧
      (∀ h, s.dev.findTerm k.val (t.dev.get (rACT_TERM_SEL k.val) fACT_TERM_SEL_TERM) = some h →
        t.dev.rdN (rACT_TERM_EQD k.val) = (s.dev.actOf h).eqd % 2 ^ 32) ∧
      (s.dev.findTerm k.val (t.dev.get (rACT_TERM_SEL k.val) fACT_TERM_SEL_TERM) = none → t.dev.rdN (rACT_TERM_INFO k.val) = 0) ∧
      s.OnlyChanges t [rACT_TERM_SEL k.val, rACT_STATUS k.val, rACT_TERM_INFO k.val, rACT_TERM_EQD k.val] s.dev) ∧
  (∀ s m c, s.Ready m 0x0105 c → c.isOwner = true → s.dev.treeOk (c.u8 0) = true → c.only 4 0x0D = true → c.endsAt 5 = true →
    s.dev.treeEn (c.u8 0) = false → reachOk (c.u8 3) (c.u8 1) (c.u8 2) = true →
    ∃ t, exec (.treeActConfig m) s = .next t ∧
      t.Done m 0 (leB 4 (rtdMin (c.u8 1)) ++ leB 4 (rtdMax (c.u8 1) (c.u8 2)) ++ leB 4 (wSn (c.u8 2)) ++ leB 4 wR) ∧
      t.dev.minKm (c.u8 0) = c.u8 1 ∧ t.dev.diffKm (c.u8 0) = c.u8 2 ∧ t.dev.teqdTicks (c.u8 0) = c.u8 3) ∧
  (∀ s m c h, s.Ready m 0x0281 c → c.isOwner = true → s.dev.treeOk (c.u8 0) = true → c.u8 1 = 0 → c.endsAt 4 = true →
    s.dev.findTerm (c.u8 0) (c.u16 2) = some h → s.dev.stateOf h ≠ .isolated →
    ∃ t, exec (.termStop m) s = .next t ∧ t.dev.stateOf h = .stopped ∧
      (t.dev.actT (s.dev.term h).tree).sends =
        (s.dev.actT (s.dev.term h).tree).sends ++ [⟨some (s.dev.term h).serial, false, 3, none, 0, some m.val⟩] ∧
      ∀ x ∈ t.dev.glk.cmds, x.mbx = m.val → x.started = true) ∧
  (∀ s m c h, s.Ready m 0x0280 c → s.dev.findTerm (c.u8 0) (c.u16 2) = some h →
    (c.isOwner = true ∨ c.caller = some (s.dev.term h).tenant) → c.u8 1 = 0 → c.endsAt 4 = true →
    ∃ t, exec (.termState m) s = .next t ∧ s.OnlyAnswers t m ∧
      t.Done m 0 (leB 1 (tstateNum (s.dev.stateOf h)) ++ leB 1 (b2n (s.dev.actOf h).actLane) ++ leB 2 0 ++
        leB 4 (s.dev.actOf h).eqd ++ leB 8 (s.dev.actOf h).entryTick)) ∧
  (∀ s m c, s.Ready m 0x0106 c → c.isOwner = true → s.dev.treeOk (c.u8 0) = true → c.u8 1 = 0 → c.endsAt 2 = true →
    (s.dev.actT (c.u8 0)).snList.length ≤ 64 →
    ∃ t, exec (.treeSnList m) s = .next t ∧ s.OnlyAnswers t m ∧
      t.Done m 0 (leB 1 (s.dev.actT (c.u8 0)).snList.length ++ leB 3 0 ++
        (s.dev.actT (c.u8 0)).snList.flatMap (fun e => leB 8 e.1 ++ leB 4 e.2.1 ++ leB 1 e.2.2 ++ leB 3 0)))

/-- Creates and edits (06_catalogue.md R159, R160, R171, R188-R190). -/
def Obligations.CatalogueObjectsAreMade : Prop :=
  (∀ s m c h a n, s.Ready m 0x0201 c → c.isOwner = true → s.dev.catReady = true → s.dev.treeOk (c.u8 0) = true →
    c.termForm false = true → c.u8 3 = 0 → c.u16 4 ≤ 1019 →
    s.dev.freeHandle .term = some h → s.dev.freeHandle .alloc = some a → s.dev.freeHandle .chan = some n →
    (s.start.termCreate (c.termFields { tenant := c.u8 6, tree := c.u8 0, termId := c.u16 4 }) true).1 = none →
    ∃ t, exec (.termCreate m) s = .next t ∧
      t.Done m 0 (leB 2 h ++ leB 2 (c.u16 4) ++ leB 2 a ++ leB 2 0 ++ leB 4 n ++ leB 4 1) ∧
      (t.dev.term h).valid = true ∧ (t.dev.term h).tree = c.u8 0 ∧ (t.dev.term h).termId = c.u16 4 ∧
      (t.dev.term h).serial = c.u64 8 ∧ (t.dev.term h).tenant = c.u8 6 ∧
      (t.dev.alloc a).valid = true ∧ (t.dev.alloc a).allocId = c.u16 4 ∧ (t.dev.alloc a).term = h ∧
      (t.dev.chan n).valid = true ∧ (t.dev.chan n).mgmt = true ∧ (t.dev.chan n).portId = c.u16 4 ∧ (t.dev.chan n).alloc = a) ∧
  (∀ s m c h, s.Ready m 0x0202 c → c.isOwner = true → s.dev.catReady = true → s.dev.findTerm (c.u8 0) (c.u16 4) = some h →
    c.termForm true = true → c.u8 3 = 0 → c.u8 6 = (s.dev.term h).tenant →
    (c.u32 0x34 = 0 ∨ c.u32 0x34 = (s.dev.term h).gen) → (s.dev.term h).valid = true →
    (s.start.catTry (s.start.termChecks h (c.termFields (s.dev.term h)) ++ [s.start.dirtyCheck [h] [] []])).1 = none →
    ∃ t, exec (.termEdit m) s = .next t ∧
      t.dev.term h = { c.termFields (s.dev.term h) with gen := nextGen (s.dev.term h).gen } ∧
      t.Done m 0 (t.dev.termResp h)) ∧
  (∀ s m c h th, s.Ready m 0x0301 c → c.isOwner = true → s.dev.catReady = true → s.dev.findTerm (c.u8 0) (c.u16 6) = some th →
    c.allocForm false = true → c.u8 3 < 128 → 1024 ≤ c.u16 4 → c.u16 4 ≤ 16383 → s.dev.freeHandle .alloc = some h →
    (s.start.catTry (s.start.allocChecks h
      (c.allocFields { tenant := c.u8 8, tree := c.u8 0, allocId := c.u16 4, term := th, interval := 1 }) (c.u16 4) ++
      [s.start.dirtyCheck [th] [h] []])).1 = none →
    ∃ t, exec (.allocCreate m) s = .next t ∧ t.Done m 0 (leB 2 h ++ leB 2 (c.u16 4) ++ leB 4 1) ∧
      t.dev.alloc h = { c.allocFields { tenant := c.u8 8, tree := c.u8 0, allocId := c.u16 4, term := th, interval := 1 } with
        valid := true, gen := 1 }) ∧
  (∀ s m c h, s.Ready m 0x0302 c → c.isOwner = true → s.dev.catReady = true → s.dev.findAlloc (c.u8 0) (c.u16 4) = some h →
    c.allocForm true = true → c.u8 8 = (s.dev.alloc h).tenant → c.u16 6 = (s.dev.term (s.dev.alloc h).term).termId →
    (c.u32 0x1C = 0 ∨ c.u32 0x1C = (s.dev.alloc h).gen) → (s.dev.alloc h).valid = true →
    (s.start.catTry (s.start.allocChecks h (c.allocFields (s.dev.alloc h)) (s.dev.alloc h).allocId ++
      [s.start.dirtyCheck [] [h] []])).1 = none →
    ∃ t, exec (.allocEdit m) s = .next t ∧
      t.dev.alloc h = { c.allocFields (s.dev.alloc h) with gen := nextGen (s.dev.alloc h).gen } ∧ t.Done m 0 (t.dev.allocResp h)) ∧
  (∀ s m c h th al, s.Ready m 0x0401 c → c.isOwner = true → s.dev.catReady = true → s.dev.findTerm (c.u8 0) (c.u16 4) = some th →
    c.chanAlloc s.dev = some al → c.chanForm false = true → c.u8 1 < 128 → 1020 ≤ c.u16 2 → c.u16 2 ≤ 65533 →
    s.dev.freeHandle .chan = some h →
    (s.start.catTry (s.start.chanChecks h (c.chanFields { tenant := c.u8 8, tree := c.u8 0, portId := c.u16 2, term := th } al) (c.u16 2) ++
      [s.start.dirtyCheck [th] [] [h]])).1 = none →
    ∃ t, exec (.chanCreate m) s = .next t ∧ t.Done m 0 (leB 4 h ++ leB 2 (c.u16 2) ++ leB 2 0 ++ leB 4 1) ∧
      t.dev.chan h = { c.chanFields { tenant := c.u8 8, tree := c.u8 0, portId := c.u16 2, term := th } al with valid := true, gen := 1 } ∧
      t.dev.findChan (c.u8 0) (c.u16 2) = some h) ∧
  (∀ s m c h al, s.Ready m 0x0402 c → c.isOwner = true → s.dev.catReady = true → s.dev.findChan (c.u8 0) (c.u16 2) = some h →
    c.chanAlloc s.dev = some al → c.chanForm true = true → c.u8 8 = (s.dev.chan h).tenant →
    c.u16 4 = (s.dev.term (s.dev.chan h).term).termId → (c.u32 0x1C = 0 ∨ c.u32 0x1C = (s.dev.chan h).gen) →
    (s.dev.chan h).valid = true →
    (s.start.catTry (s.start.chanChecks h (c.chanFields (s.dev.chan h) al) (s.dev.chan h).portId ++
      [s.start.dirtyCheck [] [] [h]])).1 = none →
    ∃ t, exec (.chanEdit m) s = .next t ∧
      t.dev.chan h = { c.chanFields (s.dev.chan h) al with gen := nextGen (s.dev.chan h).gen } ∧ t.Done m 0 (t.dev.chanResp h))

/-- Reads (06_catalogue.md R192), removals (R161, R191), TREE_TENANT's query (R193) and the end of quarantine (R161). -/
def Obligations.CatalogueObjectsAreReadAndRemoved : Prop :=
  (∀ s m c h, s.dev.catReady = true → c.nameForm s.dev = true → c.u8 1 = 0 →
    (s.Ready m 0x0204 c → s.dev.findTerm (c.u8 0) (c.u16 2) = some h →
      (c.isOwner = true ∨ c.caller = some (s.dev.term h).tenant) →
      ∃ t, exec (.termRead m) s = .next t ∧ s.OnlyAnswers t m ∧ t.Done m 0 (s.dev.term h).image) ∧
    (s.Ready m 0x0304 c → s.dev.findAlloc (c.u8 0) (c.u16 2) = some h →
      (c.isOwner = true ∨ c.caller = some (s.dev.alloc h).tenant) →
      ∃ t, exec (.allocRead m) s = .next t ∧ s.OnlyAnswers t m ∧ t.Done m 0 (s.dev.alloc h).image) ∧
    (s.Ready m 0x0404 c → s.dev.findChan (c.u8 0) (c.u16 2) = some h →
      (c.isOwner = true ∨ c.caller = some (s.dev.chan h).tenant) →
      ∃ t, exec (.chanRead m) s = .next t ∧ s.OnlyAnswers t m ∧ t.Done m 0 (s.dev.chan h).image) ∧
    (s.Ready m 0x0203 c → s.dev.findTerm (c.u8 0) (c.u16 2) = some h →
      (c.isOwner = true ∨ c.caller = some (s.dev.term h).tenant) → (s.start.catTry (s.start.termDropChecks h)).1 = none →
      ∃ t, exec (.termRemove m) s = .next t ∧ t.Done m 0 (leB 8 s.dev.quarEnd) ∧
        (t.dev.term h).valid = false ∧ t.dev.quarHandle .term h = true) ∧
    (s.Ready m 0x0303 c → s.dev.findAlloc (c.u8 0) (c.u16 2) = some h →
      (c.isOwner = true ∨ c.caller = some (s.dev.alloc h).tenant) → (s.start.catTry (s.start.allocDropChecks h)).1 = none →
      ∃ t, exec (.allocRemove m) s = .next t ∧ t.Done m 0 (leB 8 s.dev.quarEnd) ∧
        (t.dev.alloc h).valid = false ∧ t.dev.quarHandle .alloc h = true) ∧
    (s.Ready m 0x0403 c → s.dev.findChan (c.u8 0) (c.u16 2) = some h →
      (c.isOwner = true ∨ c.caller = some (s.dev.chan h).tenant) → (s.start.catTry (s.start.chanDropChecks h)).1 = none →
      ∃ t, exec (.chanRemove m) s = .next t ∧ t.Done m 0 (leB 8 s.dev.quarEnd) ∧
        (t.dev.chan h).valid = false ∧ t.dev.quarHandle .chan h = true)) ∧
  (∀ s m c, s.Ready m 0x0107 c → s.dev.catReady = true → c.u8 0 < 16 → c.u8 1 = 1 → c.zero 2 2 = true → c.endsAt 0x24 = true →
    (c.isOwner = true ∨ c.caller = some (c.u8 0)) →
    ∃ t, exec (.treeTenant m) s = .next t ∧ s.OnlyAnswers t m ∧
      t.Done m 0 (leB 8 (s.dev.treeMask (c.u8 0)) ++
        [RecKind.term, .alloc, .chan].flatMap (fun k =>
          leB 4 (s.dev.minOf (c.u8 0) k) ++ leB 4 ((s.dev.maxOfUser (c.u8 0) k).getD 0)) ++
        [RecKind.term, .alloc, .chan].flatMap (fun k => leB 4 (s.dev.useOf (c.u8 0) k)))) ∧
  (∀ s, s.Runs → ∃ t, exec .quarantineEnd s = .next t ∧
    t.dev.cat = { s.dev.cat with quar := s.dev.cat.quar.filter (fun q => !(decide (q.endTick ≤ s.dev.tickNow))) } ∧
    s.OnlyChanges t [] { s.dev with cat := t.dev.cat, presets := t.dev.presets })

/-- Direct access (06_catalogue.md R184), fetch and write-back (R174, R177, R181), quotas (R165) and the start (R182, R183). -/
def Obligations.CatalogueStorage : Prop :=
  (∀ s (i : Fin 4194304), s.Runs → s.dev.catReady = true →
    (∃ t, exec (.catRecRead 0 i) s = .next t ∧ t.dev.get rCAT_REC_CMD fCAT_REC_CMD_REASON = 0 ∧
      ∀ w < 128, t.dev.rdN (rCAT_REC_DATA w) = leAt (s.dev.term i.val).image (4 * w) 4) ∧
    (∃ t, exec (.catRecRead 1 i) s = .next t ∧ t.dev.get rCAT_REC_CMD fCAT_REC_CMD_REASON = 0 ∧
      ∀ w < 16, t.dev.rdN (rCAT_REC_DATA w) = leAt (s.dev.alloc i.val).image (4 * w) 4) ∧
    (∃ t, exec (.catRecRead 2 i) s = .next t ∧ t.dev.get rCAT_REC_CMD fCAT_REC_CMD_REASON = 0 ∧
      ∀ w < 16, t.dev.rdN (rCAT_REC_DATA w) = leAt (s.dev.chan i.val).image (4 * w) 4) ∧
    (s.dev.portOf i.val = none → ∃ t, exec (.catRecRead 3 i) s = .next t ∧ t.dev.rdN (rCAT_REC_DATA 0) = 0)) ∧
  (∀ s (i : Fin 4194304), s.Runs →
    (∃ t, exec (.catRecWrite 3 i) s = .next t ∧ t.dev.bit rCAT_ERR fCAT_ERR_REC_REFUSED = true ∧
      t.dev.get rCAT_REC_CMD fCAT_REC_CMD_REASON = 1 ∧ t.dev.cat = s.dev.cat) ∧
    (∀ e r, e = s.start.access rCAT_REC_CMD (2 ^ 29 + 2 ^ 28 + i.val) → r = chanOfImage (s.dev.recData 64) →
      s.dev.catReady = true → i.val < 262144 → r.valid = true → r.us = true → r.image = s.dev.recData 64 →
      (e.catTry (e.chanChecks i.val r r.portId ++ [e.dirtyCheck [r.term] [] [i.val]])).1 = none →
      ∃ t, exec (.catRecWrite 2 i) s = .next t ∧ t.dev.get rCAT_REC_CMD fCAT_REC_CMD_REASON = 0 ∧
        t.dev.chan i.val =
          { r with fault := false, gen := if (s.dev.chan i.val).valid then nextGen (s.dev.chan i.val).gen else 1 })) ∧
  (∀ s k (h : Fin 262144), s.Runs →
    ((s.dev.cacheOf k).contains h.val = true → ∃ t, exec (.recordFetch k h false) s = .next t ∧
      t.dev.cacheOf k = h.val :: (s.dev.cacheOf k).erase h.val ∧ s.OnlyChanges t [] { s.dev with cat := t.dev.cat }) ∧
    ((s.dev.chan h.val).valid = true → ∃ t, exec (.recordFetch .chan h true) s = .next t ∧
      t.dev.chan h.val = { s.dev.chan h.val with fault := true } ∧ t.dev.bit rCAT_ERR fCAT_ERR_REC_FAULT = true ∧
      s.Counts t (rCAT_CNT 12) 1)) ∧
  (∀ s w ws, s.Runs → s.dev.cat.writing = w :: ws → ∃ t, exec .writeBackDone s = .next t ∧ t.dev.cat.writing = ws ∧
    s.Counts t (rCAT_CNT 6) 1 ∧ t.dev.bit rCAT_STATUS fCAT_STATUS_WB_ACTIVE = !ws.isEmpty ∧
    t.dev.out = [⟨.dram, 0, [s.dev.get rCAT_CTRL fCAT_CTRL_WB_URG, s.dev.recAddr w.kind w.handle, 1], w.image⟩]) ∧
  (∀ s (n : Fin 16) (val : Word), s.Runs →
    s.dev.quotaBreaks n.val .term (fieldOf val.toNat fCAT_TEN_TERM_QUOTA_MIN) (fieldOf val.toNat fCAT_TEN_TERM_QUOTA_MAX) = true →
    ∃ t, exec (.catTenWrite n 0 val) s = .next t ∧ t.dev.bit rCAT_ERR fCAT_ERR_QUOTA_CFG = true ∧ s.OnlyChanges t [rCAT_ERR] s.dev) ∧
  (∀ s (n : Fin 16) (val : Word), s.Runs →
    s.dev.quotaBreaks n.val .term (fieldOf val.toNat fCAT_TEN_TERM_QUOTA_MIN) (fieldOf val.toNat fCAT_TEN_TERM_QUOTA_MAX) = false →
    ∃ t, exec (.catTenWrite n 0 val) s = .next t ∧
      t.dev.rdN (rCAT_TEN_TERM_QUOTA n.val) = s.dev.stored (rCAT_TEN_TERM_QUOTA n.val) val.toNat ∧
      s.OnlyChanges t [rCAT_TEN_TERM_QUOTA n.val, rCAT_TEN_OWNER_USE 0] s.dev) ∧
  (∀ s hi (val : Word), s.Runs →
    (s.dev.catReady = false → ∃ t, exec (.catBaseWrite hi val) s = .next t ∧
      t.dev.rd (if hi then rCAT_BASE_HI else rCAT_BASE_LO) = val ∧
      s.OnlyChanges t [if hi then rCAT_BASE_HI else rCAT_BASE_LO] s.dev) ∧
    (s.dev.catReady = true → ∃ t, exec (.catBaseWrite hi val) s = .next t ∧
      t.dev.bit rCAT_ERR fCAT_ERR_BASE_BUSY = true ∧ s.OnlyChanges t [rCAT_ERR] s.dev)) ∧
  (∀ s, s.Runs → s.dev.catReady = false → ∃ t, exec .catalogueReady s = .next t ∧ t.dev.catReady = true ∧ t.dev.cat = {} ∧
    s.OnlyChanges t [rCAT_STATUS, rCAT_TEN_OWNER_USE 0] { s.dev with cat := {} })

/-- Reports (07_ladle_demand.md R202, R203), notices (R209-R213, R225), demand (R224) and notice sources (R221, R226). -/
def Obligations.DemandIsReportedAndNoticed : Prop :=
  (∀ s (k : Fin 48) (e : Fin 4096) bytes, s.Runs → (s.dev.iftE (k.val * iftPerTree + e.val)).used = true →
    ((s.dev.iftE (k.val * iftPerTree + e.val)).report = true →
      (∃ t, exec (.statusReport k e true bytes) s = .next t ∧ s.Counts t (rLADLE_CNT 16) 1 ∧
        t.dev.ladA (s.dev.iftE (k.val * iftPerTree + e.val)).alloc =
          { s.dev.ladA (s.dev.iftE (k.val * iftPerTree + e.val)).alloc with
            repNext := some (bytes, s.dev.tickNow, (s.dev.iftE (k.val * iftPerTree + e.val)).tick) } ∧
        s.OnlyChanges t [rLADLE_CNT 16] { s.dev with lad := t.dev.lad }) ∧
      (∃ t, exec (.statusReport k e false bytes) s = .next t ∧ s.Counts t (rLADLE_CNT 17) 1 ∧
        t.dev.bit rLADLE_ERR fLADLE_ERR_REPORT_BAD = true ∧ s.OnlyChanges t [rLADLE_CNT 17, rLADLE_ERR] s.dev)) ∧
    ((s.dev.iftE (k.val * iftPerTree + e.val)).report = false → ∀ good, ∃ t, exec (.statusReport k e good bytes) s = .next t ∧
      s.OnlyChanges t [] s.dev)) ∧
  (∀ s (lane : Fin 48) (ns : Fin 125000) fabric f, s.Runs →
    (s.dev.noticeAt f = none → ∃ t, exec (.scheduleNotice fabric lane ns f) s = .next t ∧ s.OnlyChanges t [] s.dev) ∧
    (∀ a len udp j p x h, s.dev.noticeAt f = some (a, len, udp) → s.dev.noticeSource f (b2n fabric) lane.val = some j → j < 256 →
      p = (f.drop a).take len → x = noticeEntryAt p 0 → p.length = 36 → byteAt p 5 = 1 → byteAt p 6 = 0 → byteAt p 7 = 1 → beAt p 3 2 = 1 →
      s.dev.bit rLADLE_NOTICE_CTRL fLADLE_NOTICE_CTRL_EN = true → s.dev.bit (rLADLE_NSRC_W8 j) fLADLE_NSRC_W8_SEEN = false →
      s.dev.findAlloc x.tree x.alloc = some h →
      s.dev.noticeCode (s.dev.get (rLADLE_NSRC_W8 j) fLADLE_NSRC_W8_TENANT) false (instant s.dev.tickNow ns.val) x = 0 →
      ∃ t, exec (.scheduleNotice fabric lane ns f) s = .next t ∧
        t.dev.notices = s.dev.notices ++ [⟨x.tree, h, x.bytes, x.start / tickNs, x.start % tickNs, x.len, s.dev.noticeSeq⟩] ∧
        t.dev.rdN (rLADLE_NSRC_LAST_SEQ j) = beAt p 8 4 ∧ t.dev.bit (rLADLE_NSRC_W8 j) fLADLE_NSRC_W8_SEEN = true ∧
        s.Counts t (rLADLE_CNT 0) 1)) ∧
  (∀ s m c x h, s.Ready m 0x0306 c → c.u8 0 = 0 → c.zero 1 3 = true → c.zero 5 1 = true → c.zero 0x1A 2 = true → c.endsAt 0x1C = true →
    x = ⟨c.u8 4, c.u16 6, c.u32 8, leAt c.req 0x0C 6, c.u32 0x12, c.u32 0x16⟩ → s.dev.findAlloc x.tree x.alloc = some h →
    ∃ t, exec (.allocNotice m) s = .next t ∧ t.Done m 0 (leB 1 (s.dev.noticeCode c.tenant false s.dev.nowNs x)) ∧
      (s.dev.noticeCode c.tenant false s.dev.nowNs x = 0 → t.dev.notices = s.dev.notices ++
        [⟨x.tree, h, x.bytes, x.start / tickNs, x.start % tickNs, x.len, s.dev.noticeSeq⟩]) ∧
      (s.dev.noticeCode c.tenant false s.dev.nowNs x ≠ 0 → t.dev.notices = s.dev.notices)) ∧
  (∀ s m c h, s.Ready m 0x0305 c → s.dev.catReady = true → s.dev.findAlloc (c.u8 0) (c.u16 2) = some h →
    (c.isOwner = true ∨ c.caller = some (s.dev.alloc h).tenant) → c.u8 1 = 0 → c.endsAt 4 = true →
    (s.dev.alloc h).cls = clsBest →
    ∃ t, exec (.allocDemand m) s = .next t ∧ s.OnlyAnswers t m ∧
      t.Done m 0 (leB 1 3 ++ leB 1 (s.dev.demandSource h) ++ leB 2 (s.dev.notices.filter (fun n => n.alloc == h)).length ++
        leB 4 (s.dev.demand h) ++ leB 4 (s.dev.ladA h).repBytes ++
        leB 4 (match (s.dev.ladA h).repTick with | some r => s.dev.tickNow - r | none => 0xFFFFFFFF))) ∧
  (∀ s (j : Fin 256) (val : Word), s.Runs →
    (∃ t, exec (.ladleNsrcWrite j 0 val) s = .next t ∧
      t.dev.rdN (rLADLE_NSRC_MAC_LO j.val) = s.dev.stored (rLADLE_NSRC_MAC_LO j.val) val.toNat ∧
      s.OnlyChanges t [rLADLE_NSRC_MAC_LO j.val] s.dev) ∧
    (nbit val.toNat 31 = true → ∃ t, exec (.ladleNsrcWrite j 2 val) s = .next t ∧
      t.dev.bit (rLADLE_NSRC_W8 j.val) fLADLE_NSRC_W8_SEEN = false ∧ s.OnlyChanges t [rLADLE_NSRC_W8 j.val] s.dev)) ∧
  (∀ s m c, s.Ready m 0x0307 c → c.isOwner = true → c.u16 0 < 256 → c.zero 2 2 = true → c.endsAt 16 = true →
    badValue (rLADLE_NSRC_MAC_LO (c.u16 0) + 4) (c.u32 8) = false → badValue (rLADLE_NSRC_MAC_LO (c.u16 0) + 8) (c.u32 12) = false →
    ∃ t, exec (.allocNoticeSrc m) s = .next t ∧
      t.Done m 0 ((List.range 4).flatMap (fun k => leB 4 (t.dev.rdN (rLADLE_NSRC_MAC_LO (c.u16 0) + 4 * k)))) ∧
      t.dev.rdN (rLADLE_NSRC_MAC_LO (c.u16 0)) = s.dev.stored (rLADLE_NSRC_MAC_LO (c.u16 0)) (c.u32 4))

/-- Admission (07_ladle_demand.md R201, R223), the map's checks (08_ladle_maps.md R244) and the in-flight table (R249, R252,
R254). -/
def Obligations.MapsAreHeldAndAccounted : Prop :=
  (∀ s (k : Fin 48) (val : Word), s.Runs → s.dev.treeOk k.val = true →
    (s.dev.ladUsed k.val none ≤ s.dev.ladResolve k.val (fieldOf val.toNat fLADLE_ADMIT_LIMIT) →
      ∃ t, exec (.ladleAdmitWrite k val) s = .next t ∧
        t.dev.get (rLADLE_ADMIT k.val) fLADLE_ADMIT_LIMIT = fieldOf val.toNat fLADLE_ADMIT_LIMIT ∧
        s.OnlyChanges t [rLADLE_ADMIT k.val] s.dev) ∧
    (s.dev.ladResolve k.val (fieldOf val.toNat fLADLE_ADMIT_LIMIT) < s.dev.ladUsed k.val none →
      ∃ t, exec (.ladleAdmitWrite k val) s = .next t ∧ t.dev.bit rLADLE_ERR fLADLE_ERR_ADMIT_REFUSED = true ∧
        s.OnlyChanges t [rLADLE_ERR] s.dev)) ∧
  (∀ s m c, s.Ready m 0x0108 c → c.isOwner = true → s.dev.treeOk (c.u8 0) = true → c.zero 1 3 = true → c.endsAt 8 = true →
    c.u32 4 = 0xFFFFFFFF → ∃ t, exec (.treeAdmit m) s = .next t ∧ s.OnlyAnswers t m ∧
      t.Done m 0 (leB 4 (s.dev.ladLimit (c.u8 0)) ++ leB 4 (s.dev.ladUsed (c.u8 0) none))) ∧
  (∀ s (k : Fin 48) (ns : Fin 125000) bad b, s.Runs → (s.dev.ladT k.val).building = some b → b.held = none →
    ∃ t, exec (.mapHeld k ns bad) s = .next t ∧
      (t.dev.ladT k.val).building = some { b with held := some ns.val, check := s.dev.mapCheck k.val b bad } ∧
      t.dev.get (rLADLE_MAP_STAT8 k.val) fLADLE_MAP_STAT8_DONE_NS = ns.val ∧
      (s.dev.mapCheck k.val b bad ≠ 0 → t.dev.bit rLADLE_MAP_ERR fLADLE_MAP_ERR_CHECK_FAIL = true ∧
        t.dev.get (rLADLE_MAP_STAT0 k.val) fLADLE_MAP_STAT0_CHECK = s.dev.mapCheck k.val b bad) ∧
      s.OnlyChanges t [rLADLE_MAP_STAT8 k.val, rLADLE_MAP_STAT0 k.val, rLADLE_MAP_ERR] { s.dev with ladTrees := t.dev.ladTrees }) ∧
  (∀ s (k : Fin 48) (e : Fin 4096), s.Runs → (s.dev.iftE (k.val * iftPerTree + e.val)).used = true →
    (s.dev.iftE (k.val * iftPerTree + e.val)).state = 0 →
    s.dev.iftEnd k.val (s.dev.iftE (k.val * iftPerTree + e.val)) +
      1000 * max 2 (s.dev.get rLADLE_MAP_CTRL fLADLE_MAP_CTRL_STALE) < instant (s.dev.tickNow + 1) 0 →
    ∃ t, exec (.inflightStale k e) s = .next t ∧ (t.dev.iftE (k.val * iftPerTree + e.val)).state = 2 ∧
      s.Counts t (rLADLE_CNT 31) 1 ∧ s.Counts t (rLADLE_CNT 30) 1 ∧
      t.dev.bit rLADLE_MAP_ERR fLADLE_MAP_ERR_INFLIGHT_STALE = true ∧
      (t.dev.ladT k.val).freed = (s.dev.ladT k.val).freed ++ [e.val]) ∧
  (∀ s (val : Word) k e, s.Runs → nbit val.toNat 31 = true → k = fieldOf val.toNat fLADLE_IFT_SEL_TREE →
    e = fieldOf val.toNat fLADLE_IFT_SEL_ENTRY → s.dev.treeOk k = true →
    ∃ t, exec (.ladleIftCopy val) s = .next t ∧
      (List.range 4).map (fun i => t.dev.rdN (rLADLE_IFT_DATA i)) = (s.dev.iftE (k * iftPerTree + e)).words ∧
      s.OnlyChanges t [rLADLE_IFT_SEL, rLADLE_IFT_DATA 0, rLADLE_IFT_DATA 1, rLADLE_IFT_DATA 2, rLADLE_IFT_DATA 3] s.dev) ∧
  (∀ s m c, s.Ready m 0x0109 c → c.isOwner = true → s.dev.treeOk (c.u8 0) = true → c.u8 1 = 0 → c.endsAt 2 = true →
    ∃ t, exec (.treeMapStatus m) s = .next t ∧ s.OnlyAnswers t m ∧
      t.Done m 0 (leB 2 (s.dev.get (rLADLE_MAP_STAT0 (c.u8 0)) fLADLE_MAP_STAT0_GRANTS) ++
        leB 1 (s.dev.get (rLADLE_MAP_STAT0 (c.u8 0)) fLADLE_MAP_STAT0_CHECK) ++ leB 1 0 ++
        leB 4 (s.dev.get (rLADLE_MAP_STAT4 (c.u8 0)) fLADLE_MAP_STAT4_USED) ++
        leB 4 (s.dev.get (rLADLE_MAP_STAT8 (c.u8 0)) fLADLE_MAP_STAT8_DONE_NS) ++
        leB 4 (s.dev.get (rLADLE_MAP_STATC (c.u8 0)) fLADLE_MAP_STATC_INFLIGHT) ++ leB 8 (s.dev.ladT (c.u8 0)).lastMap ++
        leB 4 (s.dev.rdN (rTICK_OVR (c.u8 0))) ++ leB 4 0))

/-- Choices (09_downstream.md R257, R262-R267) and gate lists (R268, R271, R272, R282). -/
def Obligations.TheFrameIsFilledByChoices : Prop :=
  (∀ s (k : Fin 48) (fs next : Fin 1313216) ecc, s.Runs → s.dev.framing k.val = true → fs.val < fsBytes (s.dev.mode k.val) →
    s.dev.partOf k.val = none → s.dev.gateEn (.tree k) = false → s.dev.bit rPIN_STATUS fPIN_STATUS_THERM_TRIP = false →
    (s.dev.dsChans k.val = [] →
      ∃ t, exec (.dsChoice k fs next ecc) s = .next t ∧
        t.dev.out = [⟨.xgem, k.val, [0xFFFF, 0, min 64 (fsBytes (s.dev.mode k.val) - fs.val)], []⟩]) ∧
    (∀ c h hs b, s.dev.dsChans k.val = [c] → s.dev.chQ c = h :: hs → h.sent = 0 → h.buf = some b → h.tag = none →
      s.dev.stateOf (s.dev.chan c).term = .operating → s.dev.get (rDSQ_TREE_CTRL k.val) fDSQ_TREE_CTRL_MAX_AGE = 0 →
      (s.dev.chan c).encrypt = false → (s.dev.chan c).dsCir = 0 → (s.dev.chan c).dsPir = 0 →
      s.dev.tenPir k.val (nodeTenant (s.dev.chan c).tenant) = 0 →
      xgemLen h.pkt.bytes.length ≤ fsBytes (s.dev.mode k.val) - fs.val →
      ∃ t, exec (.dsChoice k fs next 0) s = .next t ∧ t.dev.chQ c = hs ∧ s.Counts t (rDSQ_CNT k.val 0) 1 ∧
        ⟨.xgem, k.val, [(s.dev.chan c).portId, 0, 1], h.pkt.bytes⟩ ∈ t.dev.out)) ∧
  (∀ s g (len : Fin 512) e, s.Runs → s.dev.gateOk g = true → e = s.start.gateCmd g len.val →
    (e.pendingOk g = true →
      ∃ t, exec (.gateListCommit g len) s = .next t ∧ (t.dev.gateX (gateKey g)).active = (s.dev.gateX (gateKey g)).active ∧
        ∃ tick ns, (t.dev.gateX (gateKey g)).armed =
          some (⟨(e.pendingList g).1, (e.pendingList g).2.1, (e.pendingList g).2.2.2.2⟩, tick, ns)) ∧
    (e.pendingOk g = false →
      ∃ t, exec (.gateListCommit g len) s = .next t ∧ t.dev.ds = s.dev.ds ∧
        (∀ k, g = .tree k → t.dev.bit rDSQ_ERR fDSQ_ERR_GATE_CFG = true) ∧
        (∀ u, g = .upl u → t.dev.bit (rUPL_ERR u.val) fUPL_ERR_CFG_BAD = true)) ∧
    (∃ t, exec (.gateListAbort g len) s = .next t ∧
      t.dev.gateX (gateKey g) = { s.dev.gateX (gateKey g) with armed := none })) ∧
  (∀ s g l tick ns, s.Runs → (s.dev.gateX (gateKey g)).armed = some (l, tick, ns) → tick ≤ s.dev.tickNow →
    ∃ t, exec (.gateListActive g) s = .next t ∧
      t.dev.gateX (gateKey g) = { s.dev.gateX (gateKey g) with active := some l, armed := none }) ∧
  (∀ s m c, s.Ready m 0x010C c → c.isOwner = true → s.dev.treeOk (c.u8 0) = true →
    (∀ k : Fin 48, k.val = c.u8 0 → c.u8 1 = 1 → ∃ t, exec (.treeGate m) s = .next t ∧ s.OnlyAnswers t m ∧
      t.Done m 0 ((s.dev.showGate (.tree k) s.dev.nowNs).gateReport k.val)) ∧
    (c.u8 1 = 2 → ∃ t, exec (.treeGate m) s = .next t ∧ t.Done m 0 [] ∧ (t.dev.gateX (c.u8 0 % 48)).armed = none))

/-- Tenant nodes and admission (09_downstream.md R260, R278, R280, R281), samples (R274, R283) and histograms (R276, R284). -/
def Obligations.DownstreamIsAdmittedAndSampled : Prop :=
  (∀ s (k : Fin 48) (n : Fin 17) (val : Word) bad, s.Runs → s.dev.treeOk k.val = true →
    bad = s.dev.dsTenBad k.val (regNode n.val) (fieldOf val.toNat fDSQ_TEN_CIR_RATE) (s.dev.tenPir k.val (regNode n.val))
      (s.dev.tenWeight k.val (regNode n.val)) →
    (bad = (false, false) → ∃ t, exec (.dsqTenWrite k n 0 val) s = .next t ∧
      t.dev.tenCir k.val (regNode n.val) = fieldOf val.toNat fDSQ_TEN_CIR_RATE ∧
      t.dev.tenPir k.val (regNode n.val) = s.dev.tenPir k.val (regNode n.val) ∧
      t.dev.tenWeight k.val (regNode n.val) = s.dev.tenWeight k.val (regNode n.val)) ∧
    (bad.1 = true ∨ bad.2 = true → ∃ t, exec (.dsqTenWrite k n 0 val) s = .next t ∧
      t.dev.bit rDSQ_ERR fDSQ_ERR_ADMIT_REFUSED = true ∧ s.OnlyChanges t [rDSQ_ERR] s.dev)) ∧
  (∀ s (k : Fin 48) (val : Word), s.Runs → s.dev.treeOk k.val = true →
    (s.dev.dsUsed k.val ≤ s.dev.dsResolve k.val (fieldOf val.toNat fDSQ_ADMIT_LIMIT) →
      ∃ t, exec (.dsqAdmitWrite k val) s = .next t ∧
        t.dev.get (rDSQ_ADMIT k.val) fDSQ_ADMIT_LIMIT = fieldOf val.toNat fDSQ_ADMIT_LIMIT ∧ s.OnlyChanges t [rDSQ_ADMIT k.val] s.dev) ∧
    (s.dev.dsResolve k.val (fieldOf val.toNat fDSQ_ADMIT_LIMIT) < s.dev.dsUsed k.val →
      ∃ t, exec (.dsqAdmitWrite k val) s = .next t ∧ t.dev.bit rDSQ_ERR fDSQ_ERR_ADMIT_REFUSED = true ∧
        s.OnlyChanges t [rDSQ_ERR] s.dev)) ∧
  (∀ s m c, s.Ready m 0x010A c → c.isOwner = true → s.dev.treeOk (c.u8 0) = true → c.u8 1 = 0 → c.zero 3 1 = true → c.endsAt 8 = true →
    c.u32 4 = 0xFFFFFFFF → ∃ t, exec (.treeDsConfig m) s = .next t ∧
      t.Done m 0 (leB 4 (s.dev.dsLimit (c.u8 0)) ++ leB 4 (s.dev.dsUsed (c.u8 0))) ∧
      t.dev.get (rDSQ_TREE_CTRL (c.u8 0)) fDSQ_TREE_CTRL_MAX_AGE = c.u8 2) ∧
  (∀ s m c, s.Ready m 0x010B c → c.isOwner = true → s.dev.treeOk (c.u8 0) = true → (c.u8 1 < 16 ∨ c.u8 1 = 31) → c.u8 2 = 1 →
    c.zero 3 1 = true → c.endsAt 0x0E = true →
    ∃ t, exec (.treeDsTenant m) s = .next t ∧ s.OnlyAnswers t m ∧
      t.Done m 0 (leB 4 (s.dev.tenCir (c.u8 0) (c.u8 1)) ++ leB 4 (s.dev.tenPir (c.u8 0) (c.u8 1)) ++
        leB 2 (s.dev.tenWeight (c.u8 0) (c.u8 1)) ++ leB 2 0 ++ leB 4 (s.dev.dsCirSum (c.u8 0) (c.u8 1) none) ++
        leB 4 (s.dev.tenQueued (c.u8 0) (c.u8 1)))) ∧
  (∀ s (c : Fin 262144), s.Runs → ∃ t, exec (.dsqSampleCopy c) s = .next t ∧
    (List.range 4).map (fun i => t.dev.rdN (rDSQ_SMP_DATA i)) = (s.dev.dsSample c.val).map (fun w => w % 2 ^ 32) ∧
    s.OnlyChanges t [rDSQ_SMP_SEL, rDSQ_SMP_DATA 0, rDSQ_SMP_DATA 1, rDSQ_SMP_DATA 2, rDSQ_SMP_DATA 3] s.dev) ∧
  (∀ s m c h, s.Ready m 0x0405 c → s.dev.catReady = true → s.dev.findChan (c.u8 0) (c.u16 2) = some h →
    (c.isOwner = true ∨ c.caller = some (s.dev.chan h).tenant) → c.nameForm s.dev = true → c.u8 1 = 0 →
    ∃ t, exec (.chanDsSample m) s = .next t ∧ s.OnlyAnswers t m ∧ t.Done m 0 ((s.dev.dsSample h).flatMap (leB 4))) ∧
  (∀ s (h : Fin 64) (val : Word), s.Runs → nbit val.toNat 0 = true → ∃ t, exec (.histCopy h val) s = .next t ∧
    t.dev.bit (rDSQ_HIST_CMD h.val) fDSQ_HIST_CMD_COPY = true ∧ t.dev.bit (rDSQ_HIST_CMD h.val) fDSQ_HIST_CMD_READY = false ∧
    s.OnlyChanges t [rDSQ_HIST_CMD h.val] s.dev) ∧
  (∀ s (h : Fin 64) (val : Word), s.Runs → ∃ t, exec (.histCfgWrite h val) s = .next t ∧
    t.dev.rdN (rDSQ_HIST_CFG h.val) = s.dev.stored (rDSQ_HIST_CFG h.val) val.toNat ∧
    (t.dev.rdN (rDSQ_HIST_CFG h.val) ≠ s.dev.rdN (rDSQ_HIST_CFG h.val) → t.dev.histOf h.val = []) ∧
    s.OnlyChanges t [rDSQ_HIST_CFG h.val] { s.dev with ds := t.dev.ds }) ∧
  (∀ s m c, s.Ready m 0x010D c → c.isOwner = true → c.u8 0 < 64 → c.zero 2 2 = true → c.endsAt 10 = true →
    (c.u8 1 = 1 → badValue (rDSQ_HIST_CFG (c.u8 0)) (c.u32 4) = false →
      ∃ t, exec (.treeDsHist m) s = .next t ∧ t.Done m 0 [] ∧
        t.dev.get (rDSQ_HIST_BASE (c.u8 0)) fDSQ_HIST_BASE_BASE_NS = c.u16 8) ∧
    (c.u8 1 = 0 → ∃ t, exec (.treeDsHist m) s = .next t ∧
      t.dev.bit (rDSQ_HIST_CMD (c.u8 0)) fDSQ_HIST_CMD_COPY = true ∧
      ∀ x ∈ t.dev.glk.cmds, x.mbx = m.val → x.started = true ∧ x.note = [c.u8 0]))

/-- Sessions (10_cipher.md R303, R314), the certificate (R315), tree keys (R290, R304, R316, R317, R311) and associations
(R318). -/
def Obligations.KeysAreInstalledAndSeen : Prop :=
  (∀ s m c n, s.Ready m 0x0801 c → c.isOwner = true → c.u8 0 = 0 → c.zero 2 2 = true → c.endsAt 0x75 = true → s.dev.wrapReady = true →
    onP384 (slice c.req 0x14 97) = true →
    (List.range 32).find? (fun n => !(s.dev.ciph.sessions.any (fun x => x.num == n))) = some n →
    ∃ t nonce, exec (.keySession m) s = .next t ∧ nonce.length = 16 ∧ t.Done m 0 (leB 1 n ++ leB 3 0 ++ nonce) ∧
      t.dev.ciph.sessions = s.dev.ciph.sessions ++
        [⟨n, none, transportKey (slice c.req 4 16) nonce (slice c.req 0x14 97) n, 0, 0⟩]) ∧
  (∀ s m c, s.Ready m 0x0801 c → c.u8 0 = 1 → c.zero 2 2 = true → c.endsAt 0x75 = true →
    s.dev.sessionOf c.caller (c.u8 1) ≠ none →
    ∃ t, exec (.keySession m) s = .next t ∧ t.Done m 0 [] ∧
      t.dev.ciph.sessions = s.dev.ciph.sessions.filter (fun x => x.num != c.u8 1)) ∧
  (∀ s m c, s.Ready m 0x0802 c → c.endsAt 0 = true → ∃ t, exec (.keyCert m) s = .next t ∧ s.OnlyAnswers t m ∧
    t.Done m 0 (leB 2 (Config.certificate.take 1536).length ++ leB 2 0 ++ Config.certificate.take 1536)) ∧
  (∀ s m c h x u, s.Ready m 0x0803 c → c.isOwner = true → s.dev.findTerm (c.u8 0) (c.u16 2) = some h →
    s.dev.sessionOf c.caller (c.u8 4) = some x → s.dev.wrapReady = true → (c.u8 1 = 1 ∨ c.u8 1 = 2) → c.u8 5 = 1 →
    c.zero 6 2 = true → c.zero 0x0C 4 = true → c.u8 0x18 = 0 → c.zero 0x19 7 = true → c.endsAt 0x50 = true →
    (∀ e ∈ s.dev.cat.terms, e.2.valid = true → e.2.keyIndex = (s.dev.term h).keyIndex → e.1 = h) →
    (s.dev.term h).key256 = true → (s.dev.keyEnt (s.dev.term h).keyIndex).cur ≠ c.u8 1 →
    u = (s.start.unwrap x (slice c.req 8 4) (slice c.req 0 0x20) (slice c.req 0x20 32) (slice c.req 0x40 16) 0).1 →
    ∃ t, exec (.keyInstall m) s = .next t ∧
      (u = none → t.Done m resBadParam [] ∧ t.dev.ciph.keys = s.dev.ciph.keys ∧ t.dev.bit rCIPH_ERR fCIPH_ERR_UNWRAP_FAIL = true) ∧
      ∀ key, u = some key →
        t.Done m 0 (leB 2 (s.dev.term h).keyIndex ++ leB 1 (s.dev.keyEnt (s.dev.term h).keyIndex).cur ++ leB 1 0) ∧
        (t.dev.keyEnt (s.dev.term h).keyIndex).slot (c.u8 1) = { installed := true, key := key, aes256 := true, exp := 0, pending := if c.u64 0x10 = 0 then none else some (c.u64 0x10) } ∧
        (t.dev.keyEnt (s.dev.term h).keyIndex).cur = (s.dev.keyEnt (s.dev.term h).keyIndex).cur) ∧
  (∀ s m c h k, s.Ready m 0x0804 c → s.dev.findTerm (c.u8 0) (c.u16 2) = some h →
    (c.isOwner = true ∨ c.caller = some (s.dev.term h).tenant) → c.u8 1 = 0 → c.endsAt 4 = true →
    k = s.dev.keyEnt (s.dev.term h).keyIndex →
    ∃ t, exec (.keyStatus m) s = .next t ∧ s.OnlyAnswers t m ∧
      t.Done m (if s.dev.keyBlocked h then resKeyExhausted else 0)
        (leB 1 (2 * keyBits (some (s.dev.term h)) k 1) ++ leB 1 (2 * keyBits (some (s.dev.term h)) k 2) ++ leB 1 (s.dev.keyExp k) ++
          leB 1 0 ++ leB 8 k.s1.count ++ leB 8 k.s2.count)) ∧
  (∀ s (i : Fin 16384) (n : Fin 2), s.Runs → ∃ t, exec (.ciphKeyCopy i n) s = .next t ∧
    t.dev.rd64 rCIPH_KEY_COUNT_LO rCIPH_KEY_COUNT_HI = ((s.dev.keyEnt i.val).slot (n.val + 1)).count % 2 ^ 64 ∧
    s.OnlyChanges t [rCIPH_KEY_SEL, rCIPH_KEY_INFO, rCIPH_KEY_COUNT_LO, rCIPH_KEY_COUNT_HI] s.dev) ∧
  (∀ s m c k, s.Ready m 0x0805 c → c.isOwner = true → s.dev.ciphNormal = true → s.dev.ciph.zeroing = false → c.u8 0 < 2 → c.u8 1 < 6 →
    c.u16 2 < 512 → c.u8 6 < 4 → c.zero 7 1 = true → c.zero 0x0C 4 = true → c.zero 0x1C 4 = true → c.zero 0x2C 4 = true →
    c.zero 0x3C 4 = true → k = saKey (c.u8 0) (c.u8 1) (c.u16 2) → ((s.dev.saEnt k).valid = true → (s.dev.saEnt k).used = false) →
    (c.u8 5 = 0 → ∃ t, exec (.keySaInstall m) s = .next t ∧ t.Done m 0 [] ∧ t.dev.saEnt k = {}) ∧
    (∀ x u, c.u8 5 = 3 → s.dev.wrapReady = true → c.endsAt 0x70 = true → s.dev.sessionOf c.caller (c.u8 4) = some x →
      u = (s.start.unwrap x (slice c.req 8 4) (slice c.req 0 0x40) (slice c.req 0x40 32) (slice c.req 0x60 16) 0).1 →
      ∃ t, exec (.keySaInstall m) s = .next t ∧
        (u = none → t.Done m resBadParam [] ∧ t.dev.ciph.sas = s.dev.ciph.sas) ∧
        ∀ key, u = some key → t.Done m 0 [] ∧ t.dev.saEnt k = { valid := true, rx := true, an := c.u8 6, sci := beAt c.req 0x10 8, ssci := beAt c.req 0x18 4, salt := slice c.req 0x30 12, pn := c.u64 0x20, win := c.u32 0x28, key := key }))

/-- Fencing and tests (10_cipher.md R287, R308, R309, R319), tamper and zeroisation (R305-R307, R313, R320). -/
def Obligations.EnginesAreTestedAndKeysErased : Prop :=
  (∀ s (e : Fin 141), s.Runs →
    (s.dev.fenced e.val = false → ∃ t, exec (.engineParityError e) s = .next t ∧ t.dev.fenced e.val = true ∧
      t.dev.bit rCIPH_ERR fCIPH_ERR_ENGINE_FENCED = true) ∧
    (s.dev.fenced e.val = true → ∃ t, exec (.engineParityError e) s = .next t ∧ s.OnlyChanges t [] s.dev)) ∧
  (∀ s (e : Fin 256), s.Runs → s.dev.bit rCIPH_TEST fCIPH_TEST_BUSY = false → e.val ≤ 137 → s.dev.underTest e.val = false →
    (s.dev.testable e.val = true → ∃ t, exec (.engineTestStart e) s = .next t ∧ t.dev.bit rCIPH_TEST fCIPH_TEST_BUSY = true ∧
      t.dev.ciph.tests = s.dev.ciph.tests ++ [⟨e.val, false, none, [], 0, 0, false⟩]) ∧
    (s.dev.testable e.val = false → ∃ t, exec (.engineTestStart e) s = .next t ∧ t.dev.bit rCIPH_TEST fCIPH_TEST_NO_SPARE = true ∧
      s.OnlyChanges t [rCIPH_TEST] s.dev)) ∧
  (∀ s (e : Fin 141) pass, s.Runs → s.dev.ciph.tests = [⟨e.val, false, none, [], 0, 0, false⟩] →
    ∃ t, exec (.engineTestDone e pass) s = .next t ∧ t.dev.ciph.tests = [] ∧ t.dev.bit rCIPH_TEST fCIPH_TEST_BUSY = false ∧
      t.dev.bit rCIPH_TEST fCIPH_TEST_DONE = true ∧ t.dev.bit rCIPH_TEST fCIPH_TEST_PASS = pass ∧
      (pass = false → t.dev.fenced e.val = true)) ∧
  (∀ s (i : Fin 5) (j : Fin 32) (val : Word), s.Runs → val.toNat = 2 ^ j.val → s.dev.fenced (32 * i.val + j.val) = true →
    s.dev.underTest (32 * i.val + j.val) = false →
    ∃ t, exec (.fenceRecovery i val) s = .next t ∧
      t.dev.ciph.tests = s.dev.ciph.tests ++ [⟨32 * i.val + j.val, true, none, [], 0, 0, false⟩]) ∧
  (∀ s m c, s.Ready m 0x0806 c → c.isOwner = true → c.u8 0 < 138 → c.endsAt 1 = true → s.dev.bit rCIPH_TEST fCIPH_TEST_BUSY = false →
    s.dev.testable (c.u8 0) = true →
    ∃ t, exec (.keySelftest m) s = .next t ∧ t.dev.bit rCIPH_TEST fCIPH_TEST_BUSY = true ∧
      t.dev.ciph.tests = s.dev.ciph.tests ++ [⟨c.u8 0, false, some m.val, [], 0, 0, false⟩] ∧
      ∀ x ∈ t.dev.glk.cmds, x.mbx = m.val → x.started = true) ∧
  (∀ s m c, s.Ready m 0x0807 c → c.isOwner = true → c.u8 0 = 0x5A → c.endsAt 1 = true → s.dev.ciph.zeroing = false →
    ∃ t, exec (.keyZeroise m) s = .next t ∧ t.dev.ciph = { s.dev.ciph with zeroing := true } ∧
      t.dev.bit rSEC_STATUS fSEC_STATUS_CAUSE_CMD = true ∧ ∀ x ∈ t.dev.glk.cmds, x.mbx = m.val → x.started = true) ∧
  (∀ s, s.Runs → s.dev.cipherOff = false →
    (∀ k : Fin 4, nbit (s.dev.rdN rSEC_TAMPER_CTRL) (8 * k.val + 7) = true →
      ∃ t, exec (.tamperInput k true) s = .next t ∧ t.dev.ciph = { s.dev.ciph with zeroing := true } ∧
        t.dev.bit rSEC_STATUS ⟨k.val, k.val⟩ = true ∧ t.dev.bit rSEC_STATUS ⟨27 + k.val, 27 + k.val⟩ = true) ∧
    (∀ k : Fin 4, ∃ t, exec (.tamperInput k false) s = .next t ∧ t.dev.bit rSEC_STATUS ⟨k.val, k.val⟩ = false ∧
      s.OnlyChanges t [rSEC_STATUS, rPIN_STATUS] s.dev) ∧
    (∃ t, exec (.secZeroise 0x5A) s = .next t ∧ t.dev.bit rSEC_STATUS fSEC_STATUS_CAUSE_CMD = true ∧
      s.OnlyChanges t [rSEC_STATUS] { s.dev with ciph := { s.dev.ciph with zeroing := true } }) ∧
    (∀ val : Word, val ≠ 0x5A → ∃ t, exec (.secZeroise val) s = .next t ∧ s.OnlyChanges t [] s.dev)) ∧
  (∀ s, s.dev.ciph.zeroing = true → ∃ t, exec .zeroisationDone s = .next t ∧
    t.dev.ciph = { s.dev.ciph with keys := [], sessions := [], sas := [], zeroing := false, devKey := [], xts1 := [], xts2 := [] } ∧
    t.dev.bit rSEC_STATUS fSEC_STATUS_ZEROISED = true ∧
    (s.dev.clocked = true → t.dev.get rCIPH_STATUS fCIPH_STATUS_STATE = 2))

/-- A pass (11_colander.md R322, R328, R331, R334) and the staging image's registers (R345, R347). -/
def Obligations.PacketsPassTheColander : Prop :=
  (∀ s, s.Runs → s.dev.col.queue = [] → ∃ t, exec (.colanderPass 0 []) s = .next t ∧ s.OnlyChanges t [] s.dev) ∧
  (∀ s c rest w keys i rule, s.Runs → s.dev.col.queue = c :: rest → w = parseFrame s.dev.parseCfg c.pkt.bytes c.first →
    keys = w.levels.reverse.map (levelKey (leB 1 c.pkt.src ++ leB 1 c.pkt.tenant ++ leB 1 (w.flags c.pkt.yellow c.recirc))
      (w.levels.length - 1) c.pkt.metaV c.pass) →
    (s.dev.ed c.slot).defFlags = false → (s.dev.ed c.slot).firstRule keys = some (i, rule) →
    (byteAt rule 129 = 1 → ∃ t, exec (.colanderPass 0 []) s = .next t ∧ t.dev.col.queue = rest ∧
      t.dev.ed c.slot = { s.dev.ed c.slot with inflight := (s.dev.ed c.slot).inflight - 1 }) ∧
    (byteAt rule 129 = 8 → c.pass + 1 < s.dev.maxPass → ∃ t, exec (.colanderPass 0 []) s = .next t ∧
      t.dev.col.queue = rest ++ [{ c with pass := c.pass + 1, recirc := true }] ∧ s.Counts t (rCOL_CNT 1) 1)) ∧
  (∀ s (kind : Fin 2) (i : Fin 131072), s.Runs →
    (s.dev.col.staging = none →
      (∃ t, exec (.colStageRead kind i) s = .next t ∧ t.dev.get rCOL_STAGE_CMD fCOL_STAGE_CMD_REASON = 4 ∧
        s.OnlyChanges t [rCOL_STAGE_CMD] s.dev) ∧
      (∃ t, exec (.colStageWrite kind i) s = .next t ∧ t.dev.get rCOL_STAGE_CMD fCOL_STAGE_CMD_REASON = 4 ∧
        t.dev.bit rCOL_ERR fCOL_ERR_STAGE_REFUSED = true ∧ s.OnlyChanges t [rCOL_STAGE_CMD, rCOL_ERR] s.dev)) ∧
    (∀ st r, s.dev.col.staging = some st → r = entryReason kind.val i.val (s.dev.stageData (entrySize kind.val)) →
      (i.val < entryLimit kind.val → ∃ t, exec (.colStageRead kind i) s = .next t ∧
        t.dev.get rCOL_STAGE_CMD fCOL_STAGE_CMD_REASON = 0 ∧
        ∀ w < entrySize kind.val / 4, t.dev.rdN (rCOL_STAGE_DATA w) = leAt (st.entry kind.val i.val) (4 * w) 4) ∧
      (r = 0 → ∃ t, exec (.colStageWrite kind i) s = .next t ∧ t.dev.get rCOL_STAGE_CMD fCOL_STAGE_CMD_REASON = 0 ∧
        t.dev.col.staging = some (st.put kind.val i.val (s.dev.stageData (entrySize kind.val)))) ∧
      (r ≠ 0 → ∃ t, exec (.colStageWrite kind i) s = .next t ∧ t.dev.get rCOL_STAGE_CMD fCOL_STAGE_CMD_REASON = r ∧
        t.dev.bit rCOL_ERR fCOL_ERR_STAGE_REFUSED = true ∧ t.dev.col = s.dev.col)))

/-- The commands of Editions (11_colander.md R342-R344, R349). -/
def Obligations.EditionsAreStagedAndCommitted : Prop :=
  ∀ s m c, c.isOwner = true →
    (s.Ready m 0x0501 c → c.u8 0 = 0 → c.endsAt 1 = true → s.dev.col.staging = none →
      ∃ t, exec (.editionOpen m) s = .next t ∧ t.Done m 0 [] ∧ t.dev.col = { s.dev.col with staging := some ⟨[], []⟩ }) ∧
    (∀ st, s.Ready m 0x0502 c → s.dev.col.staging = some st → c.u8 0 < 2 → c.u8 1 = 1 → 6 + entrySize (c.u8 0) ≤ c.req.length →
      c.endsAt (6 + entrySize (c.u8 0)) = true →
      entryReason (c.u8 0) (leAt c.req 2 4) (slice c.req 6 (entrySize (c.u8 0))) = 0 →
      ∃ t, exec (.editionWrite m) s = .next t ∧ t.Done m 0 [] ∧ t.dev.col = { s.dev.col with
        staging := some (st.put (c.u8 0) (leAt c.req 2 4) (slice c.req 6 (entrySize (c.u8 0)))) }) ∧
    (∀ st q k, s.Ready m 0x0503 c → s.dev.col.staging = some st → c.u8 0 = 2 → c.zero 1 3 = true → c.endsAt 0x28 = true →
      s.dev.pendSlot = none → (List.range 4).find? (fun i => (s.dev.ed i).state == 0) = some k →
      q = ⟨false, c.u32 4, c.u32 8, c.u32 0x0C, c.u64 0x10, leAt c.req 0x18 16⟩ → q.rules ≤ 16384 → q.actions ≤ 65536 →
      s.dev.col.highest < q.number → q.digest = 0 → actionsReach q st = false →
      ∃ t, exec (.editionCommit m) s = .next t ∧ t.Done m 0 (leB 1 k ++ leB 3 0 ++ leB 16 (editionDigest q st) ++ leB 8 0) ∧
        (t.dev.ed k).state = 1 ∧ (t.dev.ed k).number = q.number ∧ (t.dev.ed k).digest = editionDigest q st ∧
        t.dev.col.highest = q.number) ∧
    (s.Ready m 0x0504 c → c.endsAt 1 = true →
      (c.u8 0 = 0 → s.dev.col.staging ≠ none → ∃ t, exec (.editionAbort m) s = .next t ∧ t.Done m 0 [] ∧
        t.dev.col = { s.dev.col with staging := none }) ∧
      (∀ k, c.u8 0 = 1 → s.dev.pendSlot = some k → ∃ t, exec (.editionAbort m) s = .next t ∧ t.Done m 0 [] ∧ t.dev.ed k = {})) ∧
    (s.Ready m 0x0505 c → c.endsAt 0 = true → ∃ t, exec (.editionStatus m) s = .next t ∧ s.OnlyAnswers t m ∧
      t.Done m 0 ((List.range 4).flatMap (fun i => leB 1 (s.dev.ed i).state ++ leB 3 0 ++ leB 4 (s.dev.ed i).inflight ++
        leB 8 (s.dev.ed i).number ++ leB 16 (s.dev.ed i).digest))) ∧
    (s.Ready m 0x0506 c → c.u8 0 < 16 → c.u8 1 < 2 → c.zero 2 2 = true → c.u32 4 < 2 ^ 24 → c.endsAt 0x0A = true →
      ∃ t, exec (.editionExc m) s = .next t ∧ t.dev.rdN (rCOL_EXC_RATE (c.u8 0)) = c.u32 4 ∧
        t.dev.rdN (rCOL_EXC_CTRL (c.u8 0)) = c.u8 1 * 2 ^ 31 + c.u16 8 ∧
        t.Done m 0 (leB 4 (c.u32 4) ++ leB 4 (c.u8 1 * 2 ^ 31 + c.u16 8) ++ leB 4 (s.dev.rdN (rCOL_EXC_SENT (c.u8 0))) ++
          leB 4 (s.dev.rdN (rCOL_EXC_DROPPED (c.u8 0))))) ∧
    (s.Ready m 0x0507 c → c.u8 0 < 16 → c.only 1 0xE0 = true → c.u8 1 / 32 % 4 ≠ 3 → c.zero 2 2 = true → c.u32 4 < 2 ^ 24 →
      c.endsAt 0x0C = true →
      ∃ t, exec (.editionMirror m) s = .next t ∧ t.dev.rdN (rCOL_MIR_DEST (c.u8 0)) = c.u8 1 * 2 ^ 24 + c.u32 4 ∧
        t.dev.rdN (rCOL_MIR_CTRL (c.u8 0)) = c.u16 8 * 65536 + c.u16 0x0A ∧
        t.Done m 0 (leB 4 (c.u8 1 * 2 ^ 24 + c.u32 4) ++ leB 4 (c.u16 8 * 65536 + c.u16 0x0A)))

/-- Entries and how they come and go (12_forwarding.md R357, R358, R364, R367, R368, R378). -/
def Obligations.TablesAreFilledAndSearched : Prop :=
  (∀ s m c n key, c.isOwner = true → s.dev.fwdReady = true → n = c.u8 0 → n < 16 → s.dev.tblEn n = true → s.dev.tblKind n = 0 →
    c.u8 1 = 0 → c.zero 0x0B 1 = true → c.endsAt 0x28 = true → key = slice c.req 0x0C 8 →
    (∀ k, s.Ready m 0x0601 c → c.zero 9 2 = true → c.zero 0x20 8 = true → c.fwdKeyOk s.dev n = true → portOk (c.u32 4) = true →
      s.dev.fwdFind n key = none → s.dev.freeSlot (s.dev.buckets n key).1 false = some k →
      ∃ t, exec (.fwdInsert m) s = .next t ∧ t.Done m 0 (leB 1 0 ++ leB 1 0 ++ leB 2 0 ++ leB 4 (k / 4) ++ leB 1 (k % 4)) ∧
        t.dev.slotF k = some ⟨n, key, c.u16 2, true, false, false, false, c.u32 4⟩) ∧
    (∀ k, s.Ready m 0x0602 c → c.zero 2 6 = true → c.zero 9 2 = true → c.zero 0x20 8 = true → c.fwdKeyOk s.dev n = true →
      s.dev.fwdFind n key = some k →
      ∃ t, exec (.fwdDelete m) s = .next t ∧ t.Done m 0 (leB 1 1) ∧ t.dev.slotF k = none) ∧
    (∀ k e, s.Ready m 0x0603 c → c.zero 2 6 = true → c.zero 9 2 = true → c.zero 0x20 8 = true → c.fwdKeyOk s.dev n = true →
      s.dev.fwdFind n key = some k → s.dev.slotF k = some e →
      ∃ t, exec (.fwdSearch m 0 []) s = .next t ∧ s.OnlyAnswers t m ∧ t.Done m 0 (leB 4 1 ++ e.image)) ∧
    (∀ es, s.Ready m 0x0604 c → c.zero 2 8 = true → 1 ≤ c.u8 0x0A → c.u8 0x0A ≤ 60 → c.u64 0x20 = 0 →
      es = s.dev.fwd.slots.filterMap (fun e => match e.2 with | some x => if x.tbl == n then some (e.1, x) else none | none => none) →
      es ≠ [] → es.length ≤ c.u8 0x0A → (∀ x ∈ es, x.2.key.length = 8 ∧ x.2.wide = false) →
      ∃ t cur, exec (.fwdNext m) s = .next t ∧ s.OnlyAnswers t m ∧
        t.Done m 0 (leB 1 es.length ++ leB 1 1 ++ leB 2 0 ++ leB 8 cur ++ es.flatMap (fun g => g.2.image)))) ∧
  (∀ s m c k e, c.isOwner = true → s.dev.fwdReady = true → c.u8 0 = 0xFF → c.u8 1 = 0 → c.zero 0x0B 1 = true → c.endsAt 0x28 = true →
    c.zero 8 3 = true → c.zero 0x20 8 = true → s.dev.fwd.slots = [(k, some e)] → e.static = false →
    (s.Ready m 0x0605 c → c.zero 2 2 = true → portOk (c.u32 4) = true → e.port = c.u32 4 →
      ∃ t, exec (.fwdFlushPort m) s = .next t ∧ t.Done m 0 (leB 4 1) ∧ t.dev.fwd.slots = [] ∧ s.Counts t (rFWD_CNT 10) 1) ∧
    (s.Ready m 0x0606 c → c.zero 4 4 = true → c.u16 2 < 4096 → keyDomain e.key = c.u16 2 →
      ∃ t, exec (.fwdFlushDomain m) s = .next t ∧ t.Done m 0 (leB 4 1) ∧ t.dev.fwd.slots = [] ∧ s.Counts t (rFWD_CNT 10) 1)) ∧
  (∀ s r rs, s.Runs → s.dev.fwd.learnQ = r :: rs →
    (s.dev.tblEn r.tbl = false → ∃ t, exec .learnRequest s = .next t ∧
      s.OnlyChanges t [] { s.dev with fwd := { s.dev.fwd with learnQ := rs } }) ∧
    (∀ k, s.dev.tblEn r.tbl = true → s.dev.fwdFind r.tbl r.key = none → s.dev.learnFull r.port = none →
      s.dev.freeSlot (s.dev.buckets r.tbl r.key).1 false = some k →
      ∃ t, exec .learnRequest s = .next t ∧ t.dev.fwd.learnQ = rs ∧ s.Counts t (rFWD_CNT 2) 1 ∧
        t.dev.slotF k = some ⟨r.tbl, r.key, 0, true, false, true, false, r.port⟩)) ∧
  (∀ s b, s.Runs → s.dev.fwdReady = true → s.dev.fwd.sweepAt = b → b % 32 ≠ 0 → b + 1 < 262144 →
    ((∀ i < 4, s.dev.slotF (4 * b + i) = none) →
      ∃ t, exec (.sweepVisit 0 []) s = .next t ∧ t.dev.fwd = { s.dev.fwd with sweepAt := b + 1 }) ∧
    (∀ e, s.dev.slotF (4 * b) = some e → (∀ i < 3, s.dev.slotF (4 * b + (i + 1)) = none) → e.static = false →
      s.dev.bit (rFWD_TBL_CFG e.tbl) fFWD_TBL_CFG_AGE_EN = true → e.hit = true →
      ∃ t, exec (.sweepVisit 0 []) s = .next t ∧ t.dev.slotF (4 * b) = some { e with hit := false } ∧ t.dev.fwd.sweepAt = b + 1))

/-- The tables' registers (12_forwarding.md R354, R356, R375, R378). -/
def Obligations.TablesAreConfigured : Prop :=
  (∀ s m c, s.Ready m 0x0607 c → c.isOwner = true → s.dev.fwdReady = true → c.u8 0 < 16 → c.u8 1 = 1 → c.zero 2 2 = true →
    c.endsAt 0x10 = true → ∃ t, exec (.fwdTable m) s = .next t ∧ s.OnlyAnswers t m ∧
      t.Done m 0 (leB 4 (s.dev.rdN (rFWD_TBL_CFG (c.u8 0))) ++ leB 4 (s.dev.rdN (rFWD_TBL_USED (c.u8 0))))) ∧
  (∀ s (n : Fin 16) (val : Word), s.Runs →
    (s.dev.tblRefused n.val val.toNat (s.dev.rdN (rFWD_TBL_SELECT_LO n.val)) (s.dev.rdN (rFWD_TBL_SELECT_HI n.val)) = false →
      ∃ t, exec (.fwdTblWrite n 0 val) s = .next t ∧
        t.dev.rdN (rFWD_TBL_CFG n.val) = s.dev.stored (rFWD_TBL_CFG n.val) val.toNat ∧
        s.OnlyChanges t [rFWD_TBL_CFG n.val] { s.dev with fwd := t.dev.fwd }) ∧
    (s.dev.tblRefused n.val val.toNat (s.dev.rdN (rFWD_TBL_SELECT_LO n.val)) (s.dev.rdN (rFWD_TBL_SELECT_HI n.val)) = true →
      ∃ t, exec (.fwdTblWrite n 0 val) s = .next t ∧ t.dev.bit rFWD_ERR fFWD_ERR_CFG_BUSY = true ∧
        s.OnlyChanges t [rFWD_ERR] s.dev)) ∧
  (∀ s (val : Word), s.Runs →
    ((∀ n < 16, s.dev.tblExact n = true → s.dev.get (rFWD_TBL_USED n) fFWD_TBL_USED_USED = 0) →
      ∃ t, exec (.fwdHashSeedWrite val) s = .next t ∧ t.dev.rd rFWD_HASH_SEED = val ∧ s.OnlyChanges t [rFWD_HASH_SEED] s.dev) ∧
    (∀ n < 16, s.dev.tblExact n = true → s.dev.get (rFWD_TBL_USED n) fFWD_TBL_USED_USED ≠ 0 →
      ∃ t, exec (.fwdHashSeedWrite val) s = .next t ∧ t.dev.bit rFWD_ERR fFWD_ERR_CFG_BUSY = true ∧ s.OnlyChanges t [rFWD_ERR] s.dev)) ∧
  (∀ s, s.Runs → s.dev.fwdReady = false → ∃ t, exec .fwdReady s = .next t ∧ t.dev.fwd = {} ∧ t.dev.fwdReady = true)

/-- Handing banks over (13_stacks_pantry.md R384-R386, R403). -/
def Obligations.BanksChangeHands : Prop :=
  (∀ s (b : Fin 64), s.Runs → s.dev.pan.job = none → s.dev.marchOn b.val = false →
    (s.dev.bankRefused 0 b.val 0 = 0 → s.dev.bankOwner b.val ≠ ownPantry →
      ∃ t, exec (.bankRelease b false) s = .next t ∧ t.dev.bankState b.val = bkFree ∧ t.dev.pan = s.dev.pan ∧
        t.dev.bit (rSTK_BANK b.val) fSTK_BANK_DIRTY = true ∧ t.dev.get (rSTK_BANK b.val) fSTK_BANK_LAST_OWNER = s.dev.bankOwner b.val ∧
        t.dev.get rSTK_CMD fSTK_CMD_RESULT = 0 ∧ t.dev.bit rSTK_CMD fSTK_CMD_BUSY = false) ∧
    (s.dev.bankRefused 0 b.val 0 ≠ 0 →
      ∃ t, exec (.bankRelease b false) s = .next t ∧ t.dev.bit rSTK_ERR fSTK_ERR_CMD_REFUSED = true ∧
        t.dev.get rSTK_CMD fSTK_CMD_RESULT = s.dev.bankRefused 0 b.val 0 ∧ s.OnlyChanges t [rSTK_CMD, rSTK_ERR] s.dev) ∧
    (∀ o : Fin 8, ∀ p, s.dev.bankRefused 1 b.val o.val = 0 → s.dev.bit (rSTK_BANK b.val) fSTK_BANK_DIRTY = false →
      ∃ t, exec (.bankAssign b o p) s = .next t ∧ t.dev.bankState b.val = bkJoining ∧ t.dev.bankOwner b.val = o.val ∧
        t.dev.bit rSTK_CMD fSTK_CMD_BUSY = true ∧ (∃ j, t.dev.pan.job = some j ∧ j.bank = b.val ∧ j.owner = o.val ∧ j.joinTick ≠ none)) ∧
    (∀ o : Fin 8, ∀ p scrub, s.dev.bankRefused 2 b.val o.val = 0 → s.dev.bankOwner b.val = ownPantry →
      ∃ t, exec (.bankReleaseAssign b scrub o p) s = .next t ∧ t.dev.bankState b.val = bkDraining ∧
        t.dev.pan.job = some ⟨b.val, 2, scrub, o.val, p.val, s.dev.drainTicks, s.dev.tickNow, none, none⟩)) ∧
  (∀ s j, s.Runs → s.dev.pan.job = some j → j.action = 0 → j.scrub = false → j.mbx = none → j.bank < 40 →
    (s.dev.bankState j.bank = bkDraining →
      (s.dev.bankUsed j.bank = 0 → ∃ t, exec .bankDrained s = .next t ∧ t.dev.bankState j.bank = bkFree ∧
        t.dev.pan = { s.dev.pan with job := none } ∧ t.dev.get rSTK_CMD fSTK_CMD_RESULT = 0) ∧
      (s.dev.bankUsed j.bank ≠ 0 → j.drain ≤ s.dev.tickNow - j.startTick → ∃ t, exec .bankDrainFail s = .next t ∧
        t.dev.bankState j.bank = bkOwned ∧ t.dev.bit rSTK_ERR fSTK_ERR_DRAIN_FAIL = true ∧
        t.dev.pan = { s.dev.pan with job := none } ∧ t.dev.get rSTK_CMD fSTK_CMD_RESULT = 3)) ∧
    (s.dev.bankState j.bank = bkScrubbing →
      (∃ t, exec (.bankScrubDone none) s = .next t ∧ t.dev.bankState j.bank = bkFree ∧
        t.dev.bit (rSTK_BANK j.bank) fSTK_BANK_DIRTY = false ∧ t.dev.pan = { s.dev.pan with job := none }) ∧
      (∀ a, ∃ t, exec (.bankScrubDone (some a)) s = .next t ∧ t.dev.bankState j.bank = bkFaulty ∧
        t.dev.bit rSTK_ERR fSTK_ERR_SCRUB_FAULT = true ∧ t.dev.get rSTK_CMD fSTK_CMD_RESULT = 4))) ∧
  (∀ s m c, s.Ready m 0x0D01 c → c.isOwner = true → c.u8 1 = 1 → c.u8 2 < 8 → c.u8 3 < 4 → c.u8 4 = 0 → c.zero 5 3 = true →
    c.endsAt 8 = true →
    (s.dev.pan.job = none → s.dev.marchOn (c.u8 0) = false → s.dev.bankRefused 1 (c.u8 0) (c.u8 2) = 0 →
      s.dev.bit (rSTK_BANK (c.u8 0)) fSTK_BANK_DIRTY = false →
      ∃ t, exec (.stacksAssign m) s = .next t ∧ t.dev.bankState (c.u8 0) = bkJoining ∧
        (∀ x ∈ t.dev.glk.cmds, x.mbx = m.val → x.started = true) ∧ ∃ j, t.dev.pan.job = some j ∧ j.mbx = some m.val) ∧
    (s.dev.pan.job ≠ none → ∃ t, exec (.stacksAssign m) s = .next t ∧ t.Done m resBusy [] ∧ t.dev.pan = s.dev.pan))

/-- The lock (13_stacks_pantry.md R383), rebuilt lists (R391), reserves (R393, R404), status (R405) and readiness (R399). -/
def Obligations.ThePantryIsReservedAndShown : Prop :=
  (∀ s (val : Word), s.Runs → s.dev.stkLocked = false →
    ((∀ o ∈ [2, 3, 4, 5], s.dev.heldBanks o = needBanks o) → ∃ t, exec (.stkLock val) s = .next t ∧
      t.dev.rdN rSTK_CTRL = s.dev.stored rSTK_CTRL (Nat.lor val.toNat (2 ^ 31)) ∧ t.dev.stkLocked = true ∧ s.OnlyChanges t [rSTK_CTRL] s.dev) ∧
    (∀ o ∈ [2, 3, 4, 5], s.dev.heldBanks o ≠ needBanks o → ∃ t, exec (.stkLock val) s = .next t ∧
      t.dev.bit rSTK_ERR fSTK_ERR_MAP_BAD = true ∧ s.OnlyChanges t [rSTK_ERR] s.dev)) ∧
  (∀ s (b : Fin 40), s.Runs → (s.dev.bankX b.val).off = true → ∃ t, exec (.listRebuilt b) s = .next t ∧
    t.dev.bankX b.val = (s.dev.bankX b.val).rebuilt) ∧
  (∀ s (ten : Bool) (i : Fin 98) (val : Word), s.Runs → panHas ten i.val = true →
    (∃ t, exec (.panReserveWrite ten i 1 val) s = .next t ∧
      t.dev.rdN (panEntry ten i.val + 4) = s.dev.stored (panEntry ten i.val + 4) val.toNat ∧
      s.OnlyChanges t [panEntry ten i.val + 4] s.dev) ∧
    (s.dev.minOk (panEntry ten i.val) (panEntry ten i.val + 8) (val.toNat % 2 ^ 28) = true →
      ∃ t, exec (.panReserveWrite ten i 0 val) s = .next t ∧
        t.dev.rdN (panEntry ten i.val) = s.dev.stored (panEntry ten i.val) val.toNat) ∧
    (s.dev.minOk (panEntry ten i.val) (panEntry ten i.val + 8) (val.toNat % 2 ^ 28) = false →
      ∃ t, exec (.panReserveWrite ten i 0 val) s = .next t ∧ t.dev.bit rPAN_ERR fPAN_ERR_MIN_CFG = true ∧
        s.OnlyChanges t [rPAN_ERR] s.dev)) ∧
  (∀ s m c, s.Ready m 0x0D02 c → c.u8 0 < 2 → panHas (c.u8 0 == 1) (c.u8 1) = true → c.u8 2 = 1 → c.zero 3 1 = true →
    c.endsAt 0x0C = true → (c.isOwner = true ∨ (c.u8 0 = 1 ∧ c.caller = some (c.u8 1))) →
    ∃ t, exec (.stacksReserve m) s = .next t ∧ s.OnlyAnswers t m ∧
      t.Done m 0 ((List.range 4).flatMap (fun k => leB 4 (s.dev.rdN (panEntry (c.u8 0 == 1) (c.u8 1) + 4 * k))) ++
        leB 4 (s.dev.rdN rPAN_SHARED_SIZE) ++ leB 4 (s.dev.rdN rPAN_SHARED_USED))) ∧
  (∀ s m c, s.Ready m 0x0D03 c → c.isOwner = true → c.endsAt 0 = true → ∃ t, exec (.stacksStatus m) s = .next t ∧ s.OnlyAnswers t m ∧
    t.Done m 0 (allBanks.flatMap (fun b => leB 4 (s.dev.rdN (rSTK_BANK b))) ++
      (List.range 4).flatMap (fun p => leB 4 (s.dev.rdN (rPAN_POOL_FREE p)) ++ leB 4 (s.dev.rdN (rPAN_POOL_TOTAL p))) ++
      leB 4 (s.dev.rdN rPAN_TOTAL))) ∧
  (∀ s, s.Runs → s.dev.bit rPAN_STATUS fPAN_STATUS_READY = false → ∃ t, exec .pantryReady s = .next t ∧
    t.dev.bit rPAN_STATUS fPAN_STATUS_READY = true)

/-- The DRAM controllers (14_dram.md R413-R424). -/
def Obligations.DramServesItsPorts : Prop :=
  (∀ s (ns : Fin 125000) (c : Fin 16) (r : DramReq) ready, s.Runs → s.dev.dramReady = true → s.dev.cipherOff = false →
    c.val = s.dev.dramChan r.addr → s.dev.dramIsDown c.val = false → r.addr < s.dev.dramSize → s.dev.dram.reqs = [] →
    s.dev.dram.waits = [] → s.dev.dram.rows = [] → ready.getLsbD (localBank (s.dev.dramLocal r.addr)) = true →
    (r.data = none → ∃ t, exec (.dramAccessDone c ns [r] ready 0) s = .next t ∧ t.dev.dram.reqs = [] ∧
      s.Counts t (rDRAM_CH_CNT c.val 0) 1 ∧
      ⟨.dram, r.port.val, [c.val, r.addr, 0, 0], s.dev.unitAt (unitOf r.addr)⟩ ∈ t.dev.out) ∧
    (∀ bs, r.data = some bs → r.addr % 64 = 0 → bs.length = 64 → (s.dev.unitAt (unitOf r.addr)).length = 64 →
      ∃ t, exec (.dramAccessDone c ns [r] ready 0) s = .next t ∧ t.dev.dram.reqs = [] ∧ t.dev.unitAt (unitOf r.addr) = bs ∧
        s.Counts t (rDRAM_CH_CNT c.val 1) 1)) ∧
  (∀ s (c : Fin 16) (b : Fin 32), s.Runs → ∃ t, exec (.refresh c b) s = .next t ∧
    (∀ x ∈ t.dev.dram.rows, x.1 ≠ 32 * c.val + b.val) ∧ s.OnlyChanges t [] { s.dev with dram := { s.dev.dram with rows := t.dev.dram.rows } }) ∧
  (∀ s (c : Fin 16) (code : Fin 256), s.Runs → s.dev.dramOn c.val = true → nbit s.dev.dram.hot c.val = false →
    (∃ t, exec (.refreshRateRead c code false) s = .next t ∧
      t.dev.get (rDRAM_CH_STATUS c.val) fDRAM_CH_STATUS_REFRESH_CODE = code.val ∧
      s.OnlyChanges t [rDRAM_CH_STATUS c.val] s.dev) ∧
    (∃ t, exec (.refreshRateRead c code true) s = .next t ∧ t.dev.bit rDRAM_ERR fDRAM_ERR_HOT = true ∧
      t.dev.dram.hot = s.dev.dram.hot + 2 ^ c.val)) ∧
  (∀ s (c : Fin 16), s.Runs → s.dev.dramOn c.val = true →
    (s.dev.dram.retrainTick ≠ some s.dev.tickNow → ∃ t, exec (.readStrobeCheck c true) s = .next t ∧
      t.dev.dram.retrainTick = some s.dev.tickNow ∧ s.Counts t (rDRAM_CH_CNT c.val 5) 1) ∧
    (∃ t, exec (.readStrobeCheck c false) s = .next t ∧ s.OnlyChanges t [] s.dev)) ∧
  (∀ s raced, s.Runs → s.dev.bit rDRAM_CTRL fDRAM_CTRL_SCRUB_EN = true → s.dev.dramReady = true → s.dev.cipherOff = false →
    s.dev.dramIsDown (s.dev.dramChan s.dev.dram.scrubAt) = false →
    ∃ t, exec (.scrubRead 0 raced) s = .next t ∧ t.dev.dram = { s.dev.dram with scrubAt := (s.dev.dram.scrubAt + 64) % s.dev.dramSize } ∧
      s.Counts t (rDRAM_CH_CNT (s.dev.dramChan s.dev.dram.scrubAt) 0) 1) ∧
  (∀ s, s.Runs → s.dev.bit rDRAM_STATUS fDRAM_STATUS_INIT_BUSY = true → s.dev.dram.waits = [] →
    ∃ t, exec (.dramInitDone []) s = .next t ∧ t.dev.dramReady = true ∧ t.dev.bit rDRAM_STATUS fDRAM_STATUS_INIT_BUSY = false ∧
      (∀ c < s.dev.dramN, t.dev.bit (rDRAM_CH_STATUS c) fDRAM_CH_STATUS_TRAINED = true) ∧ t.dev.dram.scrubAt = 0)

/-- DRAM_CTRL (14_dram.md R408), the Stockpot (R410, R426-R429) and the commands (R435, R436). -/
def Obligations.TheStockpotSpillsAndFetches : Prop :=
  (∀ s (val : Word), s.Runs → s.dev.part = .c →
    (s.dev.dramCtrlBusy val.toNat = false → ∃ t, exec (.dramCtrlWrite val) s = .next t ∧
      t.dev.rdN rDRAM_CTRL = s.dev.stored rDRAM_CTRL val.toNat ∧ s.OnlyChanges t [rDRAM_CTRL] s.dev) ∧
    (s.dev.dramCtrlBusy val.toNat = true → ∃ t, exec (.dramCtrlWrite val) s = .next t ∧
      t.dev.bit rDRAM_ERR fDRAM_ERR_CFG_BUSY = true ∧ t.dev.get rDRAM_CTRL fDRAM_CTRL_RATE = s.dev.get rDRAM_CTRL fDRAM_CTRL_RATE ∧
      t.dev.get rDRAM_CTRL fDRAM_CTRL_CAP = s.dev.get rDRAM_CTRL fDRAM_CTRL_CAP ∧ s.OnlyChanges t [rDRAM_CTRL, rDRAM_ERR] s.dev)) ∧
  (∀ s (val : Word), s.Runs →
    (s.dev.spHeld = true → ∀ w, ∃ t, exec (.spRegionWrite w val) s = .next t ∧ s.OnlyChanges t [] s.dev) ∧
    (s.dev.spHeld = false → s.dev.spBad s.dev.spBase (val.toNat % 2 ^ 17) = false →
      ∃ t, exec (.spRegionWrite 2 val) s = .next t ∧ t.dev.rdN rSP_SIZE = val.toNat % 2 ^ 17 ∧ s.OnlyChanges t [rSP_SIZE] s.dev) ∧
    (s.dev.spHeld = false → s.dev.spBad s.dev.spBase (val.toNat % 2 ^ 17) = true →
      ∃ t, exec (.spRegionWrite 2 val) s = .next t ∧ t.dev.bit rSP_ERR fSP_ERR_CFG_BAD = true ∧ s.OnlyChanges t [rSP_ERR] s.dev)) ∧
  (∀ s (q : Fin 262144) h hs, s.Runs → s.dev.dramReady = true → s.dev.cipherOff = false → s.dev.chQ q.val = h :: hs → h.buf = none →
    (h.written = false → ∃ t, exec (.spillWriteDone false q) s = .next t ∧ t.dev.chQ q.val = { h with written := true } :: hs ∧
      t.dev.dram = { s.dev.dram with backlog := s.dev.dram.backlog - 64 * h.units }) ∧
    (h.written = true → bufferedBytes (h :: hs) < s.dev.rdN rSP_PREFETCH →
      (∃ t, exec (.stockpotFetch false q true) s = .next t ∧ t.dev.chQ q.val = hs ∧ s.Counts t (rSP_CNT 7) 1) ∧
      (∀ pool x charge b i d', s.dev.choosePool h.pkt.bytes.length = some pool →
        s.dev.admitStep h.ent h.ten (poolSize pool) h.pkt.yellow h.mirror = (x, some charge) →
        s.start.takePool pool = (some (b, i), d') →
        ∃ t, exec (.stockpotFetch false q false) s = .next t ∧ s.Counts t (rSP_CNT 1) 1 ∧
          t.dev.chQ q.val = { h with buf := some ⟨pool, b, i, poolSize pool, charge, h.ent, h.ten⟩, fetched := true, page := 0, units := 0 } :: hs))) ∧
  (∀ s m c, s.Ready m 0x0C02 c → c.isOwner = true → s.dev.dramOk (c.u8 0) = true → c.u8 1 = 0 → c.endsAt 2 = true →
    ∃ t, exec (.diagDram m) s = .next t ∧ s.OnlyAnswers t m ∧
      t.Done m 0 (leB 4 (s.dev.rdN rDRAM_STATUS) ++ leB 4 (s.dev.rdN (rDRAM_CH_STATUS (c.u8 0))) ++
        leB 4 (s.dev.rdN (rDRAM_CH_UE_LO (c.u8 0))) ++ leB 4 (s.dev.rdN (rDRAM_CH_UE_HI (c.u8 0))) ++
        (List.range 8).flatMap (fun i => leB 4 (s.dev.rdN (rDRAM_CH_CNT (c.u8 0) i))))) ∧
  (∀ s m c, s.Ready m 0x0D04 c → c.isOwner = true → c.u8 0 = 2 → c.zero 1 3 = true → c.endsAt 0x1C = true →
    ∃ t, exec (.stacksSpill m) s = .next t ∧ s.OnlyAnswers t m ∧
      t.Done m 0 (leB 4 (s.dev.rdN rSP_STATUS) ++ leB 4 (s.dev.rdN rSP_PAGES_FREE) ++
        (List.range 8).flatMap (fun i => leB 4 (s.dev.rdN (rSP_CNT i)))))

/-- Uplink ports (15_uplinks.md R438-R454). -/
def Obligations.UplinkPortsComeUpAndCarryFrames : Prop :=
  (∀ s (u : Fin 48) (val : Word), s.Runs →
    (s.dev.uplFirst u.val ≠ u.val → ∃ t, exec (.uplPortCtrlWrite u val) s = .next t ∧ s.OnlyChanges t [] s.dev) ∧
    (s.dev.uplFirst u.val = u.val → s.dev.uplRefused u.val val.toNat = true →
      ∃ t, exec (.uplPortCtrlWrite u val) s = .next t ∧ t.dev.bit (rUPL_ERR u.val) fUPL_ERR_CFG_BAD = true ∧
        s.OnlyChanges t [rUPL_ERR u.val] s.dev) ∧
    (s.dev.uplFirst u.val = u.val → s.dev.uplRefused u.val val.toNat = false → s.dev.uplMembers u.val = [u.val] →
      fieldOf val.toNat fUPL_PORT_CTRL_LANES = 0 → s.dev.bit (rUPL_PORT_CTRL u.val) fUPL_PORT_CTRL_EN = false → nbit val.toNat 0 = false →
      ∃ t, exec (.uplPortCtrlWrite u val) s = .next t ∧
        t.dev.rdN (rUPL_PORT_CTRL u.val) = s.dev.stored (rUPL_PORT_CTRL u.val) val.toNat)) ∧
  (∀ s (u : Fin 48), s.Runs → s.dev.uplFirst u.val = u.val → s.dev.uplMembers u.val = [u.val] →
    (s.dev.bit (rUPL_PORT_CTRL u.val) fUPL_PORT_CTRL_EN = false → s.dev.trainState (uplLaneId u.val) = tsOff →
      s.dev.uplRefused u.val (fieldPut (s.dev.rdN (rUPL_PORT_CTRL u.val)) fUPL_PORT_CTRL_EN 1) = false →
      ∃ t, exec (.uplinkEnable u) s = .next t ∧ t.dev.bit (rUPL_PORT_CTRL u.val) fUPL_PORT_CTRL_EN = true ∧
        t.dev.bit (rUPL_PORT_STATUS u.val) fUPL_PORT_STATUS_TRAINING = true ∧ t.dev.trainState (uplLaneId u.val) = tsDetect) ∧
    (s.dev.bit (rUPL_PORT_CTRL u.val) fUPL_PORT_CTRL_EN = true →
      s.dev.uplRefused u.val (fieldPut (s.dev.rdN (rUPL_PORT_CTRL u.val)) fUPL_PORT_CTRL_EN 0) = false →
      ∃ t, exec (.uplinkDisable u) s = .next t ∧ t.dev.bit (rUPL_PORT_CTRL u.val) fUPL_PORT_CTRL_EN = false ∧
        t.dev.linkUp u.val = false ∧ ∀ p < 8, t.dev.upQ (uplKey u.val p) = []) ∧
    (s.dev.bit (rUPL_PORT_CTRL u.val) fUPL_PORT_CTRL_EN = true → s.dev.linkUp u.val = false →
      s.dev.trainState (uplLaneId u.val) = tsData →
      ∃ t, exec (.uplinkUp u) s = .next t ∧ t.dev.linkUp u.val = true ∧ t.dev.bit (rUPL_PORT_STATUS u.val) fUPL_PORT_STATUS_TRAINING = false ∧
        t.dev.bit (rUPL_PORT_STATUS u.val) fUPL_PORT_STATUS_ALIGNED = true) ∧
    (s.dev.bit (rUPL_PORT_CTRL u.val) fUPL_PORT_CTRL_EN = true → s.dev.linkUp u.val = true →
      ∃ t, exec (.uplinkDown u) s = .next t ∧ t.dev.linkUp u.val = false ∧ t.dev.bit (rUPL_ERR u.val) fUPL_ERR_LINK_DOWN = true ∧
        ∀ p < 8, t.dev.upQ (uplKey u.val p) = [])) ∧
  (∀ s (u : Fin 48) ns frac f, s.Runs → s.dev.uplPort u.val = true → s.dev.linkUp u.val = true →
    (∃ t, exec (.uplinkFrameRx u ns frac f false none) s = .next t ∧ s.Counts t (rUPL_CNT u.val 2) 1) ∧
    (60 ≤ f.length → f.length + 4 ≤ s.dev.get (rUPL_PORT_CTRL u.val) fUPL_PORT_CTRL_MAX_FRAME → beAt f 12 2 ≠ 0x8808 →
      s.dev.bit (rUPL_PORT_CTRL u.val) fUPL_PORT_CTRL_MACSEC_EN = false → s.dev.bit (rUPL_PORT_CTRL u.val) fUPL_PORT_CTRL_PTP_EN = false →
      s.dev.noticeAt f = none → s.dev.tunnelOf u.val f = none →
      ∃ t, exec (.uplinkFrameRx u ns frac f true none) s = .next t ∧ s.Counts t (rUPL_CNT u.val 0) 1 ∧
        t.dev.col.queue = s.dev.col.queue ++
          [⟨⟨withFcs (takeRtag f).1, 0x1F, 64 + u.val, none, 0, false, (takeRtag f).2, 0, []⟩, s.dev.curSlot, 0, false, 0⟩])) ∧
  (∀ s (u : Fin 48) ns frac pins p h b, s.Runs → s.dev.linkUp u.val = true → s.dev.zeroised = false →
    s.dev.gateEn (.upl u) = false → p < 8 → s.dev.upQ (uplKey u.val p) = [h] → h.buf = some b →
    (∀ q < 8, q ≠ p → s.dev.upQ (uplKey u.val q) = []) → s.dev.uplProtects u.val h = false →
    s.dev.bit (rUPL_PORT_CTRL u.val) fUPL_PORT_CTRL_PTP_EN = false → s.dev.bit rPIN_STATUS fPIN_STATUS_THERM_TRIP = false →
    ∃ t, exec (.uplinkFrameTx u ns frac pins 0) s = .next t ∧ t.dev.upQ (uplKey u.val p) = [] ∧ s.Counts t (rUPL_CNT u.val 1) 1 ∧
      ⟨.uplink, u.val, [p, 0], withFcs ((s.dev.uplFrame u.val h).take ((s.dev.uplFrame u.val h).length - 4))⟩ ∈ t.dev.out) ∧
  (∀ s (u : Fin 48), s.Runs →
    (s.dev.tsQ u.val = [] → ∃ t, exec (.uplTsPop u) s = .next t ∧ nbit (t.dev.rdN (rUPL_TS_DATA u.val 0)) 31 = false ∧
      s.OnlyChanges t [rUPL_TS_DATA u.val 0] s.dev) ∧
    (∀ e q, s.dev.tsQ u.val = e :: q → e.ns < 2 ^ 32 → ∃ t, exec (.uplTsPop u) s = .next t ∧ t.dev.tsQ u.val = q ∧
      t.dev.rdN (rUPL_TS_DATA u.val 1) = e.ns ∧ t.dev.rdN (rUPL_TS_DATA u.val 2) = e.sec % 2 ^ 32)) ∧
  (∀ s m c, s.Ready m 0x0C03 c → c.isOwner = true → c.u8 0 < 48 → c.u8 1 = 0 → c.u8 2 = 0 → c.zero 3 1 = true → c.endsAt 8 = true →
    s.dev.uplFirst (c.u8 0) = c.u8 0 → ∃ t, exec (.diagUplink m) s = .next t ∧ s.OnlyAnswers t m ∧
      t.Done m 0 (leB 4 (s.dev.rdN (rUPL_PORT_STATUS (c.u8 0))) ++ leB 4 (s.dev.rdN (rUPL_ERR (c.u8 0))) ++
        (List.range 8).flatMap (fun i => leB 4 (s.dev.rdN (rUPL_CNT (c.u8 0) i)))))

/-- Bundles (16_fabric.md R456, R457, R460, R461) and their reports (R485, R488). -/
def Obligations.BundlesComeUpAndReport : Prop :=
  (∀ s (b : Fin 48) (val : Word), s.Runs → s.dev.firstLane b.val = true →
    (s.dev.bndRefused b.val val.toNat = true → ∃ t, exec (.fabBndCtrlWrite b val) s = .next t ∧
      t.dev.bit (rFAB_ERR b.val) fFAB_ERR_CFG_BAD = true ∧ t.dev.rd (rFAB_BND_CTRL b.val) = s.dev.rd (rFAB_BND_CTRL b.val)) ∧
    (s.dev.bndRefused b.val val.toNat = false → nbit val.toNat 0 = s.dev.bndEn b.val → ∃ t, exec (.fabBndCtrlWrite b val) s = .next t ∧
      t.dev.rdN (rFAB_BND_CTRL b.val) = s.dev.stored (rFAB_BND_CTRL b.val) val.toNat) ∧
    (s.dev.bndEn b.val = false → s.dev.bndRefused b.val (fieldPut (s.dev.rdN (rFAB_BND_CTRL b.val)) fFAB_BND_CTRL_EN 1) = false →
      ∃ t, exec (.bundleEnable b) s = .next t ∧ t.dev.bndEn b.val = true ∧ t.dev.bndState b.val = bsTraining) ∧
    (s.dev.bndEn b.val = true → s.dev.bndRefused b.val (fieldPut (s.dev.rdN (rFAB_BND_CTRL b.val)) fFAB_BND_CTRL_EN 0) = false →
      ∃ t, exec (.bundleDisable b) s = .next t ∧ t.dev.bndEn b.val = false ∧ t.dev.bndState b.val = bsDown ∧
        t.dev.rdN (rFAB_DEFECT b.val) = 0) ∧
    (s.dev.bndEn b.val = true → s.dev.bndState b.val = bsTraining → (∀ f ∈ s.dev.bndMembers b.val, s.dev.trainState (fabLaneId f) = tsData) →
      ∃ t, exec (.bundleLanesTrained b) s = .next t ∧ t.dev.bndState b.val = bsAlign ∧
        ∀ f ∈ s.dev.bndMembers b.val, (t.dev.fabLane f).framesFrom ≠ none)) ∧
  (∀ s (f : Fin 48) ns diff cell, s.Runs →
    (s.dev.bundleOf f.val = none → ∃ t, exec (.fabOverheadCell f ns diff cell 0 0 0) s = .next t ∧ s.OnlyChanges t [] s.dev) ∧
    (∀ b, s.dev.bundleOf f.val = some b → s.dev.trainState (fabLaneId f.val) = tsData →
      (s.dev.sync f.val = 0 → diff = 0 → crc32c ((slice cell 0 252).drop 8) = beAt cell 252 4 →
        ∃ t, exec (.fabOverheadCell f ns diff cell 0 0 0) s = .next t ∧ t.dev.sync f.val = 1) ∧
      (s.dev.sync f.val = 1 → diff ≠ 0 → ∃ t, exec (.fabOverheadCell f ns diff cell 0 0 0) s = .next t ∧ t.dev.sync f.val = 0))) ∧
  (∀ s m c, c.isOwner = true →
    (s.Ready m 0x0A01 c → c.u8 0 < 48 → c.u8 1 = 0 → c.u8 2 = 0 → c.zero 3 1 = true → c.endsAt 8 = true → s.dev.firstLane (c.u8 0) = true →
      ∃ t, exec (.fabBundle m) s = .next t ∧ s.OnlyAnswers t m ∧ t.Done m 0 (s.dev.bundleReport (c.u8 0))) ∧
    (s.Ready m 0x0A04 c → c.endsAt 0 = true → ∃ t, exec (.fabPeers m) s = .next t ∧ s.OnlyAnswers t m ∧
      t.Done m 0 (leB 4 (s.dev.rdN rFAB_STATUS) ++
        ((List.range 48).filterMap (fun b => if s.dev.bndEn b && s.dev.bndState b == bsUp then (s.dev.fabBnd b).hello.map (peerBytes b) else none) ++
         (List.range 16).filterMap (fun b => if s.dev.bit (rFAB_BRIDGE_CTRL b) fFAB_BRIDGE_CTRL_UP then (s.dev.bridgeX b).hello.map (peerBytes (48 + b)) else none)).flatten)))

/-- Packets and slots (16_fabric.md R466-R474), connection memories (R470), routes (R475), registers (R478, R479) and mailbox
commands (R486, R487, R489). -/
def Obligations.TheFabricCarriesAndIsTold : Prop :=
  (∀ s (b : Fin 48) (trib : Fin 64) ns p, s.Runs → s.dev.bndEn b.val = true → s.dev.bndState b.val = bsUp →
    (s.dev.rxTribs b.val).contains (trib.val, true) = true → s.dev.label rFAB_EXP_LABEL b.val trib.val = 1 →
    s.dev.label rFAB_RX_LABEL b.val trib.val = 1 → (s.dev.fabTrib (64 * b.val + trib.val)).ais = false →
    (s.dev.fabTrib (64 * b.val + trib.val)).lab = false → s.dev.defect b.val dfPage = false →
    (fabHeaderOk p = false → ∃ t, exec (.fabPacketRx b trib ns p none) s = .next t ∧ s.Counts t (rFAB_CNT b.val 6) 1) ∧
    (∀ f, fabHeaderOk p = true → f = (p.drop 16).take (beAt p 2 2) → byteAt p 0 = 0x10 → byteAt p 14 = 0 →
      s.dev.bit (rFAB_BND_CTRL b.val) fFAB_BND_CTRL_MACSEC_EN = false → s.dev.smSet = true → beAt p 4 3 % 2 ^ 20 = s.dev.shelfmark →
      s.dev.bit rFAB_STATUS fFAB_STATUS_CONFLICT = false → trib.val ≠ s.dev.get rPROT_CTRL fPROT_CTRL_TRIB → s.dev.noticeAt f = none →
      ∃ t, exec (.fabPacketRx b trib ns p none) s = .next t ∧ s.Counts t (rFAB_CNT b.val 0) 1 ∧
        t.dev.col.queue = s.dev.col.queue ++
          [⟨⟨withFcs f, 0x1F, 128 + b.val, none, 0, false, none, beAt p 7 3 % 2 ^ 20, []⟩, s.dev.curSlot, 0, false, 0⟩])) ∧
  (∀ s (f : Fin 48) (slot : Fin 6000) data ecc b e, s.Runs → s.dev.bundleOf f.val = some b → s.dev.zeroised = false →
    s.dev.framesOn f.val = true → s.dev.bit rPIN_STATUS fPIN_STATUS_THERM_TRIP = false →
    e = s.dev.cmWord (cmKey f.val 0 (s.dev.get (rFAB_BND_STATUS b) fFAB_BND_STATUS_TX_PAGE) slot.val) →
    (e / 2 ^ 30 = 0 → ∃ t, exec (.fabricSlotDue f slot data ecc) s = .next t ∧
      t.dev.out = [⟨.fabSlot, f.val, [slot.val, 3], List.replicate 256 0#8⟩]) ∧
    (e / 2 ^ 30 = 1 → s.dev.bit (rFAB_BND_CTRL b) fFAB_BND_CTRL_FORCE_AIS = true →
      ∃ t, exec (.fabricSlotDue f slot data ecc) s = .next t ∧ t.dev.out = [⟨.fabSlot, f.val, [slot.val, 2], List.replicate 256 0xFF#8⟩]) ∧
    (e / 2 ^ 30 = 2 → s.dev.bit (rFAB_BND_CTRL b) fFAB_BND_CTRL_FORCE_AIS = false → s.dev.transitAis (nbits e 21 16) (nbits e 12 0) = false →
      s.dev.tsiUsable (s.dev.bndOr (nbits e 21 16)) = true →
      ∃ t, exec (.fabricSlotDue f slot data ecc) s = .next t ∧ t.dev.out = [⟨.fabSlot, f.val, [slot.val, 1], padTo 256 data⟩])) ∧
  (∀ s (lane : Fin 64) (dir page : Fin 2) (slot : Fin 8192), s.Runs → lane.val < 48 → slot.val < fabSlots →
    (∃ t, exec (.fabCmRead lane dir page slot) s = .next t ∧ t.dev.get rFAB_CM_CMD fFAB_CM_CMD_RESULT = 0 ∧
      t.dev.rdN rFAB_CM_DATA = s.dev.cmWord (cmKey lane.val dir.val page.val slot.val) % 2 ^ 32 ∧
      s.OnlyChanges t [rFAB_CM_CMD, rFAB_CM_DATA] s.dev) ∧
    (s.dev.pageUsed lane.val dir.val page.val = false →
      (∃ t, exec (.fabCmWrite lane dir page slot) s = .next t ∧ t.dev.get rFAB_CM_CMD fFAB_CM_CMD_RESULT = 0 ∧
        t.dev.cmWord (cmKey lane.val dir.val page.val slot.val) = Nat.land (s.dev.rdN rFAB_CM_DATA) (cmMask dir.val)) ∧
      (∃ t, exec (.fabCmMark lane dir page) s = .next t ∧ t.dev.get rFAB_CM_CMD fFAB_CM_CMD_RESULT = 0 ∧
        t.dev.bit (rFAB_LANE_STATUS lane.val) (markFld dir.val page.val) = true)) ∧
    (s.dev.pageUsed lane.val dir.val page.val = true →
      ∃ t, exec (.fabCmWrite lane dir page slot) s = .next t ∧ t.dev.get rFAB_CM_CMD fFAB_CM_CMD_RESULT = 1 ∧
        s.OnlyChanges t [rFAB_CM_CMD] s.dev)) ∧
  (∀ s (table : Fin 2) (i : Fin 4096) k, s.Runs → routeKey table.val i.val = some k →
    (∃ t, exec (.fabTblRead table i) s = .next t ∧ ∀ w < 4, t.dev.rdN (rFAB_TBL_DATA w) = (s.dev.routeOf k).getD w 0 % 2 ^ 32) ∧
    (∃ t, exec (.fabTblWrite table i) s = .next t ∧
      t.dev.routeOf k = (List.range 4).map (fun w => Nat.land (s.dev.rdN (rFAB_TBL_DATA w)) (routeMask w)))) ∧
  (∀ s (val : Word), s.Runs →
    (s.dev.fabBusy = true → ∃ t, exec (.fabShelfmarkWrite val) s = .next t ∧ t.dev.bit rFAB_GERR fFAB_GERR_CFG_BUSY = true ∧
      s.OnlyChanges t [rFAB_GERR] s.dev) ∧
    (s.dev.fabBusy = false → ∃ t, exec (.fabShelfmarkWrite val) s = .next t ∧ t.dev.bit rFAB_STATUS fFAB_STATUS_CONFLICT = false ∧
      t.dev.rdN rFAB_SHELFMARK = s.dev.stored rFAB_SHELFMARK val.toNat) ∧
    (fieldOf val.toNat fFAB_CTRL_VER_MIN ≤ 1 → 1 ≤ fieldOf val.toNat fFAB_CTRL_VER_MAX → ∃ t, exec (.fabCtrlWrite val) s = .next t ∧
      t.dev.rdN rFAB_CTRL = s.dev.stored rFAB_CTRL val.toNat) ∧
    (1 < fieldOf val.toNat fFAB_CTRL_VER_MIN ∨ fieldOf val.toNat fFAB_CTRL_VER_MAX = 0 → ∃ t, exec (.fabCtrlWrite val) s = .next t ∧
      t.dev.bit rFAB_GERR fFAB_GERR_CFG_BAD = true ∧ s.OnlyChanges t [rFAB_GERR] s.dev)) ∧
  (∀ s m c, c.isOwner = true →
    (∀ k, s.Ready m 0x0A02 c → c.u8 0 < 2 → routeKey (c.u8 0) (c.u16 2) = some k → c.endsAt 0x14 = true →
      (c.u8 1 = 0 → ∃ t, exec (.fabRoute m) s = .next t ∧ s.OnlyAnswers t m ∧ t.Done m 0 ((s.dev.routeOf k).flatMap (leB 4))) ∧
      (c.u8 1 = 1 → (∀ i < 4, c.u32 (4 + 4 * i) = 0) → ∃ t, exec (.fabRoute m) s = .next t ∧
        t.dev.routeOf k = [0, 0, 0, 0] ∧ t.Done m 0 (leB 16 0))) ∧
    (s.Ready m 0x0A03 c → c.u8 0 < 48 → c.u8 1 < 2 → c.u8 2 < 2 → c.u8 3 = 1 → c.zero 6 2 = true → c.u16 4 < fabSlots → c.endsAt 12 = true →
      cmEntryOk (c.u8 1) (c.u32 8) = true → s.dev.pageUsed (c.u8 0) (c.u8 1) (c.u8 2) = false →
      ∃ t, exec (.fabConnect m) s = .next t ∧ t.Done m 0 [] ∧
        t.dev.cmWord (cmKey (c.u8 0) (c.u8 1) (c.u8 2) (c.u16 4)) = c.u32 8) ∧
    (s.Ready m 0x0A05 c → c.u8 0 < 16 → c.zero 1 3 = true → c.endsAt 0x10 = true →
      (∀ w < 3, badValue (rFAB_BRIDGE_MAC_LO (c.u8 0) + 4 * w) (c.u32 (4 + 4 * w)) = false) → c.u32 0xC % 64 < 48 →
      s.dev.bit (rUPL_PORT_CTRL (c.u32 0xC % 64)) fUPL_PORT_CTRL_EN = true → s.dev.uplFirst (c.u32 0xC % 64) = c.u32 0xC % 64 →
      ∃ t, exec (.fabBridge m) s = .next t ∧
        t.dev.rdN (rFAB_BRIDGE_MAC_LO (c.u8 0)) = s.dev.stored (rFAB_BRIDGE_MAC_LO (c.u8 0)) (c.u32 4) ∧
        t.Done m 0 ((List.range 3).flatMap (fun w => leB 4 (t.dev.rdN (rFAB_BRIDGE_MAC_LO (c.u8 0) + 4 * w))))))

/-- Bridges (16_fabric.md R477) and disagreement (R481). -/
def Obligations.BridgesAndDisagreement : Prop :=
  (∀ s (b : Fin 16), s.Runs →
    (s.dev.bridgeOk b.val = false → ∃ t, exec (.bridgeHelloSend b) s = .next t ∧ s.OnlyChanges t [] s.dev) ∧
    (s.dev.bridgeOk b.val = true → s.dev.zeroised = false →
      (s.dev.linkUp (s.dev.bridgePort b.val) = false → ∃ t, exec (.bridgeHelloSend b) s = .next t ∧
        s.Counts t (rUPL_CNT (s.dev.bridgePort b.val) 4) 1 ∧ s.OnlyChanges t [rUPL_CNT (s.dev.bridgePort b.val) 4] s.dev) ∧
      (∀ c body f buf d', s.dev.linkUp (s.dev.bridgePort b.val) = true → (s.dev.bridgeX b.val).hello = none →
        c = s.dev.helloCell (List.replicate 12 0#8) (List.replicate 64 0#8) → body = slice c 12 34 ++ slice c 68 64 →
        f = s.dev.tunnelFrame b.val (fabHeader 3 7 false s.dev.initHops body.length 0 s.dev.shelfmark 0 none ++ body) →
        s.start.store [] none entFabric (chargeTenant 0x1F) f.length 7 false false = (some (some buf, 0, 0), d') →
        ∃ t e, exec (.bridgeHelloSend b) s = .next t ∧ e.pkt.bytes = f ∧ e.buf = some buf ∧
          t.dev.upQ (8 * s.dev.bridgePort b.val + 7) = s.dev.upQ (8 * s.dev.bridgePort b.val + 7) ++ [e]))) ∧
  (∀ s (b : Fin 16), s.Runs → s.dev.bit (rFAB_BRIDGE_CTRL b.val) fFAB_BRIDGE_CTRL_UP = true →
    (s.dev.bridgeX b.val).lastTick + 64 ≤ s.dev.tickNow → ∃ t, exec (.bridgeTimeout b) s = .next t ∧
      t.dev.bit (rFAB_BRIDGE_CTRL b.val) fFAB_BRIDGE_CTRL_UP = false) ∧
  (∀ s, s.Runs →
    (s.dev.fab.dupTick + 8000 ≤ s.dev.tickNow → ∃ t, exec .conflictClear s = .next t ∧
      t.dev.bit rFAB_STATUS fFAB_STATUS_CONFLICT = false ∧ s.OnlyChanges t [rFAB_STATUS] s.dev) ∧
    (s.dev.tickNow < s.dev.fab.dupTick + 8000 → ∃ t, exec .conflictClear s = .next t ∧ s.OnlyChanges t [] s.dev)) ∧
  (∀ s (b : Fin 48) df miss, s.Runs →
    (s.dev.bit rFAB_CTRL fFAB_CTRL_ED_FOLLOW = false → ∃ t, exec (.editionFollow b df miss [] []) s = .next t ∧ s.OnlyChanges t [] s.dev) ∧
    (∀ h a k e, s.dev.bit rFAB_CTRL fFAB_CTRL_ED_FOLLOW = true → s.dev.higherEdition b.val = some h → s.dev.col.staging = none →
      s.dev.fab.followTick = none → entryReason 1 0 a = 0 →
      (s.start.setStaging (some (Staging.put ⟨[], []⟩ 1 0 a))).commitEdition ⟨df, 0, 1, miss.toNat, h.number, h.digest⟩ = (resOk, k, e) →
      ∃ t, exec (.editionFollow b df miss [] [a]) s = .next t ∧ t.dev.ed k = e.ed k ∧ t.dev.col.staging = none ∧
        t.dev.col.highest = h.number))

/-- Pairs and the messages of the mate (17_protection.md R492-R499, R505, R508). -/
def Obligations.PairsMeetAndExchange : Prop :=
  (∀ s (t : Fin 48) (val : Word), s.Runs → s.dev.treeOk t.val = true →
    (s.dev.pairEn t.val = false →
      (∃ u, exec (.protPairWrite t 1 val) s = .next u ∧ u.dev.rdN (rPROT_PAIR_MATE t.val) = s.dev.stored (rPROT_PAIR_MATE t.val) val.toNat ∧
        s.OnlyChanges u [rPROT_PAIR_MATE t.val] s.dev) ∧
      (nbit val.toNat 31 = false → ∃ u, exec (.protPairWrite t 0 val) s = .next u ∧
        u.dev.rdN (rPROT_PAIR_CFG t.val) = s.dev.stored (rPROT_PAIR_CFG t.val) val.toNat ∧ s.OnlyChanges u [rPROT_PAIR_CFG t.val] s.dev) ∧
      (nbit val.toNat 31 = true → s.dev.pairBad t.val val.toNat (s.dev.rdN (rPROT_PAIR_MATE t.val)) = true →
        ∃ u, exec (.protPairWrite t 0 val) s = .next u ∧ u.dev.bit rPROT_ERR fPROT_ERR_CFG_BUSY = true ∧ s.OnlyChanges u [rPROT_ERR] s.dev) ∧
      (nbit val.toNat 31 = true → s.dev.pairBad t.val val.toNat (s.dev.rdN (rPROT_PAIR_MATE t.val)) = false →
        ∃ u, exec (.protPairWrite t 0 val) s = .next u ∧ u.dev.pairEn t.val = true ∧ u.dev.pairState t.val = prSeeking ∧
          u.dev.pair t.val = {})) ∧
    (s.dev.pairEn t.val = true → val.toNat ≠ s.dev.rdN (rPROT_PAIR_MATE t.val) →
      ∃ u, exec (.protPairWrite t 1 val) s = .next u ∧ u.dev.bit rPROT_ERR fPROT_ERR_CFG_BUSY = true ∧ s.OnlyChanges u [rPROT_ERR] s.dev)) ∧
  (∀ s (t : Fin 48) ns body, s.Runs →
    (byteAt body 0 ≠ 1 ∨ byteAt body 3 ≠ s.dev.mateTree t.val →
      ∃ u, exec (.healthReport t ns body) s = .next u ∧ s.OnlyChanges u [] s.dev) ∧
    (s.dev.treeOk t.val = true → s.dev.pairEn t.val = true → byteAt body 0 = 1 → byteAt body 3 = s.dev.mateTree t.val →
      nbit (byteAt body 2) 0 = false →
      (s.dev.reportAgrees t.val body = true → s.dev.reportEdition body = true → s.dev.pairState t.val = prSeeking →
        ∃ u, exec (.healthReport t ns body) s = .next u ∧ u.dev.pairState t.val = prPaired ∧
          u.dev.role t.val = s.dev.settledRole t.val (byteAt body 1) (nbit (byteAt body 2) 6)) ∧
      (s.dev.reportAgrees t.val body = false ∨ s.dev.reportEdition body = false →
        s.dev.pairState t.val = prSeeking ∨ s.dev.pairState t.val = prPaired →
        ∃ u, exec (.healthReport t ns body) s = .next u ∧ u.dev.pairState t.val = prRefused ∧
          u.dev.bit rPROT_ERR fPROT_ERR_REFUSED = true))) ∧
  (∀ s (t : Fin 48) (port : Fin 65536) yellow body c, s.Runs → s.dev.treeOk t.val = true → s.dev.pairEn t.val = true →
    s.dev.findChan t.val port.val = some c →
    (∀ k, tagSeq body = none → ∃ u, exec (.protectionCopy t k port yellow body) s = .next u ∧
      u.dev.bit rPROT_ERR fPROT_ERR_BAD_TAG = true ∧ s.Counts u (rPROT_CNT 6) 1 ∧ s.OnlyChanges u [rPROT_CNT 6, rPROT_ERR] s.dev) ∧
    (∀ q, tagSeq body = some q → (s.dev.chan c).prot = true → s.dev.role t.val ≠ roMate → (s.dev.stream c).started = false →
      ∃ u, exec (.protectionCopy t 0 port yellow body) s = .next u ∧ s.Counts u (rPROT_CNT 10) 1 ∧
        (u.dev.stream c).started = true ∧ (u.dev.stream c).h = q ∧ (u.dev.stream c).unseen = [] ∧
        u.dev.col.queue = s.dev.col.queue ++
          [⟨s.dev.treePkt t.val c (body.drop 4) yellow (some q), s.dev.curSlot, 0, false, 0⟩])) ∧
  (∀ s (t : Fin 48) body, s.Runs →
    (∀ k, s.dev.pairState t.val ≠ prPaired ∨ s.dev.role t.val ≠ s.dev.roBottom t.val →
      ∃ u, exec (.mirrorImage t k body) s = .next u ∧ s.OnlyChanges u [] s.dev) ∧
    (s.dev.treeOk t.val = true → s.dev.pairEn t.val = true → s.dev.pairState t.val = prPaired →
      s.dev.role t.val = s.dev.roBottom t.val → (s.dev.pair t.val).copies = (s.dev.pair t.val).fullSeen → nbit (byteAt body 1) 0 = true →
      ∃ u, exec (.mirrorImage t 3 body) s = .next u ∧
        u.dev.pair t.val = { s.dev.pair t.val with fullSeen := [], batch := beAt body 8 4 }))

/-- Streams, SEQ_CONFIG's timeout and the commands (17_protection.md R497, R503, R512, R516, R519-R522). -/
def Obligations.StreamsAndPairsAnswer : Prop :=
  (∀ s (c : Fin 262144), s.Runs →
    (s.dev.seqOutOf c.val = none → ∃ u, exec (.seqConfigTimeout c) s = .next u ∧ s.OnlyChanges u [] s.dev) ∧
    (∀ x, s.dev.seqOutOf c.val = some x → 4 ≤ x.sends → ∃ u, exec (.seqConfigTimeout c) s = .next u ∧
      u.dev.seqOutOf c.val = none ∧ u.dev.bit rPROT_ERR fPROT_ERR_SEQ_CONFIG_FAIL = true) ∧
    (∀ x, s.dev.seqOutOf c.val = some x → x.sends < 4 → s.dev.framing (s.dev.chan c.val).tree = true →
      ∃ u, exec (.seqConfigTimeout c) s = .next u ∧ u.dev.seqOutOf c.val = some ⟨x.sends + 1, (s.dev.chan c.val).term⟩)) ∧
  (∀ s (c : Fin 262144), s.Runs → (s.dev.stream c.val).cnt.length = 8 →
    ((s.dev.stream c.val).started = true →
      max 1 (s.dev.get rPROT_TIMERS fPROT_TIMERS_RESET_TICKS) ≤ s.dev.tickNow - (s.dev.stream c.val).lastTick →
      ∃ u, exec (.sieveStreamReset c) s = .next u ∧ (u.dev.stream c.val).started = false ∧ s.Counts u (rPROT_CNT 5) 1 ∧
        u.dev.stream c.val = { s.dev.stream c.val with started := false, oowRun := 0, cnt := (u.dev.stream c.val).cnt } ∧
        s.OnlyChanges u [rPROT_CNT 5] { s.dev with streams := u.dev.streams }) ∧
    ((s.dev.stream c.val).started = false ∨
      s.dev.tickNow - (s.dev.stream c.val).lastTick < max 1 (s.dev.get rPROT_TIMERS fPROT_TIMERS_RESET_TICKS) →
      ∃ u, exec (.sieveStreamReset c) s = .next u ∧ s.OnlyChanges u [] s.dev) ∧
    (∃ u, exec (.sieveCopy c) s = .next u ∧ u.dev.get rSIEVE_SEL fSIEVE_SEL_CHAN = c.val ∧ u.dev.bit rSIEVE_SEL fSIEVE_SEL_GO = false ∧
      (∀ i < 10, u.dev.rdN (rSIEVE_DATA i) = (s.dev.streamWords c.val).getD i 0 % 2 ^ 32) ∧
      s.OnlyChanges u (rSIEVE_SEL :: (List.range 10).map rSIEVE_DATA) s.dev)) ∧
  (∀ s m c, s.Ready m 0x0901 c → c.isOwner = true → s.dev.treeOk (c.u8 0) = true → c.zero 2 2 = true → c.endsAt 0x0C = true →
    (c.u8 1 = 1 → ∃ u, exec (.protPair m) s = .next u ∧ s.OnlyAnswers u m ∧
      u.Done m 0 ((List.range 4).flatMap (fun i => leB 4 (s.dev.rdN (rPROT_PAIR_CFG (c.u8 0) + 4 * i))))) ∧
    (c.u8 1 = 0 → s.dev.pairEn (c.u8 0) = false → badValue (rPROT_PAIR_CFG (c.u8 0)) (c.u32 4) = false →
      badValue (rPROT_PAIR_CFG (c.u8 0) + 4) (c.u32 8) = false → nbit (c.u32 4) 31 = false →
      ∃ u, exec (.protPair m) s = .next u ∧
        u.dev.rdN (rPROT_PAIR_CFG (c.u8 0)) = s.dev.stored (rPROT_PAIR_CFG (c.u8 0)) (c.u32 4) ∧
        u.dev.rdN (rPROT_PAIR_MATE (c.u8 0)) = s.dev.stored (rPROT_PAIR_MATE (c.u8 0)) (c.u32 8) ∧
        u.Done m 0 ((List.range 4).flatMap (fun i => leB 4 (u.dev.rdN (rPROT_PAIR_CFG (c.u8 0) + 4 * i)))))) ∧
  (∀ s m c, s.Ready m 0x0902 c → c.isOwner = true → s.dev.treeOk (c.u8 0) = true → c.endsAt 1 = true →
    ∃ u, exec (.protStatus m) s = .next u ∧ s.OnlyAnswers u m ∧
      u.Done m 0 (leB 4 (s.dev.rdN (rPROT_PAIR_STATE (c.u8 0))) ++ leB 4 (s.dev.rdN (rPROT_PAIR_DELTA (c.u8 0))) ++
        leB 4 (s.dev.rdN (rPROT_PAIR_CFG (c.u8 0))) ++ leB 8 (s.dev.pair (c.u8 0)).takeoverTick ++
        padTo 36 (s.dev.pair (c.u8 0)).report)) ∧
  (∀ s m c h, s.Ready m 0x0903 c → s.dev.findChan (c.u8 0) (c.u16 2) = some h → c.u8 1 = 0 → c.endsAt 4 = true →
    (s.dev.chan h).prot = true → (s.dev.stream h).cnt.length = 8 →
    (c.isOwner = true ∨ c.caller = some (s.dev.chan h).tenant) →
    ∃ u, exec (.protSieve m) s = .next u ∧ s.OnlyAnswers u m ∧ u.Done m 0 ((s.dev.streamWords h).flatMap (leB 4))) ∧
  (∀ s m c, s.Ready m 0x0904 c → c.isOwner = true → s.dev.treeOk (c.u8 0) = true → c.u8 1 = 0 → c.endsAt 2 = true →
    s.dev.pairEn (c.u8 0) = true → s.dev.pairKind (c.u8 0) = 1 → s.dev.pairState (c.u8 0) = prPaired →
    s.dev.role (c.u8 0) = roActive → s.dev.bit (rPROT_PAIR_STATE (c.u8 0)) fPROT_PAIR_STATE_STBY_OK = true →
    s.dev.tick.now + 100000 ≤ 125000 →
    ∃ u, exec (.protSwitch m) s = .next u ∧ u.dev.role (c.u8 0) ≠ roActive ∧ u.Done m 0 (leB 8 (s.dev.tickNow + 1)))

/-- The servo (18_almanac.md R526-R531), the latch (R525), the pulse input (R536) and the pulse outputs (R538). -/
def Obligations.TheServoKeepsTime : Prop :=
  (∀ s (val : Word) (ns : Fin 125000), s.Runs →
    (s.dev.srcKind ≠ 1 → s.dev.srcKind ≠ 4 → ∃ t, exec (.almMeas val ns) s = .next t ∧
      t.dev.bit rALM_ERR fALM_ERR_MEAS_REFUSED = true ∧ s.OnlyChanges t [rALM_ERR] { s.dev with tick := t.dev.tick }) ∧
    (∀ θ, s.dev.srcKind = 1 ∨ s.dev.srcKind = 4 → s.dev.servo = svLocked →
      θ = sval 64 (s.dev.rdN rALM_MEAS_LO + 2 ^ 32 * val.toNat) → (θ.natAbs : Int) ≤ s.dev.unlockThr →
      ∃ t, exec (.almMeas val ns) s = .next t ∧ t.dev.servo = svLocked ∧ s.Counts t (rALM_CNT 0) 1 ∧
        t.dev.alm.p = clampI (-(θ * s.dev.get rALM_SERVO fALM_SERVO_KP)) (256 * (s.dev.get rALM_LIMITS fALM_LIMITS_SLEW : Int)) ∧
        t.dev.alm.r = clampI (s.dev.alm.r - (θ * s.dev.get rALM_SERVO fALM_SERVO_KI).tdiv 256) s.dev.freqLimit ∧
        t.dev.rdN rALM_FREQ = sfield 32 (clampI (t.dev.alm.r + t.dev.alm.p) s.dev.freqLimit) ∧
        t.dev.rdN rALM_OFFSET = sfield 32 (max (-(2 ^ 31)) (min θ (2 ^ 31 - 1))))) ∧
  (∀ s, s.Runs →
    (s.dev.tickNow < s.dev.alm.lastOff + s.dev.srcTimeout → ∃ t, exec .sourceTimeout s = .next t ∧ s.OnlyChanges t [] s.dev) ∧
    (s.dev.alm.lastOff + s.dev.srcTimeout ≤ s.dev.tickNow → s.dev.servo = svLocked → ∃ t, exec .sourceTimeout s = .next t ∧
      t.dev.servo = svHoldover ∧ t.dev.bit rALM_ERR fALM_ERR_SOURCE_LOST = true ∧ t.dev.rdN rALM_FREQ = sfield 32 s.dev.alm.r ∧
      t.dev.alm.p = 0 ∧ t.dev.alm.r = s.dev.alm.r ∧ t.dev.get rALM_STATUS fALM_STATUS_HOLD_SEC = 0) ∧
    (s.dev.servo ≠ svHoldover → ∃ t, exec .holdQualExpiry s = .next t ∧ s.OnlyChanges t [] s.dev) ∧
    (s.dev.servo = svHoldover →
      s.dev.get rALM_HOLD fALM_HOLD_HOLD_QUAL ≤ min 65535 ((s.dev.tickNow - s.dev.alm.holdTick) / 8000) →
      ∃ t, exec .holdQualExpiry s = .next t ∧ t.dev.get rALM_STATUS fALM_STATUS_TIME_OK = 0 ∧ t.dev.servo = svHoldover ∧
        t.dev.get rALM_STATUS fALM_STATUS_HOLD_SEC = min 65535 ((s.dev.tickNow - s.dev.alm.holdTick) / 8000))) ∧
  (∀ s (val : Word) (ns : Fin 125000) (frac : Fin 65536), s.Runs →
    (nbit val.toNat 0 = false → ∃ t, exec (.almLatch val ns frac) s = .next t ∧ s.OnlyChanges t [] { s.dev with tick := t.dev.tick }) ∧
    (∀ x, nbit val.toNat 0 = true → x = s.dev.tickNow * 125000 + max s.dev.tick.now ns.val →
      ∃ t, exec (.almLatch val ns frac) s = .next t ∧ t.dev.rdN rALM_TIME_NS = x % 1000000000 ∧
        t.dev.rdN rALM_TIME_SEC_LO = x / 1000000000 % 2 ^ 32 ∧ t.dev.rdN rALM_TIME_SEC_HI = x / 1000000000 / 2 ^ 32 % 65536 ∧
        t.dev.rdN rALM_TIME_FRAC = frac.val ∧
        s.OnlyChanges t [rALM_TIME_NS, rALM_TIME_SEC_LO, rALM_TIME_SEC_HI, rALM_TIME_FRAC] { s.dev with tick := t.dev.tick })) ∧
  (∀ s (val : Word), s.Runs →
    (fieldOf val.toNat fALM_SRC_KIND = s.dev.get rALM_SRC fALM_SRC_KIND →
      fieldOf val.toNat fALM_SRC_INDEX = s.dev.get rALM_SRC fALM_SRC_INDEX →
      ∃ t, exec (.almSrcWrite val) s = .next t ∧ t.dev.rdN rALM_SRC = s.dev.stored rALM_SRC val.toNat ∧ s.OnlyChanges t [rALM_SRC] s.dev) ∧
    (fieldOf val.toNat fALM_SRC_KIND < 5 → fieldOf val.toNat fALM_SRC_KIND ≠ s.dev.srcKind → s.dev.servo = svLocked →
      ∃ t, exec (.almSrcWrite val) s = .next t ∧ t.dev.rdN rALM_SRC = s.dev.stored rALM_SRC val.toNat ∧ t.dev.servo = svHoldover ∧
        t.dev.bit rALM_ERR fALM_ERR_SOURCE_LOST = true)) ∧
  (∀ s (ns : Fin 125000), s.Runs →
    (s.dev.bit rALM_PIN_CTRL fALM_PIN_CTRL_EN = false → ∃ t, exec (.pulseInputEdge ns) s = .next t ∧ s.OnlyChanges t [] s.dev) ∧
    (s.dev.bit rALM_PIN_CTRL fALM_PIN_CTRL_EN = true → s.dev.alm.lastEdge = none → s.dev.srcKind ≠ 3 →
      (s.dev.alm.stamps.length < 16 → ∃ t, exec (.pulseInputEdge ns) s = .next t ∧
        t.dev.alm.stamps = s.dev.alm.stamps ++ [shiftTime (s.dev.tickNow * 125000 + max s.dev.tick.now ns.val)
          (-(sval 16 (s.dev.get rALM_PIN_CTRL fALM_PIN_CTRL_DELAY)))] ∧
        t.dev.get rALM_PIN_CTRL fALM_PIN_CTRL_DEPTH = s.dev.alm.stamps.length + 1) ∧
      (16 ≤ s.dev.alm.stamps.length → ∃ t, exec (.pulseInputEdge ns) s = .next t ∧ t.dev.alm.stamps = s.dev.alm.stamps ∧
        t.dev.bit rALM_ERR fALM_ERR_PIN_OVF = true ∧ s.Counts t (rALM_CNT 4) 1))) ∧
  (∀ s, s.Runs →
    (s.dev.alm.stamps = [] → ∃ t, exec .almPinPop s = .next t ∧ t.dev.bit rALM_PIN_SEC_HI fALM_PIN_SEC_HI_VALID = false ∧
      s.OnlyChanges t [rALM_PIN_SEC_HI] s.dev) ∧
    (∀ x q, s.dev.alm.stamps = x :: q → ∃ t, exec .almPinPop s = .next t ∧ t.dev.alm.stamps = q ∧
      t.dev.rdN rALM_PIN_NS = x % 1000000000 ∧ t.dev.rdN rALM_PIN_SEC_LO = x / 1000000000 % 2 ^ 32 ∧
      t.dev.rdN rALM_PIN_SEC_HI = 2 ^ 31 + x / 1000000000 / 2 ^ 32 % 65536)) ∧
  (∀ s (k : Fin 4) (w : Fin 7) (val : Word), s.Runs → ∃ t, exec (.almPulseWrite k w val) s = .next t ∧
    t.dev.rdN (rALM_PULSE_CTRL k.val + 4 * w.val) = s.dev.stored (rALM_PULSE_CTRL k.val + 4 * w.val) val.toNat ∧
    (t.dev.pulse k.val).dirty = true ∧
    s.OnlyChanges t [rALM_PULSE_CTRL k.val + 4 * w.val] { s.dev with alm := { s.dev.alm with pulses := t.dev.alm.pulses } })

/-- Time of day (18_almanac.md R534, R535), frequency messages (19_gellen.md R558) and the commands (18_almanac.md R544). -/
def Obligations.TimeIsToldAndSet : Prop :=
  (∀ s, s.Runs →
    (s.dev.bit rALM_CTRL fALM_CTRL_TOD_EN = false → ∃ t, exec .timeOfDay s = .next t ∧ s.OnlyChanges t [] s.dev) ∧
    (s.dev.bit rALM_CTRL fALM_CTRL_TOD_EN = true → s.dev.alm.todTick = none → ∃ t, exec .timeOfDay s = .next t ∧
      t.dev.alm.todTick = some s.dev.tickNow ∧
      (∀ k < 48, s.dev.mode k = 2 → s.dev.framing k = true →
        (t.dev.tree k).ploam = (s.dev.tree k).ploam ++ [⟨.timeOfDay, 0x3FF, s.dev.todContent k⟩]) ∧
      (∀ k, s.dev.mode k ≠ 2 → t.dev.tree k = s.dev.tree k))) ∧
  (∀ s (p : Fin 2) (seq applied : Fin 65536) (freq : Word), s.Runs →
    (s.dev.portState p.val ≠ 4 → ∃ t, exec (.freqAck p seq applied freq) s = .next t ∧ s.OnlyChanges t [] s.dev) ∧
    (s.dev.Takes p.val seq.val →
      (s.dev.glk.freqSent = true → applied.val = s.dev.glk.freqSeq → freq.toNat = sfield 32 s.dev.alm.sent →
        ∃ t, exec (.freqAck p seq applied freq) s = .next t ∧ t.dev.bit rGLK_STATUS fGLK_STATUS_FREQ_ACKED = true ∧
          (t.dev.port p.val).rxNext = (seq.val + 1) % 65536) ∧
      (applied.val ≠ s.dev.glk.freqSeq →
        ∃ t, exec (.freqAck p seq applied freq) s = .next t ∧ (t.dev.port p.val).rxNext = (seq.val + 1) % 65536 ∧
          s.OnlyChanges t [rGLK_CNT 1] { s.dev with glk := { s.dev.glk with portA := t.dev.glk.portA, portB := t.dev.glk.portB } }))) ∧
  (∀ s, s.Runs →
    (s.dev.glk.freqSent = false ∨ s.dev.bit rGLK_STATUS fGLK_STATUS_FREQ_ACKED = true →
      ∃ t, exec .freqNoack s = .next t ∧ s.OnlyChanges t [] s.dev) ∧
    (s.dev.glk.freqSent = true → s.dev.bit rGLK_STATUS fGLK_STATUS_FREQ_ACKED = false →
      ∃ t, exec .freqNoack s = .next t ∧ t.dev.bit rGLK_ERR fGLK_ERR_FREQ_NOACK = true ∧ t.dev.alm = s.dev.alm)) ∧
  (∀ s m c, s.Ready m 0x0702 c → c.u8 0 = 0 → c.endsAt 1 = true → ∃ t, exec (.timeStatus m) s = .next t ∧ s.OnlyAnswers t m ∧
    t.Done m 0 ([rALM_STATUS, rALM_FREQ, rALM_OFFSET, rALM_SRC].flatMap (fun a => leB 4 (s.dev.rdN a)) ++ s.dev.latchedBytes)) ∧
  (∀ s m c, s.Ready m 0x0703 c → c.isOwner = true → c.u8 0 < 8 → c.u8 0 ≠ 1 → c.u8 1 < 64 → c.u8 2 = 0 → c.zero 3 1 = true →
    c.endsAt 4 = true → ∃ t, exec (.timeSource m) s = .next t ∧
      t.dev.rdN rALM_SRC = s.dev.stored rALM_SRC (c.u8 0 * 2 ^ 29 + c.u8 1) ∧
      t.Done m 0 (leB 4 (t.dev.rdN rALM_SRC) ++ leB 4 (t.dev.rdN rALM_STATUS))) ∧
  (∀ s m c, s.Ready m 0x0704 c → c.isOwner = true → c.zero 6 2 = true → c.u32 8 < 1000000000 → c.endsAt 0xC = true →
    (s.dev.stepFree = false → ∃ t, exec (.timeSet m) s = .next t ∧ t.Done m resBusy [] ∧
      t.dev.bit rTICK_ERR fTICK_ERR_STEP_REFUSED = true ∧ t.dev.tickNow = s.dev.tickNow) ∧
    (s.dev.stepFree = true → ∃ t, exec (.timeSet m) s = .next t ∧ t.Done m 0 [] ∧
      t.dev.tickNow = ((c.u32 0 + 2 ^ 32 * c.u16 4) * 1000000000 + c.u32 8) / 125000)) ∧
  (∀ s m c, s.Ready m 0x0705 c → c.isOwner = true → c.u8 0 < 4 → c.zero 1 3 = true → c.endsAt 0x20 = true →
    (∀ w < 7, badValue (rALM_PULSE_CTRL (c.u8 0) + 4 * w) (c.u32 (4 + 4 * w)) = false) →
    ∃ t, exec (.timePulse m) s = .next t ∧ t.Done m 0 (leB 8 (s.dev.tickNow + 1)) ∧ (t.dev.pulse (c.u8 0)).dirty = true ∧
      ∀ w < 7, t.dev.rdN (rALM_PULSE_CTRL (c.u8 0) + 4 * w) = s.dev.stored (rALM_PULSE_CTRL (c.u8 0) + 4 * w) (c.u32 (4 + 4 * w))) ∧
  (∀ s m c, s.Ready m 0x0706 c → c.isOwner = true → s.dev.treeOk (c.u8 0) = true → c.zero 1 1 = true → leAt c.req 2 7 < 2 ^ 51 →
    c.endsAt 9 = true → ∃ t, exec (.timeTod m) s = .next t ∧ s.OnlyAnswers t m ∧
      t.Done m 0 (leB 6 (s.dev.timeOf (c.u8 0) (leAt c.req 2 7)).1 ++ leB 2 0 ++ leB 4 (s.dev.timeOf (c.u8 0) (leAt c.req 2 7)).2 ++
        leB 1 (s.dev.get rALM_STATUS fALM_STATUS_TIME_OK))) ∧
  (∀ s m c, s.Ready m 0x0707 c → c.zero 1 3 = true → c.u32 4 < 2 ^ 24 → c.u16 8 < 1024 → c.endsAt 0xA = true →
    (c.u8 0 = 1 → ∃ t, exec (.timeRadio m) s = .next t ∧ s.OnlyAnswers t m ∧
      t.Done m 0 (leB 4 (s.dev.rdN rALM_RADIO) ++ leB 4 (s.dev.rdN rALM_SFN_ADJ) ++ leB 4 (s.dev.rdN rALM_RADIO_STATUS) ++
        leB 8 s.dev.tickNow)) ∧
    (c.u8 0 = 0 → c.isOwner = true → ∃ t, exec (.timeRadio m) s = .next t ∧ t.dev.rdN rALM_RADIO = c.u32 4 ∧
      t.dev.rdN rALM_SFN_ADJ = c.u16 8 ∧
      t.Done m 0 (leB 4 (c.u32 4) ++ leB 4 (c.u16 8) ++ leB 4 (s.dev.rdN rALM_RADIO_STATUS) ++ leB 8 s.dev.tickNow)))

/-- The link (19_gellen.md R549-R556, R577). -/
def Obligations.TheLinkAlignsAndDelivers : Prop :=
  (∀ s (l : Fin 8), s.Runs →
    (∃ t, exec (.gellenLaneLock l) s = .next t ∧
      (t.dev.port (glkPortOf l.val)).locked = Nat.lor (s.dev.port (glkPortOf l.val)).locked (2 ^ glkLaneOf l.val) ∧
      t.dev.portState (glkPortOf l.val) = (if s.dev.portState (glkPortOf l.val) = 1 ∧
        Nat.lor (s.dev.port (glkPortOf l.val)).locked (2 ^ glkLaneOf l.val) = 15 then 2 else s.dev.portState (glkPortOf l.val))) ∧
    (nbit (s.dev.port (glkPortOf l.val)).locked (glkLaneOf l.val) = false →
      (∃ t, exec (.gellenLaneLockLost l) s = .next t ∧ s.OnlyChanges t [] s.dev) ∧
      (∀ hdr bytes bip skew, ∃ t, exec (.gellenMark l hdr bytes bip skew) s = .next t ∧ s.OnlyChanges t [] s.dev)) ∧
    (nbit (s.dev.port (glkPortOf l.val)).locked (glkLaneOf l.val) = true → s.dev.portState (glkPortOf l.val) = 4 →
      ∃ t, exec (.gellenLaneLockLost l) s = .next t ∧ t.dev.portState (glkPortOf l.val) = 1 ∧
        t.dev.bit rGLK_ERR fGLK_ERR_LINK_DOWN = true ∧ (t.dev.port (glkPortOf l.val)).store = [])) ∧
  (∀ s (l : Fin 8) bytes bip (skew : Fin 4096), s.Runs → nbit (s.dev.port (glkPortOf l.val)).locked (glkLaneOf l.val) = true →
    (markValid bytes = false → s.dev.portState (glkPortOf l.val) < 2 → ∃ t, exec (.gellenMark l 2 bytes bip skew) s = .next t ∧
      s.Counts t (rGLK_CNT 2) 1 ∧ t.dev.bit rGLK_ERR fGLK_ERR_CRC = true ∧ s.OnlyChanges t [rGLK_CNT 2, rGLK_ERR] s.dev) ∧
    (markValid bytes = true → byteAt bytes 1 / 64 = glkPortOf l.val → s.dev.portState (glkPortOf l.val) = 2 → skew.val ≤ 16 →
      (s.dev.port (glkPortOf l.val)).marks.length = 4 → (∀ n ∈ (s.dev.port (glkPortOf l.val)).bad, n < 4) →
      (∀ j < 4, (if j = glkLaneOf l.val then 1 else 2) ≤ (s.dev.port (glkPortOf l.val)).marks.getD j 0) →
      ∃ t, exec (.gellenMark l 2 bytes bip skew) s = .next t ∧ t.dev.portState (glkPortOf l.val) = 3 ∧
        (t.dev.port (glkPortOf l.val)).rxReady = true)) ∧
  (∀ s (p : Fin 2) (val : Word), s.Runs → (nbit val.toNat (1 - p.val) = true ↔ s.dev.portState (1 - p.val) ≠ 0) →
    (nbit val.toNat p.val = true → s.dev.portState p.val = 0 → (s.dev.port p.val).locked ≠ 15 →
      ∃ t, exec (.glkCtrlWrite val) s = .next t ∧ t.dev.portState p.val = 1 ∧ t.dev.portState (1 - p.val) = s.dev.portState (1 - p.val) ∧
        t.dev.rdN rGLK_CTRL = s.dev.stored rGLK_CTRL val.toNat) ∧
    (nbit val.toNat p.val = false → s.dev.portState p.val = 4 → ∃ t, exec (.glkCtrlWrite val) s = .next t ∧
      t.dev.portState p.val = 0 ∧ t.dev.bit rGLK_ERR fGLK_ERR_LINK_DOWN = true ∧ (t.dev.port p.val).store = [])) ∧
  (∀ s (p : Fin 2) (seq : Fin 65536) (cls : Fin 256) (limit : Word) nak, s.Runs →
    (∀ i, i ∈ [Instr.ack p seq nak false, .credit p cls limit false] → ∃ t, exec i s = .next t ∧ s.Counts t (rGLK_CNT 2) 1 ∧
      t.dev.bit rGLK_ERR fGLK_ERR_CRC = true ∧ s.OnlyChanges t [rGLK_CNT 2, rGLK_ERR] s.dev) ∧
    (s.dev.portState p.val ≠ 4 → ∀ i, i ∈ [Instr.ack p seq nak true, .credit p cls limit true, .replayTimeout p] →
      ∃ t, exec i s = .next t ∧ s.OnlyChanges t [] s.dev) ∧
    (∀ x rest, s.dev.portState p.val = 4 → (s.dev.port p.val).queue = [] → (s.dev.port p.val).store = x :: rest → x.seq = seq.val →
      ∃ t, exec (.ack p seq false true) s = .next t ∧ t.dev.port p.val = { s.dev.port p.val with store := rest, noProgress := 0 }) ∧
    (s.dev.portState p.val = 4 → (s.dev.port p.val).queue = [] → cls.val < 3 →
      (limit.toNat + 2 ^ 32 - (s.dev.port p.val).limit.getD cls.val 0) % 2 ^ 32 < 2 ^ 31 →
      ∃ t, exec (.credit p cls limit true) s = .next t ∧
        t.dev.port p.val = { s.dev.port p.val with limit := (s.dev.port p.val).limit.set cls.val limit.toNat })) ∧
  (∀ s (p : Fin 2), s.Runs →
    ((s.dev.port p.val).store = [] → ∃ t, exec (.replayTimeout p) s = .next t ∧ s.OnlyChanges t [] s.dev) ∧
    (s.dev.portState p.val = 4 → (s.dev.port p.val).store ≠ [] →
      ((s.dev.port p.val).noProgress < 3 → ∃ t, exec (.replayTimeout p) s = .next t ∧ s.Counts t (rGLK_CNT 3) 1 ∧
        t.dev.port p.val = { s.dev.port p.val with noProgress := (s.dev.port p.val).noProgress + 1 }) ∧
      (3 ≤ (s.dev.port p.val).noProgress → ∃ t, exec (.replayTimeout p) s = .next t ∧ t.dev.bit rGLK_ERR fGLK_ERR_REPLAY_FAIL = true ∧
        t.dev.portState p.val = (if (s.dev.port p.val).locked = 15 then 2 else 1) ∧ (t.dev.port p.val).store = []))) ∧
  (∀ s (p : Fin 2) (seq : Fin 65536) typ words, s.Runs →
    (s.dev.Takes p.val seq.val → ∃ t, exec (.transactionDiscarded p seq typ words true) s = .next t ∧ s.Counts t (rGLK_CNT 5) 1 ∧
      t.dev.bit rGLK_ERR fGLK_ERR_BAD_REQ = true ∧ (t.dev.port p.val).rxNext = (seq.val + 1) % 65536) ∧
    (s.dev.portState p.val = 4 → ∃ t, exec (.transactionDiscarded p seq typ words false) s = .next t ∧ s.Counts t (rGLK_CNT 2) 1 ∧
      t.dev.bit rGLK_ERR fGLK_ERR_CRC = true ∧ (t.dev.port p.val).rxNext = (s.dev.port p.val).rxNext))

/-- Register access (00_scope.md R9; 19_gellen.md R553-R563). -/
def Obligations.TheHostReachesRegisters : Prop :=
  (∀ s (p : Fin 2) seq req addr tag more vals, s.Runs → s.dev.portState p.val ≠ 4 →
    ∀ i, i ∈ [Instr.regRead p seq req addr tag more, .regWrite p seq req addr vals] → ∃ t, exec i s = .next t ∧ s.OnlyChanges t [] s.dev) ∧
  (∀ s (p : Fin 2) (seq : Fin 65536) (addr : Word) (tag : Fin 65536), s.Runs → s.dev.Takes p.val seq.val → s.dev.MaySend p.val 0x81 16 →
    addr.toNat % 4 = 0 → inBlock addr.toNat = true → (addr.toNat < 0x80000 ∨ 0xB0000 ≤ addr.toNat) →
    ∃ t, exec (.regRead p seq 0x1F addr tag 0) s = .next t ∧ (t.dev.port p.val).rxNext = (seq.val + 1) % 65536 ∧
      s.Sends t p.val 0x81 (leB 2 tag.val ++ leB 1 1 ++ leB 5 0 ++ leB 4 (s.regRead addr.toNat) ++ leB 4 0)) ∧
  (∀ s (addr val : Word), s.Runs → 0x10000 ≤ addr.toNat → addr.toNat < 0x40000 → addr.toNat ≠ rRST_CTRL → addr.toNat ≠ rRST_BLOCK →
    addr.toNat ≠ rBOOT_FLASH_CMD → s.dev.bootState ≠ 7 → addr.toNat % 4 = 0 →
    (∃ t, exec (.registerWrite addr val) s = .next t ∧ t.dev.rdN addr.toNat = s.dev.stored addr.toNat val.toNat ∧
      s.OnlyChanges t [addr.toNat] s.dev) ∧
    (regFind addr.toNat = none → ∃ t, exec (.registerWrite addr val) s = .next t ∧ s.OnlyChanges t [] s.dev) ∧
    (∀ (p : Fin 2) (seq : Fin 65536), s.dev.Takes p.val seq.val → ∃ t, exec (.regWrite p seq 0x1F addr [val]) s = .next t ∧
      t.dev.rdN addr.toNat = s.dev.stored addr.toNat val.toNat ∧ (t.dev.port p.val).rxNext = (seq.val + 1) % 65536)) ∧
  (∀ s (p : Fin 2) (seq : Fin 65536) (req : Fin 32) (addr : Word) tag (val : Word), s.Runs → s.dev.Takes p.val seq.val → req.val < 16 →
    addr.toNat % 4 = 0 → (inWindows addr.toNat = false ∨ winTenant addr.toNat ≠ req.val) →
    ∀ i, i ∈ [Instr.regRead p seq req addr tag 0, .regWrite p seq req addr [val]] →
      ∃ t, exec i s = .next t ∧ s.Counts t (rGLK_VIOL_CNT req.val) 1 ∧ t.dev.bit rGLK_ERR fGLK_ERR_VIOLATION = true ∧
        (∀ a, a < 0x80000 ∨ (0x90000 ≤ a ∧ a < 0xA0000) ∨ 0xB0000 ≤ a → a ≠ rPIN_STATUS → t.dev.rd a = s.dev.rd a) ∧
        t.mem = s.mem ∧ t.flash = s.flash ∧ t.pending = s.pending)

/-- Mailboxes (19_gellen.md R565-R568), rings (R570-R573), alerts (R575, R577) and the diagnostic commands (R579, R580). -/
def Obligations.MailboxesRingsAndAlerts : Prop :=
  (∀ s (m : Fin 64) (val : Word), s.Runs → nbit val.toNat 31 = true →
    (s.dev.get (rMBX_STATUS m.val) fMBX_STATUS_STATE = 1 → ∃ t, exec (.mbxDoorbell m val) s = .next t ∧
      t.dev.bit (rMBX_STATUS m.val) fMBX_STATUS_LOST = true ∧ s.OnlyChanges t [rMBX_STATUS m.val] s.dev) ∧
    (∀ code len n req, s.dev.get (rMBX_STATUS m.val) fMBX_STATUS_STATE ≠ 1 → s.dev.mbxReady = true →
      code = fieldOf val.toNat fMBX_DOORBELL_CODE → len = fieldOf val.toNat fMBX_DOORBELL_REQ_LEN →
      req = loadBytes zeroByte s.mem (mbxBase m.val + 0x400) (min len 0x400) →
      (basicLen code req = some n → n ≤ len → len ≤ 1024 → ∃ t, exec (.mbxDoorbell m val) s = .next t ∧
        t.dev.get (rMBX_STATUS m.val) fMBX_STATUS_STATE = 1 ∧
        t.dev.glk.cmds = s.dev.glk.cmds ++ [⟨m.val, code, req, s.dev.mbxTenant m.val, false, []⟩] ∧
        s.OnlyChanges t [rMBX_STATUS m.val, rMBX_DOORBELL m.val] { s.dev with glk := { s.dev.glk with cmds := t.dev.glk.cmds } }) ∧
      (basicLen code req = none → ∃ t, exec (.mbxDoorbell m val) s = .next t ∧ t.Done m resBadParam []))) ∧
  (∀ s (i : Fin 16) (val : Word), s.Runs →
    (i.val < 2 → ∃ t, exec (.glkMbxOwnerWrite i val) s = .next t ∧ s.OnlyChanges t [] s.dev) ∧
    (2 ≤ i.val → (∀ j < 4, s.dev.mbxFree (4 * i.val + j) = true) → ∃ t, exec (.glkMbxOwnerWrite i val) s = .next t ∧
      ∀ j < 4, t.dev.mbxTenant (4 * i.val + j) =
          (if nbit (val.toNat / 2 ^ (8 * j)) 7 then some (val.toNat / 2 ^ (8 * j) % 16) else none) ∧
        (t.dev.mbxTenant (4 * i.val + j) ≠ s.dev.mbxTenant (4 * i.val + j) →
          ∀ a, mbxBase (4 * i.val + j) + 0x400 ≤ a → a < mbxBase (4 * i.val + j) + 0x1000 → sget zeroByte t.mem a = 0#8))) ∧
  (∀ s (r : Fin 24) (val : Word), s.Runs → nbit val.toNat 31 = true → s.dev.bit (rGLK_RING_CTRL r.val) fGLK_RING_CTRL_EN = false →
    ∃ t, exec (.ringCtrlWrite r val) s = .next t ∧ t.dev.ringRuns r.val = true ∧ t.dev.ringHead r.val = 0 ∧
      t.dev.get (rGLK_RING_TAIL r.val) fGLK_RING_TAIL_TAIL = 0 ∧
      t.dev.ring r.val = { port := fieldOf val.toNat fGLK_RING_CTRL_PORT }) ∧
  (∀ s (r : Fin 24) (val : Word), s.Runs →
    (s.dev.ringRuns r.val = false → (s.dev.ring r.val).waits = [] → ∃ t, exec (.ringTailWrite r val) s = .next t ∧
      t.dev.rdN (rGLK_RING_TAIL r.val) = s.dev.stored (rGLK_RING_TAIL r.val) val.toNat ∧ t.dev.ring r.val = s.dev.ring r.val) ∧
    (16 ≤ r.val → s.dev.ringRuns r.val = true → (s.dev.ring r.val).tag = none → (s.dev.ring r.val).descs = [] →
      s.dev.MaySend (s.dev.ring r.val).port 0x83 16 → (s.dev.ring r.val).port < 2 →
      (s.dev.access (rGLK_RING_TAIL r.val) val.toNat).ringOwned r.val ≠ 0 →
      ∃ t, exec (.ringTailWrite r val) s = .next t ∧ (t.dev.ring r.val).tag = some s.dev.glk.nextTag ∧
        s.Sends t (s.dev.ring r.val).port 0x83 (leB 8 (s.dev.ringAddr r.val (s.dev.ringHead r.val)) ++ leB 2 16 ++
          leB 2 s.dev.glk.nextTag ++ leB 1 r.val ++ leB 3 0))) ∧
  (∀ s (p : Fin 2) (seq tag : Fin 65536) data, s.Runs → s.dev.Takes p.val seq.val →
    ((∀ r < 24, (s.dev.ring r).tag ≠ some tag.val) → ∀ err, ∃ t, exec (.dmaCompletion p seq tag err data) s = .next t ∧
      (t.dev.port p.val).rxNext = (seq.val + 1) % 65536 ∧
      s.OnlyChanges t [rGLK_CNT 1] { s.dev with glk := { s.dev.glk with portA := t.dev.glk.portA, portB := t.dev.glk.portB } }) ∧
    (∀ r < 24, (s.dev.ring r).tag = some tag.val → (∀ q < r, (s.dev.ring q).tag ≠ some tag.val) →
      (∃ t, exec (.dmaCompletion p seq tag true data) s = .next t ∧ (t.dev.ring r).tag = none ∧
        t.dev.bit (rGLK_RING_CTRL r) fGLK_RING_CTRL_STOPPED = true ∧ t.dev.bit rGLK_ERR fGLK_ERR_RING_FAULT = true) ∧
      (r < 16 → (s.dev.ring r).waits = [] → s.dev.ringOwned r ≤ (s.dev.ring r).posted.length + data.length / 16 →
        ∃ t, exec (.dmaCompletion p seq tag false data) s = .next t ∧ (t.dev.ring r).tag = none ∧
          (t.dev.ring r).posted = (s.dev.ring r).posted ++
            (List.range (data.length / 16)).map (fun i => (leAt data (16 * i) 8, leAt data (16 * i + 8) 2))))) ∧
  (∀ s (r : Fin 24), s.Runs →
    ((s.dev.ring r.val).since = 0 → ∃ t, exec (.ringEvent r) s = .next t ∧ s.OnlyChanges t [] s.dev) ∧
    (∀ p, (s.dev.ring r.val).since ≠ 0 → s.dev.ringPort r.val = some p → p < 2 → s.dev.MaySend p 0x92 8 →
      ∃ t, exec (.ringEvent r) s = .next t ∧ (t.dev.ring r.val).since = 0 ∧
        s.Sends t p 0x92 (leB 1 r.val ++ leB 3 0 ++ leB 4 (s.dev.ringHead r.val))) ∧
    ((s.dev.ring r.val).tag = none → ∃ t, exec (.ringFault r) s = .next t ∧ s.OnlyChanges t [] s.dev) ∧
    ((s.dev.ring r.val).tag ≠ none → ∃ t, exec (.ringFault r) s = .next t ∧ (t.dev.ring r.val).tag = none ∧
      t.dev.bit (rGLK_RING_CTRL r.val) fGLK_RING_CTRL_STOPPED = true ∧ t.dev.bit rGLK_ERR fGLK_ERR_RING_FAULT = true)) ∧
  (∀ s (val : Word), s.Runs →
    (∃ t, exec (.glkAlertAck val) s = .next t ∧ t.dev.rdN rGLK_ALERT_ACK = s.dev.stored rGLK_ALERT_ACK val.toNat ∧
      (t.dev.bit rGLK_STATUS fGLK_STATUS_ALERT_PEND = true ↔
        s.dev.get rGLK_ALERT_SEQ fGLK_ALERT_SEQ_SEQ ≠ t.dev.get rGLK_ALERT_ACK fGLK_ALERT_ACK_SEQ) ∧
      s.OnlyChanges t [rGLK_ALERT_ACK, rGLK_STATUS, rPIN_STATUS] s.dev) ∧
    (∀ x, nbit val.toNat 31 = true →
      s.dev.glk.log.find? (fun a => a.seq % 256 == fieldOf val.toNat fGLK_ALERT_SEL_ENTRY) = some x →
      ∃ t, exec (.glkAlertSel val) s = .next t ∧ (∀ i < 10, t.dev.rdN (rGLK_ALERT_DATA i) = leAt x.body (4 * i) 4) ∧
        s.OnlyChanges t (rGLK_ALERT_SEL :: (List.range 10).map rGLK_ALERT_DATA) s.dev) ∧
    (nbit val.toNat 0 = false → ∃ t, exec (.glkViolPop val) s = .next t ∧ s.OnlyChanges t [] s.dev) ∧
    (∀ x y q, nbit val.toNat 0 = true → s.dev.glk.viols = x :: y :: q → ∃ t, exec (.glkViolPop val) s = .next t ∧
      t.dev.glk.viols = y :: q ∧ (∀ i < 4, t.dev.rdN (rGLK_VIOL_DATA i) = y.words.getD i 0 % 2 ^ 32) ∧
      s.OnlyChanges t ((List.range 4).map rGLK_VIOL_DATA) { s.dev with glk := { s.dev.glk with viols := y :: q } })) ∧
  (∀ s m c, s.Ready m 0x0C04 c → c.isOwner = true → c.u8 0 = 0 → c.u8 1 = 0 → c.u8 2 = 0 → c.zero 3 1 = true → c.endsAt 4 = true →
    ∃ t, exec (.diagLink m) s = .next t ∧ s.OnlyAnswers t m ∧
      t.Done m 0 (leB 4 (s.dev.rdN rGLK_STATUS) ++ leB 4 (s.dev.rdN rGLK_ERR) ++ (List.range 10).flatMap (fun i => leB 4 (s.dev.rdN (rGLK_CNT i))))) ∧
  (∀ s m c, s.Ready m 0x0C05 c → c.isOwner = true → c.u8 0 = 0 → c.u8 1 = 0 → c.u8 2 = 0 → c.u8 3 = 0 → c.endsAt 4 = true →
    ∃ t, exec (.diagMailbox m) s = .next t ∧ s.OnlyAnswers t m ∧ t.Done m 0 s.dev.ownerBytes)

/-- References (20_clocks_boot.md R583, R584), PLLs (R585) and the ring supervisor (R586-R590). -/
def Obligations.ReferencesRingAndVoid : Prop :=
  (∀ s (r : Fin 2), s.dev.replies = [] → s.dev.wipes = [] → s.dev.powered = true →
    (s.dev.refValid r.val = true → s.dev.bootState ≠ 2 → ∃ t, exec (.refValid r false) s = .next t ∧ s.OnlyChanges t [] s.dev) ∧
    (s.dev.refValid r.val = false → s.dev.clocked = true → s.dev.bit rCLK_STATUS fCLK_STATUS_HOLDOVER = true → s.dev.bootState ≠ 2 →
      ∃ t, exec (.refValid r false) s = .next t ∧ t.dev.refValid r.val = true ∧ t.dev.refSel = r.val ∧
        t.dev.bit rCLK_STATUS fCLK_STATUS_HOLDOVER = false) ∧
    (s.dev.refValid r.val = false → ∃ t, exec (.refInvalid r) s = .next t ∧ s.OnlyChanges t [] s.dev) ∧
    (s.dev.refValid r.val = true → s.dev.refValid (1 - r.val) = true → s.dev.refSel = r.val → s.dev.clocked = true →
      ∃ t, exec (.refInvalid r) s = .next t ∧ t.dev.refValid r.val = false ∧ t.dev.refSel = 1 - r.val ∧
        t.dev.bit rCLK_ERR fCLK_ERR_REF_SWITCH = true) ∧
    (s.dev.refValid r.val = true → s.dev.refValid (1 - r.val) = false → s.dev.armed = true → s.dev.clk.sup = .run →
      ∃ t, exec (.refInvalid r) s = .next t ∧ t.dev.refValid r.val = false ∧ t.dev.bit rCLK_STATUS fCLK_STATUS_HOLDOVER = true ∧
        t.dev.bit rCLK_ERR fCLK_ERR_HOLDOVER = true ∧ t.dev.portState 0 ≠ 4 ∧ t.dev.portState 1 ≠ 4 ∧ t.dev.alm.noClock = true)) ∧
  (∀ s (period : Fin 65536), s.dev.replies = [] → s.dev.wipes = [] →
    (s.dev.clk.sup = .ringStart → ∃ t, exec (.ringStable period) s = .next t ∧ t.dev.clk.sup = .run ∧
      t.dev.rdN rCLK_RING_PERIOD = period.val ∧ t.dev.bit rCLK_STATUS fCLK_STATUS_RING_STABLE = true) ∧
    (s.dev.clk.sup = .void → s.dev.clk.trying = true → ∃ t, exec (.ringStable period) s = .next t ∧ t.dev.clk.sup = .run ∧
      t.dev.get rRST_CAUSE fRST_CAUSE_KIND = 2 ∧ t.dev.get rRST_CAUSE fRST_CAUSE_SOURCE = 2 ∧ t.dev.clk.voidDue = true) ∧
    (s.dev.clk.sup = .off ∨ s.dev.clk.sup = .run ∨ s.dev.clk.sup = .failed →
      ∃ t, exec (.ringStable period) s = .next t ∧ s.OnlyChanges t [] s.dev) ∧
    (s.dev.clk.sup ≠ .run → ∃ t, exec (.ringOutOfRange period) s = .next t ∧ s.OnlyChanges t [] s.dev) ∧
    (s.dev.clk.sup = .run → s.dev.hostLost = false → ∃ t, exec (.ringOutOfRange period) s = .next t ∧
      t.dev.clk = { s.dev.clk with sup := .ringStart, trying := true } ∧ t.dev.bit rCLK_ERR fCLK_ERR_RING_RESTART = true ∧
      t.dev.bit rCLK_STATUS fCLK_STATUS_RING_STABLE = false) ∧
    (s.dev.clk.sup = .run → s.dev.hostLost = true → ∃ t, exec (.ringOutOfRange period) s = .next t ∧
      t.dev.clk = { s.dev.clk with sup := .void, trying := true, attempts := 1 } ∧ t.dev.clocked = false ∧
      (∀ k < 48, t.dev.bit (rTREE_LINE_STATUS k) fTREE_LINE_STATUS_LASER_ON = false) ∧
      t.dev.bit rPIN_STATUS fPIN_STATUS_TIME_OK = false ∧ t.dev.bit rSEC_STATUS fSEC_STATUS_CAUSE_CLOCK = true)) ∧
  (∀ s, s.dev.replies = [] → s.dev.wipes = [] →
    (s.dev.clk.sup = .ringStart → ∃ t, exec .ringAttemptFail s = .next t ∧ t.dev.bit rCLK_ERR fCLK_ERR_RING_FAIL = true ∧
      s.OnlyChanges t [rCLK_ERR] s.dev) ∧
    (s.dev.clk.sup = .void → s.dev.clk.trying = true →
      (s.dev.clk.attempts < 8 → ∃ t, exec .ringAttemptFail s = .next t ∧
        s.OnlyChanges t [] { s.dev with clk := { s.dev.clk with trying := false } }) ∧
      (8 ≤ s.dev.clk.attempts → ∃ t, exec .ringAttemptFail s = .next t ∧ t.dev.bit rPIN_STATUS fPIN_STATUS_CLOCK_FAIL_L = false ∧
        s.OnlyChanges t [rPIN_STATUS] { s.dev with clk := { s.dev.clk with sup := .failed, trying := false } })) ∧
    (s.dev.clk.sup = .void → s.dev.clk.trying = false → ∃ t, exec .voidAttempt s = .next t ∧
      s.OnlyChanges t [] { s.dev with clk := { s.dev.clk with trying := true, attempts := s.dev.clk.attempts + 1 } }) ∧
    (s.dev.clk.sup ≠ .void ∨ s.dev.clk.trying = true → ∃ t, exec .voidAttempt s = .next t ∧ s.OnlyChanges t [] s.dev)) ∧
  (∀ s (k : Fin 3), s.Runs →
    (nbit (s.dev.get rCLK_STATUS fCLK_STATUS_LOCK) (pllBit k.val) = true → ∃ t, exec (.pllLoss k) s = .next t ∧
      t.dev.get rRST_CAUSE fRST_CAUSE_KIND = 2 ∧ t.dev.get rRST_CAUSE fRST_CAUSE_SOURCE = 3 ∧ t.dev.clk.sup = s.dev.clk.sup) ∧
    (nbit (s.dev.get rCLK_STATUS fCLK_STATUS_LOCK) (pllBit k.val) = false →
      ∃ t, exec (.pllLoss k) s = .next t ∧ s.OnlyChanges t [] s.dev)) ∧
  (∀ s, s.Runs →
    (nbit (s.dev.get rCLK_STATUS fCLK_STATUS_LOCK) 3 = true → ∃ t, exec (.pllMpLock false) s = .next t ∧
      nbit (t.dev.get rCLK_STATUS fCLK_STATUS_LOCK) 3 = false ∧ t.dev.bit rCLK_STATUS fCLK_STATUS_MP_SRC = false ∧
      t.dev.bit rCLK_ERR fCLK_ERR_PLL_UNLOCK = true ∧ s.OnlyChanges t [rCLK_STATUS, rCLK_ERR] s.dev) ∧
    (∀ b, nbit (s.dev.get rCLK_STATUS fCLK_STATUS_LOCK) 3 = b → ∃ t, exec (.pllMpLock b) s = .next t ∧ s.OnlyChanges t [] s.dev))

/-- Resets (20_clocks_boot.md R588-R593, R601; 22_electrical.md R634) and the commands (20_clocks_boot.md R604, R605). -/
def Obligations.ResetsReturnWhatTheyName : Prop :=
  (∀ s, s.dev.replies = [] → s.dev.wipes = [] →
    (s.dev.powered = true → ∃ t, exec .pwrGoodRise s = .next t ∧ s.OnlyChanges t [] s.dev) ∧
    (s.dev.powered = false → ∃ t, exec .pwrGoodRise s = .next t ∧ (∀ a, t.dev.rd a = regReset a) ∧ t.dev.clk.sup = .ringStart ∧
      t.dev.part = s.dev.part) ∧
    (∀ i, i ∈ [Instr.pwrGoodFall, .supplyUndervoltage] →
      (s.dev.powered = true → ∃ t, exec i s = .next t ∧ (∀ a, t.dev.rd a = regReset a) ∧ t.dev.clk.sup = .off ∧ t.dev.part = s.dev.part) ∧
      (s.dev.powered = false → ∃ t, exec i s = .next t ∧ s.OnlyChanges t [] s.dev)) ∧
    (s.dev.clk.sup = .failed ∨ s.dev.clk.sup = .off → ∃ t, exec .resetL s = .next t ∧ s.OnlyChanges t [] s.dev) ∧
    (s.dev.clk.sup = .run → ∃ t, exec .resetL s = .next t ∧ t.dev.clk.sup = .run ∧ t.dev.get rRST_CAUSE fRST_CAUSE_KIND = 1 ∧
      t.dev.bootState = 1 ∧ (∀ a, 0x1000000 ≤ a → a < 0x1300000 → t.dev.rd a = regReset a))) ∧
  (∀ s (val : Word), s.Runs →
    (fieldOf val.toNat fRST_CTRL_KEY ≠ 0x5A → ∃ t, exec (.warmReset val) s = .next t ∧ s.OnlyChanges t [] s.dev) ∧
    (fieldOf val.toNat fRST_CTRL_KEY = 0x5A → nbit val.toNat 0 = true → ∃ t, exec (.warmReset val) s = .next t ∧
      t.dev.get rRST_CAUSE fRST_CAUSE_KIND = 2 ∧ t.dev.get rRST_CAUSE fRST_CAUSE_SOURCE = 0 ∧ t.dev.clk.sup = s.dev.clk.sup ∧
      (∀ a, 0x1000000 ≤ a → a < 0x1300000 → t.dev.rd a = regReset a))) ∧
  (∀ s (val : Word), s.Runs → nbit val.toNat 30 = true →
    (s.dev.clk.blk ≠ none → ∃ t, exec (.blockReset val) s = .next t ∧ t.dev.get rRST_BLOCK fRST_BLOCK_RESULT = 1 ∧
      s.OnlyChanges t [rRST_BLOCK] s.dev) ∧
    (s.dev.clk.blk = none → s.dev.blockOk (fieldOf val.toNat fRST_BLOCK_KIND) (fieldOf val.toNat fRST_BLOCK_INDEX) = false →
      ∃ t, exec (.blockReset val) s = .next t ∧ t.dev.get rRST_BLOCK fRST_BLOCK_RESULT = 2 ∧ s.OnlyChanges t [rRST_BLOCK] s.dev) ∧
    (∀ k : Fin 48, s.dev.clk.blk = none → fieldOf val.toNat fRST_BLOCK_KIND = 1 → fieldOf val.toNat fRST_BLOCK_INDEX = k.val →
      s.dev.treeOk k.val = true → ∃ t, exec (.blockReset val) s = .next t ∧ t.dev.bit rRST_BLOCK fRST_BLOCK_BUSY = true ∧
        t.dev.get rRST_BLOCK fRST_BLOCK_RESULT = 0 ∧ t.dev.crossing k.val = 1 ∧
        (∀ a, 0x1000000 + 0x10000 * k.val ≤ a → a < 0x1010000 + 0x10000 * k.val → t.dev.rd a = regReset a))) ∧
  (∀ s (c : Fin 165), s.Runs →
    (s.dev.crossing c.val = 0 → ∃ t, exec (.resetHandshakeAck c) s = .next t ∧ s.OnlyChanges t [] s.dev) ∧
    (∀ k b, s.dev.clk.cross = [(c.val, k)] → k ≠ 0 → s.dev.clk.blk = some b → b.mbx = none →
      ∃ t, exec (.resetHandshakeAck c) s = .next t ∧ t.dev.bit rRST_BLOCK fRST_BLOCK_BUSY = false ∧
        s.OnlyChanges t [rRST_BLOCK] { s.dev with clk := { s.dev.clk with cross := [], blk := none } })) ∧
  (∀ s m c, s.Ready m 0x0C06 c → c.isOwner = true → c.u8 0 = 0 → c.endsAt 1 = true → ∃ t, exec (.diagClock m) s = .next t ∧
    s.OnlyAnswers t m ∧
    t.Done m 0 ([rCLK_STATUS, rCLK_ERR, rCLK_VOID, rCLK_RING_PERIOD, rRST_CAUSE].flatMap (fun a => leB 4 (s.dev.rdN a)))) ∧
  (∀ s m c, s.Ready m 0x0C07 c → c.isOwner = true → c.u8 0 = 0 → c.u8 3 = 0 → c.endsAt 4 = true →
    ∃ t, exec (.diagReset m) s = .next t ∧ t.Done m 0 [] ∧ t.dev.clk = { s.dev.clk with warmDue := true }) ∧
  (∀ s, s.Runs →
    (s.dev.clk.warmDue = false → ∃ t, exec .commandedWarmReset s = .next t ∧ s.OnlyChanges t [] s.dev) ∧
    (s.dev.clk.warmDue = true → ∃ t, exec .commandedWarmReset s = .next t ∧ t.dev.get rRST_CAUSE fRST_CAUSE_KIND = 2 ∧
      t.dev.get rRST_CAUSE fRST_CAUSE_SOURCE = 1 ∧ t.dev.clk.warmDue = false))

/-- Boot (20_clocks_boot.md R596, R598, R600), flash accesses (R602, R603) and DIAG_BOOT (R606). -/
def Obligations.BootWalksItsStates : Prop :=
  (∀ s, s.Runs →
    (s.dev.bootState ≠ 1 → ∃ t, exec .bootArchiveVerified s = .next t ∧ s.OnlyChanges t [] s.dev) ∧
    (s.dev.bootState = 1 → s.dev.clk.tried = 0 → ∃ t, exec .bootArchiveVerified s = .next t ∧ t.flash = s.flash ∧
      (t.dev.bit rBOOT_STATUS fBOOT_STATUS_A_VALID = true ↔ copyCode s.dev.revision s.flash 0 ≠ 1 ∧ copyCode s.dev.revision s.flash 0 ≠ 2) ∧
      (t.dev.bit rBOOT_STATUS fBOOT_STATUS_B_VALID = true ↔ copyCode s.dev.revision s.flash 1 ≠ 1 ∧ copyCode s.dev.revision s.flash 1 ≠ 2) ∧
      (t.dev.bootState = 7 ↔ ∀ c < 2, copyCode s.dev.revision s.flash c ≠ 0) ∧
      (t.dev.bootState ≠ 7 → copyCode s.dev.revision s.flash (t.dev.get rBOOT_STATUS fBOOT_STATUS_COPY) = 0)) ∧
    (s.dev.refOk = false → ∃ t, exec .bootClocksLocked s = .next t ∧ s.OnlyChanges t [] s.dev) ∧
    (s.dev.refOk = true → s.dev.bootState = 2 → ∃ t, exec .bootClocksLocked s = .next t ∧ t.dev.bootState = 3 ∧
      t.dev.get rCLK_STATUS fCLK_STATUS_LOCK = 31 ∧ t.dev.bit rDRAM_STATUS fDRAM_STATUS_INIT_BUSY = true) ∧
    (s.dev.bootState ≠ 3 → ∀ bad memFail, ∃ t, exec (.bootTestDone bad memFail) s = .next t ∧ s.OnlyChanges t [] s.dev) ∧
    (s.dev.bootState = 3 → s.dev.bit rDRAM_STATUS fDRAM_STATUS_INIT_BUSY = false → ∀ bad memFail,
      ∃ t, exec (.bootTestDone bad memFail) s = .next t ∧ t.dev.bootState = 4 ∧ t.dev.bit rBOOT_CTRL fBOOT_CTRL_FULL_NEXT = false ∧
        (memFail = true → t.dev.bit rBOOT_ERR fBOOT_ERR_MEM_FAIL = true)) ∧
    (∀ ms : Fin 65536, s.dev.clk.mpDown = false →
      (s.dev.bootState ≠ 4 → ∃ t, exec (.firmwareReady ms) s = .next t ∧ s.OnlyChanges t [] s.dev) ∧
      (s.dev.bootState = 4 → ∃ t, exec (.firmwareReady ms) s = .next t ∧ t.dev.rdN rBOOT_TIME = ms.val ∧
        t.dev.bootState = (if t.dev.bit rDRAM_STATUS fDRAM_STATUS_READY then 5 else 6) ∧
        (t.dev.bootState = 6 → t.dev.bit rBOOT_ERR fBOOT_ERR_DRAM_LIMITED = true))) ∧
    (s.dev.clk.mpDown = true → ∀ ms, ∃ t, exec (.firmwareReady ms) s = .next t ∧
      s.OnlyChanges t [] { s.dev with clk := { s.dev.clk with mpDown := false } }) ∧
    (s.dev.bootState ≠ 4 → ∃ t, exec .fwLimit s = .next t ∧ s.OnlyChanges t [] s.dev) ∧
    (s.dev.bootState = 4 → ∃ t, exec .fwLimit s = .next t ∧ t.dev.get rRST_CAUSE fRST_CAUSE_KIND = 2 ∧
      t.dev.get rRST_CAUSE fRST_CAUSE_SOURCE = 4 ∧ t.dev.bit rBOOT_ERR fBOOT_ERR_FW_TIMEOUT = true)) ∧
  (∀ s (len : Fin 512), s.Runs → 1 ≤ len.val → len.val ≤ 256 →
    (s.dev.bootState = 5 ∨ s.dev.bootState = 6 ∨ s.dev.bootState = 7 → s.dev.rdN rBOOT_FLASH_ADDR + len.val ≤ 0x2000000 →
      (∃ t, exec (.flashRead len false) s = .next t ∧ t.flash = s.flash ∧
        t.dev.flashData.take len.val = loadBytes flashByte s.flash (s.dev.rdN rBOOT_FLASH_ADDR) len.val ∧
        t.dev.get rBOOT_FLASH_CMD fBOOT_FLASH_CMD_RESULT = 0) ∧
      (s.dev.copyTouched (s.dev.rdN rBOOT_FLASH_ADDR) len.val = false → ∃ t, exec (.flashProgram len false) s = .next t ∧
        t.flash = programFlash s.flash (s.dev.rdN rBOOT_FLASH_ADDR) (s.dev.flashData.take len.val) ∧ t.mem = s.mem)) ∧
    (s.dev.bootState < 5 ∨ s.dev.copyTouched (s.dev.rdN rBOOT_FLASH_ADDR) len.val = true →
      ∃ t, exec (.flashProgram len false) s = .next t ∧ t.flash = s.flash ∧ t.dev.get rBOOT_FLASH_CMD fBOOT_FLASH_CMD_RESULT = 1)) ∧
  (∀ s, s.Runs → (s.dev.bootState = 5 ∨ s.dev.bootState = 6 ∨ s.dev.bootState = 7) → s.dev.rdN rBOOT_FLASH_ADDR < 0x2000000 →
    (s.dev.copyTouched (s.dev.rdN rBOOT_FLASH_ADDR / 0x10000 * 0x10000) 0x10000 = false → ∃ t, exec (.flashErase false) s = .next t ∧
      t.dev.get rBOOT_FLASH_CMD fBOOT_FLASH_CMD_RESULT = 0 ∧
      ∀ a, sget flashByte t.flash a = (if a / 0x10000 = s.dev.rdN rBOOT_FLASH_ADDR / 0x10000 then 0xFF#8 else sget flashByte s.flash a)) ∧
    (s.dev.copyTouched (s.dev.rdN rBOOT_FLASH_ADDR / 0x10000 * 0x10000) 0x10000 = true → ∃ t, exec (.flashErase false) s = .next t ∧
      t.flash = s.flash ∧ t.dev.get rBOOT_FLASH_CMD fBOOT_FLASH_CMD_RESULT = 1)) ∧
  (∀ s m c, s.Ready m 0x0C08 c → c.isOwner = true → c.u8 0 = 0 → c.zero 2 2 = true → ∀ err,
    ∃ t, exec (.diagBoot m err) s = .next t ∧ s.OnlyAnswers t m ∧
      t.Done m 0 ([rBOOT_STATUS, rBOOT_ERR, rBOOT_TIME, rBOOT_SEQ_LO, rBOOT_SEQ_HI].flatMap (fun a => leB 4 (s.dev.rdN a))))

/-- Event counters (21_counters_test.md R610-R614) and the commands CNT_CONFIG, CNT_READ and CNT_SNAPSHOT (R628). -/
def Obligations.CountersAreConfiguredAndRead : Prop :=
  (∀ s (n : Fin 4096) (val : Word), s.Runs →
    (cntBad val.toNat (s.dev.profile (fieldOf val.toNat fCNT_CFG_FILTER)) = true → ∃ t, exec (.cntCfgWrite n val) s = .next t ∧
      t.dev.bit rCNT_ERR fCNT_ERR_CFG_BAD = true ∧ s.OnlyChanges t [rCNT_ERR] s.dev) ∧
    (cntBad val.toNat (s.dev.profile (fieldOf val.toNat fCNT_CFG_FILTER)) = false → ∃ t, exec (.cntCfgWrite n val) s = .next t ∧
      t.dev.rdN (rCNT_CFG n.val) = s.dev.stored (rCNT_CFG n.val) val.toNat ∧ s.OnlyChanges t [rCNT_CFG n.val] s.dev)) ∧
  (∀ s (p : Fin 64) (w : Fin 5) (val : Word), s.Runs →
    (p.val = 0 → ∃ t, exec (.cntFltWrite p w val) s = .next t ∧ s.OnlyChanges t [] s.dev) ∧
    (p.val ≠ 0 → w.val ≠ 0 → ∃ t, exec (.cntFltWrite p w val) s = .next t ∧
      t.dev.rdN (rCNT_FLT_CTRL p.val + 4 * (w.val + 1)) = s.dev.stored (rCNT_FLT_CTRL p.val + 4 * (w.val + 1)) val.toNat ∧
      s.OnlyChanges t [rCNT_FLT_CTRL p.val + 4 * (w.val + 1)] s.dev) ∧
    (p.val ≠ 0 → w.val = 0 → s.dev.profileClash p.val val.toNat = false → ∃ t, exec (.cntFltWrite p w val) s = .next t ∧
      t.dev.rdN (rCNT_FLT_CTRL p.val) = s.dev.stored (rCNT_FLT_CTRL p.val) val.toNat ∧ s.OnlyChanges t [rCNT_FLT_CTRL p.val] s.dev) ∧
    (p.val ≠ 0 → w.val = 0 → s.dev.profileClash p.val val.toNat = true → ∃ t, exec (.cntFltWrite p w val) s = .next t ∧
      t.dev.bit rCNT_ERR fCNT_ERR_CFG_BAD = true ∧ s.OnlyChanges t [rCNT_ERR] s.dev)) ∧
  (∀ s (val : Word), s.Runs → fieldOf val.toNat fCNT_CLEAR_FIRST ≤ fieldOf val.toNat fCNT_CLEAR_LAST →
    ∃ t, exec (.cntClear val) s = .next t ∧ t.dev.bit rCNT_CLEAR fCNT_CLEAR_GO = false ∧ ∀ c < 4096,
      (fieldOf val.toNat fCNT_CLEAR_FIRST ≤ c → c ≤ fieldOf val.toNat fCNT_CLEAR_LAST →
        t.dev.rd64 (rEVC_LO c) (rEVC_HI c) = 0 ∧ nbit (t.dev.rdN (rCNT_OVF (c / 32))) (c % 32) = false) ∧
      (c < fieldOf val.toNat fCNT_CLEAR_FIRST ∨ fieldOf val.toNat fCNT_CLEAR_LAST < c →
        t.dev.rd64 (rEVC_LO c) (rEVC_HI c) = s.dev.rd64 (rEVC_LO c) (rEVC_HI c) ∧
        nbit (t.dev.rdN (rCNT_OVF (c / 32))) (c % 32) = nbit (s.dev.rdN (rCNT_OVF (c / 32))) (c % 32))) ∧
  (∀ s m c, s.Ready m 0x0B01 c → c.isOwner = true → c.u16 0 < 4096 → c.u8 2 = 0 → c.zero 3 1 = true → c.endsAt 8 = true →
    badValue (rCNT_CFG 0) (c.u32 4) = false →
    (cntBad (c.u32 4) (s.dev.profile (fieldOf (c.u32 4) fCNT_CFG_FILTER)) = false → ∃ t, exec (.cntConfig m) s = .next t ∧
      t.Done m 0 [] ∧ t.dev.rdN (rCNT_CFG (c.u16 0)) = c.u32 4) ∧
    (cntBad (c.u32 4) (s.dev.profile (fieldOf (c.u32 4) fCNT_CFG_FILTER)) = true → ∃ t, exec (.cntConfig m) s = .next t ∧
      t.Done m resBadParam [] ∧ s.OnlyAnswers t m)) ∧
  (∀ s m c, s.Ready m 0x0B02 c → c.isOwner = true → 1 ≤ c.u8 2 → c.u8 2 ≤ 128 → c.u16 0 + c.u8 2 ≤ 4096 → c.endsAt 4 = true →
    (c.u8 3 = 0 → ∃ t, exec (.cntRead m) s = .next t ∧ s.OnlyAnswers t m ∧
      t.Done m 0 (leB 8 (s.dev.rd64 rSNAP_TICK_LO rSNAP_TICK_HI) ++
        (List.range (c.u8 2)).flatMap (fun i => leB 8 (s.dev.rd64 (rSNAP_LO (c.u16 0 + i)) (rSNAP_HI (c.u16 0 + i)))) ++
        stickyBytes (fun n => nbit (s.dev.rdN (rSNAP_OVF (n / 32))) (n % 32)) (c.u16 0) (c.u8 2))) ∧
    (c.u8 3 = 1 → ∃ t, exec (.cntRead m) s = .next t ∧ s.OnlyAnswers t m ∧
      t.Done m 0 (leB 8 (s.dev.rd64 rSNAP_TICK_LO rSNAP_TICK_HI) ++
        (List.range (c.u8 2)).flatMap (fun i => leB 8 (s.dev.rd64 (rEVC_LO (c.u16 0 + i)) (rEVC_HI (c.u16 0 + i)))) ++
        stickyBytes (fun n => nbit (s.dev.rdN (rCNT_OVF (n / 32))) (n % 32)) (c.u16 0) (c.u8 2)))) ∧
  (∀ s m c, s.Ready m 0x0B03 c → c.isOwner = true → c.u8 0 = 0 → c.zero 1 7 = true → c.endsAt 8 = true →
    ∃ t, exec (.cntSnapshot m) s = .next t ∧ t.Done m 0 (leB 8 s.dev.nextEffect) ∧
      t.dev.tick = (if s.dev.cutOff then { s.dev.tick with late := Nat.lor s.dev.tick.late 1 }
        else { s.dev.tick with onTime := Nat.lor s.dev.tick.onTime 1 }))

/-- Sampling (21_counters_test.md R615-R618), the march test (R620-R622, R627) and the commands (R628). -/
def Obligations.SamplesAndMarchTestsRun : Prop :=
  (∀ s (u : Fin 16) (val : Word), s.Runs →
    (s.dev.smpBad u.val val.toNat = true → ∃ t, exec (.cntSmpCtrlWrite u val) s = .next t ∧
      t.dev.bit rCNT_ERR fCNT_ERR_SMP_CFG = true ∧ s.OnlyChanges t [rCNT_ERR] s.dev) ∧
    (s.dev.smpBad u.val val.toNat = false → ∃ t, exec (.cntSmpCtrlWrite u val) s = .next t ∧
      t.dev.rdN (rCNT_SMP_CTRL u.val) = s.dev.stored (rCNT_SMP_CTRL u.val) val.toNat ∧
      (nbit val.toNat 31 = true → t.dev.rdN (rCNT_SMP_REMAIN u.val) = s.dev.smpPeriod u.val) ∧
      s.OnlyChanges t [rCNT_SMP_CTRL u.val, rCNT_SMP_REMAIN u.val] s.dev)) ∧
  (∀ s (u : Fin 16) (skid : Fin 64) (pc : BitVec 64), s.Runs →
    (∀ busy, s.dev.bit (rCNT_SMP_CTRL u.val) fCNT_SMP_CTRL_EN = false ∨ s.dev.rdN (rCNT_SMP_REMAIN u.val) ≠ 0 →
      ∃ t, exec (.sampleTrigger u skid pc busy) s = .next t ∧ s.OnlyChanges t [] s.dev) ∧
    (s.dev.bit (rCNT_SMP_CTRL u.val) fCNT_SMP_CTRL_EN = true → s.dev.rdN (rCNT_SMP_REMAIN u.val) = 0 →
      (∃ t, exec (.sampleTrigger u skid pc true) s = .next t ∧ t.dev.rdN (rCNT_SMP_REMAIN u.val) = s.dev.smpPeriod u.val ∧
        s.Counts t (rCNT_SMP_LOST u.val) 1 ∧ s.OnlyChanges t [rCNT_SMP_REMAIN u.val, rCNT_SMP_LOST u.val] s.dev) ∧
      (s.dev.get (rCNT_CFG (s.dev.get (rCNT_SMP_CTRL u.val) fCNT_SMP_CTRL_COUNTER)) fCNT_CFG_EVENT / 256 = 5 →
        s.dev.bit (rCNT_SMP_CTRL u.val) fCNT_SMP_CTRL_IRQ = false → (s.dev.fifo u.val).length < 8 →
        ∃ t, exec (.sampleTrigger u skid pc false) s = .next t ∧ t.dev.rdN (rCNT_SMP_REMAIN u.val) = s.dev.smpPeriod u.val ∧
          t.dev.fifo u.val = s.dev.fifo u.val ++
            [⟨2 ^ 31 + min 8 skid.val, pc.toNat % 2 ^ 32, pc.toNat / 2 ^ 32, s.dev.tickNow % 2 ^ 32⟩]))) ∧
  (∀ s (u : Fin 16), s.Runs →
    (s.dev.fifo u.val = [] → ∃ t, exec (.cntSmpPop u) s = .next t ∧ (∀ i < 4, t.dev.rdN (rCNT_SMP_DATA u.val i) = 0) ∧
      s.OnlyChanges t ((List.range 4).map (rCNT_SMP_DATA u.val)) s.dev) ∧
    (∀ x q, s.dev.fifo u.val = x :: q → ∃ t, exec (.cntSmpPop u) s = .next t ∧ t.dev.fifo u.val = q ∧
      t.dev.rdN (rCNT_SMP_DATA u.val 0) = x.w0 % 2 ^ 32 ∧ t.dev.rdN (rCNT_SMP_DATA u.val 1) = x.w1 % 2 ^ 32 ∧
      t.dev.rdN (rCNT_SMP_DATA u.val 2) = x.w2 % 2 ^ 32 ∧ t.dev.rdN (rCNT_SMP_DATA u.val 3) = x.w3 % 2 ^ 32)) ∧
  (∀ s m c, s.Ready m 0x0B04 c → c.isOwner = true → c.u8 0 < 16 → c.u8 1 = 0 → c.zero 2 2 = true → c.endsAt 4 = true →
    (s.dev.fifo (c.u8 0)).length ≤ 8 → ∃ t, exec (.cntSample m) s = .next t ∧ t.dev.fifo (c.u8 0) = [] ∧
      t.Done m 0 ((s.dev.fifo (c.u8 0)).flatMap (fun x => leB 4 x.w0 ++ leB 4 x.w1 ++ leB 4 x.w2 ++ leB 4 x.w3))) ∧
  (∀ s (val : Word) v, s.Runs → v = Nat.lor val.toNat (2 ^ 31) →
    (s.dev.cnt.run ≠ none ∨ s.dev.marchOk v = false → ∃ t, exec (.mtestStart val) s = .next t ∧
      t.dev.bit rMTEST_STATUS fMTEST_STATUS_REFUSED = true ∧ t.dev.cnt = s.dev.cnt) ∧
    (s.dev.cnt.run = none → s.dev.marchOk v = true → ∃ t, exec (.mtestStart val) s = .next t ∧
      t.dev.cnt = { s.dev.cnt with run := some v } ∧ t.dev.bit rMTEST_CTRL fMTEST_CTRL_BUSY = true ∧
      t.dev.bit rMTEST_STATUS fMTEST_STATUS_DONE = false ∧ s.Counts t (rMTEST_CNT 0) 1)) ∧
  (∀ s finds again, s.Runs →
    (s.dev.cnt.run = none → ∃ t, exec (.mtestDone finds again) s = .next t ∧ s.OnlyChanges t [] s.dev) ∧
    (s.dev.cnt.run ≠ none → ∃ t, exec (.mtestDone finds again) s = .next t ∧ t.dev.cnt.run = none ∧
      t.dev.bit rMTEST_CTRL fMTEST_CTRL_BUSY = false ∧ t.dev.bit rMTEST_STATUS fMTEST_STATUS_DONE = true ∧
      ((∀ f ∈ finds, f.op = 15) → t.dev.bit rMTEST_STATUS fMTEST_STATUS_PASS = true))) ∧
  (∀ s, s.Runs →
    (s.dev.cnt.mtLog = [] → ∃ t, exec .mtestLogPop s = .next t ∧ (∀ i < 4, t.dev.rdN (rMTEST_LOG_DATA i) = 0) ∧
      s.OnlyChanges t ((List.range 4).map rMTEST_LOG_DATA) s.dev) ∧
    (∀ x q, s.dev.cnt.mtLog = x :: q → ∃ t, exec .mtestLogPop s = .next t ∧ t.dev.cnt = { s.dev.cnt with mtLog := q } ∧
      ∀ i < 4, t.dev.rdN (rMTEST_LOG_DATA i) = x.words.getD i 0 % 2 ^ 32)) ∧
  (∀ s m c, s.Ready m 0x0C09 c → c.isOwner = true → badValue rMTEST_CTRL (c.u32 0) = false → c.endsAt 4 = true →
    (s.dev.cnt.run = none → s.dev.marchOk (Nat.lor (c.u32 0) (2 ^ 31)) = true → ∃ t, exec (.diagMtest m) s = .next t ∧
      t.dev.cnt.run = some (Nat.lor (c.u32 0) (2 ^ 31)) ∧ (∀ x ∈ t.dev.glk.cmds, x.mbx = m.val → x.started = true)) ∧
    (s.dev.cnt.run ≠ none → ∃ t, exec (.diagMtest m) s = .next t ∧ t.Done m resBusy [] ∧ s.OnlyAnswers t m))

/-- Temperature (22_electrical.md R637, R645), JTAG (R643) and DIAG_PIN (R646). The challenge is a free value (log entry 3). -/
def Obligations.TheDieIsWatchedAndGuarded : Prop :=
  (∀ s (temp : BitVec 16), s.Runs →
    (∃ t, exec (.tempReading temp) s = .next t ∧ t.dev.get rPIN_TEMP fPIN_TEMP_TJ = temp.toNat ∧
      (s.dev.pin.read = false → t.dev.get rPIN_TEMP fPIN_TEMP_PEAK = temp.toNat) ∧
      (s.dev.pin.read = true → sval 16 (t.dev.get rPIN_TEMP fPIN_TEMP_PEAK) =
        max (sval 16 (s.dev.get rPIN_TEMP fPIN_TEMP_PEAK)) (sval 16 temp.toNat)) ∧
      t.dev.bit rPIN_STATUS fPIN_STATUS_THERM_TRIP = (if s.dev.bit rPIN_STATUS fPIN_STATUS_THERM_TRIP then
        decide (115 ≤ sval 16 temp.toNat) else decide (125 ≤ sval 16 temp.toNat))) ∧
    (s.dev.bit rPIN_STATUS fPIN_STATUS_THERM_TRIP = false → 125 ≤ sval 16 temp.toNat →
      ∃ t, exec (.tempReading temp) s = .next t ∧ t.dev.bit rPIN_ERR fPIN_ERR_THERM_TRIP = true)) ∧
  (∀ s, s.Runs →
    (3 ≤ s.dev.pin.fails → ∃ t, exec .jtagChallenge s = .next t ∧ s.OnlyChanges t [] s.dev) ∧
    (s.dev.pin.fails < 3 → ∃ t ch, exec .jtagChallenge s = .next t ∧ ch.length = 32 ∧ t.dev.pin = { s.dev.pin with challenge := some ch } ∧
      t.dev.out = [⟨.jtag, 0, [], ch⟩])) ∧
  (∀ s sig, s.Runs → ∃ t, exec (.jtagResponse sig) s = .next t ∧
    (s.dev.jtagOk sig = true → t.dev.bit rPIN_STATUS fPIN_STATUS_JTAG_UNLOCKED = true ∧ t.dev.bit rSEC_STATUS fSEC_STATUS_CAUSE_CMD = true) ∧
    (s.dev.jtagOk sig = false → t.dev.pin = { s.dev.pin with fails := s.dev.pin.fails + 1 } ∧
      t.dev.bit rPIN_ERR fPIN_ERR_JTAG_FAIL = true ∧
      t.dev.bit rPIN_STATUS fPIN_STATUS_JTAG_UNLOCKED = s.dev.bit rPIN_STATUS fPIN_STATUS_JTAG_UNLOCKED)) ∧
  (∀ s m c, s.Ready m 0x0C0A c → c.isOwner = true → c.u8 0 = 0xFF → c.u8 1 = 0 → c.u8 2 = 0 → c.endsAt 3 = true →
    ∃ t, exec (.diagPin m) s = .next t ∧ s.OnlyAnswers t m ∧
      t.Done m 0 ([rPIN_STATUS, rPIN_ERR, rPIN_TEMP].flatMap (fun a => leB 4 (s.dev.rdN a))))

/-- A step takes the command at the front of the queue, in order (19_gellen.md R557, R565); idling on an empty queue is the
model's choice (log entry 1). -/
def Obligations.AStepRunsTheFrontCommand : Prop :=
  (∀ s c rest, s.pending = c :: rest → step s = exec c { s with pending := rest }) ∧
  (∀ s, s.pending = [] → step s = .next s)

/-- The machine right after reset (20_clocks_boot.md R588, R598; 19_gellen.md R552, R565; 21_counters_test.md R624). What
unwritten flash reads as is the model's choice (log entry 5). -/
def Obligations.ResetLeavesWhatTheRegisterMapsName : Prop :=
  State.reset.Inv ∧ (∀ a, State.reset.dev.rd a = regReset a) ∧ State.reset.pending = [] ∧
  (∀ a, sget zeroByte State.reset.mem a = 0#8) ∧ (∀ a, sget flashByte State.reset.flash a = 0xFF#8) ∧
  State.reset.dev.clk.sup = .ringStart ∧ State.reset.dev.bootState = 0 ∧
  (∀ p < 2, State.reset.dev.portState p = 0) ∧ (∀ m < 64, State.reset.dev.get (rMBX_STATUS m) fMBX_STATUS_STATE = 0) ∧
  State.reset.dev.tickNow = 0 ∧
  (∀ k < 48, State.reset.dev.treeEn k = false ∧ State.reset.dev.bit (rTREE_LINE_STATUS k) fTREE_LINE_STATUS_LASER_ON = false) ∧
  (∀ c < 4096, State.reset.dev.rd64 (rEVC_LO c) (rEVC_HI c) = 0)

/-- Every step completes, and keeps both byte memories canonical and every reply of the step delivered (19_gellen.md R564, R565;
20_clocks_boot.md R602, R603). -/
def Obligations.EveryStepCompletesAndKeepsTheInvariant : Prop :=
  ∀ s : State, s.Inv → ∃ t, step s = .next t ∧ t.Inv

/-- With every domain clock stopped nothing happens but what self-timed logic, the monitors and the pins do (20_clocks_boot.md
R588, R589). -/
def Obligations.StoppedClocksHoldTheMachine : Prop :=
  ∀ s : State, s.dev.clocked = false → s.dev.replies = [] → s.dev.wipes = [] →
    (∀ i, selfTimed i = false → ∃ t, exec i s = .next t ∧ s.OnlyChanges t [] s.dev) ∧
    (s.dev.ciph.zeroing = true → ∃ t, exec .zeroisationDone s = .next t ∧ t.dev.bit rSEC_STATUS fSEC_STATUS_ZEROISED = true ∧
      s.OnlyChanges t [rSEC_STATUS] s.dev.eraseStores)

/-- FAILED (20_clocks_boot.md R590): the latches of R589 are the lasers' outputs, TIME_OK, the zeroisation and the stopped
clocks. -/
def Obligations.FailedHoldsUntilPowerFalls : Prop :=
  ∀ s : State, s.dev.clk.sup = .failed → s.dev.bit rPIN_STATUS fPIN_STATUS_CLOCK_FAIL_L = false → s.dev.replies = [] →
    s.dev.wipes = [] →
    (∀ i, i ≠ .pwrGoodFall → i ≠ .supplyUndervoltage → ∃ t, exec i s = .next t ∧ t.dev.clk.sup = .failed ∧
      t.dev.bit rPIN_STATUS fPIN_STATUS_CLOCK_FAIL_L = false ∧ t.dev.clocked = false ∧
      (∀ k < 48, t.dev.bit (rTREE_LINE_STATUS k) fTREE_LINE_STATUS_LASER_ON = s.dev.bit (rTREE_LINE_STATUS k) fTREE_LINE_STATUS_LASER_ON) ∧
      t.dev.cages = s.dev.cages ∧ t.dev.bit rPIN_STATUS fPIN_STATUS_TIME_OK = s.dev.bit rPIN_STATUS fPIN_STATUS_TIME_OK ∧
      t.dev.bit rSEC_STATUS fSEC_STATUS_CAUSE_CLOCK = s.dev.bit rSEC_STATUS fSEC_STATUS_CAUSE_CLOCK ∧
      (s.dev.bit rSEC_STATUS fSEC_STATUS_ZEROISED = true → t.dev.bit rSEC_STATUS fSEC_STATUS_ZEROISED = true) ∧
      (s.dev.ciph.zeroing = false → t.dev.ciph = s.dev.ciph)) ∧
    (∃ t, exec .resetL s = .next t ∧ s.OnlyChanges t [] s.dev) ∧
    (∃ t, exec .pwrGoodFall s = .next t ∧ t.dev.clk.sup = .off)

/-- The ring supervisor's table (20_clocks_boot.md R588). -/
def Obligations.TheSupervisorFollowsItsTable : Prop :=
  ∀ s : State, s.dev.replies = [] → s.dev.wipes = [] → ∀ period : Fin 65536,
    (s.dev.clk.sup = .off → ∃ t, exec .pwrGoodRise s = .next t ∧ t.dev.clk.sup = .ringStart ∧ t.dev.clk.trying = true) ∧
    (s.dev.clk.sup = .ringStart →
      (∃ t, exec (.ringStable period) s = .next t ∧ t.dev.clk.sup = .run ∧ t.dev.bit rCLK_STATUS fCLK_STATUS_AO_SRC = false) ∧
      (s.dev.hostLost = false → s.dev.clk.trying = true → ∃ t, exec .ringAttemptFail s = .next t ∧ t.dev.clk = s.dev.clk ∧
        t.dev.bit rCLK_ERR fCLK_ERR_RING_FAIL = true) ∧
      (∀ r : Fin 2, s.dev.armed = true → s.dev.refValid r.val = true → s.dev.refValid (1 - r.val) = false →
        ∃ t, exec (.refInvalid r) s = .next t ∧ t.dev.clk.sup = .void)) ∧
    (s.dev.clk.sup = .run →
      (s.dev.hostLost = false → s.dev.refValid 0 = true ∨ s.dev.refValid 1 = true →
        nbit (s.dev.rdN rGLK_ALERT_MASK) 0x13 = false → ∃ t, exec (.ringOutOfRange period) s = .next t ∧ t.dev.clk.sup = .ringStart ∧
          t.dev.bit rCLK_STATUS fCLK_STATUS_AO_SRC = true ∧ t.dev.bit rCLK_ERR fCLK_ERR_RING_RESTART = true ∧
          ∃ a log, t.dev.glk.log = a :: log ∧ a.code = 0x1307) ∧
      (s.dev.hostLost = true → ∃ t, exec (.ringOutOfRange period) s = .next t ∧ t.dev.clk.sup = .void)) ∧
    (s.dev.clk.sup = .void → s.dev.clk.trying = true →
      (s.dev.get rCLK_VOID fCLK_VOID_VOID_COUNT < 255 → s.dev.clk.attempts ≤ 8 → ∃ t, exec (.ringStable period) s = .next t ∧
        t.dev.clk.sup = .run ∧ t.dev.get rRST_CAUSE fRST_CAUSE_KIND = 2 ∧ t.dev.get rRST_CAUSE fRST_CAUSE_SOURCE = 2 ∧
        t.dev.get rCLK_VOID fCLK_VOID_LAST_ATTEMPTS = s.dev.clk.attempts ∧
        t.dev.get rCLK_VOID fCLK_VOID_VOID_COUNT = s.dev.get rCLK_VOID fCLK_VOID_VOID_COUNT + 1) ∧
      (s.dev.clk.attempts = 8 → ∃ t, exec .ringAttemptFail s = .next t ∧ t.dev.clk.sup = .failed ∧
        t.dev.bit rPIN_STATUS fPIN_STATUS_CLOCK_FAIL_L = false)) ∧
    (∃ t, exec .pwrGoodFall s = .next t ∧ t.dev.clk.sup = .off)

/-- The frame of every command over the queue and the flash (20_clocks_boot.md R602, R603). -/
def Obligations.TheQueueAndTheFlashAreKept : Prop :=
  ∀ s i, ∃ t, exec i s = .next t ∧ t.pending = s.pending ∧ (flashWriter i = false → t.flash = s.flash)

/-- Commands open to the owner alone (19_gellen.md R567, R569). -/
def Obligations.OwnerCommandsRefuseTenants : Prop :=
  ∀ s m i code c n, OwnerCommand m i code → s.Ready m code c → c.caller = some n →
    ∃ t, exec i s = .next t ∧ t.Done m resNotPermitted [] ∧ s.OnlyAnswers t m

/-- When a mailbox command begins (19_gellen.md R565, R566; 10_cipher.md R307). -/
def Obligations.MailboxCommandsWaitTheirTurn : Prop :=
  ∀ s m i code, (OwnerCommand m i code ∨ SharedCommand m i code) → s.Runs →
    (s.dev.glk.cmds.find? (fun x => x.mbx == m.val && x.code == code && !x.started) = none →
      ∃ t, exec i s = .next t ∧ s.OnlyChanges t [] s.dev) ∧
    (s.dev.bit rSEC_STATUS fSEC_STATUS_ZEROISED = false → mbxConcurrent ≤ (s.dev.glk.cmds.filter (fun x => x.started)).length →
      ∃ t, exec i s = .next t ∧ s.OnlyChanges t [] s.dev) ∧
    (∀ c, s.dev.glk.cmds.find? (fun x => x.mbx == m.val && x.code == code && !x.started) = some c →
      s.dev.bit rSEC_STATUS fSEC_STATUS_ZEROISED = true → c.whileZeroised = false →
      ∃ t, exec i s = .next t ∧ t.Done m resNotReady [] ∧ s.OnlyAnswers t m)

/-- The access codes of R9 (00_scope.md), at registers that only store. -/
def Obligations.RegisterWritesObeyTheirAccessCodes : Prop :=
  ∀ s (addr val : Word) b k r, s.Runs → 0x10000 ≤ addr.toNat → addr.toNat < 0x40000 → addr.toNat ≠ rRST_CTRL →
    addr.toNat ≠ rRST_BLOCK → addr.toNat ≠ rBOOT_FLASH_CMD → s.dev.bootState ≠ 7 → regFind addr.toNat = some (b, k, r) →
    Nat.land r.rw r.w1c = 0 → Nat.land r.rw r.w1s = 0 → Nat.land r.w1c r.w1s = 0 →
    ∃ t, exec (.registerWrite addr val) s = .next t ∧ ∀ i < 32,
      nbit (t.dev.rdN addr.toNat) i =
        (if nbit r.rw i then nbit val.toNat i
         else if nbit r.w1c i && nbit val.toNat i then false
         else if nbit r.w1s i && nbit val.toNat i then true
         else nbit (s.dev.rdN addr.toNat) i)
end

