-- ==== Sys2Proof/Laws/Sparse.lean ====
section
/-! SUPPORT. The sparse maps: what a read gives after a write, and that every operation keeps the canonical form. -/

namespace Sys2Proof.Machine

variable {α : Type}

/-- A value put at a key is read back. -/
theorem sget_sput_same (dflt : Nat → α) (m : List (Nat × α)) (k : Nat) (v : α) : sget dflt (sput m k v) k = v := by
  induction m with
  | nil => simp [sput, sget]
  | cons e m ih =>
    obtain ⟨j, w⟩ := e
    unfold sput
    split
    · simp [sget]
    · split
      · simp [sget]
      · next h => simp [sget, h, ih]

/-- A value put at a key leaves the other keys alone. -/
theorem sget_sput_ne (dflt : Nat → α) (m : List (Nat × α)) {k j : Nat} (v : α) (h : j ≠ k) :
    sget dflt (sput m k v) j = sget dflt m j := by
  induction m with
  | nil => simp [sput, sget, Ne.symm h]
  | cons e m ih =>
    obtain ⟨i, w⟩ := e
    unfold sput
    split
    · simp [sget, Ne.symm h]
    · split
      · next hk => subst hk; simp [sget, Ne.symm h]
      · simp [sget, ih]

/-- An unlisted key reads its default. -/
theorem sget_sdel_same (dflt : Nat → α) (m : List (Nat × α)) (k : Nat) : sget dflt (sdel m k) k = dflt k := by
  induction m with
  | nil => rfl
  | cons e m ih =>
    obtain ⟨j, w⟩ := e
    unfold sdel
    split
    · exact ih
    · next h => simp [sget, h, ih]

/-- Unlisting a key leaves the other keys alone. -/
theorem sget_sdel_ne (dflt : Nat → α) (m : List (Nat × α)) {k j : Nat} (h : j ≠ k) :
    sget dflt (sdel m k) j = sget dflt m j := by
  induction m with
  | nil => rfl
  | cons e m ih =>
    obtain ⟨i, w⟩ := e
    unfold sdel
    split
    · next hk => subst hk; simp [sget, Ne.symm h, ih]
    · simp [sget, ih]

/-- A value written at a key is read back. -/
@[simp] theorem sget_sset_same [DecidableEq α] (dflt : Nat → α) (m : List (Nat × α)) (k : Nat) (v : α) :
    sget dflt (sset dflt m k v) k = v := by
  unfold sset
  split
  · next h => rw [sget_sdel_same, h]
  · exact sget_sput_same ..

/-- A write leaves the other keys alone. -/
theorem sget_sset_ne [DecidableEq α] (dflt : Nat → α) (m : List (Nat × α)) {k j : Nat} (v : α) (h : j ≠ k) :
    sget dflt (sset dflt m k v) j = sget dflt m j := by
  unfold sset
  split
  · exact sget_sdel_ne _ _ h
  · exact sget_sput_ne _ _ _ h

/-- A read after a write, key by key. -/
theorem sget_sset [DecidableEq α] (dflt : Nat → α) (m : List (Nat × α)) (k j : Nat) (v : α) :
    sget dflt (sset dflt m k v) j = if j = k then v else sget dflt m j := by
  split
  · next h => subst h; exact sget_sset_same ..
  · next h => exact sget_sset_ne _ _ _ h

/-- A key above the bound of a canonical map is not the key of its first entry. -/
theorem swfFrom_mono [DecidableEq α] (dflt : Nat → α) {m : List (Nat × α)} {lo lo' : Nat} (h : lo' ≤ lo)
    (w : swfFrom dflt lo m = true) : swfFrom dflt lo' m = true := by
  cases m with
  | nil => rfl
  | cons e m =>
    obtain ⟨k, v⟩ := e
    simp only [swfFrom, Bool.and_eq_true, decide_eq_true_eq] at w ⊢
    exact ⟨⟨by omega, w.1.2⟩, w.2⟩

theorem swfFrom_sput [DecidableEq α] (dflt : Nat → α) {m : List (Nat × α)} {lo k : Nat} {v : α} (hk : lo ≤ k)
    (hv : v ≠ dflt k) (w : swfFrom dflt lo m = true) : swfFrom dflt lo (sput m k v) = true := by
  induction m generalizing lo with
  | nil => simp [sput, swfFrom, hk, hv]
  | cons e m ih =>
    obtain ⟨j, x⟩ := e
    simp only [swfFrom, Bool.and_eq_true, decide_eq_true_eq] at w
    unfold sput
    split
    · simp only [swfFrom, Bool.and_eq_true, decide_eq_true_eq]
      exact ⟨⟨hk, hv⟩, ⟨by omega, w.1.2⟩, w.2⟩
    · split
      · next h => subst h; simp only [swfFrom, Bool.and_eq_true, decide_eq_true_eq]; exact ⟨⟨hk, hv⟩, w.2⟩
      · simp only [swfFrom, Bool.and_eq_true, decide_eq_true_eq]
        exact ⟨w.1, ih (by omega) w.2⟩

theorem swfFrom_sdel [DecidableEq α] (dflt : Nat → α) {m : List (Nat × α)} {lo : Nat} (k : Nat)
    (w : swfFrom dflt lo m = true) : swfFrom dflt lo (sdel m k) = true := by
  induction m generalizing lo with
  | nil => rfl
  | cons e m ih =>
    obtain ⟨j, x⟩ := e
    simp only [swfFrom, Bool.and_eq_true, decide_eq_true_eq] at w
    unfold sdel
    split
    · exact swfFrom_mono dflt (by omega) (ih w.2)
    · simp only [swfFrom, Bool.and_eq_true, decide_eq_true_eq]
      exact ⟨w.1, ih w.2⟩

theorem swfFrom_filter [DecidableEq α] (dflt : Nat → α) {m : List (Nat × α)} {lo : Nat} (p : Nat × α → Bool)
    (w : swfFrom dflt lo m = true) : swfFrom dflt lo (m.filter p) = true := by
  induction m generalizing lo with
  | nil => rfl
  | cons e m ih =>
    obtain ⟨j, x⟩ := e
    simp only [swfFrom, Bool.and_eq_true, decide_eq_true_eq] at w
    rw [List.filter_cons]
    split
    · simp only [swfFrom, Bool.and_eq_true, decide_eq_true_eq]
      exact ⟨w.1, ih w.2⟩
    · exact swfFrom_mono dflt (by omega) (ih w.2)

/-- A write keeps the canonical form. -/
theorem swf_sset [DecidableEq α] (dflt : Nat → α) {m : List (Nat × α)} (k : Nat) (v : α) (w : swf dflt m = true) :
    swf dflt (sset dflt m k v) = true := by
  unfold sset swf at *
  split
  · exact swfFrom_sdel dflt k w
  · next h => exact swfFrom_sput dflt (Nat.zero_le _) h w

/-- Unlisting a key keeps the canonical form. -/
theorem swf_sdel [DecidableEq α] (dflt : Nat → α) {m : List (Nat × α)} (k : Nat) (w : swf dflt m = true) :
    swf dflt (sdel m k) = true := swfFrom_sdel dflt k w

/-- Keeping some entries keeps the canonical form. -/
theorem swf_skeep [DecidableEq α] (dflt : Nat → α) {m : List (Nat × α)} (p : Nat → Bool) (w : swf dflt m = true) :
    swf dflt (skeep p m) = true := swfFrom_filter dflt _ w

/-- Storing bytes keeps the canonical form. -/
theorem swf_storeBytes (dflt : Nat → Byte) (bs : List Byte) (a : Nat) {m : List (Nat × Byte)} (w : swf dflt m = true) :
    swf dflt (storeBytes dflt m a bs) = true := by
  induction bs generalizing a m with
  | nil => exact w
  | cons b bs ih => exact ih (a + 1) (swf_sset dflt a b w)

/-- Storing bytes leaves every address outside them alone. -/
theorem sget_storeBytes_out (dflt : Nat → Byte) (bs : List Byte) (a : Nat) (m : List (Nat × Byte)) {x : Nat}
    (h : x < a ∨ a + bs.length ≤ x) : sget dflt (storeBytes dflt m a bs) x = sget dflt m x := by
  induction bs generalizing a m with
  | nil => rfl
  | cons b bs ih =>
    simp only [List.length_cons] at h
    rw [storeBytes, ih (a + 1) _ (by omega)]
    exact sget_sset_ne _ _ _ (by omega)

/-- Bytes stored are read back, one by one. -/
theorem sget_storeBytes_in (dflt : Nat → Byte) (bs : List Byte) (a : Nat) (m : List (Nat × Byte)) {i : Nat}
    (h : i < bs.length) : sget dflt (storeBytes dflt m a bs) (a + i) = bs[i] := by
  induction bs generalizing a m i with
  | nil => simp at h
  | cons b bs ih =>
    rw [storeBytes]
    cases i with
    | zero =>
      show sget dflt (storeBytes dflt (sset dflt m a b) (a + 1) bs) a = b
      rw [sget_storeBytes_out dflt bs (a + 1) _ (Or.inl (Nat.lt_succ_self a)), sget_sset_same]
    | succ i =>
      have hi : i < bs.length := by simpa using h
      have := ih (a + 1) (sset dflt m a b) hi
      rw [show a + 1 + i = a + (i + 1) by omega] at this
      simpa using this

theorem loadBytes_eq (dflt : Nat → Byte) (m : List (Nat × Byte)) (a n : Nat) :
    loadBytes dflt m a n = (List.range n).map (fun i => sget dflt m (a + i)) := by
  induction n generalizing a with
  | zero => rfl
  | succ n ih =>
    rw [loadBytes, ih, List.range_succ_eq_map, List.map_cons, List.map_map]
    congr 1
    apply List.map_congr_left
    intro i _
    simp [Nat.add_assoc, Nat.add_comm 1]

/-- Bytes stored are read back whole. -/
theorem loadBytes_storeBytes (dflt : Nat → Byte) (bs : List Byte) (a : Nat) (m : List (Nat × Byte)) :
    loadBytes dflt (storeBytes dflt m a bs) a bs.length = bs := by
  rw [loadBytes_eq]
  apply List.ext_getElem
  · simp
  · intro i h1 h2
    simp [sget_storeBytes_in dflt bs a m h2]

/-- Reading keys a filter keeps gives what the map gave. -/
theorem sget_skeep (dflt : Nat → α) (p : Nat → Bool) (m : List (Nat × α)) {k : Nat} (h : p k = true) :
    sget dflt (skeep p m) k = sget dflt m k := by
  induction m with
  | nil => rfl
  | cons e m ih =>
    obtain ⟨j, v⟩ := e
    unfold skeep at *
    rw [List.filter_cons]
    split
    · simp [sget, ih]
    · next hj =>
      have : j ≠ k := fun e => hj (by simpa [e] using h)
      simp [sget, this, ih]

end Sys2Proof.Machine
end

