-- ==== Sys2Proof/Laws/Regs.lean ====
section
/-! SUPPORT. The registers: a read after a write of the whole word, of a field, of a sticky bit. -/

namespace Sys2Proof.Machine

/-! Words and fields. -/

/-- The width of a field. -/
theorem fieldOf_lt (w : Nat) (f : Fld) : fieldOf w f < 2 ^ (f.hi - f.lo + 1) := Nat.mod_lt _ (Nat.two_pow_pos _)

/-- A word as the part above a field's low bit and the part below it, and the same of the word with the field replaced. -/
theorem fieldPut_split (w v : Nat) (f : Fld) : ∃ x r, r < 2 ^ f.lo ∧ w = x * 2 ^ f.lo + r ∧
    fieldPut w f v = (2 ^ (f.hi - f.lo + 1) * (x / 2 ^ (f.hi - f.lo + 1)) + v % 2 ^ (f.hi - f.lo + 1)) * 2 ^ f.lo + r := by
  have hp : 0 < 2 ^ f.lo := Nat.two_pow_pos _
  refine ⟨w / 2 ^ f.lo, w % 2 ^ f.lo, Nat.mod_lt _ hp, ?_, ?_⟩
  · rw [Nat.mul_comm]; exact (Nat.div_add_mod _ _).symm
  · unfold fieldPut fieldOf
    generalize f.hi - f.lo + 1 = n
    generalize hx : w / 2 ^ f.lo = x
    generalize hr : w % 2 ^ f.lo = r
    have hw : w = x * 2 ^ f.lo + r := by rw [← hx, ← hr, Nat.mul_comm]; exact (Nat.div_add_mod _ _).symm
    have h4 : 2 ^ n * (x / 2 ^ n) = x - x % 2 ^ n := by have := Nat.div_add_mod x (2 ^ n); omega
    have hle : x % 2 ^ n * 2 ^ f.lo ≤ x * 2 ^ f.lo := Nat.mul_le_mul_right _ (Nat.mod_le _ _)
    rw [h4, hw, Nat.add_mul, Nat.sub_mul]; omega

theorem mul_add_div_eq {x r n : Nat} (h : r < n) : (x * n + r) / n = x := by
  rw [Nat.mul_comm, Nat.mul_add_div (by omega), Nat.div_eq_of_lt h, Nat.add_zero]

/-- A number with one field replaced holds the value in the field. -/
theorem fieldOf_fieldPut_same (w v : Nat) (f : Fld) : fieldOf (fieldPut w f v) f = v % 2 ^ (f.hi - f.lo + 1) := by
  obtain ⟨x, r, hr, -, e⟩ := fieldPut_split w v f
  rw [e, fieldOf, mul_add_div_eq hr, Nat.mul_add_mod, Nat.mod_mod]

/-- A field replaced leaves the bits above it alone. -/
theorem fieldPut_high (w v : Nat) {f : Fld} (h : f.lo ≤ f.hi) : fieldPut w f v / 2 ^ (f.hi + 1) = w / 2 ^ (f.hi + 1) := by
  obtain ⟨x, r, hr, hw, e⟩ := fieldPut_split w v f
  have e1 : f.hi + 1 = f.lo + (f.hi - f.lo + 1) := by omega
  have hq : v % 2 ^ (f.hi - f.lo + 1) < 2 ^ (f.hi - f.lo + 1) := Nat.mod_lt _ (Nat.two_pow_pos _)
  rw [e1, Nat.pow_add, ← Nat.div_div_eq_div_mul, ← Nat.div_div_eq_div_mul, e, mul_add_div_eq hr, hw, mul_add_div_eq hr,
    Nat.mul_comm, mul_add_div_eq hq]

/-- A field replaced leaves the bits below it alone. -/
theorem fieldPut_low (w v : Nat) (f : Fld) : fieldPut w f v % 2 ^ f.lo = w % 2 ^ f.lo := by
  obtain ⟨x, r, hr, hw, e⟩ := fieldPut_split w v f
  rw [e, hw, Nat.mul_comm, Nat.mul_add_mod, Nat.mul_comm x, Nat.mul_add_mod]

/-- Two fields of a word that share no bit. -/
def Fld.apart (f g : Fld) : Prop := (f.hi < g.lo ∧ f.lo ≤ f.hi) ∨ (g.hi < f.lo ∧ g.lo ≤ g.hi)

/-- A number with a field replaced stays below the word's bound. -/
theorem fieldPut_lt (w v : Nat) (f : Fld) (hw : w < 2 ^ 32) (hf : f.lo ≤ f.hi ∧ f.hi < 32) : fieldPut w f v < 2 ^ 32 := by
  have e32 : 2 ^ 32 = 2 ^ (f.hi + 1) * 2 ^ (31 - f.hi) := by rw [← Nat.pow_add]; congr 1; omega
  have h1 : fieldPut w f v / 2 ^ (f.hi + 1) < 2 ^ (31 - f.hi) := by
    rw [fieldPut_high w v hf.1]; exact Nat.div_lt_of_lt_mul (by rw [← e32]; exact hw)
  have h2 := (Nat.div_lt_iff_lt_mul (Nat.two_pow_pos _)).mp h1
  rw [e32, Nat.mul_comm]; exact h2

/-- A field reads its bits. -/
theorem testBit_fieldOf (w : Nat) (f : Fld) (i : Nat) :
    (fieldOf w f).testBit i = (decide (i < f.hi - f.lo + 1) && w.testBit (f.lo + i)) := by
  rw [fieldOf, Nat.testBit_mod_two_pow, Nat.testBit_div_two_pow, Nat.add_comm i]

/-- A field replaced leaves the fields apart from it alone. -/
theorem fieldOf_fieldPut_ne (w v : Nat) {f g : Fld} (h : f.apart g) : fieldOf (fieldPut w f v) g = fieldOf w g := by
  rcases h with ⟨h, hf⟩ | ⟨h, hg⟩
  · have e : g.lo = (f.hi + 1) + (g.lo - (f.hi + 1)) := by omega
    rw [fieldOf, fieldOf, e, Nat.pow_add, ← Nat.div_div_eq_div_mul, fieldPut_high w v hf, Nat.div_div_eq_div_mul]
  · have red : ∀ y, fieldOf y g = fieldOf (y % 2 ^ f.lo) g := by
      intro y
      apply Nat.eq_of_testBit_eq
      intro i
      rw [testBit_fieldOf, testBit_fieldOf, Nat.testBit_mod_two_pow]
      by_cases hi : i < g.hi - g.lo + 1
      · have : g.lo + i < f.lo := by omega
        simp [hi, this]
      · simp [hi]
    rw [red (fieldPut w f v), fieldPut_low, ← red]

/-! Registers. -/

/-- A register written is read back. -/
@[simp] theorem Dev.rd_wr_same (d : Dev) (a : Nat) (v : BitVec 32) : (d.wr a v).rd a = v := sget_sset_same ..

/-- A write of one register leaves the others alone. -/
theorem Dev.rd_wr_ne (d : Dev) {a b : Nat} (v : BitVec 32) (h : b ≠ a) : (d.wr a v).rd b = d.rd b := sget_sset_ne _ _ _ h

@[simp] theorem Dev.rd_wrN_same (d : Dev) (a v : Nat) : (d.wrN a v).rd a = BitVec.ofNat 32 v := Dev.rd_wr_same ..

theorem Dev.rd_wrN_ne (d : Dev) {a b : Nat} (v : Nat) (h : b ≠ a) : (d.wrN a v).rd b = d.rd b := Dev.rd_wr_ne d _ h

/-- A number written is read back as a 32-bit word. -/
@[simp] theorem Dev.rdN_wrN_same (d : Dev) (a v : Nat) : (d.wrN a v).rdN a = v % 2 ^ 32 := by
  simp [Dev.rdN]

theorem Dev.rdN_wrN_ne (d : Dev) {a b : Nat} (v : Nat) (h : b ≠ a) : (d.wrN a v).rdN b = d.rdN b := by
  rw [Dev.rdN, Dev.rd_wrN_ne d v h, Dev.rdN]

/-- A register is a 32-bit number. -/
theorem Dev.rdN_lt (d : Dev) (a : Nat) : d.rdN a < 2 ^ 32 := (d.rd a).isLt

theorem Dev.rd_put_ne (d : Dev) {a b : Nat} (f : Fld) (v : Nat) (h : b ≠ a) : (d.put a f v).rd b = d.rd b :=
  Dev.rd_wrN_ne d _ h

theorem Dev.rdN_put_ne (d : Dev) {a b : Nat} (f : Fld) (v : Nat) (h : b ≠ a) : (d.put a f v).rdN b = d.rdN b :=
  Dev.rdN_wrN_ne d _ h

theorem Dev.rdN_put_same (d : Dev) (a : Nat) {f : Fld} (v : Nat) (hf : f.lo ≤ f.hi ∧ f.hi < 32) :
    (d.put a f v).rdN a = fieldPut (d.rdN a) f v := by
  rw [Dev.put, Dev.rdN_wrN_same, Nat.mod_eq_of_lt (fieldPut_lt _ _ _ (d.rdN_lt a) hf)]

/-- A field written is read back, cut to its width. -/
theorem Dev.get_put_same (d : Dev) (a : Nat) {f : Fld} (v : Nat) (hf : f.lo ≤ f.hi ∧ f.hi < 32) :
    (d.put a f v).get a f = v % 2 ^ (f.hi - f.lo + 1) := by
  rw [Dev.get, Dev.rdN_put_same d a v hf, fieldOf_fieldPut_same]

/-- A field written leaves the fields of the same register apart from it alone. -/
theorem Dev.get_put_apart (d : Dev) (a : Nat) {f g : Fld} (v : Nat) (hf : f.lo ≤ f.hi ∧ f.hi < 32) (h : f.apart g) :
    (d.put a f v).get a g = d.get a g := by
  rw [Dev.get, Dev.rdN_put_same d a v hf, fieldOf_fieldPut_ne _ _ h, Dev.get]

/-- A field written leaves every field of the other registers alone. -/
theorem Dev.get_put_ne (d : Dev) {a b : Nat} (f g : Fld) (v : Nat) (h : b ≠ a) : (d.put a f v).get b g = d.get b g := by
  rw [Dev.get, Dev.rdN_put_ne d f v h, Dev.get]

theorem Dev.get_wrN_ne (d : Dev) {a b : Nat} (g : Fld) (v : Nat) (h : b ≠ a) : (d.wrN a v).get b g = d.get b g := by
  rw [Dev.get, Dev.rdN_wrN_ne d v h, Dev.get]

/-- What a field reads depends on the register alone. -/
theorem Dev.get_congr {d e : Dev} {a : Nat} (h : d.rd a = e.rd a) (f : Fld) : d.get a f = e.get a f := by
  rw [Dev.get, Dev.get, Dev.rdN, Dev.rdN, h]

/-- Reading a field is a function of the word. -/
theorem Dev.rdN_congr {d e : Dev} {a : Nat} (h : d.rd a = e.rd a) : d.rdN a = e.rdN a := by rw [Dev.rdN, Dev.rdN, h]

/-- A sending leaves every register alone. -/
@[simp] theorem Dev.rd_emit (d : Dev) (k : OutKind) (p : Nat) (l : List Nat) (b : List Byte) (a : Nat) :
    (d.emit k p l b).rd a = d.rd a := by unfold Dev.emit; split <;> rfl

/-! The register map at an address that depends on a number: which rows cannot be met, and the counters' configurations. -/

/-- One past the last byte offset a row of the register map reaches. -/
def rowTop (r : RegRow) : Nat := r.off + (if r.s1 = 0 then 1 else r.n1 * r.s1)

/-- A row is not met past its end. -/
theorem rowHits_top {r : RegRow} {off : Nat} (h : rowTop r ≤ off) : rowHits r off = false := by
  unfold rowTop at h
  unfold rowHits
  by_cases h1 : r.s1 = 0
  · rw [if_pos h1] at h
    simp [h1]; omega
  · rw [if_neg h1] at h
    have g : r.n1 ≤ (off - r.off) / r.s1 := (Nat.le_div_iff_mul_le (by omega)).mpr (by omega)
    by_cases h2 : r.s2 = 0 <;> simp [h1, h2] <;> omega

/-- No row of a block is met past the ends of all of them. -/
theorem rows_find_none {rows : List RegRow} {lo off : Nat} (h : rows.all (fun r => rowTop r ≤ lo) = true) (g : lo ≤ off) :
    rows.find? (fun r => rowHits r off) = none := by
  refine List.find?_eq_none.mpr fun r hr => ?_
  rw [rowHits_top (Nat.le_trans (of_decide_eq_true (List.all_eq_true.mp h r hr)) g)]
  exact Bool.false_ne_true

/-- CNT_CFG[n] stands in the register map (21_counters_test.md R625). -/
theorem regFind_cntCfg (n : Nat) (h : n < 4096) : regFind (rCNT_CFG n) =
    some (⟨0xa0000, 1, 0x0, rowsCNT⟩, 0, ⟨0xc000, 4096, 0x4, 1, 0x0, 0xf8000000, 0xffe0ffff, 0x0, 0x0, 0x0, 0x0⟩) := by
    have f : rowsCNT.find? (fun r => rowHits r (0xc000 + 4 * n)) =
      some ⟨0xc000, 4096, 0x4, 1, 0x0, 0xf8000000, 0xffe0ffff, 0x0, 0x0, 0x0, 0x0⟩ := by
      have : rowsCNT = rowsCNT.take 16 ++ rowsCNT.drop 16 := by rw [List.take_append_drop]
      rw [this, List.find?_append, rows_find_none (lo := 0xc000) (by decide) (by omega), Option.none_or,
        show rowsCNT.drop 16 = [⟨0xc000, 4096, 0x4, 1, 0x0, 0xf8000000, 0xffe0ffff, 0x0, 0x0, 0x0, 0x0⟩] from rfl]
      refine List.find?_cons_of_pos ?_
      simp [rowHits]; omega
    unfold regFind regBlocks rCNT_CFG
    have hi : ∀ b l : Nat, b + l ≤ 0xa0000 ∨ 0xb0000 ≤ b → ¬ (b ≤ 0xac000 + 4 * n ∧ 0xac000 + 4 * n < b + l) :=
      fun b l h' => by omega
    iterate 7 rw [List.findSome?_cons, if_neg (hi _ _ (by decide))]; dsimp only
    have o : 0xac000 + 4 * n - 0xa0000 = 0xc000 + 4 * n := by omega
    iterate 2
      rw [List.findSome?_cons, if_pos (by simp; omega)]
      simp only [↓reduceIte]
      rw [rows_find_none (lo := 0x1c000) (by decide) (by omega), Option.map_none]
      dsimp only
    rw [List.findSome?_cons, if_pos (by simp; omega)]
    simp only [↓reduceIte, o, f, Option.map_some]

/-- The reset value of CNT_CFG[n] (21_counters_test.md R625). -/
theorem regReset_cntCfg (n : Nat) (h : n < 4096) : regReset (rCNT_CFG n) = 0xF8000000#32 := by
  rw [regReset, regFind_cntCfg n h]; simp

end Sys2Proof.Machine
end

