-- ==== Sys2Proof/Laws/Talk.lean ====
section
/-! SUPPORT. What sending can do: transactions, alerts and mailbox replies change the registers they name, the Gellen
ports and what was sent, and nothing else. -/

namespace Sys2Proof.Machine

/-- From one state of the device to another nothing changes but the listed registers, the two ports, what was
sent, and, where the alert sequence is listed, the alert log. -/
structure Dev.Talk (l : List Nat) (d e : Dev) : Prop where
  rd : ∀ a, a ∉ l → e.rd a = d.rd a
  log : rGLK_ALERT_SEQ ∈ l ∨ e.glk.log = d.glk.log
  rest : e = { d with regs := e.regs, out := e.out, glk := { d.glk with portA := e.glk.portA, portB := e.glk.portB, log := e.glk.log } }

theorem Dev.Talk.refl (l : List Nat) (d : Dev) : Dev.Talk l d d := ⟨fun _ _ => rfl, .inr rfl, rfl⟩

theorem Dev.Talk.trans {l : List Nat} {d e f : Dev} (h : Dev.Talk l d e) (k : Dev.Talk l e f) : Dev.Talk l d f :=
  ⟨fun a ha => (k.rd a ha).trans (h.rd a ha), h.log.elim .inl (fun x => k.log.imp id (fun y => y.trans x)), by have := k.rest; rw [h.rest] at this; exact this⟩

theorem Dev.Talk.mono {l k : List Nat} {d e : Dev} (h : Dev.Talk l d e) (s : ∀ a ∈ l, a ∈ k) : Dev.Talk k d e :=
  ⟨fun a ha => h.rd a (fun hl => ha (s a hl)), h.log.imp (s _) id, h.rest⟩

/-- A condition chooses between two talks. -/
theorem Dev.Talk.ite {l : List Nat} {d e f : Dev} {c : Prop} [Decidable c] (h : c → Dev.Talk l d e) (k : ¬c → Dev.Talk l d f) :
    Dev.Talk l d (if c then e else f) := by
  split
  · next hc => exact h hc
  · next hc => exact k hc

theorem Dev.talk_wr {l : List Nat} (d : Dev) {a : Nat} (v : BitVec 32) (h : a ∈ l) : Dev.Talk l d (d.wr a v) :=
  ⟨fun _ hb => Dev.rd_wr_ne d v (fun e => hb (e ▸ h)), .inr rfl, rfl⟩

theorem Dev.talk_wrN {l : List Nat} (d : Dev) {a : Nat} (v : Nat) (h : a ∈ l) : Dev.Talk l d (d.wrN a v) := Dev.talk_wr d _ h

theorem Dev.talk_put {l : List Nat} (d : Dev) {a : Nat} (f : Fld) (v : Nat) (h : a ∈ l) : Dev.Talk l d (d.put a f v) :=
  Dev.talk_wr d _ h

theorem Dev.talk_bumpBy {l : List Nat} (d : Dev) {a : Nat} (n : Nat) (h : a ∈ l) : Dev.Talk l d (d.bumpBy a n) :=
  Dev.talk_wr d _ h

theorem Dev.talk_bump {l : List Nat} (d : Dev) {a : Nat} (h : a ∈ l) : Dev.Talk l d (d.bump a) := Dev.talk_wr d _ h

theorem Dev.talk_emit (l : List Nat) (d : Dev) (k : OutKind) (p : Nat) (x : List Nat) (b : List Byte) :
    Dev.Talk l d (d.emit k p x b) := by
  refine ⟨fun a _ => Dev.rd_emit .., ?_, ?_⟩
  · unfold Dev.emit; split <;> exact .inr rfl
  · unfold Dev.emit; split <;> rfl

theorem Dev.talk_setPort (l : List Nat) (d : Dev) (p : Nat) (x : GlkPort) : Dev.Talk l d (d.setPort p x) := by
  refine ⟨fun a _ => rfl, ?_, ?_⟩
  · unfold Dev.setPort; split <;> exact .inr rfl
  · unfold Dev.setPort; split <;> rfl

/-- What sending transactions writes: the counter of transactions sent. -/
theorem Dev.talk_pumpList (d : Dev) (p : Nat) (bl : List Nat) (ts : List Trans) :
    Dev.Talk [rGLK_CNT 0] d (Dev.pumpList d p bl ts) := by
  induction ts generalizing d bl with
  | nil => exact .refl ..
  | cons t ts ih =>
    unfold Dev.pumpList
    refine .ite (fun _ => ?_) (fun _ => ?_)
    · exact (Dev.talk_setPort ..).trans (ih ..)
    · refine Dev.Talk.trans ?_ (ih ..)
      exact ((Dev.talk_setPort ..).trans (Dev.talk_bump _ (List.mem_singleton.2 rfl))).trans (Dev.talk_emit ..)

theorem Dev.talk_pump (d : Dev) (p : Nat) : Dev.Talk [rGLK_CNT 0] d (d.pump p) :=
  .ite (fun _ => (Dev.talk_setPort ..).trans (Dev.talk_pumpList ..)) (fun _ => .refl ..)

/-- A transaction given to a port changes that port, the counter of transactions sent and what was sent. -/
theorem Dev.talk_send (d : Dev) (p typ : Nat) (b : List Byte) : Dev.Talk [rGLK_CNT 0] d (d.send p typ b) :=
  .ite (fun _ => (Dev.talk_setPort ..).trans (Dev.talk_pump ..)) (fun _ => .refl ..)

theorem Dev.talk_sendAny (d : Dev) (typ : Nat) (b : List Byte) : Dev.Talk [rGLK_CNT 0] d (d.sendAny typ b) := by
  unfold Dev.sendAny
  split
  · exact Dev.talk_send ..
  · exact .refl ..

theorem Dev.talk_alertPin (d : Dev) : Dev.Talk alertRegs d d.alertPin := by
  unfold Dev.alertPin
  refine .ite (fun _ => .refl ..) (fun _ => ?_)
  refine Dev.Talk.trans (Dev.Talk.trans ?_ (Dev.talk_put _ _ _ (by simp [alertRegs]))) (Dev.talk_emit ..)
  exact Dev.talk_put _ _ _ (by simp [alertRegs])

theorem Dev.talk_sendAlert (d : Dev) (a : AlertRec) : Dev.Talk alertRegs d (d.sendAlert a) := by
  have hs : ∀ (x : Dev) p t b, Dev.Talk alertRegs x (x.send p t b) := fun x p t b =>
    (Dev.talk_send x p t b).mono (by simp [alertRegs])
  unfold Dev.sendAlert
  refine .ite (fun _ => ?_) (fun _ => ?_)
  · exact ((hs ..).trans (hs ..)).trans (Dev.talk_bumpBy _ _ (by simp [alertRegs]))
  · split
    · exact (hs ..).trans (Dev.talk_bump _ (by simp [alertRegs]))
    · exact .refl ..

/-- An alert changes the alert registers, the log, the ports and what was sent. -/
theorem Dev.talk_alert (d : Dev) (code : Nat) (ps : List Byte) : Dev.Talk alertRegs d (d.alert code ps) := by
  unfold Dev.alert
  refine .ite (fun _ => .refl ..) (fun _ => ?_)
  refine Dev.Talk.trans ?_ (Dev.talk_alertPin _)
  refine Dev.Talk.trans ?_ (Dev.talk_sendAlert ..)
  refine Dev.Talk.trans (e := Dev.put _ rGLK_ALERT_SEQ fGLK_ALERT_SEQ_SEQ _) ?_ ⟨fun _ _ => rfl, .inl (by simp [alertRegs]), rfl⟩
  refine Dev.Talk.trans ?_ (Dev.talk_put _ _ _ (by simp [alertRegs]))
  unfold Dev.when
  refine .ite (fun _ => ?_) (fun _ => .refl ..)
  exact (Dev.talk_bump _ (by simp [alertRegs])).trans (Dev.talk_put _ _ _ (by simp [alertRegs]))

/-- The state of the device once a command is finished, before MBX_DONE is sent. -/
def Dev.finished (d : Dev) (m result : Nat) (resp : List Byte) : Dev :=
  let d1 := ((d.put (rMBX_STATUS m) fMBX_STATUS_RESP_LEN resp.length).put (rMBX_STATUS m) fMBX_STATUS_RESULT result).put
    (rMBX_STATUS m) fMBX_STATUS_STATE 2
  let d2 := d1.put (rMBX_INFO m) fMBX_INFO_SEQ ((d1.get (rMBX_INFO m) fMBX_INFO_SEQ + 1) % 65536)
  { d2 with replies := d2.replies ++ [(m, resp)], glk := { d2.glk with cmds := d2.glk.cmds.filter (fun c => c.mbx != m) } }

/-- A command finished leaves the state `Dev.finished` but for the sending of MBX_DONE (19_gellen.md R565). -/
theorem Dev.talk_finish (d : Dev) (m result : Nat) (resp : List Byte) :
    Dev.Talk [rGLK_CNT 0] (d.finished m result resp) (d.finish m result resp) := by
  unfold Dev.finish Dev.finished Dev.when
  exact .ite (fun _ => Dev.talk_sendAny ..) (fun _ => .refl ..)

end Sys2Proof.Machine
end

