-- ==== Sys2Proof/Laws/State.lean ====
section
/-! SUPPORT. What the shared updates leave alone, field by field: writing a register, sending, raising an alert, finishing a
mailbox command, delivering the replies of a step. -/

namespace Sys2Proof.Machine

/-! Writing a register leaves every other field alone. -/

@[simp] theorem Dev.wr_part (d : Dev) (a : Nat) (v : BitVec 32) : (d.wr a v).part = d.part := (rfl)
@[simp] theorem Dev.wrN_part (d : Dev) (a v : Nat) : (d.wrN a v).part = d.part := (rfl)
@[simp] theorem Dev.put_part (d : Dev) (a : Nat) (f : Fld) (v : Nat) : (d.put a f v).part = d.part := (rfl)
@[simp] theorem Dev.wr_glk (d : Dev) (a : Nat) (v : BitVec 32) : (d.wr a v).glk = d.glk := (rfl)
@[simp] theorem Dev.wrN_glk (d : Dev) (a v : Nat) : (d.wrN a v).glk = d.glk := (rfl)
@[simp] theorem Dev.put_glk (d : Dev) (a : Nat) (f : Fld) (v : Nat) : (d.put a f v).glk = d.glk := (rfl)
@[simp] theorem Dev.wr_tick (d : Dev) (a : Nat) (v : BitVec 32) : (d.wr a v).tick = d.tick := (rfl)
@[simp] theorem Dev.wrN_tick (d : Dev) (a v : Nat) : (d.wrN a v).tick = d.tick := (rfl)
@[simp] theorem Dev.put_tick (d : Dev) (a : Nat) (f : Fld) (v : Nat) : (d.put a f v).tick = d.tick := (rfl)
@[simp] theorem Dev.wr_once (d : Dev) (a : Nat) (v : BitVec 32) : (d.wr a v).once = d.once := (rfl)
@[simp] theorem Dev.wrN_once (d : Dev) (a v : Nat) : (d.wrN a v).once = d.once := (rfl)
@[simp] theorem Dev.put_once (d : Dev) (a : Nat) (f : Fld) (v : Nat) : (d.put a f v).once = d.once := (rfl)
@[simp] theorem Dev.wr_cnt (d : Dev) (a : Nat) (v : BitVec 32) : (d.wr a v).cnt = d.cnt := (rfl)
@[simp] theorem Dev.wrN_cnt (d : Dev) (a v : Nat) : (d.wrN a v).cnt = d.cnt := (rfl)
@[simp] theorem Dev.put_cnt (d : Dev) (a : Nat) (f : Fld) (v : Nat) : (d.put a f v).cnt = d.cnt := (rfl)
@[simp] theorem Dev.wr_lanes (d : Dev) (a : Nat) (v : BitVec 32) : (d.wr a v).lanes = d.lanes := (rfl)
@[simp] theorem Dev.wrN_lanes (d : Dev) (a v : Nat) : (d.wrN a v).lanes = d.lanes := (rfl)
@[simp] theorem Dev.put_lanes (d : Dev) (a : Nat) (f : Fld) (v : Nat) : (d.put a f v).lanes = d.lanes := (rfl)
@[simp] theorem Dev.wr_trees (d : Dev) (a : Nat) (v : BitVec 32) : (d.wr a v).trees = d.trees := (rfl)
@[simp] theorem Dev.wrN_trees (d : Dev) (a v : Nat) : (d.wrN a v).trees = d.trees := (rfl)
@[simp] theorem Dev.put_trees (d : Dev) (a : Nat) (f : Fld) (v : Nat) : (d.put a f v).trees = d.trees := (rfl)
@[simp] theorem Dev.wr_cages (d : Dev) (a : Nat) (v : BitVec 32) : (d.wr a v).cages = d.cages := (rfl)
@[simp] theorem Dev.wrN_cages (d : Dev) (a v : Nat) : (d.wrN a v).cages = d.cages := (rfl)
@[simp] theorem Dev.put_cages (d : Dev) (a : Nat) (f : Fld) (v : Nat) : (d.put a f v).cages = d.cages := (rfl)
@[simp] theorem Dev.wr_lineOpts (d : Dev) (a : Nat) (v : BitVec 32) : (d.wr a v).lineOpts = d.lineOpts := (rfl)
@[simp] theorem Dev.wrN_lineOpts (d : Dev) (a v : Nat) : (d.wrN a v).lineOpts = d.lineOpts := (rfl)
@[simp] theorem Dev.put_lineOpts (d : Dev) (a : Nat) (f : Fld) (v : Nat) : (d.put a f v).lineOpts = d.lineOpts := (rfl)
@[simp] theorem Dev.wr_rx (d : Dev) (a : Nat) (v : BitVec 32) : (d.wr a v).rx = d.rx := (rfl)
@[simp] theorem Dev.wrN_rx (d : Dev) (a v : Nat) : (d.wrN a v).rx = d.rx := (rfl)
@[simp] theorem Dev.put_rx (d : Dev) (a : Nat) (f : Fld) (v : Nat) : (d.put a f v).rx = d.rx := (rfl)
@[simp] theorem Dev.wr_presets (d : Dev) (a : Nat) (v : BitVec 32) : (d.wr a v).presets = d.presets := (rfl)
@[simp] theorem Dev.wrN_presets (d : Dev) (a v : Nat) : (d.wrN a v).presets = d.presets := (rfl)
@[simp] theorem Dev.put_presets (d : Dev) (a : Nat) (f : Fld) (v : Nat) : (d.put a f v).presets = d.presets := (rfl)
@[simp] theorem Dev.wr_tapSeq (d : Dev) (a : Nat) (v : BitVec 32) : (d.wr a v).tapSeq = d.tapSeq := (rfl)
@[simp] theorem Dev.wrN_tapSeq (d : Dev) (a v : Nat) : (d.wrN a v).tapSeq = d.tapSeq := (rfl)
@[simp] theorem Dev.put_tapSeq (d : Dev) (a : Nat) (f : Fld) (v : Nat) : (d.put a f v).tapSeq = d.tapSeq := (rfl)
@[simp] theorem Dev.wr_reasm (d : Dev) (a : Nat) (v : BitVec 32) : (d.wr a v).reasm = d.reasm := (rfl)
@[simp] theorem Dev.wrN_reasm (d : Dev) (a v : Nat) : (d.wrN a v).reasm = d.reasm := (rfl)
@[simp] theorem Dev.put_reasm (d : Dev) (a : Nat) (f : Fld) (v : Nat) : (d.put a f v).reasm = d.reasm := (rfl)
@[simp] theorem Dev.wr_act (d : Dev) (a : Nat) (v : BitVec 32) : (d.wr a v).act = d.act := (rfl)
@[simp] theorem Dev.wrN_act (d : Dev) (a v : Nat) : (d.wrN a v).act = d.act := (rfl)
@[simp] theorem Dev.put_act (d : Dev) (a : Nat) (f : Fld) (v : Nat) : (d.put a f v).act = d.act := (rfl)
@[simp] theorem Dev.wr_actTrees (d : Dev) (a : Nat) (v : BitVec 32) : (d.wr a v).actTrees = d.actTrees := (rfl)
@[simp] theorem Dev.wrN_actTrees (d : Dev) (a v : Nat) : (d.wrN a v).actTrees = d.actTrees := (rfl)
@[simp] theorem Dev.put_actTrees (d : Dev) (a : Nat) (f : Fld) (v : Nat) : (d.put a f v).actTrees = d.actTrees := (rfl)
@[simp] theorem Dev.wr_cat (d : Dev) (a : Nat) (v : BitVec 32) : (d.wr a v).cat = d.cat := (rfl)
@[simp] theorem Dev.wrN_cat (d : Dev) (a v : Nat) : (d.wrN a v).cat = d.cat := (rfl)
@[simp] theorem Dev.put_cat (d : Dev) (a : Nat) (f : Fld) (v : Nat) : (d.put a f v).cat = d.cat := (rfl)
@[simp] theorem Dev.wr_lad (d : Dev) (a : Nat) (v : BitVec 32) : (d.wr a v).lad = d.lad := (rfl)
@[simp] theorem Dev.wrN_lad (d : Dev) (a v : Nat) : (d.wrN a v).lad = d.lad := (rfl)
@[simp] theorem Dev.put_lad (d : Dev) (a : Nat) (f : Fld) (v : Nat) : (d.put a f v).lad = d.lad := (rfl)
@[simp] theorem Dev.wr_ladTrees (d : Dev) (a : Nat) (v : BitVec 32) : (d.wr a v).ladTrees = d.ladTrees := (rfl)
@[simp] theorem Dev.wrN_ladTrees (d : Dev) (a v : Nat) : (d.wrN a v).ladTrees = d.ladTrees := (rfl)
@[simp] theorem Dev.put_ladTrees (d : Dev) (a : Nat) (f : Fld) (v : Nat) : (d.put a f v).ladTrees = d.ladTrees := (rfl)
@[simp] theorem Dev.wr_notices (d : Dev) (a : Nat) (v : BitVec 32) : (d.wr a v).notices = d.notices := (rfl)
@[simp] theorem Dev.wrN_notices (d : Dev) (a v : Nat) : (d.wrN a v).notices = d.notices := (rfl)
@[simp] theorem Dev.put_notices (d : Dev) (a : Nat) (f : Fld) (v : Nat) : (d.put a f v).notices = d.notices := (rfl)
@[simp] theorem Dev.wr_noticeSeq (d : Dev) (a : Nat) (v : BitVec 32) : (d.wr a v).noticeSeq = d.noticeSeq := (rfl)
@[simp] theorem Dev.wrN_noticeSeq (d : Dev) (a v : Nat) : (d.wrN a v).noticeSeq = d.noticeSeq := (rfl)
@[simp] theorem Dev.put_noticeSeq (d : Dev) (a : Nat) (f : Fld) (v : Nat) : (d.put a f v).noticeSeq = d.noticeSeq := (rfl)
@[simp] theorem Dev.wr_ift (d : Dev) (a : Nat) (v : BitVec 32) : (d.wr a v).ift = d.ift := (rfl)
@[simp] theorem Dev.wrN_ift (d : Dev) (a v : Nat) : (d.wrN a v).ift = d.ift := (rfl)
@[simp] theorem Dev.put_ift (d : Dev) (a : Nat) (f : Fld) (v : Nat) : (d.put a f v).ift = d.ift := (rfl)
@[simp] theorem Dev.wr_pan (d : Dev) (a : Nat) (v : BitVec 32) : (d.wr a v).pan = d.pan := (rfl)
@[simp] theorem Dev.wrN_pan (d : Dev) (a v : Nat) : (d.wrN a v).pan = d.pan := (rfl)
@[simp] theorem Dev.put_pan (d : Dev) (a : Nat) (f : Fld) (v : Nat) : (d.put a f v).pan = d.pan := (rfl)
@[simp] theorem Dev.wr_dram (d : Dev) (a : Nat) (v : BitVec 32) : (d.wr a v).dram = d.dram := (rfl)
@[simp] theorem Dev.wrN_dram (d : Dev) (a v : Nat) : (d.wrN a v).dram = d.dram := (rfl)
@[simp] theorem Dev.put_dram (d : Dev) (a : Nat) (f : Fld) (v : Nat) : (d.put a f v).dram = d.dram := (rfl)
@[simp] theorem Dev.wr_chanQ (d : Dev) (a : Nat) (v : BitVec 32) : (d.wr a v).chanQ = d.chanQ := (rfl)
@[simp] theorem Dev.wrN_chanQ (d : Dev) (a v : Nat) : (d.wrN a v).chanQ = d.chanQ := (rfl)
@[simp] theorem Dev.put_chanQ (d : Dev) (a : Nat) (f : Fld) (v : Nat) : (d.put a f v).chanQ = d.chanQ := (rfl)
@[simp] theorem Dev.wr_uplQ (d : Dev) (a : Nat) (v : BitVec 32) : (d.wr a v).uplQ = d.uplQ := (rfl)
@[simp] theorem Dev.wrN_uplQ (d : Dev) (a v : Nat) : (d.wrN a v).uplQ = d.uplQ := (rfl)
@[simp] theorem Dev.put_uplQ (d : Dev) (a : Nat) (f : Fld) (v : Nat) : (d.put a f v).uplQ = d.uplQ := (rfl)
@[simp] theorem Dev.wr_fabQ (d : Dev) (a : Nat) (v : BitVec 32) : (d.wr a v).fabQ = d.fabQ := (rfl)
@[simp] theorem Dev.wrN_fabQ (d : Dev) (a v : Nat) : (d.wrN a v).fabQ = d.fabQ := (rfl)
@[simp] theorem Dev.put_fabQ (d : Dev) (a : Nat) (f : Fld) (v : Nat) : (d.put a f v).fabQ = d.fabQ := (rfl)
@[simp] theorem Dev.wr_ds (d : Dev) (a : Nat) (v : BitVec 32) : (d.wr a v).ds = d.ds := (rfl)
@[simp] theorem Dev.wrN_ds (d : Dev) (a v : Nat) : (d.wrN a v).ds = d.ds := (rfl)
@[simp] theorem Dev.put_ds (d : Dev) (a : Nat) (f : Fld) (v : Nat) : (d.put a f v).ds = d.ds := (rfl)
@[simp] theorem Dev.wr_ciph (d : Dev) (a : Nat) (v : BitVec 32) : (d.wr a v).ciph = d.ciph := (rfl)
@[simp] theorem Dev.wrN_ciph (d : Dev) (a v : Nat) : (d.wrN a v).ciph = d.ciph := (rfl)
@[simp] theorem Dev.put_ciph (d : Dev) (a : Nat) (f : Fld) (v : Nat) : (d.put a f v).ciph = d.ciph := (rfl)
@[simp] theorem Dev.wr_col (d : Dev) (a : Nat) (v : BitVec 32) : (d.wr a v).col = d.col := (rfl)
@[simp] theorem Dev.wrN_col (d : Dev) (a v : Nat) : (d.wrN a v).col = d.col := (rfl)
@[simp] theorem Dev.put_col (d : Dev) (a : Nat) (f : Fld) (v : Nat) : (d.put a f v).col = d.col := (rfl)
@[simp] theorem Dev.wr_fwd (d : Dev) (a : Nat) (v : BitVec 32) : (d.wr a v).fwd = d.fwd := (rfl)
@[simp] theorem Dev.wrN_fwd (d : Dev) (a v : Nat) : (d.wrN a v).fwd = d.fwd := (rfl)
@[simp] theorem Dev.put_fwd (d : Dev) (a : Nat) (f : Fld) (v : Nat) : (d.put a f v).fwd = d.fwd := (rfl)
@[simp] theorem Dev.wr_tsFifo (d : Dev) (a : Nat) (v : BitVec 32) : (d.wr a v).tsFifo = d.tsFifo := (rfl)
@[simp] theorem Dev.wrN_tsFifo (d : Dev) (a v : Nat) : (d.wrN a v).tsFifo = d.tsFifo := (rfl)
@[simp] theorem Dev.put_tsFifo (d : Dev) (a : Nat) (f : Fld) (v : Nat) : (d.put a f v).tsFifo = d.tsFifo := (rfl)
@[simp] theorem Dev.wr_fab (d : Dev) (a : Nat) (v : BitVec 32) : (d.wr a v).fab = d.fab := (rfl)
@[simp] theorem Dev.wrN_fab (d : Dev) (a v : Nat) : (d.wrN a v).fab = d.fab := (rfl)
@[simp] theorem Dev.put_fab (d : Dev) (a : Nat) (f : Fld) (v : Nat) : (d.put a f v).fab = d.fab := (rfl)
@[simp] theorem Dev.wr_streams (d : Dev) (a : Nat) (v : BitVec 32) : (d.wr a v).streams = d.streams := (rfl)
@[simp] theorem Dev.wrN_streams (d : Dev) (a v : Nat) : (d.wrN a v).streams = d.streams := (rfl)
@[simp] theorem Dev.put_streams (d : Dev) (a : Nat) (f : Fld) (v : Nat) : (d.put a f v).streams = d.streams := (rfl)
@[simp] theorem Dev.wr_pairs (d : Dev) (a : Nat) (v : BitVec 32) : (d.wr a v).pairs = d.pairs := (rfl)
@[simp] theorem Dev.wrN_pairs (d : Dev) (a v : Nat) : (d.wrN a v).pairs = d.pairs := (rfl)
@[simp] theorem Dev.put_pairs (d : Dev) (a : Nat) (f : Fld) (v : Nat) : (d.put a f v).pairs = d.pairs := (rfl)
@[simp] theorem Dev.wr_seqOut (d : Dev) (a : Nat) (v : BitVec 32) : (d.wr a v).seqOut = d.seqOut := (rfl)
@[simp] theorem Dev.wrN_seqOut (d : Dev) (a v : Nat) : (d.wrN a v).seqOut = d.seqOut := (rfl)
@[simp] theorem Dev.put_seqOut (d : Dev) (a : Nat) (f : Fld) (v : Nat) : (d.put a f v).seqOut = d.seqOut := (rfl)
@[simp] theorem Dev.wr_alm (d : Dev) (a : Nat) (v : BitVec 32) : (d.wr a v).alm = d.alm := (rfl)
@[simp] theorem Dev.wrN_alm (d : Dev) (a v : Nat) : (d.wrN a v).alm = d.alm := (rfl)
@[simp] theorem Dev.put_alm (d : Dev) (a : Nat) (f : Fld) (v : Nat) : (d.put a f v).alm = d.alm := (rfl)
@[simp] theorem Dev.wr_clk (d : Dev) (a : Nat) (v : BitVec 32) : (d.wr a v).clk = d.clk := (rfl)
@[simp] theorem Dev.wrN_clk (d : Dev) (a v : Nat) : (d.wrN a v).clk = d.clk := (rfl)
@[simp] theorem Dev.put_clk (d : Dev) (a : Nat) (f : Fld) (v : Nat) : (d.put a f v).clk = d.clk := (rfl)
@[simp] theorem Dev.wr_pin (d : Dev) (a : Nat) (v : BitVec 32) : (d.wr a v).pin = d.pin := (rfl)
@[simp] theorem Dev.wrN_pin (d : Dev) (a v : Nat) : (d.wrN a v).pin = d.pin := (rfl)
@[simp] theorem Dev.put_pin (d : Dev) (a : Nat) (f : Fld) (v : Nat) : (d.put a f v).pin = d.pin := (rfl)
@[simp] theorem Dev.wr_out (d : Dev) (a : Nat) (v : BitVec 32) : (d.wr a v).out = d.out := (rfl)
@[simp] theorem Dev.wrN_out (d : Dev) (a v : Nat) : (d.wrN a v).out = d.out := (rfl)
@[simp] theorem Dev.put_out (d : Dev) (a : Nat) (f : Fld) (v : Nat) : (d.put a f v).out = d.out := (rfl)
@[simp] theorem Dev.wr_free (d : Dev) (a : Nat) (v : BitVec 32) : (d.wr a v).free = d.free := (rfl)
@[simp] theorem Dev.wrN_free (d : Dev) (a v : Nat) : (d.wrN a v).free = d.free := (rfl)
@[simp] theorem Dev.put_free (d : Dev) (a : Nat) (f : Fld) (v : Nat) : (d.put a f v).free = d.free := (rfl)
@[simp] theorem Dev.wr_replies (d : Dev) (a : Nat) (v : BitVec 32) : (d.wr a v).replies = d.replies := (rfl)
@[simp] theorem Dev.wrN_replies (d : Dev) (a v : Nat) : (d.wrN a v).replies = d.replies := (rfl)
@[simp] theorem Dev.put_replies (d : Dev) (a : Nat) (f : Fld) (v : Nat) : (d.put a f v).replies = d.replies := (rfl)
@[simp] theorem Dev.wr_wipes (d : Dev) (a : Nat) (v : BitVec 32) : (d.wr a v).wipes = d.wipes := (rfl)
@[simp] theorem Dev.wrN_wipes (d : Dev) (a v : Nat) : (d.wrN a v).wipes = d.wipes := (rfl)
@[simp] theorem Dev.put_wipes (d : Dev) (a : Nat) (f : Fld) (v : Nat) : (d.put a f v).wipes = d.wipes := (rfl)

/-! Sending leaves every other field alone. -/

@[simp] theorem Dev.emit_part (d : Dev) (k : OutKind) (p : Nat) (l : List Nat) (b : List Byte) : (d.emit k p l b).part = d.part := by
  unfold Dev.emit; split <;> rfl
@[simp] theorem Dev.emit_regs (d : Dev) (k : OutKind) (p : Nat) (l : List Nat) (b : List Byte) : (d.emit k p l b).regs = d.regs := by
  unfold Dev.emit; split <;> rfl
@[simp] theorem Dev.emit_glk (d : Dev) (k : OutKind) (p : Nat) (l : List Nat) (b : List Byte) : (d.emit k p l b).glk = d.glk := by
  unfold Dev.emit; split <;> rfl
@[simp] theorem Dev.emit_tick (d : Dev) (k : OutKind) (p : Nat) (l : List Nat) (b : List Byte) : (d.emit k p l b).tick = d.tick := by
  unfold Dev.emit; split <;> rfl
@[simp] theorem Dev.emit_once (d : Dev) (k : OutKind) (p : Nat) (l : List Nat) (b : List Byte) : (d.emit k p l b).once = d.once := by
  unfold Dev.emit; split <;> rfl
@[simp] theorem Dev.emit_cnt (d : Dev) (k : OutKind) (p : Nat) (l : List Nat) (b : List Byte) : (d.emit k p l b).cnt = d.cnt := by
  unfold Dev.emit; split <;> rfl
@[simp] theorem Dev.emit_lanes (d : Dev) (k : OutKind) (p : Nat) (l : List Nat) (b : List Byte) : (d.emit k p l b).lanes = d.lanes := by
  unfold Dev.emit; split <;> rfl
@[simp] theorem Dev.emit_trees (d : Dev) (k : OutKind) (p : Nat) (l : List Nat) (b : List Byte) : (d.emit k p l b).trees = d.trees := by
  unfold Dev.emit; split <;> rfl
@[simp] theorem Dev.emit_cages (d : Dev) (k : OutKind) (p : Nat) (l : List Nat) (b : List Byte) : (d.emit k p l b).cages = d.cages := by
  unfold Dev.emit; split <;> rfl
@[simp] theorem Dev.emit_lineOpts (d : Dev) (k : OutKind) (p : Nat) (l : List Nat) (b : List Byte) : (d.emit k p l b).lineOpts = d.lineOpts := by
  unfold Dev.emit; split <;> rfl
@[simp] theorem Dev.emit_rx (d : Dev) (k : OutKind) (p : Nat) (l : List Nat) (b : List Byte) : (d.emit k p l b).rx = d.rx := by
  unfold Dev.emit; split <;> rfl
@[simp] theorem Dev.emit_presets (d : Dev) (k : OutKind) (p : Nat) (l : List Nat) (b : List Byte) : (d.emit k p l b).presets = d.presets := by
  unfold Dev.emit; split <;> rfl
@[simp] theorem Dev.emit_tapSeq (d : Dev) (k : OutKind) (p : Nat) (l : List Nat) (b : List Byte) : (d.emit k p l b).tapSeq = d.tapSeq := by
  unfold Dev.emit; split <;> rfl
@[simp] theorem Dev.emit_reasm (d : Dev) (k : OutKind) (p : Nat) (l : List Nat) (b : List Byte) : (d.emit k p l b).reasm = d.reasm := by
  unfold Dev.emit; split <;> rfl
@[simp] theorem Dev.emit_act (d : Dev) (k : OutKind) (p : Nat) (l : List Nat) (b : List Byte) : (d.emit k p l b).act = d.act := by
  unfold Dev.emit; split <;> rfl
@[simp] theorem Dev.emit_actTrees (d : Dev) (k : OutKind) (p : Nat) (l : List Nat) (b : List Byte) : (d.emit k p l b).actTrees = d.actTrees := by
  unfold Dev.emit; split <;> rfl
@[simp] theorem Dev.emit_cat (d : Dev) (k : OutKind) (p : Nat) (l : List Nat) (b : List Byte) : (d.emit k p l b).cat = d.cat := by
  unfold Dev.emit; split <;> rfl
@[simp] theorem Dev.emit_lad (d : Dev) (k : OutKind) (p : Nat) (l : List Nat) (b : List Byte) : (d.emit k p l b).lad = d.lad := by
  unfold Dev.emit; split <;> rfl
@[simp] theorem Dev.emit_ladTrees (d : Dev) (k : OutKind) (p : Nat) (l : List Nat) (b : List Byte) : (d.emit k p l b).ladTrees = d.ladTrees := by
  unfold Dev.emit; split <;> rfl
@[simp] theorem Dev.emit_notices (d : Dev) (k : OutKind) (p : Nat) (l : List Nat) (b : List Byte) : (d.emit k p l b).notices = d.notices := by
  unfold Dev.emit; split <;> rfl
@[simp] theorem Dev.emit_noticeSeq (d : Dev) (k : OutKind) (p : Nat) (l : List Nat) (b : List Byte) : (d.emit k p l b).noticeSeq = d.noticeSeq := by
  unfold Dev.emit; split <;> rfl
@[simp] theorem Dev.emit_ift (d : Dev) (k : OutKind) (p : Nat) (l : List Nat) (b : List Byte) : (d.emit k p l b).ift = d.ift := by
  unfold Dev.emit; split <;> rfl
@[simp] theorem Dev.emit_pan (d : Dev) (k : OutKind) (p : Nat) (l : List Nat) (b : List Byte) : (d.emit k p l b).pan = d.pan := by
  unfold Dev.emit; split <;> rfl
@[simp] theorem Dev.emit_dram (d : Dev) (k : OutKind) (p : Nat) (l : List Nat) (b : List Byte) : (d.emit k p l b).dram = d.dram := by
  unfold Dev.emit; split <;> rfl
@[simp] theorem Dev.emit_chanQ (d : Dev) (k : OutKind) (p : Nat) (l : List Nat) (b : List Byte) : (d.emit k p l b).chanQ = d.chanQ := by
  unfold Dev.emit; split <;> rfl
@[simp] theorem Dev.emit_uplQ (d : Dev) (k : OutKind) (p : Nat) (l : List Nat) (b : List Byte) : (d.emit k p l b).uplQ = d.uplQ := by
  unfold Dev.emit; split <;> rfl
@[simp] theorem Dev.emit_fabQ (d : Dev) (k : OutKind) (p : Nat) (l : List Nat) (b : List Byte) : (d.emit k p l b).fabQ = d.fabQ := by
  unfold Dev.emit; split <;> rfl
@[simp] theorem Dev.emit_ds (d : Dev) (k : OutKind) (p : Nat) (l : List Nat) (b : List Byte) : (d.emit k p l b).ds = d.ds := by
  unfold Dev.emit; split <;> rfl
@[simp] theorem Dev.emit_ciph (d : Dev) (k : OutKind) (p : Nat) (l : List Nat) (b : List Byte) : (d.emit k p l b).ciph = d.ciph := by
  unfold Dev.emit; split <;> rfl
@[simp] theorem Dev.emit_col (d : Dev) (k : OutKind) (p : Nat) (l : List Nat) (b : List Byte) : (d.emit k p l b).col = d.col := by
  unfold Dev.emit; split <;> rfl
@[simp] theorem Dev.emit_fwd (d : Dev) (k : OutKind) (p : Nat) (l : List Nat) (b : List Byte) : (d.emit k p l b).fwd = d.fwd := by
  unfold Dev.emit; split <;> rfl
@[simp] theorem Dev.emit_tsFifo (d : Dev) (k : OutKind) (p : Nat) (l : List Nat) (b : List Byte) : (d.emit k p l b).tsFifo = d.tsFifo := by
  unfold Dev.emit; split <;> rfl
@[simp] theorem Dev.emit_fab (d : Dev) (k : OutKind) (p : Nat) (l : List Nat) (b : List Byte) : (d.emit k p l b).fab = d.fab := by
  unfold Dev.emit; split <;> rfl
@[simp] theorem Dev.emit_streams (d : Dev) (k : OutKind) (p : Nat) (l : List Nat) (b : List Byte) : (d.emit k p l b).streams = d.streams := by
  unfold Dev.emit; split <;> rfl
@[simp] theorem Dev.emit_pairs (d : Dev) (k : OutKind) (p : Nat) (l : List Nat) (b : List Byte) : (d.emit k p l b).pairs = d.pairs := by
  unfold Dev.emit; split <;> rfl
@[simp] theorem Dev.emit_seqOut (d : Dev) (k : OutKind) (p : Nat) (l : List Nat) (b : List Byte) : (d.emit k p l b).seqOut = d.seqOut := by
  unfold Dev.emit; split <;> rfl
@[simp] theorem Dev.emit_alm (d : Dev) (k : OutKind) (p : Nat) (l : List Nat) (b : List Byte) : (d.emit k p l b).alm = d.alm := by
  unfold Dev.emit; split <;> rfl
@[simp] theorem Dev.emit_clk (d : Dev) (k : OutKind) (p : Nat) (l : List Nat) (b : List Byte) : (d.emit k p l b).clk = d.clk := by
  unfold Dev.emit; split <;> rfl
@[simp] theorem Dev.emit_pin (d : Dev) (k : OutKind) (p : Nat) (l : List Nat) (b : List Byte) : (d.emit k p l b).pin = d.pin := by
  unfold Dev.emit; split <;> rfl
@[simp] theorem Dev.emit_free (d : Dev) (k : OutKind) (p : Nat) (l : List Nat) (b : List Byte) : (d.emit k p l b).free = d.free := by
  unfold Dev.emit; split <;> rfl
@[simp] theorem Dev.emit_replies (d : Dev) (k : OutKind) (p : Nat) (l : List Nat) (b : List Byte) : (d.emit k p l b).replies = d.replies := by
  unfold Dev.emit; split <;> rfl
@[simp] theorem Dev.emit_wipes (d : Dev) (k : OutKind) (p : Nat) (l : List Nat) (b : List Byte) : (d.emit k p l b).wipes = d.wipes := by
  unfold Dev.emit; split <;> rfl

/-! Every other field in a talk. -/

theorem Dev.Talk.part {l : List Nat} {d e : Dev} (h : Dev.Talk l d e) : e.part = d.part := (congrArg Dev.part h.rest).trans rfl
theorem Dev.Talk.tick {l : List Nat} {d e : Dev} (h : Dev.Talk l d e) : e.tick = d.tick := (congrArg Dev.tick h.rest).trans rfl
theorem Dev.Talk.once {l : List Nat} {d e : Dev} (h : Dev.Talk l d e) : e.once = d.once := (congrArg Dev.once h.rest).trans rfl
theorem Dev.Talk.cnt {l : List Nat} {d e : Dev} (h : Dev.Talk l d e) : e.cnt = d.cnt := (congrArg Dev.cnt h.rest).trans rfl
theorem Dev.Talk.lanes {l : List Nat} {d e : Dev} (h : Dev.Talk l d e) : e.lanes = d.lanes := (congrArg Dev.lanes h.rest).trans rfl
theorem Dev.Talk.trees {l : List Nat} {d e : Dev} (h : Dev.Talk l d e) : e.trees = d.trees := (congrArg Dev.trees h.rest).trans rfl
theorem Dev.Talk.cages {l : List Nat} {d e : Dev} (h : Dev.Talk l d e) : e.cages = d.cages := (congrArg Dev.cages h.rest).trans rfl
theorem Dev.Talk.lineOpts {l : List Nat} {d e : Dev} (h : Dev.Talk l d e) : e.lineOpts = d.lineOpts := (congrArg Dev.lineOpts h.rest).trans rfl
theorem Dev.Talk.rx {l : List Nat} {d e : Dev} (h : Dev.Talk l d e) : e.rx = d.rx := (congrArg Dev.rx h.rest).trans rfl
theorem Dev.Talk.presets {l : List Nat} {d e : Dev} (h : Dev.Talk l d e) : e.presets = d.presets := (congrArg Dev.presets h.rest).trans rfl
theorem Dev.Talk.tapSeq {l : List Nat} {d e : Dev} (h : Dev.Talk l d e) : e.tapSeq = d.tapSeq := (congrArg Dev.tapSeq h.rest).trans rfl
theorem Dev.Talk.reasm {l : List Nat} {d e : Dev} (h : Dev.Talk l d e) : e.reasm = d.reasm := (congrArg Dev.reasm h.rest).trans rfl
theorem Dev.Talk.act {l : List Nat} {d e : Dev} (h : Dev.Talk l d e) : e.act = d.act := (congrArg Dev.act h.rest).trans rfl
theorem Dev.Talk.actTrees {l : List Nat} {d e : Dev} (h : Dev.Talk l d e) : e.actTrees = d.actTrees := (congrArg Dev.actTrees h.rest).trans rfl
theorem Dev.Talk.cat {l : List Nat} {d e : Dev} (h : Dev.Talk l d e) : e.cat = d.cat := (congrArg Dev.cat h.rest).trans rfl
theorem Dev.Talk.lad {l : List Nat} {d e : Dev} (h : Dev.Talk l d e) : e.lad = d.lad := (congrArg Dev.lad h.rest).trans rfl
theorem Dev.Talk.ladTrees {l : List Nat} {d e : Dev} (h : Dev.Talk l d e) : e.ladTrees = d.ladTrees := (congrArg Dev.ladTrees h.rest).trans rfl
theorem Dev.Talk.notices {l : List Nat} {d e : Dev} (h : Dev.Talk l d e) : e.notices = d.notices := (congrArg Dev.notices h.rest).trans rfl
theorem Dev.Talk.noticeSeq {l : List Nat} {d e : Dev} (h : Dev.Talk l d e) : e.noticeSeq = d.noticeSeq := (congrArg Dev.noticeSeq h.rest).trans rfl
theorem Dev.Talk.ift {l : List Nat} {d e : Dev} (h : Dev.Talk l d e) : e.ift = d.ift := (congrArg Dev.ift h.rest).trans rfl
theorem Dev.Talk.pan {l : List Nat} {d e : Dev} (h : Dev.Talk l d e) : e.pan = d.pan := (congrArg Dev.pan h.rest).trans rfl
theorem Dev.Talk.dram {l : List Nat} {d e : Dev} (h : Dev.Talk l d e) : e.dram = d.dram := (congrArg Dev.dram h.rest).trans rfl
theorem Dev.Talk.chanQ {l : List Nat} {d e : Dev} (h : Dev.Talk l d e) : e.chanQ = d.chanQ := (congrArg Dev.chanQ h.rest).trans rfl
theorem Dev.Talk.uplQ {l : List Nat} {d e : Dev} (h : Dev.Talk l d e) : e.uplQ = d.uplQ := (congrArg Dev.uplQ h.rest).trans rfl
theorem Dev.Talk.fabQ {l : List Nat} {d e : Dev} (h : Dev.Talk l d e) : e.fabQ = d.fabQ := (congrArg Dev.fabQ h.rest).trans rfl
theorem Dev.Talk.ds {l : List Nat} {d e : Dev} (h : Dev.Talk l d e) : e.ds = d.ds := (congrArg Dev.ds h.rest).trans rfl
theorem Dev.Talk.ciph {l : List Nat} {d e : Dev} (h : Dev.Talk l d e) : e.ciph = d.ciph := (congrArg Dev.ciph h.rest).trans rfl
theorem Dev.Talk.col {l : List Nat} {d e : Dev} (h : Dev.Talk l d e) : e.col = d.col := (congrArg Dev.col h.rest).trans rfl
theorem Dev.Talk.fwd {l : List Nat} {d e : Dev} (h : Dev.Talk l d e) : e.fwd = d.fwd := (congrArg Dev.fwd h.rest).trans rfl
theorem Dev.Talk.tsFifo {l : List Nat} {d e : Dev} (h : Dev.Talk l d e) : e.tsFifo = d.tsFifo := (congrArg Dev.tsFifo h.rest).trans rfl
theorem Dev.Talk.fab {l : List Nat} {d e : Dev} (h : Dev.Talk l d e) : e.fab = d.fab := (congrArg Dev.fab h.rest).trans rfl
theorem Dev.Talk.streams {l : List Nat} {d e : Dev} (h : Dev.Talk l d e) : e.streams = d.streams := (congrArg Dev.streams h.rest).trans rfl
theorem Dev.Talk.pairs {l : List Nat} {d e : Dev} (h : Dev.Talk l d e) : e.pairs = d.pairs := (congrArg Dev.pairs h.rest).trans rfl
theorem Dev.Talk.seqOut {l : List Nat} {d e : Dev} (h : Dev.Talk l d e) : e.seqOut = d.seqOut := (congrArg Dev.seqOut h.rest).trans rfl
theorem Dev.Talk.alm {l : List Nat} {d e : Dev} (h : Dev.Talk l d e) : e.alm = d.alm := (congrArg Dev.alm h.rest).trans rfl
theorem Dev.Talk.clk {l : List Nat} {d e : Dev} (h : Dev.Talk l d e) : e.clk = d.clk := (congrArg Dev.clk h.rest).trans rfl
theorem Dev.Talk.pin {l : List Nat} {d e : Dev} (h : Dev.Talk l d e) : e.pin = d.pin := (congrArg Dev.pin h.rest).trans rfl
theorem Dev.Talk.free {l : List Nat} {d e : Dev} (h : Dev.Talk l d e) : e.free = d.free := (congrArg Dev.free h.rest).trans rfl
theorem Dev.Talk.replies {l : List Nat} {d e : Dev} (h : Dev.Talk l d e) : e.replies = d.replies := (congrArg Dev.replies h.rest).trans rfl
theorem Dev.Talk.wipes {l : List Nat} {d e : Dev} (h : Dev.Talk l d e) : e.wipes = d.wipes := (congrArg Dev.wipes h.rest).trans rfl
theorem Dev.Talk.glk_freqSeq {l : List Nat} {d e : Dev} (h : Dev.Talk l d e) : e.glk.freqSeq = d.glk.freqSeq := (congrArg (fun e => e.glk.freqSeq) h.rest).trans rfl
theorem Dev.Talk.glk_freqSent {l : List Nat} {d e : Dev} (h : Dev.Talk l d e) : e.glk.freqSent = d.glk.freqSent := (congrArg (fun e => e.glk.freqSent) h.rest).trans rfl
theorem Dev.Talk.glk_viols {l : List Nat} {d e : Dev} (h : Dev.Talk l d e) : e.glk.viols = d.glk.viols := (congrArg (fun e => e.glk.viols) h.rest).trans rfl
theorem Dev.Talk.glk_cmds {l : List Nat} {d e : Dev} (h : Dev.Talk l d e) : e.glk.cmds = d.glk.cmds := (congrArg (fun e => e.glk.cmds) h.rest).trans rfl
theorem Dev.Talk.glk_rings {l : List Nat} {d e : Dev} (h : Dev.Talk l d e) : e.glk.rings = d.glk.rings := (congrArg (fun e => e.glk.rings) h.rest).trans rfl
theorem Dev.Talk.glk_nextTag {l : List Nat} {d e : Dev} (h : Dev.Talk l d e) : e.glk.nextTag = d.glk.nextTag := (congrArg (fun e => e.glk.nextTag) h.rest).trans rfl

/-! A transaction, a message and an alert leave every other field alone. -/

@[simp] theorem Dev.send_part (d : Dev) (p typ : Nat) (b : List Byte) : (d.send p typ b).part = d.part :=
  (Dev.talk_send d p typ b).part
@[simp] theorem Dev.send_tick (d : Dev) (p typ : Nat) (b : List Byte) : (d.send p typ b).tick = d.tick :=
  (Dev.talk_send d p typ b).tick
@[simp] theorem Dev.send_once (d : Dev) (p typ : Nat) (b : List Byte) : (d.send p typ b).once = d.once :=
  (Dev.talk_send d p typ b).once
@[simp] theorem Dev.send_cnt (d : Dev) (p typ : Nat) (b : List Byte) : (d.send p typ b).cnt = d.cnt :=
  (Dev.talk_send d p typ b).cnt
@[simp] theorem Dev.send_lanes (d : Dev) (p typ : Nat) (b : List Byte) : (d.send p typ b).lanes = d.lanes :=
  (Dev.talk_send d p typ b).lanes
@[simp] theorem Dev.send_trees (d : Dev) (p typ : Nat) (b : List Byte) : (d.send p typ b).trees = d.trees :=
  (Dev.talk_send d p typ b).trees
@[simp] theorem Dev.send_cages (d : Dev) (p typ : Nat) (b : List Byte) : (d.send p typ b).cages = d.cages :=
  (Dev.talk_send d p typ b).cages
@[simp] theorem Dev.send_lineOpts (d : Dev) (p typ : Nat) (b : List Byte) : (d.send p typ b).lineOpts = d.lineOpts :=
  (Dev.talk_send d p typ b).lineOpts
@[simp] theorem Dev.send_rx (d : Dev) (p typ : Nat) (b : List Byte) : (d.send p typ b).rx = d.rx :=
  (Dev.talk_send d p typ b).rx
@[simp] theorem Dev.send_presets (d : Dev) (p typ : Nat) (b : List Byte) : (d.send p typ b).presets = d.presets :=
  (Dev.talk_send d p typ b).presets
@[simp] theorem Dev.send_tapSeq (d : Dev) (p typ : Nat) (b : List Byte) : (d.send p typ b).tapSeq = d.tapSeq :=
  (Dev.talk_send d p typ b).tapSeq
@[simp] theorem Dev.send_reasm (d : Dev) (p typ : Nat) (b : List Byte) : (d.send p typ b).reasm = d.reasm :=
  (Dev.talk_send d p typ b).reasm
@[simp] theorem Dev.send_act (d : Dev) (p typ : Nat) (b : List Byte) : (d.send p typ b).act = d.act :=
  (Dev.talk_send d p typ b).act
@[simp] theorem Dev.send_actTrees (d : Dev) (p typ : Nat) (b : List Byte) : (d.send p typ b).actTrees = d.actTrees :=
  (Dev.talk_send d p typ b).actTrees
@[simp] theorem Dev.send_cat (d : Dev) (p typ : Nat) (b : List Byte) : (d.send p typ b).cat = d.cat :=
  (Dev.talk_send d p typ b).cat
@[simp] theorem Dev.send_lad (d : Dev) (p typ : Nat) (b : List Byte) : (d.send p typ b).lad = d.lad :=
  (Dev.talk_send d p typ b).lad
@[simp] theorem Dev.send_ladTrees (d : Dev) (p typ : Nat) (b : List Byte) : (d.send p typ b).ladTrees = d.ladTrees :=
  (Dev.talk_send d p typ b).ladTrees
@[simp] theorem Dev.send_notices (d : Dev) (p typ : Nat) (b : List Byte) : (d.send p typ b).notices = d.notices :=
  (Dev.talk_send d p typ b).notices
@[simp] theorem Dev.send_noticeSeq (d : Dev) (p typ : Nat) (b : List Byte) : (d.send p typ b).noticeSeq = d.noticeSeq :=
  (Dev.talk_send d p typ b).noticeSeq
@[simp] theorem Dev.send_ift (d : Dev) (p typ : Nat) (b : List Byte) : (d.send p typ b).ift = d.ift :=
  (Dev.talk_send d p typ b).ift
@[simp] theorem Dev.send_pan (d : Dev) (p typ : Nat) (b : List Byte) : (d.send p typ b).pan = d.pan :=
  (Dev.talk_send d p typ b).pan
@[simp] theorem Dev.send_dram (d : Dev) (p typ : Nat) (b : List Byte) : (d.send p typ b).dram = d.dram :=
  (Dev.talk_send d p typ b).dram
@[simp] theorem Dev.send_chanQ (d : Dev) (p typ : Nat) (b : List Byte) : (d.send p typ b).chanQ = d.chanQ :=
  (Dev.talk_send d p typ b).chanQ
@[simp] theorem Dev.send_uplQ (d : Dev) (p typ : Nat) (b : List Byte) : (d.send p typ b).uplQ = d.uplQ :=
  (Dev.talk_send d p typ b).uplQ
@[simp] theorem Dev.send_fabQ (d : Dev) (p typ : Nat) (b : List Byte) : (d.send p typ b).fabQ = d.fabQ :=
  (Dev.talk_send d p typ b).fabQ
@[simp] theorem Dev.send_ds (d : Dev) (p typ : Nat) (b : List Byte) : (d.send p typ b).ds = d.ds :=
  (Dev.talk_send d p typ b).ds
@[simp] theorem Dev.send_ciph (d : Dev) (p typ : Nat) (b : List Byte) : (d.send p typ b).ciph = d.ciph :=
  (Dev.talk_send d p typ b).ciph
@[simp] theorem Dev.send_col (d : Dev) (p typ : Nat) (b : List Byte) : (d.send p typ b).col = d.col :=
  (Dev.talk_send d p typ b).col
@[simp] theorem Dev.send_fwd (d : Dev) (p typ : Nat) (b : List Byte) : (d.send p typ b).fwd = d.fwd :=
  (Dev.talk_send d p typ b).fwd
@[simp] theorem Dev.send_tsFifo (d : Dev) (p typ : Nat) (b : List Byte) : (d.send p typ b).tsFifo = d.tsFifo :=
  (Dev.talk_send d p typ b).tsFifo
@[simp] theorem Dev.send_fab (d : Dev) (p typ : Nat) (b : List Byte) : (d.send p typ b).fab = d.fab :=
  (Dev.talk_send d p typ b).fab
@[simp] theorem Dev.send_streams (d : Dev) (p typ : Nat) (b : List Byte) : (d.send p typ b).streams = d.streams :=
  (Dev.talk_send d p typ b).streams
@[simp] theorem Dev.send_pairs (d : Dev) (p typ : Nat) (b : List Byte) : (d.send p typ b).pairs = d.pairs :=
  (Dev.talk_send d p typ b).pairs
@[simp] theorem Dev.send_seqOut (d : Dev) (p typ : Nat) (b : List Byte) : (d.send p typ b).seqOut = d.seqOut :=
  (Dev.talk_send d p typ b).seqOut
@[simp] theorem Dev.send_alm (d : Dev) (p typ : Nat) (b : List Byte) : (d.send p typ b).alm = d.alm :=
  (Dev.talk_send d p typ b).alm
@[simp] theorem Dev.send_clk (d : Dev) (p typ : Nat) (b : List Byte) : (d.send p typ b).clk = d.clk :=
  (Dev.talk_send d p typ b).clk
@[simp] theorem Dev.send_pin (d : Dev) (p typ : Nat) (b : List Byte) : (d.send p typ b).pin = d.pin :=
  (Dev.talk_send d p typ b).pin
@[simp] theorem Dev.send_free (d : Dev) (p typ : Nat) (b : List Byte) : (d.send p typ b).free = d.free :=
  (Dev.talk_send d p typ b).free
@[simp] theorem Dev.send_replies (d : Dev) (p typ : Nat) (b : List Byte) : (d.send p typ b).replies = d.replies :=
  (Dev.talk_send d p typ b).replies
@[simp] theorem Dev.send_wipes (d : Dev) (p typ : Nat) (b : List Byte) : (d.send p typ b).wipes = d.wipes :=
  (Dev.talk_send d p typ b).wipes
@[simp] theorem Dev.send_glk_freqSeq (d : Dev) (p typ : Nat) (b : List Byte) : (d.send p typ b).glk.freqSeq = d.glk.freqSeq :=
  (Dev.talk_send d p typ b).glk_freqSeq
@[simp] theorem Dev.send_glk_freqSent (d : Dev) (p typ : Nat) (b : List Byte) : (d.send p typ b).glk.freqSent = d.glk.freqSent :=
  (Dev.talk_send d p typ b).glk_freqSent
@[simp] theorem Dev.send_glk_viols (d : Dev) (p typ : Nat) (b : List Byte) : (d.send p typ b).glk.viols = d.glk.viols :=
  (Dev.talk_send d p typ b).glk_viols
@[simp] theorem Dev.send_glk_cmds (d : Dev) (p typ : Nat) (b : List Byte) : (d.send p typ b).glk.cmds = d.glk.cmds :=
  (Dev.talk_send d p typ b).glk_cmds
@[simp] theorem Dev.send_glk_rings (d : Dev) (p typ : Nat) (b : List Byte) : (d.send p typ b).glk.rings = d.glk.rings :=
  (Dev.talk_send d p typ b).glk_rings
@[simp] theorem Dev.send_glk_nextTag (d : Dev) (p typ : Nat) (b : List Byte) : (d.send p typ b).glk.nextTag = d.glk.nextTag :=
  (Dev.talk_send d p typ b).glk_nextTag

@[simp] theorem Dev.sendAny_part (d : Dev) (typ : Nat) (b : List Byte) : (d.sendAny typ b).part = d.part :=
  (Dev.talk_sendAny d typ b).part
@[simp] theorem Dev.sendAny_tick (d : Dev) (typ : Nat) (b : List Byte) : (d.sendAny typ b).tick = d.tick :=
  (Dev.talk_sendAny d typ b).tick
@[simp] theorem Dev.sendAny_once (d : Dev) (typ : Nat) (b : List Byte) : (d.sendAny typ b).once = d.once :=
  (Dev.talk_sendAny d typ b).once
@[simp] theorem Dev.sendAny_cnt (d : Dev) (typ : Nat) (b : List Byte) : (d.sendAny typ b).cnt = d.cnt :=
  (Dev.talk_sendAny d typ b).cnt
@[simp] theorem Dev.sendAny_lanes (d : Dev) (typ : Nat) (b : List Byte) : (d.sendAny typ b).lanes = d.lanes :=
  (Dev.talk_sendAny d typ b).lanes
@[simp] theorem Dev.sendAny_trees (d : Dev) (typ : Nat) (b : List Byte) : (d.sendAny typ b).trees = d.trees :=
  (Dev.talk_sendAny d typ b).trees
@[simp] theorem Dev.sendAny_cages (d : Dev) (typ : Nat) (b : List Byte) : (d.sendAny typ b).cages = d.cages :=
  (Dev.talk_sendAny d typ b).cages
@[simp] theorem Dev.sendAny_lineOpts (d : Dev) (typ : Nat) (b : List Byte) : (d.sendAny typ b).lineOpts = d.lineOpts :=
  (Dev.talk_sendAny d typ b).lineOpts
@[simp] theorem Dev.sendAny_rx (d : Dev) (typ : Nat) (b : List Byte) : (d.sendAny typ b).rx = d.rx :=
  (Dev.talk_sendAny d typ b).rx
@[simp] theorem Dev.sendAny_presets (d : Dev) (typ : Nat) (b : List Byte) : (d.sendAny typ b).presets = d.presets :=
  (Dev.talk_sendAny d typ b).presets
@[simp] theorem Dev.sendAny_tapSeq (d : Dev) (typ : Nat) (b : List Byte) : (d.sendAny typ b).tapSeq = d.tapSeq :=
  (Dev.talk_sendAny d typ b).tapSeq
@[simp] theorem Dev.sendAny_reasm (d : Dev) (typ : Nat) (b : List Byte) : (d.sendAny typ b).reasm = d.reasm :=
  (Dev.talk_sendAny d typ b).reasm
@[simp] theorem Dev.sendAny_act (d : Dev) (typ : Nat) (b : List Byte) : (d.sendAny typ b).act = d.act :=
  (Dev.talk_sendAny d typ b).act
@[simp] theorem Dev.sendAny_actTrees (d : Dev) (typ : Nat) (b : List Byte) : (d.sendAny typ b).actTrees = d.actTrees :=
  (Dev.talk_sendAny d typ b).actTrees
@[simp] theorem Dev.sendAny_cat (d : Dev) (typ : Nat) (b : List Byte) : (d.sendAny typ b).cat = d.cat :=
  (Dev.talk_sendAny d typ b).cat
@[simp] theorem Dev.sendAny_lad (d : Dev) (typ : Nat) (b : List Byte) : (d.sendAny typ b).lad = d.lad :=
  (Dev.talk_sendAny d typ b).lad
@[simp] theorem Dev.sendAny_ladTrees (d : Dev) (typ : Nat) (b : List Byte) : (d.sendAny typ b).ladTrees = d.ladTrees :=
  (Dev.talk_sendAny d typ b).ladTrees
@[simp] theorem Dev.sendAny_notices (d : Dev) (typ : Nat) (b : List Byte) : (d.sendAny typ b).notices = d.notices :=
  (Dev.talk_sendAny d typ b).notices
@[simp] theorem Dev.sendAny_noticeSeq (d : Dev) (typ : Nat) (b : List Byte) : (d.sendAny typ b).noticeSeq = d.noticeSeq :=
  (Dev.talk_sendAny d typ b).noticeSeq
@[simp] theorem Dev.sendAny_ift (d : Dev) (typ : Nat) (b : List Byte) : (d.sendAny typ b).ift = d.ift :=
  (Dev.talk_sendAny d typ b).ift
@[simp] theorem Dev.sendAny_pan (d : Dev) (typ : Nat) (b : List Byte) : (d.sendAny typ b).pan = d.pan :=
  (Dev.talk_sendAny d typ b).pan
@[simp] theorem Dev.sendAny_dram (d : Dev) (typ : Nat) (b : List Byte) : (d.sendAny typ b).dram = d.dram :=
  (Dev.talk_sendAny d typ b).dram
@[simp] theorem Dev.sendAny_chanQ (d : Dev) (typ : Nat) (b : List Byte) : (d.sendAny typ b).chanQ = d.chanQ :=
  (Dev.talk_sendAny d typ b).chanQ
@[simp] theorem Dev.sendAny_uplQ (d : Dev) (typ : Nat) (b : List Byte) : (d.sendAny typ b).uplQ = d.uplQ :=
  (Dev.talk_sendAny d typ b).uplQ
@[simp] theorem Dev.sendAny_fabQ (d : Dev) (typ : Nat) (b : List Byte) : (d.sendAny typ b).fabQ = d.fabQ :=
  (Dev.talk_sendAny d typ b).fabQ
@[simp] theorem Dev.sendAny_ds (d : Dev) (typ : Nat) (b : List Byte) : (d.sendAny typ b).ds = d.ds :=
  (Dev.talk_sendAny d typ b).ds
@[simp] theorem Dev.sendAny_ciph (d : Dev) (typ : Nat) (b : List Byte) : (d.sendAny typ b).ciph = d.ciph :=
  (Dev.talk_sendAny d typ b).ciph
@[simp] theorem Dev.sendAny_col (d : Dev) (typ : Nat) (b : List Byte) : (d.sendAny typ b).col = d.col :=
  (Dev.talk_sendAny d typ b).col
@[simp] theorem Dev.sendAny_fwd (d : Dev) (typ : Nat) (b : List Byte) : (d.sendAny typ b).fwd = d.fwd :=
  (Dev.talk_sendAny d typ b).fwd
@[simp] theorem Dev.sendAny_tsFifo (d : Dev) (typ : Nat) (b : List Byte) : (d.sendAny typ b).tsFifo = d.tsFifo :=
  (Dev.talk_sendAny d typ b).tsFifo
@[simp] theorem Dev.sendAny_fab (d : Dev) (typ : Nat) (b : List Byte) : (d.sendAny typ b).fab = d.fab :=
  (Dev.talk_sendAny d typ b).fab
@[simp] theorem Dev.sendAny_streams (d : Dev) (typ : Nat) (b : List Byte) : (d.sendAny typ b).streams = d.streams :=
  (Dev.talk_sendAny d typ b).streams
@[simp] theorem Dev.sendAny_pairs (d : Dev) (typ : Nat) (b : List Byte) : (d.sendAny typ b).pairs = d.pairs :=
  (Dev.talk_sendAny d typ b).pairs
@[simp] theorem Dev.sendAny_seqOut (d : Dev) (typ : Nat) (b : List Byte) : (d.sendAny typ b).seqOut = d.seqOut :=
  (Dev.talk_sendAny d typ b).seqOut
@[simp] theorem Dev.sendAny_alm (d : Dev) (typ : Nat) (b : List Byte) : (d.sendAny typ b).alm = d.alm :=
  (Dev.talk_sendAny d typ b).alm
@[simp] theorem Dev.sendAny_clk (d : Dev) (typ : Nat) (b : List Byte) : (d.sendAny typ b).clk = d.clk :=
  (Dev.talk_sendAny d typ b).clk
@[simp] theorem Dev.sendAny_pin (d : Dev) (typ : Nat) (b : List Byte) : (d.sendAny typ b).pin = d.pin :=
  (Dev.talk_sendAny d typ b).pin
@[simp] theorem Dev.sendAny_free (d : Dev) (typ : Nat) (b : List Byte) : (d.sendAny typ b).free = d.free :=
  (Dev.talk_sendAny d typ b).free
@[simp] theorem Dev.sendAny_replies (d : Dev) (typ : Nat) (b : List Byte) : (d.sendAny typ b).replies = d.replies :=
  (Dev.talk_sendAny d typ b).replies
@[simp] theorem Dev.sendAny_wipes (d : Dev) (typ : Nat) (b : List Byte) : (d.sendAny typ b).wipes = d.wipes :=
  (Dev.talk_sendAny d typ b).wipes
@[simp] theorem Dev.sendAny_glk_freqSeq (d : Dev) (typ : Nat) (b : List Byte) : (d.sendAny typ b).glk.freqSeq = d.glk.freqSeq :=
  (Dev.talk_sendAny d typ b).glk_freqSeq
@[simp] theorem Dev.sendAny_glk_freqSent (d : Dev) (typ : Nat) (b : List Byte) : (d.sendAny typ b).glk.freqSent = d.glk.freqSent :=
  (Dev.talk_sendAny d typ b).glk_freqSent
@[simp] theorem Dev.sendAny_glk_viols (d : Dev) (typ : Nat) (b : List Byte) : (d.sendAny typ b).glk.viols = d.glk.viols :=
  (Dev.talk_sendAny d typ b).glk_viols
@[simp] theorem Dev.sendAny_glk_cmds (d : Dev) (typ : Nat) (b : List Byte) : (d.sendAny typ b).glk.cmds = d.glk.cmds :=
  (Dev.talk_sendAny d typ b).glk_cmds
@[simp] theorem Dev.sendAny_glk_rings (d : Dev) (typ : Nat) (b : List Byte) : (d.sendAny typ b).glk.rings = d.glk.rings :=
  (Dev.talk_sendAny d typ b).glk_rings
@[simp] theorem Dev.sendAny_glk_nextTag (d : Dev) (typ : Nat) (b : List Byte) : (d.sendAny typ b).glk.nextTag = d.glk.nextTag :=
  (Dev.talk_sendAny d typ b).glk_nextTag

@[simp] theorem Dev.alert_part (d : Dev) (code : Nat) (ps : List Byte) : (d.alert code ps).part = d.part :=
  (Dev.talk_alert d code ps).part
@[simp] theorem Dev.alert_tick (d : Dev) (code : Nat) (ps : List Byte) : (d.alert code ps).tick = d.tick :=
  (Dev.talk_alert d code ps).tick
@[simp] theorem Dev.alert_once (d : Dev) (code : Nat) (ps : List Byte) : (d.alert code ps).once = d.once :=
  (Dev.talk_alert d code ps).once
@[simp] theorem Dev.alert_cnt (d : Dev) (code : Nat) (ps : List Byte) : (d.alert code ps).cnt = d.cnt :=
  (Dev.talk_alert d code ps).cnt
@[simp] theorem Dev.alert_lanes (d : Dev) (code : Nat) (ps : List Byte) : (d.alert code ps).lanes = d.lanes :=
  (Dev.talk_alert d code ps).lanes
@[simp] theorem Dev.alert_trees (d : Dev) (code : Nat) (ps : List Byte) : (d.alert code ps).trees = d.trees :=
  (Dev.talk_alert d code ps).trees
@[simp] theorem Dev.alert_cages (d : Dev) (code : Nat) (ps : List Byte) : (d.alert code ps).cages = d.cages :=
  (Dev.talk_alert d code ps).cages
@[simp] theorem Dev.alert_lineOpts (d : Dev) (code : Nat) (ps : List Byte) : (d.alert code ps).lineOpts = d.lineOpts :=
  (Dev.talk_alert d code ps).lineOpts
@[simp] theorem Dev.alert_rx (d : Dev) (code : Nat) (ps : List Byte) : (d.alert code ps).rx = d.rx :=
  (Dev.talk_alert d code ps).rx
@[simp] theorem Dev.alert_presets (d : Dev) (code : Nat) (ps : List Byte) : (d.alert code ps).presets = d.presets :=
  (Dev.talk_alert d code ps).presets
@[simp] theorem Dev.alert_tapSeq (d : Dev) (code : Nat) (ps : List Byte) : (d.alert code ps).tapSeq = d.tapSeq :=
  (Dev.talk_alert d code ps).tapSeq
@[simp] theorem Dev.alert_reasm (d : Dev) (code : Nat) (ps : List Byte) : (d.alert code ps).reasm = d.reasm :=
  (Dev.talk_alert d code ps).reasm
@[simp] theorem Dev.alert_act (d : Dev) (code : Nat) (ps : List Byte) : (d.alert code ps).act = d.act :=
  (Dev.talk_alert d code ps).act
@[simp] theorem Dev.alert_actTrees (d : Dev) (code : Nat) (ps : List Byte) : (d.alert code ps).actTrees = d.actTrees :=
  (Dev.talk_alert d code ps).actTrees
@[simp] theorem Dev.alert_cat (d : Dev) (code : Nat) (ps : List Byte) : (d.alert code ps).cat = d.cat :=
  (Dev.talk_alert d code ps).cat
@[simp] theorem Dev.alert_lad (d : Dev) (code : Nat) (ps : List Byte) : (d.alert code ps).lad = d.lad :=
  (Dev.talk_alert d code ps).lad
@[simp] theorem Dev.alert_ladTrees (d : Dev) (code : Nat) (ps : List Byte) : (d.alert code ps).ladTrees = d.ladTrees :=
  (Dev.talk_alert d code ps).ladTrees
@[simp] theorem Dev.alert_notices (d : Dev) (code : Nat) (ps : List Byte) : (d.alert code ps).notices = d.notices :=
  (Dev.talk_alert d code ps).notices
@[simp] theorem Dev.alert_noticeSeq (d : Dev) (code : Nat) (ps : List Byte) : (d.alert code ps).noticeSeq = d.noticeSeq :=
  (Dev.talk_alert d code ps).noticeSeq
@[simp] theorem Dev.alert_ift (d : Dev) (code : Nat) (ps : List Byte) : (d.alert code ps).ift = d.ift :=
  (Dev.talk_alert d code ps).ift
@[simp] theorem Dev.alert_pan (d : Dev) (code : Nat) (ps : List Byte) : (d.alert code ps).pan = d.pan :=
  (Dev.talk_alert d code ps).pan
@[simp] theorem Dev.alert_dram (d : Dev) (code : Nat) (ps : List Byte) : (d.alert code ps).dram = d.dram :=
  (Dev.talk_alert d code ps).dram
@[simp] theorem Dev.alert_chanQ (d : Dev) (code : Nat) (ps : List Byte) : (d.alert code ps).chanQ = d.chanQ :=
  (Dev.talk_alert d code ps).chanQ
@[simp] theorem Dev.alert_uplQ (d : Dev) (code : Nat) (ps : List Byte) : (d.alert code ps).uplQ = d.uplQ :=
  (Dev.talk_alert d code ps).uplQ
@[simp] theorem Dev.alert_fabQ (d : Dev) (code : Nat) (ps : List Byte) : (d.alert code ps).fabQ = d.fabQ :=
  (Dev.talk_alert d code ps).fabQ
@[simp] theorem Dev.alert_ds (d : Dev) (code : Nat) (ps : List Byte) : (d.alert code ps).ds = d.ds :=
  (Dev.talk_alert d code ps).ds
@[simp] theorem Dev.alert_ciph (d : Dev) (code : Nat) (ps : List Byte) : (d.alert code ps).ciph = d.ciph :=
  (Dev.talk_alert d code ps).ciph
@[simp] theorem Dev.alert_col (d : Dev) (code : Nat) (ps : List Byte) : (d.alert code ps).col = d.col :=
  (Dev.talk_alert d code ps).col
@[simp] theorem Dev.alert_fwd (d : Dev) (code : Nat) (ps : List Byte) : (d.alert code ps).fwd = d.fwd :=
  (Dev.talk_alert d code ps).fwd
@[simp] theorem Dev.alert_tsFifo (d : Dev) (code : Nat) (ps : List Byte) : (d.alert code ps).tsFifo = d.tsFifo :=
  (Dev.talk_alert d code ps).tsFifo
@[simp] theorem Dev.alert_fab (d : Dev) (code : Nat) (ps : List Byte) : (d.alert code ps).fab = d.fab :=
  (Dev.talk_alert d code ps).fab
@[simp] theorem Dev.alert_streams (d : Dev) (code : Nat) (ps : List Byte) : (d.alert code ps).streams = d.streams :=
  (Dev.talk_alert d code ps).streams
@[simp] theorem Dev.alert_pairs (d : Dev) (code : Nat) (ps : List Byte) : (d.alert code ps).pairs = d.pairs :=
  (Dev.talk_alert d code ps).pairs
@[simp] theorem Dev.alert_seqOut (d : Dev) (code : Nat) (ps : List Byte) : (d.alert code ps).seqOut = d.seqOut :=
  (Dev.talk_alert d code ps).seqOut
@[simp] theorem Dev.alert_alm (d : Dev) (code : Nat) (ps : List Byte) : (d.alert code ps).alm = d.alm :=
  (Dev.talk_alert d code ps).alm
@[simp] theorem Dev.alert_clk (d : Dev) (code : Nat) (ps : List Byte) : (d.alert code ps).clk = d.clk :=
  (Dev.talk_alert d code ps).clk
@[simp] theorem Dev.alert_pin (d : Dev) (code : Nat) (ps : List Byte) : (d.alert code ps).pin = d.pin :=
  (Dev.talk_alert d code ps).pin
@[simp] theorem Dev.alert_free (d : Dev) (code : Nat) (ps : List Byte) : (d.alert code ps).free = d.free :=
  (Dev.talk_alert d code ps).free
@[simp] theorem Dev.alert_replies (d : Dev) (code : Nat) (ps : List Byte) : (d.alert code ps).replies = d.replies :=
  (Dev.talk_alert d code ps).replies
@[simp] theorem Dev.alert_wipes (d : Dev) (code : Nat) (ps : List Byte) : (d.alert code ps).wipes = d.wipes :=
  (Dev.talk_alert d code ps).wipes
@[simp] theorem Dev.alert_glk_freqSeq (d : Dev) (code : Nat) (ps : List Byte) : (d.alert code ps).glk.freqSeq = d.glk.freqSeq :=
  (Dev.talk_alert d code ps).glk_freqSeq
@[simp] theorem Dev.alert_glk_freqSent (d : Dev) (code : Nat) (ps : List Byte) : (d.alert code ps).glk.freqSent = d.glk.freqSent :=
  (Dev.talk_alert d code ps).glk_freqSent
@[simp] theorem Dev.alert_glk_viols (d : Dev) (code : Nat) (ps : List Byte) : (d.alert code ps).glk.viols = d.glk.viols :=
  (Dev.talk_alert d code ps).glk_viols
@[simp] theorem Dev.alert_glk_cmds (d : Dev) (code : Nat) (ps : List Byte) : (d.alert code ps).glk.cmds = d.glk.cmds :=
  (Dev.talk_alert d code ps).glk_cmds
@[simp] theorem Dev.alert_glk_rings (d : Dev) (code : Nat) (ps : List Byte) : (d.alert code ps).glk.rings = d.glk.rings :=
  (Dev.talk_alert d code ps).glk_rings
@[simp] theorem Dev.alert_glk_nextTag (d : Dev) (code : Nat) (ps : List Byte) : (d.alert code ps).glk.nextTag = d.glk.nextTag :=
  (Dev.talk_alert d code ps).glk_nextTag

/-! A command finished, before MBX_DONE. -/

theorem Dev.finished_part (d : Dev) (m r : Nat) (resp : List Byte) : (d.finished m r resp).part = d.part := by
  simp only [Dev.finished, Dev.put_part]
theorem Dev.finished_tick (d : Dev) (m r : Nat) (resp : List Byte) : (d.finished m r resp).tick = d.tick := by
  simp only [Dev.finished, Dev.put_tick]
theorem Dev.finished_once (d : Dev) (m r : Nat) (resp : List Byte) : (d.finished m r resp).once = d.once := by
  simp only [Dev.finished, Dev.put_once]
theorem Dev.finished_cnt (d : Dev) (m r : Nat) (resp : List Byte) : (d.finished m r resp).cnt = d.cnt := by
  simp only [Dev.finished, Dev.put_cnt]
theorem Dev.finished_lanes (d : Dev) (m r : Nat) (resp : List Byte) : (d.finished m r resp).lanes = d.lanes := by
  simp only [Dev.finished, Dev.put_lanes]
theorem Dev.finished_trees (d : Dev) (m r : Nat) (resp : List Byte) : (d.finished m r resp).trees = d.trees := by
  simp only [Dev.finished, Dev.put_trees]
theorem Dev.finished_cages (d : Dev) (m r : Nat) (resp : List Byte) : (d.finished m r resp).cages = d.cages := by
  simp only [Dev.finished, Dev.put_cages]
theorem Dev.finished_lineOpts (d : Dev) (m r : Nat) (resp : List Byte) : (d.finished m r resp).lineOpts = d.lineOpts := by
  simp only [Dev.finished, Dev.put_lineOpts]
theorem Dev.finished_rx (d : Dev) (m r : Nat) (resp : List Byte) : (d.finished m r resp).rx = d.rx := by
  simp only [Dev.finished, Dev.put_rx]
theorem Dev.finished_presets (d : Dev) (m r : Nat) (resp : List Byte) : (d.finished m r resp).presets = d.presets := by
  simp only [Dev.finished, Dev.put_presets]
theorem Dev.finished_tapSeq (d : Dev) (m r : Nat) (resp : List Byte) : (d.finished m r resp).tapSeq = d.tapSeq := by
  simp only [Dev.finished, Dev.put_tapSeq]
theorem Dev.finished_reasm (d : Dev) (m r : Nat) (resp : List Byte) : (d.finished m r resp).reasm = d.reasm := by
  simp only [Dev.finished, Dev.put_reasm]
theorem Dev.finished_act (d : Dev) (m r : Nat) (resp : List Byte) : (d.finished m r resp).act = d.act := by
  simp only [Dev.finished, Dev.put_act]
theorem Dev.finished_actTrees (d : Dev) (m r : Nat) (resp : List Byte) : (d.finished m r resp).actTrees = d.actTrees := by
  simp only [Dev.finished, Dev.put_actTrees]
theorem Dev.finished_cat (d : Dev) (m r : Nat) (resp : List Byte) : (d.finished m r resp).cat = d.cat := by
  simp only [Dev.finished, Dev.put_cat]
theorem Dev.finished_lad (d : Dev) (m r : Nat) (resp : List Byte) : (d.finished m r resp).lad = d.lad := by
  simp only [Dev.finished, Dev.put_lad]
theorem Dev.finished_ladTrees (d : Dev) (m r : Nat) (resp : List Byte) : (d.finished m r resp).ladTrees = d.ladTrees := by
  simp only [Dev.finished, Dev.put_ladTrees]
theorem Dev.finished_notices (d : Dev) (m r : Nat) (resp : List Byte) : (d.finished m r resp).notices = d.notices := by
  simp only [Dev.finished, Dev.put_notices]
theorem Dev.finished_noticeSeq (d : Dev) (m r : Nat) (resp : List Byte) : (d.finished m r resp).noticeSeq = d.noticeSeq := by
  simp only [Dev.finished, Dev.put_noticeSeq]
theorem Dev.finished_ift (d : Dev) (m r : Nat) (resp : List Byte) : (d.finished m r resp).ift = d.ift := by
  simp only [Dev.finished, Dev.put_ift]
theorem Dev.finished_pan (d : Dev) (m r : Nat) (resp : List Byte) : (d.finished m r resp).pan = d.pan := by
  simp only [Dev.finished, Dev.put_pan]
theorem Dev.finished_dram (d : Dev) (m r : Nat) (resp : List Byte) : (d.finished m r resp).dram = d.dram := by
  simp only [Dev.finished, Dev.put_dram]
theorem Dev.finished_chanQ (d : Dev) (m r : Nat) (resp : List Byte) : (d.finished m r resp).chanQ = d.chanQ := by
  simp only [Dev.finished, Dev.put_chanQ]
theorem Dev.finished_uplQ (d : Dev) (m r : Nat) (resp : List Byte) : (d.finished m r resp).uplQ = d.uplQ := by
  simp only [Dev.finished, Dev.put_uplQ]
theorem Dev.finished_fabQ (d : Dev) (m r : Nat) (resp : List Byte) : (d.finished m r resp).fabQ = d.fabQ := by
  simp only [Dev.finished, Dev.put_fabQ]
theorem Dev.finished_ds (d : Dev) (m r : Nat) (resp : List Byte) : (d.finished m r resp).ds = d.ds := by
  simp only [Dev.finished, Dev.put_ds]
theorem Dev.finished_ciph (d : Dev) (m r : Nat) (resp : List Byte) : (d.finished m r resp).ciph = d.ciph := by
  simp only [Dev.finished, Dev.put_ciph]
theorem Dev.finished_col (d : Dev) (m r : Nat) (resp : List Byte) : (d.finished m r resp).col = d.col := by
  simp only [Dev.finished, Dev.put_col]
theorem Dev.finished_fwd (d : Dev) (m r : Nat) (resp : List Byte) : (d.finished m r resp).fwd = d.fwd := by
  simp only [Dev.finished, Dev.put_fwd]
theorem Dev.finished_tsFifo (d : Dev) (m r : Nat) (resp : List Byte) : (d.finished m r resp).tsFifo = d.tsFifo := by
  simp only [Dev.finished, Dev.put_tsFifo]
theorem Dev.finished_fab (d : Dev) (m r : Nat) (resp : List Byte) : (d.finished m r resp).fab = d.fab := by
  simp only [Dev.finished, Dev.put_fab]
theorem Dev.finished_streams (d : Dev) (m r : Nat) (resp : List Byte) : (d.finished m r resp).streams = d.streams := by
  simp only [Dev.finished, Dev.put_streams]
theorem Dev.finished_pairs (d : Dev) (m r : Nat) (resp : List Byte) : (d.finished m r resp).pairs = d.pairs := by
  simp only [Dev.finished, Dev.put_pairs]
theorem Dev.finished_seqOut (d : Dev) (m r : Nat) (resp : List Byte) : (d.finished m r resp).seqOut = d.seqOut := by
  simp only [Dev.finished, Dev.put_seqOut]
theorem Dev.finished_alm (d : Dev) (m r : Nat) (resp : List Byte) : (d.finished m r resp).alm = d.alm := by
  simp only [Dev.finished, Dev.put_alm]
theorem Dev.finished_clk (d : Dev) (m r : Nat) (resp : List Byte) : (d.finished m r resp).clk = d.clk := by
  simp only [Dev.finished, Dev.put_clk]
theorem Dev.finished_pin (d : Dev) (m r : Nat) (resp : List Byte) : (d.finished m r resp).pin = d.pin := by
  simp only [Dev.finished, Dev.put_pin]
theorem Dev.finished_free (d : Dev) (m r : Nat) (resp : List Byte) : (d.finished m r resp).free = d.free := by
  simp only [Dev.finished, Dev.put_free]
theorem Dev.finished_wipes (d : Dev) (m r : Nat) (resp : List Byte) : (d.finished m r resp).wipes = d.wipes := by
  simp only [Dev.finished, Dev.put_wipes]
theorem Dev.finished_replies (d : Dev) (m r : Nat) (resp : List Byte) : (d.finished m r resp).replies = d.replies ++ [(m, resp)] := by
  simp only [Dev.finished, Dev.put_replies]
theorem Dev.finished_glk (d : Dev) (m r : Nat) (resp : List Byte) :
    (d.finished m r resp).glk = { d.glk with cmds := d.glk.cmds.filter (fun c => c.mbx != m) } := by
  simp only [Dev.finished, Dev.put_glk]

/-! A command finished leaves every other field alone. -/

@[simp] theorem Dev.finish_part (d : Dev) (m r : Nat) (resp : List Byte) : (d.finish m r resp).part = d.part :=
  (Dev.talk_finish d m r resp).part.trans (Dev.finished_part ..)
@[simp] theorem Dev.finish_tick (d : Dev) (m r : Nat) (resp : List Byte) : (d.finish m r resp).tick = d.tick :=
  (Dev.talk_finish d m r resp).tick.trans (Dev.finished_tick ..)
@[simp] theorem Dev.finish_once (d : Dev) (m r : Nat) (resp : List Byte) : (d.finish m r resp).once = d.once :=
  (Dev.talk_finish d m r resp).once.trans (Dev.finished_once ..)
@[simp] theorem Dev.finish_cnt (d : Dev) (m r : Nat) (resp : List Byte) : (d.finish m r resp).cnt = d.cnt :=
  (Dev.talk_finish d m r resp).cnt.trans (Dev.finished_cnt ..)
@[simp] theorem Dev.finish_lanes (d : Dev) (m r : Nat) (resp : List Byte) : (d.finish m r resp).lanes = d.lanes :=
  (Dev.talk_finish d m r resp).lanes.trans (Dev.finished_lanes ..)
@[simp] theorem Dev.finish_trees (d : Dev) (m r : Nat) (resp : List Byte) : (d.finish m r resp).trees = d.trees :=
  (Dev.talk_finish d m r resp).trees.trans (Dev.finished_trees ..)
@[simp] theorem Dev.finish_cages (d : Dev) (m r : Nat) (resp : List Byte) : (d.finish m r resp).cages = d.cages :=
  (Dev.talk_finish d m r resp).cages.trans (Dev.finished_cages ..)
@[simp] theorem Dev.finish_lineOpts (d : Dev) (m r : Nat) (resp : List Byte) : (d.finish m r resp).lineOpts = d.lineOpts :=
  (Dev.talk_finish d m r resp).lineOpts.trans (Dev.finished_lineOpts ..)
@[simp] theorem Dev.finish_rx (d : Dev) (m r : Nat) (resp : List Byte) : (d.finish m r resp).rx = d.rx :=
  (Dev.talk_finish d m r resp).rx.trans (Dev.finished_rx ..)
@[simp] theorem Dev.finish_presets (d : Dev) (m r : Nat) (resp : List Byte) : (d.finish m r resp).presets = d.presets :=
  (Dev.talk_finish d m r resp).presets.trans (Dev.finished_presets ..)
@[simp] theorem Dev.finish_tapSeq (d : Dev) (m r : Nat) (resp : List Byte) : (d.finish m r resp).tapSeq = d.tapSeq :=
  (Dev.talk_finish d m r resp).tapSeq.trans (Dev.finished_tapSeq ..)
@[simp] theorem Dev.finish_reasm (d : Dev) (m r : Nat) (resp : List Byte) : (d.finish m r resp).reasm = d.reasm :=
  (Dev.talk_finish d m r resp).reasm.trans (Dev.finished_reasm ..)
@[simp] theorem Dev.finish_act (d : Dev) (m r : Nat) (resp : List Byte) : (d.finish m r resp).act = d.act :=
  (Dev.talk_finish d m r resp).act.trans (Dev.finished_act ..)
@[simp] theorem Dev.finish_actTrees (d : Dev) (m r : Nat) (resp : List Byte) : (d.finish m r resp).actTrees = d.actTrees :=
  (Dev.talk_finish d m r resp).actTrees.trans (Dev.finished_actTrees ..)
@[simp] theorem Dev.finish_cat (d : Dev) (m r : Nat) (resp : List Byte) : (d.finish m r resp).cat = d.cat :=
  (Dev.talk_finish d m r resp).cat.trans (Dev.finished_cat ..)
@[simp] theorem Dev.finish_lad (d : Dev) (m r : Nat) (resp : List Byte) : (d.finish m r resp).lad = d.lad :=
  (Dev.talk_finish d m r resp).lad.trans (Dev.finished_lad ..)
@[simp] theorem Dev.finish_ladTrees (d : Dev) (m r : Nat) (resp : List Byte) : (d.finish m r resp).ladTrees = d.ladTrees :=
  (Dev.talk_finish d m r resp).ladTrees.trans (Dev.finished_ladTrees ..)
@[simp] theorem Dev.finish_notices (d : Dev) (m r : Nat) (resp : List Byte) : (d.finish m r resp).notices = d.notices :=
  (Dev.talk_finish d m r resp).notices.trans (Dev.finished_notices ..)
@[simp] theorem Dev.finish_noticeSeq (d : Dev) (m r : Nat) (resp : List Byte) : (d.finish m r resp).noticeSeq = d.noticeSeq :=
  (Dev.talk_finish d m r resp).noticeSeq.trans (Dev.finished_noticeSeq ..)
@[simp] theorem Dev.finish_ift (d : Dev) (m r : Nat) (resp : List Byte) : (d.finish m r resp).ift = d.ift :=
  (Dev.talk_finish d m r resp).ift.trans (Dev.finished_ift ..)
@[simp] theorem Dev.finish_pan (d : Dev) (m r : Nat) (resp : List Byte) : (d.finish m r resp).pan = d.pan :=
  (Dev.talk_finish d m r resp).pan.trans (Dev.finished_pan ..)
@[simp] theorem Dev.finish_dram (d : Dev) (m r : Nat) (resp : List Byte) : (d.finish m r resp).dram = d.dram :=
  (Dev.talk_finish d m r resp).dram.trans (Dev.finished_dram ..)
@[simp] theorem Dev.finish_chanQ (d : Dev) (m r : Nat) (resp : List Byte) : (d.finish m r resp).chanQ = d.chanQ :=
  (Dev.talk_finish d m r resp).chanQ.trans (Dev.finished_chanQ ..)
@[simp] theorem Dev.finish_uplQ (d : Dev) (m r : Nat) (resp : List Byte) : (d.finish m r resp).uplQ = d.uplQ :=
  (Dev.talk_finish d m r resp).uplQ.trans (Dev.finished_uplQ ..)
@[simp] theorem Dev.finish_fabQ (d : Dev) (m r : Nat) (resp : List Byte) : (d.finish m r resp).fabQ = d.fabQ :=
  (Dev.talk_finish d m r resp).fabQ.trans (Dev.finished_fabQ ..)
@[simp] theorem Dev.finish_ds (d : Dev) (m r : Nat) (resp : List Byte) : (d.finish m r resp).ds = d.ds :=
  (Dev.talk_finish d m r resp).ds.trans (Dev.finished_ds ..)
@[simp] theorem Dev.finish_ciph (d : Dev) (m r : Nat) (resp : List Byte) : (d.finish m r resp).ciph = d.ciph :=
  (Dev.talk_finish d m r resp).ciph.trans (Dev.finished_ciph ..)
@[simp] theorem Dev.finish_col (d : Dev) (m r : Nat) (resp : List Byte) : (d.finish m r resp).col = d.col :=
  (Dev.talk_finish d m r resp).col.trans (Dev.finished_col ..)
@[simp] theorem Dev.finish_fwd (d : Dev) (m r : Nat) (resp : List Byte) : (d.finish m r resp).fwd = d.fwd :=
  (Dev.talk_finish d m r resp).fwd.trans (Dev.finished_fwd ..)
@[simp] theorem Dev.finish_tsFifo (d : Dev) (m r : Nat) (resp : List Byte) : (d.finish m r resp).tsFifo = d.tsFifo :=
  (Dev.talk_finish d m r resp).tsFifo.trans (Dev.finished_tsFifo ..)
@[simp] theorem Dev.finish_fab (d : Dev) (m r : Nat) (resp : List Byte) : (d.finish m r resp).fab = d.fab :=
  (Dev.talk_finish d m r resp).fab.trans (Dev.finished_fab ..)
@[simp] theorem Dev.finish_streams (d : Dev) (m r : Nat) (resp : List Byte) : (d.finish m r resp).streams = d.streams :=
  (Dev.talk_finish d m r resp).streams.trans (Dev.finished_streams ..)
@[simp] theorem Dev.finish_pairs (d : Dev) (m r : Nat) (resp : List Byte) : (d.finish m r resp).pairs = d.pairs :=
  (Dev.talk_finish d m r resp).pairs.trans (Dev.finished_pairs ..)
@[simp] theorem Dev.finish_seqOut (d : Dev) (m r : Nat) (resp : List Byte) : (d.finish m r resp).seqOut = d.seqOut :=
  (Dev.talk_finish d m r resp).seqOut.trans (Dev.finished_seqOut ..)
@[simp] theorem Dev.finish_alm (d : Dev) (m r : Nat) (resp : List Byte) : (d.finish m r resp).alm = d.alm :=
  (Dev.talk_finish d m r resp).alm.trans (Dev.finished_alm ..)
@[simp] theorem Dev.finish_clk (d : Dev) (m r : Nat) (resp : List Byte) : (d.finish m r resp).clk = d.clk :=
  (Dev.talk_finish d m r resp).clk.trans (Dev.finished_clk ..)
@[simp] theorem Dev.finish_pin (d : Dev) (m r : Nat) (resp : List Byte) : (d.finish m r resp).pin = d.pin :=
  (Dev.talk_finish d m r resp).pin.trans (Dev.finished_pin ..)
@[simp] theorem Dev.finish_free (d : Dev) (m r : Nat) (resp : List Byte) : (d.finish m r resp).free = d.free :=
  (Dev.talk_finish d m r resp).free.trans (Dev.finished_free ..)
@[simp] theorem Dev.finish_wipes (d : Dev) (m r : Nat) (resp : List Byte) : (d.finish m r resp).wipes = d.wipes :=
  (Dev.talk_finish d m r resp).wipes.trans (Dev.finished_wipes ..)
@[simp] theorem Dev.finish_glk_freqSeq (d : Dev) (m r : Nat) (resp : List Byte) : (d.finish m r resp).glk.freqSeq = d.glk.freqSeq :=
  (Dev.talk_finish d m r resp).glk_freqSeq.trans (by rw [Dev.finished_glk])
@[simp] theorem Dev.finish_glk_freqSent (d : Dev) (m r : Nat) (resp : List Byte) : (d.finish m r resp).glk.freqSent = d.glk.freqSent :=
  (Dev.talk_finish d m r resp).glk_freqSent.trans (by rw [Dev.finished_glk])
@[simp] theorem Dev.finish_glk_viols (d : Dev) (m r : Nat) (resp : List Byte) : (d.finish m r resp).glk.viols = d.glk.viols :=
  (Dev.talk_finish d m r resp).glk_viols.trans (by rw [Dev.finished_glk])
@[simp] theorem Dev.finish_glk_rings (d : Dev) (m r : Nat) (resp : List Byte) : (d.finish m r resp).glk.rings = d.glk.rings :=
  (Dev.talk_finish d m r resp).glk_rings.trans (by rw [Dev.finished_glk])
@[simp] theorem Dev.finish_glk_nextTag (d : Dev) (m r : Nat) (resp : List Byte) : (d.finish m r resp).glk.nextTag = d.glk.nextTag :=
  (Dev.talk_finish d m r resp).glk_nextTag.trans (by rw [Dev.finished_glk])

/-- The command finished leaves its place. -/
@[simp] theorem Dev.finish_cmds (d : Dev) (m r : Nat) (resp : List Byte) :
    (d.finish m r resp).glk.cmds = d.glk.cmds.filter (fun c => c.mbx != m) :=
  (Dev.talk_finish d m r resp).glk_cmds.trans (by rw [Dev.finished_glk])

/-- The response waits to be delivered. -/
@[simp] theorem Dev.finish_replies (d : Dev) (m r : Nat) (resp : List Byte) :
    (d.finish m r resp).replies = d.replies ++ [(m, resp)] :=
  (Dev.talk_finish d m r resp).replies.trans (Dev.finished_replies ..)

/-! Registers after a sending, an alert, a command finished. -/

theorem Dev.rd_send (d : Dev) (p typ : Nat) (b : List Byte) {a : Nat} (h : a ≠ rGLK_CNT 0) : (d.send p typ b).rd a = d.rd a :=
  (Dev.talk_send d p typ b).rd a (by simpa using h)

theorem Dev.rd_sendAny (d : Dev) (typ : Nat) (b : List Byte) {a : Nat} (h : a ≠ rGLK_CNT 0) :
    (d.sendAny typ b).rd a = d.rd a := (Dev.talk_sendAny d typ b).rd a (by simpa using h)

theorem Dev.rd_alert (d : Dev) (code : Nat) (ps : List Byte) {a : Nat} (h : a ∉ alertRegs) :
    (d.alert code ps).rd a = d.rd a := (Dev.talk_alert d code ps).rd a h

theorem Dev.rd_finished (d : Dev) (m r : Nat) (resp : List Byte) (a : Nat) : (d.finished m r resp).rd a =
    (((((d.put (rMBX_STATUS m) fMBX_STATUS_RESP_LEN resp.length).put (rMBX_STATUS m) fMBX_STATUS_RESULT r).put
      (rMBX_STATUS m) fMBX_STATUS_STATE 2)).put (rMBX_INFO m) fMBX_INFO_SEQ
      (((((d.put (rMBX_STATUS m) fMBX_STATUS_RESP_LEN resp.length).put (rMBX_STATUS m) fMBX_STATUS_RESULT r).put
      (rMBX_STATUS m) fMBX_STATUS_STATE 2).get (rMBX_INFO m) fMBX_INFO_SEQ + 1) % 65536)).rd a := by
  simp only [Dev.finished, Dev.rd]

/-- A command finished writes MBX_STATUS and MBX_INFO of its mailbox and, with MBX_DONE, the counter of transactions sent. -/
theorem Dev.rd_finish (d : Dev) (m r : Nat) (resp : List Byte) {a : Nat} (h0 : a ≠ rGLK_CNT 0) (h1 : a ≠ rMBX_STATUS m)
    (h2 : a ≠ rMBX_INFO m) : (d.finish m r resp).rd a = d.rd a := by
  rw [(Dev.talk_finish d m r resp).rd a (by simpa using h0), Dev.rd_finished, Dev.rd_put_ne _ _ _ h2, Dev.rd_put_ne _ _ _ h1, Dev.rd_put_ne _ _ _ h1, Dev.rd_put_ne _ _ _ h1]

theorem rMBX_STATUS_ne_cnt {m : Nat} (h : m < 64) (i : Nat) : rMBX_STATUS m ≠ rGLK_CNT i := by
  simp only [rMBX_STATUS, rGLK_CNT]; omega

/-- MBX_STATUS of a command finished (19_gellen.md R565): STATE DONE, RESULT and RESP_LEN. -/
theorem Dev.finish_status (d : Dev) {m r : Nat} {resp : List Byte} (hm : m < 64) (hr : r < 65536) (hl : resp.length < 4096) :
    (d.finish m r resp).get (rMBX_STATUS m) fMBX_STATUS_STATE = 2 ∧
    (d.finish m r resp).get (rMBX_STATUS m) fMBX_STATUS_RESULT = r ∧
    (d.finish m r resp).get (rMBX_STATUS m) fMBX_STATUS_RESP_LEN = resp.length := by
  have e : (d.finish m r resp).rd (rMBX_STATUS m) = (d.finished m r resp).rd (rMBX_STATUS m) :=
    (Dev.talk_finish d m r resp).rd _ (by simpa using rMBX_STATUS_ne_cnt hm 0)
  have n : rMBX_STATUS m ≠ rMBX_INFO m := by simp only [rMBX_STATUS, rMBX_INFO]; omega
  have e2 : (d.finished m r resp).rd (rMBX_STATUS m) = _ := (Dev.rd_finished ..).trans (Dev.rd_put_ne _ _ _ n)
  rw [e2] at e
  refine ⟨?_, ?_, ?_⟩
  · rw [Dev.get_congr e, Dev.get_put_same _ _ _ (by decide)]
    rfl
  · rw [Dev.get_congr e, Dev.get_put_apart _ _ _ (by decide) (by simp [Fld.apart, fMBX_STATUS_STATE, fMBX_STATUS_RESULT]),
      Dev.get_put_same _ _ _ (by decide)]
    exact Nat.mod_eq_of_lt (by simpa [fMBX_STATUS_RESULT] using hr)
  · rw [Dev.get_congr e, Dev.get_put_apart _ _ _ (by decide) (by simp [Fld.apart, fMBX_STATUS_STATE, fMBX_STATUS_RESP_LEN]),
      Dev.get_put_apart _ _ _ (by decide) (by simp [Fld.apart, fMBX_STATUS_RESULT, fMBX_STATUS_RESP_LEN]),
      Dev.get_put_same _ _ _ (by decide)]
    exact Nat.mod_eq_of_lt (by simpa [fMBX_STATUS_RESP_LEN] using hl)

/-! Delivery. -/

@[simp] theorem deliver_pending (s : State) : (deliver s).pending = s.pending := (rfl)
@[simp] theorem deliver_flash (s : State) : (deliver s).flash = s.flash := (rfl)
@[simp] theorem deliver_replies (s : State) : (deliver s).dev.replies = [] := (rfl)
@[simp] theorem deliver_wipes (s : State) : (deliver s).dev.wipes = [] := (rfl)
@[simp] theorem deliver_rd (s : State) (a : Nat) : (deliver s).dev.rd a = s.dev.rd a := (rfl)
@[simp] theorem deliver_rdN (s : State) (a : Nat) : (deliver s).dev.rdN a = s.dev.rdN a := (rfl)
@[simp] theorem deliver_get (s : State) (a : Nat) (f : Fld) : (deliver s).dev.get a f = s.dev.get a f := (rfl)

@[simp] theorem deliver_part (s : State) : (deliver s).dev.part = s.dev.part := (rfl)
@[simp] theorem deliver_regs (s : State) : (deliver s).dev.regs = s.dev.regs := (rfl)
@[simp] theorem deliver_glk (s : State) : (deliver s).dev.glk = s.dev.glk := (rfl)
@[simp] theorem deliver_tick (s : State) : (deliver s).dev.tick = s.dev.tick := (rfl)
@[simp] theorem deliver_once (s : State) : (deliver s).dev.once = s.dev.once := (rfl)
@[simp] theorem deliver_cnt (s : State) : (deliver s).dev.cnt = s.dev.cnt := (rfl)
@[simp] theorem deliver_lanes (s : State) : (deliver s).dev.lanes = s.dev.lanes := (rfl)
@[simp] theorem deliver_trees (s : State) : (deliver s).dev.trees = s.dev.trees := (rfl)
@[simp] theorem deliver_cages (s : State) : (deliver s).dev.cages = s.dev.cages := (rfl)
@[simp] theorem deliver_lineOpts (s : State) : (deliver s).dev.lineOpts = s.dev.lineOpts := (rfl)
@[simp] theorem deliver_rx (s : State) : (deliver s).dev.rx = s.dev.rx := (rfl)
@[simp] theorem deliver_presets (s : State) : (deliver s).dev.presets = s.dev.presets := (rfl)
@[simp] theorem deliver_tapSeq (s : State) : (deliver s).dev.tapSeq = s.dev.tapSeq := (rfl)
@[simp] theorem deliver_reasm (s : State) : (deliver s).dev.reasm = s.dev.reasm := (rfl)
@[simp] theorem deliver_act (s : State) : (deliver s).dev.act = s.dev.act := (rfl)
@[simp] theorem deliver_actTrees (s : State) : (deliver s).dev.actTrees = s.dev.actTrees := (rfl)
@[simp] theorem deliver_cat (s : State) : (deliver s).dev.cat = s.dev.cat := (rfl)
@[simp] theorem deliver_lad (s : State) : (deliver s).dev.lad = s.dev.lad := (rfl)
@[simp] theorem deliver_ladTrees (s : State) : (deliver s).dev.ladTrees = s.dev.ladTrees := (rfl)
@[simp] theorem deliver_notices (s : State) : (deliver s).dev.notices = s.dev.notices := (rfl)
@[simp] theorem deliver_noticeSeq (s : State) : (deliver s).dev.noticeSeq = s.dev.noticeSeq := (rfl)
@[simp] theorem deliver_ift (s : State) : (deliver s).dev.ift = s.dev.ift := (rfl)
@[simp] theorem deliver_pan (s : State) : (deliver s).dev.pan = s.dev.pan := (rfl)
@[simp] theorem deliver_dram (s : State) : (deliver s).dev.dram = s.dev.dram := (rfl)
@[simp] theorem deliver_chanQ (s : State) : (deliver s).dev.chanQ = s.dev.chanQ := (rfl)
@[simp] theorem deliver_uplQ (s : State) : (deliver s).dev.uplQ = s.dev.uplQ := (rfl)
@[simp] theorem deliver_fabQ (s : State) : (deliver s).dev.fabQ = s.dev.fabQ := (rfl)
@[simp] theorem deliver_ds (s : State) : (deliver s).dev.ds = s.dev.ds := (rfl)
@[simp] theorem deliver_ciph (s : State) : (deliver s).dev.ciph = s.dev.ciph := (rfl)
@[simp] theorem deliver_col (s : State) : (deliver s).dev.col = s.dev.col := (rfl)
@[simp] theorem deliver_fwd (s : State) : (deliver s).dev.fwd = s.dev.fwd := (rfl)
@[simp] theorem deliver_tsFifo (s : State) : (deliver s).dev.tsFifo = s.dev.tsFifo := (rfl)
@[simp] theorem deliver_fab (s : State) : (deliver s).dev.fab = s.dev.fab := (rfl)
@[simp] theorem deliver_streams (s : State) : (deliver s).dev.streams = s.dev.streams := (rfl)
@[simp] theorem deliver_pairs (s : State) : (deliver s).dev.pairs = s.dev.pairs := (rfl)
@[simp] theorem deliver_seqOut (s : State) : (deliver s).dev.seqOut = s.dev.seqOut := (rfl)
@[simp] theorem deliver_alm (s : State) : (deliver s).dev.alm = s.dev.alm := (rfl)
@[simp] theorem deliver_clk (s : State) : (deliver s).dev.clk = s.dev.clk := (rfl)
@[simp] theorem deliver_pin (s : State) : (deliver s).dev.pin = s.dev.pin := (rfl)
@[simp] theorem deliver_out (s : State) : (deliver s).dev.out = s.dev.out := (rfl)
@[simp] theorem deliver_free (s : State) : (deliver s).dev.free = s.dev.free := (rfl)

/-- With one response to deliver and nothing to zero, the response area holds the response and every other byte stands. -/
theorem deliver_one {s : State} {m : Nat} {resp : List Byte} (h : s.dev.replies = [(m, resp)]) (hw : s.dev.wipes = [])
    (hl : resp.length ≤ 0x800) :
    loadBytes zeroByte (deliver s).mem (mbxBase m + 0x800) resp.length = resp ∧
    ∀ a, a < mbxBase m + 0x800 ∨ mbxBase m + 0x800 + resp.length ≤ a → sget zeroByte (deliver s).mem a = sget zeroByte s.mem a := by
  have e : (deliver s).mem = storeBytes zeroByte s.mem (mbxBase m + 0x800) resp := by
    simp only [deliver, h, hw, List.foldl_cons, List.foldl_nil]
    rw [List.take_of_length_le hl]
  rw [e]
  exact ⟨loadBytes_storeBytes .., fun a ha => sget_storeBytes_out _ _ _ _ ha⟩

/-- Delivery keeps the mailbox memory canonical. -/
theorem deliver_wf (s : State) (h : swf zeroByte s.mem = true) : swf zeroByte (deliver s).mem = true := by
  have w : ∀ (ms : List Nat) (m : List Host.Cell), swf zeroByte m = true → swf zeroByte (ms.foldl wipeMbx m) = true := by
    intro ms
    induction ms with
    | nil => exact fun _ h => h
    | cons x xs ih => exact fun m h => ih _ (swf_skeep _ _ h)
  have r : ∀ (rs : List (Nat × List Byte)) (m : List Host.Cell), swf zeroByte m = true →
      swf zeroByte (rs.foldl (fun m r => storeBytes zeroByte m (mbxBase r.1 + 0x800) (r.2.take 0x800)) m) = true := by
    intro rs
    induction rs with
    | nil => exact fun _ h => h
    | cons x xs ih => exact fun m h => ih _ (swf_storeBytes _ _ _ h)
  exact r _ _ (w _ _ h)

end Sys2Proof.Machine
end

