-- ==== Sys2Proof/Laws/Access.lean ====
section
/-! SUPPORT. The per-object maps: what a read gives after a change of the same object, of another one, and of a register. -/

namespace Sys2Proof.Machine

@[simp] theorem Dev.laneX_setLaneX_same (d : Dev) (k : Nat) (v : LaneX) : (d.setLaneX k v).laneX k = v := sget_sset_same ..
theorem Dev.laneX_setLaneX_ne (d : Dev) {k j : Nat} (v : LaneX) (h : j ≠ k) : (d.setLaneX k v).laneX j = d.laneX j := sget_sset_ne _ _ _ h
@[simp] theorem Dev.laneX_updLaneX_same (d : Dev) (k : Nat) (f : LaneX → LaneX) : (d.updLaneX k f).laneX k = f (d.laneX k) := sget_sset_same ..
theorem Dev.laneX_updLaneX_ne (d : Dev) {k j : Nat} (f : LaneX → LaneX) (h : j ≠ k) : (d.updLaneX k f).laneX j = d.laneX j := sget_sset_ne _ _ _ h
@[simp] theorem Dev.rd_setLaneX (d : Dev) (k : Nat) (v : LaneX) (a : Nat) : (d.setLaneX k v).rd a = d.rd a := (rfl)
@[simp] theorem Dev.rd_updLaneX (d : Dev) (k : Nat) (f : LaneX → LaneX) (a : Nat) : (d.updLaneX k f).rd a = d.rd a := (rfl)
@[simp] theorem Dev.get_setLaneX (d : Dev) (k : Nat) (v : LaneX) (a : Nat) (g : Fld) : (d.setLaneX k v).get a g = d.get a g := (rfl)
@[simp] theorem Dev.get_updLaneX (d : Dev) (k : Nat) (f : LaneX → LaneX) (a : Nat) (g : Fld) : (d.updLaneX k f).get a g = d.get a g := (rfl)
@[simp] theorem Dev.laneX_wrN (d : Dev) (a v k : Nat) : (d.wrN a v).laneX k = d.laneX k := (rfl)
@[simp] theorem Dev.laneX_put (d : Dev) (a : Nat) (f : Fld) (v k : Nat) : (d.put a f v).laneX k = d.laneX k := (rfl)
@[simp] theorem Dev.laneX_emit (d : Dev) (o : OutKind) (p : Nat) (l : List Nat) (b : List Byte) (k : Nat) : (d.emit o p l b).laneX k = d.laneX k := by
  unfold Dev.laneX; rw [Dev.emit_lanes]

@[simp] theorem Dev.tree_setTree_same (d : Dev) (k : Nat) (v : TreeX) : (d.setTree k v).tree k = v := sget_sset_same ..
theorem Dev.tree_setTree_ne (d : Dev) {k j : Nat} (v : TreeX) (h : j ≠ k) : (d.setTree k v).tree j = d.tree j := sget_sset_ne _ _ _ h
@[simp] theorem Dev.tree_updTree_same (d : Dev) (k : Nat) (f : TreeX → TreeX) : (d.updTree k f).tree k = f (d.tree k) := sget_sset_same ..
theorem Dev.tree_updTree_ne (d : Dev) {k j : Nat} (f : TreeX → TreeX) (h : j ≠ k) : (d.updTree k f).tree j = d.tree j := sget_sset_ne _ _ _ h
@[simp] theorem Dev.rd_setTree (d : Dev) (k : Nat) (v : TreeX) (a : Nat) : (d.setTree k v).rd a = d.rd a := (rfl)
@[simp] theorem Dev.rd_updTree (d : Dev) (k : Nat) (f : TreeX → TreeX) (a : Nat) : (d.updTree k f).rd a = d.rd a := (rfl)
@[simp] theorem Dev.get_setTree (d : Dev) (k : Nat) (v : TreeX) (a : Nat) (g : Fld) : (d.setTree k v).get a g = d.get a g := (rfl)
@[simp] theorem Dev.get_updTree (d : Dev) (k : Nat) (f : TreeX → TreeX) (a : Nat) (g : Fld) : (d.updTree k f).get a g = d.get a g := (rfl)
@[simp] theorem Dev.tree_wrN (d : Dev) (a v k : Nat) : (d.wrN a v).tree k = d.tree k := (rfl)
@[simp] theorem Dev.tree_put (d : Dev) (a : Nat) (f : Fld) (v k : Nat) : (d.put a f v).tree k = d.tree k := (rfl)
@[simp] theorem Dev.tree_emit (d : Dev) (o : OutKind) (p : Nat) (l : List Nat) (b : List Byte) (k : Nat) : (d.emit o p l b).tree k = d.tree k := by
  unfold Dev.tree; rw [Dev.emit_trees]

@[simp] theorem Dev.cage_setCage_same (d : Dev) (k : Nat) (v : CageX) : (d.setCage k v).cage k = v := sget_sset_same ..
theorem Dev.cage_setCage_ne (d : Dev) {k j : Nat} (v : CageX) (h : j ≠ k) : (d.setCage k v).cage j = d.cage j := sget_sset_ne _ _ _ h
@[simp] theorem Dev.cage_updCage_same (d : Dev) (k : Nat) (f : CageX → CageX) : (d.updCage k f).cage k = f (d.cage k) := sget_sset_same ..
theorem Dev.cage_updCage_ne (d : Dev) {k j : Nat} (f : CageX → CageX) (h : j ≠ k) : (d.updCage k f).cage j = d.cage j := sget_sset_ne _ _ _ h
@[simp] theorem Dev.rd_setCage (d : Dev) (k : Nat) (v : CageX) (a : Nat) : (d.setCage k v).rd a = d.rd a := (rfl)
@[simp] theorem Dev.rd_updCage (d : Dev) (k : Nat) (f : CageX → CageX) (a : Nat) : (d.updCage k f).rd a = d.rd a := (rfl)
@[simp] theorem Dev.get_setCage (d : Dev) (k : Nat) (v : CageX) (a : Nat) (g : Fld) : (d.setCage k v).get a g = d.get a g := (rfl)
@[simp] theorem Dev.get_updCage (d : Dev) (k : Nat) (f : CageX → CageX) (a : Nat) (g : Fld) : (d.updCage k f).get a g = d.get a g := (rfl)
@[simp] theorem Dev.cage_wrN (d : Dev) (a v k : Nat) : (d.wrN a v).cage k = d.cage k := (rfl)
@[simp] theorem Dev.cage_put (d : Dev) (a : Nat) (f : Fld) (v k : Nat) : (d.put a f v).cage k = d.cage k := (rfl)
@[simp] theorem Dev.cage_emit (d : Dev) (o : OutKind) (p : Nat) (l : List Nat) (b : List Byte) (k : Nat) : (d.emit o p l b).cage k = d.cage k := by
  unfold Dev.cage; rw [Dev.emit_cages]

@[simp] theorem Dev.lineOpt_setLineOpt_same (d : Dev) (k : Nat) (v : LineOpt) : (d.setLineOpt k v).lineOpt k = v := sget_sset_same ..
theorem Dev.lineOpt_setLineOpt_ne (d : Dev) {k j : Nat} (v : LineOpt) (h : j ≠ k) : (d.setLineOpt k v).lineOpt j = d.lineOpt j := sget_sset_ne _ _ _ h
@[simp] theorem Dev.lineOpt_updLineOpt_same (d : Dev) (k : Nat) (f : LineOpt → LineOpt) : (d.updLineOpt k f).lineOpt k = f (d.lineOpt k) := sget_sset_same ..
theorem Dev.lineOpt_updLineOpt_ne (d : Dev) {k j : Nat} (f : LineOpt → LineOpt) (h : j ≠ k) : (d.updLineOpt k f).lineOpt j = d.lineOpt j := sget_sset_ne _ _ _ h
@[simp] theorem Dev.rd_setLineOpt (d : Dev) (k : Nat) (v : LineOpt) (a : Nat) : (d.setLineOpt k v).rd a = d.rd a := (rfl)
@[simp] theorem Dev.rd_updLineOpt (d : Dev) (k : Nat) (f : LineOpt → LineOpt) (a : Nat) : (d.updLineOpt k f).rd a = d.rd a := (rfl)
@[simp] theorem Dev.get_setLineOpt (d : Dev) (k : Nat) (v : LineOpt) (a : Nat) (g : Fld) : (d.setLineOpt k v).get a g = d.get a g := (rfl)
@[simp] theorem Dev.get_updLineOpt (d : Dev) (k : Nat) (f : LineOpt → LineOpt) (a : Nat) (g : Fld) : (d.updLineOpt k f).get a g = d.get a g := (rfl)
@[simp] theorem Dev.lineOpt_wrN (d : Dev) (a v k : Nat) : (d.wrN a v).lineOpt k = d.lineOpt k := (rfl)
@[simp] theorem Dev.lineOpt_put (d : Dev) (a : Nat) (f : Fld) (v k : Nat) : (d.put a f v).lineOpt k = d.lineOpt k := (rfl)
@[simp] theorem Dev.lineOpt_emit (d : Dev) (o : OutKind) (p : Nat) (l : List Nat) (b : List Byte) (k : Nat) : (d.emit o p l b).lineOpt k = d.lineOpt k := by
  unfold Dev.lineOpt; rw [Dev.emit_lineOpts]

@[simp] theorem Dev.rxT_setRxT_same (d : Dev) (k : Nat) (v : RxTree) : (d.setRxT k v).rxT k = v := sget_sset_same ..
theorem Dev.rxT_setRxT_ne (d : Dev) {k j : Nat} (v : RxTree) (h : j ≠ k) : (d.setRxT k v).rxT j = d.rxT j := sget_sset_ne _ _ _ h
@[simp] theorem Dev.rxT_updRxT_same (d : Dev) (k : Nat) (f : RxTree → RxTree) : (d.updRxT k f).rxT k = f (d.rxT k) := sget_sset_same ..
theorem Dev.rxT_updRxT_ne (d : Dev) {k j : Nat} (f : RxTree → RxTree) (h : j ≠ k) : (d.updRxT k f).rxT j = d.rxT j := sget_sset_ne _ _ _ h
@[simp] theorem Dev.rd_setRxT (d : Dev) (k : Nat) (v : RxTree) (a : Nat) : (d.setRxT k v).rd a = d.rd a := (rfl)
@[simp] theorem Dev.rd_updRxT (d : Dev) (k : Nat) (f : RxTree → RxTree) (a : Nat) : (d.updRxT k f).rd a = d.rd a := (rfl)
@[simp] theorem Dev.get_setRxT (d : Dev) (k : Nat) (v : RxTree) (a : Nat) (g : Fld) : (d.setRxT k v).get a g = d.get a g := (rfl)
@[simp] theorem Dev.get_updRxT (d : Dev) (k : Nat) (f : RxTree → RxTree) (a : Nat) (g : Fld) : (d.updRxT k f).get a g = d.get a g := (rfl)
@[simp] theorem Dev.rxT_wrN (d : Dev) (a v k : Nat) : (d.wrN a v).rxT k = d.rxT k := (rfl)
@[simp] theorem Dev.rxT_put (d : Dev) (a : Nat) (f : Fld) (v k : Nat) : (d.put a f v).rxT k = d.rxT k := (rfl)
@[simp] theorem Dev.rxT_emit (d : Dev) (o : OutKind) (p : Nat) (l : List Nat) (b : List Byte) (k : Nat) : (d.emit o p l b).rxT k = d.rxT k := by
  unfold Dev.rxT; rw [Dev.emit_rx]

@[simp] theorem Dev.preset_setPreset_same (d : Dev) (k : Nat) (v : Preset) : (d.setPreset k v).preset k = v := sget_sset_same ..
theorem Dev.preset_setPreset_ne (d : Dev) {k j : Nat} (v : Preset) (h : j ≠ k) : (d.setPreset k v).preset j = d.preset j := sget_sset_ne _ _ _ h
@[simp] theorem Dev.preset_updPreset_same (d : Dev) (k : Nat) (f : Preset → Preset) : (d.updPreset k f).preset k = f (d.preset k) := sget_sset_same ..
theorem Dev.preset_updPreset_ne (d : Dev) {k j : Nat} (f : Preset → Preset) (h : j ≠ k) : (d.updPreset k f).preset j = d.preset j := sget_sset_ne _ _ _ h
@[simp] theorem Dev.rd_setPreset (d : Dev) (k : Nat) (v : Preset) (a : Nat) : (d.setPreset k v).rd a = d.rd a := (rfl)
@[simp] theorem Dev.rd_updPreset (d : Dev) (k : Nat) (f : Preset → Preset) (a : Nat) : (d.updPreset k f).rd a = d.rd a := (rfl)
@[simp] theorem Dev.get_setPreset (d : Dev) (k : Nat) (v : Preset) (a : Nat) (g : Fld) : (d.setPreset k v).get a g = d.get a g := (rfl)
@[simp] theorem Dev.get_updPreset (d : Dev) (k : Nat) (f : Preset → Preset) (a : Nat) (g : Fld) : (d.updPreset k f).get a g = d.get a g := (rfl)
@[simp] theorem Dev.preset_wrN (d : Dev) (a v k : Nat) : (d.wrN a v).preset k = d.preset k := (rfl)
@[simp] theorem Dev.preset_put (d : Dev) (a : Nat) (f : Fld) (v k : Nat) : (d.put a f v).preset k = d.preset k := (rfl)
@[simp] theorem Dev.preset_emit (d : Dev) (o : OutKind) (p : Nat) (l : List Nat) (b : List Byte) (k : Nat) : (d.emit o p l b).preset k = d.preset k := by
  unfold Dev.preset; rw [Dev.emit_presets]

@[simp] theorem Dev.tapSeqOf_setTapSeqOf_same (d : Dev) (k : Nat) (v : Nat) : (d.setTapSeqOf k v).tapSeqOf k = v := sget_sset_same ..
theorem Dev.tapSeqOf_setTapSeqOf_ne (d : Dev) {k j : Nat} (v : Nat) (h : j ≠ k) : (d.setTapSeqOf k v).tapSeqOf j = d.tapSeqOf j := sget_sset_ne _ _ _ h
@[simp] theorem Dev.tapSeqOf_updTapSeqOf_same (d : Dev) (k : Nat) (f : Nat → Nat) : (d.updTapSeqOf k f).tapSeqOf k = f (d.tapSeqOf k) := sget_sset_same ..
theorem Dev.tapSeqOf_updTapSeqOf_ne (d : Dev) {k j : Nat} (f : Nat → Nat) (h : j ≠ k) : (d.updTapSeqOf k f).tapSeqOf j = d.tapSeqOf j := sget_sset_ne _ _ _ h
@[simp] theorem Dev.rd_setTapSeqOf (d : Dev) (k : Nat) (v : Nat) (a : Nat) : (d.setTapSeqOf k v).rd a = d.rd a := (rfl)
@[simp] theorem Dev.rd_updTapSeqOf (d : Dev) (k : Nat) (f : Nat → Nat) (a : Nat) : (d.updTapSeqOf k f).rd a = d.rd a := (rfl)
@[simp] theorem Dev.get_setTapSeqOf (d : Dev) (k : Nat) (v : Nat) (a : Nat) (g : Fld) : (d.setTapSeqOf k v).get a g = d.get a g := (rfl)
@[simp] theorem Dev.get_updTapSeqOf (d : Dev) (k : Nat) (f : Nat → Nat) (a : Nat) (g : Fld) : (d.updTapSeqOf k f).get a g = d.get a g := (rfl)
@[simp] theorem Dev.tapSeqOf_wrN (d : Dev) (a v k : Nat) : (d.wrN a v).tapSeqOf k = d.tapSeqOf k := (rfl)
@[simp] theorem Dev.tapSeqOf_put (d : Dev) (a : Nat) (f : Fld) (v k : Nat) : (d.put a f v).tapSeqOf k = d.tapSeqOf k := (rfl)
@[simp] theorem Dev.tapSeqOf_emit (d : Dev) (o : OutKind) (p : Nat) (l : List Nat) (b : List Byte) (k : Nat) : (d.emit o p l b).tapSeqOf k = d.tapSeqOf k := by
  unfold Dev.tapSeqOf; rw [Dev.emit_tapSeq]

@[simp] theorem Dev.reasmOf_setReasmOf_same (d : Dev) (k : Nat) (v : Reasm) : (d.setReasmOf k v).reasmOf k = v := sget_sset_same ..
theorem Dev.reasmOf_setReasmOf_ne (d : Dev) {k j : Nat} (v : Reasm) (h : j ≠ k) : (d.setReasmOf k v).reasmOf j = d.reasmOf j := sget_sset_ne _ _ _ h
@[simp] theorem Dev.reasmOf_updReasmOf_same (d : Dev) (k : Nat) (f : Reasm → Reasm) : (d.updReasmOf k f).reasmOf k = f (d.reasmOf k) := sget_sset_same ..
theorem Dev.reasmOf_updReasmOf_ne (d : Dev) {k j : Nat} (f : Reasm → Reasm) (h : j ≠ k) : (d.updReasmOf k f).reasmOf j = d.reasmOf j := sget_sset_ne _ _ _ h
@[simp] theorem Dev.rd_setReasmOf (d : Dev) (k : Nat) (v : Reasm) (a : Nat) : (d.setReasmOf k v).rd a = d.rd a := (rfl)
@[simp] theorem Dev.rd_updReasmOf (d : Dev) (k : Nat) (f : Reasm → Reasm) (a : Nat) : (d.updReasmOf k f).rd a = d.rd a := (rfl)
@[simp] theorem Dev.get_setReasmOf (d : Dev) (k : Nat) (v : Reasm) (a : Nat) (g : Fld) : (d.setReasmOf k v).get a g = d.get a g := (rfl)
@[simp] theorem Dev.get_updReasmOf (d : Dev) (k : Nat) (f : Reasm → Reasm) (a : Nat) (g : Fld) : (d.updReasmOf k f).get a g = d.get a g := (rfl)
@[simp] theorem Dev.reasmOf_wrN (d : Dev) (a v k : Nat) : (d.wrN a v).reasmOf k = d.reasmOf k := (rfl)
@[simp] theorem Dev.reasmOf_put (d : Dev) (a : Nat) (f : Fld) (v k : Nat) : (d.put a f v).reasmOf k = d.reasmOf k := (rfl)
@[simp] theorem Dev.reasmOf_emit (d : Dev) (o : OutKind) (p : Nat) (l : List Nat) (b : List Byte) (k : Nat) : (d.emit o p l b).reasmOf k = d.reasmOf k := by
  unfold Dev.reasmOf; rw [Dev.emit_reasm]

@[simp] theorem Dev.actOf_setActOf_same (d : Dev) (k : Nat) (v : TermAct) : (d.setActOf k v).actOf k = v := sget_sset_same ..
theorem Dev.actOf_setActOf_ne (d : Dev) {k j : Nat} (v : TermAct) (h : j ≠ k) : (d.setActOf k v).actOf j = d.actOf j := sget_sset_ne _ _ _ h
@[simp] theorem Dev.actOf_updActOf_same (d : Dev) (k : Nat) (f : TermAct → TermAct) : (d.updActOf k f).actOf k = f (d.actOf k) := sget_sset_same ..
theorem Dev.actOf_updActOf_ne (d : Dev) {k j : Nat} (f : TermAct → TermAct) (h : j ≠ k) : (d.updActOf k f).actOf j = d.actOf j := sget_sset_ne _ _ _ h
@[simp] theorem Dev.rd_setActOf (d : Dev) (k : Nat) (v : TermAct) (a : Nat) : (d.setActOf k v).rd a = d.rd a := (rfl)
@[simp] theorem Dev.rd_updActOf (d : Dev) (k : Nat) (f : TermAct → TermAct) (a : Nat) : (d.updActOf k f).rd a = d.rd a := (rfl)
@[simp] theorem Dev.get_setActOf (d : Dev) (k : Nat) (v : TermAct) (a : Nat) (g : Fld) : (d.setActOf k v).get a g = d.get a g := (rfl)
@[simp] theorem Dev.get_updActOf (d : Dev) (k : Nat) (f : TermAct → TermAct) (a : Nat) (g : Fld) : (d.updActOf k f).get a g = d.get a g := (rfl)
@[simp] theorem Dev.actOf_wrN (d : Dev) (a v k : Nat) : (d.wrN a v).actOf k = d.actOf k := (rfl)
@[simp] theorem Dev.actOf_put (d : Dev) (a : Nat) (f : Fld) (v k : Nat) : (d.put a f v).actOf k = d.actOf k := (rfl)
@[simp] theorem Dev.actOf_emit (d : Dev) (o : OutKind) (p : Nat) (l : List Nat) (b : List Byte) (k : Nat) : (d.emit o p l b).actOf k = d.actOf k := by
  unfold Dev.actOf; rw [Dev.emit_act]

@[simp] theorem Dev.actT_setActT_same (d : Dev) (k : Nat) (v : ActTree) : (d.setActT k v).actT k = v := sget_sset_same ..
theorem Dev.actT_setActT_ne (d : Dev) {k j : Nat} (v : ActTree) (h : j ≠ k) : (d.setActT k v).actT j = d.actT j := sget_sset_ne _ _ _ h
@[simp] theorem Dev.actT_updActT_same (d : Dev) (k : Nat) (f : ActTree → ActTree) : (d.updActT k f).actT k = f (d.actT k) := sget_sset_same ..
theorem Dev.actT_updActT_ne (d : Dev) {k j : Nat} (f : ActTree → ActTree) (h : j ≠ k) : (d.updActT k f).actT j = d.actT j := sget_sset_ne _ _ _ h
@[simp] theorem Dev.rd_setActT (d : Dev) (k : Nat) (v : ActTree) (a : Nat) : (d.setActT k v).rd a = d.rd a := (rfl)
@[simp] theorem Dev.rd_updActT (d : Dev) (k : Nat) (f : ActTree → ActTree) (a : Nat) : (d.updActT k f).rd a = d.rd a := (rfl)
@[simp] theorem Dev.get_setActT (d : Dev) (k : Nat) (v : ActTree) (a : Nat) (g : Fld) : (d.setActT k v).get a g = d.get a g := (rfl)
@[simp] theorem Dev.get_updActT (d : Dev) (k : Nat) (f : ActTree → ActTree) (a : Nat) (g : Fld) : (d.updActT k f).get a g = d.get a g := (rfl)
@[simp] theorem Dev.actT_wrN (d : Dev) (a v k : Nat) : (d.wrN a v).actT k = d.actT k := (rfl)
@[simp] theorem Dev.actT_put (d : Dev) (a : Nat) (f : Fld) (v k : Nat) : (d.put a f v).actT k = d.actT k := (rfl)
@[simp] theorem Dev.actT_emit (d : Dev) (o : OutKind) (p : Nat) (l : List Nat) (b : List Byte) (k : Nat) : (d.emit o p l b).actT k = d.actT k := by
  unfold Dev.actT; rw [Dev.emit_actTrees]

@[simp] theorem Dev.term_setTerm_same (d : Dev) (k : Nat) (v : TermRec) : (d.setTerm k v).term k = v := sget_sset_same ..
theorem Dev.term_setTerm_ne (d : Dev) {k j : Nat} (v : TermRec) (h : j ≠ k) : (d.setTerm k v).term j = d.term j := sget_sset_ne _ _ _ h
@[simp] theorem Dev.term_updTerm_same (d : Dev) (k : Nat) (f : TermRec → TermRec) : (d.updTerm k f).term k = f (d.term k) := sget_sset_same ..
theorem Dev.term_updTerm_ne (d : Dev) {k j : Nat} (f : TermRec → TermRec) (h : j ≠ k) : (d.updTerm k f).term j = d.term j := sget_sset_ne _ _ _ h
@[simp] theorem Dev.rd_setTerm (d : Dev) (k : Nat) (v : TermRec) (a : Nat) : (d.setTerm k v).rd a = d.rd a := (rfl)
@[simp] theorem Dev.rd_updTerm (d : Dev) (k : Nat) (f : TermRec → TermRec) (a : Nat) : (d.updTerm k f).rd a = d.rd a := (rfl)
@[simp] theorem Dev.get_setTerm (d : Dev) (k : Nat) (v : TermRec) (a : Nat) (g : Fld) : (d.setTerm k v).get a g = d.get a g := (rfl)
@[simp] theorem Dev.get_updTerm (d : Dev) (k : Nat) (f : TermRec → TermRec) (a : Nat) (g : Fld) : (d.updTerm k f).get a g = d.get a g := (rfl)
@[simp] theorem Dev.term_wrN (d : Dev) (a v k : Nat) : (d.wrN a v).term k = d.term k := (rfl)
@[simp] theorem Dev.term_put (d : Dev) (a : Nat) (f : Fld) (v k : Nat) : (d.put a f v).term k = d.term k := (rfl)
@[simp] theorem Dev.term_emit (d : Dev) (o : OutKind) (p : Nat) (l : List Nat) (b : List Byte) (k : Nat) : (d.emit o p l b).term k = d.term k := by
  unfold Dev.term; rw [Dev.emit_cat]

@[simp] theorem Dev.alloc_setAlloc_same (d : Dev) (k : Nat) (v : AllocRec) : (d.setAlloc k v).alloc k = v := sget_sset_same ..
theorem Dev.alloc_setAlloc_ne (d : Dev) {k j : Nat} (v : AllocRec) (h : j ≠ k) : (d.setAlloc k v).alloc j = d.alloc j := sget_sset_ne _ _ _ h
@[simp] theorem Dev.alloc_updAlloc_same (d : Dev) (k : Nat) (f : AllocRec → AllocRec) : (d.updAlloc k f).alloc k = f (d.alloc k) := sget_sset_same ..
theorem Dev.alloc_updAlloc_ne (d : Dev) {k j : Nat} (f : AllocRec → AllocRec) (h : j ≠ k) : (d.updAlloc k f).alloc j = d.alloc j := sget_sset_ne _ _ _ h
@[simp] theorem Dev.rd_setAlloc (d : Dev) (k : Nat) (v : AllocRec) (a : Nat) : (d.setAlloc k v).rd a = d.rd a := (rfl)
@[simp] theorem Dev.rd_updAlloc (d : Dev) (k : Nat) (f : AllocRec → AllocRec) (a : Nat) : (d.updAlloc k f).rd a = d.rd a := (rfl)
@[simp] theorem Dev.get_setAlloc (d : Dev) (k : Nat) (v : AllocRec) (a : Nat) (g : Fld) : (d.setAlloc k v).get a g = d.get a g := (rfl)
@[simp] theorem Dev.get_updAlloc (d : Dev) (k : Nat) (f : AllocRec → AllocRec) (a : Nat) (g : Fld) : (d.updAlloc k f).get a g = d.get a g := (rfl)
@[simp] theorem Dev.alloc_wrN (d : Dev) (a v k : Nat) : (d.wrN a v).alloc k = d.alloc k := (rfl)
@[simp] theorem Dev.alloc_put (d : Dev) (a : Nat) (f : Fld) (v k : Nat) : (d.put a f v).alloc k = d.alloc k := (rfl)
@[simp] theorem Dev.alloc_emit (d : Dev) (o : OutKind) (p : Nat) (l : List Nat) (b : List Byte) (k : Nat) : (d.emit o p l b).alloc k = d.alloc k := by
  unfold Dev.alloc; rw [Dev.emit_cat]

@[simp] theorem Dev.chan_setChan_same (d : Dev) (k : Nat) (v : ChanRec) : (d.setChan k v).chan k = v := sget_sset_same ..
theorem Dev.chan_setChan_ne (d : Dev) {k j : Nat} (v : ChanRec) (h : j ≠ k) : (d.setChan k v).chan j = d.chan j := sget_sset_ne _ _ _ h
@[simp] theorem Dev.chan_updChan_same (d : Dev) (k : Nat) (f : ChanRec → ChanRec) : (d.updChan k f).chan k = f (d.chan k) := sget_sset_same ..
theorem Dev.chan_updChan_ne (d : Dev) {k j : Nat} (f : ChanRec → ChanRec) (h : j ≠ k) : (d.updChan k f).chan j = d.chan j := sget_sset_ne _ _ _ h
@[simp] theorem Dev.rd_setChan (d : Dev) (k : Nat) (v : ChanRec) (a : Nat) : (d.setChan k v).rd a = d.rd a := (rfl)
@[simp] theorem Dev.rd_updChan (d : Dev) (k : Nat) (f : ChanRec → ChanRec) (a : Nat) : (d.updChan k f).rd a = d.rd a := (rfl)
@[simp] theorem Dev.get_setChan (d : Dev) (k : Nat) (v : ChanRec) (a : Nat) (g : Fld) : (d.setChan k v).get a g = d.get a g := (rfl)
@[simp] theorem Dev.get_updChan (d : Dev) (k : Nat) (f : ChanRec → ChanRec) (a : Nat) (g : Fld) : (d.updChan k f).get a g = d.get a g := (rfl)
@[simp] theorem Dev.chan_wrN (d : Dev) (a v k : Nat) : (d.wrN a v).chan k = d.chan k := (rfl)
@[simp] theorem Dev.chan_put (d : Dev) (a : Nat) (f : Fld) (v k : Nat) : (d.put a f v).chan k = d.chan k := (rfl)
@[simp] theorem Dev.chan_emit (d : Dev) (o : OutKind) (p : Nat) (l : List Nat) (b : List Byte) (k : Nat) : (d.emit o p l b).chan k = d.chan k := by
  unfold Dev.chan; rw [Dev.emit_cat]

@[simp] theorem Dev.portOf_setPortOf_same (d : Dev) (k : Nat) (v : Option Nat) : (d.setPortOf k v).portOf k = v := sget_sset_same ..
theorem Dev.portOf_setPortOf_ne (d : Dev) {k j : Nat} (v : Option Nat) (h : j ≠ k) : (d.setPortOf k v).portOf j = d.portOf j := sget_sset_ne _ _ _ h
@[simp] theorem Dev.portOf_updPortOf_same (d : Dev) (k : Nat) (f : Option Nat → Option Nat) : (d.updPortOf k f).portOf k = f (d.portOf k) := sget_sset_same ..
theorem Dev.portOf_updPortOf_ne (d : Dev) {k j : Nat} (f : Option Nat → Option Nat) (h : j ≠ k) : (d.updPortOf k f).portOf j = d.portOf j := sget_sset_ne _ _ _ h
@[simp] theorem Dev.rd_setPortOf (d : Dev) (k : Nat) (v : Option Nat) (a : Nat) : (d.setPortOf k v).rd a = d.rd a := (rfl)
@[simp] theorem Dev.rd_updPortOf (d : Dev) (k : Nat) (f : Option Nat → Option Nat) (a : Nat) : (d.updPortOf k f).rd a = d.rd a := (rfl)
@[simp] theorem Dev.get_setPortOf (d : Dev) (k : Nat) (v : Option Nat) (a : Nat) (g : Fld) : (d.setPortOf k v).get a g = d.get a g := (rfl)
@[simp] theorem Dev.get_updPortOf (d : Dev) (k : Nat) (f : Option Nat → Option Nat) (a : Nat) (g : Fld) : (d.updPortOf k f).get a g = d.get a g := (rfl)
@[simp] theorem Dev.portOf_wrN (d : Dev) (a v k : Nat) : (d.wrN a v).portOf k = d.portOf k := (rfl)
@[simp] theorem Dev.portOf_put (d : Dev) (a : Nat) (f : Fld) (v k : Nat) : (d.put a f v).portOf k = d.portOf k := (rfl)
@[simp] theorem Dev.portOf_emit (d : Dev) (o : OutKind) (p : Nat) (l : List Nat) (b : List Byte) (k : Nat) : (d.emit o p l b).portOf k = d.portOf k := by
  unfold Dev.portOf; rw [Dev.emit_cat]

@[simp] theorem Dev.ladA_setLadA_same (d : Dev) (k : Nat) (v : LadAlloc) : (d.setLadA k v).ladA k = v := sget_sset_same ..
theorem Dev.ladA_setLadA_ne (d : Dev) {k j : Nat} (v : LadAlloc) (h : j ≠ k) : (d.setLadA k v).ladA j = d.ladA j := sget_sset_ne _ _ _ h
@[simp] theorem Dev.ladA_updLadA_same (d : Dev) (k : Nat) (f : LadAlloc → LadAlloc) : (d.updLadA k f).ladA k = f (d.ladA k) := sget_sset_same ..
theorem Dev.ladA_updLadA_ne (d : Dev) {k j : Nat} (f : LadAlloc → LadAlloc) (h : j ≠ k) : (d.updLadA k f).ladA j = d.ladA j := sget_sset_ne _ _ _ h
@[simp] theorem Dev.rd_setLadA (d : Dev) (k : Nat) (v : LadAlloc) (a : Nat) : (d.setLadA k v).rd a = d.rd a := (rfl)
@[simp] theorem Dev.rd_updLadA (d : Dev) (k : Nat) (f : LadAlloc → LadAlloc) (a : Nat) : (d.updLadA k f).rd a = d.rd a := (rfl)
@[simp] theorem Dev.get_setLadA (d : Dev) (k : Nat) (v : LadAlloc) (a : Nat) (g : Fld) : (d.setLadA k v).get a g = d.get a g := (rfl)
@[simp] theorem Dev.get_updLadA (d : Dev) (k : Nat) (f : LadAlloc → LadAlloc) (a : Nat) (g : Fld) : (d.updLadA k f).get a g = d.get a g := (rfl)
@[simp] theorem Dev.ladA_wrN (d : Dev) (a v k : Nat) : (d.wrN a v).ladA k = d.ladA k := (rfl)
@[simp] theorem Dev.ladA_put (d : Dev) (a : Nat) (f : Fld) (v k : Nat) : (d.put a f v).ladA k = d.ladA k := (rfl)
@[simp] theorem Dev.ladA_emit (d : Dev) (o : OutKind) (p : Nat) (l : List Nat) (b : List Byte) (k : Nat) : (d.emit o p l b).ladA k = d.ladA k := by
  unfold Dev.ladA; rw [Dev.emit_lad]

@[simp] theorem Dev.ladT_setLadT_same (d : Dev) (k : Nat) (v : LadTree) : (d.setLadT k v).ladT k = v := sget_sset_same ..
theorem Dev.ladT_setLadT_ne (d : Dev) {k j : Nat} (v : LadTree) (h : j ≠ k) : (d.setLadT k v).ladT j = d.ladT j := sget_sset_ne _ _ _ h
@[simp] theorem Dev.ladT_updLadT_same (d : Dev) (k : Nat) (f : LadTree → LadTree) : (d.updLadT k f).ladT k = f (d.ladT k) := sget_sset_same ..
theorem Dev.ladT_updLadT_ne (d : Dev) {k j : Nat} (f : LadTree → LadTree) (h : j ≠ k) : (d.updLadT k f).ladT j = d.ladT j := sget_sset_ne _ _ _ h
@[simp] theorem Dev.rd_setLadT (d : Dev) (k : Nat) (v : LadTree) (a : Nat) : (d.setLadT k v).rd a = d.rd a := (rfl)
@[simp] theorem Dev.rd_updLadT (d : Dev) (k : Nat) (f : LadTree → LadTree) (a : Nat) : (d.updLadT k f).rd a = d.rd a := (rfl)
@[simp] theorem Dev.get_setLadT (d : Dev) (k : Nat) (v : LadTree) (a : Nat) (g : Fld) : (d.setLadT k v).get a g = d.get a g := (rfl)
@[simp] theorem Dev.get_updLadT (d : Dev) (k : Nat) (f : LadTree → LadTree) (a : Nat) (g : Fld) : (d.updLadT k f).get a g = d.get a g := (rfl)
@[simp] theorem Dev.ladT_wrN (d : Dev) (a v k : Nat) : (d.wrN a v).ladT k = d.ladT k := (rfl)
@[simp] theorem Dev.ladT_put (d : Dev) (a : Nat) (f : Fld) (v k : Nat) : (d.put a f v).ladT k = d.ladT k := (rfl)
@[simp] theorem Dev.ladT_emit (d : Dev) (o : OutKind) (p : Nat) (l : List Nat) (b : List Byte) (k : Nat) : (d.emit o p l b).ladT k = d.ladT k := by
  unfold Dev.ladT; rw [Dev.emit_ladTrees]

@[simp] theorem Dev.iftE_setIftE_same (d : Dev) (k : Nat) (v : Ift) : (d.setIftE k v).iftE k = v := sget_sset_same ..
theorem Dev.iftE_setIftE_ne (d : Dev) {k j : Nat} (v : Ift) (h : j ≠ k) : (d.setIftE k v).iftE j = d.iftE j := sget_sset_ne _ _ _ h
@[simp] theorem Dev.iftE_updIftE_same (d : Dev) (k : Nat) (f : Ift → Ift) : (d.updIftE k f).iftE k = f (d.iftE k) := sget_sset_same ..
theorem Dev.iftE_updIftE_ne (d : Dev) {k j : Nat} (f : Ift → Ift) (h : j ≠ k) : (d.updIftE k f).iftE j = d.iftE j := sget_sset_ne _ _ _ h
@[simp] theorem Dev.rd_setIftE (d : Dev) (k : Nat) (v : Ift) (a : Nat) : (d.setIftE k v).rd a = d.rd a := (rfl)
@[simp] theorem Dev.rd_updIftE (d : Dev) (k : Nat) (f : Ift → Ift) (a : Nat) : (d.updIftE k f).rd a = d.rd a := (rfl)
@[simp] theorem Dev.get_setIftE (d : Dev) (k : Nat) (v : Ift) (a : Nat) (g : Fld) : (d.setIftE k v).get a g = d.get a g := (rfl)
@[simp] theorem Dev.get_updIftE (d : Dev) (k : Nat) (f : Ift → Ift) (a : Nat) (g : Fld) : (d.updIftE k f).get a g = d.get a g := (rfl)
@[simp] theorem Dev.iftE_wrN (d : Dev) (a v k : Nat) : (d.wrN a v).iftE k = d.iftE k := (rfl)
@[simp] theorem Dev.iftE_put (d : Dev) (a : Nat) (f : Fld) (v k : Nat) : (d.put a f v).iftE k = d.iftE k := (rfl)
@[simp] theorem Dev.iftE_emit (d : Dev) (o : OutKind) (p : Nat) (l : List Nat) (b : List Byte) (k : Nat) : (d.emit o p l b).iftE k = d.iftE k := by
  unfold Dev.iftE; rw [Dev.emit_ift]

@[simp] theorem Dev.ovrRun_setOvrRun_same (d : Dev) (k : Nat) (v : Nat) : (d.setOvrRun k v).ovrRun k = v := sget_sset_same ..
theorem Dev.ovrRun_setOvrRun_ne (d : Dev) {k j : Nat} (v : Nat) (h : j ≠ k) : (d.setOvrRun k v).ovrRun j = d.ovrRun j := sget_sset_ne _ _ _ h
@[simp] theorem Dev.ovrRun_updOvrRun_same (d : Dev) (k : Nat) (f : Nat → Nat) : (d.updOvrRun k f).ovrRun k = f (d.ovrRun k) := sget_sset_same ..
theorem Dev.ovrRun_updOvrRun_ne (d : Dev) {k j : Nat} (f : Nat → Nat) (h : j ≠ k) : (d.updOvrRun k f).ovrRun j = d.ovrRun j := sget_sset_ne _ _ _ h
@[simp] theorem Dev.rd_setOvrRun (d : Dev) (k : Nat) (v : Nat) (a : Nat) : (d.setOvrRun k v).rd a = d.rd a := (rfl)
@[simp] theorem Dev.rd_updOvrRun (d : Dev) (k : Nat) (f : Nat → Nat) (a : Nat) : (d.updOvrRun k f).rd a = d.rd a := (rfl)
@[simp] theorem Dev.get_setOvrRun (d : Dev) (k : Nat) (v : Nat) (a : Nat) (g : Fld) : (d.setOvrRun k v).get a g = d.get a g := (rfl)
@[simp] theorem Dev.get_updOvrRun (d : Dev) (k : Nat) (f : Nat → Nat) (a : Nat) (g : Fld) : (d.updOvrRun k f).get a g = d.get a g := (rfl)
@[simp] theorem Dev.ovrRun_wrN (d : Dev) (a v k : Nat) : (d.wrN a v).ovrRun k = d.ovrRun k := (rfl)
@[simp] theorem Dev.ovrRun_put (d : Dev) (a : Nat) (f : Fld) (v k : Nat) : (d.put a f v).ovrRun k = d.ovrRun k := (rfl)
@[simp] theorem Dev.ovrRun_emit (d : Dev) (o : OutKind) (p : Nat) (l : List Nat) (b : List Byte) (k : Nat) : (d.emit o p l b).ovrRun k = d.ovrRun k := by
  unfold Dev.ovrRun; rw [Dev.emit_tick]

@[simp] theorem Dev.ring_setRing_same (d : Dev) (k : Nat) (v : RingX) : (d.setRing k v).ring k = v := sget_sset_same ..
theorem Dev.ring_setRing_ne (d : Dev) {k j : Nat} (v : RingX) (h : j ≠ k) : (d.setRing k v).ring j = d.ring j := sget_sset_ne _ _ _ h
@[simp] theorem Dev.ring_updRing_same (d : Dev) (k : Nat) (f : RingX → RingX) : (d.updRing k f).ring k = f (d.ring k) := sget_sset_same ..
theorem Dev.ring_updRing_ne (d : Dev) {k j : Nat} (f : RingX → RingX) (h : j ≠ k) : (d.updRing k f).ring j = d.ring j := sget_sset_ne _ _ _ h
@[simp] theorem Dev.rd_setRing (d : Dev) (k : Nat) (v : RingX) (a : Nat) : (d.setRing k v).rd a = d.rd a := (rfl)
@[simp] theorem Dev.rd_updRing (d : Dev) (k : Nat) (f : RingX → RingX) (a : Nat) : (d.updRing k f).rd a = d.rd a := (rfl)
@[simp] theorem Dev.get_setRing (d : Dev) (k : Nat) (v : RingX) (a : Nat) (g : Fld) : (d.setRing k v).get a g = d.get a g := (rfl)
@[simp] theorem Dev.get_updRing (d : Dev) (k : Nat) (f : RingX → RingX) (a : Nat) (g : Fld) : (d.updRing k f).get a g = d.get a g := (rfl)
@[simp] theorem Dev.ring_wrN (d : Dev) (a v k : Nat) : (d.wrN a v).ring k = d.ring k := (rfl)
@[simp] theorem Dev.ring_put (d : Dev) (a : Nat) (f : Fld) (v k : Nat) : (d.put a f v).ring k = d.ring k := (rfl)
@[simp] theorem Dev.ring_emit (d : Dev) (o : OutKind) (p : Nat) (l : List Nat) (b : List Byte) (k : Nat) : (d.emit o p l b).ring k = d.ring k := by
  unfold Dev.ring; rw [Dev.emit_glk]

@[simp] theorem Dev.fifo_setFifo_same (d : Dev) (k : Nat) (v : List Sample) : (d.setFifo k v).fifo k = v := sget_sset_same ..
theorem Dev.fifo_setFifo_ne (d : Dev) {k j : Nat} (v : List Sample) (h : j ≠ k) : (d.setFifo k v).fifo j = d.fifo j := sget_sset_ne _ _ _ h
@[simp] theorem Dev.fifo_updFifo_same (d : Dev) (k : Nat) (f : List Sample → List Sample) : (d.updFifo k f).fifo k = f (d.fifo k) := sget_sset_same ..
theorem Dev.fifo_updFifo_ne (d : Dev) {k j : Nat} (f : List Sample → List Sample) (h : j ≠ k) : (d.updFifo k f).fifo j = d.fifo j := sget_sset_ne _ _ _ h
@[simp] theorem Dev.rd_setFifo (d : Dev) (k : Nat) (v : List Sample) (a : Nat) : (d.setFifo k v).rd a = d.rd a := (rfl)
@[simp] theorem Dev.rd_updFifo (d : Dev) (k : Nat) (f : List Sample → List Sample) (a : Nat) : (d.updFifo k f).rd a = d.rd a := (rfl)
@[simp] theorem Dev.get_setFifo (d : Dev) (k : Nat) (v : List Sample) (a : Nat) (g : Fld) : (d.setFifo k v).get a g = d.get a g := (rfl)
@[simp] theorem Dev.get_updFifo (d : Dev) (k : Nat) (f : List Sample → List Sample) (a : Nat) (g : Fld) : (d.updFifo k f).get a g = d.get a g := (rfl)
@[simp] theorem Dev.fifo_wrN (d : Dev) (a v k : Nat) : (d.wrN a v).fifo k = d.fifo k := (rfl)
@[simp] theorem Dev.fifo_put (d : Dev) (a : Nat) (f : Fld) (v k : Nat) : (d.put a f v).fifo k = d.fifo k := (rfl)
@[simp] theorem Dev.fifo_emit (d : Dev) (o : OutKind) (p : Nat) (l : List Nat) (b : List Byte) (k : Nat) : (d.emit o p l b).fifo k = d.fifo k := by
  unfold Dev.fifo; rw [Dev.emit_cnt]

@[simp] theorem Dev.bankX_setBankX_same (d : Dev) (k : Nat) (v : BankX) : (d.setBankX k v).bankX k = v := sget_sset_same ..
theorem Dev.bankX_setBankX_ne (d : Dev) {k j : Nat} (v : BankX) (h : j ≠ k) : (d.setBankX k v).bankX j = d.bankX j := sget_sset_ne _ _ _ h
@[simp] theorem Dev.bankX_updBankX_same (d : Dev) (k : Nat) (f : BankX → BankX) : (d.updBankX k f).bankX k = f (d.bankX k) := sget_sset_same ..
theorem Dev.bankX_updBankX_ne (d : Dev) {k j : Nat} (f : BankX → BankX) (h : j ≠ k) : (d.updBankX k f).bankX j = d.bankX j := sget_sset_ne _ _ _ h
@[simp] theorem Dev.rd_setBankX (d : Dev) (k : Nat) (v : BankX) (a : Nat) : (d.setBankX k v).rd a = d.rd a := (rfl)
@[simp] theorem Dev.rd_updBankX (d : Dev) (k : Nat) (f : BankX → BankX) (a : Nat) : (d.updBankX k f).rd a = d.rd a := (rfl)
@[simp] theorem Dev.get_setBankX (d : Dev) (k : Nat) (v : BankX) (a : Nat) (g : Fld) : (d.setBankX k v).get a g = d.get a g := (rfl)
@[simp] theorem Dev.get_updBankX (d : Dev) (k : Nat) (f : BankX → BankX) (a : Nat) (g : Fld) : (d.updBankX k f).get a g = d.get a g := (rfl)
@[simp] theorem Dev.bankX_wrN (d : Dev) (a v k : Nat) : (d.wrN a v).bankX k = d.bankX k := (rfl)
@[simp] theorem Dev.bankX_put (d : Dev) (a : Nat) (f : Fld) (v k : Nat) : (d.put a f v).bankX k = d.bankX k := (rfl)
@[simp] theorem Dev.bankX_emit (d : Dev) (o : OutKind) (p : Nat) (l : List Nat) (b : List Byte) (k : Nat) : (d.emit o p l b).bankX k = d.bankX k := by
  unfold Dev.bankX; rw [Dev.emit_pan]

@[simp] theorem Dev.chain_setChain_same (d : Dev) (k : Nat) (v : SpChain) : (d.setChain k v).chain k = v := sget_sset_same ..
theorem Dev.chain_setChain_ne (d : Dev) {k j : Nat} (v : SpChain) (h : j ≠ k) : (d.setChain k v).chain j = d.chain j := sget_sset_ne _ _ _ h
@[simp] theorem Dev.chain_updChain_same (d : Dev) (k : Nat) (f : SpChain → SpChain) : (d.updChain k f).chain k = f (d.chain k) := sget_sset_same ..
theorem Dev.chain_updChain_ne (d : Dev) {k j : Nat} (f : SpChain → SpChain) (h : j ≠ k) : (d.updChain k f).chain j = d.chain j := sget_sset_ne _ _ _ h
@[simp] theorem Dev.rd_setChain (d : Dev) (k : Nat) (v : SpChain) (a : Nat) : (d.setChain k v).rd a = d.rd a := (rfl)
@[simp] theorem Dev.rd_updChain (d : Dev) (k : Nat) (f : SpChain → SpChain) (a : Nat) : (d.updChain k f).rd a = d.rd a := (rfl)
@[simp] theorem Dev.get_setChain (d : Dev) (k : Nat) (v : SpChain) (a : Nat) (g : Fld) : (d.setChain k v).get a g = d.get a g := (rfl)
@[simp] theorem Dev.get_updChain (d : Dev) (k : Nat) (f : SpChain → SpChain) (a : Nat) (g : Fld) : (d.updChain k f).get a g = d.get a g := (rfl)
@[simp] theorem Dev.chain_wrN (d : Dev) (a v k : Nat) : (d.wrN a v).chain k = d.chain k := (rfl)
@[simp] theorem Dev.chain_put (d : Dev) (a : Nat) (f : Fld) (v k : Nat) : (d.put a f v).chain k = d.chain k := (rfl)
@[simp] theorem Dev.chain_emit (d : Dev) (o : OutKind) (p : Nat) (l : List Nat) (b : List Byte) (k : Nat) : (d.emit o p l b).chain k = d.chain k := by
  unfold Dev.chain; rw [Dev.emit_dram]

@[simp] theorem Dev.chQ_setChQ_same (d : Dev) (k : Nat) (v : List Held) : (d.setChQ k v).chQ k = v := sget_sset_same ..
theorem Dev.chQ_setChQ_ne (d : Dev) {k j : Nat} (v : List Held) (h : j ≠ k) : (d.setChQ k v).chQ j = d.chQ j := sget_sset_ne _ _ _ h
@[simp] theorem Dev.chQ_updChQ_same (d : Dev) (k : Nat) (f : List Held → List Held) : (d.updChQ k f).chQ k = f (d.chQ k) := sget_sset_same ..
theorem Dev.chQ_updChQ_ne (d : Dev) {k j : Nat} (f : List Held → List Held) (h : j ≠ k) : (d.updChQ k f).chQ j = d.chQ j := sget_sset_ne _ _ _ h
@[simp] theorem Dev.rd_setChQ (d : Dev) (k : Nat) (v : List Held) (a : Nat) : (d.setChQ k v).rd a = d.rd a := (rfl)
@[simp] theorem Dev.rd_updChQ (d : Dev) (k : Nat) (f : List Held → List Held) (a : Nat) : (d.updChQ k f).rd a = d.rd a := (rfl)
@[simp] theorem Dev.get_setChQ (d : Dev) (k : Nat) (v : List Held) (a : Nat) (g : Fld) : (d.setChQ k v).get a g = d.get a g := (rfl)
@[simp] theorem Dev.get_updChQ (d : Dev) (k : Nat) (f : List Held → List Held) (a : Nat) (g : Fld) : (d.updChQ k f).get a g = d.get a g := (rfl)
@[simp] theorem Dev.chQ_wrN (d : Dev) (a v k : Nat) : (d.wrN a v).chQ k = d.chQ k := (rfl)
@[simp] theorem Dev.chQ_put (d : Dev) (a : Nat) (f : Fld) (v k : Nat) : (d.put a f v).chQ k = d.chQ k := (rfl)
@[simp] theorem Dev.chQ_emit (d : Dev) (o : OutKind) (p : Nat) (l : List Nat) (b : List Byte) (k : Nat) : (d.emit o p l b).chQ k = d.chQ k := by
  unfold Dev.chQ; rw [Dev.emit_chanQ]

@[simp] theorem Dev.upQ_setUpQ_same (d : Dev) (k : Nat) (v : List Held) : (d.setUpQ k v).upQ k = v := sget_sset_same ..
theorem Dev.upQ_setUpQ_ne (d : Dev) {k j : Nat} (v : List Held) (h : j ≠ k) : (d.setUpQ k v).upQ j = d.upQ j := sget_sset_ne _ _ _ h
@[simp] theorem Dev.upQ_updUpQ_same (d : Dev) (k : Nat) (f : List Held → List Held) : (d.updUpQ k f).upQ k = f (d.upQ k) := sget_sset_same ..
theorem Dev.upQ_updUpQ_ne (d : Dev) {k j : Nat} (f : List Held → List Held) (h : j ≠ k) : (d.updUpQ k f).upQ j = d.upQ j := sget_sset_ne _ _ _ h
@[simp] theorem Dev.rd_setUpQ (d : Dev) (k : Nat) (v : List Held) (a : Nat) : (d.setUpQ k v).rd a = d.rd a := (rfl)
@[simp] theorem Dev.rd_updUpQ (d : Dev) (k : Nat) (f : List Held → List Held) (a : Nat) : (d.updUpQ k f).rd a = d.rd a := (rfl)
@[simp] theorem Dev.get_setUpQ (d : Dev) (k : Nat) (v : List Held) (a : Nat) (g : Fld) : (d.setUpQ k v).get a g = d.get a g := (rfl)
@[simp] theorem Dev.get_updUpQ (d : Dev) (k : Nat) (f : List Held → List Held) (a : Nat) (g : Fld) : (d.updUpQ k f).get a g = d.get a g := (rfl)
@[simp] theorem Dev.upQ_wrN (d : Dev) (a v k : Nat) : (d.wrN a v).upQ k = d.upQ k := (rfl)
@[simp] theorem Dev.upQ_put (d : Dev) (a : Nat) (f : Fld) (v k : Nat) : (d.put a f v).upQ k = d.upQ k := (rfl)
@[simp] theorem Dev.upQ_emit (d : Dev) (o : OutKind) (p : Nat) (l : List Nat) (b : List Byte) (k : Nat) : (d.emit o p l b).upQ k = d.upQ k := by
  unfold Dev.upQ; rw [Dev.emit_uplQ]

@[simp] theorem Dev.faQ_setFaQ_same (d : Dev) (k : Nat) (v : List Held) : (d.setFaQ k v).faQ k = v := sget_sset_same ..
theorem Dev.faQ_setFaQ_ne (d : Dev) {k j : Nat} (v : List Held) (h : j ≠ k) : (d.setFaQ k v).faQ j = d.faQ j := sget_sset_ne _ _ _ h
@[simp] theorem Dev.faQ_updFaQ_same (d : Dev) (k : Nat) (f : List Held → List Held) : (d.updFaQ k f).faQ k = f (d.faQ k) := sget_sset_same ..
theorem Dev.faQ_updFaQ_ne (d : Dev) {k j : Nat} (f : List Held → List Held) (h : j ≠ k) : (d.updFaQ k f).faQ j = d.faQ j := sget_sset_ne _ _ _ h
@[simp] theorem Dev.rd_setFaQ (d : Dev) (k : Nat) (v : List Held) (a : Nat) : (d.setFaQ k v).rd a = d.rd a := (rfl)
@[simp] theorem Dev.rd_updFaQ (d : Dev) (k : Nat) (f : List Held → List Held) (a : Nat) : (d.updFaQ k f).rd a = d.rd a := (rfl)
@[simp] theorem Dev.get_setFaQ (d : Dev) (k : Nat) (v : List Held) (a : Nat) (g : Fld) : (d.setFaQ k v).get a g = d.get a g := (rfl)
@[simp] theorem Dev.get_updFaQ (d : Dev) (k : Nat) (f : List Held → List Held) (a : Nat) (g : Fld) : (d.updFaQ k f).get a g = d.get a g := (rfl)
@[simp] theorem Dev.faQ_wrN (d : Dev) (a v k : Nat) : (d.wrN a v).faQ k = d.faQ k := (rfl)
@[simp] theorem Dev.faQ_put (d : Dev) (a : Nat) (f : Fld) (v k : Nat) : (d.put a f v).faQ k = d.faQ k := (rfl)
@[simp] theorem Dev.faQ_emit (d : Dev) (o : OutKind) (p : Nat) (l : List Nat) (b : List Byte) (k : Nat) : (d.emit o p l b).faQ k = d.faQ k := by
  unfold Dev.faQ; rw [Dev.emit_fabQ]

@[simp] theorem Dev.treeV_setTreeV_same (d : Dev) (k : Nat) (v : Nat) : (d.setTreeV k v).treeV k = v := sget_sset_same ..
theorem Dev.treeV_setTreeV_ne (d : Dev) {k j : Nat} (v : Nat) (h : j ≠ k) : (d.setTreeV k v).treeV j = d.treeV j := sget_sset_ne _ _ _ h
@[simp] theorem Dev.treeV_updTreeV_same (d : Dev) (k : Nat) (f : Nat → Nat) : (d.updTreeV k f).treeV k = f (d.treeV k) := sget_sset_same ..
theorem Dev.treeV_updTreeV_ne (d : Dev) {k j : Nat} (f : Nat → Nat) (h : j ≠ k) : (d.updTreeV k f).treeV j = d.treeV j := sget_sset_ne _ _ _ h
@[simp] theorem Dev.rd_setTreeV (d : Dev) (k : Nat) (v : Nat) (a : Nat) : (d.setTreeV k v).rd a = d.rd a := (rfl)
@[simp] theorem Dev.rd_updTreeV (d : Dev) (k : Nat) (f : Nat → Nat) (a : Nat) : (d.updTreeV k f).rd a = d.rd a := (rfl)
@[simp] theorem Dev.get_setTreeV (d : Dev) (k : Nat) (v : Nat) (a : Nat) (g : Fld) : (d.setTreeV k v).get a g = d.get a g := (rfl)
@[simp] theorem Dev.get_updTreeV (d : Dev) (k : Nat) (f : Nat → Nat) (a : Nat) (g : Fld) : (d.updTreeV k f).get a g = d.get a g := (rfl)
@[simp] theorem Dev.treeV_wrN (d : Dev) (a v k : Nat) : (d.wrN a v).treeV k = d.treeV k := (rfl)
@[simp] theorem Dev.treeV_put (d : Dev) (a : Nat) (f : Fld) (v k : Nat) : (d.put a f v).treeV k = d.treeV k := (rfl)
@[simp] theorem Dev.treeV_emit (d : Dev) (o : OutKind) (p : Nat) (l : List Nat) (b : List Byte) (k : Nat) : (d.emit o p l b).treeV k = d.treeV k := by
  unfold Dev.treeV; rw [Dev.emit_ds]

@[simp] theorem Dev.tenNode_setTenNode_same (d : Dev) (k : Nat) (v : DsNode) : (d.setTenNode k v).tenNode k = v := sget_sset_same ..
theorem Dev.tenNode_setTenNode_ne (d : Dev) {k j : Nat} (v : DsNode) (h : j ≠ k) : (d.setTenNode k v).tenNode j = d.tenNode j := sget_sset_ne _ _ _ h
@[simp] theorem Dev.tenNode_updTenNode_same (d : Dev) (k : Nat) (f : DsNode → DsNode) : (d.updTenNode k f).tenNode k = f (d.tenNode k) := sget_sset_same ..
theorem Dev.tenNode_updTenNode_ne (d : Dev) {k j : Nat} (f : DsNode → DsNode) (h : j ≠ k) : (d.updTenNode k f).tenNode j = d.tenNode j := sget_sset_ne _ _ _ h
@[simp] theorem Dev.rd_setTenNode (d : Dev) (k : Nat) (v : DsNode) (a : Nat) : (d.setTenNode k v).rd a = d.rd a := (rfl)
@[simp] theorem Dev.rd_updTenNode (d : Dev) (k : Nat) (f : DsNode → DsNode) (a : Nat) : (d.updTenNode k f).rd a = d.rd a := (rfl)
@[simp] theorem Dev.get_setTenNode (d : Dev) (k : Nat) (v : DsNode) (a : Nat) (g : Fld) : (d.setTenNode k v).get a g = d.get a g := (rfl)
@[simp] theorem Dev.get_updTenNode (d : Dev) (k : Nat) (f : DsNode → DsNode) (a : Nat) (g : Fld) : (d.updTenNode k f).get a g = d.get a g := (rfl)
@[simp] theorem Dev.tenNode_wrN (d : Dev) (a v k : Nat) : (d.wrN a v).tenNode k = d.tenNode k := (rfl)
@[simp] theorem Dev.tenNode_put (d : Dev) (a : Nat) (f : Fld) (v k : Nat) : (d.put a f v).tenNode k = d.tenNode k := (rfl)
@[simp] theorem Dev.tenNode_emit (d : Dev) (o : OutKind) (p : Nat) (l : List Nat) (b : List Byte) (k : Nat) : (d.emit o p l b).tenNode k = d.tenNode k := by
  unfold Dev.tenNode; rw [Dev.emit_ds]

@[simp] theorem Dev.termNode_setTermNode_same (d : Dev) (k : Nat) (v : DsNode) : (d.setTermNode k v).termNode k = v := sget_sset_same ..
theorem Dev.termNode_setTermNode_ne (d : Dev) {k j : Nat} (v : DsNode) (h : j ≠ k) : (d.setTermNode k v).termNode j = d.termNode j := sget_sset_ne _ _ _ h
@[simp] theorem Dev.termNode_updTermNode_same (d : Dev) (k : Nat) (f : DsNode → DsNode) : (d.updTermNode k f).termNode k = f (d.termNode k) := sget_sset_same ..
theorem Dev.termNode_updTermNode_ne (d : Dev) {k j : Nat} (f : DsNode → DsNode) (h : j ≠ k) : (d.updTermNode k f).termNode j = d.termNode j := sget_sset_ne _ _ _ h
@[simp] theorem Dev.rd_setTermNode (d : Dev) (k : Nat) (v : DsNode) (a : Nat) : (d.setTermNode k v).rd a = d.rd a := (rfl)
@[simp] theorem Dev.rd_updTermNode (d : Dev) (k : Nat) (f : DsNode → DsNode) (a : Nat) : (d.updTermNode k f).rd a = d.rd a := (rfl)
@[simp] theorem Dev.get_setTermNode (d : Dev) (k : Nat) (v : DsNode) (a : Nat) (g : Fld) : (d.setTermNode k v).get a g = d.get a g := (rfl)
@[simp] theorem Dev.get_updTermNode (d : Dev) (k : Nat) (f : DsNode → DsNode) (a : Nat) (g : Fld) : (d.updTermNode k f).get a g = d.get a g := (rfl)
@[simp] theorem Dev.termNode_wrN (d : Dev) (a v k : Nat) : (d.wrN a v).termNode k = d.termNode k := (rfl)
@[simp] theorem Dev.termNode_put (d : Dev) (a : Nat) (f : Fld) (v k : Nat) : (d.put a f v).termNode k = d.termNode k := (rfl)
@[simp] theorem Dev.termNode_emit (d : Dev) (o : OutKind) (p : Nat) (l : List Nat) (b : List Byte) (k : Nat) : (d.emit o p l b).termNode k = d.termNode k := by
  unfold Dev.termNode; rw [Dev.emit_ds]

@[simp] theorem Dev.chNode_setChNode_same (d : Dev) (k : Nat) (v : DsNode) : (d.setChNode k v).chNode k = v := sget_sset_same ..
theorem Dev.chNode_setChNode_ne (d : Dev) {k j : Nat} (v : DsNode) (h : j ≠ k) : (d.setChNode k v).chNode j = d.chNode j := sget_sset_ne _ _ _ h
@[simp] theorem Dev.chNode_updChNode_same (d : Dev) (k : Nat) (f : DsNode → DsNode) : (d.updChNode k f).chNode k = f (d.chNode k) := sget_sset_same ..
theorem Dev.chNode_updChNode_ne (d : Dev) {k j : Nat} (f : DsNode → DsNode) (h : j ≠ k) : (d.updChNode k f).chNode j = d.chNode j := sget_sset_ne _ _ _ h
@[simp] theorem Dev.rd_setChNode (d : Dev) (k : Nat) (v : DsNode) (a : Nat) : (d.setChNode k v).rd a = d.rd a := (rfl)
@[simp] theorem Dev.rd_updChNode (d : Dev) (k : Nat) (f : DsNode → DsNode) (a : Nat) : (d.updChNode k f).rd a = d.rd a := (rfl)
@[simp] theorem Dev.get_setChNode (d : Dev) (k : Nat) (v : DsNode) (a : Nat) (g : Fld) : (d.setChNode k v).get a g = d.get a g := (rfl)
@[simp] theorem Dev.get_updChNode (d : Dev) (k : Nat) (f : DsNode → DsNode) (a : Nat) (g : Fld) : (d.updChNode k f).get a g = d.get a g := (rfl)
@[simp] theorem Dev.chNode_wrN (d : Dev) (a v k : Nat) : (d.wrN a v).chNode k = d.chNode k := (rfl)
@[simp] theorem Dev.chNode_put (d : Dev) (a : Nat) (f : Fld) (v k : Nat) : (d.put a f v).chNode k = d.chNode k := (rfl)
@[simp] theorem Dev.chNode_emit (d : Dev) (o : OutKind) (p : Nat) (l : List Nat) (b : List Byte) (k : Nat) : (d.emit o p l b).chNode k = d.chNode k := by
  unfold Dev.chNode; rw [Dev.emit_ds]

@[simp] theorem Dev.gateX_setGateX_same (d : Dev) (k : Nat) (v : GateX) : (d.setGateX k v).gateX k = v := sget_sset_same ..
theorem Dev.gateX_setGateX_ne (d : Dev) {k j : Nat} (v : GateX) (h : j ≠ k) : (d.setGateX k v).gateX j = d.gateX j := sget_sset_ne _ _ _ h
@[simp] theorem Dev.gateX_updGateX_same (d : Dev) (k : Nat) (f : GateX → GateX) : (d.updGateX k f).gateX k = f (d.gateX k) := sget_sset_same ..
theorem Dev.gateX_updGateX_ne (d : Dev) {k j : Nat} (f : GateX → GateX) (h : j ≠ k) : (d.updGateX k f).gateX j = d.gateX j := sget_sset_ne _ _ _ h
@[simp] theorem Dev.rd_setGateX (d : Dev) (k : Nat) (v : GateX) (a : Nat) : (d.setGateX k v).rd a = d.rd a := (rfl)
@[simp] theorem Dev.rd_updGateX (d : Dev) (k : Nat) (f : GateX → GateX) (a : Nat) : (d.updGateX k f).rd a = d.rd a := (rfl)
@[simp] theorem Dev.get_setGateX (d : Dev) (k : Nat) (v : GateX) (a : Nat) (g : Fld) : (d.setGateX k v).get a g = d.get a g := (rfl)
@[simp] theorem Dev.get_updGateX (d : Dev) (k : Nat) (f : GateX → GateX) (a : Nat) (g : Fld) : (d.updGateX k f).get a g = d.get a g := (rfl)
@[simp] theorem Dev.gateX_wrN (d : Dev) (a v k : Nat) : (d.wrN a v).gateX k = d.gateX k := (rfl)
@[simp] theorem Dev.gateX_put (d : Dev) (a : Nat) (f : Fld) (v k : Nat) : (d.put a f v).gateX k = d.gateX k := (rfl)
@[simp] theorem Dev.gateX_emit (d : Dev) (o : OutKind) (p : Nat) (l : List Nat) (b : List Byte) (k : Nat) : (d.emit o p l b).gateX k = d.gateX k := by
  unfold Dev.gateX; rw [Dev.emit_ds]

@[simp] theorem Dev.histOf_setHistOf_same (d : Dev) (k : Nat) (v : List Nat) : (d.setHistOf k v).histOf k = v := sget_sset_same ..
theorem Dev.histOf_setHistOf_ne (d : Dev) {k j : Nat} (v : List Nat) (h : j ≠ k) : (d.setHistOf k v).histOf j = d.histOf j := sget_sset_ne _ _ _ h
@[simp] theorem Dev.histOf_updHistOf_same (d : Dev) (k : Nat) (f : List Nat → List Nat) : (d.updHistOf k f).histOf k = f (d.histOf k) := sget_sset_same ..
theorem Dev.histOf_updHistOf_ne (d : Dev) {k j : Nat} (f : List Nat → List Nat) (h : j ≠ k) : (d.updHistOf k f).histOf j = d.histOf j := sget_sset_ne _ _ _ h
@[simp] theorem Dev.rd_setHistOf (d : Dev) (k : Nat) (v : List Nat) (a : Nat) : (d.setHistOf k v).rd a = d.rd a := (rfl)
@[simp] theorem Dev.rd_updHistOf (d : Dev) (k : Nat) (f : List Nat → List Nat) (a : Nat) : (d.updHistOf k f).rd a = d.rd a := (rfl)
@[simp] theorem Dev.get_setHistOf (d : Dev) (k : Nat) (v : List Nat) (a : Nat) (g : Fld) : (d.setHistOf k v).get a g = d.get a g := (rfl)
@[simp] theorem Dev.get_updHistOf (d : Dev) (k : Nat) (f : List Nat → List Nat) (a : Nat) (g : Fld) : (d.updHistOf k f).get a g = d.get a g := (rfl)
@[simp] theorem Dev.histOf_wrN (d : Dev) (a v k : Nat) : (d.wrN a v).histOf k = d.histOf k := (rfl)
@[simp] theorem Dev.histOf_put (d : Dev) (a : Nat) (f : Fld) (v k : Nat) : (d.put a f v).histOf k = d.histOf k := (rfl)
@[simp] theorem Dev.histOf_emit (d : Dev) (o : OutKind) (p : Nat) (l : List Nat) (b : List Byte) (k : Nat) : (d.emit o p l b).histOf k = d.histOf k := by
  unfold Dev.histOf; rw [Dev.emit_ds]

@[simp] theorem Dev.partOf_setPartOf_same (d : Dev) (k : Nat) (v : Option Nat) : (d.setPartOf k v).partOf k = v := sget_sset_same ..
theorem Dev.partOf_setPartOf_ne (d : Dev) {k j : Nat} (v : Option Nat) (h : j ≠ k) : (d.setPartOf k v).partOf j = d.partOf j := sget_sset_ne _ _ _ h
@[simp] theorem Dev.partOf_updPartOf_same (d : Dev) (k : Nat) (f : Option Nat → Option Nat) : (d.updPartOf k f).partOf k = f (d.partOf k) := sget_sset_same ..
theorem Dev.partOf_updPartOf_ne (d : Dev) {k j : Nat} (f : Option Nat → Option Nat) (h : j ≠ k) : (d.updPartOf k f).partOf j = d.partOf j := sget_sset_ne _ _ _ h
@[simp] theorem Dev.rd_setPartOf (d : Dev) (k : Nat) (v : Option Nat) (a : Nat) : (d.setPartOf k v).rd a = d.rd a := (rfl)
@[simp] theorem Dev.rd_updPartOf (d : Dev) (k : Nat) (f : Option Nat → Option Nat) (a : Nat) : (d.updPartOf k f).rd a = d.rd a := (rfl)
@[simp] theorem Dev.get_setPartOf (d : Dev) (k : Nat) (v : Option Nat) (a : Nat) (g : Fld) : (d.setPartOf k v).get a g = d.get a g := (rfl)
@[simp] theorem Dev.get_updPartOf (d : Dev) (k : Nat) (f : Option Nat → Option Nat) (a : Nat) (g : Fld) : (d.updPartOf k f).get a g = d.get a g := (rfl)
@[simp] theorem Dev.partOf_wrN (d : Dev) (a v k : Nat) : (d.wrN a v).partOf k = d.partOf k := (rfl)
@[simp] theorem Dev.partOf_put (d : Dev) (a : Nat) (f : Fld) (v k : Nat) : (d.put a f v).partOf k = d.partOf k := (rfl)
@[simp] theorem Dev.partOf_emit (d : Dev) (o : OutKind) (p : Nat) (l : List Nat) (b : List Byte) (k : Nat) : (d.emit o p l b).partOf k = d.partOf k := by
  unfold Dev.partOf; rw [Dev.emit_ds]

@[simp] theorem Dev.keyEnt_setKeyEnt_same (d : Dev) (k : Nat) (v : KeyEnt) : (d.setKeyEnt k v).keyEnt k = v := sget_sset_same ..
theorem Dev.keyEnt_setKeyEnt_ne (d : Dev) {k j : Nat} (v : KeyEnt) (h : j ≠ k) : (d.setKeyEnt k v).keyEnt j = d.keyEnt j := sget_sset_ne _ _ _ h
@[simp] theorem Dev.keyEnt_updKeyEnt_same (d : Dev) (k : Nat) (f : KeyEnt → KeyEnt) : (d.updKeyEnt k f).keyEnt k = f (d.keyEnt k) := sget_sset_same ..
theorem Dev.keyEnt_updKeyEnt_ne (d : Dev) {k j : Nat} (f : KeyEnt → KeyEnt) (h : j ≠ k) : (d.updKeyEnt k f).keyEnt j = d.keyEnt j := sget_sset_ne _ _ _ h
@[simp] theorem Dev.rd_setKeyEnt (d : Dev) (k : Nat) (v : KeyEnt) (a : Nat) : (d.setKeyEnt k v).rd a = d.rd a := (rfl)
@[simp] theorem Dev.rd_updKeyEnt (d : Dev) (k : Nat) (f : KeyEnt → KeyEnt) (a : Nat) : (d.updKeyEnt k f).rd a = d.rd a := (rfl)
@[simp] theorem Dev.get_setKeyEnt (d : Dev) (k : Nat) (v : KeyEnt) (a : Nat) (g : Fld) : (d.setKeyEnt k v).get a g = d.get a g := (rfl)
@[simp] theorem Dev.get_updKeyEnt (d : Dev) (k : Nat) (f : KeyEnt → KeyEnt) (a : Nat) (g : Fld) : (d.updKeyEnt k f).get a g = d.get a g := (rfl)
@[simp] theorem Dev.keyEnt_wrN (d : Dev) (a v k : Nat) : (d.wrN a v).keyEnt k = d.keyEnt k := (rfl)
@[simp] theorem Dev.keyEnt_put (d : Dev) (a : Nat) (f : Fld) (v k : Nat) : (d.put a f v).keyEnt k = d.keyEnt k := (rfl)
@[simp] theorem Dev.keyEnt_emit (d : Dev) (o : OutKind) (p : Nat) (l : List Nat) (b : List Byte) (k : Nat) : (d.emit o p l b).keyEnt k = d.keyEnt k := by
  unfold Dev.keyEnt; rw [Dev.emit_ciph]

@[simp] theorem Dev.saEnt_setSaEnt_same (d : Dev) (k : Nat) (v : SaEnt) : (d.setSaEnt k v).saEnt k = v := sget_sset_same ..
theorem Dev.saEnt_setSaEnt_ne (d : Dev) {k j : Nat} (v : SaEnt) (h : j ≠ k) : (d.setSaEnt k v).saEnt j = d.saEnt j := sget_sset_ne _ _ _ h
@[simp] theorem Dev.saEnt_updSaEnt_same (d : Dev) (k : Nat) (f : SaEnt → SaEnt) : (d.updSaEnt k f).saEnt k = f (d.saEnt k) := sget_sset_same ..
theorem Dev.saEnt_updSaEnt_ne (d : Dev) {k j : Nat} (f : SaEnt → SaEnt) (h : j ≠ k) : (d.updSaEnt k f).saEnt j = d.saEnt j := sget_sset_ne _ _ _ h
@[simp] theorem Dev.rd_setSaEnt (d : Dev) (k : Nat) (v : SaEnt) (a : Nat) : (d.setSaEnt k v).rd a = d.rd a := (rfl)
@[simp] theorem Dev.rd_updSaEnt (d : Dev) (k : Nat) (f : SaEnt → SaEnt) (a : Nat) : (d.updSaEnt k f).rd a = d.rd a := (rfl)
@[simp] theorem Dev.get_setSaEnt (d : Dev) (k : Nat) (v : SaEnt) (a : Nat) (g : Fld) : (d.setSaEnt k v).get a g = d.get a g := (rfl)
@[simp] theorem Dev.get_updSaEnt (d : Dev) (k : Nat) (f : SaEnt → SaEnt) (a : Nat) (g : Fld) : (d.updSaEnt k f).get a g = d.get a g := (rfl)
@[simp] theorem Dev.saEnt_wrN (d : Dev) (a v k : Nat) : (d.wrN a v).saEnt k = d.saEnt k := (rfl)
@[simp] theorem Dev.saEnt_put (d : Dev) (a : Nat) (f : Fld) (v k : Nat) : (d.put a f v).saEnt k = d.saEnt k := (rfl)
@[simp] theorem Dev.saEnt_emit (d : Dev) (o : OutKind) (p : Nat) (l : List Nat) (b : List Byte) (k : Nat) : (d.emit o p l b).saEnt k = d.saEnt k := by
  unfold Dev.saEnt; rw [Dev.emit_ciph]

@[simp] theorem Dev.tokensOf_setTokensOf_same (d : Dev) (k : Nat) (v : Option Nat) : (d.setTokensOf k v).tokensOf k = v := sget_sset_same ..
theorem Dev.tokensOf_setTokensOf_ne (d : Dev) {k j : Nat} (v : Option Nat) (h : j ≠ k) : (d.setTokensOf k v).tokensOf j = d.tokensOf j := sget_sset_ne _ _ _ h
@[simp] theorem Dev.tokensOf_updTokensOf_same (d : Dev) (k : Nat) (f : Option Nat → Option Nat) : (d.updTokensOf k f).tokensOf k = f (d.tokensOf k) := sget_sset_same ..
theorem Dev.tokensOf_updTokensOf_ne (d : Dev) {k j : Nat} (f : Option Nat → Option Nat) (h : j ≠ k) : (d.updTokensOf k f).tokensOf j = d.tokensOf j := sget_sset_ne _ _ _ h
@[simp] theorem Dev.rd_setTokensOf (d : Dev) (k : Nat) (v : Option Nat) (a : Nat) : (d.setTokensOf k v).rd a = d.rd a := (rfl)
@[simp] theorem Dev.rd_updTokensOf (d : Dev) (k : Nat) (f : Option Nat → Option Nat) (a : Nat) : (d.updTokensOf k f).rd a = d.rd a := (rfl)
@[simp] theorem Dev.get_setTokensOf (d : Dev) (k : Nat) (v : Option Nat) (a : Nat) (g : Fld) : (d.setTokensOf k v).get a g = d.get a g := (rfl)
@[simp] theorem Dev.get_updTokensOf (d : Dev) (k : Nat) (f : Option Nat → Option Nat) (a : Nat) (g : Fld) : (d.updTokensOf k f).get a g = d.get a g := (rfl)
@[simp] theorem Dev.tokensOf_wrN (d : Dev) (a v k : Nat) : (d.wrN a v).tokensOf k = d.tokensOf k := (rfl)
@[simp] theorem Dev.tokensOf_put (d : Dev) (a : Nat) (f : Fld) (v k : Nat) : (d.put a f v).tokensOf k = d.tokensOf k := (rfl)
@[simp] theorem Dev.tokensOf_emit (d : Dev) (o : OutKind) (p : Nat) (l : List Nat) (b : List Byte) (k : Nat) : (d.emit o p l b).tokensOf k = d.tokensOf k := by
  unfold Dev.tokensOf; rw [Dev.emit_col]

@[simp] theorem Dev.mirrorN_setMirrorN_same (d : Dev) (k : Nat) (v : Nat) : (d.setMirrorN k v).mirrorN k = v := sget_sset_same ..
theorem Dev.mirrorN_setMirrorN_ne (d : Dev) {k j : Nat} (v : Nat) (h : j ≠ k) : (d.setMirrorN k v).mirrorN j = d.mirrorN j := sget_sset_ne _ _ _ h
@[simp] theorem Dev.mirrorN_updMirrorN_same (d : Dev) (k : Nat) (f : Nat → Nat) : (d.updMirrorN k f).mirrorN k = f (d.mirrorN k) := sget_sset_same ..
theorem Dev.mirrorN_updMirrorN_ne (d : Dev) {k j : Nat} (f : Nat → Nat) (h : j ≠ k) : (d.updMirrorN k f).mirrorN j = d.mirrorN j := sget_sset_ne _ _ _ h
@[simp] theorem Dev.rd_setMirrorN (d : Dev) (k : Nat) (v : Nat) (a : Nat) : (d.setMirrorN k v).rd a = d.rd a := (rfl)
@[simp] theorem Dev.rd_updMirrorN (d : Dev) (k : Nat) (f : Nat → Nat) (a : Nat) : (d.updMirrorN k f).rd a = d.rd a := (rfl)
@[simp] theorem Dev.get_setMirrorN (d : Dev) (k : Nat) (v : Nat) (a : Nat) (g : Fld) : (d.setMirrorN k v).get a g = d.get a g := (rfl)
@[simp] theorem Dev.get_updMirrorN (d : Dev) (k : Nat) (f : Nat → Nat) (a : Nat) (g : Fld) : (d.updMirrorN k f).get a g = d.get a g := (rfl)
@[simp] theorem Dev.mirrorN_wrN (d : Dev) (a v k : Nat) : (d.wrN a v).mirrorN k = d.mirrorN k := (rfl)
@[simp] theorem Dev.mirrorN_put (d : Dev) (a : Nat) (f : Fld) (v k : Nat) : (d.put a f v).mirrorN k = d.mirrorN k := (rfl)
@[simp] theorem Dev.mirrorN_emit (d : Dev) (o : OutKind) (p : Nat) (l : List Nat) (b : List Byte) (k : Nat) : (d.emit o p l b).mirrorN k = d.mirrorN k := by
  unfold Dev.mirrorN; rw [Dev.emit_col]

@[simp] theorem Dev.slotF_setSlotF_same (d : Dev) (k : Nat) (v : Option FwdEnt) : (d.setSlotF k v).slotF k = v := sget_sset_same ..
theorem Dev.slotF_setSlotF_ne (d : Dev) {k j : Nat} (v : Option FwdEnt) (h : j ≠ k) : (d.setSlotF k v).slotF j = d.slotF j := sget_sset_ne _ _ _ h
@[simp] theorem Dev.slotF_updSlotF_same (d : Dev) (k : Nat) (f : Option FwdEnt → Option FwdEnt) : (d.updSlotF k f).slotF k = f (d.slotF k) := sget_sset_same ..
theorem Dev.slotF_updSlotF_ne (d : Dev) {k j : Nat} (f : Option FwdEnt → Option FwdEnt) (h : j ≠ k) : (d.updSlotF k f).slotF j = d.slotF j := sget_sset_ne _ _ _ h
@[simp] theorem Dev.rd_setSlotF (d : Dev) (k : Nat) (v : Option FwdEnt) (a : Nat) : (d.setSlotF k v).rd a = d.rd a := (rfl)
@[simp] theorem Dev.rd_updSlotF (d : Dev) (k : Nat) (f : Option FwdEnt → Option FwdEnt) (a : Nat) : (d.updSlotF k f).rd a = d.rd a := (rfl)
@[simp] theorem Dev.get_setSlotF (d : Dev) (k : Nat) (v : Option FwdEnt) (a : Nat) (g : Fld) : (d.setSlotF k v).get a g = d.get a g := (rfl)
@[simp] theorem Dev.get_updSlotF (d : Dev) (k : Nat) (f : Option FwdEnt → Option FwdEnt) (a : Nat) (g : Fld) : (d.updSlotF k f).get a g = d.get a g := (rfl)
@[simp] theorem Dev.slotF_wrN (d : Dev) (a v k : Nat) : (d.wrN a v).slotF k = d.slotF k := (rfl)
@[simp] theorem Dev.slotF_put (d : Dev) (a : Nat) (f : Fld) (v k : Nat) : (d.put a f v).slotF k = d.slotF k := (rfl)
@[simp] theorem Dev.slotF_emit (d : Dev) (o : OutKind) (p : Nat) (l : List Nat) (b : List Byte) (k : Nat) : (d.emit o p l b).slotF k = d.slotF k := by
  unfold Dev.slotF; rw [Dev.emit_fwd]

@[simp] theorem Dev.ageFrom_setAgeFrom_same (d : Dev) (k : Nat) (v : Nat) : (d.setAgeFrom k v).ageFrom k = v := sget_sset_same ..
theorem Dev.ageFrom_setAgeFrom_ne (d : Dev) {k j : Nat} (v : Nat) (h : j ≠ k) : (d.setAgeFrom k v).ageFrom j = d.ageFrom j := sget_sset_ne _ _ _ h
@[simp] theorem Dev.ageFrom_updAgeFrom_same (d : Dev) (k : Nat) (f : Nat → Nat) : (d.updAgeFrom k f).ageFrom k = f (d.ageFrom k) := sget_sset_same ..
theorem Dev.ageFrom_updAgeFrom_ne (d : Dev) {k j : Nat} (f : Nat → Nat) (h : j ≠ k) : (d.updAgeFrom k f).ageFrom j = d.ageFrom j := sget_sset_ne _ _ _ h
@[simp] theorem Dev.rd_setAgeFrom (d : Dev) (k : Nat) (v : Nat) (a : Nat) : (d.setAgeFrom k v).rd a = d.rd a := (rfl)
@[simp] theorem Dev.rd_updAgeFrom (d : Dev) (k : Nat) (f : Nat → Nat) (a : Nat) : (d.updAgeFrom k f).rd a = d.rd a := (rfl)
@[simp] theorem Dev.get_setAgeFrom (d : Dev) (k : Nat) (v : Nat) (a : Nat) (g : Fld) : (d.setAgeFrom k v).get a g = d.get a g := (rfl)
@[simp] theorem Dev.get_updAgeFrom (d : Dev) (k : Nat) (f : Nat → Nat) (a : Nat) (g : Fld) : (d.updAgeFrom k f).get a g = d.get a g := (rfl)
@[simp] theorem Dev.ageFrom_wrN (d : Dev) (a v k : Nat) : (d.wrN a v).ageFrom k = d.ageFrom k := (rfl)
@[simp] theorem Dev.ageFrom_put (d : Dev) (a : Nat) (f : Fld) (v k : Nat) : (d.put a f v).ageFrom k = d.ageFrom k := (rfl)
@[simp] theorem Dev.ageFrom_emit (d : Dev) (o : OutKind) (p : Nat) (l : List Nat) (b : List Byte) (k : Nat) : (d.emit o p l b).ageFrom k = d.ageFrom k := by
  unfold Dev.ageFrom; rw [Dev.emit_fwd]

@[simp] theorem Dev.epochOf_setEpochOf_same (d : Dev) (k : Nat) (v : Nat) : (d.setEpochOf k v).epochOf k = v := sget_sset_same ..
theorem Dev.epochOf_setEpochOf_ne (d : Dev) {k j : Nat} (v : Nat) (h : j ≠ k) : (d.setEpochOf k v).epochOf j = d.epochOf j := sget_sset_ne _ _ _ h
@[simp] theorem Dev.epochOf_updEpochOf_same (d : Dev) (k : Nat) (f : Nat → Nat) : (d.updEpochOf k f).epochOf k = f (d.epochOf k) := sget_sset_same ..
theorem Dev.epochOf_updEpochOf_ne (d : Dev) {k j : Nat} (f : Nat → Nat) (h : j ≠ k) : (d.updEpochOf k f).epochOf j = d.epochOf j := sget_sset_ne _ _ _ h
@[simp] theorem Dev.rd_setEpochOf (d : Dev) (k : Nat) (v : Nat) (a : Nat) : (d.setEpochOf k v).rd a = d.rd a := (rfl)
@[simp] theorem Dev.rd_updEpochOf (d : Dev) (k : Nat) (f : Nat → Nat) (a : Nat) : (d.updEpochOf k f).rd a = d.rd a := (rfl)
@[simp] theorem Dev.get_setEpochOf (d : Dev) (k : Nat) (v : Nat) (a : Nat) (g : Fld) : (d.setEpochOf k v).get a g = d.get a g := (rfl)
@[simp] theorem Dev.get_updEpochOf (d : Dev) (k : Nat) (f : Nat → Nat) (a : Nat) (g : Fld) : (d.updEpochOf k f).get a g = d.get a g := (rfl)
@[simp] theorem Dev.epochOf_wrN (d : Dev) (a v k : Nat) : (d.wrN a v).epochOf k = d.epochOf k := (rfl)
@[simp] theorem Dev.epochOf_put (d : Dev) (a : Nat) (f : Fld) (v k : Nat) : (d.put a f v).epochOf k = d.epochOf k := (rfl)
@[simp] theorem Dev.epochOf_emit (d : Dev) (o : OutKind) (p : Nat) (l : List Nat) (b : List Byte) (k : Nat) : (d.emit o p l b).epochOf k = d.epochOf k := by
  unfold Dev.epochOf; rw [Dev.emit_fwd]

@[simp] theorem Dev.tsQ_setTsQ_same (d : Dev) (k : Nat) (v : List TsEnt) : (d.setTsQ k v).tsQ k = v := sget_sset_same ..
theorem Dev.tsQ_setTsQ_ne (d : Dev) {k j : Nat} (v : List TsEnt) (h : j ≠ k) : (d.setTsQ k v).tsQ j = d.tsQ j := sget_sset_ne _ _ _ h
@[simp] theorem Dev.tsQ_updTsQ_same (d : Dev) (k : Nat) (f : List TsEnt → List TsEnt) : (d.updTsQ k f).tsQ k = f (d.tsQ k) := sget_sset_same ..
theorem Dev.tsQ_updTsQ_ne (d : Dev) {k j : Nat} (f : List TsEnt → List TsEnt) (h : j ≠ k) : (d.updTsQ k f).tsQ j = d.tsQ j := sget_sset_ne _ _ _ h
@[simp] theorem Dev.rd_setTsQ (d : Dev) (k : Nat) (v : List TsEnt) (a : Nat) : (d.setTsQ k v).rd a = d.rd a := (rfl)
@[simp] theorem Dev.rd_updTsQ (d : Dev) (k : Nat) (f : List TsEnt → List TsEnt) (a : Nat) : (d.updTsQ k f).rd a = d.rd a := (rfl)
@[simp] theorem Dev.get_setTsQ (d : Dev) (k : Nat) (v : List TsEnt) (a : Nat) (g : Fld) : (d.setTsQ k v).get a g = d.get a g := (rfl)
@[simp] theorem Dev.get_updTsQ (d : Dev) (k : Nat) (f : List TsEnt → List TsEnt) (a : Nat) (g : Fld) : (d.updTsQ k f).get a g = d.get a g := (rfl)
@[simp] theorem Dev.tsQ_wrN (d : Dev) (a v k : Nat) : (d.wrN a v).tsQ k = d.tsQ k := (rfl)
@[simp] theorem Dev.tsQ_put (d : Dev) (a : Nat) (f : Fld) (v k : Nat) : (d.put a f v).tsQ k = d.tsQ k := (rfl)
@[simp] theorem Dev.tsQ_emit (d : Dev) (o : OutKind) (p : Nat) (l : List Nat) (b : List Byte) (k : Nat) : (d.emit o p l b).tsQ k = d.tsQ k := by
  unfold Dev.tsQ; rw [Dev.emit_tsFifo]

@[simp] theorem Dev.fabLane_setFabLane_same (d : Dev) (k : Nat) (v : FabLaneX) : (d.setFabLane k v).fabLane k = v := sget_sset_same ..
theorem Dev.fabLane_setFabLane_ne (d : Dev) {k j : Nat} (v : FabLaneX) (h : j ≠ k) : (d.setFabLane k v).fabLane j = d.fabLane j := sget_sset_ne _ _ _ h
@[simp] theorem Dev.fabLane_updFabLane_same (d : Dev) (k : Nat) (f : FabLaneX → FabLaneX) : (d.updFabLane k f).fabLane k = f (d.fabLane k) := sget_sset_same ..
theorem Dev.fabLane_updFabLane_ne (d : Dev) {k j : Nat} (f : FabLaneX → FabLaneX) (h : j ≠ k) : (d.updFabLane k f).fabLane j = d.fabLane j := sget_sset_ne _ _ _ h
@[simp] theorem Dev.rd_setFabLane (d : Dev) (k : Nat) (v : FabLaneX) (a : Nat) : (d.setFabLane k v).rd a = d.rd a := (rfl)
@[simp] theorem Dev.rd_updFabLane (d : Dev) (k : Nat) (f : FabLaneX → FabLaneX) (a : Nat) : (d.updFabLane k f).rd a = d.rd a := (rfl)
@[simp] theorem Dev.get_setFabLane (d : Dev) (k : Nat) (v : FabLaneX) (a : Nat) (g : Fld) : (d.setFabLane k v).get a g = d.get a g := (rfl)
@[simp] theorem Dev.get_updFabLane (d : Dev) (k : Nat) (f : FabLaneX → FabLaneX) (a : Nat) (g : Fld) : (d.updFabLane k f).get a g = d.get a g := (rfl)
@[simp] theorem Dev.fabLane_wrN (d : Dev) (a v k : Nat) : (d.wrN a v).fabLane k = d.fabLane k := (rfl)
@[simp] theorem Dev.fabLane_put (d : Dev) (a : Nat) (f : Fld) (v k : Nat) : (d.put a f v).fabLane k = d.fabLane k := (rfl)
@[simp] theorem Dev.fabLane_emit (d : Dev) (o : OutKind) (p : Nat) (l : List Nat) (b : List Byte) (k : Nat) : (d.emit o p l b).fabLane k = d.fabLane k := by
  unfold Dev.fabLane; rw [Dev.emit_fab]

@[simp] theorem Dev.fabBnd_setFabBnd_same (d : Dev) (k : Nat) (v : FabBnd) : (d.setFabBnd k v).fabBnd k = v := sget_sset_same ..
theorem Dev.fabBnd_setFabBnd_ne (d : Dev) {k j : Nat} (v : FabBnd) (h : j ≠ k) : (d.setFabBnd k v).fabBnd j = d.fabBnd j := sget_sset_ne _ _ _ h
@[simp] theorem Dev.fabBnd_updFabBnd_same (d : Dev) (k : Nat) (f : FabBnd → FabBnd) : (d.updFabBnd k f).fabBnd k = f (d.fabBnd k) := sget_sset_same ..
theorem Dev.fabBnd_updFabBnd_ne (d : Dev) {k j : Nat} (f : FabBnd → FabBnd) (h : j ≠ k) : (d.updFabBnd k f).fabBnd j = d.fabBnd j := sget_sset_ne _ _ _ h
@[simp] theorem Dev.rd_setFabBnd (d : Dev) (k : Nat) (v : FabBnd) (a : Nat) : (d.setFabBnd k v).rd a = d.rd a := (rfl)
@[simp] theorem Dev.rd_updFabBnd (d : Dev) (k : Nat) (f : FabBnd → FabBnd) (a : Nat) : (d.updFabBnd k f).rd a = d.rd a := (rfl)
@[simp] theorem Dev.get_setFabBnd (d : Dev) (k : Nat) (v : FabBnd) (a : Nat) (g : Fld) : (d.setFabBnd k v).get a g = d.get a g := (rfl)
@[simp] theorem Dev.get_updFabBnd (d : Dev) (k : Nat) (f : FabBnd → FabBnd) (a : Nat) (g : Fld) : (d.updFabBnd k f).get a g = d.get a g := (rfl)
@[simp] theorem Dev.fabBnd_wrN (d : Dev) (a v k : Nat) : (d.wrN a v).fabBnd k = d.fabBnd k := (rfl)
@[simp] theorem Dev.fabBnd_put (d : Dev) (a : Nat) (f : Fld) (v k : Nat) : (d.put a f v).fabBnd k = d.fabBnd k := (rfl)
@[simp] theorem Dev.fabBnd_emit (d : Dev) (o : OutKind) (p : Nat) (l : List Nat) (b : List Byte) (k : Nat) : (d.emit o p l b).fabBnd k = d.fabBnd k := by
  unfold Dev.fabBnd; rw [Dev.emit_fab]

@[simp] theorem Dev.fabTrib_setFabTrib_same (d : Dev) (k : Nat) (v : FabTrib) : (d.setFabTrib k v).fabTrib k = v := sget_sset_same ..
theorem Dev.fabTrib_setFabTrib_ne (d : Dev) {k j : Nat} (v : FabTrib) (h : j ≠ k) : (d.setFabTrib k v).fabTrib j = d.fabTrib j := sget_sset_ne _ _ _ h
@[simp] theorem Dev.fabTrib_updFabTrib_same (d : Dev) (k : Nat) (f : FabTrib → FabTrib) : (d.updFabTrib k f).fabTrib k = f (d.fabTrib k) := sget_sset_same ..
theorem Dev.fabTrib_updFabTrib_ne (d : Dev) {k j : Nat} (f : FabTrib → FabTrib) (h : j ≠ k) : (d.updFabTrib k f).fabTrib j = d.fabTrib j := sget_sset_ne _ _ _ h
@[simp] theorem Dev.rd_setFabTrib (d : Dev) (k : Nat) (v : FabTrib) (a : Nat) : (d.setFabTrib k v).rd a = d.rd a := (rfl)
@[simp] theorem Dev.rd_updFabTrib (d : Dev) (k : Nat) (f : FabTrib → FabTrib) (a : Nat) : (d.updFabTrib k f).rd a = d.rd a := (rfl)
@[simp] theorem Dev.get_setFabTrib (d : Dev) (k : Nat) (v : FabTrib) (a : Nat) (g : Fld) : (d.setFabTrib k v).get a g = d.get a g := (rfl)
@[simp] theorem Dev.get_updFabTrib (d : Dev) (k : Nat) (f : FabTrib → FabTrib) (a : Nat) (g : Fld) : (d.updFabTrib k f).get a g = d.get a g := (rfl)
@[simp] theorem Dev.fabTrib_wrN (d : Dev) (a v k : Nat) : (d.wrN a v).fabTrib k = d.fabTrib k := (rfl)
@[simp] theorem Dev.fabTrib_put (d : Dev) (a : Nat) (f : Fld) (v k : Nat) : (d.put a f v).fabTrib k = d.fabTrib k := (rfl)
@[simp] theorem Dev.fabTrib_emit (d : Dev) (o : OutKind) (p : Nat) (l : List Nat) (b : List Byte) (k : Nat) : (d.emit o p l b).fabTrib k = d.fabTrib k := by
  unfold Dev.fabTrib; rw [Dev.emit_fab]

@[simp] theorem Dev.bridgeX_setBridgeX_same (d : Dev) (k : Nat) (v : BridgeX) : (d.setBridgeX k v).bridgeX k = v := sget_sset_same ..
theorem Dev.bridgeX_setBridgeX_ne (d : Dev) {k j : Nat} (v : BridgeX) (h : j ≠ k) : (d.setBridgeX k v).bridgeX j = d.bridgeX j := sget_sset_ne _ _ _ h
@[simp] theorem Dev.bridgeX_updBridgeX_same (d : Dev) (k : Nat) (f : BridgeX → BridgeX) : (d.updBridgeX k f).bridgeX k = f (d.bridgeX k) := sget_sset_same ..
theorem Dev.bridgeX_updBridgeX_ne (d : Dev) {k j : Nat} (f : BridgeX → BridgeX) (h : j ≠ k) : (d.updBridgeX k f).bridgeX j = d.bridgeX j := sget_sset_ne _ _ _ h
@[simp] theorem Dev.rd_setBridgeX (d : Dev) (k : Nat) (v : BridgeX) (a : Nat) : (d.setBridgeX k v).rd a = d.rd a := (rfl)
@[simp] theorem Dev.rd_updBridgeX (d : Dev) (k : Nat) (f : BridgeX → BridgeX) (a : Nat) : (d.updBridgeX k f).rd a = d.rd a := (rfl)
@[simp] theorem Dev.get_setBridgeX (d : Dev) (k : Nat) (v : BridgeX) (a : Nat) (g : Fld) : (d.setBridgeX k v).get a g = d.get a g := (rfl)
@[simp] theorem Dev.get_updBridgeX (d : Dev) (k : Nat) (f : BridgeX → BridgeX) (a : Nat) (g : Fld) : (d.updBridgeX k f).get a g = d.get a g := (rfl)
@[simp] theorem Dev.bridgeX_wrN (d : Dev) (a v k : Nat) : (d.wrN a v).bridgeX k = d.bridgeX k := (rfl)
@[simp] theorem Dev.bridgeX_put (d : Dev) (a : Nat) (f : Fld) (v k : Nat) : (d.put a f v).bridgeX k = d.bridgeX k := (rfl)
@[simp] theorem Dev.bridgeX_emit (d : Dev) (o : OutKind) (p : Nat) (l : List Nat) (b : List Byte) (k : Nat) : (d.emit o p l b).bridgeX k = d.bridgeX k := by
  unfold Dev.bridgeX; rw [Dev.emit_fab]

@[simp] theorem Dev.cmWord_setCmWord_same (d : Dev) (k : Nat) (v : Nat) : (d.setCmWord k v).cmWord k = v := sget_sset_same ..
theorem Dev.cmWord_setCmWord_ne (d : Dev) {k j : Nat} (v : Nat) (h : j ≠ k) : (d.setCmWord k v).cmWord j = d.cmWord j := sget_sset_ne _ _ _ h
@[simp] theorem Dev.cmWord_updCmWord_same (d : Dev) (k : Nat) (f : Nat → Nat) : (d.updCmWord k f).cmWord k = f (d.cmWord k) := sget_sset_same ..
theorem Dev.cmWord_updCmWord_ne (d : Dev) {k j : Nat} (f : Nat → Nat) (h : j ≠ k) : (d.updCmWord k f).cmWord j = d.cmWord j := sget_sset_ne _ _ _ h
@[simp] theorem Dev.rd_setCmWord (d : Dev) (k : Nat) (v : Nat) (a : Nat) : (d.setCmWord k v).rd a = d.rd a := (rfl)
@[simp] theorem Dev.rd_updCmWord (d : Dev) (k : Nat) (f : Nat → Nat) (a : Nat) : (d.updCmWord k f).rd a = d.rd a := (rfl)
@[simp] theorem Dev.get_setCmWord (d : Dev) (k : Nat) (v : Nat) (a : Nat) (g : Fld) : (d.setCmWord k v).get a g = d.get a g := (rfl)
@[simp] theorem Dev.get_updCmWord (d : Dev) (k : Nat) (f : Nat → Nat) (a : Nat) (g : Fld) : (d.updCmWord k f).get a g = d.get a g := (rfl)
@[simp] theorem Dev.cmWord_wrN (d : Dev) (a v k : Nat) : (d.wrN a v).cmWord k = d.cmWord k := (rfl)
@[simp] theorem Dev.cmWord_put (d : Dev) (a : Nat) (f : Fld) (v k : Nat) : (d.put a f v).cmWord k = d.cmWord k := (rfl)
@[simp] theorem Dev.cmWord_emit (d : Dev) (o : OutKind) (p : Nat) (l : List Nat) (b : List Byte) (k : Nat) : (d.emit o p l b).cmWord k = d.cmWord k := by
  unfold Dev.cmWord; rw [Dev.emit_fab]

@[simp] theorem Dev.routeOf_setRouteOf_same (d : Dev) (k : Nat) (v : List Nat) : (d.setRouteOf k v).routeOf k = v := sget_sset_same ..
theorem Dev.routeOf_setRouteOf_ne (d : Dev) {k j : Nat} (v : List Nat) (h : j ≠ k) : (d.setRouteOf k v).routeOf j = d.routeOf j := sget_sset_ne _ _ _ h
@[simp] theorem Dev.routeOf_updRouteOf_same (d : Dev) (k : Nat) (f : List Nat → List Nat) : (d.updRouteOf k f).routeOf k = f (d.routeOf k) := sget_sset_same ..
theorem Dev.routeOf_updRouteOf_ne (d : Dev) {k j : Nat} (f : List Nat → List Nat) (h : j ≠ k) : (d.updRouteOf k f).routeOf j = d.routeOf j := sget_sset_ne _ _ _ h
@[simp] theorem Dev.rd_setRouteOf (d : Dev) (k : Nat) (v : List Nat) (a : Nat) : (d.setRouteOf k v).rd a = d.rd a := (rfl)
@[simp] theorem Dev.rd_updRouteOf (d : Dev) (k : Nat) (f : List Nat → List Nat) (a : Nat) : (d.updRouteOf k f).rd a = d.rd a := (rfl)
@[simp] theorem Dev.get_setRouteOf (d : Dev) (k : Nat) (v : List Nat) (a : Nat) (g : Fld) : (d.setRouteOf k v).get a g = d.get a g := (rfl)
@[simp] theorem Dev.get_updRouteOf (d : Dev) (k : Nat) (f : List Nat → List Nat) (a : Nat) (g : Fld) : (d.updRouteOf k f).get a g = d.get a g := (rfl)
@[simp] theorem Dev.routeOf_wrN (d : Dev) (a v k : Nat) : (d.wrN a v).routeOf k = d.routeOf k := (rfl)
@[simp] theorem Dev.routeOf_put (d : Dev) (a : Nat) (f : Fld) (v k : Nat) : (d.put a f v).routeOf k = d.routeOf k := (rfl)
@[simp] theorem Dev.routeOf_emit (d : Dev) (o : OutKind) (p : Nat) (l : List Nat) (b : List Byte) (k : Nat) : (d.emit o p l b).routeOf k = d.routeOf k := by
  unfold Dev.routeOf; rw [Dev.emit_fab]

@[simp] theorem Dev.stream_setStream_same (d : Dev) (k : Nat) (v : Stream) : (d.setStream k v).stream k = v := sget_sset_same ..
theorem Dev.stream_setStream_ne (d : Dev) {k j : Nat} (v : Stream) (h : j ≠ k) : (d.setStream k v).stream j = d.stream j := sget_sset_ne _ _ _ h
@[simp] theorem Dev.stream_updStream_same (d : Dev) (k : Nat) (f : Stream → Stream) : (d.updStream k f).stream k = f (d.stream k) := sget_sset_same ..
theorem Dev.stream_updStream_ne (d : Dev) {k j : Nat} (f : Stream → Stream) (h : j ≠ k) : (d.updStream k f).stream j = d.stream j := sget_sset_ne _ _ _ h
@[simp] theorem Dev.rd_setStream (d : Dev) (k : Nat) (v : Stream) (a : Nat) : (d.setStream k v).rd a = d.rd a := (rfl)
@[simp] theorem Dev.rd_updStream (d : Dev) (k : Nat) (f : Stream → Stream) (a : Nat) : (d.updStream k f).rd a = d.rd a := (rfl)
@[simp] theorem Dev.get_setStream (d : Dev) (k : Nat) (v : Stream) (a : Nat) (g : Fld) : (d.setStream k v).get a g = d.get a g := (rfl)
@[simp] theorem Dev.get_updStream (d : Dev) (k : Nat) (f : Stream → Stream) (a : Nat) (g : Fld) : (d.updStream k f).get a g = d.get a g := (rfl)
@[simp] theorem Dev.stream_wrN (d : Dev) (a v k : Nat) : (d.wrN a v).stream k = d.stream k := (rfl)
@[simp] theorem Dev.stream_put (d : Dev) (a : Nat) (f : Fld) (v k : Nat) : (d.put a f v).stream k = d.stream k := (rfl)
@[simp] theorem Dev.stream_emit (d : Dev) (o : OutKind) (p : Nat) (l : List Nat) (b : List Byte) (k : Nat) : (d.emit o p l b).stream k = d.stream k := by
  unfold Dev.stream; rw [Dev.emit_streams]

@[simp] theorem Dev.pair_setPair_same (d : Dev) (k : Nat) (v : PairX) : (d.setPair k v).pair k = v := sget_sset_same ..
theorem Dev.pair_setPair_ne (d : Dev) {k j : Nat} (v : PairX) (h : j ≠ k) : (d.setPair k v).pair j = d.pair j := sget_sset_ne _ _ _ h
@[simp] theorem Dev.pair_updPair_same (d : Dev) (k : Nat) (f : PairX → PairX) : (d.updPair k f).pair k = f (d.pair k) := sget_sset_same ..
theorem Dev.pair_updPair_ne (d : Dev) {k j : Nat} (f : PairX → PairX) (h : j ≠ k) : (d.updPair k f).pair j = d.pair j := sget_sset_ne _ _ _ h
@[simp] theorem Dev.rd_setPair (d : Dev) (k : Nat) (v : PairX) (a : Nat) : (d.setPair k v).rd a = d.rd a := (rfl)
@[simp] theorem Dev.rd_updPair (d : Dev) (k : Nat) (f : PairX → PairX) (a : Nat) : (d.updPair k f).rd a = d.rd a := (rfl)
@[simp] theorem Dev.get_setPair (d : Dev) (k : Nat) (v : PairX) (a : Nat) (g : Fld) : (d.setPair k v).get a g = d.get a g := (rfl)
@[simp] theorem Dev.get_updPair (d : Dev) (k : Nat) (f : PairX → PairX) (a : Nat) (g : Fld) : (d.updPair k f).get a g = d.get a g := (rfl)
@[simp] theorem Dev.pair_wrN (d : Dev) (a v k : Nat) : (d.wrN a v).pair k = d.pair k := (rfl)
@[simp] theorem Dev.pair_put (d : Dev) (a : Nat) (f : Fld) (v k : Nat) : (d.put a f v).pair k = d.pair k := (rfl)
@[simp] theorem Dev.pair_emit (d : Dev) (o : OutKind) (p : Nat) (l : List Nat) (b : List Byte) (k : Nat) : (d.emit o p l b).pair k = d.pair k := by
  unfold Dev.pair; rw [Dev.emit_pairs]

@[simp] theorem Dev.seqOutOf_setSeqOutOf_same (d : Dev) (k : Nat) (v : Option SeqOut) : (d.setSeqOutOf k v).seqOutOf k = v := sget_sset_same ..
theorem Dev.seqOutOf_setSeqOutOf_ne (d : Dev) {k j : Nat} (v : Option SeqOut) (h : j ≠ k) : (d.setSeqOutOf k v).seqOutOf j = d.seqOutOf j := sget_sset_ne _ _ _ h
@[simp] theorem Dev.seqOutOf_updSeqOutOf_same (d : Dev) (k : Nat) (f : Option SeqOut → Option SeqOut) : (d.updSeqOutOf k f).seqOutOf k = f (d.seqOutOf k) := sget_sset_same ..
theorem Dev.seqOutOf_updSeqOutOf_ne (d : Dev) {k j : Nat} (f : Option SeqOut → Option SeqOut) (h : j ≠ k) : (d.updSeqOutOf k f).seqOutOf j = d.seqOutOf j := sget_sset_ne _ _ _ h
@[simp] theorem Dev.rd_setSeqOutOf (d : Dev) (k : Nat) (v : Option SeqOut) (a : Nat) : (d.setSeqOutOf k v).rd a = d.rd a := (rfl)
@[simp] theorem Dev.rd_updSeqOutOf (d : Dev) (k : Nat) (f : Option SeqOut → Option SeqOut) (a : Nat) : (d.updSeqOutOf k f).rd a = d.rd a := (rfl)
@[simp] theorem Dev.get_setSeqOutOf (d : Dev) (k : Nat) (v : Option SeqOut) (a : Nat) (g : Fld) : (d.setSeqOutOf k v).get a g = d.get a g := (rfl)
@[simp] theorem Dev.get_updSeqOutOf (d : Dev) (k : Nat) (f : Option SeqOut → Option SeqOut) (a : Nat) (g : Fld) : (d.updSeqOutOf k f).get a g = d.get a g := (rfl)
@[simp] theorem Dev.seqOutOf_wrN (d : Dev) (a v k : Nat) : (d.wrN a v).seqOutOf k = d.seqOutOf k := (rfl)
@[simp] theorem Dev.seqOutOf_put (d : Dev) (a : Nat) (f : Fld) (v k : Nat) : (d.put a f v).seqOutOf k = d.seqOutOf k := (rfl)
@[simp] theorem Dev.seqOutOf_emit (d : Dev) (o : OutKind) (p : Nat) (l : List Nat) (b : List Byte) (k : Nat) : (d.emit o p l b).seqOutOf k = d.seqOutOf k := by
  unfold Dev.seqOutOf; rw [Dev.emit_seqOut]

@[simp] theorem Dev.pulse_setPulse_same (d : Dev) (k : Nat) (v : PulseX) : (d.setPulse k v).pulse k = v := sget_sset_same ..
theorem Dev.pulse_setPulse_ne (d : Dev) {k j : Nat} (v : PulseX) (h : j ≠ k) : (d.setPulse k v).pulse j = d.pulse j := sget_sset_ne _ _ _ h
@[simp] theorem Dev.pulse_updPulse_same (d : Dev) (k : Nat) (f : PulseX → PulseX) : (d.updPulse k f).pulse k = f (d.pulse k) := sget_sset_same ..
theorem Dev.pulse_updPulse_ne (d : Dev) {k j : Nat} (f : PulseX → PulseX) (h : j ≠ k) : (d.updPulse k f).pulse j = d.pulse j := sget_sset_ne _ _ _ h
@[simp] theorem Dev.rd_setPulse (d : Dev) (k : Nat) (v : PulseX) (a : Nat) : (d.setPulse k v).rd a = d.rd a := (rfl)
@[simp] theorem Dev.rd_updPulse (d : Dev) (k : Nat) (f : PulseX → PulseX) (a : Nat) : (d.updPulse k f).rd a = d.rd a := (rfl)
@[simp] theorem Dev.get_setPulse (d : Dev) (k : Nat) (v : PulseX) (a : Nat) (g : Fld) : (d.setPulse k v).get a g = d.get a g := (rfl)
@[simp] theorem Dev.get_updPulse (d : Dev) (k : Nat) (f : PulseX → PulseX) (a : Nat) (g : Fld) : (d.updPulse k f).get a g = d.get a g := (rfl)
@[simp] theorem Dev.pulse_wrN (d : Dev) (a v k : Nat) : (d.wrN a v).pulse k = d.pulse k := (rfl)
@[simp] theorem Dev.pulse_put (d : Dev) (a : Nat) (f : Fld) (v k : Nat) : (d.put a f v).pulse k = d.pulse k := (rfl)
@[simp] theorem Dev.pulse_emit (d : Dev) (o : OutKind) (p : Nat) (l : List Nat) (b : List Byte) (k : Nat) : (d.emit o p l b).pulse k = d.pulse k := by
  unfold Dev.pulse; rw [Dev.emit_alm]

@[simp] theorem Dev.crossing_setCrossing_same (d : Dev) (k : Nat) (v : Nat) : (d.setCrossing k v).crossing k = v := sget_sset_same ..
theorem Dev.crossing_setCrossing_ne (d : Dev) {k j : Nat} (v : Nat) (h : j ≠ k) : (d.setCrossing k v).crossing j = d.crossing j := sget_sset_ne _ _ _ h
@[simp] theorem Dev.crossing_updCrossing_same (d : Dev) (k : Nat) (f : Nat → Nat) : (d.updCrossing k f).crossing k = f (d.crossing k) := sget_sset_same ..
theorem Dev.crossing_updCrossing_ne (d : Dev) {k j : Nat} (f : Nat → Nat) (h : j ≠ k) : (d.updCrossing k f).crossing j = d.crossing j := sget_sset_ne _ _ _ h
@[simp] theorem Dev.rd_setCrossing (d : Dev) (k : Nat) (v : Nat) (a : Nat) : (d.setCrossing k v).rd a = d.rd a := (rfl)
@[simp] theorem Dev.rd_updCrossing (d : Dev) (k : Nat) (f : Nat → Nat) (a : Nat) : (d.updCrossing k f).rd a = d.rd a := (rfl)
@[simp] theorem Dev.get_setCrossing (d : Dev) (k : Nat) (v : Nat) (a : Nat) (g : Fld) : (d.setCrossing k v).get a g = d.get a g := (rfl)
@[simp] theorem Dev.get_updCrossing (d : Dev) (k : Nat) (f : Nat → Nat) (a : Nat) (g : Fld) : (d.updCrossing k f).get a g = d.get a g := (rfl)
@[simp] theorem Dev.crossing_wrN (d : Dev) (a v k : Nat) : (d.wrN a v).crossing k = d.crossing k := (rfl)
@[simp] theorem Dev.crossing_put (d : Dev) (a : Nat) (f : Fld) (v k : Nat) : (d.put a f v).crossing k = d.crossing k := (rfl)
@[simp] theorem Dev.crossing_emit (d : Dev) (o : OutKind) (p : Nat) (l : List Nat) (b : List Byte) (k : Nat) : (d.emit o p l b).crossing k = d.crossing k := by
  unfold Dev.crossing; rw [Dev.emit_clk]

end Sys2Proof.Machine
end

