-- ==== Sys2Proof/Laws/Commands.lean ====
section
/-! SUPPORT. The shared paths of a command: an effect run as one step, a mailbox command that begins and is done. -/

namespace Sys2Proof.Machine

/-- An effect of a running device takes place. -/
theorem State.run_of_runs {s : State} (h : s.Runs) (f : Dev → Dev) :
    s.run f = .next (deliver { s with dev := f { s.dev with out := [] } }) := by
  have : Dev.clocked { s.dev with out := [] } = true := h.1
  simp only [State.run, State.runAny, this, if_true]

/-- With nothing to deliver, delivery changes nothing. -/
theorem deliver_none {s : State} (h : s.dev.replies = []) (hw : s.dev.wipes = []) : deliver s = s := by
  obtain ⟨p, m, fl, d⟩ := s
  simp only at h hw
  simp only [deliver, h, hw, List.foldl_nil]
  congr 1
  cases d
  simp_all

/-- An effect that answers no mailbox and zeroes none changes the device alone. -/
theorem State.run_quiet {s : State} (h : s.Runs) (f : Dev → Dev) (hr : (f { s.dev with out := [] }).replies = [])
    (hw : (f { s.dev with out := [] }).wipes = []) : s.run f = .next { s with dev := f { s.dev with out := [] } } := by
  rw [State.run_of_runs h, deliver_none hr hw]

/-- With the clocks stopped an effect of clocked logic does not take place (20_clocks_boot.md R589). -/
theorem State.run_stopped {s : State} (h : s.dev.clocked = false) (f : Dev → Dev) :
    s.run f = .next (deliver { s with dev := { s.dev with out := [] } }) := by
  have : Dev.clocked { s.dev with out := [] } = false := h
  simp [State.run, State.runAny, this]

/-- A mailbox command that stands ready runs its body. -/
theorem State.run_command {s : State} {m : Fin 64} {code : Nat} {c : Cmd} (h : s.Ready m code c) (body : Cmd → Dev → Dev) :
    s.run (fun d => d.command m.val code body) = .next (deliver { s with dev := body c { s.dev with out := [] } }) := by
  obtain ⟨hr, -, hf, hb, hz⟩ := h
  rw [State.run_of_runs hr]
  have hz' : Dev.bit { s.dev with out := [] } rSEC_STATUS fSEC_STATUS_ZEROISED = false := hz
  simp only [Dev.command, hf, hz', Bool.false_and, Bool.false_eq_true, if_false, hb, if_true]

/-- Checks that all hold let the command run. -/
theorem Cmd.checks_pass (c : Cmd) (d : Dev) {cs : List (Bool × Nat)} (h : ∀ x ∈ cs, x.1 = true) (run : Dev → Dev) :
    c.checks d cs run = run d := by
  unfold Cmd.checks
  have : cs.find? (fun x => !x.1) = none := by
    rw [List.find?_eq_none]
    intro x hx
    simp [h x hx]
  rw [this]

/-- The first check that does not hold gives the result. -/
theorem Cmd.checks_fail (c : Cmd) (d : Dev) {cs : List (Bool × Nat)} {b : Bool} {r : Nat}
    (h : cs.find? (fun x => !x.1) = some (b, r)) (run : Dev → Dev) : c.checks d cs run = c.fail d r := by
  unfold Cmd.checks
  rw [h]

/-- A state whose device has one answer to deliver shows it and changes nothing else of memory. -/
theorem done_deliver {s : State} {e : Dev} {m : Fin 64} {r : Nat} {resp : List Byte} (hr : e.replies = [(m.val, resp)])
    (hw : e.wipes = []) (hl : resp.length ≤ 0x800)
    (h : e.get (rMBX_STATUS m.val) fMBX_STATUS_STATE = 2 ∧ e.get (rMBX_STATUS m.val) fMBX_STATUS_RESULT = r ∧
      e.get (rMBX_STATUS m.val) fMBX_STATUS_RESP_LEN = resp.length) :
    (deliver { s with dev := e }).Done m r resp :=
  ⟨h.1, h.2.1, h.2.2, (deliver_one (s := { s with dev := e }) hr hw hl).1⟩

/-- A command finished with a result, on a device that had nothing to deliver: the mailbox shows it done. -/
theorem done_finish {s : State} {m : Fin 64} {d : Dev} {r : Nat} {resp : List Byte} (hr : d.replies = []) (hw : d.wipes = [])
    (hc : r < 65536) (hl : resp.length ≤ 0x800) :
    (deliver { s with dev := d.finish m.val r resp }).Done m r resp := by
  have h := Dev.finish_status d m.isLt hc (resp := resp) (by omega)
  have h1 := Dev.finish_replies d m.val r resp
  have h2 := Dev.finish_wipes d m.val r resp
  rw [hr] at h1
  rw [hw] at h2
  generalize d.finish m.val r resp = e at h h1 h2 ⊢
  exact done_deliver h1 h2 hl h

/-- A field written changes the registers alone. -/
theorem Dev.put_eq (d : Dev) (a : Nat) (f : Fld) (v : Nat) : ∃ r, d.put a f v = { d with regs := r } := ⟨_, rfl⟩

/-- A command finished, before MBX_DONE, changes the registers, the replies and the commands that stand. -/
theorem Dev.finished_eq (d : Dev) (m x : Nat) (resp : List Byte) : ∃ r, d.finished m x resp = { d with
    regs := r, replies := d.replies ++ [(m, resp)], glk := { d.glk with cmds := d.glk.cmds.filter (fun c => c.mbx != m) } } := by
  unfold Dev.finished
  obtain ⟨r1, e1⟩ := Dev.put_eq d (rMBX_STATUS m) fMBX_STATUS_RESP_LEN resp.length
  rw [e1]
  obtain ⟨r2, e2⟩ := Dev.put_eq { d with regs := r1 } (rMBX_STATUS m) fMBX_STATUS_RESULT x
  rw [e2]
  obtain ⟨r3, e3⟩ := Dev.put_eq { d with regs := r2 } (rMBX_STATUS m) fMBX_STATUS_STATE 2
  rw [e3]
  obtain ⟨r4, e4⟩ := Dev.put_eq { d with regs := r3 } (rMBX_INFO m) fMBX_INFO_SEQ
    ((Dev.get { d with regs := r3 } (rMBX_INFO m) fMBX_INFO_SEQ + 1) % 65536)
  simp only [e4]
  exact ⟨r4, rfl⟩

/-- A command finished changes the registers, the replies, the ports, the commands that stand and what was sent. -/
theorem Dev.finish_eq (d : Dev) (m x : Nat) (resp : List Byte) : ∃ r o pa pb, d.finish m x resp = { d with
    regs := r, out := o, replies := d.replies ++ [(m, resp)]
    glk := { d.glk with portA := pa, portB := pb, cmds := d.glk.cmds.filter (fun c => c.mbx != m) } } := by
  have h := Dev.talk_finish d m x resp
  obtain ⟨r, e⟩ := Dev.finished_eq d m x resp
  have hl : (d.finish m x resp).glk.log = (d.finished m x resp).glk.log := h.log.resolve_left (by decide)
  have hr := h.rest
  rw [e] at hl hr
  generalize d.finish m x resp = g at hl hr
  rw [hl] at hr
  exact ⟨_, _, _, _, hr⟩

/-- A step that finishes a command and does nothing else only answers. -/
theorem only_finish {s : State} {m : Fin 64} {r : Nat} {resp : List Byte} (o : List Out) (hr : s.dev.replies = [])
    (hw : s.dev.wipes = []) (hl : resp.length ≤ 0x800) :
    s.OnlyAnswers (deliver { s with dev := Dev.finish { s.dev with out := o } m.val r resp }) m := by
  have hrd : ∀ a, a ≠ rMBX_STATUS m.val → a ≠ rMBX_INFO m.val → a ≠ rGLK_CNT 0 →
      (Dev.finish { s.dev with out := o } m.val r resp).rd a = Dev.rd { s.dev with out := o } a :=
    fun a h1 h2 h3 => Dev.rd_finish _ _ _ _ h3 h1 h2
  obtain ⟨rg, o', pa, pb, e⟩ := Dev.finish_eq { s.dev with out := o } m.val r resp
  generalize Dev.finish { s.dev with out := o } m.val r resp = f at hrd e ⊢
  subst e
  obtain ⟨p, mem, fl, d⟩ := s
  simp only at hr hw
  refine ⟨hrd, ?_, fun a ha => ?_, rfl, rfl⟩
  · simp only [deliver, hr, hw]
  · exact (deliver_one (m := m.val) (resp := resp) (congrArg (· ++ [(m.val, resp)]) hr) hw hl).2 a (by omega)

/-- A mailbox command whose body finishes it and does nothing else: done, and nothing but the answer changes. -/
theorem State.run_query {s : State} {m : Fin 64} {code : Nat} {c : Cmd} {r : Nat} {resp : List Byte} (h : s.Ready m code c)
    {body : Cmd → Dev → Dev} (hb : body c { s.dev with out := [] } = Dev.finish { s.dev with out := [] } m.val r resp)
    (hc : r < 65536) (hl : resp.length ≤ 0x800) :
    ∃ t, s.run (fun d => d.command m.val code body) = .next t ∧ t.Done m r resp ∧ s.OnlyAnswers t m := by
  have e := State.run_command h body
  rw [hb] at e
  exact ⟨_, e, done_finish h.1.2.1 h.1.2.2 hc hl, only_finish [] h.1.2.1 h.1.2.2 hl⟩

end Sys2Proof.Machine
end

