-- ==== Sys2Proof/WellFormed.lean ====
section
/-! DEFINITION. Which commands are well formed: the byte strings and lists a line, a pin, a memory device or the host's
adapter can give have the lengths the spec gives them; every other operand is bounded by its type. -/

namespace Sys2Proof

/-- A DRAM request whose write stays within one 64-byte unit (14_dram.md R406, R411). -/
def dramReqOk (r : DramReq) : Bool :=
  match r.data with
  | some bs => decide (r.addr % 64 + bs.length ≤ 64)
  | none => true

/-- A command is well formed. -/
def Instr.wf : Instr → Bool
  | .tickBoundary .. => true
  | .sampleLatch .. => true
  | .ladleDeadline .. => true
  | .framerTakesMap .. => true
  | .writeBackBatchClose .. => true
  | .requestCutoff .. => true
  | .tickReqSnapshot .. => true
  | .tickReqEdition .. => true
  | .tickReqPageSwap .. => true
  | .tickTreqSnapshot .. => true
  | .tickTreqEdition .. => true
  | .tickTreqPageSwap .. => true
  | .timeTickQuery .. => true
  | .laneTxffeWrite .. => true
  | .laneEnable .. => true
  | .laneDisable .. => true
  | .receiverDetectDone .. => true
  | .receiverDetectRetry .. => true
  | .trainingFrame .. => true
  | .adaptDone _ _ taps => taps.length == 16
  | .adaptLost .. => true
  | .trainTimeout .. => true
  | .noResponse .. => true
  | .startData .. => true
  | .cdrLockLost .. => true
  | .retrain .. => true
  | .autoRetrain .. => true
  | .laneSlip .. => true
  | .slipDone .. => true
  | .escanStart .. => true
  | .escanDone .. => true
  | .patLock .. => true
  | .patLockLost .. => true
  | .diagLane .. => true
  | .treeLineCtrlWrite .. => true
  | .treeEnable .. => true
  | .treeDisable .. => true
  | .dsPrecodeChange .. => true
  | .linePllLock .. => true
  | .linePllUnlock .. => true
  | .firstFrame .. => true
  | .modulePresent .. => true
  | .moduleIdentify _ opens _ _ => decide (opens < 1024)
  | .i2cNackLimit .. => true
  | .prsLRise .. => true
  | .moduleRemoved .. => true
  | .reident .. => true
  | .modReset .. => true
  | .lowSpeedPinCheck .. => true
  | .moduleInt .. => true
  | .rssiArm .. => true
  | .rssiDone _ _ _ data => data.length == 2
  | .rssiTimeout .. => true
  | .lineOptionsEffective .. => true
  | .treeConfig .. => true
  | .treeStatus .. => true
  | .treeRssi .. => true
  | .descriptorEnqueue .. => true
  | .delimiterSearch _ _ _ taps => taps.length == 16
  | .codewordDecode _ _ hit => hit.all (fun h => decide (h < 16384))
  | .packetReassembled .. => true
  | .reassemblyTimeout .. => true
  | .grantClose .. => true
  | .strayLight .. => true
  | .overlong .. => true
  | .rogueSearchStep .. => true
  | .brxPresetAccess .. => true
  | .brxProfWrite .. => true
  | .tapNegotiationStart .. => true
  | .tapResponse .. => true
  | .tapMeasurementDone .. => true
  | .tapRequestTimeout .. => true
  | .tapBurstsTimeout .. => true
  | .retuneDue .. => true
  | .eyescanLimit .. => true
  | .termRetune .. => true
  | .termEyescan .. => true
  | .treeBrxCounters .. => true
  | .actConfigWrite .. => true
  | .serialNumberOnu .. => true
  | .acknowledgement .. => true
  | .rangingTimeTimeout .. => true
  | .lostTicksExpiry .. => true
  | .qwSkip .. => true
  | .termStop .. => true
  | .treeActConfig .. => true
  | .termState .. => true
  | .treeSnList .. => true
  | .actTermSel .. => true
  | .treeTenant .. => true
  | .termCreate .. => true
  | .termEdit .. => true
  | .termRemove .. => true
  | .termRead .. => true
  | .allocCreate .. => true
  | .allocEdit .. => true
  | .allocRemove .. => true
  | .allocRead .. => true
  | .chanCreate .. => true
  | .chanEdit .. => true
  | .chanRemove .. => true
  | .chanRead .. => true
  | .quarantineEnd .. => true
  | .catRecRead .. => true
  | .catRecWrite .. => true
  | .recordFetch .. => true
  | .writeBackDone .. => true
  | .catTenWrite .. => true
  | .catBaseWrite .. => true
  | .catalogueReady .. => true
  | .statusReport .. => true
  | .scheduleNotice _ _ _ frame => decide (frame.length ≤ 16384)
  | .treeAdmit .. => true
  | .allocDemand .. => true
  | .allocNotice .. => true
  | .allocNoticeSrc .. => true
  | .ladleAdmitWrite .. => true
  | .ladleNsrcWrite .. => true
  | .mapHeld .. => true
  | .inflightStale .. => true
  | .ladleIftCopy .. => true
  | .treeMapStatus .. => true
  | .dsChoice .. => true
  | .gateListCommit .. => true
  | .gateListAbort .. => true
  | .gateListActive .. => true
  | .dsqTenWrite .. => true
  | .dsqAdmitWrite .. => true
  | .dsqSampleCopy .. => true
  | .histCopy .. => true
  | .histCfgWrite .. => true
  | .treeDsConfig .. => true
  | .treeDsTenant .. => true
  | .treeGate .. => true
  | .chanDsSample .. => true
  | .treeDsHist .. => true
  | .engineParityError .. => true
  | .keySession .. => true
  | .keyCert .. => true
  | .keyInstall .. => true
  | .keyStatus .. => true
  | .keySaInstall .. => true
  | .keySelftest .. => true
  | .keyZeroise .. => true
  | .tamperInput .. => true
  | .secZeroise .. => true
  | .zeroisationDone .. => true
  | .ciphKeyCopy .. => true
  | .engineTestStart .. => true
  | .engineTestDone .. => true
  | .fenceRecovery .. => true
  | .colanderPass .. => true
  | .colStageRead .. => true
  | .colStageWrite .. => true
  | .editionOpen .. => true
  | .editionWrite .. => true
  | .editionCommit .. => true
  | .editionAbort .. => true
  | .editionStatus .. => true
  | .editionExc .. => true
  | .editionMirror .. => true
  | .learnRequest .. => true
  | .sweepVisit .. => true
  | .fwdInsert .. => true
  | .fwdDelete .. => true
  | .fwdSearch .. => true
  | .fwdNext .. => true
  | .fwdFlushPort .. => true
  | .fwdFlushDomain .. => true
  | .fwdTable .. => true
  | .fwdTblWrite .. => true
  | .fwdHashSeedWrite .. => true
  | .fwdReady .. => true
  | .bankRelease .. => true
  | .bankAssign .. => true
  | .bankReleaseAssign .. => true
  | .bankDrained .. => true
  | .bankDrainFail .. => true
  | .bankScrubDone .. => true
  | .stkLock .. => true
  | .listRebuilt .. => true
  | .panReserveWrite .. => true
  | .stacksAssign .. => true
  | .stacksReserve .. => true
  | .stacksStatus .. => true
  | .dramAccessDone _ _ arrived _ _ => arrived.all dramReqOk
  | .refresh .. => true
  | .refreshRateRead .. => true
  | .readStrobeCheck .. => true
  | .scrubRead .. => true
  | .dramInitDone fails => decide (fails.length ≤ 16)
  | .dramCtrlWrite .. => true
  | .spRegionWrite .. => true
  | .spillWriteDone .. => true
  | .stockpotFetch .. => true
  | .diagDram .. => true
  | .stacksSpill .. => true
  | .uplPortCtrlWrite .. => true
  | .uplinkEnable .. => true
  | .uplinkDisable .. => true
  | .uplinkUp .. => true
  | .uplinkDown .. => true
  | .uplinkFrameRx _ _ _ body _ _ => decide (body.length ≤ 16384)
  | .uplinkFrameTx .. => true
  | .uplTsPop .. => true
  | .diagUplink .. => true
  | .fabBndCtrlWrite .. => true
  | .bundleEnable .. => true
  | .bundleDisable .. => true
  | .bundleLanesTrained .. => true
  | .fabOverheadCell _ _ _ cell _ _ _ => cell.length == 256
  | .fabPacketRx .. => true
  | .fabCmRead .. => true
  | .fabCmWrite .. => true
  | .fabCmMark .. => true
  | .fabTblRead .. => true
  | .fabTblWrite .. => true
  | .fabShelfmarkWrite .. => true
  | .fabCtrlWrite .. => true
  | .bridgeHelloSend .. => true
  | .bridgeTimeout .. => true
  | .conflictClear .. => true
  | .editionFollow _ _ _ rules actions => decide (rules.length ≤ 16384) && decide (actions.length ≤ 65536) && rules.all (fun r => r.length == 160) && actions.all (fun a => a.length == 16)
  | .fabBundle .. => true
  | .fabRoute .. => true
  | .fabConnect .. => true
  | .fabPeers .. => true
  | .fabBridge .. => true
  | .protPairWrite .. => true
  | .healthReport .. => true
  | .protectionCopy .. => true
  | .mirrorImage .. => true
  | .seqConfigTimeout .. => true
  | .sieveStreamReset .. => true
  | .sieveCopy .. => true
  | .protPair .. => true
  | .protStatus .. => true
  | .protSieve .. => true
  | .protSwitch .. => true
  | .almMeas .. => true
  | .sourceTimeout .. => true
  | .holdQualExpiry .. => true
  | .almLatch .. => true
  | .almSrcWrite .. => true
  | .pulseInputEdge .. => true
  | .almPinPop .. => true
  | .almPulseWrite .. => true
  | .timeOfDay .. => true
  | .freqAck .. => true
  | .freqNoack .. => true
  | .timeStatus .. => true
  | .timeSource .. => true
  | .timeSet .. => true
  | .timePulse .. => true
  | .timeTod .. => true
  | .timeRadio .. => true
  | .gellenLaneLock .. => true
  | .gellenLaneLockLost .. => true
  | .gellenMark _ _ bytes _ _ => bytes.length == 8
  | .glkCtrlWrite .. => true
  | .regRead .. => true
  | .regWrite _ _ _ _ vals => decide (1 ≤ vals.length) && decide (vals.length ≤ 64)
  | .dmaCompletion _ _ _ _ data => decide (data.length ≤ 4096)
  | .ack .. => true
  | .credit .. => true
  | .replayTimeout .. => true
  | .mbxDoorbell .. => true
  | .glkMbxOwnerWrite .. => true
  | .ringCtrlWrite .. => true
  | .ringTailWrite .. => true
  | .ringEvent .. => true
  | .ringFault .. => true
  | .glkAlertAck .. => true
  | .glkAlertSel .. => true
  | .glkViolPop .. => true
  | .diagLink .. => true
  | .diagMailbox .. => true
  | .refValid .. => true
  | .refInvalid .. => true
  | .ringStable .. => true
  | .ringOutOfRange .. => true
  | .ringAttemptFail .. => true
  | .voidAttempt .. => true
  | .pwrGoodRise .. => true
  | .pwrGoodFall .. => true
  | .supplyUndervoltage .. => true
  | .resetL .. => true
  | .warmReset .. => true
  | .pllLoss .. => true
  | .pllMpLock .. => true
  | .blockReset .. => true
  | .resetHandshakeAck .. => true
  | .bootArchiveVerified .. => true
  | .bootClocksLocked .. => true
  | .bootTestDone .. => true
  | .firmwareReady .. => true
  | .fwLimit .. => true
  | .flashRead .. => true
  | .flashProgram .. => true
  | .flashErase .. => true
  | .diagClock .. => true
  | .diagReset .. => true
  | .diagBoot .. => true
  | .cntCfgWrite .. => true
  | .cntFltWrite .. => true
  | .cntClear .. => true
  | .sampleTrigger .. => true
  | .cntSmpPop .. => true
  | .mtestStart .. => true
  | .mtestDone _ again => again.all (fun a => decide (a < 836))
  | .mtestLogPop .. => true
  | .cntConfig .. => true
  | .cntRead .. => true
  | .cntSnapshot .. => true
  | .cntSample .. => true
  | .diagMtest .. => true
  | .tempReading .. => true
  | .jtagChallenge .. => true
  | .jtagResponse sig => sig.length == 96
  | .diagPin .. => true
  | .registerWrite .. => true
  | .forceTxdisWrite .. => true
  | .diagLaneCheckEnd .. => true
  | .commandedWarmReset .. => true
  | .pantryReady .. => true
  | .fabricSlotDue .. => true
  | .transactionDiscarded .. => true
  | .cntSmpCtrlWrite .. => true

end Sys2Proof
end

