-- ==== Sys2Proof/Tests/Slice0.lean ====
section
/-! SUPPORT. The model's own tests: each check of WellFormed refuses an ill-formed term; no word of the opcode table spells a
command; worked examples of the spec; and, chapter by chapter, a concrete state and operands that meet all the hypotheses of
each clause of each statement together (test_<statement>_<clause>, the parts in the order of the clause's own parts). -/

namespace Sys2Proof.Tests

open Sys2Proof.Machine

/-- A device right after reset whose clocks run. -/
def live : Dev := { clk := { sup := .run } }

/-- A state around a device, with nothing waiting and the memories as after reset. -/
def around (d : Dev) : State := { State.reset with dev := d }

/-- A command standing ready in a mailbox. -/
def cmdOf (m code : Nat) (caller : Option Nat) (req : List Nat) : Cmd := ⟨m, code, req.map (BitVec.ofNat 8), caller, false, []⟩

/-- A device with one command standing in a mailbox. -/
def given (d : Dev) (c : Cmd) : Dev := { d with glk := { d.glk with cmds := [c] } }

/-! Well-formedness: an ill-formed term for each check. -/

theorem test_wf_adaptDone (a b) : (Instr.adaptDone a b []).wf = false := rfl
theorem test_wf_moduleIdentify (n a b) : (Instr.moduleIdentify n 1024 a b).wf = false := rfl
theorem test_wf_rssiDone (a b c) : (Instr.rssiDone a b c [0#8]).wf = false := rfl
theorem test_wf_delimiterSearch (a b c) : (Instr.delimiterSearch a b c []).wf = false := rfl
theorem test_wf_codewordDecode (a b) : (Instr.codewordDecode a b [16384]).wf = false := rfl
theorem test_wf_scheduleNotice (a b c) : (Instr.scheduleNotice a b c (List.replicate 16385 0#8)).wf = false := by
  rw [Instr.wf, List.length_replicate]; rfl
theorem test_wf_dramAccessDone (a b) (x : DramReq) (h : dramReqOk x = false) (c d) :
    (Instr.dramAccessDone a b [x] c d).wf = false := by simp [Instr.wf, h]
theorem test_wf_dramReq (x : DramReq) : dramReqOk { x with addr := 63, data := some [0#8, 0#8] } = false := rfl
theorem test_wf_dramInitDone (x) : (Instr.dramInitDone (List.replicate 17 x)).wf = false := by simp [Instr.wf]
theorem test_wf_uplinkFrameRx (a b c d e) : (Instr.uplinkFrameRx a b c (List.replicate 16385 0#8) d e).wf = false := by
  rw [Instr.wf, List.length_replicate]; rfl
theorem test_wf_fabOverheadCell (a b c d e f) : (Instr.fabOverheadCell a b c [] d e f).wf = false := rfl
theorem test_wf_editionFollow (a b c) : (Instr.editionFollow a b c [[0#8]] []).wf = false := by simp [Instr.wf]
theorem test_wf_gellenMark (a b c d) : (Instr.gellenMark a b [0#8] c d).wf = false := rfl
theorem test_wf_regWrite (a b c d) : (Instr.regWrite a b c d []).wf = false := rfl
theorem test_wf_mtestDone (a) : (Instr.mtestDone a [836]).wf = false := by simp [Instr.wf]
theorem test_wf_jtagResponse : (Instr.jtagResponse []).wf = false := rfl

/-- The opcode table gives no row bits: no word spells a command. -/
theorem test_decode_none (nbits w : Nat) (s : State) : decodeTableWord nbits w = none ∧ s.withFetchWord nbits w = s := ⟨rfl, rfl⟩

/-- The worked example of 14_dram.md: an address's channel and local address. -/
theorem test_dram_address :
    Dev.dramChan { live with part := .c } 0x345678A40 = 4 ∧ Dev.dramLocal live 0x345678A40 = 0x34567840 := by decide

/-- The worked example of 21_counters_test.md: the fields of a configuration. -/
theorem test_counter_config :
    fieldOf 0x18A00201 fCNT_CFG_VIEW = 3 ∧ fieldOf 0x18A00201 fCNT_CFG_FILTER = 5 ∧ fieldOf 0x18A00201 fCNT_CFG_EVENT = 0x0201 := by
  decide

/-- The worked example of 01_tick.md: the words of a tick count. -/
theorem test_tick_words :
    (live.wr64 rTICK_COUNT_LO rTICK_COUNT_HI 15200000004000).rdN rTICK_COUNT_HI = 0xDD3 ∧
    (live.wr64 rTICK_COUNT_LO rTICK_COUNT_HI 15200000004000).rdN rTICK_COUNT_LO = 0x699CFA0 := by decide

/-- The worked example of 17_protection.md: eleven packets on one stream. -/
theorem test_eleven_packets :
    ((([(0, 100), (1, 100), (0, 101), (0, 103), (1, 101), (1, 102), (1, 103), (1, 105), (0, 105), (0, 112), (1, 121)] :
      List (Nat × Nat)).foldl (fun (s : Stream) x => (s.run x.2 x.1 5 64).2) { valid := true, w := 8 }).cnt) =
      [6, 4, 1, 1, 1, 0, 5, 6] := by decide

/-- The worked example of 18_almanac.md: SFN and the place in the cycle at tick 4,002 of the second. -/
theorem test_radio :
    let d := (((live.wr64 rTICK_COUNT_LO rTICK_COUNT_HI 15200000004002).put rALM_RADIO fALM_RADIO_RF_OFFSET 2540000)).radioTick
    d.get rALM_RADIO_STATUS fALM_RADIO_STATUS_SFN = 49 ∧ d.get rALM_RADIO_STATUS fALM_RADIO_STATUS_CYCLE_TICK = 62 := by decide

namespace Tick

/-- A tree frames, with a held map that passed its checks. -/
def mapRec : MapRec := ⟨1, [], [], [], [], [], [], [], 7, false, false, some 60000, 0, false⟩

def framing1 (k : Nat) (x : LadTree) : Dev :=
  { (live.put (rTREE_LINE_CTRL k) fTREE_LINE_CTRL_EN 1).put (rTREE_LINE_STATUS k) fTREE_LINE_STATUS_FRAMING 1 with
    trees := [(k, { live := true })], ladTrees := [(k, x)] }

def pkt0 : Pkt := ⟨[1, 2, 3, 4], 3, 0, none, 0, false, none, 0, []⟩

def held0 : Held := { pkt := pkt0, buf := none, ent := 0, ten := 3, tick := 0, ns := 100 }

def sampleDev : Dev :=
  { live.put rDSQ_CTRL fDSQ_CTRL_SAMPLE_EN 1 with
    chanQ := [(9, [held0])], cat := { chans := [(9, { valid := true, ds := true })] } }

def batch : Dev := { live with cat := { terms := [(3, { valid := true, tree := 47 })], allocs := [(5, { valid := true })], openT := [3], openA := [5], openC := [] } }

def queryOwner : Dev := given live (cmdOf 0 0x0701 none [0x80])

theorem test_TickBoundaryCountsTicks :
  ∃ (n : Nat), n < 2 ^ 64 :=
  ⟨18446744073709551615, by decide⟩

theorem test_RequestsBindToTheNextBoundary_1 :
  ∃ (s : State) (i : Instr) (b : Nat), s.Runs ∧ (i, b) ∈ [(Instr.tickReqSnapshot, 1), (Instr.tickReqEdition, 2),
    (Instr.tickReqPageSwap, 4)] ∧ (b = 2 → s.dev.pendSlot ≠ none) :=
  ⟨around live, .tickReqSnapshot, 1, by decide⟩

theorem test_RequestsBindToTheNextBoundary_2 :
  ∃ (s : State), s.Runs ∧ s.dev.pendSlot = none :=
  ⟨around live, by decide⟩

theorem test_RequestsBindToATargetTick_1 :
  ∃ (s : State) (i : Instr) (b : Nat), s.Runs ∧ (i, b) ∈ [(Instr.tickTreqSnapshot, 1), (Instr.tickTreqEdition, 2),
    (Instr.tickTreqPageSwap, 4)] ∧ (b = 2 → s.dev.pendSlot ≠ none) ∧ s.dev.tick.treq = 0 ∧ s.dev.nextEffect ≤ s.dev.targetReg ∧
    s.dev.targetReg ≤ s.dev.tickNow + 2 ^ 32 :=
  ⟨around (live.wr64 rTICK_TARGET_LO rTICK_TARGET_HI 4294967296), .tickTreqPageSwap, 4, by decide⟩

theorem test_RequestsBindToATargetTick_2 :
  ∃ (s : State) (i : Instr) (b : Nat), s.Runs ∧ (i, b) ∈ [(Instr.tickTreqSnapshot, 1), (Instr.tickTreqEdition, 2),
    (Instr.tickTreqPageSwap, 4)] ∧ (b = 2 → s.dev.pendSlot ≠ none) ∧ s.dev.tick.treq ≠ 0 :=
  ⟨around { live with tick := { treq := 1 } }, .tickTreqSnapshot, 1, by decide⟩

theorem test_RequestsBindToATargetTick_3 :
  ∃ (s : State) (i : Instr) (b : Nat), s.Runs ∧ (i, b) ∈ [(Instr.tickTreqSnapshot, 1), (Instr.tickTreqEdition, 2),
    (Instr.tickTreqPageSwap, 4)] ∧ (b = 2 → s.dev.pendSlot ≠ none) ∧ s.dev.tick.treq = 0 ∧ (s.dev.targetReg < s.dev.nextEffect ∨
    s.dev.tickNow + 2 ^ 32 < s.dev.targetReg) :=
  ⟨around (live.wr64 rTICK_TARGET_LO rTICK_TARGET_HI 4294967297), .tickTreqSnapshot, 1, by decide⟩

theorem test_SetTimesOfTheTick_1 :
  ∃ (s : State), s.Runs ∧ s.dev.tick.origin = 0 ∧ s.dev.bit rDSQ_CTRL fDSQ_CTRL_SAMPLE_EN = true ∧ (∀ (k : Nat), k < 48 →
    s.dev.pairState k = prOff) ∧ sval 32 (s.dev.rdN rALM_FREQ) = s.dev.alm.sent :=
  ⟨around sampleDev, by decide⟩

theorem test_SetTimesOfTheTick_2 :
  ∃ (s : State) (k : Nat) (m : MapRec), s.Runs ∧ s.dev.tick.origin = 0 ∧ s.dev.framers = [k] ∧ (s.dev.ladT k).building = some m ∧
    m.held ≠ none ∧ m.check = 0 :=
  ⟨around (framing1 5 { building := some mapRec }), 5, mapRec, by decide⟩

theorem test_SetTimesOfTheTick_3 :
  ∃ (s : State) (k : Nat), s.Runs ∧ s.dev.tick.origin = 0 ∧ s.dev.framers = [k] ∧ (s.dev.ladT k).handed = none :=
  ⟨around (framing1 47 { }), 47, by decide⟩

theorem test_SetTimesOfTheTick_4 :
  ∃ (s : State), s.Runs ∧ s.dev.tick.origin = 0 ∧ s.dev.cat.quar = [] ∧ (∀ (k : Nat), k < 48 → s.dev.mirrors k = false) ∧
    s.dev.cat.writing.length = s.dev.cat.counted ∧ (∀ (h : Nat), h ∈ s.dev.cat.openT → (s.dev.term h).tree < 48) ∧ (∀ (h : Nat),
    h ∈ s.dev.cat.openA → (s.dev.alloc h).tree < 48) ∧ ∀ (h : Nat), h ∈ s.dev.cat.openC → (s.dev.chan h).tree < 48 :=
  ⟨around batch, by decide⟩

theorem test_SetTimesOfTheTick_5 :
  ∃ (s : State), s.Runs ∧ s.dev.tick.origin = 0 :=
  ⟨around live, by decide⟩

theorem test_SetTimesOfTheTick_6 :
  ∃ (s : State) (m : Fin 64) (c : Cmd), s.Ready m 1793 c ∧ c.only 0 129 = true ∧ c.endsAt 1 = true ∧ (c.isOwner = true ∨
    nbit (c.u8 0) 0 = false ∧ nbit (c.u8 0) 7 = false) :=
  ⟨around queryOwner, 0, cmdOf 0 0x0701 none [0x80], by decide⟩

end Tick

namespace Lanes

def upl47 : LaneId := .upl 47

def fab0 : LaneId := .fab 0

/-- A device with a lane in a training state. -/
def laneIn (l : LaneId) (st : Nat) (x : LaneX) : Dev :=
  { (live.put (rLANE_CTRL (laneBase l)) fLANE_CTRL_EN 1).put (rLANE_STATUS (laneBase l)) fLANE_STATUS_TRAIN_STATE st with lanes := [(laneBase l, x)] }

def diagLaneCmd : Cmd := cmdOf 0 0x0C01 none [2, 47, 0, 0, 0, 0, 0, 0]

def diagLaneCmd2 : Cmd := { cmdOf 63 0x0C01 none [1, 0, 0, 0, 0, 0, 0, 0] with started := true, note := [1, 0] }

theorem test_LanesEnableProbeAndStop_1 :
  ∃ (s : State) (l : LaneId), s.Runs ∧ laneTrains l = true ∧ s.dev.bit (rLANE_CTRL (laneBase l)) fLANE_CTRL_EN = false :=
  ⟨around live, upl47, by decide⟩

theorem test_LanesEnableProbeAndStop_2 :
  ∃ (s : State) (l : LaneId), s.Runs ∧ laneTrains l = true ∧ s.dev.trainState l = tsDetect ∧
    (s.dev.laneX (laneBase l)).probing = true :=
  ⟨around (laneIn upl47 tsDetect { probing := true }), upl47, by decide⟩

theorem test_LanesEnableProbeAndStop_3 :
  ∃ (s : State) (l : LaneId), s.Runs ∧ laneTrains l = true ∧ s.dev.trainState l = tsDetect :=
  ⟨around (laneIn fab0 tsDetect { }), fab0, by decide⟩

theorem test_LanesEnableProbeAndStop_4 :
  ∃ (s : State) (l : LaneId), s.Runs ∧ laneTrains l = true ∧ s.dev.bit (rLANE_CTRL (laneBase l)) fLANE_CTRL_EN = true ∧
    (s.dev.trainState l ≠ tsData ∨ ∃ (u : Fin 48), l = LaneId.upl u) :=
  ⟨around (laneIn fab0 tsDetect { }), fab0, by decide⟩

theorem test_TrainingEndsInDataOrFailure_1 :
  ∃ (s : State) (l : LaneId) (_ctle : Fin 16) (_taps : List Byte), s.Runs ∧ s.dev.laneOk l = true ∧
    s.dev.trainState l = tsTrain ∧ (s.dev.laneX (laneBase l)).ask = none :=
  ⟨around (laneIn upl47 tsTrain { }), upl47, 15, [], by decide⟩

theorem test_TrainingEndsInDataOrFailure_2 :
  ∃ (s : State) (_l : LaneId), s.Runs :=
  ⟨around (laneIn fab0 tsTrain { }), fab0, by decide⟩

theorem test_TrainingEndsInDataOrFailure_3 :
  ∃ (s : State) (l : LaneId), s.Runs ∧ s.dev.trainState l = tsWaitFar ∧ (s.dev.laneX (laneBase l)).farReady = true :=
  ⟨around (laneIn fab0 tsWaitFar { farReady := true }), fab0, by decide⟩

theorem test_TrainingEndsInDataOrFailure_4 :
  (∃ (s : State) (l : LaneId), s.Runs ∧ (s.dev.trainState l = tsTrain ∨ s.dev.trainState l = tsWaitFar)) ∧
  (∃ (s : State) (l : LaneId), s.Runs ∧ (s.dev.trainState l = tsTrain ∨ s.dev.trainState l = tsWaitFar) ∧
    (s.dev.laneX (laneBase l)).ask ≠ none) :=
  ⟨⟨around (laneIn upl47 tsTrain { }), upl47, by decide⟩,
  ⟨around (laneIn fab0 tsWaitFar { ask := some 3 }), fab0, by decide⟩⟩

theorem test_TrainingEndsInDataOrFailure_5 :
  ∃ (s : State) (l : LaneId), s.Runs ∧ s.dev.trainState l = tsFailed ∧
    s.dev.bit (rLANE_TRAIN_CTRL (laneBase l)) fLANE_TRAIN_CTRL_AUTO_RETRAIN = true :=
  ⟨around ((laneIn upl47 tsFailed { }).put (rLANE_TRAIN_CTRL (laneBase upl47)) fLANE_TRAIN_CTRL_AUTO_RETRAIN 1), upl47, by decide⟩

theorem test_TrainingEndsInDataOrFailure_6 :
  (∃ (s : State) (l : LaneId) (u : Fin 48), s.Runs ∧ l = LaneId.upl u ∧ s.dev.trainState l = tsData) ∧
  (∃ (s : State) (l : LaneId) (u : Fin 48), s.Runs ∧ l = LaneId.upl u ∧ s.dev.trainState l = tsFailed) ∧
  (∃ (s : State) (l : LaneId) (u : Fin 48), s.Runs ∧ l = LaneId.upl u) :=
  ⟨⟨around (laneIn upl47 tsData { }), upl47, 47, by decide⟩,
  ⟨around (laneIn upl47 tsFailed { }), upl47, 47, by decide⟩,
  ⟨around (laneIn upl47 tsData { }), upl47, 47, by decide⟩⟩

theorem test_TapsObeyTheirLimits_1 :
  ∃ (s : State) (l : LaneId) (val : Word), s.Runs ∧ laneTrains l = true ∧ s.dev.trainState l ≠ tsTrain ∧
    s.dev.trainState l ≠ tsWaitFar ∧ tapsOk (tapsOf (BitVec.toNat val)) = true :=
  ⟨around live, upl47, BitVec.ofNat 32 (tapsWord (tapPreset 3)), by decide⟩

theorem test_TapsObeyTheirLimits_2 :
  ∃ (s : State) (l : LaneId) (val : Word), s.Runs ∧ laneTrains l = true ∧ tapsOk (tapsOf (BitVec.toNat val)) = false :=
  ⟨around live, upl47, 0x3FFFFFFF, by decide⟩

theorem test_TapsObeyTheirLimits_3 :
  ∃ (s : State) (l : LaneId) (control : BitVec 16) (_status : BitVec 16), s.Runs ∧ laneTrains l = true ∧
    s.dev.trainState l = tsTrain ∧ (s.dev.laneX (laneBase l)).ask = none ∧ nbit control.toNat 15 = true ∧
    control.toNat ≠ (s.dev.laneX (laneBase l)).farCtrl :=
  ⟨around (laneIn upl47 tsTrain { }), upl47, 0xA800, 0x802F, by decide⟩

theorem test_LaneScanPatternAndSlip_1 :
  ∃ (s : State) (l : LaneId) (val : Word), s.Runs ∧ s.dev.laneOk l = true ∧ nbit (BitVec.toNat val) 0 = true ∧
    s.dev.bit (rLANE_STATUS (laneBase l)) fLANE_STATUS_SLIP_BUSY = false :=
  ⟨around (laneIn (.glk 0) tsData { slip := 63 }), .glk 0, 1, by decide⟩

theorem test_LaneScanPatternAndSlip_2 :
  ∃ (s : State) (_l : LaneId), s.Runs :=
  ⟨around (laneIn (.tree 4) tsData { slip := 63 }), .tree 4, by decide⟩

theorem test_LaneScanPatternAndSlip_3 :
  ∃ (s : State) (l : LaneId) (val : Word), s.Runs ∧ s.dev.laneOk l = true ∧ nbit (BitVec.toNat val) 30 = true ∧
    (s.dev.laneX (laneBase l)).scan = false :=
  ⟨around (laneIn fab0 tsData { }), fab0, 0xC0000000, by decide⟩

theorem test_LaneScanPatternAndSlip_4 :
  ∃ (s : State) (l : LaneId) (_count : Word), s.Runs ∧ (∀ (k : Fin 48), l ≠ LaneId.tree k) ∧
    (s.dev.laneX (laneBase l)).scan = true :=
  ⟨around (laneIn fab0 tsData { scan := true }), fab0, 0xFFFFFFFF, by decide⟩

theorem test_LaneScanPatternAndSlip_5 :
  ∃ (s : State) (l : LaneId), s.Runs ∧ s.dev.bit (rLANE_PAT_CTRL (laneBase l)) fLANE_PAT_CTRL_CHK_EN = true :=
  ⟨around ((laneIn fab0 tsData { }).put (rLANE_PAT_CTRL (laneBase fab0)) fLANE_PAT_CTRL_CHK_EN 1), fab0, by decide⟩

theorem test_LaneScanPatternAndSlip_6 :
  ∃ (s : State) (l : LaneId) (_errs : Nat), s.Runs ∧ s.dev.bit (rLANE_STATUS (laneBase l)) fLANE_STATUS_PAT_LOCK = true :=
  ⟨around ((laneIn fab0 tsData { }).put (rLANE_STATUS (laneBase fab0)) fLANE_STATUS_PAT_LOCK 1), fab0, 2147483649, by decide⟩

theorem test_LaneScanPatternAndSlip_7 :
  ∃ (s : State) (m : Fin 64) (c : Cmd) (l : LaneId), s.Ready m 3073 c ∧ c.isOwner = true ∧ laneNamed (c.u8 0) (c.u8 1) = some l ∧
    s.dev.laneOk l = true ∧ c.u8 2 = 0 ∧ c.u8 3 = 0 ∧ c.endsAt 8 = true :=
  ⟨around (given live diagLaneCmd), 0, diagLaneCmd, .fab 47, by decide⟩

theorem test_LaneScanPatternAndSlip_8 :
  ∃ (s : State) (m : Fin 64) (c : Cmd) (l : LaneId) (_errs : Nat) (ctrl : BitVec 32) (pat : BitVec 32), s.Runs ∧
    List.find? (fun (c : Cmd) => c.mbx == m.val) (s.dev.waiting 3073) = some c ∧
    laneNamed (c.note.getD 0 0) (c.note.getD 1 0) = some l ∧ (s.dev.laneX (laneBase l)).saved = some (ctrl, pat) :=
  ⟨around (given (laneIn (.upl 0) tsData { saved := some (0x11, 0x22) }) diagLaneCmd2), 63, diagLaneCmd2, .upl 0, 5, 0x11, 0x22,
    by decide⟩

end Lanes

namespace TreeLine

/-- A tree set up in a mode, with its line in a given state. -/
def treeDev (k mode en : Nat) (x : TreeX) : Dev :=
  { (live.put (rTREE_LINE_CTRL k) fTREE_LINE_CTRL_MODE mode).put (rTREE_LINE_CTRL k) fTREE_LINE_CTRL_EN en with trees := [(k, x)] }

/-- A device with a cage in a state. -/
def cageDev (c : CageId) (st : Nat) : Dev := live.put (cageStateAt c).1 (cageStateAt c).2 st

def tcCmd : Cmd := cmdOf 0 0x0101 none [47, 2, 0, 3]

def tsCmd : Cmd := cmdOf 63 0x0102 (some 31) [47]

def trCmd : Cmd := cmdOf 63 0x0103 none [47, 0, 251, 3, 255, 7, 5, 0]

theorem test_TreeLineControl_1 :
  (∃ (s : State) (k : Fin 48) (val : Word), s.Runs ∧ s.dev.treeOk k.val = true ∧ s.dev.treeEn k.val = false ∧
    s.dev.framing k.val = false ∧ s.dev.pairEn k.val = false ∧ nbit (BitVec.toNat val) 0 = false ∧
    fieldOf (BitVec.toNat val) fTREE_LINE_CTRL_MODE ≠ 3) ∧
  (∃ (s : State) (k : Fin 48) (val : Word), s.Runs ∧ s.dev.treeOk k.val = true ∧ s.dev.treeEn k.val = false ∧
    s.dev.framing k.val = false ∧ s.dev.pairEn k.val = false ∧ nbit (BitVec.toNat val) 0 = false ∧
    fieldOf (BitVec.toNat val) fTREE_LINE_CTRL_MODE = 3) :=
  ⟨⟨around live, 47, 0x0, by decide⟩,
  ⟨around live, 47, 0xFFFFFFFE, by decide⟩⟩

theorem test_TreeLineControl_2 :
  ∃ (s : State) (k : Fin 48) (_on : Bool), s.Runs ∧ s.dev.treeOk k.val = true ∧ s.dev.treeEn k.val = false ∧
    s.dev.framing k.val = false ∧ s.dev.mode k.val ≠ 3 :=
  ⟨around (treeDev 47 2 0 { }), 47, true, by decide⟩

theorem test_TreeLineControl_3 :
  ∃ (s : State) (k : Fin 48), s.Runs ∧ s.dev.treeOk k.val = true ∧ s.dev.treeEn k.val = false ∧ s.dev.frameEnding k.val = false ∧
    s.dev.mode k.val ≠ 3 ∧ (s.dev.tree k.val).live = false :=
  ⟨around (treeDev 47 2 0 { }), 47, by decide⟩

theorem test_TreeLineControl_4 :
  ∃ (s : State) (k : Fin 48), s.Runs ∧ s.dev.treeOk k.val = true ∧ s.dev.treeEn k.val = true ∧
    s.dev.cageLit (CageId.tree k) = true ∧ s.dev.bit (rTREE_MOD_CTRL k.val) fTREE_MOD_CTRL_MOD_RESET = false ∧
    (s.dev.tree k.val).live = false ∧ s.dev.standby k.val = false ∧ s.dev.frameEnding k.val = false ∧
    s.dev.waiting 257 = [] :=
  ⟨around ((treeDev 47 2 1 { }).put (rTREE_LINE_STATUS 47) fTREE_LINE_STATUS_MOD_STATE 2), 47, by decide⟩

theorem test_TreeLineControl_5 :
  ∃ (s : State) (k : Fin 48), s.Runs ∧ s.dev.treeOk k.val = true ∧
    s.dev.bit (rTREE_LINE_STATUS k.val) fTREE_LINE_STATUS_PLL_LOCK = true ∧ (s.dev.tree k.val).live = false :=
  ⟨around ((treeDev 47 2 1 { pllSeen := true }).put (rTREE_LINE_STATUS 47) fTREE_LINE_STATUS_PLL_LOCK 1), 47, by decide⟩

theorem test_TreeLineControl_6 :
  ∃ (s : State) (k : Fin 48) (f : Nat), s.Runs ∧ s.dev.treeOk k.val = true ∧ (s.dev.tree k.val).firstAt = some f ∧
    (s.dev.tree k.val).live = true ∧ s.dev.framing k.val = false ∧ f ≤ s.dev.tickNow ∧ s.dev.termsOf k.val = [] ∧
    s.dev.mode k.val = 2 :=
  ⟨around ((treeDev 47 2 1 { live := true, firstAt := some 9 }).wr64 rTICK_COUNT_LO rTICK_COUNT_HI 9), 47, 9, by decide⟩

theorem test_TreeLineControl_7 :
  ∃ (s : State) (k : Fin 48), s.Runs ∧ s.dev.treeOk k.val = true ∧ s.dev.treeEn k.val = true ∧ s.dev.mode k.val ≠ 3 ∧
    s.dev.termsOf k.val = [] ∧ s.dev.openEntries k.val = [] ∧ ∀ (e : Nat × List Held), e ∈ s.dev.chanQ →
    (s.dev.chan e.fst).tree ≠ k.val :=
  ⟨around ((treeDev 47 2 1 { live := true, firstAt := some 9 }).put (rTREE_LINE_STATUS 47) fTREE_LINE_STATUS_FRAMING 1), 47,
    by decide⟩

theorem test_CagesFollowTheirModules_1 :
  ∃ (s : State) (c : CageId), s.Runs ∧ s.dev.cageOk c = true ∧ (∀ (k : Fin 48), c = CageId.tree k → s.dev.treeEn ↑k = false ∧
    (s.dev.tree ↑k).live = false) ∧ s.dev.cageState c = cgEmpty :=
  ⟨around live, .pin 11, by decide⟩

theorem test_CagesFollowTheirModules_2 :
  ∃ (s : State) (c : CageId) (_id : Fin 256) (_app : Fin 65536), s.Runs ∧ s.dev.cageOk c = true ∧ (∀ (k : Fin 48),
    c = CageId.tree k → s.dev.treeEn ↑k = false ∧ (s.dev.tree ↑k).live = false) ∧ s.dev.cageState c = cgIdent ∧
    s.dev.bit (cageCtrl c) fTREE_MOD_CTRL_MOD_RESET = false :=
  ⟨around ((cageDev (.tree 47) 1).wrN (cageAccept (.tree 47) 3) 0xFFFFFFFF), .tree 47, 255, 65535, by decide⟩

theorem test_CagesFollowTheirModules_3 :
  ∃ (s : State) (c : CageId), s.Runs ∧ s.dev.cageOk c = true ∧ (∀ (k : Fin 48), c = CageId.tree k → s.dev.treeEn ↑k = false ∧
    (s.dev.tree ↑k).live = false) ∧ s.dev.cageState c = cgIdent ∧ s.dev.bit (cageCtrl c) fTREE_MOD_CTRL_MOD_RESET = false :=
  ⟨around (cageDev (.tree 47) 1), .tree 47, by decide⟩

theorem test_CagesFollowTheirModules_4 :
  ∃ (s : State) (c : CageId), s.Runs ∧ s.dev.cageOk c = true ∧ (∀ (k : Fin 48), c = CageId.tree k → s.dev.treeEn ↑k = false ∧
    (s.dev.tree ↑k).live = false) ∧ s.dev.cageState c ≠ cgEmpty :=
  ⟨around (cageDev (.tree 47) 2), .tree 47, by decide⟩

theorem test_CagesFollowTheirModules_5 :
  ∃ (s : State) (c : CageId), s.Runs ∧ s.dev.cageOk c = true ∧ (∀ (k : Fin 48), c = CageId.tree k → s.dev.treeEn ↑k = false ∧
    (s.dev.tree ↑k).live = false) ∧ (s.dev.cageState c = cgRefused ∨ s.dev.cageState c = cgFault) :=
  ⟨around (cageDev (.tree 47) 3), .tree 47, by decide⟩

theorem test_CagesFollowTheirModules_6 :
  ∃ (s : State) (c : CageId) (_on : Bool), s.Runs ∧ s.dev.cageOk c = true ∧ (∀ (k : Fin 48), c = CageId.tree k →
    s.dev.treeEn ↑k = false ∧ (s.dev.tree ↑k).live = false) ∧ s.dev.bit (cageCtrl c) fTREE_MOD_CTRL_REIDENT = false :=
  ⟨around (cageDev (.tree 47) 3), .tree 47, true, by decide⟩

theorem test_CagesFollowTheirModules_7 :
  (∃ (s : State) (c : CageId) (j : Nat), s.Runs ∧ s.dev.cageOk c = true ∧
    (∀ (k : Fin 48), c = CageId.tree k → s.dev.treeEn ↑k = false ∧ (s.dev.tree ↑k).live = false) ∧ j < 7 ∧
    s.dev.cageState c ≠ cgReady ∧ sget (fun (_x : Nat) => 0) (s.dev.cage (cageKey c)).runs j = 0) ∧
  (∃ (s : State) (c : CageId) (j : Nat), s.Runs ∧ s.dev.cageOk c = true ∧
    (∀ (k : Fin 48), c = CageId.tree k → s.dev.treeEn ↑k = false ∧ (s.dev.tree ↑k).live = false) ∧ j < 7 ∧
    s.dev.cageState c ≠ cgReady ∧ sget (fun (_x : Nat) => 0) (s.dev.cage (cageKey c)).runs j = 2) :=
  ⟨⟨around (cageDev (.tree 47) 1), .tree 47, 6, by decide⟩,
  ⟨around { cageDev (.tree 47) 1 with cages := [(47, { runs := [(6, 2)] })] }, .tree 47, 6, by decide⟩⟩

theorem test_CagesFollowTheirModules_8 :
  ∃ (s : State) (c : CageId), s.Runs ∧ s.dev.cageOk c = true ∧ ∀ (k : Fin 48), c = CageId.tree k → s.dev.treeEn ↑k = false ∧
    (s.dev.tree ↑k).live = false :=
  ⟨around (cageDev (.tree 47) 1), .tree 47, by decide⟩

theorem test_RssiLineOptionsAndTreeCommands_1 :
  ∃ (s : State) (k : Fin 48) (val : Word), s.Runs ∧ s.dev.treeOk k.val = true ∧
    s.dev.bit (rTREE_RSSI_CTRL k.val) fTREE_RSSI_CTRL_ARM = false ∧ nbit (BitVec.toNat val) 31 = true :=
  ⟨around live, 47, 0xFFFFFFFF, by decide⟩

theorem test_RssiLineOptionsAndTreeCommands_2 :
  ∃ (s : State) (k : Fin 48) (ns : Nat) (_seen : Bool) (_data : List Byte), s.Runs ∧ s.dev.waiting 259 = [] ∧
    s.dev.bit (rTREE_RSSI_CTRL k.val) fTREE_RSSI_CTRL_ARM = true ∧
    s.dev.get (rTREE_RSSI_CTRL k.val) fTREE_RSSI_CTRL_OFFSET < ns :=
  ⟨around (live.wrN (rTREE_RSSI_CTRL 47) 0x80000005), 47, 6, true, [1, 2], by decide⟩

theorem test_RssiLineOptionsAndTreeCommands_3 :
  ∃ (s : State) (k : Fin 48), s.Runs ∧ s.dev.waiting 259 = [] ∧ s.dev.bit (rTREE_RSSI_CTRL k.val) fTREE_RSSI_CTRL_ARM = true ∧
    (s.dev.tree k.val).armTick + 8000 ≤ s.dev.tickNow :=
  ⟨around ((live.wrN (rTREE_RSSI_CTRL 0) 0x80000000).wr64 rTICK_COUNT_LO rTICK_COUNT_HI 8000), 0, by decide⟩

theorem test_RssiLineOptionsAndTreeCommands_4 :
  ∃ (s : State) (h : Fin 16384) (a : Nat), s.Runs ∧ (s.dev.lineOpt h.val).asked = some a ∧ (s.dev.lineOpt h.val).waits = false ∧
    (s.dev.lineOpt h.val).effective ≤ s.dev.tickNow % 2 ^ 51 ∧ (s.dev.lineOpt h.val).acked = true :=
  ⟨around { live with lineOpts := [(16383, { asked := some 5, acked := true })] }, 16383, 5, by decide⟩

theorem test_RssiLineOptionsAndTreeCommands_5 :
  ∃ (s : State) (m : Fin 64) (c : Cmd), s.Ready m 257 c ∧ c.isOwner = true ∧ s.dev.treeOk (c.u8 0) = true ∧ c.u8 1 ≤ 2 ∧
    c.u8 2 = 0 ∧ c.u8 3 < 4 ∧ c.endsAt 4 = true ∧ s.dev.treeEn (c.u8 0) = false ∧ s.dev.framing (c.u8 0) = false ∧
    s.dev.pairEn (c.u8 0) = false :=
  ⟨around (given live tcCmd), 0, tcCmd, by decide⟩

theorem test_RssiLineOptionsAndTreeCommands_6 :
  ∃ (s : State) (m : Fin 64) (c : Cmd), s.Ready m 258 c ∧ (∀ (n : Nat), c.caller = some n → s.dev.ownsOn n (c.u8 0) = true) ∧
    s.dev.treeOk (c.u8 0) = true ∧ c.endsAt 1 = true :=
  ⟨around (given { live with cat := { chans := [(65535, { valid := true, tree := 47, tenant := 31 })] } } tsCmd), 63, tsCmd,
    by decide⟩

theorem test_RssiLineOptionsAndTreeCommands_7 :
  ∃ (s : State) (m : Fin 64) (c : Cmd), s.Ready m 259 c ∧ c.isOwner = true ∧ s.dev.treeOk (c.u8 0) = true ∧ c.zero 1 1 = true ∧
    c.u16 2 ≤ 1019 ∧ c.u16 4 < 2048 ∧ c.u8 7 = 0 ∧ c.endsAt 8 = true ∧ (∀ (k : Fin 48), ↑k = c.u8 0 →
    s.dev.cageState (CageId.tree k) = cgReady) ∧ s.dev.bit (rTREE_RSSI_CTRL (c.u8 0)) fTREE_RSSI_CTRL_ARM = false :=
  ⟨around (given (cageDev (.tree 47) 2) trCmd), 63, trCmd, by decide⟩

end TreeLine

namespace BurstRx

def treeMode (k mode en : Nat) : Dev := (live.put (rTREE_LINE_CTRL k) fTREE_LINE_CTRL_MODE mode).put (rTREE_LINE_CTRL k) fTREE_LINE_CTRL_EN en

def atTick (d : Dev) (n : Nat) : Dev := d.wr64 rTICK_COUNT_LO rTICK_COUNT_HI n

def iftOf (k e : Nat) (x : Ift) : Dev := { treeMode k 2 1 with ift := [(k * iftPerTree + e, x)], cat := { terms := [(7, { valid := true, tree := k, termId := 1019 })] } }

def descOf : Desc := ⟨4095, 7, 9, 0, 0, .data, false, false, false⟩

def rxOf (k : Nat) (x : RxTree) : Dev := { treeMode k 2 1 with rx := [(k, x)], cat := { terms := [(7, { valid := true, tree := k, termId := 1019 })] }, act := [(7, { state := .operating })] }

def candOf : Cand := ⟨0, 0, true, 1019, 0⟩

def reasmDev : Dev := atTick { live with reasm := [(65535, ⟨100, 0⟩)], cat := { allocs := [(65535, { valid := true, tree := 47 })] } } 64

def pktDev : Dev := { (live.put rCAT_STATUS fCAT_STATUS_READY 1) with cat := { chans := [(9, { valid := true, us := true, tree := 47, alloc := 65535, portId := 5, tenant := 3, metaV := 8 })], portMap := [(47 * 65536 + 5, some 9)] } }

def scanDev : Dev := atTick { live.put (rBRX_ESCAN_SEL 47) fBRX_ESCAN_SEL_LIMIT 8 with lanes := [(laneBase (.tree 47), { scan := true })] } 8

def eyeCmd : Cmd := cmdOf 63 0x02C1 none [47, 0, 0xFB, 3, 3, 3, 15, 0xE0, 0, 0, 0]

def brxCmd : Cmd := cmdOf 63 0x0104 none [47, 0]

def searchOf : Search := ⟨[7], [7], .light, 0, false⟩

def dueDev : Dev := atTick ((rxOf 47 {}).put (rBRX_RETUNE 47) fBRX_RETUNE_PERIOD 5) 5

def retuneCmd : Cmd := cmdOf 63 0x02C0 none [47, 0, 0xFB, 3, 0]

def tuneDev : Dev := { rxOf 47 { tuneQ := [(7, 9), (3, 0)] } with cat := { terms := [(7, { valid := true, tree := 47, termId := 1019, lineOpt := 4 })] } }

def negoOf (p : NegoPhase) : Nego := ⟨7, 0, [0, 0, 0, 63, 0], [0, 0, 0, 63, 0], 9, 1, 0, 0, [], p, 5, 0, false, false, 8, 4, 10⟩

theorem test_DescriptorsSearchAndClosure_1 :
  ∃ (s : State) (k : Fin 48) (e : Fin 4096) (_late : Bool), s.Runs ∧ (s.dev.iftE (k.val * iftPerTree + e.val)).used = true ∧
    (s.dev.iftE (k.val * iftPerTree + e.val)).state = 0 ∧ (s.dev.iftE (k.val * iftPerTree + e.val)).queued = false ∧
    (s.dev.iftE (k.val * iftPerTree + e.val)).actLane = false ∧ (s.dev.rxT k.val).queue.length < 16 ∧
    ((s.dev.iftE (k.val * iftPerTree + e.val)).cont = false ∨ (s.dev.rxT k.val).queue ≠ [] ∨ (s.dev.rxT k.val).cur = none) :=
  ⟨around (iftOf 47 4095 { used := true, term := 7 }), 47, 4095, true, by decide⟩

theorem test_DescriptorsSearchAndClosure_2 :
  (∃ (s : State) (k : Fin 48) (q : Desc), s.Runs ∧ s.dev.standby k.val = false ∧ (s.dev.rxT k.val).queue = [q] ∧
    q.kind = GKind.data) ∧
  (∃ (s : State) (k : Fin 48) (q : Desc) (c : Cand), s.Runs ∧ s.dev.standby k.val = false ∧ (s.dev.rxT k.val).queue = [q] ∧
    q.kind = GKind.data ∧ c.hdrOk = true ∧ c.onuId = (s.dev.term q.term).termId ∧ s.dev.candidates (k.val) q false [c] = [c]) :=
  ⟨⟨around (rxOf 47 { queue := [descOf] }), 47, descOf, by decide⟩,
  ⟨around (rxOf 47 { queue := [descOf] }), 47, descOf, candOf, by decide⟩⟩

theorem test_DescriptorsSearchAndClosure_3 :
  (∃ (s : State) (k : Fin 48) (b : Burst), s.Runs ∧ (s.dev.rxT k.val).cur = some b) ∧
  (∃ (s : State) (k : Fin 48) (b : Burst), s.Runs ∧ (s.dev.rxT k.val).cur = some b) :=
  ⟨⟨around (rxOf 47 { cur := some ⟨[descOf], true, 0, false, false⟩ }), 47, ⟨[descOf], true, 0, false, false⟩, by decide⟩,
  ⟨around (rxOf 47 { cur := some ⟨[descOf], true, 0, false, false⟩ }), 47, ⟨[descOf], true, 0, false, false⟩, by decide⟩⟩

theorem test_DescriptorsSearchAndClosure_4 :
  ∃ (s : State) (k : Fin 48) (e : Fin 4096) (_fin : BurstEnd), s.Runs ∧ (s.dev.iftE (k.val * iftPerTree + e.val)).used = true ∧
    (s.dev.iftE (k.val * iftPerTree + e.val)).state = 0 ∧ (s.dev.iftE (k.val * iftPerTree + e.val)).searched = true ∧
    (s.dev.iftE (k.val * iftPerTree + e.val)).kind ≠ GKind.ranging :=
  ⟨around (iftOf 47 4095 { used := true, term := 7, searched := true, conf := true }), 47, 4095, ⟨5, 0, List.replicate 16 1, 0,
    0⟩, by decide⟩

theorem test_DescriptorsSearchAndClosure_5 :
  ∃ (s : State) (a : Fin 65536), s.Runs ∧ (s.dev.reasmOf a.val).bytes ≠ 0 ∧ (s.dev.reasmOf a.val).tick + 64 ≤ s.dev.tickNow :=
  ⟨around reasmDev, 65535, by decide⟩

theorem test_DescriptorsSearchAndClosure_6 :
  (∃ (s : State) (_k : Fin 48) (_a : Fin 65536) (_port : Fin 65536) (_bytes : List Byte), s.Runs) ∧
  (∃ (s : State) (k : Fin 48) (_a : Fin 65536) (_port : Fin 65536) (bytes : List Byte), s.Runs ∧
    s.dev.maxPkt k.val < bytes.length) ∧
  (∃ (s : State) (k : Fin 48) (a : Fin 65536) (port : Fin 65536) (bytes : List Byte) (c : Nat), s.Runs ∧
    bytes.length ≤ s.dev.maxPkt k.val ∧ s.dev.findChan k.val port.val = some c ∧ s.dev.catReady = true ∧
    (s.dev.chan c).valid = true ∧ s.dev.quarHandle RecKind.chan c = false ∧ (s.dev.chan c).us = true ∧
    (s.dev.chan c).alloc = a.val ∧ (s.dev.chan c).fault = false ∧ (s.dev.chan c).prot = false ∧
    (s.dev.ladA a.val).cfg.police = false) :=
  ⟨⟨around reasmDev, 47, 65535, 5, List.replicate 16384 0, by decide⟩,
  ⟨around (reasmDev.put (rBRX_CTRL 47) fBRX_CTRL_MAX_PKT 1), 47, 65535, 5, List.replicate 16384 0, by decide +kernel⟩,
  ⟨around pktDev, 47, 65535, 5, [1, 2], 9, by decide⟩⟩

theorem test_DescriptorsSearchAndClosure_7 :
  ∃ (s : State) (k : Fin 48), s.Runs ∧ s.dev.standby k.val = false ∧ (s.dev.actT k.val).stray = [] ∧ 1 < s.dev.strayLim k.val :=
  ⟨around (treeMode 47 2 1), 47, by decide⟩

theorem test_DescriptorsSearchAndClosure_8 :
  ∃ (s : State) (k : Fin 48) (e : Fin 4096), s.Runs ∧ s.dev.standby k.val = false ∧
    (s.dev.iftE (k.val * iftPerTree + e.val)).used = true ∧ (s.dev.iftE (k.val * iftPerTree + e.val)).kind ≠ GKind.sn ∧
    (s.dev.actOf (s.dev.iftE (k.val * iftPerTree + e.val)).term).rogue = [] ∧
    1 < s.dev.rogueLim (s.dev.term (s.dev.iftE (k.val * iftPerTree + e.val)).term).tree :=
  ⟨around (iftOf 47 4095 { used := true, term := 7 }), 47, 4095, by decide⟩

theorem test_DescriptorsSearchAndClosure_9 :
  ∃ (s : State) (k : Fin 48) (e : Fin 4096) (_late : Bool) (b : Burst), s.Runs ∧
    (s.dev.iftE (k.val * iftPerTree + e.val)).used = true ∧ (s.dev.iftE (k.val * iftPerTree + e.val)).state = 0 ∧
    (s.dev.iftE (k.val * iftPerTree + e.val)).queued = false ∧ (s.dev.iftE (k.val * iftPerTree + e.val)).actLane = false ∧
    (s.dev.iftE (k.val * iftPerTree + e.val)).cont = true ∧ (s.dev.rxT k.val).queue = [] ∧ (s.dev.rxT k.val).cur = some b :=
  ⟨around { iftOf 47 4095 { used := true, term := 7, cont := true } with
      rx := [(47, { cur := some ⟨[descOf], true, 0, false, false⟩ })] }, 47, 4095, true, ⟨[descOf], true, 0, false, false⟩, by decide⟩

theorem test_PresetsAndProfiles_1 :
  (∃ (s : State) (k : Fin 48) (val : Word) (h : Nat), s.Runs ∧ s.dev.treeOk k.val = true ∧ nbit (BitVec.toNat val) 30 = true ∧
    nbit (BitVec.toNat val) 29 = false ∧ s.dev.findTerm (k.val) (fieldOf (BitVec.toNat val) fBRX_PRESET_CMD_TERM) = some h) ∧
  (∃ (s : State) (k : Fin 48) (val : Word), s.Runs ∧ s.dev.treeOk k.val = true ∧ nbit (BitVec.toNat val) 30 = true ∧
    nbit (BitVec.toNat val) 29 = false ∧ s.dev.findTerm (k.val) (fieldOf (BitVec.toNat val) fBRX_PRESET_CMD_TERM) = none) :=
  ⟨⟨around { rxOf 47 { } with presets := [(7, { valid := 1, miss := 3, age := 9 })] }, 47, 0x400003FB, 7, by decide⟩,
  ⟨around { rxOf 47 { } with presets := [(7, { valid := 1, miss := 3, age := 9 })] }, 47, 0xC00003FA, by decide⟩⟩

theorem test_PresetsAndProfiles_2 :
  (∃ (s : State) (k : Fin 48) (_i : Fin 4) (_val : Word), s.Runs ∧ s.dev.treeOk k.val = true ∧ s.dev.treeEn k.val = false) ∧
  (∃ (s : State) (k : Fin 48) (_i : Fin 4) (_val : Word), s.Runs ∧ s.dev.treeOk k.val = true ∧ s.dev.treeEn k.val = true) :=
  ⟨⟨around live, 47, 3, 0xFFFFFFFF, by decide⟩,
  ⟨around (treeMode 47 2 1), 47, 3, 0xFFFFFFFF, by decide⟩⟩

theorem test_PresetsAndProfiles_3 :
  ∃ (s : State) (k : Fin 48) (_count : Word), s.Runs ∧ (s.dev.laneX (laneBase (LaneId.tree k))).scan = true ∧
    s.dev.get (rBRX_ESCAN_SEL k.val) fBRX_ESCAN_SEL_LIMIT ≠ 0 ∧
    (s.dev.laneX (laneBase (LaneId.tree k))).scanTick + s.dev.get (rBRX_ESCAN_SEL k.val) fBRX_ESCAN_SEL_LIMIT ≤ s.dev.tickNow ∧
    s.dev.waiting 705 = [] :=
  ⟨around scanDev, 47, 0xFFFFFFFF, by decide⟩

theorem test_PresetsAndProfiles_4 :
  ∃ (s : State) (m : Fin 64) (c : Cmd) (k : Fin 48), s.Ready m 705 c ∧ c.isOwner = true ∧ c.u8 0 = k.val ∧
    s.dev.treeOk k.val = true ∧ c.zero 1 1 = true ∧ c.u8 4 < 4 ∧ c.u8 5 < 4 ∧ c.u8 6 < 16 ∧ -32 ≤ c.s8 7 ∧ c.s8 7 < 32 ∧
    c.endsAt 11 = true ∧ (s.dev.findTerm (k.val) (c.u16 2)).isSome = true ∧
    (s.dev.laneX (laneBase (LaneId.tree k))).scan = false :=
  ⟨around (given (rxOf 47 { }) eyeCmd), 63, eyeCmd, 47, by decide⟩

theorem test_PresetsAndProfiles_5 :
  ∃ (s : State) (m : Fin 64) (c : Cmd), s.Ready m 260 c ∧ (∀ (n : Nat), c.caller = some n → s.dev.ownsOn n (c.u8 0) = true) ∧
    s.dev.treeOk (c.u8 0) = true ∧ c.u8 1 = 0 ∧ c.endsAt 2 = true :=
  ⟨around (given ((rxOf 47 { }).wrN (rBRX_CNT 47 3) 88) brxCmd), 63, brxCmd, by decide⟩

theorem test_PresetsAndProfiles_6 :
  ∃ (s : State) (k : Fin 48) (x : Search), s.Runs ∧ (s.dev.actT k.val).search = some x ∧ x.phase = SearchPhase.light ∧
    x.lit = false ∧ x.until_ ≤ s.dev.tickNow :=
  ⟨around { rxOf 47 { } with actTrees := [(47, { search := some searchOf })] }, 47, searchOf, by decide⟩

theorem test_TapNegotiation_1 :
  ∃ (s : State) (k : Fin 48) (h : Fin 16384), s.Runs ∧ s.dev.mode k.val = 2 ∧
    s.dev.get (rBRX_RETUNE k.val) fBRX_RETUNE_PERIOD ≠ 0 ∧ (s.dev.term h.val).tree = k.val ∧
    s.dev.stateOf h.val = TState.operating ∧ (s.dev.rxT k.val).dueTick ≠ some s.dev.tickNow ∧
    s.dev.get (rBRX_RETUNE k.val) fBRX_RETUNE_PERIOD ≤ (s.dev.tickNow % 2 ^ 32 + 2 ^ 32 - (s.dev.preset h.val).age) % 2 ^ 32 ∧
    s.dev.tuneHas k.val h.val = false ∧ (s.dev.rxT k.val).tuneQ.length < 64 :=
  ⟨around dueDev, 47, 7, by decide⟩

theorem test_TapNegotiation_2 :
  ∃ (s : State) (m : Fin 64) (c : Cmd) (h : Nat), s.Ready m 704 c ∧ c.isOwner = true ∧ s.dev.treeOk (c.u8 0) = true ∧
    c.zero 1 1 = true ∧ c.u8 4 = 0 ∧ c.endsAt 5 = true ∧ s.dev.findTerm (c.u8 0) (c.u16 2) = some h ∧ s.dev.mode (c.u8 0) = 2 ∧
    s.dev.tuneHas (c.u8 0) h = false ∧ (s.dev.rxT (c.u8 0)).tuneQ.length < 64 :=
  ⟨around (given (rxOf 47 { tuneQ := [(1, 0)] }) retuneCmd), 63, retuneCmd, 7, by decide⟩

theorem test_TapNegotiation_3 :
  ∃ (s : State) (k : Fin 48) (h : Nat) (rounds : Nat) (rest : List (Nat × Nat)) (rate : Nat) (rates : List Nat), s.Runs ∧
    (s.dev.rxT k.val).nego = none ∧ (s.dev.rxT k.val).tuneQ = (h, rounds) :: rest ∧ s.dev.mode k.val = 2 ∧
    (s.dev.lineOpt h).asked = none ∧ s.dev.tuneRates h = rate :: rates ∧ s.dev.stateOf h = TState.operating :=
  ⟨around tuneDev, 47, 7, 9, [(3, 0)], 0, [], by decide⟩

theorem test_TapNegotiation_4 :
  ∃ (s : State) (k : Fin 48) (id : Fin 1024) (content : List Byte) (h : Nat) (n : Nego), s.Runs ∧
    s.dev.findTerm k.val id.val = some h ∧ (s.dev.rxT k.val).nego = some n ∧ n.term = h ∧ byteAt content 0 = n.seq ∧
    byteAt content 1 = n.rate ∧ byteAt content 2 = 0 ∧ n.phase = NegoPhase.asked :=
  ⟨around (rxOf 47 { nego := some (negoOf .asked) }), 47, 1019, [5, 0, 0, 0], 7, negoOf .asked, by decide⟩

theorem test_TapNegotiation_5 :
  ∃ (s : State) (k : Fin 48) (n : Nego), s.Runs ∧ (s.dev.rxT k.val).nego = some n ∧ n.phase = NegoPhase.first ∧
    s.dev.tuneBursts k.val ≤ n.bursts ∧ n.sum / n.bursts < s.dev.get (rBRX_TUNE_CTRL k.val) fBRX_TUNE_CTRL_TUNE_THR :=
  ⟨around ((rxOf 47 { nego := some { negoOf .first with bursts := 256, sum := 255 } }).put (rBRX_TUNE_CTRL 47) fBRX_TUNE_CTRL_TUNE_THR 1),
    47, { negoOf .first with bursts := 256, sum := 255 }, by decide⟩

theorem test_TapNegotiation_6 :
  (∃ (s : State) (k : Fin 48) (n : Nego), s.Runs ∧ (s.dev.rxT k.val).nego = some n ∧ n.phase = NegoPhase.asked ∧
    n.resent = false ∧ n.effective + 16 ≤ s.dev.tickNow % 2 ^ 51) ∧
  (∃ (s : State) (k : Fin 48) (n : Nego), s.Runs ∧ (s.dev.rxT k.val).nego = some n ∧ n.phase = NegoPhase.first ∧
    n.failed = false ∧ n.effective + 800 ≤ s.dev.tickNow % 2 ^ 51) :=
  ⟨⟨around (atTick (rxOf 47 { nego := some (negoOf .asked) }) 16), 47, negoOf .asked, by decide⟩,
  ⟨around (atTick (rxOf 47 { nego := some (negoOf .first) }) 800), 47, negoOf .first, by decide⟩⟩

end BurstRx

namespace Activation

def treeMode (k mode en : Nat) : Dev := (live.put (rTREE_LINE_CTRL k) fTREE_LINE_CTRL_MODE mode).put (rTREE_LINE_CTRL k) fTREE_LINE_CTRL_EN en

def atTick (d : Dev) (n : Nat) : Dev := d.wr64 rTICK_COUNT_LO rTICK_COUNT_HI n

/-- A framing tree with a terminal at handle 7 in a state. -/
def actDev (st : TermAct) (x : ActTree) : Dev :=
  { (treeMode 47 2 1).put (rTREE_LINE_STATUS 47) fTREE_LINE_STATUS_FRAMING 1 with
    trees := [(47, { live := true })], act := [(7, st)], actTrees := [(47, x)]
    cat := { terms := [(7, { valid := true, tree := 47, termId := 1019, serial := 99 })], chans := [(9, { valid := true, tree := 47, term := 7, portId := 65533 })], portMap := [(47 * 65536 + 65533, some 9)] } }

def rtOut : RtOut := ⟨5000, 3, 10, false⟩

def actCmd : Cmd := cmdOf 63 0x0105 none [47, 20, 40, 5, 0]

def stopCmd : Cmd := cmdOf 63 0x0281 none [47, 0, 0xFB, 3]

def stateCmd : Cmd := cmdOf 63 0x0280 (some 0) [47, 0, 0xFB, 3]

def snCmd : Cmd := cmdOf 63 0x0106 none [47, 0]

theorem test_ActivationFollowsTheTerminal_1 :
  (∃ (s : State) (k : Fin 48) (_act : Bool) (sn : BitVec 64), s.Runs ∧ s.dev.framing k.val = true ∧ s.dev.standby k.val = false ∧
    s.dev.findSerial (k.val) sn.toNat = none) ∧
  (∃ (s : State) (k : Fin 48) (_act : Bool) (sn : BitVec 64) (h : Nat), s.Runs ∧ s.dev.framing k.val = true ∧
    s.dev.standby k.val = false ∧ s.dev.findSerial (k.val) sn.toNat = some h ∧ s.dev.stateOf h = TState.absent) ∧
  (∃ (s : State) (k : Fin 48) (_act : Bool) (sn : BitVec 64) (h : Nat), s.Runs ∧ s.dev.framing k.val = true ∧
    s.dev.standby k.val = false ∧ s.dev.findSerial (k.val) sn.toNat = some h ∧
    (s.dev.stateOf h = TState.stopped ∨ s.dev.stateOf h = TState.isolated)) ∧
  (∃ (s : State) (k : Fin 48) (_act : Bool) (sn : BitVec 64) (h : Nat), s.Runs ∧ s.dev.framing k.val = true ∧
    s.dev.standby k.val = false ∧ s.dev.findSerial (k.val) sn.toNat = some h ∧
    (s.dev.stateOf h = TState.fine ∨ s.dev.stateOf h = TState.operating)) :=
  ⟨⟨around (actDev { } { }), 47, true, 98, by decide⟩,
  ⟨around (actDev { } { }), 47, true, 99, 7, by decide⟩,
  ⟨around (actDev { state := .stopped } { }), 47, true, 99, 7, by decide⟩,
  ⟨around (actDev { state := .fine } { }), 47, true, 99, 7, by decide⟩⟩

theorem test_ActivationFollowsTheTerminal_2 :
  (∃ (s : State) (k : Fin 48) (id : Fin 1024) (h : Nat) (r : RtOut) (_port : Fin 65536), s.Runs ∧
    s.dev.findTerm k.val id.val = some h ∧ granted (s.dev.stateOf h) = true ∧ (s.dev.actOf h).rt = some r) ∧
  (∃ (s : State) (k : Fin 48) (id : Fin 1024) (h : Nat) (_port : Fin 65536), s.Runs ∧ s.dev.findTerm k.val id.val = some h ∧
    granted (s.dev.stateOf h) = true ∧ (s.dev.lineOpt h).asked ≠ none ∧ (s.dev.lineOpt h).waits = false ∧
    s.dev.sfc < (s.dev.lineOpt h).effective) ∧
  (∃ (s : State) (k : Fin 48) (id : Fin 1024) (h : Nat) (port : Fin 65536) (c : Nat), s.Runs ∧
    s.dev.findTerm k.val id.val = some h ∧ granted (s.dev.stateOf h) = true ∧ s.dev.findChan k.val port.val = some c ∧
    (s.dev.chan c).term = h) :=
  ⟨⟨around (actDev { state := .operating, rt := some rtOut } { }), 47, 1019, 7, rtOut, 0, by decide⟩,
  ⟨around { actDev { state := .operating } { } with lineOpts := [(7, { asked := some 5, effective := 1 })] }, 47, 1019, 7, 0,
    by decide⟩,
  ⟨around { actDev { state := .operating } { } with seqOut := [(9, some ⟨1, 7⟩)] }, 47, 1019, 7, 65533, 9, by decide⟩⟩

theorem test_ActivationFollowsTheTerminal_3 :
  (∃ (s : State) (h : Fin 16384) (x : RtOut), s.Runs ∧ (s.dev.actOf h.val).rt = some x ∧
    x.tick + s.dev.teqdTicks (s.dev.term h.val).tree + 4 ≤ s.dev.tickNow ∧ (x.entry = true → x.sends < 3) ∧
    (x.entry = false → x.sends < 4)) ∧
  (∃ (s : State) (h : Fin 16384) (x : RtOut), s.Runs ∧ (s.dev.actOf h.val).rt = some x ∧
    x.tick + s.dev.teqdTicks (s.dev.term h.val).tree + 4 ≤ s.dev.tickNow ∧ x.entry = false ∧ 4 ≤ x.sends) :=
  ⟨⟨around (atTick (actDev { state := .operating, rt := some rtOut } { }) 19), 7, rtOut, by decide⟩,
  ⟨around (atTick (actDev { state := .operating, rt := some ⟨5000, 4, 10, false⟩ } { }) 19), 7, ⟨5000, 4, 10, false⟩, by decide⟩⟩

theorem test_ActivationFollowsTheTerminal_4 :
  ∃ (s : State) (h : Fin 16384), s.Runs ∧ s.dev.stateOf h.val = TState.lost ∧
    (s.dev.actOf h.val).entryTick + s.dev.lostTicks (s.dev.term h.val).tree ≤ s.dev.tickNow :=
  ⟨around (atTick (actDev { state := .lost, lobRun := 3 } { }) 800000), 7, by decide⟩

theorem test_ActivationFollowsTheTerminal_5 :
  ∃ (s : State) (k : Fin 48), s.Runs ∧ 64 ≤ (s.dev.actT k.val).defer :=
  ⟨around (actDev { } { defer := 64, qwDue := true, askSvc := true }), 47, by decide⟩

theorem test_ActivationCommands_1 :
  ∃ (s : State) (k : Fin 48) (_reach : Bool) (_val : Word), s.Runs ∧ s.dev.treeOk k.val = true ∧ s.dev.treeEn k.val = false :=
  ⟨around (treeMode 47 2 0), 47, true, 0xFFFFFFFF, by decide⟩

theorem test_ActivationCommands_2 :
  ∃ (s : State) (k : Fin 48) (_val : Word), s.Runs ∧ s.dev.treeOk k.val = true :=
  ⟨around (actDev { state := .operating, eqd := 4294967297 } { }), 47, 1019, by decide⟩

theorem test_ActivationCommands_3 :
  ∃ (s : State) (m : Fin 64) (c : Cmd), s.Ready m 261 c ∧ c.isOwner = true ∧ s.dev.treeOk (c.u8 0) = true ∧ c.only 4 13 = true ∧
    c.endsAt 5 = true ∧ s.dev.treeEn (c.u8 0) = false ∧ reachOk (c.u8 3) (c.u8 1) (c.u8 2) = true :=
  ⟨around (given (treeMode 47 2 0) actCmd), 63, actCmd, by decide⟩

theorem test_ActivationCommands_4 :
  ∃ (s : State) (m : Fin 64) (c : Cmd) (h : Nat), s.Ready m 641 c ∧ c.isOwner = true ∧ s.dev.treeOk (c.u8 0) = true ∧
    c.u8 1 = 0 ∧ c.endsAt 4 = true ∧ s.dev.findTerm (c.u8 0) (c.u16 2) = some h ∧ s.dev.stateOf h ≠ TState.isolated :=
  ⟨around (given (actDev { state := .operating } { }) stopCmd), 63, stopCmd, 7, by decide⟩

theorem test_ActivationCommands_5 :
  ∃ (s : State) (m : Fin 64) (c : Cmd) (h : Nat), s.Ready m 640 c ∧ s.dev.findTerm (c.u8 0) (c.u16 2) = some h ∧
    (c.isOwner = true ∨ c.caller = some (s.dev.term h).tenant) ∧ c.u8 1 = 0 ∧ c.endsAt 4 = true :=
  ⟨around (given (actDev { state := .operating, eqd := 77, actLane := true, entryTick := 9 } { }) stateCmd), 63, stateCmd, 7,
    by decide⟩

theorem test_ActivationCommands_6 :
  ∃ (s : State) (m : Fin 64) (c : Cmd), s.Ready m 262 c ∧ c.isOwner = true ∧ s.dev.treeOk (c.u8 0) = true ∧ c.u8 1 = 0 ∧
    c.endsAt 2 = true ∧ (s.dev.actT (c.u8 0)).snList.length ≤ 64 :=
  ⟨around (given (actDev { } { snList := List.replicate 64 (5, 6, 1) }) snCmd), 63, snCmd, by decide⟩

end Activation

namespace Catalogue

def lb (n v : Nat) : List Nat := (List.range n).map (fun i => v / 256 ^ i % 256)

def treeMode (k mode en : Nat) : Dev := (live.put (rTREE_LINE_CTRL k) fTREE_LINE_CTRL_MODE mode).put (rTREE_LINE_CTRL k) fTREE_LINE_CTRL_EN en

/-- The Catalogue ready, with tree 47 in J100. -/
def catDev (c : CatState) : Dev := { (treeMode 47 2 0).put rCAT_STATUS fCAT_STATUS_READY 1 with cat := c }

def termOne : TermRec := { valid := true, tenant := 31, tree := 47, termId := 1019, defAlloc := 2, mgmtChan := 3, serial := 99, lineOpt := 7, keyIndex := 1, gen := 1, nAlloc := 1, nChan := 1 }

def allocOne : AllocRec := { valid := true, tenant := 31, tree := 47, cls := 3, allocId := 1019, term := 1, maxRate := 8000, weight := 1, minGrant := 64, interval := 1, gen := 4294967295 }

def chanOne : ChanRec := { valid := true, us := true, mgmt := true, tenant := 31, tree := 47, portId := 1019, term := 1, alloc := 2, dsWeight := 1, gen := 1 }

def catOne : CatState := { terms := [(1, termOne)], allocs := [(2, allocOne)], chans := [(3, chanOne)], portMap := [(47 * 65536 + 1019, some 3)], ownerUse := [1, 1, 1] }

def tcreate : Cmd := cmdOf 63 0x0201 none ([47, 1, 3, 0] ++ lb 2 1019 ++ [31, 0] ++ lb 8 99 ++ lb 36 7 ++ lb 4 0)

def tedit : Cmd := cmdOf 63 0x0202 none ([47, 1, 3, 0] ++ lb 2 1019 ++ [31, 0] ++ lb 8 99 ++ lb 36 7 ++ lb 4 1)

def acreate : Cmd := cmdOf 63 0x0301 none ([47, 3, 0, 0] ++ lb 2 16383 ++ lb 2 1019 ++ [31, 0, 0, 0] ++ lb 4 0 ++ lb 4 0 ++ lb 4 8000 ++ lb 2 1 ++ lb 2 64 ++ lb 4 0)

def aedit : Cmd := cmdOf 63 0x0302 none ([47, 3, 0, 0] ++ lb 2 1019 ++ lb 2 1019 ++ [31, 0, 0, 0] ++ lb 4 0 ++ lb 4 0 ++ lb 4 16000 ++ lb 2 1 ++ lb 2 64 ++ lb 4 4294967295)

def ccreate : Cmd := cmdOf 63 0x0401 none ([47, 1] ++ lb 2 65533 ++ lb 2 1019 ++ lb 2 1019 ++ [31, 0, 0, 0] ++ lb 4 0 ++ lb 4 0 ++ lb 2 1 ++ lb 2 9 ++ lb 2 0 ++ lb 6 0)

def cedit : Cmd := cmdOf 63 0x0402 none ([47, 1] ++ lb 2 1019 ++ lb 2 1019 ++ lb 2 1019 ++ [31, 0, 0, 0] ++ lb 4 0 ++ lb 4 0 ++ lb 2 1 ++ lb 2 9 ++ lb 2 0 ++ lb 2 0 ++ lb 4 1)

def named (code : Nat) (who : Option Nat) : Cmd := cmdOf 63 code who ([47, 0] ++ lb 2 1019)

def catBare : CatState := { catOne with terms := [(1, { termOne with nAlloc := 0, nChan := 0 })] }

def catTwo : CatState := { catOne with terms := [(1, termOne), (8, { termOne with serial := 5, termId := 3, keyIndex := 8})], allocs := [(2, allocOne), (5, { allocOne with allocId := 1024 })], chans := [(3, chanOne), (6, { chanOne with mgmt := false, portId := 1024 })], portMap := [(47 * 65536 + 1019, some 3), (47 * 65536 + 1024, some 6)] }

def named2 (code : Nat) (who : Option Nat) : Cmd := cmdOf 63 code who ([47, 0] ++ lb 2 1024)

def ttCmd : Cmd := cmdOf 63 0x0107 (some 15) ([15, 1] ++ List.replicate 34 0)

def recDev : Dev := (List.range 16).foldl (fun d i => d.wrN (rCAT_REC_DATA i) (leAt { chanOne with mgmt := false, portId := 65533, gen := 0 }.image (4 * i) 4)) (catDev catOne)

def lineOf : WbLine := ⟨.term, 16383, [1, 2, 3]⟩

theorem test_CatalogueObjectsAreMade_1 :
  ∃ (s : State) (m : Fin 64) (c : Cmd) (h : Nat) (a : Nat) (n : Nat), s.Ready m 513 c ∧ c.isOwner = true ∧
    s.dev.catReady = true ∧ s.dev.treeOk (c.u8 0) = true ∧ c.termForm false = true ∧ c.u8 3 = 0 ∧ c.u16 4 ≤ 1019 ∧
    s.dev.freeHandle RecKind.term = some h ∧ s.dev.freeHandle RecKind.alloc = some a ∧ s.dev.freeHandle RecKind.chan = some n ∧
    (s.start.termCreate (c.termFields { tenant := c.u8 6, tree := c.u8 0, termId := c.u16 4 }) true).fst = none :=
  ⟨around (given (catDev { }) tcreate), 63, tcreate, 0, 0, 0, by decide⟩

theorem test_CatalogueObjectsAreMade_2 :
  ∃ (s : State) (m : Fin 64) (c : Cmd) (h : Nat), s.Ready m 514 c ∧ c.isOwner = true ∧ s.dev.catReady = true ∧
    s.dev.findTerm (c.u8 0) (c.u16 4) = some h ∧ c.termForm true = true ∧ c.u8 3 = 0 ∧ c.u8 6 = (s.dev.term h).tenant ∧
    (c.u32 52 = 0 ∨ c.u32 52 = (s.dev.term h).gen) ∧ (s.dev.term h).valid = true ∧
    (s.start.catTry (s.start.termChecks h (c.termFields (s.dev.term h)) ++ [s.start.dirtyCheck [h] [] []])).fst = none :=
  ⟨around (given (catDev catOne) tedit), 63, tedit, 1, by decide⟩

theorem test_CatalogueObjectsAreMade_3 :
  ∃ (s : State) (m : Fin 64) (c : Cmd) (h : Nat) (th : Nat), s.Ready m 769 c ∧ c.isOwner = true ∧ s.dev.catReady = true ∧
    s.dev.findTerm (c.u8 0) (c.u16 6) = some th ∧ c.allocForm false = true ∧ c.u8 3 < 128 ∧ 1024 ≤ c.u16 4 ∧ c.u16 4 ≤ 16383 ∧
    s.dev.freeHandle RecKind.alloc = some h ∧
    (s.start.catTry (s.start.allocChecks h (c.allocFields { tenant := c.u8 8, tree := c.u8 0, allocId := c.u16 4, term := th, interval := 1 }) (c.u16 4) ++ [s.start.dirtyCheck [th] [h] []])).fst = none :=
  ⟨around (given (catDev catOne) acreate), 63, acreate, 0, 1, by decide⟩

theorem test_CatalogueObjectsAreMade_4 :
  ∃ (s : State) (m : Fin 64) (c : Cmd) (h : Nat), s.Ready m 770 c ∧ c.isOwner = true ∧ s.dev.catReady = true ∧
    s.dev.findAlloc (c.u8 0) (c.u16 4) = some h ∧ c.allocForm true = true ∧ c.u8 8 = (s.dev.alloc h).tenant ∧
    c.u16 6 = (s.dev.term (s.dev.alloc h).term).termId ∧ (c.u32 28 = 0 ∨ c.u32 28 = (s.dev.alloc h).gen) ∧
    (s.dev.alloc h).valid = true ∧
    (s.start.catTry (s.start.allocChecks h (c.allocFields (s.dev.alloc h)) (s.dev.alloc h).allocId ++ [s.start.dirtyCheck [] [h] []])).fst = none :=
  ⟨around (given (catDev catOne) aedit), 63, aedit, 2, by decide⟩

theorem test_CatalogueObjectsAreMade_5 :
  ∃ (s : State) (m : Fin 64) (c : Cmd) (h : Nat) (th : Nat) (al : Nat), s.Ready m 1025 c ∧ c.isOwner = true ∧
    s.dev.catReady = true ∧ s.dev.findTerm (c.u8 0) (c.u16 4) = some th ∧ c.chanAlloc s.dev = some al ∧ c.chanForm false = true ∧
    c.u8 1 < 128 ∧ 1020 ≤ c.u16 2 ∧ c.u16 2 ≤ 65533 ∧ s.dev.freeHandle RecKind.chan = some h ∧
    (s.start.catTry (s.start.chanChecks h (c.chanFields { tenant := c.u8 8, tree := c.u8 0, portId := c.u16 2, term := th } al) (c.u16 2) ++ [s.start.dirtyCheck [th] [] [h]])).fst = none :=
  ⟨around (given (catDev catOne) ccreate), 63, ccreate, 0, 1, 2, by decide⟩

theorem test_CatalogueObjectsAreMade_6 :
  ∃ (s : State) (m : Fin 64) (c : Cmd) (h : Nat) (al : Nat), s.Ready m 1026 c ∧ c.isOwner = true ∧ s.dev.catReady = true ∧
    s.dev.findChan (c.u8 0) (c.u16 2) = some h ∧ c.chanAlloc s.dev = some al ∧ c.chanForm true = true ∧
    c.u8 8 = (s.dev.chan h).tenant ∧ c.u16 4 = (s.dev.term (s.dev.chan h).term).termId ∧ (c.u32 28 = 0 ∨
    c.u32 28 = (s.dev.chan h).gen) ∧ (s.dev.chan h).valid = true ∧
    (s.start.catTry (s.start.chanChecks h (c.chanFields (s.dev.chan h) al) (s.dev.chan h).portId ++ [s.start.dirtyCheck [] [] [h]])).fst = none :=
  ⟨around (given (catDev catOne) cedit), 63, cedit, 3, 2, by decide⟩

theorem test_CatalogueObjectsAreReadAndRemoved_1 :
  (∃ (s : State) (m : Fin 64) (c : Cmd) (h : Nat), s.dev.catReady = true ∧ c.nameForm s.dev = true ∧ c.u8 1 = 0 ∧
    s.Ready m 516 c ∧ s.dev.findTerm (c.u8 0) (c.u16 2) = some h ∧ (c.isOwner = true ∨ c.caller = some (s.dev.term h).tenant)) ∧
  (∃ (s : State) (m : Fin 64) (c : Cmd) (h : Nat), s.dev.catReady = true ∧ c.nameForm s.dev = true ∧ c.u8 1 = 0 ∧
    s.Ready m 772 c ∧ s.dev.findAlloc (c.u8 0) (c.u16 2) = some h ∧ (c.isOwner = true ∨ c.caller = some (s.dev.alloc h).tenant)) ∧
  (∃ (s : State) (m : Fin 64) (c : Cmd) (h : Nat), s.dev.catReady = true ∧ c.nameForm s.dev = true ∧ c.u8 1 = 0 ∧
    s.Ready m 1028 c ∧ s.dev.findChan (c.u8 0) (c.u16 2) = some h ∧ (c.isOwner = true ∨ c.caller = some (s.dev.chan h).tenant)) ∧
  (∃ (s : State) (m : Fin 64) (c : Cmd) (h : Nat), s.dev.catReady = true ∧ c.nameForm s.dev = true ∧ c.u8 1 = 0 ∧
    s.Ready m 515 c ∧ s.dev.findTerm (c.u8 0) (c.u16 2) = some h ∧ (c.isOwner = true ∨ c.caller = some (s.dev.term h).tenant) ∧
    (s.start.catTry (s.start.termDropChecks h)).fst = none) ∧
  (∃ (s : State) (m : Fin 64) (c : Cmd) (h : Nat), s.dev.catReady = true ∧ c.nameForm s.dev = true ∧ c.u8 1 = 0 ∧
    s.Ready m 771 c ∧ s.dev.findAlloc (c.u8 0) (c.u16 2) = some h ∧ (c.isOwner = true ∨ c.caller = some (s.dev.alloc h).tenant) ∧
    (s.start.catTry (s.start.allocDropChecks h)).fst = none) ∧
  (∃ (s : State) (m : Fin 64) (c : Cmd) (h : Nat), s.dev.catReady = true ∧ c.nameForm s.dev = true ∧ c.u8 1 = 0 ∧
    s.Ready m 1027 c ∧ s.dev.findChan (c.u8 0) (c.u16 2) = some h ∧ (c.isOwner = true ∨ c.caller = some (s.dev.chan h).tenant) ∧
    (s.start.catTry (s.start.chanDropChecks h)).fst = none) :=
  ⟨⟨around (given (catDev catOne) (named 0x0204 none)), 63, named 0x0204 none, 1, by decide⟩,
  ⟨around (given (catDev catOne) (named 0x0304 none)), 63, named 0x0304 none, 2, by decide⟩,
  ⟨around (given (catDev catOne) (named 0x0404 (some 31))), 63, named 0x0404 (some 31), 3, by decide⟩,
  ⟨around (given (catDev catBare) (named 0x0203 none)), 63, named 0x0203 none, 1, by decide⟩,
  ⟨around (given (catDev catTwo) (named2 0x0303 none)), 63, named2 0x0303 none, 5, by decide⟩,
  ⟨around (given (catDev catTwo) (named2 0x0403 none)), 63, named2 0x0403 none, 6, by decide⟩⟩

theorem test_CatalogueObjectsAreReadAndRemoved_2 :
  ∃ (s : State) (m : Fin 64) (c : Cmd), s.Ready m 263 c ∧ s.dev.catReady = true ∧ c.u8 0 < 16 ∧ c.u8 1 = 1 ∧ c.zero 2 2 = true ∧
    c.endsAt 36 = true ∧ (c.isOwner = true ∨ c.caller = some (c.u8 0)) :=
  ⟨around (given (catDev catTwo) ttCmd), 63, ttCmd, by decide⟩

theorem test_CatalogueObjectsAreReadAndRemoved_3 :
  ∃ (s : State), s.Runs :=
  ⟨around (catDev { catOne with quar := [⟨.term, 4, 47, 5, 0⟩, ⟨.chan, 4, 47, 5, 1⟩] }), by decide⟩

theorem test_CatalogueStorage_1 :
  (∃ (s : State) (_i : Fin 4194304), s.Runs ∧ s.dev.catReady = true) ∧
  (∃ (s : State) (_i : Fin 4194304), s.Runs ∧ s.dev.catReady = true) ∧
  (∃ (s : State) (_i : Fin 4194304), s.Runs ∧ s.dev.catReady = true) ∧
  (∃ (s : State) (i : Fin 4194304), s.Runs ∧ s.dev.catReady = true ∧ s.dev.portOf i.val = none) :=
  ⟨⟨around (catDev catOne), 1, by decide⟩,
  ⟨around (catDev catOne), 2, by decide⟩,
  ⟨around (catDev catOne), 3, by decide⟩,
  ⟨around (catDev catOne), 4194303, by decide⟩⟩

theorem test_CatalogueStorage_2 :
  (∃ (s : State) (_i : Fin 4194304), s.Runs) ∧
  (∃ (s : State) (i : Fin 4194304) (e : Dev) (r : ChanRec), s.Runs ∧ e = s.start.access rCAT_REC_CMD (2 ^ 29 + 2 ^ 28 + i.val) ∧
    r = chanOfImage (s.dev.recData 64) ∧ s.dev.catReady = true ∧ i.val < 262144 ∧ r.valid = true ∧ r.us = true ∧
    r.image = s.dev.recData 64 ∧ (e.catTry (e.chanChecks (i.val) r r.portId ++ [e.dirtyCheck [r.term] [] [i.val]])).fst = none) :=
  ⟨⟨around (catDev catOne), 4194303, by decide⟩,
  ⟨around recDev, 262143, ((around recDev).start.access rCAT_REC_CMD (2 ^ 29 + 2 ^ 28 + 262143)),
    chanOfImage (recDev.recData 64), by decide⟩⟩

theorem test_CatalogueStorage_3 :
  (∃ (s : State) (k : RecKind) (h : Fin 262144), s.Runs ∧ (s.dev.cacheOf k).contains h.val = true) ∧
  (∃ (s : State) (_k : RecKind) (h : Fin 262144), s.Runs ∧ (s.dev.chan h.val).valid = true) :=
  ⟨⟨around (catDev { catOne with lineC := [5, 262143, 7] }), .chan, 262143, by decide⟩,
  ⟨around (catDev { catOne with lineC := [5, 262143, 7] }), .chan, 3, by decide⟩⟩

theorem test_CatalogueStorage_4 :
  ∃ (s : State) (w : WbLine) (ws : List WbLine), s.Runs ∧ s.dev.cat.writing = w :: ws :=
  ⟨around (catDev { catOne with writing := [lineOf] }), lineOf, [], by decide⟩

theorem test_CatalogueStorage_5 :
  ∃ (s : State) (n : Fin 16) (val : Word), s.Runs ∧
    s.dev.quotaBreaks (n.val) RecKind.term (fieldOf (BitVec.toNat val) fCAT_TEN_TERM_QUOTA_MIN) (fieldOf (BitVec.toNat val) fCAT_TEN_TERM_QUOTA_MAX) = true :=
  ⟨around ((live.put (rCAT_TEN_TERM_USE 15) fCAT_TEN_TERM_USE_N 1).put (rCAT_TEN_TERM_QUOTA 15) fCAT_TEN_TERM_QUOTA_MAX 1), 15,
    0, by decide⟩

theorem test_CatalogueStorage_6 :
  ∃ (s : State) (n : Fin 16) (val : Word), s.Runs ∧
    s.dev.quotaBreaks (n.val) RecKind.term (fieldOf (BitVec.toNat val) fCAT_TEN_TERM_QUOTA_MIN) (fieldOf (BitVec.toNat val) fCAT_TEN_TERM_QUOTA_MAX) = false :=
  ⟨around (live.put (rCAT_TEN_TERM_USE 15) fCAT_TEN_TERM_USE_N 1), 15, 0x0001FFFF, by decide⟩

theorem test_CatalogueStorage_7 :
  (∃ (s : State) (_hi : Bool) (_val : Word), s.Runs ∧ s.dev.catReady = false) ∧
  (∃ (s : State) (_hi : Bool) (_val : Word), s.Runs ∧ s.dev.catReady = true) :=
  ⟨⟨around live, true, 0xFFFFFFFF, by decide⟩,
  ⟨around (catDev { }), false, 0xFFFFFFFF, by decide⟩⟩

theorem test_CatalogueStorage_8 :
  ∃ (s : State), s.Runs ∧ s.dev.catReady = false :=
  ⟨around { live with cat := catOne }, by decide⟩

end Catalogue

namespace Ladle

def lb (n v : Nat) : List Nat := (List.range n).map (fun i => v / 256 ^ i % 256)

def bb (n v : Nat) : List Nat := (lb n v).reverse

def treeMode (k mode en : Nat) : Dev := (live.put (rTREE_LINE_CTRL k) fTREE_LINE_CTRL_MODE mode).put (rTREE_LINE_CTRL k) fTREE_LINE_CTRL_EN en

def iftDev (k e : Nat) (x : Ift) : Dev := { treeMode k 2 1 with ift := [(k * iftPerTree + e, x)] }

def coopDev : Dev :=
  { ((treeMode 47 2 1).put rLADLE_NOTICE_CTRL fLADLE_NOTICE_CTRL_EN 1).put rCAT_STATUS fCAT_STATUS_READY 1 with
    trees := [(47, { live := true })], act := [(1, { state := .operating })]
    cat := { terms := [(1, { valid := true, tree := 47, termId := 3, lineOpt := 7 })],
             allocs := [(2, { valid := true, tenant := 3, tree := 47, cls := 1, allocId := 16383, term := 1, maxRate := 1000000, minGrant := 64, interval := 1 })] } }

def srcDev (j : Nat) : Dev := (((coopDev.wrN (rLADLE_NSRC_MAC_LO j) 0x33445566).wrN (rLADLE_NSRC_W4 j) 0x1122).wrN (rLADLE_NSRC_W8 j) 0).put (rLADLE_NSRC_W8 j) fLADLE_NSRC_W8_TENANT 31

def src2 (j : Nat) : Dev := (srcDev j).wrN (rLADLE_NSRC_W8 j) (Nat.lor ((srcDev j).rdN (rLADLE_NSRC_W8 j)) 0x800000C0)

def startNs : Nat := 2 * 125000 + 1000

def startNs2 : Nat := startNs + 125000

def noticePdu : List Nat := bb 3 (live.get rLADLE_NOTICE_CTRL fLADLE_NOTICE_CTRL_OUI) ++ bb 2 1 ++ [1, 0, 1] ++ bb 4 77 ++ [47, 0] ++ bb 2 16383 ++ bb 4 1000 ++ bb 6 0 ++ bb 4 startNs2 ++ bb 4 10000 ++ bb 2 0

def noticeFrame : List Byte := (([1, 2, 3, 4, 5, 6, 0x11, 0x22, 0x33, 0x44, 0x55, 0x66, 0x88, 0xB7] ++ noticePdu).map (BitVec.ofNat 8))

def entOf : NoticeEntry := noticeEntryAt (noticePdu.map (BitVec.ofNat 8)) 0

def anCmd : Cmd := cmdOf 63 0x0306 (some 3) ([0, 0, 0, 0, 47, 0] ++ lb 2 16383 ++ lb 4 1000 ++ lb 6 0 ++ lb 4 startNs2 ++ lb 4 10000 ++ lb 2 0)

def anEnt : NoticeEntry := ⟨47, 16383, 1000, 0, startNs2, 10000⟩

def bestDev : Dev := { coopDev with cat := { allocs := [(2, { valid := true, tenant := 3, tree := 47, cls := 3, allocId := 16383, term := 1, maxRate := 1000000, minGrant := 64, interval := 1 })] } }

def adCmd : Cmd := cmdOf 63 0x0305 (some 3) ([47, 0] ++ lb 2 16383)

def nsCmd : Cmd := cmdOf 63 0x0307 none (lb 2 255 ++ [0, 0] ++ lb 4 0xFFFFFFFF ++ lb 4 0x8FFFFFFF ++ lb 4 0x800000C0)

def fixedDev : Dev := { treeMode 47 2 0 with cat := { allocs := [(2, { valid := true, tree := 47, cls := 0, allocId := 1024, fixedRate := 8000, minGrant := 64, interval := 1, term := 1 })] } }

def admCmd : Cmd := cmdOf 63 0x0108 none ([47, 0, 0, 0] ++ lb 4 0xFFFFFFFF)

def mapB : MapRec := ⟨1, [], [], [], [], [], [], [], 7, false, false, none, 0, false⟩

def iftRich : Ift := { used := true, term := 3, alloc := 65535, tick := 2^50, start := 5, section_ := 1048575, payload := 7 }

def msCmd : Cmd := cmdOf 63 0x0109 none [47, 0]

theorem test_DemandIsReportedAndNoticed_1 :
  (∃ (s : State) (k : Fin 48) (e : Fin 4096) (_bytes : Nat), s.Runs ∧ (s.dev.iftE (k.val * iftPerTree + e.val)).used = true ∧
    (s.dev.iftE (k.val * iftPerTree + e.val)).report = true) ∧
  (∃ (s : State) (k : Fin 48) (e : Fin 4096) (_bytes : Nat), s.Runs ∧ (s.dev.iftE (k.val * iftPerTree + e.val)).used = true ∧
    (s.dev.iftE (k.val * iftPerTree + e.val)).report = true) ∧
  (∃ (s : State) (k : Fin 48) (e : Fin 4096) (_bytes : Nat) (_good : Bool), s.Runs ∧
    (s.dev.iftE (k.val * iftPerTree + e.val)).used = true ∧ (s.dev.iftE (k.val * iftPerTree + e.val)).report = false) :=
  ⟨⟨around (iftDev 47 4095 { used := true, report := true, alloc := 65535, tick := 3 }), 47, 4095, 999, by decide⟩,
  ⟨around (iftDev 47 4095 { used := true, report := true, alloc := 65535, tick := 3 }), 47, 4095, 999, by decide⟩,
  ⟨around (iftDev 0 0 { used := true }), 0, 0, 999, true, by decide⟩⟩

theorem test_DemandIsReportedAndNoticed_2 :
  (∃ (s : State) (_lane : Fin 48) (_ns : Fin 125000) (_fabric : Bool) (f : List Byte), s.Runs ∧ s.dev.noticeAt f = none) ∧
  (∃ (s : State) (lane : Fin 48) (ns : Fin 125000) (fabric : Bool) (f : List Byte) (a : Nat) (len : Nat) (udp : Bool) (j : Nat) (p : List Byte) (x : NoticeEntry) (h : Nat),
    s.Runs ∧ s.dev.noticeAt f = some (a, len, udp) ∧ s.dev.noticeSource f (b2n fabric) lane.val = some j ∧ j < 256 ∧
    p = List.take len (List.drop a f) ∧ x = noticeEntryAt p 0 ∧ p.length = 36 ∧ byteAt p 5 = 1 ∧ byteAt p 6 = 0 ∧
    byteAt p 7 = 1 ∧ beAt p 3 2 = 1 ∧ s.dev.bit rLADLE_NOTICE_CTRL fLADLE_NOTICE_CTRL_EN = true ∧
    s.dev.bit (rLADLE_NSRC_W8 j) fLADLE_NSRC_W8_SEEN = false ∧ s.dev.findAlloc x.tree x.alloc = some h ∧
    s.dev.noticeCode (s.dev.get (rLADLE_NSRC_W8 j) fLADLE_NSRC_W8_TENANT) false (instant s.dev.tickNow ns.val) x = 0) :=
  ⟨⟨around live, 47, 124999, true, [1, 2, 3], by decide⟩,
  ⟨around (src2 1), 47, 100, true, noticeFrame, 14, 36, false, 1, noticePdu.map (BitVec.ofNat 8), entOf, 2, by decide⟩⟩

theorem test_DemandIsReportedAndNoticed_3 :
  ∃ (s : State) (m : Fin 64) (c : Cmd) (x : NoticeEntry) (h : Nat), s.Ready m 774 c ∧ c.u8 0 = 0 ∧ c.zero 1 3 = true ∧
    c.zero 5 1 = true ∧ c.zero 26 2 = true ∧ c.endsAt 28 = true ∧
    x = { tree := c.u8 4, alloc := c.u16 6, bytes := c.u32 8, sec := leAt c.req 12 6, ns := c.u32 18, len := c.u32 22 } ∧
    s.dev.findAlloc x.tree x.alloc = some h :=
  ⟨around (given coopDev anCmd), 63, anCmd, anEnt, 2, by decide⟩

theorem test_DemandIsReportedAndNoticed_4 :
  ∃ (s : State) (m : Fin 64) (c : Cmd) (h : Nat), s.Ready m 773 c ∧ s.dev.catReady = true ∧
    s.dev.findAlloc (c.u8 0) (c.u16 2) = some h ∧ (c.isOwner = true ∨ c.caller = some (s.dev.alloc h).tenant) ∧ c.u8 1 = 0 ∧
    c.endsAt 4 = true ∧ (s.dev.alloc h).cls = clsBest :=
  ⟨around (given bestDev adCmd), 63, adCmd, 2, by decide⟩

theorem test_DemandIsReportedAndNoticed_5 :
  (∃ (s : State) (_j : Fin 256) (_val : Word), s.Runs) ∧
  (∃ (s : State) (_j : Fin 256) (val : Word), s.Runs ∧ nbit (BitVec.toNat val) 31 = true) :=
  ⟨⟨around live, 255, 0xFFFFFFFF, by decide⟩,
  ⟨around (src2 255), 255, 0xFFFFFFFF, by decide⟩⟩

theorem test_DemandIsReportedAndNoticed_6 :
  ∃ (s : State) (m : Fin 64) (c : Cmd), s.Ready m 775 c ∧ c.isOwner = true ∧ c.u16 0 < 256 ∧ c.zero 2 2 = true ∧
    c.endsAt 16 = true ∧ badValue (rLADLE_NSRC_MAC_LO (c.u16 0) + 4) (c.u32 8) = false ∧
    badValue (rLADLE_NSRC_MAC_LO (c.u16 0) + 8) (c.u32 12) = false :=
  ⟨around (given live nsCmd), 63, nsCmd, by decide⟩

theorem test_MapsAreHeldAndAccounted_1 :
  (∃ (s : State) (k : Fin 48) (val : Word), s.Runs ∧ s.dev.treeOk k.val = true ∧
    s.dev.ladUsed (k.val) none ≤ s.dev.ladResolve (k.val) (fieldOf (BitVec.toNat val) fLADLE_ADMIT_LIMIT)) ∧
  (∃ (s : State) (k : Fin 48) (val : Word), s.Runs ∧ s.dev.treeOk k.val = true ∧
    s.dev.ladResolve (k.val) (fieldOf (BitVec.toNat val) fLADLE_ADMIT_LIMIT) < s.dev.ladUsed (k.val) none) :=
  ⟨⟨around (treeMode 47 2 0), 47, 0xFFFFFFFF, by decide⟩,
  ⟨around fixedDev, 47, 1, by decide⟩⟩

theorem test_MapsAreHeldAndAccounted_2 :
  ∃ (s : State) (m : Fin 64) (c : Cmd), s.Ready m 264 c ∧ c.isOwner = true ∧ s.dev.treeOk (c.u8 0) = true ∧ c.zero 1 3 = true ∧
    c.endsAt 8 = true ∧ c.u32 4 = 4294967295 :=
  ⟨around (given fixedDev admCmd), 63, admCmd, by decide⟩

theorem test_MapsAreHeldAndAccounted_3 :
  ∃ (s : State) (k : Fin 48) (_ns : Fin 125000) (_bad : Bool) (b : MapRec), s.Runs ∧ (s.dev.ladT k.val).building = some b ∧
    b.held = none :=
  ⟨around { treeMode 47 2 1 with ladTrees := [(47, { building := some mapB })] }, 47, 124999, true, mapB, by decide⟩

theorem test_MapsAreHeldAndAccounted_4 :
  ∃ (s : State) (k : Fin 48) (e : Fin 4096), s.Runs ∧ (s.dev.iftE (k.val * iftPerTree + e.val)).used = true ∧
    (s.dev.iftE (k.val * iftPerTree + e.val)).state = 0 ∧
    s.dev.iftEnd (k.val) (s.dev.iftE (k.val * iftPerTree + e.val)) + 1000 * max 2 (s.dev.get rLADLE_MAP_CTRL fLADLE_MAP_CTRL_STALE) < instant (s.dev.tickNow + 1) 0 :=
  ⟨around ((iftDev 47 4095 { used := true, term := 3 }).wr64 rTICK_COUNT_LO rTICK_COUNT_HI 11), 47, 4095, by decide⟩

theorem test_MapsAreHeldAndAccounted_5 :
  ∃ (s : State) (val : Word) (k : Nat) (e : Nat), s.Runs ∧ nbit (BitVec.toNat val) 31 = true ∧
    k = fieldOf (BitVec.toNat val) fLADLE_IFT_SEL_TREE ∧ e = fieldOf (BitVec.toNat val) fLADLE_IFT_SEL_ENTRY ∧
    s.dev.treeOk k = true :=
  ⟨around (iftDev 47 4095 iftRich),
    BitVec.ofNat 32 (2 ^ 31 + 47 * 2 ^ fLADLE_IFT_SEL_TREE.lo + 4095 * 2 ^ fLADLE_IFT_SEL_ENTRY.lo), 47, 4095, by decide⟩

theorem test_MapsAreHeldAndAccounted_6 :
  ∃ (s : State) (m : Fin 64) (c : Cmd), s.Ready m 265 c ∧ c.isOwner = true ∧ s.dev.treeOk (c.u8 0) = true ∧ c.u8 1 = 0 ∧
    c.endsAt 2 = true :=
  ⟨around (given { treeMode 47 2 1 with ladTrees := [(47, { lastMap := 9 })] } msCmd), 63, msCmd, by decide⟩

end Ladle

namespace Downstream

def lb (n v : Nat) : List Nat := (List.range n).map (fun i => v / 256 ^ i % 256)

def treeMode (k mode en : Nat) : Dev := (live.put (rTREE_LINE_CTRL k) fTREE_LINE_CTRL_MODE mode).put (rTREE_LINE_CTRL k) fTREE_LINE_CTRL_EN en

def frameDev (k mode : Nat) : Dev := { (treeMode k mode 1).put (rTREE_LINE_STATUS k) fTREE_LINE_STATUS_FRAMING 1 with trees := [(k, { live := true })] }

def pktA : Pkt := ⟨List.replicate 60 1, 3, 0, none, 0, false, none, 0, []⟩

def bufA : Buf := ⟨0, 0, 0, 512, 0, 0, 3⟩

def heldA : Held := { pkt := pktA, buf := some bufA, ent := 0, ten := 3, tick := 0, ns := 100 }

def chanDev : Dev :=
  { (frameDev 0 2).put (rDSQ_TREE_CTRL 0) fDSQ_TREE_CTRL_MAX_AGE 0 with
    chanQ := [(9, [heldA, heldA])], act := [(1, { state := .operating })]
    cat := { terms := [(1, { valid := true, tree := 0 })], chans := [(9, { valid := true, ds := true, tenant := 3, term := 1, portId := 65533, dsWeight := 1 })] } }

def gateDev : Dev :=
  { (live.put (rDSQ_GATE_CYCLE 47) fDSQ_GATE_CYCLE_CYCLE 1000).wr64 (rDSQ_GATE_CHANGE_LO 47) (rDSQ_GATE_CHANGE_HI 47) 500000 with
    ds := { gates := [(47, { pend := [(0, 1000)], active := some ⟨5, 6, []⟩, armed := some (⟨5, 6, []⟩, 0, 5) })] } }

def tick0 : GateList := ⟨5, 6, []⟩

def tgQ : Cmd := cmdOf 63 0x010C none [47, 1]

def tgA : Cmd := cmdOf 63 0x010C none [47, 2]

def tenDev : Dev := (treeMode 47 2 0).put (rDSQ_TEN_CIR 47 0) fDSQ_TEN_CIR_RATE 5000

def dcCmd : Cmd := cmdOf 63 0x010A none ([47, 0, 255, 0] ++ lb 4 0xFFFFFFFF)

def dtCmd : Cmd := cmdOf 63 0x010B none ([47, 31, 1, 0] ++ lb 10 0)

def sampDev : Dev := { chanDev.put rCAT_STATUS fCAT_STATUS_READY 1 with cat := { chanDev.cat with portMap := [(65533, some 9)] }, ds := { latch := ⟨7, [(9, 120, 2, 55)]⟩, before := ⟨6, [(9, 60, 1, 44)]⟩ } }

def csCmd : Cmd := cmdOf 63 0x0405 (some 3) ([0, 0] ++ lb 2 65533)

def histDev : Dev := { live with ds := { hist := [(63, [1, 2])] } }

def hCmd : Cmd := cmdOf 63 0x010D none ([63, 1, 0, 0] ++ lb 4 0x8003FFFF ++ lb 2 65535)

def hCmd0 : Cmd := cmdOf 63 0x010D none ([63, 0, 0, 0] ++ lb 4 0 ++ lb 2 65535)

theorem test_TheFrameIsFilledByChoices_1 :
  (∃ (s : State) (k : Fin 48) (fs : Fin 1313216) (_next : Fin 1313216) (_ecc : Fin 3), s.Runs ∧ s.dev.framing k.val = true ∧
    fs.val < fsBytes (s.dev.mode k.val) ∧ s.dev.partOf k.val = none ∧ s.dev.gateEn (GateOwner.tree k) = false ∧
    s.dev.bit rPIN_STATUS fPIN_STATUS_THERM_TRIP = false ∧ s.dev.dsChans k.val = []) ∧
  (∃ (s : State) (k : Fin 48) (fs : Fin 1313216) (_next : Fin 1313216) (_ecc : Fin 3) (c : Nat) (h : Held) (hs : List Held) (b : Buf),
    s.Runs ∧ s.dev.framing k.val = true ∧ fs.val < fsBytes (s.dev.mode k.val) ∧ s.dev.partOf k.val = none ∧
    s.dev.gateEn (GateOwner.tree k) = false ∧ s.dev.bit rPIN_STATUS fPIN_STATUS_THERM_TRIP = false ∧ s.dev.dsChans k.val = [c] ∧
    s.dev.chQ c = h :: hs ∧ h.sent = 0 ∧ h.buf = some b ∧ h.tag = none ∧ s.dev.stateOf (s.dev.chan c).term = TState.operating ∧
    s.dev.get (rDSQ_TREE_CTRL k.val) fDSQ_TREE_CTRL_MAX_AGE = 0 ∧ (s.dev.chan c).encrypt = false ∧ (s.dev.chan c).dsCir = 0 ∧
    (s.dev.chan c).dsPir = 0 ∧ s.dev.tenPir (k.val) (nodeTenant (s.dev.chan c).tenant) = 0 ∧
    xgemLen h.pkt.bytes.length ≤ fsBytes (s.dev.mode k.val) - fs.val) :=
  ⟨⟨around (frameDev 47 0), 47, 135431, 0, 0, by decide⟩,
  ⟨around chanDev, 0, 1313147, 0, 2, 9, heldA, [heldA], bufA, by decide⟩⟩

theorem test_TheFrameIsFilledByChoices_2 :
  (∃ (s : State) (g : GateOwner) (len : Fin 512) (e : Dev), s.Runs ∧ s.dev.gateOk g = true ∧ e = s.start.gateCmd g len.val ∧
    e.pendingOk g = true) ∧
  (∃ (s : State) (g : GateOwner) (len : Fin 512) (e : Dev), s.Runs ∧ s.dev.gateOk g = true ∧ e = s.start.gateCmd g len.val ∧
    e.pendingOk g = false) ∧
  (∃ (s : State) (g : GateOwner) (len : Fin 512) (e : Dev), s.Runs ∧ s.dev.gateOk g = true ∧ e = s.start.gateCmd g len.val) :=
  ⟨⟨around gateDev, .tree 47, 1, ((around gateDev).start.gateCmd (.tree 47) 1), by decide⟩,
  ⟨around gateDev, .tree 47, 511, ((around gateDev).start.gateCmd (.tree 47) 511), by decide⟩,
  ⟨around gateDev, .tree 47, 0, ((around gateDev).start.gateCmd (.tree 47) 0), by decide⟩⟩

theorem test_TheFrameIsFilledByChoices_3 :
  ∃ (s : State) (g : GateOwner) (l : GateList) (tick : Nat) (ns : Nat), s.Runs ∧ (s.dev.gateX (gateKey g)).armed = some (l, tick,
    ns) ∧ tick ≤ s.dev.tickNow :=
  ⟨around gateDev, .tree 47, tick0, 0, 5, by decide⟩

theorem test_TheFrameIsFilledByChoices_4 :
  (∃ (s : State) (m : Fin 64) (c : Cmd) (k : Fin 48), s.Ready m 268 c ∧ c.isOwner = true ∧ s.dev.treeOk (c.u8 0) = true ∧
    k.val = c.u8 0 ∧ c.u8 1 = 1) ∧
  (∃ (s : State) (m : Fin 64) (c : Cmd), s.Ready m 268 c ∧ c.isOwner = true ∧ s.dev.treeOk (c.u8 0) = true ∧ c.u8 1 = 2) :=
  ⟨⟨around (given gateDev tgQ), 63, tgQ, 47, by decide⟩,
  ⟨around (given gateDev tgA), 63, tgA, by decide⟩⟩

theorem test_DownstreamIsAdmittedAndSampled_1 :
  (∃ (s : State) (k : Fin 48) (n : Fin 17) (val : Word) (bad : Bool × Bool), s.Runs ∧ s.dev.treeOk k.val = true ∧
    bad = s.dev.dsTenBad (k.val) (regNode n.val) (fieldOf (BitVec.toNat val) fDSQ_TEN_CIR_RATE) (s.dev.tenPir (k.val) (regNode n.val)) (s.dev.tenWeight (k.val) (regNode n.val)) ∧
    bad = (false, false)) ∧
  (∃ (s : State) (k : Fin 48) (n : Fin 17) (val : Word) (bad : Bool × Bool), s.Runs ∧ s.dev.treeOk k.val = true ∧
    bad = s.dev.dsTenBad (k.val) (regNode n.val) (fieldOf (BitVec.toNat val) fDSQ_TEN_CIR_RATE) (s.dev.tenPir (k.val) (regNode n.val)) (s.dev.tenWeight (k.val) (regNode n.val)) ∧
    (bad.fst = true ∨ bad.snd = true)) :=
  ⟨⟨around (treeMode 47 2 0), 47, 16, BitVec.ofNat 32 ((treeMode 47 2 0).dsLimit 47),
    ((treeMode 47 2 0).dsTenBad 47 31 ((treeMode 47 2 0).dsLimit 47) 0 1), by decide⟩,
  ⟨around (treeMode 47 2 0), 47, 15, BitVec.ofNat 32 ((treeMode 47 2 0).dsLimit 47 + 1),
    ((treeMode 47 2 0).dsTenBad 47 15 ((treeMode 47 2 0).dsLimit 47 + 1) 0 1), by decide⟩⟩

theorem test_DownstreamIsAdmittedAndSampled_2 :
  (∃ (s : State) (k : Fin 48) (val : Word), s.Runs ∧ s.dev.treeOk k.val = true ∧
    s.dev.dsUsed k.val ≤ s.dev.dsResolve (k.val) (fieldOf (BitVec.toNat val) fDSQ_ADMIT_LIMIT)) ∧
  (∃ (s : State) (k : Fin 48) (val : Word), s.Runs ∧ s.dev.treeOk k.val = true ∧
    s.dev.dsResolve (k.val) (fieldOf (BitVec.toNat val) fDSQ_ADMIT_LIMIT) < s.dev.dsUsed k.val) :=
  ⟨⟨around tenDev, 47, 5000, by decide⟩,
  ⟨around tenDev, 47, 4999, by decide⟩⟩

theorem test_DownstreamIsAdmittedAndSampled_3 :
  ∃ (s : State) (m : Fin 64) (c : Cmd), s.Ready m 266 c ∧ c.isOwner = true ∧ s.dev.treeOk (c.u8 0) = true ∧ c.u8 1 = 0 ∧
    c.zero 3 1 = true ∧ c.endsAt 8 = true ∧ c.u32 4 = 4294967295 :=
  ⟨around (given tenDev dcCmd), 63, dcCmd, by decide⟩

theorem test_DownstreamIsAdmittedAndSampled_4 :
  ∃ (s : State) (m : Fin 64) (c : Cmd), s.Ready m 267 c ∧ c.isOwner = true ∧ s.dev.treeOk (c.u8 0) = true ∧ (c.u8 1 < 16 ∨
    c.u8 1 = 31) ∧ c.u8 2 = 1 ∧ c.zero 3 1 = true ∧ c.endsAt 14 = true :=
  ⟨around (given tenDev dtCmd), 63, dtCmd, by decide⟩

theorem test_DownstreamIsAdmittedAndSampled_5 :
  ∃ (s : State) (_c : Fin 262144), s.Runs :=
  ⟨around sampDev, 9, by decide⟩

theorem test_DownstreamIsAdmittedAndSampled_6 :
  ∃ (s : State) (m : Fin 64) (c : Cmd) (h : Nat), s.Ready m 1029 c ∧ s.dev.catReady = true ∧
    s.dev.findChan (c.u8 0) (c.u16 2) = some h ∧ (c.isOwner = true ∨ c.caller = some (s.dev.chan h).tenant) ∧
    c.nameForm s.dev = true ∧ c.u8 1 = 0 :=
  ⟨around (given sampDev csCmd), 63, csCmd, 9, by decide⟩

theorem test_DownstreamIsAdmittedAndSampled_7 :
  ∃ (s : State) (_h : Fin 64) (val : Word), s.Runs ∧ nbit (BitVec.toNat val) 0 = true :=
  ⟨around live, 63, 0xFFFFFFFF, by decide⟩

theorem test_DownstreamIsAdmittedAndSampled_8 :
  ∃ (s : State) (_h : Fin 64) (_val : Word), s.Runs :=
  ⟨around histDev, 63, 0xFFFFFFFF, by decide⟩

theorem test_DownstreamIsAdmittedAndSampled_9 :
  (∃ (s : State) (m : Fin 64) (c : Cmd), s.Ready m 269 c ∧ c.isOwner = true ∧ c.u8 0 < 64 ∧ c.zero 2 2 = true ∧
    c.endsAt 10 = true ∧ c.u8 1 = 1 ∧ badValue (rDSQ_HIST_CFG (c.u8 0)) (c.u32 4) = false) ∧
  (∃ (s : State) (m : Fin 64) (c : Cmd), s.Ready m 269 c ∧ c.isOwner = true ∧ c.u8 0 < 64 ∧ c.zero 2 2 = true ∧
    c.endsAt 10 = true ∧ c.u8 1 = 0) :=
  ⟨⟨around (given histDev hCmd), 63, hCmd, by decide⟩,
  ⟨around (given histDev hCmd0), 63, hCmd0, by decide⟩⟩

end Downstream

namespace Cipher

def lb (n v : Nat) : List Nat := (List.range n).map (fun i => v / 256 ^ i % 256)

def bb (n v : Nat) : List Nat := (lb n v).reverse

def ciphDev : Dev := { live.put rCIPH_STATUS fCIPH_STATUS_STATE 1 with cat := { terms := [(16383, { valid := true, tree := 47, termId := 1019, tenant := 15, keyIndex := 16383, key256 := true })] } }

/-- The base point of P-384. -/
def pointG : List Nat := 4 :: bb 48 0xaa87ca22be8b05378eb1c71ef320ad746e1d3b628ba79b9859f741e082542a385502f25dbf55296c3a545e3872760ab7 ++ bb 48 0x3617de4a96262c6f5d9e98bf9292dc29f8f41dbd289a147ce9da3113b5f0b8c00a60b1ce1d7e819d7a431d7c90ea0e5f

def ksCmd : Cmd := cmdOf 63 0x0801 none ([0, 9, 0, 0] ++ List.replicate 16 7 ++ pointG)

def sess (n : Nat) (who : Option Nat) : Session := ⟨n, who, [1, 2], 5, 0⟩

def sessDev : Dev := { ciphDev with ciph := { sessions := [sess 31 none, sess 0 (some 15)] } }

def kcCmd : Cmd := cmdOf 63 0x0801 (some 15) [1, 0, 0, 0]

def certCmd : Cmd := cmdOf 63 0x0802 (some 15) [0]

def kiCmd : Cmd := cmdOf 63 0x0803 none ([47, 2] ++ lb 2 1019 ++ [31, 1, 0, 0] ++ bb 4 5 ++ lb 4 0 ++ lb 8 0xFFFFFFFFFFFFFFFF ++ lb 8 0 ++ lb 32 5 ++ lb 16 6)

def kstCmd : Cmd := cmdOf 63 0x0804 (some 15) ([47, 0] ++ lb 2 1019)

def keyDev : Dev := { ciphDev with ciph := { keys := [(16383, { s1 := { installed := true, aes256 := true, count := 2 ^ 64 - 1 }, s2 := { installed := true, aes256 := true, count := 8, pending := some 5 }, cur := 1 })] } }

def saCmd (v : Nat) : Cmd := cmdOf 63 0x0805 none ([1, 5] ++ lb 2 511 ++ [31, v, 3, 0] ++ bb 4 5 ++ lb 4 0 ++ bb 8 77 ++ bb 4 8 ++ lb 4 0 ++ lb 8 9 ++ lb 4 64 ++ lb 4 0 ++ lb 12 3 ++ lb 4 0 ++ lb 32 4 ++ lb 16 5)

def testDev (e : Nat) : Dev := { ciphDev.put rCIPH_TEST fCIPH_TEST_BUSY 1 with ciph := { tests := [⟨e, false, none, [], 0, 0, false⟩] } }

def kstest : Cmd := cmdOf 63 0x0806 none [137]

def kz : Cmd := cmdOf 63 0x0807 none [0x5A]

def tampDev : Dev := sessDev.wrN rSEC_TAMPER_CTRL 0xFFFFFFFF

theorem test_KeysAreInstalledAndSeen_1 :
  ∃ (s : State) (m : Fin 64) (c : Cmd) (n : Nat), s.Ready m 2049 c ∧ c.isOwner = true ∧ c.u8 0 = 0 ∧ c.zero 2 2 = true ∧
    c.endsAt 117 = true ∧ s.dev.wrapReady = true ∧ onP384 (slice c.req 20 97) = true ∧
    List.find? (fun (n : Nat) => !s.dev.ciph.sessions.any fun (x : Session) => x.num == n) (List.range 32) = some n :=
  ⟨around (given ciphDev ksCmd), 63, ksCmd, 0, by decide⟩

theorem test_KeysAreInstalledAndSeen_2 :
  ∃ (s : State) (m : Fin 64) (c : Cmd), s.Ready m 2049 c ∧ c.u8 0 = 1 ∧ c.zero 2 2 = true ∧ c.endsAt 117 = true ∧
    s.dev.sessionOf c.caller (c.u8 1) ≠ none :=
  ⟨around (given sessDev kcCmd), 63, kcCmd, by decide⟩

theorem test_KeysAreInstalledAndSeen_3 :
  ∃ (s : State) (m : Fin 64) (c : Cmd), s.Ready m 2050 c ∧ c.endsAt 0 = true :=
  ⟨around (given live certCmd), 63, certCmd, by decide⟩

theorem test_KeysAreInstalledAndSeen_4 :
  ∃ (s : State) (m : Fin 64) (c : Cmd) (h : Nat) (x : Session) (u : Option (List Byte)), s.Ready m 2051 c ∧ c.isOwner = true ∧
    s.dev.findTerm (c.u8 0) (c.u16 2) = some h ∧ s.dev.sessionOf c.caller (c.u8 4) = some x ∧ s.dev.wrapReady = true ∧
    (c.u8 1 = 1 ∨ c.u8 1 = 2) ∧ c.u8 5 = 1 ∧ c.zero 6 2 = true ∧ c.zero 12 4 = true ∧ c.u8 24 = 0 ∧ c.zero 25 7 = true ∧
    c.endsAt 80 = true ∧ (∀ (e : Nat × TermRec), e ∈ s.dev.cat.terms → e.snd.valid = true →
    e.snd.keyIndex = (s.dev.term h).keyIndex → e.fst = h) ∧ (s.dev.term h).key256 = true ∧
    (s.dev.keyEnt (s.dev.term h).keyIndex).cur ≠ c.u8 1 ∧
    u = (s.start.unwrap x (slice c.req 8 4) (slice c.req 0 32) (slice c.req 32 32) (slice c.req 64 16) 0).fst :=
  ⟨around (given sessDev kiCmd), 63, kiCmd, 16383, sess 31 none,
    (((around (given sessDev kiCmd)).start.unwrap (sess 31 none) (slice kiCmd.req 8 4) (slice kiCmd.req 0 0x20) (slice kiCmd.req 0x20 32) (slice kiCmd.req 0x40 16) 0).1),
    by decide, by decide, by decide, by decide, by decide, by decide, by decide, by decide, by decide, by decide, by decide,
    by decide, by decide, by decide, by decide, rfl⟩

theorem test_KeysAreInstalledAndSeen_5 :
  ∃ (s : State) (m : Fin 64) (c : Cmd) (h : Nat) (k : KeyEnt), s.Ready m 2052 c ∧ s.dev.findTerm (c.u8 0) (c.u16 2) = some h ∧
    (c.isOwner = true ∨ c.caller = some (s.dev.term h).tenant) ∧ c.u8 1 = 0 ∧ c.endsAt 4 = true ∧
    k = s.dev.keyEnt (s.dev.term h).keyIndex :=
  ⟨around (given sessDev kstCmd), 63, kstCmd, 16383, (sessDev.keyEnt 16383), by decide⟩

theorem test_KeysAreInstalledAndSeen_6 :
  ∃ (s : State) (_i : Fin 16384) (_n : Fin 2), s.Runs :=
  ⟨around keyDev, 16383, 0, by decide⟩

theorem test_KeysAreInstalledAndSeen_7 :
  (∃ (s : State) (m : Fin 64) (c : Cmd) (k : Nat), s.Ready m 2053 c ∧ c.isOwner = true ∧ s.dev.ciphNormal = true ∧
    s.dev.ciph.zeroing = false ∧ c.u8 0 < 2 ∧ c.u8 1 < 6 ∧ c.u16 2 < 512 ∧ c.u8 6 < 4 ∧ c.zero 7 1 = true ∧ c.zero 12 4 = true ∧
    c.zero 28 4 = true ∧ c.zero 44 4 = true ∧ c.zero 60 4 = true ∧ k = saKey (c.u8 0) (c.u8 1) (c.u16 2) ∧
    ((s.dev.saEnt k).valid = true → (s.dev.saEnt k).used = false) ∧ c.u8 5 = 0) ∧
  (∃ (s : State) (m : Fin 64) (c : Cmd) (k : Nat) (x : Session) (u : Option (List Byte)), s.Ready m 2053 c ∧ c.isOwner = true ∧
    s.dev.ciphNormal = true ∧ s.dev.ciph.zeroing = false ∧ c.u8 0 < 2 ∧ c.u8 1 < 6 ∧ c.u16 2 < 512 ∧ c.u8 6 < 4 ∧
    c.zero 7 1 = true ∧ c.zero 12 4 = true ∧ c.zero 28 4 = true ∧ c.zero 44 4 = true ∧ c.zero 60 4 = true ∧
    k = saKey (c.u8 0) (c.u8 1) (c.u16 2) ∧ ((s.dev.saEnt k).valid = true → (s.dev.saEnt k).used = false) ∧ c.u8 5 = 3 ∧
    s.dev.wrapReady = true ∧ c.endsAt 112 = true ∧ s.dev.sessionOf c.caller (c.u8 4) = some x ∧
    u = (s.start.unwrap x (slice c.req 8 4) (slice c.req 0 64) (slice c.req 64 32) (slice c.req 96 16) 0).fst) :=
  ⟨⟨around (given { sessDev with ciph := { sessDev.ciph with sas := [(saKey 1 5 511, { valid := true, pn := 4 })] } } (saCmd 0)),
    63, saCmd 0, saKey 1 5 511, by decide⟩,
  ⟨around (given sessDev (saCmd 3)), 63, saCmd 3, saKey 1 5 511, sess 31 none,
    (((around (given sessDev (saCmd 3))).start.unwrap (sess 31 none) (slice (saCmd 3).req 8 4) (slice (saCmd 3).req 0 0x40) (slice (saCmd 3).req 0x40 32) (slice (saCmd 3).req 0x60 16) 0).1),
    by decide +kernel, by decide +kernel, by decide +kernel, by decide +kernel, by decide +kernel, by decide +kernel,
    by decide +kernel, by decide +kernel, by decide +kernel, by decide +kernel, by decide +kernel, by decide +kernel,
    by decide +kernel, by decide +kernel, by decide +kernel, by decide +kernel, by decide +kernel, by decide +kernel,
    by decide +kernel, rfl⟩⟩

theorem test_EnginesAreTestedAndKeysErased_1 :
  (∃ (s : State) (e : Fin 141), s.Runs ∧ s.dev.fenced e.val = false) ∧
  (∃ (s : State) (e : Fin 141), s.Runs ∧ s.dev.fenced e.val = true) :=
  ⟨⟨around ciphDev, 140, by decide⟩,
  ⟨around (ciphDev.setFenced 140 1), 140, by decide⟩⟩

theorem test_EnginesAreTestedAndKeysErased_2 :
  (∃ (s : State) (e : Fin 256), s.Runs ∧ s.dev.bit rCIPH_TEST fCIPH_TEST_BUSY = false ∧ e.val ≤ 137 ∧
    s.dev.underTest e.val = false ∧ s.dev.testable e.val = true) ∧
  (∃ (s : State) (e : Fin 256), s.Runs ∧ s.dev.bit rCIPH_TEST fCIPH_TEST_BUSY = false ∧ e.val ≤ 137 ∧
    s.dev.underTest e.val = false ∧ s.dev.testable e.val = false) :=
  ⟨⟨around ciphDev, 137, by decide⟩,
  ⟨around (ciphDev.setFenced 140 1), 135, by decide⟩⟩

theorem test_EnginesAreTestedAndKeysErased_3 :
  ∃ (s : State) (e : Fin 141) (_pass : Bool), s.Runs ∧
    s.dev.ciph.tests = [{ engine := e.val, recovery := false, mbx := none, rest := [], tested := 0, failed := 0, busy := false }] :=
  ⟨around (testDev 137), 137, true, by decide⟩

theorem test_EnginesAreTestedAndKeysErased_4 :
  ∃ (s : State) (i : Fin 5) (j : Fin 32) (val : Word), s.Runs ∧ BitVec.toNat val = 2 ^ j.val ∧
    s.dev.fenced (32 * i.val + j.val) = true ∧ s.dev.underTest (32 * i.val + j.val) = false :=
  ⟨around (ciphDev.setFenced 140 1), 4, 12, 4096, by decide⟩

theorem test_EnginesAreTestedAndKeysErased_5 :
  ∃ (s : State) (m : Fin 64) (c : Cmd), s.Ready m 2054 c ∧ c.isOwner = true ∧ c.u8 0 < 138 ∧ c.endsAt 1 = true ∧
    s.dev.bit rCIPH_TEST fCIPH_TEST_BUSY = false ∧ s.dev.testable (c.u8 0) = true :=
  ⟨around (given ciphDev kstest), 63, kstest, by decide⟩

theorem test_EnginesAreTestedAndKeysErased_6 :
  ∃ (s : State) (m : Fin 64) (c : Cmd), s.Ready m 2055 c ∧ c.isOwner = true ∧ c.u8 0 = 90 ∧ c.endsAt 1 = true ∧
    s.dev.ciph.zeroing = false :=
  ⟨around (given sessDev kz), 63, kz, by decide⟩

theorem test_EnginesAreTestedAndKeysErased_7 :
  (∃ (s : State) (k : Fin 4), s.Runs ∧ s.dev.cipherOff = false ∧ nbit (s.dev.rdN rSEC_TAMPER_CTRL) (8 * k.val + 7) = true) ∧
  (∃ (s : State) (_k : Fin 4), s.Runs ∧ s.dev.cipherOff = false) ∧
  (∃ (s : State), s.Runs ∧ s.dev.cipherOff = false) ∧
  (∃ (s : State) (val : Word), s.Runs ∧ s.dev.cipherOff = false ∧ val ≠ 90) :=
  ⟨⟨around tampDev, 3, by decide⟩,
  ⟨around tampDev, 3, by decide⟩,
  ⟨around tampDev, by decide⟩,
  ⟨around tampDev, 0x15A, by decide⟩⟩

theorem test_EnginesAreTestedAndKeysErased_8 :
  ∃ (s : State), s.dev.ciph.zeroing = true :=
  ⟨around { tampDev with ciph := { tampDev.ciph with zeroing := true } }, by decide⟩

end Cipher

namespace Colander

def lb (n v : Nat) : List Nat := (List.range n).map (fun i => v / 256 ^ i % 256)

def nb (l : List Nat) : List Byte := l.map (BitVec.ofNat 8)

/-- A rule that matches every key, with the OPS byte given. -/
def ruleOf (flags ops : Nat) : List Byte := List.replicate 128 0#8 ++ [BitVec.ofNat 8 flags, BitVec.ofNat 8 ops] ++ List.replicate 30 0#8

def frame64 : List Byte := nb ([1, 2, 3, 4, 5, 6, 7, 8, 9, 10, 11, 12, 8, 0, 0x45, 0, 0, 46] ++ List.replicate 46 0)

def colPkt (p : Nat) : ColPkt := { pkt := ⟨frame64, 3, 9, none, 0, false, none, 0, []⟩, slot := 3, pass := p, recirc := false }

def colDev (ops p : Nat) : Dev :=
  { live.put rCOL_CTRL fCOL_CTRL_MAX_PASS 2 with col := { queue := [colPkt p, colPkt 0], slot3 := { state := 2, defFlags := false, ruleCount := 16384, rules := [(16383, ruleOf 0x80 ops)], inflight := 2 } } }

def walkOf : Walk :=
  { data := frame64.take 60, padded := true, off := 34, next := .stop, opens := false,
    levels := [{ start := 0, first := .eth, l3 := 1, vlans := 0, outer := 0, inner := 0, ether := 2048, hasEth := true, dmac := 1108152157446, smac := 7731092785932, src := 0, dst := 0, proto := 0, tclass := 0, sport := 0, dport := 0, tcpFlags := 0, mpls := 0, exts := 0 }] }

def keysOf (p : Nat) : List (List Byte) := [nb ([9, 3, 0, 64, 0, 0, 0, 0, 0, 0, 8, 0, 1, 2, 3, 4, 5, 6, 7, 8, 9, 10, 11, 12] ++ List.replicate 39 0 ++ [p])]

def stg : Staging := ⟨[(16383, ruleOf 0x80 1)], [(65535, List.replicate 16 1#8)]⟩

def stgDev (w : List Byte) : Dev := (List.range (w.length / 4)).foldl (fun d i => d.wrN (rCOL_STAGE_DATA i) (leAt w (4 * i) 4)) { live with col := { staging := some stg } }

def openCmd : Cmd := cmdOf 63 0x0501 none [0]

def ewCmd : Cmd := cmdOf 63 0x0502 none ([1, 1] ++ lb 4 65535 ++ List.replicate 16 0)

def stgS : Staging := ⟨[(0, ruleOf 0x80 1)], [(0, List.replicate 16 0#8)]⟩

def ecCmd : Cmd := cmdOf 63 0x0503 none ([2, 0, 0, 0] ++ lb 4 1 ++ lb 4 1 ++ lb 4 0 ++ lb 8 5 ++ lb 16 0)

def reqQ : CommitReq := ⟨false, 1, 1, 0, 5, 0⟩

def comDev : Dev := { live with col := { staging := some stgS, highest := 4 } }

def eaCmd (k : Nat) : Cmd := cmdOf 63 0x0504 none [k]

def esCmd : Cmd := cmdOf 63 0x0505 none []

def exCmd : Cmd := cmdOf 63 0x0506 none ([15, 1, 0, 0] ++ lb 4 0xFFFFFF ++ lb 2 65535)

def emCmd : Cmd := cmdOf 63 0x0507 none ([15, 0xC0, 0, 0] ++ lb 4 0xFFFFFF ++ lb 2 65535 ++ lb 2 65535)

theorem test_PacketsPassTheColander_1 :
  ∃ (s : State), s.Runs ∧ s.dev.col.queue = [] :=
  ⟨around live, by decide⟩

theorem test_PacketsPassTheColander_2 :
  (∃ (s : State) (c : ColPkt) (rest : List ColPkt) (w : Walk) (keys : List (List Byte)) (i : Nat) (rule : List Byte), s.Runs ∧
    s.dev.col.queue = c :: rest ∧ w = parseFrame s.dev.parseCfg c.pkt.bytes c.first ∧
    keys = List.map (levelKey (leB 1 c.pkt.src ++ leB 1 c.pkt.tenant ++ leB 1 (w.flags c.pkt.yellow c.recirc)) (w.levels.length - 1) c.pkt.metaV c.pass) w.levels.reverse ∧
    (s.dev.ed c.slot).defFlags = false ∧ (s.dev.ed c.slot).firstRule keys = some (i, rule) ∧ byteAt rule 129 = 1) ∧
  (∃ (s : State) (c : ColPkt) (rest : List ColPkt) (w : Walk) (keys : List (List Byte)) (i : Nat) (rule : List Byte), s.Runs ∧
    s.dev.col.queue = c :: rest ∧ w = parseFrame s.dev.parseCfg c.pkt.bytes c.first ∧
    keys = List.map (levelKey (leB 1 c.pkt.src ++ leB 1 c.pkt.tenant ++ leB 1 (w.flags c.pkt.yellow c.recirc)) (w.levels.length - 1) c.pkt.metaV c.pass) w.levels.reverse ∧
    (s.dev.ed c.slot).defFlags = false ∧ (s.dev.ed c.slot).firstRule keys = some (i, rule) ∧ byteAt rule 129 = 8 ∧
    c.pass + 1 < s.dev.maxPass) :=
  ⟨⟨around (colDev 1 3), colPkt 3, [colPkt 0], walkOf, keysOf 3, 16383, ruleOf 0x80 1, by decide +kernel⟩,
  ⟨around (colDev 8 0), colPkt 0, [colPkt 0], walkOf, keysOf 0, 16383, ruleOf 0x80 8, by decide +kernel⟩⟩

theorem test_PacketsPassTheColander_3 :
  (∃ (s : State) (_kind : Fin 2) (_i : Fin 131072), s.Runs ∧ s.dev.col.staging = none) ∧
  (∃ (s : State) (_kind : Fin 2) (_i : Fin 131072), s.Runs ∧ s.dev.col.staging = none) ∧
  (∃ (s : State) (kind : Fin 2) (i : Fin 131072) (st : Staging) (r : Nat), s.Runs ∧ s.dev.col.staging = some st ∧
    r = entryReason (kind.val) (i.val) (s.dev.stageData (entrySize kind.val)) ∧ i.val < entryLimit kind.val) ∧
  (∃ (s : State) (kind : Fin 2) (i : Fin 131072) (st : Staging) (r : Nat), s.Runs ∧ s.dev.col.staging = some st ∧
    r = entryReason (kind.val) (i.val) (s.dev.stageData (entrySize kind.val)) ∧ r = 0) ∧
  (∃ (s : State) (kind : Fin 2) (i : Fin 131072) (st : Staging) (r : Nat), s.Runs ∧ s.dev.col.staging = some st ∧
    r = entryReason (kind.val) (i.val) (s.dev.stageData (entrySize kind.val)) ∧ r ≠ 0) :=
  ⟨⟨around live, 1, 131071, by decide⟩,
  ⟨around live, 0, 131071, by decide⟩,
  ⟨around (stgDev []), 1, 65535, stg, 0, by decide⟩,
  ⟨around (stgDev []), 1, 65535, stg, 0, by decide⟩,
  ⟨around (stgDev []), 0, 16384, stg, 1, by decide⟩⟩

theorem test_EditionsAreStagedAndCommitted_1 :
  ∃ (s : State) (m : Fin 64) (c : Cmd), c.isOwner = true ∧ s.Ready m 1281 c ∧ c.u8 0 = 0 ∧ c.endsAt 1 = true ∧
    s.dev.col.staging = none :=
  ⟨around (given live openCmd), 63, openCmd, by decide⟩

theorem test_EditionsAreStagedAndCommitted_2 :
  ∃ (s : State) (m : Fin 64) (c : Cmd) (st : Staging), c.isOwner = true ∧ s.Ready m 1282 c ∧ s.dev.col.staging = some st ∧
    c.u8 0 < 2 ∧ c.u8 1 = 1 ∧ 6 + entrySize (c.u8 0) ≤ c.req.length ∧ c.endsAt (6 + entrySize (c.u8 0)) = true ∧
    entryReason (c.u8 0) (leAt c.req 2 4) (slice c.req 6 (entrySize (c.u8 0))) = 0 :=
  ⟨around (given (stgDev []) ewCmd), 63, ewCmd, stg, by decide +kernel⟩

theorem test_EditionsAreStagedAndCommitted_3 :
  ∃ (s : State) (m : Fin 64) (c : Cmd) (st : Staging) (q : CommitReq) (k : Nat), c.isOwner = true ∧ s.Ready m 1283 c ∧
    s.dev.col.staging = some st ∧ c.u8 0 = 2 ∧ c.zero 1 3 = true ∧ c.endsAt 40 = true ∧ s.dev.pendSlot = none ∧
    List.find? (fun (i : Nat) => (s.dev.ed i).state == 0) (List.range 4) = some k ∧
    q = { defFlags := false, rules := c.u32 4, actions := c.u32 8, miss := c.u32 12, number := c.u64 16, digest := leAt c.req 24 16 } ∧
    q.rules ≤ 16384 ∧ q.actions ≤ 65536 ∧ s.dev.col.highest < q.number ∧ q.digest = 0 ∧ actionsReach q st = false :=
  ⟨around (given comDev ecCmd), 63, ecCmd, stgS, reqQ, 1, by decide +kernel⟩

theorem test_EditionsAreStagedAndCommitted_4 :
  (∃ (s : State) (m : Fin 64) (c : Cmd), c.isOwner = true ∧ s.Ready m 1284 c ∧ c.endsAt 1 = true ∧ c.u8 0 = 0 ∧
    s.dev.col.staging ≠ none) ∧
  (∃ (s : State) (m : Fin 64) (c : Cmd) (k : Nat), c.isOwner = true ∧ s.Ready m 1284 c ∧ c.endsAt 1 = true ∧ c.u8 0 = 1 ∧
    s.dev.pendSlot = some k) :=
  ⟨⟨around (given comDev (eaCmd 0)), 63, eaCmd 0, by decide⟩,
  ⟨around (given { live with col := { slot3 := { state := 1, number := 8 } } } (eaCmd 1)), 63, eaCmd 1, 3, by decide⟩⟩

theorem test_EditionsAreStagedAndCommitted_5 :
  ∃ (s : State) (m : Fin 64) (c : Cmd), c.isOwner = true ∧ s.Ready m 1285 c ∧ c.endsAt 0 = true :=
  ⟨around (given (colDev 1 0) esCmd), 63, esCmd, by decide⟩

theorem test_EditionsAreStagedAndCommitted_6 :
  ∃ (s : State) (m : Fin 64) (c : Cmd), c.isOwner = true ∧ s.Ready m 1286 c ∧ c.u8 0 < 16 ∧ c.u8 1 < 2 ∧ c.zero 2 2 = true ∧
    c.u32 4 < 2 ^ 24 ∧ c.endsAt 10 = true :=
  ⟨around (given live exCmd), 63, exCmd, by decide⟩

theorem test_EditionsAreStagedAndCommitted_7 :
  ∃ (s : State) (m : Fin 64) (c : Cmd), c.isOwner = true ∧ s.Ready m 1287 c ∧ c.u8 0 < 16 ∧ c.only 1 224 = true ∧
    c.u8 1 / 32 % 4 ≠ 3 ∧ c.zero 2 2 = true ∧ c.u32 4 < 2 ^ 24 ∧ c.endsAt 12 = true :=
  ⟨around (given live emCmd), 63, emCmd, by decide⟩

end Colander

namespace Forwarding

def lb (n v : Nat) : List Nat := (List.range n).map (fun i => v / 256 ^ i % 256)

def nb (l : List Nat) : List Byte := l.map (BitVec.ofNat 8)

def fwdKey : List Nat := [0, 5, 1, 2, 3, 4, 5, 6]

def fwdDev (slots : List (Nat × Option FwdEnt)) : Dev :=
  { (live.put rFWD_STATUS fFWD_STATUS_READY 1).put (rFWD_TBL_CFG 15) fFWD_TBL_CFG_EN 1 with fwd := { slots := slots } }

def bkt : Nat := (live.buckets 15 (nb fwdKey)).1

def entF : FwdEnt := ⟨15, nb fwdKey, 7, true, false, false, false, 3⟩

def fReq (code : Nat) (port act max : Nat) : Cmd := cmdOf 63 code none ([15, 0] ++ lb 2 act ++ lb 4 port ++ [0, 0, max, 0] ++ fwdKey ++ lb 12 0 ++ lb 8 0)

def fIns : Cmd := fReq 0x0601 3 65535 0

def fDel : Cmd := fReq 0x0602 0 0 0

def haveF : Dev := fwdDev [(4 * bkt + 3, some entF)]

def fSea : Cmd := fReq 0x0603 0 0 0

def fNxt : Cmd := cmdOf 63 0x0604 none ([15, 0] ++ lb 8 0 ++ [60, 0] ++ lb 28 0)

def fFp : Cmd := cmdOf 63 0x0605 none ([255, 0, 0, 0] ++ lb 4 3 ++ lb 32 0)

def fFd : Cmd := cmdOf 63 0x0606 none ([255, 0] ++ lb 2 5 ++ lb 36 0)

def req1 : LearnReq := ⟨15, nb fwdKey, 3⟩

def ftq : Cmd := cmdOf 63 0x0607 none ([15, 1] ++ lb 14 0)

theorem test_TablesAreFilledAndSearched_1 :
  (∃ (s : State) (m : Fin 64) (c : Cmd) (n : Nat) (key : List Byte) (k : Nat), c.isOwner = true ∧ s.dev.fwdReady = true ∧
    n = c.u8 0 ∧ n < 16 ∧ s.dev.tblEn n = true ∧ s.dev.tblKind n = 0 ∧ c.u8 1 = 0 ∧ c.zero 11 1 = true ∧ c.endsAt 40 = true ∧
    key = slice c.req 12 8 ∧ s.Ready m 1537 c ∧ c.zero 9 2 = true ∧ c.zero 32 8 = true ∧ c.fwdKeyOk s.dev n = true ∧
    portOk (c.u32 4) = true ∧ s.dev.fwdFind n key = none ∧ s.dev.freeSlot (s.dev.buckets n key).fst false = some k) ∧
  (∃ (s : State) (m : Fin 64) (c : Cmd) (n : Nat) (key : List Byte) (k : Nat), c.isOwner = true ∧ s.dev.fwdReady = true ∧
    n = c.u8 0 ∧ n < 16 ∧ s.dev.tblEn n = true ∧ s.dev.tblKind n = 0 ∧ c.u8 1 = 0 ∧ c.zero 11 1 = true ∧ c.endsAt 40 = true ∧
    key = slice c.req 12 8 ∧ s.Ready m 1538 c ∧ c.zero 2 6 = true ∧ c.zero 9 2 = true ∧ c.zero 32 8 = true ∧
    c.fwdKeyOk s.dev n = true ∧ s.dev.fwdFind n key = some k) ∧
  (∃ (s : State) (m : Fin 64) (c : Cmd) (n : Nat) (key : List Byte) (k : Nat) (e : FwdEnt), c.isOwner = true ∧
    s.dev.fwdReady = true ∧ n = c.u8 0 ∧ n < 16 ∧ s.dev.tblEn n = true ∧ s.dev.tblKind n = 0 ∧ c.u8 1 = 0 ∧ c.zero 11 1 = true ∧
    c.endsAt 40 = true ∧ key = slice c.req 12 8 ∧ s.Ready m 1539 c ∧ c.zero 2 6 = true ∧ c.zero 9 2 = true ∧ c.zero 32 8 = true ∧
    c.fwdKeyOk s.dev n = true ∧ s.dev.fwdFind n key = some k ∧ s.dev.slotF k = some e) ∧
  (∃ (s : State) (m : Fin 64) (c : Cmd) (n : Nat) (key : List Byte) (es : List (Nat × FwdEnt)), c.isOwner = true ∧
    s.dev.fwdReady = true ∧ n = c.u8 0 ∧ n < 16 ∧ s.dev.tblEn n = true ∧ s.dev.tblKind n = 0 ∧ c.u8 1 = 0 ∧ c.zero 11 1 = true ∧
    c.endsAt 40 = true ∧ key = slice c.req 12 8 ∧ s.Ready m 1540 c ∧ c.zero 2 8 = true ∧ 1 ≤ c.u8 10 ∧ c.u8 10 ≤ 60 ∧
    c.u64 32 = 0 ∧
    es = List.filterMap (fun (e : Nat × Option FwdEnt) => match e.snd with | some x => if (x.tbl == n) = true then some (e.fst, x) else none | none => none) s.dev.fwd.slots ∧
    es ≠ [] ∧ es.length ≤ c.u8 10 ∧ ∀ (x : Nat × FwdEnt), x ∈ es → x.snd.key.length = 8 ∧ x.snd.wide = false) :=
  ⟨⟨around (given (fwdDev []) fIns), 63, fIns, 15, nb fwdKey, 4 * bkt, by decide +kernel⟩,
  ⟨around (given haveF fDel), 63, fDel, 15, nb fwdKey, 4 * bkt + 3, by decide +kernel⟩,
  ⟨around (given haveF fSea), 63, fSea, 15, nb fwdKey, 4 * bkt + 3, entF, by decide +kernel⟩,
  ⟨around (given haveF fNxt), 63, fNxt, 15, nb (List.replicate 8 0), [(4 * bkt + 3, entF)], by decide +kernel⟩⟩

theorem test_TablesAreFilledAndSearched_2 :
  (∃ (s : State) (m : Fin 64) (c : Cmd) (k : Nat) (e : FwdEnt), c.isOwner = true ∧ s.dev.fwdReady = true ∧ c.u8 0 = 255 ∧
    c.u8 1 = 0 ∧ c.zero 11 1 = true ∧ c.endsAt 40 = true ∧ c.zero 8 3 = true ∧ c.zero 32 8 = true ∧
    s.dev.fwd.slots = [(k, some e)] ∧ e.static = false ∧ s.Ready m 1541 c ∧ c.zero 2 2 = true ∧ portOk (c.u32 4) = true ∧
    e.port = c.u32 4) ∧
  (∃ (s : State) (m : Fin 64) (c : Cmd) (k : Nat) (e : FwdEnt), c.isOwner = true ∧ s.dev.fwdReady = true ∧ c.u8 0 = 255 ∧
    c.u8 1 = 0 ∧ c.zero 11 1 = true ∧ c.endsAt 40 = true ∧ c.zero 8 3 = true ∧ c.zero 32 8 = true ∧
    s.dev.fwd.slots = [(k, some e)] ∧ e.static = false ∧ s.Ready m 1542 c ∧ c.zero 4 4 = true ∧ c.u16 2 < 4096 ∧
    keyDomain e.key = c.u16 2) :=
  ⟨⟨around (given haveF fFp), 63, fFp, 4 * bkt + 3, entF, by decide +kernel⟩,
  ⟨around (given haveF fFd), 63, fFd, 4 * bkt + 3, entF, by decide +kernel⟩⟩

theorem test_TablesAreFilledAndSearched_3 :
  (∃ (s : State) (r : LearnReq) (rs : List LearnReq), s.Runs ∧ s.dev.fwd.learnQ = r :: rs ∧ s.dev.tblEn r.tbl = false) ∧
  (∃ (s : State) (r : LearnReq) (rs : List LearnReq) (k : Nat), s.Runs ∧ s.dev.fwd.learnQ = r :: rs ∧ s.dev.tblEn r.tbl = true ∧
    s.dev.fwdFind r.tbl r.key = none ∧ s.dev.learnFull r.port = none ∧
    s.dev.freeSlot (s.dev.buckets r.tbl r.key).fst false = some k) :=
  ⟨⟨around { live with fwd := { learnQ := [req1, req1] } }, req1, [req1], by decide⟩,
  ⟨around { fwdDev [] with fwd := { learnQ := [req1, req1] } }, req1, [req1], 4 * bkt, by decide +kernel⟩⟩

theorem test_TablesAreFilledAndSearched_4 :
  (∃ (s : State) (b : Nat), s.Runs ∧ s.dev.fwdReady = true ∧ s.dev.fwd.sweepAt = b ∧ b % 32 ≠ 0 ∧ b + 1 < 262144 ∧ ∀ (i : Nat),
    i < 4 → s.dev.slotF (4 * b + i) = none) ∧
  (∃ (s : State) (b : Nat) (e : FwdEnt), s.Runs ∧ s.dev.fwdReady = true ∧ s.dev.fwd.sweepAt = b ∧ b % 32 ≠ 0 ∧ b + 1 < 262144 ∧
    s.dev.slotF (4 * b) = some e ∧ (∀ (i : Nat), i < 3 → s.dev.slotF (4 * b + (i + 1)) = none) ∧ e.static = false ∧
    s.dev.bit (rFWD_TBL_CFG e.tbl) fFWD_TBL_CFG_AGE_EN = true ∧ e.hit = true) :=
  ⟨⟨around { fwdDev [] with fwd := { sweepAt := 262142 } }, 262142, by decide⟩,
  ⟨around { (fwdDev []).put (rFWD_TBL_CFG 15) fFWD_TBL_CFG_AGE_EN 1 with fwd := { sweepAt := 262142, slots := [(4 * 262142, some entF)] } },
    262142, entF, by decide⟩⟩

theorem test_TablesAreConfigured_1 :
  ∃ (s : State) (m : Fin 64) (c : Cmd), s.Ready m 1543 c ∧ c.isOwner = true ∧ s.dev.fwdReady = true ∧ c.u8 0 < 16 ∧ c.u8 1 = 1 ∧
    c.zero 2 2 = true ∧ c.endsAt 16 = true :=
  ⟨around (given haveF ftq), 63, ftq, by decide⟩

theorem test_TablesAreConfigured_2 :
  (∃ (s : State) (n : Fin 16) (val : Word), s.Runs ∧
    s.dev.tblRefused (n.val) (BitVec.toNat val) (s.dev.rdN (rFWD_TBL_SELECT_LO n.val)) (s.dev.rdN (rFWD_TBL_SELECT_HI n.val)) = false) ∧
  (∃ (s : State) (n : Fin 16) (val : Word), s.Runs ∧
    s.dev.tblRefused (n.val) (BitVec.toNat val) (s.dev.rdN (rFWD_TBL_SELECT_LO n.val)) (s.dev.rdN (rFWD_TBL_SELECT_HI n.val)) = true) :=
  ⟨⟨around haveF, 15, 0x80000004, by decide⟩,
  ⟨around haveF, 15, 0xFFFFFFFF, by decide⟩⟩

theorem test_TablesAreConfigured_3 :
  (∃ (s : State) (_val : Word), s.Runs ∧ ∀ (n : Nat), n < 16 → s.dev.tblExact n = true →
    s.dev.get (rFWD_TBL_USED n) fFWD_TBL_USED_USED = 0) ∧
  (∃ (s : State) (_val : Word) (n : Nat), s.Runs ∧ n < 16 ∧ s.dev.tblExact n = true ∧
    s.dev.get (rFWD_TBL_USED n) fFWD_TBL_USED_USED ≠ 0) :=
  ⟨⟨around haveF, 0xFFFFFFFF, by decide⟩,
  ⟨around (haveF.put (rFWD_TBL_USED 15) fFWD_TBL_USED_USED 1), 0xFFFFFFFF, 15, by decide⟩⟩

theorem test_TablesAreConfigured_4 :
  ∃ (s : State), s.Runs ∧ s.dev.fwdReady = false :=
  ⟨around { live with fwd := haveF.fwd }, by decide⟩

end Forwarding

namespace Pantry

def lb (n v : Nat) : List Nat := (List.range n).map (fun i => v / 256 ^ i % 256)

def bankDev (b st o dirty : Nat) : Dev := ((live.put (rSTK_BANK b) fSTK_BANK_STATE st).put (rSTK_BANK b) fSTK_BANK_OWNER o).put (rSTK_BANK b) fSTK_BANK_DIRTY dirty

def job (b : Nat) : BankJob := ⟨b, 0, false, 0, 0, 5, 0, none, none⟩

def drainDev (b : Nat) (st : Nat) (x : BankX) : Dev := { (bankDev b st 1 1).wr64 rTICK_COUNT_LO rTICK_COUNT_HI 5 with pan := { job := some (job b), banks := [(b, x)] } }

def saC : Cmd := cmdOf 63 0x0D01 none [39, 1, 6, 3, 0, 0, 0, 0]

def fullDev : Dev := (List.range 40).foldl (fun d b => (d.put (rSTK_BANK b) fSTK_BANK_STATE 1).put (rSTK_BANK b) fSTK_BANK_OWNER ([2, 2, 3, 3, 4, 5].getD b 1)) live

def srC : Cmd := cmdOf 63 0x0D02 (some 16) ([1, 16, 1, 0] ++ lb 8 0)

def ssC : Cmd := cmdOf 63 0x0D03 none []

theorem test_BanksChangeHands_1 :
  (∃ (s : State) (b : Fin 64), s.Runs ∧ s.dev.pan.job = none ∧ s.dev.marchOn b.val = false ∧ s.dev.bankRefused 0 (b.val) 0 = 0 ∧
    s.dev.bankOwner b.val ≠ ownPantry) ∧
  (∃ (s : State) (b : Fin 64), s.Runs ∧ s.dev.pan.job = none ∧ s.dev.marchOn b.val = false ∧ s.dev.bankRefused 0 (b.val) 0 ≠ 0) ∧
  (∃ (s : State) (b : Fin 64) (o : Fin 8) (_p : Fin 4), s.Runs ∧ s.dev.pan.job = none ∧ s.dev.marchOn b.val = false ∧
    s.dev.bankRefused 1 b.val o.val = 0 ∧ s.dev.bit (rSTK_BANK b.val) fSTK_BANK_DIRTY = false) ∧
  (∃ (s : State) (b : Fin 64) (o : Fin 8) (_p : Fin 4) (_scrub : Bool), s.Runs ∧ s.dev.pan.job = none ∧
    s.dev.marchOn b.val = false ∧ s.dev.bankRefused 2 b.val o.val = 0 ∧ s.dev.bankOwner b.val = ownPantry) :=
  ⟨⟨around (bankDev 39 1 6 0), 39, by decide⟩,
  ⟨around (bankDev 39 0 6 0), 39, by decide⟩,
  ⟨around (bankDev 39 0 0 0), 39, 6, 3, by decide⟩,
  ⟨around (bankDev 39 1 1 0), 39, 6, 3, true, by decide +kernel⟩⟩

theorem test_BanksChangeHands_2 :
  (∃ (s : State) (j : BankJob), s.Runs ∧ s.dev.pan.job = some j ∧ j.action = 0 ∧ j.scrub = false ∧ j.mbx = none ∧ j.bank < 40 ∧
    s.dev.bankState j.bank = bkDraining ∧ s.dev.bankUsed j.bank = 0) ∧
  (∃ (s : State) (j : BankJob), s.Runs ∧ s.dev.pan.job = some j ∧ j.action = 0 ∧ j.scrub = false ∧ j.mbx = none ∧ j.bank < 40 ∧
    s.dev.bankState j.bank = bkDraining ∧ s.dev.bankUsed j.bank ≠ 0 ∧ j.drain ≤ s.dev.tickNow - j.startTick) ∧
  (∃ (s : State) (j : BankJob), s.Runs ∧ s.dev.pan.job = some j ∧ j.action = 0 ∧ j.scrub = false ∧ j.mbx = none ∧ j.bank < 40 ∧
    s.dev.bankState j.bank = bkScrubbing) ∧
  (∃ (s : State) (j : BankJob) (_a : Fin 4194304), s.Runs ∧ s.dev.pan.job = some j ∧ j.action = 0 ∧ j.scrub = false ∧
    j.mbx = none ∧ j.bank < 40 ∧ s.dev.bankState j.bank = bkScrubbing) :=
  ⟨⟨around (drainDev 39 2 { }), job 39, by decide⟩,
  ⟨around ((drainDev 39 2 { fresh := 1 }).put (rSTK_BANK 39) fSTK_BANK_FREE_BUFS 0), job 39, by decide⟩,
  ⟨around (drainDev 39 3 { }), job 39, by decide⟩,
  ⟨around (drainDev 39 3 { }), job 39, 123, by decide⟩⟩

theorem test_BanksChangeHands_3 :
  (∃ (s : State) (m : Fin 64) (c : Cmd), s.Ready m 3329 c ∧ c.isOwner = true ∧ c.u8 1 = 1 ∧ c.u8 2 < 8 ∧ c.u8 3 < 4 ∧
    c.u8 4 = 0 ∧ c.zero 5 3 = true ∧ c.endsAt 8 = true ∧ s.dev.pan.job = none ∧ s.dev.marchOn (c.u8 0) = false ∧
    s.dev.bankRefused 1 (c.u8 0) (c.u8 2) = 0 ∧ s.dev.bit (rSTK_BANK (c.u8 0)) fSTK_BANK_DIRTY = false) ∧
  (∃ (s : State) (m : Fin 64) (c : Cmd), s.Ready m 3329 c ∧ c.isOwner = true ∧ c.u8 1 = 1 ∧ c.u8 2 < 8 ∧ c.u8 3 < 4 ∧
    c.u8 4 = 0 ∧ c.zero 5 3 = true ∧ c.endsAt 8 = true ∧ s.dev.pan.job ≠ none) :=
  ⟨⟨around (given (bankDev 39 0 0 0) saC), 63, saC, by decide⟩,
  ⟨around (given (drainDev 39 2 { }) saC), 63, saC, by decide⟩⟩

theorem test_ThePantryIsReservedAndShown_1 :
  (∃ (s : State) (_val : Word), s.Runs ∧ s.dev.stkLocked = false ∧ ∀ (o : Nat), o ∈ [2, 3, 4, 5] →
    s.dev.heldBanks o = needBanks o) ∧
  (∃ (s : State) (_val : Word) (o : Nat), s.Runs ∧ s.dev.stkLocked = false ∧ o ∈ [2, 3, 4, 5] ∧
    s.dev.heldBanks o ≠ needBanks o) :=
  ⟨⟨around fullDev, 0, by decide +kernel⟩,
  ⟨around (fullDev.put (rSTK_BANK 5) fSTK_BANK_STATE 0), 0x80000000, 5, by decide +kernel⟩⟩

theorem test_ThePantryIsReservedAndShown_2 :
  ∃ (s : State) (b : Fin 40), s.Runs ∧ (s.dev.bankX b.val).off = true :=
  ⟨around { live with pan := { banks := [(39, { fresh := 3, freed := [1], off := true })] } }, 39, by decide⟩

theorem test_ThePantryIsReservedAndShown_3 :
  (∃ (s : State) (ten : Bool) (i : Fin 98) (_val : Word), s.Runs ∧ panHas ten i.val = true) ∧
  (∃ (s : State) (ten : Bool) (i : Fin 98) (val : Word), s.Runs ∧ panHas ten i.val = true ∧
    s.dev.minOk (panEntry ten i.val) (panEntry ten i.val + 8) (BitVec.toNat val % 2 ^ 28) = true) ∧
  (∃ (s : State) (ten : Bool) (i : Fin 98) (val : Word), s.Runs ∧ panHas ten i.val = true ∧
    s.dev.minOk (panEntry ten i.val) (panEntry ten i.val + 8) (BitVec.toNat val % 2 ^ 28) = false) :=
  ⟨⟨around live, true, 16, 0xFFFFFFFF, by decide⟩,
  ⟨around (live.wrN rPAN_TOTAL 4096), true, 16, 0xF0001000, by decide +kernel⟩,
  ⟨around (live.wrN rPAN_TOTAL 4096), false, 97, 4097, by decide +kernel⟩⟩

theorem test_ThePantryIsReservedAndShown_4 :
  ∃ (s : State) (m : Fin 64) (c : Cmd), s.Ready m 3330 c ∧ c.u8 0 < 2 ∧ panHas (c.u8 0 == 1) (c.u8 1) = true ∧ c.u8 2 = 1 ∧
    c.zero 3 1 = true ∧ c.endsAt 12 = true ∧ (c.isOwner = true ∨ c.u8 0 = 1 ∧ c.caller = some (c.u8 1)) :=
  ⟨around (given live srC), 63, srC, by decide⟩

theorem test_ThePantryIsReservedAndShown_5 :
  ∃ (s : State) (m : Fin 64) (c : Cmd), s.Ready m 3331 c ∧ c.isOwner = true ∧ c.endsAt 0 = true :=
  ⟨around (given fullDev ssC), 63, ssC, by decide +kernel⟩

theorem test_ThePantryIsReservedAndShown_6 :
  ∃ (s : State), s.Runs ∧ s.dev.bit rPAN_STATUS fPAN_STATUS_READY = false :=
  ⟨around live, by decide⟩

end Pantry

namespace Dram

def dramDev : Dev := (live.put rDRAM_STATUS fDRAM_STATUS_READY 1).put rDRAM_CTRL fDRAM_CTRL_SCRUB_EN 1

def rdReq : DramReq := ⟨5, 3, 320, none, 2, 100⟩

def wrReq : DramReq := ⟨0, 0, 64, some (List.replicate 64 7), 0, 0⟩

def pktS : Pkt := ⟨List.replicate 60 1, 3, 0, none, 0, false, none, 0, []⟩

def heldS (w : Bool) : Held := { pkt := pktS, buf := none, ent := 97, ten := 16, tick := 0, ns := 100, page := 3, units := 2, written := w }

def spDev (w : Bool) : Dev := { ((dramDev.wrN rSP_PREFETCH 1).wrN rPAN_SHARED_SIZE 100000).wrN (rPAN_POOL_FREE 0) 5 with chanQ := [(262143, [heldS w, heldS w])], dram := { backlog := 300 } }

def ddC : Cmd := cmdOf 63 0x0C02 none [15, 0]

def sspC : Cmd := cmdOf 63 0x0D04 none ([2] ++ List.replicate 27 0)

theorem test_DramServesItsPorts_1 :
  (∃ (s : State) (_ns : Fin 125000) (c : Fin 16) (r : DramReq) (ready : BitVec 32), s.Runs ∧ s.dev.dramReady = true ∧
    s.dev.cipherOff = false ∧ c.val = s.dev.dramChan r.addr ∧ s.dev.dramIsDown c.val = false ∧ r.addr < s.dev.dramSize ∧
    s.dev.dram.reqs = [] ∧ s.dev.dram.waits = [] ∧ s.dev.dram.rows = [] ∧
    ready.getLsbD (localBank (s.dev.dramLocal r.addr)) = true ∧ r.data = none) ∧
  (∃ (s : State) (_ns : Fin 125000) (c : Fin 16) (r : DramReq) (ready : BitVec 32) (bs : List Byte), s.Runs ∧
    s.dev.dramReady = true ∧ s.dev.cipherOff = false ∧ c.val = s.dev.dramChan r.addr ∧ s.dev.dramIsDown c.val = false ∧
    r.addr < s.dev.dramSize ∧ s.dev.dram.reqs = [] ∧ s.dev.dram.waits = [] ∧ s.dev.dram.rows = [] ∧
    ready.getLsbD (localBank (s.dev.dramLocal r.addr)) = true ∧ r.data = some bs ∧ r.addr % 64 = 0 ∧ bs.length = 64 ∧
    (s.dev.unitAt (unitOf r.addr)).length = 64) :=
  ⟨⟨around { dramDev with dram := { units := [(5, List.replicate 64 9)] } }, 124999, 1, rdReq, 0xFFFFFFFF, by decide⟩,
  ⟨around dramDev, 124999, 0, wrReq, 0xFFFFFFFF, List.replicate 64 7, by decide⟩⟩

theorem test_DramServesItsPorts_2 :
  ∃ (s : State) (_c : Fin 16) (_b : Fin 32), s.Runs :=
  ⟨around { dramDev with dram := { rows := [(511, 3, 4, 5), (510, 3, 4, 5)] } }, 15, 31, by decide⟩

theorem test_DramServesItsPorts_3 :
  (∃ (s : State) (c : Fin 16) (_code : Fin 256), s.Runs ∧ s.dev.dramOn c.val = true ∧ nbit s.dev.dram.hot c.val = false) ∧
  (∃ (s : State) (c : Fin 16) (_code : Fin 256), s.Runs ∧ s.dev.dramOn c.val = true ∧ nbit s.dev.dram.hot c.val = false) :=
  ⟨⟨around dramDev, 15, 255, by decide⟩,
  ⟨around dramDev, 15, 255, by decide⟩⟩

theorem test_DramServesItsPorts_4 :
  (∃ (s : State) (c : Fin 16), s.Runs ∧ s.dev.dramOn c.val = true ∧ s.dev.dram.retrainTick ≠ some s.dev.tickNow) ∧
  (∃ (s : State) (c : Fin 16), s.Runs ∧ s.dev.dramOn c.val = true) :=
  ⟨⟨around dramDev, 15, by decide⟩,
  ⟨around dramDev, 0, by decide⟩⟩

theorem test_DramServesItsPorts_5 :
  ∃ (s : State) (_raced : Bool), s.Runs ∧ s.dev.bit rDRAM_CTRL fDRAM_CTRL_SCRUB_EN = true ∧ s.dev.dramReady = true ∧
    s.dev.cipherOff = false ∧ s.dev.dramIsDown (s.dev.dramChan s.dev.dram.scrubAt) = false :=
  ⟨around { dramDev with dram := { scrubAt := dramDev.dramSize - 64 } }, false, by decide⟩

theorem test_DramServesItsPorts_6 :
  ∃ (s : State), s.Runs ∧ s.dev.bit rDRAM_STATUS fDRAM_STATUS_INIT_BUSY = true ∧ s.dev.dram.waits = [] :=
  ⟨around (live.put rDRAM_STATUS fDRAM_STATUS_INIT_BUSY 1), by decide⟩

theorem test_TheStockpotSpillsAndFetches_1 :
  (∃ (s : State) (val : Word), s.Runs ∧ s.dev.part = Variant.c ∧ s.dev.dramCtrlBusy (BitVec.toNat val) = false) ∧
  (∃ (s : State) (val : Word), s.Runs ∧ s.dev.part = Variant.c ∧ s.dev.dramCtrlBusy (BitVec.toNat val) = true) :=
  ⟨⟨around live, 0xFFFFFFFF, by decide⟩,
  ⟨around dramDev, 0xFFFFFFFF, by decide⟩⟩

theorem test_TheStockpotSpillsAndFetches_2 :
  (∃ (s : State) (_val : Word) (_w : Fin 3), s.Runs ∧ s.dev.spHeld = true) ∧
  (∃ (s : State) (val : Word), s.Runs ∧ s.dev.spHeld = false ∧ s.dev.spBad s.dev.spBase (BitVec.toNat val % 2 ^ 17) = false) ∧
  (∃ (s : State) (val : Word), s.Runs ∧ s.dev.spHeld = false ∧ s.dev.spBad s.dev.spBase (BitVec.toNat val % 2 ^ 17) = true) :=
  ⟨⟨around (live.put rSP_CTRL fSP_CTRL_EN 1), 0xFFFFFFFF, 2, by decide⟩,
  ⟨around (live.wrN rSP_BASE_LO 0x10000000), 0xFFFE0001, by decide⟩,
  ⟨around live, 1, by decide⟩⟩

theorem test_TheStockpotSpillsAndFetches_3 :
  (∃ (s : State) (q : Fin 262144) (h : Held) (hs : List Held), s.Runs ∧ s.dev.dramReady = true ∧ s.dev.cipherOff = false ∧
    s.dev.chQ q.val = h :: hs ∧ h.buf = none ∧ h.written = false) ∧
  (∃ (s : State) (q : Fin 262144) (h : Held) (hs : List Held), s.Runs ∧ s.dev.dramReady = true ∧ s.dev.cipherOff = false ∧
    s.dev.chQ q.val = h :: hs ∧ h.buf = none ∧ h.written = true ∧ bufferedBytes (h :: hs) < s.dev.rdN rSP_PREFETCH) ∧
  (∃ (s : State) (q : Fin 262144) (h : Held) (hs : List Held) (pool : Nat) (x : Nat) (charge : Nat) (b : Nat) (i : Nat) (d' : Dev),
    s.Runs ∧ s.dev.dramReady = true ∧ s.dev.cipherOff = false ∧ s.dev.chQ q.val = h :: hs ∧ h.buf = none ∧ h.written = true ∧
    bufferedBytes (h :: hs) < s.dev.rdN rSP_PREFETCH ∧ s.dev.choosePool h.pkt.bytes.length = some pool ∧
    s.dev.admitStep h.ent h.ten (poolSize pool) h.pkt.yellow h.mirror = (x, some charge) ∧
    s.start.takePool pool = (some (b, i), d')) :=
  ⟨⟨around (spDev false), 262143, heldS false, [heldS false], by decide⟩,
  ⟨around (spDev true), 262143, heldS true, [heldS true], by decide⟩,
  ⟨around (spDev true), 262143, heldS true, [heldS true], 0, 7, 2, 6, 0, ((around (spDev true)).start.takePool 0).2, by decide⟩⟩

theorem test_TheStockpotSpillsAndFetches_4 :
  ∃ (s : State) (m : Fin 64) (c : Cmd), s.Ready m 3074 c ∧ c.isOwner = true ∧ s.dev.dramOk (c.u8 0) = true ∧ c.u8 1 = 0 ∧
    c.endsAt 2 = true :=
  ⟨around (given dramDev ddC), 63, ddC, by decide⟩

theorem test_TheStockpotSpillsAndFetches_5 :
  ∃ (s : State) (m : Fin 64) (c : Cmd), s.Ready m 3332 c ∧ c.isOwner = true ∧ c.u8 0 = 2 ∧ c.zero 1 3 = true ∧
    c.endsAt 28 = true :=
  ⟨around (given (spDev true) sspC), 63, sspC, by decide⟩

end Dram

namespace Uplinks

def nb (l : List Nat) : List Byte := l.map (BitVec.ofNat 8)

def upDev (st : Nat) (up : Nat) : Dev := { ((live.put (rUPL_PORT_CTRL 47) fUPL_PORT_CTRL_EN 1).put (rLANE_STATUS (laneBase (.upl 47))) fLANE_STATUS_TRAIN_STATE st).put (rUPL_PORT_STATUS 47) fUPL_PORT_STATUS_LINK_UP up with uplQ := [] }

def frameU : List Byte := nb ([1, 2, 3, 4, 5, 6, 7, 8, 9, 10, 11, 12, 8, 0] ++ List.replicate 46 7)

def pktU : Pkt := ⟨withFcs frameU, 3, 0, none, 0, false, none, 0, []⟩

def bufU : Buf := ⟨0, 39, 0, 256, 2, 97, 3⟩

def heldU : Held := { pkt := pktU, buf := some bufU, ent := 97, ten := 3, tick := 0, ns := 100 }

def ts0 : TsEnt := ⟨3, 65535, 281474976710655, 999999999, 5⟩

def duC : Cmd := cmdOf 63 0x0C03 none [47, 0, 0, 0, 0, 0, 0, 0]

theorem test_UplinkPortsComeUpAndCarryFrames_1 :
  (∃ (s : State) (u : Fin 48) (_val : Word), s.Runs ∧ s.dev.uplFirst u.val ≠ u.val) ∧
  (∃ (s : State) (u : Fin 48) (val : Word), s.Runs ∧ s.dev.uplFirst u.val = u.val ∧
    s.dev.uplRefused (u.val) (BitVec.toNat val) = true) ∧
  (∃ (s : State) (u : Fin 48) (val : Word), s.Runs ∧ s.dev.uplFirst u.val = u.val ∧
    s.dev.uplRefused (u.val) (BitVec.toNat val) = false ∧ s.dev.uplMembers u.val = [u.val] ∧
    fieldOf (BitVec.toNat val) fUPL_PORT_CTRL_LANES = 0 ∧ s.dev.bit (rUPL_PORT_CTRL u.val) fUPL_PORT_CTRL_EN = false ∧
    nbit (BitVec.toNat val) 0 = false) :=
  ⟨⟨around (live.put (rUPL_PORT_STATUS 47) fUPL_PORT_STATUS_FIRST_LANE 46), 47, 0xFFFFFFFF, by decide⟩,
  ⟨around live, 47, 0xFFFFFFFE, by decide⟩,
  ⟨around live, 47, 0x05F20F00, by decide⟩⟩

theorem test_UplinkPortsComeUpAndCarryFrames_2 :
  (∃ (s : State) (u : Fin 48), s.Runs ∧ s.dev.uplFirst u.val = u.val ∧ s.dev.uplMembers u.val = [u.val] ∧
    s.dev.bit (rUPL_PORT_CTRL u.val) fUPL_PORT_CTRL_EN = false ∧ s.dev.trainState (uplLaneId u.val) = tsOff ∧
    s.dev.uplRefused (u.val) (fieldPut (s.dev.rdN (rUPL_PORT_CTRL u.val)) fUPL_PORT_CTRL_EN 1) = false) ∧
  (∃ (s : State) (u : Fin 48), s.Runs ∧ s.dev.uplFirst u.val = u.val ∧ s.dev.uplMembers u.val = [u.val] ∧
    s.dev.bit (rUPL_PORT_CTRL u.val) fUPL_PORT_CTRL_EN = true ∧
    s.dev.uplRefused (u.val) (fieldPut (s.dev.rdN (rUPL_PORT_CTRL u.val)) fUPL_PORT_CTRL_EN 0) = false) ∧
  (∃ (s : State) (u : Fin 48), s.Runs ∧ s.dev.uplFirst u.val = u.val ∧ s.dev.uplMembers u.val = [u.val] ∧
    s.dev.bit (rUPL_PORT_CTRL u.val) fUPL_PORT_CTRL_EN = true ∧ s.dev.linkUp u.val = false ∧
    s.dev.trainState (uplLaneId u.val) = tsData) ∧
  (∃ (s : State) (u : Fin 48), s.Runs ∧ s.dev.uplFirst u.val = u.val ∧ s.dev.uplMembers u.val = [u.val] ∧
    s.dev.bit (rUPL_PORT_CTRL u.val) fUPL_PORT_CTRL_EN = true ∧ s.dev.linkUp u.val = true) :=
  ⟨⟨around live, 47, by decide⟩,
  ⟨around (upDev tsData 1), 47, by decide⟩,
  ⟨around (upDev tsData 0), 47, by decide⟩,
  ⟨around (upDev tsData 1), 47, by decide⟩⟩

theorem test_UplinkPortsComeUpAndCarryFrames_3 :
  (∃ (s : State) (u : Fin 48) (_ns : Fin 125000) (_frac : Fin 65536) (_f : List Byte), s.Runs ∧ s.dev.uplPort u.val = true ∧
    s.dev.linkUp u.val = true) ∧
  (∃ (s : State) (u : Fin 48) (_ns : Fin 125000) (_frac : Fin 65536) (f : List Byte), s.Runs ∧ s.dev.uplPort u.val = true ∧
    s.dev.linkUp u.val = true ∧ 60 ≤ f.length ∧ f.length + 4 ≤ s.dev.get (rUPL_PORT_CTRL u.val) fUPL_PORT_CTRL_MAX_FRAME ∧
    beAt f 12 2 ≠ 34824 ∧ s.dev.bit (rUPL_PORT_CTRL u.val) fUPL_PORT_CTRL_MACSEC_EN = false ∧
    s.dev.bit (rUPL_PORT_CTRL u.val) fUPL_PORT_CTRL_PTP_EN = false ∧ s.dev.noticeAt f = none ∧ s.dev.tunnelOf (u.val) f = none) :=
  ⟨⟨around (upDev tsData 1), 47, 124999, 65535, [], by decide⟩,
  ⟨around (upDev tsData 1), 47, 5, 0, frameU, by decide⟩⟩

theorem test_UplinkPortsComeUpAndCarryFrames_4 :
  ∃ (s : State) (u : Fin 48) (_ns : Fin 125000) (_frac : Fin 65536) (_pins : Nat) (p : Nat) (h : Held) (b : Buf), s.Runs ∧
    s.dev.linkUp u.val = true ∧ s.dev.zeroised = false ∧ s.dev.gateEn (GateOwner.upl u) = false ∧ p < 8 ∧
    s.dev.upQ (uplKey (u.val) p) = [h] ∧ h.buf = some b ∧ (∀ (q : Nat), q < 8 → q ≠ p → s.dev.upQ (uplKey (u.val) q) = []) ∧
    s.dev.uplProtects (u.val) h = false ∧ s.dev.bit (rUPL_PORT_CTRL u.val) fUPL_PORT_CTRL_PTP_EN = false ∧
    s.dev.bit rPIN_STATUS fPIN_STATUS_THERM_TRIP = false :=
  ⟨around { upDev tsData 1 with uplQ := [(uplKey 47 7, [heldU])] }, 47, 5, 0, 0, 7, heldU, bufU, by decide +kernel⟩

theorem test_UplinkPortsComeUpAndCarryFrames_5 :
  (∃ (s : State) (u : Fin 48), s.Runs ∧ s.dev.tsQ u.val = []) ∧
  (∃ (s : State) (u : Fin 48) (e : TsEnt) (q : List TsEnt), s.Runs ∧ s.dev.tsQ u.val = e :: q ∧ e.ns < 2 ^ 32) :=
  ⟨⟨around live, 47, by decide⟩,
  ⟨around { live with tsFifo := [(47, [ts0, ts0])] }, 47, ts0, [ts0], by decide⟩⟩

theorem test_UplinkPortsComeUpAndCarryFrames_6 :
  ∃ (s : State) (m : Fin 64) (c : Cmd), s.Ready m 3075 c ∧ c.isOwner = true ∧ c.u8 0 < 48 ∧ c.u8 1 = 0 ∧ c.u8 2 = 0 ∧
    c.zero 3 1 = true ∧ c.endsAt 8 = true ∧ s.dev.uplFirst (c.u8 0) = c.u8 0 :=
  ⟨around (given (upDev tsData 1) duC), 63, duC, by decide⟩

end Uplinks

namespace Fabric

def lb (n v : Nat) : List Nat := (List.range n).map (fun i => v / 256 ^ i % 256)

def bb (n v : Nat) : List Nat := (lb n v).reverse

def nb (l : List Nat) : List Byte := l.map (BitVec.ofNat 8)

def bndDev (b st : Nat) : Dev := ((live.put (rFAB_BND_CTRL b) fFAB_BND_CTRL_EN 1).put (rFAB_BND_STATUS b) fFAB_BND_STATUS_STATE st).put (rLANE_STATUS (laneBase (fabLaneId b))) fLANE_STATUS_TRAIN_STATE tsData

def cellOf : List Byte := let c := nb (List.replicate 252 3); c ++ beB 4 (crc32c (c.drop 8))

def fbC : Cmd := cmdOf 63 0x0A01 none [47, 0, 0, 0, 0, 0, 0, 0]

def helloW : Hello := ⟨true, 77, 1, 1, 9, 5, 0, 3, true, 77, 0⟩

def peerDev : Dev := { bndDev 47 bsUp with fab := { bnds := [(47, { hello := some helloW })] } }

def fpC : Cmd := cmdOf 63 0x0A04 none []

def packDev : Dev := { (((bndDev 47 bsUp).wrN (rFAB_EXP_LABEL 47 15) 0x01000000).wrN (rFAB_RX_LABEL 47 15) 0x01000000).wrN rFAB_SHELFMARK 0x80000005 with
  fab := { cm := [(cmKey 47 1 0 7, 0xBF000000)] } }

def badPkt : List Byte := nb (List.replicate 16 9)

def hdr0 : List Byte := nb ([0x10, 0] ++ bb 2 14 ++ bb 3 5 ++ bb 3 9 ++ [0, 0, 0, 0, 0])

def goodPkt : List Byte := hdr0 ++ leB 1 (crc8 hdr0) ++ nb ([1, 2, 3, 4, 5, 6, 7, 8, 9, 10, 11, 12, 8, 0])

def slotDev (e : Nat) (ais : Nat) : Dev := { (bndDev 47 bsUp).put (rFAB_BND_CTRL 47) fFAB_BND_CTRL_FORCE_AIS ais with fab := { lanes := [(47, { framesFrom := some 0 })], cm := [(cmKey 47 0 0 5999, e)], bnds := [(47, { held := [(65534, 0)] })] } }

def fabCtrlVal (a b : Nat) : Word := BitVec.ofNat 32 (a * 2 ^ fFAB_CTRL_VER_MIN.lo + b * 2 ^ fFAB_CTRL_VER_MAX.lo)

def frC (f : Nat) : Cmd := cmdOf 63 0x0A02 none ([1, f] ++ lb 2 4095 ++ lb 16 0)

def routeDev : Dev := { live with fab := { routes := [(8191, [1, 2, 3, 0])] } }

def fcC : Cmd := cmdOf 63 0x0A03 none ([47, 1, 1, 1] ++ lb 2 5999 ++ [0, 0] ++ lb 4 0xBF000000)

def fbr : Cmd := cmdOf 63 0x0A05 none ([15, 0, 0, 0] ++ lb 4 0xFFFFFFFF ++ lb 4 0x8FFFFFFF ++ lb 4 0x8000002F)

def brDev (up : Nat) : Dev := ((((live.wrN (rFAB_BRIDGE_CTRL 15) 0x8000002F).put (rUPL_PORT_CTRL 47) fUPL_PORT_CTRL_EN 1).put (rUPL_PORT_STATUS 47) fUPL_PORT_STATUS_LINK_UP up).wrN rPAN_SHARED_SIZE 100000).wrN (rPAN_POOL_FREE 0) 9

def cellH : List Byte := (brDev 1).helloCell (List.replicate 12 0#8) (List.replicate 64 0#8)

def bodyH : List Byte := slice cellH 12 34 ++ slice cellH 68 64

def frameH : List Byte := (brDev 1).tunnelFrame 15 (fabHeader 3 7 false (brDev 1).initHops bodyH.length 0 (brDev 1).shelfmark 0 none ++ bodyH)

def stH : Option (Option Buf × Nat × Nat) × Dev := (around (brDev 1)).start.store [] none entFabric (chargeTenant 0x1F) 132 7 false false

def bufH : Buf := ((stH.1.getD (none, 0, 0)).1).getD ⟨0, 0, 0, 0, 0, 0, 0⟩

def folDev : Dev := { peerDev.put rFAB_CTRL fFAB_CTRL_ED_FOLLOW 1 with fab := { bnds := [(47, { hello := some { helloW with digest := 0 } })] } }

def actA : List Byte := nb ([0, 0] ++ List.replicate 14 0)

def folR : Nat × Nat × Dev := ((around folDev).start.setStaging (some (Staging.put ⟨[], []⟩ 1 0 actA))).commitEdition ⟨true, 0, 1, 0, 9, 0⟩

theorem frameLen : frameH.length = 132 := by decide +kernel

theorem test_BundlesComeUpAndReport_1 :
  (∃ (s : State) (b : Fin 48) (val : Word), s.Runs ∧ s.dev.firstLane b.val = true ∧
    s.dev.bndRefused (b.val) (BitVec.toNat val) = true) ∧
  (∃ (s : State) (b : Fin 48) (val : Word), s.Runs ∧ s.dev.firstLane b.val = true ∧
    s.dev.bndRefused (b.val) (BitVec.toNat val) = false ∧ nbit (BitVec.toNat val) 0 = s.dev.bndEn b.val) ∧
  (∃ (s : State) (b : Fin 48) (_val : Word), s.Runs ∧ s.dev.firstLane b.val = true ∧ s.dev.bndEn b.val = false ∧
    s.dev.bndRefused (b.val) (fieldPut (s.dev.rdN (rFAB_BND_CTRL b.val)) fFAB_BND_CTRL_EN 1) = false) ∧
  (∃ (s : State) (b : Fin 48) (_val : Word), s.Runs ∧ s.dev.firstLane b.val = true ∧ s.dev.bndEn b.val = true ∧
    s.dev.bndRefused (b.val) (fieldPut (s.dev.rdN (rFAB_BND_CTRL b.val)) fFAB_BND_CTRL_EN 0) = false) ∧
  (∃ (s : State) (b : Fin 48) (_val : Word), s.Runs ∧ s.dev.firstLane b.val = true ∧ s.dev.bndEn b.val = true ∧
    s.dev.bndState b.val = bsTraining ∧ ∀ (f : Nat), f ∈ s.dev.bndMembers b.val → s.dev.trainState (fabLaneId f) = tsData) :=
  ⟨⟨around (bndDev 47 bsUp), 47, 0xFFFFFFFE, by decide⟩,
  ⟨around live, 47, 0xFFFFFFF8, by decide⟩,
  ⟨around live, 47, 0, by decide⟩,
  ⟨around (bndDev 47 bsUp), 47, 0, by decide⟩,
  ⟨around (bndDev 47 bsTraining), 47, 0, by decide⟩⟩

theorem test_BundlesComeUpAndReport_2 :
  (∃ (s : State) (f : Fin 48) (_ns : Fin 125000) (_diff : Fin 65) (_cell : List Byte), s.Runs ∧ s.dev.bundleOf f.val = none) ∧
  (∃ (s : State) (f : Fin 48) (_ns : Fin 125000) (diff : Fin 65) (cell : List Byte) (b : Nat), s.Runs ∧
    s.dev.bundleOf f.val = some b ∧ s.dev.trainState (fabLaneId f.val) = tsData ∧ s.dev.sync f.val = 0 ∧ diff = 0 ∧
    crc32c (List.drop 8 (slice cell 0 252)) = beAt cell 252 4) ∧
  (∃ (s : State) (f : Fin 48) (_ns : Fin 125000) (diff : Fin 65) (_cell : List Byte) (b : Nat), s.Runs ∧
    s.dev.bundleOf f.val = some b ∧ s.dev.trainState (fabLaneId f.val) = tsData ∧ s.dev.sync f.val = 1 ∧ diff ≠ 0) :=
  ⟨⟨around live, 47, 5, 3, [], by decide⟩,
  ⟨around (bndDev 47 bsAlign), 47, 5, 0, cellOf, 47, by decide +kernel⟩,
  ⟨around ((bndDev 47 bsAlign).put (rFAB_LANE_STATUS 47) fFAB_LANE_STATUS_SYNC 1), 47, 5, 1, cellOf, 47, by decide⟩⟩

theorem test_BundlesComeUpAndReport_3 :
  (∃ (s : State) (m : Fin 64) (c : Cmd), c.isOwner = true ∧ s.Ready m 2561 c ∧ c.u8 0 < 48 ∧ c.u8 1 = 0 ∧ c.u8 2 = 0 ∧
    c.zero 3 1 = true ∧ c.endsAt 8 = true ∧ s.dev.firstLane (c.u8 0) = true) ∧
  (∃ (s : State) (m : Fin 64) (c : Cmd), c.isOwner = true ∧ s.Ready m 2564 c ∧ c.endsAt 0 = true) :=
  ⟨⟨around (given (bndDev 47 bsUp) fbC), 63, fbC, by decide⟩,
  ⟨around (given peerDev fpC), 63, fpC, by decide⟩⟩

theorem test_TheFabricCarriesAndIsTold_1 :
  (∃ (s : State) (b : Fin 48) (trib : Fin 64) (_ns : Fin 125000) (p : List Byte), s.Runs ∧ s.dev.bndEn b.val = true ∧
    s.dev.bndState b.val = bsUp ∧ (s.dev.rxTribs b.val).contains (trib.val, true) = true ∧
    s.dev.label rFAB_EXP_LABEL b.val trib.val = 1 ∧ s.dev.label rFAB_RX_LABEL b.val trib.val = 1 ∧
    (s.dev.fabTrib (64 * b.val + trib.val)).ais = false ∧ (s.dev.fabTrib (64 * b.val + trib.val)).lab = false ∧
    s.dev.defect (b.val) dfPage = false ∧ fabHeaderOk p = false) ∧
  (∃ (s : State) (b : Fin 48) (trib : Fin 64) (_ns : Fin 125000) (p : List Byte) (f : List Byte), s.Runs ∧
    s.dev.bndEn b.val = true ∧ s.dev.bndState b.val = bsUp ∧ (s.dev.rxTribs b.val).contains (trib.val, true) = true ∧
    s.dev.label rFAB_EXP_LABEL b.val trib.val = 1 ∧ s.dev.label rFAB_RX_LABEL b.val trib.val = 1 ∧
    (s.dev.fabTrib (64 * b.val + trib.val)).ais = false ∧ (s.dev.fabTrib (64 * b.val + trib.val)).lab = false ∧
    s.dev.defect (b.val) dfPage = false ∧ fabHeaderOk p = true ∧ f = List.take (beAt p 2 2) (List.drop 16 p) ∧ byteAt p 0 = 16 ∧
    byteAt p 14 = 0 ∧ s.dev.bit (rFAB_BND_CTRL b.val) fFAB_BND_CTRL_MACSEC_EN = false ∧ s.dev.smSet = true ∧
    beAt p 4 3 % 2 ^ 20 = s.dev.shelfmark ∧ s.dev.bit rFAB_STATUS fFAB_STATUS_CONFLICT = false ∧
    trib.val ≠ s.dev.get rPROT_CTRL fPROT_CTRL_TRIB ∧ s.dev.noticeAt f = none) :=
  ⟨⟨around packDev, 47, 63, 5, badPkt, by decide +kernel⟩,
  ⟨around (packDev.put rPROT_CTRL fPROT_CTRL_TRIB 0), 47, 63, 5, goodPkt, (goodPkt.drop 16).take 14, by decide +kernel⟩⟩

theorem test_TheFabricCarriesAndIsTold_2 :
  (∃ (s : State) (f : Fin 48) (slot : Fin 6000) (_data : List Byte) (_ecc : List (Fin 3)) (b : Nat) (e : Nat), s.Runs ∧
    s.dev.bundleOf f.val = some b ∧ s.dev.zeroised = false ∧ s.dev.framesOn f.val = true ∧
    s.dev.bit rPIN_STATUS fPIN_STATUS_THERM_TRIP = false ∧
    e = s.dev.cmWord (cmKey (f.val) 0 (s.dev.get (rFAB_BND_STATUS b) fFAB_BND_STATUS_TX_PAGE) slot.val) ∧ e / 2 ^ 30 = 0) ∧
  (∃ (s : State) (f : Fin 48) (slot : Fin 6000) (_data : List Byte) (_ecc : List (Fin 3)) (b : Nat) (e : Nat), s.Runs ∧
    s.dev.bundleOf f.val = some b ∧ s.dev.zeroised = false ∧ s.dev.framesOn f.val = true ∧
    s.dev.bit rPIN_STATUS fPIN_STATUS_THERM_TRIP = false ∧
    e = s.dev.cmWord (cmKey (f.val) 0 (s.dev.get (rFAB_BND_STATUS b) fFAB_BND_STATUS_TX_PAGE) slot.val) ∧ e / 2 ^ 30 = 1 ∧
    s.dev.bit (rFAB_BND_CTRL b) fFAB_BND_CTRL_FORCE_AIS = true) ∧
  (∃ (s : State) (f : Fin 48) (slot : Fin 6000) (_data : List Byte) (_ecc : List (Fin 3)) (b : Nat) (e : Nat), s.Runs ∧
    s.dev.bundleOf f.val = some b ∧ s.dev.zeroised = false ∧ s.dev.framesOn f.val = true ∧
    s.dev.bit rPIN_STATUS fPIN_STATUS_THERM_TRIP = false ∧
    e = s.dev.cmWord (cmKey (f.val) 0 (s.dev.get (rFAB_BND_STATUS b) fFAB_BND_STATUS_TX_PAGE) slot.val) ∧ e / 2 ^ 30 = 2 ∧
    s.dev.bit (rFAB_BND_CTRL b) fFAB_BND_CTRL_FORCE_AIS = false ∧ s.dev.transitAis (nbits e 21 16) (nbits e 12 0) = false ∧
    s.dev.tsiUsable (s.dev.bndOr (nbits e 21 16)) = true) :=
  ⟨⟨around (slotDev 5 0), 47, 5999, [], [], 47, 5, by decide⟩,
  ⟨around (slotDev (2 ^ 30) 1), 47, 5999, [], [], 47, 2 ^ 30, by decide⟩,
  ⟨around (slotDev (2 ^ 31 + 47 * 65536 + 3) 0), 47, 5999, [1, 2], [], 47, 2 ^ 31 + 47 * 65536 + 3, by decide⟩⟩

theorem test_TheFabricCarriesAndIsTold_3 :
  (∃ (s : State) (lane : Fin 64) (_dir : Fin 2) (_page : Fin 2) (slot : Fin 8192), s.Runs ∧ lane.val < 48 ∧ slot.val < fabSlots) ∧
  (∃ (s : State) (lane : Fin 64) (dir : Fin 2) (page : Fin 2) (slot : Fin 8192), s.Runs ∧ lane.val < 48 ∧ slot.val < fabSlots ∧
    s.dev.pageUsed lane.val dir.val page.val = false) ∧
  (∃ (s : State) (lane : Fin 64) (dir : Fin 2) (page : Fin 2) (slot : Fin 8192), s.Runs ∧ lane.val < 48 ∧ slot.val < fabSlots ∧
    s.dev.pageUsed lane.val dir.val page.val = false) ∧
  (∃ (s : State) (lane : Fin 64) (dir : Fin 2) (page : Fin 2) (slot : Fin 8192), s.Runs ∧ lane.val < 48 ∧ slot.val < fabSlots ∧
    s.dev.pageUsed lane.val dir.val page.val = true) :=
  ⟨⟨around packDev, 47, 1, 0, 7, by decide⟩,
  ⟨around (packDev.wrN rFAB_CM_DATA 0xFFFFFFFF), 47, 1, 1, 5999, by decide⟩,
  ⟨around (packDev.wrN rFAB_CM_DATA 0xFFFFFFFF), 47, 0, 1, 0, by decide⟩,
  ⟨around packDev, 47, 0, 0, 0, by decide⟩⟩

theorem test_TheFabricCarriesAndIsTold_4 :
  (∃ (s : State) (table : Fin 2) (i : Fin 4096) (k : Nat), s.Runs ∧ routeKey table.val i.val = some k) ∧
  (∃ (s : State) (table : Fin 2) (i : Fin 4096) (k : Nat), s.Runs ∧ routeKey table.val i.val = some k) :=
  ⟨⟨around { live with fab := { routes := [(255, [1, 2, 3, 0])] } }, 0, 255, 255, by decide⟩,
  ⟨around (live.wrN (rFAB_TBL_DATA 0) 0xFFFFFFFF), 1, 4095, 8191, by decide⟩⟩

theorem test_TheFabricCarriesAndIsTold_5 :
  (∃ (s : State) (_val : Word), s.Runs ∧ s.dev.fabBusy = true) ∧
  (∃ (s : State) (_val : Word), s.Runs ∧ s.dev.fabBusy = false) ∧
  (∃ (s : State) (val : Word), s.Runs ∧ fieldOf (BitVec.toNat val) fFAB_CTRL_VER_MIN ≤ 1 ∧
    1 ≤ fieldOf (BitVec.toNat val) fFAB_CTRL_VER_MAX) ∧
  (∃ (s : State) (val : Word), s.Runs ∧
    (1 < fieldOf (BitVec.toNat val) fFAB_CTRL_VER_MIN ∨ fieldOf (BitVec.toNat val) fFAB_CTRL_VER_MAX = 0)) :=
  ⟨⟨around (bndDev 47 0), 0xFFFFFFFF, by decide⟩,
  ⟨around (live.put rFAB_STATUS fFAB_STATUS_CONFLICT 1), 0xFFFFFFFF, by decide⟩,
  ⟨around live, fabCtrlVal 1 1, by decide⟩,
  ⟨around live, fabCtrlVal 2 15, by decide⟩⟩

theorem test_TheFabricCarriesAndIsTold_6 :
  (∃ (s : State) (m : Fin 64) (c : Cmd) (k : Nat), c.isOwner = true ∧ s.Ready m 2562 c ∧ c.u8 0 < 2 ∧
    routeKey (c.u8 0) (c.u16 2) = some k ∧ c.endsAt 20 = true ∧ c.u8 1 = 0) ∧
  (∃ (s : State) (m : Fin 64) (c : Cmd) (k : Nat), c.isOwner = true ∧ s.Ready m 2562 c ∧ c.u8 0 < 2 ∧
    routeKey (c.u8 0) (c.u16 2) = some k ∧ c.endsAt 20 = true ∧ c.u8 1 = 1 ∧ ∀ (i : Nat), i < 4 → c.u32 (4 + 4 * i) = 0) ∧
  (∃ (s : State) (m : Fin 64) (c : Cmd), c.isOwner = true ∧ s.Ready m 2563 c ∧ c.u8 0 < 48 ∧ c.u8 1 < 2 ∧ c.u8 2 < 2 ∧
    c.u8 3 = 1 ∧ c.zero 6 2 = true ∧ c.u16 4 < fabSlots ∧ c.endsAt 12 = true ∧ cmEntryOk (c.u8 1) (c.u32 8) = true ∧
    s.dev.pageUsed (c.u8 0) (c.u8 1) (c.u8 2) = false) ∧
  (∃ (s : State) (m : Fin 64) (c : Cmd), c.isOwner = true ∧ s.Ready m 2565 c ∧ c.u8 0 < 16 ∧ c.zero 1 3 = true ∧
    c.endsAt 16 = true ∧ (∀ (w : Nat), w < 3 → badValue (rFAB_BRIDGE_MAC_LO (c.u8 0) + 4 * w) (c.u32 (4 + 4 * w)) = false) ∧
    c.u32 12 % 64 < 48 ∧ s.dev.bit (rUPL_PORT_CTRL (c.u32 12 % 64)) fUPL_PORT_CTRL_EN = true ∧
    s.dev.uplFirst (c.u32 12 % 64) = c.u32 12 % 64) :=
  ⟨⟨around (given routeDev (frC 0)), 63, frC 0, 8191, by decide⟩,
  ⟨around (given routeDev (frC 1)), 63, frC 1, 8191, by decide⟩,
  ⟨around (given packDev fcC), 63, fcC, by decide⟩,
  ⟨around (given (live.put (rUPL_PORT_CTRL 47) fUPL_PORT_CTRL_EN 1) fbr), 63, fbr, by decide⟩⟩

theorem test_BridgesAndDisagreement_1 :
  (∃ (s : State) (b : Fin 16), s.Runs ∧ s.dev.bridgeOk b.val = false) ∧
  (∃ (s : State) (b : Fin 16), s.Runs ∧ s.dev.bridgeOk b.val = true ∧ s.dev.zeroised = false ∧
    s.dev.linkUp (s.dev.bridgePort b.val) = false) ∧
  (∃ (s : State) (b : Fin 16) (c : List Byte) (body : List Byte) (f : List Byte) (buf : Buf) (d' : Dev), s.Runs ∧
    s.dev.bridgeOk b.val = true ∧ s.dev.zeroised = false ∧ s.dev.linkUp (s.dev.bridgePort b.val) = true ∧
    (s.dev.bridgeX b.val).hello = none ∧ c = s.dev.helloCell (List.replicate 12 0#8) (List.replicate 64 0#8) ∧
    body = slice c 12 34 ++ slice c 68 64 ∧
    f = s.dev.tunnelFrame (b.val) (fabHeader 3 7 false s.dev.initHops body.length 0 s.dev.shelfmark 0 none ++ body) ∧
    s.start.store [] none entFabric (chargeTenant 31) f.length 7 false false = (some (some buf, 0, 0), d')) :=
  ⟨⟨around live, 15, by decide⟩,
  ⟨around (brDev 0), 15, by decide⟩,
  ⟨around (brDev 1), 15, cellH, bodyH, frameH, bufH, stH.2, by decide, by decide, by decide, by decide, by decide, rfl, rfl, rfl,
    by rw [frameLen]; decide +kernel⟩⟩

theorem test_BridgesAndDisagreement_2 :
  ∃ (s : State) (b : Fin 16), s.Runs ∧ s.dev.bit (rFAB_BRIDGE_CTRL b.val) fFAB_BRIDGE_CTRL_UP = true ∧
    (s.dev.bridgeX b.val).lastTick + 64 ≤ s.dev.tickNow :=
  ⟨around { brDev 1 with regs := ((brDev 1).wrN (rFAB_BRIDGE_CTRL 15) 0xC000002F |>.wr64 rTICK_COUNT_LO rTICK_COUNT_HI 64).regs },
    15, by decide⟩

theorem test_BridgesAndDisagreement_3 :
  (∃ (s : State), s.Runs ∧ s.dev.fab.dupTick + 8000 ≤ s.dev.tickNow) ∧
  (∃ (s : State), s.Runs ∧ s.dev.tickNow < s.dev.fab.dupTick + 8000) :=
  ⟨⟨around ((live.put rFAB_STATUS fFAB_STATUS_CONFLICT 1).wr64 rTICK_COUNT_LO rTICK_COUNT_HI 8000), by decide⟩,
  ⟨around ((live.put rFAB_STATUS fFAB_STATUS_CONFLICT 1).wr64 rTICK_COUNT_LO rTICK_COUNT_HI 7999), by decide⟩⟩

theorem test_BridgesAndDisagreement_4 :
  (∃ (s : State) (_b : Fin 48) (_df : Bool) (_miss : Word), s.Runs ∧ s.dev.bit rFAB_CTRL fFAB_CTRL_ED_FOLLOW = false) ∧
  (∃ (s : State) (b : Fin 48) (df : Bool) (miss : Word) (h : Hello) (a : List Byte) (k : Nat) (e : Dev), s.Runs ∧
    s.dev.bit rFAB_CTRL fFAB_CTRL_ED_FOLLOW = true ∧ s.dev.higherEdition b.val = some h ∧ s.dev.col.staging = none ∧
    s.dev.fab.followTick = none ∧ entryReason 1 0 a = 0 ∧
    (s.start.setStaging (some (Staging.put ⟨[], []⟩ 1 0 a))).commitEdition { defFlags := df, rules := 0, actions := 1, miss := BitVec.toNat miss, number := h.number, digest := h.digest } = (resOk, k, e)) :=
  ⟨⟨around live, 47, true, 5, by decide⟩,
  ⟨around folDev, 47, true, 0, { helloW with digest := 0 }, actA, folR.2.1, folR.2.2, by decide +kernel⟩⟩

end Fabric

namespace Protection

def lb (n v : Nat) : List Nat := (List.range n).map (fun i => v / 256 ^ i % 256)

def nb (l : List Nat) : List Byte := l.map (BitVec.ofNat 8)

def pairDev (t kind st role : Nat) : Dev :=
  (((live.wrN (rPROT_PAIR_CFG t) (0x80000000 + kind * 2 ^ 30 + 5)).wrN (rPROT_PAIR_MATE t) 0x80000007).put (rPROT_PAIR_STATE t) fPROT_PAIR_STATE_PAIR_STATE st).put (rPROT_PAIR_STATE t) fPROT_PAIR_STATE_ROLE role

def repOf (ver tree flags : Nat) (cfg : List Byte) : List Byte := nb [ver, 0, flags, tree] ++ List.replicate 16 0 ++ cfg ++ List.replicate 49 0

def seekD : Dev := pairDev 47 1 prSeeking 0

def chD (kind role : Nat) : Dev := { pairDev 47 kind prPaired role with cat := { chans := [(9, { valid := true, us := true, prot := true, tree := 47, portId := 65535, tenant := 3, seqWin := 2 })], portMap := [(47 * 65536 + 65535, some 9)] } }

def tagB : List Byte := let t := nb [0xFF, 0xFF, 16]; t ++ [BitVec.ofNat 8 (crc8 t)]

def sq (n : Nat) : SeqOut := ⟨n, 7⟩

def fr : Dev := { (live.put (rTREE_LINE_CTRL 0) fTREE_LINE_CTRL_EN 1).put (rTREE_LINE_STATUS 0) fTREE_LINE_STATUS_FRAMING 1 with trees := [(0, { live := true })], cat := { chans := [(262143, { valid := true, term := 7 })], terms := [(7, { valid := true })] }, act := [(7, { state := .operating })] }

def strD (st : Bool) (n : Nat) : Dev := { live.wr64 rTICK_COUNT_LO rTICK_COUNT_HI n with streams := [(262143, { valid := true, started := st, h := 5, unseen := [3], oowRun := 2, cnt := [1, 2, 3, 4, 5, 6, 7, 8] })] }

def ppQ : Cmd := cmdOf 63 0x0901 none ([47, 1, 0, 0] ++ lb 8 0)

def ppW : Cmd := cmdOf 63 0x0901 none ([47, 0, 0, 0] ++ lb 4 0x7000003F ++ lb 4 0x800FFFFF)

def psC : Cmd := cmdOf 63 0x0902 none [47]

def pvC : Cmd := cmdOf 63 0x0903 (some 3) ([47, 0] ++ lb 2 65535)

def pwC : Cmd := cmdOf 63 0x0904 none [47, 0]

theorem test_PairsMeetAndExchange_1 :
  (∃ (s : State) (t : Fin 48) (_val : Word), s.Runs ∧ s.dev.treeOk t.val = true ∧ s.dev.pairEn t.val = false) ∧
  (∃ (s : State) (t : Fin 48) (val : Word), s.Runs ∧ s.dev.treeOk t.val = true ∧ s.dev.pairEn t.val = false ∧
    nbit (BitVec.toNat val) 31 = false) ∧
  (∃ (s : State) (t : Fin 48) (val : Word), s.Runs ∧ s.dev.treeOk t.val = true ∧ s.dev.pairEn t.val = false ∧
    nbit (BitVec.toNat val) 31 = true ∧ s.dev.pairBad (t.val) (BitVec.toNat val) (s.dev.rdN (rPROT_PAIR_MATE t.val)) = true) ∧
  (∃ (s : State) (t : Fin 48) (val : Word), s.Runs ∧ s.dev.treeOk t.val = true ∧ s.dev.pairEn t.val = false ∧
    nbit (BitVec.toNat val) 31 = true ∧ s.dev.pairBad (t.val) (BitVec.toNat val) (s.dev.rdN (rPROT_PAIR_MATE t.val)) = false) ∧
  (∃ (s : State) (t : Fin 48) (val : Word), s.Runs ∧ s.dev.treeOk t.val = true ∧ s.dev.pairEn t.val = true ∧
    BitVec.toNat val ≠ s.dev.rdN (rPROT_PAIR_MATE t.val)) :=
  ⟨⟨around live, 47, 0xFFFFFFFF, by decide⟩,
  ⟨around live, 47, 0x7FFFFFFF, by decide⟩,
  ⟨around live, 47, 0xC0000005, by decide⟩,
  ⟨around { live.wrN (rPROT_PAIR_MATE 47) 0x80000007 with pairs := [(47, { batch := 3 })] }, 47, 0xC000002F, by decide⟩,
  ⟨around (pairDev 47 1 2 1), 47, 5, by decide⟩⟩

theorem test_PairsMeetAndExchange_2 :
  (∃ (s : State) (t : Fin 48) (_ns : Fin 125000) (body : List Byte), s.Runs ∧
    (byteAt body 0 ≠ 1 ∨ byteAt body 3 ≠ s.dev.mateTree t.val)) ∧
  (∃ (s : State) (t : Fin 48) (_ns : Fin 125000) (body : List Byte), s.Runs ∧ s.dev.treeOk t.val = true ∧
    s.dev.pairEn t.val = true ∧ byteAt body 0 = 1 ∧ byteAt body 3 = s.dev.mateTree t.val ∧ nbit (byteAt body 2) 0 = false ∧
    s.dev.reportAgrees (t.val) body = true ∧ s.dev.reportEdition body = true ∧ s.dev.pairState t.val = prSeeking) ∧
  (∃ (s : State) (t : Fin 48) (_ns : Fin 125000) (body : List Byte), s.Runs ∧ s.dev.treeOk t.val = true ∧
    s.dev.pairEn t.val = true ∧ byteAt body 0 = 1 ∧ byteAt body 3 = s.dev.mateTree t.val ∧ nbit (byteAt body 2) 0 = false ∧
    (s.dev.reportAgrees (t.val) body = false ∨ s.dev.reportEdition body = false) ∧
    (s.dev.pairState t.val = prSeeking ∨ s.dev.pairState t.val = prPaired)) :=
  ⟨⟨around (pairDev 47 1 prSeeking 0), 47, 5, repOf 2 5 16 [], by decide⟩,
  ⟨around seekD, 47, 5, repOf 1 5 16 (seekD.reportCfg 47), by decide⟩,
  ⟨around seekD, 47, 5, repOf 1 5 0 (seekD.reportCfg 47), by decide⟩⟩

theorem test_PairsMeetAndExchange_3 :
  (∃ (s : State) (t : Fin 48) (port : Fin 65536) (_yellow : Bool) (body : List Byte) (c : Nat) (_k : Fin 2), s.Runs ∧
    s.dev.treeOk t.val = true ∧ s.dev.pairEn t.val = true ∧ s.dev.findChan t.val port.val = some c ∧ tagSeq body = none) ∧
  (∃ (s : State) (t : Fin 48) (port : Fin 65536) (_yellow : Bool) (body : List Byte) (c : Nat) (q : Nat), s.Runs ∧
    s.dev.treeOk t.val = true ∧ s.dev.pairEn t.val = true ∧ s.dev.findChan t.val port.val = some c ∧ tagSeq body = some q ∧
    (s.dev.chan c).prot = true ∧ s.dev.role t.val ≠ roMate ∧ (s.dev.stream c).started = false) :=
  ⟨⟨around (chD 0 0), 47, 65535, true, nb [0, 5, 16, 0], 9, 0, by decide +kernel⟩,
  ⟨around (chD 0 0), 47, 65535, true, tagB ++ nb [1, 2, 3, 4], 9, 65535, by decide +kernel⟩⟩

theorem test_PairsMeetAndExchange_4 :
  (∃ (s : State) (t : Fin 48) (_body : List Byte) (_k : Fin 4), s.Runs ∧
    (s.dev.pairState t.val ≠ prPaired ∨ s.dev.role t.val ≠ s.dev.roBottom t.val)) ∧
  (∃ (s : State) (t : Fin 48) (body : List Byte), s.Runs ∧ s.dev.treeOk t.val = true ∧ s.dev.pairEn t.val = true ∧
    s.dev.pairState t.val = prPaired ∧ s.dev.role t.val = s.dev.roBottom t.val ∧
    (s.dev.pair t.val).copies = (s.dev.pair t.val).fullSeen ∧ nbit (byteAt body 1) 0 = true) :=
  ⟨⟨around (pairDev 47 1 prSeeking 0), 47, [], 2, by decide⟩,
  ⟨around { pairDev 47 1 prPaired ((pairDev 47 1 prPaired 0).roBottom 47) with pairs := [(47, { copies := [(1, 2)], fullSeen := [(1, 2)] })] },
    47, nb [0, 1, 0, 0, 0, 0, 0, 0, 0xFF, 0xFF, 0xFF, 0xFF], by decide⟩⟩

theorem test_StreamsAndPairsAnswer_1 :
  (∃ (s : State) (c : Fin 262144), s.Runs ∧ s.dev.seqOutOf c.val = none) ∧
  (∃ (s : State) (c : Fin 262144) (x : SeqOut), s.Runs ∧ s.dev.seqOutOf c.val = some x ∧ 4 ≤ x.sends) ∧
  (∃ (s : State) (c : Fin 262144) (x : SeqOut), s.Runs ∧ s.dev.seqOutOf c.val = some x ∧ x.sends < 4 ∧
    s.dev.framing (s.dev.chan c.val).tree = true) :=
  ⟨⟨around live, 262143, by decide⟩,
  ⟨around { live with seqOut := [(262143, some (sq 4))] }, 262143, sq 4, by decide⟩,
  ⟨around { fr with seqOut := [(262143, some (sq 3))] }, 262143, sq 3, by decide⟩⟩

theorem test_StreamsAndPairsAnswer_2 :
  (∃ (s : State) (c : Fin 262144), s.Runs ∧ (s.dev.stream c.val).cnt.length = 8 ∧ (s.dev.stream c.val).started = true ∧
    max 1 (s.dev.get rPROT_TIMERS fPROT_TIMERS_RESET_TICKS) ≤ s.dev.tickNow - (s.dev.stream c.val).lastTick) ∧
  (∃ (s : State) (c : Fin 262144), s.Runs ∧ (s.dev.stream c.val).cnt.length = 8 ∧
    ((s.dev.stream c.val).started = false ∨ s.dev.tickNow - (s.dev.stream c.val).lastTick < max 1 (s.dev.get rPROT_TIMERS fPROT_TIMERS_RESET_TICKS))) ∧
  (∃ (s : State) (c : Fin 262144), s.Runs ∧ (s.dev.stream c.val).cnt.length = 8) :=
  ⟨⟨around (strD true 100000000), 262143, by decide⟩,
  ⟨around (strD false 100000000), 262143, by decide⟩,
  ⟨around (strD true 0), 262143, by decide⟩⟩

theorem test_StreamsAndPairsAnswer_3 :
  (∃ (s : State) (m : Fin 64) (c : Cmd), s.Ready m 2305 c ∧ c.isOwner = true ∧ s.dev.treeOk (c.u8 0) = true ∧ c.zero 2 2 = true ∧
    c.endsAt 12 = true ∧ c.u8 1 = 1) ∧
  (∃ (s : State) (m : Fin 64) (c : Cmd), s.Ready m 2305 c ∧ c.isOwner = true ∧ s.dev.treeOk (c.u8 0) = true ∧ c.zero 2 2 = true ∧
    c.endsAt 12 = true ∧ c.u8 1 = 0 ∧ s.dev.pairEn (c.u8 0) = false ∧ badValue (rPROT_PAIR_CFG (c.u8 0)) (c.u32 4) = false ∧
    badValue (rPROT_PAIR_CFG (c.u8 0) + 4) (c.u32 8) = false ∧ nbit (c.u32 4) 31 = false) :=
  ⟨⟨around (given (pairDev 47 1 prPaired 1) ppQ), 63, ppQ, by decide⟩,
  ⟨around (given live ppW), 63, ppW, by decide⟩⟩

theorem test_StreamsAndPairsAnswer_4 :
  ∃ (s : State) (m : Fin 64) (c : Cmd), s.Ready m 2306 c ∧ c.isOwner = true ∧ s.dev.treeOk (c.u8 0) = true ∧ c.endsAt 1 = true :=
  ⟨around (given (pairDev 47 1 prPaired 1) psC), 63, psC, by decide⟩

theorem test_StreamsAndPairsAnswer_5 :
  ∃ (s : State) (m : Fin 64) (c : Cmd) (h : Nat), s.Ready m 2307 c ∧ s.dev.findChan (c.u8 0) (c.u16 2) = some h ∧ c.u8 1 = 0 ∧
    c.endsAt 4 = true ∧ (s.dev.chan h).prot = true ∧ (s.dev.stream h).cnt.length = 8 ∧ (c.isOwner = true ∨
    c.caller = some (s.dev.chan h).tenant) :=
  ⟨around (given (chD 0 0) pvC), 63, pvC, 9, by decide⟩

theorem test_StreamsAndPairsAnswer_6 :
  ∃ (s : State) (m : Fin 64) (c : Cmd), s.Ready m 2308 c ∧ c.isOwner = true ∧ s.dev.treeOk (c.u8 0) = true ∧ c.u8 1 = 0 ∧
    c.endsAt 2 = true ∧ s.dev.pairEn (c.u8 0) = true ∧ s.dev.pairKind (c.u8 0) = 1 ∧ s.dev.pairState (c.u8 0) = prPaired ∧
    s.dev.role (c.u8 0) = roActive ∧ s.dev.bit (rPROT_PAIR_STATE (c.u8 0)) fPROT_PAIR_STATE_STBY_OK = true ∧
    s.dev.tick.now + 100000 ≤ 125000 :=
  ⟨around (given { (pairDev 47 1 prPaired roActive).put (rPROT_PAIR_STATE 47) fPROT_PAIR_STATE_STBY_OK 1 with tick := { now := 25000 } } pwC),
    63, pwC, by decide⟩

end Protection

namespace Almanac

def lb (n v : Nat) : List Nat := (List.range n).map (fun i => v / 256 ^ i % 256)

def almDev (kind st : Nat) (x : AlmState) : Dev := { (live.put rALM_SRC fALM_SRC_KIND kind).put rALM_STATUS fALM_STATUS_STATE st with alm := x }

def atT (d : Dev) (n : Nat) : Dev := d.wr64 rTICK_COUNT_LO rTICK_COUNT_HI n

def pinDev (n : Nat) : Dev := { (atT live 9).put rALM_PIN_CTRL fALM_PIN_CTRL_EN 1 with alm := { stamps := List.replicate n 77 } }

def todDev : Dev := { ((live.put rALM_CTRL fALM_CTRL_TOD_EN 1).put (rTREE_LINE_CTRL 47) fTREE_LINE_CTRL_MODE 2).put (rTREE_LINE_STATUS 47) fTREE_LINE_STATUS_FRAMING 1 with trees := [(47, { live := true })] }

def glkD (st : Nat) (x : GlkPort) : Dev := { live.put rGLK_STATUS (fPortState 1) st with glk := { portB := x, freqSent := true, freqSeq := 65535 }, alm := { sent := -3 } }

def tst : Cmd := cmdOf 63 0x0702 (some 3) [0]

def tso (k : Nat) : Cmd := cmdOf 63 0x0703 none [k, 63, 0, 0]

def tse : Cmd := cmdOf 63 0x0704 none (lb 6 (2 ^ 48 - 1) ++ [0, 0] ++ lb 4 999999999)

def tpu : Cmd := cmdOf 63 0x0705 none ([3, 0, 0, 0] ++ lb 4 0xF800FFFF ++ lb 4 5 ++ lb 4 5 ++ lb 4 5 ++ lb 4 5 ++ lb 4 5 ++ lb 4 5)

def tto : Cmd := cmdOf 63 0x0706 none ([47, 0] ++ lb 7 (2 ^ 51 - 1))

def tra (f : Nat) (w : Option Nat) : Cmd := cmdOf 63 0x0707 w ([f, 0, 0, 0] ++ lb 4 0xFFFFFF ++ lb 2 1023)

theorem test_TheServoKeepsTime_1 :
  (∃ (s : State) (_val : Word) (_ns : Fin 125000), s.Runs ∧ s.dev.srcKind ≠ 1 ∧ s.dev.srcKind ≠ 4) ∧
  (∃ (s : State) (val : Word) (_ns : Fin 125000) (θ : Int), s.Runs ∧ (s.dev.srcKind = 1 ∨ s.dev.srcKind = 4) ∧
    s.dev.servo = svLocked ∧ θ = sval 64 (s.dev.rdN rALM_MEAS_LO + 2 ^ 32 * BitVec.toNat val) ∧ ↑θ.natAbs ≤ s.dev.unlockThr) :=
  ⟨⟨around live, 0xFFFFFFFF, 124999, by decide⟩,
  ⟨around ((almDev 1 svLocked { r := -5000, lastOff := 3 }).wrN rALM_MEAS_LO 300), 0, 5, 300, by decide⟩⟩

theorem test_TheServoKeepsTime_2 :
  (∃ (s : State), s.Runs ∧ s.dev.tickNow < s.dev.alm.lastOff + s.dev.srcTimeout) ∧
  (∃ (s : State), s.Runs ∧ s.dev.alm.lastOff + s.dev.srcTimeout ≤ s.dev.tickNow ∧ s.dev.servo = svLocked) ∧
  (∃ (s : State), s.Runs ∧ s.dev.servo ≠ svHoldover) ∧
  (∃ (s : State), s.Runs ∧ s.dev.servo = svHoldover ∧
    s.dev.get rALM_HOLD fALM_HOLD_HOLD_QUAL ≤ min 65535 ((s.dev.tickNow - s.dev.alm.holdTick) / 8000)) :=
  ⟨⟨around (almDev 1 svLocked { lastOff := 3 }), by decide⟩,
  ⟨around (atT (almDev 1 svLocked { r := -77, p := 5, lastOff := 3 }) (3 + live.srcTimeout)), by decide⟩,
  ⟨around (almDev 1 svLocked { }), by decide⟩,
  ⟨around (atT (almDev 1 svHoldover { holdTick := 10 }) (10 + 8000 * 65535)), by decide⟩⟩

theorem test_TheServoKeepsTime_3 :
  (∃ (s : State) (val : Word) (_ns : Fin 125000) (_frac : Fin 65536), s.Runs ∧ nbit (BitVec.toNat val) 0 = false) ∧
  (∃ (s : State) (val : Word) (ns : Fin 125000) (_frac : Fin 65536) (x : Nat), s.Runs ∧ nbit (BitVec.toNat val) 0 = true ∧
    x = s.dev.tickNow * 125000 + max s.dev.tick.now ns.val) :=
  ⟨⟨around live, 0xFFFFFFFE, 5, 6, by decide⟩,
  ⟨around (atT live (2 ^ 55)), 1, 124999, 65535, (2 ^ 55 * 125000 + 124999), by decide⟩⟩

theorem test_TheServoKeepsTime_4 :
  (∃ (s : State) (val : Word), s.Runs ∧ fieldOf (BitVec.toNat val) fALM_SRC_KIND = s.dev.get rALM_SRC fALM_SRC_KIND ∧
    fieldOf (BitVec.toNat val) fALM_SRC_INDEX = s.dev.get rALM_SRC fALM_SRC_INDEX) ∧
  (∃ (s : State) (val : Word), s.Runs ∧ fieldOf (BitVec.toNat val) fALM_SRC_KIND < 5 ∧
    fieldOf (BitVec.toNat val) fALM_SRC_KIND ≠ s.dev.srcKind ∧ s.dev.servo = svLocked) :=
  ⟨⟨around (almDev 1 svLocked { }), 0x3FFFFFC0, by decide⟩,
  ⟨around (almDev 1 svLocked { }), 0x80000005, by decide⟩⟩

theorem test_TheServoKeepsTime_5 :
  (∃ (s : State) (_ns : Fin 125000), s.Runs ∧ s.dev.bit rALM_PIN_CTRL fALM_PIN_CTRL_EN = false) ∧
  (∃ (s : State) (_ns : Fin 125000), s.Runs ∧ s.dev.bit rALM_PIN_CTRL fALM_PIN_CTRL_EN = true ∧ s.dev.alm.lastEdge = none ∧
    s.dev.srcKind ≠ 3 ∧ s.dev.alm.stamps.length < 16) ∧
  (∃ (s : State) (_ns : Fin 125000), s.Runs ∧ s.dev.bit rALM_PIN_CTRL fALM_PIN_CTRL_EN = true ∧ s.dev.alm.lastEdge = none ∧
    s.dev.srcKind ≠ 3 ∧ 16 ≤ s.dev.alm.stamps.length) :=
  ⟨⟨around live, 5, by decide⟩,
  ⟨around ((pinDev 15).put rALM_PIN_CTRL fALM_PIN_CTRL_DELAY 0x8000), 124999, by decide⟩,
  ⟨around (pinDev 16), 0, by decide⟩⟩

theorem test_TheServoKeepsTime_6 :
  (∃ (s : State), s.Runs ∧ s.dev.alm.stamps = []) ∧
  (∃ (s : State) (x : Nat) (q : List Nat), s.Runs ∧ s.dev.alm.stamps = x :: q) :=
  ⟨⟨around live, by decide⟩,
  ⟨around { pinDev 0 with alm := { stamps := [2 ^ 70, 5] } }, 2 ^ 70, [5], by decide⟩⟩

theorem test_TheServoKeepsTime_7 :
  ∃ (s : State) (_k : Fin 4) (_w : Fin 7) (_val : Word), s.Runs :=
  ⟨around live, 3, 6, 0xFFFFFFFF, by decide⟩

theorem test_TimeIsToldAndSet_1 :
  (∃ (s : State), s.Runs ∧ s.dev.bit rALM_CTRL fALM_CTRL_TOD_EN = false) ∧
  (∃ (s : State), s.Runs ∧ s.dev.bit rALM_CTRL fALM_CTRL_TOD_EN = true ∧ s.dev.alm.todTick = none) :=
  ⟨⟨around (live.put rALM_CTRL fALM_CTRL_TOD_EN 0), by decide⟩,
  ⟨around todDev, by decide⟩⟩

theorem test_TimeIsToldAndSet_2 :
  (∃ (s : State) (p : Fin 2) (_seq : Fin 65536) (_applied : Fin 65536) (_freq : Word), s.Runs ∧ s.dev.portState p.val ≠ 4) ∧
  (∃ (s : State) (p : Fin 2) (seq : Fin 65536) (applied : Fin 65536) (freq : Word), s.Runs ∧ s.dev.Takes p.val seq.val ∧
    s.dev.glk.freqSent = true ∧ applied.val = s.dev.glk.freqSeq ∧ BitVec.toNat freq = sfield 32 s.dev.alm.sent) ∧
  (∃ (s : State) (p : Fin 2) (seq : Fin 65536) (applied : Fin 65536) (_freq : Word), s.Runs ∧ s.dev.Takes p.val seq.val ∧
    applied.val ≠ s.dev.glk.freqSeq) :=
  ⟨⟨around (glkD 3 { }), 1, 0, 0, 0, by decide⟩,
  ⟨around (glkD 4 { rxNext := 65535 }), 1, 65535, 65535, 0xFFFFFFFD, by decide⟩,
  ⟨around (glkD 4 { rxNext := 65535 }), 1, 65535, 65534, 0xFFFFFFFD, by decide⟩⟩

theorem test_TimeIsToldAndSet_3 :
  (∃ (s : State), s.Runs ∧ (s.dev.glk.freqSent = false ∨ s.dev.bit rGLK_STATUS fGLK_STATUS_FREQ_ACKED = true)) ∧
  (∃ (s : State), s.Runs ∧ s.dev.glk.freqSent = true ∧ s.dev.bit rGLK_STATUS fGLK_STATUS_FREQ_ACKED = false) :=
  ⟨⟨around live, by decide⟩,
  ⟨around (glkD 4 { }), by decide⟩⟩

theorem test_TimeIsToldAndSet_4 :
  ∃ (s : State) (m : Fin 64) (c : Cmd), s.Ready m 1794 c ∧ c.u8 0 = 0 ∧ c.endsAt 1 = true :=
  ⟨around (given (almDev 1 svLocked { }) tst), 63, tst, by decide⟩

theorem test_TimeIsToldAndSet_5 :
  ∃ (s : State) (m : Fin 64) (c : Cmd), s.Ready m 1795 c ∧ c.isOwner = true ∧ c.u8 0 < 8 ∧ c.u8 0 ≠ 1 ∧ c.u8 1 < 64 ∧
    c.u8 2 = 0 ∧ c.zero 3 1 = true ∧ c.endsAt 4 = true :=
  ⟨around (given (almDev 1 svLocked { }) (tso 7)), 63, tso 7, by decide⟩

theorem test_TimeIsToldAndSet_6 :
  (∃ (s : State) (m : Fin 64) (c : Cmd), s.Ready m 1796 c ∧ c.isOwner = true ∧ c.zero 6 2 = true ∧ c.u32 8 < 1000000000 ∧
    c.endsAt 12 = true ∧ s.dev.stepFree = false) ∧
  (∃ (s : State) (m : Fin 64) (c : Cmd), s.Ready m 1796 c ∧ c.isOwner = true ∧ c.zero 6 2 = true ∧ c.u32 8 < 1000000000 ∧
    c.endsAt 12 = true ∧ s.dev.stepFree = true) :=
  ⟨⟨around (given (live.put (rTREE_LINE_CTRL 0) fTREE_LINE_CTRL_EN 1) tse), 63, tse, by decide⟩,
  ⟨around (given live tse), 63, tse, by decide⟩⟩

theorem test_TimeIsToldAndSet_7 :
  ∃ (s : State) (m : Fin 64) (c : Cmd), s.Ready m 1797 c ∧ c.isOwner = true ∧ c.u8 0 < 4 ∧ c.zero 1 3 = true ∧
    c.endsAt 32 = true ∧ ∀ (w : Nat), w < 7 → badValue (rALM_PULSE_CTRL (c.u8 0) + 4 * w) (c.u32 (4 + 4 * w)) = false :=
  ⟨around (given live tpu), 63, tpu, by decide⟩

theorem test_TimeIsToldAndSet_8 :
  ∃ (s : State) (m : Fin 64) (c : Cmd), s.Ready m 1798 c ∧ c.isOwner = true ∧ s.dev.treeOk (c.u8 0) = true ∧ c.zero 1 1 = true ∧
    leAt c.req 2 7 < 2 ^ 51 ∧ c.endsAt 9 = true :=
  ⟨around (given todDev tto), 63, tto, by decide⟩

theorem test_TimeIsToldAndSet_9 :
  (∃ (s : State) (m : Fin 64) (c : Cmd), s.Ready m 1799 c ∧ c.zero 1 3 = true ∧ c.u32 4 < 2 ^ 24 ∧ c.u16 8 < 1024 ∧
    c.endsAt 10 = true ∧ c.u8 0 = 1) ∧
  (∃ (s : State) (m : Fin 64) (c : Cmd), s.Ready m 1799 c ∧ c.zero 1 3 = true ∧ c.u32 4 < 2 ^ 24 ∧ c.u16 8 < 1024 ∧
    c.endsAt 10 = true ∧ c.u8 0 = 0 ∧ c.isOwner = true) :=
  ⟨⟨around (given live (tra 1 (some 3))), 63, tra 1 (some 3), by decide⟩,
  ⟨around (given live (tra 0 none)), 63, tra 0 none, by decide⟩⟩

end Almanac

namespace Link

def nb (l : List Nat) : List Byte := l.map (BitVec.ofNat 8)

def portDev (st : Nat) (x : GlkPort) : Dev := { live.put rGLK_STATUS (fPortState 1) st with glk := { portB := x } }

def tr0 : Trans := ⟨0x82, 1, 65535, [1, 2, 3]⟩

def markB (p : Nat) : List Byte := let b := nb [0xA5, p * 64 + 1, 0, 0, 0, 0, 0]; b ++ [BitVec.ofNat 8 (crc8 b)]

def upP : Dev := portDev 4 { rxNext := 65535, limit := [4096, 4096, 4096] }

theorem test_TheLinkAlignsAndDelivers_1 :
  (∃ (s : State) (_l : Fin 8), s.Runs) ∧
  (∃ (s : State) (l : Fin 8), s.Runs ∧ nbit (s.dev.port (glkPortOf l.val)).locked (glkLaneOf l.val) = false) ∧
  (∃ (s : State) (l : Fin 8) (_hdr : Fin 4) (_bytes : List Byte) (_bip : Byte) (_skew : Fin 4096), s.Runs ∧
    nbit (s.dev.port (glkPortOf l.val)).locked (glkLaneOf l.val) = false) ∧
  (∃ (s : State) (l : Fin 8), s.Runs ∧ nbit (s.dev.port (glkPortOf l.val)).locked (glkLaneOf l.val) = true ∧
    s.dev.portState (glkPortOf l.val) = 4) :=
  ⟨⟨around (portDev 1 { locked := 7 }), 7, by decide⟩,
  ⟨around (portDev 2 { locked := 7 }), 7, by decide⟩,
  ⟨around (portDev 2 { locked := 7 }), 7, 3, [], 5, 4095, by decide⟩,
  ⟨around (portDev 4 { locked := 15, store := [tr0] }), 7, by decide⟩⟩

theorem test_TheLinkAlignsAndDelivers_2 :
  (∃ (s : State) (l : Fin 8) (bytes : List Byte) (_bip : Byte) (_skew : Fin 4096), s.Runs ∧
    nbit (s.dev.port (glkPortOf l.val)).locked (glkLaneOf l.val) = true ∧ markValid bytes = false ∧
    s.dev.portState (glkPortOf l.val) < 2) ∧
  (∃ (s : State) (l : Fin 8) (bytes : List Byte) (_bip : Byte) (skew : Fin 4096), s.Runs ∧
    nbit (s.dev.port (glkPortOf l.val)).locked (glkLaneOf l.val) = true ∧ markValid bytes = true ∧
    byteAt bytes 1 / 64 = glkPortOf l.val ∧ s.dev.portState (glkPortOf l.val) = 2 ∧ skew.val ≤ 16 ∧
    (s.dev.port (glkPortOf l.val)).marks.length = 4 ∧ (∀ (n : Nat), n ∈ (s.dev.port (glkPortOf l.val)).bad → n < 4) ∧
    ∀ (j : Nat), j < 4 → (if j = glkLaneOf l.val then 1 else 2) ≤ (s.dev.port (glkPortOf l.val)).marks.getD j 0) :=
  ⟨⟨around (portDev 1 { locked := 15 }), 7, [], 5, 4095, by decide⟩,
  ⟨around (portDev 2 { locked := 15, marks := [2, 2, 2, 1], bad := [3, 0, 0, 3] }), 7, markB 1, 5, 16, by decide +kernel⟩⟩

theorem test_TheLinkAlignsAndDelivers_3 :
  (∃ (s : State) (p : Fin 2) (val : Word), s.Runs ∧
    (nbit (BitVec.toNat val) (1 - p.val) = true ↔ s.dev.portState (1 - p.val) ≠ 0) ∧ nbit (BitVec.toNat val) p.val = true ∧
    s.dev.portState p.val = 0 ∧ (s.dev.port p.val).locked ≠ 15) ∧
  (∃ (s : State) (p : Fin 2) (val : Word), s.Runs ∧
    (nbit (BitVec.toNat val) (1 - p.val) = true ↔ s.dev.portState (1 - p.val) ≠ 0) ∧ nbit (BitVec.toNat val) p.val = false ∧
    s.dev.portState p.val = 4) :=
  ⟨⟨around ((portDev 0 { locked := 14 }).put rGLK_STATUS (fPortState 0) 0), 1, 2, by decide⟩,
  ⟨around ((portDev 4 { locked := 15, store := [tr0] }).put rGLK_STATUS (fPortState 0) 0), 1, 0, by decide⟩⟩

theorem test_TheLinkAlignsAndDelivers_4 :
  (∃ (s : State) (p : Fin 2) (seq : Fin 65536) (cls : Fin 256) (limit : Word) (nak : Bool) (i : Instr), s.Runs ∧
    i ∈ [Instr.ack p seq nak false, Instr.credit p cls limit false]) ∧
  (∃ (s : State) (p : Fin 2) (seq : Fin 65536) (cls : Fin 256) (limit : Word) (nak : Bool) (i : Instr), s.Runs ∧
    s.dev.portState p.val ≠ 4 ∧ i ∈ [Instr.ack p seq nak true, Instr.credit p cls limit true, Instr.replayTimeout p]) ∧
  (∃ (s : State) (p : Fin 2) (seq : Fin 65536) (_cls : Fin 256) (_limit : Word) (_nak : Bool) (x : Machine.Trans) (rest : List Machine.Trans),
    s.Runs ∧ s.dev.portState p.val = 4 ∧ (s.dev.port p.val).queue = [] ∧ (s.dev.port p.val).store = x :: rest ∧ x.seq = seq.val) ∧
  (∃ (s : State) (p : Fin 2) (_seq : Fin 65536) (cls : Fin 256) (limit : Word) (_nak : Bool), s.Runs ∧
    s.dev.portState p.val = 4 ∧ (s.dev.port p.val).queue = [] ∧ cls.val < 3 ∧
    (BitVec.toNat limit + 2 ^ 32 - (s.dev.port p.val).limit.getD (cls.val) 0) % 2 ^ 32 < 2 ^ 31) :=
  ⟨⟨around (portDev 4 { locked := 15, store := [tr0] }), 1, 65535, 255, 0xFFFFFFFF, true, .ack 1 65535 true false, by decide⟩,
  ⟨around (portDev 3 { locked := 15, store := [tr0] }), 1, 65535, 255, 0xFFFFFFFF, true, .ack 1 65535 true true, by decide⟩,
  ⟨around (portDev 4 { locked := 15, store := [tr0, tr0], noProgress := 2 }), 1, 65535, 255, 0xFFFFFFFF, true, tr0, [tr0],
    by decide⟩,
  ⟨around (portDev 4 { limit := [1, 2, 0xFFFFFFF0] }), 1, 65535, 2, 5, true, by decide⟩⟩

theorem test_TheLinkAlignsAndDelivers_5 :
  (∃ (s : State) (p : Fin 2), s.Runs ∧ (s.dev.port p.val).store = []) ∧
  (∃ (s : State) (p : Fin 2), s.Runs ∧ s.dev.portState p.val = 4 ∧ (s.dev.port p.val).store ≠ [] ∧
    (s.dev.port p.val).noProgress < 3) ∧
  (∃ (s : State) (p : Fin 2), s.Runs ∧ s.dev.portState p.val = 4 ∧ (s.dev.port p.val).store ≠ [] ∧
    3 ≤ (s.dev.port p.val).noProgress) :=
  ⟨⟨around (portDev 4 { }), 1, by decide⟩,
  ⟨around (portDev 4 { store := [tr0], noProgress := 2 }), 1, by decide⟩,
  ⟨around (portDev 4 { locked := 15, store := [tr0], noProgress := 3 }), 1, by decide⟩⟩

theorem test_TheLinkAlignsAndDelivers_6 :
  (∃ (s : State) (p : Fin 2) (seq : Fin 65536) (_typ : Fin 256) (_words : Fin 65536), s.Runs ∧ s.dev.Takes p.val seq.val) ∧
  (∃ (s : State) (p : Fin 2) (_seq : Fin 65536) (_typ : Fin 256) (_words : Fin 65536), s.Runs ∧ s.dev.portState p.val = 4) :=
  ⟨⟨around (portDev 4 { rxNext := 65535 }), 1, 65535, 99, 2, by decide⟩,
  ⟨around (portDev 4 { rxNext := 65535 }), 1, 65535, 1, 520, by decide⟩⟩

theorem test_TheHostReachesRegisters_1 :
  ∃ (s : State) (p : Fin 2) (seq : Fin 65536) (req : Fin 32) (addr : Word) (tag : Fin 65536) (more : Fin 64) (vals : List Word) (i : Instr),
    s.Runs ∧ s.dev.portState p.val ≠ 4 ∧ i ∈ [Instr.regRead p seq req addr tag more, Instr.regWrite p seq req addr vals] :=
  ⟨around (portDev 3 { }), 1, 0, 31, 0, 5, 63, [7], .regRead 1 0 31 0 5 63, by decide⟩

theorem test_TheHostReachesRegisters_2 :
  ∃ (s : State) (p : Fin 2) (seq : Fin 65536) (addr : Word) (_tag : Fin 65536), s.Runs ∧ s.dev.Takes p.val seq.val ∧
    s.dev.MaySend (p.val) 129 16 ∧ BitVec.toNat addr % 4 = 0 ∧ inBlock (BitVec.toNat addr) = true ∧ (BitVec.toNat addr < 524288 ∨
    720896 ≤ BitVec.toNat addr) :=
  ⟨around upP, 1, 65535, 0x1C0FFFC, 65535, by decide⟩

theorem test_TheHostReachesRegisters_3 :
  (∃ (s : State) (addr : Word) (_val : Word), s.Runs ∧ 65536 ≤ BitVec.toNat addr ∧ BitVec.toNat addr < 262144 ∧
    BitVec.toNat addr ≠ rRST_CTRL ∧ BitVec.toNat addr ≠ rRST_BLOCK ∧ BitVec.toNat addr ≠ rBOOT_FLASH_CMD ∧ s.dev.bootState ≠ 7 ∧
    BitVec.toNat addr % 4 = 0) ∧
  (∃ (s : State) (addr : Word) (_val : Word), s.Runs ∧ 65536 ≤ BitVec.toNat addr ∧ BitVec.toNat addr < 262144 ∧
    BitVec.toNat addr ≠ rRST_CTRL ∧ BitVec.toNat addr ≠ rRST_BLOCK ∧ BitVec.toNat addr ≠ rBOOT_FLASH_CMD ∧ s.dev.bootState ≠ 7 ∧
    BitVec.toNat addr % 4 = 0 ∧ regFind (BitVec.toNat addr) = none) ∧
  (∃ (s : State) (addr : Word) (_val : Word) (p : Fin 2) (seq : Fin 65536), s.Runs ∧ 65536 ≤ BitVec.toNat addr ∧
    BitVec.toNat addr < 262144 ∧ BitVec.toNat addr ≠ rRST_CTRL ∧ BitVec.toNat addr ≠ rRST_BLOCK ∧
    BitVec.toNat addr ≠ rBOOT_FLASH_CMD ∧ s.dev.bootState ≠ 7 ∧ BitVec.toNat addr % 4 = 0 ∧ s.dev.Takes p.val seq.val) :=
  ⟨⟨around live, 0x10000, 0xFFFFFFFF, by decide⟩,
  ⟨around live, 0x3FFFC, 0xFFFFFFFF, by decide⟩,
  ⟨around upP, 0x10000, 0xFFFFFFFF, 1, 65535, by decide⟩⟩

theorem test_TheHostReachesRegisters_4 :
  ∃ (s : State) (p : Fin 2) (seq : Fin 65536) (req : Fin 32) (addr : Word) (tag : Fin 65536) (val : Word) (i : Instr), s.Runs ∧
    s.dev.Takes p.val seq.val ∧ req.val < 16 ∧ BitVec.toNat addr % 4 = 0 ∧ (inWindows (BitVec.toNat addr) = false ∨
    winTenant (BitVec.toNat addr) ≠ req.val) ∧ i ∈ [Instr.regRead p seq req addr tag 0, Instr.regWrite p seq req addr [val]] :=
  ⟨around upP, 1, 65535, 15, 0x4E000000, 5, 8, .regRead 1 65535 15 0x4E000000 5 0, by decide⟩

end Link

namespace Mailboxes

def upDev (x : GlkPort) : Dev := { live.put rGLK_STATUS (fPortState 1) 4 with glk := { portB := x } }

def rdy (d : Dev) : Dev := d.put rBOOT_STATUS fBOOT_STATUS_STATE 5

def doorWord (code len : Nat) : Word := BitVec.ofNat 32 ((1 <<< 31) + (code <<< fMBX_DOORBELL_CODE.lo) + (len <<< fMBX_DOORBELL_REQ_LEN.lo))

def ringCtl (d : Dev) (r n : Nat) : Dev := ((d.put (rGLK_RING_CTRL r) fGLK_RING_CTRL_EN 1).put (rGLK_RING_HEAD r) fGLK_RING_HEAD_HEAD n)

def upX : GlkPort := { rxNext := 65535, limit := [4096, 4096, 4096] }

def ringUp (r : Nat) (x : RingX) : Dev := let d := ringCtl (upDev upX) r 0; { d with glk := { d.glk with rings := [(r, x)] } }

def ar (n : Nat) : AlertRec := ⟨n, 0x1004, 5, [1, 2]⟩

def dl : Cmd := cmdOf 63 0x0C04 none [0, 0, 0, 0]

def dm : Cmd := cmdOf 63 0x0C05 none [0, 0, 0, 0]

theorem test_MailboxesRingsAndAlerts_1 :
  (∃ (s : State) (m : Fin 64) (val : Word), s.Runs ∧ nbit (BitVec.toNat val) 31 = true ∧
    s.dev.get (rMBX_STATUS m.val) fMBX_STATUS_STATE = 1) ∧
  (∃ (s : State) (m : Fin 64) (val : Word) (code : Nat) (len : Nat) (n : Nat) (req : List Byte), s.Runs ∧
    nbit (BitVec.toNat val) 31 = true ∧ s.dev.get (rMBX_STATUS m.val) fMBX_STATUS_STATE ≠ 1 ∧ s.dev.mbxReady = true ∧
    code = fieldOf (BitVec.toNat val) fMBX_DOORBELL_CODE ∧ len = fieldOf (BitVec.toNat val) fMBX_DOORBELL_REQ_LEN ∧
    req = loadBytes zeroByte s.mem (mbxBase m.val + 1024) (min len 1024) ∧ basicLen code req = some n ∧ n ≤ len ∧ len ≤ 1024) ∧
  (∃ (s : State) (m : Fin 64) (val : Word) (code : Nat) (len : Nat) (_n : Nat) (req : List Byte), s.Runs ∧
    nbit (BitVec.toNat val) 31 = true ∧ s.dev.get (rMBX_STATUS m.val) fMBX_STATUS_STATE ≠ 1 ∧ s.dev.mbxReady = true ∧
    code = fieldOf (BitVec.toNat val) fMBX_DOORBELL_CODE ∧ len = fieldOf (BitVec.toNat val) fMBX_DOORBELL_REQ_LEN ∧
    req = loadBytes zeroByte s.mem (mbxBase m.val + 1024) (min len 1024) ∧ basicLen code req = none) :=
  ⟨⟨around ((rdy live).put (rMBX_STATUS 63) fMBX_STATUS_STATE 1), 63, 0xFFFFFFFF, by decide⟩,
  ⟨around (rdy live), 63, doorWord 0x0101 4, 0x0101, 4, 4, [0, 0, 0, 0], by decide⟩,
  ⟨around (rdy live), 63, doorWord 0x0FFF 4, 0x0FFF, 4, 4, [0, 0, 0, 0], by decide⟩⟩

theorem test_MailboxesRingsAndAlerts_2 :
  (∃ (s : State) (i : Fin 16) (_val : Word), s.Runs ∧ i.val < 2) ∧
  (∃ (s : State) (i : Fin 16) (_val : Word), s.Runs ∧ 2 ≤ i.val ∧ ∀ (j : Nat), j < 4 → s.dev.mbxFree (4 * i.val + j) = true) :=
  ⟨⟨around live, 1, 0xFFFFFFFF, by decide⟩,
  ⟨{ around live with mem := storeBytes zeroByte [] (mbxBase 61 + 0x400) [7] }, 15, 0x00FF8F85, by decide⟩⟩

theorem test_MailboxesRingsAndAlerts_3 :
  ∃ (s : State) (r : Fin 24) (val : Word), s.Runs ∧ nbit (BitVec.toNat val) 31 = true ∧
    s.dev.bit (rGLK_RING_CTRL r.val) fGLK_RING_CTRL_EN = false :=
  ⟨around live, 23, 0xFFFFFFFF, by decide⟩

theorem test_MailboxesRingsAndAlerts_4 :
  (∃ (s : State) (r : Fin 24) (_val : Word), s.Runs ∧ s.dev.ringRuns r.val = false ∧ (s.dev.ring r.val).waits = []) ∧
  (∃ (s : State) (r : Fin 24) (val : Word), s.Runs ∧ 16 ≤ r.val ∧ s.dev.ringRuns r.val = true ∧ (s.dev.ring r.val).tag = none ∧
    (s.dev.ring r.val).descs = [] ∧ s.dev.MaySend (s.dev.ring r.val).port 131 16 ∧ (s.dev.ring r.val).port < 2 ∧
    (s.dev.access (rGLK_RING_TAIL r.val) (BitVec.toNat val)).ringOwned r.val ≠ 0) :=
  ⟨⟨around live, 23, 0xFFFFFFFF, by decide⟩,
  ⟨around (ringUp 23 { port := 1 }), 23, 3, by decide⟩⟩

theorem test_MailboxesRingsAndAlerts_5 :
  (∃ (s : State) (p : Fin 2) (seq : Fin 65536) (tag : Fin 65536) (_data : List Byte) (_err : Bool), s.Runs ∧
    s.dev.Takes p.val seq.val ∧ ∀ (r : Nat), r < 24 → (s.dev.ring r).tag ≠ some tag.val) ∧
  (∃ (s : State) (p : Fin 2) (seq : Fin 65536) (tag : Fin 65536) (_data : List Byte) (r : Nat), s.Runs ∧
    s.dev.Takes p.val seq.val ∧ r < 24 ∧ (s.dev.ring r).tag = some tag.val ∧ ∀ (q : Nat), q < r →
    (s.dev.ring q).tag ≠ some tag.val) ∧
  (∃ (s : State) (p : Fin 2) (seq : Fin 65536) (tag : Fin 65536) (data : List Byte) (r : Nat), s.Runs ∧
    s.dev.Takes p.val seq.val ∧ r < 24 ∧ (s.dev.ring r).tag = some tag.val ∧
    (∀ (q : Nat), q < r → (s.dev.ring q).tag ≠ some tag.val) ∧ r < 16 ∧ (s.dev.ring r).waits = [] ∧
    s.dev.ringOwned r ≤ (s.dev.ring r).posted.length + data.length / 16) :=
  ⟨⟨around (ringUp 23 { port := 1, tag := some 5 }), 1, 65535, 6, [], true, by decide⟩,
  ⟨around (ringUp 23 { port := 1, tag := some 5 }), 1, 65535, 5, [5], 23, by decide⟩,
  ⟨around ((ringUp 3 { port := 1, tag := some 5 }).put (rGLK_RING_TAIL 3) fGLK_RING_TAIL_TAIL 1), 1, 65535, 5,
    (List.replicate 16 7#8), 3, by decide⟩⟩

theorem test_MailboxesRingsAndAlerts_6 :
  (∃ (s : State) (r : Fin 24), s.Runs ∧ (s.dev.ring r.val).since = 0) ∧
  (∃ (s : State) (r : Fin 24) (p : Nat), s.Runs ∧ (s.dev.ring r.val).since ≠ 0 ∧ s.dev.ringPort r.val = some p ∧ p < 2 ∧
    s.dev.MaySend p 146 8) ∧
  (∃ (s : State) (r : Fin 24), s.Runs ∧ (s.dev.ring r.val).tag = none) ∧
  (∃ (s : State) (r : Fin 24), s.Runs ∧ (s.dev.ring r.val).tag ≠ none) :=
  ⟨⟨around live, 23, by decide⟩,
  ⟨around (ringUp 3 { port := 1, since := 5 }), 3, 1, by decide⟩,
  ⟨around live, 23, by decide⟩,
  ⟨around (ringUp 23 { port := 1, tag := some 5 }), 23, by decide⟩⟩

theorem test_MailboxesRingsAndAlerts_7 :
  (∃ (s : State) (_val : Word), s.Runs) ∧
  (∃ (s : State) (val : Word) (x : AlertRec), s.Runs ∧ nbit (BitVec.toNat val) 31 = true ∧
    List.find? (fun (a : AlertRec) => a.seq % 256 == fieldOf (BitVec.toNat val) fGLK_ALERT_SEL_ENTRY) s.dev.glk.log = some x) ∧
  (∃ (s : State) (val : Word), s.Runs ∧ nbit (BitVec.toNat val) 0 = false) ∧
  (∃ (s : State) (val : Word) (x : Viol) (y : Viol) (q : List Viol), s.Runs ∧ nbit (BitVec.toNat val) 0 = true ∧
    s.dev.glk.viols = x :: y :: q) :=
  ⟨⟨around live, 0xFFFFFFFF, by decide⟩,
  ⟨around { live with glk := { log := [ar 255, ar 256] } }, 0x80000000, ar 256, by decide⟩,
  ⟨around { live with glk := { viols := [⟨1, 2, 3⟩, ⟨4, 0xFFFFFFFC, 2 ^ 40⟩] } }, 0xFFFFFFFE, by decide⟩,
  ⟨around { live with glk := { viols := [⟨1, 2, 3⟩, ⟨4, 0xFFFFFFFC, 2 ^ 40⟩] } }, 0xFFFFFFFF, ⟨1, 2, 3⟩, ⟨4, 0xFFFFFFFC, 2 ^ 40⟩,
    [], by decide⟩⟩

theorem test_MailboxesRingsAndAlerts_8 :
  ∃ (s : State) (m : Fin 64) (c : Cmd), s.Ready m 3076 c ∧ c.isOwner = true ∧ c.u8 0 = 0 ∧ c.u8 1 = 0 ∧ c.u8 2 = 0 ∧
    c.zero 3 1 = true ∧ c.endsAt 4 = true :=
  ⟨around (given live dl), 63, dl, by decide⟩

theorem test_MailboxesRingsAndAlerts_9 :
  ∃ (s : State) (m : Fin 64) (c : Cmd), s.Ready m 3077 c ∧ c.isOwner = true ∧ c.u8 0 = 0 ∧ c.u8 1 = 0 ∧ c.u8 2 = 0 ∧ c.u8 3 = 0 ∧
    c.endsAt 4 = true :=
  ⟨around (given live dm), 63, dm, by decide⟩

end Mailboxes

namespace Clocks

def refs (d : Dev) (v : Nat) : Dev := (d.put rCLK_STATUS fCLK_STATUS_REF_A_VALID (v % 2)).put rCLK_STATUS fCLK_STATUS_REF_B_VALID (v / 2)

def sup (d : Dev) (x : SupState) : Dev := { d with clk := { d.clk with sup := x } }

def held : Dev := (live.put rCLK_STATUS fCLK_STATUS_HOLDOVER 1).put rCLK_STATUS fCLK_STATUS_ARMED 1

def armedD (d : Dev) : Dev := d.put rCLK_STATUS fCLK_STATUS_ARMED 1

def busyAll (d : Dev) : Dev := (((d.put rGLK_STATUS (fPortState 0) 4).put rGLK_STATUS (fPortState 1) 4).put (rTREE_LINE_STATUS 47) fTREE_LINE_STATUS_LASER_ON 1).put rPIN_STATUS fPIN_STATUS_TIME_OK 1

def bw (k i : Nat) : Word := BitVec.ofNat 32 (2 ^ 30 + (k <<< fRST_BLOCK_KIND.lo) + (i <<< fRST_BLOCK_INDEX.lo))

def inBlk (d : Dev) (m : Option Nat) : Dev := { d with clk := { d.clk with blk := some ⟨1, 47, 0, m⟩ } }

def dc : Cmd := cmdOf 63 0x0C06 none [0]

def dr : Cmd := cmdOf 63 0x0C07 none [0, 7, 7, 0]

def boot (n : Nat) (d : Dev) : Dev := d.put rBOOT_STATUS fBOOT_STATUS_STATE n

def fl : List Host.Cell := storeBytes flashByte [] 0x17FFFF0 (List.replicate 32 0x0F#8)

def fa (d : Dev) (a : Nat) : Dev := (List.range 64).foldl (fun d i => d.wrN (rBOOT_FLASH_DATA i) (i * 0x1010101)) (d.wrN rBOOT_FLASH_ADDR a)

def fs (d : Dev) (a : Nat) : State := { around (fa d a) with flash := fl }

def db : Cmd := cmdOf 63 0x0C08 none [0, 9, 0, 0]

theorem test_ReferencesRingAndVoid_1 :
  (∃ (s : State) (r : Fin 2), s.dev.replies = [] ∧ s.dev.wipes = [] ∧ s.dev.powered = true ∧ s.dev.refValid r.val = true ∧
    s.dev.bootState ≠ 2) ∧
  (∃ (s : State) (r : Fin 2), s.dev.replies = [] ∧ s.dev.wipes = [] ∧ s.dev.powered = true ∧ s.dev.refValid r.val = false ∧
    s.dev.clocked = true ∧ s.dev.bit rCLK_STATUS fCLK_STATUS_HOLDOVER = true ∧ s.dev.bootState ≠ 2) ∧
  (∃ (s : State) (r : Fin 2), s.dev.replies = [] ∧ s.dev.wipes = [] ∧ s.dev.powered = true ∧ s.dev.refValid r.val = false) ∧
  (∃ (s : State) (r : Fin 2), s.dev.replies = [] ∧ s.dev.wipes = [] ∧ s.dev.powered = true ∧ s.dev.refValid r.val = true ∧
    s.dev.refValid (1 - r.val) = true ∧ s.dev.refSel = r.val ∧ s.dev.clocked = true) ∧
  (∃ (s : State) (r : Fin 2), s.dev.replies = [] ∧ s.dev.wipes = [] ∧ s.dev.powered = true ∧ s.dev.refValid r.val = true ∧
    s.dev.refValid (1 - r.val) = false ∧ s.dev.armed = true ∧ s.dev.clk.sup = SupState.run) :=
  ⟨⟨around (refs live 2), 1, by decide⟩,
  ⟨around (refs held 0), 1, by decide⟩,
  ⟨around (refs held 1), 1, by decide⟩,
  ⟨around ((refs live 3).put rCLK_STATUS fCLK_STATUS_REF_SEL 1), 1, by decide⟩,
  ⟨around (busyAll (refs (armedD live) 2)), 1, by decide⟩⟩

theorem test_ReferencesRingAndVoid_2 :
  (∃ (s : State) (_period : Fin 65536), s.dev.replies = [] ∧ s.dev.wipes = [] ∧ s.dev.clk.sup = SupState.ringStart) ∧
  (∃ (s : State) (_period : Fin 65536), s.dev.replies = [] ∧ s.dev.wipes = [] ∧ s.dev.clk.sup = SupState.void ∧
    s.dev.clk.trying = true) ∧
  (∃ (s : State) (_period : Fin 65536), s.dev.replies = [] ∧ s.dev.wipes = [] ∧
    (s.dev.clk.sup = SupState.off ∨ s.dev.clk.sup = SupState.run ∨ s.dev.clk.sup = SupState.failed)) ∧
  (∃ (s : State) (_period : Fin 65536), s.dev.replies = [] ∧ s.dev.wipes = [] ∧ s.dev.clk.sup ≠ SupState.run) ∧
  (∃ (s : State) (_period : Fin 65536), s.dev.replies = [] ∧ s.dev.wipes = [] ∧ s.dev.clk.sup = SupState.run ∧
    s.dev.hostLost = false) ∧
  (∃ (s : State) (_period : Fin 65536), s.dev.replies = [] ∧ s.dev.wipes = [] ∧ s.dev.clk.sup = SupState.run ∧
    s.dev.hostLost = true) :=
  ⟨⟨around (sup live .ringStart), 65535, by decide⟩,
  ⟨around (busyAll (sup held .void)), 65535, by decide⟩,
  ⟨around (sup live .failed), 0, by decide⟩,
  ⟨around (sup live .ringStart), 0, by decide⟩,
  ⟨around (busyAll (refs (armedD live) 1)), 65535, by decide⟩,
  ⟨around (busyAll (refs (armedD live) 0)), 65535, by decide⟩⟩

theorem test_ReferencesRingAndVoid_3 :
  (∃ (s : State), s.dev.replies = [] ∧ s.dev.wipes = [] ∧ s.dev.clk.sup = SupState.ringStart) ∧
  (∃ (s : State), s.dev.replies = [] ∧ s.dev.wipes = [] ∧ s.dev.clk.sup = SupState.void ∧ s.dev.clk.trying = true ∧
    s.dev.clk.attempts < 8) ∧
  (∃ (s : State), s.dev.replies = [] ∧ s.dev.wipes = [] ∧ s.dev.clk.sup = SupState.void ∧ s.dev.clk.trying = true ∧
    8 ≤ s.dev.clk.attempts) ∧
  (∃ (s : State), s.dev.replies = [] ∧ s.dev.wipes = [] ∧ s.dev.clk.sup = SupState.void ∧ s.dev.clk.trying = false) ∧
  (∃ (s : State), s.dev.replies = [] ∧ s.dev.wipes = [] ∧ (s.dev.clk.sup ≠ SupState.void ∨ s.dev.clk.trying = true)) :=
  ⟨⟨around (busyAll (sup live .ringStart)), by decide⟩,
  ⟨around (sup { live with clk := { attempts := 7 } } .void), by decide⟩,
  ⟨around (sup { live with clk := { attempts := 8 } } .void), by decide⟩,
  ⟨around (sup { live with clk := { attempts := 8, trying := false } } .void), by decide⟩,
  ⟨around (sup { live with clk := { attempts := 8 } } .void), by decide⟩⟩

theorem test_ReferencesRingAndVoid_4 :
  (∃ (s : State) (k : Fin 3), s.Runs ∧ nbit (s.dev.get rCLK_STATUS fCLK_STATUS_LOCK) (pllBit k.val) = true) ∧
  (∃ (s : State) (k : Fin 3), s.Runs ∧ nbit (s.dev.get rCLK_STATUS fCLK_STATUS_LOCK) (pllBit k.val) = false) :=
  ⟨⟨around (busyAll (live.put rCLK_STATUS fCLK_STATUS_LOCK 31)), 0, by decide⟩,
  ⟨around live, 1, by decide⟩⟩

theorem test_ReferencesRingAndVoid_5 :
  (∃ (s : State), s.Runs ∧ nbit (s.dev.get rCLK_STATUS fCLK_STATUS_LOCK) 3 = true) ∧
  (∃ (s : State) (b : Bool), s.Runs ∧ nbit (s.dev.get rCLK_STATUS fCLK_STATUS_LOCK) 3 = b) :=
  ⟨⟨around (live.put rCLK_STATUS fCLK_STATUS_LOCK 31), by decide⟩,
  ⟨around live, false, by decide⟩⟩

theorem test_ResetsReturnWhatTheyName_1 :
  (∃ (s : State), s.dev.replies = [] ∧ s.dev.wipes = [] ∧ s.dev.powered = true) ∧
  (∃ (s : State), s.dev.replies = [] ∧ s.dev.wipes = [] ∧ s.dev.powered = false) ∧
  (∃ (s : State) (i : Instr), s.dev.replies = [] ∧ s.dev.wipes = [] ∧ i ∈ [Instr.pwrGoodFall, Instr.supplyUndervoltage] ∧
    s.dev.powered = true) ∧
  (∃ (s : State) (i : Instr), s.dev.replies = [] ∧ s.dev.wipes = [] ∧ i ∈ [Instr.pwrGoodFall, Instr.supplyUndervoltage] ∧
    s.dev.powered = false) ∧
  (∃ (s : State), s.dev.replies = [] ∧ s.dev.wipes = [] ∧ (s.dev.clk.sup = SupState.failed ∨ s.dev.clk.sup = SupState.off)) ∧
  (∃ (s : State), s.dev.replies = [] ∧ s.dev.wipes = [] ∧ s.dev.clk.sup = SupState.run) :=
  ⟨⟨around live, by decide⟩,
  ⟨around (sup live .off), by decide⟩,
  ⟨around (busyAll live), .pwrGoodFall, by decide⟩,
  ⟨around (sup live .off), .pwrGoodFall, by decide⟩,
  ⟨around (sup live .off), by decide⟩,
  ⟨around (busyAll held), by decide⟩⟩

theorem test_ResetsReturnWhatTheyName_2 :
  (∃ (s : State) (val : Word), s.Runs ∧ fieldOf (BitVec.toNat val) fRST_CTRL_KEY ≠ 90) ∧
  (∃ (s : State) (val : Word), s.Runs ∧ fieldOf (BitVec.toNat val) fRST_CTRL_KEY = 90 ∧ nbit (BitVec.toNat val) 0 = true) :=
  ⟨⟨around live, 0x5B000001, by decide⟩,
  ⟨around (busyAll held), BitVec.ofNat 32 (1 + (0x5A <<< fRST_CTRL_KEY.lo)), by decide⟩⟩

theorem test_ResetsReturnWhatTheyName_3 :
  (∃ (s : State) (val : Word), s.Runs ∧ nbit (BitVec.toNat val) 30 = true ∧ s.dev.clk.blk ≠ none) ∧
  (∃ (s : State) (val : Word), s.Runs ∧ nbit (BitVec.toNat val) 30 = true ∧ s.dev.clk.blk = none ∧
    s.dev.blockOk (fieldOf (BitVec.toNat val) fRST_BLOCK_KIND) (fieldOf (BitVec.toNat val) fRST_BLOCK_INDEX) = false) ∧
  (∃ (s : State) (val : Word) (k : Fin 48), s.Runs ∧ nbit (BitVec.toNat val) 30 = true ∧ s.dev.clk.blk = none ∧
    fieldOf (BitVec.toNat val) fRST_BLOCK_KIND = 1 ∧ fieldOf (BitVec.toNat val) fRST_BLOCK_INDEX = k.val ∧
    s.dev.treeOk k.val = true) :=
  ⟨⟨around (inBlk live none), bw 1 47, by decide⟩,
  ⟨around live, bw 1 48, by decide⟩,
  ⟨around (busyAll live), bw 1 47, 47, by decide⟩⟩

theorem test_ResetsReturnWhatTheyName_4 :
  (∃ (s : State) (c : Fin 165), s.Runs ∧ s.dev.crossing c.val = 0) ∧
  (∃ (s : State) (c : Fin 165) (k : Nat) (b : BlkReset), s.Runs ∧ s.dev.clk.cross = [(c.val, k)] ∧ k ≠ 0 ∧
    s.dev.clk.blk = some b ∧ b.mbx = none) :=
  ⟨⟨around live, 164, by decide⟩,
  ⟨around { inBlk (live.put rRST_BLOCK fRST_BLOCK_BUSY 1) none with clk := { sup := .run, cross := [(164, 1)], blk := some ⟨0, 0, 0, none⟩ } },
    164, 1, ⟨0, 0, 0, none⟩, by decide⟩⟩

theorem test_ResetsReturnWhatTheyName_5 :
  ∃ (s : State) (m : Fin 64) (c : Cmd), s.Ready m 3078 c ∧ c.isOwner = true ∧ c.u8 0 = 0 ∧ c.endsAt 1 = true :=
  ⟨around (given live dc), 63, dc, by decide⟩

theorem test_ResetsReturnWhatTheyName_6 :
  ∃ (s : State) (m : Fin 64) (c : Cmd), s.Ready m 3079 c ∧ c.isOwner = true ∧ c.u8 0 = 0 ∧ c.u8 3 = 0 ∧ c.endsAt 4 = true :=
  ⟨around (given live dr), 63, dr, by decide⟩

theorem test_ResetsReturnWhatTheyName_7 :
  (∃ (s : State), s.Runs ∧ s.dev.clk.warmDue = false) ∧
  (∃ (s : State), s.Runs ∧ s.dev.clk.warmDue = true) :=
  ⟨⟨around live, by decide⟩,
  ⟨around { busyAll held with clk := { sup := .run, warmDue := true } }, by decide⟩⟩

theorem test_BootWalksItsStates_1 :
  (∃ (s : State), s.Runs ∧ s.dev.bootState ≠ 1) ∧
  (∃ (s : State), s.Runs ∧ s.dev.bootState = 1 ∧ s.dev.clk.tried = 0) ∧
  (∃ (s : State), s.Runs ∧ s.dev.refOk = false) ∧
  (∃ (s : State), s.Runs ∧ s.dev.refOk = true ∧ s.dev.bootState = 2) ∧
  (∃ (s : State) (_bad : List (Fin 141)) (_memFail : Bool), s.Runs ∧ s.dev.bootState ≠ 3) ∧
  (∃ (s : State) (_bad : List (Fin 141)) (_memFail : Bool), s.Runs ∧ s.dev.bootState = 3 ∧
    s.dev.bit rDRAM_STATUS fDRAM_STATUS_INIT_BUSY = false) ∧
  (∃ (s : State) (_ms : Fin 65536), s.Runs ∧ s.dev.clk.mpDown = false ∧ s.dev.bootState ≠ 4) ∧
  (∃ (s : State) (_ms : Fin 65536), s.Runs ∧ s.dev.clk.mpDown = false ∧ s.dev.bootState = 4) ∧
  (∃ (s : State) (_ms : Fin 65536), s.Runs ∧ s.dev.clk.mpDown = true) ∧
  (∃ (s : State), s.Runs ∧ s.dev.bootState ≠ 4) ∧
  (∃ (s : State), s.Runs ∧ s.dev.bootState = 4) :=
  ⟨⟨around (boot 2 live), by decide⟩,
  ⟨around (boot 1 live), by decide⟩,
  ⟨around (boot 2 live), by decide⟩,
  ⟨around (boot 2 (refs live 2)), by decide⟩,
  ⟨around (boot 2 live), [5], true, by decide⟩,
  ⟨around (boot 3 live), [5, 4096], true, by decide⟩,
  ⟨around (boot 3 live), 65535, by decide⟩,
  ⟨around (boot 4 live), 65535, by decide⟩,
  ⟨around { boot 4 live with clk := { sup := .run, mpDown := true } }, 5, by decide⟩,
  ⟨around (boot 3 live), by decide⟩,
  ⟨around (boot 4 live), by decide⟩⟩

theorem test_BootWalksItsStates_2 :
  (∃ (s : State) (len : Fin 512), s.Runs ∧ 1 ≤ len.val ∧ len.val ≤ 256 ∧
    (s.dev.bootState = 5 ∨ s.dev.bootState = 6 ∨ s.dev.bootState = 7) ∧ s.dev.rdN rBOOT_FLASH_ADDR + len.val ≤ 33554432) ∧
  (∃ (s : State) (len : Fin 512), s.Runs ∧ 1 ≤ len.val ∧ len.val ≤ 256 ∧
    (s.dev.bootState = 5 ∨ s.dev.bootState = 6 ∨ s.dev.bootState = 7) ∧ s.dev.rdN rBOOT_FLASH_ADDR + len.val ≤ 33554432 ∧
    s.dev.copyTouched (s.dev.rdN rBOOT_FLASH_ADDR) len.val = false) ∧
  (∃ (s : State) (len : Fin 512), s.Runs ∧ 1 ≤ len.val ∧ len.val ≤ 256 ∧
    (s.dev.bootState < 5 ∨ s.dev.copyTouched (s.dev.rdN rBOOT_FLASH_ADDR) len.val = true)) :=
  ⟨⟨fs (boot 5 live) 0x1FFFF00, 256, by decide⟩,
  ⟨fs (boot 5 live) 0x1FFFF00, 256, by decide⟩,
  ⟨fs (boot 4 live) 0x17FFFF1, 255, by decide⟩⟩

theorem test_BootWalksItsStates_3 :
  (∃ (s : State), s.Runs ∧ (s.dev.bootState = 5 ∨ s.dev.bootState = 6 ∨ s.dev.bootState = 7) ∧
    s.dev.rdN rBOOT_FLASH_ADDR < 33554432 ∧ s.dev.copyTouched (s.dev.rdN rBOOT_FLASH_ADDR / 65536 * 65536) 65536 = false) ∧
  (∃ (s : State), s.Runs ∧ (s.dev.bootState = 5 ∨ s.dev.bootState = 6 ∨ s.dev.bootState = 7) ∧
    s.dev.rdN rBOOT_FLASH_ADDR < 33554432 ∧ s.dev.copyTouched (s.dev.rdN rBOOT_FLASH_ADDR / 65536 * 65536) 65536 = true) :=
  ⟨⟨fs (boot 5 live) 0x1FFFFFF, by decide⟩,
  ⟨fs (boot 5 live) 0xFFFFFF, by decide⟩⟩

theorem test_BootWalksItsStates_4 :
  ∃ (s : State) (m : Fin 64) (c : Cmd) (_err : Bool), s.Ready m 3080 c ∧ c.isOwner = true ∧ c.u8 0 = 0 ∧ c.zero 2 2 = true :=
  ⟨around (given live db), 63, db, true, by decide⟩

end Clocks

namespace Counters

def lb (n v : Nat) : List Nat := (List.range n).map (fun i => v / 256 ^ i % 256)

def atT (d : Dev) (n : Nat) : Dev := d.wr64 rTICK_COUNT_LO rTICK_COUNT_HI n

def cfg (ev view flt : Nat) : Nat := (ev <<< fCNT_CFG_EVENT.lo) + (view <<< fCNT_CFG_VIEW.lo) + (flt <<< fCNT_CFG_FILTER.lo)

def cw (ev view flt : Nat) : Word := BitVec.ofNat 32 (cfg ev view flt)

def someC : Dev := ((live.wr64 (rEVC_LO 31) (rEVC_HI 31) (2 ^ 40)).wr64 (rEVC_LO 33) (rEVC_HI 33) 7).wrN (rCNT_OVF 1) 0xFFFFFFFF

def cc (a b : Nat) : Word := BitVec.ofNat 32 ((a <<< fCNT_CLEAR_FIRST.lo) + (b <<< fCNT_CLEAR_LAST.lo))

def cr (a b k v : Nat) (o : Option Nat) : Cmd := cmdOf 63 0x0B01 o (lb 2 a ++ [b, k] ++ lb 4 v)

def crd (a n f : Nat) : Cmd := cmdOf 63 0x0B02 none (lb 2 a ++ [n, f])

def csn : Cmd := cmdOf 63 0x0B03 none [0, 0, 0, 0, 0, 0, 0, 0]

def smp (u n ev : Nat) : Dev := ((live.wrN (rCNT_CFG n) (cfg ev 31 0)).put (rCNT_SMP_CTRL u) fCNT_SMP_CTRL_COUNTER n).put (rCNT_SMP_CTRL u) fCNT_SMP_CTRL_EN 1

def sm (n : Nat) : Sample := ⟨n, 2, 3, 4⟩

def full (d : Dev) (u n : Nat) : Dev := { d with cnt := { d.cnt with fifos := [(u, (List.range n).map sm)] } }

def css : Cmd := cmdOf 63 0x0B04 none [15, 0, 0, 0]

def mtc (t keep alg : Nat) : Nat := (t <<< fMTEST_CTRL_TARGET.lo) + (keep <<< fMTEST_CTRL_PRESERVE.lo) + (alg <<< fMTEST_CTRL_ALG.lo)

def ml : MtestLog := ⟨42, 3, 4, 5, 6, 7⟩

def dm (v : Nat) : Cmd := cmdOf 63 0x0C09 none (lb 4 v)

/-- No counter names profile 63 after reset. -/
theorem noClash : (around live).dev.profileClash 63 0xFFFFFFFF = false := by
  refine List.any_eq_false.mpr fun n hn => ?_
  have r : (around live).dev.rd (rCNT_CFG n) = 0xF8000000#32 := regReset_cntCfg n (List.mem_range.mp hn)
  have g : (around live).dev.get (rCNT_CFG n) fCNT_CFG_FILTER = 0 := by
    rw [Dev.get, Dev.rdN, r]; rfl
  rw [g]; simp

theorem test_CountersAreConfiguredAndRead_1 :
  (∃ (s : State) (_n : Fin 4096) (val : Word), s.Runs ∧
    cntBad (BitVec.toNat val) (s.dev.profile (fieldOf (BitVec.toNat val) fCNT_CFG_FILTER)) = true) ∧
  (∃ (s : State) (_n : Fin 4096) (val : Word), s.Runs ∧
    cntBad (BitVec.toNat val) (s.dev.profile (fieldOf (BitVec.toNat val) fCNT_CFG_FILTER)) = false) :=
  ⟨⟨around live, 4095, cw 1 16 0, by decide⟩,
  ⟨around live, 4095, cw 0x0500 31 0, by decide⟩⟩

theorem test_CountersAreConfiguredAndRead_2 :
  (∃ (s : State) (p : Fin 64) (_w : Fin 5) (_val : Word), s.Runs ∧ p.val = 0) ∧
  (∃ (s : State) (p : Fin 64) (w : Fin 5) (_val : Word), s.Runs ∧ p.val ≠ 0 ∧ w.val ≠ 0) ∧
  (∃ (s : State) (p : Fin 64) (w : Fin 5) (val : Word), s.Runs ∧ p.val ≠ 0 ∧ w.val = 0 ∧
    s.dev.profileClash (p.val) (BitVec.toNat val) = false) ∧
  (∃ (s : State) (p : Fin 64) (w : Fin 5) (val : Word), s.Runs ∧ p.val ≠ 0 ∧ w.val = 0 ∧
    s.dev.profileClash (p.val) (BitVec.toNat val) = true) :=
  ⟨⟨around live, 0, 0, 0xFFFFFFFF, by decide⟩,
  ⟨around live, 63, 4, 0xFFFFFFFF, by decide⟩,
  ⟨around live, 63, 0, 0xFFFFFFFF, by decide, by decide, by decide, noClash⟩,
  ⟨around (live.wrN (rCNT_CFG 0) (cfg 0x0500 31 63)), 63, 0, 0, by decide +kernel⟩⟩

theorem test_CountersAreConfiguredAndRead_3 :
  ∃ (s : State) (val : Word), s.Runs ∧ fieldOf (BitVec.toNat val) fCNT_CLEAR_FIRST ≤ fieldOf (BitVec.toNat val) fCNT_CLEAR_LAST :=
  ⟨around someC, cc 31 33, by decide⟩

theorem test_CountersAreConfiguredAndRead_4 :
  (∃ (s : State) (m : Fin 64) (c : Cmd), s.Ready m 2817 c ∧ c.isOwner = true ∧ c.u16 0 < 4096 ∧ c.u8 2 = 0 ∧ c.zero 3 1 = true ∧
    c.endsAt 8 = true ∧ badValue (rCNT_CFG 0) (c.u32 4) = false ∧
    cntBad (c.u32 4) (s.dev.profile (fieldOf (c.u32 4) fCNT_CFG_FILTER)) = false) ∧
  (∃ (s : State) (m : Fin 64) (c : Cmd), s.Ready m 2817 c ∧ c.isOwner = true ∧ c.u16 0 < 4096 ∧ c.u8 2 = 0 ∧ c.zero 3 1 = true ∧
    c.endsAt 8 = true ∧ badValue (rCNT_CFG 0) (c.u32 4) = false ∧
    cntBad (c.u32 4) (s.dev.profile (fieldOf (c.u32 4) fCNT_CFG_FILTER)) = true) :=
  ⟨⟨around (given live (cr 4095 0 0 (cfg 0x0500 31 0) none)), 63, cr 4095 0 0 (cfg 0x0500 31 0) none, by decide⟩,
  ⟨around (given live (cr 4095 0 0 (cfg 1 16 0) none)), 63, cr 4095 0 0 (cfg 1 16 0) none, by decide⟩⟩

theorem test_CountersAreConfiguredAndRead_5 :
  (∃ (s : State) (m : Fin 64) (c : Cmd), s.Ready m 2818 c ∧ c.isOwner = true ∧ 1 ≤ c.u8 2 ∧ c.u8 2 ≤ 128 ∧
    c.u16 0 + c.u8 2 ≤ 4096 ∧ c.endsAt 4 = true ∧ c.u8 3 = 0) ∧
  (∃ (s : State) (m : Fin 64) (c : Cmd), s.Ready m 2818 c ∧ c.isOwner = true ∧ 1 ≤ c.u8 2 ∧ c.u8 2 ≤ 128 ∧
    c.u16 0 + c.u8 2 ≤ 4096 ∧ c.endsAt 4 = true ∧ c.u8 3 = 1) :=
  ⟨⟨around (given someC (crd 3968 128 0)), 63, crd 3968 128 0, by decide⟩,
  ⟨around (given someC (crd 31 3 1)), 63, crd 31 3 1, by decide⟩⟩

theorem test_CountersAreConfiguredAndRead_6 :
  ∃ (s : State) (m : Fin 64) (c : Cmd), s.Ready m 2819 c ∧ c.isOwner = true ∧ c.u8 0 = 0 ∧ c.zero 1 7 = true ∧
    c.endsAt 8 = true :=
  ⟨around (given (atT live 77) csn), 63, csn, by decide⟩

theorem test_SamplesAndMarchTestsRun_1 :
  (∃ (s : State) (u : Fin 16) (val : Word), s.Runs ∧ s.dev.smpBad (u.val) (BitVec.toNat val) = true) ∧
  (∃ (s : State) (u : Fin 16) (val : Word), s.Runs ∧ s.dev.smpBad (u.val) (BitVec.toNat val) = false) :=
  ⟨⟨around live, 15, 0xFFFFFFFF, by decide⟩,
  ⟨around (smp 15 7 0x0500), 15, BitVec.ofNat 32 (2 ^ 31 + (7 <<< fCNT_SMP_CTRL_COUNTER.lo)), by decide⟩⟩

theorem test_SamplesAndMarchTestsRun_2 :
  (∃ (s : State) (u : Fin 16) (_skid : Fin 64) (_pc : BitVec 64) (_busy : Bool), s.Runs ∧
    (s.dev.bit (rCNT_SMP_CTRL u.val) fCNT_SMP_CTRL_EN = false ∨ s.dev.rdN (rCNT_SMP_REMAIN u.val) ≠ 0)) ∧
  (∃ (s : State) (u : Fin 16) (_skid : Fin 64) (_pc : BitVec 64), s.Runs ∧
    s.dev.bit (rCNT_SMP_CTRL u.val) fCNT_SMP_CTRL_EN = true ∧ s.dev.rdN (rCNT_SMP_REMAIN u.val) = 0) ∧
  (∃ (s : State) (u : Fin 16) (_skid : Fin 64) (_pc : BitVec 64), s.Runs ∧
    s.dev.bit (rCNT_SMP_CTRL u.val) fCNT_SMP_CTRL_EN = true ∧ s.dev.rdN (rCNT_SMP_REMAIN u.val) = 0 ∧
    s.dev.get (rCNT_CFG (s.dev.get (rCNT_SMP_CTRL u.val) fCNT_SMP_CTRL_COUNTER)) fCNT_CFG_EVENT / 256 = 5 ∧
    s.dev.bit (rCNT_SMP_CTRL u.val) fCNT_SMP_CTRL_IRQ = false ∧ (s.dev.fifo u.val).length < 8) :=
  ⟨⟨around live, 15, 63, 0xFFFFFFFFFFFFFFFF, true, by decide⟩,
  ⟨around ((smp 15 7 0x0500).wrN (rCNT_SMP_PERIOD 15) 0xFFFFFFFF), 15, 63, 5, by decide⟩,
  ⟨around (full (atT (smp 15 7 0x0500) (2 ^ 32 + 9)) 15 7), 15, 63, 0xFFFFFFFFFFFFFFFF, by decide⟩⟩

theorem test_SamplesAndMarchTestsRun_3 :
  (∃ (s : State) (u : Fin 16), s.Runs ∧ s.dev.fifo u.val = []) ∧
  (∃ (s : State) (u : Fin 16) (x : Sample) (q : List Sample), s.Runs ∧ s.dev.fifo u.val = x :: q) :=
  ⟨⟨around live, 15, by decide⟩,
  ⟨around (full live 15 1), 15, sm 0, [], by decide⟩⟩

theorem test_SamplesAndMarchTestsRun_4 :
  ∃ (s : State) (m : Fin 64) (c : Cmd), s.Ready m 2820 c ∧ c.isOwner = true ∧ c.u8 0 < 16 ∧ c.u8 1 = 0 ∧ c.zero 2 2 = true ∧
    c.endsAt 4 = true ∧ (s.dev.fifo (c.u8 0)).length ≤ 8 :=
  ⟨around (given (full live 15 8) css), 63, css, by decide⟩

theorem test_SamplesAndMarchTestsRun_5 :
  (∃ (s : State) (val : Word) (v : Nat), s.Runs ∧ v = (BitVec.toNat val).lor (2 ^ 31) ∧
    (s.dev.cnt.run ≠ none ∨ s.dev.marchOk v = false)) ∧
  (∃ (s : State) (val : Word) (v : Nat), s.Runs ∧ v = (BitVec.toNat val).lor (2 ^ 31) ∧ s.dev.cnt.run = none ∧
    s.dev.marchOk v = true) :=
  ⟨⟨around live, 0, 0x80000000, by decide⟩,
  ⟨around live, BitVec.ofNat 32 (mtc 39 1 1), 2 ^ 31 + mtc 39 1 1, by decide⟩⟩

theorem test_SamplesAndMarchTestsRun_6 :
  (∃ (s : State) (_finds : List MarchFind) (_again : List Nat), s.Runs ∧ s.dev.cnt.run = none) ∧
  (∃ (s : State) (_finds : List MarchFind) (_again : List Nat), s.Runs ∧ s.dev.cnt.run ≠ none) :=
  ⟨⟨around live, [], [5], by decide⟩,
  ⟨around { live with cnt := { run := some (2 ^ 31 + mtc 39 1 1) } }, [], [], by decide⟩⟩

theorem test_SamplesAndMarchTestsRun_7 :
  (∃ (s : State), s.Runs ∧ s.dev.cnt.mtLog = []) ∧
  (∃ (s : State) (x : MtestLog) (q : List MtestLog), s.Runs ∧ s.dev.cnt.mtLog = x :: q) :=
  ⟨⟨around live, by decide⟩,
  ⟨around { live with cnt := { mtLog := [ml, ml] } }, ml, [ml], by decide⟩⟩

theorem test_SamplesAndMarchTestsRun_8 :
  (∃ (s : State) (m : Fin 64) (c : Cmd), s.Ready m 3081 c ∧ c.isOwner = true ∧ badValue rMTEST_CTRL (c.u32 0) = false ∧
    c.endsAt 4 = true ∧ s.dev.cnt.run = none ∧ s.dev.marchOk ((c.u32 0).lor (2 ^ 31)) = true) ∧
  (∃ (s : State) (m : Fin 64) (c : Cmd), s.Ready m 3081 c ∧ c.isOwner = true ∧ badValue rMTEST_CTRL (c.u32 0) = false ∧
    c.endsAt 4 = true ∧ s.dev.cnt.run ≠ none) :=
  ⟨⟨around (given live (dm (mtc 39 1 1))), 63, dm (mtc 39 1 1), by decide⟩,
  ⟨around (given { live with cnt := { run := some 0 } } (dm 0)), 63, dm 0, by decide⟩⟩

end Counters

namespace Pins

def dp : Cmd := cmdOf 63 0x0C0A none [255, 0, 0]

theorem test_TheDieIsWatchedAndGuarded_1 :
  (∃ (s : State) (_temp : BitVec 16), s.Runs) ∧
  (∃ (s : State) (temp : BitVec 16), s.Runs ∧ s.dev.bit rPIN_STATUS fPIN_STATUS_THERM_TRIP = false ∧ 125 ≤ sval 16 temp.toNat) :=
  ⟨⟨around live, 0xFFFF, by decide⟩,
  ⟨around live, 125, by decide⟩⟩

theorem test_TheDieIsWatchedAndGuarded_2 :
  (∃ (s : State), s.Runs ∧ 3 ≤ s.dev.pin.fails) ∧
  (∃ (s : State), s.Runs ∧ s.dev.pin.fails < 3) :=
  ⟨⟨around { live with pin := { fails := 3 } }, by decide⟩,
  ⟨around { live with pin := { fails := 2 } }, by decide⟩⟩

theorem test_TheDieIsWatchedAndGuarded_3 :
  ∃ (s : State) (_sig : List Byte), s.Runs :=
  ⟨around live, [], by decide⟩

theorem test_TheDieIsWatchedAndGuarded_4 :
  ∃ (s : State) (m : Fin 64) (c : Cmd), s.Ready m 3082 c ∧ c.isOwner = true ∧ c.u8 0 = 255 ∧ c.u8 1 = 0 ∧ c.u8 2 = 0 ∧
    c.endsAt 3 = true :=
  ⟨around (given live dp), 63, dp, by decide⟩

end Pins

namespace Machine

def refs (d : Dev) (v : Nat) : Dev := (d.put rCLK_STATUS fCLK_STATUS_REF_A_VALID (v % 2)).put rCLK_STATUS fCLK_STATUS_REF_B_VALID (v / 2)

def sup (d : Dev) (x : SupState) : Dev := { d with clk := { d.clk with sup := x } }

def armedD (d : Dev) : Dev := d.put rCLK_STATUS fCLK_STATUS_ARMED 1

def busyAll (d : Dev) : Dev := (((d.put rGLK_STATUS (fPortState 0) 4).put rGLK_STATUS (fPortState 1) 4).put (rTREE_LINE_STATUS 47) fTREE_LINE_STATUS_LASER_ON 1).put rPIN_STATUS fPIN_STATUS_TIME_OK 1

def tc (k : Option Nat) : Cmd := cmdOf 63 0x0101 k [0]

def busy8 (d : Dev) : Dev := { d with glk := { d.glk with cmds := List.replicate 8 { tc none with started := true } } }

def clkRow := (regFind 0x10000).get (by decide)

theorem test_AStepRunsTheFrontCommand_1 :
  ∃ (s : State) (c : Instr) (rest : List Instr), s.pending = c :: rest :=
  ⟨{ State.reset with pending := [.pwrGoodFall, .resetL] }, .pwrGoodFall, [.resetL], by decide⟩

theorem test_AStepRunsTheFrontCommand_2 :
  ∃ (s : State), s.pending = [] :=
  ⟨State.reset, by decide⟩

theorem test_EveryStepCompletesAndKeepsTheInvariant :
  ∃ (s : State), s.Inv :=
  ⟨{ State.reset with pending := [.pwrGoodFall, .resetL] }, by decide⟩

theorem test_StoppedClocksHoldTheMachine_1 :
  ∃ (s : State) (i : Instr), s.dev.clocked = false ∧ s.dev.replies = [] ∧ s.dev.wipes = [] ∧ selfTimed i = false :=
  ⟨around (sup live .void), .warmReset 0x5A000001, by decide⟩

theorem test_StoppedClocksHoldTheMachine_2 :
  ∃ (s : State), s.dev.clocked = false ∧ s.dev.replies = [] ∧ s.dev.wipes = [] ∧ s.dev.ciph.zeroing = true :=
  ⟨around { sup live .void with ciph := { zeroing := true } }, by decide⟩

theorem test_FailedHoldsUntilPowerFalls_1 :
  ∃ (s : State) (i : Instr), s.dev.clk.sup = SupState.failed ∧ s.dev.bit rPIN_STATUS fPIN_STATUS_CLOCK_FAIL_L = false ∧
    s.dev.replies = [] ∧ s.dev.wipes = [] ∧ i ≠ Instr.pwrGoodFall ∧ i ≠ Instr.supplyUndervoltage :=
  ⟨around ((sup live .failed).put rPIN_STATUS fPIN_STATUS_CLOCK_FAIL_L 0), .resetL, by decide⟩

theorem test_FailedHoldsUntilPowerFalls_2 :
  ∃ (s : State), s.dev.clk.sup = SupState.failed ∧ s.dev.bit rPIN_STATUS fPIN_STATUS_CLOCK_FAIL_L = false ∧ s.dev.replies = [] ∧
    s.dev.wipes = [] :=
  ⟨around ((sup live .failed).put rPIN_STATUS fPIN_STATUS_CLOCK_FAIL_L 0), by decide⟩

theorem test_FailedHoldsUntilPowerFalls_3 :
  ∃ (s : State), s.dev.clk.sup = SupState.failed ∧ s.dev.bit rPIN_STATUS fPIN_STATUS_CLOCK_FAIL_L = false ∧ s.dev.replies = [] ∧
    s.dev.wipes = [] :=
  ⟨around ((sup live .failed).put rPIN_STATUS fPIN_STATUS_CLOCK_FAIL_L 0), by decide⟩

theorem test_TheSupervisorFollowsItsTable_1 :
  ∃ (s : State) (_period : Fin 65536), s.dev.replies = [] ∧ s.dev.wipes = [] ∧ s.dev.clk.sup = SupState.off :=
  ⟨around (sup live .off), 5, by decide⟩

theorem test_TheSupervisorFollowsItsTable_2 :
  (∃ (s : State) (_period : Fin 65536), s.dev.replies = [] ∧ s.dev.wipes = [] ∧ s.dev.clk.sup = SupState.ringStart) ∧
  (∃ (s : State) (_period : Fin 65536), s.dev.replies = [] ∧ s.dev.wipes = [] ∧ s.dev.clk.sup = SupState.ringStart ∧
    s.dev.hostLost = false ∧ s.dev.clk.trying = true) ∧
  (∃ (s : State) (_period : Fin 65536) (r : Fin 2), s.dev.replies = [] ∧ s.dev.wipes = [] ∧ s.dev.clk.sup = SupState.ringStart ∧
    s.dev.armed = true ∧ s.dev.refValid r.val = true ∧ s.dev.refValid (1 - r.val) = false) :=
  ⟨⟨around (busyAll (sup live .ringStart)), 65535, by decide⟩,
  ⟨around (busyAll (sup live .ringStart)), 65535, by decide⟩,
  ⟨around (refs (busyAll (sup (armedD live) .ringStart)) 2), 65535, 1, by decide⟩⟩

theorem test_TheSupervisorFollowsItsTable_3 :
  (∃ (s : State) (_period : Fin 65536), s.dev.replies = [] ∧ s.dev.wipes = [] ∧ s.dev.clk.sup = SupState.run ∧
    s.dev.hostLost = false ∧ (s.dev.refValid 0 = true ∨ s.dev.refValid 1 = true) ∧ nbit (s.dev.rdN rGLK_ALERT_MASK) 19 = false) ∧
  (∃ (s : State) (_period : Fin 65536), s.dev.replies = [] ∧ s.dev.wipes = [] ∧ s.dev.clk.sup = SupState.run ∧
    s.dev.hostLost = true) :=
  ⟨⟨around (refs (busyAll (armedD live)) 2), 65535, by decide⟩,
  ⟨around (refs (busyAll (armedD live)) 0), 65535, by decide⟩⟩

theorem test_TheSupervisorFollowsItsTable_4 :
  (∃ (s : State) (_period : Fin 65536), s.dev.replies = [] ∧ s.dev.wipes = [] ∧ s.dev.clk.sup = SupState.void ∧
    s.dev.clk.trying = true ∧ s.dev.get rCLK_VOID fCLK_VOID_VOID_COUNT < 255 ∧ s.dev.clk.attempts ≤ 8) ∧
  (∃ (s : State) (_period : Fin 65536), s.dev.replies = [] ∧ s.dev.wipes = [] ∧ s.dev.clk.sup = SupState.void ∧
    s.dev.clk.trying = true ∧ s.dev.clk.attempts = 8) :=
  ⟨⟨around ((sup (busyAll { live with clk := { attempts := 8 } }) .void).put rCLK_VOID fCLK_VOID_VOID_COUNT 254), 65535,
    by decide⟩,
  ⟨around (sup { live with clk := { attempts := 8 } } .void), 5, by decide⟩⟩

theorem test_TheSupervisorFollowsItsTable_5 :
  ∃ (s : State) (_period : Fin 65536), s.dev.replies = [] ∧ s.dev.wipes = [] :=
  ⟨around (busyAll live), 5, by decide⟩

theorem test_OwnerCommandsRefuseTenants :
  ∃ (s : State) (m : Fin 64) (i : Instr) (code : Nat) (c : Cmd) (n : Nat), OwnerCommand m i code ∧ s.Ready m code c ∧
    c.caller = some n :=
  ⟨around (given live (tc (some 3))), 63, .treeConfig 63, 0x0101, tc (some 3), 3, by simp [OwnerCommand], by decide⟩

theorem test_MailboxCommandsWaitTheirTurn_1 :
  ∃ (s : State) (m : Fin 64) (i : Instr) (code : Nat), (OwnerCommand m i code ∨ SharedCommand m i code) ∧ s.Runs ∧
    List.find? (fun (x : Cmd) => x.mbx == m.val && x.code == code && !x.started) s.dev.glk.cmds = none :=
  ⟨around live, 63, .treeConfig 63, 0x0101, by simp [OwnerCommand], by decide⟩

theorem test_MailboxCommandsWaitTheirTurn_2 :
  ∃ (s : State) (m : Fin 64) (i : Instr) (code : Nat), (OwnerCommand m i code ∨ SharedCommand m i code) ∧ s.Runs ∧
    s.dev.bit rSEC_STATUS fSEC_STATUS_ZEROISED = false ∧
    mbxConcurrent ≤ (List.filter (fun (x : Cmd) => x.started) s.dev.glk.cmds).length :=
  ⟨around (busy8 live), 63, .treeConfig 63, 0x0101, by simp [OwnerCommand], by decide⟩

theorem test_MailboxCommandsWaitTheirTurn_3 :
  ∃ (s : State) (m : Fin 64) (i : Instr) (code : Nat) (c : Cmd), (OwnerCommand m i code ∨ SharedCommand m i code) ∧ s.Runs ∧
    List.find? (fun (x : Cmd) => x.mbx == m.val && x.code == code && !x.started) s.dev.glk.cmds = some c ∧
    s.dev.bit rSEC_STATUS fSEC_STATUS_ZEROISED = true ∧ c.whileZeroised = false :=
  ⟨around ((given live (tc none)).put rSEC_STATUS fSEC_STATUS_ZEROISED 1), 63, .treeConfig 63, 0x0101, tc none,
    by simp [OwnerCommand], by decide⟩

theorem test_RegisterWritesObeyTheirAccessCodes :
  ∃ (s : State) (addr : Word) (_val : Word) (b : RegBlk) (k : Nat) (r : RegRow), s.Runs ∧ 65536 ≤ BitVec.toNat addr ∧
    BitVec.toNat addr < 262144 ∧ BitVec.toNat addr ≠ rRST_CTRL ∧ BitVec.toNat addr ≠ rRST_BLOCK ∧
    BitVec.toNat addr ≠ rBOOT_FLASH_CMD ∧ s.dev.bootState ≠ 7 ∧ regFind (BitVec.toNat addr) = some (b, k, r) ∧
    r.rw.land r.w1c = 0 ∧ r.rw.land r.w1s = 0 ∧ r.w1c.land r.w1s = 0 :=
  ⟨around live, 0x10000, 0x55555555, clkRow.1, clkRow.2.1, clkRow.2.2, by decide, by decide, by decide, by decide, by decide,
    by decide, by decide, rfl, by decide⟩

end Machine

end Sys2Proof.Tests
end

/-! The access codes of a register, bit by bit (00_scope.md R8, R9). -/

namespace Sys2Proof.Machine

/-- The model's bit test is the library's. -/
theorem nbit_eq_testBit (n i : Nat) : nbit n i = n.testBit i := by
  rw [Nat.testBit_eq_decide_div_mod_eq]; rfl

/-- Taking away the bits that a number shares with a mask clears the mask's bits and no others. -/
theorem testBit_sub_and (a b i : Nat) : (a - (a &&& b)).testBit i = (a.testBit i && !b.testBit i) := by
  have hle : a &&& b ≤ a := Nat.and_le_left
  have hdiv : (a &&& b) / 2 = a / 2 &&& b / 2 := Nat.and_div_two
  have hmod : (a &&& b) % 2 = 1 ↔ a % 2 = 1 ∧ b % 2 = 1 := Nat.and_mod_two_eq_one
  induction i generalizing a b with
  | zero =>
    have hlow : (a - (a &&& b)) % 2 = 1 ↔ a % 2 = 1 ∧ ¬b % 2 = 1 := by omega
    simp only [Nat.testBit_zero, hlow, Bool.decide_and, decide_not]
  | succ i ih =>
    have half : (a - (a &&& b)) / 2 = a / 2 - (a / 2 &&& b / 2) := by omega
    rw [Nat.testBit_succ, Nat.testBit_succ, Nat.testBit_succ, half]
    exact ih _ _ Nat.and_le_left Nat.and_div_two Nat.and_mod_two_eq_one

/-- A bit of the word that a write leaves: kept where the bit is neither RW nor cleared as W1C, else the bit written. -/
theorem testBit_accessWord (r : RegRow) (old v i : Nat) : (accessWord r old v).testBit i =
    ((old.testBit i && !r.rw.testBit i && !(v.testBit i && r.w1c.testBit i)) || v.testBit i && r.rw.testBit i ||
      v.testBit i && r.w1s.testBit i) := by
  have hland : ∀ a b, Nat.land a b = a &&& b := fun _ _ => rfl
  have hlor : ∀ a b, Nat.lor a b = a ||| b := fun _ _ => rfl
  simp only [accessWord, hland, hlor, Nat.testBit_or, testBit_sub_and, Nat.testBit_and]

/-- Two masks that share no bit do not both hold bit `i`. -/
theorem testBit_of_land_eq_zero {a b : Nat} (h : Nat.land a b = 0) (i : Nat) : (a.testBit i && b.testBit i) = false := by
  rw [← Nat.testBit_and, show a &&& b = 0 from h, Nat.zero_testBit]

/-- A write, bit by bit, where no bit has two access codes (R9). -/
theorem nbit_accessWord {r : RegRow} (hwc : Nat.land r.rw r.w1c = 0) (hws : Nat.land r.rw r.w1s = 0)
    (hcs : Nat.land r.w1c r.w1s = 0) (old v i : Nat) : nbit (accessWord r old v) i =
      (if nbit r.rw i then nbit v i
       else if nbit r.w1c i && nbit v i then false
       else if nbit r.w1s i && nbit v i then true
       else nbit old i) := by
  have h1 := testBit_of_land_eq_zero hwc i
  have h2 := testBit_of_land_eq_zero hws i
  have h3 := testBit_of_land_eq_zero hcs i
  simp only [nbit_eq_testBit, testBit_accessWord]
  cases hv : v.testBit i
  · cases r.rw.testBit i <;> simp
  · cases hrw : r.rw.testBit i
    · cases hclear : r.w1c.testBit i <;> simp_all [Bool.or_comm]
    · simp_all

/-- Cutting a number to a 32-bit word leaves its low 32 bits. -/
theorem nbit_mod_word (n : Nat) {i : Nat} (h : i < 32) : nbit (n % 2 ^ 32) i = nbit n i := by
  rw [nbit_eq_testBit, nbit_eq_testBit, Nat.testBit_mod_two_pow, decide_eq_true h, Bool.true_and]

/-! Changes of registers alone. -/

/-- From one state of the device to another nothing changes but registers whose address is in a set. -/
structure Dev.Rewrites (P : Nat → Prop) (d e : Dev) : Prop where
  rd : ∀ a, ¬P a → e.rd a = d.rd a
  rest : e = { d with regs := e.regs }

theorem Dev.Rewrites.refl (P : Nat → Prop) (d : Dev) : Dev.Rewrites P d d := ⟨fun _ _ => rfl, rfl⟩

theorem Dev.Rewrites.trans {P : Nat → Prop} {d e f : Dev} (h : Dev.Rewrites P d e) (k : Dev.Rewrites P e f) :
    Dev.Rewrites P d f :=
  ⟨fun a ha => (k.rd a ha).trans (h.rd a ha), by have := k.rest; rw [h.rest] at this; exact this⟩

theorem Dev.Rewrites.ite {P : Nat → Prop} {d e f : Dev} {c : Prop} [Decidable c] (h : Dev.Rewrites P d e)
    (k : Dev.Rewrites P d f) : Dev.Rewrites P d (if c then e else f) := by
  split
  · exact h
  · exact k

/-- Steps that each rewrite only registers of a set do so together. -/
theorem Dev.Rewrites.foldl {P : Nat → Prop} {α : Type} {f : Dev → α → Dev} {l : List α}
    (h : ∀ d, ∀ x ∈ l, Dev.Rewrites P d (f d x)) (d : Dev) : Dev.Rewrites P d (l.foldl f d) := by
  induction l generalizing d with
  | nil => exact .refl ..
  | cons x l ih =>
    exact (h d x (List.mem_cons_self ..)).trans (ih (fun d y hy => h d y (List.mem_cons_of_mem _ hy)) _)

theorem Dev.Rewrites.glk {P : Nat → Prop} {d e : Dev} (h : Dev.Rewrites P d e) : e.glk = d.glk :=
  (congrArg Dev.glk h.rest).trans rfl
theorem Dev.Rewrites.replies {P : Nat → Prop} {d e : Dev} (h : Dev.Rewrites P d e) : e.replies = d.replies :=
  (congrArg Dev.replies h.rest).trans rfl
theorem Dev.Rewrites.wipes {P : Nat → Prop} {d e : Dev} (h : Dev.Rewrites P d e) : e.wipes = d.wipes :=
  (congrArg Dev.wipes h.rest).trans rfl

theorem Dev.rewrites_wrN {P : Nat → Prop} (d : Dev) {a : Nat} (v : Nat) (h : P a) : Dev.Rewrites P d (d.wrN a v) :=
  ⟨fun _ hb => Dev.rd_wrN_ne d v (fun e => hb (e ▸ h)), rfl⟩

theorem Dev.rewrites_put {P : Nat → Prop} (d : Dev) {a : Nat} (f : Fld) (v : Nat) (h : P a) : Dev.Rewrites P d (d.put a f v) :=
  Dev.rewrites_wrN d _ h

/-- A step that rewrites only listed registers of the device changes nothing else. -/
theorem State.onlyChanges_of_rewrites {s : State} {l : List Nat} {e : Dev} (h : Dev.Rewrites (· ∈ l) s.start e) :
    s.OnlyChanges { s with dev := e } l s.dev := by
  refine ⟨h.rd, ?_⟩
  have hrest := h.rest
  generalize e.regs = r at hrest
  subst hrest
  rfl

/-! Storing by the access codes: `Dev.access`. -/

/-- A write by the access codes leaves in its register what `Dev.stored` says. -/
theorem Dev.rdN_access_same (d : Dev) (a v : Nat) : (d.access a v).rdN a = d.stored a v := by
  cases h : regFind a with
  | none => simp only [Dev.access, Dev.stored, h]
  | some found => simp only [Dev.access, Dev.stored, h, Dev.rdN_wrN_same]

/-- A write by the access codes changes its register alone. -/
theorem Dev.rewrites_access (d : Dev) (a v : Nat) : Dev.Rewrites (· = a) d (d.access a v) := by
  unfold Dev.access
  split
  · exact .refl ..
  · exact Dev.rewrites_wrN _ _ rfl

/-- An address with no register ignores a write (19_gellen.md R559). -/
theorem Dev.access_of_none (d : Dev) {a : Nat} (v : Nat) (h : regFind a = none) : d.access a v = d := by
  simp only [Dev.access, h]

/-- What is stored depends on the register alone. -/
theorem Dev.stored_congr {d e : Dev} {a : Nat} (h : d.rd a = e.rd a) (v : Nat) : d.stored a v = e.stored a v := by
  simp only [Dev.stored, Dev.rdN_congr h]

/-! Writes of the clock, reset and boot blocks. -/

/-- No address of the clock, reset and boot blocks is fused off (00_scope.md R2). -/
theorem Dev.fusedOff_of_lt (d : Dev) {a : Nat} (h : a < 0x40000) : d.fusedOff a = false := by
  simp [Dev.fusedOff]; omega

/-- A write at the address only stores: the device is not in NOBOOT, and the address lies in the clock, reset and boot blocks and is
not that of a register with a behaviour of its own (20_clocks_boot.md R598, R601-R603). -/
structure Dev.OnlyStores (d : Dev) (a : Nat) : Prop where
  lo : 0x10000 ≤ a
  hi : a < 0x40000
  notCtrl : a ≠ rRST_CTRL
  notBlock : a ≠ rRST_BLOCK
  notFlash : a ≠ rBOOT_FLASH_CMD
  boots : d.bootState ≠ 7

/-- Such a write stores by the access codes. -/
theorem State.regWrite_stores {s : State} {a : Nat} (h : s.dev.OnlyStores a) (v : Nat) :
    s.regWrite a v = { s with dev := s.dev.access a v } := by
  obtain ⟨lo, hi, hc, hb, hf, hn⟩ := h
  have hm : inMbx a = false := by simp [inMbx]; omega
  have hg : ¬(0x80000 ≤ a ∧ a < 0x90000) := by omega
  have hn' : s.dev.get rBOOT_STATUS fBOOT_STATUS_STATE ≠ 7 := hn
  simp only [State.regWrite, hm, hf, Dev.regWrite, Dev.fusedOff_of_lt _ hi, hg, hc, hn', hb, Bool.false_eq_true, if_false]
  by_cases h : a < 0x30000
  · rw [if_neg (by omega), if_neg (by omega), if_pos h]
  · rw [if_pos (by omega)]

/-! An effect on the whole machine, run as one step. -/

/-- An effect of a running device on the whole machine that leaves nothing to deliver takes place as it is. -/
theorem State.runS_quiet {s : State} (h : s.Runs) {f : State → State} {t : State} (ht : f { s with dev := s.start } = t)
    (hr : t.dev.replies = []) (hw : t.dev.wipes = []) : s.runS f = .next t := by
  have hc : s.dev.clocked = true := h.1
  simp only [State.runS, hc, if_true]
  rw [show f { s with dev := { s.dev with out := [] } } = t from ht, deliver_none hr hw]

/-- REGISTER_WRITE is a write of the privileged window (00_scope.md R9). -/
theorem exec_registerWrite (addr val : Word) (s : State) :
    exec (.registerWrite addr val) s = s.runS (fun s => s.regWrite addr.toNat val.toNat) := by rfl

/-- REGISTER_WRITE of a register that only stores does so by the access codes, and does nothing else (00_scope.md R9). -/
theorem exec_registerWrite_stores {s : State} (hs : s.Runs) {addr : Word} (h : s.dev.OnlyStores addr.toNat) (val : Word) :
    exec (.registerWrite addr val) s = .next { s with dev := s.start.access addr.toNat val.toNat } := by
  have hstart : s.start.OnlyStores addr.toNat := ⟨h.lo, h.hi, h.notCtrl, h.notBlock, h.notFlash, h.boots⟩
  have hstore := s.start.rewrites_access addr.toNat val.toNat
  rw [exec_registerWrite]
  exact State.runS_quiet hs (State.regWrite_stores (s := { s with dev := s.start }) hstart val.toNat) (hstore.replies.trans hs.2.1)
    (hstore.wipes.trans hs.2.2)

/-- Settles O60: the write stores, and the word stored is read bit by bit off the access codes. -/
theorem registerWritesObeyTheirAccessCodes : Obligations.RegisterWritesObeyTheirAccessCodes := by
  unfold Obligations.RegisterWritesObeyTheirAccessCodes
  intro s addr val b k r hs lo hi hc hb hf hn hrow hwc hws hcs
  refine ⟨_, exec_registerWrite_stores hs ⟨lo, hi, hc, hb, hf, hn⟩ val, fun i hi32 => ?_⟩
  have hword : s.dev.stored addr.toNat val.toNat = accessWord r (s.dev.rdN addr.toNat) val.toNat % 2 ^ 32 := by
    simp only [Dev.stored, hrow]
  have hread : (s.start.access addr.toNat val.toNat).rdN addr.toNat = s.dev.stored addr.toNat val.toNat :=
    Dev.rdN_access_same ..
  rw [hread, hword, nbit_mod_word _ hi32, nbit_accessWord hwc hws hcs]

end Sys2Proof.Machine

/-! Register transactions from the host (19_gellen.md R553-R563): what counting, accepting, answering and refusing one can
change. -/

namespace Sys2Proof.Machine

/-! Event counters (21_counters_test.md R608-R615) write registers of the counters' block alone. -/

/-- The address belongs to the counters' block (19_gellen.md R559). -/
abbrev inCnt (a : Nat) : Prop := 0xA0000 ≤ a ∧ a < 0xB0000

/-- One of the 4096 event counters added to: its two words, its sticky bit and the sampling units bound to it. -/
theorem Dev.rewrites_evcAdd (d : Dev) {c : Nat} (n : Nat) (hc : c < 4096) : Dev.Rewrites inCnt d (d.evcAdd c n) := by
  unfold Dev.evcAdd Dev.when Dev.wr64
  refine Dev.Rewrites.trans (Dev.Rewrites.trans (Dev.Rewrites.trans (Dev.rewrites_wrN _ _ ?lo) (Dev.rewrites_wrN _ _ ?hi))
    (.ite (Dev.rewrites_put _ _ _ ?ovf) (.refl ..))) (.foldl (fun _ u hu => .ite (Dev.rewrites_wrN _ _ ?remain) (.refl ..)) _)
  case lo => simp only [inCnt, rEVC_LO]; omega
  case hi => simp only [inCnt, rEVC_HI]; omega
  case ovf => simp only [inCnt, rCNT_OVF]; omega
  case remain =>
    have := List.mem_range.1 hu
    simp only [inCnt, rCNT_SMP_REMAIN]; omega

/-- An event counted writes registers of the counters' block alone. -/
theorem Dev.rewrites_evc (d : Dev) (ev n : Nat) (a : EvAttr) : Dev.Rewrites inCnt d (d.evc ev n a) := by
  unfold Dev.evc
  refine .foldl (fun e k hk => .ite (Dev.rewrites_evcAdd _ _ ?_) (.refl ..)) _
  simp only [skeys, skeep, List.mem_map, List.mem_filter, Bool.and_eq_true, decide_eq_true_eq] at hk
  obtain ⟨e, ⟨-, hlo, hhi⟩, rfl⟩ := hk
  omega

/-! Ports. -/

@[simp] theorem Dev.port_setPort_same (d : Dev) (p : Nat) (x : GlkPort) : (d.setPort p x).port p = x := by
  unfold Dev.port Dev.setPort
  split <;> simp_all

/-- A port stands where the link's state does. -/
theorem Dev.port_congr {d e : Dev} (h : e.glk = d.glk) (p : Nat) : e.port p = d.port p := by rw [Dev.port, Dev.port, h]

@[simp] theorem Dev.port_bump (d : Dev) (a p : Nat) : (d.bump a).port p = d.port p := (rfl)

@[simp] theorem Dev.port_emit (d : Dev) (k : OutKind) (q : Nat) (l : List Nat) (b : List Byte) (p : Nat) :
    (d.emit k q l b).port p = d.port p := Dev.port_congr (Dev.emit_glk ..) p

/-! The acceptance of a transaction (R553, R555, R556). -/

/-- The device once port `p` has accepted the transaction `seq` of `words` words: it expects the next one, has counted this one,
and has sent an ACK and credit. -/
def Dev.taken (d : Dev) (p seq cls words : Nat) : Dev :=
  let x := d.port p
  let lim := (x.offer.getD cls 0 + words) % 2 ^ 32
  (((d.setPort p { x with rxNext := (seq + 1) % 65536, rxAny := true, nakSent := false, offer := x.offer.set cls lim }).bump
    (rGLK_CNT 1)).sendAck p false).emit .glkCredit p [cls, lim] []

/-- The next transaction of a port that is UP is accepted. -/
theorem Dev.receive_of_takes {d : Dev} {p seq : Nat} (h : d.Takes p seq) (cls words : Nat) :
    d.receive p seq cls words true = (true, d.taken p seq cls words) := by
  obtain ⟨hup, hseq⟩ := h
  simp [Dev.receive, Dev.taken, hup, hseq]

/-- A port that is not UP receives nothing. -/
theorem Dev.receive_of_not_up {d : Dev} {p : Nat} (h : d.portState p ≠ 4) (seq cls words : Nat) (sound : Bool) :
    d.receive p seq cls words sound = (false, d) := by
  rw [Dev.receive, if_pos h]

/-- An acceptance changes the counter of transactions received, the port and what was sent. -/
theorem Dev.talk_taken (d : Dev) (p seq cls words : Nat) : Dev.Talk [rGLK_CNT 1] d (d.taken p seq cls words) :=
  (((Dev.talk_setPort ..).trans (Dev.talk_bump _ (List.mem_singleton.2 rfl))).trans (Dev.talk_emit ..)).trans (Dev.talk_emit ..)

/-- The port after an acceptance. -/
theorem Dev.port_taken (d : Dev) (p seq cls words : Nat) : (d.taken p seq cls words).port p = { d.port p with
    rxNext := (seq + 1) % 65536, rxAny := true, nakSent := false
    offer := (d.port p).offer.set cls (((d.port p).offer.getD cls 0 + words) % 2 ^ 32) } := by
  simp [Dev.taken, Dev.sendAck]

/-! The sending of a transaction (R555, R556). -/

/-- A byte string is its own padding to its length. -/
theorem padTo_length (bs : List Byte) : padTo bs.length bs = bs := by
  apply List.ext_getElem
  · simp [padTo, slice]
  · intro i h1 h2
    simp [padTo, slice, h2]

/-- A transaction that finds room in the store and credit leaves at once: it joins the unacknowledged ones under the next SEQ. -/
theorem Dev.port_pumpList_one {d : Dev} {p : Nat} {t : Trans} (hstore : (d.port p).store.length < 512)
    (hroom : ((d.port p).store.map (fun u => u.body.length + 16)).sum + t.body.length + 16 ≤ 65536)
    (hcredit : creditOk ((d.port p).limit.getD t.cls 0) ((d.port p).consumed.getD t.cls 0) t.words = true) :
    (Dev.pumpList d p [] [t]).port p = { d.port p with
      txNext := ((d.port p).txNext + 1) % 65536
      store := (d.port p).store ++ [{ t with seq := (d.port p).txNext }]
      consumed := (d.port p).consumed.set t.cls (((d.port p).consumed.getD t.cls 0 + t.words) % 2 ^ 32) } := by
  have hfull := decide_eq_false (show ¬512 ≤ (d.port p).store.length by omega)
  have hroom' := decide_eq_false (Nat.not_lt.2 hroom)
  simp only [Dev.pumpList, hfull, hroom', hcredit, List.contains_nil, Bool.or_false, Bool.not_true, Bool.false_eq_true, if_false,
    Dev.port_emit, Dev.port_bump, Dev.port_setPort_same]

/-- A port that may send a transaction of whole words keeps it among the unacknowledged ones, under the next SEQ. -/
theorem Dev.port_send {d : Dev} {p typ : Nat} {body : List Byte} (h : d.MaySend p typ body.length) (h8 : body.length % 8 = 0) :
    (d.send p typ body).port p = { d.port p with
      txNext := ((d.port p).txNext + 1) % 65536
      store := (d.port p).store ++ [⟨typ, transClass typ, (d.port p).txNext, body⟩]
      consumed := (d.port p).consumed.set (transClass typ)
        (((d.port p).consumed.getD (transClass typ) 0 + (body.length / 8 + 2)) % 2 ^ 32)
      queue := [] } := by
  obtain ⟨hup, hqueue, hstore, hroom, hcredit⟩ := h
  have hpad : padTo ((body.length + 7) / 8 * 8) body = body := by
    rw [show (body.length + 7) / 8 * 8 = body.length by omega, padTo_length]
  have hup' : ∀ x, (d.setPort p x).portState p = 4 := fun _ => hup
  simp only [Dev.send, Dev.pump, if_pos hup, hup', if_true, hqueue, hpad, List.nil_append, Dev.port_setPort_same]
  rw [Dev.port_pumpList_one (by rwa [Dev.port_setPort_same]) (by rwa [Dev.port_setPort_same]) (by rwa [Dev.port_setPort_same]),
    Dev.port_setPort_same]
  rfl

/-! Counters and sticky bits. -/

/-- A counter register added to has counted that many more. -/
theorem Dev.rdN_bumpBy_same (d : Dev) (a n : Nat) : (d.bumpBy a n).rdN a % 2 ^ 31 = (d.rdN a + n) % 2 ^ 31 := by
  simp only [Dev.bumpBy, Dev.rdN_wrN_same]
  split <;> omega

/-- A one-bit field set reads 1. -/
theorem Dev.bit_mark_same (d : Dev) (a : Nat) {f : Fld} (h1 : f.hi = f.lo) (h32 : f.hi < 32) : (d.mark a f).bit a f = true := by
  rw [Dev.bit, Dev.mark, Dev.get_put_same _ _ _ ⟨Nat.le_of_eq h1.symm, h32⟩, h1, Nat.sub_self]; rfl

/-! What an alert does to GLK_ERR (R575). -/

/-- ALERT_L and ALERT_PEND are all that the alert pin writes. -/
theorem Dev.talk_alertPin_pins (d : Dev) : Dev.Talk [rGLK_STATUS, rPIN_STATUS] d d.alertPin := by
  unfold Dev.alertPin
  refine .ite (fun _ => .refl ..) (fun _ => ?_)
  refine Dev.Talk.trans (Dev.Talk.trans (Dev.talk_put _ _ _ ?_) (Dev.talk_put _ _ _ ?_)) (Dev.talk_emit ..)
  · exact List.mem_cons_self ..
  · exact List.mem_cons_of_mem _ (List.mem_cons_self ..)

/-- An alert sent writes the counters of transactions and of alerts sent. -/
theorem Dev.talk_sendAlert_counts (d : Dev) (a : AlertRec) : Dev.Talk [rGLK_CNT 0, rGLK_CNT 6] d (d.sendAlert a) := by
  have hs : ∀ (x : Dev) p, Dev.Talk [rGLK_CNT 0, rGLK_CNT 6] x (x.send p 0x90 a.body) := fun x p =>
    (Dev.talk_send x p 0x90 a.body).mono (by simp)
  unfold Dev.sendAlert
  refine .ite (fun _ => ?_) (fun _ => ?_)
  · exact ((hs ..).trans (hs ..)).trans (Dev.talk_bumpBy _ _ (by simp))
  · split
    · exact (hs ..).trans (Dev.talk_bump _ (by simp))
    · exact .refl ..

/-- The link's state holds no register. -/
theorem Dev.get_withGlk (d : Dev) (x : GlkState) (a : Nat) (g : Fld) : Dev.get { d with glk := x } a g = d.get a g := by rfl

/-- An alert leaves every field of GLK_ERR but ALERT_LOST alone. -/
theorem Dev.get_alert_err (d : Dev) (code : Nat) (ps : List Byte) {g : Fld} (h : fGLK_ERR_ALERT_LOST.apart g) :
    (d.alert code ps).get rGLK_ERR g = d.get rGLK_ERR g := by
  unfold Dev.alert
  split
  · rfl
  · rw [Dev.get_congr ((Dev.talk_alertPin_pins _).rd _ (by decide)),
      Dev.get_congr ((Dev.talk_sendAlert_counts ..).rd _ (by decide)), Dev.get_withGlk, Dev.get_put_ne _ _ _ _ (by decide)]
    unfold Dev.when
    split
    · exact (Dev.get_put_apart _ _ _ (by decide) h).trans (Dev.get_wrN_ne _ g _ (by decide))
    · rfl

/-! Violations (R563). -/

/-- The oldest violation shown anew writes GLK_VIOL_DATA. -/
theorem Dev.rewrites_showViol (d : Dev) : Dev.Rewrites (fun a => ∃ i < 4, a = rGLK_VIOL_DATA i) d d.showViol :=
  .foldl (fun _ i hi => Dev.rewrites_wrN _ _ ⟨i, List.mem_range.1 hi, rfl⟩) d

/-- A violation entered in the log, while it has room. -/
def Dev.logViol (d : Dev) (x : Viol) : Dev :=
  if 64 ≤ d.glk.viols.length then d else ({ d with glk := { d.glk with viols := d.glk.viols ++ [x] } }).showViol

/-- A violation is counted, marked, logged and alerted (R563). -/
theorem Dev.violation_eq (d : Dev) (ten addr : Nat) : ∃ x, d.violation ten addr =
    (((d.bump (rGLK_VIOL_CNT ten)).mark rGLK_ERR fGLK_ERR_VIOLATION).logViol x).alertOnce 0x1203 ten (p4 ten ++ p4 addr) := by
  unfold Dev.violation Dev.logViol
  exact ⟨_, rfl⟩

/-- The registers that host traffic may change: those of Gellen's and the counters' blocks and PIN_STATUS. -/
def linkReg (a : Nat) : Prop := (0x80000 ≤ a ∧ a < 0x90000) ∨ inCnt a ∨ a = rPIN_STATUS

/-- From one state of the device to another nothing changes but registers of host traffic, the link's state, what was sent and
the marks of alerts raised. -/
structure Dev.Traffic (d e : Dev) : Prop where
  rd : ∀ a, ¬linkReg a → e.rd a = d.rd a
  rest : e = { d with regs := e.regs, glk := e.glk, out := e.out, once := e.once }

theorem Dev.Traffic.trans {d e f : Dev} (h : Dev.Traffic d e) (k : Dev.Traffic e f) : Dev.Traffic d f :=
  ⟨fun a ha => (k.rd a ha).trans (h.rd a ha), by have := k.rest; rw [h.rest] at this; exact this⟩

theorem Dev.Traffic.replies {d e : Dev} (h : Dev.Traffic d e) : e.replies = d.replies := (congrArg Dev.replies h.rest).trans rfl
theorem Dev.Traffic.wipes {d e : Dev} (h : Dev.Traffic d e) : e.wipes = d.wipes := (congrArg Dev.wipes h.rest).trans rfl

theorem Dev.Talk.traffic {l : List Nat} {d e : Dev} (h : Dev.Talk l d e) (hl : ∀ a ∈ l, linkReg a) : Dev.Traffic d e := by
  refine ⟨fun a ha => h.rd a (fun hm => ha (hl a hm)), ?_⟩
  have hrest := h.rest
  generalize e.regs = r, e.out = o, e.glk.portA = pa, e.glk.portB = pb, e.glk.log = lg at hrest
  rw [hrest]

theorem Dev.Rewrites.traffic {P : Nat → Prop} {d e : Dev} (h : Dev.Rewrites P d e) (hP : ∀ a, P a → linkReg a) :
    Dev.Traffic d e := by
  refine ⟨fun a ha => h.rd a (fun hm => ha (hP a hm)), ?_⟩
  have hrest := h.rest
  generalize e.regs = r at hrest
  rw [hrest]

/-- The registers that an alert can write are among those of host traffic. -/
theorem linkReg_of_mem_alertRegs : ∀ a ∈ alertRegs, linkReg a := by
  simp [alertRegs, linkReg, rGLK_CNT, rGLK_ERR, rGLK_ALERT_SEQ, rGLK_STATUS]

theorem linkReg_rGLK_CNT {i : Nat} (h : i < 10) : linkReg (rGLK_CNT i) := by
  unfold linkReg rGLK_CNT; omega

/-- An alert raised at most once in a tick is host traffic. -/
theorem Dev.traffic_alertOnce (d : Dev) (code key : Nat) (ps : List Byte) : Dev.Traffic d (d.alertOnce code key ps) := by
  have ha := (Dev.talk_alert d code ps).traffic linkReg_of_mem_alertRegs
  unfold Dev.alertOnce
  split
  · exact ⟨fun _ _ => rfl, rfl⟩
  · refine ha.trans ?_
    exact ⟨fun _ _ => rfl, rfl⟩

/-- A violation logged rewrites registers of Gellen's block and its log. -/
theorem Dev.traffic_logViol (d : Dev) (x : Viol) : Dev.Traffic d (d.logViol x) := by
  unfold Dev.logViol
  split
  · exact ⟨fun _ _ => rfl, rfl⟩
  · have h := (Dev.rewrites_showViol { d with glk := { d.glk with viols := d.glk.viols ++ [x] } }).traffic
      (by rintro a ⟨i, hi, rfl⟩; unfold linkReg rGLK_VIOL_DATA; omega)
    refine Dev.Traffic.trans ?_ h
    exact ⟨fun _ _ => rfl, rfl⟩

/-- A violation logged writes GLK_VIOL_DATA alone. -/
theorem Dev.rd_logViol (d : Dev) (x : Viol) {a : Nat} (h : ∀ i < 4, a ≠ rGLK_VIOL_DATA i) : (d.logViol x).rd a = d.rd a := by
  unfold Dev.logViol
  split
  · rfl
  · exact (Dev.rewrites_showViol _).rd a (by rintro ⟨i, hi, rfl⟩; exact h i hi rfl)

/-- A violation is host traffic. -/
theorem Dev.traffic_violation (d : Dev) {ten : Nat} (addr : Nat) (h : ten < 16) : Dev.Traffic d (d.violation ten addr) := by
  obtain ⟨x, e⟩ := d.violation_eq ten addr
  have hcnt := (Dev.talk_bump (l := [rGLK_VIOL_CNT ten]) d (List.mem_singleton.2 rfl)).traffic
    (by simp only [List.mem_singleton, forall_eq, linkReg, rGLK_VIOL_CNT]; omega)
  have herr := (Dev.talk_put (l := [rGLK_ERR]) (d.bump (rGLK_VIOL_CNT ten)) fGLK_ERR_VIOLATION 1 (List.mem_singleton.2 rfl)).traffic
    (by simp [linkReg, rGLK_ERR])
  rw [e]
  exact ((hcnt.trans herr).trans (Dev.traffic_logViol ..)).trans (Dev.traffic_alertOnce ..)

/-- An alert raised at most once leaves every register but the alert registers alone. -/
theorem Dev.rd_alertOnce (d : Dev) (code key : Nat) (ps : List Byte) {a : Nat} (h : a ∉ alertRegs) :
    (d.alertOnce code key ps).rd a = d.rd a := by
  unfold Dev.alertOnce
  split
  · rfl
  · exact Dev.rd_alert d code ps h

/-- GLK_VIOL_CNT of a tenant is neither an alert register nor GLK_VIOL_DATA. -/
theorem rGLK_VIOL_CNT_apart {ten : Nat} (h : ten < 16) :
    rGLK_VIOL_CNT ten ∉ alertRegs ∧ rGLK_VIOL_CNT ten ≠ rGLK_ERR ∧ ∀ i < 4, rGLK_VIOL_CNT ten ≠ rGLK_VIOL_DATA i := by
  refine ⟨?_, ?_, fun i hi => ?_⟩
  · simp only [alertRegs, List.mem_cons, List.not_mem_nil, or_false, rGLK_VIOL_CNT, rGLK_CNT, rGLK_ERR, rGLK_ALERT_SEQ,
      rGLK_STATUS, rPIN_STATUS]
    omega
  · unfold rGLK_VIOL_CNT rGLK_ERR; omega
  · unfold rGLK_VIOL_CNT rGLK_VIOL_DATA; omega

/-- A violation counts in its tenant's counter, once. -/
theorem Dev.violation_counts (d : Dev) {ten : Nat} (addr : Nat) (h : ten < 16) :
    (d.violation ten addr).rdN (rGLK_VIOL_CNT ten) % 2 ^ 31 = (d.rdN (rGLK_VIOL_CNT ten) + 1) % 2 ^ 31 := by
  obtain ⟨halert, herr, hdata⟩ := rGLK_VIOL_CNT_apart h
  obtain ⟨x, e⟩ := d.violation_eq ten addr
  rw [e, Dev.rdN_congr (Dev.rd_alertOnce _ _ _ _ halert), Dev.rdN_congr (Dev.rd_logViol _ _ hdata), Dev.mark,
    Dev.rdN_put_ne _ _ _ herr]
  exact Dev.rdN_bumpBy_same ..

/-- A violation sets GLK_ERR.VIOLATION. -/
theorem Dev.violation_marks (d : Dev) (ten addr : Nat) : (d.violation ten addr).bit rGLK_ERR fGLK_ERR_VIOLATION = true := by
  obtain ⟨x, e⟩ := d.violation_eq ten addr
  have hdata : ∀ i < 4, rGLK_ERR ≠ rGLK_VIOL_DATA i := by unfold rGLK_ERR rGLK_VIOL_DATA; omega
  have hlog : (((d.bump (rGLK_VIOL_CNT ten)).mark rGLK_ERR fGLK_ERR_VIOLATION).logViol x).bit rGLK_ERR fGLK_ERR_VIOLATION =
      true := by
    rw [Dev.bit, Dev.get_congr (Dev.rd_logViol _ _ hdata)]
    exact Dev.bit_mark_same _ _ (by decide) (by decide)
  rw [e]
  unfold Dev.alertOnce
  split
  · exact hlog
  · exact (congrArg (· == 1) (Dev.get_alert_err _ _ _ (Or.inr (by decide)))).trans hlog

/-! What the privileged window shows of a register (19_gellen.md R559) while the link's and the counters' registers change. -/

/-- Outside Gellen's, the Almanac's and the counters' blocks a register shows what the registers of its own block, and the state
of the Colander, the Catalogue and the gate lists, make it show. -/
theorem Dev.Traffic.regRead_eq {d e : Dev} (h : Dev.Traffic d e)
    (hrd : ∀ a, a < 0x80000 ∨ 0xB0000 ≤ a → e.rd a = d.rd a) {a : Nat} (ha : a < 0x80000 ∨ 0xB0000 ≤ a) :
    e.regRead a = d.regRead a := by
  have hrest := h.rest
  have hrdN : ∀ b, b < 0x80000 ∨ 0xB0000 ≤ b → e.rdN b = d.rdN b := fun b hb => Dev.rdN_congr (hrd b hb)
  have hsel : e.gateSel = d.gateSel := Dev.get_congr (hrd rDSQ_GATE_SEL (by decide)) _
  have hgate : ∀ w i, e.gateWindow w i = d.gateWindow w i := by
    intro w i
    rw [Dev.gateWindow, hsel, hrest]
    rfl
  have hcol : e.colView a = d.colView a := by
    rw [Dev.colView, hrdN rCOL_ED_SEL (by decide), hrest]
    rfl
  rw [Dev.regRead, hrdN a ha, hgate, hcol, hrest]
  rfl

/-- The same of the whole machine: the mailbox array shows its registers and the byte memory (R564, R565). -/
theorem State.regRead_traffic {s : State} {e : Dev} (h : Dev.Traffic s.dev e)
    (hrd : ∀ a, a < 0x80000 ∨ 0xB0000 ≤ a → e.rd a = s.dev.rd a) {a : Nat} (ha : a < 0x80000 ∨ 0xB0000 ≤ a) :
    State.regRead { s with dev := e } a = s.regRead a := by
  have hdev : e.regRead a = s.dev.regRead a := h.regRead_eq hrd ha
  unfold State.regRead
  split
  · next hm =>
    have hlt : (a - 0x40000) / 0x1000 < 64 := by simp [inMbx] at hm; omega
    have hstate : e.get (rMBX_STATUS ((a - 0x40000) / 0x1000)) fMBX_STATUS_STATE =
        s.dev.get (rMBX_STATUS ((a - 0x40000) / 0x1000)) fMBX_STATUS_STATE :=
      Dev.get_congr (hrd _ (by unfold rMBX_STATUS; omega)) _
    simp only [State.mbxRead, hdev, hstate]
    rfl
  · exact hdev

/-! One register transaction (R553-R560). -/

/-- A register transaction of a port that is not UP changes nothing. -/
theorem State.accepted_of_not_up {s : State} {p : Nat} (h : s.dev.portState p ≠ 4) (seq req addr words : Nat)
    (run : State → State) : s.accepted p seq req addr words run = s := by
  simp only [State.accepted, Dev.receive_of_not_up h, Bool.not_false, if_true]

/-- A register transaction of an allowed requester at an aligned address is accepted and runs. -/
theorem State.accepted_of_takes {s : State} {p seq req addr words : Nat} (h : s.dev.Takes p seq) (hreq : req < 16 ∨ req = 0x1F)
    (haddr : addr % 4 = 0) (hw : 2 ≤ words ∧ words ≤ 520) (run : State → State) :
    s.accepted p seq req addr words run = run { s with dev := s.dev.taken p seq 0 (1 + words) } := by
  have hsound : (decide (2 ≤ words) && decide (words ≤ 520)) = true := by simp [hw]
  have hok : ¬((16 ≤ req ∧ req ≠ 0x1F) ∨ addr % 4 ≠ 0) := by omega
  simp only [State.accepted, hsound, Dev.receive_of_takes h, Bool.not_true, Bool.false_eq_true, if_false, hok]

theorem exec_regRead (p : Fin 2) (seq : Fin 65536) (req : Fin 32) (addr : Word) (tag : Fin 65536) (more : Fin 64) (s : State) :
    exec (.regRead p seq req addr tag more) s = execRegRead p seq req addr tag more s := by rfl

theorem exec_regWrite (p : Fin 2) (seq : Fin 65536) (req : Fin 32) (addr : Word) (vals : List Word) (s : State) :
    exec (.regWrite p seq req addr vals) s = execRegWrite p seq req addr vals s := by rfl

/-- The device once it has accepted a register transaction of `words` words and counted the access of `req` to `a`
(R553; 21_counters_test.md R609). -/
def Dev.accessed (d : Dev) (p seq words ev req a : Nat) : Dev := (d.taken p seq 0 words).accessEvent ev req a

/-- A register access accepted and counted is host traffic. -/
theorem Dev.traffic_accessed (d : Dev) (p seq words ev req a : Nat) : Dev.Traffic d (d.accessed p seq words ev req a) :=
  ((Dev.talk_taken d p seq 0 words).traffic (by simpa using linkReg_rGLK_CNT (i := 1) (by decide))).trans
    ((Dev.rewrites_evc ..).traffic (fun _ h => .inr (.inl h)))

/-- It writes registers of the counters' block and the counter of transactions received alone. -/
theorem Dev.rd_accessed (d : Dev) (p seq words ev req : Nat) (x : Nat) {a : Nat} (h : ¬inCnt a) (h1 : a ≠ rGLK_CNT 1) :
    (d.accessed p seq words ev req x).rd a = d.rd a :=
  ((Dev.rewrites_evc ..).rd a h).trans ((Dev.talk_taken ..).rd a (by simpa using h1))

/-- The port that accepted it expects the next transaction; it may send what it might before. -/
theorem Dev.port_accessed (d : Dev) (p seq words ev req a : Nat) : (d.accessed p seq words ev req a).port p = { d.port p with
    rxNext := (seq + 1) % 65536, rxAny := true, nakSent := false
    offer := (d.port p).offer.set 0 (((d.port p).offer.getD 0 0 + words) % 2 ^ 32) } := by
  exact (Dev.port_congr (Dev.rewrites_evc ..).glk p).trans (Dev.port_taken ..)

/-- A REG_READ of one register, accepted: the completion carries what the read gives (R557). -/
theorem exec_regRead_one {s : State} (hs : s.Runs) {p : Fin 2} {seq : Fin 65536} {req : Fin 32} {addr : Word} {tag : Fin 65536}
    (ht : s.dev.Takes p.val seq.val) (hreq : req.val < 16 ∨ req.val = 0x1F) (haddr : addr.toNat % 4 = 0) {v : Nat} {e : Dev}
    (hread : State.hostRead { s with dev := s.start.taken p.val seq.val 0 3 } req.val addr.toNat = (v, { s with dev := e }))
    (he : Dev.Traffic s.start e) : exec (.regRead p seq req addr tag 0) s =
      .next { s with dev := e.send p.val 0x81 (leB 2 tag.val ++ leB 1 1 ++ leB 5 0 ++ leB 4 v ++ leB 4 0) } := by
  rw [exec_regRead]
  refine State.runS_quiet hs ?_ ((Dev.send_replies ..).trans (he.replies.trans hs.2.1))
    ((Dev.send_wipes ..).trans (he.wipes.trans hs.2.2))
  rw [State.accepted_of_takes (s := { s with dev := s.start }) ht hreq haddr (by decide)]
  simp only [State.hostReads, hread]
  simp

/-- A REG_WRITE of one register, accepted. -/
theorem exec_regWrite_one {s : State} (hs : s.Runs) {p : Fin 2} {seq : Fin 65536} {req : Fin 32} {addr val : Word}
    (ht : s.dev.Takes p.val seq.val) (hreq : req.val < 16 ∨ req.val = 0x1F) (haddr : addr.toNat % 4 = 0) {e : Dev}
    (hwrite : State.hostWrite { s with dev := s.start.taken p.val seq.val 0 4 } req.val addr.toNat val.toNat = { s with dev := e })
    (hr : e.replies = []) (hw : e.wipes = []) : exec (.regWrite p seq req addr [val]) s = .next { s with dev := e } := by
  rw [exec_regWrite]
  refine State.runS_quiet hs ?_ hr hw
  rw [State.accepted_of_takes (s := { s with dev := s.start }) ht hreq haddr (by simp)]
  simp only [List.map_cons, List.map_nil, State.hostWrites, List.length_singleton]
  exact hwrite

/-! One access of a requester (R559-R563). -/

/-- No block of the privileged window lies in a tenant window (R559, R561). -/
theorem inWindows_of_inBlock {a : Nat} (h : inBlock a = true) : inWindows a = false := by
  simp only [inBlock, Bool.or_eq_true, Bool.and_eq_true, decide_eq_true_eq] at h
  simp only [inWindows, Bool.and_eq_false_iff, decide_eq_false_iff_not]
  omega

/-- The owner reads a register of the privileged window, and the access is counted. -/
theorem State.hostRead_owner (s : State) {a : Nat} (h : inBlock a = true) : s.hostRead 0x1F a =
    (State.regRead { s with dev := s.dev.accessEvent 0x0400 0x1F a } a, { s with dev := s.dev.accessEvent 0x0400 0x1F a }) := by
  simp [State.hostRead, inWindows_of_inBlock h, h]

/-- The owner writes a register of the privileged window, and the access is counted. -/
theorem State.hostWrite_owner (s : State) {a : Nat} (v : Nat) (h : inBlock a = true) :
    s.hostWrite 0x1F a v = State.regWrite { s with dev := s.dev.accessEvent 0x0401 0x1F a } a v := by
  simp [State.hostWrite, inWindows_of_inBlock h, h]

/-- The requester may not reach the address: it is a tenant's, and the address is outside its window. -/
def outsideWindow (req a : Nat) : Prop := req < 16 ∧ (inWindows a = false ∨ winTenant a ≠ req)

theorem outsideWindow_not {req a : Nat} (h : outsideWindow req a) :
    req ≠ 0x1F ∧ (inWindows a && winTenant a == req) = false := by
  obtain ⟨hreq, hwin⟩ := h
  refine ⟨by omega, ?_⟩
  rcases hwin with hwin | hwin <;> simp [hwin]

/-- A tenant's read outside its window gives all ones, and is a violation (R563). -/
theorem State.hostRead_outside (s : State) {req a : Nat} (h : outsideWindow req a) : s.hostRead req a =
    (0xFFFFFFFF, { s with dev := (s.dev.accessEvent 0x0400 req a).violation req a }) := by
  obtain ⟨hreq, hwin⟩ := outsideWindow_not h
  simp only [State.hostRead, hreq, hwin, Bool.false_eq_true, if_false]

/-- A tenant's write outside its window is a violation and writes nothing (R563). -/
theorem State.hostWrite_outside (s : State) {req a : Nat} (v : Nat) (h : outsideWindow req a) : s.hostWrite req a v =
    { s with dev := (s.dev.accessEvent 0x0401 req a).violation req a } := by
  obtain ⟨hreq, hwin⟩ := outsideWindow_not h
  simp only [State.hostWrite, hreq, hwin, Bool.false_and, Bool.false_eq_true, if_false]

/-! Register transactions and REGISTER_WRITE, as the host sees them. -/

/-- A register transaction on a port that is not UP has no effect (R552). -/
theorem regTransaction_of_not_up {s : State} (hs : s.Runs) {p : Fin 2} (hup : s.dev.portState p.val ≠ 4)
    (seq : Fin 65536) (req : Fin 32) (addr : Word) (tag : Fin 65536) (more : Fin 64) (vals : List Word) {i : Instr}
    (hi : i ∈ [Instr.regRead p seq req addr tag more, .regWrite p seq req addr vals]) :
    ∃ t, exec i s = .next t ∧ s.OnlyChanges t [] s.dev := by
  have hacc := State.accepted_of_not_up (s := { s with dev := s.start }) hup
  refine ⟨{ s with dev := s.start }, ?_, fun _ _ => rfl, rfl⟩
  simp only [List.mem_cons, List.not_mem_nil, or_false] at hi
  rcases hi with rfl | rfl
  · exact (exec_regRead ..).trans (State.runS_quiet hs (hacc ..) hs.2.1 hs.2.2)
  · exact (exec_regWrite ..).trans (State.runS_quiet hs (hacc ..) hs.2.1 hs.2.2)

/-- What the owner reads of a register outside Gellen's, the Almanac's and the counters' blocks in an accepted transaction is what
the register showed before it. -/
theorem State.hostRead_accessed (s : State) (p seq words : Nat) {a : Nat} (hb : inBlock a = true)
    (hout : a < 0x80000 ∨ 0xB0000 ≤ a) :
    State.hostRead { s with dev := s.start.taken p seq 0 words } 0x1F a =
      (s.regRead a, { s with dev := s.start.accessed p seq words 0x0400 0x1F a }) := by
  have hrd : ∀ b, b < 0x80000 ∨ 0xB0000 ≤ b → (s.start.accessed p seq words 0x0400 0x1F a).rd b = s.start.rd b :=
    fun b hb => Dev.rd_accessed _ _ _ _ _ _ _ (by unfold inCnt; omega) (by unfold rGLK_CNT; omega)
  have hshow := State.regRead_traffic (s := { s with dev := s.start }) (Dev.traffic_accessed ..) hrd hout
  exact (State.hostRead_owner _ hb).trans (congrArg (·, _) hshow)

/-- A port that may send a transaction may send it still once an access has been accepted and counted. -/
theorem Dev.maySend_accessed {d : Dev} {p typ len : Nat} (h : d.MaySend p typ len) (seq words ev req a : Nat) :
    (d.accessed p seq words ev req a).MaySend p typ len := by
  have hstate : (d.accessed p seq words ev req a).portState p = d.portState p :=
    Dev.get_congr (Dev.rd_accessed _ _ _ _ _ _ _ (by decide) (by decide)) _
  rw [Dev.MaySend, hstate, Dev.port_accessed]
  exact h

/-- The owner's REG_READ of one register is accepted and answered with what the register shows (R557, R560). -/
theorem regRead_answers {s : State} (hs : s.Runs) {p : Fin 2} {seq : Fin 65536} {addr : Word} (tag : Fin 65536)
    (ht : s.dev.Takes p.val seq.val) (hm : s.dev.MaySend p.val 0x81 16) (haddr : addr.toNat % 4 = 0)
    (hb : inBlock addr.toNat = true) (hout : addr.toNat < 0x80000 ∨ 0xB0000 ≤ addr.toNat) :
    ∃ t, exec (.regRead p seq 0x1F addr tag 0) s = .next t ∧ (t.dev.port p.val).rxNext = (seq.val + 1) % 65536 ∧
      s.Sends t p.val 0x81 (leB 2 tag.val ++ leB 1 1 ++ leB 5 0 ++ leB 4 (s.regRead addr.toNat) ++ leB 4 0) := by
  have hlen : (leB 2 tag.val ++ leB 1 1 ++ leB 5 0 ++ leB 4 (s.regRead addr.toNat) ++ leB 4 0).length = 16 := by simp [leB]
  have hmay := Dev.maySend_accessed (d := s.start) hm seq.val 3 0x0400 0x1F addr.toNat
  rw [← hlen] at hmay
  have hsent := Dev.port_send hmay (by rw [hlen])
  rw [Dev.port_accessed] at hsent
  have hread := State.hostRead_accessed s p.val seq.val 3 hb hout
  refine ⟨_, exec_regRead_one hs ht (.inr rfl) haddr hread (Dev.traffic_accessed ..), ?_, ?_, ?_⟩
  · exact congrArg GlkPort.rxNext hsent
  · exact congrArg GlkPort.store hsent
  · exact congrArg GlkPort.queue hsent

/-- REGISTER_WRITE of a register that only stores leaves in it what the access codes say, and changes nothing else. -/
theorem registerWrite_stores {s : State} (hs : s.Runs) {addr : Word} (h : s.dev.OnlyStores addr.toNat) (val : Word) :
    ∃ t, exec (.registerWrite addr val) s = .next t ∧ t.dev.rdN addr.toNat = s.dev.stored addr.toNat val.toNat ∧
      s.OnlyChanges t [addr.toNat] s.dev := by
  refine ⟨_, exec_registerWrite_stores hs h val, Dev.rdN_access_same .., State.onlyChanges_of_rewrites ?_⟩
  simpa only [List.mem_singleton] using s.start.rewrites_access addr.toNat val.toNat

/-- REGISTER_WRITE at an address with no register changes nothing (R559). -/
theorem registerWrite_ignored {s : State} (hs : s.Runs) {addr : Word} (h : s.dev.OnlyStores addr.toNat) (val : Word)
    (hnone : regFind addr.toNat = none) : ∃ t, exec (.registerWrite addr val) s = .next t ∧ s.OnlyChanges t [] s.dev := by
  refine ⟨_, exec_registerWrite_stores hs h val, ?_⟩
  rw [Dev.access_of_none _ _ hnone]
  exact State.onlyChanges_of_rewrites (.refl ..)

/-- The owner's REG_WRITE of a register that only stores is accepted and stores by the access codes (R557, R560). -/
theorem regWrite_stores {s : State} (hs : s.Runs) {addr : Word} (h : s.dev.OnlyStores addr.toNat) (val : Word)
    (haddr : addr.toNat % 4 = 0) {p : Fin 2} {seq : Fin 65536} (ht : s.dev.Takes p.val seq.val) :
    ∃ t, exec (.regWrite p seq 0x1F addr [val]) s = .next t ∧ t.dev.rdN addr.toNat = s.dev.stored addr.toNat val.toNat ∧
      (t.dev.port p.val).rxNext = (seq.val + 1) % 65536 := by
  have hi := h.hi
  have hblock : inBlock addr.toNat = true := by simp [inBlock]; omega
  have hkeep : ∀ a, a < 0x40000 → (s.start.accessed p.val seq.val 4 0x0401 0x1F addr.toNat).rd a = s.dev.rd a := fun a ha =>
    Dev.rd_accessed _ _ _ _ _ _ _ (by unfold inCnt; omega) (by unfold rGLK_CNT; omega)
  have hstores : (s.start.accessed p.val seq.val 4 0x0401 0x1F addr.toNat).OnlyStores addr.toNat :=
    ⟨h.lo, h.hi, h.notCtrl, h.notBlock, h.notFlash, fun e => h.boots ((Dev.get_congr (hkeep rBOOT_STATUS (by decide)) _).symm.trans e)⟩
  have hwrite := (State.hostWrite_owner { s with dev := s.start.taken p.val seq.val 0 4 } val.toNat hblock).trans
    (State.regWrite_stores hstores val.toNat)
  have htraffic := s.start.traffic_accessed p.val seq.val 4 0x0401 0x1F addr.toNat
  have hstore := (s.start.accessed p.val seq.val 4 0x0401 0x1F addr.toNat).rewrites_access addr.toNat val.toNat
  refine ⟨_, exec_regWrite_one hs ht (.inr rfl) haddr hwrite (hstore.replies.trans (htraffic.replies.trans hs.2.1))
    (hstore.wipes.trans (htraffic.wipes.trans hs.2.2)), ?_, ?_⟩
  · exact (Dev.rdN_access_same ..).trans (Dev.stored_congr (hkeep _ hi) _)
  · exact congrArg GlkPort.rxNext ((Dev.port_congr hstore.glk p.val).trans (Dev.port_accessed ..))

/-- The device once a tenant's access outside its window has been accepted, counted and found a violation. -/
def Dev.trespassed (d : Dev) (p seq words ev req a : Nat) : Dev := (d.accessed p seq words ev req a).violation req a

/-- Such an access is host traffic, counts once in the tenant's counter of violations and sets GLK_ERR.VIOLATION (R563). -/
theorem Dev.trespassed_spec (d : Dev) (p seq words ev : Nat) {req : Nat} (a : Nat) (h : req < 16) :
    Dev.Traffic d (d.trespassed p seq words ev req a) ∧
    (d.trespassed p seq words ev req a).rdN (rGLK_VIOL_CNT req) % 2 ^ 31 = (d.rdN (rGLK_VIOL_CNT req) + 1) % 2 ^ 31 ∧
    (d.trespassed p seq words ev req a).bit rGLK_ERR fGLK_ERR_VIOLATION = true := by
  have hkeep : (d.accessed p seq words ev req a).rdN (rGLK_VIOL_CNT req) = d.rdN (rGLK_VIOL_CNT req) :=
    Dev.rdN_congr (Dev.rd_accessed _ _ _ _ _ _ _ (by unfold inCnt rGLK_VIOL_CNT; omega) (by unfold rGLK_VIOL_CNT rGLK_CNT; omega))
  refine ⟨(Dev.traffic_accessed ..).trans (Dev.traffic_violation _ _ h), ?_, Dev.violation_marks ..⟩
  rw [← hkeep]
  exact Dev.violation_counts _ _ h

/-- A tenant's REG_READ or REG_WRITE of one register outside its window is a violation, and reaches no register outside Gellen's and
the counters' blocks but PIN_STATUS, no byte memory and nothing that waits (R563). -/
theorem regTransaction_outside {s : State} (hs : s.Runs) {p : Fin 2} {seq : Fin 65536} {req : Fin 32} {addr : Word}
    (tag : Fin 65536) (val : Word) (ht : s.dev.Takes p.val seq.val) (haddr : addr.toNat % 4 = 0)
    (hout : outsideWindow req.val addr.toNat) {i : Instr}
    (hi : i ∈ [Instr.regRead p seq req addr tag 0, .regWrite p seq req addr [val]]) :
    ∃ e, exec i s = .next { s with dev := e } ∧ Dev.Traffic s.start e ∧
      e.rdN (rGLK_VIOL_CNT req.val) % 2 ^ 31 = (s.dev.rdN (rGLK_VIOL_CNT req.val) + 1) % 2 ^ 31 ∧
      e.bit rGLK_ERR fGLK_ERR_VIOLATION = true := by
  simp only [List.mem_cons, List.not_mem_nil, or_false] at hi
  rcases hi with rfl | rfl
  · obtain ⟨htraffic, hcount, hbit⟩ := s.start.trespassed_spec p.val seq.val 3 0x0400 addr.toNat hout.1
    have hread := State.hostRead_outside { s with dev := s.start.taken p.val seq.val 0 3 } hout
    refine ⟨_, exec_regRead_one hs ht (.inl hout.1) haddr hread htraffic, ?_, ?_, ?_⟩
    · exact htraffic.trans ((Dev.talk_send ..).traffic (by simpa using linkReg_rGLK_CNT (i := 0) (by decide)))
    · rw [Dev.rdN_congr (Dev.rd_send _ _ _ _ (by unfold rGLK_VIOL_CNT rGLK_CNT; have := hout.1; omega))]
      exact hcount
    · rw [Dev.bit, Dev.get_congr (Dev.rd_send _ _ _ _ (by decide))]
      exact hbit
  · obtain ⟨htraffic, hcount, hbit⟩ := s.start.trespassed_spec p.val seq.val 4 0x0401 addr.toNat hout.1
    have hwrite := State.hostWrite_outside { s with dev := s.start.taken p.val seq.val 0 4 } val.toNat hout
    exact ⟨_, exec_regWrite_one hs ht (.inl hout.1) haddr hwrite (htraffic.replies.trans hs.2.1) (htraffic.wipes.trans hs.2.2),
      htraffic, hcount, hbit⟩

/-- Settles O43: the accepted transaction either reads, stores or is a violation, and each of these changes only what its lemma
lets it change. -/
theorem theHostReachesRegisters : Obligations.TheHostReachesRegisters := by
  unfold Obligations.TheHostReachesRegisters
  refine ⟨?notUp, ?reads, ?stores, ?outside⟩
  case notUp =>
    intro s p seq req addr tag more vals hs hup i hi
    exact regTransaction_of_not_up hs hup seq req addr tag more vals hi
  case reads =>
    intro s p seq addr tag hs ht hm haddr hb hout
    exact regRead_answers hs tag ht hm haddr hb hout
  case stores =>
    intro s addr val hs lo hi hc hb hf hn haddr
    have h : s.dev.OnlyStores addr.toNat := ⟨lo, hi, hc, hb, hf, hn⟩
    exact ⟨registerWrite_stores hs h val, registerWrite_ignored hs h val, fun p seq ht => regWrite_stores hs h val haddr ht⟩
  case outside =>
    intro s p seq req addr tag val hs ht hreq haddr hwin i hi
    obtain ⟨e, hexec, htraffic, hcount, hbit⟩ := regTransaction_outside hs tag val ht haddr ⟨hreq, hwin⟩ hi
    refine ⟨_, hexec, hcount, hbit, fun a ha hpin => htraffic.rd a ?_, rfl, rfl, rfl⟩
    unfold linkReg inCnt
    omega

end Sys2Proof.Machine

/-! The events of a tick and the requests bound to a target tick (01_tick.md R18-R30), and the state after reset. -/

namespace Sys2Proof.Machine

/-! What the steps of this family share. -/

/-- A step that makes a device with the registers it found, and then rewrites only listed registers. -/
theorem State.onlyChanges_into {s : State} {l : List Nat} {d e : Dev} (hregs : d.regs = s.dev.regs)
    (h : Dev.Rewrites (· ∈ l) { d with out := [] } e) : s.OnlyChanges { s with dev := e } l d := by
  refine ⟨fun a ha => (h.rd a ha).trans (congrArg (sget regReset · a) hregs), ?_⟩
  rw [h.rest]

/-- An effect of a running device that answers no mailbox and zeroes none leaves the device as it makes it. -/
theorem State.run_next {s : State} (hs : s.Runs) {f : Dev → Dev} {e : Dev} (he : f s.start = e) (hr : e.replies = [])
    (hw : e.wipes = []) : s.run f = .next { s with dev := e } := by
  subst he
  exact State.run_quiet hs f hr hw

/-- Each item of a list leaves a value as it is, and so does the list. -/
theorem foldl_eq_self {α β : Type} {f : α → β → α} {a : α} {l : List β} (h : ∀ x ∈ l, f a x = a) : l.foldl f a = a := by
  induction l with
  | nil => rfl
  | cons x l ih =>
    rw [List.foldl_cons, h x (List.mem_cons_self ..)]
    exact ih fun y hy => h y (List.mem_cons_of_mem _ hy)

/-! Requests at a target tick (R20-R22, R24). -/

/-- The rows that write TICK_TREQ, with the bit each writes. -/
theorem exec_tickTreq {i : Instr} {b : Nat}
    (h : (i, b) ∈ [(Instr.tickTreqSnapshot, 1), (.tickTreqEdition, 2), (.tickTreqPageSwap, 4)]) (s : State) :
    exec i s = s.run (fun d => d.writeTreq b) := by
  simp only [List.mem_cons, Prod.mk.injEq, List.not_mem_nil, or_false] at h
  rcases h with ⟨rfl, rfl⟩ | ⟨rfl, rfl⟩ | ⟨rfl, rfl⟩ <;> rfl

/-- One action asked, with an Edition pending where it is the Edition change, is taken as it is (R22). -/
theorem Dev.reqActions_one {d : Dev} {b : Nat} (hb : b = 1 ∨ b = 2 ∨ b = 4) (hp : b = 2 → d.pendSlot ≠ none) :
    d.reqActions b = (b, d) := by
  rcases hb with rfl | rfl | rfl
  · simp [Dev.reqActions, nbit]
  · simpa [Dev.reqActions] using fun _ => hp rfl
  · simp [Dev.reqActions, nbit]

/-- The pending bits are shown in TICK_REQ and TICK_TREQ, and nothing else changes. -/
theorem Dev.rewrites_showReq (d : Dev) : Dev.Rewrites (· ∈ [rTICK_REQ, rTICK_TREQ]) d d.showReq :=
  (Dev.rewrites_wrN _ _ (by simp)).trans (Dev.rewrites_wrN _ _ (by simp))

@[simp] theorem Dev.showReq_tick (d : Dev) : d.showReq.tick = d.tick := by simp only [Dev.showReq, Dev.wrN_tick]

theorem Dev.rd_showReq_treq (d : Dev) : d.showReq.rd rTICK_TREQ = BitVec.ofNat 32 d.tick.treq := Dev.rd_wrN_same ..

theorem Dev.rewrites_mark {P : Nat → Prop} (d : Dev) {a : Nat} (f : Fld) (h : P a) : Dev.Rewrites P d (d.mark a f) :=
  Dev.rewrites_put d f 1 h

/-- The device with one action held for the target tick that software has written. -/
def Dev.holdTreq (d : Dev) (b : Nat) : Dev := { d with tick := { d.tick with treq := b, target := d.targetReg } }

section
variable {d : Dev} {b : Nat} (hb : b = 1 ∨ b = 2 ∨ b = 4) (hp : b = 2 → d.pendSlot ≠ none)
include hb hp

/-- A write of TICK_TREQ that asks for one action: refused while one is outstanding (R21) or for its target (R20), else held. -/
theorem Dev.writeTreq_one : d.writeTreq b =
    if d.tick.treq ≠ 0 then d.mark rTICK_ERR fTICK_ERR_TARGET_BUSY
    else if d.targetLate d.targetReg then d.mark rTICK_ERR fTICK_ERR_TARGET_LATE
    else (d.holdTreq b).showReq := by
  have hne : b ≠ 0 := by omega
  simp only [Dev.writeTreq, Dev.reqTarget, Dev.reqActions_one hb hp, hne, if_false]
  split
  · rfl
  · split <;> rfl

theorem Dev.writeTreq_held (hfree : d.tick.treq = 0) (hlo : d.nextEffect ≤ d.targetReg)
    (hhi : d.targetReg ≤ d.tickNow + 2 ^ 32) : d.writeTreq b = (d.holdTreq b).showReq := by
  have hlate : d.targetLate d.targetReg = false := by
    simp only [Dev.targetLate, Bool.or_eq_false_iff, decide_eq_false_iff_not]; omega
  rw [Dev.writeTreq_one hb hp, if_neg (fun h => h hfree), hlate]
  rfl

theorem Dev.writeTreq_busy (hbusy : d.tick.treq ≠ 0) : d.writeTreq b = d.mark rTICK_ERR fTICK_ERR_TARGET_BUSY := by
  rw [Dev.writeTreq_one hb hp, if_pos hbusy]

theorem Dev.writeTreq_late (hfree : d.tick.treq = 0)
    (hout : d.targetReg < d.nextEffect ∨ d.tickNow + 2 ^ 32 < d.targetReg) :
    d.writeTreq b = d.mark rTICK_ERR fTICK_ERR_TARGET_LATE := by
  have hlate : d.targetLate d.targetReg = true := by
    simp only [Dev.targetLate, Bool.or_eq_true, decide_eq_true_eq]; exact hout
  rw [Dev.writeTreq_one hb hp, if_neg (fun h => h hfree), if_pos hlate]

end

/-- A step that sets one sticky bit does that and nothing else. -/
theorem State.run_marks {s : State} (hs : s.Runs) {f : Dev → Dev} {a : Nat} {g : Fld} (hone : g.hi = g.lo) (h32 : g.hi < 32)
    (hf : f s.start = s.start.mark a g) :
    ∃ t, s.run f = .next t ∧ t.dev.bit a g = true ∧ s.OnlyChanges t [a] s.dev := by
  have hmark : Dev.Rewrites (· ∈ [a]) s.start (s.start.mark a g) := Dev.rewrites_mark _ g (List.mem_singleton_self a)
  exact ⟨_, State.run_next hs hf (hmark.replies.trans hs.2.1) (hmark.wipes.trans hs.2.2), Dev.bit_mark_same _ _ hone h32,
    State.onlyChanges_of_rewrites hmark⟩

/-- Settles O3: the write of TICK_TREQ has three outcomes, by what is outstanding and by the target. -/
theorem requestsBindToATargetTick : Obligations.RequestsBindToATargetTick := by
  unfold Obligations.RequestsBindToATargetTick
  intro s i b hs hi hp
  have hb : b = 1 ∨ b = 2 ∨ b = 4 := by
    simp only [List.mem_cons, Prod.mk.injEq, List.not_mem_nil, or_false] at hi; omega
  have hpend : b = 2 → s.start.pendSlot ≠ none := hp
  rw [exec_tickTreq hi]
  refine ⟨fun hfree hlo hhi => ?held, fun hbusy => ?busy, fun hfree hout => ?late⟩
  case held =>
    have hshow := Dev.rewrites_showReq (s.start.holdTreq b)
    have htick := (s.start.holdTreq b).showReq_tick
    refine ⟨{ s with dev := (s.start.holdTreq b).showReq }, State.run_next hs (Dev.writeTreq_held hb hpend hfree hlo hhi)
      (hshow.replies.trans hs.2.1) (hshow.wipes.trans hs.2.2), htick, Dev.rd_showReq_treq _, ?_⟩
    rw [htick]
    exact State.onlyChanges_into rfl hshow
  case busy => exact State.run_marks hs rfl (by decide) (Dev.writeTreq_busy hb hpend hbusy)
  case late => exact State.run_marks hs rfl (by decide) (Dev.writeTreq_late hb hpend hfree hout)

/-! The events at their set times (R18). -/

/-- An event of a tick that began at its grid time comes when its time has been seen (R18). -/
theorem Dev.atTime_of_origin {d : Dev} (h : d.tick.origin = 0) {ns : Nat} (hns : ns < tickNs) (f : Dev → Dev) :
    d.atTime ns f = f (d.seen ns) := by
  rw [Dev.atTime, h, Nat.zero_add, if_neg (Nat.not_le.mpr hns)]
  rfl

/-- An event of the tick table, run as one step. -/
theorem State.run_atTime {s : State} (hs : s.Runs) (ho : s.dev.tick.origin = 0) {ns : Nat} (hns : ns < tickNs) (f : Dev → Dev) :
    s.run (fun d => d.atTime ns f) = .next (deliver { s with dev := f (s.start.seen ns) }) := by
  rw [State.run_of_runs hs]
  exact congrArg (fun e => Host.Outcome.next (deliver { s with dev := e })) (Dev.atTime_of_origin (d := s.start) ho hns f)

/-- An event of the tick table that answers no mailbox and zeroes none, run as one step. -/
theorem State.run_atTime_quiet {s : State} (hs : s.Runs) (ho : s.dev.tick.origin = 0) {ns : Nat} (hns : ns < tickNs)
    {f : Dev → Dev} {e : Dev} (he : f (s.start.seen ns) = e) (hr : e.replies = []) (hw : e.wipes = []) :
    s.run (fun d => d.atTime ns f) = .next { s with dev := e } :=
  State.run_next hs ((Dev.atTime_of_origin (d := s.start) ho hns f).trans he) hr hw

theorem exec_sampleLatch (s : State) : exec .sampleLatch s = s.run (fun d => d.atTime 2000 Dev.sampleEvents) := by rfl
theorem exec_ladleDeadline (s : State) : exec .ladleDeadline s =
    s.run (fun d => d.atTime 100000 (fun d => d.framers.foldl (fun d t => d.mapDeadline t) d)) := by rfl
theorem exec_framerTakesMap (s : State) : exec .framerTakesMap s =
    s.run (fun d => d.atTime 110000 (fun d => d.framers.foldl (fun d t => d.takeMap t) d)) := by rfl
theorem exec_writeBackBatchClose (s : State) :
    exec .writeBackBatchClose s = s.run (fun d => d.atTime 120000 Dev.closeBatch) := by rfl
theorem exec_requestCutoff (s : State) : exec .requestCutoff s =
    s.run (fun d => d.atTime 124000 (fun d => d.put rTICK_STATUS fTICK_STATUS_CUTOFF 1)) := by rfl

/-! SAMPLE_LATCH (09_downstream.md R273). -/

/-- A tree without a pair has nothing to evaluate (17_protection.md R508). -/
theorem Dev.protEvaluate_off {d : Dev} {k : Nat} (h : d.pairState k = prOff) : d.protEvaluate k = d := by
  rw [Dev.protEvaluate, if_pos h]

/-- A correction that was sent is not sent again (18_almanac.md R528). -/
theorem Dev.freqSend_sent {d : Dev} (h : sval 32 (d.rdN rALM_FREQ) = d.alm.sent) : d.freqSend = d := by
  rw [Dev.freqSend, if_pos (.inl h)]

/-- With no pair and no new correction the samples are all that SAMPLE_LATCH latches. -/
theorem Dev.sampleEvents_alone {d : Dev} (hoff : ∀ k < 48, d.pairState k = prOff)
    (hsent : sval 32 (d.rdN rALM_FREQ) = d.alm.sent) : d.sampleEvents = d.dsLatch (instant d.tickNow d.tick.now) := by
  generalize he : d.dsLatch (instant d.tickNow d.tick.now) = e
  have hregs : e.regs = d.regs ∧ e.alm = d.alm := by
    subst he; unfold Dev.dsLatch; split <;> exact ⟨rfl, rfl⟩
  have hrd : ∀ a, e.rd a = d.rd a := fun a => congrArg (sget regReset · a) hregs.1
  have hpairs : (List.range 48).foldl (fun d t => d.protEvaluate t) e = e := foldl_eq_self fun k hk =>
    Dev.protEvaluate_off ((Dev.get_congr (hrd _) _).trans (hoff k (List.mem_range.mp hk)))
  have hfreq : sval 32 (e.rdN rALM_FREQ) = e.alm.sent := by rw [Dev.rdN_congr (hrd _), hregs.2, hsent]
  simp only [Dev.sampleEvents, he, hpairs, Dev.freqSend_sent hfreq]

/-- What the latch takes of each downstream channel: its bytes, its packets and the age of its head (R273). -/
def Dev.sampleRows (d : Dev) (now : Nat) : List (Nat × Nat × Nat × Nat) :=
  (d.chanQ.filter (fun e => (d.chan e.1).valid && (d.chan e.1).ds)).map (fun e =>
    (e.1, (e.2.map (fun h => h.pkt.bytes.length)).sum, e.2.length,
      match e.2 with
      | h :: _ => min 0xFFFFFFFF (now - instant h.tick h.ns)
      | [] => 0))

/-- The latch while sampling is enabled. -/
theorem Dev.dsLatch_enabled {d : Dev} (h : d.bit rDSQ_CTRL fDSQ_CTRL_SAMPLE_EN = true) (now : Nat) :
    d.dsLatch now = { d with ds := { d.ds with before := d.ds.latch, latch := ⟨d.tickNow, d.sampleRows now⟩ } } :=
  if_pos h

/-! LADLE_DEADLINE and FRAMER_TAKES_MAP (08_ladle_maps.md R245; 01_tick.md R27, R28). -/

/-- A held map that passed its checks is handed over at the deadline. -/
theorem Dev.ladT_mapDeadline {d : Dev} {k : Nat} {m : MapRec} (hb : (d.ladT k).building = some m) (hheld : m.held ≠ none)
    (hcheck : m.check = 0) : ((d.mapDeadline k).ladT k).handed = some m ∧ ((d.mapDeadline k).ladT k).building = none ∧
      ((d.mapDeadline k).ladT k).lastServed = m.lastServed := by
  have hpass : (m.held.isSome && m.check == 0) = true := by simp [Option.isSome_iff_ne_none, hheld, hcheck]
  have hcommit : d.mapDeadline k = d.commitMap k m := by simp only [Dev.mapDeadline, hb, hpass, if_true]
  rw [hcommit, Dev.commitMap, Dev.ladT_updLadT_same]
  exact ⟨rfl, rfl, rfl⟩

/-- A repeat map grants nothing to serial numbers (R28). -/
theorem Dev.repeatMap_grants {d : Dev} {k cause : Nat} {g : Grant} (h : g ∈ (d.repeatMap k cause).grants) : g.kind ≠ .sn := by
  simp only [Dev.repeatMap] at h
  cases hsent : (d.ladT k).sent with
  | none => simp [hsent] at h
  | some m =>
    simp only [hsent, List.mem_filter, Bool.and_eq_true, bne_iff_ne] at h
    exact h.2.1

/-- The code that a tree's repeat map carries: that of the check which the map in progress failed (01_tick.md R30). -/
def LadTree.cause (l : LadTree) : Nat := match l.building with | some b => b.check | none => 0

/-- A framer that was handed no map takes a repeat map. -/
theorem Dev.ladT_takeMap {d : Dev} {k : Nat} (h : (d.ladT k).handed = none) :
    ((d.takeMap k).ladT k).handed = some (d.repeatMap k (d.ladT k).cause) ∧ ((d.takeMap k).ladT k).building = none := by
  simp only [Dev.takeMap, h]
  rw [Dev.ladT_updLadT_same]
  exact ⟨rfl, rfl⟩

/-! WRITE_BACK_BATCH_CLOSE (06_catalogue.md R177). -/

/-- With every line of the batches before written or counted none is late. -/
theorem Dev.lateLines_none {d : Dev} (h : d.cat.writing.length = d.cat.counted) : d.lateLines = d := by
  rw [Dev.lateLines, h]
  exact if_pos (Nat.sub_self _)

/-- The tree a record names. -/
def Dev.recTree (d : Dev) : RecKind → Nat → Nat
  | .term, h => (d.term h).tree
  | .alloc, h => (d.alloc h).tree
  | .chan, h => (d.chan h).tree

/-- A line of a tree that mirrors to no mate, with nothing in quarantine, brings nothing to a pair (17_protection.md R505). -/
theorem Dev.mirrorLine_idle {d : Dev} {k : RecKind} {h : Nat} (hq : d.cat.quar = []) (hm : d.mirrors (d.recTree k h) = false) :
    d.mirrorLine k h = d := by
  unfold Dev.mirrorLine
  simp only [hq, List.find?_nil]
  cases k <;> simp only [Dev.recTree] at hm <;> simp [hm]

/-- With no pair mirroring the end of a batch sends nothing. -/
theorem Dev.mirrorBatchEnd_idle {d : Dev} (h : ∀ k < 48, d.mirrors k = false) : d.mirrorBatchEnd = d :=
  foldl_eq_self fun k hk => if_neg (by simp [h k (List.mem_range.mp hk)])

/-- The device once its open batch is closed and nothing has been mirrored: the lines, with their images, wait to be written. -/
def Dev.batchMoved (d : Dev) : Dev :=
  let moved := { d with cat := { d.cat with
    writing := d.cat.writing ++ d.openLines
    ladleTakes := d.cat.ladleTakes ++ d.cat.openA.map (fun h => (h, d.alloc h)) } }
  let closed := ((moved.setOpen .term []).setOpen .alloc []).setOpen .chan []
  closed.put rCAT_STATUS fCAT_STATUS_WB_ACTIVE (b2n (!(closed.cat.writing.isEmpty)))

/-- The Catalogue once the batch is closed. -/
theorem Dev.cat_batchMoved (d : Dev) : d.batchMoved.cat = { d.cat with
    writing := d.cat.writing ++ d.openLines
    ladleTakes := d.cat.ladleTakes ++ d.cat.openA.map (fun h => (h, d.alloc h))
    openT := [], openA := [], openC := [] } := by
  simp only [Dev.batchMoved, Dev.setOpen, Dev.put_cat]

/-- Closing the batch answers no mailbox and zeroes none. -/
theorem Dev.quiet_batchMoved (d : Dev) : d.batchMoved.replies = d.replies ∧ d.batchMoved.wipes = d.wipes := by
  simp only [Dev.batchMoved, Dev.setOpen, Dev.put_replies, Dev.put_wipes, and_self]

/-- The tree a record names is the Catalogue's to say. -/
theorem Dev.recTree_batchMoved (d : Dev) (k : RecKind) (h : Nat) : d.batchMoved.recTree k h = d.recTree k h := by
  have hcat := d.cat_batchMoved
  generalize d.batchMoved = e at hcat
  cases k <;> simp only [Dev.recTree, Dev.term, Dev.alloc, Dev.chan, hcat]

/-- The open batch's lines are counted in CAT_DIRTY alone (R183). -/
theorem Dev.rd_setOpen (d : Dev) (k : RecKind) (l : List Nat) {a : Nat} (h : a ≠ rCAT_DIRTY) : (d.setOpen k l).rd a = d.rd a := by
  cases k with
  | term => exact Dev.rd_put_ne _ _ _ h
  | alloc => rfl
  | chan => exact Dev.rd_put_ne _ _ _ h

/-- Closing the batch rewrites no register but CAT_DIRTY and CAT_STATUS. -/
theorem Dev.rd_batchMoved (d : Dev) {a : Nat} (hdirty : a ≠ rCAT_DIRTY) (hstatus : a ≠ rCAT_STATUS) :
    d.batchMoved.rd a = d.rd a := by
  simp only [Dev.batchMoved, Dev.rd_put_ne _ _ _ hstatus, Dev.rd_setOpen _ _ _ hdirty]
  rfl

/-- Closing the batch changes no pair. -/
theorem Dev.mirrors_batchMoved (d : Dev) (k : Nat) : d.batchMoved.mirrors k = d.mirrors k := by
  have hstate : d.batchMoved.rd (rPROT_PAIR_STATE k) = d.rd (rPROT_PAIR_STATE k) :=
    d.rd_batchMoved (by unfold rPROT_PAIR_STATE rCAT_DIRTY; omega) (by unfold rPROT_PAIR_STATE rCAT_STATUS; omega)
  have hcfg : d.batchMoved.rd (rPROT_PAIR_CFG k) = d.rd (rPROT_PAIR_CFG k) :=
    d.rd_batchMoved (by unfold rPROT_PAIR_CFG rCAT_DIRTY; omega) (by unfold rPROT_PAIR_CFG rCAT_STATUS; omega)
  have htop : d.batchMoved.roTop k = d.roTop k :=
    congrArg (fun kind => if kind = 0 then roHome else roActive) (Dev.get_congr hcfg _)
  rw [Dev.mirrors, Dev.mirrors, Dev.pairState, Dev.pairState, Dev.role, Dev.role, Dev.get_congr hstate, Dev.get_congr hstate,
    htop]

/-- With no line late, nothing in quarantine and no pair mirroring, closing the batch is moving it. -/
theorem Dev.closeBatch_idle {d : Dev} (hcount : d.cat.writing.length = d.cat.counted) (hq : d.cat.quar = [])
    (hm : ∀ k < 48, d.mirrors k = false) (ht : ∀ l ∈ d.openLines, d.recTree l.kind l.handle < 48) :
    d.closeBatch = d.batchMoved := by
  have hlines : d.openLines.foldl (fun d l => d.mirrorLine l.kind l.handle) d.batchMoved = d.batchMoved :=
    foldl_eq_self fun l hl => Dev.mirrorLine_idle (by rw [d.cat_batchMoved]; exact hq)
      (by rw [d.recTree_batchMoved, d.mirrors_batchMoved]; exact hm _ (ht l hl))
  have hend : d.batchMoved.mirrorBatchEnd = d.batchMoved :=
    Dev.mirrorBatchEnd_idle fun k hk => (d.mirrors_batchMoved k).trans (hm k hk)
  calc d.closeBatch
      = (d.openLines.foldl (fun d l => d.mirrorLine l.kind l.handle) d.batchMoved).mirrorBatchEnd := by
        simp only [Dev.closeBatch, Dev.lateLines_none hcount]; rfl
    _ = d.batchMoved := by rw [hlines, hend]

/-- Every line of the open batch names a tree where the records of its three kinds do. -/
theorem Dev.recTree_openLines {d : Dev} {n : Nat} (hT : ∀ h ∈ d.cat.openT, (d.term h).tree < n)
    (hA : ∀ h ∈ d.cat.openA, (d.alloc h).tree < n) (hC : ∀ h ∈ d.cat.openC, (d.chan h).tree < n) :
    ∀ l ∈ d.openLines, d.recTree l.kind l.handle < n := by
  intro l hl
  simp only [Dev.openLines, List.mem_flatMap, List.mem_cons, List.not_mem_nil, or_false, List.mem_map] at hl
  obtain ⟨k, hk, h, hmem, rfl⟩ := hl
  rcases hk with rfl | rfl | rfl
  · exact hT h hmem
  · exact hA h hmem
  · exact hC h hmem

/-! TIME_TICK_QUERY (R26). -/

/-- A number in little-endian form has the bytes asked for. -/
theorem length_leB (n v : Nat) : (leB n v).length = n := by rw [leB, List.length_map, List.length_range]

/-- The longest answer has 12 bytes and 48 words. -/
theorem Dev.length_tickAnswer (d : Dev) (expert : Bool) : (d.tickAnswer expert).length ≤ 0x800 := by
  cases expert with
  | false =>
    simp only [Dev.tickAnswer, List.length_append, length_leB, Bool.false_eq_true, if_false, List.length_nil]
    decide
  | true =>
    simp only [Dev.tickAnswer, List.length_append, List.length_flatMap, length_leB, if_true]
    decide

/-- The query in form, with the expert form asked by the owner alone, is answered and changes nothing else. -/
theorem timeTickQuery_answers {s : State} {m : Fin 64} {c : Cmd} (h : s.Ready m 0x0701 c) (hflags : c.only 0 0x81 = true)
    (hends : c.endsAt 1 = true) (hown : c.isOwner = true ∨ (nbit (c.u8 0) 0 = false ∧ nbit (c.u8 0) 7 = false)) :
    ∃ t, exec (.timeTickQuery m) s = .next t ∧ t.Done m 0 (s.start.tickAnswer (nbit (c.u8 0) 0 || nbit (c.u8 0) 7)) ∧
      s.OnlyAnswers t m := by
  obtain ⟨-, hmbx, -⟩ := id h
  refine State.run_query h ?_ (by decide) (Dev.length_tickAnswer ..)
  refine (Cmd.checks_pass c _ ?_ _).trans (by rw [Cmd.ok, hmbx]; rfl)
  rcases hown with hown | ⟨hbasic, hexpert⟩
  · simp [inForm, hflags, hends, hown]
  · simp [inForm, hflags, hends, hbasic, hexpert]

/-- Settles O4: each event takes place at the time that has then been seen, and the query answers. -/
theorem setTimesOfTheTick : Obligations.SetTimesOfTheTick := by
  unfold Obligations.SetTimesOfTheTick
  refine ⟨?samples, ?deadline, ?framer, ?batch, ?cutoff, ?query⟩
  case samples =>
    intro s hs ho hen hoff hsent
    have hevents := (Dev.sampleEvents_alone (d := s.start.seen 2000) hoff hsent).trans
      (Dev.dsLatch_enabled (d := s.start.seen 2000) hen _)
    exact ⟨_, (exec_sampleLatch s).trans (State.run_atTime_quiet hs ho (by decide) hevents hs.2.1 hs.2.2),
      rfl, rfl, rfl, fun _ _ => rfl, rfl⟩
  case deadline =>
    intro s k m hs ho hk hb hheld hcheck
    have hframers : (s.start.seen 100000).framers = [k] := hk
    have hhanded := Dev.ladT_mapDeadline (d := s.start.seen 100000) hb hheld hcheck
    refine ⟨_, (exec_ladleDeadline s).trans (State.run_atTime hs ho (by decide) _), ?_⟩
    rw [hframers]
    exact hhanded
  case framer =>
    intro s k hs ho hk hnone
    have hframers : (s.start.seen 110000).framers = [k] := hk
    obtain ⟨hhanded, hbuilding⟩ := Dev.ladT_takeMap (d := s.start.seen 110000) hnone
    refine ⟨_, (s.start.seen 110000).repeatMap k ((s.start.seen 110000).ladT k).cause,
      (exec_framerTakesMap s).trans (State.run_atTime hs ho (by decide) _), ?_⟩
    rw [hframers]
    exact ⟨hhanded, hbuilding, rfl, rfl, fun g hg => Dev.repeatMap_grants hg⟩
  case batch =>
    intro s hs ho hq hm hcount hT hA hC
    have hclose := Dev.closeBatch_idle (d := s.start.seen 120000) hcount hq hm (Dev.recTree_openLines hT hA hC)
    obtain ⟨hreplies, hwipes⟩ := (s.start.seen 120000).quiet_batchMoved
    exact ⟨_, (exec_writeBackBatchClose s).trans
      (State.run_atTime_quiet hs ho (by decide) hclose (hreplies.trans hs.2.1) (hwipes.trans hs.2.2)),
      by rw [Dev.cat_batchMoved]; exact ⟨rfl, rfl, rfl, rfl, rfl⟩⟩
  case cutoff =>
    intro s hs ho
    have hput := Dev.rewrites_put (s.start.seen 124000) fTICK_STATUS_CUTOFF 1 (List.mem_singleton_self rTICK_STATUS)
    exact ⟨_, (exec_requestCutoff s).trans (State.run_atTime_quiet hs ho (by decide) rfl
      (hput.replies.trans hs.2.1) (hput.wipes.trans hs.2.2)),
      Dev.get_put_same _ _ _ (by decide), State.onlyChanges_into rfl hput⟩
  case query =>
    intro s m c h hflags hends hown
    obtain ⟨t, hexec, hdone, honly⟩ := timeTickQuery_answers h hflags hends hown
    exact ⟨t, hexec, honly, hdone⟩

/-! The state after reset (19_gellen.md R552). -/

/-- Both Gellen ports stand in LOCK at reset: GLK_STATUS resets with HA_STATE and HB_STATE 1. -/
theorem reset_portState : ∀ p < 2, State.reset.dev.portState p = 1 := by decide

/-- Refutes O52: the statement has port HA OFF at reset, where its register map has it in LOCK. -/
theorem not_resetLeavesWhatTheRegisterMapsName : ¬ Obligations.ResetLeavesWhatTheRegisterMapsName := by
  unfold Obligations.ResetLeavesWhatTheRegisterMapsName
  rintro ⟨-, -, -, -, -, -, -, hports, -⟩
  exact absurd ((reset_portState 0 (by decide)).symm.trans (hports 0 (by decide))) (by decide)

end Sys2Proof.Machine

/-! The serial lanes: what a change of a lane leaves alone, the probe and the states of training, transmitter taps, and the lane's
tools (02_lanes.md R34-R54). -/

namespace Sys2Proof.Machine

/-! Fields. -/

/-- A one-bit field of a register reads its bit. -/
theorem Dev.bit_eq_nbit (d : Dev) (a : Nat) {f : Fld} (hone : f.hi = f.lo) : d.bit a f = nbit (d.rdN a) f.lo := by
  simp [Dev.bit, Dev.get, fieldOf, nbit, hone]

/-- What a one-bit field reads depends on the register alone. -/
theorem Dev.bit_congr {d e : Dev} {a : Nat} (h : d.rd a = e.rd a) (f : Fld) : d.bit a f = e.bit a f := by
  rw [Dev.bit, Dev.bit, Dev.get_congr h]

/-- A one-bit field cleared reads 0. -/
theorem Dev.bit_clear_same (d : Dev) (a : Nat) {f : Fld} (hf : f.lo ≤ f.hi ∧ f.hi < 32) : (d.put a f 0).bit a f = false := by
  rw [Dev.bit, Dev.get_put_same _ _ _ hf, Nat.zero_mod]; rfl

/-- A field written leaves a one-bit field of the same register apart from it alone. -/
theorem Dev.bit_put_apart (d : Dev) (a : Nat) {f g : Fld} (v : Nat) (hf : f.lo ≤ f.hi ∧ f.hi < 32) (h : f.apart g) :
    (d.put a f v).bit a g = d.bit a g := by
  rw [Dev.bit, Dev.get_put_apart d a v hf h, Dev.bit]

/-- A one-bit field that software may write holds, after a write by the access codes, the bit written (00_scope.md R9). -/
theorem Dev.bit_access_rw (d : Dev) {a : Nat} (v : Nat) {f : Fld} (hone : f.hi = f.lo) (h32 : f.lo < 32)
    (hrw : (regFind a).any (fun x => nbit x.2.2.rw f.lo) = true) : (d.access a v).bit a f = nbit v f.lo := by
  obtain ⟨⟨b, k, r⟩, hrow, hr⟩ := (Option.any_eq_true ..).mp hrw
  have hr : r.rw.testBit f.lo = true := (nbit_eq_testBit ..).symm.trans hr
  have hstored : d.stored a v = accessWord r (d.rdN a) v % 2 ^ 32 := by simp only [Dev.stored, hrow]
  rw [Dev.bit_eq_nbit _ _ hone, Dev.rdN_access_same, hstored, nbit_mod_word _ h32, nbit_eq_testBit, testBit_accessWord,
    nbit_eq_testBit, hr]
  cases v.testBit f.lo <;> simp

/-- A word with a one-bit field replaced has the bit in its place. -/
theorem nbit_fieldPut_same (w v : Nat) {f : Fld} (hone : f.hi = f.lo) : nbit (fieldPut w f v) f.lo = (v % 2 == 1) := by
  have h := fieldOf_fieldPut_same w v f
  rw [hone, Nat.sub_self, Nat.zero_add, Nat.pow_one] at h
  rw [← h]
  simp [nbit, fieldOf, hone]

/-- Software may write LANE_CTRL.EN of every lane that trains (02_lanes.md R53). -/
theorem laneEn_writable {l : LaneId} (h : laneTrains l = true) :
    (regFind (rLANE_CTRL (laneBase l))).any (fun x => nbit x.2.2.rw fLANE_CTRL_EN.lo) = true := by
  have hupl : ∀ u : Fin 48, (regFind (rLANE_CTRL (laneBase (.upl u)))).any (fun x => nbit x.2.2.rw 0) = true := by decide
  have hfab : ∀ f : Fin 48, (regFind (rLANE_CTRL (laneBase (.fab f)))).any (fun x => nbit x.2.2.rw 0) = true := by decide
  cases l with
  | upl u => exact hupl u
  | fab f => exact hfab f
  | tree _ | glk _ => exact absurd h Bool.false_ne_true

/-- A lane that trains is in every part (00_scope.md R2). -/
theorem Dev.laneOk_of_trains (d : Dev) {l : LaneId} (h : laneTrains l = true) : d.laneOk l = true := by
  cases l with
  | tree _ => exact absurd h Bool.false_ne_true
  | upl _ | fab _ | glk _ => rfl

/-! Changes of a lane. -/

theorem Dev.Rewrites.mono {P Q : Nat → Prop} {d e : Dev} (h : Dev.Rewrites P d e) (hPQ : ∀ a, P a → Q a) : Dev.Rewrites Q d e :=
  ⟨fun a ha => h.rd a (fun hp => ha (hPQ a hp)), h.rest⟩

/-- A write by the access codes changes a register of any set that holds its address. -/
theorem Dev.rewrites_access_of {P : Nat → Prop} (d : Dev) {a : Nat} (v : Nat) (h : P a) : Dev.Rewrites P d (d.access a v) :=
  (d.rewrites_access a v).mono (fun _ e => e ▸ h)

/-- From one state of the device to another nothing changes but registers whose address is in a set, what the lanes keep beside
their registers, and what was sent. -/
structure Dev.LaneStep (P : Nat → Prop) (d e : Dev) : Prop where
  rd : ∀ a, ¬P a → e.rd a = d.rd a
  rest : e = { d with regs := e.regs, lanes := e.lanes, out := e.out }

theorem Dev.LaneStep.trans {P : Nat → Prop} {d e f : Dev} (h : Dev.LaneStep P d e) (k : Dev.LaneStep P e f) :
    Dev.LaneStep P d f :=
  ⟨fun a ha => (k.rd a ha).trans (h.rd a ha), by have := k.rest; rw [h.rest] at this; exact this⟩

theorem Dev.LaneStep.replies {P : Nat → Prop} {d e : Dev} (h : Dev.LaneStep P d e) : e.replies = d.replies :=
  (congrArg Dev.replies h.rest).trans rfl
theorem Dev.LaneStep.wipes {P : Nat → Prop} {d e : Dev} (h : Dev.LaneStep P d e) : e.wipes = d.wipes :=
  (congrArg Dev.wipes h.rest).trans rfl

theorem Dev.Rewrites.laneStep {P : Nat → Prop} {d e : Dev} (h : Dev.Rewrites P d e) : Dev.LaneStep P d e := by
  refine ⟨h.rd, ?_⟩
  have hrest := h.rest
  generalize e.regs = r at hrest
  rw [hrest]

theorem Dev.laneStep_updLaneX (P : Nat → Prop) (d : Dev) (k : Nat) (f : LaneX → LaneX) : Dev.LaneStep P d (d.updLaneX k f) :=
  ⟨fun _ _ => rfl, rfl⟩

theorem Dev.laneStep_put {P : Nat → Prop} (d : Dev) {a : Nat} (f : Fld) (v : Nat) (h : P a) : Dev.LaneStep P d (d.put a f v) :=
  (Dev.rewrites_put d f v h).laneStep

theorem Dev.laneStep_wrN {P : Nat → Prop} (d : Dev) {a : Nat} (v : Nat) (h : P a) : Dev.LaneStep P d (d.wrN a v) :=
  (Dev.rewrites_wrN d v h).laneStep

theorem Dev.laneStep_access {P : Nat → Prop} (d : Dev) {a : Nat} (v : Nat) (h : P a) : Dev.LaneStep P d (d.access a v) :=
  (Dev.rewrites_access_of d v h).laneStep

theorem Dev.laneStep_emit (P : Nat → Prop) (d : Dev) (k : OutKind) (p : Nat) (l : List Nat) (b : List Byte) :
    Dev.LaneStep P d (d.emit k p l b) := by
  refine ⟨fun _ _ => Dev.rd_emit .., ?_⟩
  unfold Dev.emit
  split <;> rfl

/-- A step of a running device that changes a lane alone takes place as it is. -/
theorem State.run_laneStep {s : State} (hs : s.Runs) {P : Nat → Prop} {f : Dev → Dev} {e : Dev} (he : f s.start = e)
    (h : Dev.LaneStep P s.start e) : s.run f = .next { s with dev := e } :=
  State.run_next hs he (h.replies.trans hs.2.1) (h.wipes.trans hs.2.2)

/-- Such a step changes nothing else. -/
theorem State.onlyChanges_of_laneStep {s : State} {l : List Nat} {e : Dev} (h : Dev.LaneStep (· ∈ l) s.start e) :
    s.OnlyChanges { s with dev := e } l { s.dev with lanes := e.lanes } := by
  refine ⟨h.rd, ?_⟩
  have hrest := h.rest
  generalize e.regs = r, e.lanes = x, e.out = o at hrest
  subst hrest
  rfl

/-- A step of a running device that rewrites registers alone takes place as it is. -/
theorem State.run_rewrites {s : State} (hs : s.Runs) {P : Nat → Prop} {f : Dev → Dev} {e : Dev} (he : f s.start = e)
    (h : Dev.Rewrites P s.start e) : s.run f = .next { s with dev := e } :=
  State.run_laneStep hs he h.laneStep

/-- A lane's training state depends on LANE_STATUS alone. -/
theorem Dev.trainState_congr {d e : Dev} {l : LaneId} (h : d.rd (rLANE_STATUS (laneBase l)) = e.rd (rLANE_STATUS (laneBase l))) :
    d.trainState l = e.trainState l := Dev.get_congr h _

/-- A field of LANE_STATUS below TRAIN_STATE, written, leaves the training state alone. -/
theorem Dev.trainState_put_status (d : Dev) (l : LaneId) {f : Fld} (v : Nat) (hf : f.lo ≤ f.hi ∧ f.hi < 29) :
    (d.put (rLANE_STATUS (laneBase l)) f v).trainState l = d.trainState l :=
  Dev.get_put_apart _ _ _ ⟨hf.1, by omega⟩ (.inl ⟨hf.2, hf.1⟩)

/-- A training state set is read back. -/
theorem Dev.trainState_setTrain (d : Dev) (l : LaneId) {st : Nat} (h : st < 8) : (d.setTrain l st).trainState l = st :=
  (Dev.get_put_same _ _ _ (by decide)).trans (Nat.mod_eq_of_lt h)

/-- A training state set leaves the other fields of LANE_STATUS alone. -/
theorem Dev.get_setTrain_apart (d : Dev) (l : LaneId) (st : Nat) {f : Fld} (hf : f.lo ≤ f.hi ∧ f.hi < 29) :
    (d.setTrain l st).get (rLANE_STATUS (laneBase l)) f = d.get (rLANE_STATUS (laneBase l)) f :=
  Dev.get_put_apart _ _ _ (by decide) (.inr ⟨hf.2, hf.1⟩)

@[simp] theorem Dev.trainState_updLaneX (d : Dev) (k : Nat) (f : LaneX → LaneX) (l : LaneId) :
    (d.updLaneX k f).trainState l = d.trainState l := (rfl)

@[simp] theorem Dev.bit_updLaneX (d : Dev) (k : Nat) (f : LaneX → LaneX) (a : Nat) (g : Fld) :
    (d.updLaneX k f).bit a g = d.bit a g := (rfl)

/-! The registers of a lane block stand apart from one another (R53). -/

@[simp] theorem rLANE_STATUS_ne_CTRL (b : Nat) : rLANE_STATUS b ≠ rLANE_CTRL b := mt Nat.add_left_cancel (by decide)
@[simp] theorem rLANE_STATUS_ne_TXFFE (b : Nat) : rLANE_STATUS b ≠ rLANE_TXFFE b := mt Nat.add_left_cancel (by decide)
@[simp] theorem rLANE_STATUS_ne_TRAIN_CTRL (b : Nat) : rLANE_STATUS b ≠ rLANE_TRAIN_CTRL b := mt Nat.add_left_cancel (by decide)
@[simp] theorem rLANE_TXFFE_ne_STATUS (b : Nat) : rLANE_TXFFE b ≠ rLANE_STATUS b := mt Nat.add_left_cancel (by decide)
@[simp] theorem rLANE_TXFFE_ne_CTRL (b : Nat) : rLANE_TXFFE b ≠ rLANE_CTRL b := mt Nat.add_left_cancel (by decide)
@[simp] theorem rLANE_TXFFE_ne_TRAIN_CTRL (b : Nat) : rLANE_TXFFE b ≠ rLANE_TRAIN_CTRL b := mt Nat.add_left_cancel (by decide)
@[simp] theorem rLANE_TRAIN_CTRL_ne_STATUS (b : Nat) : rLANE_TRAIN_CTRL b ≠ rLANE_STATUS b := mt Nat.add_left_cancel (by decide)
@[simp] theorem rLANE_CTRL_ne_STATUS (b : Nat) : rLANE_CTRL b ≠ rLANE_STATUS b := mt Nat.add_left_cancel (by decide)
@[simp] theorem rLANE_STATUS_ne_ERR (b : Nat) : rLANE_STATUS b ≠ rLANE_ERR b := mt Nat.add_left_cancel (by decide)
@[simp] theorem rLANE_CTRL_ne_PAT_CTRL (b : Nat) : rLANE_CTRL b ≠ rLANE_PAT_CTRL b := mt Nat.add_left_cancel (by decide)
@[simp] theorem rLANE_CTRL_ne_PAT_ERR (b : Nat) : rLANE_CTRL b ≠ rLANE_PAT_ERR b := mt Nat.add_left_cancel (by decide)
@[simp] theorem rLANE_STATUS_ne_PAT_ERR (b : Nat) : rLANE_STATUS b ≠ rLANE_PAT_ERR b := mt Nat.add_left_cancel (by decide)
@[simp] theorem rLANE_TXFFE_ne_PAT_ERR (b : Nat) : rLANE_TXFFE b ≠ rLANE_PAT_ERR b := mt Nat.add_left_cancel (by decide)
@[simp] theorem rLANE_ERR_ne_PAT_ERR (b : Nat) : rLANE_ERR b ≠ rLANE_PAT_ERR b := mt Nat.add_left_cancel (by decide)
@[simp] theorem rLANE_ESCAN_RES_ne_ESCAN_CTRL (b : Nat) : rLANE_ESCAN_RES b ≠ rLANE_ESCAN_CTRL b := mt Nat.add_left_cancel (by decide)
@[simp] theorem rLANE_PAT_ERR_ne_STATUS (b : Nat) : rLANE_PAT_ERR b ≠ rLANE_STATUS b := mt Nat.add_left_cancel (by decide)

/-- What a register holds after a write of one of its fields depends on what it held alone. -/
theorem Dev.rd_put_congr {d e : Dev} {a : Nat} (h : d.rd a = e.rd a) (f : Fld) (v : Nat) :
    (d.put a f v).rd a = (e.put a f v).rd a := by
  rw [Dev.put, Dev.put, Dev.rd_wrN_same, Dev.rd_wrN_same, Dev.rdN_congr h]

/-! Entering the states of training (R44). -/

section
variable (d : Dev) (l : LaneId)

/-- DETECT entered: no far end found yet, and the probe runs. -/
theorem Dev.enterDetect_state : (d.enterDetect l).trainState l = tsDetect := by
  rw [Dev.enterDetect, Dev.trainState_updLaneX, Dev.trainState_put_status _ _ _ (by decide), Dev.trainState_setTrain _ _ (by decide)]

theorem Dev.enterDetect_farPresent : (d.enterDetect l).bit (rLANE_STATUS (laneBase l)) fLANE_STATUS_FAR_PRESENT = false := by
  rw [Dev.enterDetect, Dev.bit_updLaneX, Dev.bit_clear_same _ _ (by decide)]

theorem Dev.enterDetect_probing : ((d.enterDetect l).laneX (laneBase l)).probing = true := by
  rw [Dev.enterDetect, Dev.laneX_updLaneX_same]

/-- Entering DETECT leaves LANE_CTRL alone. -/
theorem Dev.enterDetect_en : (d.enterDetect l).bit (rLANE_CTRL (laneBase l)) fLANE_CTRL_EN =
    d.bit (rLANE_CTRL (laneBase l)) fLANE_CTRL_EN := by
  rw [Dev.enterDetect, Dev.bit_updLaneX, Dev.bit_congr (Dev.rd_put_ne _ _ _ (rLANE_CTRL_ne_STATUS _)), Dev.setTrain,
    Dev.bit_congr (Dev.rd_put_ne _ _ _ (rLANE_CTRL_ne_STATUS _))]

theorem Dev.laneStep_enterDetect {P : Nat → Prop} (h : P (rLANE_STATUS (laneBase l))) : Dev.LaneStep P d (d.enterDetect l) := by
  unfold Dev.enterDetect Dev.setTrain
  exact ((Dev.laneStep_put d _ _ h).trans (Dev.laneStep_put _ _ _ h)).trans (Dev.laneStep_updLaneX ..)

/-- TRAIN entered: the taps are those of INIT_PRESET (R36), and what the probe found stands. -/
theorem Dev.enterTrain_state : (d.enterTrain l).trainState l = tsTrain := by
  rw [Dev.enterTrain, Dev.trainState_updLaneX, Dev.trainState_put_status _ _ _ (by decide),
    Dev.trainState_congr (Dev.rd_put_ne _ _ _ (rLANE_STATUS_ne_TRAIN_CTRL _)), Dev.loadPreset,
    Dev.trainState_congr (Dev.rd_wrN_ne _ _ (rLANE_STATUS_ne_TXFFE _)), Dev.trainState_setTrain _ _ (by decide)]

theorem Dev.enterTrain_farPresent : (d.enterTrain l).bit (rLANE_STATUS (laneBase l)) fLANE_STATUS_FAR_PRESENT =
    d.bit (rLANE_STATUS (laneBase l)) fLANE_STATUS_FAR_PRESENT := by
  rw [Dev.enterTrain, Dev.bit_updLaneX, Dev.bit_put_apart _ _ _ (by decide) (.inl (by decide)),
    Dev.bit_congr (Dev.rd_put_ne _ _ _ (rLANE_STATUS_ne_TRAIN_CTRL _)), Dev.loadPreset,
    Dev.bit_congr (Dev.rd_wrN_ne _ _ (rLANE_STATUS_ne_TXFFE _)), Dev.bit, Dev.get_setTrain_apart _ _ _ (by decide), Dev.bit]

theorem Dev.enterTrain_taps : (d.enterTrain l).rd (rLANE_TXFFE (laneBase l)) = BitVec.ofNat 32 (tapsWord (tapPreset
    (d.get (rLANE_TRAIN_CTRL (laneBase l)) fLANE_TRAIN_CTRL_INIT_PRESET))) := by
  rw [Dev.enterTrain, Dev.rd_updLaneX, Dev.rd_put_ne _ _ _ (rLANE_TXFFE_ne_STATUS _),
    Dev.rd_put_ne _ _ _ (rLANE_TXFFE_ne_TRAIN_CTRL _), Dev.loadPreset, Dev.rd_wrN_same, Dev.setTrain,
    Dev.get_put_ne _ _ _ _ (rLANE_TRAIN_CTRL_ne_STATUS _)]

theorem Dev.laneStep_enterTrain {P : Nat → Prop} (hstatus : P (rLANE_STATUS (laneBase l))) (htaps : P (rLANE_TXFFE (laneBase l)))
    (hctrl : P (rLANE_TRAIN_CTRL (laneBase l))) : Dev.LaneStep P d (d.enterTrain l) := by
  unfold Dev.enterTrain Dev.setTrain Dev.loadPreset
  exact ((((Dev.laneStep_put d _ _ hstatus).trans (Dev.laneStep_wrN _ _ htaps)).trans (Dev.laneStep_put _ _ _ hctrl)).trans
    (Dev.laneStep_put _ _ _ hstatus)).trans (Dev.laneStep_updLaneX ..)

/-- OFF entered: EN and LANE_STATUS are 0. -/
theorem Dev.laneOff_en : (d.laneOff l).bit (rLANE_CTRL (laneBase l)) fLANE_CTRL_EN = false := by
  rw [Dev.laneOff, Dev.bit_updLaneX, Dev.bit_congr (Dev.rd_wr_ne _ _ (rLANE_CTRL_ne_STATUS _)),
    Dev.bit_clear_same _ _ (by decide)]

theorem Dev.laneOff_status : (d.laneOff l).rd (rLANE_STATUS (laneBase l)) = 0#32 := by
  rw [Dev.laneOff, Dev.rd_updLaneX, Dev.rd_wr_same]

theorem Dev.laneOff_state : (d.laneOff l).trainState l = tsOff := by
  rw [Dev.trainState, Dev.get, Dev.rdN, Dev.laneOff_status]; rfl

theorem Dev.laneStep_laneOff {P : Nat → Prop} (hctrl : P (rLANE_CTRL (laneBase l))) (hstatus : P (rLANE_STATUS (laneBase l))) :
    Dev.LaneStep P d (d.laneOff l) := by
  unfold Dev.laneOff
  exact ((Dev.laneStep_put d _ _ hctrl).trans (Dev.laneStep_wrN _ 0 hstatus)).trans (Dev.laneStep_updLaneX ..)

end

/-! LANE_ENABLE and LANE_DISABLE: a write of LANE_CTRL.EN alone (R44). -/

theorem exec_laneEnable (l : LaneId) (s : State) : exec (.laneEnable l) s =
    s.run (fun d => d.writeLane l 0x000 (fieldPut (d.rdN (rLANE_CTRL (laneBase l))) fLANE_CTRL_EN 1)) := by rfl
theorem exec_laneDisable (l : LaneId) (s : State) : exec (.laneDisable l) s =
    s.run (fun d => d.writeLane l 0x000 (fieldPut (d.rdN (rLANE_CTRL (laneBase l))) fLANE_CTRL_EN 0)) := by rfl

section
variable {d : Dev} {l : LaneId}

/-- A write of LANE_CTRL that sets EN of a disabled lane stores, and the lane enters DETECT. -/
theorem Dev.writeLaneCtrl_enables {v : Nat} (ht : laneTrains l = true)
    (hoff : d.bit (rLANE_CTRL (laneBase l)) fLANE_CTRL_EN = false) (hv : nbit v 0 = true) :
    d.writeLane l 0x000 v = (d.access (rLANE_CTRL (laneBase l)) v).enterDetect l := by
  have hen : (d.access (rLANE_CTRL (laneBase l)) v).bit (rLANE_CTRL (laneBase l)) fLANE_CTRL_EN = true :=
    (Dev.bit_access_rw d v rfl (by decide) (laneEn_writable ht)).trans hv
  simp [Dev.writeLane, Dev.laneOk_of_trains d ht, Dev.writeLaneCtrl, hoff, hen, ht]

/-- A write of LANE_CTRL that clears EN of an enabled lane stores, and the lane is OFF; a fabric lane in DATA leaves its bundle. -/
theorem Dev.writeLaneCtrl_disables {v : Nat} (ht : laneTrains l = true)
    (hon : d.bit (rLANE_CTRL (laneBase l)) fLANE_CTRL_EN = true) (hv : nbit v 0 = false)
    (hstate : d.trainState l ≠ tsData ∨ ∃ u, l = .upl u) :
    d.writeLane l 0x000 v = (d.access (rLANE_CTRL (laneBase l)) v).laneOff l := by
  have hen : (d.access (rLANE_CTRL (laneBase l)) v).bit (rLANE_CTRL (laneBase l)) fLANE_CTRL_EN = false :=
    (Dev.bit_access_rw d v rfl (by decide) (laneEn_writable ht)).trans hv
  have hkeeps : (d.access (rLANE_CTRL (laneBase l)) v).trainState l = d.trainState l :=
    Dev.trainState_congr ((d.rewrites_access ..).rd _ (rLANE_STATUS_ne_CTRL _))
  have hwrite : d.writeLane l 0x000 v = d.writeLaneCtrl l v := by simp [Dev.writeLane, Dev.laneOk_of_trains d ht]
  rw [hwrite]
  cases l with
  | fab f =>
    have hdata : d.trainState (.fab f) ≠ tsData := hstate.resolve_right (by rintro ⟨u, hu⟩; cases hu)
    simp [Dev.writeLaneCtrl, hon, hen, hkeeps, hdata]
  | upl u | tree t | glk g => simp [Dev.writeLaneCtrl, hon, hen]

end

/-! The receiver-detect probe (R44, R50). -/

/-- The device once the probe has found a far termination. -/
def Dev.farFound (d : Dev) (l : LaneId) : Dev :=
  ((d.updLaneX (laneBase l) (fun x => { x with probing := false })).mark (rLANE_STATUS (laneBase l))
    fLANE_STATUS_FAR_PRESENT).enterTrain l

/-- The device once the probe has found an open, before the alert. -/
def Dev.openFound (d : Dev) (l : LaneId) : Dev :=
  (d.updLaneX (laneBase l) (fun x => { x with probing := false })).mark (rLANE_ERR (laneBase l)) fLANE_ERR_RXDET_OPEN

/-- The alert LANE_OPEN, raised once in a probing. -/
def Dev.alertOpen (d : Dev) (l : LaneId) : Dev :=
  if (d.laneX (laneBase l)).openAlerted then d
  else (d.updLaneX (laneBase l) (fun x => { x with openAlerted := true })).alert 0x0202 []

theorem exec_receiverDetectDone (l : LaneId) (far : Bool) (s : State) : exec (.receiverDetectDone l far) s =
    s.run (fun d => if d.trainState l = tsDetect ∧ (d.laneX (laneBase l)).probing then
      if far then d.farFound l else (d.openFound l).alertOpen l else d) := by rfl
theorem exec_receiverDetectDone_far (l : LaneId) (s : State) : exec (.receiverDetectDone l true) s =
    s.run (fun d => if d.trainState l = tsDetect ∧ (d.laneX (laneBase l)).probing then d.farFound l else d) := by
  rw [exec_receiverDetectDone]
  simp only [if_true]
theorem exec_receiverDetectDone_open (l : LaneId) (s : State) : exec (.receiverDetectDone l false) s =
    s.run (fun d => if d.trainState l = tsDetect ∧ (d.laneX (laneBase l)).probing then (d.openFound l).alertOpen l else d) := by
  rw [exec_receiverDetectDone]
  simp only [Bool.false_eq_true, if_false]
theorem exec_receiverDetectRetry (l : LaneId) (s : State) : exec (.receiverDetectRetry l) s =
    s.run (fun d => if d.trainState l = tsDetect then d.updLaneX (laneBase l) (fun x => { x with probing := true }) else d) := by
  rfl

/-- The registers of a lane are not those an alert can write. -/
theorem lane_not_mem_alertRegs {l : LaneId} (h : laneTrains l = true) {i : Nat} (hi : i < 0x1000) :
    laneBase l + i ∉ alertRegs := by
  cases l with
  | upl u | fab u =>
    simp only [laneBase, alertRegs, List.mem_cons, List.not_mem_nil, or_false, rGLK_CNT, rGLK_ERR, rGLK_ALERT_SEQ,
      rGLK_STATUS, rPIN_STATUS]
    omega
  | tree _ | glk _ => exact absurd h Bool.false_ne_true

section
variable (d : Dev) (l : LaneId)

/-- With the far end found FAR_PRESENT is set and the lane trains with the taps of INIT_PRESET. -/
theorem Dev.farFound_farPresent : (d.farFound l).bit (rLANE_STATUS (laneBase l)) fLANE_STATUS_FAR_PRESENT = true := by
  rw [Dev.farFound, Dev.enterTrain_farPresent, Dev.bit_mark_same _ _ rfl (by decide)]

theorem Dev.farFound_taps : (d.farFound l).rd (rLANE_TXFFE (laneBase l)) = BitVec.ofNat 32 (tapsWord (tapPreset
    (d.get (rLANE_TRAIN_CTRL (laneBase l)) fLANE_TRAIN_CTRL_INIT_PRESET))) := by
  rw [Dev.farFound, Dev.enterTrain_taps, Dev.mark, Dev.get_put_ne _ _ _ _ (rLANE_TRAIN_CTRL_ne_STATUS _), Dev.get_updLaneX]

theorem Dev.laneStep_farFound : Dev.LaneStep (· ∈ [rLANE_STATUS (laneBase l), rLANE_TXFFE (laneBase l),
    rLANE_TRAIN_CTRL (laneBase l)]) d (d.farFound l) := by
  unfold Dev.farFound
  exact ((Dev.laneStep_updLaneX ..).trans (Dev.laneStep_put _ _ _ (by simp))).trans
    (Dev.laneStep_enterTrain _ l (by simp) (by simp) (by simp))

/-- With an open found RXDET_OPEN is set, the probe has ended and the lane stays in its state. -/
theorem Dev.openFound_marks : (d.openFound l).bit (rLANE_ERR (laneBase l)) fLANE_ERR_RXDET_OPEN = true :=
  Dev.bit_mark_same _ _ rfl (by decide)

theorem Dev.openFound_state : (d.openFound l).trainState l = d.trainState l := by
  rw [Dev.openFound, Dev.mark, Dev.trainState_congr (Dev.rd_put_ne _ _ _ (rLANE_STATUS_ne_ERR _)), Dev.trainState_updLaneX]

theorem Dev.openFound_probing : ((d.openFound l).laneX (laneBase l)).probing = false := by
  rw [Dev.openFound, Dev.mark, Dev.laneX_put, Dev.laneX_updLaneX_same]

/-- The alert leaves the registers that no alert writes alone. -/
theorem Dev.rd_alertOpen {a : Nat} (h : a ∉ alertRegs) : (d.alertOpen l).rd a = d.rd a := by
  unfold Dev.alertOpen
  split
  · rfl
  · rw [Dev.rd_alert _ _ _ h, Dev.rd_updLaneX]

theorem Dev.alertOpen_probing : ((d.alertOpen l).laneX (laneBase l)).probing = (d.laneX (laneBase l)).probing := by
  unfold Dev.alertOpen
  split
  · rfl
  · rw [Dev.laneX, Dev.alert_lanes, ← Dev.laneX, Dev.laneX_updLaneX_same]

/-- Neither the open found nor its alert answers a mailbox or zeroes one. -/
theorem Dev.openFound_quiet : ((d.openFound l).alertOpen l).replies = d.replies ∧ ((d.openFound l).alertOpen l).wipes = d.wipes := by
  have hopen := (Dev.laneStep_updLaneX (fun _ => True) d (laneBase l) (fun x => { x with probing := false })).trans
    (Dev.laneStep_put _ (a := rLANE_ERR (laneBase l)) fLANE_ERR_RXDET_OPEN 1 trivial)
  unfold Dev.alertOpen
  split
  · exact ⟨hopen.replies, hopen.wipes⟩
  · rw [Dev.alert_replies, Dev.alert_wipes]
    exact ⟨hopen.replies, hopen.wipes⟩

end

/-- LANE_ENABLE of a disabled lane that trains sets EN and takes it to DETECT (R44). -/
theorem laneEnable_detects {s : State} {l : LaneId} (hs : s.Runs) (ht : laneTrains l = true)
    (hoff : s.dev.bit (rLANE_CTRL (laneBase l)) fLANE_CTRL_EN = false) :
    ∃ d : Dev, exec (.laneEnable l) s = .next { s with dev := d.enterDetect l } ∧
      d.bit (rLANE_CTRL (laneBase l)) fLANE_CTRL_EN = true ∧
      Dev.LaneStep (· ∈ [rLANE_CTRL (laneBase l), rLANE_STATUS (laneBase l)]) s.start (d.enterDetect l) := by
  have hset : nbit (fieldPut (s.start.rdN (rLANE_CTRL (laneBase l))) fLANE_CTRL_EN 1) 0 = true :=
    nbit_fieldPut_same (f := fLANE_CTRL_EN) _ 1 rfl
  have hstep := (s.start.laneStep_access (fieldPut (s.start.rdN (rLANE_CTRL (laneBase l))) fLANE_CTRL_EN 1)
    (List.mem_cons_self (a := rLANE_CTRL (laneBase l)) (l := [rLANE_STATUS (laneBase l)]))).trans
    (Dev.laneStep_enterDetect _ l (by simp))
  exact ⟨_, (exec_laneEnable l s).trans (State.run_laneStep hs (Dev.writeLaneCtrl_enables ht hoff hset) hstep),
    (Dev.bit_access_rw _ _ rfl (by decide) (laneEn_writable ht)).trans hset, hstep⟩

/-- LANE_DISABLE of an enabled lane that trains and, if of the fabric, is not in DATA takes it to OFF (R44). -/
theorem laneDisable_stops {s : State} {l : LaneId} (hs : s.Runs) (ht : laneTrains l = true)
    (hon : s.dev.bit (rLANE_CTRL (laneBase l)) fLANE_CTRL_EN = true) (hstate : s.dev.trainState l ≠ tsData ∨ ∃ u, l = .upl u) :
    ∃ d : Dev, exec (.laneDisable l) s = .next { s with dev := d.laneOff l } ∧
      Dev.LaneStep (· ∈ [rLANE_CTRL (laneBase l), rLANE_STATUS (laneBase l)]) s.start (d.laneOff l) := by
  have hclear : nbit (fieldPut (s.start.rdN (rLANE_CTRL (laneBase l))) fLANE_CTRL_EN 0) 0 = false :=
    nbit_fieldPut_same (f := fLANE_CTRL_EN) _ 0 rfl
  have hstep := (s.start.laneStep_access (fieldPut (s.start.rdN (rLANE_CTRL (laneBase l))) fLANE_CTRL_EN 0)
    (List.mem_cons_self (a := rLANE_CTRL (laneBase l)) (l := [rLANE_STATUS (laneBase l)]))).trans
    (Dev.laneStep_laneOff _ l (by simp) (by simp))
  exact ⟨_, (exec_laneDisable l s).trans (State.run_laneStep hs (Dev.writeLaneCtrl_disables ht hon hclear hstate) hstep), hstep⟩

/-- Settles O5: each row takes the lane where its lemma says, and a lane's change changes nothing else. -/
theorem lanesEnableProbeAndStop : Obligations.LanesEnableProbeAndStop := by
  unfold Obligations.LanesEnableProbeAndStop
  intro s l hs ht
  refine ⟨fun hoff => ?enable, fun hdet hprobe => ⟨?far, ?opened⟩, fun hdet => ?retry, fun hon hstate => ?disable⟩
  case enable =>
    obtain ⟨d, hexec, hen, hstep⟩ := laneEnable_detects hs ht hoff
    exact ⟨_, hexec, (d.enterDetect_en l).trans hen, d.enterDetect_state l, d.enterDetect_farPresent l, d.enterDetect_probing l,
      State.onlyChanges_of_laneStep hstep⟩
  case far =>
    have hstep := s.start.laneStep_farFound l
    exact ⟨_, (exec_receiverDetectDone_far l s).trans (State.run_laneStep hs (if_pos ⟨hdet, hprobe⟩) hstep),
      Dev.enterTrain_state .., s.start.farFound_farPresent l, s.start.farFound_taps l, State.onlyChanges_of_laneStep hstep⟩
  case opened =>
    have hstatus : rLANE_STATUS (laneBase l) ∉ alertRegs := lane_not_mem_alertRegs ht (by decide)
    have herr : rLANE_ERR (laneBase l) ∉ alertRegs := lane_not_mem_alertRegs ht (by decide)
    obtain ⟨hreplies, hwipes⟩ := s.start.openFound_quiet l
    refine ⟨_, (exec_receiverDetectDone_open l s).trans (State.run_next hs (if_pos ⟨hdet, hprobe⟩) (hreplies.trans hs.2.1)
      (hwipes.trans hs.2.2)), ?_, ?_, ?_⟩
    · exact (Dev.trainState_congr ((s.start.openFound l).rd_alertOpen l hstatus)).trans ((s.start.openFound_state l).trans hdet)
    · exact (Dev.bit_congr ((s.start.openFound l).rd_alertOpen l herr) _).trans (s.start.openFound_marks l)
    · exact ((s.start.openFound l).alertOpen_probing l).trans (s.start.openFound_probing l)
  case retry =>
    have hstep := s.start.laneStep_updLaneX (· ∈ []) (laneBase l) (fun x => { x with probing := true })
    exact ⟨_, (exec_receiverDetectRetry l s).trans (State.run_laneStep hs (if_pos hdet) hstep),
      congrArg LaneX.probing (s.start.laneX_updLaneX_same ..), State.onlyChanges_of_laneStep hstep⟩
  case disable =>
    obtain ⟨d, hexec, hstep⟩ := laneDisable_stops hs ht hon hstate
    exact ⟨_, hexec, d.laneOff_en l, d.laneOff_status l, d.laneOff_state l, State.onlyChanges_of_laneStep hstep⟩

/-! Software's writes of the transmitter taps (R34, R35). -/

theorem exec_laneTxffeWrite (l : LaneId) (val : Word) (s : State) : exec (.laneTxffeWrite l val) s =
    s.run (fun d => d.writeLane l 0x008 val.toNat) := by rfl

section
variable {d : Dev} {l : LaneId} {v : Nat}

/-- Taps within R34, written outside training, are stored by the access codes. -/
theorem Dev.writeTaps_stores (ht : laneTrains l = true) (hok : tapsOk (tapsOf v) = true) (htrain : d.trainState l ≠ tsTrain)
    (hwait : d.trainState l ≠ tsWaitFar) : d.writeLane l 0x008 v = d.access (rLANE_TXFFE (laneBase l)) v := by
  simp [Dev.writeLane, Dev.laneOk_of_trains d ht, Dev.writeTaps, Dev.tapsRefused, Dev.laneTraining, hok, htrain, hwait]

/-- Taps past R34 set TAP_RANGE; in training TAP_BUSY is set beside it. -/
theorem Dev.writeTaps_range (ht : laneTrains l = true) (hbad : tapsOk (tapsOf v) = false) : ∃ busy, d.writeLane l 0x008 v =
    (d.mark (rLANE_ERR (laneBase l)) fLANE_ERR_TAP_RANGE).when busy (·.mark (rLANE_ERR (laneBase l)) fLANE_ERR_TAP_BUSY) :=
  ⟨_, by simp [Dev.writeLane, Dev.laneOk_of_trains d ht, Dev.writeTaps, Dev.tapsRefused, hbad, Dev.when]; rfl⟩

end

/-- TAP_RANGE, once set, stands when TAP_BUSY is set, and the two bits are all that is written. -/
theorem Dev.tapErrors (d : Dev) (b : Nat) (busy : Bool) :
    ((d.mark (rLANE_ERR b) fLANE_ERR_TAP_RANGE).when busy (·.mark (rLANE_ERR b) fLANE_ERR_TAP_BUSY)).bit (rLANE_ERR b)
      fLANE_ERR_TAP_RANGE = true ∧
    Dev.Rewrites (· ∈ [rLANE_ERR b]) d
      ((d.mark (rLANE_ERR b) fLANE_ERR_TAP_RANGE).when busy (·.mark (rLANE_ERR b) fLANE_ERR_TAP_BUSY)) := by
  have hmark := Dev.bit_mark_same d (rLANE_ERR b) (f := fLANE_ERR_TAP_RANGE) rfl (by decide)
  have hrange := Dev.rewrites_mark d fLANE_ERR_TAP_RANGE (List.mem_singleton_self (rLANE_ERR b))
  cases busy with
  | false => exact ⟨hmark, hrange⟩
  | true =>
    exact ⟨(Dev.bit_put_apart _ _ _ (by decide) (.inr (by decide))).trans hmark,
      hrange.trans (Dev.rewrites_mark _ _ (List.mem_singleton_self _))⟩

/-! A training frame that asks for a preset (R40-R44, R49). -/

/-- The device once it has seen a training frame: signal and lock. -/
def Dev.frameSeen (d : Dev) (l : LaneId) : Dev :=
  (d.mark (rLANE_STATUS (laneBase l)) fLANE_STATUS_RX_SIGNAL).mark (rLANE_STATUS (laneBase l)) fLANE_STATUS_CDR_LOCK

/-- The device once it has acted on a new control word of a good frame and taken the status word. -/
def Dev.frameTaken (d : Dev) (l : LaneId) (c st : Nat) : Dev :=
  (((d.frameSeen l).actOnRequest l c).updLaneX (laneBase l) (fun x => { x with farCtrl := c })).takeStatus l st

/-- A preset asked for is loaded and answered UPDATED with the tap's echo; PRECODE is taken beside it (R42). -/
theorem Dev.actOnRequest_preset (d : Dev) (l : LaneId) {c : Nat} (h : nbit c 15 = true) : d.actOnRequest l c =
    ((d.put (rLANE_CTRL (laneBase l)) fLANE_CTRL_PRECODE_TX (nbits c 12 12)).loadPreset l (nbits c 14 13)).updLaneX (laneBase l)
      (fun x => { x with response := 1, echo := nbits c 11 9 }) := by
  rw [Dev.actOnRequest]; exact if_pos h

/-- With no request outstanding a status word gives the far lane's number, its precoding and its readiness (R41, R49). -/
theorem Dev.takeStatus_idle (d : Dev) (l : LaneId) (st : Nat) (h : (d.laneX (laneBase l)).ask = none) : d.takeStatus l st =
    ((d.put (rLANE_STATUS (laneBase l)) fLANE_STATUS_FAR_LANE (nbits st 5 0)).put (rLANE_CTRL (laneBase l)) fLANE_CTRL_PRECODE_RX
      (nbits st 14 14)).updLaneX (laneBase l) (fun x => { x with farReady := x.farReady || nbit st 15 }) := by
  simp only [Dev.takeStatus, Dev.laneX_put, h]

section
variable {d : Dev} {l : LaneId} {c : Nat} (st : Nat) (hc : nbit c 15 = true) (hask : (d.laneX (laneBase l)).ask = none)
include hc hask

/-- Such a frame, step by step. -/
theorem Dev.frameTaken_eq : d.frameTaken l c st =
    ((((((((d.frameSeen l).put (rLANE_CTRL (laneBase l)) fLANE_CTRL_PRECODE_TX (nbits c 12 12)).loadPreset l (nbits c 14 13)).updLaneX
      (laneBase l) (fun x => { x with response := 1, echo := nbits c 11 9 })).updLaneX (laneBase l) (fun x => { x with farCtrl := c })).put
      (rLANE_STATUS (laneBase l)) fLANE_STATUS_FAR_LANE (nbits st 5 0)).put (rLANE_CTRL (laneBase l)) fLANE_CTRL_PRECODE_RX
      (nbits st 14 14)).updLaneX (laneBase l) (fun x => { x with farReady := x.farReady || nbit st 15 })) := by
  rw [Dev.frameTaken, Dev.actOnRequest_preset _ _ hc, Dev.takeStatus_idle]
  simpa [Dev.loadPreset, Dev.frameSeen, Dev.mark] using hask

theorem Dev.frameTaken_status : (d.frameTaken l c st).rd (rLANE_STATUS (laneBase l)) =
    ((d.frameSeen l).put (rLANE_STATUS (laneBase l)) fLANE_STATUS_FAR_LANE (nbits st 5 0)).rd (rLANE_STATUS (laneBase l)) := by
  rw [Dev.frameTaken_eq st hc hask, Dev.rd_updLaneX, Dev.rd_put_ne _ _ _ (rLANE_STATUS_ne_CTRL _)]
  refine Dev.rd_put_congr ?_ _ _
  rw [Dev.rd_updLaneX, Dev.rd_updLaneX, Dev.loadPreset, Dev.rd_wrN_ne _ _ (rLANE_STATUS_ne_TXFFE _),
    Dev.rd_put_ne _ _ _ (rLANE_STATUS_ne_CTRL _)]

theorem Dev.frameTaken_taps : (d.frameTaken l c st).rd (rLANE_TXFFE (laneBase l)) =
    BitVec.ofNat 32 (tapsWord (tapPreset (nbits c 14 13))) := by
  rw [Dev.frameTaken_eq st hc hask, Dev.rd_updLaneX, Dev.rd_put_ne _ _ _ (rLANE_TXFFE_ne_CTRL _),
    Dev.rd_put_ne _ _ _ (rLANE_TXFFE_ne_STATUS _), Dev.rd_updLaneX, Dev.rd_updLaneX, Dev.loadPreset, Dev.rd_wrN_same]

theorem Dev.frameTaken_laneX : (d.frameTaken l c st).laneX (laneBase l) = { d.laneX (laneBase l) with
    response := 1, echo := nbits c 11 9, farCtrl := c, farReady := (d.laneX (laneBase l)).farReady || nbit st 15 } := by
  rw [Dev.frameTaken_eq st hc hask]
  simp [Dev.loadPreset, Dev.frameSeen, Dev.mark]

theorem Dev.laneStep_frameTaken : Dev.LaneStep (fun _ => True) d (d.frameTaken l c st) := by
  rw [Dev.frameTaken_eq st hc hask]
  unfold Dev.loadPreset Dev.frameSeen Dev.mark
  exact ((((((((Dev.laneStep_put d _ _ trivial).trans (Dev.laneStep_put _ _ _ trivial)).trans (Dev.laneStep_put _ _ _ trivial)).trans
    (Dev.laneStep_wrN _ _ trivial)).trans (Dev.laneStep_updLaneX ..)).trans (Dev.laneStep_updLaneX ..)).trans
    (Dev.laneStep_put _ _ _ trivial)).trans (Dev.laneStep_put _ _ _ trivial)).trans (Dev.laneStep_updLaneX ..)

/-- The fields of LANE_STATUS after the frame: signal, lock and the far lane; the state and ADAPT_DONE stand. -/
theorem Dev.frameTaken_fields :
    (d.frameTaken l c st).bit (rLANE_STATUS (laneBase l)) fLANE_STATUS_RX_SIGNAL = true ∧
    (d.frameTaken l c st).bit (rLANE_STATUS (laneBase l)) fLANE_STATUS_CDR_LOCK = true ∧
    (d.frameTaken l c st).get (rLANE_STATUS (laneBase l)) fLANE_STATUS_FAR_LANE = nbits st 5 0 ∧
    (d.frameTaken l c st).bit (rLANE_STATUS (laneBase l)) fLANE_STATUS_ADAPT_DONE =
      d.bit (rLANE_STATUS (laneBase l)) fLANE_STATUS_ADAPT_DONE ∧
    (d.frameTaken l c st).trainState l = d.trainState l := by
  have hstatus := Dev.frameTaken_status st hc hask
  refine ⟨?_, ?_, ?_, ?_, ?_⟩
  · rw [Dev.bit_congr hstatus, Dev.bit_put_apart _ _ _ (by decide) (.inl (by decide)), Dev.frameSeen, Dev.mark,
      Dev.bit_put_apart _ _ _ (by decide) (.inl (by decide)), Dev.bit_mark_same _ _ rfl (by decide)]
  · rw [Dev.bit_congr hstatus, Dev.bit_put_apart _ _ _ (by decide) (.inl (by decide)), Dev.frameSeen,
      Dev.bit_mark_same _ _ rfl (by decide)]
  · rw [Dev.get_congr hstatus, Dev.get_put_same _ _ _ (by decide)]
    exact Nat.mod_eq_of_lt (Nat.mod_lt _ (by decide))
  · rw [Dev.bit_congr hstatus, Dev.bit_put_apart _ _ _ (by decide) (.inl (by decide)), Dev.frameSeen, Dev.mark, Dev.mark,
      Dev.bit_put_apart _ _ _ (by decide) (.inr (by decide)), Dev.bit_put_apart _ _ _ (by decide) (.inr (by decide))]
  · rw [Dev.trainState_congr hstatus, Dev.trainState_put_status _ _ _ (by decide), Dev.frameSeen, Dev.mark, Dev.mark,
      Dev.trainState_put_status _ _ _ (by decide), Dev.trainState_put_status _ _ _ (by decide)]

end

/-! Leaving TRAIN, and the frame sent back (R39, R44). -/

/-- A lane's number within its bundle, as its status word gives it (R41). -/
def Dev.laneNum (d : Dev) (l : LaneId) : Nat :=
  match l with
  | .fab f => f.val - (d.bundleOf f.val).getD f.val
  | _ => 0

/-- The device with nothing to ask next of the far transmitter. -/
def Dev.asksNothing (d : Dev) (l : LaneId) : Dev := d.updLaneX (laneBase l) (fun x => { x with ask := none })

/-- The device once a frame taken is answered, with nothing to ask next. -/
def Dev.frameAnswered (d : Dev) (l : LaneId) : Dev :=
  ((d.asksNothing l).trainReady l).sendTraining l ((d.asksNothing l).laneNum l)

section
variable (d : Dev) (l : LaneId)

/-- The answer changes nothing of the device but the training state and the request outstanding. -/
theorem Dev.rd_frameAnswered {a : Nat} (h : a ≠ rLANE_STATUS (laneBase l)) : (d.frameAnswered l).rd a = d.rd a := by
  rw [Dev.frameAnswered, Dev.sendTraining, Dev.rd_emit, Dev.trainReady]
  split
  · exact Dev.rd_put_ne _ _ _ h
  · rfl

theorem Dev.get_frameAnswered {f : Fld} (hf : f.lo ≤ f.hi ∧ f.hi < 29) :
    (d.frameAnswered l).get (rLANE_STATUS (laneBase l)) f = d.get (rLANE_STATUS (laneBase l)) f := by
  rw [Dev.frameAnswered, Dev.sendTraining, Dev.get_congr (Dev.rd_emit ..), Dev.trainReady]
  split
  · exact Dev.get_setTrain_apart _ _ _ hf
  · rfl

theorem Dev.laneX_frameAnswered : (d.frameAnswered l).laneX (laneBase l) = { d.laneX (laneBase l) with ask := none } := by
  rw [Dev.frameAnswered, Dev.sendTraining, Dev.laneX_emit, Dev.trainReady]
  split
  · rw [Dev.setTrain, Dev.laneX_put, Dev.asksNothing, Dev.laneX_updLaneX_same]
  · rw [Dev.asksNothing, Dev.laneX_updLaneX_same]

theorem Dev.laneStep_frameAnswered : Dev.LaneStep (fun _ => True) d (d.frameAnswered l) := by
  refine (Dev.laneStep_updLaneX _ d (laneBase l) (fun x => { x with ask := none })).trans (.trans ?_ (Dev.laneStep_emit ..))
  unfold Dev.trainReady
  split
  · exact Dev.laneStep_put _ _ _ trivial
  · exact (Dev.Rewrites.refl ..).laneStep

/-- With nothing outstanding a lane in TRAIN goes to WAIT_FAR once its receiver has adapted (R44). -/
theorem Dev.frameAnswered_state (htrain : d.trainState l = tsTrain) : (d.frameAnswered l).trainState l =
    if d.bit (rLANE_STATUS (laneBase l)) fLANE_STATUS_ADAPT_DONE then tsWaitFar else tsTrain := by
  have hask : ((d.asksNothing l).laneX (laneBase l)).ask = none := by rw [Dev.asksNothing, Dev.laneX_updLaneX_same]
  have hbit : (d.asksNothing l).bit (rLANE_STATUS (laneBase l)) fLANE_STATUS_ADAPT_DONE =
      d.bit (rLANE_STATUS (laneBase l)) fLANE_STATUS_ADAPT_DONE := Dev.bit_updLaneX ..
  have hstate : (d.asksNothing l).trainState l = tsTrain := (Dev.trainState_updLaneX ..).trans htrain
  rw [Dev.frameAnswered, Dev.sendTraining, Dev.trainState_congr (Dev.rd_emit ..), Dev.trainReady, hbit]
  cases h : d.bit (rLANE_STATUS (laneBase l)) fLANE_STATUS_ADAPT_DONE with
  | true => rw [if_pos ⟨hstate, rfl, hask⟩, if_pos rfl, Dev.trainState_setTrain _ _ (by decide)]
  | false => rw [if_neg (fun hready => Bool.false_ne_true hready.2.1), if_neg Bool.false_ne_true, hstate]

end

/-- A good frame of a lane in TRAIN with nothing outstanding, whose new control word asks for a preset, is taken and answered. -/
theorem trainingFrame_preset {s : State} {l : LaneId} {control status : BitVec 16} (hs : s.Runs) (ht : laneTrains l = true)
    (htrain : s.dev.trainState l = tsTrain) (hask : (s.dev.laneX (laneBase l)).ask = none) (hc : nbit control.toNat 15 = true)
    (hnew : control.toNat ≠ (s.dev.laneX (laneBase l)).farCtrl) :
    exec (.trainingFrame l control status true false none) s =
      .next { s with dev := (s.start.frameTaken l control.toNat status.toNat).frameAnswered l } := by
  have hask' : (s.start.laneX (laneBase l)).ask = none := hask
  have htraining : s.start.laneTraining l = true := by simp [Dev.laneTraining, show s.start.trainState l = tsTrain from htrain]
  have hnew' : control.toNat ≠ ((s.start.frameSeen l).laneX (laneBase l)).farCtrl := by
    rw [Dev.frameSeen, Dev.mark, Dev.mark, Dev.laneX_put, Dev.laneX_put]; exact hnew
  have hstate := (Dev.frameTaken_fields (d := s.start) status.toNat hc hask').2.2.2.2.trans htrain
  have hasks := (congrArg LaneX.ask (Dev.frameTaken_laneX (d := s.start) status.toNat hc hask')).trans hask
  have hstep := (Dev.laneStep_frameTaken (d := s.start) status.toNat hc hask').trans (Dev.laneStep_frameAnswered _ l)
  show execTrainingFrame l control status true false none s = _
  unfold execTrainingFrame
  refine State.run_laneStep hs ?_ hstep
  unfold Dev.frameTaken at hstate hasks
  unfold Dev.frameSeen at hnew' hstate hasks
  simp only [ht, htraining, Bool.not_true, Bool.or_self, Bool.false_and, Bool.false_eq_true, if_false, Dev.when, if_true,
    if_pos hnew', if_pos (And.intro hstate hasks)]
  rfl

/-- Settles O7: the write of taps has its two outcomes, and the frame is followed from what is seen to what is sent back. -/
theorem tapsObeyTheirLimits : Obligations.TapsObeyTheirLimits := by
  unfold Obligations.TapsObeyTheirLimits
  intro s l hs ht
  refine ⟨fun val htrain hwait hok => ?stored, fun val hbad => ?refused, fun control status htrain hask hc hnew => ?frame⟩
  case stored =>
    have hstore : Dev.Rewrites (· ∈ [rLANE_TXFFE (laneBase l)]) s.start (s.start.access (rLANE_TXFFE (laneBase l)) val.toNat) :=
      s.start.rewrites_access_of _ (List.mem_singleton_self _)
    exact ⟨_, (exec_laneTxffeWrite l val s).trans (State.run_rewrites hs (Dev.writeTaps_stores ht hok htrain hwait) hstore),
      Dev.rdN_access_same .., State.onlyChanges_of_rewrites hstore⟩
  case refused =>
    obtain ⟨busy, hwrite⟩ := Dev.writeTaps_range (d := s.start) ht hbad
    obtain ⟨hrange, hmarks⟩ := s.start.tapErrors (laneBase l) busy
    exact ⟨_, (exec_laneTxffeWrite l val s).trans (State.run_rewrites hs hwrite hmarks), hrange,
      State.onlyChanges_of_rewrites hmarks⟩
  case frame =>
    have hexec := trainingFrame_preset (status := status) hs ht htrain hask hc hnew
    have hask' : (s.start.laneX (laneBase l)).ask = none := hask
    have hx := Dev.frameTaken_laneX (d := s.start) status.toNat hc hask'
    obtain ⟨hsignal, hlock, hlane, hadapt, hstate⟩ := Dev.frameTaken_fields (d := s.start) status.toNat hc hask'
    refine ⟨_, hexec, ?_, ?_, ?_, ?_, ?_, ?_, ?_, ?_⟩
    · exact (Dev.rd_frameAnswered _ _ (rLANE_TXFFE_ne_STATUS _)).trans (Dev.frameTaken_taps _ hc hask')
    · rw [Dev.laneX_frameAnswered, hx]
    · rw [Dev.laneX_frameAnswered, hx]
    · rw [Dev.laneX_frameAnswered, hx]; rfl
    · rw [Dev.bit, Dev.get_frameAnswered _ _ (by decide)]; exact hsignal
    · rw [Dev.bit, Dev.get_frameAnswered _ _ (by decide)]; exact hlock
    · rw [Dev.get_frameAnswered _ _ (by decide)]; exact hlane
    · rw [Dev.frameAnswered_state _ _ (hstate.trans htrain), hadapt]; rfl

/-! Slip (R47). -/

theorem exec_laneSlip (l : LaneId) (val : Word) (s : State) : exec (.laneSlip l val) s =
    s.run (fun d => d.writeLane l 0x020 val.toNat) := by rfl
theorem exec_slipDone (l : LaneId) (s : State) : exec (.slipDone l) s =
    s.run (fun d => d.put (rLANE_STATUS (laneBase l)) fLANE_STATUS_SLIP_BUSY 0) := by rfl

/-- The device with a slip in progress, the word boundary one position on. -/
def Dev.slipping (d : Dev) (l : LaneId) : Dev :=
  (d.put (rLANE_STATUS (laneBase l)) fLANE_STATUS_SLIP_BUSY 1).updLaneX (laneBase l) (fun x => { x with slip := (x.slip + 1) % 64 })

/-- A write of SLIP while none is in progress begins one. -/
theorem Dev.writeSlip_begins {d : Dev} {l : LaneId} {v : Nat} (hok : d.laneOk l = true) (hv : nbit v 0 = true)
    (hfree : d.bit (rLANE_STATUS (laneBase l)) fLANE_STATUS_SLIP_BUSY = false) : d.writeLane l 0x020 v = d.slipping l := by
  simp [Dev.writeLane, hok, Dev.slip, hv, hfree, Dev.slipping]

section
variable (d : Dev) (l : LaneId)

theorem Dev.slipping_busy : (d.slipping l).bit (rLANE_STATUS (laneBase l)) fLANE_STATUS_SLIP_BUSY = true := by
  rw [Dev.slipping, Dev.bit_updLaneX]
  exact Dev.bit_mark_same _ _ rfl (by decide)

theorem Dev.slipping_slip : ((d.slipping l).laneX (laneBase l)).slip = ((d.laneX (laneBase l)).slip + 1) % 64 := by
  rw [Dev.slipping, Dev.laneX_updLaneX_same, Dev.laneX_put]

theorem Dev.laneStep_slipping : Dev.LaneStep (· ∈ [rLANE_STATUS (laneBase l)]) d (d.slipping l) :=
  (Dev.laneStep_put d _ _ (List.mem_singleton_self _)).trans (Dev.laneStep_updLaneX ..)

end

/-! Eye scan (R46). -/

theorem exec_escanStart (l : LaneId) (val : Word) (s : State) : exec (.escanStart l val) s =
    s.run (fun d => d.writeLane l 0x024 val.toNat) := by rfl

/-- A tree's scan status is cleared when its scan starts (04_burst_rx.md R123). -/
def Dev.clearScanStat (d : Dev) (l : LaneId) : Dev :=
  match l with
  | .tree t => d.wrN (rBRX_ESCAN_STAT t.val) 0
  | _ => d

/-- The registers once a write of LANE_ESCAN_CTRL has begun a scan. -/
def Dev.scanFlagged (d : Dev) (l : LaneId) (v : Nat) : Dev :=
  (((d.access (rLANE_ESCAN_CTRL (laneBase l)) (v % 2 ^ 30)).put (rLANE_ESCAN_CTRL (laneBase l)) fLANE_ESCAN_CTRL_DONE 0).put
    (rLANE_ESCAN_CTRL (laneBase l)) fLANE_ESCAN_CTRL_START 1).clearScanStat l

/-- The device with a scan begun. -/
def Dev.scanning (d : Dev) (l : LaneId) (v : Nat) : Dev :=
  (d.scanFlagged l v).updLaneX (laneBase l) (fun x => { x with scan := true, scanTick := (d.scanFlagged l v).tickNow })

/-- A write of START while no scan runs begins one. -/
theorem Dev.writeEscan_begins {d : Dev} {l : LaneId} {v : Nat} (hok : d.laneOk l = true) (hv : nbit v 30 = true)
    (hfree : (d.laneX (laneBase l)).scan = false) : d.writeLane l 0x024 v = d.scanning l v := by
  have hwrite : d.writeLane l 0x024 v = d.writeEscan l v := by simp [Dev.writeLane, hok]
  rw [hwrite, Dev.writeEscan, hfree, hv]
  rfl

section
variable (d : Dev) (l : LaneId)

/-- A tree's scan status is none of its lane's registers. -/
theorem Dev.rd_clearScanStat : (d.clearScanStat l).rd (rLANE_ESCAN_CTRL (laneBase l)) = d.rd (rLANE_ESCAN_CTRL (laneBase l)) := by
  cases l with
  | tree t => exact Dev.rd_wrN_ne _ _ (by simp only [rLANE_ESCAN_CTRL, laneBase, rBRX_ESCAN_STAT]; omega)
  | upl _ | fab _ | glk _ => rfl

theorem Dev.laneStep_clearScanStat : Dev.LaneStep (fun _ => True) d (d.clearScanStat l) := by
  cases l with
  | tree t => exact Dev.laneStep_wrN _ _ trivial
  | upl _ | fab _ | glk _ => exact (Dev.Rewrites.refl _ d).laneStep

/-- A scan begun shows START 1 and DONE 0. -/
theorem Dev.scanning_flags (v : Nat) : ((d.scanning l v).laneX (laneBase l)).scan = true ∧
    (d.scanning l v).bit (rLANE_ESCAN_CTRL (laneBase l)) fLANE_ESCAN_CTRL_START = true ∧
    (d.scanning l v).bit (rLANE_ESCAN_CTRL (laneBase l)) fLANE_ESCAN_CTRL_DONE = false := by
  refine ⟨?_, ?_, ?_⟩
  · rw [Dev.scanning, Dev.laneX_updLaneX_same]
  · rw [Dev.scanning, Dev.bit_updLaneX, Dev.scanFlagged, Dev.bit_congr (Dev.rd_clearScanStat ..)]
    exact Dev.bit_mark_same _ _ rfl (by decide)
  · rw [Dev.scanning, Dev.bit_updLaneX, Dev.scanFlagged, Dev.bit_congr (Dev.rd_clearScanStat ..),
      Dev.bit_put_apart _ _ _ (by decide) (.inl (by decide)), Dev.bit_clear_same _ _ (by decide)]

theorem Dev.laneStep_scanning (v : Nat) : Dev.LaneStep (fun _ => True) d (d.scanning l v) :=
  ((((Dev.laneStep_access d _ trivial).trans (Dev.laneStep_put _ _ _ trivial)).trans (Dev.laneStep_put _ _ _ trivial)).trans
    (Dev.laneStep_clearScanStat _ l)).trans (Dev.laneStep_updLaneX ..)

/-- A scan ended with a count: the count read, DONE 1 and START 0. -/
theorem Dev.endScan_shows (count : Nat) : ((d.endScan l count).laneX (laneBase l)).scan = false ∧
    (d.endScan l count).rd (rLANE_ESCAN_RES (laneBase l)) = BitVec.ofNat 32 count ∧
    (d.endScan l count).bit (rLANE_ESCAN_CTRL (laneBase l)) fLANE_ESCAN_CTRL_START = false ∧
    (d.endScan l count).bit (rLANE_ESCAN_CTRL (laneBase l)) fLANE_ESCAN_CTRL_DONE = true := by
  refine ⟨?_, ?_, ?_, ?_⟩
  · rw [Dev.endScan, Dev.laneX_updLaneX_same]
  · rw [Dev.endScan, Dev.rd_updLaneX, Dev.rd_put_ne _ _ _ (rLANE_ESCAN_RES_ne_ESCAN_CTRL _),
      Dev.rd_put_ne _ _ _ (rLANE_ESCAN_RES_ne_ESCAN_CTRL _), Dev.rd_wrN_same]
  · rw [Dev.endScan, Dev.bit_updLaneX, Dev.bit_put_apart _ _ _ (by decide) (.inr (by decide)), Dev.bit_clear_same _ _ (by decide)]
  · rw [Dev.endScan, Dev.bit_updLaneX]
    exact Dev.bit_mark_same _ _ rfl (by decide)

theorem Dev.laneStep_endScan (count : Nat) : Dev.LaneStep (· ∈ [rLANE_ESCAN_RES (laneBase l), rLANE_ESCAN_CTRL (laneBase l)]) d
    (d.endScan l count) := by
  unfold Dev.endScan
  exact (((Dev.laneStep_wrN d _ (by simp)).trans (Dev.laneStep_put _ _ _ (by simp))).trans
    (Dev.laneStep_put _ _ _ (by simp))).trans (Dev.laneStep_updLaneX ..)

end

/-- ESCAN_DONE of a running scan of a lane that is no tree's ends it. -/
theorem escanDone_ends {s : State} {l : LaneId} {count : Word} (hs : s.Runs) (hl : ∀ k, l ≠ .tree k)
    (hscan : (s.dev.laneX (laneBase l)).scan = true) :
    exec (.escanDone l count) s = .next { s with dev := s.start.endScan l count.toNat } := by
  have hscan' : (s.start.laneX (laneBase l)).scan = true := hscan
  show execEscanDone l count s = _
  unfold execEscanDone
  refine State.run_laneStep hs ?_ (s.start.laneStep_endScan l count.toNat)
  cases l with
  | tree k => exact absurd rfl (hl k)
  | upl _ | fab _ | glk _ => simp only [hscan', Bool.not_true, Bool.false_eq_true, if_false]

/-! The pattern checker (R52). -/

theorem exec_patLock (l : LaneId) (s : State) : exec (.patLock l) s =
    s.run (fun d => if d.bit (rLANE_PAT_CTRL (laneBase l)) fLANE_PAT_CTRL_CHK_EN then
      d.mark (rLANE_STATUS (laneBase l)) fLANE_STATUS_PAT_LOCK else d) := by rfl
theorem exec_patLockLost (l : LaneId) (errs : Nat) (s : State) : exec (.patLockLost l errs) s =
    s.run (fun d => if d.bit (rLANE_STATUS (laneBase l)) fLANE_STATUS_PAT_LOCK then
      (d.bumpBy (rLANE_PAT_ERR (laneBase l)) errs).put (rLANE_STATUS (laneBase l)) fLANE_STATUS_PAT_LOCK 0 else d) := by rfl

/-- A counter added to rewrites its register alone. -/
theorem Dev.rewrites_bumpBy {P : Nat → Prop} (d : Dev) {a : Nat} (n : Nat) (h : P a) : Dev.Rewrites P d (d.bumpBy a n) :=
  Dev.rewrites_wrN d _ h

/-- A write of LANE_PAT_CTRL rewrites no register but it, LANE_PAT_ERR and LANE_STATUS. -/
theorem Dev.rewrites_writePat (d : Dev) (l : LaneId) (v : Nat) :
    Dev.Rewrites (· ∈ [rLANE_PAT_CTRL (laneBase l), rLANE_PAT_ERR (laneBase l), rLANE_STATUS (laneBase l)]) d (d.writePat l v) := by
  have hstore : Dev.Rewrites (· ∈ [rLANE_PAT_CTRL (laneBase l), rLANE_PAT_ERR (laneBase l), rLANE_STATUS (laneBase l)]) d
    (d.access (rLANE_PAT_CTRL (laneBase l)) v) := d.rewrites_access_of v (by simp)
  unfold Dev.writePat
  refine .ite (hstore.trans ?_) (.ite (hstore.trans ?_) hstore)
  · exact (Dev.rewrites_wrN _ _ (by simp)).trans (Dev.rewrites_put _ _ _ (by simp))
  · exact Dev.rewrites_put _ _ _ (by simp)

/-! DIAG_LANE (R54). -/

/-- The lanes that DIAG_LANE names stand above the mailboxes and the link in the privileged window. -/
theorem laneBase_of_named {kind i : Nat} {l : LaneId} (h : laneNamed kind i = some l) : 0x1000000 ≤ laneBase l := by
  unfold laneNamed at h
  split at h
  · split at h
    · cases h; simp only [laneBase]; omega
    · split at h
      · cases h; simp only [laneBase]; omega
      · split at h
        · cases h; simp only [laneBase]; omega
        · cases h
  · cases h

/-- A report asked for in form passes the checks for its lane. -/
theorem Cmd.diagLaneChecks_report {c : Cmd} {d : Dev} {l : LaneId} (hok : d.laneOk l = true) (haction : c.u8 2 = 0)
    (hflags : c.u8 3 = 0) (hends : c.endsAt 8 = true) : ∀ x ∈ c.diagLaneChecks d l, x.1 = true := by
  have hbasic : nbit 0 0 = false := by decide
  have honly : c.only 3 0x81 = true := by rw [Cmd.only, hflags]; decide
  simp [Cmd.diagLaneChecks, inForm, hok, haction, hflags, hends, hbasic, honly]

/-- The writes of the expert block that its mask selects. -/
def Cmd.diagLaneWrites (c : Cmd) (d : Dev) (l : LaneId) : Dev :=
  (List.range 6).foldl (fun d k =>
    if nbit (c.u8 3) 0 && nbit (c.u8 0x20) k then d.writeLane l (diagLaneRegs.getD k 0) (c.u32 (8 + 4 * k)) else d) d

/-- A request in form: the expert block's writes, then its action. -/
def Cmd.diagLaneRun (c : Cmd) (d : Dev) (l : LaneId) : Dev :=
  let d := c.diagLaneWrites d l
  if c.u8 2 = 2 then c.wait (d.laneCheck l) [c.u8 0, c.u8 1]
  else
    let d := if c.u8 2 = 1 then
      d.writeLane l 0x018 (fieldPut (d.rdN (rLANE_TRAIN_CTRL (laneBase l))) fLANE_TRAIN_CTRL_RETRAIN 1) else d
    c.ok d (d.laneReport l)

/-- The command as a whole. -/
def Cmd.diagLane (c : Cmd) (d : Dev) : Dev :=
  match laneNamed (c.u8 0) (c.u8 1) with
  | none => c.checks d [c.mustOwn, inForm false] (fun d => d)
  | some l => c.checks d (c.mustOwn :: c.diagLaneChecks d l) (fun d => c.diagLaneRun d l)

theorem exec_diagLane (m : Fin 64) (s : State) : exec (.diagLane m) s = s.run (fun d => d.command m.val 0x0C01 Cmd.diagLane) := by
  rfl

section
variable {c : Cmd} {l : LaneId} (d : Dev)

/-- Without the expert block nothing is written. -/
theorem Cmd.diagLaneWrites_none (hflags : c.u8 3 = 0) : c.diagLaneWrites d l = d := by
  have hbasic : nbit (c.u8 3) 0 = false := by rw [hflags]; decide
  exact foldl_eq_self fun k _ => by rw [hbasic, Bool.false_and]; exact if_neg Bool.false_ne_true

/-- Action 0 without the expert block answers with the report, and does nothing else. -/
theorem Cmd.diagLane_report (hown : c.isOwner = true) (hnamed : laneNamed (c.u8 0) (c.u8 1) = some l) (hok : d.laneOk l = true)
    (haction : c.u8 2 = 0) (hflags : c.u8 3 = 0) (hends : c.endsAt 8 = true) :
    c.diagLane d = d.finish c.mbx 0 (d.laneReport l) := by
  have hchecks : ∀ x ∈ c.mustOwn :: c.diagLaneChecks d l, x.1 = true :=
    List.forall_mem_cons.mpr ⟨hown, Cmd.diagLaneChecks_report hok haction hflags hends⟩
  have hrun : c.diagLaneRun d l = c.ok d (d.laneReport l) := by
    rw [Cmd.diagLaneRun, Cmd.diagLaneWrites_none d hflags, haction, if_neg (by decide), if_neg (by decide)]
  simp only [Cmd.diagLane, hnamed]
  rw [Cmd.checks_pass c d hchecks, hrun, Cmd.ok, resOk]

end

/-- A lane's report is three words. -/
theorem Dev.length_laneReport (d : Dev) (l : LaneId) : (d.laneReport l).length = 12 := by
  simp only [Dev.laneReport, List.length_append, length_leB]

section
variable (s : State) (d : Dev) (m : Fin 64) (r : Nat) (resp : List Byte) {l : LaneId}

/-- A command finished and delivered leaves what lanes keep beside their registers alone. -/
theorem laneX_deliver_finish (k : Nat) : (deliver { s with dev := d.finish m.val r resp }).dev.laneX k = d.laneX k := by
  rw [Dev.laneX, deliver_lanes, Dev.finish_lanes, ← Dev.laneX]

/-- It leaves LANE_CTRL of the lanes that DIAG_LANE names alone. -/
theorem get_deliver_finish_laneCtrl (h : 0x1000000 ≤ laneBase l) (f : Fld) :
    (deliver { s with dev := d.finish m.val r resp }).dev.get (rLANE_CTRL (laneBase l)) f = d.get (rLANE_CTRL (laneBase l)) f := by
  have hm := m.isLt
  rw [deliver_get, Dev.get_congr (Dev.rd_finish d m.val r resp ?link ?status ?info)]
  case link => simp only [rLANE_CTRL, rGLK_CNT]; omega
  case status => simp only [rLANE_CTRL, rMBX_STATUS]; omega
  case info => simp only [rLANE_CTRL, rMBX_INFO]; omega

end

/-- The wrong bits counted stand in no register that is reported before them. -/
theorem Dev.laneReport_bumpBy (d : Dev) (l : LaneId) (n : Nat) :
    (d.bumpBy (rLANE_PAT_ERR (laneBase l)) n).laneReport l = d.laneReport l := by
  rw [Dev.laneReport, Dev.laneReport, Dev.bumpBy, Dev.rdN_wrN_ne _ _ (rLANE_STATUS_ne_PAT_ERR _),
    Dev.rdN_wrN_ne _ _ (rLANE_TXFFE_ne_PAT_ERR _), Dev.rdN_wrN_ne _ _ (rLANE_ERR_ne_PAT_ERR _)]

/-- The device once a check has ended: its wrong bits counted, the loopback and the pattern settings given back. -/
def Dev.checkEnded (d : Dev) (l : LaneId) (errs : Nat) (ctrl pat : Word) : Dev :=
  (((d.bumpBy (rLANE_PAT_ERR (laneBase l)) errs).put (rLANE_CTRL (laneBase l)) fLANE_CTRL_LOOPBACK
    (fieldOf ctrl.toNat fLANE_CTRL_LOOPBACK)).writePat l pat.toNat).updLaneX (laneBase l) (fun x => { x with saved := none })

section
variable (d : Dev) (l : LaneId) (errs : Nat) (ctrl pat : Word)

theorem Dev.checkEnded_loopback : (d.checkEnded l errs ctrl pat).get (rLANE_CTRL (laneBase l)) fLANE_CTRL_LOOPBACK =
    fieldOf ctrl.toNat fLANE_CTRL_LOOPBACK := by
  rw [Dev.checkEnded, Dev.get_updLaneX, Dev.get_congr ((Dev.rewrites_writePat ..).rd _ (by simp)), Dev.get_put_same _ _ _ (by decide)]
  exact Nat.mod_mod ..

theorem Dev.checkEnded_saved : ((d.checkEnded l errs ctrl pat).laneX (laneBase l)).saved = none := by
  rw [Dev.checkEnded, Dev.laneX_updLaneX_same]

theorem Dev.laneStep_checkEnded : Dev.LaneStep (fun _ => True) d (d.checkEnded l errs ctrl pat) := by
  unfold Dev.checkEnded
  exact (((Dev.rewrites_bumpBy d errs trivial).trans (Dev.rewrites_put _ _ _ trivial)).trans
    ((Dev.rewrites_writePat _ l _).mono (fun _ _ => trivial))).laneStep.trans (Dev.laneStep_updLaneX ..)

end

/-- What a check answers: the report, and LANE_PAT_ERR with its wrong bits counted. -/
def Dev.checkReport (d : Dev) (l : LaneId) (errs : Nat) : List Byte :=
  d.laneReport l ++ leB 4 ((d.bumpBy (rLANE_PAT_ERR (laneBase l)) errs).rdN (rLANE_PAT_ERR (laneBase l)))

/-- The end of a check that mailbox `m` waits for. -/
def Dev.diagLaneCheckEnd (d : Dev) (m errs : Nat) : Dev :=
  match (d.waiting 0x0C01).find? (fun c => c.mbx == m) with
  | none => d
  | some c =>
    match laneNamed (c.note.getD 0 0) (c.note.getD 1 0) with
    | none => d
    | some l =>
      let b := laneBase l
      let d := d.bumpBy (rLANE_PAT_ERR b) errs
      let resp := d.laneReport l ++ leB 4 (d.rdN (rLANE_PAT_ERR b))
      let d := match (d.laneX b).saved with
        | some (ctrl, pat) =>
          let d := d.put (rLANE_CTRL b) fLANE_CTRL_LOOPBACK (fieldOf ctrl.toNat fLANE_CTRL_LOOPBACK)
          d.writePat l pat.toNat
        | none => d
      c.ok (d.updLaneX b (fun x => { x with saved := none })) resp

theorem exec_diagLaneCheckEnd (m : Fin 64) (errs : Nat) (s : State) :
    exec (.diagLaneCheckEnd m errs) s = s.run (fun d => d.diagLaneCheckEnd m.val errs) := by rfl

/-- A check that runs ends and is answered. -/
theorem Dev.diagLaneCheckEnd_answers {d : Dev} {m : Nat} {c : Cmd} {l : LaneId} (errs : Nat) {ctrl pat : Word}
    (hc : (d.waiting 0x0C01).find? (fun c => c.mbx == m) = some c)
    (hnamed : laneNamed (c.note.getD 0 0) (c.note.getD 1 0) = some l) (hsaved : (d.laneX (laneBase l)).saved = some (ctrl, pat)) :
    d.diagLaneCheckEnd m errs = (d.checkEnded l errs ctrl pat).finish m 0 (d.checkReport l errs) := by
  have hmbx : c.mbx = m := by simpa using List.find?_some hc
  have hsaved' : ((d.bumpBy (rLANE_PAT_ERR (laneBase l)) errs).laneX (laneBase l)).saved = some (ctrl, pat) := by
    rw [Dev.bumpBy, Dev.laneX_wrN]; exact hsaved
  simp only [Dev.diagLaneCheckEnd, hc, hnamed, hsaved']
  rw [Cmd.ok, hmbx, Dev.laneReport_bumpBy, resOk, Dev.checkEnded, Dev.checkReport]

/-- Settles O8: each of the lane's tools by what its lemma says it shows, and by what a lane's change leaves alone. -/
theorem laneScanPatternAndSlip : Obligations.LaneScanPatternAndSlip := by
  unfold Obligations.LaneScanPatternAndSlip
  refine ⟨?slip, ?slipDone, ?scan, ?scanDone, ?lock, ?lockLost, ?report, ?checkEnd⟩
  case slip =>
    intro s l val hs hok hv hfree
    have hstep := s.start.laneStep_slipping l
    exact ⟨_, (exec_laneSlip l val s).trans (State.run_laneStep hs (Dev.writeSlip_begins hok hv hfree) hstep),
      s.start.slipping_busy l, s.start.slipping_slip l, State.onlyChanges_of_laneStep hstep⟩
  case slipDone =>
    intro s l hs
    have hput := s.start.rewrites_put fLANE_STATUS_SLIP_BUSY 0 (List.mem_singleton_self (rLANE_STATUS (laneBase l)))
    exact ⟨_, (exec_slipDone l s).trans (State.run_rewrites hs rfl hput), Dev.bit_clear_same _ _ (by decide),
      State.onlyChanges_of_rewrites hput⟩
  case scan =>
    intro s l val hs hok hv hfree
    exact ⟨_, (exec_escanStart l val s).trans (State.run_laneStep hs (Dev.writeEscan_begins hok hv hfree)
      (s.start.laneStep_scanning l val.toNat)), s.start.scanning_flags l val.toNat⟩
  case scanDone =>
    intro s l count hs hl hscan
    obtain ⟨hended, hres, hstart, hdone⟩ := s.start.endScan_shows l count.toNat
    exact ⟨_, escanDone_ends hs hl hscan, hended, hres.trans (by rw [BitVec.ofNat_toNat, BitVec.setWidth_eq]), hstart, hdone,
      State.onlyChanges_of_laneStep (s.start.laneStep_endScan l count.toNat)⟩
  case lock =>
    intro s l hs hen
    rw [exec_patLock]
    exact State.run_marks hs rfl (by decide) (if_pos hen)
  case lockLost =>
    intro s l errs hs hlock
    have hlost : Dev.Rewrites (· ∈ [rLANE_STATUS (laneBase l), rLANE_PAT_ERR (laneBase l)]) s.start
        ((s.start.bumpBy (rLANE_PAT_ERR (laneBase l)) errs).put (rLANE_STATUS (laneBase l)) fLANE_STATUS_PAT_LOCK 0) :=
      (Dev.rewrites_bumpBy _ _ (by simp)).trans (Dev.rewrites_put _ _ _ (by simp))
    refine ⟨_, (exec_patLockLost l errs s).trans (State.run_rewrites hs (if_pos hlock) hlost), Dev.bit_clear_same _ _ (by decide),
      ?_, State.onlyChanges_of_rewrites hlost⟩
    rw [Dev.rdN_put_ne _ _ _ (rLANE_PAT_ERR_ne_STATUS _), Dev.rdN_bumpBy_same]
    rfl
  case report =>
    intro s m c l h hown hnamed hok haction hflags hends
    have hbody := (Cmd.diagLane_report s.start hown hnamed hok haction hflags hends).trans (by rw [h.2.1])
    obtain ⟨t, hrun, hdone, honly⟩ := State.run_query h hbody (by decide) (by rw [Dev.length_laneReport]; decide)
    exact ⟨t, (exec_diagLane m s).trans hrun, honly, hdone⟩
  case checkEnd =>
    intro s m c l errs ctrl pat hs hc hnamed hsaved
    have hend := Dev.diagLaneCheckEnd_answers (d := s.start) errs hc hnamed hsaved
    have hstep := s.start.laneStep_checkEnded l errs ctrl pat
    have hexec := ((exec_diagLaneCheckEnd m errs s).trans (State.run_of_runs hs _)).trans
      (congrArg (fun e => Host.Outcome.next (deliver { s with dev := e })) hend)
    refine ⟨_, _, hexec, s.start.rdN_bumpBy_same (rLANE_PAT_ERR (laneBase l)) errs,
      done_finish (hstep.replies.trans hs.2.1) (hstep.wipes.trans hs.2.2) (by decide) ?_, ?_, ?_⟩
    · rw [Dev.checkReport, List.length_append, Dev.length_laneReport, length_leB]; decide
    · rw [laneX_deliver_finish]
      exact s.start.checkEnded_saved l errs ctrl pat
    · exact (get_deliver_finish_laneCtrl _ _ _ _ _ (laneBase_of_named hnamed) _).trans (s.start.checkEnded_loopback l errs ctrl pat)

end Sys2Proof.Machine

/-! The burst receiver's preset access, burst profiles, per-terminal scans and counters (04_burst_rx.md R101, R123-R129), and the
failure of a rogue search (05_activation.md R148). -/

namespace Sys2Proof.Machine

/-! Preset access (R101). -/

theorem exec_brxPresetAccess (k : Fin 48) (val : Word) (s : State) :
    exec (.brxPresetAccess k val) s = s.run (fun d => if d.treeOk k.val then d.writePresetCmd k.val val.toNat else d) := by rfl

/-- The registers of a tree that preset access writes beside BRX_ERR: the command and the data words. -/
def inPresetRegs (t a : Nat) : Prop := a = rBRX_PRESET_CMD t ∨ ∃ i, a = rBRX_PRESET_DATA t i

/-- The device with the command's WRITE and TERM stored. -/
def Dev.presetNamed (d : Dev) (t v : Nat) : Dev :=
  (d.put (rBRX_PRESET_CMD t) fBRX_PRESET_CMD_WRITE (fieldOf v fBRX_PRESET_CMD_WRITE)).put (rBRX_PRESET_CMD t) fBRX_PRESET_CMD_TERM
    (fieldOf v fBRX_PRESET_CMD_TERM)

/-- The device with the first `n` words of a preset record in the data words. -/
def Dev.presetShown (d : Dev) (t h n : Nat) : Dev :=
  (List.range n).foldl (fun d i => d.wrN (rBRX_PRESET_DATA t i) (leAt (d.preset h).image (4 * i) 4)) d

section
variable (d : Dev) (t v h : Nat)

theorem Dev.rewrites_presetNamed {P : Nat → Prop} (hP : P (rBRX_PRESET_CMD t)) : Dev.Rewrites P d (d.presetNamed t v) :=
  (Dev.rewrites_put d _ _ hP).trans (Dev.rewrites_put _ _ _ hP)

@[simp] theorem Dev.preset_presetNamed : (d.presetNamed t v).preset h = d.preset h := by
  rw [Dev.presetNamed, Dev.preset_put, Dev.preset_put]

@[simp] theorem Dev.findTerm_presetNamed (id : Nat) : (d.presetNamed t v).findTerm t id = d.findTerm t id := by
  simp only [Dev.findTerm, Dev.presetNamed, Dev.put_cat]

theorem Dev.rewrites_presetShown (n : Nat) : Dev.Rewrites (inPresetRegs t) d (d.presetShown t h n) :=
  .foldl (fun d i _ => Dev.rewrites_wrN d _ (.inr ⟨i, rfl⟩)) d

theorem Dev.Rewrites.presets {P : Nat → Prop} {d e : Dev} (h : Dev.Rewrites P d e) : e.presets = d.presets :=
  (congrArg Dev.presets h.rest).trans rfl

/-- Data word `i` holds word `i` of the record: the words written after it stand at other addresses. -/
theorem Dev.rd_presetShown {i n : Nat} (hi : i < n) :
    (d.presetShown t h n).rd (rBRX_PRESET_DATA t i) = BitVec.ofNat 32 (leAt (d.preset h).image (4 * i) 4) := by
  induction n with
  | zero => exact absurd hi (Nat.not_lt_zero i)
  | succ n ih =>
    have hlast : d.presetShown t h (n + 1) =
        (d.presetShown t h n).wrN (rBRX_PRESET_DATA t n) (leAt ((d.presetShown t h n).preset h).image (4 * n) 4) := by
      rw [Dev.presetShown, List.range_succ, List.foldl_append]
      rfl
    have hpreset : (d.presetShown t h n).preset h = d.preset h :=
      congrArg (sget noPreset · h) (d.rewrites_presetShown t h n).presets
    rw [hlast, hpreset]
    by_cases heq : i = n
    · rw [heq, Dev.rd_wrN_same]
    · rw [Dev.rd_wrN_ne _ _ (by simp only [rBRX_PRESET_DATA]; omega), ih (by omega)]

end

section
variable {d : Dev} {t v : Nat}

/-- GO with no terminal of the ID stores WRITE and TERM and marks the error. -/
theorem Dev.writePresetCmd_unknown (hgo : nbit v 30 = true) (hterm : d.findTerm t (fieldOf v fBRX_PRESET_CMD_TERM) = none) :
    d.writePresetCmd t v = (d.presetNamed t v).mark (rBRX_ERR t) fBRX_ERR_NO_TERM := by
  have hterm' : (d.presetNamed t v).findTerm t (fieldOf v fBRX_PRESET_CMD_TERM) = none :=
    (d.findTerm_presetNamed t v _).trans hterm
  simp only [Dev.presetNamed] at hterm' ⊢
  simp only [Dev.writePresetCmd, hgo, hterm', if_true]

/-- GO without WRITE shows the terminal's record. -/
theorem Dev.writePresetCmd_reads {h : Nat} (hgo : nbit v 30 = true) (hread : nbit v 29 = false)
    (hterm : d.findTerm t (fieldOf v fBRX_PRESET_CMD_TERM) = some h) :
    d.writePresetCmd t v = (d.presetNamed t v).presetShown t h 16 := by
  have hterm' : (d.presetNamed t v).findTerm t (fieldOf v fBRX_PRESET_CMD_TERM) = some h :=
    (d.findTerm_presetNamed t v _).trans hterm
  simp only [Dev.presetNamed] at hterm' ⊢
  simp only [Dev.writePresetCmd, hgo, hread, hterm', if_true, Bool.false_eq_true, if_false, Dev.presetShown]

end

/-! Burst profiles (R125). -/

theorem exec_brxProfWrite (k : Fin 48) (i : Fin 4) (val : Word) (s : State) : exec (.brxProfWrite k i val) s =
    s.run (fun d => if d.treeOk k.val then d.writeProf k.val i.val val.toNat else d) := by rfl

/-! Scans of a tree (R123, R128). -/

theorem Dev.LaneStep.glk {P : Nat → Prop} {d e : Dev} (h : Dev.LaneStep P d e) : e.glk = d.glk :=
  (congrArg Dev.glk h.rest).trans rfl

/-- A change of a lane that writes neither register of the tick count leaves it alone. -/
theorem Dev.LaneStep.tickNow {P : Nat → Prop} {d e : Dev} (h : Dev.LaneStep P d e) (hlo : ¬P rTICK_COUNT_LO)
    (hhi : ¬P rTICK_COUNT_HI) : e.tickNow = d.tickNow := by
  rw [Dev.tickNow, Dev.tickNow, Dev.rd64, Dev.rd64, Dev.rdN_congr (h.rd _ hlo), Dev.rdN_congr (h.rd _ hhi)]

/-- The device once a tree's scan has run out of its LIMIT. -/
def Dev.scanTimedOut (d : Dev) (k : Fin 48) (count : Nat) : Dev :=
  (d.endScan (.tree k) count).mark (rBRX_ESCAN_STAT k.val) fBRX_ESCAN_STAT_TIMEOUT

/-- The registers that the end of a tree's scan by its LIMIT writes. -/
abbrev scanTimeoutRegs (k : Fin 48) : List Nat :=
  [rLANE_ESCAN_RES (laneBase (.tree k)), rLANE_ESCAN_CTRL (laneBase (.tree k)), rBRX_ESCAN_STAT k.val]

theorem Dev.laneStep_scanTimedOut (d : Dev) (k : Fin 48) (count : Nat) :
    Dev.LaneStep (· ∈ scanTimeoutRegs k) d (d.scanTimedOut k count) := by
  have hend := d.laneStep_endScan (.tree k) count
  refine Dev.LaneStep.trans ⟨fun a ha => hend.rd a (mt ?_ ha), hend.rest⟩ (Dev.laneStep_put _ _ _ (by simp))
  exact List.mem_append_left [rBRX_ESCAN_STAT k.val]

/-- A scan run out of its LIMIT has ended with its count, and TIMEOUT is set. -/
theorem Dev.scanTimedOut_shows (d : Dev) (k : Fin 48) (count : Nat) :
    ((d.scanTimedOut k count).laneX (laneBase (.tree k))).scan = false ∧
    (d.scanTimedOut k count).rd (rLANE_ESCAN_RES (laneBase (.tree k))) = BitVec.ofNat 32 count ∧
    (d.scanTimedOut k count).bit (rBRX_ESCAN_STAT k.val) fBRX_ESCAN_STAT_TIMEOUT = true := by
  obtain ⟨hended, hres, -, -⟩ := d.endScan_shows (.tree k) count
  refine ⟨(congrArg LaneX.scan (Dev.laneX_put ..)).trans hended, (Dev.rd_put_ne _ _ _ ?_).trans hres,
    Dev.bit_mark_same _ _ rfl (by decide)⟩
  simp only [rLANE_ESCAN_RES, laneBase, rBRX_ESCAN_STAT]
  omega

/-- EYESCAN_LIMIT of a scan that has run LIMIT ticks, with no TERM_EYESCAN to answer, ends it. -/
theorem eyescanLimit_ends {s : State} {k : Fin 48} (count : Word) (hs : s.Runs)
    (hscan : (s.dev.laneX (laneBase (.tree k))).scan = true) (hlimit : s.dev.get (rBRX_ESCAN_SEL k.val) fBRX_ESCAN_SEL_LIMIT ≠ 0)
    (hdue : (s.dev.laneX (laneBase (.tree k))).scanTick + s.dev.get (rBRX_ESCAN_SEL k.val) fBRX_ESCAN_SEL_LIMIT ≤ s.dev.tickNow)
    (hwait : s.dev.waiting 0x02C1 = []) :
    exec (.eyescanLimit k count) s = .next { s with dev := s.start.scanTimedOut k count.toNat } := by
  have hstep := s.start.laneStep_scanTimedOut k count.toNat
  have hruns : (!(s.start.laneX (laneBase (.tree k))).scan || s.start.get (rBRX_ESCAN_SEL k.val) fBRX_ESCAN_SEL_LIMIT == 0 ||
      decide (s.start.tickNow < (s.start.laneX (laneBase (.tree k))).scanTick +
        s.start.get (rBRX_ESCAN_SEL k.val) fBRX_ESCAN_SEL_LIMIT)) = false := by
    rw [Bool.or_eq_false_iff, Bool.or_eq_false_iff]
    exact ⟨⟨congrArg Bool.not hscan, beq_eq_false_iff_ne.mpr hlimit⟩, decide_eq_false (Nat.not_lt.mpr hdue)⟩
  have hnone : (s.start.scanTimedOut k count.toNat).waiting 0x02C1 = [] := by
    rw [Dev.waiting, hstep.glk]
    exact hwait
  show execEyescanLimit k count s = _
  unfold execEyescanLimit
  refine State.run_laneStep hs ?_ hstep
  simp only [Dev.scanTimedOut] at hnone ⊢
  simp only [hruns, Bool.false_eq_true, if_false, hnone, List.foldl_nil]

/-- LANE_ESCAN_CTRL as TERM_EYESCAN writes it: START, DWELL, EYE, PHASE and THRESH of the request (R128). -/
def Cmd.escanCtrl (c : Cmd) : Nat := 2 ^ 30 + c.u8 6 % 16 * 2 ^ 26 + c.u8 5 % 4 * 2 ^ 24 + c.u8 8 * 2 ^ 16 + c.u8 7 % 64

/-- A byte of a request is below 256. -/
theorem Cmd.u8_lt (c : Cmd) (i : Nat) : c.u8 i < 256 := (c.req.getD i 0#8).isLt

/-- The word always holds START: the fields below it do not reach bit 30. -/
theorem Cmd.escanCtrl_start (c : Cmd) : nbit c.escanCtrl 30 = true := by
  have hphase := c.u8_lt 8
  have hquot : c.escanCtrl / 2 ^ 30 = 1 := by unfold Cmd.escanCtrl; omega
  rw [nbit, hquot]
  rfl

/-- The device with the terminal, slot and LIMIT of a TERM_EYESCAN selected. -/
def Cmd.escanSelected (c : Cmd) (d : Dev) (t : Nat) : Dev :=
  d.wrN (rBRX_ESCAN_SEL t) (2 ^ 31 + c.u8 4 * 2 ^ 26 + c.u16 2 % 1024 * 2 ^ 16 + c.u16 9)

/-- A write of LANE_ESCAN_CTRL with START while no scan runs begins one. -/
theorem Dev.writeEscan_scans {d : Dev} {l : LaneId} {v : Nat} (hv : nbit v 30 = true) (hfree : (d.laneX (laneBase l)).scan = false) :
    d.writeEscan l v = d.scanning l v := by
  rw [Dev.writeEscan, hfree, hv]
  rfl

/-- The registers from the trees' blocks on (00_scope.md R2): the tick count is none of them. -/
abbrev fromTrees (a : Nat) : Prop := 0x1000000 ≤ a

/-- A tree's scan begun shows the tick it began at. -/
theorem Dev.scanning_scanTick (d : Dev) (k : Fin 48) (v : Nat) :
    ((d.scanning (.tree k) v).laneX (laneBase (.tree k))).scanTick = d.tickNow := by
  have hctrl : fromTrees (rLANE_ESCAN_CTRL (laneBase (.tree k))) := by simp only [fromTrees, rLANE_ESCAN_CTRL, laneBase]; omega
  have hstat : fromTrees (rBRX_ESCAN_STAT k.val) := by simp only [fromTrees, rBRX_ESCAN_STAT]; omega
  have hflagged : Dev.LaneStep fromTrees d (d.scanFlagged (.tree k) v) :=
    (((Dev.laneStep_access d _ hctrl).trans (Dev.laneStep_put _ _ _ hctrl)).trans (Dev.laneStep_put _ _ _ hctrl)).trans
      (Dev.laneStep_wrN _ _ hstat)
  rw [Dev.scanning, Dev.laneX_updLaneX_same]
  exact hflagged.tickNow (by decide) (by decide)

/-- The device once TERM_EYESCAN has begun its scan. -/
def Cmd.escanBegun (c : Cmd) (d : Dev) (k : Fin 48) : Dev := (c.escanSelected d k.val).scanning (.tree k) c.escanCtrl

theorem Cmd.laneStep_escanBegun (c : Cmd) (d : Dev) (k : Fin 48) : Dev.LaneStep (fun _ => True) d (c.escanBegun d k) :=
  (Dev.laneStep_wrN d _ trivial).trans (Dev.laneStep_scanning _ _ _)

/-- The scan runs, from the present tick on. -/
theorem Cmd.escanBegun_shows (c : Cmd) (d : Dev) (k : Fin 48) : ((c.escanBegun d k).laneX (laneBase (.tree k))).scan = true ∧
    ((c.escanBegun d k).laneX (laneBase (.tree k))).scanTick = d.tickNow := by
  have hselected : Dev.LaneStep fromTrees d (c.escanSelected d k.val) :=
    Dev.laneStep_wrN d _ (by simp only [fromTrees, rBRX_ESCAN_SEL]; omega)
  obtain ⟨hscans, -, -⟩ := (c.escanSelected d k.val).scanning_flags (.tree k) c.escanCtrl
  exact ⟨hscans, (Dev.scanning_scanTick ..).trans (hselected.tickNow (by decide) (by decide))⟩

section
variable (c : Cmd) (d : Dev) (note : List Nat)

@[simp] theorem Cmd.wait_replies : (c.wait d note).replies = d.replies := (rfl)
@[simp] theorem Cmd.wait_wipes : (c.wait d note).wipes = d.wipes := (rfl)
@[simp] theorem Cmd.laneX_wait (k : Nat) : (c.wait d note).laneX k = d.laneX k := (rfl)

end

/-- A command that waits stands in its mailbox, begun and with its note. -/
theorem Cmd.wait_stands {c : Cmd} {d : Dev} (note : List Nat) (h : c ∈ d.glk.cmds) :
    { c with started := true, note := note } ∈ (c.wait d note).glk.cmds :=
  List.mem_map.mpr ⟨c, h, if_pos rfl⟩

/-- TERM_EYESCAN in form, of a terminal of the tree, starts the scan and waits for its end. -/
theorem termEyescan_starts {s : State} {m : Fin 64} {c : Cmd} {k : Fin 48} (h : s.Ready m 0x02C1 c) (hown : c.isOwner = true)
    (htree : c.u8 0 = k.val)
    (hform : (s.dev.treeOk k.val && c.zero 1 1 && decide (c.u8 4 < 4) && decide (c.u8 5 < 4) && decide (c.u8 6 < 16) &&
      decide (-32 ≤ c.s8 7) && decide (c.s8 7 < 32) && c.endsAt 11) = true)
    (hterm : (s.dev.findTerm k.val (c.u16 2)).isSome = true) (hfree : (s.dev.laneX (laneBase (.tree k))).scan = false) :
    exec (.termEyescan m) s = .next { s with dev := c.wait (c.escanBegun s.start k) [k.val] } := by
  have hstep := c.laneStep_escanBegun s.start k
  have hlane : (⟨k.val % 48, Nat.mod_lt _ (by decide)⟩ : Fin 48) = k := Fin.ext (Nat.mod_eq_of_lt k.isLt)
  have hbegun : (c.escanSelected s.start k.val).writeEscan (.tree k) c.escanCtrl = c.escanBegun s.start k :=
    Dev.writeEscan_scans c.escanCtrl_start ((congrArg LaneX.scan (Dev.laneX_wrN ..)).trans hfree)
  have hreplies : (c.wait (c.escanBegun s.start k) [k.val]).replies = [] := (c.wait_replies ..).trans (hstep.replies.trans h.1.2.1)
  have hwipes : (c.wait (c.escanBegun s.start k) [k.val]).wipes = [] := (c.wait_wipes ..).trans (hstep.wipes.trans h.1.2.2)
  show execTermEyescan m s = _
  unfold execTermEyescan
  rw [State.run_command h]
  simp only [htree, hlane]
  rw [Cmd.checks_pass, ← deliver_none (s := { s with dev := c.wait (c.escanBegun s.start k) [k.val] }) hreplies hwipes, ← hbegun]
  · rfl
  · intro x hx
    simp only [List.mem_cons, List.not_mem_nil, or_false] at hx
    rcases hx with rfl | rfl | rfl | rfl
    · exact hown
    · exact hform
    · exact hterm
    · exact congrArg Bool.not hfree

/-! The receiver's counters (R129). -/

/-- What TREE_BRX_COUNTERS answers: the tree's sixteen counters, four bytes each. -/
def Dev.brxCounters (d : Dev) (t : Nat) : List Byte := (List.range 16).flatMap (fun i => leB 4 (d.rdN (rBRX_CNT t i)))

theorem Dev.length_brxCounters (d : Dev) (t : Nat) : (d.brxCounters t).length = 64 := by
  simp only [Dev.brxCounters, List.length_flatMap, length_leB]
  rfl

/-- TREE_BRX_COUNTERS in its basic form answers with the counters and does nothing else. -/
theorem treeBrxCounters_answers {s : State} {m : Fin 64} {c : Cmd} (h : s.Ready m 0x0104 c)
    (hrights : ∀ n, c.caller = some n → s.dev.ownsOn n (c.u8 0) = true) (hok : s.dev.treeOk (c.u8 0) = true) (hbasic : c.u8 1 = 0)
    (hends : c.endsAt 2 = true) :
    ∃ t, exec (.treeBrxCounters m) s = .next t ∧ t.Done m 0 (s.dev.brxCounters (c.u8 0)) ∧ s.OnlyAnswers t m := by
  have hflag : nbit (c.u8 1) 0 = false := by rw [hbasic]; rfl
  have hmayRead : (c.treeRights s.start (c.u8 0)).1 = true := by
    unfold Cmd.treeRights
    split
    next => rfl
    next n hn => exact hrights n hn
  have honly : c.only 1 1 = true := by rw [Cmd.only, hbasic]; rfl
  refine State.run_query h ?_ (by decide) (by rw [Dev.length_brxCounters]; decide)
  simp only
  rw [Cmd.checks_pass]
  · simp only [hflag, Bool.false_eq_true, if_false, Cmd.ok, h.2.1]
    rfl
  · intro x hx
    simp only [List.mem_cons, List.not_mem_nil, or_false] at hx
    rcases hx with rfl | rfl | rfl
    · exact hmayRead
    · simp [hflag]
    · have hok' : s.start.treeOk (c.u8 0) = true := hok
      exact Bool.and_eq_true_iff.mpr ⟨Bool.and_eq_true_iff.mpr ⟨hok', honly⟩, hends⟩

/-! The rogue search (05_activation.md R148). -/

theorem exec_rogueSearchStep (k : Fin 48) (s : State) : exec (.rogueSearchStep k) s = s.run (fun d => d.searchStep k.val) := by rfl

/-- A search that has waited its time for light without any ends unresolved. -/
theorem Dev.searchStep_dark {d : Dev} {t : Nat} {x : Search} (hx : (d.actT t).search = some x) (hphase : x.phase = .light)
    (hdark : x.lit = false) (hdue : x.until_ ≤ d.tickNow) : d.searchStep t = d.searchFail t := by
  simp only [Dev.searchStep, hx, hphase, hdark, decide_eq_true hdue, Bool.false_eq_true, if_false, if_true]

section
variable (d : Dev) (t : Nat)

/-- A failed search is gone, and the rest of what activation keeps for the tree stands. -/
theorem Dev.actT_searchFail : (d.searchFail t).actT t = { d.actT t with search := none } := by
  rw [Dev.searchFail, Dev.actT, Dev.alert_actTrees, ← Dev.actT, Dev.actT_put, Dev.actT_updActT_same]

/-- ACT_STATUS.SEARCH shows the failure. -/
theorem Dev.searchFail_shows : (d.searchFail t).get (rACT_STATUS t) fACT_STATUS_SEARCH = 3 := by
  have hapart : rACT_STATUS t ∉ alertRegs := by
    simp only [alertRegs, List.mem_cons, List.not_mem_nil, or_false, rACT_STATUS, rGLK_CNT, rGLK_ERR, rGLK_ALERT_SEQ, rGLK_STATUS,
      rPIN_STATUS]
    omega
  rw [Dev.searchFail, Dev.get_congr (Dev.rd_alert _ _ _ hapart), Dev.get_put_same _ _ _ (by decide)]
  rfl

theorem Dev.searchFail_quiet : (d.searchFail t).replies = d.replies ∧ (d.searchFail t).wipes = d.wipes := by
  rw [Dev.searchFail, Dev.alert_replies, Dev.alert_wipes, Dev.put_replies, Dev.put_wipes]
  exact ⟨rfl, rfl⟩

end

/-- Settles O13: each of the six operations by the device that it leaves, and by what that device shows. -/
theorem presetsAndProfiles : Obligations.PresetsAndProfiles := by
  unfold Obligations.PresetsAndProfiles
  refine ⟨?preset, ?profile, ?limit, ?eyescan, ?counters, ?search⟩
  case preset =>
    intro s k val hs hok hgo hread
    refine ⟨fun h hterm => ?_, fun hterm => ?_⟩
    · have hshown : Dev.Rewrites (inPresetRegs k.val) s.start ((s.start.presetNamed k.val val.toNat).presetShown k.val h 16) :=
        (Dev.rewrites_presetNamed _ _ _ (.inl rfl)).trans (Dev.rewrites_presetShown _ _ _ _)
      exact ⟨_, (exec_brxPresetAccess k val s).trans
        (State.run_rewrites hs ((if_pos hok).trans (Dev.writePresetCmd_reads hgo hread hterm)) hshown),
        fun i hi => (Dev.rd_presetShown _ _ _ hi).trans (by rw [Dev.preset_presetNamed]; rfl), hshown.presets⟩
    · have hmarked : Dev.Rewrites (· ∈ [rBRX_PRESET_CMD k.val, rBRX_ERR k.val]) s.start
          ((s.start.presetNamed k.val val.toNat).mark (rBRX_ERR k.val) fBRX_ERR_NO_TERM) :=
        (Dev.rewrites_presetNamed _ _ _ (by simp)).trans (Dev.rewrites_mark _ _ (by simp))
      exact ⟨_, (exec_brxPresetAccess k val s).trans
        (State.run_rewrites hs ((if_pos hok).trans (Dev.writePresetCmd_unknown hgo hterm)) hmarked),
        Dev.bit_mark_same _ _ rfl (by decide), State.onlyChanges_of_rewrites hmarked⟩
  case profile =>
    intro s k i val hs hok
    refine ⟨fun hoff => ?_, fun hon => ?_⟩
    · have hstored := Dev.rewrites_access_of s.start val.toNat (List.mem_singleton_self (rBRX_PROF k.val i.val))
      have hoff' : ¬s.start.treeEn k.val = true := ne_true_of_eq_false hoff
      exact ⟨_, (exec_brxProfWrite k i val s).trans (State.run_rewrites hs ((if_pos hok).trans (if_neg hoff')) hstored),
        Dev.rdN_access_same .., State.onlyChanges_of_rewrites hstored⟩
    · rw [exec_brxProfWrite]
      exact State.run_marks hs rfl (by decide) ((if_pos hok).trans (if_pos hon))
  case limit =>
    intro s k count hs hscan hlimit hdue hwait
    obtain ⟨hended, hres, htimeout⟩ := s.start.scanTimedOut_shows k count.toNat
    exact ⟨_, eyescanLimit_ends count hs hscan hlimit hdue hwait, hended,
      hres.trans (by rw [BitVec.ofNat_toNat, BitVec.setWidth_eq]), htimeout,
      State.onlyChanges_of_laneStep (s.start.laneStep_scanTimedOut k count.toNat)⟩
  case eyescan =>
    intro s m c k h hown htree hok hzero hslot heye hdwell hlow hhigh hends hterm hfree
    have hstands : c ∈ (c.escanBegun s.start k).glk.cmds := by
      rw [(c.laneStep_escanBegun s.start k).glk]
      exact List.mem_of_find?_eq_some h.2.2.1
    have hexec := termEyescan_starts h hown htree (by simp [hok, hzero, hslot, heye, hdwell, hlow, hhigh, hends]) hterm hfree
    obtain ⟨hscans, htick⟩ := c.escanBegun_shows s.start k
    exact ⟨_, hexec, (congrArg LaneX.scan (c.laneX_wait ..)).trans hscans, (congrArg LaneX.scanTick (c.laneX_wait ..)).trans htick,
      _, Cmd.wait_stands [k.val] hstands, h.2.1, rfl, rfl⟩
  case counters =>
    intro s m c h hrights hok hbasic hends
    obtain ⟨t, hexec, hdone, honly⟩ := treeBrxCounters_answers h hrights hok hbasic hends
    exact ⟨t, hexec, honly, hdone⟩
  case search =>
    intro s k x hs hx hphase hdark hdue
    obtain ⟨hreplies, hwipes⟩ := s.start.searchFail_quiet k.val
    have hgone := s.start.actT_searchFail k.val
    exact ⟨_, (exec_rogueSearchStep k s).trans (State.run_next hs (Dev.searchStep_dark hx hphase hdark hdue)
      (hreplies.trans hs.2.1) (hwipes.trans hs.2.2)), congrArg ActTree.search hgone, s.start.searchFail_shows k.val, hgone⟩

end Sys2Proof.Machine

/-! Activation: what the shared updates leave alone of the terminals' activation states, the terminal's transitions, and the events
of a tree's terminals (05_activation.md R134, R135, R140, R142, R151). -/

namespace Sys2Proof.Machine

/-! What a repeated or a conditional change keeps. -/

/-- What each step of a fold keeps, the fold keeps. -/
theorem foldl_keeps {α β γ : Type} (g : α → γ) {f : α → β → α} (h : ∀ a x, g (f a x) = g a) (l : List β) (a : α) :
    g (l.foldl f a) = g a := by
  induction l generalizing a with
  | nil => rfl
  | cons x l ih => exact (ih (f a x)).trans (h a x)

/-- What a change keeps, it keeps where it is made on a condition. -/
theorem Dev.when_keeps {γ : Type} (g : Dev → γ) {f : Dev → Dev} (h : ∀ e, g (f e) = g e) (d : Dev) (c : Bool) :
    g (d.when c f) = g d := by
  unfold Dev.when
  split
  · exact h d
  · rfl

/-- An alert on a condition leaves the registers that no alert writes alone. -/
theorem Dev.rd_when_alert (d : Dev) (c : Bool) (code : Nat) (ps : List Byte) {a : Nat} (h : a ∉ alertRegs) :
    (d.when c (fun e => e.alert code ps)).rd a = d.rd a :=
  Dev.when_keeps (Dev.rd · a) (fun e => e.rd_alert code ps h) d c

/-- No register of a tree's activation block is one that an alert writes (R150). -/
theorem act_not_mem_alertRegs {k : Fin 48} {a : Nat} (hlo : 0x1008000 + 0x10000 * k.val ≤ a)
    (hhi : a < 0x1009000 + 0x10000 * k.val) : a ∉ alertRegs := by
  simp only [alertRegs, List.mem_cons, List.not_mem_nil, or_false, rGLK_CNT, rGLK_ERR, rGLK_ALERT_SEQ, rGLK_STATUS, rPIN_STATUS]
  omega

/-! Terminals' activation states stand through every change that is not theirs. -/

theorem Dev.Rewrites.act {P : Nat → Prop} {d e : Dev} (h : Dev.Rewrites P d e) : e.act = d.act :=
  (congrArg Dev.act h.rest).trans rfl

theorem Dev.actOf_congr {d e : Dev} (h : e.act = d.act) (k : Nat) : e.actOf k = d.actOf k := congrArg (sget noActOf · k) h

/-- The registers in which a tree shows its selected terminal and its count of OPERATING (R150). -/
abbrev showTermRegs (t : Nat) : List Nat := [rACT_STATUS t, rACT_TERM_INFO t, rACT_TERM_EQD t]

theorem Dev.rewrites_showTerm (d : Dev) (t : Nat) : Dev.Rewrites (· ∈ showTermRegs t) d (d.showTerm t) := by
  have hwords : ∀ (e : Dev) v w, Dev.Rewrites (· ∈ showTermRegs t) e ((e.wrN (rACT_TERM_INFO t) v).wrN (rACT_TERM_EQD t) w) :=
    fun e v w => (Dev.rewrites_wrN e v (by simp)).trans (Dev.rewrites_wrN _ w (by simp))
  have hcount : ∀ v, Dev.Rewrites (· ∈ showTermRegs t) d (d.put (rACT_STATUS t) fACT_STATUS_OPERATING v) :=
    fun v => Dev.rewrites_put d _ v (by simp)
  unfold Dev.showTerm
  dsimp only
  split
  · exact (hcount _).trans (hwords ..)
  · exact (hcount _).trans (hwords ..)

/-- A PLOAM message queued changes its tree's line alone (03_tree_line.md R60). -/
theorem Dev.queuePloam_eq (d : Dev) (t : Nat) (k : PloamKind) (dest : Nat) (content : List Byte) :
    ∃ x, d.queuePloam t k dest content = { d with trees := x } := by
  unfold Dev.queuePloam
  split
  · exact ⟨_, rfl⟩
  · exact ⟨_, rfl⟩

@[simp] theorem Dev.queuePloam_act (d : Dev) (t : Nat) (k : PloamKind) (dest : Nat) (content : List Byte) :
    (d.queuePloam t k dest content).act = d.act := by
  obtain ⟨x, hx⟩ := d.queuePloam_eq t k dest content
  rw [hx]

@[simp] theorem Dev.bumpBy_act (d : Dev) (a n : Nat) : (d.bumpBy a n).act = d.act := (rfl)
@[simp] theorem Dev.bump_act (d : Dev) (a : Nat) : (d.bump a).act = d.act := (rfl)
@[simp] theorem Dev.updRxT_act (d : Dev) (k : Nat) (f : RxTree → RxTree) : (d.updRxT k f).act = d.act := (rfl)
@[simp] theorem Dev.updPreset_act (d : Dev) (k : Nat) (f : Preset → Preset) : (d.updPreset k f).act = d.act := (rfl)
@[simp] theorem Dev.updLadA_act (d : Dev) (k : Nat) (f : LadAlloc → LadAlloc) : (d.updLadA k f).act = d.act := (rfl)
@[simp] theorem Dev.updLadT_act (d : Dev) (k : Nat) (f : LadTree → LadTree) : (d.updLadT k f).act = d.act := (rfl)
@[simp] theorem Dev.updPair_act (d : Dev) (k : Nat) (f : PairX → PairX) : (d.updPair k f).act = d.act := (rfl)
@[simp] theorem Dev.setIftE_act (d : Dev) (k : Nat) (x : Ift) : (d.setIftE k x).act = d.act := (rfl)
@[simp] theorem Dev.updLineOpt_act (d : Dev) (k : Nat) (f : LineOpt → LineOpt) : (d.updLineOpt k f).act = d.act := (rfl)

section
variable (d : Dev) (t h : Nat)

@[simp] theorem Dev.showTerm_act : (d.showTerm t).act = d.act := (d.rewrites_showTerm t).act

@[simp] theorem Dev.noteTerm_act : (d.noteTerm t h).act = d.act :=
  foldl_keeps Dev.act (fun _ _ => Dev.updLadT_act ..) _ d

@[simp] theorem Dev.withdraw_act : (d.withdraw t h).act = d.act := by
  unfold Dev.withdraw
  split
  · rfl
  · dsimp only
    split
    · rfl
    · rw [Dev.updLadT_act, Dev.bumpBy_act]

@[simp] theorem Dev.dropNotices_act (p : Notice → Bool) : (d.dropNotices p).act = d.act := by
  unfold Dev.dropNotices
  dsimp only
  rw [Dev.put_act]
  split
  · rfl
  · exact Dev.bumpBy_act ..

@[simp] theorem Dev.abandonTune_act : (d.abandonTune t h).act = d.act := by
  unfold Dev.abandonTune
  split
  · split
    · simp only [Dev.showTune, Dev.put_act, Dev.updRxT_act, Dev.updPreset_act]
    · rfl
  · rfl

@[simp] theorem Dev.purgeDescs_act : (d.purgeDescs t).act = d.act := by
  simp only [Dev.purgeDescs, Dev.put_act, Dev.updRxT_act]

@[simp] theorem Dev.deactivate_act : (d.deactivate t h).act = d.act := by
  simp only [Dev.deactivate, Dev.queuePloam_act]

@[simp] theorem Dev.sendLineOpt_act : (d.sendLineOpt h).act = d.act := by
  unfold Dev.sendLineOpt
  dsimp only
  split
  · rfl
  · split
    · rfl
    · exact (Dev.queuePloam_act ..).trans (Dev.updLineOpt_act ..)

@[simp] theorem Dev.startLineOpt_act : (d.startLineOpt h).act = d.act :=
  (Dev.sendLineOpt_act ..).trans (Dev.updLineOpt_act ..)

@[simp] theorem Dev.burstProfiles_act (dest : Nat) : (d.burstProfiles t dest).act = d.act := by
  unfold Dev.burstProfiles
  split
  · rfl
  · exact foldl_keeps Dev.act (fun _ _ => Dev.queuePloam_act ..) _ d

end

/-! Closing in-flight entries (08_ladle_maps.md R249) touches of a terminal only whether a ranging grant of it is open. -/

/-- A terminal's activation state beside whether a ranging grant of it is open (R650). -/
def Dev.actBeside (d : Dev) (h : Nat) : TermAct := { d.actOf h with rangeOpen := false }

theorem Dev.actBeside_congr {d e : Dev} (hact : e.act = d.act) (h : Nat) : e.actBeside h = d.actBeside h := by
  rw [Dev.actBeside, Dev.actBeside, Dev.actOf_congr hact]

theorem Dev.actBeside_rangeClosed (d : Dev) (j h : Nat) :
    (d.updActOf j (fun a => { a with rangeOpen := false })).actBeside h = d.actBeside h := by
  unfold Dev.actBeside
  by_cases heq : h = j
  · rw [heq, Dev.actOf_updActOf_same]
  · rw [Dev.actOf_updActOf_ne _ _ heq]

theorem Dev.actBeside_closeIft (d : Dev) (t e st h : Nat) : (d.closeIft t e st).actBeside h = d.actBeside h := by
  have hlost : ∀ (x : Dev) (c : Bool) k f, (if c then x else x.updLadA k f).actBeside h = x.actBeside h := fun x c k f => by
    split
    · rfl
    · exact Dev.actBeside_congr (x.updLadA_act k f) h
  unfold Dev.closeIft
  dsimp only
  split
  · refine (hlost ..).trans ((Dev.when_keeps (Dev.actBeside · h) (fun x => ?pair) ..).trans
      ((Dev.when_keeps (Dev.actBeside · h) (fun x => ?ranging) ..).trans ?counted))
    case pair => exact Dev.actBeside_congr (x.updPair_act ..) h
    case ranging => exact x.actBeside_rangeClosed _ h
    case counted =>
      refine Dev.actBeside_congr ?_ h
      rw [Dev.updLadT_act, Dev.put_act, Dev.put_act, Dev.bump_act, Dev.setIftE_act]
  · rfl

theorem Dev.actBeside_closeWhere (d : Dev) (t : Nat) (p : Ift → Bool) (h : Nat) :
    (d.closeWhere t p).actBeside h = d.actBeside h :=
  (Dev.actBeside_congr (Dev.purgeDescs_act ..) h).trans
    (foldl_keeps (Dev.actBeside · h) (fun x e => x.actBeside_closeIft t e 2 h) _ d)

/-! Transitions (R134). -/

/-- What an entry to ABSENT leaves of a terminal's activation state (R134, R136). -/
def TermAct.forgotten (a : TermAct) : TermAct := { a with
  lobRun := 0, rt := none, driftLen := 0, driftSum := 0, rangeOpen := false, rangeLost := 0, fineMiss := 0, fineSeen := false
  marginUntil := 0 }

/-- A terminal's activation state as ranging begins on a lane (R134, R650). -/
def TermAct.rangedOn (a : TermAct) (lane : Bool) : TermAct :=
  { a with actLane := lane, viaQuiet := !lane, rangeLost := 0, rangeOpen := false }

section
variable (d : Dev) (h : Nat)

/-- The device with a terminal's state and entry tick set. -/
def Dev.entered (st : TState) : Dev := d.updActOf h (fun a => { a with state := st, entryTick := d.tickNow })

/-- The device with a terminal forgotten, its preset record with it. -/
def Dev.forgotten : Dev := (d.updActOf h TermAct.forgotten).updPreset h Preset.absent

/-- Of a terminal's own activation state a transition sets the state and the entry tick and, on entry to ABSENT, forgets the rest;
what else leaving a state brings does not touch it. -/
theorem Dev.actBeside_setState (st : TState) :
    (d.setState h st).actBeside h = ((d.entered h st).when (st == .absent) (fun e => e.forgotten h)).actBeside h := by
  simp only [Dev.setState]
  refine (Dev.actBeside_congr (Dev.showTerm_act ..) h).trans ?_
  refine (Dev.actBeside_congr (Dev.noteTerm_act ..) h).trans ?_
  refine (Dev.actBeside_congr (Dev.withdraw_act ..) h).trans ?_
  refine (Dev.when_keeps (Dev.actBeside · h) (fun e => ?closed) ..).trans
    ((Dev.when_keeps (Dev.actBeside · h) (fun e => ?left) ..).trans rfl)
  case closed => exact e.actBeside_closeWhere ..
  case left => exact Dev.actBeside_congr ((Dev.abandonTune_act ..).trans (Dev.dropNotices_act ..)) h

theorem Dev.actOf_forgotten : (d.forgotten h).actOf h = (d.actOf h).forgotten := by
  rw [Dev.forgotten, Dev.actOf_congr (Dev.updPreset_act ..), Dev.actOf_updActOf_same]

/-- A terminal moved stands in its new state, from the present tick on. -/
theorem Dev.setState_shows (st : TState) :
    ((d.setState h st).actOf h).state = st ∧ ((d.setState h st).actOf h).entryTick = d.tickNow := by
  have hkept := d.actBeside_setState h st
  have hmoved : (((d.entered h st).when (st == .absent) (fun e => e.forgotten h)).actOf h).state = st ∧
      (((d.entered h st).when (st == .absent) (fun e => e.forgotten h)).actOf h).entryTick = d.tickNow := by
    unfold Dev.when
    split
    · rw [Dev.actOf_forgotten, Dev.entered, Dev.actOf_updActOf_same]
      exact ⟨rfl, rfl⟩
    · rw [Dev.entered, Dev.actOf_updActOf_same]
      exact ⟨rfl, rfl⟩
  exact ⟨(congrArg TermAct.state hkept).trans hmoved.1, (congrArg TermAct.entryTick hkept).trans hmoved.2⟩

theorem Dev.toAbsent_lobRun : ((d.toAbsent h).actOf h).lobRun = 0 :=
  (congrArg TermAct.lobRun (d.actBeside_setState h .absent)).trans
    (congrArg TermAct.lobRun ((d.entered h .absent).actOf_forgotten h))

/-- Giving a terminal up leaves of the activation states what taking it to ABSENT leaves. -/
@[simp] theorem Dev.giveUp_act (cnt : Nat) : (d.giveUp h cnt).act = (d.toAbsent h).act := by
  simp only [Dev.giveUp, Dev.bump_act, Dev.deactivate_act]

/-- A terminal that enters RANGING: it has been moved there, on its lane. -/
theorem Dev.actOf_enterRanging (lane : Bool) :
    (d.enterRanging h lane).actOf h = ((d.setState h .ranging).actOf h).rangedOn lane := by
  have hact : (d.enterRanging h lane).act = ((d.setState h .ranging).updActOf h (fun a => a.rangedOn lane)).act := by
    simp only [Dev.enterRanging]
    split
    · rw [Dev.startLineOpt_act, Dev.queuePloam_act, Dev.showTerm_act]
      rfl
    · rw [Dev.burstProfiles_act, Dev.queuePloam_act, Dev.showTerm_act]
      rfl
  rw [Dev.actOf_congr hact, Dev.actOf_updActOf_same]

end

/-! An occurrence counted and marked in a tree's ACT_ERR (R150, R152). -/

/-- The device with counter `i` of a tree's activation counted and a sticky bit of its ACT_ERR set. -/
def Dev.actErr (d : Dev) (t i : Nat) (f : Fld) : Dev := (d.bump (rACT_CNT t i)).mark (rACT_ERR t) f

section
variable (d : Dev) (t i : Nat) (f : Fld)

theorem Dev.rewrites_actErr : Dev.Rewrites (· ∈ [rACT_CNT t i, rACT_ERR t]) d (d.actErr t i f) :=
  (Dev.rewrites_bumpBy d 1 (by simp)).trans (Dev.rewrites_mark _ f (by simp))

theorem Dev.actErr_marks (hone : f.hi = f.lo) (h32 : f.hi < 32) : (d.actErr t i f).bit (rACT_ERR t) f = true :=
  Dev.bit_mark_same _ _ hone h32

theorem Dev.actErr_counts : (d.actErr t i f).rdN (rACT_CNT t i) % 2 ^ 31 = (d.rdN (rACT_CNT t i) + 1) % 2 ^ 31 := by
  rw [Dev.actErr, Dev.mark, Dev.rdN_put_ne _ _ _ (by simp only [rACT_CNT, rACT_ERR]; omega)]
  exact Dev.rdN_bumpBy_same ..

theorem Dev.actErr_tickNow : (d.actErr t i f).tickNow = d.tickNow := by
  have hapart : ∀ a, a < 0x1000000 → ¬a ∈ [rACT_CNT t i, rACT_ERR t] := fun a ha => by
    simp only [List.mem_cons, List.not_mem_nil, or_false, rACT_CNT, rACT_ERR]; omega
  exact (d.rewrites_actErr t i f).laneStep.tickNow (hapart _ (by decide)) (hapart _ (by decide))

theorem Dev.actErr_act : (d.actErr t i f).act = d.act := (rfl)

end

/-- ACT_ERR and the activation counters of a tree are among the registers that no alert writes. -/
theorem rACT_ERR_not_mem_alertRegs (k : Fin 48) : rACT_ERR k.val ∉ alertRegs :=
  act_not_mem_alertRegs (k := k) (by simp only [rACT_ERR]; omega) (by simp only [rACT_ERR]; omega)

theorem rACT_CNT_not_mem_alertRegs (k : Fin 48) {i : Nat} (hi : i < 16) : rACT_CNT k.val i ∉ alertRegs :=
  act_not_mem_alertRegs (k := k) (by simp only [rACT_CNT]; omega) (by simp only [rACT_CNT]; omega)

/-! Serial numbers (R134, R135, R151). -/

/-- The state after a step that leaves nothing to deliver. -/
theorem State.after_quiet {s : State} {e : Dev} (hr : e.replies = []) (hw : e.wipes = []) : s.after e = { s with dev := e } :=
  deliver_none (s := { s with dev := e }) hr hw

/-- SERIAL_NUMBER_ONU on a tree that frames and does not stand by. -/
theorem exec_serialNumberOnu {s : State} (hs : s.Runs) {k : Fin 48} (hframes : s.dev.framing k.val = true)
    (hactive : s.dev.standby k.val = false) (lane : Bool) (sn : BitVec 64) :
    exec (.serialNumberOnu k lane sn) s = .next (s.after (s.start.serialSeen k.val sn.toNat lane)) := by
  have hgate : (s.start.framing k.val && !(s.start.standby k.val)) = true :=
    Bool.and_eq_true_iff.mpr ⟨hframes, congrArg Bool.not hactive⟩
  show execSerialNumberOnu k lane sn s = _
  unfold execSerialNumberOnu
  rw [State.run_of_runs hs]
  exact congrArg (fun e => Host.Outcome.next (s.after e)) (if_pos hgate)

/-- A serial number entered at the head of a tree's list, which holds 64 at most (R151). -/
def ActTree.listed (a : ActTree) (sn tick lane : Nat) : ActTree :=
  { a with snList := ((sn, tick, lane) :: a.snList.filter (fun e => e.1 != sn)).take 64 }

section
variable (d : Dev) (k : Fin 48) (sn : Nat)

/-- A serial number without a record is counted, marked and listed, and alerted where it is new. -/
theorem Dev.unknownSerial_eq (lane : Nat) : ∃ new ps, d.unknownSerial k.val sn lane =
    ((d.actErr k.val 2 fACT_ERR_UNKNOWN_SN).updActT k.val (fun a => a.listed sn d.tickNow lane)).when new
      (fun e => e.alert 0x0501 ps) := by
  rw [← d.actErr_tickNow k.val 2 fACT_ERR_UNKNOWN_SN]
  exact ⟨_, _, rfl⟩

theorem Dev.unknownSerial_shows (lane : Nat) :
    (d.unknownSerial k.val sn lane).bit (rACT_ERR k.val) fACT_ERR_UNKNOWN_SN = true ∧
    (d.unknownSerial k.val sn lane).rdN (rACT_CNT k.val 2) % 2 ^ 31 = (d.rdN (rACT_CNT k.val 2) + 1) % 2 ^ 31 ∧
    (d.unknownSerial k.val sn lane).actT k.val = (d.actT k.val).listed sn d.tickNow lane := by
  obtain ⟨new, ps, heq⟩ := d.unknownSerial_eq k sn lane
  rw [heq]
  refine ⟨?marks, ?counts, ?lists⟩
  case marks =>
    rw [Dev.bit_congr (Dev.rd_when_alert _ _ _ _ (rACT_ERR_not_mem_alertRegs k))]
    exact d.actErr_marks k.val 2 fACT_ERR_UNKNOWN_SN rfl (by decide)
  case counts =>
    rw [Dev.rdN_congr (Dev.rd_when_alert _ _ _ _ (rACT_CNT_not_mem_alertRegs k (by decide)))]
    exact d.actErr_counts k.val 2 fACT_ERR_UNKNOWN_SN
  case lists =>
    have halert := Dev.when_keeps Dev.actTrees (fun e => e.alert_actTrees 0x0501 ps)
    rw [Dev.actT, halert, ← Dev.actT, Dev.actT_updActT_same]
    rfl

end

section
variable {d : Dev} {t sn h : Nat} (hfound : d.findSerial t sn = some h) (lane : Bool)
include hfound

theorem Dev.serialSeen_absent (hstate : d.stateOf h = .absent) : d.serialSeen t sn lane = d.enterRanging h lane := by
  simp only [Dev.serialSeen, hfound, hstate]

theorem Dev.serialSeen_stopped (hstate : d.stateOf h = .stopped ∨ d.stateOf h = .isolated) :
    d.serialSeen t sn lane = d.stopSend t (some sn) false 1 0 none := by
  rcases hstate with hstate | hstate
  · simp only [Dev.serialSeen, hfound, hstate]
  · simp only [Dev.serialSeen, hfound, hstate]

theorem Dev.serialSeen_duplicate (hstate : d.stateOf h = .fine ∨ d.stateOf h = .operating) :
    d.serialSeen t sn lane = (d.actErr t 2 fACT_ERR_SN_DUPLICATE).alert 0x0502 (d.termParams h) := by
  rcases hstate with hstate | hstate
  · simp only [Dev.serialSeen, hfound, hstate, Dev.actErr]
  · simp only [Dev.serialSeen, hfound, hstate, Dev.actErr]

end

theorem Dev.serialSeen_unknown {d : Dev} {t sn : Nat} (hnone : d.findSerial t sn = none) (lane : Bool) :
    d.serialSeen t sn lane = d.unknownSerial t sn (b2n lane) := by
  simp only [Dev.serialSeen, hnone]

/-! Acknowledgements (R142; 03_tree_line.md R68; 17_protection.md R497). -/

/-- The device with a terminal's sent EqD in force and nothing outstanding. -/
def Dev.eqdInForce (d : Dev) (h : Nat) (r : RtOut) : Dev := d.updActOf h (fun a => { a with eqd := r.eqd, rt := none })

section
variable {s : State} {k : Fin 48} {id : Fin 1024} {h : Nat} (hs : s.Runs) (hterm : s.dev.findTerm k.val id.val = some h)
  (hgranted : granted (s.dev.stateOf h) = true) (port : Fin 65536)
include hs hterm hgranted

/-- An acknowledged Ranging_Time puts its EqD in force, and the registers that show a terminal follow. -/
theorem acknowledgement_ranging {r : RtOut} (hrt : (s.dev.actOf h).rt = some r) : exec (.acknowledgement k id 0 port) s =
    .next { s with dev := (s.start.eqdInForce h r).showTerm (s.dev.term h).tree } := by
  have hshow := (s.start.eqdInForce h r).rewrites_showTerm (s.dev.term h).tree
  have hterm' : s.start.findTerm k.val id.val = some h := hterm
  have hgranted' : granted (s.start.stateOf h) = true := hgranted
  have hrt' : (s.start.actOf h).rt = some r := hrt
  show execAcknowledgement k id 0 port s = _
  unfold execAcknowledgement
  refine State.run_next hs ?_ (hshow.replies.trans hs.2.1) (hshow.wipes.trans hs.2.2)
  simp only [hterm', hgranted', Bool.not_true, Bool.false_eq_true, if_false, Fin.val_zero, if_true, Dev.rtAcked, hrt']
  rfl

/-- An acknowledged LINE_OPTIONS whose time has not come is noted. -/
theorem acknowledgement_lineOptions (hasked : (s.dev.lineOpt h).asked ≠ none) (hwaits : (s.dev.lineOpt h).waits = false)
    (htime : s.dev.sfc < (s.dev.lineOpt h).effective) : exec (.acknowledgement k id 1 port) s = .next
    { s with dev := s.start.updLineOpt h (fun l => { l with acked := true }) } := by
  have hterm' : s.start.findTerm k.val id.val = some h := hterm
  have hgranted' : granted (s.start.stateOf h) = true := hgranted
  have hout : ((s.start.lineOpt h).asked.isSome && !(s.start.lineOpt h).waits &&
      decide (s.start.sfc < (s.start.lineOpt h).effective)) = true := by
    simp only [Bool.and_eq_true, decide_eq_true_eq]
    exact ⟨⟨Option.isSome_iff_ne_none.mpr hasked, congrArg Bool.not hwaits⟩, htime⟩
  show execAcknowledgement k id 1 port s = _
  unfold execAcknowledgement
  refine State.run_next hs ?_ hs.2.1 hs.2.2
  simp only [hterm', hgranted', Bool.not_true, Bool.false_eq_true, if_false, Fin.val_one, Nat.one_ne_zero, if_true, hout]

/-- An acknowledged SEQ_CONFIG of a channel of the terminal is outstanding no more. -/
theorem acknowledgement_seqConfig {c : Nat} (hchan : s.dev.findChan k.val port.val = some c) (hown : (s.dev.chan c).term = h) :
    exec (.acknowledgement k id 2 port) s = .next { s with dev := s.start.setSeqOutOf c none } := by
  have hterm' : s.start.findTerm k.val id.val = some h := hterm
  have hgranted' : granted (s.start.stateOf h) = true := hgranted
  have hchan' : s.start.findChan k.val port.val = some c := hchan
  have hown' : (s.start.chan c).term = h := hown
  have hwhat : ((2 : Fin 3).val = 0) = False ∧ ((2 : Fin 3).val = 1) = False := by decide
  show execAcknowledgement k id 2 port s = _
  unfold execAcknowledgement
  refine State.run_next hs ?_ hs.2.1 hs.2.2
  simp only [hterm', hgranted', Bool.not_true, Bool.false_eq_true, if_false, hwhat, hchan', hown', if_true]

end

/-! Time limits (R134, R140, R142). -/

/-- The device with one more send of a Ranging_Time noted, in the frame of the next tick. -/
def Dev.rtSentAgain (d : Dev) (h : Nat) (x : RtOut) : Dev :=
  d.updActOf h (fun a => { a with rt := some { x with sends := x.sends + 1, tick := d.tickNow + 1 } })

theorem Dev.rtSentAgain_rt (d : Dev) (h : Nat) (x : RtOut) :
    ((d.rtSentAgain h x).actOf h).rt = some { x with sends := x.sends + 1, tick := d.tickNow + 1 } :=
  congrArg TermAct.rt (Dev.actOf_updActOf_same ..)

section
variable {d : Dev} {h : Nat} {x : RtOut} (hrt : (d.actOf h).rt = some x)
  (hdue : x.tick + d.teqdTicks (d.term h).tree + 4 ≤ d.tickNow)
include hrt hdue

/-- A Ranging_Time not acknowledged in time is sent again while it has sends left. -/
theorem Dev.rtTimeout_resends (hleft : x.sends < if x.entry then 3 else 4) : d.rtTimeout h =
    (d.rtSentAgain h x).queuePloam (d.term h).tree .rangingTime (d.term h).termId (beB 4 x.eqd) := by
  simp only [Dev.rtTimeout, Dev.rtSentAgain, hrt, if_neg (Nat.not_lt.mpr hdue), if_pos hleft]

/-- A correction sent four times is given up, and nothing else follows. -/
theorem Dev.rtTimeout_ends (hentry : x.entry = false) (hspent : 4 ≤ x.sends) :
    d.rtTimeout h = d.updActOf h (fun a => { a with rt := none }) := by
  simp only [Dev.rtTimeout, hrt, if_neg (Nat.not_lt.mpr hdue), hentry, Bool.false_eq_true, if_false, if_neg (Nat.not_lt.mpr hspent),
    false_and]

end

theorem exec_rangingTimeTimeout (h : Fin 16384) (s : State) :
    exec (.rangingTimeTimeout h) s = s.run (fun d => d.rtTimeout h.val) := by rfl

/-- A LOST terminal that has waited LOST_TICKS is given up, with an alert. -/
theorem lostTicksExpiry_givesUp {s : State} {h : Fin 16384} (hs : s.Runs) (hlost : s.dev.stateOf h.val = .lost)
    (hdue : (s.dev.actOf h.val).entryTick + s.dev.lostTicks (s.dev.term h.val).tree ≤ s.dev.tickNow) :
    exec (.lostTicksExpiry h) s =
      .next (s.after ((s.start.giveUp h.val 8).alert 0x0505 (s.start.termParams h.val))) := by
  have hwaited : (s.start.stateOf h.val == .lost && decide ((s.start.actOf h.val).entryTick +
      s.start.lostTicks (s.start.term h.val).tree ≤ s.start.tickNow)) = true :=
    Bool.and_eq_true_iff.mpr ⟨beq_iff_eq.mpr hlost, decide_eq_true hdue⟩
  show execLostTicksExpiry h s = _
  unfold execLostTicksExpiry
  rw [State.run_of_runs hs]
  exact congrArg (fun e => Host.Outcome.next (s.after e)) (if_pos hwaited)

/-- QW_SKIP of a window deferred 64 ticks. -/
def Dev.qwSkipped (d : Dev) (t : Nat) : Dev :=
  (((d.actErr t 11 fACT_ERR_QW_SKIP).when (!(d.actT t).skipAlerted) (fun e => e.alert 0x050A (p4 t))).updActT t (fun a =>
    { a with skipAlerted := true, askSvc := false, qwDue := false, defer := 0 })).put (rACT_STATUS t) fACT_STATUS_QW_STATE 0

theorem qwSkip_skips {s : State} {k : Fin 48} (hs : s.Runs) (hdefer : 64 ≤ (s.dev.actT k.val).defer) :
    exec (.qwSkip k) s = .next (s.after (s.start.qwSkipped k.val)) := by
  have hdefer' : ¬(s.start.actT k.val).defer < 64 := Nat.not_lt.mpr hdefer
  show execQwSkip k s = _
  unfold execQwSkip
  rw [State.run_of_runs hs]
  exact congrArg (fun e => Host.Outcome.next (s.after e)) (if_neg hdefer')

/-- A window skipped is counted, marked and forgotten, and the tree waits for none. -/
theorem Dev.qwSkipped_shows (d : Dev) (k : Fin 48) :
    (d.qwSkipped k.val).bit (rACT_ERR k.val) fACT_ERR_QW_SKIP = true ∧
    (d.qwSkipped k.val).get (rACT_STATUS k.val) fACT_STATUS_QW_STATE = 0 ∧
    (d.qwSkipped k.val).rdN (rACT_CNT k.val 11) % 2 ^ 31 = (d.rdN (rACT_CNT k.val 11) + 1) % 2 ^ 31 ∧
    (d.qwSkipped k.val).actT k.val = { d.actT k.val with skipAlerted := true, askSvc := false, qwDue := false, defer := 0 } := by
  have hrd : ∀ a, a ≠ rACT_STATUS k.val → a ∉ alertRegs →
      (d.qwSkipped k.val).rd a = (d.actErr k.val 11 fACT_ERR_QW_SKIP).rd a := fun a hstatus halert =>
    (Dev.rd_put_ne _ _ _ hstatus).trans (Dev.rd_when_alert _ _ _ _ halert)
  refine ⟨?marks, ?shows, ?counts, ?forgets⟩
  case marks =>
    rw [Dev.bit_congr (hrd _ (by simp only [rACT_ERR, rACT_STATUS]; omega) (rACT_ERR_not_mem_alertRegs k))]
    exact d.actErr_marks k.val 11 fACT_ERR_QW_SKIP rfl (by decide)
  case shows => exact Dev.get_put_same _ _ _ (by decide)
  case counts =>
    rw [Dev.rdN_congr (hrd _ (by simp only [rACT_CNT, rACT_STATUS]; omega) (rACT_CNT_not_mem_alertRegs k (by decide)))]
    exact d.actErr_counts k.val 11 fACT_ERR_QW_SKIP
  case forgets =>
    have halert := Dev.when_keeps Dev.actTrees (fun e => e.alert_actTrees 0x050A (p4 k.val))
    rw [Dev.qwSkipped, Dev.actT_put, Dev.actT_updActT_same, Dev.actT, halert]
    rfl

/-- Settles O15: each event of activation by the device that it leaves, and by what that device shows. -/
theorem activationFollowsTheTerminal : Obligations.ActivationFollowsTheTerminal := by
  unfold Obligations.ActivationFollowsTheTerminal
  refine ⟨?serial, ?acknowledged, ?ranging, ?lost, ?skip⟩
  case serial =>
    intro s k lane sn hs hframes hactive
    rw [exec_serialNumberOnu hs hframes hactive]
    refine ⟨fun hnone => ?unknown, fun h hfound => ⟨fun hstate => ?absent, fun hstate => ?stopped, fun hstate => ?duplicate⟩⟩
    case unknown =>
      obtain ⟨hmarks, hcounts, hlists⟩ := s.start.unknownSerial_shows k sn.toNat (b2n lane)
      rw [Dev.serialSeen_unknown (d := s.start) hnone]
      exact ⟨_, _, rfl, hmarks, hcounts, congrArg ActTree.snList hlists⟩
    case absent =>
      have hact := s.start.actOf_enterRanging h lane
      obtain ⟨hranging, htick⟩ := s.start.setState_shows h .ranging
      rw [Dev.serialSeen_absent (d := s.start) hfound lane hstate]
      exact ⟨_, rfl, (congrArg TermAct.state hact).trans hranging, congrArg TermAct.actLane hact,
        (congrArg TermAct.entryTick hact).trans htick⟩
    case stopped =>
      rw [Dev.serialSeen_stopped (d := s.start) hfound lane hstate, State.after_quiet (e := s.start.stopSend ..) hs.2.1 hs.2.2]
      exact ⟨_, rfl, congrArg ActTree.sends (Dev.actT_updActT_same ..), fun _ _ => rfl, rfl⟩
    case duplicate =>
      rw [Dev.serialSeen_duplicate (d := s.start) hfound lane hstate]
      refine ⟨_, rfl, ?_, (Dev.alert_act ..).trans (Dev.actErr_act ..)⟩
      exact (Dev.bit_congr (Dev.rd_alert _ _ _ (rACT_ERR_not_mem_alertRegs k)) _).trans (Dev.actErr_marks _ _ _ _ rfl (by decide))
  case acknowledged =>
    intro s k id h hs hterm hgranted
    refine ⟨fun r port hrt => ?eqd, fun port hasked hwaits htime => ?options, fun port c hchan hown => ?seq⟩
    case eqd =>
      have hshow := (s.start.eqdInForce h r).rewrites_showTerm (s.dev.term h).tree
      refine ⟨_, acknowledgement_ranging hs hterm hgranted port hrt,
        (Dev.actOf_congr hshow.act h).trans (Dev.actOf_updActOf_same ..), ?_⟩
      simp only [hshow.act]
      exact State.onlyChanges_into rfl hshow
    case options =>
      exact ⟨_, acknowledgement_lineOptions hs hterm hgranted port hasked hwaits htime, Dev.lineOpt_updLineOpt_same ..,
        fun _ _ => rfl, rfl⟩
    case seq =>
      exact ⟨_, acknowledgement_seqConfig hs hterm hgranted port hchan hown, Dev.seqOutOf_setSeqOutOf_same .., fun _ _ => rfl, rfl⟩
  case ranging =>
    intro s h x hs hrt hdue
    rw [exec_rangingTimeTimeout]
    refine ⟨fun hentry hlater => ?resends, fun hentry hspent => ?ends⟩
    case resends =>
      have hleft : x.sends < if x.entry then 3 else 4 := by
        split
        next he => exact hentry he
        next he => exact hlater (eq_false_of_ne_true he)
      have hsend := Dev.rtTimeout_resends (d := s.start) hrt hdue hleft
      obtain ⟨trees, hqueued⟩ := (s.start.rtSentAgain h.val x).queuePloam_eq (s.dev.term h.val).tree .rangingTime
        (s.dev.term h.val).termId (beB 4 x.eqd)
      exact ⟨_, State.run_next hs (hsend.trans hqueued) hs.2.1 hs.2.2,
        s.start.rtSentAgain_rt h.val x, fun _ _ => rfl, rfl⟩
    case ends =>
      exact ⟨_, State.run_next hs (Dev.rtTimeout_ends (d := s.start) hrt hdue hentry hspent) hs.2.1 hs.2.2,
        Dev.actOf_updActOf_same .., fun _ _ => rfl, rfl⟩
  case lost =>
    intro s h hs hlost hdue
    have halert := (s.start.giveUp h.val 8).alert_act 0x0505 (s.start.termParams h.val)
    have hact := Dev.actOf_congr (halert.trans (s.start.giveUp_act h.val 8)) h.val
    obtain ⟨habsent, htick⟩ := s.start.setState_shows h.val .absent
    exact ⟨_, lostTicksExpiry_givesUp hs hlost hdue, (congrArg TermAct.state hact).trans habsent,
      (congrArg TermAct.entryTick hact).trans htick, (congrArg TermAct.lobRun hact).trans (s.start.toAbsent_lobRun h.val)⟩
  case skip =>
    intro s k hs hdefer
    obtain ⟨hmarks, hstatus, hcounts, hforgets⟩ := s.start.qwSkipped_shows k
    exact ⟨_, qwSkip_skips hs hdefer, hmarks, hstatus, hcounts, hforgets⟩

end Sys2Proof.Machine

/-! The Catalogue's commands that name one object, what a removal leaves of the records and of the quarantine, TREE_TENANT's query
and the end of quarantine (06_catalogue.md R161, R163, R191-R193). -/

namespace Sys2Proof.Machine

/-! A command's answer is the last that its step delivers. -/

/-- Of byte strings stored one after another, each cut to a length, the last is read back whole. -/
theorem loadBytes_foldl_store_last (base : Nat → Nat) {n : Nat} (rs : List (Nat × List Byte)) (m : Nat) {bs : List Byte}
    (mem : List Host.Cell) (hl : bs.length ≤ n) :
    loadBytes zeroByte ((rs ++ [(m, bs)]).foldl (fun mem r => storeBytes zeroByte mem (base r.1) (r.2.take n)) mem) (base m)
      bs.length = bs := by
  rw [List.foldl_append, List.foldl_cons, List.foldl_nil, List.take_of_length_le hl]
  exact loadBytes_storeBytes ..

/-- The response delivered last stands in its response area, whatever was zeroed or delivered before it. -/
theorem deliver_last {s : State} {rs : List (Nat × List Byte)} {m : Nat} {resp : List Byte}
    (h : s.dev.replies = rs ++ [(m, resp)]) (hl : resp.length ≤ 0x800) :
    loadBytes zeroByte (deliver s).mem (mbxBase m + 0x800) resp.length = resp := by
  rw [deliver, h]
  exact loadBytes_foldl_store_last (fun m => mbxBase m + 0x800) rs m _ hl

/-- A state whose device shows a command done, with its answer to deliver last, delivers that answer. -/
theorem done_deliver_last {s : State} {e : Dev} {m : Fin 64} {rs : List (Nat × List Byte)} {r : Nat} {resp : List Byte}
    (hlast : e.replies = rs ++ [(m.val, resp)]) (hl : resp.length ≤ 0x800)
    (h : e.get (rMBX_STATUS m.val) fMBX_STATUS_STATE = 2 ∧ e.get (rMBX_STATUS m.val) fMBX_STATUS_RESULT = r ∧
      e.get (rMBX_STATUS m.val) fMBX_STATUS_RESP_LEN = resp.length) :
    (deliver { s with dev := e }).Done m r resp :=
  ⟨h.1, h.2.1, h.2.2, deliver_last (s := { s with dev := e }) hlast hl⟩

/-- A mailbox command whose body ends by answering is done, and what else its body made of the Catalogue stands. -/
theorem State.run_answered {s : State} {m : Fin 64} {code : Nat} {c : Cmd} {r : Nat} {resp : List Byte} {e : Dev}
    (h : s.Ready m code c) {body : Cmd → Dev → Dev} (hbody : body c { s.dev with out := [] } = e.finish m.val r resp)
    (hc : r < 65536) (hl : resp.length ≤ 0x800) :
    ∃ t, s.run (fun d => d.command m.val code body) = .next t ∧ t.Done m r resp ∧ t.dev.cat = e.cat := by
  have hrun := State.run_command h body
  rw [hbody] at hrun
  exact ⟨_, hrun, done_deliver_last (e.finish_replies m.val r resp) hl (Dev.finish_status e m.isLt hc (by omega)),
    (deliver_cat _).trans (e.finish_cat ..)⟩

/-! Records stand through what a removal does beside unlisting one. -/

theorem Dev.Rewrites.cat {P : Nat → Prop} {d e : Dev} (h : Dev.Rewrites P d e) : e.cat = d.cat :=
  (congrArg Dev.cat h.rest).trans rfl

/-- The three tables of records. -/
def Dev.records (d : Dev) : List (Nat × TermRec) × List (Nat × AllocRec) × List (Nat × ChanRec) :=
  (d.cat.terms, d.cat.allocs, d.cat.chans)

/-- A record is valid. -/
def Dev.recValid (d : Dev) (k : RecKind) (h : Nat) : Bool :=
  match k with
  | .term => (d.term h).valid
  | .alloc => (d.alloc h).valid
  | .chan => (d.chan h).valid

/-- The device with one record unlisted. -/
def Dev.unlisted (d : Dev) (k : RecKind) (h : Nat) : Dev :=
  match k with
  | .term => d.setTerm h {}
  | .alloc => d.setAlloc h {}
  | .chan => d.setChan h {}

/-- The device with one record unlisted, its line dirty and its user's count set. -/
def Dev.retired (d : Dev) (k : RecKind) (h u n : Nat) : Dev := ((d.unlisted k h).dirty k h).setUse u k n

section
variable (d : Dev) (k : RecKind) (h : Nat)

theorem Dev.recValid_of_records {d e : Dev} (hrec : e.records = d.records) : e.recValid k h = d.recValid k h := by
  cases k with
  | term => exact congrArg (fun r => (sget noTerm r.1 h).valid) hrec
  | alloc => exact congrArg (fun r => (sget noAlloc r.2.1 h).valid) hrec
  | chan => exact congrArg (fun r => (sget noChan r.2.2 h).valid) hrec

theorem Dev.recValid_of_cat {d e : Dev} (hcat : e.cat = d.cat) : e.recValid k h = d.recValid k h :=
  Dev.recValid_of_records k h (congrArg (fun x => (x.terms, x.allocs, x.chans)) hcat)

/-- The counts that a terminal keeps of its allocations and channels are no other record's. -/
theorem Dev.recValid_updTerm (hk : k ≠ .term) (j : Nat) (f : TermRec → TermRec) :
    (d.updTerm j f).recValid k h = d.recValid k h := by
  cases k with
  | term => exact absurd rfl hk
  | alloc => rfl
  | chan => rfl

@[simp] theorem Dev.records_setCache (l : List Nat) : (d.setCache k l).records = d.records := by cases k <;> rfl
@[simp] theorem Dev.records_setOpen (l : List Nat) : (d.setOpen k l).records = d.records := by cases k <;> rfl

/-- A line written and dirty is its record's, and no record changes. -/
@[simp] theorem Dev.records_dirty : (d.dirty k h).records = d.records := by
  have hopened : ∀ (e : Dev) (c : Prop) [Decidable c] l, e.records = d.records →
      (if c then e else e.setOpen k l).records = d.records := fun e c _ l he => by
    split
    · exact he
    · exact (e.records_setOpen k l).trans he
  unfold Dev.dirty
  split
  next l _ => exact hopened _ _ _ (d.records_setCache k l)
  next => exact hopened _ _ _ rfl

@[simp] theorem Dev.records_setUse (u n : Nat) : (d.setUse u k n).records = d.records := by
  unfold Dev.setUse
  split
  · cases k <;> rfl
  · rfl

theorem Dev.recValid_unlisted : (d.unlisted k h).recValid k h = false := by
  cases k with
  | term => exact congrArg TermRec.valid (d.term_setTerm_same h {})
  | alloc => exact congrArg AllocRec.valid (d.alloc_setAlloc_same h {})
  | chan => exact congrArg ChanRec.valid (d.chan_setChan_same h {})

theorem Dev.recValid_retired (u n : Nat) : (d.retired k h u n).recValid k h = false := by
  have hrec : (d.retired k h u n).records = (d.unlisted k h).records := (Dev.records_setUse ..).trans (Dev.records_dirty ..)
  rw [Dev.recValid_of_records k h hrec]
  exact d.recValid_unlisted k h

end

/-! Removal (R161, R191). -/

/-- A record is invalid and its handle stands in quarantine. -/
structure Dev.Removed (d : Dev) (k : RecKind) (h : Nat) : Prop where
  invalid : d.recValid k h = false
  held : d.quarHandle k h = true

section
variable {d e : Dev} {k : RecKind} {h : Nat}

theorem Dev.Removed.congr (hcat : e.cat = d.cat) (hd : d.Removed k h) : e.Removed k h := by
  refine ⟨?_, (congrArg (fun x => x.quar.any (fun q => q.kind == k && q.handle == h)) hcat).trans hd.held⟩
  exact (Dev.recValid_of_cat k h hcat).trans hd.invalid

/-- A record that is invalid when its handle goes into quarantine is removed, whatever was done outside the Catalogue since. -/
theorem Dev.removed_quarantine (hgone : d.recValid k h = false) (hcat : e.cat = d.cat) (t id : Nat) :
    (e.quarantine k h t id).Removed k h where
  invalid := (Dev.recValid_of_records (d := e) k h rfl).trans ((Dev.recValid_of_cat k h hcat).trans hgone)
  held := by simp [Dev.quarHandle, Dev.quarantine]

end

section
variable (d : Dev) (h : Nat)

/-- What removing a terminal ends with, its channels and allocations gone before it. -/
theorem Dev.termDrop_eq : ∃ (e : Dev) (u n t id : Nat), d.termDrop h =
    (((((e.retired .term h u n).setActOf h {}).setLineOpt h {}).dropCopy .term h).quarantine .term h t id).showTerm t :=
  ⟨_, _, _, _, _, rfl⟩

/-- What removing an allocation ends with. -/
theorem Dev.allocDrop_eq : ∃ (e : Dev) (u n j : Nat) (f : TermRec → TermRec) (t id : Nat), d.allocDrop h =
    (((((e.retired .alloc h u n).updTerm j f).dropCopy .alloc h).setReasmOf h ⟨0, 0⟩).quarantine .alloc h t id).ladShowUsed t :=
  ⟨_, _, _, _, _, _, _, rfl⟩

/-- What removing a channel ends with. -/
theorem Dev.chanDrop_eq : ∃ (e : Dev) (u n j : Nat) (f : TermRec → TermRec) (t id : Nat), d.chanDrop h =
    (((e.retired .chan h u n).updTerm j f).dropCopy .chan h).quarantine .chan h t id :=
  ⟨_, _, _, _, _, _, _, rfl⟩

theorem Dev.termDrop_removed : (d.termDrop h).Removed .term h := by
  obtain ⟨e, u, n, t, id, heq⟩ := d.termDrop_eq h
  rw [heq]
  refine Dev.Removed.congr (Dev.rewrites_showTerm ..).cat (Dev.removed_quarantine (e.recValid_retired .term h u n) ?_ t id)
  rfl

theorem Dev.allocDrop_removed : (d.allocDrop h).Removed .alloc h := by
  obtain ⟨e, u, n, j, f, t, id, heq⟩ := d.allocDrop_eq h
  have hgone := (Dev.recValid_updTerm _ .alloc h (by decide) j f).trans (e.recValid_retired .alloc h u n)
  rw [heq]
  refine Dev.Removed.congr (Dev.put_cat ..) (Dev.removed_quarantine hgone ?_ t id)
  rfl

theorem Dev.chanDrop_removed : (d.chanDrop h).Removed .chan h := by
  obtain ⟨e, u, n, j, f, t, id, heq⟩ := d.chanDrop_eq h
  have hgone := (Dev.recValid_updTerm _ .chan h (by decide) j f).trans (e.recValid_retired .chan h u n)
  rw [heq]
  refine Dev.removed_quarantine hgone ?_ t id
  rfl

end

/-! The commands that name one object, alike for the three kinds of records (R191, R192). -/

section
variable (d : Dev) (k : RecKind)

/-- The handle of the object with an identifier on a tree. -/
def Dev.findRec (t id : Nat) : Option Nat :=
  match k with
  | .term => d.findTerm t id
  | .alloc => d.findAlloc t id
  | .chan => d.findChan t id

/-- The user that owns an object. -/
def Dev.recTenant (h : Nat) : Nat :=
  match k with
  | .term => (d.term h).tenant
  | .alloc => (d.alloc h).tenant
  | .chan => (d.chan h).tenant

/-- The engine's checks of a removal. -/
def Dev.recDropChecks (h : Nat) : List CatCheck :=
  match k with
  | .term => d.termDropChecks h
  | .alloc => d.allocDropChecks h
  | .chan => d.chanDropChecks h

/-- An object removed. -/
def Dev.recDrop (h : Nat) : Dev :=
  match k with
  | .term => d.termDrop h
  | .alloc => d.allocDrop h
  | .chan => d.chanDrop h

theorem Dev.recDrop_removed (h : Nat) : (d.recDrop k h).Removed k h := by
  cases k with
  | term => exact d.termDrop_removed h
  | alloc => exact d.allocDrop_removed h
  | chan => exact d.chanDrop_removed h

theorem TermRec.length_image (r : TermRec) : r.image.length = 512 := by
  delta TermRec.image
  simp only [List.length_append, length_leB]

theorem AllocRec.length_image (r : AllocRec) : r.image.length = 64 := by
  delta AllocRec.image
  simp only [List.length_append, length_leB]

theorem ChanRec.length_image (r : ChanRec) : r.image.length = 64 := by
  delta ChanRec.image
  simp only [List.length_append, length_leB]

/-- Every record's image fits in a response. -/
theorem Dev.length_recImage (h : Nat) : (d.recImage k h).length ≤ 0x800 := by
  cases k with
  | term => exact Nat.le_trans (Nat.le_of_eq (TermRec.length_image _)) (by decide)
  | alloc => exact Nat.le_trans (Nat.le_of_eq (AllocRec.length_image _)) (by decide)
  | chan => exact Nat.le_trans (Nat.le_of_eq (ChanRec.length_image _)) (by decide)

end

/-- TERM_READ, ALLOC_READ or CHAN_READ. -/
def readInstr (k : RecKind) (m : Fin 64) : Instr :=
  match k with
  | .term => .termRead m
  | .alloc => .allocRead m
  | .chan => .chanRead m

/-- TERM_REMOVE, ALLOC_REMOVE or CHAN_REMOVE. -/
def removeInstr (k : RecKind) (m : Fin 64) : Instr :=
  match k with
  | .term => .termRemove m
  | .alloc => .allocRemove m
  | .chan => .chanRemove m

/-- A command on the object of a kind that its request names. -/
def Cmd.onRec (c : Cmd) (d : Dev) (k : RecKind) (run : Nat → Dev → Dev) : Dev :=
  match d.findRec k (c.u8 0) (c.u16 2) with
  | none => c.checks d [d.readyCheck, inForm false] (fun d => d)
  | some h => c.checks d [d.readyCheck, c.mayTouch (d.recTenant k h) false, inForm (c.bareForm d)] (run h)

/-- What a read does with the object that its request names. -/
def Cmd.readRec (k : RecKind) (c : Cmd) (d : Dev) : Dev := c.onRec d k (fun h d => c.ok d (d.recImage k h))

/-- What a removal does with the object that its request names. -/
def Cmd.removeRec (k : RecKind) (c : Cmd) (d : Dev) : Dev :=
  c.onRec d k (fun h d => c.judged (d.catTry (d.recDropChecks k h)) (fun d => c.ok (d.recDrop k h) (leB 8 d.quarEnd)))

theorem exec_readInstr (k : RecKind) (m : Fin 64) (s : State) : exec (readInstr k m) s =
    s.run (fun d => d.command m.val (0x0204 + 0x100 * kNum k) (Cmd.readRec k)) := by
  cases k <;> rfl

theorem exec_removeInstr (k : RecKind) (m : Fin 64) (s : State) : exec (removeInstr k m) s =
    s.run (fun d => d.command m.val (0x0203 + 0x100 * kNum k) (Cmd.removeRec k)) := by
  cases k <;> rfl

/-- Checks of the engine that all hold let a command run. -/
theorem Cmd.judged_pass (c : Cmd) {d : Dev} {cs : List CatCheck} (h : (d.catTry cs).1 = none) (run : Dev → Dev) :
    c.judged (d.catTry cs) run = run d := by
  unfold Dev.catTry at h ⊢
  split
  next hfails => simp [hfails] at h
  next => rfl

/-- The owner and the tenant that owns an object may touch it (R163). -/
theorem Cmd.mayTouch_holds {c : Cmd} {n : Nat} (h : c.isOwner = true ∨ c.caller = some n) : (c.mayTouch n false).1 = true := by
  unfold Cmd.mayTouch
  rcases h with howner | htenant
  · rw [Option.isNone_iff_eq_none.mp howner]
  · simp [htenant]

/-- A request of a ready Catalogue names one object by tree and identifier alone, and its caller is the owner or the tenant that owns
that object. -/
structure Cmd.Names (c : Cmd) (d : Dev) (k : RecKind) (h : Nat) : Prop where
  ready : d.catReady = true
  form : c.nameForm d = true
  plain : c.u8 1 = 0
  found : d.findRec k (c.u8 0) (c.u16 2) = some h
  rights : c.isOwner = true ∨ c.caller = some (d.recTenant k h)

section
variable {s : State} {m : Fin 64} {c : Cmd} {k : RecKind} {h : Nat}

theorem Cmd.Names.bareForm {d : Dev} (hn : c.Names d k h) : c.bareForm d = true := by
  have hform := hn.form
  simp only [Cmd.nameForm, Bool.and_eq_true] at hform
  obtain ⟨⟨htree, -⟩, hends⟩ := hform
  simp [Cmd.bareForm, Cmd.zero, htree, hends, hn.plain]

/-- A command on the object that its request names in form takes place. -/
theorem Cmd.Names.onRec {d : Dev} (hn : c.Names d k h) (run : Nat → Dev → Dev) : c.onRec d k run = run h d := by
  simp only [Cmd.onRec, hn.found]
  refine Cmd.checks_pass c d (fun x hx => ?_) _
  simp only [List.mem_cons, List.not_mem_nil, or_false] at hx
  rcases hx with rfl | rfl | rfl
  · exact hn.ready
  · exact Cmd.mayTouch_holds hn.rights
  · exact hn.bareForm

/-- A read answers the record's image and changes nothing else. -/
theorem readInstr_answers (hready : s.Ready m (0x0204 + 0x100 * kNum k) c) (hn : c.Names s.start k h) :
    ∃ t, exec (readInstr k m) s = .next t ∧ s.OnlyAnswers t m ∧ t.Done m 0 (s.dev.recImage k h) := by
  have hbody : Cmd.readRec k c s.start = s.start.finish m.val 0 (s.dev.recImage k h) := by
    rw [Cmd.readRec, hn.onRec, Cmd.ok, hready.2.1]
    rfl
  obtain ⟨t, hrun, hdone, honly⟩ := State.run_query hready hbody (by decide) (s.dev.length_recImage k h)
  exact ⟨t, (exec_readInstr k m s).trans hrun, honly, hdone⟩

/-- A removal that passes the engine's checks removes the record and answers the tick at which its quarantine ends. -/
theorem removeInstr_removes (hready : s.Ready m (0x0203 + 0x100 * kNum k) c) (hn : c.Names s.start k h)
    (hchecks : (s.start.catTry (s.start.recDropChecks k h)).1 = none) :
    ∃ t, exec (removeInstr k m) s = .next t ∧ t.Done m 0 (leB 8 s.dev.quarEnd) ∧
      t.dev.recValid k h = false ∧ t.dev.quarHandle k h = true := by
  have hbody : Cmd.removeRec k c s.start = (s.start.recDrop k h).finish m.val 0 (leB 8 s.dev.quarEnd) := by
    rw [Cmd.removeRec, hn.onRec, Cmd.judged_pass c hchecks, Cmd.ok, hready.2.1]
    rfl
  obtain ⟨t, hrun, hdone, hcat⟩ := State.run_answered hready hbody (by decide) (by rw [length_leB]; decide)
  have hremoved := Dev.Removed.congr hcat (s.start.recDrop_removed k h)
  exact ⟨t, (exec_removeInstr k m s).trans hrun, hdone, hremoved.invalid, hremoved.held⟩

end

/-! A tenant's trees, quotas and counts (R193). -/

/-- What TREE_TENANT answers: a tenant's tree mask, then MIN and MAX of each kind, then its counts in use. -/
def Dev.tenantShown (d : Dev) (n : Nat) : List Byte :=
  leB 8 (d.treeMask n) ++
    [RecKind.term, .alloc, .chan].flatMap (fun k => leB 4 (d.minOf n k) ++ leB 4 ((d.maxOfUser n k).getD 0)) ++
    [RecKind.term, .alloc, .chan].flatMap (fun k => leB 4 (d.useOf n k))

theorem Dev.length_tenantShown (d : Dev) (n : Nat) : (d.tenantShown n).length = 44 := by
  simp [Dev.tenantShown, length_leB]

/-- TREE_TENANT's query, by the owner or of the caller's own row, answers what the tenant has and changes nothing else. -/
theorem treeTenant_answers {s : State} {m : Fin 64} {c : Cmd} (hready : s.Ready m 0x0107 c) (hcat : s.dev.catReady = true)
    (htenant : c.u8 0 < 16) (hquery : c.u8 1 = 1) (hzero : c.zero 2 2 = true) (hends : c.endsAt 0x24 = true)
    (hrights : c.isOwner = true ∨ c.caller = some (c.u8 0)) :
    ∃ t, exec (.treeTenant m) s = .next t ∧ t.Done m 0 (s.dev.tenantShown (c.u8 0)) ∧ s.OnlyAnswers t m := by
  have hbit : nbit (c.u8 1) 0 = true := by rw [hquery]; rfl
  have hbasic : c.expert 1 = false := by rw [Cmd.expert, hquery]; rfl
  have honly : c.only 1 0x81 = true := by rw [Cmd.only, hquery]; rfl
  refine State.run_query hready ?_ (by decide) (by rw [Dev.length_tenantShown]; decide)
  simp only
  rw [Cmd.checks_pass]
  · simp only [hbit, if_true, Cmd.ok, hready.2.1]
    rfl
  · intro x hx
    simp only [List.mem_cons, List.not_mem_nil, or_false] at hx
    rcases hx with rfl | rfl | rfl | rfl | rfl
    · exact hcat
    · rcases hrights with howner | hself
      · rw [Option.isNone_iff_eq_none.mp howner]
      · simp [hself, hbit, hbasic]
    · simp [inForm, htenant, honly, hzero, hends]
    · simp [inForm, hbit]
    · simp [hbit]

/-! The end of quarantine (R161). -/

/-- Preset records emptied one after another change nothing but preset records. -/
theorem Dev.foldl_setPreset_eq (qs : List Quar) (d : Dev) :
    ∃ p, qs.foldl (fun d q => d.setPreset q.handle {}) d = { d with presets := p } := by
  induction qs generalizing d with
  | nil => exact ⟨_, rfl⟩
  | cons q qs ih => exact ih (d.setPreset q.handle {})

/-- QUARANTINE_END ends the quarantines whose tick has come, and changes beside them only preset records. -/
theorem quarantineEnd_ends {s : State} (hs : s.Runs) : ∃ p, exec .quarantineEnd s = .next { s with dev := { s.start with
    presets := p, cat := { s.dev.cat with quar := s.dev.cat.quar.filter (fun q => !(decide (q.endTick ≤ s.dev.tickNow))) } } } := by
  obtain ⟨p, hp⟩ := Dev.foldl_setPreset_eq
    (s.start.cat.quar.filter (fun q => decide (q.endTick ≤ s.start.tickNow) && q.kind == .term)) s.start
  have hexec : exec .quarantineEnd s = execQuarantineEnd s := by rfl
  refine ⟨p, hexec.trans (State.run_next hs ?_ hs.2.1 hs.2.2)⟩
  simp only [hp]
  rfl

/-- Settles O18: the reads and removals are one argument for the three kinds of records, and the query and the end of quarantine have
each their own. -/
theorem catalogueObjectsAreReadAndRemoved : Obligations.CatalogueObjectsAreReadAndRemoved := by
  unfold Obligations.CatalogueObjectsAreReadAndRemoved
  refine ⟨?named, ?query, ?ended⟩
  case named =>
    intro s m c h hcat hform hplain
    have hnames : ∀ k, s.dev.findRec k (c.u8 0) (c.u16 2) = some h →
        (c.isOwner = true ∨ c.caller = some (s.dev.recTenant k h)) → c.Names s.start k h :=
      fun k hfound hrights => ⟨hcat, hform, hplain, hfound, hrights⟩
    exact ⟨fun hr hf ho => readInstr_answers (k := .term) hr (hnames _ hf ho),
      fun hr hf ho => readInstr_answers (k := .alloc) hr (hnames _ hf ho),
      fun hr hf ho => readInstr_answers (k := .chan) hr (hnames _ hf ho),
      fun hr hf ho => removeInstr_removes (k := .term) hr (hnames _ hf ho),
      fun hr hf ho => removeInstr_removes (k := .alloc) hr (hnames _ hf ho),
      fun hr hf ho => removeInstr_removes (k := .chan) hr (hnames _ hf ho)⟩
  case query =>
    intro s m c hready hcat htenant hquery hzero hends hrights
    obtain ⟨t, hexec, hdone, honly⟩ := treeTenant_answers hready hcat htenant hquery hzero hends hrights
    exact ⟨t, hexec, honly, hdone⟩
  case ended =>
    intro s hs
    obtain ⟨p, hexec⟩ := quarantineEnd_ends hs
    exact ⟨_, hexec, rfl, fun _ _ => rfl, rfl⟩

end Sys2Proof.Machine

/-! Admission, held maps and the in-flight table (07_ladle_demand.md R201, R223; 08_ladle_maps.md R244, R249, R251, R252, R254). -/

namespace Sys2Proof.Machine

/-! Admission (R201, R223). -/

theorem exec_ladleAdmitWrite (k : Fin 48) (val : Word) (s : State) : exec (.ladleAdmitWrite k val) s =
    s.run (fun d => if d.treeOk k.val then d.writeLadAdmit k.val val.toNat else d) := by rfl

/-- A limit that USED fits into is stored. -/
theorem Dev.writeLadAdmit_fits {d : Dev} {t v : Nat} (h : d.ladUsed t none ≤ d.ladResolve t (fieldOf v fLADLE_ADMIT_LIMIT)) :
    d.writeLadAdmit t v = d.put (rLADLE_ADMIT t) fLADLE_ADMIT_LIMIT (fieldOf v fLADLE_ADMIT_LIMIT) :=
  if_neg (Nat.not_lt.mpr h)

/-- A limit below USED is refused. -/
theorem Dev.writeLadAdmit_below {d : Dev} {t v : Nat} (h : d.ladResolve t (fieldOf v fLADLE_ADMIT_LIMIT) < d.ladUsed t none) :
    d.writeLadAdmit t v = d.mark rLADLE_ERR fLADLE_ERR_ADMIT_REFUSED :=
  if_pos h

/-- TREE_ADMIT with 0xFFFFFFFF, in form, answers the limit in force and USED, and does nothing else. -/
theorem treeAdmit_answers {s : State} {m : Fin 64} {c : Cmd} (h : s.Ready m 0x0108 c) (hown : c.isOwner = true)
    (hok : s.dev.treeOk (c.u8 0) = true) (hzero : c.zero 1 3 = true) (hends : c.endsAt 8 = true) (hkeep : c.u32 4 = 0xFFFFFFFF) :
    ∃ t, exec (.treeAdmit m) s = .next t ∧
      t.Done m 0 (leB 4 (s.dev.ladLimit (c.u8 0)) ++ leB 4 (s.dev.ladUsed (c.u8 0) none)) ∧ s.OnlyAnswers t m := by
  refine State.run_query h ?_ (by decide) (by simp only [List.length_append, length_leB]; decide)
  simp only [hkeep, beq_self_eq_true, Bool.true_or, if_true]
  rw [Cmd.checks_pass, Cmd.ok, h.2.1]
  · rfl
  · intro x hx
    simp only [List.mem_cons, List.not_mem_nil, or_false] at hx
    rcases hx with rfl | rfl | rfl
    · exact hown
    · exact Bool.and_eq_true_iff.mpr ⟨Bool.and_eq_true_iff.mpr ⟨hok, hzero⟩, hends⟩
    · rfl

/-! Held maps (R244). -/

/-- The code of a map's checks fits in LADLE_MAP_STAT0.CHECK. -/
theorem Dev.mapCheck_lt (d : Dev) (t : Nat) (m : MapRec) (bad : Bool) : d.mapCheck t m bad < 16 := by
  unfold Dev.mapCheck
  dsimp only
  iterate 11 refine iteInduction (motive := (· < 16)) (fun _ => by decide) (fun _ => ?_)
  decide

/-- The device with the map that a tree builds held, `ns` into the tick, with a code of its checks. -/
def Dev.mapKept (d : Dev) (t : Nat) (m : MapRec) (ns code : Nat) : Dev :=
  d.updLadT t (fun l => { l with building := some { m with held := some ns, check := code } })

/-- The device with the end of a build shown, and a check that failed shown and marked. -/
def Dev.mapShown (d : Dev) (t ns code : Nat) : Dev :=
  let e := d.put (rLADLE_MAP_STAT8 t) fLADLE_MAP_STAT8_DONE_NS ns
  if code = 0 then e
  else (e.put (rLADLE_MAP_STAT0 t) fLADLE_MAP_STAT0_CHECK code).mark rLADLE_MAP_ERR fLADLE_MAP_ERR_CHECK_FAIL

/-- The registers that show a held map. -/
abbrev mapHeldRegs (t : Nat) : List Nat := [rLADLE_MAP_STAT8 t, rLADLE_MAP_STAT0 t, rLADLE_MAP_ERR]

section
variable (d : Dev) (t : Nat) {ns code : Nat}

theorem Dev.rewrites_mapShown (ns code : Nat) : Dev.Rewrites (· ∈ mapHeldRegs t) d (d.mapShown t ns code) := by
  have hdone : Dev.Rewrites (· ∈ mapHeldRegs t) d (d.put (rLADLE_MAP_STAT8 t) fLADLE_MAP_STAT8_DONE_NS ns) :=
    Dev.rewrites_put _ _ _ (by simp)
  exact .ite hdone (hdone.trans ((Dev.rewrites_put _ _ _ (by simp)).trans (Dev.rewrites_mark _ _ (by simp))))

theorem Dev.mapShown_done (hns : ns < 125000) :
    (d.mapShown t ns code).get (rLADLE_MAP_STAT8 t) fLADLE_MAP_STAT8_DONE_NS = ns := by
  have hdone : (d.put (rLADLE_MAP_STAT8 t) fLADLE_MAP_STAT8_DONE_NS ns).get (rLADLE_MAP_STAT8 t) fLADLE_MAP_STAT8_DONE_NS = ns :=
    (Dev.get_put_same _ _ _ (by decide)).trans (Nat.mod_eq_of_lt (Nat.lt_trans hns (by decide)))
  unfold Dev.mapShown
  dsimp only
  split
  · exact hdone
  · rw [Dev.mark, Dev.get_put_ne _ _ _ _ (by simp only [rLADLE_MAP_STAT8, rLADLE_MAP_ERR]; omega),
      Dev.get_put_ne _ _ _ _ (by simp only [rLADLE_MAP_STAT8, rLADLE_MAP_STAT0]; omega), hdone]

theorem Dev.mapShown_failed (hfail : code ≠ 0) (hcode : code < 16) :
    (d.mapShown t ns code).bit rLADLE_MAP_ERR fLADLE_MAP_ERR_CHECK_FAIL = true ∧
    (d.mapShown t ns code).get (rLADLE_MAP_STAT0 t) fLADLE_MAP_STAT0_CHECK = code := by
  simp only [Dev.mapShown, hfail, if_false]
  refine ⟨Dev.bit_mark_same _ _ rfl (by decide), ?_⟩
  rw [Dev.mark, Dev.get_put_ne _ _ _ _ (by simp only [rLADLE_MAP_STAT0, rLADLE_MAP_ERR]; omega),
    Dev.get_put_same _ _ _ (by decide)]
  exact Nat.mod_eq_of_lt hcode

end

/-- The device once the build of a tree's map has ended, `ns` into the tick. -/
def Dev.mapEnded (d : Dev) (t : Nat) (m : MapRec) (ns : Nat) (bad : Bool) : Dev :=
  (d.mapKept t m ns (d.mapCheck t m bad)).mapShown t ns (d.mapCheck t m bad)

/-- The end of a build rewrites no register but those that show it, once the map is kept. -/
theorem Dev.rewrites_mapEnded (d : Dev) (t : Nat) (m : MapRec) (ns : Nat) (bad : Bool) :
    Dev.Rewrites (· ∈ mapHeldRegs t) (d.mapKept t m ns (d.mapCheck t m bad)) (d.mapEnded t m ns bad) :=
  Dev.rewrites_mapShown ..

theorem Dev.Rewrites.ladTrees {P : Nat → Prop} {d e : Dev} (h : Dev.Rewrites P d e) : e.ladTrees = d.ladTrees :=
  (congrArg Dev.ladTrees h.rest).trans rfl

/-- MAP_HELD of a map being built keeps it with the code of its checks, and shows what the checks found. -/
theorem exec_mapHeld {s : State} (hs : s.Runs) {k : Fin 48} {b : MapRec} (hb : (s.dev.ladT k.val).building = some b)
    (hopen : b.held = none) (ns : Fin 125000) (bad : Bool) :
    exec (.mapHeld k ns bad) s = .next { s with dev := s.start.mapEnded k.val b ns.val bad } := by
  have hended := s.start.rewrites_mapEnded k.val b ns.val bad
  have hb' : (s.start.ladT k.val).building = some b := hb
  show execMapHeld k ns bad s = _
  refine State.run_next hs ?_ (hended.replies.trans hs.2.1) (hended.wipes.trans hs.2.2)
  simp only [hb', hopen, Option.isSome_none, Bool.false_eq_true, if_false]
  rfl

/-! The in-flight table (R249, R252). -/

/-- The registers, the in-flight table and what the Ladle keeps for each tree. -/
def Dev.ledger (d : Dev) : List (Nat × BitVec 32) × List (Nat × Ift) × List (Nat × LadTree) := (d.regs, d.ift, d.ladTrees)

theorem Dev.rdN_of_ledger {d e : Dev} (h : e.ledger = d.ledger) (a : Nat) : e.rdN a = d.rdN a :=
  Dev.rdN_congr (congrArg (sget regReset · a) (congrArg Prod.fst h))

theorem Dev.iftE_of_ledger {d e : Dev} (h : e.ledger = d.ledger) (i : Nat) : e.iftE i = d.iftE i :=
  congrArg (sget noIftE · i) (congrArg (fun x => x.2.1) h)

theorem Dev.ladT_of_ledger {d e : Dev} (h : e.ledger = d.ledger) (t : Nat) : e.ladT t = d.ladT t :=
  congrArg (sget noLadT · t) (congrArg (fun x => x.2.2) h)

/-- The device with an entry closed in the table, counted, and its position freed. -/
def Dev.entryClosed (d : Dev) (t e st : Nat) : Dev :=
  let d := d.updIftE (t * iftPerTree + e) (fun x => { x with state := st })
  let d := d.bump (rLADLE_CNT (if st = 1 then 29 else 30))
  let d := d.put rLADLE_INFLIGHT fLADLE_INFLIGHT_COUNT (d.get rLADLE_INFLIGHT fLADLE_INFLIGHT_COUNT - 1)
  let d := d.put (rLADLE_MAP_STATC t) fLADLE_MAP_STATC_INFLIGHT (d.get (rLADLE_MAP_STATC t) fLADLE_MAP_STATC_INFLIGHT - 1)
  d.updLadT t (fun l => { l with freed := l.freed ++ [e] })

section
variable (d : Dev) (t e : Nat)

/-- Closing an open entry: what follows for its terminal, its pair and its allocation touches neither the registers nor the
table. -/
theorem Dev.ledger_closeIft (st : Nat) (hused : (d.iftE (t * iftPerTree + e)).used = true)
    (hopen : (d.iftE (t * iftPerTree + e)).state = 0) : (d.closeIft t e st).ledger = (d.entryClosed t e st).ledger := by
  have hisOpen : ((d.iftE (t * iftPerTree + e)).used && (d.iftE (t * iftPerTree + e)).state == 0) = true := by
    rw [hused, hopen]; rfl
  have hlost : ∀ (x : Dev) (c : Bool) j f, (if c then x else x.updLadA j f).ledger = x.ledger := fun x c j f => by
    split <;> rfl
  unfold Dev.closeIft
  dsimp only
  rw [if_pos hisOpen]
  refine (hlost ..).trans ((Dev.when_keeps Dev.ledger (fun x => ?pair) ..).trans
    ((Dev.when_keeps Dev.ledger (fun x => ?ranging) ..).trans ?closed))
  case pair => rfl
  case ranging => rfl
  case closed => rfl

theorem Dev.iftE_entryClosed (st : Nat) : (d.entryClosed t e st).iftE (t * iftPerTree + e) =
    { d.iftE (t * iftPerTree + e) with state := st } :=
  d.iftE_updIftE_same (t * iftPerTree + e) (fun x => { x with state := st })

theorem Dev.freed_entryClosed (st : Nat) : ((d.entryClosed t e st).ladT t).freed = (d.ladT t).freed ++ [e] := by
  rw [Dev.entryClosed, Dev.ladT_updLadT_same]
  rfl

/-- No counter of the Ladle is another register that closing an entry writes. -/
theorem rLADLE_CNT_apart {i : Nat} (hi : i < 64) : rLADLE_CNT i ≠ rLADLE_INFLIGHT ∧ rLADLE_CNT i ≠ rLADLE_MAP_STATC t ∧
    rLADLE_CNT i ≠ rBRX_STATUS t ∧ rLADLE_CNT i ≠ rLADLE_MAP_ERR := by
  simp only [rLADLE_CNT, rLADLE_INFLIGHT, rLADLE_MAP_STATC, rBRX_STATUS, rLADLE_MAP_ERR]
  omega

theorem rLADLE_CNT_not_mem_alertRegs {i : Nat} (hi : i < 64) : rLADLE_CNT i ∉ alertRegs := by
  simp only [alertRegs, List.mem_cons, List.not_mem_nil, or_false, rLADLE_CNT, rGLK_CNT, rGLK_ERR, rGLK_ALERT_SEQ, rGLK_STATUS,
    rPIN_STATUS]
  omega

/-- Of the Ladle's counters an entry closed as lost counts in that of lost entries alone. -/
theorem Dev.rdN_entryClosed_cnt {i : Nat} (hi : i < 64) : (d.entryClosed t e 2).rdN (rLADLE_CNT i) =
    (d.bump (rLADLE_CNT 30)).rdN (rLADLE_CNT i) := by
  obtain ⟨hdepth, htree, -⟩ := rLADLE_CNT_apart t hi
  unfold Dev.entryClosed
  dsimp only
  rw [Dev.rdN_congr (Dev.rd_updLadT ..), Dev.rdN_put_ne _ _ _ htree, Dev.rdN_put_ne _ _ _ hdepth]
  rfl

/-- The device with an entry closed as lost and counted as stale, before the alert. -/
def Dev.staleClosed : Dev :=
  (((d.closeIft t e 2).purgeDescs t).bump (rLADLE_CNT 31)).mark rLADLE_MAP_ERR fLADLE_MAP_ERR_INFLIGHT_STALE

/-- Purging the receiver's queues leaves of the registers all but the depth it shows. -/
theorem Dev.rdN_purgeDescs {a : Nat} (h : a ≠ rBRX_STATUS t) : (d.purgeDescs t).rdN a = d.rdN a := by
  rw [Dev.purgeDescs, Dev.rdN_put_ne _ _ _ h]
  rfl

@[simp] theorem Dev.iftE_purgeDescs (i : Nat) : (d.purgeDescs t).iftE i = d.iftE i := by
  rw [Dev.purgeDescs, Dev.iftE_put]
  rfl

@[simp] theorem Dev.ladT_purgeDescs (k : Nat) : (d.purgeDescs t).ladT k = d.ladT k := by
  rw [Dev.purgeDescs, Dev.ladT_put]
  rfl

variable (code key : Nat) (ps : List Byte) (i : Nat)

@[simp] theorem Dev.iftE_alertOnce : (d.alertOnce code key ps).iftE i = d.iftE i := by
  unfold Dev.alertOnce
  split
  · rfl
  · exact congrArg (sget noIftE · i) (d.alert_ift code ps)

@[simp] theorem Dev.ladT_alertOnce : (d.alertOnce code key ps).ladT i = d.ladT i := by
  unfold Dev.alertOnce
  split
  · rfl
  · exact congrArg (sget noLadT · i) (d.alert_ladTrees code ps)

end

section
variable {d : Dev} {t e : Nat} (hused : (d.iftE (t * iftPerTree + e)).used = true)
  (hopen : (d.iftE (t * iftPerTree + e)).state = 0)
include hused hopen

theorem Dev.iftE_staleClosed : (d.staleClosed t e).iftE (t * iftPerTree + e) = { d.iftE (t * iftPerTree + e) with state := 2 } := by
  rw [Dev.staleClosed, Dev.mark, Dev.iftE_put, Dev.bump, Dev.bumpBy, Dev.iftE_wrN, Dev.iftE_purgeDescs,
    Dev.iftE_of_ledger (d.ledger_closeIft t e 2 hused hopen), Dev.iftE_entryClosed]

theorem Dev.freed_staleClosed : ((d.staleClosed t e).ladT t).freed = (d.ladT t).freed ++ [e] := by
  rw [Dev.staleClosed, Dev.mark, Dev.ladT_put, Dev.bump, Dev.bumpBy, Dev.ladT_wrN, Dev.ladT_purgeDescs,
    Dev.ladT_of_ledger (d.ledger_closeIft t e 2 hused hopen), Dev.freed_entryClosed]

/-- An entry closed as stale counts as stale, and as lost. -/
theorem Dev.staleClosed_counts :
    (d.staleClosed t e).rdN (rLADLE_CNT 31) % 2 ^ 31 = (d.rdN (rLADLE_CNT 31) + 1) % 2 ^ 31 ∧
    (d.staleClosed t e).rdN (rLADLE_CNT 30) % 2 ^ 31 = (d.rdN (rLADLE_CNT 30) + 1) % 2 ^ 31 := by
  have hother : rLADLE_CNT 31 ≠ rLADLE_CNT 30 := by decide
  have hmarked : ∀ i < 64, (d.staleClosed t e).rdN (rLADLE_CNT i) =
      (((d.closeIft t e 2).purgeDescs t).bump (rLADLE_CNT 31)).rdN (rLADLE_CNT i) := fun i hi => by
    obtain ⟨-, -, -, herr⟩ := rLADLE_CNT_apart t hi
    exact Dev.rdN_put_ne _ _ _ herr
  have hpurged : ∀ i < 64, ((d.closeIft t e 2).purgeDescs t).rdN (rLADLE_CNT i) =
      (d.bump (rLADLE_CNT 30)).rdN (rLADLE_CNT i) := fun i hi => by
    obtain ⟨-, -, hdepth, -⟩ := rLADLE_CNT_apart t hi
    rw [Dev.rdN_purgeDescs _ _ hdepth, Dev.rdN_of_ledger (d.ledger_closeIft t e 2 hused hopen), Dev.rdN_entryClosed_cnt _ _ _ hi]
  constructor
  · rw [hmarked 31 (by decide), Dev.bump, Dev.rdN_bumpBy_same, hpurged 31 (by decide), Dev.bump, Dev.bumpBy,
      Dev.rdN_wrN_ne _ _ hother]
  · rw [hmarked 30 (by decide), Dev.bump, Dev.bumpBy, Dev.rdN_wrN_ne _ _ hother.symm, hpurged 30 (by decide)]
    exact Dev.rdN_bumpBy_same ..

end

/-- INFLIGHT_STALE of an entry open past its end and STALE closes it as stale and raises the tree's alert, once in a tick. -/
theorem exec_inflightStale {s : State} (hs : s.Runs) {k : Fin 48} {e : Fin 4096}
    (hused : (s.dev.iftE (k.val * iftPerTree + e.val)).used = true) (hopen : (s.dev.iftE (k.val * iftPerTree + e.val)).state = 0)
    (hdue : s.dev.iftEnd k.val (s.dev.iftE (k.val * iftPerTree + e.val)) +
      1000 * max 2 (s.dev.get rLADLE_MAP_CTRL fLADLE_MAP_CTRL_STALE) < instant (s.dev.tickNow + 1) 0) :
    exec (.inflightStale k e) s =
      .next (s.after ((s.start.staleClosed k.val e.val).alertOnce 0x0706 k.val (p4 k.val))) := by
  have hstale : (!(s.start.iftE (k.val * iftPerTree + e.val)).used || (s.start.iftE (k.val * iftPerTree + e.val)).state != 0 ||
      decide (instant (s.start.tickNow + 1) 0 ≤ s.start.iftEnd k.val (s.start.iftE (k.val * iftPerTree + e.val)) +
        1000 * max 2 (s.start.get rLADLE_MAP_CTRL fLADLE_MAP_CTRL_STALE))) = false := by
    rw [Bool.or_eq_false_iff, Bool.or_eq_false_iff]
    exact ⟨⟨congrArg Bool.not hused, bne_eq_false_iff_eq.mpr hopen⟩, decide_eq_false (Nat.not_le.mpr hdue)⟩
  show execInflightStale k e s = _
  exact (State.run_of_runs hs _).trans
    (congrArg (fun x => Host.Outcome.next (s.after x)) (if_neg (ne_true_of_eq_false hstale)))

/-- The device with words in LADLE_IFT_DATA, from word `k` on. -/
def Dev.iftDataShown (d : Dev) (ws : List Nat) (k : Nat) : Dev :=
  (ws.zipIdx k).foldl (fun d w => d.wrN (rLADLE_IFT_DATA w.2) w.1) d

section
variable (d : Dev) (ws : List Nat) (k : Nat)

theorem Dev.rewrites_iftDataShown {P : Nat → Prop} (h : ∀ i, k ≤ i → i < k + ws.length → P (rLADLE_IFT_DATA i)) :
    Dev.Rewrites P d (d.iftDataShown ws k) :=
  .foldl (fun d w hw => Dev.rewrites_wrN d w.1
    (h w.2 (List.le_snd_of_mem_zipIdx hw) (List.snd_lt_add_of_mem_zipIdx hw))) d

/-- The words shown are read back, each cut to 32 bits: the words written after one stand at other addresses. -/
theorem Dev.rdN_iftDataShown : (List.range' k ws.length).map (fun i => (d.iftDataShown ws k).rdN (rLADLE_IFT_DATA i)) =
    ws.map (· % 2 ^ 32) := by
  induction ws generalizing d k with
  | nil => rfl
  | cons w ws ih =>
    have hcons : d.iftDataShown (w :: ws) k = (d.wrN (rLADLE_IFT_DATA k) w).iftDataShown ws (k + 1) := rfl
    have hlater := (d.wrN (rLADLE_IFT_DATA k) w).rewrites_iftDataShown ws (k + 1) (P := (rLADLE_IFT_DATA k < ·))
      (fun i hi _ => by simp only [rLADLE_IFT_DATA]; omega)
    have hfirst : ((d.wrN (rLADLE_IFT_DATA k) w).iftDataShown ws (k + 1)).rdN (rLADLE_IFT_DATA k) = w % 2 ^ 32 :=
      (Dev.rdN_congr (hlater.rd _ (Nat.lt_irrefl _))).trans (Dev.rdN_wrN_same ..)
    rw [List.length_cons, List.range'_succ, List.map_cons, List.map_cons, hcons, hfirst, ih]

end

/-- An entry's four words are 32-bit words. -/
theorem Ift.words_mod (x : Ift) : x.words.map (· % 2 ^ 32) = x.words := by
  have hbit : ∀ b, b2n b ≤ 1 := by decide
  have hused := hbit x.used
  have hrepeat := hbit x.repeat_
  have hprobe := hbit (x.kind == .probe)
  have hact := hbit x.actLane
  simp only [Ift.words, List.map_cons, List.map_nil, List.cons.injEq, and_true]
  refine ⟨?_, ?_, ?_, ?_⟩ <;> exact Nat.mod_eq_of_lt (by omega)

/-- LADLE_IFT_SEL with GO names an entry of a tree that exists: it is stored without GO, and the entry's words are shown. -/
theorem Dev.writeIftSel_go {d : Dev} {v : Nat} (hgo : nbit v 31 = true) (hok : d.treeOk (fieldOf v fLADLE_IFT_SEL_TREE) = true) :
    d.writeIftSel v = (d.access rLADLE_IFT_SEL (v % 2 ^ 31)).iftDataShown
      (d.iftE (fieldOf v fLADLE_IFT_SEL_TREE * iftPerTree + fieldOf v fLADLE_IFT_SEL_ENTRY)).words 0 := by
  have hstored := d.rewrites_access rLADLE_IFT_SEL (v % 2 ^ 31)
  have hok' : (d.access rLADLE_IFT_SEL (v % 2 ^ 31)).treeOk (fieldOf v fLADLE_IFT_SEL_TREE) = true := by
    rw [hstored.rest]; exact hok
  have hentry : ∀ i, (d.access rLADLE_IFT_SEL (v % 2 ^ 31)).iftE i = d.iftE i := fun i => by rw [hstored.rest]; rfl
  simp only [Dev.writeIftSel, hgo, hok', hentry, Bool.not_true, Bool.false_eq_true, if_false, if_true, Dev.iftDataShown]

theorem exec_ladleIftCopy (val : Word) (s : State) : exec (.ladleIftCopy val) s = s.run (fun d => d.writeIftSel val.toNat) := by rfl

/-! The map's status (R254). -/

/-- What TREE_MAP_STATUS answers of a tree's last map. -/
def Dev.mapStatus (d : Dev) (t : Nat) : List Byte :=
  leB 2 (d.get (rLADLE_MAP_STAT0 t) fLADLE_MAP_STAT0_GRANTS) ++
    leB 1 (d.get (rLADLE_MAP_STAT0 t) fLADLE_MAP_STAT0_CHECK) ++ leB 1 0 ++
    leB 4 (d.get (rLADLE_MAP_STAT4 t) fLADLE_MAP_STAT4_USED) ++ leB 4 (d.get (rLADLE_MAP_STAT8 t) fLADLE_MAP_STAT8_DONE_NS) ++
    leB 4 (d.get (rLADLE_MAP_STATC t) fLADLE_MAP_STATC_INFLIGHT) ++ leB 8 (d.ladT t).lastMap ++
    leB 4 (d.rdN (rTICK_OVR t)) ++ leB 4 0

theorem Dev.length_mapStatus (d : Dev) (t : Nat) : (d.mapStatus t).length = 32 := by
  simp only [Dev.mapStatus, List.length_append, length_leB]

/-- The owner may read every tree (R85). -/
theorem Cmd.treeRights_of_isOwner {c : Cmd} (h : c.isOwner = true) (d : Dev) (t : Nat) : (c.treeRights d t).1 = true := by
  simp only [Cmd.treeRights, Option.isNone_iff_eq_none.mp h]

/-- TREE_MAP_STATUS in its basic form, by the owner, answers the last map's figures and does nothing else. -/
theorem treeMapStatus_answers {s : State} {m : Fin 64} {c : Cmd} (h : s.Ready m 0x0109 c) (hown : c.isOwner = true)
    (hok : s.dev.treeOk (c.u8 0) = true) (hbasic : c.u8 1 = 0) (hends : c.endsAt 2 = true) :
    ∃ t, exec (.treeMapStatus m) s = .next t ∧ t.Done m 0 (s.dev.mapStatus (c.u8 0)) ∧ s.OnlyAnswers t m := by
  have hexpert : c.expert 1 = false := by rw [Cmd.expert, hbasic]; rfl
  have honly : c.only 1 0x80 = true := by rw [Cmd.only, hbasic]; rfl
  refine State.run_query h ?_ (by decide) (by rw [Dev.length_mapStatus]; decide)
  simp only [hexpert, Bool.false_eq_true, if_false]
  rw [Cmd.checks_pass, Cmd.ok, h.2.1]
  · rfl
  · intro x hx
    simp only [List.mem_cons, List.not_mem_nil, or_false] at hx
    rcases hx with rfl | rfl | rfl | rfl
    · exact Cmd.treeRights_of_isOwner hown _ _
    · simp [Cmd.mayExpert, hown]
    · exact Bool.and_eq_true_iff.mpr ⟨Bool.and_eq_true_iff.mpr ⟨hok, honly⟩, hends⟩
    · rfl

/-- Settles O21: admission, the copy of an entry and the two queries are register writes and answers; a held map is kept and then
shown in registers alone; and an entry closed as stale is followed through registers, table and freed positions (`Dev.ledger`). -/
theorem mapsAreHeldAndAccounted : Obligations.MapsAreHeldAndAccounted := by
  unfold Obligations.MapsAreHeldAndAccounted
  refine ⟨?limit, ?query, ?held, ?stale, ?copy, ?status⟩
  case limit =>
    intro s k val hs hok
    refine ⟨fun hfits => ?_, fun hbelow => ?_⟩
    · have hstored := Dev.rewrites_put s.start fLADLE_ADMIT_LIMIT (fieldOf val.toNat fLADLE_ADMIT_LIMIT)
        (List.mem_singleton_self (rLADLE_ADMIT k.val))
      exact ⟨_, (exec_ladleAdmitWrite k val s).trans
        (State.run_rewrites hs ((if_pos hok).trans (Dev.writeLadAdmit_fits hfits)) hstored),
        (Dev.get_put_same _ _ _ (by decide)).trans (Nat.mod_eq_of_lt (fieldOf_lt ..)), State.onlyChanges_of_rewrites hstored⟩
    · rw [exec_ladleAdmitWrite]
      exact State.run_marks hs rfl (by decide) ((if_pos hok).trans (Dev.writeLadAdmit_below hbelow))
  case query =>
    intro s m c h hown hok hzero hends hkeep
    obtain ⟨t, hexec, hdone, honly⟩ := treeAdmit_answers h hown hok hzero hends hkeep
    exact ⟨t, hexec, honly, hdone⟩
  case held =>
    intro s k ns bad b hs hb hopen
    have hended := s.start.rewrites_mapEnded k.val b ns.val bad
    refine ⟨_, exec_mapHeld hs hb hopen ns bad, ?_, Dev.mapShown_done _ _ ns.isLt,
      fun hfail => Dev.mapShown_failed _ _ hfail (Dev.mapCheck_lt ..), ?_⟩
    · exact (congrArg (fun x => (sget noLadT x k.val).building) hended.ladTrees).trans
        (congrArg LadTree.building (Dev.ladT_updLadT_same ..))
    · rw [hended.ladTrees]
      exact State.onlyChanges_into rfl hended
  case stale =>
    intro s k e hs hused hopen hdue
    obtain ⟨hstale, hlost⟩ := Dev.staleClosed_counts (d := s.start) hused hopen
    have hcnt : ∀ i < 64, (Dev.alertOnce (s.start.staleClosed k.val e.val) 0x0706 k.val (p4 k.val)).rdN (rLADLE_CNT i) =
        (s.start.staleClosed k.val e.val).rdN (rLADLE_CNT i) :=
      fun i hi => Dev.rdN_congr (Dev.rd_alertOnce _ _ _ _ (rLADLE_CNT_not_mem_alertRegs hi))
    refine ⟨_, exec_inflightStale hs hused hopen hdue, ?_, ?_, ?_, ?_, ?_⟩
    · exact congrArg Ift.state ((Dev.iftE_alertOnce ..).trans (Dev.iftE_staleClosed (d := s.start) hused hopen))
    · exact (congrArg (· % 2 ^ 31) (hcnt 31 (by decide))).trans hstale
    · exact (congrArg (· % 2 ^ 31) (hcnt 30 (by decide))).trans hlost
    · exact (congrArg (· == 1) (Dev.get_congr (Dev.rd_alertOnce _ _ _ _ (by decide)) _)).trans
        (Dev.bit_mark_same _ _ rfl (by decide))
    · exact (congrArg LadTree.freed (Dev.ladT_alertOnce ..)).trans (Dev.freed_staleClosed (d := s.start) hused hopen)
  case copy =>
    rintro s val k e hs hgo rfl rfl hok
    have hshown : Dev.Rewrites (· ∈ [rLADLE_IFT_SEL, rLADLE_IFT_DATA 0, rLADLE_IFT_DATA 1, rLADLE_IFT_DATA 2, rLADLE_IFT_DATA 3])
        s.start (s.start.writeIftSel val.toNat) := by
      rw [Dev.writeIftSel_go (d := s.start) hgo hok]
      refine (Dev.rewrites_access_of _ _ (by simp)).trans (Dev.rewrites_iftDataShown _ _ _ fun i _ hi => ?_)
      have hlt : i < 0 + 4 := hi
      have hword : i = 0 ∨ i = 1 ∨ i = 2 ∨ i = 3 := by omega
      simp only [List.mem_cons]
      rcases hword with rfl | rfl | rfl | rfl
      · exact .inr (.inl rfl)
      · exact .inr (.inr (.inl rfl))
      · exact .inr (.inr (.inr (.inl rfl)))
      · exact .inr (.inr (.inr (.inr (.inl rfl))))
    refine ⟨_, (exec_ladleIftCopy val s).trans (State.run_rewrites hs rfl hshown), ?_, State.onlyChanges_of_rewrites hshown⟩
    rw [Dev.writeIftSel_go (d := s.start) hgo hok]
    rw [List.range_eq_range']
    exact (Dev.rdN_iftDataShown _ (Ift.words _) 0).trans (Ift.words_mod _)
  case status =>
    intro s m c h hown hok hbasic hends
    obtain ⟨t, hexec, hdone, honly⟩ := treeMapStatus_answers h hown hok hbasic hends
    exact ⟨t, hexec, honly, hdone⟩

end Sys2Proof.Machine

/-! When a mailbox command does not begin (19_gellen.md R565, R566), and what FWD_SEARCH does before that is asked
(12_forwarding.md R374). -/

namespace Sys2Proof.Machine

/-- Where no command of the code stands in the mailbox, not begun, nothing happens (R565). -/
theorem Dev.command_absent {d : Dev} {m code : Nat}
    (h : d.glk.cmds.find? (fun c => c.mbx == m && c.code == code && !c.started) = none) (body : Cmd → Dev → Dev) :
    d.command m code body = d := by
  simp only [Dev.command, h]

theorem exec_fwdSearch (m : Fin 64) (corr : Nat) (errs : List MemErr) (s : State) : exec (.fwdSearch m corr errs) s =
    s.run (fun d => (d.memErrs corr errs).fwdCommand m.val 0x0603 fwdSearch) := by rfl

/-- FWD_SEARCH counts the corrected errors of its reads (R374) where no such command stands in its mailbox too. -/
theorem fwdSearch_absent_counts {s : State} (hs : s.Runs) {m : Fin 64}
    (hnone : s.dev.glk.cmds.find? (fun c => c.mbx == m.val && c.code == 0x0603 && !c.started) = none) {corr : Nat} (hcorr : corr ≠ 0) :
    exec (.fwdSearch m corr []) s = .next { s with dev := s.start.bumpBy (rFWD_CNT 11) corr } := by
  have hread : s.start.memErrs corr [] = s.start.bumpBy (rFWD_CNT 11) corr := if_neg hcorr
  obtain ⟨-, hreplies, hwipes⟩ := id hs
  rw [exec_fwdSearch]
  refine State.run_next hs ?_ hreplies hwipes
  rw [hread]
  exact Dev.command_absent (d := s.start.bumpBy (rFWD_CNT 11) corr) hnone _

/-- Refutes O59: with no command in its mailbox FWD_SEARCH still handles the memory errors that its reads find, so on a running
device one corrected error moves the counter MEM_CORR. -/
theorem not_mailboxCommandsWaitTheirTurn : ¬ Obligations.MailboxCommandsWaitTheirTurn := by
  unfold Obligations.MailboxCommandsWaitTheirTurn
  intro h
  have hs : (State.quiet 0).Runs := by decide
  have hnone : (State.quiet 0).dev.glk.cmds.find? (fun c => c.mbx == (0 : Fin 64).val && c.code == 0x0603 && !c.started) = none := rfl
  obtain ⟨habsent, -, -⟩ := h (State.quiet 0) 0 (.fwdSearch 0 1 []) 0x0603 (.inr (.inl ⟨1, [], rfl, rfl⟩)) hs
  obtain ⟨t, hexec, hregs, -⟩ := habsent hnone
  rw [fwdSearch_absent_counts hs hnone Nat.one_ne_zero] at hexec
  cases hexec
  have hcounted := (State.quiet 0).start.rdN_bumpBy_same (rFWD_CNT 11) 1
  have hkept : ((State.quiet 0).start.bumpBy (rFWD_CNT 11) 1).rdN (rFWD_CNT 11) = (State.quiet 0).start.rdN (rFWD_CNT 11) :=
    Dev.rdN_congr (hregs _ List.not_mem_nil)
  omega

end Sys2Proof.Machine

/-! Sessions, the certificate, tree keys and MACsec associations (10_cipher.md R290, R303, R304, R311, R314-R318). -/

namespace Sys2Proof.Machine

/-! What the commands of this family share. -/

/-- A ready command stands in its mailbox. -/
theorem State.Ready.mbx_eq {s : State} {m : Fin 64} {code : Nat} {c : Cmd} (h : s.Ready m code c) : c.mbx = m.val := by
  obtain ⟨-, hmbx, -⟩ := h
  exact hmbx

/-- A step that ends by answering a mailbox shows the command done. -/
theorem State.done_after_finish (s : State) (e : Dev) {m : Fin 64} {r : Nat} {resp : List Byte} (hr : r < 65536)
    (hl : resp.length ≤ 0x800) : (s.after (e.finish m.val r resp)).Done m r resp :=
  done_deliver_last (e.finish_replies m.val r resp) hl (Dev.finish_status e m.isLt hr (by omega))

section
variable (s : State) (e : Dev) (m r : Nat) (resp : List Byte)

/-- An answer leaves the key stores alone. -/
theorem State.ciph_after_finish : (s.after (e.finish m r resp)).dev.ciph = e.ciph :=
  (deliver_ciph _).trans (e.finish_ciph m r resp)

theorem State.keyEnt_after_finish (i : Nat) : (s.after (e.finish m r resp)).dev.keyEnt i = e.keyEnt i := by
  rw [Dev.keyEnt, Dev.keyEnt, State.ciph_after_finish]

theorem State.saEnt_after_finish (i : Nat) : (s.after (e.finish m r resp)).dev.saEnt i = e.saEnt i := by
  rw [Dev.saEnt, Dev.saEnt, State.ciph_after_finish]

/-- An answer leaves CIPH_ERR alone. -/
theorem State.ciphErr_after_finish (m : Fin 64) (f : Fld) :
    (s.after (e.finish m.val r resp)).dev.bit rCIPH_ERR f = e.bit rCIPH_ERR f := by
  have hm := m.isLt
  have hrd : (e.finish m.val r resp).rd rCIPH_ERR = e.rd rCIPH_ERR :=
    e.rd_finish m.val r resp (by decide) (by simp only [rCIPH_ERR, rMBX_STATUS]; omega) (by simp only [rCIPH_ERR, rMBX_INFO]; omega)
  rw [Dev.bit, Dev.bit, State.after, deliver_get, Dev.get_congr hrd]

end

section
variable {c : Cmd}

/-- The owner may ask for the expert form. -/
theorem Cmd.mayExpert_of_isOwner (h : c.isOwner = true) (i : Nat) : (c.mayExpert i).1 = true := by
  rw [Cmd.mayExpert, h, Bool.true_or]

/-- Everyone may ask for the form that is not the expert's. -/
theorem Cmd.mayExpert_of_basic {i : Nat} (h : c.expert i = false) : (c.mayExpert i).1 = true := by
  rw [Cmd.mayExpert, h, Bool.not_false, Bool.or_true]

/-- The owner and the tenant that owns a terminal have the rights of its commands (R317). -/
theorem Cmd.termRights_holds {d : Dev} {h : Nat} (hc : c.isOwner = true ∨ c.caller = some (d.term h).tenant) :
    (c.termRights d h).1 = true := by
  unfold Cmd.termRights
  rcases hc with howner | htenant
  · rw [Option.isNone_iff_eq_none.mp howner]
  · simp [htenant]

end

/-! Sessions (R303, R314). -/

/-- The nonce that a session opened now is given: two free values of eight bytes. -/
def Dev.sessionNonce (d : Dev) : List Byte := beB 8 d.draw.1 ++ beB 8 d.draw.2.draw.1

theorem length_beB (n v : Nat) : (beB n v).length = n := by rw [beB, List.length_reverse, length_leB]

theorem Dev.length_sessionNonce (d : Dev) : d.sessionNonce.length = 16 := by
  rw [Dev.sessionNonce, List.length_append, length_beB, length_beB]

/-- The device with one more session, its nonce drawn. -/
def Dev.sessionOpened (d : Dev) (x : Session) : Dev :=
  { d.draw.2.draw.2 with ciph := { d.ciph with sessions := d.ciph.sessions ++ [x] } }

section
variable {s : State} {m : Fin 64} {c : Cmd} (hready : s.Ready m 0x0801 c) (hzero : c.zero 2 2 = true) (hends : c.endsAt 0x75 = true)
include hready hzero hends

/-- KEY_SESSION of the owner with a point of the curve opens the lowest free session. -/
theorem keySession_opens {n : Nat} (hown : c.isOwner = true) (hopen : c.u8 0 = 0) (hwrap : s.dev.wrapReady = true)
    (hpoint : onP384 (slice c.req 0x14 97) = true)
    (hfree : (List.range 32).find? (fun n => !(s.dev.ciph.sessions.any (fun x => x.num == n))) = some n) :
    exec (.keySession m) s = .next (s.after ((s.start.sessionOpened
      ⟨n, none, transportKey (slice c.req 4 16) s.start.sessionNonce (slice c.req 0x14 97) n, 0, 0⟩).finish m.val 0
        (leB 1 n ++ leB 3 0 ++ s.start.sessionNonce))) := by
  have hopens : nbit (c.u8 0) 0 = false := by rw [hopen]; rfl
  have honly : c.only 0 0x81 = true := by rw [Cmd.only, hopen]; rfl
  have hwrap' : s.start.wrapReady = true := hwrap
  have hfree' : (List.range 32).find? (fun n => !(s.start.ciph.sessions.any (fun x => x.num == n))) = some n := hfree
  have hcaller : c.caller = none := Option.isNone_iff_eq_none.mp hown
  show execKeySession m s = _
  unfold execKeySession
  rw [State.run_command hready, ← State.start]
  simp only [hopens, hfree', Option.isSome_some, Option.getD_some, Bool.false_eq_true, if_false]
  rw [Cmd.checks_pass]
  · rw [Cmd.ok, hready.mbx_eq, hcaller]
    rfl
  · intro x hx
    simp only [List.mem_cons, List.not_mem_nil, or_false] at hx
    rcases hx with rfl | rfl | rfl | rfl | rfl | rfl
    · exact Cmd.mayExpert_of_isOwner hown 0
    · simp [inForm, honly, hzero, hends]
    · rfl
    · exact hwrap'
    · exact hpoint
    · simp [hown]

/-- KEY_SESSION with bit 0 of its flags closes a session of its caller. -/
theorem keySession_closes (hclose : c.u8 0 = 1) (hmine : s.dev.sessionOf c.caller (c.u8 1) ≠ none) :
    exec (.keySession m) s = .next (s.after ((s.start.closeSession (c.u8 1)).finish m.val 0 [])) := by
  have hcloses : nbit (c.u8 0) 0 = true := by rw [hclose]; rfl
  have honly : c.only 0 0x81 = true := by rw [Cmd.only, hclose]; rfl
  have hbasic : c.expert 0 = false := by rw [Cmd.expert, hclose]; rfl
  have hmine' : (s.start.sessionOf c.caller (c.u8 1)).isSome = true := Option.isSome_iff_ne_none.mpr hmine
  show execKeySession m s = _
  unfold execKeySession
  rw [State.run_command hready, ← State.start]
  simp only [hcloses, if_true]
  rw [Cmd.checks_pass]
  · rw [Cmd.ok, hready.mbx_eq]
    rfl
  · intro x hx
    simp only [List.mem_cons, List.not_mem_nil, or_false] at hx
    rcases hx with rfl | rfl | rfl | rfl | rfl | rfl
    · exact Cmd.mayExpert_of_basic hbasic
    · simp [inForm, honly, hzero, hends]
    · exact hmine'
    · rfl
    · rfl
    · rfl

end

/-! The certificate (R315). -/

/-- What KEY_CERT answers: the certificate, cut to 1536 bytes, after its length. -/
def certShown : List Byte := leB 2 (Config.certificate.take 1536).length ++ leB 2 0 ++ Config.certificate.take 1536

theorem length_certShown : certShown.length ≤ 0x800 := by
  have hcut : (Config.certificate.take 1536).length ≤ 1536 := List.length_take_le ..
  simp only [certShown, List.length_append, length_leB]
  omega

theorem keyCert_answers {s : State} {m : Fin 64} {c : Cmd} (hready : s.Ready m 0x0802 c) (hends : c.endsAt 0 = true) :
    ∃ t, exec (.keyCert m) s = .next t ∧ t.Done m 0 certShown ∧ s.OnlyAnswers t m := by
  refine State.run_query hready ?_ (by decide) length_certShown
  simp only
  rw [Cmd.checks_pass, Cmd.ok, hready.mbx_eq]
  · rfl
  · intro x hx
    rw [List.mem_singleton.mp hx]
    exact hends

/-! Unwrapping a key (R304). -/

section
variable {d : Dev} {x : Session} {seqB aad ct tag : List Byte} {zeros : Nat}

/-- A key that does not unwrap sets UNWRAP_FAIL, and no key store but that of the sessions changes. -/
theorem Dev.unwrap_fails (h : (d.unwrap x seqB aad ct tag zeros).1 = none) :
    (d.unwrap x seqB aad ct tag zeros).2.ciph.keys = d.ciph.keys ∧ (d.unwrap x seqB aad ct tag zeros).2.ciph.sas = d.ciph.sas ∧
    (d.unwrap x seqB aad ct tag zeros).2.bit rCIPH_ERR fCIPH_ERR_UNWRAP_FAIL = true := by
  have hmarked := Dev.bit_mark_same (d.bump (rCIPH_CNT 6)) rCIPH_ERR (f := fCIPH_ERR_UNWRAP_FAIL) rfl (by decide)
  unfold Dev.unwrap at h ⊢
  dsimp only at h ⊢
  split at h
  next => simp at h
  next =>
    split
    next =>
      rw [Dev.alert_ciph]
      refine ⟨rfl, rfl, ?_⟩
      exact (congrArg (· == 1) (Dev.get_congr (Dev.rd_alert _ _ _ (by decide)) _)).trans hmarked
    next => exact ⟨rfl, rfl, hmarked⟩

end

/-- A command that takes a wrapped key: one that did not unwrap is BAD_PARAM, else the command goes on with the key. -/
def Cmd.withKey (c : Cmd) (u : Option (List Byte) × Dev) (store : List Byte → Dev → Dev) : Dev :=
  match u.1 with
  | none => c.fail u.2 resBadParam
  | some key => store key u.2

section
variable {c : Cmd} {u : Option (List Byte) × Dev} (store : List Byte → Dev → Dev)

theorem Cmd.withKey_none (h : u.1 = none) : c.withKey u store = u.2.finish c.mbx resBadParam [] := by
  rw [Cmd.withKey, h, Cmd.fail]

theorem Cmd.withKey_some {key : List Byte} (h : u.1 = some key) : c.withKey u store = store key u.2 := by
  rw [Cmd.withKey, h]

end

/-! Tree keys (R290, R316). -/

@[simp] theorem KeyEnt.slot_setSlot_same (k : KeyEnt) (n : Nat) (x : KeySlot) : (k.setSlot n x).slot n = x := by
  unfold KeyEnt.slot KeyEnt.setSlot
  split <;> rfl

@[simp] theorem KeyEnt.cur_setSlot (k : KeyEnt) (n : Nat) (x : KeySlot) : (k.setSlot n x).cur = k.cur := by
  unfold KeyEnt.setSlot
  split <;> rfl

/-- A request of the owner names a slot of a terminal that takes 256-bit keys and shares its entry with none, and a session of the
owner. -/
structure Cmd.NamesSlot (c : Cmd) (d : Dev) (h : Nat) (x : Session) : Prop where
  owner : c.isOwner = true
  term : d.findTerm (c.u8 0) (c.u16 2) = some h
  session : d.sessionOf c.caller (c.u8 4) = some x
  wrap : d.wrapReady = true
  slot : c.u8 1 = 1 ∨ c.u8 1 = 2
  big : c.u8 5 = 1
  zeros : (c.zero 6 2 && c.zero 0x0C 4 && c.zero 0x19 7 && c.endsAt 0x50) = true
  exp : c.u8 0x18 = 0
  alone : ∀ e ∈ d.cat.terms, e.2.valid = true → e.2.keyIndex = (d.term h).keyIndex → e.1 = h
  key256 : (d.term h).key256 = true
  notCurrent : (d.keyEnt (d.term h).keyIndex).cur ≠ c.u8 1

/-- What KEY_INSTALL makes of its wrapped key of 256 bits. -/
def Cmd.unwrapKey (c : Cmd) (d : Dev) (x : Session) : Option (List Byte) × Dev :=
  d.unwrap x (slice c.req 8 4) (slice c.req 0 0x20) (slice c.req 0x20 32) (slice c.req 0x40 16) 0

/-- The slot that KEY_INSTALL writes with a key of 256 bits under the class's limit. -/
def Cmd.keySlot (c : Cmd) (key : List Byte) : KeySlot :=
  { installed := true, key := key, aes256 := true, exp := 0, pending := if c.u64 0x10 = 0 then none else some (c.u64 0x10) }

/-- The entry `i` that held `k`, with the key in the slot that the request names. -/
def Cmd.keyInstalled (c : Cmd) (i : Nat) (k : KeyEnt) (key : List Byte) (d : Dev) : Dev :=
  d.setKeyEnt i (k.setSlot (c.u8 1) (c.keySlot key))

section
variable {s : State} {m : Fin 64} {c : Cmd} {h : Nat} {x : Session}

/-- No other terminal names the entry (R290). -/
theorem Cmd.NamesSlot.notShared {d : Dev} (hn : c.NamesSlot d h x) :
    d.cat.terms.any (fun t => t.2.valid && t.2.keyIndex == (d.term h).keyIndex && t.1 != h) = false := by
  rw [List.any_eq_false]
  intro e he hshared
  simp only [Bool.and_eq_true, beq_iff_eq, bne_iff_ne] at hshared
  obtain ⟨⟨hvalid, hindex⟩, hother⟩ := hshared
  exact hother (hn.alone e he hvalid hindex)

/-- KEY_INSTALL in form unwraps the key and writes the slot. -/
theorem exec_keyInstall (hready : s.Ready m 0x0803 c) (hn : c.NamesSlot s.start h x) : exec (.keyInstall m) s =
    .next (s.after (c.withKey (c.unwrapKey s.start x) (fun key e =>
      (c.keyInstalled (s.dev.term h).keyIndex (s.dev.keyEnt (s.dev.term h).keyIndex) key e).finish m.val 0
        (leB 2 (s.dev.term h).keyIndex ++ leB 1 (s.dev.keyEnt (s.dev.term h).keyIndex).cur ++ leB 1 0)))) := by
  have hbig : nbit (c.u8 5) 0 = true := by rw [hn.big]; rfl
  have hbasic : c.expert 5 = false := by rw [Cmd.expert, hn.big]; rfl
  have honly : c.only 5 0x81 = true := by rw [Cmd.only, hn.big]; rfl
  have hslot : (c.u8 1 == 1 || c.u8 1 == 2) = true := by simpa using hn.slot
  have hzeros := hn.zeros
  simp only [Bool.and_eq_true] at hzeros
  obtain ⟨⟨⟨hzero6, hzeroC⟩, hzero19⟩, hends⟩ := hzeros
  show execKeyInstall m s = _
  unfold execKeyInstall
  rw [State.run_command hready, ← State.start]
  simp only [hn.term, hn.session, hbig, hbasic, hn.exp, if_true, Bool.false_eq_true, if_false]
  rw [Cmd.checks_pass]
  · rw [← Cmd.unwrapKey, ← hready.mbx_eq]
    obtain ⟨u, e⟩ := c.unwrapKey s.start x
    cases u <;> rfl
  · intro y hy
    simp only [List.mem_cons, List.not_mem_nil, or_false] at hy
    rcases hy with rfl | rfl | rfl | rfl | rfl | rfl
    · rw [Option.isNone_iff_eq_none.mp hn.owner]
    · exact hn.wrap
    · simp [inForm, hslot, honly, hzero6, hzeroC, hzero19, hends]
    · rfl
    · simp [inForm, hn.notShared, hn.key256]
    · exact bne_iff_ne.mpr hn.notCurrent

end

/-- A command whose key did not unwrap is answered BAD_PARAM, and beside UNWRAP_FAIL the keys and associations stand. -/
theorem State.after_unwrap_fails (s : State) {d : Dev} {m : Fin 64} {c : Cmd} (hm : c.mbx = m.val) {x : Session}
    {seqB aad ct tag : List Byte} {zeros : Nat} (h : (d.unwrap x seqB aad ct tag zeros).1 = none)
    (store : List Byte → Dev → Dev) :
    let t := s.after (c.withKey (d.unwrap x seqB aad ct tag zeros) store)
    t.Done m resBadParam [] ∧ t.dev.ciph.keys = d.ciph.keys ∧ t.dev.ciph.sas = d.ciph.sas ∧
      t.dev.bit rCIPH_ERR fCIPH_ERR_UNWRAP_FAIL = true := by
  obtain ⟨hkeys, hsas, hmark⟩ := Dev.unwrap_fails h
  dsimp only
  rw [Cmd.withKey_none store h, hm, State.ciph_after_finish, State.ciphErr_after_finish]
  exact ⟨State.done_after_finish _ _ (by decide) (Nat.zero_le _), hkeys, hsas, hmark⟩

/-! KEY_STATUS (R317). -/

/-- What KEY_STATUS answers of a terminal: both slots' bits, the exponent in force and both counts. -/
def Dev.keyStatus (d : Dev) (h : Nat) : List Byte :=
  let k := d.keyEnt (d.term h).keyIndex
  leB 1 (2 * keyBits (some (d.term h)) k 1) ++ leB 1 (2 * keyBits (some (d.term h)) k 2) ++ leB 1 (d.keyExp k) ++ leB 1 0 ++
    leB 8 k.s1.count ++ leB 8 k.s2.count

theorem Dev.length_keyStatus (d : Dev) (h : Nat) : (d.keyStatus h).length = 20 := by
  simp only [Dev.keyStatus, List.length_append, length_leB]

/-- KEY_STATUS in its basic form is answered and does nothing else. -/
theorem keyStatus_answers {s : State} {m : Fin 64} {c : Cmd} {h : Nat} (hready : s.Ready m 0x0804 c)
    (hterm : s.dev.findTerm (c.u8 0) (c.u16 2) = some h) (hrights : c.isOwner = true ∨ c.caller = some (s.dev.term h).tenant)
    (hflags : c.u8 1 = 0) (hends : c.endsAt 4 = true) :
    ∃ t, exec (.keyStatus m) s = .next t ∧ t.Done m (if s.dev.keyBlocked h then resKeyExhausted else 0) (s.dev.keyStatus h) ∧
      s.OnlyAnswers t m := by
  have hterm' : s.start.findTerm (c.u8 0) (c.u16 2) = some h := hterm
  have hbasic : c.expert 1 = false := by rw [Cmd.expert, hflags]; rfl
  have honly : c.only 1 0x80 = true := by rw [Cmd.only, hflags]; rfl
  refine State.run_query hready ?_ (by split <;> decide) (by rw [Dev.length_keyStatus]; decide)
  rw [← State.start]
  simp only [hterm']
  rw [Cmd.checks_pass, hready.mbx_eq]
  · rfl
  · intro x hx
    simp only [List.mem_cons, List.not_mem_nil, or_false] at hx
    rcases hx with rfl | rfl | rfl
    · exact Cmd.mayExpert_of_basic hbasic
    · exact Cmd.termRights_holds (d := s.start) hrights
    · exact Bool.and_eq_true_iff.mpr ⟨honly, hends⟩

/-! CIPH_KEY_SEL (R311). -/

theorem Dev.Rewrites.keyEnt {P : Nat → Prop} {d e : Dev} (h : Dev.Rewrites P d e) (i : Nat) : e.keyEnt i = d.keyEnt i :=
  (congrArg (Dev.keyEnt · i) h.rest).trans rfl

theorem Dev.rewrites_wr64 {P : Nat → Prop} (d : Dev) {lo hi : Nat} (v : Nat) (hlo : P lo) (hhi : P hi) :
    Dev.Rewrites P d (d.wr64 lo hi v) :=
  (Dev.rewrites_wrN _ _ hlo).trans (Dev.rewrites_wrN _ _ hhi)

/-- A number written to a pair of registers is read back, cut to 64 bits. -/
theorem Dev.rd64_wr64 (d : Dev) {lo hi : Nat} (v : Nat) (h : lo ≠ hi) : (d.wr64 lo hi v).rd64 lo hi = v % 2 ^ 64 := by
  rw [Dev.rd64, Dev.wr64, Dev.rdN_wrN_ne _ _ h, Dev.rdN_wrN_same, Dev.rdN_wrN_same]
  omega

/-- The write of CIPH_KEY_SEL that CIPH_KEY_COPY makes. -/
def keySelWord (i n : Nat) : Nat := 2 ^ 31 + n * 2 ^ 14 + i

/-- The word has GO, and names the slot and the entry. -/
theorem keySelWord_fields {i n : Nat} (hi : i < 16384) (hn : n < 2) : nbit (keySelWord i n) 31 = true ∧
    fieldOf (keySelWord i n) fCIPH_KEY_SEL_INDEX = i ∧ fieldOf (keySelWord i n) fCIPH_KEY_SEL_SLOT = n := by
  simp only [keySelWord, nbit, fieldOf, fCIPH_KEY_SEL_INDEX, fCIPH_KEY_SEL_SLOT, beq_iff_eq]
  omega

/-- The word that CIPH_KEY_INFO shows of slot `n` of entry `i`. -/
def Dev.keyInfo (d : Dev) (i n : Nat) : Nat :=
  keyBits ((d.cat.terms.find? (fun t => t.2.valid && t.2.keyIndex == i)).map Prod.snd) (d.keyEnt i) n * 2 ^ 25 +
    d.slotExp ((d.keyEnt i).slot n) * 2 ^ 19

/-- The device with the state and the count of slot `n` of entry `i` shown. -/
def Dev.keyShown (d : Dev) (i n : Nat) : Dev :=
  (d.wrN rCIPH_KEY_INFO (d.keyInfo i n)).wr64 rCIPH_KEY_COUNT_LO rCIPH_KEY_COUNT_HI ((d.keyEnt i).slot n).count

/-- With GO the selection is stored, and the slot is shown. -/
theorem Dev.writeKeySel_go (d : Dev) {v : Nat} (hgo : nbit v 31 = true) : d.writeKeySel v =
    (d.access rCIPH_KEY_SEL (v % 2 ^ 31)).keyShown (fieldOf v fCIPH_KEY_SEL_INDEX) (fieldOf v fCIPH_KEY_SEL_SLOT + 1) := by
  simp only [Dev.writeKeySel, hgo, Bool.not_true, Bool.false_eq_true, if_false]
  rfl

theorem exec_ciphKeyCopy (i : Fin 16384) (n : Fin 2) (s : State) :
    exec (.ciphKeyCopy i n) s = s.run (fun d => d.writeKeySel (keySelWord i.val n.val)) := by rfl

/-! MACsec associations (R318). -/

/-- A request of the owner names an association entry in form, and the entry is not a transmit entry in use. -/
structure Cmd.NamesSa (c : Cmd) (d : Dev) : Prop where
  owner : c.isOwner = true
  normal : d.ciphNormal = true
  calm : d.ciph.zeroing = false
  kind : c.u8 0 < 2
  group : c.u8 1 < 6
  entry : c.u16 2 < 512
  an : c.u8 6 < 4
  zeros : (c.zero 7 1 && c.zero 0x0C 4 && c.zero 0x1C 4 && c.zero 0x2C 4 && c.zero 0x3C 4) = true
  unused : (d.saEnt (saKey (c.u8 0) (c.u8 1) (c.u16 2))).valid = true → (d.saEnt (saKey (c.u8 0) (c.u8 1) (c.u16 2))).used = false

/-- The number of the association entry that the request names. -/
def Cmd.saNamed (c : Cmd) : Nat := saKey (c.u8 0) (c.u8 1) (c.u16 2)

/-- What KEY_SA_INSTALL makes of its wrapped key. -/
def Cmd.unwrapSa (c : Cmd) (d : Dev) (x : Session) : Option (List Byte) × Dev :=
  d.unwrap x (slice c.req 8 4) (slice c.req 0 0x40) (slice c.req 0x40 32) (slice c.req 0x60 16) 0

/-- The receive association that the request describes. -/
def Cmd.rxSa (c : Cmd) (key : List Byte) : SaEnt :=
  { valid := true, rx := true, an := c.u8 6, sci := beAt c.req 0x10 8, ssci := beAt c.req 0x18 4, salt := slice c.req 0x30 12,
    pn := c.u64 0x20, win := c.u32 0x28, key := key }

section
variable {s : State} {m : Fin 64} {c : Cmd} {x : Session}

/-- An entry that is free, or has not been used, may be written. -/
theorem Cmd.NamesSa.notBusy {d : Dev} (hn : c.NamesSa d) (spent : Bool) :
    (!((d.saEnt c.saNamed).valid && !(d.saEnt c.saNamed).rx && (d.saEnt c.saNamed).used && !spent)) = true := by
  cases hvalid : (d.saEnt c.saNamed).valid with
  | false => rfl
  | true =>
    have hunused : (d.saEnt c.saNamed).used = false := hn.unused hvalid
    rw [hunused, Bool.and_false, Bool.false_and]
    rfl

/-- The form of the request, up to its flags and its end. -/
theorem Cmd.NamesSa.inForm {d : Dev} (hn : c.NamesSa d) (honly : c.only 5 0x83 = true) {ends : Bool} (hends : ends = true) :
    (decide (c.u8 0 < 2) && decide (c.u8 1 < 6) && decide (c.u16 2 < 512) && c.only 5 0x83 && decide (c.u8 6 < 4) && c.zero 7 1 &&
      c.zero 0x0C 4 && c.zero 0x1C 4 && c.zero 0x2C 4 && c.zero 0x3C 4 && ends) = true := by
  have hzeros := hn.zeros
  simp only [Bool.and_eq_true] at hzeros
  obtain ⟨⟨⟨⟨hzero7, hzeroC⟩, hzero1C⟩, hzero2C⟩, hzero3C⟩ := hzeros
  simp [hn.kind, hn.group, hn.entry, hn.an, honly, hzero7, hzeroC, hzero1C, hzero2C, hzero3C, hends]

/-- KEY_SA_INSTALL without VALID clears the entry. -/
theorem keySaInstall_clears (hready : s.Ready m 0x0805 c) (hn : c.NamesSa s.start) (hflags : c.u8 5 = 0) :
    exec (.keySaInstall m) s = .next (s.after ((s.start.setSaEnt c.saNamed {}).finish m.val 0 [])) := by
  have hinvalid : nbit (c.u8 5) 1 = false := by rw [hflags]; rfl
  have honly : c.only 5 0x83 = true := by rw [Cmd.only, hflags]; rfl
  show execKeySaInstall m s = _
  unfold execKeySaInstall
  rw [State.run_command hready, ← State.start]
  simp only [hinvalid, Bool.not_false, Bool.true_or, Bool.and_true, if_true]
  rw [Cmd.checks_pass]
  · rw [Cmd.ok, hready.mbx_eq]
    rfl
  · intro y hy
    simp only [List.mem_cons, List.not_mem_nil, or_false] at hy
    rcases hy with rfl | rfl | rfl | rfl
    · exact hn.owner
    · simp [hn.normal, hn.calm]
    · exact (Bool.and_true _).symm.trans (hn.inForm honly rfl)
    · exact hn.notBusy _

/-- KEY_SA_INSTALL of a receive entry unwraps the key and writes the entry. -/
theorem exec_keySaInstall (hready : s.Ready m 0x0805 c) (hn : c.NamesSa s.start) (hflags : c.u8 5 = 3)
    (hwrap : s.dev.wrapReady = true) (hends : c.endsAt 0x70 = true) (hsession : s.dev.sessionOf c.caller (c.u8 4) = some x) :
    exec (.keySaInstall m) s = .next (s.after (c.withKey (c.unwrapSa s.start x) (fun key e =>
      (e.setSaEnt c.saNamed (c.rxSa key)).finish m.val 0 []))) := by
  have hvalid : nbit (c.u8 5) 1 = true := by rw [hflags]; rfl
  have hrx : nbit (c.u8 5) 0 = true := by rw [hflags]; rfl
  have honly : c.only 5 0x83 = true := by rw [Cmd.only, hflags]; rfl
  have hwrap' : s.start.wrapReady = true := hwrap
  have hsession' : s.start.sessionOf c.caller (c.u8 4) = some x := hsession
  show execKeySaInstall m s = _
  unfold execKeySaInstall
  rw [State.run_command hready, ← State.start]
  simp only [hvalid, hrx, Bool.not_true, Bool.false_or, Bool.false_eq_true, if_false]
  rw [Cmd.checks_pass]
  · simp only [hsession']
    rw [← Cmd.unwrapSa, ← hready.mbx_eq]
    obtain ⟨u, e⟩ := c.unwrapSa s.start x
    cases u <;> rfl
  · intro y hy
    simp only [List.mem_cons, List.not_mem_nil, or_false] at hy
    rcases hy with rfl | rfl | rfl | rfl
    · exact hn.owner
    · simp [hn.normal, hn.calm, hwrap']
    · exact hn.inForm honly hends
    · exact hn.notBusy _

end

/-- Settles O24: each command by the device that it leaves or the answer that it gives; a key that did not unwrap is one argument for
tree keys and associations. -/
theorem keysAreInstalledAndSeen : Obligations.KeysAreInstalledAndSeen := by
  unfold Obligations.KeysAreInstalledAndSeen
  refine ⟨?opens, ?closes, ?cert, ?install, ?status, ?copy, ?sa⟩
  case opens =>
    intro s m c n hready hown hopen hzero hends hwrap hpoint hfree
    refine ⟨_, s.start.sessionNonce, keySession_opens hready hzero hends hown hopen hwrap hpoint hfree, Dev.length_sessionNonce _,
      State.done_after_finish _ _ (by decide) ?_, ?_⟩
    · simp only [List.length_append, length_leB, Dev.length_sessionNonce]; decide
    · rw [State.ciph_after_finish]; rfl
  case closes =>
    intro s m c hready hclose hzero hends hmine
    refine ⟨_, keySession_closes hready hzero hends hclose hmine, State.done_after_finish _ _ (by decide) (Nat.zero_le _), ?_⟩
    rw [State.ciph_after_finish]; rfl
  case cert =>
    intro s m c hready hends
    obtain ⟨t, hexec, hdone, honly⟩ := keyCert_answers hready hends
    exact ⟨t, hexec, honly, hdone⟩
  case install =>
    rintro s m c h x u hready hown hterm hsession hwrap hslot hbig hzero6 hzeroC hexp hzero19 hends halone hkey hcur rfl
    have hn : c.NamesSlot s.start h x :=
      ⟨hown, hterm, hsession, hwrap, hslot, hbig, by simp [hzero6, hzeroC, hzero19, hends], hexp, halone, hkey, hcur⟩
    refine ⟨_, exec_keyInstall hready hn, fun hfails => ?_,
      fun key (hopened : (c.unwrapKey s.start x).1 = some key) => ?_⟩
    · obtain ⟨hdone, hkeys, -, hmark⟩ := State.after_unwrap_fails s hready.mbx_eq hfails _
      exact ⟨hdone, hkeys, hmark⟩
    · rw [Cmd.withKey_some _ hopened, State.keyEnt_after_finish, Cmd.keyInstalled, Dev.keyEnt_setKeyEnt_same]
      refine ⟨State.done_after_finish _ _ (by decide) ?_, KeyEnt.slot_setSlot_same .., KeyEnt.cur_setSlot ..⟩
      simp only [List.length_append, length_leB]; decide
  case status =>
    rintro s m c h k hready hterm hrights hflags hends rfl
    obtain ⟨t, hexec, hdone, honly⟩ := keyStatus_answers hready hterm hrights hflags hends
    exact ⟨t, hexec, honly, hdone⟩
  case copy =>
    intro s i n hs
    obtain ⟨hgo, hindex, hslot⟩ := keySelWord_fields i.isLt n.isLt
    have hcopied := s.start.writeKeySel_go hgo
    have hselected := s.start.rewrites_access rCIPH_KEY_SEL (keySelWord i.val n.val % 2 ^ 31)
    rw [hindex, hslot] at hcopied
    have hshown : Dev.Rewrites (· ∈ [rCIPH_KEY_SEL, rCIPH_KEY_INFO, rCIPH_KEY_COUNT_LO, rCIPH_KEY_COUNT_HI]) s.start
        (s.start.writeKeySel (keySelWord i.val n.val)) := by
      rw [hcopied]
      exact ((Dev.rewrites_access_of _ _ (by simp)).trans (Dev.rewrites_wrN _ _ (by simp))).trans
        (Dev.rewrites_wr64 _ _ (by simp) (by simp))
    refine ⟨_, (exec_ciphKeyCopy i n s).trans (State.run_rewrites hs rfl hshown), ?_, State.onlyChanges_of_rewrites hshown⟩
    rw [hcopied, Dev.keyShown, Dev.rd64_wr64 _ _ (by decide), hselected.keyEnt]
    rfl
  case sa =>
    rintro s m c k hready hown hnormal hcalm hkind hgroup hentry han hzero7 hzeroC hzero1C hzero2C hzero3C rfl hunused
    have hn : c.NamesSa s.start := ⟨hown, hnormal, hcalm, hkind, hgroup, hentry, han,
      by simp [hzero7, hzeroC, hzero1C, hzero2C, hzero3C], hunused⟩
    refine ⟨fun hflags => ?clears, ?installs⟩
    case clears =>
      refine ⟨_, keySaInstall_clears hready hn hflags, State.done_after_finish _ _ (by decide) (Nat.zero_le _), ?_⟩
      exact (State.saEnt_after_finish ..).trans (Dev.saEnt_setSaEnt_same ..)
    case installs =>
      rintro x u hflags hwrap hends hsession rfl
      refine ⟨_, exec_keySaInstall hready hn hflags hwrap hends hsession, fun hfails => ?_,
        fun key (hopened : (c.unwrapSa s.start x).1 = some key) => ?_⟩
      · obtain ⟨hdone, -, hsas, -⟩ := State.after_unwrap_fails s hready.mbx_eq hfails _
        exact ⟨hdone, hsas⟩
      · rw [Cmd.withKey_some _ hopened]
        exact ⟨State.done_after_finish _ _ (by decide) (Nat.zero_le _),
          (State.saEnt_after_finish ..).trans (Dev.saEnt_setSaEnt_same ..)⟩

end Sys2Proof.Machine

/-! The Colander: a pass of the packet that waits longest, the registers of the staging image, and the Edition commands
(11_colander.md R322-R349). -/

namespace Sys2Proof.Machine

/-! Edition slots (R340). -/

theorem Dev.Rewrites.col {P : Nat → Prop} {d e : Dev} (h : Dev.Rewrites P d e) : e.col = d.col :=
  (congrArg Dev.col h.rest).trans rfl

/-- An Edition slot stands where the Colander does. -/
theorem Dev.ed_congr {d e : Dev} (h : e.col = d.col) (i : Nat) : e.ed i = d.ed i := by rw [Dev.ed, Dev.ed, h]

/-- A slot replaced is read back. -/
@[simp] theorem Dev.ed_setEd_same (d : Dev) (i : Nat) (x : Edition) : (d.setEd i x).ed i = x := by
  unfold Dev.ed Dev.setEd
  by_cases h0 : i = 0
  · simp [h0]
  by_cases h1 : i = 1
  · simp [h1]
  by_cases h2 : i = 2
  · simp [h2]
  · simp [h0, h1, h2]

/-- A slot replaced leaves the packets that wait alone. -/
@[simp] theorem Dev.queue_setEd (d : Dev) (i : Nat) (x : Edition) : (d.setEd i x).col.queue = d.col.queue := by
  simp only [Dev.setEd, apply_ite ColState.queue, ite_self]

/-! A pass (R322-R336). -/

theorem exec_colanderPass (s : State) : exec (.colanderPass 0 []) s = s.run Dev.colPass := by rfl

/-- Key bytes 0-2 of a packet whose headers have been walked (R327). -/
def ColPkt.keyHead (c : ColPkt) (w : Walk) : List Byte :=
  leB 1 c.pkt.src ++ leB 1 c.pkt.tenant ++ leB 1 (w.flags c.pkt.yellow c.recirc)

/-- The keys of a packet's pass, outermost level first (R327). -/
def ColPkt.passKeys (c : ColPkt) (w : Walk) : List (List Byte) :=
  w.levels.reverse.map (levelKey (c.keyHead w) (w.levels.length - 1) c.pkt.metaV c.pass)

/-- The packet's pass under the matched rule of an index. -/
def ColPkt.matched (c : ColPkt) (w : Walk) (i : Nat) : Pass := ⟨c, c.passKeys w, c.keyHead w, i⟩

/-- The device with other packets waiting. -/
def Dev.withQueue (d : Dev) (q : List ColPkt) : Dev := { d with col := { d.col with queue := q } }

/-- The device with what the walk of the headers found counted (R325, R348). -/
def Dev.walkCounted (d : Dev) (w : Walk) : Dev :=
  ((d.when w.depthExceeded (fun d => d.bump (rCOL_CNT 2))).when w.lengthMismatch (fun d => d.bump (rCOL_CNT 3))).when w.parseError
    (fun d => d.bump (rCOL_CNT 4))

/-- The counters of the walk. -/
abbrev walkRegs : List Nat := [rCOL_CNT 2, rCOL_CNT 3, rCOL_CNT 4]

theorem Dev.rewrites_walkCounted (d : Dev) (w : Walk) : Dev.Rewrites (· ∈ walkRegs) d (d.walkCounted w) := by
  have hcount : ∀ (e : Dev) (b : Bool) (a : Nat), a ∈ walkRegs → Dev.Rewrites (· ∈ walkRegs) e (e.when b (fun e => e.bump a)) :=
    fun e b a ha => .ite (Dev.rewrites_bumpBy e 1 ha) (.refl ..)
  exact ((hcount _ _ _ (by simp)).trans (hcount _ _ _ (by simp))).trans (hcount _ _ _ (by simp))

section
variable {d : Dev} {c : ColPkt} {rest : List ColPkt}

/-- With nothing waiting a pass does nothing. -/
theorem Dev.colPass_idle (h : d.col.queue = []) : d.colPass = d := by simp only [Dev.colPass, h]

/-- The packet at the front leaves the queue, its headers are walked, and the first matching rule of its Edition is carried out (R328). -/
theorem Dev.colPass_applies {w : Walk} {i : Nat} {rule : List Byte} (hq : d.col.queue = c :: rest)
    (hw : w = parseFrame d.parseCfg c.pkt.bytes c.first) (hdef : (d.ed c.slot).defFlags = false)
    (hrule : (d.ed c.slot).firstRule (c.passKeys w) = some (i, rule)) :
    d.colPass = ((d.withQueue rest).walkCounted w).colApply (c.matched w i) w rule := by
  subst hw
  have hed : ((d.withQueue rest).walkCounted (parseFrame d.parseCfg c.pkt.bytes c.first)).ed c.slot = d.ed c.slot :=
    (Dev.ed_congr (Dev.rewrites_walkCounted ..).col _).trans rfl
  have hcfg : (d.withQueue rest).parseCfg = d.parseCfg := rfl
  simp only [Dev.walkCounted, Dev.withQueue, ColPkt.passKeys, ColPkt.keyHead] at hed hrule hcfg
  simp only [Dev.colPass, hq, hcfg, hed, hdef, hrule, Bool.false_and, Bool.false_eq_true, if_false]
  rfl

/-- A rule that drops its packets (R329, R331). -/
theorem Dev.colApply_drops (d : Dev) (x : Pass) (w : Walk) {rule : List Byte} (h : byteAt rule 129 = 1) :
    d.colApply x w rule = d.colGone x.cp := by
  simp only [Dev.colApply, h]; rfl

/-- A rule that sends its packets round again as they are (R329, R331). -/
theorem Dev.colApply_recirculates (d : Dev) (x : Pass) (w : Walk) {rule : List Byte} (h : byteAt rule 129 = 8) :
    d.colApply x w rule = d.colRecirc x w false (byteAt rule 128 % 4) := by
  simp only [Dev.colApply, h]; rfl

/-- A packet discarded is an event, and leaves its slot's in-flight count (R341). -/
theorem Dev.rewrites_colGone (d : Dev) (c : ColPkt) : Dev.Rewrites inCnt (d.colLeave c) (d.colGone c) := Dev.rewrites_evc ..

/-- A packet sent round again below MAX_PASS is counted and waits for its next pass (R334). -/
theorem Dev.colRecirc_waits {x : Pass} (h : x.cp.pass + 1 < d.maxPass) (w : Walk) (lvl : Nat) : d.colRecirc x w false lvl =
    (d.bump (rCOL_CNT 1)).withQueue (d.col.queue ++ [{ x.cp with pass := x.cp.pass + 1, recirc := true }]) := by
  simp only [Dev.colRecirc, if_neg (Nat.not_le.mpr h)]; rfl

end

section
variable {s : State} (hs : s.Runs) {c : ColPkt} {rest : List ColPkt} {w : Walk} {i : Nat} {rule : List Byte}
  (hq : s.dev.col.queue = c :: rest) (hw : w = parseFrame s.dev.parseCfg c.pkt.bytes c.first)
  (hdef : (s.dev.ed c.slot).defFlags = false) (hrule : (s.dev.ed c.slot).firstRule (c.passKeys w) = some (i, rule))
include hs hq hw hdef hrule

/-- A dropped packet leaves the queue and its slot's in-flight count (R331, R341). -/
theorem colanderPass_drops (hdrop : byteAt rule 129 = 1) : ∃ t, exec (.colanderPass 0 []) s = .next t ∧ t.dev.col.queue = rest ∧
    t.dev.ed c.slot = { s.dev.ed c.slot with inflight := (s.dev.ed c.slot).inflight - 1 } := by
  obtain ⟨-, hreplies, hwipes⟩ := id hs
  have hwalk := (s.start.withQueue rest).rewrites_walkCounted w
  have hgone := ((s.start.withQueue rest).walkCounted w).rewrites_colGone c
  have hpass : s.start.colPass = ((s.start.withQueue rest).walkCounted w).colGone c :=
    (Dev.colPass_applies (d := s.start) hq hw hdef hrule).trans (Dev.colApply_drops _ _ _ hdrop)
  refine ⟨_, (exec_colanderPass s).trans (State.run_next hs hpass ?replies ?wipes), ?queue, ?slot⟩
  case replies => exact hgone.replies.trans (hwalk.replies.trans hreplies)
  case wipes => exact hgone.wipes.trans (hwalk.wipes.trans hwipes)
  case queue => rw [hgone.col, Dev.colLeave, Dev.queue_setEd, hwalk.col]; rfl
  case slot => rw [Dev.ed_congr hgone.col, Dev.colLeave, Dev.ed_setEd_same, Dev.ed_congr hwalk.col]; rfl

/-- A packet sent round again joins the end of the queue, and the recirculation is counted (R331, R334). -/
theorem colanderPass_recirculates (hround : byteAt rule 129 = 8) (hlimit : c.pass + 1 < s.dev.maxPass) :
    ∃ t, exec (.colanderPass 0 []) s = .next t ∧ t.dev.col.queue = rest ++ [{ c with pass := c.pass + 1, recirc := true }] ∧
      s.Counts t (rCOL_CNT 1) 1 := by
  obtain ⟨-, hreplies, hwipes⟩ := id hs
  have hwalk := (s.start.withQueue rest).rewrites_walkCounted w
  have hmax : ((s.start.withQueue rest).walkCounted w).maxPass = s.dev.maxPass :=
    congrArg (fun n => min 4 (max 1 n)) (Dev.get_congr (hwalk.rd rCOL_CTRL (by decide)) _)
  have hpass : s.start.colPass = (((s.start.withQueue rest).walkCounted w).bump (rCOL_CNT 1)).withQueue
      (((s.start.withQueue rest).walkCounted w).col.queue ++ [{ c with pass := c.pass + 1, recirc := true }]) :=
    (Dev.colPass_applies (d := s.start) hq hw hdef hrule).trans ((Dev.colApply_recirculates _ _ _ hround).trans
      (Dev.colRecirc_waits (x := c.matched w i) (Nat.lt_of_lt_of_eq hlimit hmax.symm) _ _))
  refine ⟨_, (exec_colanderPass s).trans (State.run_next hs hpass ?replies ?wipes), ?queue, ?counts⟩
  case replies => exact hwalk.replies.trans hreplies
  case wipes => exact hwalk.wipes.trans hwipes
  case queue => exact congrArg (·.queue ++ _) hwalk.col
  case counts =>
    have hbefore := Dev.rdN_congr (hwalk.rd (rCOL_CNT 1) (by decide))
    exact (((s.start.withQueue rest).walkCounted w).rdN_bumpBy_same (rCOL_CNT 1) 1).trans (congrArg (fun n => (n + 1) % 2 ^ 31) hbefore)

end


/-! Numbers read from byte strings. -/

/-- A little-endian number of `n` bytes is below 256^n. -/
theorem leAt_lt (bs : List Byte) (i n : Nat) : leAt bs i n < 256 ^ n := by
  induction n generalizing i with
  | zero => exact Nat.one_pos
  | succ n ih =>
    have hbyte : byteAt bs i < 256 := (bs.getD i 0#8).isLt
    have hrest := ih (i + 1)
    rw [leAt, Nat.pow_succ]
    omega

/-! The staging image opened, replaced or closed. -/

@[simp] theorem Dev.staging_setStaging (d : Dev) (x : Option Staging) : (d.setStaging x).col.staging = x := (rfl)
@[simp] theorem Dev.replies_setStaging (d : Dev) (x : Option Staging) : (d.setStaging x).replies = d.replies := (rfl)
@[simp] theorem Dev.wipes_setStaging (d : Dev) (x : Option Staging) : (d.setStaging x).wipes = d.wipes := (rfl)

/-! Direct access to the staging image (R345, R347). -/

/-- The write of COL_STAGE_CMD that COL_STAGE_READ and COL_STAGE_WRITE make. -/
def stageWord (write : Bool) (kind idx : Nat) : Nat := 2 ^ 30 + b2n write * 2 ^ 29 + kind * 2 ^ 28 + idx

/-- The word has GO, and names the direction, the kind and the entry. -/
theorem stageWord_fields (write : Bool) {kind idx : Nat} (hkind : kind < 2) (hidx : idx < 131072) :
    nbit (stageWord write kind idx) 30 = true ∧ (fieldOf (stageWord write kind idx) fCOL_STAGE_CMD_WRITE == 1) = write ∧
    fieldOf (stageWord write kind idx) fCOL_STAGE_CMD_KIND = kind ∧ fieldOf (stageWord write kind idx) fCOL_STAGE_CMD_INDEX = idx := by
  simp only [stageWord, nbit, fieldOf, fCOL_STAGE_CMD_WRITE, fCOL_STAGE_CMD_KIND, fCOL_STAGE_CMD_INDEX, beq_iff_eq]
  cases write
  · simp only [b2n, Bool.false_eq_true, if_false, beq_eq_false_iff_ne]; omega
  · simp only [b2n, if_true, beq_iff_eq]; omega

theorem exec_colStageRead (kind : Fin 2) (i : Fin 131072) (s : State) :
    exec (.colStageRead kind i) s = s.run (fun d => d.writeStageCmd (stageWord false kind.val i.val)) := by rfl

theorem exec_colStageWrite (kind : Fin 2) (i : Fin 131072) (s : State) :
    exec (.colStageWrite kind i) s = s.run (fun d => d.writeStageCmd (stageWord true kind.val i.val)) := by rfl

/-- The device with a command stored in COL_STAGE_CMD, and GO clear again. -/
def Dev.stageNamed (d : Dev) (v : Nat) : Dev := (d.access rCOL_STAGE_CMD v).put rCOL_STAGE_CMD fCOL_STAGE_CMD_GO 0

/-- The device with the first `n` words of an entry in COL_STAGE_DATA. -/
def Dev.stageShown (d : Dev) (e : List Byte) (n : Nat) : Dev :=
  (List.range n).foldl (fun d i => d.wrN (rCOL_STAGE_DATA i) (leAt e (4 * i) 4)) d

section
variable (d : Dev)

theorem Dev.rewrites_stageNamed {P : Nat → Prop} (v : Nat) (h : P rCOL_STAGE_CMD) : Dev.Rewrites P d (d.stageNamed v) :=
  (d.rewrites_access_of v h).trans (Dev.rewrites_put _ _ _ h)

/-- A command stored leaves the Colander beside its registers alone. -/
theorem Dev.col_stageNamed (v : Nat) : (d.stageNamed v).col = d.col := (d.rewrites_stageNamed (P := fun _ => True) v trivial).col

/-- A command stored leaves the words in COL_STAGE_DATA alone. -/
theorem Dev.stageData_stageNamed (v n : Nat) : (d.stageNamed v).stageData n = d.stageData n := by
  have hnamed := d.rewrites_stageNamed (P := (· = rCOL_STAGE_CMD)) v rfl
  have hword : ∀ i, (d.stageNamed v).rdN (rCOL_STAGE_DATA i) = d.rdN (rCOL_STAGE_DATA i) := fun i =>
    Dev.rdN_congr (hnamed.rd _ (by simp only [rCOL_STAGE_DATA, rCOL_STAGE_CMD]; omega))
  simp only [Dev.stageData, hword]

/-- GO does the access that the word names. -/
theorem Dev.writeStageCmd_go (write : Bool) {kind idx : Nat} (hkind : kind < 2) (hidx : idx < 131072) :
    d.writeStageCmd (stageWord write kind idx) = (d.stageNamed (stageWord write kind idx)).stageAccess write kind idx := by
  obtain ⟨hgo, hwrite, hk, hi⟩ := stageWord_fields write hkind hidx
  simp only [Dev.writeStageCmd, hgo, hwrite, hk, hi, if_true]
  rfl

theorem Dev.rewrites_stageShown {P : Nat → Prop} (e : List Byte) (n : Nat) (h : ∀ i, P (rCOL_STAGE_DATA i)) :
    Dev.Rewrites P d (d.stageShown e n) :=
  .foldl (fun d i _ => Dev.rewrites_wrN d _ (h i)) d

/-- Data word `i` holds word `i` of the entry: the words written after it stand at other addresses. -/
theorem Dev.rdN_stageShown (e : List Byte) {i n : Nat} (hi : i < n) :
    (d.stageShown e n).rdN (rCOL_STAGE_DATA i) = leAt e (4 * i) 4 := by
  induction n with
  | zero => exact absurd hi (Nat.not_lt_zero i)
  | succ n ih =>
    have hlast : d.stageShown e (n + 1) = (d.stageShown e n).wrN (rCOL_STAGE_DATA n) (leAt e (4 * n) 4) := by
      simp only [Dev.stageShown, List.range_succ, List.foldl_append, List.foldl_cons, List.foldl_nil]
    rw [hlast]
    by_cases heq : i = n
    · rw [heq, Dev.rdN_wrN_same]
      exact Nat.mod_eq_of_lt (leAt_lt e (4 * n) 4)
    · rw [Dev.rdN_wrN_ne _ _ (by simp only [rCOL_STAGE_DATA]; omega), ih (by omega)]

/-- The end of an access writes COL_STAGE_CMD and, for a refused write, COL_ERR. -/
theorem Dev.rewrites_stageDone {P : Nat → Prop} (write : Bool) (r : Nat) (hcmd : P rCOL_STAGE_CMD) (herr : write = true → P rCOL_ERR) :
    Dev.Rewrites P d (d.stageDone write r) := by
  refine (Dev.rewrites_put d fCOL_STAGE_CMD_REASON r hcmd).trans ?_
  cases write with
  | false => exact .refl ..
  | true => exact .ite (Dev.rewrites_mark _ _ (herr rfl)) (.refl ..)

/-- The end of an access shows its REASON. -/
theorem Dev.reason_stageDone (write : Bool) {r : Nat} (hr : r < 8) : (d.stageDone write r).get rCOL_STAGE_CMD fCOL_STAGE_CMD_REASON = r := by
  refine (Dev.when_keeps (Dev.get · rCOL_STAGE_CMD fCOL_STAGE_CMD_REASON)
    (fun e => Dev.get_put_ne e fCOL_ERR_STAGE_REFUSED _ 1 (by decide)) ..).trans ?_
  rw [Dev.get_put_same _ _ _ (by decide)]
  exact Nat.mod_eq_of_lt hr

/-- A refused write marks COL_ERR. -/
theorem Dev.refused_stageDone {r : Nat} (hr : r ≠ 0) : (d.stageDone true r).bit rCOL_ERR fCOL_ERR_STAGE_REFUSED = true := by
  rw [Dev.stageDone, Dev.when, if_pos (by simpa using hr), Dev.bit_mark_same _ _ rfl (by decide)]

end

section
variable {d : Dev} {st : Staging} {kind idx : Nat}

/-- Without a staging image every access is refused. -/
theorem Dev.stageAccess_closed (h : d.col.staging = none) (write : Bool) : d.stageAccess write kind idx = d.stageDone write 4 := by
  simp only [Dev.stageAccess, h]

/-- A reading shows the entry. -/
theorem Dev.stageAccess_reads (h : d.col.staging = some st) (hidx : idx < entryLimit kind) :
    d.stageAccess false kind idx = (d.stageShown (st.entry kind idx) (entrySize kind / 4)).stageDone false 0 := by
  simp only [Dev.stageAccess, h, Bool.false_eq_true, if_false, if_neg (Nat.not_le.mpr hidx), Dev.stageShown]

/-- A writing of a lawful entry writes it. -/
theorem Dev.stageAccess_writes (h : d.col.staging = some st) (hok : entryReason kind idx (d.stageData (entrySize kind)) = 0) :
    d.stageAccess true kind idx = (d.setStaging (some (st.put kind idx (d.stageData (entrySize kind))))).stageDone true 0 := by
  simp only [Dev.stageAccess, h, hok, if_true, Dev.when, beq_self_eq_true]

/-- A writing of an unlawful entry shows why. -/
theorem Dev.stageAccess_refuses (h : d.col.staging = some st) (hbad : entryReason kind idx (d.stageData (entrySize kind)) ≠ 0) :
    d.stageAccess true kind idx = d.stageDone true (entryReason kind idx (d.stageData (entrySize kind))) := by
  simp only [Dev.stageAccess, h, if_true, Dev.when, beq_eq_false_iff_ne.mpr hbad, Bool.false_eq_true, if_false]

end

theorem ruleReason_lt (r : List Byte) : ruleReason r < 8 := by
  unfold ruleReason
  dsimp only
  split
  · decide
  · split <;> decide

theorem actionReason_lt (a : List Byte) : actionReason a < 8 := by
  unfold actionReason
  split <;> decide

/-- A REASON fits its field. -/
theorem entryReason_lt (kind idx : Nat) (e : List Byte) : entryReason kind idx e < 8 := by
  unfold entryReason
  split
  · decide
  · split
    · exact ruleReason_lt e
    · exact actionReason_lt e

section
variable {s : State} (hs : s.Runs) (kind : Fin 2) (i : Fin 131072)
include hs

/-- An access to the staging image that rewrites registers alone, from the command stored on, takes place as it is. -/
theorem State.run_stageAccess {P : Nat → Prop} {write : Bool} {e : Dev} (hcmd : P rCOL_STAGE_CMD)
    (he : (s.start.stageNamed (stageWord write kind.val i.val)).stageAccess write kind.val i.val = e)
    (h : Dev.Rewrites P (s.start.stageNamed (stageWord write kind.val i.val)) e) :
    s.run (fun d => d.writeStageCmd (stageWord write kind.val i.val)) = .next { s with dev := e } ∧ Dev.Rewrites P s.start e :=
  have hall := (s.start.rewrites_stageNamed (stageWord write kind.val i.val) hcmd).trans h
  ⟨State.run_rewrites hs ((s.start.writeStageCmd_go write kind.isLt i.isLt).trans he) hall, hall⟩

/-- COL_STAGE_READ without a staging image shows REASON 4. -/
theorem colStageRead_closed (hnone : s.dev.col.staging = none) : ∃ t, exec (.colStageRead kind i) s = .next t ∧
    t.dev.get rCOL_STAGE_CMD fCOL_STAGE_CMD_REASON = 4 ∧ s.OnlyChanges t [rCOL_STAGE_CMD] s.dev := by
  have hclosed : (s.start.stageNamed (stageWord false kind.val i.val)).col.staging = none :=
    (congrArg ColState.staging (Dev.col_stageNamed ..)).trans hnone
  obtain ⟨hrun, hall⟩ := State.run_stageAccess hs kind i (P := (· ∈ [rCOL_STAGE_CMD])) (by simp)
    (Dev.stageAccess_closed hclosed false) (Dev.rewrites_stageDone _ false 4 (by simp) (by simp))
  exact ⟨_, (exec_colStageRead kind i s).trans hrun, Dev.reason_stageDone _ false (by decide), State.onlyChanges_of_rewrites hall⟩

/-- COL_STAGE_WRITE without a staging image is refused with REASON 4. -/
theorem colStageWrite_closed (hnone : s.dev.col.staging = none) : ∃ t, exec (.colStageWrite kind i) s = .next t ∧
    t.dev.get rCOL_STAGE_CMD fCOL_STAGE_CMD_REASON = 4 ∧ t.dev.bit rCOL_ERR fCOL_ERR_STAGE_REFUSED = true ∧
    s.OnlyChanges t [rCOL_STAGE_CMD, rCOL_ERR] s.dev := by
  have hclosed : (s.start.stageNamed (stageWord true kind.val i.val)).col.staging = none :=
    (congrArg ColState.staging (Dev.col_stageNamed ..)).trans hnone
  obtain ⟨hrun, hall⟩ := State.run_stageAccess hs kind i (P := (· ∈ [rCOL_STAGE_CMD, rCOL_ERR])) (by simp)
    (Dev.stageAccess_closed hclosed true) (Dev.rewrites_stageDone _ true 4 (by simp) (by simp))
  exact ⟨_, (exec_colStageWrite kind i s).trans hrun, Dev.reason_stageDone _ true (by decide), Dev.refused_stageDone _ (by decide),
    State.onlyChanges_of_rewrites hall⟩

variable {st : Staging} (hst : s.dev.col.staging = some st)
include hst

/-- COL_STAGE_READ copies the entry's words to COL_STAGE_DATA. -/
theorem colStageRead_shows (hidx : i.val < entryLimit kind.val) : ∃ t, exec (.colStageRead kind i) s = .next t ∧
    t.dev.get rCOL_STAGE_CMD fCOL_STAGE_CMD_REASON = 0 ∧
    ∀ w < entrySize kind.val / 4, t.dev.rdN (rCOL_STAGE_DATA w) = leAt (st.entry kind.val i.val) (4 * w) 4 := by
  have hopen : (s.start.stageNamed (stageWord false kind.val i.val)).col.staging = some st :=
    (congrArg ColState.staging (Dev.col_stageNamed ..)).trans hst
  obtain ⟨hrun, -⟩ := State.run_stageAccess hs kind i (P := fun _ => True) trivial (Dev.stageAccess_reads hopen hidx)
    ((Dev.rewrites_stageShown _ _ _ fun _ => trivial).trans (Dev.rewrites_stageDone _ false 0 trivial (by simp)))
  refine ⟨_, (exec_colStageRead kind i s).trans hrun, Dev.reason_stageDone _ false (by decide), fun w hw => ?_⟩
  have hdone := ((s.start.stageNamed (stageWord false kind.val i.val)).stageShown (st.entry kind.val i.val)
    (entrySize kind.val / 4)).rewrites_stageDone (P := (· = rCOL_STAGE_CMD)) false 0 rfl (by simp)
  have hkept := Dev.rdN_congr (hdone.rd (rCOL_STAGE_DATA w) (by simp only [rCOL_STAGE_DATA, rCOL_STAGE_CMD]; omega))
  exact hkept.trans (Dev.rdN_stageShown _ _ hw)

/-- COL_STAGE_WRITE of a lawful entry writes it. -/
theorem colStageWrite_writes (hok : entryReason kind.val i.val (s.dev.stageData (entrySize kind.val)) = 0) :
    ∃ t, exec (.colStageWrite kind i) s = .next t ∧ t.dev.get rCOL_STAGE_CMD fCOL_STAGE_CMD_REASON = 0 ∧
      t.dev.col.staging = some (st.put kind.val i.val (s.dev.stageData (entrySize kind.val))) := by
  obtain ⟨-, hreplies, hwipes⟩ := id hs
  have hnamed := s.start.rewrites_stageNamed (P := fun _ => True) (stageWord true kind.val i.val) trivial
  have hopen : (s.start.stageNamed (stageWord true kind.val i.val)).col.staging = some st :=
    (congrArg ColState.staging (Dev.col_stageNamed ..)).trans hst
  have hdata : (s.start.stageNamed (stageWord true kind.val i.val)).stageData (entrySize kind.val) = s.dev.stageData (entrySize kind.val) :=
    Dev.stageData_stageNamed ..
  have haccess := Dev.stageAccess_writes hopen ((congrArg (entryReason kind.val i.val) hdata).trans hok)
  have hdone := ((s.start.stageNamed (stageWord true kind.val i.val)).setStaging
    (some (st.put kind.val i.val (s.dev.stageData (entrySize kind.val))))).rewrites_stageDone (P := fun _ => True) true 0 trivial
    (fun _ => trivial)
  rw [hdata] at haccess
  refine ⟨_, (exec_colStageWrite kind i s).trans (State.run_next hs
    ((s.start.writeStageCmd_go true kind.isLt i.isLt).trans haccess) ?replies ?wipes), Dev.reason_stageDone _ true (by decide), ?staging⟩
  case replies => exact hdone.replies.trans ((Dev.replies_setStaging ..).trans (hnamed.replies.trans hreplies))
  case wipes => exact hdone.wipes.trans ((Dev.wipes_setStaging ..).trans (hnamed.wipes.trans hwipes))
  case staging => rw [hdone.col, Dev.staging_setStaging]

/-- COL_STAGE_WRITE of an unlawful entry shows why, marks the refusal and writes nothing. -/
theorem colStageWrite_refuses (hbad : entryReason kind.val i.val (s.dev.stageData (entrySize kind.val)) ≠ 0) :
    ∃ t, exec (.colStageWrite kind i) s = .next t ∧
      t.dev.get rCOL_STAGE_CMD fCOL_STAGE_CMD_REASON = entryReason kind.val i.val (s.dev.stageData (entrySize kind.val)) ∧
      t.dev.bit rCOL_ERR fCOL_ERR_STAGE_REFUSED = true ∧ t.dev.col = s.dev.col := by
  have hopen : (s.start.stageNamed (stageWord true kind.val i.val)).col.staging = some st :=
    (congrArg ColState.staging (Dev.col_stageNamed ..)).trans hst
  have hreason : entryReason kind.val i.val ((s.start.stageNamed (stageWord true kind.val i.val)).stageData (entrySize kind.val)) =
      entryReason kind.val i.val (s.dev.stageData (entrySize kind.val)) :=
    congrArg (entryReason kind.val i.val) (Dev.stageData_stageNamed ..)
  have haccess := Dev.stageAccess_refuses hopen (fun hnone => hbad (hreason.symm.trans hnone))
  rw [hreason] at haccess
  obtain ⟨hrun, hall⟩ := State.run_stageAccess hs kind i (P := fun _ => True) trivial haccess
    (Dev.rewrites_stageDone _ true _ trivial fun _ => trivial)
  exact ⟨_, (exec_colStageWrite kind i s).trans hrun, Dev.reason_stageDone _ true (entryReason_lt ..), Dev.refused_stageDone _ hbad,
    hall.col⟩

end

/-- Settles O26, clause by clause: a pass is the walk of the packet's headers and then the first matching rule, and an access to the
staging image is the command stored and then the entry shown, written or refused. -/
theorem packetsPassTheColander : Obligations.PacketsPassTheColander := by
  unfold Obligations.PacketsPassTheColander
  refine ⟨fun s hs hempty => ?idle, ?passes, fun s kind i hs => ⟨fun hnone => ?closed, ?opened⟩⟩
  case idle =>
    exact ⟨_, (exec_colanderPass s).trans (State.run_rewrites hs (Dev.colPass_idle (d := s.start) hempty) (.refl (· ∈ []) _)),
      State.onlyChanges_of_rewrites (.refl ..)⟩
  case passes =>
    rintro s c rest w keys i rule hs hq hw rfl hdef hrule
    exact ⟨colanderPass_drops hs hq hw hdef hrule, colanderPass_recirculates hs hq hw hdef hrule⟩
  case closed => exact ⟨colStageRead_closed hs kind i hnone, colStageWrite_closed hs kind i hnone⟩
  case opened =>
    rintro st r hst rfl
    exact ⟨colStageRead_shows hs kind i hst, colStageWrite_writes hs kind i hst, colStageWrite_refuses hs kind i hst⟩

/-! The Edition commands (R342-R344, R349). -/

/-- A ready command whose body ends by answering its mailbox. -/
theorem State.run_answers {s : State} {m : Fin 64} {code : Nat} {c : Cmd} {r : Nat} {resp : List Byte} {e : Dev}
    (h : s.Ready m code c) {body : Cmd → Dev → Dev} (hbody : body c s.start = e.finish c.mbx r resp) :
    s.run (fun d => d.command m.val code body) = .next (s.after (e.finish m.val r resp)) := by
  rw [h.mbx_eq] at hbody
  rw [State.run_command h, ← State.start, hbody, State.after]

section
variable (s : State) (e : Dev) (r : Nat) (resp : List Byte)

/-- An answer leaves the Colander alone. -/
theorem State.col_after_finish (m : Nat) : (s.after (e.finish m r resp)).dev.col = e.col :=
  (deliver_col _).trans (e.finish_col m r resp)

/-- An answer leaves the registers from the Colander's block on alone. -/
theorem State.rdN_after_finish (m : Fin 64) {a : Nat} (ha : rCOL_CTRL ≤ a) : (s.after (e.finish m.val r resp)).dev.rdN a = e.rdN a := by
  have hm := m.isLt
  simp only [rCOL_CTRL] at ha
  rw [State.after, deliver_rdN, Dev.rdN_congr (e.rd_finish m.val r resp ?link ?status ?info)]
  case link => simp only [rGLK_CNT]; omega
  case status => simp only [rMBX_STATUS]; omega
  case info => simp only [rMBX_INFO]; omega

end

/-- Two registers written one after the other are both read back. -/
theorem Dev.rdN_wrN_pair (d : Dev) {a b v w : Nat} (hne : a ≠ b) (hv : v < 2 ^ 32) (hw : w < 2 ^ 32) :
    ((d.wrN a v).wrN b w).rdN a = v ∧ ((d.wrN a v).wrN b w).rdN b = w := by
  rw [Dev.rdN_wrN_ne _ _ hne, Dev.rdN_wrN_same, Dev.rdN_wrN_same]
  exact ⟨Nat.mod_eq_of_lt hv, Nat.mod_eq_of_lt hw⟩

/-- The Edition that a commit makes of a staging image (R342, R343). -/
def CommitReq.edition (q : CommitReq) (st : Staging) : Edition :=
  { state := 1, number := q.number, digest := editionDigest q st, defFlags := q.defFlags, miss := q.miss, ruleCount := q.rules,
    actionCount := q.actions, rules := skeep (fun i => decide (i < q.rules)) st.rules,
    actions := skeep (fun i => decide (i < q.actions)) st.actions }

/-- What a commit asks of an image to be lawful (R343). -/
structure CommitReq.Lawful (q : CommitReq) (st : Staging) (highest : Nat) : Prop where
  rules : q.rules ≤ 16384
  actions : q.actions ≤ 65536
  number : highest < q.number
  digest : q.digest = 0
  reach : actionsReach q st = false

/-- The device with a slot pending and its number the highest. -/
def Dev.committed (d : Dev) (q : CommitReq) (st : Staging) (k : Nat) : Dev :=
  { d.setEd k (q.edition st) with col := { (d.setEd k (q.edition st)).col with highest := q.number } }

theorem Dev.ed_committed (d : Dev) (q : CommitReq) (st : Staging) (k : Nat) : (d.committed q st k).ed k = q.edition st :=
  d.ed_setEd_same k _

/-- A lawful commit with no slot pending takes a free slot. -/
theorem Dev.commitEdition_pends {d : Dev} {q : CommitReq} {st : Staging} {k : Nat} (hst : d.col.staging = some st)
    (hpend : d.pendSlot = none) (hfree : (List.range 4).find? (fun i => (d.ed i).state == 0) = some k)
    (hq : q.Lawful st d.col.highest) : d.commitEdition q = (resOk, k, d.committed q st k) := by
  obtain ⟨hrules, hactions, hnumber, hdigest, hreach⟩ := hq
  have hlawful : ¬(16384 < q.rules ∨ 65536 < q.actions ∨ q.number ≤ d.col.highest ∨
      (q.digest ≠ 0 ∧ q.digest ≠ editionDigest q st) ∨ actionsReach q st = true) := by
    rintro (h | h | h | ⟨h, -⟩ | h)
    · omega
    · omega
    · omega
    · exact h hdigest
    · exact Bool.false_ne_true (hreach.symm.trans h)
  simp only [Dev.commitEdition, hst, hpend, hfree, Option.isSome_none, Bool.false_eq_true, if_false, if_neg hlawful]
  rfl

/-- What a commit request asks (R349). -/
def Cmd.commitReq (c : Cmd) (defFlags : Bool) : CommitReq :=
  ⟨defFlags, c.u32 4, c.u32 8, c.u32 0x0C, c.u64 0x10, leAt c.req 0x18 16⟩

/-- What EDITION_STATUS answers of the four slots. -/
def Dev.editionStatus (d : Dev) : List Byte :=
  (List.range 4).flatMap (fun i => leB 1 (d.ed i).state ++ leB 3 0 ++ leB 4 (d.ed i).inflight ++ leB 8 (d.ed i).number ++
    leB 16 (d.ed i).digest)

theorem Dev.length_editionStatus (d : Dev) : d.editionStatus.length = 128 := by
  simp [Dev.editionStatus, length_leB, List.range_succ]

section
variable {s : State} {m : Fin 64} {c : Cmd} (hown : c.isOwner = true)
include hown

/-- EDITION_OPEN opens an empty staging image where none is open. -/
theorem exec_editionOpen (h : s.Ready m 0x0501 c) (hflags : c.u8 0 = 0) (hends : c.endsAt 1 = true) (hnone : s.dev.col.staging = none) :
    exec (.editionOpen m) s = .next (s.after ((s.start.setStaging (some ⟨[], []⟩)).finish m.val 0 [])) := by
  have honly : c.only 0 0x83 = true := by rw [Cmd.only, hflags]; rfl
  have hclosed : s.start.col.staging = none := hnone
  refine State.run_answers h ((Cmd.checks_pass c s.start ?checks _).trans ?runs)
  case checks => simp [Cmd.mustOwn, inForm, hown, honly, hends, hclosed]
  case runs => rw [hflags]; rfl

/-- EDITION_WRITE of one lawful entry writes it. -/
theorem exec_editionWrite {st : Staging} (h : s.Ready m 0x0502 c) (hst : s.dev.col.staging = some st) (hkind : c.u8 0 < 2)
    (hone : c.u8 1 = 1) (hlen : 6 + entrySize (c.u8 0) ≤ c.req.length) (hends : c.endsAt (6 + entrySize (c.u8 0)) = true)
    (hok : entryReason (c.u8 0) (leAt c.req 2 4) (slice c.req 6 (entrySize (c.u8 0))) = 0) :
    exec (.editionWrite m) s = .next (s.after ((s.start.setStaging
      (some (st.put (c.u8 0) (leAt c.req 2 4) (slice c.req 6 (entrySize (c.u8 0)))))).finish m.val 0 [])) := by
  have hopen : s.start.col.staging = some st := hst
  have hroom : 1 ≤ if c.u8 0 = 0 then 6 else 63 := by split <;> decide
  refine State.run_answers h ((Cmd.checks_pass c s.start ?checks _).trans ?runs)
  case checks => simp [Cmd.mustOwn, hown]
  case runs => simp [hopen, hone, hkind, hroom, hlen, hends, hok, Cmd.ok, resOk]

/-- EDITION_COMMIT, held, of a lawful image makes the free slot pending and answers it and the digest. -/
theorem exec_editionCommit {st : Staging} {k : Nat} (h : s.Ready m 0x0503 c) (hst : s.dev.col.staging = some st) (hhold : c.u8 0 = 2)
    (hzero : c.zero 1 3 = true) (hends : c.endsAt 0x28 = true) (hpend : s.dev.pendSlot = none)
    (hfree : (List.range 4).find? (fun i => (s.dev.ed i).state == 0) = some k)
    (hq : (c.commitReq false).Lawful st s.dev.col.highest) :
    exec (.editionCommit m) s = .next (s.after ((s.start.committed (c.commitReq false) st k).finish m.val 0
      (leB 1 k ++ leB 3 0 ++ leB 16 (editionDigest (c.commitReq false) st) ++ leB 8 0))) := by
  have honly : c.only 0 0x83 = true := by rw [Cmd.only, hhold]; rfl
  have hbasic : c.expert 0 = false := by rw [Cmd.expert, hhold]; rfl
  have hcommit : s.start.commitEdition (c.commitReq false) = (resOk, k, s.start.committed (c.commitReq false) st k) :=
    Dev.commitEdition_pends hst hpend hfree hq
  have hflags : nbit 2 0 = false ∧ nbit 2 1 = true := by decide
  simp only [Cmd.commitReq] at hcommit
  refine State.run_answers h ((Cmd.checks_pass c s.start ?checks _).trans ?runs)
  case checks => simp [Cmd.mustOwn, inForm, hown, honly, hzero, hbasic, hends]
  case runs =>
    simp only [hhold, hflags, hcommit, ne_eq, not_true_eq_false, if_false, if_true, Dev.ed_committed]
    rfl

/-- EDITION_ABORT closes the staging image. -/
theorem exec_editionAbort_stage (h : s.Ready m 0x0504 c) (hends : c.endsAt 1 = true) (hstage : c.u8 0 = 0)
    (hopen : s.dev.col.staging ≠ none) : exec (.editionAbort m) s = .next (s.after ((s.start.setStaging none).finish m.val 0 [])) := by
  have hsome : s.start.col.staging.isSome = true := Option.isSome_iff_ne_none.mpr hopen
  refine State.run_answers h ((Cmd.checks_pass c s.start ?checks _).trans ?runs)
  case checks => simp [Cmd.mustOwn, inForm, hown, hends, hstage, hsome]
  case runs => rw [hstage]; rfl

/-- EDITION_ABORT empties the pending slot. -/
theorem exec_editionAbort_pending {k : Nat} (h : s.Ready m 0x0504 c) (hends : c.endsAt 1 = true) (hslot : c.u8 0 = 1)
    (hpend : s.dev.pendSlot = some k) : exec (.editionAbort m) s = .next (s.after ((s.start.setEd k {}).finish m.val 0 [])) := by
  have hpend' : s.start.pendSlot = some k := hpend
  refine State.run_answers h ((Cmd.checks_pass c s.start ?checks _).trans ?runs)
  case checks => simp [Cmd.mustOwn, inForm, hown, hends, hslot, hpend']
  case runs => rw [hslot, hpend']; rfl

/-- EDITION_STATUS answers the four slots and does nothing else. -/
theorem editionStatus_answers (h : s.Ready m 0x0505 c) (hends : c.endsAt 0 = true) :
    ∃ t, exec (.editionStatus m) s = .next t ∧ t.Done m 0 s.dev.editionStatus ∧ s.OnlyAnswers t m := by
  refine State.run_query h ((Cmd.checks_pass c s.start ?checks _).trans ?runs) (by decide) (by rw [Dev.length_editionStatus]; decide)
  case checks => simp [Cmd.mustOwn, inForm, hown, hends]
  case runs => rw [Cmd.ok, h.mbx_eq]; rfl

end

/-- The device with an exception class's RATE and CTRL as EDITION_EXC asks. -/
def Cmd.excWritten (c : Cmd) (d : Dev) : Dev :=
  (d.wrN (rCOL_EXC_RATE (c.u8 0)) (c.u32 4)).wrN (rCOL_EXC_CTRL (c.u8 0)) (c.u8 1 * 2 ^ 31 + c.u16 8)

/-- The device with a mirror session's DEST and CTRL as EDITION_MIRROR asks. -/
def Cmd.mirrorWritten (c : Cmd) (d : Dev) : Dev :=
  (d.wrN (rCOL_MIR_DEST (c.u8 0)) (c.u8 1 * 2 ^ 24 + c.u32 4)).wrN (rCOL_MIR_CTRL (c.u8 0)) (c.u16 8 * 65536 + c.u16 0x0A)

section
variable {c : Cmd} (d : Dev)

/-- EDITION_EXC's words are read back, and the class's counters stand. -/
theorem Cmd.rdN_excWritten (hen : c.u8 1 < 2) (hrate : c.u32 4 < 2 ^ 24) :
    (c.excWritten d).rdN (rCOL_EXC_RATE (c.u8 0)) = c.u32 4 ∧
    (c.excWritten d).rdN (rCOL_EXC_CTRL (c.u8 0)) = c.u8 1 * 2 ^ 31 + c.u16 8 ∧
    (c.excWritten d).rdN (rCOL_EXC_SENT (c.u8 0)) = d.rdN (rCOL_EXC_SENT (c.u8 0)) ∧
    (c.excWritten d).rdN (rCOL_EXC_DROPPED (c.u8 0)) = d.rdN (rCOL_EXC_DROPPED (c.u8 0)) := by
  have hburst : c.u16 8 < 256 ^ 2 := leAt_lt ..
  have hpair := d.rdN_wrN_pair (a := rCOL_EXC_RATE (c.u8 0)) (b := rCOL_EXC_CTRL (c.u8 0)) (v := c.u32 4)
    (w := c.u8 1 * 2 ^ 31 + c.u16 8) (by simp only [rCOL_EXC_RATE, rCOL_EXC_CTRL]; omega) (by omega) (by omega)
  refine ⟨hpair.1, hpair.2, ?_, ?_⟩
  · exact (Dev.rdN_wrN_ne _ _ (by simp only [rCOL_EXC_SENT, rCOL_EXC_CTRL]; omega)).trans
      (Dev.rdN_wrN_ne _ _ (by simp only [rCOL_EXC_SENT, rCOL_EXC_RATE]; omega))
  · exact (Dev.rdN_wrN_ne _ _ (by simp only [rCOL_EXC_DROPPED, rCOL_EXC_CTRL]; omega)).trans
      (Dev.rdN_wrN_ne _ _ (by simp only [rCOL_EXC_DROPPED, rCOL_EXC_RATE]; omega))

/-- EDITION_MIRROR's words are read back. -/
theorem Cmd.rdN_mirrorWritten (htarget : c.u32 4 < 2 ^ 24) :
    (c.mirrorWritten d).rdN (rCOL_MIR_DEST (c.u8 0)) = c.u8 1 * 2 ^ 24 + c.u32 4 ∧
    (c.mirrorWritten d).rdN (rCOL_MIR_CTRL (c.u8 0)) = c.u16 8 * 65536 + c.u16 0x0A := by
  have hflags := c.u8_lt 1
  have hsample : c.u16 8 < 256 ^ 2 := leAt_lt ..
  have htrunc : c.u16 0x0A < 256 ^ 2 := leAt_lt ..
  exact Dev.rdN_wrN_pair d (by simp only [rCOL_MIR_DEST, rCOL_MIR_CTRL]; omega) (by omega) (by omega)

end

section
variable {s : State} {m : Fin 64} {c : Cmd} (hown : c.isOwner = true) (hk : c.u8 0 < 16) (hzero : c.zero 2 2 = true) (h24 : c.u32 4 < 2 ^ 24)
include hown hk hzero h24

/-- EDITION_EXC writes a class's registers and answers them with its counters. -/
theorem exec_editionExc (h : s.Ready m 0x0506 c) (hen : c.u8 1 < 2) (hends : c.endsAt 0x0A = true) :
    exec (.editionExc m) s = .next (s.after ((c.excWritten s.start).finish m.val 0
      (leB 4 (c.u32 4) ++ leB 4 (c.u8 1 * 2 ^ 31 + c.u16 8) ++ leB 4 (s.dev.rdN (rCOL_EXC_SENT (c.u8 0))) ++
        leB 4 (s.dev.rdN (rCOL_EXC_DROPPED (c.u8 0)))))) := by
  obtain ⟨hrate, hctrl, hsent, hdropped⟩ := Cmd.rdN_excWritten s.start hen h24
  refine State.run_answers h ((Cmd.checks_pass c s.start ?checks _).trans ?runs)
  case checks => simpa [Cmd.mustOwn, inForm, hown, hk, hen, hzero, hends] using h24
  case runs =>
    unfold Cmd.excWritten at *
    simp only [hrate, hctrl, hsent, hdropped]
    rfl

/-- EDITION_MIRROR writes a session's registers and answers them. -/
theorem exec_editionMirror (h : s.Ready m 0x0507 c) (honly : c.only 1 0xE0 = true) (hkind : c.u8 1 / 32 % 4 ≠ 3)
    (hends : c.endsAt 0x0C = true) : exec (.editionMirror m) s = .next (s.after ((c.mirrorWritten s.start).finish m.val 0
      (leB 4 (c.u8 1 * 2 ^ 24 + c.u32 4) ++ leB 4 (c.u16 8 * 65536 + c.u16 0x0A)))) := by
  obtain ⟨hdest, hctrl⟩ := Cmd.rdN_mirrorWritten s.start h24
  refine State.run_answers h ((Cmd.checks_pass c s.start ?checks _).trans ?runs)
  case checks => simpa [Cmd.mustOwn, inForm, hown, hk, honly, hkind, hzero, hends] using h24
  case runs =>
    unfold Cmd.mirrorWritten at *
    simp only [hdest, hctrl]
    rfl

end

/-- Settles O27, command by command: each runs past its checks, and the answer delivered leaves what it made of the Colander. -/
theorem editionsAreStagedAndCommitted : Obligations.EditionsAreStagedAndCommitted := by
  unfold Obligations.EditionsAreStagedAndCommitted
  intro s m c hown
  refine ⟨?opens, ?writes, ?commits, ?aborts, ?status, ?exc, ?mirror⟩
  case opens =>
    intro h hflags hends hnone
    exact ⟨_, exec_editionOpen hown h hflags hends hnone, State.done_after_finish _ _ (by decide) (by decide), State.col_after_finish ..⟩
  case writes =>
    intro st h hst hkind hone hlen hends hok
    exact ⟨_, exec_editionWrite hown h hst hkind hone hlen hends hok, State.done_after_finish _ _ (by decide) (by decide),
      State.col_after_finish ..⟩
  case commits =>
    intro st q k h hst hhold hzero hends hpend hfree hreq hrules hactions hnumber hdigest hreach
    obtain rfl : q = c.commitReq false := hreq
    have hed : ∀ r resp, (s.after ((s.start.committed (c.commitReq false) st k).finish m.val r resp)).dev.ed k =
        (c.commitReq false).edition st := fun r resp => (Dev.ed_congr (State.col_after_finish ..) k).trans (Dev.ed_committed ..)
    refine ⟨_, exec_editionCommit hown h hst hhold hzero hends hpend hfree ⟨hrules, hactions, hnumber, hdigest, hreach⟩,
      State.done_after_finish _ _ (by decide) ?length, by rw [hed]; rfl, by rw [hed]; rfl, by rw [hed]; rfl,
      by rw [State.col_after_finish]; rfl⟩
    simp only [List.length_append, length_leB]; decide
  case aborts =>
    refine fun h hends => ⟨fun hstage hopen => ?stage, fun k hslot hpend => ?pending⟩
    case stage =>
      exact ⟨_, exec_editionAbort_stage hown h hends hstage hopen, State.done_after_finish _ _ (by decide) (by decide),
        State.col_after_finish ..⟩
    case pending =>
      exact ⟨_, exec_editionAbort_pending hown h hends hslot hpend, State.done_after_finish _ _ (by decide) (by decide),
        (Dev.ed_congr (State.col_after_finish ..) k).trans (Dev.ed_setEd_same ..)⟩
  case status =>
    intro h hends
    obtain ⟨t, hexec, hdone, honly⟩ := editionStatus_answers hown h hends
    exact ⟨t, hexec, honly, hdone⟩
  case exc =>
    intro h hk hen hzero hrate hends
    obtain ⟨hrate', hctrl, -⟩ := Cmd.rdN_excWritten s.start hen hrate
    refine ⟨_, exec_editionExc hown hk hzero hrate h hen hends,
      (State.rdN_after_finish _ _ _ _ m (by simp only [rCOL_CTRL, rCOL_EXC_RATE]; omega)).trans hrate',
      (State.rdN_after_finish _ _ _ _ m (by simp only [rCOL_CTRL, rCOL_EXC_CTRL]; omega)).trans hctrl,
      State.done_after_finish _ _ (by decide) ?_⟩
    simp only [List.length_append, length_leB]; decide
  case mirror =>
    intro h hk honly hkind hzero htarget hends
    obtain ⟨hdest, hctrl⟩ := Cmd.rdN_mirrorWritten s.start htarget
    refine ⟨_, exec_editionMirror hown hk hzero htarget h honly hkind hends,
      (State.rdN_after_finish _ _ _ _ m (by simp only [rCOL_CTRL, rCOL_MIR_DEST]; omega)).trans hdest,
      (State.rdN_after_finish _ _ _ _ m (by simp only [rCOL_CTRL, rCOL_MIR_CTRL]; omega)).trans hctrl,
      State.done_after_finish _ _ (by decide) ?_⟩
    simp only [List.length_append, length_leB]; decide

end Sys2Proof.Machine

/-! The forwarding tables: their configuration, entries put in and taken out, searches, learning and the sweep
(12_forwarding.md R351-R379). -/

namespace Sys2Proof.Machine

/-! What the operations of the tables leave alone: beside the tables they write registers of their block below its counters. -/

/-- The address lies in the forwarding block below its counters (R376). -/
abbrev inFwdRegs (a : Nat) : Prop := 0x150000 ≤ a ∧ a < 0x151400

theorem rFWD_CNT_not_inFwdRegs (i : Nat) : ¬inFwdRegs (rFWD_CNT i) := by
  unfold rFWD_CNT
  omega

theorem Dev.Rewrites.fwd {P : Nat → Prop} {d e : Dev} (h : Dev.Rewrites P d e) : e.fwd = d.fwd :=
  (congrArg Dev.fwd h.rest).trans rfl

/-- The exact-match memory stands where the tables do. -/
theorem Dev.slotF_congr {d e : Dev} (h : e.fwd = d.fwd) (k : Nat) : e.slotF k = d.slotF k := by rw [Dev.slotF, Dev.slotF, h]

/-- A change of the tables beside a change of registers. -/
theorem Dev.Rewrites.withFwd {P : Nat → Prop} {d e : Dev} (h : Dev.Rewrites P d e) (f : FwdState) :
    Dev.Rewrites P { d with fwd := f } { e with fwd := f } := by
  refine ⟨h.rd, ?_⟩
  have hrest := h.rest
  generalize e.regs = r at hrest
  subst hrest
  rfl

section
variable (d : Dev)

/-- The tenant that a PORT charges is one of the sixteen. -/
theorem Dev.portTenant_lt {port n : Nat} (h : d.portTenant port = some n) : n < 16 := by
  simp only [Dev.portTenant, Option.ite_none_right_eq_some, Bool.and_eq_true, decide_eq_true_eq, Option.some.injEq] at h
  obtain ⟨-, ⟨-, hlt⟩, rfl⟩ := h
  exact hlt

theorem Dev.rewrites_useEntry (e : FwdEnt) (into : Bool) : Dev.Rewrites inFwdRegs d (d.useEntry e into) := by
  unfold Dev.useEntry
  split
  · next n _ hn =>
    have hlt := d.portTenant_lt hn
    exact Dev.rewrites_put _ _ _ (by unfold rFWD_TEN_USE; omega)
  · exact .refl ..

theorem Dev.rewrites_fwdShow : Dev.Rewrites inFwdRegs d d.fwdShow := by
  unfold Dev.fwdShow
  refine ((((Dev.rewrites_put _ _ _ (by decide)).trans (Dev.rewrites_put _ _ _ (by decide))).trans
    (Dev.rewrites_put _ _ _ (by decide))).trans (Dev.rewrites_put _ _ _ (by decide))).trans (.foldl (fun e n hn => ?_) _)
  have hlt := List.mem_range.mp hn
  exact Dev.rewrites_put _ _ _ (by unfold rFWD_TBL_USED; omega)

theorem Dev.rewrites_fwdRecount : Dev.Rewrites inFwdRegs d d.fwdRecount := by
  unfold Dev.fwdRecount
  refine Dev.Rewrites.trans (.foldl (fun e n hn => ?_) _) (.foldl (fun e x _ => ?_) _)
  · have hlt := List.mem_range.mp hn
    exact Dev.rewrites_put _ _ _ (by unfold rFWD_TEN_USE; omega)
  · split
    · exact e.rewrites_useEntry ..
    · exact .refl ..

/-- An entry placed and shown is its slot written, and registers of the block. -/
theorem Dev.rewrites_placeEnt (k : Nat) (e : FwdEnt) : Dev.Rewrites inFwdRegs (d.setSlotF k (some e)) (d.placeEnt k e).fwdShow :=
  (Dev.rewrites_useEntry _ e true).trans (Dev.rewrites_fwdShow _)

/-- A slot that held an entry is cleared, and registers of the block are written. -/
theorem Dev.rewrites_clearEnt {k : Nat} {e : FwdEnt} (h : d.slotF k = some e) :
    Dev.Rewrites inFwdRegs (d.setSlotF k none) (d.clearEnt k) := by
  have huse := d.rewrites_useEntry e false
  have hclear : d.clearEnt k = { d.useEntry e false with fwd := (d.setSlotF k none).fwd } := by
    simp only [Dev.clearEnt, h, Dev.setSlotF, huse.fwd]
  rw [hclear]
  exact huse.withFwd _

/-- A slot cleared is empty. -/
theorem Dev.slotF_clearEnt (k : Nat) : (d.clearEnt k).slotF k = none := by
  cases h : d.slotF k with
  | none => simp only [Dev.clearEnt, h]
  | some e => rw [Dev.slotF_congr (d.rewrites_clearEnt h).fwd, Dev.slotF_setSlotF_same]

end

/-! Configuration (R354, R356, R375). -/

theorem exec_fwdTblWrite (n : Fin 16) (val : Word) (s : State) :
    exec (.fwdTblWrite n 0 val) s = s.run (fun d => d.writeTbl n.val 0 val.toNat) := by rfl
theorem exec_fwdHashSeedWrite (val : Word) (s : State) :
    exec (.fwdHashSeedWrite val) s = s.run (fun d => d.writeSeed val.toNat) := by rfl
theorem exec_fwdReady (s : State) : exec .fwdReady s = s.run (fun d => if d.fwdReady then d else
    ({ d with fwd := {} }.fwdRecount.fwdShow).mark rFWD_STATUS fFWD_STATUS_READY) := by rfl

/-- A register written with what it holds reads as before. -/
theorem Dev.rd_wrN_held {d : Dev} {a v : Nat} (h : d.rdN a = v) (b : Nat) : (d.wrN a v).rd b = d.rd b := by
  by_cases hb : b = a
  · subst hb
    rw [Dev.rd_wrN_same, ← h, Dev.rdN, BitVec.ofNat_toNat, BitVec.setWidth_eq]
  · exact Dev.rd_wrN_ne _ _ hb

/-- The device with a table's CFG written, and its two SELECT words written with what they hold. -/
def Dev.cfgWritten (d : Dev) (n v : Nat) : Dev :=
  ((d.access (rFWD_TBL_CFG n) v).wrN (rFWD_TBL_SELECT_LO n) (d.rdN (rFWD_TBL_SELECT_LO n))).wrN (rFWD_TBL_SELECT_HI n)
    (d.rdN (rFWD_TBL_SELECT_HI n))

section
variable (d : Dev) (n v : Nat)

/-- The SELECT words stand, so only CFG is seen to change. -/
theorem Dev.rd_cfgWritten (a : Nat) : (d.cfgWritten n v).rd a = (d.access (rFWD_TBL_CFG n) v).rd a := by
  have hstore := d.rewrites_access (rFWD_TBL_CFG n) v
  have hlo : (d.access (rFWD_TBL_CFG n) v).rdN (rFWD_TBL_SELECT_LO n) = d.rdN (rFWD_TBL_SELECT_LO n) :=
    Dev.rdN_congr (hstore.rd _ (by unfold rFWD_TBL_SELECT_LO rFWD_TBL_CFG; omega))
  have hhi : (d.access (rFWD_TBL_CFG n) v).rdN (rFWD_TBL_SELECT_HI n) = d.rdN (rFWD_TBL_SELECT_HI n) :=
    Dev.rdN_congr (hstore.rd _ (by unfold rFWD_TBL_SELECT_HI rFWD_TBL_CFG; omega))
  unfold Dev.cfgWritten
  rw [Dev.rd_wrN_held ((Dev.rdN_congr (Dev.rd_wrN_held hlo _)).trans hhi), Dev.rd_wrN_held hlo]

theorem Dev.rewrites_cfgWritten : Dev.Rewrites (· ∈ [rFWD_TBL_CFG n]) d (d.cfgWritten n v) := by
  refine ⟨fun a ha => (d.rd_cfgWritten n v a).trans ((d.rewrites_access _ v).rd a (by simpa using ha)), ?_⟩
  exact (((d.rewrites_access_of (P := fun _ => True) v trivial).trans (Dev.rewrites_wrN _ _ trivial)).trans
    (Dev.rewrites_wrN _ _ trivial)).rest

theorem Dev.rdN_cfgWritten : (d.cfgWritten n v).rdN (rFWD_TBL_CFG n) = d.stored (rFWD_TBL_CFG n) v :=
  (Dev.rdN_congr (d.rd_cfgWritten n v _)).trans (Dev.rdN_access_same ..)

/-- A write of CFG that R354 admits stores it; of the tables only the start of aging may change beside it (R368). -/
theorem Dev.writeTbl_stores (h : d.tblRefused n v (d.rdN (rFWD_TBL_SELECT_LO n)) (d.rdN (rFWD_TBL_SELECT_HI n)) = false) :
    ∃ f, d.writeTbl n 0 v = { d.cfgWritten n v with fwd := f } := by
  have hset : d.writeTbl n 0 v = d.tblSet n v (d.rdN (rFWD_TBL_SELECT_LO n)) (d.rdN (rFWD_TBL_SELECT_HI n)) := by
    simp [Dev.writeTbl, h]
  rw [hset, Dev.tblSet, ← Dev.cfgWritten]
  split
  · exact ⟨_, rfl⟩
  · exact ⟨_, rfl⟩

theorem Dev.writeTbl_refuses (h : d.tblRefused n v (d.rdN (rFWD_TBL_SELECT_LO n)) (d.rdN (rFWD_TBL_SELECT_HI n)) = true) :
    d.writeTbl n 0 v = d.mark rFWD_ERR fFWD_ERR_CFG_BUSY := by
  simp [Dev.writeTbl, h]

/-- No exact table holds an entry. -/
def Dev.noExactEntry : Prop := ∀ n < 16, d.tblExact n = true → d.get (rFWD_TBL_USED n) fFWD_TBL_USED_USED = 0

theorem Dev.writeSeed_stores (h : d.noExactEntry) : d.writeSeed v = d.wrN rFWD_HASH_SEED v := by
  refine if_neg ?_
  simp only [List.any_eq_true, List.mem_range, Bool.and_eq_true, bne_iff_ne, not_exists, not_and, not_not]
  exact fun n hn => h n hn

theorem Dev.writeSeed_refuses {n : Nat} (hn : n < 16) (hexact : d.tblExact n = true)
    (hused : d.get (rFWD_TBL_USED n) fFWD_TBL_USED_USED ≠ 0) : d.writeSeed v = d.mark rFWD_ERR fFWD_ERR_CFG_BUSY := by
  refine if_pos (List.any_eq_true.mpr ⟨n, List.mem_range.mpr hn, ?_⟩)
  simp [hexact, hused]

end

section
variable {s : State} (hs : s.Runs)
include hs

theorem fwdTblWrite_stores {n : Fin 16} {val : Word}
    (h : s.dev.tblRefused n.val val.toNat (s.dev.rdN (rFWD_TBL_SELECT_LO n.val)) (s.dev.rdN (rFWD_TBL_SELECT_HI n.val)) = false) :
    ∃ t, exec (.fwdTblWrite n 0 val) s = .next t ∧
      t.dev.rdN (rFWD_TBL_CFG n.val) = s.dev.stored (rFWD_TBL_CFG n.val) val.toNat ∧
      s.OnlyChanges t [rFWD_TBL_CFG n.val] { s.dev with fwd := t.dev.fwd } := by
  obtain ⟨f, hwrite⟩ := s.start.writeTbl_stores n.val val.toNat h
  have hstore := (s.start.rewrites_cfgWritten n.val val.toNat).withFwd f
  exact ⟨_, (exec_fwdTblWrite n val s).trans (State.run_next hs hwrite (hstore.replies.trans hs.2.1)
    (hstore.wipes.trans hs.2.2)),
    s.start.rdN_cfgWritten n.val val.toNat, State.onlyChanges_into rfl hstore⟩

theorem fwdHashSeedWrite_stores (val : Word) (h : s.dev.noExactEntry) :
    ∃ t, exec (.fwdHashSeedWrite val) s = .next t ∧ t.dev.rd rFWD_HASH_SEED = val ∧
      s.OnlyChanges t [rFWD_HASH_SEED] s.dev := by
  have hstore := s.start.rewrites_wrN val.toNat (List.mem_singleton_self rFWD_HASH_SEED)
  refine ⟨_, (exec_fwdHashSeedWrite val s).trans (State.run_rewrites hs (s.start.writeSeed_stores _ h) hstore), ?_,
    State.onlyChanges_of_rewrites hstore⟩
  rw [Dev.rd_wrN_same, BitVec.ofNat_toNat, BitVec.setWidth_eq]

/-- The tables' start empties them and shows READY (R375). -/
theorem fwdReady_empties (h : s.dev.fwdReady = false) :
    ∃ t, exec .fwdReady s = .next t ∧ t.dev.fwd = {} ∧ t.dev.fwdReady = true := by
  have hnot : s.start.fwdReady = false := h
  have hshow := ((Dev.rewrites_fwdRecount { s.start with fwd := {} }).trans (Dev.rewrites_fwdShow _)).trans
    (Dev.rewrites_mark _ fFWD_STATUS_READY (by decide : inFwdRegs rFWD_STATUS))
  refine ⟨_, (exec_fwdReady s).trans (State.run_next hs (by rw [hnot]; rfl) (hshow.replies.trans hs.2.1)
    (hshow.wipes.trans hs.2.2)),
    hshow.fwd, Dev.bit_mark_same _ _ rfl (by decide)⟩

end

/-! Table commands from a mailbox (R378). -/

theorem fwdChecks_pass {d : Dev} {cs : List (Bool × Nat)} (hready : d.fwdReady = true) (h : ∀ x ∈ cs, x.1 = true)
    (run : FwdRes) : fwdChecks d cs run = run := by
  have hall : ((d.fwdReady, resNotReady) :: cs).find? (fun x => !x.1) = none := by
    simpa [hready] using h
  simp only [fwdChecks, hall]

section
variable {s : State} {m : Fin 64} {code : Nat} {c : Cmd} {f : Cmd → Dev → FwdRes} {resp : List Byte}

/-- A ready table command answers its result. -/
theorem State.run_fwdCommand {e : Dev} (h : s.Ready m code c) (hf : f c s.start = ⟨resOk, resp, e⟩) :
    s.run (fun d => d.fwdCommand m.val code f) = .next (s.after (e.finish m.val 0 resp)) :=
  State.run_answers (body := fun c d => (f c d).dev.finish c.mbx (f c d).code (f c d).resp) h (by rw [hf]; rfl)

/-- A ready table command that leaves the device as it is only answers. -/
theorem State.run_fwdQuery (h : s.Ready m code c) (hf : f c s.start = ⟨resOk, resp, s.start⟩) (hl : resp.length ≤ 0x800) :
    ∃ t, s.run (fun d => d.fwdCommand m.val code f) = .next t ∧ s.OnlyAnswers t m ∧ t.Done m 0 resp := by
  have hbody : (f c s.start).dev.finish c.mbx (f c s.start).code (f c s.start).resp = s.start.finish m.val 0 resp := by
    rw [hf, h.mbx_eq]; rfl
  obtain ⟨t, hexec, hdone, honly⟩ := State.run_query (body := fun c d => (f c d).dev.finish c.mbx (f c d).code (f c d).resp)
    h hbody (by decide) hl
  exact ⟨t, hexec, honly, hdone⟩

/-- An answer leaves the tables alone. -/
theorem State.fwd_after_finish (e : Dev) (r : Nat) : (s.after (e.finish m.val r resp)).dev.fwd = e.fwd :=
  (deliver_fwd _).trans (e.finish_fwd ..)

end

/-- FWD_TABLE's query answers the table's configuration and use. -/
theorem fwdTable_query {c : Cmd} {d : Dev} (hown : c.isOwner = true) (hready : d.fwdReady = true) (hn : c.u8 0 < 16)
    (hquery : c.u8 1 = 1) (hzero : c.zero 2 2 = true) (hends : c.endsAt 0x10 = true) : fwdTable c d =
      ⟨resOk, leB 4 (d.rdN (rFWD_TBL_CFG (c.u8 0))) ++ leB 4 (d.rdN (rFWD_TBL_USED (c.u8 0))), d⟩ := by
  have honly : c.only 1 0x81 = true := by rw [Cmd.only, hquery]; rfl
  have hbit : nbit (c.u8 1) 0 = true := by rw [hquery]; rfl
  simp only [fwdTable, hbit]
  exact fwdChecks_pass hready (by simp [Cmd.mustOwn, inForm, hown, hn, honly, hzero, hends]) _

theorem exec_fwdTable (m : Fin 64) (s : State) :
    exec (.fwdTable m) s = s.run (fun d => d.fwdCommand m.val 0x0607 fwdTable) := by rfl

/-- Settles O29: the query answers, a write either stores or marks CFG_BUSY, and the start empties the tables. -/
theorem tablesAreConfigured : Obligations.TablesAreConfigured := by
  unfold Obligations.TablesAreConfigured
  refine ⟨?query, fun s n val hs => ⟨fwdTblWrite_stores hs, fun h => ?refused⟩,
    fun s val hs => ⟨fwdHashSeedWrite_stores hs val, fun n hn hexact hused => ?busy⟩, fun s hs h => fwdReady_empties hs h⟩
  case query =>
    intro s m c h hown hready hn hquery hzero hends
    exact State.run_fwdQuery h (fwdTable_query hown hready hn hquery hzero hends) (by simp [length_leB])
  case refused =>
    rw [exec_fwdTblWrite]
    exact State.run_marks hs rfl (by decide) (s.start.writeTbl_refuses n.val val.toNat h)
  case busy =>
    rw [exec_fwdHashSeedWrite]
    exact State.run_marks hs rfl (by decide) (s.start.writeSeed_refuses val.toNat hn hexact hused)

end Sys2Proof.Machine

/-! The entries of the forwarding tables: how they come and go (12_forwarding.md R357, R358, R364, R367, R368, R378). -/

namespace Sys2Proof.Machine

/-! Slots (R356-R358). -/

@[simp] theorem Dev.setSlotF_replies (d : Dev) (k : Nat) (x : Option FwdEnt) : (d.setSlotF k x).replies = d.replies := (rfl)
@[simp] theorem Dev.setSlotF_wipes (d : Dev) (k : Nat) (x : Option FwdEnt) : (d.setSlotF k x).wipes = d.wipes := (rfl)

section
variable {d : Dev}

/-- The free slot of a key's first bucket is one of the buckets' slots, which lie before the overflow store's. -/
theorem Dev.freeSlot_lt_ovfBase {tbl k : Nat} {key : List Byte} (h : d.freeSlot (d.buckets tbl key).1 false = some k) :
    k < ovfBase := by
  have hbucket : (d.buckets tbl key).1 < 2 ^ 18 := Nat.mod_lt _ (by decide)
  simp only [Dev.freeSlot, Bool.false_eq_true, if_false, Option.map_eq_some_iff] at h
  obtain ⟨i, hi, rfl⟩ := h
  have hslot := List.mem_range.mp (List.mem_of_find?_eq_some hi)
  unfold ovfBase
  omega

theorem Dev.placeBytes_bucket {k : Nat} (h : k < ovfBase) : d.placeBytes (some k) = (leB 4 (k / 4) ++ leB 1 (k % 4), d) :=
  if_pos h

/-- An absent key goes to the free slot of its first bucket, with no move (R358). -/
theorem Dev.fwdPlace_first {e : FwdEnt} {k : Nat} (noMove : Bool) (h : d.freeSlot (d.buckets e.tbl e.key).1 e.wide = some k) :
    d.fwdPlace e noMove = (some (0, 0, k), (d.placeEnt k e).fwdShow) := by
  simp only [Dev.fwdPlace, h]

/-- A flush of the lone entry that passes its test. -/
theorem Dev.fwdFlush_lone {p : FwdEnt → Bool} {k : Nat} {e : FwdEnt} (hslots : d.fwd.slots = [(k, some e)]) (hp : p e = true) :
    d.fwdFlush p = (1, ((d.clearEnt k).bumpBy (rFWD_CNT 10) 1).fwdShow) := by
  simp [Dev.fwdFlush, hslots, hp]

/-- Such a flush leaves no entry, and is counted (R377). -/
theorem Dev.fwdFlush_lone_empties {p : FwdEnt → Bool} {k : Nat} {e : FwdEnt} (hslots : d.fwd.slots = [(k, some e)])
    (hp : p e = true) : (d.fwdFlush p).2.fwd.slots = [] ∧
      (d.fwdFlush p).2.rdN (rFWD_CNT 10) % 2 ^ 31 = (d.rdN (rFWD_CNT 10) + 1) % 2 ^ 31 := by
  have hheld : d.slotF k = some e := by simp [Dev.slotF, hslots, sget]
  have hclear := d.rewrites_clearEnt hheld
  have hshow := ((d.clearEnt k).bumpBy (rFWD_CNT 10) 1).rewrites_fwdShow
  rw [Dev.fwdFlush_lone hslots hp]
  constructor
  · have hfwd : ((d.clearEnt k).bumpBy (rFWD_CNT 10) 1).fwd = (d.setSlotF k none).fwd := hclear.fwd
    rw [hshow.fwd, hfwd]
    simp [Dev.setSlotF, hslots, sset, noSlotF, sdel]
  · have hkept : (d.clearEnt k).rdN (rFWD_CNT 10) = d.rdN (rFWD_CNT 10) :=
      Dev.rdN_congr (hclear.rd _ (rFWD_CNT_not_inFwdRegs 10))
    rw [Dev.rdN_congr (hshow.rd _ (rFWD_CNT_not_inFwdRegs 10)), Dev.rdN_bumpBy_same, hkept]

end

/-! Requests of the table commands (R378). -/

/-- Where a run of bytes is 0, so is every run within it. -/
theorem Cmd.zero_within {c : Cmd} {i n j l : Nat} (h : c.zero i n = true) (hlo : i ≤ j) (hhi : j + l ≤ i + n) :
    c.zero j l = true := by
  simp only [Cmd.zero, List.all_eq_true, List.mem_range, beq_iff_eq] at h ⊢
  intro k hk
  have hat := h (j - i + k) (by omega)
  rwa [show i + (j - i + k) = j + k by omega] at hat

/-- A request of the owner, with no flag set, to tables that are ready. -/
structure Cmd.PlainFwd (c : Cmd) (d : Dev) : Prop where
  owner : c.isOwner = true
  ready : d.fwdReady = true
  flags : c.u8 1 = 0
  pad : c.zero 0x0B 1 = true
  ends : c.endsAt 0x28 = true

/-- Such a request names an enabled table of narrow keys. -/
structure Cmd.NamesNarrow (c : Cmd) (d : Dev) : Prop where
  plain : c.PlainFwd d
  lt : c.u8 0 < 16
  en : d.tblEn (c.u8 0) = true
  kind : d.tblKind (c.u8 0) = 0

/-- The narrow key of a request. -/
def Cmd.narrowKey (c : Cmd) : List Byte := slice c.req 0x0C 8

section
variable {c : Cmd} {d : Dev}

theorem Cmd.PlainFwd.flag (h : c.PlainFwd d) (i : Nat) : nbit (c.u8 1) i = false := by
  rw [h.flags, nbit_eq_testBit, Nat.zero_testBit]

theorem Cmd.PlainFwd.notExpert (h : c.PlainFwd d) : c.expert 1 = false := h.flag 7

theorem Cmd.PlainFwd.fwdHead (h : c.PlainFwd d) {act port len : Bool} (hact : act = true ∨ c.zero 2 2 = true)
    (hport : port = true ∨ c.zero 4 4 = true) (hlen : len = true ∨ c.zero 8 1 = true) (flags : Nat) :
    c.fwdHead flags act port len = true := by
  have honly : c.only 1 (flags + 0x80) = true := by
    rw [Cmd.only, h.flags, beq_iff_eq]
    exact Nat.zero_and _
  rw [← Bool.or_eq_true] at hact hport hlen
  simp only [Cmd.fwdHead, honly, hact, hport, hlen, h.pad, h.ends, Bool.and_self]

/-- The owner sees every entry (R379). -/
theorem Cmd.PlainFwd.seesEnt (h : c.PlainFwd d) (e : FwdEnt) : c.seesEnt d e = true := by
  have hnone : c.caller = none := Option.isNone_iff_eq_none.mp h.owner
  simp only [Cmd.seesEnt, hnone]

theorem Cmd.PlainFwd.fwdView (h : c.PlainFwd d) (n : Nat) : (c.fwdView d n).1 = true := by
  rw [Cmd.fwdView, h.owner, Bool.true_or]

theorem Cmd.NamesNarrow.tblExact (h : c.NamesNarrow d) : d.tblExact (c.u8 0) = true := by
  rw [Dev.tblExact, h.kind]; rfl

theorem Cmd.NamesNarrow.tblNamed (h : c.NamesNarrow d) : d.tblNamed (c.u8 0) = true := by
  rw [Dev.tblNamed, h.en, decide_eq_true h.lt]; rfl

/-- The head of a request to delete or to search. -/
theorem Cmd.NamesNarrow.searchHead (h : c.NamesNarrow d) (hzero : c.zero 2 6 = true) (flags : Nat) :
    c.fwdHead flags false false true = true :=
  h.plain.fwdHead (.inr (Cmd.zero_within hzero (by decide) (by decide))) (.inr (Cmd.zero_within hzero (by decide) (by decide)))
    (.inl rfl) flags

theorem Cmd.NamesNarrow.fwdKey (h : c.NamesNarrow d) : c.fwdKey d (c.u8 0) = c.narrowKey := by
  rw [Cmd.fwdKey, h.kind]; rfl

end

/-! What the table commands answer (R378). -/

/-- The entry that FWD_INSERT writes for a request with no flag. -/
def Cmd.fwdEntry (c : Cmd) : FwdEnt := ⟨c.u8 0, c.narrowKey, c.u16 2, true, false, false, false, c.u32 4⟩

section
variable {c : Cmd} {d : Dev} {k : Nat} (hn : c.NamesNarrow d) (hkey : c.fwdKeyOk d (c.u8 0) = true) (htail : c.zero 0x20 8 = true)
  (hpad : c.zero 9 2 = true)
include hn hkey htail hpad

/-- FWD_INSERT of an absent key places its entry in the first bucket's free slot. -/
theorem fwdInsert_places (hport : portOk (c.u32 4) = true) (habsent : d.fwdFind (c.u8 0) c.narrowKey = none)
    (hfree : d.freeSlot (d.buckets (c.u8 0) c.narrowKey).1 false = some k) : fwdInsert c d =
      ⟨resOk, leB 1 0 ++ leB 1 0 ++ leB 2 0 ++ leB 4 (k / 4) ++ leB 1 (k % 4), (d.placeEnt k c.fwdEntry).fwdShow⟩ := by
  have hhead := hn.plain.fwdHead (act := true) (port := true) (len := true) (.inl rfl) (.inl rfl) (.inl rfl) 7
  have hten : c.zero 0x0A 1 = true := Cmd.zero_within hpad (by decide) (by decide)
  have hnine : c.zero 9 1 = true := Cmd.zero_within hpad (by decide) (by decide)
  have hplace := Dev.fwdPlace_first (d := d) (e := c.fwdEntry) (nbit (c.u8 9) 0) hfree
  have hwide : (d.tblKind (c.u8 0) == 1) = false := by rw [hn.kind]; rfl
  unfold fwdInsert
  rw [fwdChecks_pass hn.plain.ready]
  case h => simp [Cmd.mustOwn, inForm, hn.plain.owner, hn.tblNamed, hhead, hten, htail, hkey, hnine, hport, hn.plain.flag,
    hn.plain.notExpert]
  simp only [Cmd.fwdEntry] at hplace
  simp only [hn.tblExact, hn.fwdKey, habsent, hn.plain.flag, hwide, hplace, Dev.placeBytes_bucket (Dev.freeSlot_lt_ovfBase hfree),
    if_true, List.append_assoc, Cmd.fwdEntry]

section
variable (hzero : c.zero 2 6 = true)
include hzero

/-- FWD_DELETE of a present key clears its slot. -/
theorem fwdDelete_clears (hfind : d.fwdFind (c.u8 0) c.narrowKey = some k) :
    fwdDelete c d = ⟨resOk, leB 1 1, (d.clearEnt k).fwdShow⟩ := by
  have hhead := hn.searchHead hzero 0
  unfold fwdDelete
  rw [fwdChecks_pass hn.plain.ready]
  case h => simp [Cmd.mustOwn, inForm, hn.plain.owner, hn.tblNamed, hhead, htail, hkey, hpad]
  simp only [hn.tblExact, hn.fwdKey, hfind, if_true]

/-- FWD_SEARCH of a present key shows its entry. -/
theorem fwdSearch_shows {e : FwdEnt} (hfind : d.fwdFind (c.u8 0) c.narrowKey = some k) (hheld : d.slotF k = some e) :
    fwdSearch c d = ⟨resOk, leB 4 1 ++ e.image, d⟩ := by
  have hhead := hn.searchHead hzero 1
  unfold fwdSearch
  rw [fwdChecks_pass hn.plain.ready]
  case h => simp [inForm, hn.plain.fwdView, hn.tblNamed, hhead, htail, hkey, hpad]
  simp [hn.tblExact, hn.fwdKey, hfind, hheld, hn.plain.seesEnt, hn.plain.notExpert]

end
end

theorem FwdEnt.length_image (e : FwdEnt) : e.image.length = 32 := by
  unfold FwdEnt.image
  split <;> simp [length_leB, padTo, slice]

/-- What a slot holds of a table: its entry, beside its place. -/
def tblEntry (n : Nat) (e : Nat × Option FwdEnt) : Option (Nat × FwdEnt) :=
  match e.2 with
  | some x => if x.tbl == n then some (e.1, x) else none
  | none => none

/-- The entries of a table, in the order of their slots. -/
def Dev.tblEntries (d : Dev) (n : Nat) : List (Nat × FwdEnt) := d.fwd.slots.filterMap (tblEntry n)

/-- FWD_NEXT from the start of a table whose entries it may all answer answers them, and that they are the last. -/
theorem fwdNext_walks {c : Cmd} {d : Dev} (hn : c.NamesNarrow d) (hzero : c.zero 2 8 = true) (hlo : 1 ≤ c.u8 0x0A)
    (hhi : c.u8 0x0A ≤ 60) (hcur : c.u64 0x20 = 0) (hfew : (d.tblEntries (c.u8 0)).length ≤ c.u8 0x0A) :
    ∃ cur, fwdNext c d = ⟨resOk, leB 1 (d.tblEntries (c.u8 0)).length ++ leB 1 1 ++ leB 2 0 ++ leB 8 cur ++
      (d.tblEntries (c.u8 0)).flatMap (fun g => g.2.image), d⟩ := by
  have hhead : c.fwdHead 0 false false false = true := hn.plain.fwdHead (.inr (Cmd.zero_within hzero (by decide) (by decide)))
    (.inr (Cmd.zero_within hzero (by decide) (by decide))) (.inr (Cmd.zero_within hzero (by decide) (by decide))) 0
  have hnine : c.zero 9 1 = true := Cmd.zero_within hzero (by decide) (by decide)
  unfold fwdNext
  rw [fwdChecks_pass hn.plain.ready]
  case h => simp [inForm, hn.plain.fwdView, hn.tblNamed, hhead, hnine, hlo, hhi, hcur]
  simp only [hn.tblExact, hcur, if_true, Nat.zero_mod, Nat.zero_sub]
  rw [List.filterMap_congr (g := tblEntry (c.u8 0)) ?seen, ← Dev.tblEntries]
  case seen =>
    rintro ⟨j, x⟩ -
    cases x with
    | none => rfl
    | some x => simp [tblEntry, hn.plain.seesEnt]
  simp only [List.take_of_length_le hfew, hfew, decide_true, bne_self_eq_false]
  exact ⟨_, rfl⟩

/-- The test of FWD_FLUSH_PORT on an entry. -/
def Cmd.flushesPort (c : Cmd) (e : FwdEnt) : Bool :=
  (c.u8 0 == 0xFF || e.tbl == c.u8 0) && e.port == c.u32 4 && (nbit (c.u8 1) 0 || !e.static)

/-- The test of FWD_FLUSH_DOMAIN on an entry. -/
def Cmd.flushesDomain (c : Cmd) (e : FwdEnt) : Bool :=
  (c.u8 0 == 0xFF || e.tbl == c.u8 0) && keyDomain e.key == c.u16 2 && (nbit (c.u8 1) 0 || !e.static)

section
variable {c : Cmd} {d : Dev} (hc : c.PlainFwd d) (hall : c.u8 0 = 0xFF) (hzero : c.zero 8 3 = true) (htail : c.zero 0x20 8 = true)
include hc hall hzero htail

/-- FWD_FLUSH_PORT of all tables deletes the entries of its port. -/
theorem fwdFlushPort_flushes (hact : c.zero 2 2 = true) (hport : portOk (c.u32 4) = true) : fwdFlushPort c d =
    ⟨resOk, leB 4 (d.fwdFlush c.flushesPort).1, (d.fwdFlush c.flushesPort).2⟩ := by
  have hhead : c.fwdHead 1 false true false = true := hc.fwdHead (.inr hact) (.inl rfl)
    (.inr (Cmd.zero_within hzero (by decide) (by decide))) 1
  have hpad : c.zero 9 2 = true := Cmd.zero_within hzero (by decide) (by decide)
  have hnone : c.caller = none := Option.isNone_iff_eq_none.mp hc.owner
  have hnamed : d.flushNamed (c.u8 0) = true := by rw [Dev.flushNamed, hall]; rfl
  unfold fwdFlushPort
  exact fwdChecks_pass hc.ready (by simp [inForm, hnone, hnamed, hhead, hpad, htail, hport]) _

/-- FWD_FLUSH_DOMAIN of all tables deletes the entries of its domain. -/
theorem fwdFlushDomain_flushes (hport : c.zero 4 4 = true) (hdomain : c.u16 2 < 4096) : fwdFlushDomain c d =
    ⟨resOk, leB 4 (d.fwdFlush c.flushesDomain).1, (d.fwdFlush c.flushesDomain).2⟩ := by
  have hhead : c.fwdHead 1 true false false = true := hc.fwdHead (.inl rfl) (.inr hport)
    (.inr (Cmd.zero_within hzero (by decide) (by decide))) 1
  have hpad : c.zero 9 2 = true := Cmd.zero_within hzero (by decide) (by decide)
  have hnamed : d.flushNamed (c.u8 0) = true := by rw [Dev.flushNamed, hall]; rfl
  unfold fwdFlushDomain
  exact fwdChecks_pass hc.ready (by simp [Cmd.mustOwn, inForm, hc.owner, hnamed, hhead, hpad, htail, hdomain]) _

end

/-! The table commands from a mailbox. -/

theorem exec_fwdInsert (m : Fin 64) (s : State) :
    exec (.fwdInsert m) s = s.run (fun d => d.fwdCommand m.val 0x0601 fwdInsert) := by rfl
theorem exec_fwdDelete (m : Fin 64) (s : State) :
    exec (.fwdDelete m) s = s.run (fun d => d.fwdCommand m.val 0x0602 fwdDelete) := by rfl
theorem exec_fwdSearch_sound (m : Fin 64) (s : State) :
    exec (.fwdSearch m 0 []) s = s.run (fun d => d.fwdCommand m.val 0x0603 fwdSearch) := by rfl
theorem exec_fwdNext (m : Fin 64) (s : State) :
    exec (.fwdNext m) s = s.run (fun d => d.fwdCommand m.val 0x0604 fwdNext) := by rfl
theorem exec_fwdFlushPort (m : Fin 64) (s : State) :
    exec (.fwdFlushPort m) s = s.run (fun d => d.fwdCommand m.val 0x0605 fwdFlushPort) := by rfl
theorem exec_fwdFlushDomain (m : Fin 64) (s : State) :
    exec (.fwdFlushDomain m) s = s.run (fun d => d.fwdCommand m.val 0x0606 fwdFlushDomain) := by rfl

/-- A ready table command is done, and leaves the slots as it made them. -/
theorem State.run_fwdCommand_slot {s : State} {m : Fin 64} {c : Cmd} {code k : Nat} {f : Cmd → Dev → FwdRes} {resp : List Byte}
    {e : Dev} {x : Option FwdEnt} (h : s.Ready m code c) (hf : f c s.start = ⟨resOk, resp, e⟩) (hl : resp.length ≤ 0x800)
    (hslot : e.slotF k = x) :
    ∃ t, s.run (fun d => d.fwdCommand m.val code f) = .next t ∧ t.Done m 0 resp ∧ t.dev.slotF k = x :=
  ⟨_, State.run_fwdCommand h hf, State.done_after_finish _ _ (by decide) hl,
    (Dev.slotF_congr (State.fwd_after_finish e 0) k).trans hslot⟩

/-- A flush that meets the lone entry deletes it, answers 1 and counts 1. -/
theorem State.run_flush_lone {s : State} {m : Fin 64} {c : Cmd} {code k : Nat} {f : Cmd → Dev → FwdRes} {p : FwdEnt → Bool}
    {e : FwdEnt} (h : s.Ready m code c)
    (hf : f c s.start = ⟨resOk, leB 4 (s.start.fwdFlush p).1, (s.start.fwdFlush p).2⟩)
    (hslots : s.dev.fwd.slots = [(k, some e)]) (hp : p e = true) :
    ∃ t, s.run (fun d => d.fwdCommand m.val code f) = .next t ∧ t.Done m 0 (leB 4 1) ∧ t.dev.fwd.slots = [] ∧
      s.Counts t (rFWD_CNT 10) 1 := by
  have hone : (s.start.fwdFlush p).1 = 1 := by rw [Dev.fwdFlush_lone (d := s.start) hslots hp]
  obtain ⟨hempty, hcount⟩ := Dev.fwdFlush_lone_empties (d := s.start) hslots hp
  rw [hone] at hf
  refine ⟨_, State.run_fwdCommand h hf, State.done_after_finish _ _ (by decide) (by simp [length_leB]), ?_, ?_⟩
  · exact (congrArg FwdState.slots (State.fwd_after_finish _ 0)).trans hempty
  · rw [State.Counts, State.rdN_after_finish _ _ _ _ _ (by decide)]
    exact hcount

/-! Learning (R364). -/

/-- The device with its learn queue cut to the requests after the first. -/
def Dev.withLearnQ (d : Dev) (q : List LearnReq) : Dev := { d with fwd := { d.fwd with learnQ := q } }

/-- The entry that a learn request makes. -/
def LearnReq.entry (r : LearnReq) : FwdEnt := ⟨r.tbl, r.key, 0, true, false, true, false, r.port⟩

/-- A request for an absent key, within its tenant's limit, writes its entry in the free slot, and is counted (R377). -/
theorem Dev.learnTake_learns {d : Dev} {r : LearnReq} {k : Nat} (hon : d.tblEn r.tbl = true)
    (habsent : d.fwdFind r.tbl r.key = none) (hroom : d.learnFull r.port = none)
    (hfree : d.freeSlot (d.buckets r.tbl r.key).1 false = some k) :
    Dev.Rewrites (fun _ => True) (d.setSlotF k (some r.entry)) (d.learnTake r) ∧
      (d.learnTake r).rdN (rFWD_CNT 2) % 2 ^ 31 = (d.rdN (rFWD_CNT 2) + 1) % 2 ^ 31 := by
  have hplace := Dev.fwdPlace_first (e := r.entry) false hfree
  have htake : d.learnTake r = (d.placeEnt k r.entry).fwdShow.bumpBy (rFWD_CNT 2) 1 := by
    simp only [LearnReq.entry] at hplace
    simp only [Dev.learnTake, hon, habsent, hroom, hplace, Bool.not_true, Bool.false_eq_true, if_false, LearnReq.entry, Dev.bump]
  have hput := d.rewrites_placeEnt k r.entry
  have hkept : (d.placeEnt k r.entry).fwdShow.rdN (rFWD_CNT 2) = d.rdN (rFWD_CNT 2) :=
    Dev.rdN_congr ((hput.rd _ (rFWD_CNT_not_inFwdRegs 2)).trans (Dev.rd_setSlotF ..))
  rw [htake]
  exact ⟨(hput.mono fun _ _ => trivial).trans (Dev.rewrites_bumpBy _ 1 trivial), by rw [Dev.rdN_bumpBy_same, hkept]⟩

theorem exec_learnRequest (s : State) : exec .learnRequest s = execLearnRequest s := by rfl

section
variable {s : State} {r : LearnReq} {rs : List LearnReq} (hs : s.Runs) (hq : s.dev.fwd.learnQ = r :: rs)
include hs hq

/-- LEARN_REQUEST takes the oldest request. -/
theorem exec_learnRequest_takes {e : Dev} (he : (s.start.withLearnQ rs).learnTake r = e) (hr : e.replies = [])
    (hw : e.wipes = []) : exec .learnRequest s = .next { s with dev := e } := by
  have hqueue : s.start.fwd.learnQ = r :: rs := hq
  rw [exec_learnRequest, execLearnRequest]
  refine State.run_next hs ?_ hr hw
  simp only [hqueue]
  exact he

/-- A request for a table that is not in use is dropped. -/
theorem learnRequest_drops (hoff : s.dev.tblEn r.tbl = false) : ∃ t, exec .learnRequest s = .next t ∧
    s.OnlyChanges t [] { s.dev with fwd := { s.dev.fwd with learnQ := rs } } := by
  have hnot : (s.start.withLearnQ rs).tblEn r.tbl = false := hoff
  have htake : (s.start.withLearnQ rs).learnTake r = s.start.withLearnQ rs := by simp [Dev.learnTake, hnot]
  exact ⟨_, exec_learnRequest_takes hs hq htake hs.2.1 hs.2.2, State.onlyChanges_into rfl (.refl ..)⟩

/-- A request for an absent key, within the tenant's limit, writes a learned entry. -/
theorem learnRequest_learns {k : Nat} (hon : s.dev.tblEn r.tbl = true) (habsent : s.dev.fwdFind r.tbl r.key = none)
    (hroom : s.dev.learnFull r.port = none) (hfree : s.dev.freeSlot (s.dev.buckets r.tbl r.key).1 false = some k) :
    ∃ t, exec .learnRequest s = .next t ∧ t.dev.fwd.learnQ = rs ∧ s.Counts t (rFWD_CNT 2) 1 ∧
      t.dev.slotF k = some r.entry := by
  obtain ⟨hstep, hcount⟩ := Dev.learnTake_learns (d := s.start.withLearnQ rs) hon habsent hroom hfree
  refine ⟨_, exec_learnRequest_takes hs hq rfl ?_ ?_, congrArg FwdState.learnQ hstep.fwd, hcount, ?_⟩
  · rw [hstep.replies, Dev.setSlotF_replies]
    exact hs.2.1
  · rw [hstep.wipes, Dev.setSlotF_wipes]
    exact hs.2.2
  · exact (Dev.slotF_congr hstep.fwd k).trans (Dev.slotF_setSlotF_same ..)

end

/-! The sweep (R367, R368). -/

section
variable {d : Dev}

theorem Dev.sweepSlot_empty {k : Nat} (h : d.slotF k = none) : d.sweepSlot k = d := by simp only [Dev.sweepSlot, h]

/-- A visit of an entry with HIT, of an aging table, clears HIT. -/
theorem Dev.sweepSlot_hit {k : Nat} {e : FwdEnt} (h : d.slotF k = some e) (hstatic : e.static = false)
    (hage : d.bit (rFWD_TBL_CFG e.tbl) fFWD_TBL_CFG_AGE_EN = true) (hhit : e.hit = true) :
    d.sweepSlot k = d.setSlotF k (some { e with hit := false }) := by
  simp [Dev.sweepSlot, h, hstatic, hage, hhit]

/-- The device with the sweep at a bucket. -/
def Dev.sweepTo (d : Dev) (b : Nat) : Dev := { d with fwd := { d.fwd with sweepAt := b } }

@[simp] theorem Dev.slotF_sweepTo (b k : Nat) : (d.sweepTo b).slotF k = d.slotF k := (rfl)
@[simp] theorem Dev.sweepTo_replies (b : Nat) : (d.sweepTo b).replies = d.replies := (rfl)
@[simp] theorem Dev.sweepTo_wipes (b : Nat) : (d.sweepTo b).wipes = d.wipes := (rfl)

/-- The device once the sweep has visited the four slots of a bucket. -/
def Dev.bucketSwept (d : Dev) (b : Nat) : Dev := (List.range 4).foldl (fun d i => d.sweepSlot (4 * b + i)) d

/-- A visit that neither follows a 32nd bucket nor ends the pass. -/
theorem Dev.sweepVisit_inner {b : Nat} (hb : d.fwd.sweepAt = b) (h32 : b % 32 ≠ 0) (hlt : b + 1 < 262144) :
    d.sweepVisit = ((d.bucketSwept b).sweepTo (b + 1)).fwdShow := by
  simp only [Dev.sweepVisit, hb, if_neg h32, if_pos hlt]
  rfl

theorem Dev.bucketSwept_empty {b : Nat} (h : ∀ i < 4, d.slotF (4 * b + i) = none) : d.bucketSwept b = d :=
  foldl_eq_self fun i hi => Dev.sweepSlot_empty (h i (List.mem_range.mp hi))

/-- Of a bucket that holds an entry in its first slot alone the sweep changes that slot. -/
theorem Dev.bucketSwept_first {b : Nat} {x : Option FwdEnt} (hfirst : d.sweepSlot (4 * b) = d.setSlotF (4 * b) x)
    (hrest : ∀ i < 3, d.slotF (4 * b + (i + 1)) = none) : d.bucketSwept b = d.setSlotF (4 * b) x := by
  rw [Dev.bucketSwept, List.range_succ_eq_map, List.foldl_cons, Nat.add_zero, hfirst, List.foldl_map]
  refine foldl_eq_self fun i hi => Dev.sweepSlot_empty ?_
  rw [Dev.slotF_setSlotF_ne _ _ (by omega)]
  exact hrest i (List.mem_range.mp hi)

end

theorem exec_sweepVisit_sound (s : State) :
    exec (.sweepVisit 0 []) s = s.run (fun d => if d.fwdReady then d.sweepVisit else d) := by rfl

/-- SWEEP_VISIT inside a pass leaves the tables as the bucket's visit made them, with the sweep at the next bucket. -/
theorem sweepVisit_moves {s : State} {b : Nat} (hs : s.Runs) (hready : s.dev.fwdReady = true) (hb : s.dev.fwd.sweepAt = b)
    (h32 : b % 32 ≠ 0) (hlt : b + 1 < 262144) (hr : (s.start.bucketSwept b).replies = [])
    (hw : (s.start.bucketSwept b).wipes = []) :
    ∃ t, exec (.sweepVisit 0 []) s = .next t ∧ t.dev.fwd = ((s.start.bucketSwept b).sweepTo (b + 1)).fwd := by
  have hshow := ((s.start.bucketSwept b).sweepTo (b + 1)).rewrites_fwdShow
  have hready' : s.start.fwdReady = true := hready
  have hvisit : (if s.start.fwdReady then s.start.sweepVisit else s.start) = ((s.start.bucketSwept b).sweepTo (b + 1)).fwdShow :=
    (if_pos hready').trans (Dev.sweepVisit_inner (d := s.start) hb h32 hlt)
  rw [exec_sweepVisit_sound]
  refine ⟨_, State.run_next hs hvisit ?_ ?_, hshow.fwd⟩
  · rw [hshow.replies, Dev.sweepTo_replies, hr]
  · rw [hshow.wipes, Dev.sweepTo_wipes, hw]

/-- Settles O28: each command writes or clears the slot that its lemma names, and the searches change nothing. -/
theorem tablesAreFilledAndSearched : Obligations.TablesAreFilledAndSearched := by
  unfold Obligations.TablesAreFilledAndSearched
  refine ⟨?entries, ?flushes, fun s r rs hs hq => ⟨learnRequest_drops hs hq, fun k => learnRequest_learns hs hq⟩, ?sweep⟩
  case entries =>
    rintro s m c n key hown hready rfl hlt hen hkind hflags hpad hends rfl
    have hn : c.NamesNarrow s.start := ⟨⟨hown, hready, hflags, hpad, hends⟩, hlt, hen, hkind⟩
    refine ⟨fun k h hnine htail hkey hport habsent hfree => ?insert, fun k h hzero hnine htail hkey hfind => ?delete,
      fun k e h hzero hnine htail hkey hfind hheld => ?search, fun es h hzero hlo hhi hcur hes _ hfew _ => ?next⟩
    case insert =>
      exact State.run_fwdCommand_slot h (fwdInsert_places hn hkey htail hnine hport habsent hfree) (by simp [length_leB])
        ((Dev.slotF_congr (s.start.rewrites_placeEnt k c.fwdEntry).fwd k).trans (Dev.slotF_setSlotF_same ..))
    case delete =>
      exact State.run_fwdCommand_slot h (fwdDelete_clears hn hkey htail hnine hzero hfind) (by simp [length_leB])
        ((Dev.slotF_congr (Dev.rewrites_fwdShow _).fwd k).trans (s.start.slotF_clearEnt k))
    case search =>
      exact State.run_fwdQuery h (fwdSearch_shows hn hkey htail hnine hzero hfind hheld)
        (by simp [length_leB, FwdEnt.length_image])
    case next =>
      obtain rfl : es = s.start.tblEntries (c.u8 0) := hes
      obtain ⟨cur, hnext⟩ := fwdNext_walks hn hzero hlo hhi hcur hfew
      obtain ⟨t, hexec, honly, hdone⟩ := State.run_fwdQuery h hnext (by simp [length_leB, FwdEnt.length_image]; omega)
      exact ⟨t, cur, hexec, honly, hdone⟩
  case flushes =>
    intro s m c k e hown hready hall hflags hpad hends hzero htail hslots hstatic
    have hc : c.PlainFwd s.start := ⟨hown, hready, hflags, hpad, hends⟩
    refine ⟨fun h hact hport hmatch => ?port, fun h hport hdomain hmatch => ?domain⟩
    case port =>
      exact State.run_flush_lone h (fwdFlushPort_flushes hc hall hzero htail hact hport) hslots
        (by simp [Cmd.flushesPort, hall, hmatch, hstatic])
    case domain =>
      exact State.run_flush_lone h (fwdFlushDomain_flushes hc hall hzero htail hport hdomain) hslots
        (by simp [Cmd.flushesDomain, hall, hmatch, hstatic])
  case sweep =>
    intro s b hs hready hb h32 hlt
    have hmoves := sweepVisit_moves hs hready hb h32 hlt
    refine ⟨fun hempty => ?empty, fun e hfirst hrest hstatic hage hhit => ?hit⟩
    case empty =>
      rw [Dev.bucketSwept_empty (d := s.start) hempty] at hmoves
      exact hmoves hs.2.1 hs.2.2
    case hit =>
      have hslot := Dev.sweepSlot_hit (d := s.start) hfirst hstatic hage hhit
      rw [Dev.bucketSwept_first hslot hrest] at hmoves
      obtain ⟨t, hexec, hfwd⟩ := hmoves hs.2.1 hs.2.2
      exact ⟨t, hexec, ((Dev.slotF_congr hfwd _).trans (Dev.slotF_sweepTo ..)).trans (Dev.slotF_setSlotF_same ..),
        congrArg FwdState.sweepAt hfwd⟩

end Sys2Proof.Machine

/-! The shape of every step (19_gellen.md R557, R565; 20_clocks_boot.md R588, R589, R602, R603): what a command runs, and what it
keeps of the queue and of the byte memories. -/

namespace Sys2Proof.Machine

/-- From one state of the machine to another the queue stands, both byte memories stay canonical, and the flash stands
unless the command may write it. -/
structure State.Keeps (writes : Bool) (s t : State) : Prop where
  pending : t.pending = s.pending
  mem : swf zeroByte s.mem = true → swf zeroByte t.mem = true
  wf : swf flashByte s.flash = true → swf flashByte t.flash = true
  flash : writes = false → t.flash = s.flash

theorem State.Keeps.refl (b : Bool) (s : State) : s.Keeps b s := ⟨rfl, id, id, fun _ => rfl⟩

theorem State.Keeps.trans {b : Bool} {s t u : State} (h : s.Keeps b t) (k : t.Keeps b u) : s.Keeps b u :=
  ⟨k.pending.trans h.pending, fun w => k.mem (h.mem w), fun w => k.wf (h.wf w), fun e => (k.flash e).trans (h.flash e)⟩

theorem State.Keeps.ite {b : Bool} {s t u : State} {c : Prop} [Decidable c] (h : s.Keeps b t) (k : s.Keeps b u) :
    s.Keeps b (if c then t else u) := by
  split
  · exact h
  · exact k

/-- A change of the device alone. -/
theorem State.keeps_dev (b : Bool) (s : State) (d : Dev) : s.Keeps b { s with dev := d } := ⟨rfl, id, id, fun _ => rfl⟩

/-- Delivery keeps the queue and the flash, and the mailbox memory canonical. -/
theorem deliver_keeps (b : Bool) (s : State) : s.Keeps b (deliver s) := ⟨rfl, deliver_wf s, id, fun _ => rfl⟩

/-! The effects on the whole machine. -/

/-- A write of the mailbox array stores in the mailbox memory alone. -/
theorem State.keeps_mbxWrite (b : Bool) (s : State) (a v : Nat) : s.Keeps b (s.mbxWrite a v) := by
  unfold State.mbxWrite
  refine .ite (s.keeps_dev ..) (.ite (s.keeps_dev ..) (.ite ?_ (.refl ..)))
  exact ⟨rfl, swf_storeBytes zeroByte _ _, id, fun _ => rfl⟩

/-- Erasing a sector keeps the canonical form. -/
theorem swf_eraseFlash (flash : List Host.Cell) (addr : Nat) (w : swf flashByte flash = true) :
    swf flashByte (eraseFlash flash addr) = true := swf_skeep flashByte _ w

/-- A flash access keeps the flash canonical, and one that reads leaves it as it was. -/
theorem State.keeps_flashAccess {b : Bool} (s : State) {op : Nat} (h : b = false → op = 0) (addr len : Nat) (bs : List Byte)
    (err : Bool) : s.Keeps b (s.flashAccess op addr len bs err).2.2 := by
  unfold State.flashAccess
  dsimp only
  split
  · exact .refl ..
  · split
    · exact .refl ..
    · next hop =>
      split
      · exact ⟨rfl, id, swf_storeBytes flashByte _ _, fun e => absurd (h e) hop⟩
      · exact ⟨rfl, id, swf_eraseFlash s.flash addr, fun e => absurd (h e) hop⟩

/-- A write of BOOT_FLASH_CMD makes at most one flash access (R603). -/
theorem State.keeps_flashCmd {b : Bool} (s : State) {v : Nat} (h : b = false → fieldOf v fBOOT_FLASH_CMD_OP = 0) (err : Bool) :
    s.Keeps b (s.flashCmd v err) := by
  unfold State.flashCmd
  generalize (s.dev.access rBOOT_FLASH_CMD v).put rBOOT_FLASH_CMD fBOOT_FLASH_CMD_GO 0 = d
  have hacc := fun a l bs => (s.keeps_dev b d).trans (State.keeps_flashAccess { s with dev := d } h a l bs err)
  refine .ite (s.keeps_dev ..) (.ite (s.keeps_dev ..) ?_)
  generalize hx : State.flashAccess _ _ _ _ _ _ = x
  have hkeeps : s.Keeps b x.2.2 := hx ▸ hacc ..
  obtain ⟨r, bs, u⟩ := x
  exact hkeeps.trans (u.keeps_dev ..)

/-- A register write of the host reaches the mailbox memory, the flash by BOOT_FLASH_CMD, or the device alone. -/
theorem State.keeps_regWrite (s : State) (a v : Nat) : s.Keeps true (s.regWrite a v) := by
  unfold State.regWrite
  exact .ite (s.keeps_mbxWrite ..) (.ite (s.keeps_flashCmd (by simp) _) (s.keeps_dev ..))

/-- A read for a requester changes the device alone. -/
theorem State.keeps_hostRead (b : Bool) (s : State) (req a : Nat) : s.Keeps b (s.hostRead req a).2 := by
  unfold State.hostRead
  dsimp only
  repeat' split
  all_goals exact s.keeps_dev ..

theorem State.keeps_hostReads (b : Bool) (s : State) (req a n : Nat) : s.Keeps b (s.hostReads req a n).2 := by
  induction n generalizing s a with
  | zero => exact .refl ..
  | succ n ih => exact (s.keeps_hostRead ..).trans (ih ..)

/-- A write for a requester is a register write, a write of the mailbox array, or a change of the device alone. -/
theorem State.keeps_hostWrite (s : State) (req a v : Nat) : s.Keeps true (s.hostWrite req a v) := by
  unfold State.hostWrite
  refine State.Keeps.trans (s.keeps_dev true (s.dev.accessEvent 0x0401 req a)) ?_
  refine .ite (.ite (.ite (State.keeps_mbxWrite ..) (.refl ..)) (.ite (State.keeps_regWrite ..) (State.keeps_dev ..))) ?_
  exact .ite (State.keeps_mbxWrite ..) (State.keeps_dev ..)

theorem State.keeps_hostWrites (s : State) (req a : Nat) (vs : List Nat) : s.Keeps true (s.hostWrites req a vs) := by
  induction vs generalizing s a with
  | nil => exact .refl ..
  | cons v vs ih => exact (s.keeps_hostWrite ..).trans (ih ..)

/-- A transaction accepted keeps what its effect keeps. -/
theorem State.keeps_accepted {b : Bool} (s : State) (p seq req addr words : Nat) {run : State → State}
    (h : ∀ u : State, u.Keeps b (run u)) : s.Keeps b (s.accepted p seq req addr words run) := by
  unfold State.accepted
  dsimp only
  exact State.Keeps.trans (s.keeps_dev b _) (.ite (.refl ..) (.ite (State.keeps_dev ..) (h _)))

/-- A mailbox command on the whole machine keeps what its body keeps. -/
theorem State.keeps_command {b : Bool} (s : State) (m code : Nat) {body : Cmd → State → State}
    (h : ∀ c (u : State), u.Keeps b (body c u)) : s.Keeps b (s.command m code body) := by
  unfold State.command
  split
  · exact .refl ..
  · exact .ite (s.keeps_dev ..) (.ite (h _ _) (.refl ..))

theorem State.keeps_setting (s : State) (e : Nat × Nat) : s.Keeps true (s.setting e) := by
  have hw : s.Keeps true (if inBlock e.1 then s.regWrite e.1 e.2 else s) := .ite (s.keeps_regWrite ..) (.refl ..)
  unfold State.setting
  exact .ite hw (hw.trans (State.keeps_dev ..))

/-- What the firmware does as it comes up: register writes, then a change of the device alone (R597, R598). -/
theorem State.keeps_firmwareUp (s : State) (ms : Nat) : s.Keeps true (s.firmwareUp ms) := by
  have hsets : ∀ (es : List (Nat × Nat)) (u : State), u.Keeps true (es.foldl State.setting u) := by
    intro es
    induction es with
    | nil => exact fun u => .refl ..
    | cons e es ih => exact fun u => (u.keeps_setting e).trans (ih _)
  exact (hsets _ s).trans (State.keeps_dev ..)

/-! The shape of a command. -/

/-- A command is one step of clocked logic on the whole machine, and keeps what its effect keeps. -/
def State.ClockedStep (s : State) (writes : Bool) (o : Host.Outcome State Fault Refusal) : Prop :=
  ∃ f : State → State, o = s.runS f ∧ ∀ u : State, u.Keeps writes (f u)

/-- An effect of clocked logic on the device is one on the whole machine. -/
theorem State.run_eq_runS (s : State) (f : Dev → Dev) : s.run f = s.runS (fun u => { u with dev := f u.dev }) := by
  have hc : Dev.clocked { s.dev with out := [] } = s.dev.clocked := rfl
  unfold State.run State.runAny State.runS
  dsimp only
  rw [hc]
  split <;> rfl

theorem State.clockedStep_run (s : State) (b : Bool) (f : Dev → Dev) : s.ClockedStep b (s.run f) :=
  ⟨_, s.run_eq_runS f, fun u => u.keeps_dev ..⟩

theorem State.clockedStep_runS {s : State} {b : Bool} {f : State → State} (h : ∀ u : State, u.Keeps b (f u)) :
    s.ClockedStep b (s.runS f) := ⟨f, rfl, h⟩

/-- OP of the BOOT_FLASH_CMD that FLASH_READ writes is a read. -/
theorem flashRead_op (len : Fin 512) : fieldOf (2 ^ 30 + len.val) fBOOT_FLASH_CMD_OP = 0 := by
  have hlt : len.val < 2 ^ 28 := Nat.lt_trans len.isLt (by decide)
  have hdiv : (2 ^ 30 + len.val) / 2 ^ 28 = 4 := by omega
  rw [fieldOf, show fBOOT_FLASH_CMD_OP.lo = 28 from rfl, hdiv]
  decide

/-- DIAG_BOOT makes at most one flash access, and answers (R606). -/
theorem exec_diagBoot_clocked (m : Fin 64) (err : Bool) (s : State) : s.ClockedStep true (exec (.diagBoot m err) s) := by
  refine State.clockedStep_runS fun u => u.keeps_command _ _ fun c v => ?_
  dsimp only
  refine .ite (v.keeps_dev ..) (.ite (v.keeps_dev ..) (.ite (v.keeps_dev ..) (.ite (v.keeps_dev ..) ?_)))
  exact State.Keeps.trans (State.keeps_flashAccess v (by simp) _ _ _ _) (State.keeps_dev ..)

/-- Every command but those of self-timed logic, the monitors and the pins is a step of clocked logic. -/
theorem exec_clocked (i : Instr) (s : State) (h : selfTimed i = false) : s.ClockedStep (flashWriter i) (exec i s) := by
  cases i
  case refValid | refInvalid | ringStable | ringOutOfRange | ringAttemptFail | voidAttempt | pwrGoodRise | pwrGoodFall |
    supplyUndervoltage | resetL | zeroisationDone => cases h
  case regRead =>
    exact State.clockedStep_runS fun u => u.keeps_accepted _ _ _ _ _ fun v => (v.keeps_hostReads ..).trans (State.keeps_dev ..)
  case regWrite => exact State.clockedStep_runS fun u => u.keeps_accepted _ _ _ _ _ fun v => v.keeps_hostWrites ..
  case registerWrite => exact State.clockedStep_runS fun u => u.keeps_regWrite ..
  case firmwareReady =>
    exact State.clockedStep_runS fun u => .ite (u.keeps_dev ..) (.ite (u.keeps_firmwareUp _) (.refl ..))
  case flashRead len err =>
    exact State.clockedStep_runS fun u => u.keeps_flashCmd (fun _ => flashRead_op len) _
  case flashProgram => exact State.clockedStep_runS fun u => u.keeps_flashCmd (by simp [flashWriter]) _
  case flashErase => exact State.clockedStep_runS fun u => u.keeps_flashCmd (by simp [flashWriter]) _
  case diagBoot m err => exact exec_diagBoot_clocked m err s
  all_goals
    dsimp only [exec]
    exact State.clockedStep_run s _ _

/-- A command is one step on the device, clocked or not. -/
def State.AnyStep (s : State) (o : Host.Outcome State Fault Refusal) : Prop := ∃ f : Dev → Dev, o = s.runAny f

theorem State.anyStep_runAny (s : State) (f : Dev → Dev) : s.AnyStep (s.runAny f) := ⟨f, rfl⟩

/-- The commands of self-timed logic, the monitors and the pins take effect on the device, clocked or not. -/
theorem exec_selfTimed (i : Instr) (s : State) (h : selfTimed i = true) : s.AnyStep (exec i s) := by
  cases i
  case refValid | refInvalid | ringStable | ringOutOfRange | ringAttemptFail | voidAttempt | pwrGoodRise | pwrGoodFall |
    supplyUndervoltage | resetL | zeroisationDone => 
    dsimp only [exec, execRefValid, execRefInvalid, execRingStable, execRingOutOfRange, execRingAttemptFail, execVoidAttempt,
      execPwrGoodRise, execPwrGoodFall, execSupplyUndervoltage, execResetL, execZeroisationDone]
    exact s.anyStep_runAny _
  all_goals cases h

end Sys2Proof.Machine

/-! What every step keeps, and what stopped clocks leave (19_gellen.md R557, R565; 20_clocks_boot.md R588-R590). -/

namespace Sys2Proof.Machine

/-- A command answers a next state; the queue, and the flash of a command that does not write it, stand, both memories stay
canonical, and every reply and zeroing is delivered. -/
theorem exec_keeps (i : Instr) (s : State) :
    ∃ t, exec i s = .next t ∧ s.Keeps (flashWriter i) t ∧ t.dev.replies = [] ∧ t.dev.wipes = [] := by
  cases h : selfTimed i
  · obtain ⟨f, he, hf⟩ := exec_clocked i s h
    have hstart := s.keeps_dev (flashWriter i) s.start
    refine ⟨_, he, State.Keeps.trans ?_ (deliver_keeps ..), rfl, rfl⟩
    exact .ite (hstart.trans (hf _)) hstart
  · obtain ⟨f, he⟩ := exec_selfTimed i s h
    exact ⟨_, he, (s.keeps_dev ..).trans (deliver_keeps ..), rfl, rfl⟩

/-- Settles O51: both clauses are the two arms of `step`. -/
theorem aStepRunsTheFrontCommand : Obligations.AStepRunsTheFrontCommand := by
  unfold Obligations.AStepRunsTheFrontCommand
  refine ⟨fun s c rest h => ?_, fun s h => ?_⟩
  · simp only [step, h]
  · simp only [step, h]

/-- Settles O53: an idle step changes nothing, and a command keeps the invariant by `exec_keeps`. -/
theorem everyStepCompletesAndKeepsTheInvariant : Obligations.EveryStepCompletesAndKeepsTheInvariant := by
  unfold Obligations.EveryStepCompletesAndKeepsTheInvariant
  intro s hs
  obtain ⟨hmem, hflash, -, -⟩ := id hs
  obtain ⟨hfront, hidle⟩ := aStepRunsTheFrontCommand
  cases hp : s.pending with
  | nil => exact ⟨s, hidle s hp, hs⟩
  | cons c rest =>
    obtain ⟨t, he, hkeeps, hr, hw⟩ := exec_keeps c { s with pending := rest }
    exact ⟨t, (hfront s c rest hp).trans he, hkeeps.mem hmem, hkeeps.wf hflash, hr, hw⟩

/-- Settles O57: the frame of `exec_keeps`. -/
theorem theQueueAndTheFlashAreKept : Obligations.TheQueueAndTheFlashAreKept := by
  unfold Obligations.TheQueueAndTheFlashAreKept
  intro s i
  obtain ⟨t, he, hkeeps, -, -⟩ := exec_keeps i s
  exact ⟨t, he, hkeeps.pending, hkeeps.flash⟩

/-! Without a clock (R588, R589). -/

/-- A step that changes nothing but what was sent before. -/
theorem State.onlyChanges_start (s : State) : s.OnlyChanges { s with dev := s.start } [] s.dev := ⟨fun _ _ => rfl, rfl⟩

/-- An effect on the device, clocked or not, that leaves nothing to deliver takes place as it is. -/
theorem State.runAny_quiet {s : State} {f : Dev → Dev} {e : Dev} (h : f s.start = e) (hr : e.replies = []) (hw : e.wipes = []) :
    s.runAny f = .next { s with dev := e } := by
  have hdone : deliver { s with dev := e } = { s with dev := e } := deliver_none hr hw
  rw [← hdone, ← h]
  rfl

/-- A command of clocked logic has no effect with the clocks stopped (R589). -/
theorem exec_stopped {s : State} (hc : s.dev.clocked = false) (hr : s.dev.replies = []) (hw : s.dev.wipes = []) {i : Instr}
    (h : selfTimed i = false) : exec i s = .next { s with dev := s.start } := by
  obtain ⟨f, he, -⟩ := exec_clocked i s h
  rw [he, State.runS, hc]
  exact congrArg _ (deliver_none hr hw)

/-- The end of a zeroisation without a clock: the stores are erased, and ZEROISED is shown (10_cipher.md R306). -/
theorem exec_zeroisationDone_stopped {s : State} (hc : s.dev.clocked = false) (hr : s.dev.replies = []) (hw : s.dev.wipes = [])
    (hz : s.dev.ciph.zeroing = true) :
    exec .zeroisationDone s = .next { s with dev := s.start.eraseStores.mark rSEC_STATUS fSEC_STATUS_ZEROISED } := by
  have hc' : s.start.clocked = false := hc
  have hz' : s.start.ciph.zeroing = true := hz
  have hrep : s.start.eraseStores.replies = [] := hr
  have hwip : s.start.eraseStores.wipes = [] := hw
  dsimp only [exec, execZeroisationDone]
  refine State.runAny_quiet (e := s.start.eraseStores.mark rSEC_STATUS fSEC_STATUS_ZEROISED) ?_
    ((Dev.put_replies ..).trans hrep) ((Dev.put_wipes ..).trans hwip)
  simp only [hz', hc', Bool.not_true, Bool.not_false, Bool.false_eq_true, if_true, if_false]

/-- Settles O54: a command of clocked logic has no effect, and the end of the zeroisation has the one of R589. -/
theorem stoppedClocksHoldTheMachine : Obligations.StoppedClocksHoldTheMachine := by
  unfold Obligations.StoppedClocksHoldTheMachine
  intro s hc hr hw
  refine ⟨fun i hi => ⟨_, exec_stopped hc hr hw hi, s.onlyChanges_start⟩, fun hz => ?_⟩
  refine ⟨_, exec_zeroisationDone_stopped hc hr hw hz, Dev.bit_mark_same _ _ rfl (by decide), ?_⟩
  exact State.onlyChanges_into (d := s.dev.eraseStores) rfl (Dev.rewrites_mark s.start.eraseStores _ (List.mem_singleton_self _))

/-! FAILED (R590). -/

/-- From one device to another what FAILED holds stands: the supervisor, the cages, the latched registers, and the keys but for
the end of a zeroisation. -/
structure Dev.HoldsLatches (d e : Dev) : Prop where
  sup : e.clk.sup = d.clk.sup
  cages : e.cages = d.cages
  ciph : d.ciph.zeroing = false → e.ciph = d.ciph
  regs : ∀ a, a ≠ rCLK_STATUS → a ≠ rSEC_STATUS → e.rd a = d.rd a
  cause : e.bit rSEC_STATUS fSEC_STATUS_CAUSE_CLOCK = d.bit rSEC_STATUS fSEC_STATUS_CAUSE_CLOCK
  zeroised : d.bit rSEC_STATUS fSEC_STATUS_ZEROISED = true → e.bit rSEC_STATUS fSEC_STATUS_ZEROISED = true
  replies : e.replies = d.replies
  wipes : e.wipes = d.wipes

theorem Dev.HoldsLatches.refl (d : Dev) : d.HoldsLatches d := ⟨rfl, rfl, fun _ => rfl, fun _ _ _ => rfl, rfl, id, rfl, rfl⟩

theorem Dev.HoldsLatches.trans {d e f : Dev} (h : d.HoldsLatches e) (k : e.HoldsLatches f) (hc : e.ciph = d.ciph) : d.HoldsLatches f :=
  ⟨k.sup.trans h.sup, k.cages.trans h.cages, fun z => (k.ciph (hc ▸ z)).trans hc,
    fun a h1 h2 => (k.regs a h1 h2).trans (h.regs a h1 h2), k.cause.trans h.cause, fun z => k.zeroised (h.zeroised z),
    k.replies.trans h.replies, k.wipes.trans h.wipes⟩

/-- The validity of a reference shows in CLK_STATUS alone. -/
theorem Dev.setRef_holdsLatches (d : Dev) (r : Nat) (v : Bool) : d.HoldsLatches (d.setRef r v) := by
  have hput : ∀ f, d.HoldsLatches (d.put rCLK_STATUS f (b2n v)) := fun f =>
    have hsec : (d.put rCLK_STATUS f (b2n v)).rd rSEC_STATUS = d.rd rSEC_STATUS := Dev.rd_put_ne _ _ _ (by decide)
    ⟨rfl, rfl, fun _ => rfl, fun a h _ => Dev.rd_put_ne _ _ _ h, Dev.bit_congr hsec _, (Dev.bit_congr hsec _ ▸ ·), rfl, rfl⟩
  unfold Dev.setRef
  dsimp only
  split
  · refine (hput _).trans ⟨?_, rfl, fun _ => rfl, fun _ _ _ => rfl, rfl, id, rfl, rfl⟩ rfl
    dsimp only
    split <;> rfl
  · exact hput _

theorem Dev.setRef_ciph (d : Dev) (r : Nat) (v : Bool) : (d.setRef r v).ciph = d.ciph := by
  unfold Dev.setRef
  dsimp only
  split <;> rfl

theorem Dev.clocked_of_failed {d : Dev} (h : d.clk.sup = .failed) : d.clocked = false := by rw [Dev.clocked, h]

/-- In FAILED a reference that becomes valid is shown and no more. -/
theorem Dev.refUp_of_failed {d : Dev} (h : d.clk.sup = .failed) (r : Nat) (both : Bool) : d.HoldsLatches (d.refUp r both) := by
  have hup := d.setRef_holdsLatches r true
  have hboth : d.HoldsLatches (if both then (d.setRef r true).setRef (1 - r) true else d.setRef r true) := by
    split
    · exact hup.trans (Dev.setRef_holdsLatches ..) (Dev.setRef_ciph ..)
    · exact hup
  unfold Dev.refUp
  dsimp only
  split
  · exact .refl d
  · rw [Dev.clocked_of_failed (hboth.sup.trans h)]
    exact hboth

/-- In FAILED a reference that becomes invalid is shown and no more. -/
theorem Dev.refDown_of_failed {d : Dev} (h : d.clk.sup = .failed) (r : Nat) : d.HoldsLatches (d.refDown r) := by
  have hdown := d.setRef_holdsLatches r false
  unfold Dev.refDown
  dsimp only
  split
  · exact .refl d
  · rw [Dev.clocked_of_failed (hdown.sup.trans h)]
    exact hdown

/-- Erasing the key stores changes the cipher's state alone. -/
theorem Dev.rd_eraseStores (d : Dev) (a : Nat) : d.eraseStores.rd a = d.rd a := (rfl)

/-- The end of a zeroisation without a clock holds every latch. -/
theorem Dev.eraseStores_holdsLatches {d : Dev} (h : d.ciph.zeroing = true) :
    d.HoldsLatches (d.eraseStores.mark rSEC_STATUS fSEC_STATUS_ZEROISED) where
  sup := congrArg ClkState.sup (Dev.put_clk ..)
  cages := Dev.put_cages ..
  ciph hz := by rw [h] at hz; cases hz
  regs a _ ha := (Dev.rd_put_ne _ _ _ ha).trans (d.rd_eraseStores a)
  cause := (Dev.bit_put_apart _ _ _ (by decide) (.inr (by decide))).trans (Dev.bit_congr (d.rd_eraseStores _) _)
  zeroised _ := Dev.bit_mark_same _ _ rfl (by decide)
  replies := Dev.put_replies ..
  wipes := Dev.put_wipes ..

/-- In FAILED no command but a fall of power undoes a latch. -/
theorem exec_of_failed {s : State} (h : s.dev.clk.sup = .failed) (hr : s.dev.replies = []) (hw : s.dev.wipes = []) {i : Instr}
    (h1 : i ≠ .pwrGoodFall) (h2 : i ≠ .supplyUndervoltage) :
    ∃ e, exec i s = .next { s with dev := e } ∧ s.start.HoldsLatches e := by
  have hs : s.start.clk.sup = .failed := h
  have hrun : ∀ {f : Dev → Dev} {e : Dev}, f s.start = e → s.start.HoldsLatches e → ∃ e, s.runAny f = .next { s with dev := e } ∧
      s.start.HoldsLatches e := fun he hf => ⟨_, State.runAny_quiet he (hf.replies.trans hr) (hf.wipes.trans hw), hf⟩
  have hpow : s.start.powered = true := by rw [Dev.powered, hs]; rfl
  have hclk := Dev.clocked_of_failed hs
  cases hi : selfTimed i with
  | false => exact ⟨_, exec_stopped (Dev.clocked_of_failed h) hr hw hi, .refl _⟩
  | true =>
    cases i
    case pwrGoodFall => exact absurd rfl h1
    case supplyUndervoltage => exact absurd rfl h2
    case' refValid | refInvalid | ringStable | ringOutOfRange | ringAttemptFail | voidAttempt | pwrGoodRise | resetL | zeroisationDone =>
      dsimp only [exec, execRefValid, execRefInvalid, execRingStable, execRingOutOfRange, execRingAttemptFail, execVoidAttempt,
        execPwrGoodRise, execResetL, execZeroisationDone]
    case refValid r both => exact hrun (by rw [hpow, hclk]; rfl) (Dev.refUp_of_failed hs r.val both)
    case refInvalid r => exact hrun (if_pos hpow) (Dev.refDown_of_failed hs r.val)
    case ringStable => exact hrun (by rw [Dev.ringStable, hs]) (.refl _)
    case ringOutOfRange => exact hrun (by rw [Dev.ringLost, hs]; rfl) (.refl _)
    case ringAttemptFail => exact hrun (by rw [Dev.attemptFails, hs]) (.refl _)
    case voidAttempt => exact hrun (by rw [Dev.voidAttempt, hs]; rfl) (.refl _)
    case pwrGoodRise => exact hrun (if_pos hpow) (.refl _)
    case resetL => exact hrun (if_pos (.inl hs)) (.refl _)
    case zeroisationDone =>
      cases hz : s.start.ciph.zeroing with
      | false => exact hrun (e := s.start) (by rw [hz]; rfl) (.refl _)
      | true => exact hrun (by rw [hz, hclk]; rfl) (Dev.eraseStores_holdsLatches hz)
    all_goals cases hi

/-- An effect, clocked or not, leaves the supervisor as it makes it. -/
theorem State.runAny_clk (s : State) (f : Dev → Dev) : ∃ t, s.runAny f = .next t ∧ t.dev.clk = (f s.start).clk := ⟨_, rfl, rfl⟩

/-- A fall of PWR_GOOD takes the supervisor to OFF. -/
theorem exec_pwrGoodFall_sup (s : State) : ∃ t, exec .pwrGoodFall s = .next t ∧ t.dev.clk.sup = .off := by
  obtain ⟨t, ht, hclk⟩ := s.runAny_clk (fun d => if d.powered then d.powerOff else d)
  refine ⟨t, ht, (congrArg ClkState.sup hclk).trans ?_⟩
  split
  · rfl
  · next h => simpa [Dev.powered] using h

/-- Settles O55: `exec_of_failed` holds every latch, and power's fall is `exec_pwrGoodFall_sup`. -/
theorem failedHoldsUntilPowerFalls : Obligations.FailedHoldsUntilPowerFalls := by
  unfold Obligations.FailedHoldsUntilPowerFalls
  intro s hsup hpin hr hw
  refine ⟨fun i h1 h2 => ?_, ?_, exec_pwrGoodFall_sup s⟩
  · obtain ⟨e, he, hold⟩ := exec_of_failed hsup hr hw h1 h2
    have hreg : ∀ {a} (f : Fld), a ≠ rCLK_STATUS → a ≠ rSEC_STATUS → e.bit a f = s.dev.bit a f := fun f h k =>
      Dev.bit_congr (hold.regs _ h k) f
    have htree : ∀ k < 48, rTREE_LINE_STATUS k ≠ rCLK_STATUS ∧ rTREE_LINE_STATUS k ≠ rSEC_STATUS := by decide
    have hfail : e.clk.sup = .failed := hold.sup.trans hsup
    exact ⟨_, he, hfail, (hreg _ (by decide) (by decide)).trans hpin, Dev.clocked_of_failed hfail,
      fun k hk => hreg _ (htree k hk).1 (htree k hk).2, hold.cages, hreg _ (by decide) (by decide), hold.cause, hold.zeroised,
      hold.ciph⟩
  · refine ⟨{ s with dev := s.start }, ?_, s.onlyChanges_start⟩
    dsimp only [exec, execResetL]
    exact State.runAny_quiet (if_pos (.inl hsup)) hr hw

end Sys2Proof.Machine

/-! Reading a step's result, and a register's fields after a write: the layer that the proofs on clocks, resets and boot share. -/

namespace Sys2Proof.Machine

/-! The state after a step. -/

section
variable (s : State) (e : Dev)

@[simp] theorem State.after_rd (a : Nat) : (s.after e).dev.rd a = e.rd a := (rfl)
@[simp] theorem State.after_rdN (a : Nat) : (s.after e).dev.rdN a = e.rdN a := (rfl)
@[simp] theorem State.after_get (a : Nat) (f : Fld) : (s.after e).dev.get a f = e.get a f := (rfl)
@[simp] theorem State.after_bit (a : Nat) (f : Fld) : (s.after e).dev.bit a f = e.bit a f := (rfl)
@[simp] theorem State.after_clk : (s.after e).dev.clk = e.clk := (rfl)
@[simp] theorem State.after_alm : (s.after e).dev.alm = e.alm := (rfl)
@[simp] theorem State.after_glk : (s.after e).dev.glk = e.glk := (rfl)
@[simp] theorem State.after_part : (s.after e).dev.part = e.part := (rfl)
@[simp] theorem State.after_clocked : (s.after e).dev.clocked = e.clocked := (rfl)
@[simp] theorem State.after_portState (p : Nat) : (s.after e).dev.portState p = e.portState p := (rfl)
@[simp] theorem State.after_refValid (r : Nat) : (s.after e).dev.refValid r = e.refValid r := (rfl)
@[simp] theorem State.after_refSel : (s.after e).dev.refSel = e.refSel := (rfl)
@[simp] theorem State.after_bootState : (s.after e).dev.bootState = e.bootState := (rfl)
@[simp] theorem State.after_crossing (c : Nat) : (s.after e).dev.crossing c = e.crossing c := (rfl)
@[simp] theorem State.after_flash : (s.after e).flash = s.flash := (rfl)

end

/-- An effect, clocked or not, leaves the device as it makes it, but for what is delivered. -/
theorem State.runAny_after (s : State) {f : Dev → Dev} {e : Dev} (h : f s.start = e) : s.runAny f = .next (s.after e) := by
  rw [← h]; rfl

/-- An effect of clocked logic on a device with a clock. -/
theorem State.run_after {s : State} (hc : s.dev.clocked = true) {f : Dev → Dev} {e : Dev} (h : f s.start = e) :
    s.run f = .next (s.after e) :=
  s.runAny_after ((if_pos hc).trans h)

/-! Fields of a register. -/

/-- Two fields of a word that share no bit. -/
abbrev Fld.disjoint (f g : Fld) : Prop := (f.hi < g.lo ∨ g.hi < f.lo) ∧ f.lo ≤ f.hi ∧ g.lo ≤ g.hi ∧ f.hi < 32

theorem Fld.disjoint.apart {f g : Fld} (h : f.disjoint g) : f.apart g := by
  obtain ⟨hd, hf, hg, -⟩ := h
  exact hd.imp (⟨·, hf⟩) (⟨·, hg⟩)

theorem Dev.get_put_disjoint (d : Dev) (a : Nat) {f g : Fld} (v : Nat) (h : f.disjoint g) : (d.put a f v).get a g = d.get a g :=
  Dev.get_put_apart d a v ⟨h.2.1, h.2.2.2⟩ h.apart

theorem Dev.bit_put_disjoint (d : Dev) (a : Nat) {f g : Fld} (v : Nat) (h : f.disjoint g) : (d.put a f v).bit a g = d.bit a g :=
  Dev.bit_put_apart d a v ⟨h.2.1, h.2.2.2⟩ h.apart

theorem Dev.bit_put_ne (d : Dev) {a b : Nat} (f g : Fld) (v : Nat) (h : b ≠ a) : (d.put a f v).bit b g = d.bit b g :=
  Dev.bit_congr (Dev.rd_put_ne d f v h) g

/-- A field holds the value put there, where it fits. -/
theorem Dev.get_put_eq (d : Dev) (a : Nat) {f : Fld} {v : Nat} (h : f.lo ≤ f.hi ∧ f.hi < 32 ∧ v < 2 ^ (f.hi - f.lo + 1)) :
    (d.put a f v).get a f = v :=
  (Dev.get_put_same d a v ⟨h.1, h.2.1⟩).trans (Nat.mod_eq_of_lt h.2.2)

theorem Dev.bit_put_eq (d : Dev) (a : Nat) {f : Fld} (b : Bool) (h : f.hi = f.lo ∧ f.hi < 32) : (d.put a f (b2n b)).bit a f = b := by
  rw [Dev.bit, Dev.get_put_same _ _ _ ⟨Nat.le_of_eq h.1.symm, h.2⟩, h.1, Nat.sub_self]
  cases b <;> rfl

theorem Dev.bit_put_one (d : Dev) (a : Nat) {f : Fld} (h : f.hi = f.lo ∧ f.hi < 32) : (d.put a f 1).bit a f = true :=
  Dev.bit_put_eq d a true h

theorem Dev.bit_put_zero (d : Dev) (a : Nat) {f : Fld} (h : f.hi = f.lo ∧ f.hi < 32) : (d.put a f 0).bit a f = false :=
  Dev.bit_put_eq d a false h

/-- An alert leaves the fields of other registers alone. -/
theorem Dev.bit_alert (d : Dev) (code : Nat) (ps : List Byte) {a : Nat} (f : Fld) (h : a ∉ alertRegs) :
    (d.alert code ps).bit a f = d.bit a f := Dev.bit_congr (Dev.rd_alert d code ps h) f

theorem Dev.get_alert (d : Dev) (code : Nat) (ps : List Byte) {a : Nat} (f : Fld) (h : a ∉ alertRegs) :
    (d.alert code ps).get a f = d.get a f := Dev.get_congr (Dev.rd_alert d code ps h) f

@[simp] theorem Dev.bit_emit (d : Dev) (k : OutKind) (p : Nat) (l : List Nat) (b : List Byte) (a : Nat) (f : Fld) :
    (d.emit k p l b).bit a f = d.bit a f := Dev.bit_congr (Dev.rd_emit ..) f

@[simp] theorem Dev.get_emit (d : Dev) (k : OutKind) (p : Nat) (l : List Nat) (b : List Byte) (a : Nat) (f : Fld) :
    (d.emit k p l b).get a f = d.get a f := Dev.get_congr (Dev.rd_emit ..) f

/-- A new state of the supervisor leaves every register alone. -/
@[simp] theorem Dev.rd_withClk (d : Dev) (x : ClkState) (a : Nat) : Dev.rd { d with clk := x } a = d.rd a := (rfl)
@[simp] theorem Dev.rdN_withClk (d : Dev) (x : ClkState) (a : Nat) : Dev.rdN { d with clk := x } a = d.rdN a := (rfl)
@[simp] theorem Dev.get_withClk (d : Dev) (x : ClkState) (a : Nat) (f : Fld) : Dev.get { d with clk := x } a f = d.get a f := (rfl)
@[simp] theorem Dev.bit_withClk (d : Dev) (x : ClkState) (a : Nat) (f : Fld) : Dev.bit { d with clk := x } a f = d.bit a f := (rfl)

end Sys2Proof.Machine

/-! Resets, the ring supervisor, and the references (20_clocks_boot.md R583-R593). -/

namespace Sys2Proof.Machine

/-! What a reset keeps (R591). -/

theorem Dev.rd_blank (d : Dev) (a : Nat) : d.blank.rd a = regReset a := (rfl)

theorem Dev.rd_carry_ne (d old : Dev) {a b : Nat} (mask : Nat) (h : b ≠ a) : (d.carry old a mask).rd b = d.rd b := Dev.rd_wrN_ne _ _ h

@[simp] theorem Dev.carry_clk (d old : Dev) (a mask : Nat) : (d.carry old a mask).clk = d.clk := Dev.wrN_clk ..

/-- A register carried whole. -/
theorem Dev.rd_carry_whole (d old : Dev) (a : Nat) : (d.carry old a 0xFFFFFFFF).rd a = old.rd a := by
  have hland : ∀ x < 2 ^ 32, Nat.land x 0xFFFFFFFF = x := fun x h =>
    (Nat.and_two_pow_sub_one_eq_mod x 32).trans (Nat.mod_eq_of_lt h)
  rw [Dev.carry, hland _ (d.rdN_lt a), hland _ (old.rdN_lt a), Nat.sub_self, Nat.zero_add, Dev.rd_wrN_same]
  exact BitVec.ofNat_toNat ..

/-- The registers a warm reset keeps something of, but for the soft spares. -/
def warmKept : List Nat := [rCLK_CTRL, rCLK_STATUS, rCLK_VOID, rCLK_RING_PERIOD, rBOOT_CTRL, rSEC_TAMPER_CTRL, rSEC_STATUS, rPIN_STATUS]

/-- Soft spares carried over a reset write their own registers alone. -/
theorem Dev.rewrites_sparesKept (d old : Dev) (l : List Nat) :
    Dev.Rewrites (fun a => ∃ i ∈ l, a = rMTEST_REPAIR i) d (l.foldl (fun d i => d.wr (rMTEST_REPAIR i) (old.rd (rMTEST_REPAIR i))) d) :=
  Dev.Rewrites.foldl (fun _ i hi => ⟨fun _ ha => Dev.rd_wr_ne _ _ fun h => ha ⟨i, hi, h⟩, rfl⟩) d

theorem Dev.rd_sparesKept (d old : Dev) {a : Nat} (h : ∀ i < 836, a ≠ rMTEST_REPAIR i) :
    ((List.range 836).foldl (fun d i => d.wr (rMTEST_REPAIR i) (old.rd (rMTEST_REPAIR i))) d).rd a = d.rd a :=
  (Dev.rewrites_sparesKept d old _).rd a fun ⟨i, hi, ha⟩ => h i (List.mem_range.1 hi) ha

/-- A warm reset leaves every register it does not keep as it was. -/
theorem Dev.rd_keepWarm (d old : Dev) {a : Nat} (hk : a ∉ warmKept) (h : ∀ i < 836, a ≠ rMTEST_REPAIR i) :
    (d.keepWarm old).rd a = d.rd a := by
  simp only [warmKept, List.mem_cons, List.not_mem_nil, or_false, not_or] at hk
  obtain ⟨h1, h2, h3, h4, h5, h6, h7, h8⟩ := hk
  unfold Dev.keepWarm
  rw [Dev.rd_sparesKept _ _ h]
  rw [Dev.rd_carry_ne _ _ _ h8, Dev.rd_carry_ne _ _ _ h7, Dev.rd_carry_ne _ _ _ h6, Dev.rd_carry_ne _ _ _ h5,
    Dev.rd_carry_ne _ _ _ h4, Dev.rd_carry_ne _ _ _ h3, Dev.rd_carry_ne _ _ _ h2, Dev.rd_carry_ne _ _ _ h1]

theorem Dev.rd_keepWarm_clkVoid (d old : Dev) : (d.keepWarm old).rd rCLK_VOID = old.rd rCLK_VOID := by
  unfold Dev.keepWarm
  rw [Dev.rd_sparesKept _ _ (by intro i _; unfold rCLK_VOID rMTEST_REPAIR; omega)]
  rw [Dev.rd_carry_ne _ _ _ (by decide), Dev.rd_carry_ne _ _ _ (by decide), Dev.rd_carry_ne _ _ _ (by decide),
    Dev.rd_carry_ne _ _ _ (by decide), Dev.rd_carry_ne _ _ _ (by decide), Dev.rd_carry_whole]

/-! START (R598). -/

theorem Dev.rd_withCiph (d : Dev) (x : CipherState) (a : Nat) : Dev.rd { d with ciph := x } a = d.rd a := (rfl)
theorem Dev.withCiph_clk (d : Dev) (x : CipherState) : Dev.clk { d with ciph := x } = d.clk := (rfl)

theorem Dev.rd_bootStart (d : Dev) (cold : Bool) {a : Nat} (h : a ≠ rBOOT_STATUS) : (d.bootStart cold).rd a = d.rd a := by
  have hput := d.rd_put_ne fBOOT_STATUS_STATE 1 h
  unfold Dev.bootStart
  dsimp only
  generalize d.put rBOOT_STATUS fBOOT_STATUS_STATE 1 = e at hput ⊢
  split
  · rfl
  · split
    · exact (e.rd_withCiph _ a).trans hput
    · exact hput

theorem Dev.bootStart_clk (d : Dev) (cold : Bool) : (d.bootStart cold).clk = d.clk := by
  have hput := d.put_clk rBOOT_STATUS fBOOT_STATUS_STATE 1
  unfold Dev.bootStart
  dsimp only
  generalize d.put rBOOT_STATUS fBOOT_STATUS_STATE 1 = e at hput ⊢
  split
  · rfl
  · split
    · exact (e.withCiph_clk _).trans hput
    · exact hput

/-- START of a device at reset goes on to ARCHIVE (R598). -/
theorem Dev.bootState_bootStart {d : Dev} (cold : Bool) (h : d.bootState = 0) : (d.bootStart cold).bootState = 1 := by
  have hput : (d.put rBOOT_STATUS fBOOT_STATUS_STATE 1).bootState = 1 := Dev.get_put_eq _ _ (by decide)
  have hzero : ¬(d.get rBOOT_STATUS fBOOT_STATUS_STATE ≠ 0) := not_not.2 h
  unfold Dev.bootStart
  rw [if_neg hzero]
  dsimp only
  generalize d.put rBOOT_STATUS fBOOT_STATUS_STATE 1 = e at hput ⊢
  split
  · exact (Dev.get_congr (e.rd_withCiph _ _) _).trans hput
  · exact hput

/-! The warm reset (R591). -/

/-- One tree's laser goes dark. -/
def Dev.laserDark (d : Dev) (t : Nat) : Dev :=
  if d.bit (rTREE_LINE_STATUS t) fTREE_LINE_STATUS_LASER_ON then (d.put (rTREE_LINE_STATUS t) fTREE_LINE_STATUS_LASER_ON 0).emit .txdis t [1]
  else d

/-- One cage's laser goes dark. -/
def Dev.cageDark (d : Dev) (k : Nat) : Dev :=
  if (d.cage (48 + k)).laser then (d.updCage (48 + k) (fun x => { x with laser := false })).emit .txdis (48 + k) [1] else d

theorem Dev.lasersOff_eq (d : Dev) : d.lasersOff = (List.range 12).foldl Dev.cageDark ((List.range 48).foldl Dev.laserDark d) := by rfl

theorem Dev.laserDark_clk (d : Dev) (t : Nat) : (d.laserDark t).clk = d.clk := by
  unfold Dev.laserDark
  split
  · exact (Dev.emit_clk ..).trans (Dev.put_clk ..)
  · rfl

theorem Dev.rd_laserDark (d : Dev) {t a : Nat} (h : a ≠ rTREE_LINE_STATUS t) : (d.laserDark t).rd a = d.rd a := by
  unfold Dev.laserDark
  split
  · exact (Dev.rd_emit ..).trans (Dev.rd_put_ne _ _ _ h)
  · rfl

theorem Dev.laserDark_dark (d : Dev) (t : Nat) : (d.laserDark t).bit (rTREE_LINE_STATUS t) fTREE_LINE_STATUS_LASER_ON = false := by
  unfold Dev.laserDark
  split
  · exact (Dev.bit_emit ..).trans (Dev.bit_put_zero _ _ (by decide))
  · next h => exact Bool.eq_false_iff.2 h

/-- A laser that is dark stays dark. -/
theorem Dev.laserDark_keeps (d : Dev) (t : Nat) {k : Nat} (h : d.bit (rTREE_LINE_STATUS k) fTREE_LINE_STATUS_LASER_ON = false) :
    (d.laserDark t).bit (rTREE_LINE_STATUS k) fTREE_LINE_STATUS_LASER_ON = false := by
  by_cases hkt : rTREE_LINE_STATUS k = rTREE_LINE_STATUS t
  · rw [hkt]; exact d.laserDark_dark t
  · exact (Dev.bit_congr (d.rd_laserDark hkt) _).trans h

theorem Dev.cageDark_clk (d : Dev) (k : Nat) : (d.cageDark k).clk = d.clk := by
  unfold Dev.cageDark
  split
  · exact Dev.emit_clk ..
  · rfl

theorem Dev.rd_cageDark (d : Dev) (k a : Nat) : (d.cageDark k).rd a = d.rd a := by
  unfold Dev.cageDark
  split
  · exact (Dev.rd_emit ..).trans (Dev.rd_updCage ..)
  · rfl

theorem Dev.lasersOff_clk (d : Dev) : d.lasersOff.clk = d.clk := by
  rw [Dev.lasersOff_eq, foldl_keeps Dev.clk Dev.cageDark_clk, foldl_keeps Dev.clk Dev.laserDark_clk]

/-- Driving the lasers dark writes the trees' line status alone. -/
theorem Dev.rd_lasersOff (d : Dev) {a : Nat} (h : ∀ k < 48, a ≠ rTREE_LINE_STATUS k) : d.lasersOff.rd a = d.rd a := by
  rw [Dev.lasersOff_eq, foldl_keeps (Dev.rd · a) (fun e k => e.rd_cageDark k a)]
  exact List.foldlRecOn (motive := fun e : Dev => e.rd a = d.rd a) _ _ rfl fun e he k hk =>
    (e.rd_laserDark (h k (List.mem_range.1 hk))).trans he

/-- Every tree's laser is dark after that. -/
theorem Dev.lasersOff_dark (d : Dev) {k : Nat} (hk : k < 48) :
    d.lasersOff.bit (rTREE_LINE_STATUS k) fTREE_LINE_STATUS_LASER_ON = false := by
  rw [Dev.lasersOff_eq, foldl_keeps (Dev.bit · _ _) (fun e k => Dev.bit_congr (e.rd_cageDark k _) _)]
  have hall : ∀ (l : List Nat) (e : Dev), k ∈ l ∨ e.bit (rTREE_LINE_STATUS k) fTREE_LINE_STATUS_LASER_ON = false →
      (l.foldl Dev.laserDark e).bit (rTREE_LINE_STATUS k) fTREE_LINE_STATUS_LASER_ON = false := by
    intro l
    induction l with
    | nil => simp
    | cons j l ih =>
      intro e h
      refine ih _ ?_
      rcases h with hm | hd
      · rcases List.mem_cons.1 hm with rfl | hl
        · exact .inr (e.laserDark_dark k)
        · exact .inl hl
      · exact .inr (e.laserDark_keeps j hd)
  exact hall _ _ (.inl (List.mem_range.2 hk))

theorem Dev.timeOkLow_clk (d : Dev) : d.timeOkLow.clk = d.clk := by
  unfold Dev.timeOkLow
  split
  · simp
  · rfl

theorem Dev.pinsReset_clk (d : Dev) : d.pinsReset.clk = d.clk := by
  have hlow : d.lasersOff.timeOkLow.clk = d.clk := (Dev.timeOkLow_clk _).trans d.lasersOff_clk
  unfold Dev.pinsReset
  dsimp only
  repeat' split
  all_goals simp [hlow]

/-- Driving TIME_OK low writes the two registers that show it. -/
theorem Dev.rd_timeOkLow (d : Dev) {a : Nat} (h1 : a ≠ rALM_STATUS) (h2 : a ≠ rPIN_STATUS) : d.timeOkLow.rd a = d.rd a := by
  unfold Dev.timeOkLow
  split
  · rw [Dev.rd_emit, Dev.rd_put_ne _ _ _ h2, Dev.rd_put_ne _ _ _ h1]
  · rfl

/-- The pins' reset levels are written to the registers that show them. -/
theorem Dev.rd_pinsReset (d : Dev) {a : Nat} (h : ∀ k < 48, a ≠ rTREE_LINE_STATUS k) (h1 : a ≠ rALM_STATUS)
    (h2 : a ≠ rPIN_STATUS) : d.pinsReset.rd a = d.rd a := by
  have hlow : d.lasersOff.timeOkLow.rd a = d.rd a := (Dev.rd_timeOkLow _ h1 h2).trans (d.rd_lasersOff h)
  unfold Dev.pinsReset
  dsimp only
  repeat' split
  all_goals simp only [Dev.rd_emit, Dev.rd_put_ne _ _ _ h2, hlow]

/-- The registers a warm reset begins with, the cause of the reset apart. -/
def Dev.warmRegs (d : Dev) : Dev := d.pinsReset.blank.keepWarm d.pinsReset

/-- A warm reset from the pins at their reset levels, `p`, and the registers kept, `n`. -/
def Dev.warmEnd (p n : Dev) (source : Nat) : Dev :=
  let n := { n with
    clk := { sup := p.clk.sup, attempts := p.clk.attempts, trying := p.clk.trying }
    ciph := { devKey := p.ciph.devKey, zeroing := p.ciph.zeroing }
    pin := { challenge := p.pin.challenge, fails := p.pin.fails } }
  let n := if p.zeroised then n.put rCIPH_STATUS fCIPH_STATUS_STATE 2 else n
  let n := n.cause 2 source
  if n.aoClocked then n.bootStart false else n

theorem Dev.warmReset_eq (d : Dev) (source : Nat) : d.warmReset source = d.pinsReset.warmEnd d.warmRegs source := rfl

theorem Dev.warmEnd_shape (p w : Dev) (source : Nat) : ∃ n : Dev, (∀ a, a ≠ rCIPH_STATUS → n.rd a = w.rd a) ∧
    n.clk = { sup := p.clk.sup, attempts := p.clk.attempts, trying := p.clk.trying } ∧
    (p.warmEnd w source = n.cause 2 source ∨ p.warmEnd w source = (n.cause 2 source).bootStart false) := by
  unfold Dev.warmEnd
  dsimp only
  generalize hn : { w with clk := _, ciph := _, pin := _ : Dev } = n
  have hrd : ∀ a, n.rd a = w.rd a := fun a => by rw [← hn]; rfl
  have hclk : n.clk = { sup := p.clk.sup, attempts := p.clk.attempts, trying := p.clk.trying } := by rw [← hn]
  refine ⟨if p.zeroised then n.put rCIPH_STATUS fCIPH_STATUS_STATE 2 else n, fun a ha => ?_, ?_, ?_⟩
  · split
    · exact (Dev.rd_put_ne _ _ _ ha).trans (hrd a)
    · exact hrd a
  · split
    · exact (Dev.put_clk ..).trans hclk
    · exact hclk
  · generalize (if p.zeroised = true then n.put rCIPH_STATUS fCIPH_STATUS_STATE 2 else n) = m
    split
    · exact .inr rfl
    · exact .inl rfl

/-- A warm reset: the registers it keeps, the supervisor's state, and the cause; then START where AO has a clock. -/
theorem Dev.warmReset_shape (d : Dev) (source : Nat) : ∃ n : Dev, (∀ a, a ≠ rCIPH_STATUS → n.rd a = d.warmRegs.rd a) ∧
    n.clk = { sup := d.clk.sup, attempts := d.clk.attempts, trying := d.clk.trying } ∧
    (d.warmReset source = n.cause 2 source ∨ d.warmReset source = (n.cause 2 source).bootStart false) := by
  rw [Dev.warmReset_eq, ← d.pinsReset_clk]
  exact Dev.warmEnd_shape ..

/-- A warm reset writes no register but those of its cause, of the cipher's state and of boot. -/
theorem Dev.rd_warmReset (d : Dev) (source : Nat) {a : Nat} (h1 : a ≠ rRST_CAUSE) (h2 : a ≠ rCIPH_STATUS) (h3 : a ≠ rBOOT_STATUS) :
    (d.warmReset source).rd a = d.warmRegs.rd a := by
  obtain ⟨n, hrd, -, hshape⟩ := d.warmReset_shape source
  have hcause : (n.cause 2 source).rd a = d.warmRegs.rd a :=
    (Dev.rd_put_ne _ _ _ h1).trans ((Dev.rd_put_ne _ _ _ h1).trans (hrd a h2))
  rcases hshape with h | h <;> rw [h]
  · exact hcause
  · exact (Dev.rd_bootStart _ _ h3).trans hcause

theorem Dev.warmReset_clk (d : Dev) (source : Nat) :
    (d.warmReset source).clk = { sup := d.clk.sup, attempts := d.clk.attempts, trying := d.clk.trying } := by
  obtain ⟨n, -, hclk, hshape⟩ := d.warmReset_shape source
  have hcause : (n.cause 2 source).clk = n.clk := (Dev.put_clk ..).trans (Dev.put_clk ..)
  rcases hshape with h | h <;> rw [h]
  · exact hcause.trans hclk
  · exact (Dev.bootStart_clk ..).trans (hcause.trans hclk)

/-- A warm reset shows its KIND and SOURCE (R601). -/
theorem Dev.warmReset_cause (d : Dev) {source : Nat} (h : source < 8) :
    (d.warmReset source).get rRST_CAUSE fRST_CAUSE_KIND = 2 ∧ (d.warmReset source).get rRST_CAUSE fRST_CAUSE_SOURCE = source := by
  obtain ⟨n, -, -, hshape⟩ := d.warmReset_shape source
  have hcause : (n.cause 2 source).get rRST_CAUSE fRST_CAUSE_KIND = 2 ∧ (n.cause 2 source).get rRST_CAUSE fRST_CAUSE_SOURCE = source :=
    ⟨(Dev.get_put_disjoint _ _ _ (by decide)).trans (Dev.get_put_eq _ _ (by decide)), Dev.get_put_eq _ _ ⟨by decide, by decide, h⟩⟩
  rcases hshape with he | he <;> rw [he]
  · exact hcause
  · have hrd := (n.cause 2 source).rd_bootStart false (a := rRST_CAUSE) (by decide)
    exact ⟨(Dev.get_congr hrd _).trans hcause.1, (Dev.get_congr hrd _).trans hcause.2⟩

/-- A register of a tree is none of the spares'. -/
theorem rMTEST_REPAIR_lt {i : Nat} (h : i < 836) : rMTEST_REPAIR i < 0x1000000 := by unfold rMTEST_REPAIR; omega

/-- A warm reset returns every register of a tree to its reset value (R591). -/
theorem Dev.rd_warmReset_tree (d : Dev) (source : Nat) {a : Nat} (h : 0x1000000 ≤ a) (h' : a < 0x1300000) :
    (d.warmReset source).rd a = regReset a := by
  have hne : ∀ b ∈ rRST_CAUSE :: rCIPH_STATUS :: rBOOT_STATUS :: warmKept, a ≠ b := by
    have hlt : ∀ b ∈ rRST_CAUSE :: rCIPH_STATUS :: rBOOT_STATUS :: warmKept, b < 0x1000000 ∨ 0x1300000 ≤ b := by decide
    intro b hb e
    have := hlt b hb
    omega
  rw [Dev.rd_warmReset _ _ (hne _ (by decide)) (hne _ (by decide)) (hne _ (by decide)), Dev.warmRegs, Dev.rd_keepWarm _ _
    (fun hm => hne a (by simp [hm]) rfl) (fun i hi e => absurd (rMTEST_REPAIR_lt hi) (by omega)), Dev.rd_blank]

/-- A warm reset keeps CLK_VOID (R591). -/
theorem Dev.rd_warmReset_clkVoid (d : Dev) (source : Nat) : (d.warmReset source).rd rCLK_VOID = d.rd rCLK_VOID := by
  rw [Dev.rd_warmReset _ _ (by decide) (by decide) (by decide), Dev.warmRegs, Dev.rd_keepWarm_clkVoid]
  exact Dev.rd_pinsReset d (by decide) (by decide) (by decide)

end Sys2Proof.Machine

/-! What the Gellen link's own work can change: transactions given to a port, alerts, and the DMA rings (19_gellen.md R552-R556,
R570-R575). -/

namespace Sys2Proof.Machine

/-- From one state of the device to another the link did its work: beside its registers, its state and what was sent nothing
changes but the counters and a packet's entry to the Colander; no port changes state, a port that is not UP keeps all it holds,
and of GLK_ERR only the bits of alerts lost and of deliveries dropped can change. -/
structure Dev.LinkWork (d e : Dev) : Prop where
  rd : ∀ a, ¬linkReg a → a ≠ rCOL_CNT 0 → e.rd a = d.rd a
  state : ∀ p, e.portState p = d.portState p
  err : ∀ g, fGLK_ERR_ALERT_LOST.disjoint g → fGLK_ERR_RING_DROP.disjoint g → e.get rGLK_ERR g = d.get rGLK_ERR g
  idle : ∀ p, d.portState p ≠ 4 → e.port p = d.port p
  cmds : e.glk.cmds = d.glk.cmds
  rest : e = { d with regs := e.regs, glk := e.glk, out := e.out, once := e.once, col := e.col }

theorem Dev.LinkWork.refl (d : Dev) : d.LinkWork d :=
  ⟨fun _ _ _ => rfl, fun _ => rfl, fun _ _ _ => rfl, fun _ _ => rfl, rfl, rfl⟩

theorem Dev.LinkWork.trans {d e f : Dev} (h : d.LinkWork e) (k : e.LinkWork f) : d.LinkWork f where
  rd a h1 h2 := (k.rd a h1 h2).trans (h.rd a h1 h2)
  state p := (k.state p).trans (h.state p)
  err g h1 h2 := (k.err g h1 h2).trans (h.err g h1 h2)
  idle p hp := (k.idle p (by rwa [h.state p])).trans (h.idle p hp)
  cmds := k.cmds.trans h.cmds
  rest := by have hrest := k.rest; rw [h.rest] at hrest; exact hrest

theorem Dev.LinkWork.ite {d e f : Dev} {c : Prop} [Decidable c] (h : d.LinkWork e) (k : d.LinkWork f) :
    d.LinkWork (if c then e else f) := by
  split
  · exact h
  · exact k

theorem Dev.LinkWork.foldl {α : Type} {f : Dev → α → Dev} {l : List α} (h : ∀ d : Dev, ∀ x ∈ l, d.LinkWork (f d x)) (d : Dev) :
    d.LinkWork (l.foldl f d) :=
  List.foldlRecOn (motive := fun e : Dev => d.LinkWork e) l f (.refl d) fun e he x hx => he.trans (h e x hx)

theorem Dev.LinkWork.clk {d e : Dev} (h : d.LinkWork e) : e.clk = d.clk := (congrArg Dev.clk h.rest).trans rfl
theorem Dev.LinkWork.alm {d e : Dev} (h : d.LinkWork e) : e.alm = d.alm := (congrArg Dev.alm h.rest).trans rfl
theorem Dev.LinkWork.replies {d e : Dev} (h : d.LinkWork e) : e.replies = d.replies := (congrArg Dev.replies h.rest).trans rfl
theorem Dev.LinkWork.wipes {d e : Dev} (h : d.LinkWork e) : e.wipes = d.wipes := (congrArg Dev.wipes h.rest).trans rfl

/-- Registers of the link's block whose change is the link's work. -/
def linkWorkReg (a : Nat) : Prop := (linkReg a ∨ a = rCOL_CNT 0) ∧ a ≠ rGLK_STATUS ∧ a ≠ rGLK_ERR

theorem Dev.Rewrites.linkRest {P : Nat → Prop} {d e : Dev} (h : Dev.Rewrites P d e) :
    e = { d with regs := e.regs, glk := e.glk, out := e.out, once := e.once, col := e.col } := by
  have hrest := h.rest
  generalize e.regs = r at hrest
  rw [hrest]

theorem Dev.Rewrites.linkWork {P : Nat → Prop} {d e : Dev} (h : Dev.Rewrites P d e) (hP : ∀ a, P a → linkWorkReg a) : d.LinkWork e where
  rd a h1 h2 := h.rd a fun ha => ((hP a ha).1.elim h1 h2)
  state p := Dev.get_congr (h.rd _ fun ha => (hP _ ha).2.1 rfl) _
  err g _ _ := Dev.get_congr (h.rd _ fun ha => (hP _ ha).2.2 rfl) _
  idle p _ := Dev.port_congr h.glk p
  cmds := congrArg GlkState.cmds h.glk
  rest := h.linkRest

theorem Dev.linkWork_bumpBy (d : Dev) {a : Nat} (n : Nat) (h : linkWorkReg a) : d.LinkWork (d.bumpBy a n) :=
  (Dev.rewrites_bumpBy (P := (· = a)) d n rfl).linkWork (fun _ hb => hb ▸ h)

theorem Dev.linkWork_bump (d : Dev) {a : Nat} (h : linkWorkReg a) : d.LinkWork (d.bump a) := d.linkWork_bumpBy 1 h

theorem Dev.linkWork_put (d : Dev) {a : Nat} (f : Fld) (v : Nat) (h : linkWorkReg a) : d.LinkWork (d.put a f v) :=
  (Dev.rewrites_put (P := (· = a)) d f v rfl).linkWork (fun _ hb => hb ▸ h)

theorem Dev.linkWork_evc (d : Dev) (ev n : Nat) (a : EvAttr) : d.LinkWork (d.evc ev n a) :=
  (d.rewrites_evc ev n a).linkWork fun b ⟨hlo, hhi⟩ =>
    ⟨.inl (.inr (.inl ⟨hlo, hhi⟩)), by unfold rGLK_STATUS; omega, by unfold rGLK_ERR; omega⟩

/-- Something sent beside the link. -/
theorem Dev.linkWork_emit (d : Dev) (k : OutKind) (p : Nat) (l : List Nat) (b : List Byte) : d.LinkWork (d.emit k p l b) where
  rd a _ _ := Dev.rd_emit ..
  state p := Dev.get_emit ..
  err g _ _ := Dev.get_emit ..
  idle p _ := Dev.port_emit ..
  cmds := congrArg GlkState.cmds (Dev.emit_glk ..)
  rest := by unfold Dev.emit; split <;> rfl

/-- A port sends on itself alone. -/
theorem Dev.port_setPort_other (d : Dev) {p q : Nat} (x : GlkPort) (h : (p = 0) ≠ (q = 0)) : (d.setPort p x).port q = d.port q := by
  unfold Dev.setPort Dev.port
  by_cases hp : p = 0 <;> by_cases hq : q = 0 <;> simp_all

theorem Dev.port_pumpList_other (d : Dev) {p q : Nat} (bl : List Nat) (ts : List Trans) (h : (p = 0) ≠ (q = 0)) :
    (Dev.pumpList d p bl ts).port q = d.port q := by
  induction ts generalizing d bl with
  | nil => rfl
  | cons t ts ih =>
    unfold Dev.pumpList
    dsimp only
    split
    · exact (ih ..).trans (Dev.port_setPort_other _ _ h)
    · exact (ih ..).trans ((Dev.port_emit ..).trans (Dev.port_setPort_other _ _ h))

theorem Dev.port_pump_other (d : Dev) {p q : Nat} (h : (p = 0) ≠ (q = 0)) : (d.pump p).port q = d.port q := by
  unfold Dev.pump
  split
  · exact (Dev.port_pumpList_other _ _ _ h).trans (Dev.port_setPort_other _ _ h)
  · rfl

/-- The state of a port depends on whether it is the first alone. -/
theorem Dev.portState_alias (d : Dev) {p q : Nat} (h : (p = 0) = (q = 0)) : d.portState p = d.portState q := by
  unfold Dev.portState fPortState
  simp only [h]

/-- A transaction given to a port leaves a port that is not UP alone. -/
theorem Dev.port_send_idle (d : Dev) (p typ : Nat) (b : List Byte) {q : Nat} (hq : d.portState q ≠ 4) :
    (d.send p typ b).port q = d.port q := by
  unfold Dev.send
  split
  · next hp =>
    have hpq : (p = 0) ≠ (q = 0) := fun h => hq ((d.portState_alias h).symm.trans hp)
    exact (Dev.port_pump_other _ hpq).trans (Dev.port_setPort_other _ _ hpq)
  · rfl

theorem linkWorkReg_cnt {i : Nat} (h : i < 10) : linkWorkReg (rGLK_CNT i) :=
  ⟨.inl (linkReg_rGLK_CNT h), by unfold rGLK_CNT rGLK_STATUS; omega, by unfold rGLK_CNT rGLK_ERR; omega⟩

/-- A transaction given to a port is the link's work. -/
theorem Dev.linkWork_send (d : Dev) (p typ : Nat) (b : List Byte) : d.LinkWork (d.send p typ b) := by
  have htalk := d.talk_send p typ b
  have hcnt : ∀ a, a ≠ rGLK_CNT 0 → (d.send p typ b).rd a = d.rd a := fun a ha => htalk.rd a (by simpa using ha)
  refine ⟨fun a h1 _ => hcnt a fun h => h1 (h ▸ linkReg_rGLK_CNT (by decide)), fun q => Dev.get_congr (hcnt _ (by decide)) _,
    fun g _ _ => Dev.get_congr (hcnt _ (by decide)) _, fun q hq => d.port_send_idle p typ b hq, htalk.glk_cmds, ?_⟩
  have hrest := htalk.rest
  generalize (d.send p typ b).regs = r, (d.send p typ b).out = o, (d.send p typ b).glk.portA = pa,
    (d.send p typ b).glk.portB = pb, (d.send p typ b).glk.log = lg at hrest
  rw [hrest]

/-! Alerts (R574, R575). -/

/-- ALERT_PEND is no part of a port's state. -/
theorem alertPend_disjoint (p : Nat) : fGLK_STATUS_ALERT_PEND.disjoint (fPortState p) := by
  unfold fPortState
  split <;> decide

theorem linkReg_rGLK_STATUS : linkReg rGLK_STATUS := .inl (by decide)

theorem Dev.linkWork_alertPend (d : Dev) (v : Nat) : d.LinkWork (d.put rGLK_STATUS fGLK_STATUS_ALERT_PEND v) := by
  have hne : ∀ a, a ≠ rGLK_STATUS → (d.put rGLK_STATUS fGLK_STATUS_ALERT_PEND v).rd a = d.rd a := fun a => d.rd_put_ne _ _
  refine ⟨fun a h1 _ => hne a fun ha => h1 (ha ▸ linkReg_rGLK_STATUS), fun p => d.get_put_disjoint _ _ (alertPend_disjoint p),
    fun g _ _ => Dev.get_congr (hne _ (by decide)) g, fun _ _ => ?_, ?_, ?_⟩
  · exact Dev.port_congr (Dev.put_glk ..) _
  · exact congrArg GlkState.cmds (Dev.put_glk ..)
  · exact (d.rewrites_put (P := fun _ => True) fGLK_STATUS_ALERT_PEND v trivial (a := rGLK_STATUS)).linkRest

theorem Dev.linkWork_alertPin (d : Dev) : d.LinkWork d.alertPin := by
  unfold Dev.alertPin
  refine .ite (.refl d) ?_
  exact ((d.linkWork_alertPend _).trans (Dev.linkWork_put _ _ _ ⟨.inl (.inr (.inr rfl)), by decide, by decide⟩)).trans
    (Dev.linkWork_emit ..)

theorem Dev.linkWork_sendAlert (d : Dev) (a : AlertRec) : d.LinkWork (d.sendAlert a) := by
  unfold Dev.sendAlert
  refine .ite ?_ ?_
  · exact ((Dev.linkWork_send ..).trans (Dev.linkWork_send ..)).trans (Dev.linkWork_bumpBy _ _ (linkWorkReg_cnt (by decide)))
  · split
    · exact (Dev.linkWork_send ..).trans (Dev.linkWork_bump _ (linkWorkReg_cnt (by decide)))
    · exact .refl d

/-- A sticky bit of GLK_ERR that the link's work sets. -/
theorem Dev.linkWork_markErr (d : Dev) {f : Fld} (h : f = fGLK_ERR_ALERT_LOST ∨ f = fGLK_ERR_RING_DROP) :
    d.LinkWork (d.mark rGLK_ERR f) where
  rd a h1 _ := Dev.rd_put_ne _ _ _ fun ha => h1 (ha ▸ .inl (by decide))
  state p := Dev.get_put_ne _ _ _ _ (by decide)
  err g hl hd := Dev.get_put_disjoint _ _ _ (by rcases h with rfl | rfl; exacts [hl, hd])
  idle _ _ := rfl
  cmds := rfl
  rest := rfl

/-- A change of the link's state beside its ports and commands. -/
theorem Dev.linkWork_glk (d : Dev) {x : GlkState} (hA : x.portA = d.glk.portA) (hB : x.portB = d.glk.portB) (hc : x.cmds = d.glk.cmds) :
    d.LinkWork { d with glk := x } where
  rd _ _ _ := rfl
  state _ := rfl
  err _ _ _ := rfl
  idle p _ := by unfold Dev.port; rw [hA, hB]
  cmds := hc
  rest := rfl

/-- An alert enters the log, under the next sequence; an unacknowledged entry it overwrites is lost. -/
def Dev.alertLogged (d : Dev) (lost : Bool) (seq : Nat) (log : List AlertRec) : Dev :=
  let d := (d.when lost (fun d => (d.bump (rGLK_CNT 7)).mark rGLK_ERR fGLK_ERR_ALERT_LOST)).put rGLK_ALERT_SEQ fGLK_ALERT_SEQ_SEQ seq
  { d with glk := { d.glk with log := log } }

/-- An alert that is not masked enters the log and is sent (R575). -/
theorem Dev.alert_eq (d : Dev) (code : Nat) (ps : List Byte) : d.alert code ps = d ∨
    ∃ lost seq log a, d.alert code ps = ((d.alertLogged lost seq log).sendAlert a).alertPin := by
  unfold Dev.alert
  split
  · exact .inl rfl
  · refine .inr ⟨_, _, _, _, rfl⟩

theorem linkWorkReg_alertSeq : linkWorkReg rGLK_ALERT_SEQ := ⟨.inl (.inl (by decide)), by decide, by decide⟩

theorem Dev.linkWork_alertLogged (d : Dev) (lost : Bool) (seq : Nat) (log : List AlertRec) : d.LinkWork (d.alertLogged lost seq log) := by
  have hlost : d.LinkWork (d.when lost (fun d => (d.bump (rGLK_CNT 7)).mark rGLK_ERR fGLK_ERR_ALERT_LOST)) :=
    .ite ((Dev.linkWork_bump _ (linkWorkReg_cnt (by decide))).trans (Dev.linkWork_markErr _ (.inl rfl))) (.refl d)
  unfold Dev.alertLogged
  generalize d.when lost _ = e at hlost ⊢
  have hput := hlost.trans (e.linkWork_put fGLK_ALERT_SEQ_SEQ seq linkWorkReg_alertSeq)
  generalize e.put rGLK_ALERT_SEQ fGLK_ALERT_SEQ_SEQ seq = x at hput ⊢
  exact hput.trans (x.linkWork_glk rfl rfl rfl)

theorem Dev.linkWork_alert (d : Dev) (code : Nat) (ps : List Byte) : d.LinkWork (d.alert code ps) := by
  rcases d.alert_eq code ps with h | ⟨lost, seq, log, a, h⟩ <;> rw [h]
  · exact .refl d
  · exact ((d.linkWork_alertLogged ..).trans (Dev.linkWork_sendAlert ..)).trans (Dev.linkWork_alertPin _)

theorem Dev.linkWork_once (d : Dev) (l : List (Nat × Nat)) : d.LinkWork { d with once := l } :=
  ⟨fun _ _ _ => rfl, fun _ => rfl, fun _ _ _ => rfl, fun _ _ => rfl, rfl, rfl⟩

theorem Dev.linkWork_alertOnce (d : Dev) (code key : Nat) (ps : List Byte) : d.LinkWork (d.alertOnce code key ps) := by
  unfold Dev.alertOnce
  exact .ite (.refl d) ((d.linkWork_alert code ps).trans (Dev.linkWork_once ..))

/-! The rings (R570-R573). -/

theorem Dev.linkWork_setRing (d : Dev) (r : Nat) (x : RingX) : d.LinkWork (d.setRing r x) := Dev.linkWork_glk d rfl rfl rfl

theorem Dev.linkWork_updRing (d : Dev) (r : Nat) (f : RingX → RingX) : d.LinkWork (d.updRing r f) := d.linkWork_setRing ..

theorem Dev.linkWork_dmaWrite (d : Dev) (p r addr : Nat) (bs : List Byte) : d.LinkWork (d.dmaWrite p r addr bs) := Dev.linkWork_send ..

theorem Dev.linkWork_dmaRead (d : Dev) (p r addr n : Nat) (desc : Bool) : d.LinkWork (d.dmaRead p r addr n desc) := by
  have htag : d.LinkWork { d with glk := { d.glk with nextTag := (d.glk.nextTag + 1) % 65536 } } := d.linkWork_glk rfl rfl rfl
  unfold Dev.dmaRead
  exact (htag.trans (Dev.linkWork_updRing ..)).trans (Dev.linkWork_send ..)

theorem Dev.linkWork_ringEvent (d : Dev) (r : Nat) : d.LinkWork (d.ringEvent r) := by
  unfold Dev.ringEvent
  refine .ite (.refl d) ?_
  split
  · exact .refl d
  · exact (Dev.linkWork_updRing ..).trans (Dev.linkWork_send ..)

/-- A register of a ring of the 24. -/
theorem linkWorkReg_ring {r : Nat} (h : r < 24) : linkWorkReg (rGLK_RING_HEAD r) ∧ linkWorkReg (rGLK_RING_DROP r) := by
  unfold linkWorkReg linkReg rGLK_RING_HEAD rGLK_RING_DROP rGLK_STATUS rGLK_ERR
  omega

section
variable {r : Nat} (hr : r < 24)
include hr

theorem Dev.linkWork_ringAdvance (d : Dev) (n : Nat) : d.LinkWork (d.ringAdvance r n) := by
  unfold Dev.ringAdvance
  have hhead := Dev.linkWork_put d fGLK_RING_HEAD_HEAD ((d.ringHead r + n) % d.ringSize r) (linkWorkReg_ring hr).1
  exact .ite ((hhead.trans (Dev.linkWork_updRing ..)).trans (Dev.linkWork_ringEvent ..)) (hhead.trans (Dev.linkWork_updRing ..))

theorem Dev.linkWork_ringDrop (d : Dev) : d.LinkWork (d.ringDrop r) :=
  ((Dev.linkWork_bump d (linkWorkReg_ring hr).2).trans (Dev.linkWork_markErr _ (.inr rfl))).trans (Dev.linkWork_alertOnce ..)

theorem Dev.linkWork_ringWrite (d : Dev) (p : Nat) (bs : List Byte) : d.LinkWork (d.ringWrite p r bs) := by
  unfold Dev.ringWrite
  refine Dev.LinkWork.trans ?_ (Dev.linkWork_ringAdvance hr _ _)
  refine Dev.LinkWork.trans ?_ (Dev.LinkWork.foldl (fun _ _ _ => Dev.linkWork_dmaWrite ..) _)
  refine Dev.LinkWork.trans (Dev.linkWork_updRing ..) (Dev.LinkWork.foldl (fun _ _ _ => ?_) _)
  exact Dev.LinkWork.foldl (fun _ _ _ => Dev.linkWork_dmaWrite ..) _

omit hr in
theorem Dev.linkWork_ringFetch (d : Dev) (r : Nat) : d.LinkWork (d.ringFetch r) := by
  unfold Dev.ringFetch
  refine .ite (.refl d) ?_
  split
  · exact .refl d
  · exact Dev.linkWork_dmaRead ..

theorem Dev.linkWork_ringServe (d : Dev) (w : List (List Byte)) : d.LinkWork (d.ringServe r w) := by
  induction w generalizing d with
  | nil => exact .refl d
  | cons bs w ih =>
    unfold Dev.ringServe
    refine .ite ((d.linkWork_ringDrop hr).trans (ih _)) (.ite ?_ ?_)
    · exact (Dev.linkWork_updRing ..).trans (Dev.linkWork_ringFetch ..)
    · split
      · exact Dev.linkWork_updRing ..
      · exact .ite ((d.linkWork_ringDrop hr).trans (ih _)) ((d.linkWork_ringWrite hr ..).trans (ih _))

theorem Dev.linkWork_ringAgain (d : Dev) : d.LinkWork (d.ringAgain r) :=
  ((Dev.linkWork_updRing ..).trans (Dev.linkWork_ringServe hr ..)).trans (Dev.linkWork_ringFetch ..)

theorem Dev.linkWork_ringDeliver (d : Dev) (bs : List Byte) : d.LinkWork (d.ringDeliver r bs) :=
  (Dev.linkWork_updRing ..).trans (Dev.linkWork_ringServe hr ..)

omit hr in
/-- A packet's entry to the Colander. -/
theorem Dev.linkWork_colEnter (d : Dev) (p : Pkt) : d.LinkWork (d.colEnter p) := by
  have hcol : ∀ (e : Dev) (x : ColState), e.LinkWork { e with col := x } := fun e x =>
    ⟨fun _ _ _ => rfl, fun _ => rfl, fun _ _ _ => rfl, fun _ _ => rfl, rfl, rfl⟩
  unfold Dev.colEnter
  refine Dev.LinkWork.trans ?_ (hcol ..)
  refine Dev.LinkWork.trans ?_ (hcol ..)
  exact ((Dev.linkWork_bump d ⟨.inr rfl, by decide, by decide⟩).trans (Dev.linkWork_evc ..)).trans (Dev.linkWork_evc ..)

theorem Dev.linkWork_ringFinish (d : Dev) (p : Nat) : d.LinkWork (d.ringFinish p r) := by
  unfold Dev.ringFinish
  refine Dev.LinkWork.trans ?_ (Dev.linkWork_ringAdvance hr _ _)
  refine Dev.LinkWork.trans ?_ (Dev.LinkWork.foldl (fun _ _ _ => Dev.linkWork_dmaWrite ..) _)
  exact .ite ((Dev.linkWork_setRing ..).trans (Dev.linkWork_colEnter ..)) (Dev.linkWork_setRing ..)

theorem Dev.linkWork_ringGo (d : Dev) : d.LinkWork (d.ringGo r) := by
  unfold Dev.ringGo
  refine .ite (.refl d) ?_
  split
  · exact .refl d
  · next p _ =>
    dsimp only
    have hread : ∀ e : Dev, e.LinkWork (if (e.ring r).whole then
          match nextPiece (e.ring r).descs (e.ring r).data.length with
          | some (a, n) => e.dmaRead p r a (min 4096 n) false
          | none => e
        else if (e.ring r).descs.length < e.ringOwned r then e.dmaRead p r (e.ringAddr r (e.ringHead r + (e.ring r).descs.length)) 16 true
        else e) := by
      intro e
      refine .ite ?_ (.ite (Dev.linkWork_dmaRead ..) (.refl e))
      split
      · exact Dev.linkWork_dmaRead ..
      · exact .refl e
    exact Dev.LinkWork.trans (.ite (d.linkWork_ringFinish hr p) (.refl d)) (hread _)

/-- A ring that goes on does the link's work. -/
theorem Dev.linkWork_ringStep (d : Dev) : d.LinkWork (d.ringStep r) := .ite (d.linkWork_ringAgain hr) (d.linkWork_ringGo hr)

end

theorem Dev.linkWork_ringsCut (d : Dev) (p : Nat) : d.LinkWork (d.ringsCut p) :=
  Dev.LinkWork.foldl (fun _ _ hr => .ite ((Dev.linkWork_updRing ..).trans (Dev.linkWork_ringStep (List.mem_range.1 hr) _)) (.refl _)) d

end Sys2Proof.Machine

/-! The fall of a Gellen port (19_gellen.md R552, R555), TIME_OK (18_almanac.md R533), the references and the ring supervisor
(20_clocks_boot.md R583-R590). -/

namespace Sys2Proof.Machine

/-! The fall of a port. -/

/-- A port's state field holds three bits. -/
theorem fPortState_fits (p : Nat) {v : Nat} (h : v < 8) :
    (fPortState p).lo ≤ (fPortState p).hi ∧ (fPortState p).hi < 32 ∧ v < 2 ^ ((fPortState p).hi - (fPortState p).lo + 1) := by
  unfold fPortState
  split
  · exact ⟨by decide, by decide, h⟩
  · exact ⟨by decide, by decide, h⟩

theorem fPortState_disjoint {p q : Nat} (h : (p = 0) ≠ (q = 0)) : (fPortState p).disjoint (fPortState q) := by
  unfold fPortState
  by_cases hp : p = 0 <;> by_cases hq : q = 0 <;> simp only [hp, hq, if_true, if_false] at h ⊢
  · exact absurd rfl h
  · decide
  · decide
  · exact absurd rfl h

theorem Dev.portState_setPort (d : Dev) (p : Nat) (x : GlkPort) (q : Nat) : (d.setPort p x).portState q = d.portState q := (rfl)

theorem Dev.portState_set_same (d : Dev) (p : Nat) {st : Nat} (h : st < 8) : (d.setPortState p st).portState p = st :=
  Dev.get_put_eq _ _ (fPortState_fits p h)

theorem Dev.portState_set_other (d : Dev) {p q : Nat} (st : Nat) (h : (p = 0) ≠ (q = 0)) :
    (d.setPortState p st).portState q = d.portState q :=
  Dev.get_put_disjoint _ _ _ (fPortState_disjoint h)

theorem Dev.port_setPortState (d : Dev) (p st q : Nat) : (d.setPortState p st).port q = d.port q := Dev.port_congr (Dev.put_glk ..) q

/-- The state a port falls to: ALIGN for LOCK where every lane is still locked. -/
def Dev.fallState (d : Dev) (p st : Nat) : Nat := if st = 1 ∧ (d.port p).locked = 15 then 2 else st

/-- The port itself, as it falls. -/
def Dev.fallen (d : Dev) (p st : Nat) : Dev := (d.setPort p { locked := (d.port p).locked }).setPortState p (d.fallState p st)

/-- A port falls; from UP the link reports it, and the rings read again. -/
theorem Dev.portFall_eq (d : Dev) (p st : Nat) : d.portFall p st =
    if d.portState p = 4 then
      (((d.fallen p st).mark rGLK_ERR fGLK_ERR_LINK_DOWN).alert 0x1201 (p4 p ++ p4 (d.portState p))).ringsCut p
    else d.fallen p st := by rfl

/-- What the report of a fall leaves as the fall made it. -/
theorem Dev.portFall_linkWork (d : Dev) (p st : Nat) :
    (d.portState p = 4 ∧ ((d.fallen p st).mark rGLK_ERR fGLK_ERR_LINK_DOWN).LinkWork (d.portFall p st)) ∨
      (d.portState p ≠ 4 ∧ d.portFall p st = d.fallen p st) := by
  rw [Dev.portFall_eq]
  split
  · next h => exact .inl ⟨h, (Dev.linkWork_alert ..).trans (Dev.linkWork_ringsCut ..)⟩
  · next h => exact .inr ⟨h, rfl⟩

theorem Dev.rd_fallen (d : Dev) (p st : Nat) {a : Nat} (h : a ≠ rGLK_STATUS) : (d.fallen p st).rd a = d.rd a :=
  Dev.rd_put_ne _ _ _ h

theorem Dev.portState_mark_err (d : Dev) (f : Fld) (q : Nat) : (d.mark rGLK_ERR f).portState q = d.portState q :=
  Dev.get_put_ne _ _ _ _ (by decide)

/-- A register outside the link's block stands as a port falls. -/
theorem Dev.rd_portFall (d : Dev) (p st : Nat) {a : Nat} (h1 : ¬linkReg a) (h2 : a ≠ rCOL_CNT 0) : (d.portFall p st).rd a = d.rd a := by
  have hne : a ≠ rGLK_STATUS := fun h => h1 (h ▸ linkReg_rGLK_STATUS)
  have herr : a ≠ rGLK_ERR := fun h => h1 (h ▸ .inl (by decide))
  rcases d.portFall_linkWork p st with ⟨-, h⟩ | ⟨-, h⟩
  · exact (h.rd a h1 h2).trans ((Dev.rd_put_ne _ _ _ herr).trans (d.rd_fallen p st hne))
  · rw [h, Dev.rd_fallen _ _ _ hne]

theorem Dev.portState_portFall (d : Dev) (p st q : Nat) : (d.portFall p st).portState q = (d.fallen p st).portState q := by
  rcases d.portFall_linkWork p st with ⟨-, h⟩ | ⟨-, h⟩
  · exact (h.state q).trans (Dev.portState_mark_err ..)
  · rw [h]

theorem Dev.portState_portFall_same (d : Dev) (p : Nat) {st : Nat} (h : st < 8) : (d.portFall p st).portState p = d.fallState p st := by
  have hst : d.fallState p st < 8 := by unfold Dev.fallState; split <;> omega
  rw [Dev.portState_portFall]
  exact Dev.portState_set_same _ _ hst

theorem Dev.portState_portFall_other (d : Dev) {p q : Nat} (st : Nat) (h : (p = 0) ≠ (q = 0)) :
    (d.portFall p st).portState q = d.portState q := by
  rw [Dev.portState_portFall]
  exact Dev.portState_set_other _ _ h

/-- A port that falls holds nothing but which lanes are locked. -/
theorem Dev.port_portFall (d : Dev) (p : Nat) {st : Nat} (h : st < 4) : (d.portFall p st).port p = { locked := (d.port p).locked } := by
  have hport : (d.fallen p st).port p = { locked := (d.port p).locked } := (Dev.port_setPortState ..).trans (Dev.port_setPort_same ..)
  rcases d.portFall_linkWork p st with ⟨-, hw⟩ | ⟨-, he⟩
  · refine (hw.idle p ?_).trans ((Dev.port_congr (Dev.put_glk ..) p).trans hport)
    rw [← hw.state p, d.portState_portFall_same p (by omega), Dev.fallState]
    split <;> omega
  · rw [he, hport]

theorem Dev.bit_portFall_down (d : Dev) (p st : Nat) (h : d.portState p = 4) : (d.portFall p st).bit rGLK_ERR fGLK_ERR_LINK_DOWN = true := by
  rcases d.portFall_linkWork p st with ⟨-, hw⟩ | ⟨hne, -⟩
  · rw [Dev.bit, hw.err _ (by decide) (by decide)]
    exact Dev.bit_mark_same _ _ rfl (by decide)
  · exact absurd h hne

/-- The sticky bits of GLK_ERR that name no fall of a port, no alert lost and no delivery dropped. -/
theorem Dev.bit_portFall_err (d : Dev) (p st : Nat) {g : Fld} (h1 : fGLK_ERR_ALERT_LOST.disjoint g)
    (h2 : fGLK_ERR_RING_DROP.disjoint g) (h3 : fGLK_ERR_LINK_DOWN.disjoint g) : (d.portFall p st).bit rGLK_ERR g = d.bit rGLK_ERR g := by
  have hfall : (d.fallen p st).bit rGLK_ERR g = d.bit rGLK_ERR g := Dev.bit_congr (d.rd_fallen p st (by decide)) g
  rcases d.portFall_linkWork p st with ⟨-, hw⟩ | ⟨-, he⟩
  · rw [Dev.bit, hw.err _ h1 h2]
    exact (Dev.bit_put_disjoint _ _ _ h3).trans hfall
  · rw [he, hfall]

theorem Dev.portFall_quiet (d : Dev) (p st : Nat) : (d.portFall p st).replies = d.replies ∧ (d.portFall p st).wipes = d.wipes := by
  have hfall : (d.fallen p st).replies = d.replies ∧ (d.fallen p st).wipes = d.wipes := ⟨Dev.put_replies .., Dev.put_wipes ..⟩
  rcases d.portFall_linkWork p st with ⟨-, hw⟩ | ⟨-, he⟩
  · exact ⟨hw.replies.trans ((Dev.put_replies ..).trans hfall.1), hw.wipes.trans ((Dev.put_wipes ..).trans hfall.2)⟩
  · rw [he]; exact hfall

theorem Dev.portFall_alm (d : Dev) (p st : Nat) : (d.portFall p st).alm = d.alm := by
  have hfall : (d.fallen p st).alm = d.alm := Dev.put_alm ..
  rcases d.portFall_linkWork p st with ⟨-, hw⟩ | ⟨-, he⟩
  · exact hw.alm.trans ((Dev.put_alm ..).trans hfall)
  · rw [he]; exact hfall

/-! TIME_OK. -/

/-- The registers that a change of TIME_OK can write. -/
def timeOkRegs : List Nat := rALM_STATUS :: rFAB_STATUS :: alertRegs

/-- From one state of the device to another nothing changes but the registers of TIME_OK, the link's work and the fabric's time
master. -/
structure Dev.TimeShown (d e : Dev) : Prop where
  rd : ∀ a, a ∉ timeOkRegs → e.rd a = d.rd a
  state : ∀ p, e.portState p = d.portState p
  rest : e = { d with regs := e.regs, glk := e.glk, out := e.out, once := e.once, col := e.col, fab := e.fab }

theorem Dev.TimeShown.refl (d : Dev) : d.TimeShown d := ⟨fun _ _ => rfl, fun _ => rfl, rfl⟩

theorem Dev.TimeShown.trans {d e f : Dev} (h : d.TimeShown e) (k : e.TimeShown f) : d.TimeShown f :=
  ⟨fun a ha => (k.rd a ha).trans (h.rd a ha), fun p => (k.state p).trans (h.state p), by
    have hrest := k.rest; rw [h.rest] at hrest; exact hrest⟩

theorem Dev.TimeShown.alm {d e : Dev} (h : d.TimeShown e) : e.alm = d.alm := (congrArg Dev.alm h.rest).trans rfl
theorem Dev.TimeShown.clk {d e : Dev} (h : d.TimeShown e) : e.clk = d.clk := (congrArg Dev.clk h.rest).trans rfl
theorem Dev.TimeShown.tick {d e : Dev} (h : d.TimeShown e) : e.tick = d.tick := (congrArg Dev.tick h.rest).trans rfl
theorem Dev.TimeShown.replies {d e : Dev} (h : d.TimeShown e) : e.replies = d.replies := (congrArg Dev.replies h.rest).trans rfl
theorem Dev.TimeShown.wipes {d e : Dev} (h : d.TimeShown e) : e.wipes = d.wipes := (congrArg Dev.wipes h.rest).trans rfl

theorem Dev.Rewrites.timeShown {P : Nat → Prop} {d e : Dev} (h : Dev.Rewrites P d e) (hP : ∀ a, P a → a ∈ timeOkRegs ∧ a ≠ rGLK_STATUS) :
    d.TimeShown e where
  rd a ha := h.rd a fun hp => ha (hP a hp).1
  state _ := Dev.get_congr (h.rd _ fun hp => (hP _ hp).2 rfl) _
  rest := by
    have hrest := h.rest
    generalize e.regs = r at hrest
    rw [hrest]

theorem Dev.timeShown_put (d : Dev) {a : Nat} (f : Fld) (v : Nat) (h : a ∈ timeOkRegs ∧ a ≠ rGLK_STATUS) : d.TimeShown (d.put a f v) :=
  (Dev.rewrites_put (P := (· = a)) d f v rfl).timeShown (fun _ hb => hb ▸ h)

theorem Dev.LinkWork.timeShown {d e : Dev} (h : d.LinkWork e) (hrd : ∀ a, a ∉ timeOkRegs → e.rd a = d.rd a) : d.TimeShown e where
  rd := hrd
  state := h.state
  rest := by
    have hrest := h.rest
    generalize e.regs = r, e.glk = g, e.out = o, e.once = x, e.col = c at hrest
    rw [hrest]

theorem Dev.timeShown_alert (d : Dev) (code : Nat) (ps : List Byte) : d.TimeShown (d.alert code ps) :=
  (d.linkWork_alert code ps).timeShown fun _ ha => Dev.rd_alert _ _ _ fun hm => ha (List.mem_cons_of_mem _ (List.mem_cons_of_mem _ hm))

theorem Dev.timeShown_emit (d : Dev) (k : OutKind) (p : Nat) (l : List Nat) (b : List Byte) : d.TimeShown (d.emit k p l b) :=
  (d.linkWork_emit k p l b).timeShown fun _ _ => Dev.rd_emit ..

/-- The choice of the fabric's time master shows in FAB_STATUS. -/
theorem Dev.timeShown_pickMaster (d : Dev) : d.TimeShown d.pickMaster := by
  have hput : ∀ (e : Dev) f v, e.TimeShown (e.put rFAB_STATUS f v) := fun e f v => e.timeShown_put f v (by decide)
  have hfab : ∀ (e : Dev) (x : FabState), e.TimeShown { e with fab := x } := fun _ _ => ⟨fun _ _ => rfl, fun _ => rfl, rfl⟩
  unfold Dev.pickMaster
  split
  · exact (((hput ..).trans (hput ..)).trans (hput ..)).trans (hfab ..)
  · exact (((hput ..).trans (hput ..)).trans (hput ..)).trans (hfab ..)

theorem Dev.timeShown_showTimeOk (d : Dev) : d.TimeShown d.showTimeOk := by
  unfold Dev.showTimeOk
  dsimp only
  split
  · exact .refl d
  · refine Dev.TimeShown.trans ?_ (Dev.timeShown_pickMaster _)
    refine Dev.TimeShown.trans ?_ (Dev.timeShown_alert ..)
    refine Dev.TimeShown.trans ?_ (Dev.timeShown_emit ..)
    exact (Dev.timeShown_put _ _ _ (by decide)).trans (Dev.timeShown_put _ _ _ (by decide))

end Sys2Proof.Machine

/-! The references and the ring supervisor (20_clocks_boot.md R583-R590). -/

namespace Sys2Proof.Machine

/-! The Clock Void. -/

theorem Dev.rd_zeroise (d : Dev) (f : Fld) {a : Nat} (h : a ≠ rSEC_STATUS) : (d.zeroise f).rd a = d.rd a := by
  have hput := d.rd_put_ne f 1 h
  unfold Dev.zeroise
  dsimp only
  generalize d.put rSEC_STATUS f 1 = e at hput ⊢
  split
  · exact hput
  · exact (e.rd_withCiph _ a).trans hput

theorem Dev.zeroise_clk (d : Dev) (f : Fld) : (d.zeroise f).clk = d.clk := by
  have hput := d.put_clk rSEC_STATUS f 1
  unfold Dev.zeroise
  dsimp only
  generalize d.put rSEC_STATUS f 1 = e at hput ⊢
  split
  · exact hput
  · exact (e.withCiph_clk _).trans hput

/-- A zeroisation shows its cause. -/
theorem Dev.bit_zeroise (d : Dev) {f : Fld} (h : f.hi = f.lo ∧ f.hi < 32) : (d.zeroise f).bit rSEC_STATUS f = true := by
  have hput := d.bit_put_one rSEC_STATUS h
  unfold Dev.zeroise
  dsimp only
  generalize d.put rSEC_STATUS f 1 = e at hput ⊢
  split
  · exact hput
  · exact (Dev.bit_congr (e.rd_withCiph _ _) f).trans hput

/-- TIME_OK is low once it is driven low. -/
theorem Dev.bit_timeOkLow (d : Dev) : d.timeOkLow.bit rPIN_STATUS fPIN_STATUS_TIME_OK = false := by
  unfold Dev.timeOkLow
  split
  · exact (Dev.bit_emit ..).trans (Dev.bit_put_zero _ _ (by decide))
  · next h => exact Bool.eq_false_iff.2 h

/-- The device as the Clock Void begins, but for the pins and the zeroisation. -/
def Dev.voidClocks (d : Dev) : Dev :=
  let d := ((d.put rCLK_STATUS fCLK_STATUS_LOCK 0).put rCLK_STATUS fCLK_STATUS_MP_SRC 0).put rCLK_STATUS fCLK_STATUS_AO_SRC 0
  let d := (d.put rCLK_STATUS fCLK_STATUS_HOLDOVER 0).put rCLK_STATUS fCLK_STATUS_RING_STABLE 0
  let d := d.put rCLK_STATUS fCLK_STATUS_RING_COUNT 0
  { d with clk := { d.clk with sup := .void, attempts := 1, trying := true } }

theorem Dev.enterVoid_eq (d : Dev) : d.enterVoid = (d.voidClocks.lasersOff.timeOkLow).zeroise fSEC_STATUS_CAUSE_CLOCK := by rfl

theorem Dev.enterVoid_clk (d : Dev) : d.enterVoid.clk = { d.clk with sup := .void, attempts := 1, trying := true } := by
  rw [Dev.enterVoid_eq, Dev.zeroise_clk, Dev.timeOkLow_clk, Dev.lasersOff_clk]
  simp [Dev.voidClocks]

/-- In the Clock Void every tree's laser is dark, TIME_OK is low, and the zeroisation shows its cause (R589). -/
theorem Dev.enterVoid_latches (d : Dev) : (∀ k < 48, d.enterVoid.bit (rTREE_LINE_STATUS k) fTREE_LINE_STATUS_LASER_ON = false) ∧
    d.enterVoid.bit rPIN_STATUS fPIN_STATUS_TIME_OK = false ∧ d.enterVoid.bit rSEC_STATUS fSEC_STATUS_CAUSE_CLOCK = true := by
  have htree : ∀ k < 48, rTREE_LINE_STATUS k ≠ rSEC_STATUS ∧ rTREE_LINE_STATUS k ≠ rALM_STATUS ∧ rTREE_LINE_STATUS k ≠ rPIN_STATUS := by
    decide
  rw [Dev.enterVoid_eq]
  refine ⟨fun k hk => ?_, ?_, Dev.bit_zeroise _ (by decide)⟩
  · obtain ⟨h1, h2, h3⟩ := htree k hk
    rw [Dev.bit_congr (Dev.rd_zeroise _ _ h1), Dev.bit_congr (Dev.rd_timeOkLow _ h2 h3), Dev.lasersOff_dark _ hk]
  · rw [Dev.bit_congr (Dev.rd_zeroise _ _ (by decide)), Dev.bit_timeOkLow]

/-! What the monitors show. -/

/-- The bit that shows a reference valid. -/
def refFld (r : Nat) : Fld := if r = 0 then fCLK_STATUS_REF_A_VALID else fCLK_STATUS_REF_B_VALID

theorem Dev.refValid_eq (d : Dev) (r : Nat) : d.refValid r = d.bit rCLK_STATUS (refFld r) := (rfl)

theorem refFld_cases (r : Nat) : refFld r = fCLK_STATUS_REF_A_VALID ∨ refFld r = fCLK_STATUS_REF_B_VALID := by
  unfold refFld
  split
  · exact .inl rfl
  · exact .inr rfl

theorem refFld_one (r : Nat) : (refFld r).hi = (refFld r).lo ∧ (refFld r).hi < 32 := by
  rcases refFld_cases r with h | h <;> rw [h] <;> decide

theorem refFld_other (r : Fin 2) : (refFld r.val).disjoint (refFld (1 - r.val)) := by
  match r with
  | 0 => decide
  | 1 => decide

/-- A field of CLK_STATUS that is neither reference's. -/
def clkField (f : Fld) : Prop := f.disjoint fCLK_STATUS_REF_A_VALID ∧ f.disjoint fCLK_STATUS_REF_B_VALID ∧
  fCLK_STATUS_REF_A_VALID.disjoint f ∧ fCLK_STATUS_REF_B_VALID.disjoint f

theorem clkField.refFld {f : Fld} (h : clkField f) (r : Nat) : f.disjoint (refFld r) ∧ (refFld r).disjoint f := by
  obtain ⟨h1, h2, h3, h4⟩ := h
  rcases refFld_cases r with hr | hr <;> rw [hr]
  · exact ⟨h1, h3⟩
  · exact ⟨h2, h4⟩

theorem Dev.refValid_put (d : Dev) {f : Fld} (v : Nat) (r : Nat) (h : clkField f) : (d.put rCLK_STATUS f v).refValid r = d.refValid r :=
  Dev.bit_put_disjoint _ _ _ (h.refFld r).1

theorem Dev.refValid_congr {d e : Dev} (h : e.rd rCLK_STATUS = d.rd rCLK_STATUS) (r : Nat) : e.refValid r = d.refValid r :=
  Dev.bit_congr h _

theorem Dev.hostLost_put (d : Dev) {f : Fld} (v : Nat) (h : clkField f) (ha : f.disjoint fCLK_STATUS_ARMED) :
    (d.put rCLK_STATUS f v).hostLost = d.hostLost := by
  unfold Dev.hostLost Dev.armed
  rw [Dev.refValid_put _ _ _ h, Dev.refValid_put _ _ _ h, Dev.bit_put_disjoint _ _ _ ha]

theorem Dev.hostLost_congr {d e : Dev} (h : e.rd rCLK_STATUS = d.rd rCLK_STATUS) : e.hostLost = d.hostLost := by
  unfold Dev.hostLost Dev.armed
  rw [Dev.refValid_congr h, Dev.refValid_congr h, Dev.bit_congr h]

/-- A reference that becomes invalid clears its bit. -/
theorem Dev.setRef_false (d : Dev) (r : Nat) : d.setRef r false = d.put rCLK_STATUS (refFld r) 0 := (rfl)

/-- A reference that becomes valid sets its bit, and the monitor notes the tick. -/
theorem Dev.setRef_true (d : Dev) (r : Nat) : ∃ x, d.setRef r true = { d.put rCLK_STATUS (refFld r) 1 with clk := x } ∧
    x.sup = d.clk.sup := by
  have hclk : (d.put rCLK_STATUS (refFld r) 1).clk = d.clk := Dev.put_clk ..
  have hset : d.setRef r true = { d.put rCLK_STATUS (refFld r) 1 with clk :=
      if r = 0 then { (d.put rCLK_STATUS (refFld r) 1).clk with validA := (d.put rCLK_STATUS (refFld r) 1).tickNow }
      else { (d.put rCLK_STATUS (refFld r) 1).clk with validB := (d.put rCLK_STATUS (refFld r) 1).tickNow } } := by rfl
  refine ⟨_, hset, ?_⟩
  rw [hclk]
  split <;> rfl

theorem clkField_of {f : Fld} (h : f.disjoint fCLK_STATUS_REF_A_VALID ∧ f.disjoint fCLK_STATUS_REF_B_VALID ∧
    fCLK_STATUS_REF_A_VALID.disjoint f ∧ fCLK_STATUS_REF_B_VALID.disjoint f) : clkField f := h

/-! The ring's period (R586-R588). -/

/-- The ring leaves its range: what the monitor shows. -/
def Dev.ringUnstable (d : Dev) (period : Nat) : Dev :=
  ((d.put rCLK_STATUS fCLK_STATUS_RING_STABLE 0).put rCLK_STATUS fCLK_STATUS_RING_COUNT 0).wrN rCLK_RING_PERIOD (period % 65536)

/-- The ring restarts, AO on SYSREF where a reference is valid. -/
def Dev.ringRestart (d : Dev) : Dev :=
  let d := (d.put rCLK_STATUS fCLK_STATUS_SUP_STATE 0).put rCLK_STATUS fCLK_STATUS_AO_SRC (b2n (d.refValid 0 || d.refValid 1))
  { d with clk := { d.clk with sup := .ringStart, trying := true } }.mark rCLK_ERR fCLK_ERR_RING_RESTART

theorem Dev.hostLost_ringUnstable (d : Dev) (period : Nat) : (d.ringUnstable period).hostLost = d.hostLost := by
  rw [Dev.ringUnstable, Dev.hostLost_congr (Dev.rd_wrN_ne _ _ (by decide)),
    Dev.hostLost_put _ _ (clkField_of (by decide)) (by decide), Dev.hostLost_put _ _ (clkField_of (by decide)) (by decide)]

theorem Dev.refValid_ringUnstable (d : Dev) (period r : Nat) : (d.ringUnstable period).refValid r = d.refValid r := by
  rw [Dev.ringUnstable, Dev.refValid_congr (Dev.rd_wrN_ne _ _ (by decide)), Dev.refValid_put _ _ _ (clkField_of (by decide)),
    Dev.refValid_put _ _ _ (clkField_of (by decide))]

theorem Dev.bit_ringUnstable (d : Dev) (period : Nat) : (d.ringUnstable period).bit rCLK_STATUS fCLK_STATUS_RING_STABLE = false := by
  rw [Dev.ringUnstable, Dev.bit_congr (Dev.rd_wrN_ne _ _ (by decide)), Dev.bit_put_disjoint _ _ _ (by decide),
    Dev.bit_put_zero _ _ (by decide)]

theorem Dev.ringUnstable_clk (d : Dev) (period : Nat) : (d.ringUnstable period).clk = d.clk := by simp [Dev.ringUnstable]

theorem Dev.ringLost_run {d : Dev} (h : d.clk.sup = .run) (period : Nat) : ∃ ps, d.ringLost period =
    if (d.ringUnstable period).hostLost then (d.ringUnstable period).enterVoid
    else (d.ringUnstable period).ringRestart.alert 0x1307 ps := by
  unfold Dev.ringLost
  rw [if_neg (not_not.2 h)]
  dsimp only
  rw [← Dev.ringUnstable]
  generalize d.ringUnstable period = e
  exact ⟨_, rfl⟩

theorem Dev.ringLost_not_run {d : Dev} (h : d.clk.sup ≠ .run) (period : Nat) : d.ringLost period = d := if_pos h

/-- The ring restarts: the supervisor's state, the sticky bit, and AO's source. -/
theorem Dev.ringRestart_shown (d : Dev) : d.ringRestart.clk = { d.clk with sup := .ringStart, trying := true } ∧
    d.ringRestart.bit rCLK_ERR fCLK_ERR_RING_RESTART = true ∧
    d.ringRestart.bit rCLK_STATUS fCLK_STATUS_AO_SRC = (d.refValid 0 || d.refValid 1) ∧
    d.ringRestart.bit rCLK_STATUS fCLK_STATUS_RING_STABLE = d.bit rCLK_STATUS fCLK_STATUS_RING_STABLE := by
  unfold Dev.ringRestart Dev.mark
  dsimp only
  generalize he : (d.put rCLK_STATUS fCLK_STATUS_SUP_STATE 0) = e
  have hstable : e.bit rCLK_STATUS fCLK_STATUS_RING_STABLE = d.bit rCLK_STATUS fCLK_STATUS_RING_STABLE :=
    he ▸ Dev.bit_put_disjoint _ _ _ (by decide)
  have hclk : e.clk = d.clk := he ▸ Dev.put_clk ..
  refine ⟨?_, Dev.bit_put_one _ _ (by decide), ?_, ?_⟩
  · rw [Dev.put_clk, Dev.put_clk, hclk]
  · rw [Dev.bit_put_ne _ _ _ _ (by decide), Dev.bit_withClk, Dev.bit_put_eq _ _ _ (by decide)]
  · rw [Dev.bit_put_ne _ _ _ _ (by decide), Dev.bit_withClk, Dev.bit_put_disjoint _ _ _ (by decide), hstable]

/-- An alert whose family is not masked enters the log. -/
theorem Dev.alert_log (d : Dev) {code : Nat} (ps : List Byte) (h : nbit (d.rdN rGLK_ALERT_MASK) (code / 256) = false) :
    ∃ a log, (d.alert code ps).glk.log = a :: log ∧ a.code = code := by
  have hkeep : ∀ (e : Dev) (a : AlertRec), (e.sendAlert a).alertPin.glk.log = e.glk.log := fun e a =>
    ((Dev.talk_alertPin_pins _).log.resolve_left (by decide)).trans ((e.talk_sendAlert_counts a).log.resolve_left (by decide))
  unfold Dev.alert
  rw [if_neg (by rw [h]; decide)]
  dsimp only
  rw [hkeep]
  exact ⟨_, _, List.take_succ_cons .., rfl⟩

/-- The monitor finds the ring stable: AO runs from it. -/
def Dev.ringFound (d : Dev) (period : Nat) : Dev :=
  let d := (d.put rCLK_STATUS fCLK_STATUS_RING_STABLE 1).put rCLK_STATUS fCLK_STATUS_RING_COUNT 16384
  let d := (d.put rCLK_STATUS fCLK_STATUS_AO_SRC 0).put rCLK_STATUS fCLK_STATUS_SUP_STATE 1
  { d.wrN rCLK_RING_PERIOD (period % 65536) with clk := { d.clk with sup := .run, trying := false } }

theorem Dev.rd_ringFound (d : Dev) (period : Nat) {a : Nat} (h1 : a ≠ rCLK_STATUS) (h2 : a ≠ rCLK_RING_PERIOD) :
    (d.ringFound period).rd a = d.rd a := by
  unfold Dev.ringFound
  rw [Dev.rd_withClk, Dev.rd_wrN_ne _ _ h2, Dev.rd_put_ne _ _ _ h1, Dev.rd_put_ne _ _ _ h1, Dev.rd_put_ne _ _ _ h1,
    Dev.rd_put_ne _ _ _ h1]

theorem Dev.ringFound_clk (d : Dev) (period : Nat) : (d.ringFound period).clk = { d.clk with sup := .run, trying := false } := by
  simp [Dev.ringFound]

/-- What CLK_STATUS and RING_PERIOD show of a stable ring. -/
theorem Dev.ringFound_shown (d : Dev) (period : Fin 65536) : (d.ringFound period.val).rdN rCLK_RING_PERIOD = period.val ∧
    (d.ringFound period.val).bit rCLK_STATUS fCLK_STATUS_RING_STABLE = true ∧
    (d.ringFound period.val).bit rCLK_STATUS fCLK_STATUS_AO_SRC = false := by
  unfold Dev.ringFound
  refine ⟨?_, ?_, ?_⟩
  · rw [Dev.rdN_withClk, Dev.rdN_wrN_same]
    omega
  · rw [Dev.bit_withClk, Dev.bit_congr (Dev.rd_wrN_ne _ _ (by decide)), Dev.bit_put_disjoint _ _ _ (by decide),
      Dev.bit_put_disjoint _ _ _ (by decide), Dev.bit_put_disjoint _ _ _ (by decide), Dev.bit_put_one _ _ (by decide)]
  · rw [Dev.bit_withClk, Dev.bit_congr (Dev.rd_wrN_ne _ _ (by decide)), Dev.bit_put_disjoint _ _ _ (by decide),
      Dev.bit_put_zero _ _ (by decide)]

theorem Dev.ringStable_ringStart {d : Dev} (h : d.clk.sup = .ringStart) (period : Nat) :
    d.ringStable period = (d.ringFound period).bootStart (d.get rRST_CAUSE fRST_CAUSE_KIND != 2) := by
  rw [Dev.ringStable, h]
  rfl

/-- The count of Clock Voids and of the attempts of this one. -/
def Dev.voidEnded (d : Dev) : Dev :=
  let n := d.get rCLK_VOID fCLK_VOID_VOID_COUNT + 1
  ((d.put rCLK_VOID fCLK_VOID_VOID_COUNT n).put rCLK_VOID fCLK_VOID_LAST_ATTEMPTS d.clk.attempts).when (decide (256 ≤ n))
    (fun d => d.mark rCLK_VOID fCLK_VOID_OVF)

/-- A stable ring in the Clock Void: the device resets warm (R588). -/
theorem Dev.ringStable_void {d : Dev} (h : d.clk.sup = .void) (ht : d.clk.trying = true) (period : Nat) :
    ∃ x, d.ringStable period = { (d.voidEnded.ringFound period).warmReset 2 with clk := x } ∧ x.sup = .run ∧ x.voidDue = true := by
  have hsup : ((d.voidEnded.ringFound period).warmReset 2).clk.sup = .run := by rw [Dev.warmReset_clk, Dev.ringFound_clk]
  refine ⟨{ ((d.voidEnded.ringFound period).warmReset 2).clk with voidDue := true, attempts := 0 }, ?_, hsup, rfl⟩
  rw [Dev.ringStable, h, ht]
  rfl

/-- CLK_VOID counts one more Clock Void, with its attempts (R588). -/
theorem Dev.voidEnded_counts {d : Dev} (h : d.get rCLK_VOID fCLK_VOID_VOID_COUNT < 255) (ha : d.clk.attempts ≤ 8) :
    d.voidEnded.get rCLK_VOID fCLK_VOID_LAST_ATTEMPTS = d.clk.attempts ∧
    d.voidEnded.get rCLK_VOID fCLK_VOID_VOID_COUNT = d.get rCLK_VOID fCLK_VOID_VOID_COUNT + 1 := by
  have hfew : decide (256 ≤ d.get rCLK_VOID fCLK_VOID_VOID_COUNT + 1) = false := decide_eq_false (by omega)
  unfold Dev.voidEnded
  dsimp only
  rw [hfew]
  refine ⟨Dev.get_put_eq _ _ ⟨by decide, by decide, ?_⟩, (Dev.get_put_disjoint _ _ _ (by decide)).trans
    (Dev.get_put_eq _ _ ⟨by decide, by decide, ?_⟩)⟩
  · exact Nat.lt_of_le_of_lt ha (by decide)
  · exact Nat.lt_of_lt_of_le (Nat.succ_lt_succ h) (by decide)

theorem Dev.ringStable_other {d : Dev} (h : d.clk.sup = .off ∨ d.clk.sup = .run ∨ d.clk.sup = .failed) (period : Nat) :
    d.ringStable period = d := by
  rw [Dev.ringStable]
  rcases h with h | h | h <;> rw [h]

/-! Start attempts (R588-R590). -/

theorem Dev.attemptFails_ringStart {d : Dev} (h : d.clk.sup = .ringStart) : d.attemptFails = d.mark rCLK_ERR fCLK_ERR_RING_FAIL := by
  rw [Dev.attemptFails, h]

theorem Dev.attemptFails_void {d : Dev} (h : d.clk.sup = .void) (ht : d.clk.trying = true) : d.attemptFails =
    if 8 ≤ d.clk.attempts then
      ({ d with clk := { d.clk with sup := .failed, trying := false } }.put rPIN_STATUS fPIN_STATUS_CLOCK_FAIL_L 0).emit .pin 2 [2, 0]
    else { d with clk := { d.clk with trying := false } } := by
  rw [Dev.attemptFails, h, ht]
  rfl

end Sys2Proof.Machine

/-! The monitors of the references (20_clocks_boot.md R583-R588), and the supervisor's obligations. -/

namespace Sys2Proof.Machine

/-! The commands of self-timed logic. -/

theorem exec_refValid (r : Fin 2) (both : Bool) (s : State) : exec (.refValid r both) s =
    s.runAny (fun d => if !d.powered then d else if d.clocked then (d.refUp r.val both).bootClocks else d.refUp r.val both) := rfl
theorem exec_refInvalid (r : Fin 2) (s : State) :
    exec (.refInvalid r) s = s.runAny (fun d => if d.powered then d.refDown r.val else d) := rfl
theorem exec_ringStable (period : Fin 65536) (s : State) : exec (.ringStable period) s = s.runAny (fun d => d.ringStable period.val) := rfl
theorem exec_ringOutOfRange (period : Fin 65536) (s : State) :
    exec (.ringOutOfRange period) s = s.runAny (fun d => d.ringLost period.val) := rfl
theorem exec_ringAttemptFail (s : State) : exec .ringAttemptFail s = s.runAny Dev.attemptFails := rfl
theorem exec_voidAttempt (s : State) : exec .voidAttempt s = s.runAny Dev.voidAttempt := rfl
theorem exec_pwrGoodRise (s : State) : exec .pwrGoodRise s = s.runAny (fun d => if d.powered then d else d.powerOn) := rfl
theorem exec_pwrGoodFall (s : State) : exec .pwrGoodFall s = s.runAny (fun d => if d.powered then d.powerOff else d) := rfl

/-- An effect, clocked or not, that leaves the device as it stands changes nothing. -/
theorem State.runAny_nothing {s : State} {f : Dev → Dev} (h : f s.start = s.start) (hr : s.dev.replies = []) (hw : s.dev.wipes = []) :
    ∃ t, s.runAny f = .next t ∧ s.OnlyChanges t [] s.dev :=
  ⟨_, State.runAny_quiet h hr hw, s.onlyChanges_start⟩

/-- An effect of clocked logic that leaves the device as it stands changes nothing. -/
theorem State.run_nothing {s : State} (hs : s.Runs) {f : Dev → Dev} (h : f s.start = s.start) :
    ∃ t, s.run f = .next t ∧ s.OnlyChanges t [] s.dev :=
  State.runAny_nothing ((if_pos hs.1).trans h) hs.2.1 hs.2.2

/-! The loss of the host clock and its return (R584). -/

theorem Dev.bootClocks_of_not_clocks {d : Dev} (h : d.bootState ≠ 2) : d.bootClocks = d := if_neg fun hb => h hb.1

theorem Dev.withAlm_timeShown (d : Dev) (x : AlmState) {e : Dev} (h : Dev.TimeShown { d with alm := x } e) :
    (∀ a, a ∉ timeOkRegs → e.rd a = d.rd a) ∧ (∀ p, e.portState p = d.portState p) ∧ e.alm = x ∧ e.clk = d.clk :=
  ⟨h.rd, h.state, h.alm, h.clk⟩

/-- The Almanac's loss of the host clock. -/
theorem Dev.almClockLost_shown (d : Dev) : (∀ a, a ∉ timeOkRegs → d.almClockLost.rd a = d.rd a) ∧
    (∀ p, d.almClockLost.portState p = d.portState p) ∧ d.almClockLost.alm.noClock = true ∧ d.almClockLost.clk = d.clk := by
  obtain ⟨hrd, hstate, halm, hclk⟩ := d.withAlm_timeShown { d.alm with noClock := true, unproved := true } (Dev.timeShown_showTimeOk _)
  exact ⟨hrd, hstate, congrArg AlmState.noClock halm, hclk⟩

/-- The Almanac's return to ACQUIRE with the host clock. -/
theorem Dev.rd_almClockBack (d : Dev) {a : Nat} (h : a ∉ rALM_ERR :: timeOkRegs) : d.almClockBack.rd a = d.rd a := by
  have herr : a ≠ rALM_ERR := fun he => h (he ▸ List.mem_cons_self ..)
  have htime : a ∉ timeOkRegs := fun hm => h (List.mem_cons_of_mem _ hm)
  have hstatus : a ≠ rALM_STATUS := fun he => htime (he ▸ List.mem_cons_self ..)
  have hmark := Dev.rd_put_ne { d with alm := { d.alm with noClock := false } } fALM_ERR_HOST_CLK_LOST 1 herr
  unfold Dev.almClockBack Dev.mark
  generalize Dev.put _ rALM_ERR _ _ = e at hmark ⊢
  have hput := (e.rd_put_ne fALM_STATUS_STATE svAcquire hstatus).trans hmark
  unfold Dev.toAcquire
  generalize e.put rALM_STATUS fALM_STATUS_STATE svAcquire = x at hput ⊢
  exact (x.withAlm_timeShown _ (Dev.timeShown_showTimeOk _)).1 a htime |>.trans hput

/-- REFSEL takes a reference again. -/
theorem Dev.rd_clockBack (d : Dev) (r : Nat) {a : Nat} (h : a ∉ rALM_ERR :: timeOkRegs) :
    (d.clockBack r).rd a = ((d.put rCLK_STATUS fCLK_STATUS_HOLDOVER 0).put rCLK_STATUS fCLK_STATUS_REF_SEL r).rd a :=
  (Dev.rd_almClockBack _ h).trans (Dev.rd_alert _ _ _ fun hm => h (by simp [timeOkRegs, hm]))

/-- A reference that becomes valid in HOLDOVER is selected, and ends it (R584). -/
theorem Dev.refUp_holdover {d : Dev} {r : Fin 2} (hinv : d.refValid r.val = false) (hc : d.clocked = true)
    (hh : d.bit rCLK_STATUS fCLK_STATUS_HOLDOVER = true) : (d.refUp r.val false).refValid r.val = true ∧
    (d.refUp r.val false).refSel = r.val ∧ (d.refUp r.val false).bit rCLK_STATUS fCLK_STATUS_HOLDOVER = false ∧
    (d.refUp r.val false).bootState = d.bootState := by
  obtain ⟨x, hset, hsup⟩ := d.setRef_true r.val
  have hhold : clkField fCLK_STATUS_HOLDOVER := clkField_of (by decide)
  have hsel : clkField fCLK_STATUS_REF_SEL := clkField_of (by decide)
  have harm : clkField fCLK_STATUS_ARMED := clkField_of (by decide)
  obtain ⟨e, he⟩ : ∃ e, d.setRef r.val true = e := ⟨_, rfl⟩
  have hclocked : e.clocked = true := by
    have hx : e.clk.sup = d.clk.sup := by rw [← he, hset]; exact hsup
    unfold Dev.clocked at hc ⊢
    rwa [hx]
  have hrd : ∀ a, e.rd a = (d.put rCLK_STATUS (refFld r.val) 1).rd a := fun a => by rw [← he, hset, Dev.rd_withClk]
  have hvalid : e.refValid r.val = true := (Dev.refValid_congr (hrd _) _).trans (Dev.bit_put_one _ _ (refFld_one _))
  have hhold' : e.bit rCLK_STATUS fCLK_STATUS_HOLDOVER = true :=
    (Dev.bit_congr (hrd _) _).trans ((Dev.bit_put_disjoint _ _ _ (hhold.refFld r.val).2).trans hh)
  have hboot : e.bootState = d.bootState := (Dev.get_congr (hrd _) _).trans (Dev.get_put_ne _ _ _ _ (by decide))
  obtain ⟨a, ha, hva, hha, hba⟩ : ∃ a, (if e.get rCLK_STATUS fCLK_STATUS_LOCK = 31 then e.put rCLK_STATUS fCLK_STATUS_ARMED 1 else e) = a ∧
      a.refValid r.val = true ∧ a.bit rCLK_STATUS fCLK_STATUS_HOLDOVER = true ∧ a.bootState = d.bootState := by
    split
    · exact ⟨_, rfl, (Dev.refValid_put _ _ _ harm).trans hvalid, (Dev.bit_put_disjoint _ _ _ (by decide)).trans hhold',
        (Dev.get_put_ne _ _ _ _ (by decide)).trans hboot⟩
    · exact ⟨_, rfl, hvalid, hhold', hboot⟩
  have hup : d.refUp r.val false = a.clockBack r.val := by
    unfold Dev.refUp
    rw [hinv, he]
    simp only [Bool.false_eq_true, if_false, hclocked, Bool.not_true, ha, hha, if_true]
  have hrd := a.rd_clockBack r.val (a := rCLK_STATUS) (by decide)
  rw [hup]
  refine ⟨?_, ?_, ?_, ?_⟩
  · rw [Dev.refValid_congr hrd, Dev.refValid_put _ _ _ hsel, Dev.refValid_put _ _ _ hhold, hva]
  · exact (Dev.get_congr hrd _).trans (Dev.get_put_eq _ _ ⟨by decide, by decide, r.isLt⟩)
  · rw [Dev.bit_congr hrd, Dev.bit_put_disjoint _ _ _ (by decide), Dev.bit_put_zero _ _ (by decide)]
  · rw [← hba]
    exact (Dev.get_congr (a.rd_clockBack r.val (by decide)) _).trans ((Dev.get_put_ne _ _ _ _ (by decide)).trans
      (Dev.get_put_ne _ _ _ _ (by decide)))

/-- A port that is UP falls as the host clock is lost. -/
def Dev.upFalls (d : Dev) (p : Nat) : Dev := if d.portState p = 4 then d.portFall p 1 else d

theorem Dev.rd_upFalls (d : Dev) (p : Nat) {a : Nat} (h1 : ¬linkReg a) (h2 : a ≠ rCOL_CNT 0) : (d.upFalls p).rd a = d.rd a := by
  unfold Dev.upFalls
  split
  · exact d.rd_portFall p 1 h1 h2
  · rfl

theorem Dev.upFalls_same (d : Dev) (p : Nat) : (d.upFalls p).portState p ≠ 4 := by
  unfold Dev.upFalls
  split
  · rw [d.portState_portFall_same p (by decide), Dev.fallState]
    split <;> decide
  · next h => exact h

theorem Dev.upFalls_other (d : Dev) {p q : Nat} (h : (p = 0) ≠ (q = 0)) : (d.upFalls p).portState q = d.portState q := by
  unfold Dev.upFalls
  split
  · exact d.portState_portFall_other 1 h
  · rfl

/-- SYSREF holds: what CLK_STATUS and CLK_ERR show. -/
def Dev.sysrefHeld (d : Dev) : Dev :=
  let d := (d.put rCLK_STATUS fCLK_STATUS_HOLDOVER 1).mark rCLK_ERR fCLK_ERR_HOLDOVER
  { d with clk := { d.clk with lostTick := d.tickNow } }

theorem Dev.clockLost_eq (d : Dev) : d.clockLost =
    (((d.sysrefHeld.upFalls 0).upFalls 1).alert 0x1304 (p8 ((d.sysrefHeld.upFalls 0).upFalls 1).tickNow)).almClockLost := by rfl

theorem rCLK_not_linkReg : ¬linkReg rCLK_STATUS ∧ ¬linkReg rCLK_ERR := by unfold linkReg; decide

/-- The host clock is lost (R584): HOLDOVER is shown, no Gellen port stays UP, and the Almanac has no clock. -/
theorem Dev.clockLost_shown (d : Dev) : (∀ r, d.clockLost.refValid r = d.refValid r) ∧
    d.clockLost.bit rCLK_STATUS fCLK_STATUS_HOLDOVER = true ∧ d.clockLost.bit rCLK_ERR fCLK_ERR_HOLDOVER = true ∧
    d.clockLost.portState 0 ≠ 4 ∧ d.clockLost.portState 1 ≠ 4 ∧ d.clockLost.alm.noClock = true := by
  obtain ⟨hstatus, herr⟩ := rCLK_not_linkReg
  rw [Dev.clockLost_eq]
  generalize p8 _ = ps
  obtain ⟨hrd, hstate, halm, -⟩ := (((d.sysrefHeld.upFalls 0).upFalls 1).alert 0x1304 ps).almClockLost_shown
  have hreg : ∀ {a}, a ∉ timeOkRegs → ¬linkReg a → a ≠ rCOL_CNT 0 →
      (((d.sysrefHeld.upFalls 0).upFalls 1).alert 0x1304 ps).almClockLost.rd a = d.sysrefHeld.rd a := fun h1 h2 h3 =>
    (hrd _ h1).trans ((Dev.rd_alert _ _ _ fun hm => h2 (linkReg_of_mem_alertRegs _ hm)).trans
      ((Dev.rd_upFalls _ _ h2 h3).trans (Dev.rd_upFalls _ _ h2 h3)))
  have hclk := hreg (a := rCLK_STATUS) (by decide) hstatus (by decide)
  have hport : ∀ p, (((d.sysrefHeld.upFalls 0).upFalls 1).alert 0x1304 ps).almClockLost.portState p =
      ((d.sysrefHeld.upFalls 0).upFalls 1).portState p := fun p => (hstate p).trans ((Dev.linkWork_alert ..).state p)
  refine ⟨fun r => ?_, ?_, ?_, ?_, ?_, halm⟩
  · rw [Dev.refValid_congr hclk, Dev.sysrefHeld, Dev.mark, Dev.refValid_congr (Dev.rd_withClk ..),
      Dev.refValid_congr (Dev.rd_put_ne _ _ _ (by decide)), Dev.refValid_put _ _ _ (clkField_of (by decide))]
  · rw [Dev.bit_congr hclk, Dev.sysrefHeld, Dev.mark, Dev.bit_withClk, Dev.bit_put_ne _ _ _ _ (by decide), Dev.bit_put_one _ _ (by decide)]
  · rw [Dev.bit_congr (hreg (by decide) herr (by decide)), Dev.sysrefHeld, Dev.mark, Dev.bit_withClk, Dev.bit_put_one _ _ (by decide)]
  · rw [hport, Dev.upFalls_other _ (by decide)]
    exact Dev.upFalls_same _ _
  · rw [hport]
    exact Dev.upFalls_same _ _

/-! A reference that becomes invalid (R583, R584, R588). -/

section
variable {d : Dev} {r : Fin 2} (hv : d.refValid r.val = true)
include hv

/-- What the reference leaves as it becomes invalid. -/
theorem Dev.refDown_eq : d.refDown r.val = (let e := d.put rCLK_STATUS (refFld r.val) 0
    if !d.clocked then e
    else if d.refValid (1 - r.val) then (if d.refSel = r.val then e.refSwitch (1 - r.val) else e)
    else if !d.armed then e
    else if d.clk.sup = .ringStart then e.enterVoid
    else e.clockLost) := by
  have hclk : (d.put rCLK_STATUS (refFld r.val) 0).clk = d.clk := Dev.put_clk ..
  have hclocked : (d.put rCLK_STATUS (refFld r.val) 0).clocked = d.clocked := by rw [Dev.clocked, Dev.clocked, hclk]
  have hother : (d.put rCLK_STATUS (refFld r.val) 0).refValid (1 - r.val) = d.refValid (1 - r.val) :=
    Dev.bit_put_disjoint _ _ _ (refFld_other r)
  have hsel : (d.put rCLK_STATUS (refFld r.val) 0).refSel = d.refSel :=
    Dev.get_put_disjoint _ _ _ ((clkField_of (by decide)).refFld r.val).2
  have harmed : (d.put rCLK_STATUS (refFld r.val) 0).armed = d.armed :=
    Dev.bit_put_disjoint _ _ _ ((clkField_of (by decide)).refFld r.val).2
  unfold Dev.refDown
  rw [hv, Dev.setRef_false]
  simp only [Bool.not_true, Bool.false_eq_true, if_false, hclocked, hother, hsel, harmed, hclk]

omit hv in
theorem Dev.refValid_gone : (d.put rCLK_STATUS (refFld r.val) 0).refValid r.val = false := Dev.bit_put_zero _ _ (refFld_one _)

theorem Dev.refDown_switches (hc : d.clocked = true) (ho : d.refValid (1 - r.val) = true) (hsel : d.refSel = r.val) :
    (d.refDown r.val).refValid r.val = false ∧ (d.refDown r.val).refSel = 1 - r.val ∧
    (d.refDown r.val).bit rCLK_ERR fCLK_ERR_REF_SWITCH = true := by
  have hfield : clkField fCLK_STATUS_REF_SEL := clkField_of (by decide)
  have hsel' : (d.put rCLK_STATUS (refFld r.val) 0).refSel = r.val := (Dev.get_put_disjoint _ _ _ (hfield.refFld r.val).2).trans hsel
  have hgone := Dev.refValid_gone (d := d) (r := r)
  rw [Dev.refDown_eq hv]
  simp only [hc, ho, hsel, Bool.not_true, Bool.false_eq_true, if_true, if_false]
  generalize d.put rCLK_STATUS (refFld r.val) 0 = e at hsel' hgone ⊢
  have hne : ¬e.refSel = 1 - r.val := by rw [hsel']; omega
  unfold Dev.refSwitch Dev.mark
  rw [if_neg hne]
  refine ⟨?_, ?_, ?_⟩
  · rw [Dev.refValid_congr (Dev.rd_alert _ _ _ (by decide)), Dev.refValid_congr (Dev.rd_put_ne _ _ _ (by decide)),
      Dev.refValid_put _ _ _ hfield, hgone]
  · exact (Dev.get_alert _ _ _ _ (by decide)).trans ((Dev.get_put_ne _ _ _ _ (by decide)).trans
      (Dev.get_put_eq _ _ ⟨by decide, by decide, Nat.lt_of_le_of_lt (Nat.sub_le ..) (by decide)⟩))
  · rw [Dev.bit_alert _ _ _ _ (by decide), Dev.bit_put_one _ _ (by decide)]

theorem Dev.refDown_last (ho : d.refValid (1 - r.val) = false) (ha : d.armed = true) :
    (d.clk.sup = .run → d.refDown r.val = (d.put rCLK_STATUS (refFld r.val) 0).clockLost) ∧
    (d.clk.sup = .ringStart → d.refDown r.val = (d.put rCLK_STATUS (refFld r.val) 0).enterVoid) := by
  rw [Dev.refDown_eq hv]
  refine ⟨fun h => ?_, fun h => ?_⟩
  · simp [Dev.clocked, h, ho, ha]
  · simp [Dev.clocked, h, ho, ha]

end

/-- A reference that is invalid already, or valid already, is no news. -/
theorem Dev.refDown_of_invalid {d : Dev} {r : Nat} (h : d.refValid r = false) : d.refDown r = d := by
  rw [Dev.refDown, h]; rfl

theorem Dev.refUp_of_valid {d : Dev} {r : Nat} (h : d.refValid r = true) (both : Bool) : d.refUp r both = d := if_pos h

end Sys2Proof.Machine

/-! Steps that write listed registers and send (log entry 2), from a device changed beside its registers. -/

namespace Sys2Proof.Machine

/-- From one state of the device to another registers satisfying `P` are written and something is sent; nothing else changes. -/
structure Dev.Writes (P : Nat → Prop) (d e : Dev) : Prop where
  rd : ∀ a, ¬P a → e.rd a = d.rd a
  rest : e = { d with regs := e.regs, out := e.out }

section
variable {P : Nat → Prop} {d e f : Dev}

theorem Dev.Writes.refl (P : Nat → Prop) (d : Dev) : d.Writes P d := ⟨fun _ _ => rfl, rfl⟩

theorem Dev.Writes.trans (h : d.Writes P e) (k : e.Writes P f) : d.Writes P f :=
  ⟨fun a ha => (k.rd a ha).trans (h.rd a ha), by have hrest := k.rest; rw [h.rest] at hrest; exact hrest⟩

theorem Dev.Writes.mono {Q : Nat → Prop} (h : d.Writes P e) (hPQ : ∀ a, P a → Q a) : d.Writes Q e :=
  ⟨fun a ha => h.rd a fun hp => ha (hPQ a hp), h.rest⟩

theorem Dev.Writes.ite {c : Prop} [Decidable c] (h : d.Writes P e) (k : d.Writes P f) : d.Writes P (if c then e else f) := by
  split
  · exact h
  · exact k

theorem Dev.Writes.foldl {α : Type} {g : Dev → α → Dev} {l : List α} (h : ∀ d : Dev, ∀ x ∈ l, d.Writes P (g d x)) (d : Dev) :
    d.Writes P (l.foldl g d) :=
  List.foldlRecOn (motive := fun e : Dev => d.Writes P e) l g (.refl P d) fun e he x hx => he.trans (h e x hx)

theorem Dev.Rewrites.writes (h : Dev.Rewrites P d e) : d.Writes P e := by
  refine ⟨h.rd, ?_⟩
  have hrest := h.rest
  generalize e.regs = r at hrest
  rw [hrest]

theorem Dev.Writes.replies (h : d.Writes P e) : e.replies = d.replies := (congrArg Dev.replies h.rest).trans rfl
theorem Dev.Writes.wipes (h : d.Writes P e) : e.wipes = d.wipes := (congrArg Dev.wipes h.rest).trans rfl
theorem Dev.Writes.glk (h : d.Writes P e) : e.glk = d.glk := (congrArg Dev.glk h.rest).trans rfl
theorem Dev.Writes.clk (h : d.Writes P e) : e.clk = d.clk := (congrArg Dev.clk h.rest).trans rfl
theorem Dev.Writes.alm (h : d.Writes P e) : e.alm = d.alm := (congrArg Dev.alm h.rest).trans rfl

theorem Dev.writes_put (d : Dev) {a : Nat} (g : Fld) (v : Nat) (h : P a) : d.Writes P (d.put a g v) := (d.rewrites_put g v h).writes
theorem Dev.writes_mark (d : Dev) {a : Nat} (g : Fld) (h : P a) : d.Writes P (d.mark a g) := (d.rewrites_mark g h).writes
theorem Dev.writes_wrN (d : Dev) {a : Nat} (v : Nat) (h : P a) : d.Writes P (d.wrN a v) := (d.rewrites_wrN v h).writes
theorem Dev.writes_access (d : Dev) {a : Nat} (v : Nat) (h : P a) : d.Writes P (d.access a v) := (d.rewrites_access_of v h).writes
theorem Dev.writes_bumpBy (d : Dev) {a : Nat} (n : Nat) (h : P a) : d.Writes P (d.bumpBy a n) := (d.rewrites_bumpBy n h).writes
theorem Dev.writes_bump (d : Dev) {a : Nat} (h : P a) : d.Writes P (d.bump a) := d.writes_bumpBy 1 h

theorem Dev.writes_emit (d : Dev) (k : OutKind) (p : Nat) (l : List Nat) (b : List Byte) : d.Writes P (d.emit k p l b) :=
  ⟨fun _ _ => Dev.rd_emit .., by unfold Dev.emit; split <;> rfl⟩

end

/-- A step that makes a device with the registers it found, and then writes only listed registers and sends. -/
theorem State.onlyChanges_of_writes {s : State} {l : List Nat} {d e : Dev} {o : List Out} (hregs : d.regs = s.dev.regs)
    (h : Dev.Writes (· ∈ l) { d with out := o } e) : s.OnlyChanges { s with dev := e } l d := by
  refine ⟨fun a ha => (h.rd a ha).trans (congrArg (sget regReset · a) hregs), ?_⟩
  have hrest := h.rest
  generalize e.regs = r, e.out = x at hrest
  rw [hrest]

/-- An effect, clocked or not, that changes the device beside its registers and then writes listed ones. -/
theorem State.runAny_writes {s : State} (hr : s.dev.replies = []) (hw : s.dev.wipes = []) {l : List Nat} {f : Dev → Dev} {d e : Dev}
    {o : List Out} (hd : d.regs = s.dev.regs ∧ d.replies = s.dev.replies ∧ d.wipes = s.dev.wipes) (he : f s.start = e)
    (h : Dev.Writes (· ∈ l) { d with out := o } e) :
    s.runAny f = .next { s with dev := e } ∧ s.OnlyChanges { s with dev := e } l d :=
  ⟨State.runAny_quiet he (h.replies.trans (hd.2.1.trans hr)) (h.wipes.trans (hd.2.2.trans hw)), State.onlyChanges_of_writes hd.1 h⟩

/-- The same of clocked logic. -/
theorem State.run_writes {s : State} (hs : s.Runs) {l : List Nat} {f : Dev → Dev} {d e : Dev} {o : List Out}
    (hd : d.regs = s.dev.regs ∧ d.replies = s.dev.replies ∧ d.wipes = s.dev.wipes) (he : f s.start = e)
    (h : Dev.Writes (· ∈ l) { d with out := o } e) :
    s.run f = .next { s with dev := e } ∧ s.OnlyChanges { s with dev := e } l d :=
  State.runAny_writes hs.2.1 hs.2.2 hd ((if_pos hs.1).trans he) h

/-- An effect of clocked logic that writes listed registers alone. -/
theorem State.run_writes_regs {s : State} (hs : s.Runs) {l : List Nat} {f : Dev → Dev} {e : Dev} (he : f s.start = e)
    (h : Dev.Writes (· ∈ l) s.start e) : s.run f = .next { s with dev := e } ∧ s.OnlyChanges { s with dev := e } l s.dev :=
  State.run_writes hs (d := s.dev) ⟨rfl, rfl, rfl⟩ he h

end Sys2Proof.Machine

/-! The obligations on the references and the ring supervisor (20_clocks_boot.md R583-R590). -/

namespace Sys2Proof.Machine

theorem exec_pllLoss (k : Fin 3) (s : State) : exec (.pllLoss k) s = s.run (fun d =>
    if nbit (d.get rCLK_STATUS fCLK_STATUS_LOCK) (pllBit k.val) then
      (d.put rCLK_STATUS fCLK_STATUS_LOCK (d.get rCLK_STATUS fCLK_STATUS_LOCK - 2 ^ pllBit k.val)).warmReset 3 else d) := rfl

/-- PLL_MP's loss of lock: MP moves to the ring. -/
def Dev.mpToRing (d : Dev) : Dev :=
  ((d.put rCLK_STATUS fCLK_STATUS_LOCK (d.get rCLK_STATUS fCLK_STATUS_LOCK - 8)).put rCLK_STATUS fCLK_STATUS_MP_SRC 0).mark rCLK_ERR
    fCLK_ERR_PLL_UNLOCK

theorem exec_pllMpLock (b : Bool) (s : State) : exec (.pllMpLock b) s = s.run (fun d =>
    if b = nbit (d.get rCLK_STATUS fCLK_STATUS_LOCK) 3 ∨ (b ∧ !d.refOk) then d
    else if b then ((d.put rCLK_STATUS fCLK_STATUS_LOCK (d.get rCLK_STATUS fCLK_STATUS_LOCK + 8)).put rCLK_STATUS fCLK_STATUS_MP_SRC 1).bootClocks
    else d.mpToRing) := rfl

/-- LOCK without PLL_MP's bit. -/
theorem nbit_lock_without_mp : ∀ l < 32, nbit l 3 = true → nbit (l - 8) 3 = false ∧ l - 8 < 32 := by decide

theorem Dev.mpToRing_shown {d : Dev} (h : nbit (d.get rCLK_STATUS fCLK_STATUS_LOCK) 3 = true) :
    nbit (d.mpToRing.get rCLK_STATUS fCLK_STATUS_LOCK) 3 = false ∧ d.mpToRing.bit rCLK_STATUS fCLK_STATUS_MP_SRC = false ∧
    d.mpToRing.bit rCLK_ERR fCLK_ERR_PLL_UNLOCK = true := by
  obtain ⟨hclear, hlt⟩ := nbit_lock_without_mp _ (fieldOf_lt _ _) h
  unfold Dev.mpToRing Dev.mark
  refine ⟨?_, ?_, Dev.bit_put_one _ _ (by decide)⟩
  · rw [Dev.get_put_ne _ _ _ _ (by decide), Dev.get_put_disjoint _ _ _ (by decide), Dev.get_put_eq _ _ ⟨by decide, by decide, hlt⟩]
    exact hclear
  · rw [Dev.bit_put_ne _ _ _ _ (by decide), Dev.bit_put_zero _ _ (by decide)]

theorem Dev.writes_mpToRing (d : Dev) : d.Writes (· ∈ [rCLK_STATUS, rCLK_ERR]) d.mpToRing :=
  ((d.writes_put _ _ (by simp)).trans (Dev.writes_put _ _ _ (by simp))).trans (Dev.writes_mark _ _ (by simp))

/-! The supervisor's steps as the table has them. -/

theorem exec_refInvalid_next {s : State} (hp : s.dev.powered = true) (r : Fin 2) :
    exec (.refInvalid r) s = .next (s.after (s.start.refDown r.val)) := by
  have hp' : s.start.powered = true := hp
  rw [exec_refInvalid]
  exact s.runAny_after (if_pos hp')

theorem Dev.powered_of_sup {d : Dev} {x : SupState} (h : d.clk.sup = x) (hx : (x != .off) = true) : d.powered = true := by
  rw [Dev.powered, h, hx]

theorem exec_ringStable_next (s : State) (period : Fin 65536) :
    exec (.ringStable period) s = .next (s.after (s.start.ringStable period.val)) := (exec_ringStable ..).trans (s.runAny_after rfl)

theorem exec_ringOutOfRange_next (s : State) (period : Fin 65536) :
    exec (.ringOutOfRange period) s = .next (s.after (s.start.ringLost period.val)) := (exec_ringOutOfRange ..).trans (s.runAny_after rfl)

/-- RING_START goes to RUN. -/
theorem exec_ringStable_ringStart {s : State} (h : s.dev.clk.sup = .ringStart) (period : Fin 65536) :
    ∃ t, exec (.ringStable period) s = .next t ∧ t.dev.clk.sup = .run ∧ t.dev.rdN rCLK_RING_PERIOD = period.val ∧
      t.dev.bit rCLK_STATUS fCLK_STATUS_RING_STABLE = true ∧ t.dev.bit rCLK_STATUS fCLK_STATUS_AO_SRC = false := by
  have h' : s.start.clk.sup = .ringStart := h
  obtain ⟨hperiod, hstable, hsrc⟩ := s.start.ringFound_shown period
  refine ⟨_, exec_ringStable_next s period, ?_⟩
  rw [Dev.ringStable_ringStart h', State.after_clk, State.after_rdN, State.after_bit, State.after_bit, Dev.bootStart_clk, Dev.ringFound_clk,
    Dev.rdN_congr (Dev.rd_bootStart _ _ (by decide)), Dev.bit_congr (Dev.rd_bootStart _ _ (by decide)),
    Dev.bit_congr (Dev.rd_bootStart _ _ (by decide))]
  exact ⟨rfl, hperiod, hstable, hsrc⟩

/-- VOID goes to RUN through a warm reset. -/
theorem exec_ringStable_void {s : State} (h : s.dev.clk.sup = .void) (ht : s.dev.clk.trying = true) (period : Fin 65536) :
    ∃ t, exec (.ringStable period) s = .next t ∧ t.dev.clk.sup = .run ∧ t.dev.clk.voidDue = true ∧
      t.dev.get rRST_CAUSE fRST_CAUSE_KIND = 2 ∧ t.dev.get rRST_CAUSE fRST_CAUSE_SOURCE = 2 ∧
      t.dev.rd rCLK_VOID = s.start.voidEnded.rd rCLK_VOID := by
  obtain ⟨x, he, hsup, hdue⟩ := Dev.ringStable_void (d := s.start) h ht period.val
  obtain ⟨hkind, hsource⟩ := (s.start.voidEnded.ringFound period.val).warmReset_cause (source := 2) (by decide)
  refine ⟨_, exec_ringStable_next s period, ?_⟩
  rw [he, State.after_clk, State.after_get, State.after_get, State.after_rd, Dev.get_withClk, Dev.get_withClk, Dev.rd_withClk,
    Dev.rd_warmReset_clkVoid, Dev.rd_ringFound _ _ (by decide) (by decide)]
  exact ⟨hsup, hdue, hkind, hsource, rfl⟩

/-- RUN goes to RING_START where the host clock is not lost. -/
theorem exec_ringOutOfRange_run {s : State} (h : s.dev.clk.sup = .run) (hl : s.dev.hostLost = false) (period : Fin 65536) :
    ∃ t, exec (.ringOutOfRange period) s = .next t ∧ t.dev.clk = { s.dev.clk with sup := .ringStart, trying := true } ∧
      t.dev.bit rCLK_ERR fCLK_ERR_RING_RESTART = true ∧ t.dev.bit rCLK_STATUS fCLK_STATUS_RING_STABLE = false ∧
      t.dev.bit rCLK_STATUS fCLK_STATUS_AO_SRC = (s.dev.refValid 0 || s.dev.refValid 1) ∧
      (nbit (s.dev.rdN rGLK_ALERT_MASK) 0x13 = false → ∃ a log, t.dev.glk.log = a :: log ∧ a.code = 0x1307) := by
  obtain ⟨ps, he⟩ := Dev.ringLost_run (d := s.start) h period.val
  have hlost : (s.start.ringUnstable period.val).hostLost = false := (s.start.hostLost_ringUnstable _).trans hl
  have hvalid := s.start.refValid_ringUnstable period.val
  have hstable := s.start.bit_ringUnstable period.val
  have hmask : (s.start.ringUnstable period.val).ringRestart.rd rGLK_ALERT_MASK = s.dev.rd rGLK_ALERT_MASK := by
    unfold Dev.ringRestart Dev.ringUnstable Dev.mark
    rw [Dev.rd_put_ne _ _ _ (by decide), Dev.rd_withClk, Dev.rd_put_ne _ _ _ (by decide), Dev.rd_put_ne _ _ _ (by decide),
      Dev.rd_wrN_ne _ _ (by decide), Dev.rd_put_ne _ _ _ (by decide), Dev.rd_put_ne _ _ _ (by decide)]
    rfl
  have hclk : (s.start.ringUnstable period.val).clk = s.dev.clk := s.start.ringUnstable_clk _
  obtain ⟨hsup, herr, hsrc, hring⟩ := (s.start.ringUnstable period.val).ringRestart_shown
  rw [hlost, if_neg (by decide)] at he
  refine ⟨_, exec_ringOutOfRange_next s period, ?_⟩
  rw [he, State.after_clk, State.after_bit, State.after_bit, State.after_bit, State.after_glk, Dev.alert_clk, Dev.bit_alert _ _ _ _ (by decide),
    Dev.bit_alert _ _ _ _ (by decide), Dev.bit_alert _ _ _ _ (by decide), hsup, herr, hsrc, hring, hstable, hvalid, hvalid, hclk]
  exact ⟨rfl, rfl, rfl, rfl, fun hm => Dev.alert_log _ _ (by rw [Dev.rdN_congr hmask]; exact hm)⟩

/-- RUN goes to VOID where the host clock is lost. -/
theorem exec_ringOutOfRange_lost {s : State} (h : s.dev.clk.sup = .run) (hl : s.dev.hostLost = true) (period : Fin 65536) :
    ∃ t, exec (.ringOutOfRange period) s = .next t ∧ t.dev.clk = { s.dev.clk with sup := .void, trying := true, attempts := 1 } ∧
      (∀ k < 48, t.dev.bit (rTREE_LINE_STATUS k) fTREE_LINE_STATUS_LASER_ON = false) ∧
      t.dev.bit rPIN_STATUS fPIN_STATUS_TIME_OK = false ∧ t.dev.bit rSEC_STATUS fSEC_STATUS_CAUSE_CLOCK = true := by
  obtain ⟨ps, he⟩ := Dev.ringLost_run (d := s.start) h period.val
  have hlost : (s.start.ringUnstable period.val).hostLost = true := (s.start.hostLost_ringUnstable _).trans hl
  rw [hlost, if_pos rfl] at he
  refine ⟨_, exec_ringOutOfRange_next s period, ?_⟩
  simp only [he, State.after_clk, State.after_bit, Dev.enterVoid_clk, Dev.ringUnstable_clk]
  exact ⟨rfl, (s.start.ringUnstable period.val).enterVoid_latches⟩

/-- A failed attempt in RING_START is shown. -/
theorem exec_ringAttemptFail_ringStart {s : State} (hr : s.dev.replies = []) (hw : s.dev.wipes = []) (h : s.dev.clk.sup = .ringStart) :
    ∃ t, exec .ringAttemptFail s = .next t ∧ t.dev.clk = s.dev.clk ∧ t.dev.bit rCLK_ERR fCLK_ERR_RING_FAIL = true ∧
      s.OnlyChanges t [rCLK_ERR] s.dev := by
  have hmark : s.start.Writes (· ∈ [rCLK_ERR]) (s.start.mark rCLK_ERR fCLK_ERR_RING_FAIL) := Dev.writes_mark _ _ (by simp)
  obtain ⟨he, honly⟩ := State.runAny_writes hr hw (d := s.dev) ⟨rfl, rfl, rfl⟩ (Dev.attemptFails_ringStart (d := s.start) h) hmark
  exact ⟨_, he, Dev.put_clk .., Dev.bit_mark_same _ _ rfl (by decide), honly⟩

/-- The eighth attempt that fails in VOID leaves the device in FAILED. -/
theorem exec_ringAttemptFail_last {s : State} (hr : s.dev.replies = []) (hw : s.dev.wipes = []) (h : s.dev.clk.sup = .void)
    (ht : s.dev.clk.trying = true) (h8 : 8 ≤ s.dev.clk.attempts) : ∃ t, exec .ringAttemptFail s = .next t ∧
      t.dev.clk.sup = .failed ∧ t.dev.bit rPIN_STATUS fPIN_STATUS_CLOCK_FAIL_L = false ∧
      s.OnlyChanges t [rPIN_STATUS] { s.dev with clk := { s.dev.clk with sup := .failed, trying := false } } := by
  have he := (Dev.attemptFails_void (d := s.start) h ht).trans (if_pos h8)
  obtain ⟨d, hd⟩ : ∃ d : Dev, { s.dev with clk := { s.dev.clk with sup := .failed, trying := false } } = d := ⟨_, rfl⟩
  have hd' : { s.start with clk := { s.start.clk with sup := .failed, trying := false } } = { d with out := [] } := by rw [← hd]; rfl
  have hsup : d.clk.sup = .failed := by rw [← hd]
  rw [hd'] at he
  obtain ⟨hrun, honly⟩ := State.runAny_writes (l := [rPIN_STATUS]) (o := []) hr hw (d := d) ⟨by rw [← hd], by rw [← hd], by rw [← hd]⟩ he
    ((Dev.writes_put _ _ _ (by simp)).trans (Dev.writes_emit ..))
  rw [hd]
  refine ⟨_, hrun, ?_, ?_, honly⟩
  · exact (congrArg ClkState.sup ((Dev.emit_clk ..).trans (Dev.put_clk ..))).trans hsup
  · exact (Dev.bit_emit ..).trans (Dev.bit_put_zero _ _ (by decide))

/-- Settles O56: each row of the table is the lemma on its step. -/
theorem theSupervisorFollowsItsTable : Obligations.TheSupervisorFollowsItsTable := by
  unfold Obligations.TheSupervisorFollowsItsTable
  intro s hr hw period
  refine ⟨fun h => ?_, fun h => ⟨?_, fun _ _ => ?_, fun r ha hv ho => ?_⟩, fun h => ⟨fun hl hv hm => ?_, fun hl => ?_⟩,
    fun h ht => ⟨fun hn ha => ?_, fun h8 => ?_⟩, exec_pwrGoodFall_sup s⟩
  · have hp : s.start.powered = false := by
      have h' : s.start.clk.sup = .off := h
      rw [Dev.powered, h']; rfl
    have he : exec .pwrGoodRise s = .next (s.after s.start.powerOn) := (exec_pwrGoodRise s).trans (s.runAny_after (if_neg (by rw [hp]; decide)))
    exact ⟨_, he, rfl, rfl⟩
  · obtain ⟨t, he, hsup, -, -, hsrc⟩ := exec_ringStable_ringStart h period
    exact ⟨t, he, hsup, hsrc⟩
  · obtain ⟨t, he, hclk, herr, -⟩ := exec_ringAttemptFail_ringStart hr hw h
    exact ⟨t, he, hclk, herr⟩
  · have hdown := (Dev.refDown_last (d := s.start) hv ho ha).2 h
    refine ⟨_, exec_refInvalid_next (Dev.powered_of_sup h rfl) r, ?_⟩
    rw [hdown, State.after_clk, Dev.enterVoid_clk]
  · obtain ⟨t, he, hclk, herr, -, hsrc, hlog⟩ := exec_ringOutOfRange_run h hl period
    refine ⟨t, he, congrArg ClkState.sup hclk, hsrc.trans ?_, herr, hlog hm⟩
    rcases hv with hv | hv <;> simp [hv]
  · obtain ⟨t, he, hclk, -⟩ := exec_ringOutOfRange_lost h hl period
    exact ⟨t, he, congrArg ClkState.sup hclk⟩
  · obtain ⟨t, he, hsup, -, hkind, hsource, hvoid⟩ := exec_ringStable_void h ht period
    obtain ⟨hlast, hcount⟩ := Dev.voidEnded_counts (d := s.start) hn ha
    exact ⟨t, he, hsup, hkind, hsource, (Dev.get_congr hvoid _).trans hlast, (Dev.get_congr hvoid _).trans hcount⟩
  · obtain ⟨t, he, hsup, hpin, -⟩ := exec_ringAttemptFail_last hr hw h ht (Nat.le_of_eq h8.symm)
    exact ⟨t, he, hsup, hpin⟩

/-! The references' monitors. -/

/-- A reference valid already is no news outside CLOCKS. -/
theorem exec_refValid_valid {s : State} (hr : s.dev.replies = []) (hw : s.dev.wipes = []) {r : Fin 2} (hv : s.dev.refValid r.val = true)
    (hb : s.dev.bootState ≠ 2) : ∃ t, exec (.refValid r false) s = .next t ∧ s.OnlyChanges t [] s.dev := by
  have hup : s.start.refUp r.val false = s.start := Dev.refUp_of_valid (d := s.start) hv false
  have hboot : s.start.bootClocks = s.start := Dev.bootClocks_of_not_clocks hb
  rw [exec_refValid]
  exact State.runAny_nothing (by rw [hup, hboot, ite_self, ite_self]) hr hw

/-- A reference that returns ends HOLDOVER. -/
theorem exec_refValid_holdover {s : State} {r : Fin 2} (hp : s.dev.powered = true) (hv : s.dev.refValid r.val = false)
    (hc : s.dev.clocked = true) (hh : s.dev.bit rCLK_STATUS fCLK_STATUS_HOLDOVER = true) (hb : s.dev.bootState ≠ 2) :
    ∃ t, exec (.refValid r false) s = .next t ∧ t.dev.refValid r.val = true ∧ t.dev.refSel = r.val ∧
      t.dev.bit rCLK_STATUS fCLK_STATUS_HOLDOVER = false := by
  have hp' : s.start.powered = true := hp
  have hc' : s.start.clocked = true := hc
  obtain ⟨hvalid, hsel, hhold, hboot⟩ := Dev.refUp_holdover (d := s.start) hv hc' hh
  have hclocks : (s.start.refUp r.val false).bootClocks = s.start.refUp r.val false :=
    Dev.bootClocks_of_not_clocks (by rw [hboot]; exact hb)
  rw [exec_refValid]
  refine ⟨_, s.runAny_after (e := s.start.refUp r.val false) ?_, ?_⟩
  · rw [hp', hc', hclocks]; rfl
  · rw [State.after_refValid, State.after_refSel, State.after_bit]
    exact ⟨hvalid, hsel, hhold⟩

/-- A reference invalid already is no news. -/
theorem exec_refInvalid_invalid {s : State} (hr : s.dev.replies = []) (hw : s.dev.wipes = []) {r : Fin 2} (hv : s.dev.refValid r.val = false) :
    ∃ t, exec (.refInvalid r) s = .next t ∧ s.OnlyChanges t [] s.dev := by
  have hdown : s.start.refDown r.val = s.start := Dev.refDown_of_invalid hv
  rw [exec_refInvalid]
  exact State.runAny_nothing (by rw [hdown, ite_self]) hr hw

/-- A lock of PLL_MP that stands already is no news. -/
theorem exec_pllMpLock_same {s : State} (hs : s.Runs) : ∃ t,
    exec (.pllMpLock (nbit (s.dev.get rCLK_STATUS fCLK_STATUS_LOCK) 3)) s = .next t ∧ s.OnlyChanges t [] s.dev := by
  rw [exec_pllMpLock]
  exact State.run_nothing hs (if_pos (.inl rfl))

/-- PLL_MP's loss of lock. -/
theorem exec_pllMpLock_lost {s : State} (hs : s.Runs) (h : nbit (s.dev.get rCLK_STATUS fCLK_STATUS_LOCK) 3 = true) :
    ∃ t, exec (.pllMpLock false) s = .next t ∧ nbit (t.dev.get rCLK_STATUS fCLK_STATUS_LOCK) 3 = false ∧
      t.dev.bit rCLK_STATUS fCLK_STATUS_MP_SRC = false ∧ t.dev.bit rCLK_ERR fCLK_ERR_PLL_UNLOCK = true ∧
      s.OnlyChanges t [rCLK_STATUS, rCLK_ERR] s.dev := by
  have h' : nbit (s.start.get rCLK_STATUS fCLK_STATUS_LOCK) 3 = true := h
  obtain ⟨hlock, hsrc, herr⟩ := Dev.mpToRing_shown h'
  rw [exec_pllMpLock]
  obtain ⟨he, honly⟩ := State.run_writes_regs hs (f := fun d => if false = nbit (d.get rCLK_STATUS fCLK_STATUS_LOCK) 3 ∨
      (false ∧ !d.refOk) then d else if false then _ else d.mpToRing) (by simp [h']) s.start.writes_mpToRing
  exact ⟨_, he, hlock, hsrc, herr, honly⟩

/-- PLL_LOSS of a locked PLL resets warm (R585). -/
theorem exec_pllLoss_locked {s : State} (hs : s.Runs) {k : Fin 3}
    (h : nbit (s.dev.get rCLK_STATUS fCLK_STATUS_LOCK) (pllBit k.val) = true) : ∃ t, exec (.pllLoss k) s = .next t ∧
      t.dev.get rRST_CAUSE fRST_CAUSE_KIND = 2 ∧ t.dev.get rRST_CAUSE fRST_CAUSE_SOURCE = 3 ∧ t.dev.clk.sup = s.dev.clk.sup := by
  have hclk := s.start.put_clk rCLK_STATUS fCLK_STATUS_LOCK (s.start.get rCLK_STATUS fCLK_STATUS_LOCK - 2 ^ pllBit k.val)
  obtain ⟨e, he⟩ : ∃ e, s.start.put rCLK_STATUS fCLK_STATUS_LOCK (s.start.get rCLK_STATUS fCLK_STATUS_LOCK - 2 ^ pllBit k.val) = e :=
    ⟨_, rfl⟩
  obtain ⟨hkind, hsource⟩ := e.warmReset_cause (source := 3) (by decide)
  rw [exec_pllLoss]
  refine ⟨_, State.run_after hs.1 (e := e.warmReset 3) ?_, ?_⟩
  · exact (if_pos h).trans (by rw [he])
  · rw [State.after_get, State.after_get, State.after_clk, Dev.warmReset_clk, ← he, hclk, he]
    exact ⟨hkind, hsource, rfl⟩

theorem exec_voidAttempt_next {s : State} (hr : s.dev.replies = []) (hw : s.dev.wipes = []) (h : s.dev.clk.sup = .void)
    (ht : s.dev.clk.trying = false) : ∃ t, exec .voidAttempt s = .next t ∧
      s.OnlyChanges t [] { s.dev with clk := { s.dev.clk with trying := true, attempts := s.dev.clk.attempts + 1 } } := by
  have h' : s.start.clk.sup = .void ∧ !s.start.clk.trying := ⟨h, by rw [show s.start.clk.trying = false from ht]; rfl⟩
  obtain ⟨he, honly⟩ := State.runAny_writes (l := []) (o := []) hr hw (f := Dev.voidAttempt)
    (d := { s.dev with clk := { s.dev.clk with trying := true, attempts := s.dev.clk.attempts + 1 } }) ⟨rfl, rfl, rfl⟩ (if_pos h') (.refl ..)
  exact ⟨_, he, honly⟩

theorem exec_ringAttemptFail_again {s : State} (hr : s.dev.replies = []) (hw : s.dev.wipes = []) (h : s.dev.clk.sup = .void)
    (ht : s.dev.clk.trying = true) (h8 : s.dev.clk.attempts < 8) : ∃ t, exec .ringAttemptFail s = .next t ∧
      s.OnlyChanges t [] { s.dev with clk := { s.dev.clk with trying := false } } := by
  have he := (Dev.attemptFails_void (d := s.start) h ht).trans (if_neg (Nat.not_le.2 h8))
  obtain ⟨he, honly⟩ := State.runAny_writes (l := []) (o := []) hr hw (d := { s.dev with clk := { s.dev.clk with trying := false } })
    ⟨rfl, rfl, rfl⟩ he (.refl ..)
  exact ⟨_, he, honly⟩

/-- Settles O45: each clause is the lemma on its command. -/
theorem referencesRingAndVoid : Obligations.ReferencesRingAndVoid := by
  unfold Obligations.ReferencesRingAndVoid
  refine ⟨fun s r hr hw hp => ⟨fun hv hb => ?_, fun hv hc hh hb => ?_, fun hv => ?_, fun hv ho hsel hc => ?_, fun hv ho ha hrun => ?_⟩,
    fun s period hr hw => ⟨fun h => ?_, fun h ht => ?_, fun h => ?_, fun h => ?_, fun h hl => ?_, fun h hl => ?_⟩,
    fun s hr hw => ⟨fun h => ?_, fun h ht => ⟨fun h8 => ?_, fun h8 => ?_⟩, fun h ht => ?_, fun h => ?_⟩,
    fun s k hs => ⟨fun h => ?_, fun h => ?_⟩, fun s hs => ⟨fun h => ?_, fun b hb => ?_⟩⟩
  · exact exec_refValid_valid hr hw hv hb
  · exact exec_refValid_holdover hp hv hc hh hb
  · exact exec_refInvalid_invalid hr hw hv
  · obtain ⟨hgone, hother, herr⟩ := Dev.refDown_switches (d := s.start) hv hc ho hsel
    refine ⟨_, exec_refInvalid_next hp r, ?_⟩
    rw [State.after_refValid, State.after_refSel, State.after_bit]
    exact ⟨hgone, hother, herr⟩
  · have hlast := (Dev.refDown_last (d := s.start) hv ho ha).1 hrun
    obtain ⟨hvalid, hhold, herr, h0, h1, halm⟩ := (s.start.put rCLK_STATUS (refFld r.val) 0).clockLost_shown
    refine ⟨_, exec_refInvalid_next hp r, ?_⟩
    rw [hlast, State.after_refValid, State.after_bit, State.after_bit, State.after_portState, State.after_portState, State.after_alm]
    exact ⟨(hvalid _).trans Dev.refValid_gone, hhold, herr, h0, h1, halm⟩
  · obtain ⟨t, he, hsup, hperiod, hstable, -⟩ := exec_ringStable_ringStart h period
    exact ⟨t, he, hsup, hperiod, hstable⟩
  · obtain ⟨t, he, hsup, hdue, hkind, hsource, -⟩ := exec_ringStable_void h ht period
    exact ⟨t, he, hsup, hkind, hsource, hdue⟩
  · rw [exec_ringStable]
    exact State.runAny_nothing (Dev.ringStable_other (d := s.start) h _) hr hw
  · rw [exec_ringOutOfRange]
    exact State.runAny_nothing (Dev.ringLost_not_run (d := s.start) h _) hr hw
  · obtain ⟨t, he, hclk, herr, hstable, -⟩ := exec_ringOutOfRange_run h hl period
    exact ⟨t, he, hclk, herr, hstable⟩
  · obtain ⟨t, he, hclk, hdark, htime, hcause⟩ := exec_ringOutOfRange_lost h hl period
    exact ⟨t, he, hclk, by rw [Dev.clocked, hclk], hdark, htime, hcause⟩
  · obtain ⟨t, he, -, herr, honly⟩ := exec_ringAttemptFail_ringStart hr hw h
    exact ⟨t, he, herr, honly⟩
  · exact exec_ringAttemptFail_again hr hw h ht h8
  · obtain ⟨t, he, -, hpin, honly⟩ := exec_ringAttemptFail_last hr hw h ht h8
    exact ⟨t, he, hpin, honly⟩
  · exact exec_voidAttempt_next hr hw h ht
  · have hno : ¬(s.start.clk.sup = .void ∧ !s.start.clk.trying) := by
      rintro ⟨hv, ht⟩
      rcases h with h | h
      · exact h hv
      · rw [show s.start.clk.trying = true from h] at ht
        exact absurd ht (by decide)
    rw [exec_voidAttempt]
    exact State.runAny_nothing (if_neg hno) hr hw
  · exact exec_pllLoss_locked hs h
  · have h' : ¬nbit (s.start.get rCLK_STATUS fCLK_STATUS_LOCK) (pllBit k.val) = true := Bool.eq_false_iff.1 h
    rw [exec_pllLoss]
    exact State.run_nothing hs (if_neg h')
  · exact exec_pllMpLock_lost hs h
  · rw [← hb]
    exact exec_pllMpLock_same hs

end Sys2Proof.Machine

/-! The Gellen link (19_gellen.md R548-R556): lanes, marks, port states, acknowledgement, credit and replay. -/

namespace Sys2Proof.Machine

theorem exec_gellenLaneLock (l : Fin 8) (s : State) : exec (.gellenLaneLock l) s = s.run (fun d =>
    (d.setPort (glkPortOf l.val) { d.port (glkPortOf l.val) with
      locked := Nat.lor (d.port (glkPortOf l.val)).locked (2 ^ glkLaneOf l.val) }).tryAlign (glkPortOf l.val)) := rfl
theorem exec_gellenLaneLockLost (l : Fin 8) (s : State) : exec (.gellenLaneLockLost l) s = s.run (fun d =>
    if !(nbit (d.port (glkPortOf l.val)).locked (glkLaneOf l.val)) then d
    else if 2 ≤ (d.setPort (glkPortOf l.val) { d.port (glkPortOf l.val) with
        locked := (d.port (glkPortOf l.val)).locked - 2 ^ glkLaneOf l.val }).portState (glkPortOf l.val) then
      (d.setPort (glkPortOf l.val) { d.port (glkPortOf l.val) with
        locked := (d.port (glkPortOf l.val)).locked - 2 ^ glkLaneOf l.val }).portFall (glkPortOf l.val) 1
    else d.setPort (glkPortOf l.val) { d.port (glkPortOf l.val) with
        locked := (d.port (glkPortOf l.val)).locked - 2 ^ glkLaneOf l.val }) := rfl
theorem exec_gellenMark (l : Fin 8) (hdr : Fin 4) (bytes : List Byte) (bip : Byte) (skew : Fin 4096) (s : State) :
    exec (.gellenMark l hdr bytes bip skew) s = s.run (fun d => d.markArrives l.val ⟨hdr.val, bytes, bip.toNat⟩ skew.val) := rfl
theorem exec_glkCtrlWrite (val : Word) (s : State) : exec (.glkCtrlWrite val) s = s.run (fun d => d.writeGlkCtrl val.toNat) := rfl
theorem exec_ack (p : Fin 2) (seq : Fin 65536) (nak sound : Bool) (s : State) :
    exec (.ack p seq nak sound) s = s.run (fun d => if sound then d.ackIn p.val seq.val nak else d.badBlock) := rfl
theorem exec_credit (p : Fin 2) (cls : Fin 256) (limit : Word) (sound : Bool) (s : State) :
    exec (.credit p cls limit sound) s = s.run (fun d => if sound then d.creditIn p.val cls.val limit.toNat else d.badBlock) := rfl
theorem exec_replayTimeout (p : Fin 2) (s : State) : exec (.replayTimeout p) s = s.run (fun d =>
    if d.portState p.val = 4 ∧ !((d.port p.val).store.isEmpty) then d.replay p.val else d) := rfl
theorem exec_transactionDiscarded (p : Fin 2) (seq : Fin 65536) (typ : Fin 256) (words : Fin 65536) (sound : Bool) (s : State) :
    exec (.transactionDiscarded p seq typ words sound) s = s.run (fun d =>
      if (d.receive p.val seq.val (transClass typ.val) (1 + words.val) sound).1 then
        (d.receive p.val seq.val (transClass typ.val) (1 + words.val) sound).2.badReq
      else (d.receive p.val seq.val (transClass typ.val) (1 + words.val) sound).2) := rfl

/-! A port's state and what it holds, in the state after a step. -/

@[simp] theorem State.after_port (s : State) (e : Dev) (p : Nat) : (s.after e).dev.port p = e.port p := (rfl)

/-- The state of a port that nothing but ports changed. -/
theorem Dev.portState_tryAlign (d : Dev) (p : Nat) :
    (d.tryAlign p).portState p = (if d.portState p = 1 ∧ (d.port p).locked = 15 then 2 else d.portState p) := by
  unfold Dev.tryAlign
  split
  · exact Dev.portState_set_same _ _ (by decide)
  · rfl

theorem Dev.locked_tryAlign (d : Dev) (p : Nat) : ((d.tryAlign p).port p).locked = (d.port p).locked := by
  unfold Dev.tryAlign
  split
  · rw [Dev.port_setPortState, Dev.port_setPort_same]
  · rfl

/-- A lane that loses its lock leaves a gap among the four. -/
theorem lock_without_lane {n i : Nat} (hi : i < 4) (h : nbit n i = true) : n - 2 ^ i ≠ 15 := by
  simp only [nbit, beq_iff_eq] at h
  intro he
  have hcase : i = 0 ∨ i = 1 ∨ i = 2 ∨ i = 3 := by omega
  rcases hcase with rfl | rfl | rfl | rfl <;> omega

theorem glkLaneOf_lt (l : Nat) : glkLaneOf l < 4 := Nat.mod_lt _ (by decide)

/-- A lane that locks takes its port from LOCK to ALIGN once all four are locked (R552). -/
theorem exec_gellenLaneLock_next (s : State) (hs : s.Runs) (l : Fin 8) : ∃ t, exec (.gellenLaneLock l) s = .next t ∧
    (t.dev.port (glkPortOf l.val)).locked = Nat.lor (s.dev.port (glkPortOf l.val)).locked (2 ^ glkLaneOf l.val) ∧
    t.dev.portState (glkPortOf l.val) = (if s.dev.portState (glkPortOf l.val) = 1 ∧
      Nat.lor (s.dev.port (glkPortOf l.val)).locked (2 ^ glkLaneOf l.val) = 15 then 2 else s.dev.portState (glkPortOf l.val)) := by
  rw [exec_gellenLaneLock]
  refine ⟨_, State.run_after hs.1 rfl, ?_⟩
  rw [State.after_port, State.after_portState, Dev.locked_tryAlign, Dev.portState_tryAlign, Dev.port_setPort_same, Dev.portState_setPort]
  exact ⟨rfl, rfl⟩

/-- An unlocked lane that loses its lock, or whose block stands in mark position, is no news. -/
theorem exec_gellenLane_unlocked {s : State} (hs : s.Runs) {l : Fin 8}
    (h : nbit (s.dev.port (glkPortOf l.val)).locked (glkLaneOf l.val) = false) :
    (∃ t, exec (.gellenLaneLockLost l) s = .next t ∧ s.OnlyChanges t [] s.dev) ∧
    (∀ hdr bytes bip skew, ∃ t, exec (.gellenMark l hdr bytes bip skew) s = .next t ∧ s.OnlyChanges t [] s.dev) := by
  have h' : (!(nbit (s.start.port (glkPortOf l.val)).locked (glkLaneOf l.val))) = true := by
    rw [show nbit (s.start.port (glkPortOf l.val)).locked (glkLaneOf l.val) = false from h]; rfl
  refine ⟨?_, fun hdr bytes bip skew => ?_⟩
  · rw [exec_gellenLaneLockLost]
    exact State.run_nothing hs (if_pos h')
  · rw [exec_gellenMark]
    exact State.run_nothing hs (if_pos h')

/-- A lane of a port that is UP loses its lock: the port falls to LOCK (R552). -/
theorem exec_gellenLaneLockLost_up {s : State} (hs : s.Runs) {l : Fin 8}
    (h : nbit (s.dev.port (glkPortOf l.val)).locked (glkLaneOf l.val) = true) (hup : s.dev.portState (glkPortOf l.val) = 4) :
    ∃ t, exec (.gellenLaneLockLost l) s = .next t ∧ t.dev.portState (glkPortOf l.val) = 1 ∧
      t.dev.bit rGLK_ERR fGLK_ERR_LINK_DOWN = true ∧ (t.dev.port (glkPortOf l.val)).store = [] := by
  have h' : ¬(!(nbit (s.start.port (glkPortOf l.val)).locked (glkLaneOf l.val))) = true := by
    rw [show nbit (s.start.port (glkPortOf l.val)).locked (glkLaneOf l.val) = true from h]; decide
  obtain ⟨d, hd⟩ : ∃ d, s.start.setPort (glkPortOf l.val) { s.start.port (glkPortOf l.val) with
    locked := (s.start.port (glkPortOf l.val)).locked - 2 ^ glkLaneOf l.val } = d := ⟨_, rfl⟩
  have hdup : d.portState (glkPortOf l.val) = 4 := by rw [← hd, Dev.portState_setPort]; exact hup
  have hlock : (d.port (glkPortOf l.val)).locked ≠ 15 := by
    rw [← hd, Dev.port_setPort_same]; exact lock_without_lane (glkLaneOf_lt _) h
  rw [exec_gellenLaneLockLost]
  refine ⟨_, State.run_after hs.1 (e := d.portFall (glkPortOf l.val) 1) ?_, ?_⟩
  · exact (if_neg h').trans (by rw [hd, if_pos (by rw [hdup]; decide)])
  · rw [State.after_portState, State.after_bit, State.after_port, Dev.portState_portFall_same _ _ (by decide), Dev.fallState,
      if_neg fun hl => hlock hl.2, Dev.port_portFall _ _ (by decide)]
    exact ⟨rfl, d.bit_portFall_down _ _ hdup, rfl⟩

/-! Control blocks whose CRC fails (R549). -/

theorem Dev.writes_badBlock (d : Dev) : d.Writes (· ∈ [rGLK_CNT 2, rGLK_ERR]) d.badBlock :=
  (d.writes_bump (by simp)).trans (Dev.writes_mark _ _ (by simp))

/-- Such a block is counted, and sets CRC. -/
theorem Dev.badBlock_shown (d : Dev) : d.badBlock.rdN (rGLK_CNT 2) % 2 ^ 31 = (d.rdN (rGLK_CNT 2) + 1) % 2 ^ 31 ∧
    d.badBlock.bit rGLK_ERR fGLK_ERR_CRC = true := by
  refine ⟨?_, Dev.bit_mark_same _ _ rfl (by decide)⟩
  unfold Dev.badBlock Dev.mark
  rw [Dev.rdN_put_ne _ _ _ (by decide)]
  exact Dev.rdN_bumpBy_same ..

theorem State.run_badBlock {s : State} (hs : s.Runs) {f : Dev → Dev} (hf : f s.start = s.start.badBlock) : ∃ t, s.run f = .next t ∧
    s.Counts t (rGLK_CNT 2) 1 ∧ t.dev.bit rGLK_ERR fGLK_ERR_CRC = true ∧ s.OnlyChanges t [rGLK_CNT 2, rGLK_ERR] s.dev := by
  obtain ⟨he, honly⟩ := State.run_writes_regs hs hf s.start.writes_badBlock
  obtain ⟨hcnt, herr⟩ := s.start.badBlock_shown
  exact ⟨_, he, hcnt, herr, honly⟩

/-! Marks (R548-R552). -/

/-- A failed mark of a port before ALIGN is counted and no more. -/
theorem Dev.markArrives_bad {d : Dev} {l : Nat} {bytes : List Byte} (hl : nbit (d.port (glkPortOf l)).locked (glkLaneOf l) = true)
    (hbad : markValid bytes = false) (hst : d.portState (glkPortOf l) < 2) (bip skew : Nat) :
    d.markArrives l ⟨2, bytes, bip⟩ skew = d.badBlock := by
  have hst' : d.badBlock.portState (glkPortOf l) < 2 :=
    (Dev.get_congr (d.writes_badBlock.rd _ (by decide)) _).trans_lt hst
  unfold Dev.markArrives
  simp only [hl, hbad, Bool.not_true, Bool.and_false, Bool.false_and, Bool.false_eq_true, if_false, Dev.when, Bool.not_false,
    beq_self_eq_true, Bool.true_and, if_true, show ((2 : Nat) == 1) = false from rfl]
  exact if_pos hst'

/-- One more valid mark of a lane that had one, where every other lane has two. -/
theorem all_marks {marks : List Nat} {i : Nat} (hlen : marks.length = 4) (hi : i < 4)
    (h : ∀ j < 4, (if j = i then 1 else 2) ≤ marks.getD j 0) :
    (marks.set i (min 4 (marks.getD i 0 + 1))).all (fun n => decide (2 ≤ n)) = true := by
  rw [List.all_eq_true]
  intro n hn
  obtain ⟨j, hj, rfl⟩ := List.mem_iff_getElem.1 hn
  rw [List.length_set, hlen] at hj
  have hmark := h j hj
  have hself := h i hi
  rw [if_pos rfl] at hself
  rw [List.getElem_set, decide_eq_true_eq]
  split
  · omega
  · next hne =>
    rwa [if_neg fun he => hne he.symm, List.getD_eq_getElem _ _ (by omega)] at hmark

/-- A good mark ends a lane's run of failed ones. -/
theorem any_bad {bad : List Nat} (i : Nat) (h : ∀ n ∈ bad, n < 4) : (bad.set i 0).any (fun n => decide (4 ≤ n)) = false := by
  rw [List.any_eq_false]
  intro n hn
  rcases List.mem_or_eq_of_mem_set hn with hm | rfl
  · have := h n hm
    simp only [decide_eq_true_eq]
    omega
  · decide

/-- The mark that gives every lane two valid ones takes ALIGN to WAIT_FAR. -/
theorem Dev.markMove_waitFar {d : Dev} {p skew : Nat} (hbad : (d.port p).bad.any (fun n => decide (4 ≤ n)) = false)
    (hst : d.portState p = 2) (hmarks : (d.port p).marks.all (fun n => decide (2 ≤ n)) = true) (hskew : skew ≤ 16) :
    (d.markMove p skew).portState p = 3 ∧ ((d.markMove p skew).port p).rxReady = true := by
  have he : d.markMove p skew =
      ((d.setPort p { d.port p with rxReady := true, ready := [0, 0, 0, 0] }).setPortState p 3).emit .glkMark p [1] := by
    unfold Dev.markMove
    simp only [hbad, Bool.false_eq_true, if_false]
    exact if_pos ⟨hst, hmarks, hskew⟩
  rw [he]
  refine ⟨(Dev.get_emit ..).trans (Dev.portState_set_same _ _ (by decide)), ?_⟩
  rw [Dev.port_emit, Dev.port_setPortState, Dev.port_setPort_same]

theorem Dev.markArrives_good {d : Dev} {l : Nat} {bytes : List Byte} {skew : Nat}
    (hl : nbit (d.port (glkPortOf l)).locked (glkLaneOf l) = true) (hgood : markValid bytes = true)
    (hport : byteAt bytes 1 / 64 = glkPortOf l) (hst : d.portState (glkPortOf l) = 2) (hskew : skew ≤ 16)
    (hlen : (d.port (glkPortOf l)).marks.length = 4) (hbad : ∀ n ∈ (d.port (glkPortOf l)).bad, n < 4)
    (hmarks : ∀ j < 4, (if j = glkLaneOf l then 1 else 2) ≤ (d.port (glkPortOf l)).marks.getD j 0) (bip : Nat) :
    (d.markArrives l ⟨2, bytes, bip⟩ skew).portState (glkPortOf l) = 3 ∧
    ((d.markArrives l ⟨2, bytes, bip⟩ skew).port (glkPortOf l)).rxReady = true := by
  obtain ⟨e, he, hest, hep⟩ : ∃ e, d.when (byteAt bytes 6 != bip) (fun d => d.bump (rGLK_CNT 4)) = e ∧
      e.portState (glkPortOf l) = 2 ∧ e.port (glkPortOf l) = d.port (glkPortOf l) := by
    refine ⟨_, rfl, ?_⟩
    unfold Dev.when
    split
    · exact ⟨(Dev.get_wrN_ne _ _ _ (by decide)).trans hst, rfl⟩
    · exact ⟨hst, rfl⟩
  have hrun : d.markArrives l ⟨2, bytes, bip⟩ skew =
      (e.markRun (glkPortOf l) (glkLaneOf l) true false (nbit (byteAt bytes 4) 0)).markMove (glkPortOf l) skew := by
    have hlt : ¬e.portState (glkPortOf l) < 2 := by omega
    rw [← he] at hlt ⊢
    unfold Dev.markArrives
    simp only [hl, hgood, hport, Bool.not_true, Bool.and_true, Bool.and_false, Bool.true_and, Bool.false_and, Bool.false_eq_true, if_false,
      beq_self_eq_true, bne_self_eq_false, show ((2 : Nat) == 1) = false from rfl, show ∀ (x : Dev) f, x.when false f = x from fun _ _ => rfl]
    exact if_neg hlt
  rw [hrun]
  refine Dev.markMove_waitFar ?_ hest ?_ hskew
  · unfold Dev.markRun
    rw [Dev.port_setPort_same, hep]
    exact any_bad _ hbad
  · unfold Dev.markRun
    rw [Dev.port_setPort_same, hep]
    exact all_marks hlen (glkLaneOf_lt l) hmarks

/-! GLK_CTRL (R552). -/

/-- EN of one port, as GLK_CTRL is written. -/
def Dev.portEn (d : Dev) (v p : Nat) : Dev :=
  if nbit v p && d.portState p == 0 then (d.setPortState p 1).tryAlign p
  else if !(nbit v p) && d.portState p != 0 then d.portFall p 0 else d

theorem Dev.writeGlkCtrl_eq (d : Dev) (v : Nat) : d.writeGlkCtrl v = (((d.access rGLK_CTRL v).portEn v 0).portEn v 1) := by rfl

/-- A port whose EN already agrees with its state stands. -/
theorem Dev.portEn_of_iff {d : Dev} {v p : Nat} (h : nbit v p = true ↔ d.portState p ≠ 0) : d.portEn v p = d := by
  unfold Dev.portEn
  cases hb : nbit v p
  · have hz : d.portState p = 0 := by simpa [hb] using h
    simp [hz]
  · have hz : d.portState p ≠ 0 := h.1 hb
    simp [hz]

theorem Dev.portState_portEn_other (d : Dev) (v : Nat) {p q : Nat} (h : (p = 0) ≠ (q = 0)) : (d.portEn v p).portState q = d.portState q := by
  unfold Dev.portEn
  split
  · unfold Dev.tryAlign
    split
    · exact (Dev.portState_set_other _ _ h).trans ((Dev.portState_setPort ..).trans (Dev.portState_set_other _ _ h))
    · exact Dev.portState_set_other _ _ h
  · split
    · exact d.portState_portFall_other 0 h
    · rfl

theorem Dev.portState_access_ctrl (d : Dev) (v p : Nat) : (d.access rGLK_CTRL v).portState p = d.portState p :=
  Dev.get_congr ((d.rewrites_access rGLK_CTRL v).rd _ (by decide)) _

/-- The write acts on the port whose EN disagrees with its state, where the other's agrees. -/
theorem Dev.writeGlkCtrl_one {d : Dev} {v : Nat} (p : Fin 2) (h : nbit v (1 - p.val) = true ↔ d.portState (1 - p.val) ≠ 0) :
    d.writeGlkCtrl v = (d.access rGLK_CTRL v).portEn v p.val := by
  rw [Dev.writeGlkCtrl_eq]
  match p with
  | 0 =>
    refine Dev.portEn_of_iff ?_
    rw [Dev.portState_portEn_other _ _ (by decide), Dev.portState_access_ctrl]
    exact h
  | 1 => rw [Dev.portEn_of_iff (d := d.access rGLK_CTRL v) (p := 0) (by rw [Dev.portState_access_ctrl]; exact h)]; rfl

theorem Dev.port_access (d : Dev) (a v p : Nat) : (d.access a v).port p = d.port p := Dev.port_congr (d.rewrites_access a v).glk p

/-- A port that is enabled goes from OFF to LOCK. -/
theorem Dev.portEn_rises {d : Dev} {v p : Nat} (hen : nbit v p = true) (hst : d.portState p = 0) (hl : (d.port p).locked ≠ 15) :
    d.portEn v p = d.setPortState p 1 := by
  unfold Dev.portEn
  rw [hen, hst]
  refine (if_pos rfl).trans (if_neg fun h => hl ?_)
  rw [← h.2, Dev.port_setPortState]

/-- A port that is disabled falls to OFF. -/
theorem Dev.portEn_falls {d : Dev} {v p : Nat} (hen : nbit v p = false) (hst : d.portState p = 4) : d.portEn v p = d.portFall p 0 := by
  unfold Dev.portEn
  rw [hen, hst]
  rfl

/-! Acknowledgement, credit and replay (R555, R556). -/

/-- A port with nothing queued sends nothing more. -/
theorem Dev.port_pump_idle {d : Dev} {p : Nat} (h : (d.port p).queue = []) : (d.pump p).port p = d.port p := by
  unfold Dev.pump
  split
  · dsimp only
    rw [h, Dev.pumpList, Dev.port_setPort_same, ← h]
  · rfl

theorem Dev.port_ackIn {d : Dev} {p seq : Nat} {x : Trans} {rest : List Trans} (hup : d.portState p = 4) (hq : (d.port p).queue = [])
    (hs : (d.port p).store = x :: rest) (hx : x.seq = seq) :
    (d.ackIn p seq false).port p = { d.port p with store := rest, noProgress := 0 } := by
  have hk : (seq + 65536 - x.seq) % 65536 = 0 := by rw [hx]; omega
  have he : d.ackIn p seq false = (d.setPort p { d.port p with store := rest, noProgress := 0 }).pump p := by
    unfold Dev.ackIn
    rw [if_neg (not_not.2 hup)]
    simp [hs, hk]
  rw [he, Dev.port_pump_idle, Dev.port_setPort_same]
  rw [Dev.port_setPort_same]
  exact hq

theorem Dev.port_creditIn {d : Dev} {p cls lim : Nat} (hup : d.portState p = 4) (hq : (d.port p).queue = []) (hc : cls < 3)
    (hl : (lim + 2 ^ 32 - (d.port p).limit.getD cls 0) % 2 ^ 32 < 2 ^ 31) :
    (d.creditIn p cls lim).port p = { d.port p with limit := (d.port p).limit.set cls lim } := by
  have he : d.creditIn p cls lim = (d.setPort p { d.port p with limit := (d.port p).limit.set cls lim }).pump p := by
    unfold Dev.creditIn
    rw [if_neg (by omega)]
    exact if_pos hl
  rw [he, Dev.port_pump_idle, Dev.port_setPort_same]
  rw [Dev.port_setPort_same]
  exact hq

/-- A replay counts, and counts towards the fall of the port. -/
theorem Dev.replay_again {d : Dev} {p : Nat} (h : (d.port p).noProgress < 3) :
    (d.replay p).port p = { d.port p with noProgress := (d.port p).noProgress + 1 } ∧
    (d.replay p).rdN (rGLK_CNT 3) % 2 ^ 31 = (d.rdN (rGLK_CNT 3) + 1) % 2 ^ 31 := by
  unfold Dev.replay
  rw [if_neg (by omega)]
  constructor
  · refine (foldl_keeps (Dev.port · p) (fun e t => Dev.port_emit ..) _ _).trans ?_
    rw [Dev.port_bump, Dev.port_setPort_same]
  · refine (congrArg (· % 2 ^ 31) (foldl_keeps (Dev.rdN · (rGLK_CNT 3)) (fun e t => Dev.rdN_congr (Dev.rd_emit ..)) _ _)).trans ?_
    exact Dev.rdN_bumpBy_same ..

theorem Dev.replay_fails {d : Dev} {p : Nat} (h : 3 ≤ (d.port p).noProgress) :
    d.replay p = ((d.bump (rGLK_CNT 3)).mark rGLK_ERR fGLK_ERR_REPLAY_FAIL).portFall p 1 := if_pos (by omega)

theorem State.run_replay {s : State} (hs : s.Runs) {p : Fin 2} (hup : s.dev.portState p.val = 4) (hst : (s.dev.port p.val).store ≠ []) :
    exec (.replayTimeout p) s = .next (s.after (s.start.replay p.val)) := by
  rw [exec_replayTimeout]
  refine State.run_after hs.1 (if_pos ⟨hup, ?_⟩)
  rw [Bool.not_eq_true', List.isEmpty_eq_false_iff]
  exact hst

/-! Transactions discarded (R553-R555). -/

theorem Dev.badReq_shown (d : Dev) : d.badReq.rdN (rGLK_CNT 5) % 2 ^ 31 = (d.rdN (rGLK_CNT 5) + 1) % 2 ^ 31 ∧
    d.badReq.bit rGLK_ERR fGLK_ERR_BAD_REQ = true ∧ ∀ p, d.badReq.port p = d.port p := by
  refine ⟨?_, Dev.bit_mark_same _ _ rfl (by decide), fun p => Dev.port_congr (Dev.put_glk ..) p⟩
  unfold Dev.badReq Dev.mark
  rw [Dev.rdN_put_ne _ _ _ (by decide)]
  exact Dev.rdN_bumpBy_same ..

/-- A transaction with a bad CRC is counted as one, and answered with at most one NAK. -/
theorem Dev.receive_unsound {d : Dev} {p : Nat} (hup : d.portState p = 4) (seq cls words : Nat) : ∃ e,
    d.receive p seq cls words false = (false, e) ∧ e.rd (rGLK_CNT 2) = d.badBlock.rd (rGLK_CNT 2) ∧ e.rd rGLK_ERR = d.badBlock.rd rGLK_ERR ∧
    (e.port p).rxNext = (d.port p).rxNext := by
  have hport : d.badBlock.port p = d.port p := Dev.port_congr (d.writes_badBlock).glk p
  refine ⟨if (d.port p).nakSent then d.badBlock else (d.badBlock.setPort p { d.port p with nakSent := true }).sendAck p true, ?_, ?_⟩
  · unfold Dev.receive
    rw [if_neg (not_not.2 hup)]
    rfl
  · generalize d.badBlock = b at hport ⊢
    split
    · exact ⟨rfl, rfl, by rw [hport]⟩
    · unfold Dev.sendAck
      refine ⟨Dev.rd_emit .., Dev.rd_emit .., ?_⟩
      rw [Dev.port_emit, Dev.port_setPort_same]

end Sys2Proof.Machine

/-! The obligation on the Gellen link (19_gellen.md R548-R556, R577). -/

namespace Sys2Proof.Machine

/-- Settles O42: each clause is the lemma on its command. -/
theorem theLinkAlignsAndDelivers : Obligations.TheLinkAlignsAndDelivers := by
  unfold Obligations.TheLinkAlignsAndDelivers
  refine ⟨fun s l hs => ⟨exec_gellenLaneLock_next s hs l, exec_gellenLane_unlocked hs, exec_gellenLaneLockLost_up hs⟩,
    fun s l bytes bip skew hs hl => ⟨fun hbad hst => ?_, fun hgood hport hst hskew hlen hbad hmarks => ?_⟩,
    fun s p val hs hother => ⟨fun hen hst hl => ?_, fun hen hst => ?_⟩,
    fun s p seq cls limit nak hs => ⟨fun i hi => ?_, fun hdown i hi => ?_, fun x rest hup hq hst hx => ?_, fun hup hq hc hl => ?_⟩,
    fun s p hs => ⟨fun hst => ?_, fun hup hst => ⟨fun hn => ?_, fun hn => ?_⟩⟩,
    fun s p seq typ words hs => ⟨fun ht => ?_, fun hup => ?_⟩⟩
  · rw [exec_gellenMark]
    exact State.run_badBlock hs (Dev.markArrives_bad (d := s.start) hl hbad hst _ _)
  · obtain ⟨h3, hready⟩ := Dev.markArrives_good (d := s.start) hl hgood hport hst hskew hlen hbad hmarks bip.toNat
    rw [exec_gellenMark]
    refine ⟨_, State.run_after hs.1 rfl, ?_⟩
    rw [State.after_portState, State.after_port]
    exact ⟨h3, hready⟩
  · have he : s.start.writeGlkCtrl val.toNat = (s.start.access rGLK_CTRL val.toNat).setPortState p.val 1 :=
      (Dev.writeGlkCtrl_one (d := s.start) p hother).trans
        (Dev.portEn_rises hen ((Dev.portState_access_ctrl ..).trans hst) (by rw [Dev.port_access]; exact hl))
    rw [exec_glkCtrlWrite]
    refine ⟨_, State.run_after hs.1 he, ?_⟩
    rw [State.after_portState, State.after_portState, State.after_rdN, Dev.portState_set_same _ _ (by decide),
      Dev.portState_set_other _ _ (by simp only [ne_eq, eq_iff_iff]; omega), Dev.portState_access_ctrl, Dev.setPortState,
      Dev.rdN_put_ne _ _ _ (by decide), Dev.rdN_access_same]
    exact ⟨rfl, rfl, rfl⟩
  · have hup : (s.start.access rGLK_CTRL val.toNat).portState p.val = 4 := (Dev.portState_access_ctrl ..).trans hst
    have he : s.start.writeGlkCtrl val.toNat = (s.start.access rGLK_CTRL val.toNat).portFall p.val 0 :=
      (Dev.writeGlkCtrl_one (d := s.start) p hother).trans (Dev.portEn_falls hen hup)
    rw [exec_glkCtrlWrite]
    refine ⟨_, State.run_after hs.1 he, ?_⟩
    rw [State.after_portState, State.after_bit, State.after_port, Dev.portState_portFall_same _ _ (by decide), Dev.port_portFall _ _ (by decide)]
    exact ⟨if_neg fun h => absurd h.1 (by decide), Dev.bit_portFall_down _ _ _ hup, rfl⟩
  · simp only [List.mem_cons, List.not_mem_nil, or_false] at hi
    rcases hi with rfl | rfl
    · rw [exec_ack]; exact State.run_badBlock hs (if_neg Bool.false_ne_true)
    · rw [exec_credit]; exact State.run_badBlock hs (if_neg Bool.false_ne_true)
  · have hdown' : s.start.portState p.val ≠ 4 := hdown
    simp only [List.mem_cons, List.not_mem_nil, or_false] at hi
    rcases hi with rfl | rfl | rfl
    · rw [exec_ack]; exact State.run_nothing hs ((if_pos rfl).trans (if_pos hdown'))
    · rw [exec_credit]; exact State.run_nothing hs ((if_pos rfl).trans (if_pos (.inl hdown')))
    · rw [exec_replayTimeout]; exact State.run_nothing hs (if_neg fun h => hdown' h.1)
  · rw [exec_ack]
    refine ⟨_, State.run_after hs.1 (if_pos rfl), ?_⟩
    rw [State.after_port]
    exact Dev.port_ackIn (d := s.start) hup hq hst hx
  · rw [exec_credit]
    refine ⟨_, State.run_after hs.1 (if_pos rfl), ?_⟩
    rw [State.after_port]
    exact Dev.port_creditIn (d := s.start) hup hq hc hl
  · rw [exec_replayTimeout]
    refine State.run_nothing hs (if_neg fun h => ?_)
    have hempty : (s.start.port p.val).store = [] := hst
    simp [hempty] at h
  · obtain ⟨hport, hcnt⟩ := Dev.replay_again (d := s.start) (p := p.val) hn
    refine ⟨_, State.run_replay hs hup hst, ?_⟩
    rw [State.Counts, State.after_port, State.after_rdN]
    exact ⟨hcnt, hport⟩
  · have he := Dev.replay_fails (d := s.start) (p := p.val) hn
    have hport : ((s.start.bump (rGLK_CNT 3)).mark rGLK_ERR fGLK_ERR_REPLAY_FAIL).port p.val = s.dev.port p.val :=
      Dev.port_congr (Dev.put_glk ..) _
    refine ⟨_, State.run_replay hs hup hst, ?_⟩
    rw [he, State.after_bit, State.after_portState, State.after_port, Dev.portState_portFall_same _ _ (by decide), Dev.fallState, hport,
      Dev.port_portFall _ _ (by decide), Dev.bit_portFall_err _ _ _ (by decide) (by decide) (by decide)]
    refine ⟨Dev.bit_mark_same _ _ rfl (by decide), ?_, rfl⟩
    simp only [true_and]
  · have htake := Dev.receive_of_takes (d := s.start) ht (transClass typ.val) (1 + words.val)
    obtain ⟨hcnt, herr, hport⟩ := (s.start.taken p.val seq.val (transClass typ.val) (1 + words.val)).badReq_shown
    rw [exec_transactionDiscarded]
    refine ⟨_, State.run_after hs.1 (e := (s.start.taken p.val seq.val (transClass typ.val) (1 + words.val)).badReq) (by rw [htake]; rfl), ?_⟩
    rw [State.Counts, State.after_rdN, State.after_bit, State.after_port, hport, Dev.port_taken, hcnt,
      Dev.rdN_congr ((s.start.talk_taken ..).rd _ (by decide))]
    exact ⟨rfl, herr, rfl⟩
  · obtain ⟨e, he, hcnt, herr, hnext⟩ := Dev.receive_unsound (d := s.start) (p := p.val) hup seq.val (transClass typ.val) (1 + words.val)
    obtain ⟨hone, hcrc⟩ := s.start.badBlock_shown
    rw [exec_transactionDiscarded]
    refine ⟨_, State.run_after hs.1 (e := e) (by rw [he]; rfl), ?_⟩
    rw [State.Counts, State.after_rdN, State.after_bit, State.after_port, hnext, Dev.rdN_congr hcnt, Dev.bit_congr herr]
    exact ⟨hone, hcrc, rfl⟩

end Sys2Proof.Machine

/-! What a tree's going down leaves alone (20_clocks_boot.md R592): the registers of clocks, resets and boot, and their state. -/

namespace Sys2Proof.Machine

/-- From one state of the device to another no register of clocks, resets and boot changes, nor the state beside them. -/
structure Dev.CoreKept (d e : Dev) : Prop where
  rd : ∀ a, a < 0x40000 → e.rd a = d.rd a
  clk : e.clk = d.clk

section
variable {d e f : Dev}

theorem Dev.CoreKept.refl (d : Dev) : d.CoreKept d := ⟨fun _ _ => rfl, rfl⟩

theorem Dev.CoreKept.trans (h : d.CoreKept e) (k : e.CoreKept f) : d.CoreKept f :=
  ⟨fun a ha => (k.rd a ha).trans (h.rd a ha), k.clk.trans h.clk⟩

theorem Dev.CoreKept.ite {c : Prop} [Decidable c] (h : d.CoreKept e) (k : d.CoreKept f) : d.CoreKept (if c then e else f) := by
  split
  · exact h
  · exact k

/-- A further effect, where a condition does not forbid it. -/
theorem Dev.CoreKept.extend {c : Prop} [Decidable c] (h : d.CoreKept e) (k : e.CoreKept f) : d.CoreKept (if c then e else f) :=
  .ite h (h.trans k)

/-- A further effect, where a condition asks for it. -/
theorem Dev.CoreKept.extendThen {c : Prop} [Decidable c] (h : d.CoreKept e) (k : e.CoreKept f) : d.CoreKept (if c then f else e) :=
  .ite (h.trans k) h

theorem Dev.CoreKept.foldl {α : Type} {g : Dev → α → Dev} {l : List α} (h : ∀ d : Dev, ∀ x ∈ l, d.CoreKept (g d x)) (d : Dev) :
    d.CoreKept (l.foldl g d) :=
  List.foldlRecOn (motive := fun e : Dev => d.CoreKept e) l g (.refl d) fun e he x hx => he.trans (h e x hx)

theorem Dev.CoreKept.when (d : Dev) (c : Bool) {g : Dev → Dev} (h : ∀ d : Dev, d.CoreKept (g d)) : d.CoreKept (d.when c g) :=
  .ite (h d) (.refl d)

/-- A write of a register of another block. -/
theorem Dev.coreKept_wrN (d : Dev) {a : Nat} (v : Nat) (h : 0x40000 ≤ a) : d.CoreKept (d.wrN a v) :=
  ⟨fun _ hb => Dev.rd_wrN_ne _ _ (by omega), rfl⟩

theorem Dev.coreKept_put (d : Dev) {a : Nat} (g : Fld) (v : Nat) (h : 0x40000 ≤ a) : d.CoreKept (d.put a g v) :=
  ⟨fun _ hb => Dev.rd_put_ne _ _ _ (by omega), rfl⟩

theorem Dev.coreKept_bumpBy (d : Dev) {a : Nat} (n : Nat) (h : 0x40000 ≤ a) : d.CoreKept (d.bumpBy a n) :=
  have hw := Dev.writes_bumpBy (P := (· = a)) d n rfl
  ⟨fun _ hb => hw.rd _ (by omega), hw.clk⟩

theorem Dev.coreKept_bump (d : Dev) {a : Nat} (h : 0x40000 ≤ a) : d.CoreKept (d.bump a) := d.coreKept_bumpBy 1 h

theorem Dev.coreKept_finish (d : Dev) (m r : Nat) (resp : List Byte) : d.CoreKept (d.finish m r resp) :=
  ⟨fun a ha => Dev.rd_finish _ _ _ _ (by unfold rGLK_CNT; omega) (by unfold rMBX_STATUS; omega) (by unfold rMBX_INFO; omega),
    Dev.finish_clk ..⟩

end

/-! Closing in-flight entries, and the notices. -/

theorem Dev.coreKept_updLadT (d : Dev) (t : Nat) (g : LadTree → LadTree) : d.CoreKept (d.updLadT t g) := ⟨fun _ _ => rfl, rfl⟩
theorem Dev.coreKept_updLadA (d : Dev) (a : Nat) (g : LadAlloc → LadAlloc) : d.CoreKept (d.updLadA a g) := ⟨fun _ _ => rfl, rfl⟩
theorem Dev.coreKept_updActOf (d : Dev) (h : Nat) (g : TermAct → TermAct) : d.CoreKept (d.updActOf h g) := ⟨fun _ _ => rfl, rfl⟩
theorem Dev.coreKept_updPair (d : Dev) (t : Nat) (g : PairX → PairX) : d.CoreKept (d.updPair t g) := ⟨fun _ _ => rfl, rfl⟩
theorem Dev.coreKept_setIftE (d : Dev) (i : Nat) (x : Ift) : d.CoreKept (d.setIftE i x) := ⟨fun _ _ => rfl, rfl⟩

theorem Dev.coreKept_closeIft (d : Dev) (t e st : Nat) : d.CoreKept (d.closeIft t e st) := by
  have hcnt : 0x40000 ≤ rLADLE_CNT (if st = 1 then 29 else 30) := by unfold rLADLE_CNT; omega
  have hmap : 0x40000 ≤ rLADLE_MAP_STATC t := by unfold rLADLE_MAP_STATC; omega
  unfold Dev.closeIft
  refine .ite (.extend ?ended (Dev.coreKept_updLadA ..)) (.refl d)
  refine .trans (.trans (.trans ?counted (Dev.coreKept_updLadT ..)) (.when _ _ fun x => x.coreKept_updActOf ..))
    (.when _ _ fun x => x.coreKept_updPair ..)
  exact .trans (.trans ((d.coreKept_setIftE ..).trans (Dev.coreKept_bump _ hcnt)) (Dev.coreKept_put _ _ _ (by decide)))
    (Dev.coreKept_put _ _ _ hmap)

theorem Dev.coreKept_updRxT (d : Dev) (t : Nat) (g : RxTree → RxTree) : d.CoreKept (d.updRxT t g) := ⟨fun _ _ => rfl, rfl⟩
theorem Dev.coreKept_updTree (d : Dev) (t : Nat) (g : TreeX → TreeX) : d.CoreKept (d.updTree t g) := ⟨fun _ _ => rfl, rfl⟩
theorem Dev.coreKept_updActT (d : Dev) (t : Nat) (g : ActTree → ActTree) : d.CoreKept (d.updActT t g) := ⟨fun _ _ => rfl, rfl⟩
theorem Dev.coreKept_updPreset (d : Dev) (h : Nat) (g : Preset → Preset) : d.CoreKept (d.updPreset h g) := ⟨fun _ _ => rfl, rfl⟩
theorem Dev.coreKept_withNotices (d : Dev) (n : List Notice) : d.CoreKept { d with notices := n } := ⟨fun _ _ => rfl, rfl⟩
theorem Dev.coreKept_withDram (d : Dev) (x : DramState) : d.CoreKept { d with dram := x } := ⟨fun _ _ => rfl, rfl⟩

theorem Dev.coreKept_descDepth (d : Dev) (t v : Nat) : d.CoreKept (d.put (rBRX_STATUS t) fBRX_STATUS_DESC_DEPTH v) :=
  d.coreKept_put _ _ (by unfold rBRX_STATUS; omega)

theorem Dev.coreKept_purgeDescs (d : Dev) (t : Nat) : d.CoreKept (d.purgeDescs t) :=
  (d.coreKept_updRxT ..).trans (Dev.coreKept_descDepth ..)

theorem Dev.coreKept_closeWhere (d : Dev) (t : Nat) (p : Ift → Bool) : d.CoreKept (d.closeWhere t p) :=
  (Dev.CoreKept.foldl (fun x e _ => x.coreKept_closeIft t e 2) d).trans (Dev.coreKept_purgeDescs ..)

theorem Dev.coreKept_dropNotices (d : Dev) (p : Notice → Bool) : d.CoreKept (d.dropNotices p) := by
  unfold Dev.dropNotices
  refine .trans (.trans (d.coreKept_withNotices _) (.ite (.refl _) (Dev.coreKept_bumpBy _ _ (by decide))))
    (Dev.coreKept_put _ _ _ (by decide))

theorem Dev.coreKept_ladDisable (d : Dev) (t : Nat) : d.CoreKept (d.ladDisable t) := by
  unfold Dev.ladDisable
  exact .trans (.trans (d.coreKept_closeWhere ..) (Dev.coreKept_updLadT ..)) (Dev.coreKept_dropNotices ..)

/-! Terminals (05_activation.md R134-R136). -/

theorem Dev.coreKept_showTerm (d : Dev) (t : Nat) : d.CoreKept (d.showTerm t) := by
  have hout : ∀ a ∈ showTermRegs t, 0x40000 ≤ a := by
    simp only [showTermRegs, rACT_STATUS, rACT_TERM_INFO, rACT_TERM_EQD, List.mem_cons, List.not_mem_nil, or_false]
    omega
  have hshow := (d.rewrites_showTerm t).writes
  exact ⟨fun a ha => hshow.rd a fun hm => absurd (hout a hm) (by omega), hshow.clk⟩

theorem Dev.coreKept_showTune (d : Dev) (t : Nat) : d.CoreKept (d.showTune t) := by
  have hput : ∀ (x : Dev) g v, x.CoreKept (x.put (rBRX_STATUS t) g v) := fun x g v => x.coreKept_put g v (by unfold rBRX_STATUS; omega)
  exact ((hput ..).trans (hput ..)).trans (hput ..)

theorem Dev.coreKept_abandonTune (d : Dev) (t h : Nat) : d.CoreKept (d.abandonTune t h) := by
  unfold Dev.abandonTune
  split
  · exact .ite (.trans (.trans (d.coreKept_updPreset ..) (Dev.coreKept_updRxT ..)) (Dev.coreKept_showTune ..)) (.refl d)
  · exact .refl d

theorem Dev.coreKept_withdraw (d : Dev) (t h : Nat) : d.CoreKept (d.withdraw t h) := by
  unfold Dev.withdraw
  split
  · exact .refl d
  · exact .ite (.refl d) (.trans (Dev.coreKept_bumpBy _ _ (by decide)) (Dev.coreKept_updLadT ..))

theorem Dev.coreKept_setState (d : Dev) (h : Nat) (st : TState) : d.CoreKept (d.setState h st) := by
  unfold Dev.setState
  dsimp only
  refine .trans (.trans (.trans (.trans (.trans (.trans (d.coreKept_updActOf ..) (.when _ _ fun x => ?_)) (.when _ _ fun x => ?_))
    (.when _ _ fun x => x.coreKept_closeWhere ..)) (Dev.coreKept_withdraw ..)) (.foldl (fun x _ _ => x.coreKept_updLadT ..) _))
    (Dev.coreKept_showTerm ..)
  · exact (x.coreKept_updActOf ..).trans (Dev.coreKept_updPreset ..)
  · exact (x.coreKept_dropNotices _).trans (Dev.coreKept_abandonTune ..)

/-! Queues and gates. -/

theorem Dev.coreKept_chargeTo (d : Dev) (ent ten charge z : Nat) (add : Bool) : d.CoreKept (d.chargeTo ent ten charge z add) := by
  unfold Dev.chargeTo
  dsimp only
  have hch : ∀ (x : Dev) (a : Nat), 0x40000 ≤ a → x.CoreKept (x.wrN a (if add then x.rdN a + z else x.rdN a - z)) :=
    fun x a ha => x.coreKept_wrN _ ha
  have hused := (hch d (rPAN_ENT_USED ent) (by unfold rPAN_ENT_USED; omega)).trans
    (hch _ (rPAN_TEN_USED ten) (by unfold rPAN_TEN_USED; omega))
  exact .ite (hused.trans (hch _ _ (by unfold rPAN_ENT_RES_USED; omega)))
    (.ite (hused.trans (hch _ _ (by unfold rPAN_TEN_RES_USED; omega))) (hused.trans (hch _ _ (by decide))))

theorem Dev.coreKept_freeBuf (d : Dev) (b : Buf) : d.CoreKept (d.freeBuf b) := by
  unfold Dev.freeBuf
  dsimp only
  refine .ite ?_ ((Dev.coreKept_bump _ (by decide)).trans (Dev.coreKept_put _ _ _ (by decide)))
  have hset : d.CoreKept (d.setBankX b.bank { d.bankX b.bank with freed := b.idx :: (d.bankX b.bank).freed }) :=
    ⟨fun _ _ => rfl, rfl⟩
  exact ((hset.trans (Dev.coreKept_put _ _ _ (by unfold rSTK_BANK; omega))).trans
    (.when _ _ fun x => x.coreKept_wrN _ (by unfold rPAN_POOL_FREE; omega))).trans (Dev.coreKept_chargeTo ..)

theorem Dev.coreKept_spRelease (d : Dev) (key page : Nat) : d.CoreKept (d.spRelease key page) := by
  unfold Dev.spRelease
  dsimp only
  refine Dev.CoreKept.trans ?_ ((Dev.coreKept_wrN _ _ (by decide)).trans (Dev.coreKept_put _ _ _ (by decide)))
  exact ⟨fun _ _ => rfl, rfl⟩

theorem Dev.coreKept_dropHeld (d : Dev) (key : Nat) (h : Held) : d.CoreKept (d.dropHeld key h) := by
  unfold Dev.dropHeld
  split
  · exact Dev.coreKept_freeBuf ..
  · exact .trans (.when _ _ fun x => x.coreKept_withDram _) (Dev.coreKept_spRelease ..)

theorem Dev.coreKept_dsFlush (d : Dev) (c : Nat) : d.CoreKept (d.dsFlush c) := by
  unfold Dev.dsFlush
  dsimp only
  have hset : d.CoreKept (d.setChQ c []) := ⟨fun _ _ => rfl, rfl⟩
  exact (hset.trans (.foldl (fun x h _ => x.coreKept_dropHeld c h) _)).trans (Dev.coreKept_bumpBy _ _ (by unfold rDSQ_CNT; omega))

theorem gateStatus_high (o : GateOwner) : 0x40000 ≤ gateStatus o := by
  cases o
  · simp only [gateStatus, rDSQ_GATE_STATUS]; omega
  · simp only [gateStatus, rUPL_GATE_STATUS]; omega

theorem Dev.coreKept_showGate (d : Dev) (o : GateOwner) (a : Nat) : d.CoreKept (d.showGate o a) := by
  have hput : ∀ (x : Dev) g v, x.CoreKept (x.put (gateStatus o) g v) := fun x g v => x.coreKept_put g v (gateStatus_high o)
  unfold Dev.showGate
  dsimp only
  split <;> exact ((hput ..).trans (hput ..)).trans ((hput ..).trans (hput ..))

theorem Dev.coreKept_gateEnd (d : Dev) (o : GateOwner) : d.CoreKept (d.gateEnd o) := by
  unfold Dev.gateEnd
  dsimp only
  refine Dev.CoreKept.trans ?_ (Dev.coreKept_showGate ..)
  have hupd : d.CoreKept (d.updGateX (gateKey o) (fun x => { x with armed := none, active := none })) := ⟨fun _ _ => rfl, rfl⟩
  cases o with
  | tree t => exact hupd.trans (Dev.coreKept_put _ _ _ (by unfold rDSQ_GATE_ACT_CYCLE; omega))
  | upl u => exact hupd.trans (Dev.coreKept_put _ _ _ (by unfold rUPL_GATE_ACT_CYCLE; omega))

theorem Dev.coreKept_setPartOf (d : Dev) (t : Nat) (x : Option Nat) : d.CoreKept (d.setPartOf t x) := ⟨fun _ _ => rfl, rfl⟩

theorem Dev.coreKept_dsDisable (d : Dev) (t : Nat) : d.CoreKept (d.dsDisable t) := by
  unfold Dev.dsDisable
  exact .trans (.trans (d.coreKept_setPartOf ..) (.foldl (fun x c _ => x.coreKept_dsFlush c) _)) (Dev.coreKept_gateEnd ..)

/-! The tree itself (R81). -/

theorem Dev.coreKept_rssiEnd (d : Dev) (t : Nat) (seen timeout clipped : Bool) (data : List Byte) :
    d.CoreKept (d.rssiEnd t seen timeout clipped data) := by
  unfold Dev.rssiEnd
  dsimp only
  refine Dev.CoreKept.trans ((Dev.coreKept_put d _ _ (by unfold rTREE_RSSI_CTRL; omega)).trans
    (Dev.coreKept_wrN _ _ (by unfold rTREE_RSSI_STATUS; omega))) (.foldl (fun x c _ => ?_) _)
  exact .ite (.ite (Dev.coreKept_finish ..) (Dev.coreKept_finish ..)) (.refl x)

theorem Dev.coreKept_actStatus (d : Dev) (t : Nat) (g : Fld) (v : Nat) : d.CoreKept (d.put (rACT_STATUS t) g v) :=
  d.coreKept_put _ _ (by unfold rACT_STATUS; omega)

theorem Dev.coreKept_treeDown (d : Dev) (t : Nat) : d.CoreKept (d.treeDown t) := by
  unfold Dev.treeDown
  dsimp only
  refine .extendThen ?_ (Dev.coreKept_rssiEnd ..)
  refine .trans (.trans (.trans ?_ (Dev.coreKept_updActT ..)) (.when _ _ fun x => x.coreKept_actStatus ..)) (Dev.coreKept_actStatus ..)
  refine .trans (.trans (.trans ?_ (Dev.coreKept_dsDisable ..)) (Dev.coreKept_updRxT ..)) (Dev.coreKept_descDepth ..)
  exact .extend ((d.coreKept_updTree ..).trans (Dev.coreKept_ladDisable ..))
    (.foldl (fun y h _ => .extendThen (.refl y) (y.coreKept_setState h .absent)) _)

theorem Dev.coreKept_treeDisable (d : Dev) (t : Nat) : d.CoreKept (d.treeDisable t) :=
  (d.coreKept_treeDown t).trans (Dev.coreKept_updTree ..)

end Sys2Proof.Machine

/-! Power, the reset pin, warm and block resets (20_clocks_boot.md R588-R593, R601, R604, R605). -/

namespace Sys2Proof.Machine

theorem exec_supplyUndervoltage (s : State) :
    exec .supplyUndervoltage s = s.runAny (fun d => if d.powered then d.powerOff else d) := rfl
theorem exec_resetL (s : State) :
    exec .resetL s = s.runAny (fun d => if d.clk.sup = .failed ∨ !d.powered then d else d.pinReset) := rfl
theorem exec_warmReset (val : Word) (s : State) : exec (.warmReset val) s = s.run (fun d => d.writeRstCtrl val.toNat) := rfl
theorem exec_commandedWarmReset (s : State) :
    exec .commandedWarmReset s = s.run (fun d => if d.clk.warmDue then d.warmReset 1 else d) := rfl
theorem exec_blockReset (val : Word) (s : State) : exec (.blockReset val) s = s.run (fun d => d.writeRstBlock val.toNat) := rfl
theorem exec_resetHandshakeAck (c : Fin 165) (s : State) :
    exec (.resetHandshakeAck c) s = s.run (fun d => d.handshake c.val) := rfl

/-! The reset pin (R591). -/

theorem Dev.bootState_of_reset {d : Dev} (h : d.rd rBOOT_STATUS = regReset rBOOT_STATUS) : d.bootState = 0 := by
  have hzero : fieldOf (regReset rBOOT_STATUS).toNat fBOOT_STATUS_STATE = 0 := by decide
  rw [← h] at hzero
  exact hzero

/-- A pin reset of a running ring (R591): tree registers and boot at reset, the cause shown, the ring kept. -/
theorem Dev.pinReset_run {d : Dev} (h : d.clk.sup = .run) : d.pinReset.clk.sup = .run ∧
    d.pinReset.get rRST_CAUSE fRST_CAUSE_KIND = 1 ∧ d.pinReset.bootState = 1 ∧
    (∀ a, 0x1000000 ≤ a → a < 0x1300000 → d.pinReset.rd a = regReset a) := by
  have hrun : d.pinsReset.clk.sup = .run := (congrArg ClkState.sup d.pinsReset_clk).trans h
  unfold Dev.pinReset
  dsimp only
  generalize d.pinsReset = p at hrun ⊢
  rw [if_pos hrun]
  have hspared := fun a => Dev.rd_sparesKept p.blank p (a := a)
  generalize (List.range 836).foldl (fun n i => n.wr (rMTEST_REPAIR i) (p.rd (rMTEST_REPAIR i))) p.blank = n at hspared ⊢
  have hcaused : ∀ a, a ≠ rRST_CAUSE → (n.cause 1 0).rd a = n.rd a := fun a ha =>
    (Dev.rd_put_ne _ _ _ ha).trans (Dev.rd_put_ne _ _ _ ha)
  have hkind : (n.cause 1 0).get rRST_CAUSE fRST_CAUSE_KIND = 1 :=
    (Dev.get_put_disjoint _ _ _ (by decide)).trans (Dev.get_put_eq _ _ (by decide))
  generalize n.cause 1 0 = m at hcaused hkind ⊢
  have hcarried : ∀ a, a ≠ rCLK_STATUS → a ≠ rCLK_RING_PERIOD →
      ((m.carry p rCLK_STATUS 0x80077FFF).carry p rCLK_RING_PERIOD 0xFFFF).rd a = m.rd a := fun a h1 h2 =>
    (Dev.rd_carry_ne _ _ _ h2).trans (Dev.rd_carry_ne _ _ _ h1)
  generalize (m.carry p rCLK_STATUS 0x80077FFF).carry p rCLK_RING_PERIOD 0xFFFF = c at hcarried ⊢
  have hclk : Dev.clk { c with clk := { sup := .run } } = { sup := .run } := rfl
  have hrd : ∀ a, Dev.rd { c with clk := { sup := .run } } a = c.rd a := c.rd_withClk _
  generalize ({ c with clk := { sup := .run } } : Dev) = e at hclk hrd ⊢
  have hreset : ∀ a, a ≠ rCLK_STATUS → a ≠ rCLK_RING_PERIOD → a ≠ rRST_CAUSE → (∀ i < 836, a ≠ rMTEST_REPAIR i) → e.rd a = regReset a :=
    fun a h1 h2 h3 h4 => (hrd a).trans ((hcarried a h1 h2).trans ((hcaused a h3).trans (hspared a h4)))
  have hboot : e.bootState = 0 := Dev.bootState_of_reset
    (hreset rBOOT_STATUS (by decide) (by decide) (by decide) (fun i _ he => absurd he (by unfold rBOOT_STATUS rMTEST_REPAIR; omega)))
  refine ⟨congrArg ClkState.sup ((e.bootStart_clk true).trans hclk), ?_, Dev.bootState_bootStart true hboot, fun a h1 h2 => ?_⟩
  · exact (Dev.get_congr ((e.rd_bootStart true (by decide)).trans ((hrd _).trans (hcarried _ (by decide) (by decide)))) _).trans hkind
  · have hlt : ∀ b ∈ [rCLK_STATUS, rCLK_RING_PERIOD, rRST_CAUSE, rBOOT_STATUS], b < 0x1000000 := by decide
    have hne : ∀ b ∈ [rCLK_STATUS, rCLK_RING_PERIOD, rRST_CAUSE, rBOOT_STATUS], a ≠ b := fun b hb he => by
      have := hlt b hb
      omega
    exact (e.rd_bootStart true (hne _ (by decide))).trans (hreset a (hne _ (by decide)) (hne _ (by decide)) (hne _ (by decide))
      fun i hi he => absurd (rMTEST_REPAIR_lt hi) (by omega))

/-! Block resets (R592, R593). -/

theorem Dev.Writes.part {P : Nat → Prop} {d e : Dev} (h : d.Writes P e) : e.part = d.part := (congrArg Dev.part h.rest).trans rfl

/-- RST_BLOCK as a write of software stores it, GO taken. -/
def Dev.blockAsked (d : Dev) (v : Nat) : Dev := (d.access rRST_BLOCK v).put rRST_BLOCK fRST_BLOCK_GO 0

theorem Dev.writes_blockAsked (d : Dev) (v : Nat) : Dev.Writes (· ∈ [rRST_BLOCK]) d (d.blockAsked v) :=
  (d.writes_access v (by decide)).trans (Dev.writes_put _ _ _ (by decide))

/-- Whether a block can be reset depends on the part and on the registers of ports and bundles. -/
theorem Dev.blockOk_congr {d e : Dev} (hpart : e.part = d.part) (hrd : ∀ a, a ≠ rRST_BLOCK → e.rd a = d.rd a) (kind idx : Nat) :
    e.blockOk kind idx = d.blockOk kind idx := by
  have htree : e.treeOk idx = d.treeOk idx := by unfold Dev.treeOk; rw [hpart]
  have hport : e.uplFirst idx = d.uplFirst idx := Dev.get_congr (hrd _ (by unfold rUPL_PORT_STATUS rRST_BLOCK; omega)) _
  have hreg : ∀ b, e.rd (rFAB_BND_CTRL b) = d.rd (rFAB_BND_CTRL b) := fun b => hrd _ (by unfold rFAB_BND_CTRL rRST_BLOCK; omega)
  have hbundle : e.bundleOf idx = d.bundleOf idx := by
    have hen : ∀ b, e.bndEn b = d.bndEn b := fun b => Dev.bit_congr (hreg b) _
    have hsize : ∀ b, e.bndSize b = d.bndSize b := fun b => congrArg (fun w : Word => bndLanes w.toNat) (hreg b)
    unfold Dev.bundleOf
    simp only [hen, hsize]
  have hlane : e.firstLane idx = d.firstLane idx := by unfold Dev.firstLane; rw [hbundle]
  unfold Dev.blockOk
  rw [htree, hport, hlane]

/-- A register a filter of addresses drops reads as at reset. -/
theorem sget_skeep_drop {α : Type} (dflt : Nat → α) (p : Nat → Bool) (m : List (Nat × α)) {k : Nat} (h : p k = false) :
    sget dflt (skeep p m) k = dflt k := by
  induction m with
  | nil => rfl
  | cons e m ih =>
    obtain ⟨j, v⟩ := e
    unfold skeep at *
    rw [List.filter_cons]
    split
    · next hj =>
      have hne : j ≠ k := fun he => by rw [he, h] at hj; exact Bool.noConfusion hj
      simp [sget, hne, ih]
    · exact ih

theorem Dev.rd_regsReset_in (d : Dev) {lo hi a : Nat} (h : lo ≤ a ∧ a < hi) : (d.regsReset lo hi).rd a = regReset a :=
  sget_skeep_drop regReset (fun a => !(decide (lo ≤ a) && decide (a < hi))) d.regs (by simp [h.1, h.2])

theorem Dev.coreKept_regsReset (d : Dev) {lo hi : Nat} (h : 0x40000 ≤ lo) : d.CoreKept (d.regsReset lo hi) :=
  ⟨fun a ha => sget_skeep regReset (fun a => !(decide (lo ≤ a) && decide (a < hi))) d.regs (by simp; omega), rfl⟩

/-- The state of a tree beside its registers back at reset. -/
def Dev.treeCleared (d : Dev) (t : Nat) : Dev :=
  ((((d.setTree t {}).setRxT t {}).setActT t {}).setCage t {}).setLaneX (0x100C000 + 0x10000 * t) {}

/-- The presets and line options of terminals back at reset. -/
def Dev.termsCleared (d : Dev) (hs : List Nat) : Dev := hs.foldl (fun d h => (d.setPreset h {}).setLineOpt h {}) d

theorem Dev.rd_treeCleared (d : Dev) (t a : Nat) : (d.treeCleared t).rd a = d.rd a := rfl
theorem Dev.treeCleared_clk (d : Dev) (t : Nat) : (d.treeCleared t).clk = d.clk := rfl
theorem Dev.rd_termsCleared (d : Dev) (hs : List Nat) (a : Nat) : (d.termsCleared hs).rd a = d.rd a :=
  foldl_keeps (f := fun (d : Dev) h => (d.setPreset h {}).setLineOpt h {}) (Dev.rd · a) (fun _ _ => rfl) hs d
theorem Dev.termsCleared_clk (d : Dev) (hs : List Nat) : (d.termsCleared hs).clk = d.clk :=
  foldl_keeps (f := fun (d : Dev) h => (d.setPreset h {}).setLineOpt h {}) Dev.clk (fun _ _ => rfl) hs d

/-- A tree disabled and dark: what a block reset does before it returns the registers. -/
def Dev.treeStopped (d : Dev) (t : Nat) : Dev :=
  let d := if d.treeEn t then (d.put (rTREE_LINE_CTRL t) fTREE_LINE_CTRL_EN 0).treeDisable t else d
  if d.bit (rTREE_LINE_STATUS t) fTREE_LINE_STATUS_LASER_ON then d.emit .txdis t [1] else d

theorem Dev.coreKept_treeStopped (d : Dev) (t : Nat) : d.CoreKept (d.treeStopped t) := by
  unfold Dev.treeStopped
  dsimp only
  refine .extendThen (.extendThen (.refl d) ?_) ⟨fun _ _ => Dev.rd_emit .., Dev.emit_clk ..⟩
  exact .trans (d.coreKept_put _ _ (by unfold rTREE_LINE_CTRL; omega)) (Dev.coreKept_treeDisable ..)

theorem Dev.resetTree_eq (d : Dev) (t : Nat) : d.resetTree t =
    (((d.treeStopped t).regsReset (0x1000000 + 0x10000 * t) (0x1010000 + 0x10000 * t)).treeCleared t).termsCleared (d.termsOf t) := rfl

/-- A block reset returns a tree's registers to reset (R592) and leaves clocks, resets and boot alone. -/
theorem Dev.resetTree_registers (d : Dev) (t : Nat) : d.CoreKept (d.resetTree t) ∧
    ∀ a, 0x1000000 + 0x10000 * t ≤ a → a < 0x1010000 + 0x10000 * t → (d.resetTree t).rd a = regReset a := by
  rw [Dev.resetTree_eq]
  refine ⟨.trans (.trans (d.coreKept_treeStopped t) (Dev.coreKept_regsReset _ (by omega)))
    ⟨fun a _ => (Dev.rd_termsCleared ..).trans (Dev.rd_treeCleared ..), (Dev.termsCleared_clk ..).trans (Dev.treeCleared_clk ..)⟩,
    fun a h1 h2 => ?_⟩
  rw [Dev.rd_termsCleared, Dev.rd_treeCleared, Dev.rd_regsReset_in _ ⟨h1, h2⟩]

/-- A crossing enters PEER_RESET: it discards what it holds, and RST_BLOCK stands. -/
theorem Dev.crossDrop_shown (d : Dev) (c : Nat) : (d.crossDrop c).crossing c = 1 ∧ (d.crossDrop c).rd rRST_BLOCK = d.rd rRST_BLOCK := by
  unfold Dev.crossDrop
  dsimp only
  have hdrop : ((d.draw.2.bumpBy (rRST_XDROP c) (d.draw.1 % 1024)).setCrossing c 1).crossing c = 1 ∧
      ((d.draw.2.bumpBy (rRST_XDROP c) (d.draw.1 % 1024)).setCrossing c 1).rd rRST_BLOCK = d.rd rRST_BLOCK :=
    ⟨Dev.crossing_setCrossing_same .., (Dev.writes_bumpBy (P := (· = rRST_XDROP c)) d.draw.2 _ rfl).rd _
      (by unfold rRST_XDROP rRST_BLOCK; omega)⟩
  generalize (d.draw.2.bumpBy (rRST_XDROP c) (d.draw.1 % 1024)).setCrossing c 1 = e at hdrop ⊢
  obtain ⟨hcross, hrd⟩ := hdrop
  split
  · exact ⟨hcross, hrd⟩
  · exact ⟨hcross, hrd⟩

/-- A reset of a tree begins (R592, R593). -/
theorem Dev.blockReset_tree (d : Dev) (k : Nat) (mbx : Option Nat) : (d.blockReset 1 k mbx).bit rRST_BLOCK fRST_BLOCK_BUSY = true ∧
    (d.blockReset 1 k mbx).get rRST_BLOCK fRST_BLOCK_RESULT = d.get rRST_BLOCK fRST_BLOCK_RESULT ∧
    (d.blockReset 1 k mbx).crossing k = 1 ∧
    ∀ a, 0x1000000 + 0x10000 * k ≤ a → a < 0x1010000 + 0x10000 * k → (d.blockReset 1 k mbx).rd a = regReset a := by
  obtain ⟨b, hb, hbrd⟩ : ∃ b : Dev, d.blockReset 1 k mbx = ((b.put rRST_BLOCK fRST_BLOCK_BUSY 1).crossDrop k).resetTree k ∧
      b.rd rRST_BLOCK = d.rd rRST_BLOCK := ⟨{ d with clk := { d.clk with blk := some ⟨1, k, 0, mbx⟩ } }, rfl, rfl⟩
  rw [hb]
  obtain ⟨hcross, hdrd⟩ := (b.put rRST_BLOCK fRST_BLOCK_BUSY 1).crossDrop_shown k
  obtain ⟨hcore, hregs⟩ := Dev.resetTree_registers ((b.put rRST_BLOCK fRST_BLOCK_BUSY 1).crossDrop k) k
  have hrd := (hcore.rd rRST_BLOCK (by decide)).trans hdrd
  refine ⟨(Dev.bit_congr hrd _).trans (Dev.bit_put_one _ _ (by decide)),
    (Dev.get_congr hrd _).trans ((Dev.get_put_disjoint _ _ _ (by decide)).trans (Dev.get_congr hbrd _)), ?_, hregs⟩
  exact (congrArg (fun c : ClkState => sget noCrossing c.cross k) hcore.clk).trans hcross

section
variable {d : Dev} {v : Nat}

theorem Dev.writeRstBlock_busy (hgo : nbit v 30 = true) (h : d.clk.blk ≠ none) :
    d.writeRstBlock v = (d.blockAsked v).put rRST_BLOCK fRST_BLOCK_RESULT 1 := by
  have hclk := (d.writes_blockAsked v).clk
  have hsome : (d.blockAsked v).clk.blk.isSome = true := by rw [hclk]; exact Option.isSome_iff_ne_none.2 h
  unfold Dev.writeRstBlock
  rw [← Dev.blockAsked]
  simp only [hgo, hsome, Bool.not_true, Bool.false_eq_true, if_false, if_true]

theorem Dev.writeRstBlock_free (hgo : nbit v 30 = true) (h : d.clk.blk = none) : d.writeRstBlock v =
    if d.blockOk (fieldOf v fRST_BLOCK_KIND) (fieldOf v fRST_BLOCK_INDEX) then
      ((d.blockAsked v).put rRST_BLOCK fRST_BLOCK_RESULT 0).blockReset (fieldOf v fRST_BLOCK_KIND) (fieldOf v fRST_BLOCK_INDEX) none
    else (d.blockAsked v).put rRST_BLOCK fRST_BLOCK_RESULT 2 := by
  have hasked := d.writes_blockAsked v
  have hnone : (d.blockAsked v).clk.blk = none := by rw [hasked.clk]; exact h
  have hok := Dev.blockOk_congr hasked.part (fun a ha => hasked.rd a (by simpa using ha))
    (fieldOf v fRST_BLOCK_KIND) (fieldOf v fRST_BLOCK_INDEX)
  unfold Dev.writeRstBlock
  rw [← Dev.blockAsked]
  simp only [hgo, hnone, hok, Bool.not_true, Bool.false_eq_true, if_false, Option.isSome_none, Bool.not_eq_true']
  cases d.blockOk (fieldOf v fRST_BLOCK_KIND) (fieldOf v fRST_BLOCK_INDEX) <;> rfl

end

/-! The handshake at a crossing (R593). -/

theorem Dev.handshake_last {d : Dev} {c k : Nat} {b : BlkReset} (hcross : d.clk.cross = [(c, k)]) (hk : k ≠ 0) (hb : d.clk.blk = some b)
    (hm : b.mbx = none) : d.handshake c = Dev.put { d with clk := { d.clk with cross := [], blk := none } } rRST_BLOCK fRST_BLOCK_BUSY 0 := by
  have hnow : d.crossing c = k := by unfold Dev.crossing; rw [hcross]; simp [sget]
  have hback : d.setCrossing c 0 = { d with clk := { d.clk with cross := [] } } := by
    unfold Dev.setCrossing
    rw [hcross]
    simp [sset, noCrossing, sdel]
  have hblk : Dev.clk { d with clk := { d.clk with cross := [] } } = { d.clk with cross := [] } := rfl
  unfold Dev.handshake Dev.blockDone
  rw [if_neg (by rw [hnow]; exact hk), hback]
  simp only [hb, hm, List.isEmpty_nil, Bool.not_true, Bool.false_eq_true, if_false]

/-! The commands (R604, R605). -/

theorem length_registers (d : Dev) (l : List Nat) : (l.flatMap (fun a => leB 4 (d.rdN a))).length = 4 * l.length := by
  induction l with
  | nil => rfl
  | cons a l ih => rw [List.flatMap_cons, List.length_append, length_leB, ih, List.length_cons]; omega

end Sys2Proof.Machine

/-! The obligation on power and resets (20_clocks_boot.md R588-R593, R601, R604, R605; 22_electrical.md R634). -/

namespace Sys2Proof.Machine

/-- A fall of the supply of a powered device, and of one that is not. -/
theorem powerOff_ends (s : State) {i : Instr} (hi : exec i s = s.runAny (fun d => if d.powered then d.powerOff else d))
    (hr : s.dev.replies = []) (hw : s.dev.wipes = []) :
    (s.dev.powered = true → ∃ t, exec i s = .next t ∧ (∀ a, t.dev.rd a = regReset a) ∧ t.dev.clk.sup = .off ∧ t.dev.part = s.dev.part) ∧
    (s.dev.powered = false → ∃ t, exec i s = .next t ∧ s.OnlyChanges t [] s.dev) := by
  rw [hi]
  refine ⟨fun hp => ⟨_, s.runAny_after (if_pos hp), fun a => ?_, ?_, ?_⟩, fun hp => State.runAny_nothing (if_neg (by
    rw [Bool.not_eq_true]; exact hp)) hr hw⟩
  · rw [State.after_rd]; rfl
  · rw [State.after_clk]; rfl
  · rw [State.after_part]; rfl

theorem pwrGoodRise_begins (s : State) (hr : s.dev.replies = []) (hw : s.dev.wipes = []) :
    (s.dev.powered = true → ∃ t, exec .pwrGoodRise s = .next t ∧ s.OnlyChanges t [] s.dev) ∧
    (s.dev.powered = false → ∃ t, exec .pwrGoodRise s = .next t ∧ (∀ a, t.dev.rd a = regReset a) ∧ t.dev.clk.sup = .ringStart ∧
      t.dev.part = s.dev.part) := by
  rw [exec_pwrGoodRise]
  refine ⟨fun hp => State.runAny_nothing (if_pos hp) hr hw, fun hp => ⟨_, s.runAny_after (if_neg (by
    rw [Bool.not_eq_true]; exact hp)), fun a => ?_, ?_, ?_⟩⟩
  · rw [State.after_rd]; rfl
  · rw [State.after_clk]; rfl
  · rw [State.after_part]; rfl

theorem resetL_resets (s : State) (hr : s.dev.replies = []) (hw : s.dev.wipes = []) :
    (s.dev.clk.sup = .failed ∨ s.dev.clk.sup = .off → ∃ t, exec .resetL s = .next t ∧ s.OnlyChanges t [] s.dev) ∧
    (s.dev.clk.sup = .run → ∃ t, exec .resetL s = .next t ∧ t.dev.clk.sup = .run ∧ t.dev.get rRST_CAUSE fRST_CAUSE_KIND = 1 ∧
      t.dev.bootState = 1 ∧ (∀ a, 0x1000000 ≤ a → a < 0x1300000 → t.dev.rd a = regReset a)) := by
  rw [exec_resetL]
  refine ⟨fun h => State.runAny_nothing (if_pos ?_) hr hw, fun h => ⟨_, s.runAny_after (if_neg ?_), ?_⟩⟩
  · exact h.imp id fun hoff => by rw [Dev.powered, show s.start.clk.sup = .off from hoff]; rfl
  · rw [Dev.powered, show s.start.clk.sup = .run from h]
    decide
  · simp only [State.after_clk, State.after_get, State.after_bootState, State.after_rd]
    exact Dev.pinReset_run h

/-- A warm reset by a command or a write: its cause, and the trees at reset. -/
theorem State.warmReset_shown (s : State) {f : Dev → Dev} {d : Dev} {source : Nat} (hs : s.Runs) (hsource : source < 8)
    (h : f s.start = d.warmReset source) : ∃ t, s.run f = .next t ∧ t.dev.get rRST_CAUSE fRST_CAUSE_KIND = 2 ∧
      t.dev.get rRST_CAUSE fRST_CAUSE_SOURCE = source ∧
      t.dev.clk = { sup := d.clk.sup, attempts := d.clk.attempts, trying := d.clk.trying } ∧
      (∀ a, 0x1000000 ≤ a → a < 0x1300000 → t.dev.rd a = regReset a) := by
  obtain ⟨hkind, hsrc⟩ := d.warmReset_cause hsource
  refine ⟨_, State.run_after hs.1 h, ?_⟩
  simp only [State.after_clk, State.after_get, State.after_rd]
  exact ⟨hkind, hsrc, d.warmReset_clk source, fun a h1 h2 => d.rd_warmReset_tree source h1 h2⟩

theorem warmReset_needs_key (s : State) (val : Word) (hs : s.Runs) :
    (fieldOf val.toNat fRST_CTRL_KEY ≠ 0x5A → ∃ t, exec (.warmReset val) s = .next t ∧ s.OnlyChanges t [] s.dev) ∧
    (fieldOf val.toNat fRST_CTRL_KEY = 0x5A → nbit val.toNat 0 = true → ∃ t, exec (.warmReset val) s = .next t ∧
      t.dev.get rRST_CAUSE fRST_CAUSE_KIND = 2 ∧ t.dev.get rRST_CAUSE fRST_CAUSE_SOURCE = 0 ∧ t.dev.clk.sup = s.dev.clk.sup ∧
      (∀ a, 0x1000000 ≤ a → a < 0x1300000 → t.dev.rd a = regReset a)) := by
  rw [exec_warmReset]
  refine ⟨fun h => State.run_nothing hs (if_pos h), fun h hbit => ?_⟩
  obtain ⟨d, hd, hclk⟩ : ∃ d : Dev, s.start.writeRstCtrl val.toNat = d.warmReset 0 ∧ d.clk = s.dev.clk := by
    refine ⟨if nbit val.toNat 1 then s.start.put rBOOT_CTRL fBOOT_CTRL_FULL_NEXT 1 else s.start, ?_, ?_⟩
    · unfold Dev.writeRstCtrl
      rw [if_neg (not_not.2 h)]
      exact if_pos hbit
    · split
      · exact Dev.put_clk ..
      · rfl
  obtain ⟨t, he, hkind, hsrc, hsup, hregs⟩ := s.warmReset_shown (f := fun d => d.writeRstCtrl val.toNat) hs (by decide) hd
  exact ⟨t, he, hkind, hsrc, by rw [hsup, hclk], hregs⟩

/-- A block reset that is refused shows why, and changes nothing else. -/
theorem blockReset_refused (s : State) (v : Nat) {r : Nat} (hs : s.Runs) (hr : r < 8)
    (h : s.start.writeRstBlock v = (s.start.blockAsked v).put rRST_BLOCK fRST_BLOCK_RESULT r) :
    ∃ t, s.run (fun d => d.writeRstBlock v) = .next t ∧ t.dev.get rRST_BLOCK fRST_BLOCK_RESULT = r ∧ s.OnlyChanges t [rRST_BLOCK] s.dev := by
  obtain ⟨e, he, hget, hwrites⟩ : ∃ e : Dev, s.start.writeRstBlock v = e ∧ e.get rRST_BLOCK fRST_BLOCK_RESULT = r ∧
      Dev.Writes (· ∈ [rRST_BLOCK]) s.start e :=
    ⟨_, h, Dev.get_put_eq _ _ ⟨by decide, by decide, hr⟩, (s.start.writes_blockAsked v).trans (Dev.writes_put _ _ _ (by decide))⟩
  obtain ⟨hrun, honly⟩ := State.run_writes_regs hs (f := fun d => d.writeRstBlock v) he hwrites
  exact ⟨_, hrun, hget, honly⟩

theorem blockReset_acts (s : State) (val : Word) (hs : s.Runs) (hgo : nbit val.toNat 30 = true) :
    (s.dev.clk.blk ≠ none → ∃ t, exec (.blockReset val) s = .next t ∧ t.dev.get rRST_BLOCK fRST_BLOCK_RESULT = 1 ∧
      s.OnlyChanges t [rRST_BLOCK] s.dev) ∧
    (s.dev.clk.blk = none → s.dev.blockOk (fieldOf val.toNat fRST_BLOCK_KIND) (fieldOf val.toNat fRST_BLOCK_INDEX) = false →
      ∃ t, exec (.blockReset val) s = .next t ∧ t.dev.get rRST_BLOCK fRST_BLOCK_RESULT = 2 ∧ s.OnlyChanges t [rRST_BLOCK] s.dev) ∧
    (∀ k : Fin 48, s.dev.clk.blk = none → fieldOf val.toNat fRST_BLOCK_KIND = 1 → fieldOf val.toNat fRST_BLOCK_INDEX = k.val →
      s.dev.treeOk k.val = true → ∃ t, exec (.blockReset val) s = .next t ∧ t.dev.bit rRST_BLOCK fRST_BLOCK_BUSY = true ∧
        t.dev.get rRST_BLOCK fRST_BLOCK_RESULT = 0 ∧ t.dev.crossing k.val = 1 ∧
        (∀ a, 0x1000000 + 0x10000 * k.val ≤ a → a < 0x1010000 + 0x10000 * k.val → t.dev.rd a = regReset a)) := by
  rw [exec_blockReset]
  refine ⟨fun hbusy => ?_, fun hnone hbad => ?_, fun k hnone hkind hidx hok => ?_⟩
  · exact blockReset_refused s val.toNat hs (by decide) (Dev.writeRstBlock_busy hgo hbusy)
  · have hbad' : s.start.blockOk (fieldOf val.toNat fRST_BLOCK_KIND) (fieldOf val.toNat fRST_BLOCK_INDEX) = false :=
      (Dev.blockOk_congr rfl (fun _ _ => rfl) _ _).trans hbad
    refine blockReset_refused s val.toNat (r := 2) hs (by decide) ?_
    rw [Dev.writeRstBlock_free (d := s.start) hgo hnone, hbad', if_neg Bool.false_ne_true]
  · have hok' : s.start.blockOk 1 k.val = true := by
      have hpart : s.start.treeOk k.val = true := hok
      unfold Dev.blockOk
      rw [hpart]
      rfl
    have hdo : s.start.writeRstBlock val.toNat =
        ((s.start.blockAsked val.toNat).put rRST_BLOCK fRST_BLOCK_RESULT 0).blockReset 1 k.val none := by
      rw [Dev.writeRstBlock_free (d := s.start) hgo hnone, hkind, hidx, if_pos hok']
    obtain ⟨hbusy, hres, hcross, hregs⟩ :=
      ((s.start.blockAsked val.toNat).put rRST_BLOCK fRST_BLOCK_RESULT 0).blockReset_tree k.val none
    refine ⟨_, State.run_after hs.1 hdo, ?_⟩
    simp only [State.after_bit, State.after_get, State.after_crossing, State.after_rd]
    exact ⟨hbusy, hres.trans (Dev.get_put_eq _ _ (by decide)), hcross, hregs⟩

theorem resetHandshakeAck_ends (s : State) (c : Fin 165) (hs : s.Runs) :
    (s.dev.crossing c.val = 0 → ∃ t, exec (.resetHandshakeAck c) s = .next t ∧ s.OnlyChanges t [] s.dev) ∧
    (∀ k b, s.dev.clk.cross = [(c.val, k)] → k ≠ 0 → s.dev.clk.blk = some b → b.mbx = none →
      ∃ t, exec (.resetHandshakeAck c) s = .next t ∧ t.dev.bit rRST_BLOCK fRST_BLOCK_BUSY = false ∧
        s.OnlyChanges t [rRST_BLOCK] { s.dev with clk := { s.dev.clk with cross := [], blk := none } }) := by
  rw [exec_resetHandshakeAck]
  refine ⟨fun h => State.run_nothing hs (if_pos h), fun k b hcross hk hb hm => ?_⟩
  obtain ⟨he, honly⟩ := State.run_writes hs (f := fun d => d.handshake c.val) (o := [])
    (d := { s.dev with clk := { s.dev.clk with cross := [], blk := none } }) ⟨rfl, rfl, rfl⟩
    (Dev.handshake_last (d := s.start) hcross hk hb hm) (Dev.writes_put (P := (· ∈ [rRST_BLOCK])) _ _ _ (by decide))
  exact ⟨_, he, Dev.bit_put_zero _ _ (by decide), honly⟩

/-- DIAG_CLOCK without its expert form answers the five registers (R604). -/
theorem diagClock_answers {s : State} {m : Fin 64} {c : Cmd} (h : s.Ready m 0x0C06 c) (hown : c.isOwner = true) (h0 : c.u8 0 = 0)
    (hends : c.endsAt 1 = true) : ∃ t, exec (.diagClock m) s = .next t ∧ s.OnlyAnswers t m ∧
      t.Done m 0 ([rCLK_STATUS, rCLK_ERR, rCLK_VOID, rCLK_RING_PERIOD, rRST_CAUSE].flatMap (fun a => leB 4 (s.dev.rdN a))) := by
  have hbasic : c.expert 0 = false := by rw [Cmd.expert, h0]; rfl
  have hflags : c.only 0 0x80 = true := by rw [Cmd.only, h0]; rfl
  obtain ⟨t, he, hdone, honly⟩ := State.run_query (r := 0)
    (resp := [rCLK_STATUS, rCLK_ERR, rCLK_VOID, rCLK_RING_PERIOD, rRST_CAUSE].flatMap (fun a => leB 4 (s.dev.rdN a))) h
    (body := fun c d =>
      let v := c.u32 4
      let write := c.expert 0 && nbit (c.u8 8) 0
      c.checks d
        [c.mustOwn, inForm (c.only 0 0x80 && (if c.expert 0 then c.zero 1 3 && c.only 8 1 && c.block 9 else c.endsAt 1)),
         inForm (!(write && badValue rCLK_CTRL v))]
        (fun d =>
          let d := d.when write (fun d => d.access rCLK_CTRL v)
          c.ok d ([rCLK_STATUS, rCLK_ERR, rCLK_VOID, rCLK_RING_PERIOD, rRST_CAUSE].flatMap (fun a => leB 4 (d.rdN a)))))
    ((Cmd.checks_pass c _ (by simp [Cmd.mustOwn, inForm, hown, hflags, hbasic, hends]) _).trans (by
      simp only [hbasic, Bool.false_and, Dev.when, Cmd.ok, h.mbx_eq]
      rfl)) (by decide) (by rw [length_registers]; decide)
  exact ⟨t, he, honly, hdone⟩

/-- A commanded warm reset is due (R605). -/
def Dev.warmResetDue (d : Dev) : Dev := { d with clk := { d.clk with warmDue := true } }

/-- What DIAG_RESET asks (R605). -/
def Cmd.resetAsked (c : Cmd) (d : Dev) : Dev :=
  c.checks d
    [c.mustOwn, inForm (decide (c.u8 0 < 2) && c.only 3 0x81 && c.endsAt 4 && (!(c.u8 0 == 1) || d.blockOk (c.u8 1) (c.u8 2))),
     (!((c.u8 0 == 1) && d.clk.blk.isSome), resBusy)]
    (fun d =>
      if (c.u8 0 == 1) = true then (c.wait d []).blockReset (c.u8 1) (c.u8 2) (some c.mbx)
      else ((d.when (nbit (c.u8 3) 0) (fun d => d.put rBOOT_CTRL fBOOT_CTRL_FULL_NEXT 1)).finish c.mbx resOk []).warmResetDue)

theorem Cmd.resetAsked_warm {c : Cmd} (d : Dev) (hown : c.isOwner = true) (h0 : c.u8 0 = 0) (h3 : c.u8 3 = 0) (hends : c.endsAt 4 = true) :
    c.resetAsked d = (d.finish c.mbx resOk []).warmResetDue := by
  have hflags : c.only 3 0x81 = true := by rw [Cmd.only, h3]; rfl
  have hbit : nbit 0 0 = false := rfl
  unfold Cmd.resetAsked
  rw [Cmd.checks_pass c _ (by simp [Cmd.mustOwn, inForm, hown, hflags, hends, h0])]
  simp only [h0, h3, hbit, Dev.when, Nat.reduceBEq, Bool.false_eq_true, if_false]

theorem exec_diagReset (m : Fin 64) (s : State) :
    exec (.diagReset m) s = s.run (fun d => d.command m.val 0x0C07 (fun c d => c.resetAsked d)) := rfl

theorem Dev.warmResetDue_shown (d : Dev) : d.warmResetDue.replies = d.replies ∧ (∀ a, d.warmResetDue.rd a = d.rd a) ∧
    d.warmResetDue.clk = { d.clk with warmDue := true } := ⟨rfl, fun _ => rfl, rfl⟩

theorem exec_diagReset_warm {s : State} {m : Fin 64} {c : Cmd} (h : s.Ready m 0x0C07 c) (hown : c.isOwner = true) (h0 : c.u8 0 = 0)
    (h3 : c.u8 3 = 0) (hends : c.endsAt 4 = true) :
    exec (.diagReset m) s = .next (s.after (s.start.finish m.val resOk []).warmResetDue) := by
  rw [exec_diagReset, State.run_command h, Cmd.resetAsked_warm _ hown h0 h3 hends, h.mbx_eq]
  rfl

/-- DIAG_RESET of KIND 0 answers, and the warm reset is due (R605). -/
theorem diagReset_answers {s : State} {m : Fin 64} {c : Cmd} (h : s.Ready m 0x0C07 c) (hown : c.isOwner = true) (h0 : c.u8 0 = 0)
    (h3 : c.u8 3 = 0) (hends : c.endsAt 4 = true) :
    ∃ t, exec (.diagReset m) s = .next t ∧ t.Done m 0 [] ∧ t.dev.clk = { s.dev.clk with warmDue := true } := by
  have hreplies := s.start.finish_replies m.val resOk []
  have hstatus := Dev.finish_status s.start (resp := []) m.isLt (by decide : resOk < 65536) (by decide)
  have hclk : (s.start.finish m.val resOk []).clk = s.dev.clk := Dev.finish_clk ..
  have hrun := exec_diagReset_warm h hown h0 h3 hends
  generalize s.start.finish m.val resOk [] = e at hrun hreplies hstatus hclk
  obtain ⟨hrep, hrd, hdue⟩ := e.warmResetDue_shown
  obtain ⟨hstate, hres, hlen⟩ := hstatus
  refine ⟨_, hrun, done_deliver_last (hrep.trans hreplies) (by decide) ⟨(Dev.get_congr (hrd _) _).trans hstate,
    (Dev.get_congr (hrd _) _).trans hres, (Dev.get_congr (hrd _) _).trans hlen⟩, ?_⟩
  rw [State.after_clk, hdue, hclk]

theorem commandedWarmReset_resets (s : State) (hs : s.Runs) :
    (s.dev.clk.warmDue = false → ∃ t, exec .commandedWarmReset s = .next t ∧ s.OnlyChanges t [] s.dev) ∧
    (s.dev.clk.warmDue = true → ∃ t, exec .commandedWarmReset s = .next t ∧ t.dev.get rRST_CAUSE fRST_CAUSE_KIND = 2 ∧
      t.dev.get rRST_CAUSE fRST_CAUSE_SOURCE = 1 ∧ t.dev.clk.warmDue = false) := by
  rw [exec_commandedWarmReset]
  refine ⟨fun h => State.run_nothing hs (if_neg fun hd => Bool.false_ne_true (h.symm.trans hd)), fun h => ?_⟩
  obtain ⟨t, he, hkind, hsrc, hclk, -⟩ := s.warmReset_shown (f := fun d => if d.clk.warmDue then d.warmReset 1 else d) hs (by decide) (if_pos h)
  exact ⟨t, he, hkind, hsrc, by rw [hclk]⟩

/-- Settles O46: each reset from its shape, the commands on them from their answers. -/
theorem resetsReturnWhatTheyName : Obligations.ResetsReturnWhatTheyName := by
  unfold Obligations.ResetsReturnWhatTheyName
  refine ⟨fun s hr hw => ?_, fun s val hs => warmReset_needs_key s val hs, fun s val hs hgo => blockReset_acts s val hs hgo,
    fun s c hs => resetHandshakeAck_ends s c hs, fun s m c h hown h0 hends => diagClock_answers h hown h0 hends,
    fun s m c h hown h0 h3 hends => diagReset_answers h hown h0 h3 hends, fun s hs => commandedWarmReset_resets s hs⟩
  obtain ⟨hon, hoff⟩ := pwrGoodRise_begins s hr hw
  obtain ⟨hignored, hpin⟩ := resetL_resets s hr hw
  refine ⟨hon, hoff, fun i hi => ?_, hignored, hpin⟩
  rcases List.mem_cons.1 hi with rfl | hi
  · exact powerOff_ends s (exec_pwrGoodFall s) hr hw
  · rw [List.mem_singleton.1 hi]
    exact powerOff_ends s (exec_supplyUndervoltage s) hr hw

end Sys2Proof.Machine

/-! Fields that software writes, mailboxes and their assignment, and the DMA rings (19_gellen.md R564-R573). -/

namespace Sys2Proof.Machine

/-! What a write of software stores (00_scope.md R9). -/

/-- Software may write every bit of a field of a register. -/
def softField (a : Nat) (f : Fld) : Bool :=
  (regFind a).any (fun x => (List.range (f.hi - f.lo + 1)).all (fun i => nbit x.2.2.rw (f.lo + i)))

/-- A field that software may write holds, after a write by the access codes, what was written. -/
theorem Dev.get_access_rw (d : Dev) {a : Nat} (v : Nat) {f : Fld} (hf : f.lo ≤ f.hi ∧ f.hi < 32) (hrw : softField a f = true) :
    (d.access a v).get a f = fieldOf v f := by
  obtain ⟨⟨b, k, r⟩, hrow, hr⟩ := (Option.any_eq_true ..).mp hrw
  have hstored : (d.access a v).rdN a = accessWord r (d.rdN a) v % 2 ^ 32 := by
    rw [Dev.rdN_access_same]
    simp only [Dev.stored, hrow]
  refine Nat.eq_of_testBit_eq fun i => ?_
  rw [Dev.get, hstored, testBit_fieldOf, testBit_fieldOf, Nat.testBit_mod_two_pow]
  by_cases hi : i < f.hi - f.lo + 1
  · have hbit : r.rw.testBit (f.lo + i) = true :=
      (nbit_eq_testBit ..).symm.trans (List.all_eq_true.1 hr i (List.mem_range.2 hi))
    have h32 : f.lo + i < 32 := by omega
    simp only [hi, h32, decide_true, Bool.true_and, testBit_accessWord, hbit, Bool.not_true, Bool.and_false, Bool.false_and,
      Bool.false_or, Bool.and_true]
    cases v.testBit (f.lo + i) <;> rfl
  · simp [hi]

theorem Dev.Writes.withGlk {P : Nat → Prop} {d e : Dev} (h : d.Writes P e) (g : GlkState) :
    Dev.Writes P { d with glk := g } { e with glk := g } := by
  refine ⟨h.rd, ?_⟩
  have hrest := h.rest
  generalize e.regs = r, e.out = o at hrest ⊢
  rw [hrest]

/-! The doorbell (R565-R567). -/

/-- The mailbox's registers once a command is taken. -/
def Dev.doorbellRegs (d : Dev) (m v : Nat) : Dev :=
  ((((d.access (rMBX_DOORBELL m) v).put (rMBX_DOORBELL m) fMBX_DOORBELL_GO 0).put (rMBX_STATUS m) fMBX_STATUS_STATE 1).put
    (rMBX_STATUS m) fMBX_STATUS_RESP_LEN 0).put (rMBX_STATUS m) fMBX_STATUS_RESULT 0

/-- A command joins those taken. -/
def Dev.withCmd (d : Dev) (c : Cmd) : Dev := { d with glk := { d.glk with cmds := d.glk.cmds ++ [c] } }

theorem Dev.rd_withCmd (d : Dev) (c : Cmd) (a : Nat) : (d.withCmd c).rd a = d.rd a := rfl
theorem Dev.withCmd_clk (d : Dev) (c : Cmd) : (d.withCmd c).clk = d.clk := rfl

/-- The command of a doorbell. -/
def Dev.doorbellCmd (d : Dev) (m v : Nat) (area : List Byte) : Cmd :=
  ⟨m, fieldOf v fMBX_DOORBELL_CODE, area.take (fieldOf v fMBX_DOORBELL_REQ_LEN), d.mbxTenant m, false, []⟩

section
variable {d : Dev} {m v : Nat} {area : List Byte}

theorem Dev.writes_doorbellRegs (d : Dev) (m v : Nat) : Dev.Writes (· ∈ [rMBX_STATUS m, rMBX_DOORBELL m]) d (d.doorbellRegs m v) :=
  have hdb : rMBX_DOORBELL m ∈ [rMBX_STATUS m, rMBX_DOORBELL m] := .tail _ (.head _)
  have hst : rMBX_STATUS m ∈ [rMBX_STATUS m, rMBX_DOORBELL m] := .head _
  ((((d.writes_access v hdb).trans (Dev.writes_put _ _ _ hdb)).trans (Dev.writes_put _ _ _ hst)).trans (Dev.writes_put _ _ _ hst)).trans
    (Dev.writes_put _ _ _ hst)

theorem Dev.mbxTenant_congr {d e : Dev} (h : e.rd (rGLK_MBX_OWNER (m / 4)) = d.rd (rGLK_MBX_OWNER (m / 4))) :
    e.mbxTenant m = d.mbxTenant m := by
  rw [Dev.mbxTenant, Dev.rdN_congr h, ← Dev.mbxTenant]

theorem Dev.mbxReady_congr {d e : Dev} (h : e.rd rBOOT_STATUS = d.rd rBOOT_STATUS) (hclk : e.clk = d.clk) : e.mbxReady = d.mbxReady := by
  rw [Dev.mbxReady, Dev.get_congr h, hclk, ← Dev.mbxReady]

/-- A doorbell of a mailbox that is not BUSY takes the command. -/
theorem Dev.doorbell_taken (hm : m < 64) (hgo : nbit v 31 = true) (hfree : d.get (rMBX_STATUS m) fMBX_STATUS_STATE ≠ 1)
    (hready : d.mbxReady = true) :
    (basicLen (fieldOf v fMBX_DOORBELL_CODE) (area.take (fieldOf v fMBX_DOORBELL_REQ_LEN)) = none → d.doorbell m v area =
      ((d.doorbellRegs m v).withCmd (d.doorbellCmd m v area)).finish m resBadParam []) ∧
    (∀ n, basicLen (fieldOf v fMBX_DOORBELL_CODE) (area.take (fieldOf v fMBX_DOORBELL_REQ_LEN)) = some n →
      n ≤ fieldOf v fMBX_DOORBELL_REQ_LEN → fieldOf v fMBX_DOORBELL_REQ_LEN ≤ 1024 →
      d.doorbell m v area = (d.doorbellRegs m v).withCmd (d.doorbellCmd m v area)) := by
  have hregs := d.writes_doorbellRegs m v
  have htenant : (d.doorbellRegs m v).mbxTenant m = d.mbxTenant m := Dev.mbxTenant_congr (hregs.rd _ (by
    simp only [List.mem_cons, List.not_mem_nil, or_false, rGLK_MBX_OWNER, rMBX_STATUS, rMBX_DOORBELL]; omega))
  have hnow : ((d.doorbellRegs m v).withCmd (d.doorbellCmd m v area)).mbxReady = true := by
    have hboot := hregs.rd rBOOT_STATUS (by
      simp only [List.mem_cons, List.not_mem_nil, or_false, rBOOT_STATUS, rMBX_STATUS, rMBX_DOORBELL]; omega)
    exact (Dev.mbxReady_congr (d := d) ((Dev.rd_withCmd ..).trans hboot) ((Dev.withCmd_clk ..).trans hregs.clk)).trans hready
  have hgo' : (!nbit v 31) = false := by rw [hgo]; rfl
  unfold Dev.doorbell
  dsimp only
  rw [hgo', if_neg Bool.false_ne_true, if_neg hfree, ← Dev.doorbellRegs, htenant, ← Dev.doorbellCmd, ← Dev.withCmd, hnow, if_neg (by decide)]
  constructor
  · intro h
    rw [Dev.doorbellCmd, h]
  · intro n h hn hl
    rw [Dev.doorbellCmd, h]
    exact if_neg (by omega)

end

/-! Assignment (R568). -/

/-- The byte of GLK_MBX_OWNER that assigns a mailbox. -/
def ownerFld (m : Nat) : Fld := ⟨8 * (m % 4) + 7, 8 * (m % 4)⟩

/-- The tenant that an assignment byte names for a mailbox. -/
def tenantOf (m b : Nat) : Option Nat := if 8 ≤ m ∧ nbit b 7 then some (b % 16) else none

theorem Dev.mbxTenant_eq (d : Dev) (m : Nat) : d.mbxTenant m = tenantOf m (d.get (rGLK_MBX_OWNER (m / 4)) (ownerFld m)) := by
  have hwidth : 8 * (m % 4) + 7 - 8 * (m % 4) + 1 = 8 := by omega
  rw [Dev.get, fieldOf, ownerFld, hwidth]
  rfl

/-- An assignment byte with its unused bits 0 names the same tenant. -/
theorem tenantOf_used (m : Nat) {b : Nat} (h : b < 256) : tenantOf m (b / 128 * 128 + b % 16) = tenantOf m b := by
  have hbit : nbit (b / 128 * 128 + b % 16) 7 = nbit b 7 := by
    simp only [nbit, beq_eq_beq]
    omega
  have hlow : (b / 128 * 128 + b % 16) % 16 = b % 16 := by omega
  unfold tenantOf
  rw [hbit, hlow]

/-- The registers and mailboxes an assignment touches: those of its mailbox alone. -/
structure Dev.Assigns (m : Nat) (d e : Dev) : Prop where
  owner : ∀ k, k ≠ m → e.mbxTenant k = d.mbxTenant k
  free : ∀ k, k ≠ m → e.mbxFree k = d.mbxFree k
  replies : e.replies = d.replies
  wipes : ∀ k ∈ d.wipes, k ∈ e.wipes

theorem Dev.Assigns.refl (m : Nat) (d : Dev) : Dev.Assigns m d d := ⟨fun _ _ => rfl, fun _ _ => rfl, rfl, fun _ h => h⟩

theorem Dev.Assigns.trans {m : Nat} {d e f : Dev} (h : Dev.Assigns m d e) (k : Dev.Assigns m e f) : Dev.Assigns m d f :=
  ⟨fun j hj => (k.owner j hj).trans (h.owner j hj), fun j hj => (k.free j hj).trans (h.free j hj), k.replies.trans h.replies,
    fun j hj => k.wipes j (h.wipes j hj)⟩

/-- An assignment byte written. -/
def Dev.ownerPut (d : Dev) (m b : Nat) : Dev := d.put (rGLK_MBX_OWNER (m / 4)) (ownerFld m) b

theorem Dev.assigns_ownerPut (d : Dev) {m : Nat} (hm : m < 64) (b : Nat) : Dev.Assigns m d (d.ownerPut m b) where
  owner k hk := by
    rw [Dev.mbxTenant_eq, Dev.mbxTenant_eq, Dev.ownerPut]
    by_cases hreg : k / 4 = m / 4
    · rw [hreg, Dev.get_put_disjoint _ _ _ (by unfold Fld.disjoint ownerFld; dsimp only; omega)]
    · rw [Dev.get_congr (Dev.rd_put_ne _ _ _ (by unfold rGLK_MBX_OWNER; omega))]
  free k _ := by
    rw [Dev.mbxFree, Dev.ownerPut, Dev.get_congr (Dev.rd_put_ne _ _ _ (by unfold rGLK_MBX_OWNER rMBX_STATUS; omega)), ← Dev.mbxFree]
  replies := Dev.put_replies ..
  wipes _ h := by rw [Dev.ownerPut, Dev.put_wipes]; exact h

/-- A mailbox whose tenant has changed: IDLE, and its areas to be zeroed. -/
def Dev.mbxCleared (d : Dev) (m : Nat) : Dev :=
  let d := (d.put (rMBX_STATUS m) fMBX_STATUS_STATE 0).put (rMBX_STATUS m) fMBX_STATUS_LOST 0
  let d := d.put (rMBX_CTRL m) fMBX_CTRL_DONE_MSG 0
  let d := d.put (rMBX_INFO m) fMBX_INFO_ASSIGNED (b2n (d.mbxTenant m).isSome)
  let d := d.put (rMBX_INFO m) fMBX_INFO_CALLER ((d.mbxTenant m).getD 0x1F)
  { d with wipes := d.wipes ++ [m] }

/-- A mailbox cleared leaves every assignment alone, and is zeroed. -/
theorem Dev.mbxCleared_shown (d : Dev) {m : Nat} (hm : m < 64) : Dev.Assigns m d (d.mbxCleared m) ∧
    (d.mbxCleared m).mbxTenant m = d.mbxTenant m ∧ m ∈ (d.mbxCleared m).wipes := by
  obtain ⟨e, he, hw⟩ : ∃ e : Dev, d.mbxCleared m = { e with wipes := e.wipes ++ [m] } ∧
      Dev.Writes (· ∈ [rMBX_STATUS m, rMBX_CTRL m, rMBX_INFO m]) d e := by
    refine ⟨_, rfl, ?_⟩
    exact ((((Dev.writes_put _ _ _ (.head _)).trans (Dev.writes_put _ _ _ (.head _))).trans (Dev.writes_put _ _ _ (.tail _ (.head _)))).trans
      (Dev.writes_put _ _ _ (.tail _ (.tail _ (.head _))))).trans (Dev.writes_put _ _ _ (.tail _ (.tail _ (.head _))))
  have hrd : ∀ a, Dev.rd { e with wipes := e.wipes ++ [m] } a = e.rd a := fun _ => rfl
  have howner : ∀ k, Dev.mbxTenant { e with wipes := e.wipes ++ [m] } k = d.mbxTenant k := fun k =>
    Dev.mbxTenant_congr ((hrd _).trans (hw.rd _ (by
      simp only [List.mem_cons, List.not_mem_nil, or_false, rGLK_MBX_OWNER, rMBX_STATUS, rMBX_CTRL, rMBX_INFO]; omega)))
  rw [he]
  refine ⟨⟨fun k _ => howner k, fun k hk => ?_, hw.replies, fun k hk => ?_⟩, howner m, List.mem_append_right _ (List.mem_singleton_self m)⟩
  · rw [Dev.mbxFree, Dev.get_congr ((hrd _).trans (hw.rd _ (by
      simp only [List.mem_cons, List.not_mem_nil, or_false, rMBX_STATUS, rMBX_CTRL, rMBX_INFO]; omega))), ← Dev.mbxFree]
  · exact List.mem_append_left _ (hw.wipes ▸ hk)

theorem Dev.assignMbx_eq (d : Dev) (m byte : Nat) : d.assignMbx m byte =
    if m < 8 ∨ !(d.mbxFree m) ∨ d.get (rGLK_MBX_OWNER (m / 4)) (ownerFld m) = byte / 128 * 128 + byte % 16 then d
    else if (d.ownerPut m (byte / 128 * 128 + byte % 16)).mbxTenant m = d.mbxTenant m then d.ownerPut m (byte / 128 * 128 + byte % 16)
    else (d.ownerPut m (byte / 128 * 128 + byte % 16)).mbxCleared m := rfl

/-- A mailbox above 7 that runs no command is assigned as its byte says; where its tenant changes its areas are to be zeroed. -/
theorem Dev.assignMbx_shown (d : Dev) {m byte : Nat} (hm : 8 ≤ m ∧ m < 64) (hb : byte < 256) (hfree : d.mbxFree m = true) :
    Dev.Assigns m d (d.assignMbx m byte) ∧ (d.assignMbx m byte).mbxTenant m = tenantOf m byte ∧
    ((d.assignMbx m byte).mbxTenant m ≠ d.mbxTenant m → m ∈ (d.assignMbx m byte).wipes) := by
  have hput : (d.ownerPut m (byte / 128 * 128 + byte % 16)).mbxTenant m = tenantOf m byte := by
    have hwidth : 8 * (m % 4) + 7 - 8 * (m % 4) + 1 = 8 := by omega
    rw [Dev.mbxTenant_eq, Dev.ownerPut, Dev.get_put_eq _ _ ⟨by unfold ownerFld; dsimp only; omega, by unfold ownerFld; dsimp only; omega, by
      unfold ownerFld; dsimp only; rw [hwidth]; omega⟩, tenantOf_used m hb]
  have hframe := d.assigns_ownerPut hm.2 (byte / 128 * 128 + byte % 16)
  rw [Dev.assignMbx_eq]
  split
  · next h =>
    have hsame : d.get (rGLK_MBX_OWNER (m / 4)) (ownerFld m) = byte / 128 * 128 + byte % 16 := by
      rcases h with h | h | h
      · omega
      · rw [hfree] at h; exact absurd h (by decide)
      · exact h
    exact ⟨.refl m d, by rw [Dev.mbxTenant_eq, hsame, tenantOf_used m hb], fun hne => absurd rfl hne⟩
  · split
    · next h => exact ⟨hframe, hput, fun hne => absurd h hne⟩
    · obtain ⟨hclear, hten, hwiped⟩ := (d.ownerPut m (byte / 128 * 128 + byte % 16)).mbxCleared_shown hm.2
      exact ⟨hframe.trans hclear, hten.trans hput, fun _ => hwiped⟩

/-- A run of assignments of mailboxes of one register. -/
theorem Dev.assignAll_shown {i v : Nat} (hi : 2 ≤ i ∧ i < 16) {l : List Nat} (hnd : l.Nodup) (hl : ∀ j ∈ l, j < 4) (d : Dev)
    (hfree : ∀ j ∈ l, d.mbxFree (4 * i + j) = true) :
    let e := l.foldl (fun d j => d.assignMbx (4 * i + j) (v / 2 ^ (8 * j) % 256)) d
    e.replies = d.replies ∧ (∀ k ∈ d.wipes, k ∈ e.wipes) ∧ (∀ k, (∀ j ∈ l, k ≠ 4 * i + j) → e.mbxTenant k = d.mbxTenant k) ∧
    ∀ j ∈ l, e.mbxTenant (4 * i + j) = tenantOf (4 * i + j) (v / 2 ^ (8 * j) % 256) ∧
      (e.mbxTenant (4 * i + j) ≠ d.mbxTenant (4 * i + j) → 4 * i + j ∈ e.wipes) := by
  induction l generalizing d with
  | nil => exact ⟨rfl, fun _ h => h, fun _ _ => rfl, fun j h => absurd h (List.not_mem_nil)⟩
  | cons j l ih =>
    obtain ⟨hout, hnd⟩ := List.nodup_cons.1 hnd
    have hj := hl j (.head _)
    obtain ⟨hframe, hten, hwiped⟩ := d.assignMbx_shown (m := 4 * i + j) (byte := v / 2 ^ (8 * j) % 256) (by omega)
      (Nat.mod_lt _ (by decide)) (hfree j (.head _))
    have hne : ∀ k ∈ l, 4 * i + k ≠ 4 * i + j := fun k hk he => hout (by rwa [← Nat.add_left_cancel he])
    obtain ⟨hrep, hwipes, hother, hall⟩ := ih hnd (fun k hk => hl k (.tail _ hk)) (d.assignMbx (4 * i + j) (v / 2 ^ (8 * j) % 256))
      fun k hk => (hframe.free _ (hne k hk)).trans (hfree k (.tail _ hk))
    have hsame := hother (4 * i + j) fun k hk => (hne k hk).symm
    refine ⟨hrep.trans hframe.replies, fun k hk => hwipes k (hframe.wipes k hk), fun k hk => ?_, fun k hk => ?_⟩
    · exact (hother k fun q hq => hk q (.tail _ hq)).trans (hframe.owner k (hk j (.head _)))
    · rcases List.mem_cons.1 hk with rfl | hk
      · exact ⟨hsame.trans hten, fun h => hwipes _ (hwiped (hsame ▸ h))⟩
      · obtain ⟨hask, hwipe⟩ := hall k hk
        exact ⟨hask, fun h => hwipe ((hframe.owner _ (hne k hk)).symm ▸ h)⟩

/-- A mailbox area zeroed reads 0, whatever is zeroed after it. -/
theorem sget_wipes {mem : List Host.Cell} {l : List Nat} {m a : Nat} (hm : m ∈ l) (ha : mbxBase m + 0x400 ≤ a ∧ a < mbxBase m + 0x1000) :
    sget zeroByte (l.foldl wipeMbx mem) a = 0#8 := by
  have hkeep : ∀ (l : List Nat) (mem : List Host.Cell), sget zeroByte mem a = 0#8 → sget zeroByte (l.foldl wipeMbx mem) a = 0#8 := by
    intro l
    induction l with
    | nil => exact fun _ h => h
    | cons k l ih =>
      intro mem h
      refine ih _ ?_
      cases hp : !(decide (mbxBase k + 0x400 ≤ a) && decide (a < mbxBase k + 0x1000))
      · exact sget_skeep_drop zeroByte _ mem hp
      · exact (sget_skeep zeroByte _ mem hp).trans h
  induction l generalizing mem with
  | nil => exact absurd hm (List.not_mem_nil)
  | cons k l ih =>
    rcases List.mem_cons.1 hm with rfl | hm
    · exact hkeep l _ (sget_skeep_drop zeroByte _ mem (by simp [ha.1, ha.2]))
    · exact ih hm

/-! The rings (R570-R573). -/

section
variable (d : Dev) (r : Nat)

theorem Dev.ringRuns_congr {d e : Dev} {r : Nat} (h : e.rd (rGLK_RING_CTRL r) = d.rd (rGLK_RING_CTRL r)) : e.ringRuns r = d.ringRuns r := by
  rw [Dev.ringRuns, Dev.bit_congr h, Dev.bit_congr h, ← Dev.ringRuns]

theorem Dev.ring_congr {d e : Dev} (h : e.glk.rings = d.glk.rings) (r : Nat) : e.ring r = d.ring r := by
  rw [Dev.ring, h, ← Dev.ring]

/-- A ring to the host with nothing waiting and its descriptors read, or one that does not run, has nothing to do. -/
theorem Dev.ringStep_idle {d : Dev} {r : Nat} (hw : (d.ring r).waits = [])
    (h : d.ringRuns r = false ∨ if r < 16 then d.ringOwned r ≤ (d.ring r).posted.length else (d.ring r).descs = [] ∧ d.ringOwned r = 0) :
    (d.ringStep r).ring r = d.ring r ∧ ∀ a, (d.ringStep r).rd a = d.rd a := by
  unfold Dev.ringStep
  by_cases hr : r < 16
  · rw [if_pos hr] at h ⊢
    have hfetch : d.ringAgain r = d.updRing r (fun x => { x with waits := [] }) := by
      unfold Dev.ringAgain
      dsimp only
      rw [hw]
      unfold Dev.ringServe Dev.ringFetch
      refine if_pos ?_
      rw [Dev.ring_updRing_same]
      rcases h with h | h
      · have hrun : (d.updRing r (fun x => { x with waits := [] })).ringRuns r = false := h
        rw [hrun]
        simp
      · have howned : (d.updRing r (fun x => { x with waits := [] })).ringOwned r ≤ (d.ring r).posted.length := h
        simp [howned]
    rw [hfetch, Dev.ring_updRing_same]
    refine ⟨?_, fun _ => rfl⟩
    rw [← hw]
  · rw [if_neg hr] at h ⊢
    have hstay : d.ringGo r = d := by
      unfold Dev.ringGo
      rcases h with h | ⟨hdescs, howned⟩
      · rw [h]
        simp
      · have hwhole : (d.ring r).whole = false := by rw [RingX.whole, hdescs]; rfl
        split
        · rfl
        · split
          · rfl
          · simp only [hwhole, Bool.false_and, Bool.false_eq_true, if_false, howned, Nat.not_lt_zero]
    rw [hstay]
    exact ⟨rfl, fun _ => rfl⟩

end

end Sys2Proof.Machine

/-! The obligation on mailboxes, rings, alerts and violations (19_gellen.md R563-R580). -/

namespace Sys2Proof.Machine

theorem exec_mbxDoorbell (m : Fin 64) (val : Word) (s : State) : exec (.mbxDoorbell m val) s =
    s.run (fun d => d.doorbell m.val val.toNat (loadBytes zeroByte s.mem (mbxBase m.val + 0x400) 0x400)) := rfl
theorem exec_glkMbxOwnerWrite (i : Fin 16) (val : Word) (s : State) :
    exec (.glkMbxOwnerWrite i val) s = s.run (fun d => d.writeOwner i.val val.toNat) := rfl
theorem exec_ringCtrlWrite (r : Fin 24) (val : Word) (s : State) :
    exec (.ringCtrlWrite r val) s = s.run (fun d => d.writeRingCtrl r.val val.toNat) := rfl
theorem exec_ringTailWrite (r : Fin 24) (val : Word) (s : State) :
    exec (.ringTailWrite r val) s = s.run (fun d => (d.access (rGLK_RING_CTRL r.val + 4 * 4) val.toNat).ringStep r.val) := rfl
theorem exec_dmaCompletion (p : Fin 2) (seq tag : Fin 65536) (err : Bool) (data : List Byte) (s : State) :
    exec (.dmaCompletion p seq tag err data) s = s.run (fun d =>
      let r := d.receive p.val seq.val 1 (3 + (data.length + 7) / 8) true
      if r.1 then r.2.dmaDone tag.val err data else r.2) := rfl
theorem exec_ringEvent (r : Fin 24) (s : State) : exec (.ringEvent r) s = s.run (fun d => d.ringEvent r.val) := rfl
theorem exec_ringFault (r : Fin 24) (s : State) :
    exec (.ringFault r) s = s.run (fun d => if (d.ring r.val).tag.isSome then d.ringFault r.val else d) := rfl
theorem exec_glkAlertAck (val : Word) (s : State) : exec (.glkAlertAck val) s = s.run (fun d => d.writeAlertAck val.toNat) := rfl
theorem exec_glkAlertSel (val : Word) (s : State) : exec (.glkAlertSel val) s = s.run (fun d => d.writeAlertSel val.toNat) := rfl
theorem exec_glkViolPop (val : Word) (s : State) : exec (.glkViolPop val) s = s.run (fun d => d.violPop val.toNat) := rfl

@[simp] theorem State.after_ring (s : State) (e : Dev) (r : Nat) : (s.after e).dev.ring r = e.ring r := (rfl)
@[simp] theorem State.after_ringRuns (s : State) (e : Dev) (r : Nat) : (s.after e).dev.ringRuns r = e.ringRuns r := (rfl)
@[simp] theorem State.after_ringHead (s : State) (e : Dev) (r : Nat) : (s.after e).dev.ringHead r = e.ringHead r := (rfl)
@[simp] theorem State.after_mbxTenant (s : State) (e : Dev) (m : Nat) : (s.after e).dev.mbxTenant m = e.mbxTenant m := (rfl)

/-! The doorbell (R565-R567). -/

theorem take_loadBytes (dflt : Nat → Byte) (mem : List Host.Cell) (a n k : Nat) :
    (loadBytes dflt mem a n).take k = loadBytes dflt mem a (min k n) := by
  rw [loadBytes_eq, loadBytes_eq, ← List.map_take, List.take_range]

theorem Dev.doorbell_busy {d : Dev} {m v : Nat} (area : List Byte) (hgo : nbit v 31 = true)
    (h : d.get (rMBX_STATUS m) fMBX_STATUS_STATE = 1) : d.doorbell m v area = d.put (rMBX_STATUS m) fMBX_STATUS_LOST 1 := by
  unfold Dev.doorbell
  rw [hgo, Bool.not_true, if_neg Bool.false_ne_true, if_pos h]

theorem Dev.doorbellRegs_state (d : Dev) (m v : Nat) : (d.doorbellRegs m v).get (rMBX_STATUS m) fMBX_STATUS_STATE = 1 :=
  (Dev.get_put_disjoint _ _ _ (by decide)).trans ((Dev.get_put_disjoint _ _ _ (by decide)).trans (Dev.get_put_eq _ _ (by decide)))

/-- A command joins those taken, and two registers of its mailbox are written. -/
theorem Dev.writes_withCmd {P : Nat → Prop} {d e : Dev} (h : d.Writes P e) (c : Cmd) :
    (e.withCmd c).glk.cmds = d.glk.cmds ++ [c] ∧ Dev.Writes P { d with glk := { d.glk with cmds := d.glk.cmds ++ [c] } } (e.withCmd c) := by
  have hglk := h.glk
  rw [Dev.withCmd, hglk]
  exact ⟨rfl, h.withGlk _⟩

theorem mbxDoorbell_busy {s : State} {m : Fin 64} {val : Word} (hs : s.Runs) (hgo : nbit val.toNat 31 = true)
    (h : s.dev.get (rMBX_STATUS m.val) fMBX_STATUS_STATE = 1) : ∃ t, exec (.mbxDoorbell m val) s = .next t ∧
      t.dev.bit (rMBX_STATUS m.val) fMBX_STATUS_LOST = true ∧ s.OnlyChanges t [rMBX_STATUS m.val] s.dev := by
  obtain ⟨e, he, hbit, hw⟩ : ∃ e : Dev, s.start.doorbell m.val val.toNat (loadBytes zeroByte s.mem (mbxBase m.val + 0x400) 0x400) = e ∧
      e.bit (rMBX_STATUS m.val) fMBX_STATUS_LOST = true ∧ Dev.Writes (· ∈ [rMBX_STATUS m.val]) s.start e :=
    ⟨_, Dev.doorbell_busy _ hgo h, Dev.bit_put_one _ _ (by decide), Dev.writes_put _ _ _ (.head _)⟩
  obtain ⟨hrun, honly⟩ := State.run_writes_regs hs
    (f := fun d => d.doorbell m.val val.toNat (loadBytes zeroByte s.mem (mbxBase m.val + 0x400) 0x400)) he hw
  exact ⟨_, (exec_mbxDoorbell ..).trans hrun, hbit, honly⟩

theorem State.run_withCmd {s : State} (hs : s.Runs) {l : List Nat} {f : Dev → Dev} {e : Dev} {c : Cmd} (he : f s.start = e.withCmd c)
    (hw : Dev.Writes (· ∈ l) s.start e) : ∃ t, s.run f = .next t ∧ t.dev = e.withCmd c ∧
      s.OnlyChanges t l { s.dev with glk := { s.dev.glk with cmds := s.dev.glk.cmds ++ [c] } } := by
  obtain ⟨-, hfull⟩ := Dev.writes_withCmd hw c
  obtain ⟨hrun, honly⟩ := State.run_writes hs (o := [])
    (d := { s.dev with glk := { s.dev.glk with cmds := s.dev.glk.cmds ++ [c] } }) ⟨rfl, rfl, rfl⟩ he hfull
  exact ⟨_, hrun, rfl, honly⟩

theorem mbxDoorbell_taken {s : State} {m : Fin 64} {val : Word} (hs : s.Runs) (hgo : nbit val.toNat 31 = true) {code len : Nat}
    {req : List Byte} (hfree : s.dev.get (rMBX_STATUS m.val) fMBX_STATUS_STATE ≠ 1) (hready : s.dev.mbxReady = true)
    (hcode : code = fieldOf val.toNat fMBX_DOORBELL_CODE) (hlen : len = fieldOf val.toNat fMBX_DOORBELL_REQ_LEN)
    (hreq : req = loadBytes zeroByte s.mem (mbxBase m.val + 0x400) (min len 0x400)) :
    (∀ n, basicLen code req = some n → n ≤ len → len ≤ 1024 → ∃ t, exec (.mbxDoorbell m val) s = .next t ∧
      t.dev.get (rMBX_STATUS m.val) fMBX_STATUS_STATE = 1 ∧
      t.dev.glk.cmds = s.dev.glk.cmds ++ [⟨m.val, code, req, s.dev.mbxTenant m.val, false, []⟩] ∧
      s.OnlyChanges t [rMBX_STATUS m.val, rMBX_DOORBELL m.val] { s.dev with glk := { s.dev.glk with cmds := t.dev.glk.cmds } }) ∧
    (basicLen code req = none → ∃ t, exec (.mbxDoorbell m val) s = .next t ∧ t.Done m resBadParam []) := by
  have hreq' : (loadBytes zeroByte s.mem (mbxBase m.val + 0x400) 0x400).take (fieldOf val.toNat fMBX_DOORBELL_REQ_LEN) = req := by
    rw [take_loadBytes, hreq, hlen]
  have hcmd : s.start.doorbellCmd m.val val.toNat (loadBytes zeroByte s.mem (mbxBase m.val + 0x400) 0x400) =
      ⟨m.val, code, req, s.dev.mbxTenant m.val, false, []⟩ := by
    rw [Dev.doorbellCmd, hreq', ← hcode, Dev.mbxTenant_congr (d := s.dev) (e := s.start) rfl]
  obtain ⟨hnone, hsome⟩ := Dev.doorbell_taken (d := s.start) (v := val.toNat)
    (area := loadBytes zeroByte s.mem (mbxBase m.val + 0x400) 0x400) m.isLt hgo hfree hready
  rw [← hcode, hreq'] at hnone hsome
  rw [← hlen] at hsome
  rw [hcmd] at hnone hsome
  generalize (⟨m.val, code, req, s.dev.mbxTenant m.val, false, []⟩ : Cmd) = c at hnone hsome
  have hregs := s.start.writes_doorbellRegs m.val val.toNat
  have hstate := s.start.doorbellRegs_state m.val val.toNat
  generalize s.start.doorbellRegs m.val val.toNat = e at hnone hsome hregs hstate
  rw [exec_mbxDoorbell]
  refine ⟨fun n h hn hl => ?_, fun h => ⟨_, State.run_after hs.1 (hnone h), s.done_after_finish _ (by decide) (by decide)⟩⟩
  obtain ⟨hcmds, -⟩ := Dev.writes_withCmd hregs c
  obtain ⟨t, hrun, hdev, honly⟩ := State.run_withCmd hs (f := fun d =>
    d.doorbell m.val val.toNat (loadBytes zeroByte s.mem (mbxBase m.val + 0x400) 0x400)) (hsome n h hn hl) hregs
  rw [← hdev] at hcmds
  refine ⟨t, hrun, ?_, hcmds, ?_⟩
  · rw [hdev, Dev.get_congr (Dev.rd_withCmd e c _), hstate]
  · rw [hcmds]
    exact honly

/-! Assignment (R568). -/

theorem glkMbxOwnerWrite_privileged {s : State} (hs : s.Runs) {i : Fin 16} (val : Word) (hi : i.val < 2) :
    ∃ t, exec (.glkMbxOwnerWrite i val) s = .next t ∧ s.OnlyChanges t [] s.dev := by
  rw [exec_glkMbxOwnerWrite]
  have hstay : ∀ (d : Dev) j, j ∈ List.range 4 → d.assignMbx (4 * i.val + j) (val.toNat / 2 ^ (8 * j) % 256) = d := fun d j hj => by
    have := List.mem_range.1 hj
    rw [Dev.assignMbx_eq, if_pos (.inl (by omega))]
  refine State.run_nothing hs ?_
  exact List.foldlRecOn (motive := fun e : Dev => e = s.start) _ _ rfl fun e he j hj => (hstay e j hj).trans he

theorem glkMbxOwnerWrite_assigns {s : State} (hs : s.Runs) {i : Fin 16} (val : Word) (hi : 2 ≤ i.val)
    (hfree : ∀ j < 4, s.dev.mbxFree (4 * i.val + j) = true) : ∃ t, exec (.glkMbxOwnerWrite i val) s = .next t ∧
      ∀ j < 4, t.dev.mbxTenant (4 * i.val + j) =
          (if nbit (val.toNat / 2 ^ (8 * j)) 7 then some (val.toNat / 2 ^ (8 * j) % 16) else none) ∧
        (t.dev.mbxTenant (4 * i.val + j) ≠ s.dev.mbxTenant (4 * i.val + j) →
          ∀ a, mbxBase (4 * i.val + j) + 0x400 ≤ a → a < mbxBase (4 * i.val + j) + 0x1000 → sget zeroByte t.mem a = 0#8) := by
  obtain ⟨hrep, -, -, hall⟩ := Dev.assignAll_shown (v := val.toNat) ⟨hi, i.isLt⟩ (List.nodup_range (n := 4))
    (fun j hj => List.mem_range.1 hj) s.start (fun j hj => hfree j (List.mem_range.1 hj))
  have hrun : s.run (fun d => d.writeOwner i.val val.toNat) = .next (s.after (s.start.writeOwner i.val val.toNat)) := State.run_after hs.1 rfl
  rw [exec_glkMbxOwnerWrite]
  unfold Dev.writeOwner at hrun ⊢
  generalize (List.range 4).foldl (fun d j => d.assignMbx (4 * i.val + j) (val.toNat / 2 ^ (8 * j) % 256)) s.start = e at hrep hall hrun
  refine ⟨_, hrun, fun j hj => ?_⟩
  obtain ⟨hten, hwiped⟩ := hall j (List.mem_range.2 hj)
  have hbyte : tenantOf (4 * i.val + j) (val.toNat / 2 ^ (8 * j) % 256) =
      if nbit (val.toNat / 2 ^ (8 * j)) 7 then some (val.toNat / 2 ^ (8 * j) % 16) else none := by
    have hbit : nbit (val.toNat / 2 ^ (8 * j) % 256) 7 = nbit (val.toNat / 2 ^ (8 * j)) 7 := by
      simp only [nbit, beq_eq_beq]; omega
    have hlow : val.toNat / 2 ^ (8 * j) % 256 % 16 = val.toNat / 2 ^ (8 * j) % 16 := by omega
    have h8 : 8 ≤ 4 * i.val + j := by omega
    rw [tenantOf, hbit, hlow]
    simp only [h8, true_and]
  rw [State.after_mbxTenant]
  refine ⟨hten.trans hbyte, fun hne a h1 h2 => ?_⟩
  have hmem : (s.after e).mem = e.wipes.foldl wipeMbx s.mem := by
    rw [State.after, deliver]
    simp only [hrep, show s.start.replies = [] from hs.2.1, List.foldl_nil]
  rw [hmem]
  exact sget_wipes (hwiped hne) ⟨h1, h2⟩

/-! The rings (R570-R573). -/

/-- EN and PORT of a ring are software's. -/
theorem ringCtrl_soft (r : Fin 24) : softField (rGLK_RING_CTRL r.val) fGLK_RING_CTRL_EN = true ∧
    softField (rGLK_RING_CTRL r.val) fGLK_RING_CTRL_PORT = true := by
  revert r
  decide

/-- A ring with HEAD equal to TAIL owns no descriptor. -/
theorem Dev.ringOwned_empty {d : Dev} {r : Nat} (hh : d.ringHead r = 0) (ht : d.get (rGLK_RING_TAIL r) fGLK_RING_TAIL_TAIL = 0) :
    d.ringOwned r = 0 := by
  rw [Dev.ringOwned, hh, ht, Nat.zero_mod, Nat.sub_zero, Nat.zero_add, Nat.mod_self]

/-- The registers of a ring that is enabled: HEAD and TAIL at 0, and no stop. -/
def Dev.ringBegun (d : Dev) (r v : Nat) : Dev :=
  (((d.access (rGLK_RING_CTRL r) v).wrN (rGLK_RING_HEAD r) 0).wrN (rGLK_RING_TAIL r) 0).put (rGLK_RING_CTRL r) fGLK_RING_CTRL_STOPPED 0

theorem Dev.ringBegun_shown (d : Dev) (r : Fin 24) {v : Nat} (hen : nbit v 31 = true) : (d.ringBegun r.val v).ringRuns r.val = true ∧
    (d.ringBegun r.val v).ringHead r.val = 0 ∧ (d.ringBegun r.val v).get (rGLK_RING_TAIL r.val) fGLK_RING_TAIL_TAIL = 0 ∧
    (d.ringBegun r.val v).get (rGLK_RING_CTRL r.val) fGLK_RING_CTRL_PORT = fieldOf v fGLK_RING_CTRL_PORT := by
  obtain ⟨hsoft, hport⟩ := ringCtrl_soft r
  have hhead : rGLK_RING_CTRL r.val ≠ rGLK_RING_HEAD r.val := by unfold rGLK_RING_CTRL rGLK_RING_HEAD; omega
  have htail : rGLK_RING_CTRL r.val ≠ rGLK_RING_TAIL r.val := by unfold rGLK_RING_CTRL rGLK_RING_TAIL; omega
  have hcross : rGLK_RING_HEAD r.val ≠ rGLK_RING_TAIL r.val := by unfold rGLK_RING_HEAD rGLK_RING_TAIL; omega
  have hword : ∀ (e : Dev) a f, e.rdN a = 0 → e.get a f = 0 := fun e a f h => by rw [Dev.get, h]; simp [fieldOf]
  have hctrl : ∀ g : Fld, fGLK_RING_CTRL_STOPPED.disjoint g → (d.ringBegun r.val v).get (rGLK_RING_CTRL r.val) g =
      (d.access (rGLK_RING_CTRL r.val) v).get (rGLK_RING_CTRL r.val) g := fun g hg =>
    (Dev.get_put_disjoint _ _ _ hg).trans (Dev.get_congr ((Dev.rd_wrN_ne _ _ htail).trans (Dev.rd_wrN_ne _ _ hhead)) _)
  refine ⟨?_, ?_, ?_, ?_⟩
  · have hone : (d.ringBegun r.val v).bit (rGLK_RING_CTRL r.val) fGLK_RING_CTRL_EN = true := by
      have hbit : fieldOf v fGLK_RING_CTRL_EN = 1 := by
        have hbit : v / 2 ^ 31 % 2 = 1 := by simpa [nbit] using hen
        exact hbit
      rw [Dev.bit, hctrl _ (by decide), Dev.get_access_rw _ _ (by decide) hsoft, hbit]
      rfl
    rw [Dev.ringRuns, hone, Dev.ringBegun, Dev.bit_put_zero _ _ (by decide)]
    rfl
  · exact (Dev.get_congr ((Dev.rd_put_ne _ _ _ hhead.symm).trans (Dev.rd_wrN_ne _ _ hcross)) _).trans
      (hword _ _ _ (Dev.rdN_wrN_same ..))
  · exact (Dev.get_congr (Dev.rd_put_ne _ _ _ htail.symm) _).trans (hword _ _ _ (Dev.rdN_wrN_same ..))
  · exact (hctrl _ (by decide)).trans (Dev.get_access_rw _ _ (by decide) hport)

/-- A ring is enabled (R570). -/
theorem Dev.writeRingCtrl_enable {d : Dev} {r : Fin 24} {v : Nat} (hen : nbit v 31 = true)
    (hwas : d.bit (rGLK_RING_CTRL r.val) fGLK_RING_CTRL_EN = false) :
    d.writeRingCtrl r.val v = ((d.ringBegun r.val v).setRing r.val { port := fieldOf v fGLK_RING_CTRL_PORT }).ringStep r.val := by
  obtain ⟨-, -, -, hport⟩ := d.ringBegun_shown r hen
  rw [← hport]
  unfold Dev.writeRingCtrl
  dsimp only
  rw [hen, hwas, if_neg Bool.false_ne_true, Bool.not_false, Bool.and_self, if_pos rfl, ← Dev.ringBegun]

/-- A ring with HEAD equal to TAIL and nothing held has nothing to do. -/
theorem Dev.ringStep_begun {e : Dev} {r : Nat} (p : Nat) (hruns : e.ringRuns r = true) (hhead : e.ringHead r = 0)
    (htail : e.get (rGLK_RING_TAIL r) fGLK_RING_TAIL_TAIL = 0) : ∃ x : Dev, (e.setRing r { port := p }).ringStep r = x ∧
      x.ringRuns r = true ∧ x.ringHead r = 0 ∧ x.get (rGLK_RING_TAIL r) fGLK_RING_TAIL_TAIL = 0 ∧ x.ring r = { port := p } := by
  have hring := e.ring_setRing_same r { port := p }
  have hrd := e.rd_setRing r { port := p }
  generalize e.setRing r { port := p } = x at hring hrd ⊢
  have hhead' : x.ringHead r = 0 := (Dev.get_congr (hrd _) _).trans hhead
  have htail' := (Dev.get_congr (hrd (rGLK_RING_TAIL r)) fGLK_RING_TAIL_TAIL).trans htail
  have howned := Dev.ringOwned_empty hhead' htail'
  obtain ⟨hkept, hregs⟩ := Dev.ringStep_idle (d := x) (r := r) (by rw [hring]) (.inr (by
    rw [howned, hring]
    split
    · exact Nat.zero_le _
    · exact ⟨rfl, rfl⟩))
  exact ⟨_, rfl, (Dev.ringRuns_congr ((hregs _).trans (hrd _))).trans hruns, (Dev.get_congr (hregs _) _).trans hhead',
    (Dev.get_congr (hregs _) _).trans htail', hkept.trans hring⟩

theorem ringCtrlWrite_enables {s : State} (hs : s.Runs) {r : Fin 24} {val : Word} (hen : nbit val.toNat 31 = true)
    (hwas : s.dev.bit (rGLK_RING_CTRL r.val) fGLK_RING_CTRL_EN = false) :
    ∃ t, exec (.ringCtrlWrite r val) s = .next t ∧ t.dev.ringRuns r.val = true ∧ t.dev.ringHead r.val = 0 ∧
      t.dev.get (rGLK_RING_TAIL r.val) fGLK_RING_TAIL_TAIL = 0 ∧
      t.dev.ring r.val = { port := fieldOf val.toNat fGLK_RING_CTRL_PORT } := by
  obtain ⟨hruns, hhead, htail, -⟩ := s.start.ringBegun_shown r hen
  have hwrite := Dev.writeRingCtrl_enable (d := s.start) hen hwas
  obtain ⟨x, hx, hshown⟩ := Dev.ringStep_begun (fieldOf val.toNat fGLK_RING_CTRL_PORT) hruns hhead htail
  rw [exec_ringCtrlWrite]
  exact ⟨_, State.run_after hs.1 (f := fun d => d.writeRingCtrl r.val val.toNat) (hwrite.trans hx), hshown⟩

theorem ringTail_address (r : Nat) : rGLK_RING_CTRL r + 4 * 4 = rGLK_RING_TAIL r := by unfold rGLK_RING_CTRL rGLK_RING_TAIL; omega

theorem ringTailWrite_stopped {s : State} (hs : s.Runs) {r : Fin 24} (val : Word) (hruns : s.dev.ringRuns r.val = false)
    (hwaits : (s.dev.ring r.val).waits = []) : ∃ t, exec (.ringTailWrite r val) s = .next t ∧
      t.dev.rdN (rGLK_RING_TAIL r.val) = s.dev.stored (rGLK_RING_TAIL r.val) val.toNat ∧ t.dev.ring r.val = s.dev.ring r.val := by
  rw [exec_ringTailWrite, ringTail_address]
  have hacc := s.start.rewrites_access (rGLK_RING_TAIL r.val) val.toNat
  have hstored : (s.start.access (rGLK_RING_TAIL r.val) val.toNat).rdN (rGLK_RING_TAIL r.val) =
      s.dev.stored (rGLK_RING_TAIL r.val) val.toNat := (Dev.rdN_access_same ..).trans (Dev.stored_congr rfl _)
  refine ⟨_, State.run_after hs.1 rfl, ?_⟩
  rw [State.after_rdN, State.after_ring]
  generalize s.start.access (rGLK_RING_TAIL r.val) val.toNat = e at hacc hstored
  have hring : e.ring r.val = s.dev.ring r.val := Dev.ring_congr (congrArg GlkState.rings hacc.glk) _
  have hruns' : e.ringRuns r.val = false := (Dev.ringRuns_congr (hacc.rd _ (by unfold rGLK_RING_CTRL rGLK_RING_TAIL; omega))).trans hruns
  obtain ⟨hkept, hregs⟩ := Dev.ringStep_idle (by rw [hring]; exact hwaits) (.inl hruns')
  exact ⟨(Dev.rdN_congr (hregs _)).trans hstored, hkept.trans hring⟩

/-- A DMA_READ sent (R573): the ring waits for it. -/
theorem Dev.dmaRead_shown {d : Dev} {p r addr bytes : Nat} (desc : Bool) (h : d.MaySend p 0x83 16) :
    ((d.dmaRead p r addr bytes desc).ring r).tag = some d.glk.nextTag ∧
    ((d.dmaRead p r addr bytes desc).port p).store = (d.port p).store ++
      [⟨0x83, transClass 0x83, (d.port p).txNext, leB 8 addr ++ leB 2 bytes ++ leB 2 d.glk.nextTag ++ leB 1 r ++ leB 3 0⟩] ∧
    ((d.dmaRead p r addr bytes desc).port p).queue = [] := by
  obtain ⟨e, he, hport, hring, hstate⟩ : ∃ e : Dev, d.dmaRead p r addr bytes desc =
      e.send p 0x83 (leB 8 addr ++ leB 2 bytes ++ leB 2 d.glk.nextTag ++ leB 1 r ++ leB 3 0) ∧ e.port p = d.port p ∧
      (e.ring r).tag = some d.glk.nextTag ∧ e.portState p = d.portState p :=
    ⟨_, rfl, rfl, congrArg RingX.tag (Dev.ring_updRing_same ..), rfl⟩
  have hlen : (leB 8 addr ++ leB 2 bytes ++ leB 2 d.glk.nextTag ++ leB 1 r ++ leB 3 0).length = 16 := by
    simp only [List.length_append, length_leB]
  have hmay : e.MaySend p 0x83 (leB 8 addr ++ leB 2 bytes ++ leB 2 d.glk.nextTag ++ leB 1 r ++ leB 3 0).length := by
    rw [hlen, Dev.MaySend, hstate, hport]
    exact h
  have hsent := Dev.port_send hmay (by rw [hlen])
  rw [he, hsent, hport]
  refine ⟨?_, rfl, rfl⟩
  rw [Dev.ring_congr (Dev.talk_send ..).glk_rings, hring]

theorem ringTailWrite_fetches {s : State} (hs : s.Runs) {r : Fin 24} (val : Word) (hr : 16 ≤ r.val) (hruns : s.dev.ringRuns r.val = true)
    (htag : (s.dev.ring r.val).tag = none) (hdescs : (s.dev.ring r.val).descs = [])
    (hmay : s.dev.MaySend (s.dev.ring r.val).port 0x83 16)
    (howned : (s.dev.access (rGLK_RING_TAIL r.val) val.toNat).ringOwned r.val ≠ 0) :
    ∃ t, exec (.ringTailWrite r val) s = .next t ∧ (t.dev.ring r.val).tag = some s.dev.glk.nextTag ∧
      s.Sends t (s.dev.ring r.val).port 0x83 (leB 8 (s.dev.ringAddr r.val (s.dev.ringHead r.val)) ++ leB 2 16 ++
        leB 2 s.dev.glk.nextTag ++ leB 1 r.val ++ leB 3 0) := by
  rw [exec_ringTailWrite, ringTail_address]
  have hacc := s.start.rewrites_access (rGLK_RING_TAIL r.val) val.toNat
  have howned' : (s.start.access (rGLK_RING_TAIL r.val) val.toNat).ringOwned r.val ≠ 0 := by
    have hsame : ∀ a, (s.start.access (rGLK_RING_TAIL r.val) val.toNat).rd a = (s.dev.access (rGLK_RING_TAIL r.val) val.toNat).rd a := by
      intro a
      by_cases ha : a = rGLK_RING_TAIL r.val
      · rw [ha]
        exact BitVec.eq_of_toNat_eq ((Dev.rdN_access_same ..).trans ((Dev.stored_congr (d := s.start) (e := s.dev) rfl _).trans (Dev.rdN_access_same ..).symm))
      · rw [hacc.rd a ha, (s.dev.rewrites_access (rGLK_RING_TAIL r.val) val.toNat).rd a ha]
        rfl
    rwa [Dev.ringOwned, Dev.ringSize, Dev.ringHead, Dev.get_congr (hsame _), Dev.get_congr (hsame _), Dev.get_congr (hsame _),
      ← Dev.ringSize, ← Dev.ringHead, ← Dev.ringOwned]
  refine ⟨_, State.run_after hs.1 rfl, ?_⟩
  rw [State.Sends, State.after_ring, State.after_port]
  generalize s.start.access (rGLK_RING_TAIL r.val) val.toNat = e at hacc howned'
  have hrd : ∀ a, a ≠ rGLK_RING_TAIL r.val → e.rd a = s.dev.rd a := fun a ha => (hacc.rd a ha).trans rfl
  have hglk : e.glk = s.dev.glk := hacc.glk
  have hring : e.ring r.val = s.dev.ring r.val := Dev.ring_congr (congrArg GlkState.rings hglk) _
  have hctrl : e.rd (rGLK_RING_CTRL r.val) = s.dev.rd (rGLK_RING_CTRL r.val) := hrd _ (by unfold rGLK_RING_CTRL rGLK_RING_TAIL; omega)
  have hstate : ∀ p, e.portState p = s.dev.portState p := fun p => Dev.get_congr (hrd _ (by unfold rGLK_STATUS rGLK_RING_TAIL; omega)) _
  have hmay' : e.MaySend (s.dev.ring r.val).port 0x83 16 := by rwa [Dev.MaySend, hstate, Dev.port_congr hglk]
  have haddr : e.ringAddr r.val (e.ringHead r.val + 0) = s.dev.ringAddr r.val (s.dev.ringHead r.val) := by
    have hhead : e.ringHead r.val = s.dev.ringHead r.val := Dev.get_congr (hrd _ (by unfold rGLK_RING_HEAD rGLK_RING_TAIL; omega)) _
    have hsize : e.ringSize r.val = s.dev.ringSize r.val := by rw [Dev.ringSize, Dev.get_congr hctrl, ← Dev.ringSize]
    have hbase : e.rd64 (rGLK_RING_BASE_LO r.val) (rGLK_RING_BASE_HI r.val) =
        s.dev.rd64 (rGLK_RING_BASE_LO r.val) (rGLK_RING_BASE_HI r.val) := by
      rw [Dev.rd64, Dev.rdN_congr (hrd _ (by unfold rGLK_RING_BASE_LO rGLK_RING_TAIL; omega)),
        Dev.rdN_congr (hrd _ (by unfold rGLK_RING_BASE_HI rGLK_RING_TAIL; omega)), ← Dev.rd64]
    rw [Nat.add_zero, hhead, Dev.ringAddr, hbase, hsize, ← Dev.ringAddr]
  have hgo : e.ringStep r.val = e.dmaRead (s.dev.ring r.val).port r.val (s.dev.ringAddr r.val (s.dev.ringHead r.val)) 16 true := by
    have hport : e.ringPort r.val = some (s.dev.ring r.val).port := by
      rw [Dev.ringPort, hring]
      exact if_pos hmay'.1
    have hwhole : (s.dev.ring r.val).whole = false := by rw [RingX.whole, hdescs]; rfl
    have hlt : 0 < e.ringOwned r.val := Nat.pos_of_ne_zero howned'
    rw [Dev.ringStep, if_neg (by omega), Dev.ringGo]
    simp only [hring, htag, (Dev.ringRuns_congr hctrl).trans hruns, hport, hwhole, hdescs, hlt, Option.isSome_none, Bool.not_true,
      Bool.or_self, Bool.false_and, Bool.false_eq_true, if_false, if_true, List.length_nil, haddr]
  obtain ⟨htag', hstore, hqueue⟩ := e.dmaRead_shown (r := r.val) (addr := s.dev.ringAddr r.val (s.dev.ringHead r.val)) (bytes := 16) true hmay'
  rw [hgo, htag', hstore, hqueue, Dev.port_congr hglk, hglk]
  exact ⟨rfl, rfl, rfl⟩

/-! DMA_COMPLETION, RING_EVENT and RING_FAULT (R572, R573). -/

theorem Dev.dmaDone_none {d : Dev} {tag : Nat} (err : Bool) (bs : List Byte) (h : ∀ r < 24, (d.ring r).tag ≠ some tag) :
    d.dmaDone tag err bs = d := by
  have hfind : (List.range 24).find? (fun r => (d.ring r).tag == some tag) = none :=
    List.find?_eq_none.2 fun r hr => by simpa using h r (List.mem_range.1 hr)
  rw [Dev.dmaDone, hfind]

theorem Dev.dmaDone_first {d : Dev} {tag r : Nat} (err : Bool) (bs : List Byte) (hr : r < 24) (h : (d.ring r).tag = some tag)
    (hfirst : ∀ q < r, (d.ring q).tag ≠ some tag) : d.dmaDone tag err bs = if err then d.ringFault r else d.ringData r bs := by
  have hfind : (List.range 24).find? (fun r => (d.ring r).tag == some tag) = some r :=
    List.find?_range_eq_some.2 ⟨by simp [h], List.mem_range.2 hr, fun q hq => by simpa using hfirst q hq⟩
  rw [Dev.dmaDone, hfind]

/-- A ring stopped (R573). -/
theorem Dev.ringFault_shown (d : Dev) (r : Nat) (hr : r < 24) : ((d.ringFault r).ring r).tag = none ∧
    (d.ringFault r).bit (rGLK_RING_CTRL r) fGLK_RING_CTRL_STOPPED = true ∧ (d.ringFault r).bit rGLK_ERR fGLK_ERR_RING_FAULT = true := by
  refine ⟨?_, ?_, Dev.bit_mark_same _ _ rfl (by decide)⟩
  · have hring : (d.ringFault r).ring r = (d.updRing r (fun x => { x with tag := none })).ring r :=
      Dev.ring_congr (by rw [Dev.ringFault, Dev.mark, Dev.put_glk, Dev.put_glk]) r
    rw [hring, Dev.ring_updRing_same]
  · rw [Dev.ringFault, Dev.mark, Dev.bit_put_ne _ _ _ _ (by unfold rGLK_RING_CTRL rGLK_ERR; omega), Dev.bit_put_one _ _ (by decide)]

/-- The host's descriptors join those of a ring to it (R571). -/
theorem Dev.ringData_posts {d : Dev} {r : Nat} {bs : List Byte} (hr : r < 16) (hw : (d.ring r).waits = [])
    (h : d.ringOwned r ≤ (d.ring r).posted.length + bs.length / 16) : ((d.ringData r bs).ring r).tag = none ∧
      ((d.ringData r bs).ring r).posted = (d.ring r).posted ++
        (List.range (bs.length / 16)).map (fun i => (leAt bs (16 * i) 8, leAt bs (16 * i + 8) 2)) := by
  obtain ⟨x, hx, hring, hrd⟩ : ∃ x : Dev, d.ringData r bs = x.ringStep r ∧ x.ring r = { d.ring r with
      tag := none, posted := (d.ring r).posted ++ (List.range (bs.length / 16)).map (fun i => (leAt bs (16 * i) 8, leAt bs (16 * i + 8) 2)) } ∧
      ∀ a, x.rd a = d.rd a := by
    refine ⟨d.setRing r _, ?_, Dev.ring_setRing_same .., fun _ => rfl⟩
    unfold Dev.ringData
    dsimp only
    rw [if_pos hr]
  have howned : x.ringOwned r = d.ringOwned r := by
    rw [Dev.ringOwned, Dev.ringSize, Dev.ringHead, Dev.get_congr (hrd _), Dev.get_congr (hrd _), Dev.get_congr (hrd _),
      ← Dev.ringSize, ← Dev.ringHead, ← Dev.ringOwned]
  obtain ⟨hkept, -⟩ := Dev.ringStep_idle (d := x) (r := r) (by rw [hring]; exact hw) (.inr (by
    rw [if_pos hr, howned, hring]
    simpa using h))
  rw [hx, hkept, hring]
  exact ⟨rfl, rfl⟩

section
variable {s : State} {p : Fin 2} {seq tag : Fin 65536} {data : List Byte}

/-- A DMA_COMPLETION accepted. -/
theorem exec_dmaCompletion_taken (hs : s.Runs) (ht : s.dev.Takes p.val seq.val) (err : Bool) : exec (.dmaCompletion p seq tag err data) s =
    .next (s.after ((s.start.taken p.val seq.val 1 (3 + (data.length + 7) / 8)).dmaDone tag.val err data)) := by
  have htake := Dev.receive_of_takes (d := s.start) ht 1 (3 + (data.length + 7) / 8)
  exact (exec_dmaCompletion ..).trans (State.run_after hs.1 (by dsimp only; rw [htake]; rfl))

theorem Dev.ring_taken (d : Dev) (p seq cls words r : Nat) : (d.taken p seq cls words).ring r = d.ring r :=
  Dev.ring_congr (d.talk_taken p seq cls words).glk_rings r

theorem dmaCompletion_unasked (hs : s.Runs) (ht : s.dev.Takes p.val seq.val) (h : ∀ r < 24, (s.dev.ring r).tag ≠ some tag.val) (err : Bool) :
    ∃ t, exec (.dmaCompletion p seq tag err data) s = .next t ∧ (t.dev.port p.val).rxNext = (seq.val + 1) % 65536 ∧
      s.OnlyChanges t [rGLK_CNT 1] { s.dev with glk := { s.dev.glk with portA := t.dev.glk.portA, portB := t.dev.glk.portB } } := by
  have htalk := s.start.talk_taken p.val seq.val 1 (3 + (data.length + 7) / 8)
  have hport := s.start.port_taken p.val seq.val 1 (3 + (data.length + 7) / 8)
  have hring : ∀ r < 24, ((s.start.taken p.val seq.val 1 (3 + (data.length + 7) / 8)).ring r).tag ≠ some tag.val := fun r hr => by
    rw [Dev.ring_taken]; exact h r hr
  rw [exec_dmaCompletion_taken hs ht, Dev.dmaDone_none err data hring]
  generalize s.start.taken p.val seq.val 1 (3 + (data.length + 7) / 8) = e at htalk hport
  have hrest := htalk.rest
  have hlog : e.glk.log = s.dev.glk.log := htalk.log.resolve_left (by decide)
  rw [State.after_quiet (htalk.replies.trans hs.2.1) (htalk.wipes.trans hs.2.2)]
  refine ⟨_, rfl, by rw [hport], fun a ha => htalk.rd a ha, ?_⟩
  rw [hlog] at hrest
  generalize e.regs = r, e.out = o, e.glk.portA = pa, e.glk.portB = pb at hrest
  rw [hrest]
  rfl

theorem dmaCompletion_answers (hs : s.Runs) (ht : s.dev.Takes p.val seq.val) {r : Nat} (hr : r < 24) (h : (s.dev.ring r).tag = some tag.val)
    (hfirst : ∀ q < r, (s.dev.ring q).tag ≠ some tag.val) :
    (∃ t, exec (.dmaCompletion p seq tag true data) s = .next t ∧ (t.dev.ring r).tag = none ∧
      t.dev.bit (rGLK_RING_CTRL r) fGLK_RING_CTRL_STOPPED = true ∧ t.dev.bit rGLK_ERR fGLK_ERR_RING_FAULT = true) ∧
    (r < 16 → (s.dev.ring r).waits = [] → s.dev.ringOwned r ≤ (s.dev.ring r).posted.length + data.length / 16 →
      ∃ t, exec (.dmaCompletion p seq tag false data) s = .next t ∧ (t.dev.ring r).tag = none ∧
        (t.dev.ring r).posted = (s.dev.ring r).posted ++
          (List.range (data.length / 16)).map (fun i => (leAt data (16 * i) 8, leAt data (16 * i + 8) 2))) := by
  have hexec := fun err => exec_dmaCompletion_taken (tag := tag) (data := data) hs ht err
  have hring := s.start.ring_taken p.val seq.val 1 (3 + (data.length + 7) / 8)
  have htalk := s.start.talk_taken p.val seq.val 1 (3 + (data.length + 7) / 8)
  generalize s.start.taken p.val seq.val 1 (3 + (data.length + 7) / 8) = e at hexec hring htalk
  have hring' : ∀ q, e.ring q = s.dev.ring q := hring
  have hdone := fun err => Dev.dmaDone_first (d := e) err data hr (by rw [hring']; exact h) (fun q hq => by rw [hring']; exact hfirst q hq)
  refine ⟨⟨_, hexec true, ?_⟩, fun h16 hw ho => ⟨_, hexec false, ?_⟩⟩
  · rw [State.after_ring, State.after_bit, State.after_bit, hdone, if_pos rfl]
    exact e.ringFault_shown r hr
  · rw [State.after_ring, hdone, if_neg Bool.false_ne_true, ← hring' r]
    have hrd : ∀ a, a ≠ rGLK_CNT 1 → e.rd a = s.dev.rd a := fun a ha => (htalk.rd a (by simpa using ha)).trans rfl
    have howned : e.ringOwned r = s.dev.ringOwned r := by
      rw [Dev.ringOwned, Dev.ringSize, Dev.ringHead, Dev.get_congr (hrd (rGLK_RING_CTRL r) (by unfold rGLK_RING_CTRL rGLK_CNT; omega)),
        Dev.get_congr (hrd (rGLK_RING_HEAD r) (by unfold rGLK_RING_HEAD rGLK_CNT; omega)),
        Dev.get_congr (hrd (rGLK_RING_TAIL r) (by unfold rGLK_RING_TAIL rGLK_CNT; omega)), ← Dev.ringSize, ← Dev.ringHead, ← Dev.ringOwned]
    exact Dev.ringData_posts h16 (by rw [hring']; exact hw) (by rw [howned, hring']; exact ho)

end

end Sys2Proof.Machine

/-! Ring events, alerts, violations and the diagnostic commands, and the obligation on them (19_gellen.md R563-R580). -/

namespace Sys2Proof.Machine

/-- A command that only answers. -/
theorem State.run_shows {s : State} {m : Fin 64} {code : Nat} {c : Cmd} {r : Nat} {resp : List Byte} (h : s.Ready m code c)
    {body : Cmd → Dev → Dev} (hb : body c s.start = s.start.finish c.mbx r resp) (hc : r < 65536) (hl : resp.length ≤ 0x800) :
    ∃ t, s.run (fun d => d.command m.val code body) = .next t ∧ s.OnlyAnswers t m ∧ t.Done m r resp := by
  rw [h.mbx_eq] at hb
  obtain ⟨t, hrun, hdone, honly⟩ := State.run_query h hb hc hl
  exact ⟨t, hrun, honly, hdone⟩

/-! RING_EVENT and RING_FAULT (R572, R573). -/

section
variable {s : State} {r : Fin 24}

theorem ringEvent_reports (hs : s.Runs) {p : Nat} (hsince : (s.dev.ring r.val).since ≠ 0) (hp : s.dev.ringPort r.val = some p)
    (hmay : s.dev.MaySend p 0x92 8) : ∃ t, exec (.ringEvent r) s = .next t ∧ (t.dev.ring r.val).since = 0 ∧
      s.Sends t p 0x92 (leB 1 r.val ++ leB 3 0 ++ leB 4 (s.dev.ringHead r.val)) := by
  obtain ⟨e, he, hport, hring, hstate⟩ : ∃ e : Dev, s.start.ringEvent r.val =
      e.send p 0x92 (leB 1 r.val ++ leB 3 0 ++ leB 4 (s.dev.ringHead r.val)) ∧ e.port p = s.dev.port p ∧
      e.ring r.val = { s.dev.ring r.val with since := 0 } ∧ e.portState p = s.dev.portState p := by
    refine ⟨s.start.updRing r.val (fun x => { x with since := 0 }), ?_, rfl, Dev.ring_updRing_same .., rfl⟩
    have hsince' : (s.start.ring r.val).since ≠ 0 := hsince
    have hp' : s.start.ringPort r.val = some p := hp
    rw [Dev.ringEvent, if_neg hsince', hp']
    rfl
  have hlen : (leB 1 r.val ++ leB 3 0 ++ leB 4 (s.dev.ringHead r.val)).length = 8 := by
    simp only [List.length_append, length_leB]
  have hsent := Dev.port_send (d := e) (p := p) (typ := 0x92) (body := leB 1 r.val ++ leB 3 0 ++ leB 4 (s.dev.ringHead r.val))
    (by rw [hlen, Dev.MaySend, hstate, hport]; exact hmay) (by rw [hlen])
  rw [exec_ringEvent]
  refine ⟨_, State.run_after hs.1 (f := fun d => d.ringEvent r.val) he, ?_⟩
  rw [State.Sends, State.after_ring, State.after_port, hsent, hport, Dev.ring_congr (Dev.talk_send ..).glk_rings, hring]
  exact ⟨rfl, rfl, rfl⟩

theorem ringEvent_idle (hs : s.Runs) (h : (s.dev.ring r.val).since = 0) : ∃ t, exec (.ringEvent r) s = .next t ∧ s.OnlyChanges t [] s.dev := by
  rw [exec_ringEvent]
  exact State.run_nothing hs (if_pos h)

theorem ringFault_idle (hs : s.Runs) (h : (s.dev.ring r.val).tag = none) : ∃ t, exec (.ringFault r) s = .next t ∧ s.OnlyChanges t [] s.dev := by
  have hnone : (s.start.ring r.val).tag.isSome = false := by rw [show (s.start.ring r.val).tag = none from h]; rfl
  rw [exec_ringFault]
  exact State.run_nothing hs (by rw [hnone]; exact if_neg Bool.false_ne_true)

theorem ringFault_stops (hs : s.Runs) (h : (s.dev.ring r.val).tag ≠ none) : ∃ t, exec (.ringFault r) s = .next t ∧
    (t.dev.ring r.val).tag = none ∧ t.dev.bit (rGLK_RING_CTRL r.val) fGLK_RING_CTRL_STOPPED = true ∧
    t.dev.bit rGLK_ERR fGLK_ERR_RING_FAULT = true := by
  rw [exec_ringFault]
  refine ⟨_, State.run_after hs.1 (if_pos (Option.isSome_iff_ne_none.2 h)), ?_⟩
  rw [State.after_ring, State.after_bit, State.after_bit]
  exact s.start.ringFault_shown r.val r.isLt

end

/-! Alerts (R575). -/

/-- ALERT_PEND after the alert pin has followed: an alert is not acknowledged. -/
theorem Dev.alertPin_pends (d : Dev) : d.alertPin.bit rGLK_STATUS fGLK_STATUS_ALERT_PEND =
    (d.get rGLK_ALERT_SEQ fGLK_ALERT_SEQ_SEQ != d.get rGLK_ALERT_ACK fGLK_ALERT_ACK_SEQ) := by
  unfold Dev.alertPin
  generalize (d.get rGLK_ALERT_SEQ fGLK_ALERT_SEQ_SEQ != d.get rGLK_ALERT_ACK fGLK_ALERT_ACK_SEQ) = b
  dsimp only
  split
  · next h => rw [Dev.bit, h]; cases b <;> rfl
  · rw [Dev.bit_emit, Dev.bit_put_ne _ _ _ _ (by decide)]
    cases b
    · exact Dev.bit_put_zero _ _ (by decide)
    · exact Dev.bit_put_one _ _ (by decide)

theorem Dev.writes_alertPin (d : Dev) : Dev.Writes (· ∈ [rGLK_ALERT_ACK, rGLK_STATUS, rPIN_STATUS]) d d.alertPin := by
  unfold Dev.alertPin
  dsimp only
  exact .ite (.refl _ d) (((d.writes_put _ _ (.tail _ (.head _))).trans (Dev.writes_put _ _ _ (.tail _ (.tail _ (.head _))))).trans
    (Dev.writes_emit ..))

theorem glkAlertAck_shows {s : State} (hs : s.Runs) (val : Word) : ∃ t, exec (.glkAlertAck val) s = .next t ∧
    t.dev.rdN rGLK_ALERT_ACK = s.dev.stored rGLK_ALERT_ACK val.toNat ∧
    (t.dev.bit rGLK_STATUS fGLK_STATUS_ALERT_PEND = true ↔
      s.dev.get rGLK_ALERT_SEQ fGLK_ALERT_SEQ_SEQ ≠ t.dev.get rGLK_ALERT_ACK fGLK_ALERT_ACK_SEQ) ∧
    s.OnlyChanges t [rGLK_ALERT_ACK, rGLK_STATUS, rPIN_STATUS] s.dev := by
  have hacc := s.start.writes_access (P := (· ∈ [rGLK_ALERT_ACK, rGLK_STATUS, rPIN_STATUS])) val.toNat (List.mem_cons_self ..)
  have hstored : (s.start.access rGLK_ALERT_ACK val.toNat).rdN rGLK_ALERT_ACK = s.dev.stored rGLK_ALERT_ACK val.toNat :=
    (Dev.rdN_access_same ..).trans (Dev.stored_congr (d := s.start) (e := s.dev) rfl _)
  obtain ⟨e, he, hpin⟩ : ∃ e : Dev, s.start.writeAlertAck val.toNat = e.alertPin ∧ e = s.start.access rGLK_ALERT_ACK val.toNat := ⟨_, rfl, rfl⟩
  rw [← hpin] at hacc hstored
  have hack := e.talk_alertPin_pins.rd rGLK_ALERT_ACK (by decide)
  have hseq : e.get rGLK_ALERT_SEQ fGLK_ALERT_SEQ_SEQ = s.dev.get rGLK_ALERT_SEQ fGLK_ALERT_SEQ_SEQ :=
    (Dev.get_congr (hacc.rd _ (by decide)) _).trans rfl
  have hpend := e.alertPin_pends
  obtain ⟨hrun, honly⟩ := State.run_writes_regs hs (f := fun d => d.writeAlertAck val.toNat) he (hacc.trans e.writes_alertPin)
  refine ⟨_, (exec_glkAlertAck ..).trans hrun, (Dev.rdN_congr hack).trans hstored, ?_, honly⟩
  show e.alertPin.bit rGLK_STATUS fGLK_STATUS_ALERT_PEND = true ↔ _ ≠ e.alertPin.get rGLK_ALERT_ACK fGLK_ALERT_ACK_SEQ
  rw [hpend, Dev.get_congr hack, hseq]
  exact bne_iff_ne

/-- Words written to the registers of a run. -/
def Dev.wordsShown (d : Dev) (a : Nat → Nat) (w : Nat → Nat) (n : Nat) : Dev := (List.range n).foldl (fun d i => d.wrN (a i) (w i)) d

theorem Dev.writes_wordsShown {P : Nat → Prop} (d : Dev) {a : Nat → Nat} (w : Nat → Nat) {n : Nat} (h : ∀ i < n, P (a i)) :
    d.Writes P (d.wordsShown a w n) :=
  .foldl (fun _ i hi => Dev.writes_wrN _ _ (h i (List.mem_range.1 hi))) d

theorem Dev.rdN_wordsShown (d : Dev) {a : Nat → Nat} (w : Nat → Nat) {n : Nat} (hinj : ∀ i < n, ∀ j < n, a i = a j → i = j) {i : Nat}
    (hi : i < n) : (d.wordsShown a w n).rdN (a i) = w i % 2 ^ 32 := by
  unfold Dev.wordsShown
  induction n with
  | zero => exact absurd hi (Nat.not_lt_zero i)
  | succ n ih =>
    rw [List.range_succ, List.foldl_append, List.foldl_cons, List.foldl_nil]
    by_cases hin : i = n
    · rw [hin, Dev.rdN_wrN_same]
    · rw [Dev.rdN_wrN_ne _ _ fun he => hin (hinj i hi n (Nat.lt_succ_self n) he)]
      exact ih (fun j hj k hk => hinj j (Nat.lt_succ_of_lt hj) k (Nat.lt_succ_of_lt hk)) (by omega)

theorem glkAlertSel_shows {s : State} (hs : s.Runs) {val : Word} {x : AlertRec} (hgo : nbit val.toNat 31 = true)
    (hx : s.dev.glk.log.find? (fun a => a.seq % 256 == fieldOf val.toNat fGLK_ALERT_SEL_ENTRY) = some x) :
    ∃ t, exec (.glkAlertSel val) s = .next t ∧ (∀ i < 10, t.dev.rdN (rGLK_ALERT_DATA i) = leAt x.body (4 * i) 4) ∧
      s.OnlyChanges t (rGLK_ALERT_SEL :: (List.range 10).map rGLK_ALERT_DATA) s.dev := by
  have hacc := s.start.writes_access (P := (· ∈ rGLK_ALERT_SEL :: (List.range 10).map rGLK_ALERT_DATA)) (val.toNat % 2 ^ 31)
    (List.mem_cons_self ..)
  obtain ⟨e, he, hw⟩ : ∃ e : Dev, s.start.writeAlertSel val.toNat = e.wordsShown rGLK_ALERT_DATA (fun i => leAt x.body (4 * i) 4) 10 ∧
      Dev.Writes (· ∈ rGLK_ALERT_SEL :: (List.range 10).map rGLK_ALERT_DATA) s.start e := by
    refine ⟨_, ?_, hacc⟩
    have hlog : (s.start.access rGLK_ALERT_SEL (val.toNat % 2 ^ 31)).glk = s.dev.glk := hacc.glk
    unfold Dev.writeAlertSel
    dsimp only
    generalize s.start.access rGLK_ALERT_SEL (val.toNat % 2 ^ 31) = e at hlog
    rw [hgo, Bool.not_true, if_neg Bool.false_ne_true, hlog, hx]
    rfl
  have hdata : ∀ i < 10, rGLK_ALERT_DATA i ∈ rGLK_ALERT_SEL :: (List.range 10).map rGLK_ALERT_DATA := fun i hi =>
    .tail _ (List.mem_map_of_mem (List.mem_range.2 hi))
  have hshown := fun i (hi : i < 10) => e.rdN_wordsShown (a := rGLK_ALERT_DATA) (fun i => leAt x.body (4 * i) 4) (n := 10)
    (fun i _ j _ h => by unfold rGLK_ALERT_DATA at h; omega) hi
  obtain ⟨hrun, honly⟩ := State.run_writes_regs hs (f := fun d => d.writeAlertSel val.toNat) he
    (hw.trans (e.writes_wordsShown _ hdata))
  refine ⟨_, (exec_glkAlertSel ..).trans hrun, fun i hi => (hshown i hi).trans (Nat.mod_eq_of_lt ?_), honly⟩
  exact leAt_lt x.body (4 * i) 4

/-! Violations (R577). -/

theorem glkViolPop_idle {s : State} (hs : s.Runs) {val : Word} (h : nbit val.toNat 0 = false) :
    ∃ t, exec (.glkViolPop val) s = .next t ∧ s.OnlyChanges t [] s.dev := by
  rw [exec_glkViolPop]
  exact State.run_nothing hs (by rw [Dev.violPop, h]; exact if_neg Bool.false_ne_true)

theorem glkViolPop_shows {s : State} (hs : s.Runs) {val : Word} {x y : Viol} {q : List Viol} (hgo : nbit val.toNat 0 = true)
    (hv : s.dev.glk.viols = x :: y :: q) : ∃ t, exec (.glkViolPop val) s = .next t ∧
      t.dev.glk.viols = y :: q ∧ (∀ i < 4, t.dev.rdN (rGLK_VIOL_DATA i) = y.words.getD i 0 % 2 ^ 32) ∧
      s.OnlyChanges t ((List.range 4).map rGLK_VIOL_DATA) { s.dev with glk := { s.dev.glk with viols := y :: q } } := by
  obtain ⟨e, he, hglk, hw⟩ : ∃ e : Dev, s.start.violPop val.toNat = e.wordsShown rGLK_VIOL_DATA (fun i => y.words.getD i 0) 4 ∧
      e.glk.viols = y :: q ∧ e = { s.start with glk := { s.dev.glk with viols := y :: q } } := by
    refine ⟨_, ?_, rfl, rfl⟩
    have hdrop : s.start.glk.viols.drop 1 = y :: q := by rw [show s.start.glk.viols = x :: y :: q from hv]; rfl
    rw [Dev.violPop, if_pos hgo, Dev.violDrop, hdrop]
    rfl
  have hwords := e.writes_wordsShown (P := (· ∈ (List.range 4).map rGLK_VIOL_DATA)) (a := rGLK_VIOL_DATA) (fun i => y.words.getD i 0)
    (n := 4) (fun i hi => List.mem_map_of_mem (List.mem_range.2 hi))
  have hshown := fun i (hi : i < 4) => e.rdN_wordsShown (a := rGLK_VIOL_DATA) (fun i => y.words.getD i 0) (n := 4)
    (fun i _ j _ h => by unfold rGLK_VIOL_DATA at h; omega) hi
  have hviols := (congrArg GlkState.viols hwords.glk).trans hglk
  rw [hw] at he hwords hshown hviols
  obtain ⟨hrun, honly⟩ := State.run_writes hs (f := fun d => d.violPop val.toNat) (o := [])
    (d := { s.dev with glk := { s.dev.glk with viols := y :: q } }) ⟨rfl, rfl, rfl⟩ he hwords
  exact ⟨_, (exec_glkViolPop ..).trans hrun, hviols, hshown, honly⟩

/-! DIAG_LINK and DIAG_MAILBOX (R579, R580). -/

theorem diagLink_answers {s : State} {m : Fin 64} {c : Cmd} (h : s.Ready m 0x0C04 c) (hown : c.isOwner = true) (h0 : c.u8 0 = 0)
    (h1 : c.u8 1 = 0) (h2 : c.u8 2 = 0) (h3 : c.zero 3 1 = true) (hends : c.endsAt 4 = true) :
    ∃ t, exec (.diagLink m) s = .next t ∧ s.OnlyAnswers t m ∧
      t.Done m 0 (leB 4 (s.dev.rdN rGLK_STATUS) ++ leB 4 (s.dev.rdN rGLK_ERR) ++ (List.range 10).flatMap (fun i => leB 4 (s.dev.rdN (rGLK_CNT i)))) := by
  have hflags : c.only 2 0x80 = true := by rw [Cmd.only, h2]; rfl
  have hlen : ((List.range 10).flatMap (fun i => leB 4 (s.dev.rdN (rGLK_CNT i)))).length = 40 := by
    simp only [List.length_flatMap, length_leB]
    decide
  refine State.run_shows h ((Cmd.checks_pass c _ ?checks _).trans ?runs) (by decide) (by simp only [List.length_append, length_leB, hlen]; decide)
  case checks =>
    simp [Cmd.mustOwn, inForm, hown, h0, h1, hflags, h3, hends]
  case runs =>
    simp only [h0, Cmd.ok, Nat.reduceEqDiff, if_false, List.append_nil]
    rfl

theorem diagMailbox_answers {s : State} {m : Fin 64} {c : Cmd} (h : s.Ready m 0x0C05 c) (hown : c.isOwner = true) (h0 : c.u8 0 = 0)
    (h1 : c.u8 1 = 0) (h2 : c.u8 2 = 0) (h3 : c.u8 3 = 0) (hends : c.endsAt 4 = true) :
    ∃ t, exec (.diagMailbox m) s = .next t ∧ s.OnlyAnswers t m ∧ t.Done m 0 s.dev.ownerBytes := by
  have hflags : c.only 3 0x80 = true := by rw [Cmd.only, h3]; rfl
  have hlen : s.dev.ownerBytes.length = 64 := by
    rw [Dev.ownerBytes]
    simp only [List.length_flatMap, length_leB]
    decide
  refine State.run_shows h ((Cmd.checks_pass c _ ?checks _).trans ?runs) (by decide) (by rw [hlen]; decide)
  case checks =>
    simp [Cmd.mustOwn, inForm, hown, h0, h1, h2, hflags, hends]
  case runs =>
    simp only [h0, Cmd.ok, Nat.reduceEqDiff, if_false]
    rfl

/-- Settles O44: the doorbell and the assignment from what they write, the rings from one step of a ring, the rest from the
registers they show. -/
theorem mailboxesRingsAndAlerts : Obligations.MailboxesRingsAndAlerts := by
  unfold Obligations.MailboxesRingsAndAlerts
  refine ⟨fun s m val hs hgo => ⟨mbxDoorbell_busy hs hgo, fun code len n req hfree hready hcode hlen hreq => ?_⟩,
    fun s i val hs => ⟨glkMbxOwnerWrite_privileged hs val, glkMbxOwnerWrite_assigns hs val⟩,
    fun s r val hs hen hwas => ringCtrlWrite_enables hs hen hwas,
    fun s r val hs => ⟨ringTailWrite_stopped hs val, fun hr hruns htag hdescs hmay _ howned =>
      ringTailWrite_fetches hs val hr hruns htag hdescs hmay howned⟩,
    fun s p seq tag data hs ht => ⟨fun h err => dmaCompletion_unasked hs ht h err, fun r hr h hfirst => dmaCompletion_answers hs ht hr h hfirst⟩,
    fun s r hs => ⟨ringEvent_idle hs, fun p hsince hp _ hmay => ringEvent_reports hs hsince hp hmay,
      ringFault_idle hs, ringFault_stops hs⟩,
    fun s val hs => ⟨glkAlertAck_shows hs val, fun x hgo hx => glkAlertSel_shows hs hgo hx,
      glkViolPop_idle hs, fun x y q hgo hv => glkViolPop_shows hs hgo hv⟩,
    fun s m c h hown h0 h1 h2 h3 hends => diagLink_answers h hown h0 h1 h2 h3 hends,
    fun s m c h hown h0 h1 h2 h3 hends => diagMailbox_answers h hown h0 h1 h2 h3 hends⟩
  obtain ⟨hsome, hnone⟩ := mbxDoorbell_taken hs hgo hfree hready hcode hlen hreq
  exact ⟨hsome n, hnone⟩

end Sys2Proof.Machine

/-! The states of boot: the Archive, the clocks, the tests and the firmware (20_clocks_boot.md R595-R600). -/

namespace Sys2Proof.Machine

/-! Taking a copy of the Archive (R596). -/

theorem Dev.rd_copyBad (d : Dev) (c : Nat) {a : Nat} (h1 : a ≠ rBOOT_ERR) (h2 : a ∉ alertRegs) : (d.copyBad c).rd a = d.rd a := by
  unfold Dev.copyBad
  exact (Dev.rd_alert _ _ _ h2).trans (Dev.rd_put_ne _ _ _ h1)

/-- The copies taken in vain leave a register of boot as it was. -/
theorem Dev.rd_copiesBad (d : Dev) (l : List Nat) {a : Nat} (h1 : a ≠ rBOOT_ERR) (h2 : a ∉ alertRegs) :
    (l.foldl Dev.copyBad d).rd a = d.rd a :=
  foldl_keeps (f := Dev.copyBad) (fun d : Dev => d.rd a) (fun d c => d.rd_copyBad c h1 h2) l d

theorem Dev.rd_bootClocks (d : Dev) {a : Nat} (h1 : a ≠ rCLK_STATUS) (h2 : a ≠ rBOOT_STATUS) (h3 : a ≠ rDRAM_STATUS) :
    d.bootClocks.rd a = d.rd a := by
  unfold Dev.bootClocks Dev.when Dev.setBoot
  dsimp only
  split
  · rw [Dev.rd_put_ne _ _ _ h3, Dev.rd_put_ne _ _ _ h2]
    split
    · exact Dev.rd_put_ne _ _ _ h1
    · rfl
  · rfl

/-- Passing CLOCKS changes no field of BOOT_STATUS but STATE, which it takes from 2 to 3. -/
theorem Dev.bootClocks_status (d : Dev) : (∀ g, fBOOT_STATUS_STATE.disjoint g → d.bootClocks.get rBOOT_STATUS g = d.get rBOOT_STATUS g) ∧
    (d.bootClocks.bootState = 3 ∨ d.bootClocks.bootState = d.bootState) := by
  unfold Dev.bootClocks Dev.when Dev.setBoot Dev.bootState
  dsimp only
  split
  next hb =>
    refine ⟨fun g hg => ?_, .inl ?_⟩
    · rw [Dev.get_put_ne _ _ _ _ (by decide), Dev.get_put_disjoint _ _ _ hg]
      split
      · exact Dev.get_put_ne _ _ _ _ (by decide)
      · rfl
    · rw [Dev.get_put_ne _ _ _ _ (by decide), Dev.get_put_eq _ _ (by decide)]
  next => exact ⟨fun _ _ => rfl, .inr rfl⟩

/-- Boot with a copy whose checks pass, before CLOCKS. -/
def Dev.copyTaken (d : Dev) (flash : List Host.Cell) (c : Nat) : Dev :=
  let h := copyHeader flash c
  let full := nbit (byteAt h 6) 0 || d.bit rBOOT_CTRL fBOOT_CTRL_FULL_NEXT
  let d := (d.put rBOOT_STATUS fBOOT_STATUS_COPY c).put rBOOT_STATUS fBOOT_STATUS_FULL (b2n full)
  let d := d.wr64 rBOOT_SEQ_LO rBOOT_SEQ_HI (copySeq flash c)
  { d with clk := { d.clk with degrade := nbit (byteAt h 6) 1 } }.setBoot 2

theorem Dev.takeCopy_cons (d : Dev) (flash : List Host.Cell) (c : Nat) (cs : List Nat) : d.takeCopy flash (c :: cs) =
    if copyCode d.revision flash c = 0 then (d.copyTaken flash c).bootClocks else (d.copyBad c).takeCopy flash cs := rfl

theorem Dev.copyTaken_status (d : Dev) (flash : List Host.Cell) {c : Nat} (hc : c < 2) : (d.copyTaken flash c).bootState = 2 ∧
    (d.copyTaken flash c).get rBOOT_STATUS fBOOT_STATUS_COPY = c ∧
    (d.copyTaken flash c).get rBOOT_STATUS fBOOT_STATUS_A_VALID = d.get rBOOT_STATUS fBOOT_STATUS_A_VALID ∧
    (d.copyTaken flash c).get rBOOT_STATUS fBOOT_STATUS_B_VALID = d.get rBOOT_STATUS fBOOT_STATUS_B_VALID := by
  have hkeep : ∀ (e : Dev) (v : Nat) (g : Fld), (e.wr64 rBOOT_SEQ_LO rBOOT_SEQ_HI v).get rBOOT_STATUS g = e.get rBOOT_STATUS g :=
    fun e v g => Dev.get_congr ((Dev.rd_wrN_ne _ _ (by decide)).trans (Dev.rd_wrN_ne _ _ (by decide))) g
  have hcopy : fBOOT_STATUS_COPY.lo ≤ fBOOT_STATUS_COPY.hi ∧ fBOOT_STATUS_COPY.hi < 32 ∧
      c < 2 ^ (fBOOT_STATUS_COPY.hi - fBOOT_STATUS_COPY.lo + 1) := ⟨by decide, by decide, hc⟩
  unfold Dev.copyTaken Dev.setBoot Dev.bootState
  dsimp only
  refine ⟨Dev.get_put_eq _ _ (by decide), ?_, ?_, ?_⟩ <;> rw [Dev.get_put_disjoint _ _ _ (by decide), Dev.get_withClk, hkeep,
    Dev.get_put_disjoint _ _ _ (by decide)]
  · exact Dev.get_put_eq _ _ hcopy
  · exact Dev.get_put_disjoint _ _ _ (by decide)
  · exact Dev.get_put_disjoint _ _ _ (by decide)

theorem Dev.revision_copyBad (d : Dev) (c : Nat) : (d.copyBad c).revision = d.revision := by
  rw [Dev.revision, Dev.rdN_congr (d.rd_copyBad c (a := rGLOBAL_ID) (by decide) (by decide)), Dev.revision]

/-- Boot ends in NOBOOT where no copy of the list passes its checks, and otherwise goes on with one that does. -/
theorem Dev.takeCopy_shown (flash : List Host.Cell) {l : List Nat} (hl : ∀ c ∈ l, c < 2) (d : Dev) :
    (d.takeCopy flash l).get rBOOT_STATUS fBOOT_STATUS_A_VALID = d.get rBOOT_STATUS fBOOT_STATUS_A_VALID ∧
    (d.takeCopy flash l).get rBOOT_STATUS fBOOT_STATUS_B_VALID = d.get rBOOT_STATUS fBOOT_STATUS_B_VALID ∧
    ((d.takeCopy flash l).bootState = 7 ↔ ∀ c ∈ l, copyCode d.revision flash c ≠ 0) ∧
    ((d.takeCopy flash l).bootState ≠ 7 →
      copyCode d.revision flash ((d.takeCopy flash l).get rBOOT_STATUS fBOOT_STATUS_COPY) = 0) := by
  induction l generalizing d with
  | nil =>
    have hst : (d.takeCopy flash []).bootState = 7 := Dev.get_put_eq _ _ (by decide)
    exact ⟨Dev.get_put_disjoint _ _ _ (by decide), Dev.get_put_disjoint _ _ _ (by decide), by simp [hst], absurd hst⟩
  | cons c cs ih =>
    rw [Dev.takeCopy_cons]
    by_cases hc : copyCode d.revision flash c = 0
    · rw [if_pos hc]
      obtain ⟨hst, hcopy, ha, hb⟩ := d.copyTaken_status flash (hl c (.head _))
      obtain ⟨hkeep, hgo⟩ := (d.copyTaken flash c).bootClocks_status
      have hne : (d.copyTaken flash c).bootClocks.bootState ≠ 7 := by
        rw [hst] at hgo
        rcases hgo with h | h <;> rw [h] <;> decide
      refine ⟨(hkeep _ (by decide)).trans ha, (hkeep _ (by decide)).trans hb, ?_, fun _ => ?_⟩
      · exact iff_of_false hne fun h => h c (.head _) hc
      · rw [hkeep _ (by decide), hcopy, hc]
    · rw [if_neg hc]
      obtain ⟨ha, hb, h7, hok⟩ := ih (fun x hx => hl x (.tail _ hx)) (d.copyBad c)
      have hkeep : ∀ g, (d.copyBad c).get rBOOT_STATUS g = d.get rBOOT_STATUS g :=
        Dev.get_congr (d.rd_copyBad c (by decide) (by decide))
      rw [d.revision_copyBad] at h7 hok
      refine ⟨ha.trans (hkeep _), hb.trans (hkeep _), ?_, hok⟩
      rw [h7, List.forall_mem_cons, and_iff_right hc]

/-- A copy whose header and signature pass. -/
def copyValid (rev : Nat) (flash : List Host.Cell) (c : Nat) : Bool := !(copyCode rev flash c == 1) && !(copyCode rev flash c == 2)

theorem copyValid_iff (rev : Nat) (flash : List Host.Cell) (c : Nat) :
    copyValid rev flash c = true ↔ copyCode rev flash c ≠ 1 ∧ copyCode rev flash c ≠ 2 := by
  simp [copyValid]

theorem FORCE_COPY_lt (d : Dev) : d.get rBOOT_CTRL fBOOT_CTRL_FORCE_COPY < 2 := fieldOf_lt ..

/-- In a boot's first pass, the copies it may take are those whose header and signature pass. -/
theorem Dev.mem_copyOrder {d : Dev} (flash : List Host.Cell) (valid : Nat → Bool) (ht : d.clk.tried = 0) (c : Nat) :
    c ∈ d.copyOrder flash valid ↔ c < 2 ∧ valid c = true := by
  have hboth : ∀ n < 2, (c ∈ [n, 1 - n] ↔ c < 2) := by
    intro n hn
    simp only [List.mem_cons, List.not_mem_nil, or_false]
    omega
  have htried : nbit 0 c = false := by rw [nbit_eq_testBit, Nat.zero_testBit]
  rw [Dev.copyOrder, List.mem_filter, ht, htried, Bool.not_false, Bool.and_true]
  refine and_congr_left' ?_
  split
  · exact hboth _ (FORCE_COPY_lt d)
  · split
    · exact hboth 1 (by decide)
    · exact hboth 0 (by decide)

/-- The Archive as boot finds it, before it takes a copy. -/
def Dev.archiveShown (d : Dev) (flash : List Host.Cell) : Dev :=
  ([0, 1].filter (fun c => !(copyValid d.revision flash c) && !(nbit d.clk.tried c))).foldl Dev.copyBad
    ((d.put rBOOT_STATUS fBOOT_STATUS_A_VALID (b2n (copyValid d.revision flash 0))).put rBOOT_STATUS fBOOT_STATUS_B_VALID
      (b2n (copyValid d.revision flash 1)))

theorem Dev.bootArchive_eq {d : Dev} (flash : List Host.Cell) (h : d.bootState = 1) : d.bootArchive flash =
    (d.archiveShown flash).takeCopy flash (d.copyOrder flash (copyValid d.revision flash)) := by
  unfold Dev.bootArchive Dev.archiveShown copyValid
  dsimp only
  rw [if_neg (not_not_intro h), Dev.put_clk, Dev.put_clk]

theorem Dev.archiveShown_status (d : Dev) (flash : List Host.Cell) :
    (d.archiveShown flash).bit rBOOT_STATUS fBOOT_STATUS_A_VALID = copyValid d.revision flash 0 ∧
    (d.archiveShown flash).bit rBOOT_STATUS fBOOT_STATUS_B_VALID = copyValid d.revision flash 1 ∧
    (d.archiveShown flash).revision = d.revision := by
  unfold Dev.archiveShown
  refine ⟨?_, ?_, ?_⟩
  · rw [Dev.bit_congr (Dev.rd_copiesBad _ _ (by decide) (by decide)), Dev.bit_put_disjoint _ _ _ (by decide), Dev.bit_put_eq _ _ _ (by decide)]
  · rw [Dev.bit_congr (Dev.rd_copiesBad _ _ (by decide) (by decide)), Dev.bit_put_eq _ _ _ (by decide)]
  · unfold Dev.revision
    rw [Dev.rdN_congr (Dev.rd_copiesBad _ _ (by decide) (by decide)), Dev.rdN_congr (Dev.rd_put_ne _ _ _ (by decide)),
      Dev.rdN_congr (Dev.rd_put_ne _ _ _ (by decide))]

theorem exec_bootArchiveVerified (s : State) : exec .bootArchiveVerified s = s.run (fun d => d.bootArchive s.flash) := rfl

theorem bootArchiveVerified_idle {s : State} (hs : s.Runs) (h : s.dev.bootState ≠ 1) :
    ∃ t, exec .bootArchiveVerified s = .next t ∧ s.OnlyChanges t [] s.dev := by
  rw [exec_bootArchiveVerified]
  exact State.run_nothing hs (if_pos h)

theorem bootArchiveVerified_takes {s : State} (hs : s.Runs) (h : s.dev.bootState = 1) (ht : s.dev.clk.tried = 0) :
    ∃ t, exec .bootArchiveVerified s = .next t ∧ t.flash = s.flash ∧
      (t.dev.bit rBOOT_STATUS fBOOT_STATUS_A_VALID = true ↔ copyCode s.dev.revision s.flash 0 ≠ 1 ∧ copyCode s.dev.revision s.flash 0 ≠ 2) ∧
      (t.dev.bit rBOOT_STATUS fBOOT_STATUS_B_VALID = true ↔ copyCode s.dev.revision s.flash 1 ≠ 1 ∧ copyCode s.dev.revision s.flash 1 ≠ 2) ∧
      (t.dev.bootState = 7 ↔ ∀ c < 2, copyCode s.dev.revision s.flash c ≠ 0) ∧
      (t.dev.bootState ≠ 7 → copyCode s.dev.revision s.flash (t.dev.get rBOOT_STATUS fBOOT_STATUS_COPY) = 0) := by
  have hmem := Dev.mem_copyOrder (d := s.start) s.flash (copyValid s.start.revision s.flash) ht
  obtain ⟨ha, hb, hrev⟩ := s.start.archiveShown_status s.flash
  obtain ⟨hka, hkb, h7, hok⟩ := Dev.takeCopy_shown s.flash (fun c hc => ((hmem c).1 hc).1) (s.start.archiveShown s.flash)
  rw [exec_bootArchiveVerified]
  refine ⟨_, State.run_after hs.1 (f := fun d => d.bootArchive s.flash) (Dev.bootArchive_eq s.flash h), rfl, ?_, ?_, ?_, ?_⟩
  · rw [State.after_bit, Dev.bit, hka, ← Dev.bit, ha]
    exact copyValid_iff ..
  · rw [State.after_bit, Dev.bit, hkb, ← Dev.bit, hb]
    exact copyValid_iff ..
  · rw [State.after_bootState, h7, hrev]
    refine ⟨fun hall c hc hz => ?_, fun hall c hc => hall c ((hmem c).1 hc).1⟩
    exact hall c ((hmem c).2 ⟨hc, (copyValid_iff ..).2 (by rw [show copyCode s.start.revision s.flash c = 0 from hz]; decide)⟩) hz
  · rw [State.after_bootState, State.after_get]
    rw [hrev] at hok
    exact hok

end Sys2Proof.Machine

/-! Boot past the Archive: the clocks, the tests, the firmware and its limit (20_clocks_boot.md R586, R597-R600). -/

namespace Sys2Proof.Machine

/-- An effect on the whole machine of a device with a clock, run as one step. -/
theorem State.runS_after {s t : State} (hc : s.dev.clocked = true) {f : State → State} (h : f { s with dev := s.start } = t) :
    s.runS f = .next (deliver t) := by
  rw [← h, State.runS, if_pos hc]
  rfl

/-! CLOCKS (R586, R598). -/

/-- The device with REFSEL and every PLL locked. -/
def Dev.clocksLocked (d : Dev) : Dev :=
  ((d.put rCLK_STATUS fCLK_STATUS_LOCK 31).put rCLK_STATUS fCLK_STATUS_MP_SRC 1).when (d.refValid 0 || d.refValid 1)
    (fun d => d.put rCLK_STATUS fCLK_STATUS_ARMED 1)

theorem exec_bootClocksLocked (s : State) : exec .bootClocksLocked s =
    s.run (fun d => if d.refOk then
      (((d.put rCLK_STATUS fCLK_STATUS_LOCK 31).put rCLK_STATUS fCLK_STATUS_MP_SRC 1).when
        (((d.put rCLK_STATUS fCLK_STATUS_LOCK 31).put rCLK_STATUS fCLK_STATUS_MP_SRC 1).refValid 0 ||
          ((d.put rCLK_STATUS fCLK_STATUS_LOCK 31).put rCLK_STATUS fCLK_STATUS_MP_SRC 1).refValid 1)
        (fun d => d.put rCLK_STATUS fCLK_STATUS_ARMED 1)).bootClocks else d) := rfl

theorem Dev.clocksLocked_eq (d : Dev) :
    ((d.put rCLK_STATUS fCLK_STATUS_LOCK 31).put rCLK_STATUS fCLK_STATUS_MP_SRC 1).when
      (((d.put rCLK_STATUS fCLK_STATUS_LOCK 31).put rCLK_STATUS fCLK_STATUS_MP_SRC 1).refValid 0 ||
        ((d.put rCLK_STATUS fCLK_STATUS_LOCK 31).put rCLK_STATUS fCLK_STATUS_MP_SRC 1).refValid 1)
      (fun d => d.put rCLK_STATUS fCLK_STATUS_ARMED 1) = d.clocksLocked := by
  have hput : ∀ r, ((d.put rCLK_STATUS fCLK_STATUS_LOCK 31).put rCLK_STATUS fCLK_STATUS_MP_SRC 1).refValid r = d.refValid r :=
    fun r => (Dev.refValid_put _ _ r (clkField_of (by decide))).trans (Dev.refValid_put _ _ r (clkField_of (by decide)))
  rw [hput, hput, Dev.clocksLocked]

theorem Dev.get_clocksLocked (d : Dev) {g : Fld} (h1 : fCLK_STATUS_LOCK.disjoint g) (h2 : fCLK_STATUS_MP_SRC.disjoint g)
    (h3 : fCLK_STATUS_ARMED.disjoint g) : d.clocksLocked.get rCLK_STATUS g = d.get rCLK_STATUS g := by
  unfold Dev.clocksLocked Dev.when
  split
  · rw [Dev.get_put_disjoint _ _ _ h3, Dev.get_put_disjoint _ _ _ h2, Dev.get_put_disjoint _ _ _ h1]
  · rw [Dev.get_put_disjoint _ _ _ h2, Dev.get_put_disjoint _ _ _ h1]

theorem Dev.clocksLocked_lock (d : Dev) : d.clocksLocked.get rCLK_STATUS fCLK_STATUS_LOCK = 31 := by
  have hput : ((d.put rCLK_STATUS fCLK_STATUS_LOCK 31).put rCLK_STATUS fCLK_STATUS_MP_SRC 1).get rCLK_STATUS fCLK_STATUS_LOCK = 31 := by
    rw [Dev.get_put_disjoint _ _ _ (by decide), Dev.get_put_eq _ _ (by decide)]
  unfold Dev.clocksLocked Dev.when
  split
  · rw [Dev.get_put_disjoint _ _ _ (by decide), hput]
  · exact hput

theorem Dev.bootState_clocksLocked (d : Dev) : d.clocksLocked.bootState = d.bootState := by
  unfold Dev.clocksLocked Dev.when Dev.bootState
  split
  · rw [Dev.get_put_ne _ _ _ _ (by decide), Dev.get_put_ne _ _ _ _ (by decide), Dev.get_put_ne _ _ _ _ (by decide)]
  · rw [Dev.get_put_ne _ _ _ _ (by decide), Dev.get_put_ne _ _ _ _ (by decide)]

theorem Dev.refOk_clocksLocked (d : Dev) : d.clocksLocked.refOk = d.refOk := by
  have hbit : ∀ g, fCLK_STATUS_LOCK.disjoint g → fCLK_STATUS_MP_SRC.disjoint g → fCLK_STATUS_ARMED.disjoint g →
      d.clocksLocked.bit rCLK_STATUS g = d.bit rCLK_STATUS g := fun g h1 h2 h3 => by rw [Dev.bit, d.get_clocksLocked h1 h2 h3, Dev.bit]
  simp only [Dev.refOk, Dev.refValid_eq, refFld, if_true, Nat.one_ne_zero, if_false]
  rw [hbit _ (by decide) (by decide) (by decide), hbit _ (by decide) (by decide) (by decide), hbit _ (by decide) (by decide) (by decide)]

/-- With every PLL locked and a reference, boot passes CLOCKS. -/
theorem Dev.bootClocks_passes {d : Dev} (hst : d.bootState = 2) (hl : d.get rCLK_STATUS fCLK_STATUS_LOCK = 31) (hr : d.refOk = true) :
    d.bootClocks.bootState = 3 ∧ d.bootClocks.get rCLK_STATUS fCLK_STATUS_LOCK = 31 ∧
    d.bootClocks.bit rDRAM_STATUS fDRAM_STATUS_INIT_BUSY = true := by
  obtain ⟨e, he, hlock⟩ : ∃ e : Dev, d.bootClocks = (e.setBoot 3).put rDRAM_STATUS fDRAM_STATUS_INIT_BUSY 1 ∧
      e.get rCLK_STATUS fCLK_STATUS_LOCK = 31 := by
    refine ⟨_, if_pos ⟨hst, hl, hr⟩, ?_⟩
    unfold Dev.when
    split
    · rw [Dev.get_put_disjoint _ _ _ (by decide), hl]
    · exact hl
  rw [he]
  refine ⟨?_, ?_, Dev.bit_put_one _ _ (by decide)⟩
  · rw [Dev.bootState, Dev.get_put_ne _ _ _ _ (by decide)]
    exact Dev.get_put_eq _ _ (by decide)
  · rw [Dev.get_put_ne _ _ _ _ (by decide)]
    exact (Dev.get_put_ne _ _ _ _ (by decide)).trans hlock

theorem bootClocksLocked_idle {s : State} (hs : s.Runs) (h : s.dev.refOk = false) :
    ∃ t, exec .bootClocksLocked s = .next t ∧ s.OnlyChanges t [] s.dev := by
  rw [exec_bootClocksLocked]
  exact State.run_nothing hs (if_neg (by rw [show s.start.refOk = false from h]; exact Bool.false_ne_true))

theorem bootClocksLocked_passes {s : State} (hs : s.Runs) (h : s.dev.refOk = true) (hst : s.dev.bootState = 2) :
    ∃ t, exec .bootClocksLocked s = .next t ∧ t.dev.bootState = 3 ∧
      t.dev.get rCLK_STATUS fCLK_STATUS_LOCK = 31 ∧ t.dev.bit rDRAM_STATUS fDRAM_STATUS_INIT_BUSY = true := by
  have hpass := Dev.bootClocks_passes (d := s.start.clocksLocked) (s.start.bootState_clocksLocked.trans hst) s.start.clocksLocked_lock
    (s.start.refOk_clocksLocked.trans h)
  rw [exec_bootClocksLocked]
  refine ⟨_, State.run_after hs.1 (e := s.start.clocksLocked.bootClocks) ((if_pos h).trans (by rw [Dev.clocksLocked_eq])), ?_⟩
  simp only [State.after_bootState, State.after_get, State.after_bit]
  exact hpass

/-! TEST (R598). -/

theorem exec_bootTestDone (bad : List (Fin 141)) (memFail : Bool) (s : State) :
    exec (.bootTestDone bad memFail) s = s.run (fun d => d.bootTested (bad.map Fin.val) memFail) := rfl

/-- Passing TEST ends by clearing FULL_NEXT, showing a march that failed, and entering FIRMWARE. -/
theorem Dev.bootTested_ends {d : Dev} (hst : d.bootState = 3) (hb : d.bit rDRAM_STATUS fDRAM_STATUS_INIT_BUSY = false) (bad : List Nat)
    (memFail : Bool) : ∃ e : Dev, d.bootTested bad memFail =
      ((e.put rBOOT_CTRL fBOOT_CTRL_FULL_NEXT 0).when memFail (fun d => d.mark rBOOT_ERR fBOOT_ERR_MEM_FAIL)).setBoot 4 := by
  unfold Dev.bootTested
  rw [if_neg (by simp [hst, hb])]
  exact ⟨_, rfl⟩

theorem Dev.bootTested_shown {d : Dev} (hst : d.bootState = 3) (hb : d.bit rDRAM_STATUS fDRAM_STATUS_INIT_BUSY = false) (bad : List Nat)
    (memFail : Bool) : (d.bootTested bad memFail).bootState = 4 ∧ (d.bootTested bad memFail).bit rBOOT_CTRL fBOOT_CTRL_FULL_NEXT = false ∧
      (memFail = true → (d.bootTested bad memFail).bit rBOOT_ERR fBOOT_ERR_MEM_FAIL = true) := by
  obtain ⟨e, he⟩ := Dev.bootTested_ends hst hb bad memFail
  rw [he]
  refine ⟨Dev.get_put_eq _ _ (by decide), ?_, fun hm => ?_⟩
  · refine (Dev.bit_put_ne _ _ _ _ (by decide)).trans ?_
    unfold Dev.when
    split
    · exact (Dev.bit_put_ne _ _ _ _ (by decide)).trans (Dev.bit_put_zero _ _ (by decide))
    · exact Dev.bit_put_zero _ _ (by decide)
  · rw [hm]
    exact (Dev.bit_put_ne _ _ _ _ (by decide)).trans (Dev.bit_put_one _ _ (by decide))

theorem bootTestDone_idle {s : State} (hs : s.Runs) (h : s.dev.bootState ≠ 3) (bad : List (Fin 141)) (memFail : Bool) :
    ∃ t, exec (.bootTestDone bad memFail) s = .next t ∧ s.OnlyChanges t [] s.dev := by
  rw [exec_bootTestDone]
  exact State.run_nothing hs (if_pos (.inl h))

theorem bootTestDone_passes {s : State} (hs : s.Runs) (hst : s.dev.bootState = 3)
    (hb : s.dev.bit rDRAM_STATUS fDRAM_STATUS_INIT_BUSY = false) (bad : List (Fin 141)) (memFail : Bool) :
    ∃ t, exec (.bootTestDone bad memFail) s = .next t ∧ t.dev.bootState = 4 ∧ t.dev.bit rBOOT_CTRL fBOOT_CTRL_FULL_NEXT = false ∧
      (memFail = true → t.dev.bit rBOOT_ERR fBOOT_ERR_MEM_FAIL = true) := by
  rw [exec_bootTestDone]
  refine ⟨_, State.run_after hs.1 (f := fun d => d.bootTested (bad.map Fin.val) memFail) rfl, ?_⟩
  simp only [State.after_bootState, State.after_bit]
  exact Dev.bootTested_shown (d := s.start) hst hb _ _

/-! FIRMWARE (R597, R598). -/

theorem exec_firmwareReady (ms : Fin 65536) (s : State) : exec (.firmwareReady ms) s = s.runS (fun s =>
    if s.dev.clk.mpDown then { s with dev := { s.dev with clk := { s.dev.clk with mpDown := false } } }
    else if s.dev.bootState = 4 then s.firmwareUp ms.val else s) := rfl

/-- The device READY or LIMITED, before the alerts on it. -/
def Dev.bootDone (d : Dev) (ms : Nat) : Dev :=
  ((d.wrN rBOOT_TIME ms).setBoot (if !(d.bit rDRAM_STATUS fDRAM_STATUS_READY) then 6 else 5)).when
    (!(d.bit rDRAM_STATUS fDRAM_STATUS_READY)) (fun d => d.mark rBOOT_ERR fBOOT_ERR_DRAM_LIMITED)

theorem Dev.bootReady_eq (d : Dev) (ms : Nat) : ∃ ps qs x, d.bootReady ms =
    if ((d.bootDone ms).alert 0x1301 ps).clk.voidDue then
      Dev.alert { (d.bootDone ms).alert 0x1301 ps with clk := x } 0x1303 qs
    else (d.bootDone ms).alert 0x1301 ps := ⟨_, _, _, rfl⟩

theorem Dev.rd_bootReady (d : Dev) (ms : Nat) {a : Nat} (h : a ∉ alertRegs) : (d.bootReady ms).rd a = (d.bootDone ms).rd a := by
  obtain ⟨ps, qs, x, he⟩ := d.bootReady_eq ms
  rw [he]
  split
  · exact (Dev.rd_alert _ _ _ h).trans (Dev.rd_alert _ _ _ h)
  · exact Dev.rd_alert _ _ _ h

theorem Dev.rd_bootDone (d : Dev) (ms : Nat) {a : Nat} (h1 : a ≠ rBOOT_STATUS) (h2 : a ≠ rBOOT_ERR) :
    (d.bootDone ms).rd a = (d.wrN rBOOT_TIME ms).rd a := by
  unfold Dev.bootDone Dev.when Dev.setBoot
  split
  · exact (Dev.rd_put_ne _ _ _ h2).trans (Dev.rd_put_ne _ _ _ h1)
  · exact Dev.rd_put_ne _ _ _ h1

theorem Dev.bootDone_shown (d : Dev) (ms : Nat) :
    (d.bootDone ms).bootState = (if d.bit rDRAM_STATUS fDRAM_STATUS_READY then 5 else 6) ∧
    ((d.bootDone ms).bootState = 6 → (d.bootDone ms).bit rBOOT_ERR fBOOT_ERR_DRAM_LIMITED = true) := by
  unfold Dev.bootDone Dev.when Dev.setBoot Dev.bootState
  cases d.bit rDRAM_STATUS fDRAM_STATUS_READY
  · refine ⟨?_, fun _ => Dev.bit_put_one _ _ (by decide)⟩
    exact (Dev.get_put_ne _ _ _ _ (by decide)).trans (Dev.get_put_eq _ _ (by decide))
  · have h5 : ((d.wrN rBOOT_TIME ms).put rBOOT_STATUS fBOOT_STATUS_STATE 5).get rBOOT_STATUS fBOOT_STATUS_STATE = 5 :=
      Dev.get_put_eq _ _ (by decide)
    exact ⟨h5, fun h6 => absurd (h5.symm.trans h6) (by decide)⟩

/-- BOOT_TIME, the state of boot, and an error of LIMITED, as they stand once the firmware is ready. -/
theorem Dev.bootReady_shown (d : Dev) {ms : Nat} (hms : ms < 65536) : (d.bootReady ms).rdN rBOOT_TIME = ms ∧
    (d.bootReady ms).bootState = (if (d.bootReady ms).bit rDRAM_STATUS fDRAM_STATUS_READY then 5 else 6) ∧
    ((d.bootReady ms).bootState = 6 → (d.bootReady ms).bit rBOOT_ERR fBOOT_ERR_DRAM_LIMITED = true) := by
  obtain ⟨hst, herr⟩ := d.bootDone_shown ms
  have hstate : (d.bootReady ms).bootState = (d.bootDone ms).bootState := Dev.get_congr (d.rd_bootReady ms (by decide)) _
  have hdram : (d.bootReady ms).bit rDRAM_STATUS fDRAM_STATUS_READY = d.bit rDRAM_STATUS fDRAM_STATUS_READY :=
    Dev.bit_congr ((d.rd_bootReady ms (by decide)).trans ((d.rd_bootDone ms (by decide) (by decide)).trans
      (Dev.rd_wrN_ne _ _ (by decide)))) _
  refine ⟨?_, ?_, ?_⟩
  · rw [Dev.rdN_congr (d.rd_bootReady ms (by decide)), Dev.rdN_congr (d.rd_bootDone ms (by decide) (by decide)), Dev.rdN_wrN_same]
    omega
  · rw [hstate, hdram, hst]
  · rw [hstate, Dev.bit_congr (d.rd_bootReady ms (by decide))]
    exact herr

theorem firmwareReady_restarts {s : State} (hs : s.Runs) (h : s.dev.clk.mpDown = true) (ms : Fin 65536) :
    ∃ t, exec (.firmwareReady ms) s = .next t ∧
      s.OnlyChanges t [] { s.dev with clk := { s.dev.clk with mpDown := false } } := by
  rw [exec_firmwareReady]
  exact ⟨_, State.runS_quiet hs (if_pos h) hs.2.1 hs.2.2, fun _ _ => rfl, rfl⟩

theorem firmwareReady_idle {s : State} (hs : s.Runs) (h : s.dev.clk.mpDown = false) (hst : s.dev.bootState ≠ 4) (ms : Fin 65536) :
    ∃ t, exec (.firmwareReady ms) s = .next t ∧ s.OnlyChanges t [] s.dev := by
  have hmp : ¬s.start.clk.mpDown = true := by rw [show s.start.clk.mpDown = false from h]; exact Bool.false_ne_true
  rw [exec_firmwareReady]
  exact ⟨_, State.runS_quiet hs ((if_neg hmp).trans (if_neg hst)) hs.2.1 hs.2.2, s.onlyChanges_start⟩

theorem State.firmwareUp_ends (s : State) (ms : Nat) : ∃ e : Dev, (s.firmwareUp ms).dev = e.bootReady ms := ⟨_, rfl⟩

theorem firmwareReady_ends {s : State} (hs : s.Runs) (h : s.dev.clk.mpDown = false) (hst : s.dev.bootState = 4) (ms : Fin 65536) :
    ∃ t, exec (.firmwareReady ms) s = .next t ∧ t.dev.rdN rBOOT_TIME = ms.val ∧
        t.dev.bootState = (if t.dev.bit rDRAM_STATUS fDRAM_STATUS_READY then 5 else 6) ∧
        (t.dev.bootState = 6 → t.dev.bit rBOOT_ERR fBOOT_ERR_DRAM_LIMITED = true) := by
  have hmp : ¬s.start.clk.mpDown = true := by rw [show s.start.clk.mpDown = false from h]; exact Bool.false_ne_true
  obtain ⟨e, he⟩ := State.firmwareUp_ends { s with dev := s.start } ms.val
  have hshown := e.bootReady_shown ms.isLt
  rw [← he] at hshown
  rw [exec_firmwareReady]
  exact ⟨_, State.runS_after hs.1 ((if_neg hmp).trans (if_pos hst)), hshown⟩

/-! FW_LIMIT (R598). -/

theorem exec_fwLimit (s : State) : exec .fwLimit s = s.run Dev.firmwareLimit := rfl

theorem fwLimit_idle {s : State} (hs : s.Runs) (h : s.dev.bootState ≠ 4) : ∃ t, exec .fwLimit s = .next t ∧ s.OnlyChanges t [] s.dev := by
  rw [exec_fwLimit]
  exact State.run_nothing hs (if_pos h)

/-- The limit of FIRMWARE is a warm reset with SOURCE 4 that leaves the error of the copy. -/
theorem Dev.firmwareLimit_shown {d : Dev} (h : d.bootState = 4) : d.firmwareLimit.get rRST_CAUSE fRST_CAUSE_KIND = 2 ∧
    d.firmwareLimit.get rRST_CAUSE fRST_CAUSE_SOURCE = 4 ∧ d.firmwareLimit.bit rBOOT_ERR fBOOT_ERR_FW_TIMEOUT = true := by
  obtain ⟨hkind, hsource⟩ := d.warmReset_cause (source := 4) (by decide)
  unfold Dev.firmwareLimit
  rw [if_neg (not_not_intro h)]
  dsimp only
  generalize d.get rBOOT_STATUS fBOOT_STATUS_COPY = c, d.warmReset 4 = e at hkind hsource ⊢
  refine ⟨?_, ?_, ?_⟩
  · rw [Dev.get_congr (Dev.rd_copyBad _ _ (by decide) (by decide)), Dev.mark, Dev.get_put_ne _ _ _ _ (by decide), Dev.get_withClk, hkind]
  · rw [Dev.get_congr (Dev.rd_copyBad _ _ (by decide) (by decide)), Dev.mark, Dev.get_put_ne _ _ _ _ (by decide), Dev.get_withClk, hsource]
  · unfold Dev.copyBad
    rw [Dev.bit_alert _ _ _ _ (by decide)]
    split
    · exact (Dev.bit_put_disjoint _ _ _ (by decide)).trans (Dev.bit_put_one _ _ (by decide))
    · exact (Dev.bit_put_disjoint _ _ _ (by decide)).trans (Dev.bit_put_one _ _ (by decide))

theorem fwLimit_resets {s : State} (hs : s.Runs) (h : s.dev.bootState = 4) : ∃ t, exec .fwLimit s = .next t ∧
    t.dev.get rRST_CAUSE fRST_CAUSE_KIND = 2 ∧ t.dev.get rRST_CAUSE fRST_CAUSE_SOURCE = 4 ∧
    t.dev.bit rBOOT_ERR fBOOT_ERR_FW_TIMEOUT = true := by
  rw [exec_fwLimit]
  refine ⟨_, State.run_after hs.1 (f := Dev.firmwareLimit) rfl, ?_⟩
  simp only [State.after_get, State.after_bit]
  exact Dev.firmwareLimit_shown (d := s.start) h

end Sys2Proof.Machine

/-! The flash accesses, DIAG_BOOT, and the obligation on boot (20_clocks_boot.md R602, R603, R606). -/

namespace Sys2Proof.Machine

/-! Numbers and byte strings. -/

theorem leB_succ (n v : Nat) : leB (n + 1) v = BitVec.ofNat 8 v :: leB n (v / 256) := by
  simp only [leB, List.range_succ_eq_map, List.map_cons, List.map_map, Nat.pow_zero, Nat.div_one, List.cons.injEq, true_and]
  refine List.map_congr_left fun i _ => ?_
  rw [Function.comp_apply, Nat.pow_succ, Nat.mul_comm, Nat.div_div_eq_div_mul]

theorem slice_succ (bs : List Byte) (i n : Nat) : slice bs i (n + 1) = bs.getD i 0#8 :: slice bs (i + 1) n := by
  simp only [slice, List.range_succ_eq_map, List.map_cons, List.map_map, Nat.add_zero, List.cons.injEq, true_and]
  refine List.map_congr_left fun k _ => ?_
  rw [Function.comp_apply, Nat.succ_eq_add_one, show i + (k + 1) = i + 1 + k by omega]

theorem leB_leAt (bs : List Byte) (i n : Nat) : leB n (leAt bs i n) = slice bs i n := by
  induction n generalizing i with
  | zero => rfl
  | succ n ih =>
    have hb : byteAt bs i < 256 := (bs.getD i 0#8).isLt
    have hlow : BitVec.ofNat 8 (byteAt bs i + 256 * leAt bs (i + 1) n) = bs.getD i 0#8 := by
      refine BitVec.eq_of_toNat_eq ?_
      rw [BitVec.toNat_ofNat, Nat.add_mul_mod_self_left, Nat.mod_eq_of_lt hb]
      rfl
    have hhigh : (byteAt bs i + 256 * leAt bs (i + 1) n) / 256 = leAt bs (i + 1) n := by omega
    rw [leB_succ, leAt, hlow, hhigh, ih, slice_succ]

theorem slice_append (bs : List Byte) (i m n : Nat) : slice bs i (m + n) = slice bs i m ++ slice bs (i + m) n := by
  simp only [slice, List.range_add, List.map_append, List.map_map, List.append_cancel_left_eq]
  refine List.map_congr_left fun k _ => ?_
  rw [Function.comp_apply, Nat.add_assoc]

/-- Words of a byte string, one after the other. -/
theorem flatMap_words (bs : List Byte) (n : Nat) : (List.range n).flatMap (fun i => leB 4 (leAt bs (4 * i) 4)) = slice bs 0 (4 * n) := by
  induction n with
  | zero => rfl
  | succ n ih => rw [List.range_succ, List.flatMap_append, ih, List.flatMap_singleton, leB_leAt, Nat.mul_succ, slice_append, Nat.zero_add]

theorem slice_whole (bs : List Byte) : slice bs 0 bs.length = bs := by
  refine List.ext_getElem (by simp [slice]) fun i hi _ => ?_
  have hlt : i < bs.length := by simpa [slice] using hi
  simp [slice, List.getElem?_eq_getElem hlt]

theorem length_patch {bs new : List Byte} {i : Nat} (h : i + new.length ≤ bs.length) : (patch bs i new).length = bs.length := by
  rw [patch, List.length_append, List.length_append, List.length_take, List.length_drop]
  omega

/-! BOOT_FLASH_DATA (R603). -/

theorem Dev.length_flashData (d : Dev) : d.flashData.length = 256 := by
  rw [Dev.flashData, List.length_flatMap]
  simp only [length_leB, List.map_const', List.sum_replicate, List.length_range, smul_eq_mul]

theorem Dev.flashData_congr {d e : Dev} (h : ∀ i < 64, e.rd (rBOOT_FLASH_DATA i) = d.rd (rBOOT_FLASH_DATA i)) : e.flashData = d.flashData := by
  rw [Dev.flashData, Dev.flashData]
  refine List.flatMap_congr fun i hi => ?_
  rw [Dev.rdN_congr (h i (List.mem_range.1 hi))]

theorem rBOOT_FLASH_DATA_ne {i : Nat} (h : i < 64) : rBOOT_FLASH_DATA i ≠ rBOOT_FLASH_CMD := by
  unfold rBOOT_FLASH_DATA rBOOT_FLASH_CMD; omega

theorem Dev.setFlashData_eq (d : Dev) (bs : List Byte) :
    d.setFlashData bs = d.wordsShown rBOOT_FLASH_DATA (fun i => leAt (patch d.flashData 0 bs) (4 * i) 4) 64 := by rfl

/-- Bytes placed in BOOT_FLASH_DATA stand there. -/
theorem Dev.take_setFlashData (d : Dev) {bs : List Byte} (h : bs.length ≤ 256) : (d.setFlashData bs).flashData.take bs.length = bs := by
  have hall : (patch d.flashData 0 bs).length = 256 := (length_patch (by rw [d.length_flashData]; omega)).trans d.length_flashData
  have hdata : (d.setFlashData bs).flashData = patch d.flashData 0 bs := by
    rw [← slice_whole (patch d.flashData 0 bs), hall, show 256 = 4 * 64 from rfl, ← flatMap_words, Dev.flashData]
    refine List.flatMap_congr fun i hi => ?_
    rw [Dev.setFlashData_eq, Dev.rdN_wordsShown _ _ (fun i _ j _ hij => by unfold rBOOT_FLASH_DATA at hij; omega) (List.mem_range.1 hi),
      Nat.mod_eq_of_lt (show leAt _ _ 4 < 2 ^ 32 from leAt_lt _ _ 4)]
  rw [hdata, patch, List.take_zero, List.nil_append, List.take_left]

theorem Dev.writes_setFlashData (d : Dev) (bs : List Byte) : Dev.Writes (fun a => ∃ i < 64, a = rBOOT_FLASH_DATA i) d (d.setFlashData bs) := by
  rw [Dev.setFlashData_eq]
  exact d.writes_wordsShown _ fun i hi => ⟨i, hi, rfl⟩

/-! The accesses (R602, R603). -/

/-- The device as a write of BOOT_FLASH_CMD begins an access. -/
def Dev.flashBegun (d : Dev) (v : Nat) : Dev := (d.access rBOOT_FLASH_CMD v).put rBOOT_FLASH_CMD fBOOT_FLASH_CMD_GO 0

theorem Dev.writes_flashBegun (d : Dev) (v : Nat) : Dev.Writes (· = rBOOT_FLASH_CMD) d (d.flashBegun v) :=
  (Dev.writes_access (P := (· = rBOOT_FLASH_CMD)) d v rfl).trans (Dev.writes_put _ _ _ rfl)

theorem Dev.flashData_flashBegun (d : Dev) (v : Nat) : (d.flashBegun v).flashData = d.flashData :=
  Dev.flashData_congr fun _ hi => (d.writes_flashBegun v).rd _ (rBOOT_FLASH_DATA_ne hi)

theorem Dev.flashAddr_flashBegun (d : Dev) (v : Nat) : (d.flashBegun v).rdN rBOOT_FLASH_ADDR = d.rdN rBOOT_FLASH_ADDR :=
  Dev.rdN_congr ((d.writes_flashBegun v).rd rBOOT_FLASH_ADDR (by decide))

theorem Dev.flashCheck_congr {d e : Dev} (h : e.rd rBOOT_STATUS = d.rd rBOOT_STATUS) (op addr len : Nat) (err : Bool) :
    e.flashCheck op addr len err = d.flashCheck op addr len err := by
  have hst : e.bootState = d.bootState := Dev.get_congr h _
  have htouched : ∀ a n, e.copyTouched a n = d.copyTouched a n := fun a n => by
    rw [Dev.copyTouched, hst, Dev.get_congr h, Dev.copyTouched]
  simp only [Dev.flashCheck, hst, htouched]

theorem Dev.flashCheck_flashBegun (d : Dev) (v op addr len : Nat) (err : Bool) :
    (d.flashBegun v).flashCheck op addr len err = d.flashCheck op addr len err :=
  Dev.flashCheck_congr ((d.writes_flashBegun v).rd rBOOT_STATUS (by decide)) ..

/-- What an access of BOOT_FLASH_CMD answers, and leaves. -/
def State.flashEnded (x : Nat × List Byte × State) : State :=
  { x.2.2 with dev := (if x.2.1 = [] then x.2.2.dev else x.2.2.dev.setFlashData x.2.1).put rBOOT_FLASH_CMD fBOOT_FLASH_CMD_RESULT x.1 }

theorem State.flashCmd_eq (s : State) {v op len : Nat} (err : Bool) (hgo : nbit v 30 = true) (hop : fieldOf v fBOOT_FLASH_CMD_OP = op)
    (hlen : fieldOf v fBOOT_FLASH_CMD_LEN = len) (hok : op ≤ 1 → 1 ≤ len ∧ len ≤ 256) : s.flashCmd v err =
    State.flashEnded (State.flashAccess { s with dev := s.dev.flashBegun v } op (s.dev.rdN rBOOT_FLASH_ADDR) len
      (s.dev.flashData.take len) err) := by
  have hrun : ¬(op ≤ 1 ∧ (len = 0 ∨ 256 < len)) := by omega
  have hgo' : ¬(!nbit v 30) = true := by rw [hgo]; decide
  have hdata := s.dev.flashData_flashBegun v
  have haddr := s.dev.flashAddr_flashBegun v
  unfold State.flashCmd
  rw [← Dev.flashBegun]
  generalize s.dev.flashBegun v = e at hdata haddr
  extract_lets u o n done
  rw [if_neg hgo', show o = op from hop, show n = len from hlen, if_neg hrun]
  have haccess : u.flashAccess op (u.dev.rdN rBOOT_FLASH_ADDR) len (u.dev.flashData.take len) err =
      u.flashAccess op (s.dev.rdN rBOOT_FLASH_ADDR) len (s.dev.flashData.take len) err := by
    rw [show u.dev.rdN rBOOT_FLASH_ADDR = s.dev.rdN rBOOT_FLASH_ADDR from haddr, show u.dev.flashData = s.dev.flashData from hdata]
  rw [haccess]
  generalize u.flashAccess op (s.dev.rdN rBOOT_FLASH_ADDR) len (s.dev.flashData.take len) err = x
  obtain ⟨r, bs, t⟩ := x
  rfl

theorem State.flashEnded_none (r : Nat) (s : State) :
    State.flashEnded (r, [], s) = { s with dev := s.dev.put rBOOT_FLASH_CMD fBOOT_FLASH_CMD_RESULT r } := rfl

theorem State.flashEnded_some (r : Nat) {bs : List Byte} (h : bs ≠ []) (s : State) :
    State.flashEnded (r, bs, s) = { s with dev := (s.dev.setFlashData bs).put rBOOT_FLASH_CMD fBOOT_FLASH_CMD_RESULT r } := by
  unfold State.flashEnded
  rw [if_neg h]

theorem State.flashAccess_refused {s : State} {op addr len c : Nat} {err : Bool} (bs : List Byte)
    (hc : s.dev.flashCheck op addr len err = c) (hne : c ≠ 0) : s.flashAccess op addr len bs err = (c, [], s) := by
  unfold State.flashAccess
  rw [hc, if_pos hne]

theorem State.flashAccess_read {s : State} {addr len : Nat} {err : Bool} (bs : List Byte) (hc : s.dev.flashCheck 0 addr len err = 0) :
    s.flashAccess 0 addr len bs err = (0, loadBytes flashByte s.flash addr len, s) := by
  unfold State.flashAccess
  rw [hc, if_neg (not_not_intro rfl), if_pos rfl]

theorem State.flashAccess_program {s : State} {addr len : Nat} {err : Bool} (bs : List Byte) (hc : s.dev.flashCheck 1 addr len err = 0) :
    ∃ r, s.flashAccess 1 addr len bs err = (r, [], { s with flash := programFlash s.flash addr bs }) := by
  unfold State.flashAccess
  rw [hc, if_neg (not_not_intro rfl), if_neg Nat.one_ne_zero, if_pos rfl]
  exact ⟨_, rfl⟩

theorem State.flashAccess_erase {s : State} {addr len : Nat} {err : Bool} (bs : List Byte) (hc : s.dev.flashCheck 2 addr len err = 0) :
    s.flashAccess 2 addr len bs err = (0, [], { s with flash := eraseFlash s.flash addr }) := by
  unfold State.flashAccess
  rw [hc, if_neg (not_not_intro rfl), if_neg (by decide), if_neg (by decide)]

/-- A word that begins an access: bit 30, and the bits of OP and LEN. -/
theorem flashWord (op : Nat) (len : Fin 512) (hop : op < 4) : nbit (2 ^ 30 + op * 2 ^ 28 + len.val) 30 = true ∧
    fieldOf (2 ^ 30 + op * 2 ^ 28 + len.val) fBOOT_FLASH_CMD_OP = op ∧
    fieldOf (2 ^ 30 + op * 2 ^ 28 + len.val) fBOOT_FLASH_CMD_LEN = len.val := by
  have hlen := len.isLt
  refine ⟨?_, ?_, ?_⟩
  · have hbit : (2 ^ 30 + op * 2 ^ 28 + len.val) / 2 ^ 30 % 2 = 1 := by omega
    rw [nbit, hbit]
    rfl
  · show (2 ^ 30 + op * 2 ^ 28 + len.val) / 2 ^ 28 % 2 ^ 2 = op
    omega
  · show (2 ^ 30 + op * 2 ^ 28 + len.val) / 2 ^ 0 % 2 ^ 9 = len.val
    omega

/-- An effect of FLASH_READ, FLASH_PROGRAM or FLASH_ERASE leaves nothing to deliver. -/
theorem State.runS_flash {s t : State} (hs : s.Runs) {v : Nat} {err : Bool} (h : State.flashCmd { s with dev := s.start } v err = t)
    (hq : t.dev.replies = s.start.replies ∧ t.dev.wipes = s.start.wipes) : s.runS (fun s => s.flashCmd v err) = .next t :=
  State.runS_quiet hs h (hq.1.trans hs.2.1) (hq.2.trans hs.2.2)

theorem Dev.flashEnded_quiet (d : Dev) (v r : Nat) :
    ((d.flashBegun v).put rBOOT_FLASH_CMD fBOOT_FLASH_CMD_RESULT r).replies = d.replies ∧
    ((d.flashBegun v).put rBOOT_FLASH_CMD fBOOT_FLASH_CMD_RESULT r).wipes = d.wipes :=
  have h := (d.writes_flashBegun v).trans (Dev.writes_put (P := (· = rBOOT_FLASH_CMD)) _ fBOOT_FLASH_CMD_RESULT r rfl)
  ⟨h.replies, h.wipes⟩

/-- A refused access leaves the flash as it was, and answers why. -/
theorem State.flashCmd_refused {s : State} (hs : s.Runs) {v op len c : Nat} {err : Bool} (hgo : nbit v 30 = true)
    (hop : fieldOf v fBOOT_FLASH_CMD_OP = op) (hlen : fieldOf v fBOOT_FLASH_CMD_LEN = len) (hok : op ≤ 1 → 1 ≤ len ∧ len ≤ 256)
    (hc : s.dev.flashCheck op (s.dev.rdN rBOOT_FLASH_ADDR) len err = c) (hne : c ≠ 0) (hlt : c < 8) :
    ∃ t, s.runS (fun s => s.flashCmd v err) = .next t ∧ t.flash = s.flash ∧ t.dev.get rBOOT_FLASH_CMD fBOOT_FLASH_CMD_RESULT = c := by
  have hcheck : (s.start.flashBegun v).flashCheck op (s.start.rdN rBOOT_FLASH_ADDR) len err = c :=
    (s.start.flashCheck_flashBegun v ..).trans ((Dev.flashCheck_congr (d := s.dev) (e := s.start) rfl ..).trans hc)
  have hrun : State.flashCmd { s with dev := s.start } v err =
      { s with dev := (s.start.flashBegun v).put rBOOT_FLASH_CMD fBOOT_FLASH_CMD_RESULT c } := by
    rw [State.flashCmd_eq _ err hgo hop hlen hok,
      State.flashAccess_refused (s := { s with dev := s.start.flashBegun v }) _ hcheck hne, State.flashEnded_none]
  exact ⟨_, State.runS_flash hs hrun (s.start.flashEnded_quiet v c), rfl, Dev.get_put_eq _ _ ⟨by decide, by decide, hlt⟩⟩

section
variable {s : State} (hs : s.Runs) {len : Fin 512} (h1 : 1 ≤ len.val) (h2 : len.val ≤ 256)
include hs h1 h2

theorem flashRead_reads (hst : s.dev.bootState = 5 ∨ s.dev.bootState = 6 ∨ s.dev.bootState = 7)
    (haddr : s.dev.rdN rBOOT_FLASH_ADDR + len.val ≤ 0x2000000) : ∃ t, exec (.flashRead len false) s = .next t ∧ t.flash = s.flash ∧
      t.dev.flashData.take len.val = loadBytes flashByte s.flash (s.dev.rdN rBOOT_FLASH_ADDR) len.val ∧
      t.dev.get rBOOT_FLASH_CMD fBOOT_FLASH_CMD_RESULT = 0 := by
  obtain ⟨hgo, hop, hlen⟩ := flashWord 0 len (by decide)
  rw [show 2 ^ 30 + 0 * 2 ^ 28 + len.val = 2 ^ 30 + len.val by omega] at hgo hop hlen
  have hcheck : (s.start.flashBegun (2 ^ 30 + len.val)).flashCheck 0 (s.start.rdN rBOOT_FLASH_ADDR) len.val false = 0 := by
    have hin : ¬flashSize < s.start.rdN rBOOT_FLASH_ADDR + len.val := Nat.not_lt.2 haddr
    refine (s.start.flashCheck_flashBegun ..).trans ((Dev.flashCheck_congr (d := s.dev) (e := s.start) rfl ..).trans ?_)
    rcases hst with h | h | h <;> simp [Dev.flashCheck, h, hin]
  obtain ⟨bs, hbs⟩ : ∃ bs, loadBytes flashByte s.flash (s.dev.rdN rBOOT_FLASH_ADDR) len.val = bs := ⟨_, rfl⟩
  have hbslen : bs.length = len.val := by rw [← hbs, loadBytes_eq, List.length_map, List.length_range]
  have hne : bs ≠ [] := List.ne_nil_of_length_pos (by omega)
  have hrun : State.flashCmd { s with dev := s.start } (2 ^ 30 + len.val) false = 
      { s with dev := ((s.start.flashBegun (2 ^ 30 + len.val)).setFlashData bs).put rBOOT_FLASH_CMD fBOOT_FLASH_CMD_RESULT 0 } := by
    rw [State.flashCmd_eq _ false hgo hop hlen (fun _ => ⟨h1, h2⟩),
      State.flashAccess_read (s := { s with dev := s.start.flashBegun (2 ^ 30 + len.val) }) _ hcheck,
      show loadBytes flashByte s.flash (s.start.rdN rBOOT_FLASH_ADDR) len.val = bs from hbs, State.flashEnded_some _ hne]
  have hwrites := (s.start.flashBegun (2 ^ 30 + len.val)).writes_setFlashData bs
  have hquiet := (s.start.writes_flashBegun (2 ^ 30 + len.val))
  refine ⟨_, State.runS_flash hs hrun ⟨?_, ?_⟩, rfl, ?_, Dev.get_put_eq _ _ (by decide)⟩
  · exact (Dev.put_replies ..).trans (hwrites.replies.trans hquiet.replies)
  · exact (Dev.put_wipes ..).trans (hwrites.wipes.trans hquiet.wipes)
  · rw [hbs, ← hbslen, Dev.flashData_congr fun _ hi => Dev.rd_put_ne _ _ _ (rBOOT_FLASH_DATA_ne hi)]
    exact Dev.take_setFlashData _ (by omega)

theorem flashProgram_programs (hst : s.dev.bootState = 5 ∨ s.dev.bootState = 6 ∨ s.dev.bootState = 7)
    (haddr : s.dev.rdN rBOOT_FLASH_ADDR + len.val ≤ 0x2000000)
    (hfree : s.dev.copyTouched (s.dev.rdN rBOOT_FLASH_ADDR) len.val = false) : ∃ t, exec (.flashProgram len false) s = .next t ∧
      t.flash = programFlash s.flash (s.dev.rdN rBOOT_FLASH_ADDR) (s.dev.flashData.take len.val) ∧ t.mem = s.mem := by
  obtain ⟨hgo, hop, hlen⟩ := flashWord 1 len (by decide)
  rw [Nat.one_mul] at hgo hop hlen
  have hcheck : (s.start.flashBegun (2 ^ 30 + 2 ^ 28 + len.val)).flashCheck 1 (s.start.rdN rBOOT_FLASH_ADDR) len.val false = 0 := by
    have hin : ¬flashSize < s.start.rdN rBOOT_FLASH_ADDR + len.val := Nat.not_lt.2 haddr
    have hfree' : s.dev.copyTouched (s.start.rdN rBOOT_FLASH_ADDR) len.val = false := hfree
    refine (s.start.flashCheck_flashBegun ..).trans ((Dev.flashCheck_congr (d := s.dev) (e := s.start) rfl ..).trans ?_)
    rcases hst with h | h | h <;> simp [Dev.flashCheck, h, hin, hfree']
  have hrun : ∃ r, State.flashCmd { s with dev := s.start } (2 ^ 30 + 2 ^ 28 + len.val) false =
      { s with
        flash := programFlash s.flash (s.dev.rdN rBOOT_FLASH_ADDR) (s.dev.flashData.take len.val)
        dev := (s.start.flashBegun (2 ^ 30 + 2 ^ 28 + len.val)).put rBOOT_FLASH_CMD fBOOT_FLASH_CMD_RESULT r } := by
    obtain ⟨r, hr⟩ := State.flashAccess_program (s := { s with dev := s.start.flashBegun (2 ^ 30 + 2 ^ 28 + len.val) })
      (s.start.flashData.take len.val) hcheck
    refine ⟨r, ?_⟩
    rw [State.flashCmd_eq _ false hgo hop hlen (fun _ => ⟨h1, h2⟩), hr, State.flashEnded_none]
    rfl
  obtain ⟨r, hr⟩ := hrun
  exact ⟨_, State.runS_flash hs hr (s.start.flashEnded_quiet _ r), rfl, rfl⟩

theorem flashProgram_refused
    (h : s.dev.bootState < 5 ∨ s.dev.copyTouched (s.dev.rdN rBOOT_FLASH_ADDR) len.val = true) :
    ∃ t, exec (.flashProgram len false) s = .next t ∧ t.flash = s.flash ∧ t.dev.get rBOOT_FLASH_CMD fBOOT_FLASH_CMD_RESULT = 1 := by
  obtain ⟨hgo, hop, hlen⟩ := flashWord 1 len (by decide)
  rw [Nat.one_mul] at hgo hop hlen
  refine State.flashCmd_refused hs hgo hop hlen (fun _ => ⟨h1, h2⟩) (c := 1) (if_pos ?_) (by decide) (by decide)
  rcases h with h | h
  · have h5 : s.dev.bootState ≠ 5 := by omega
    have h6 : s.dev.bootState ≠ 6 := by omega
    have h7 : s.dev.bootState ≠ 7 := by omega
    simp [h5, h6, h7]
  · simp [h]

end

section
variable {s : State} (hs : s.Runs)
include hs

theorem flashErase_erases (hst : s.dev.bootState = 5 ∨ s.dev.bootState = 6 ∨ s.dev.bootState = 7)
    (haddr : s.dev.rdN rBOOT_FLASH_ADDR < 0x2000000)
    (hfree : s.dev.copyTouched (s.dev.rdN rBOOT_FLASH_ADDR / 0x10000 * 0x10000) 0x10000 = false) :
    ∃ t, exec (.flashErase false) s = .next t ∧ t.dev.get rBOOT_FLASH_CMD fBOOT_FLASH_CMD_RESULT = 0 ∧
      ∀ a, sget flashByte t.flash a =
        (if a / 0x10000 = s.dev.rdN rBOOT_FLASH_ADDR / 0x10000 then 0xFF#8 else sget flashByte s.flash a) := by
  obtain ⟨hgo, hop, hlen⟩ := flashWord 2 0 (by decide)
  rw [show 2 ^ 30 + 2 * 2 ^ 28 + (0 : Fin 512).val = 2 ^ 30 + 2 ^ 29 by decide] at hgo hop hlen
  have hcheck : (s.start.flashBegun (2 ^ 30 + 2 ^ 29)).flashCheck 2 (s.start.rdN rBOOT_FLASH_ADDR) (0 : Fin 512).val false = 0 := by
    have hin : ¬flashSize < s.start.rdN rBOOT_FLASH_ADDR / 0x10000 * 0x10000 + 0x10000 := by
      rw [show s.start.rdN rBOOT_FLASH_ADDR = s.dev.rdN rBOOT_FLASH_ADDR from rfl]
      unfold flashSize
      omega
    have hfree' : s.dev.copyTouched (s.start.rdN rBOOT_FLASH_ADDR / 0x10000 * 0x10000) 0x10000 = false := hfree
    refine (s.start.flashCheck_flashBegun ..).trans ((Dev.flashCheck_congr (d := s.dev) (e := s.start) rfl ..).trans ?_)
    rcases hst with h | h | h <;> simp [Dev.flashCheck, h, hin, hfree']
  have hrun : State.flashCmd { s with dev := s.start } (2 ^ 30 + 2 ^ 29) false =
      { s with
        flash := eraseFlash s.flash (s.dev.rdN rBOOT_FLASH_ADDR)
        dev := (s.start.flashBegun (2 ^ 30 + 2 ^ 29)).put rBOOT_FLASH_CMD fBOOT_FLASH_CMD_RESULT 0 } := by
    rw [State.flashCmd_eq _ false hgo hop hlen (fun h => absurd h (by decide)),
      State.flashAccess_erase (s := { s with dev := s.start.flashBegun (2 ^ 30 + 2 ^ 29) }) _ hcheck, State.flashEnded_none]
    rfl
  refine ⟨_, State.runS_flash hs hrun (s.start.flashEnded_quiet _ 0), Dev.get_put_eq _ _ (by decide), fun a => ?_⟩
  split
  next h => exact sget_skeep_drop flashByte (fun a => decide (a / 0x10000 ≠ s.dev.rdN rBOOT_FLASH_ADDR / 0x10000)) _ (decide_eq_false (not_not_intro h))
  next h => exact sget_skeep flashByte (fun a => decide (a / 0x10000 ≠ s.dev.rdN rBOOT_FLASH_ADDR / 0x10000)) _ (decide_eq_true h)

theorem flashErase_refused (h : s.dev.copyTouched (s.dev.rdN rBOOT_FLASH_ADDR / 0x10000 * 0x10000) 0x10000 = true) :
    ∃ t, exec (.flashErase false) s = .next t ∧ t.flash = s.flash ∧ t.dev.get rBOOT_FLASH_CMD fBOOT_FLASH_CMD_RESULT = 1 := by
  obtain ⟨hgo, hop, hlen⟩ := flashWord 2 0 (by decide)
  rw [show 2 ^ 30 + 2 * 2 ^ 28 + (0 : Fin 512).val = 2 ^ 30 + 2 ^ 29 by decide] at hgo hop hlen
  exact State.flashCmd_refused hs hgo hop hlen (fun h => absurd h (by decide)) (c := 1) (if_pos (by simp [h])) (by decide) (by decide)

end

/-! DIAG_BOOT (R606). -/

theorem State.command_runs {s : State} {m : Fin 64} {code : Nat} {c : Cmd} (h : s.Ready m code c) (body : Cmd → State → State) :
    State.command { s with dev := s.start } m.val code body = body c { s with dev := s.start } := by
  obtain ⟨-, -, hf, hb, hz⟩ := h
  have hf' : s.start.glk.cmds.find? (fun c => c.mbx == m.val && c.code == code && !c.started) = some c := hf
  have hz' : s.start.bit rSEC_STATUS fSEC_STATUS_ZEROISED = false := hz
  rw [State.command]
  dsimp only
  rw [hf']
  dsimp only
  rw [hz', Bool.false_and, if_neg Bool.false_ne_true]
  exact if_pos hb

theorem exec_diagBoot (m : Fin 64) (err : Bool) (s : State) : exec (.diagBoot m err) s = execDiagBoot m err s := rfl

theorem diagBoot_answers {s : State} {m : Fin 64} {c : Cmd} (h : s.Ready m 0x0C08 c) (hown : c.isOwner = true) (h0 : c.u8 0 = 0)
    (h2 : c.zero 2 2 = true) (err : Bool) : ∃ t, exec (.diagBoot m err) s = .next t ∧ s.OnlyAnswers t m ∧
      t.Done m 0 ([rBOOT_STATUS, rBOOT_ERR, rBOOT_TIME, rBOOT_SEQ_LO, rBOOT_SEQ_HI].flatMap (fun a => leB 4 (s.dev.rdN a))) := by
  have hl : ([rBOOT_STATUS, rBOOT_ERR, rBOOT_TIME, rBOOT_SEQ_LO, rBOOT_SEQ_HI].flatMap (fun a => leB 4 (s.dev.rdN a))).length ≤ 0x800 := by
    rw [length_registers]
    decide
  rw [exec_diagBoot]
  unfold execDiagBoot
  refine ⟨_, State.runS_after h.1.1 (State.command_runs h _), ?_⟩
  dsimp only
  simp only [hown, h0, h2, Bool.not_true, Bool.true_and, Bool.false_eq_true, if_false, beq_self_eq_true, Bool.true_or, if_true,
    Nat.zero_ne_one, show ¬(0 : Nat) = 2 by decide, show ¬(0 : Nat) = 3 by decide]
  rw [Cmd.ok, h.mbx_eq]
  exact ⟨only_finish [] h.1.2.1 h.1.2.2 hl, done_finish h.1.2.1 h.1.2.2 (by decide) hl⟩

/-- Settles O47: each state of boot is left only by its event, and a flash access reads, programs or erases what it names. -/
theorem bootWalksItsStates : Obligations.BootWalksItsStates := by
  unfold Obligations.BootWalksItsStates
  refine ⟨fun s hs => ⟨bootArchiveVerified_idle hs, bootArchiveVerified_takes hs, bootClocksLocked_idle hs,
    bootClocksLocked_passes hs, bootTestDone_idle hs, bootTestDone_passes hs,
    fun ms hmp => ⟨fun h => firmwareReady_idle hs hmp h ms, fun h => firmwareReady_ends hs hmp h ms⟩,
    firmwareReady_restarts hs, fwLimit_idle hs, fwLimit_resets hs⟩, ?_, ?_, ?_⟩
  · intro s len hs h1 h2
    exact ⟨fun hst haddr => ⟨flashRead_reads hs h1 h2 hst haddr, flashProgram_programs hs h1 h2 hst haddr⟩,
      flashProgram_refused hs h1 h2⟩
  · intro s hs hst haddr
    exact ⟨flashErase_erases hs hst haddr, flashErase_refused hs⟩
  · intro s m c h hown h0 h2 err
    exact diagBoot_answers h hown h0 h2 err

end Sys2Proof.Machine

/-! Event counters: configuration, filters, clearing, and the commands CNT_CONFIG, CNT_READ and CNT_SNAPSHOT (21_counters_test.md
R610-R614, R628). -/

namespace Sys2Proof.Machine

/-! A write of a configuration or of a filter (R610, R611). -/

/-- A step that writes one register by its access codes does that and nothing else. -/
theorem State.run_stores {s : State} (hs : s.Runs) {f : Dev → Dev} {a v : Nat} (hf : f s.start = s.start.access a v) :
    ∃ t, s.run f = .next t ∧ t.dev.rdN a = s.dev.stored a v ∧ s.OnlyChanges t [a] s.dev := by
  obtain ⟨hrun, honly⟩ := State.run_writes_regs hs hf (s.start.writes_access v (.head _))
  refine ⟨_, hrun, ?_, honly⟩
  rw [Dev.rdN_access_same]
  exact Dev.stored_congr (d := s.start) (e := s.dev) rfl _

theorem exec_cntCfgWrite (n : Fin 4096) (val : Word) (s : State) :
    exec (.cntCfgWrite n val) s = s.run (fun d => d.writeCntCfg n.val val.toNat) := rfl

theorem exec_cntFltWrite (p : Fin 64) (w : Fin 5) (val : Word) (s : State) :
    exec (.cntFltWrite p w val) s = s.run (fun d => d.writeCntFlt p.val w.val val.toNat) := rfl

section
variable {s : State} (hs : s.Runs)
include hs

theorem cntCfgWrite_refused {n : Fin 4096} {val : Word}
    (h : cntBad val.toNat (s.dev.profile (fieldOf val.toNat fCNT_CFG_FILTER)) = true) : ∃ t, exec (.cntCfgWrite n val) s = .next t ∧
      t.dev.bit rCNT_ERR fCNT_ERR_CFG_BAD = true ∧ s.OnlyChanges t [rCNT_ERR] s.dev :=
  State.run_marks hs (f := fun d => d.writeCntCfg n.val val.toNat) rfl (by decide) (if_pos h)

theorem cntCfgWrite_stores {n : Fin 4096} {val : Word}
    (h : cntBad val.toNat (s.dev.profile (fieldOf val.toNat fCNT_CFG_FILTER)) = false) : ∃ t, exec (.cntCfgWrite n val) s = .next t ∧
      t.dev.rdN (rCNT_CFG n.val) = s.dev.stored (rCNT_CFG n.val) val.toNat ∧ s.OnlyChanges t [rCNT_CFG n.val] s.dev :=
  State.run_stores hs (f := fun d => d.writeCntCfg n.val val.toNat) (if_neg (ne_true_of_eq_false h))

theorem cntFltWrite_fixed {p : Fin 64} (w : Fin 5) (val : Word) (hp : p.val = 0) :
    ∃ t, exec (.cntFltWrite p w val) s = .next t ∧ s.OnlyChanges t [] s.dev :=
  State.run_nothing hs (f := fun d => d.writeCntFlt p.val w.val val.toNat) (if_pos hp)

theorem cntFltWrite_address {p : Fin 64} {w : Fin 5} (val : Word) (hp : p.val ≠ 0) (hw : w.val ≠ 0) :
    ∃ t, exec (.cntFltWrite p w val) s = .next t ∧
      t.dev.rdN (rCNT_FLT_CTRL p.val + 4 * (w.val + 1)) = s.dev.stored (rCNT_FLT_CTRL p.val + 4 * (w.val + 1)) val.toNat ∧
      s.OnlyChanges t [rCNT_FLT_CTRL p.val + 4 * (w.val + 1)] s.dev :=
  State.run_stores hs (f := fun d => d.writeCntFlt p.val w.val val.toNat) ((if_neg hp).trans (if_neg hw))

theorem cntFltWrite_stores {p : Fin 64} {w : Fin 5} {val : Word} (hp : p.val ≠ 0) (hw : w.val = 0)
    (h : s.dev.profileClash p.val val.toNat = false) : ∃ t, exec (.cntFltWrite p w val) s = .next t ∧
      t.dev.rdN (rCNT_FLT_CTRL p.val) = s.dev.stored (rCNT_FLT_CTRL p.val) val.toNat ∧
      s.OnlyChanges t [rCNT_FLT_CTRL p.val] s.dev :=
  State.run_stores hs (f := fun d => d.writeCntFlt p.val w.val val.toNat)
    ((if_neg hp).trans ((if_pos hw).trans (if_neg (ne_true_of_eq_false h))))

theorem cntFltWrite_clashes {p : Fin 64} {w : Fin 5} {val : Word} (hp : p.val ≠ 0) (hw : w.val = 0)
    (h : s.dev.profileClash p.val val.toNat = true) : ∃ t, exec (.cntFltWrite p w val) s = .next t ∧
      t.dev.bit rCNT_ERR fCNT_ERR_CFG_BAD = true ∧ s.OnlyChanges t [rCNT_ERR] s.dev :=
  State.run_marks hs (f := fun d => d.writeCntFlt p.val w.val val.toNat) rfl (by decide)
    ((if_neg hp).trans ((if_pos hw).trans (if_pos h)))

end

/-! The counters' reset values (R625). -/

/-- Where a block of the register map reaches the counters, the rows that do reset to 0. -/
def countersReset (b : RegBlk) : Bool :=
  decide (0xa8000 ≤ b.base) ||
  (if b.count = 1 then
    b.rows.all (fun r => decide (b.base + rowTop r ≤ 0xa0000) || r.reset == 0 || decide (0xa8000 ≤ b.base + r.off))
  else decide (b.base + b.count * b.stride ≤ 0xa0000))

theorem regReset_counter {a : Nat} (h1 : 0xa0000 ≤ a) (h2 : a < 0xa8000) : regReset a = 0#32 := by
  unfold regReset
  split
  next => rfl
  next b k r hfind =>
    obtain ⟨x, hx, hhit⟩ := List.exists_of_findSome?_eq_some hfind
    have hreset : countersReset x = true := List.all_eq_true.1 (show regBlocks.all countersReset = true by decide) x hx
    by_cases hc : x.count = 1
    · simp only [hc, if_true, Nat.one_mul] at hhit
      by_cases hin : x.base ≤ a ∧ a < x.base + 0x40000
      · rw [if_pos hin] at hhit
        obtain ⟨r', hr', heq⟩ := Option.map_eq_some_iff.1 hhit
        obtain ⟨rfl, -, rfl⟩ : x = b ∧ 0 = k ∧ r' = r := by simpa using heq
        have hrow := List.find?_some hr'
        have hbase : ¬0xa8000 ≤ x.base := by omega
        rw [countersReset, decide_eq_false hbase, Bool.false_or, if_pos hc] at hreset
        have hr := List.all_eq_true.1 hreset r' (List.mem_of_find?_eq_some hr')
        have hlow : r'.off ≤ a - x.base := of_decide_eq_true (Bool.and_eq_true_iff.1 hrow).1
        have htop : ¬x.base + rowTop r' ≤ 0xa0000 := fun ht => by
          rw [rowHits_top (by omega)] at hrow
          exact Bool.false_ne_true hrow
        have hoff : ¬0xa8000 ≤ x.base + r'.off := by omega
        rw [decide_eq_false htop, decide_eq_false hoff, Bool.false_or, Bool.or_false, beq_iff_eq] at hr
        rw [if_neg (by omega), hr]
      · rw [if_neg hin] at hhit
        exact absurd hhit (by simp)
    · rw [if_neg hc] at hhit
      by_cases hin : x.base ≤ a ∧ a < x.base + x.count * x.stride
      · have hbase : ¬0xa8000 ≤ x.base := by omega
        rw [countersReset, decide_eq_false hbase, Bool.false_or, if_neg hc, decide_eq_true_eq] at hreset
        omega
      · rw [if_neg hin] at hhit
        exact absurd hhit (by simp)

/-! Clearing (R612). -/

/-- A word of the sticky bits with those of the counters from one to another cleared. -/
def stickyCleared (first last i w : Nat) : Nat :=
  (List.range 32).foldl (fun x j => if first ≤ 32 * i + j ∧ 32 * i + j ≤ last then fieldPut x ⟨j, j⟩ 0 else x) w

/-- The bits a fold over the first bits of a word has cleared. -/
theorem stickyCleared_bits (first last i w : Nat) (hw : w < 2 ^ 32) {n : Nat} (hn : n ≤ 32) :
    (List.range n).foldl (fun x j => if first ≤ 32 * i + j ∧ 32 * i + j ≤ last then fieldPut x ⟨j, j⟩ 0 else x) w < 2 ^ 32 ∧
    ∀ k, nbit ((List.range n).foldl (fun x j => if first ≤ 32 * i + j ∧ 32 * i + j ≤ last then fieldPut x ⟨j, j⟩ 0 else x) w) k =
      (nbit w k && !decide (k < n ∧ first ≤ 32 * i + k ∧ 32 * i + k ≤ last)) := by
  induction n with
  | zero => exact ⟨hw, fun k => by simp⟩
  | succ n ih =>
    obtain ⟨hlt, hbits⟩ := ih (by omega)
    rw [List.range_succ, List.foldl_append, List.foldl_cons, List.foldl_nil]
    generalize (List.range n).foldl _ w = x at hlt hbits ⊢
    split
    next hin =>
      refine ⟨fieldPut_lt _ _ _ hlt ⟨Nat.le_refl n, by show n < 32; omega⟩, fun k => ?_⟩
      by_cases hk : k = n
      · rw [hk, nbit_fieldPut_same x 0 (f := ⟨n, n⟩) rfl]
        simp [hin]
      · have hne : nbit (fieldPut x ⟨n, n⟩ 0) k = nbit x k := by
          have hf := fieldOf_fieldPut_ne x 0 (f := ⟨n, n⟩) (g := ⟨k, k⟩) (by simp [Fld.apart]; omega)
          simpa [fieldOf, nbit] using congrArg (· == 1) hf
        rw [hne, hbits]
        simp only [show (k < n + 1) = (k < n) from propext (by omega)]
    next hout =>
      refine ⟨hlt, fun k => ?_⟩
      rw [hbits]
      by_cases hk : k = n
      · rw [hk]
        simp [hout]
      · simp only [show (k < n + 1) = (k < n) from propext (by omega)]

theorem nbit_stickyCleared (first last : Nat) {i w k : Nat} (hw : w < 2 ^ 32) (hk : k < 32) :
    stickyCleared first last i w < 2 ^ 32 ∧
    nbit (stickyCleared first last i w) k = (nbit w k && !decide (first ≤ 32 * i + k ∧ 32 * i + k ≤ last)) := by
  obtain ⟨hlt, hbits⟩ := stickyCleared_bits first last i w hw (Nat.le_refl 32)
  refine ⟨hlt, (hbits k).trans ?_⟩
  simp [hk]

/-- The device with the sticky bits of a word cleared. -/
def Dev.stickyWord (first last : Nat) (d : Dev) (i : Nat) : Dev :=
  if d.rdN (rCNT_OVF i) = 0 then d else d.wrN (rCNT_OVF i) (stickyCleared first last i (d.rdN (rCNT_OVF i)))

theorem Dev.rd_stickyWord (first last : Nat) (d : Dev) {i a : Nat} (h : a ≠ rCNT_OVF i) : (Dev.stickyWord first last d i).rd a = d.rd a := by
  unfold Dev.stickyWord
  split
  · rfl
  · exact Dev.rd_wrN_ne _ _ h

theorem Dev.nbit_stickyWord (first last : Nat) (d : Dev) (i : Nat) {k : Nat} (hk : k < 32) :
    nbit ((Dev.stickyWord first last d i).rdN (rCNT_OVF i)) k =
      (nbit (d.rdN (rCNT_OVF i)) k && !decide (first ≤ 32 * i + k ∧ 32 * i + k ≤ last)) := by
  unfold Dev.stickyWord
  split
  next hz => rw [hz]; simp [nbit]
  next =>
    obtain ⟨hlt, hbit⟩ := nbit_stickyCleared first last (i := i) (d.rdN_lt (rCNT_OVF i)) hk
    rw [Dev.rdN_wrN_same, Nat.mod_eq_of_lt hlt, hbit]

/-- The counters from one to another at 0, before their sticky bits are cleared. -/
def Dev.countersZero (d : Dev) (first last : Nat) : Dev :=
  { d with regs := skeep (fun a => !(decide (rEVC_LO first ≤ a) && decide (a ≤ rEVC_HI last))) d.regs }

theorem Dev.cntZero_eq (d : Dev) {first last : Nat} (h : first ≤ last) :
    d.cntZero first last = (List.range 128).foldl (Dev.stickyWord first last) (d.countersZero first last) := by
  unfold Dev.cntZero
  rw [if_neg (by omega)]
  rfl

theorem Dev.rd_countersZero (d : Dev) (first last : Nat) {a : Nat} (h : a < rEVC_LO first ∨ rEVC_HI last < a) :
    (d.countersZero first last).rd a = d.rd a :=
  sget_skeep regReset (fun a => !(decide (rEVC_LO first ≤ a) && decide (a ≤ rEVC_HI last))) d.regs (by simp; omega)

theorem Dev.rd_countersZero_in (d : Dev) (first last : Nat) {a : Nat} (h1 : rEVC_LO first ≤ a) (h2 : a ≤ rEVC_HI last) :
    (d.countersZero first last).rd a = regReset a :=
  sget_skeep_drop regReset (fun a => !(decide (rEVC_LO first ≤ a) && decide (a ≤ rEVC_HI last))) d.regs (by simp [h1, h2])

theorem Dev.rd_stickyWords (first last : Nat) (d : Dev) {a n : Nat} (h : ∀ i < n, a ≠ rCNT_OVF i) :
    ((List.range n).foldl (Dev.stickyWord first last) d).rd a = d.rd a := by
  induction n with
  | zero => rfl
  | succ n ih =>
    rw [List.range_succ, List.foldl_append, List.foldl_cons, List.foldl_nil, Dev.rd_stickyWord _ _ _ (h n (by omega)),
      ih fun i hi => h i (by omega)]

theorem Dev.nbit_stickyWords (first last : Nat) (d : Dev) {n i k : Nat} (hi : i < n) (hk : k < 32) :
    nbit (((List.range n).foldl (Dev.stickyWord first last) d).rdN (rCNT_OVF i)) k =
      (nbit (d.rdN (rCNT_OVF i)) k && !decide (first ≤ 32 * i + k ∧ 32 * i + k ≤ last)) := by
  induction n with
  | zero => omega
  | succ n ih =>
    rw [List.range_succ, List.foldl_append, List.foldl_cons, List.foldl_nil]
    by_cases hn : i = n
    · subst hn
      rw [Dev.nbit_stickyWord _ _ _ _ hk, Dev.rdN_congr (Dev.rd_stickyWords first last d fun j hj => by unfold rCNT_OVF; omega)]
    · rw [Dev.rdN_congr (Dev.rd_stickyWord _ _ _ (by unfold rCNT_OVF; omega)), ih (by omega)]

/-- The counters of a range read 0 once cleared, and the others as before (R612). -/
theorem Dev.cntZero_shown (d : Dev) {first last : Nat} (h : first ≤ last) (hl : last < 4096) {c : Nat} (hc : c < 4096) :
    (first ≤ c → c ≤ last → (d.cntZero first last).rd64 (rEVC_LO c) (rEVC_HI c) = 0 ∧
      nbit ((d.cntZero first last).rdN (rCNT_OVF (c / 32))) (c % 32) = false) ∧
    (c < first ∨ last < c → (d.cntZero first last).rd64 (rEVC_LO c) (rEVC_HI c) = d.rd64 (rEVC_LO c) (rEVC_HI c) ∧
      nbit ((d.cntZero first last).rdN (rCNT_OVF (c / 32))) (c % 32) = nbit (d.rdN (rCNT_OVF (c / 32))) (c % 32)) := by
  have hlo : ∀ i < 128, rEVC_LO c ≠ rCNT_OVF i := fun i _ => by unfold rEVC_LO rCNT_OVF; omega
  have hhi : ∀ i < 128, rEVC_HI c ≠ rCNT_OVF i := fun i _ => by unfold rEVC_HI rCNT_OVF; omega
  have hovf : (d.countersZero first last).rd (rCNT_OVF (c / 32)) = d.rd (rCNT_OVF (c / 32)) :=
    d.rd_countersZero first last (.inr (by unfold rEVC_HI rCNT_OVF; omega))
  have hbit := Dev.nbit_stickyWords first last (d.countersZero first last) (show c / 32 < 128 by omega) (Nat.mod_lt c (by decide : 32 > 0))
  rw [show 32 * (c / 32) + c % 32 = c by omega, Dev.rdN_congr hovf] at hbit
  rw [Dev.cntZero_eq d h, hbit, Dev.rd64, Dev.rd64, Dev.rdN_congr (Dev.rd_stickyWords first last _ hlo),
    Dev.rdN_congr (Dev.rd_stickyWords first last _ hhi)]
  refine ⟨fun h1 h2 => ⟨?_, by simp [h1, h2]⟩, fun hout => ⟨?_, ?_⟩⟩
  · have hzero : ∀ a, 0xa0000 ≤ a → a < 0xa8000 → rEVC_LO first ≤ a → a ≤ rEVC_HI last → (d.countersZero first last).rdN a = 0 :=
      fun a ha ha' h1 h2 => by rw [Dev.rdN, d.rd_countersZero_in first last h1 h2, regReset_counter ha ha']; rfl
    rw [hzero _ (by unfold rEVC_LO; omega) (by unfold rEVC_LO; omega) (by unfold rEVC_LO; omega) (by unfold rEVC_LO rEVC_HI; omega),
      hzero _ (by unfold rEVC_HI; omega) (by unfold rEVC_HI; omega) (by unfold rEVC_LO rEVC_HI; omega) (by unfold rEVC_HI; omega),
      Nat.zero_add, Nat.mul_zero]
  · rw [Dev.rdN_congr (d.rd_countersZero first last (by unfold rEVC_LO rEVC_HI; omega)),
      Dev.rdN_congr (d.rd_countersZero first last (by unfold rEVC_LO rEVC_HI; omega))]
  · simp only [show ¬(first ≤ c ∧ c ≤ last) by omega, decide_false, Bool.not_false, Bool.and_true]

end Sys2Proof.Machine

/-! CNT_CLEAR and the commands on the event counters, and the obligation on them (21_counters_test.md R612, R613, R628). -/

namespace Sys2Proof.Machine

theorem exec_cntClear (val : Word) (s : State) :
    exec (.cntClear val) s = s.run (fun d => d.writeCntClear (Nat.lor val.toNat (2 ^ 31))) := rfl

/-- GO, set in a word, changes neither FIRST nor LAST. -/
theorem clearWord (v : Nat) : nbit (Nat.lor v (2 ^ 31)) 31 = true ∧
    fieldOf (Nat.lor v (2 ^ 31)) fCNT_CLEAR_FIRST = fieldOf v fCNT_CLEAR_FIRST ∧
    fieldOf (Nat.lor v (2 ^ 31)) fCNT_CLEAR_LAST = fieldOf v fCNT_CLEAR_LAST := by
  have hfield : ∀ f : Fld, f.hi < 31 → f.lo ≤ f.hi → fieldOf (Nat.lor v (2 ^ 31)) f = fieldOf v f := fun f hf hlo => by
    refine Nat.eq_of_testBit_eq fun i => ?_
    rw [testBit_fieldOf, testBit_fieldOf, show Nat.lor v (2 ^ 31) = v ||| 2 ^ 31 from rfl, Nat.testBit_or, Nat.testBit_two_pow]
    by_cases hi : i < f.hi - f.lo + 1
    · simp [show ¬31 = f.lo + i by omega]
    · simp [hi]
  refine ⟨?_, hfield _ (by decide) (by decide), hfield _ (by decide) (by decide)⟩
  rw [nbit_eq_testBit, show Nat.lor v (2 ^ 31) = v ||| 2 ^ 31 from rfl, Nat.testBit_or, Nat.testBit_two_pow]
  simp

theorem Dev.rd_cntZero (d : Dev) {first last : Nat} (h : first ≤ last) (hl : last < 4096) {a : Nat} (ha : 0xa8200 ≤ a) :
    (d.cntZero first last).rd a = d.rd a := by
  rw [Dev.cntZero_eq d h, Dev.rd_stickyWords _ _ _ fun i hi => by unfold rCNT_OVF; omega,
    Dev.rd_countersZero _ _ _ (.inr (by unfold rEVC_HI; omega))]

theorem cntClear_clears {s : State} (hs : s.Runs) {val : Word}
    (h : fieldOf val.toNat fCNT_CLEAR_FIRST ≤ fieldOf val.toNat fCNT_CLEAR_LAST) :
    ∃ t, exec (.cntClear val) s = .next t ∧ t.dev.bit rCNT_CLEAR fCNT_CLEAR_GO = false ∧ ∀ c < 4096,
      (fieldOf val.toNat fCNT_CLEAR_FIRST ≤ c → c ≤ fieldOf val.toNat fCNT_CLEAR_LAST →
        t.dev.rd64 (rEVC_LO c) (rEVC_HI c) = 0 ∧ nbit (t.dev.rdN (rCNT_OVF (c / 32))) (c % 32) = false) ∧
      (c < fieldOf val.toNat fCNT_CLEAR_FIRST ∨ fieldOf val.toNat fCNT_CLEAR_LAST < c →
        t.dev.rd64 (rEVC_LO c) (rEVC_HI c) = s.dev.rd64 (rEVC_LO c) (rEVC_HI c) ∧
        nbit (t.dev.rdN (rCNT_OVF (c / 32))) (c % 32) = nbit (s.dev.rdN (rCNT_OVF (c / 32))) (c % 32)) := by
  obtain ⟨hgo, hfirst, hlast⟩ := clearWord val.toNat
  have hl : fieldOf val.toNat fCNT_CLEAR_LAST < 4096 := fieldOf_lt ..
  obtain ⟨e, he, hgo0, hrd⟩ : ∃ e : Dev, s.start.writeCntClear (Nat.lor val.toNat (2 ^ 31)) =
      e.cntZero (fieldOf val.toNat fCNT_CLEAR_FIRST) (fieldOf val.toNat fCNT_CLEAR_LAST) ∧
      e.bit rCNT_CLEAR fCNT_CLEAR_GO = false ∧ ∀ a, a ≠ rCNT_CLEAR → e.rd a = s.dev.rd a := by
    refine ⟨_, ?_, Dev.bit_put_zero (s.start.access rCNT_CLEAR (Nat.lor val.toNat (2 ^ 31))) _ (by decide),
      ((Dev.writes_access (P := (· = rCNT_CLEAR)) s.start (Nat.lor val.toNat (2 ^ 31)) rfl).trans (Dev.writes_put _ _ _ rfl)).rd⟩
    rw [Dev.writeCntClear, hgo, if_pos rfl, hfirst, hlast]
  rw [exec_cntClear]
  refine ⟨_, State.run_after hs.1 (f := fun d => d.writeCntClear (Nat.lor val.toNat (2 ^ 31))) he, ?_, fun c hc => ?_⟩
  · rw [State.after_bit, Dev.bit_congr (e.rd_cntZero h hl (by decide)), hgo0]
  · have hshown := e.cntZero_shown h hl hc
    have hcount : e.rd64 (rEVC_LO c) (rEVC_HI c) = s.dev.rd64 (rEVC_LO c) (rEVC_HI c) := by
      rw [Dev.rd64, Dev.rdN_congr (hrd (rEVC_LO c) (by unfold rEVC_LO rCNT_CLEAR; omega)),
        Dev.rdN_congr (hrd (rEVC_HI c) (by unfold rEVC_HI rCNT_CLEAR; omega)), Dev.rd64]
    rw [hcount, Dev.rdN_congr (hrd (rCNT_OVF (c / 32)) (by unfold rCNT_OVF rCNT_CLEAR; omega))] at hshown
    exact hshown

/-! The commands (R628). -/

/-- A command that ends with its answer, and what holds of the state it leaves. -/
theorem State.run_ends {s : State} {m : Fin 64} {code : Nat} {c : Cmd} {r : Nat} {resp : List Byte} (h : s.Ready m code c)
    {body : Cmd → Dev → Dev} {e : Dev} (hb : body c s.start = e.finish c.mbx r resp) (hc : r < 65536) (hl : resp.length ≤ 0x800)
    {P : State → Prop} (hP : P (s.after (e.finish m.val r resp))) :
    ∃ t, s.run (fun d => d.command m.val code body) = .next t ∧ t.Done m r resp ∧ P t :=
  ⟨_, State.run_answers h hb, State.done_after_finish s e hc hl, hP⟩

/-- A command that a check refuses. -/
theorem State.run_refused {s : State} {m : Fin 64} {code : Nat} {c : Cmd} {r : Nat} (h : s.Ready m code c)
    {body : Cmd → Dev → Dev} (hb : body c s.start = s.start.finish c.mbx r []) (hc : r < 65536) :
    ∃ t, s.run (fun d => d.command m.val code body) = .next t ∧ t.Done m r [] ∧ s.OnlyAnswers t m := by
  obtain ⟨t, hrun, honly, hdone⟩ := State.run_shows h hb hc (Nat.zero_le _)
  exact ⟨t, hrun, hdone, honly⟩

/-- A register above the mailboxes' and the link's keeps its value as a command ends. -/
theorem Dev.rd_finish_above (d : Dev) {m : Nat} (hm : m < 64) (r : Nat) (resp : List Byte) {a : Nat} (h : 0x90000 ≤ a) :
    (d.finish m r resp).rd a = d.rd a :=
  d.rd_finish m r resp (by unfold rGLK_CNT; omega) (by unfold rMBX_STATUS; omega) (by unfold rMBX_INFO; omega)

theorem Cmd.u32_lt (c : Cmd) (i : Nat) : c.u32 i < 2 ^ 32 := leAt_lt c.req i 4

theorem length_cntRead (v : Nat) (value : Nat → Nat) (bit : Nat → Bool) (first : Nat) {count : Nat} (hc : count ≤ 128) :
    (leB 8 v ++ (List.range count).flatMap (fun i => leB 8 (value i)) ++ stickyBytes bit first count).length ≤ 0x800 := by
  simp only [List.length_append, length_leB, List.length_flatMap, List.map_const', List.sum_replicate, List.length_range, smul_eq_mul,
    stickyBytes]
  omega

theorem Dev.schedule_next (d : Dev) : d.schedule 1 0 = (resOk, d.nextEffect, d.reqNext 1) := if_pos rfl

theorem Dev.reqNext_snapshot (d : Dev) : (d.reqNext 1).tick =
    if d.cutOff then { d.tick with late := Nat.lor d.tick.late 1 } else { d.tick with onTime := Nat.lor d.tick.onTime 1 } := by
  rw [Dev.reqNext, Dev.reqActions_one (.inl rfl) (fun h => absurd h (by decide))]
  exact Dev.showReq_tick _

theorem Dev.tickNow_congr {d e : Dev} (h : ∀ a, d.rd a = e.rd a) : d.tickNow = e.tickNow := by
  rw [Dev.tickNow, Dev.rd64, Dev.rdN_congr (h _), Dev.rdN_congr (h _), Dev.tickNow, Dev.rd64]

theorem Dev.nextEffect_congr {d e : Dev} (h : ∀ a, d.rd a = e.rd a) : d.nextEffect = e.nextEffect := by
  rw [Dev.nextEffect, Dev.tickNow_congr h, show d.cutOff = e.cutOff from Dev.bit_congr (h _) _, Dev.nextEffect]

theorem State.start_nextEffect (s : State) : s.start.nextEffect = s.dev.nextEffect := Dev.nextEffect_congr fun _ => rfl

theorem State.start_tick (s : State) : s.start.tick = s.dev.tick := rfl

@[simp] theorem State.after_tick (s : State) (e : Dev) : (s.after e).dev.tick = e.tick := (rfl)

theorem State.start_cutOff (s : State) : s.start.cutOff = s.dev.cutOff :=
  Dev.bit_congr (show s.start.rd rTICK_STATUS = s.dev.rd rTICK_STATUS from rfl) _

section
variable {s : State} {m : Fin 64} {c : Cmd} (hown : c.isOwner = true)
include hown

section
variable (h : s.Ready m 0x0B01 c) (h0 : c.u16 0 < 4096) (h2 : c.u8 2 = 0) (h3 : c.zero 3 1 = true) (hends : c.endsAt 8 = true)
  (hval : badValue (rCNT_CFG 0) (c.u32 4) = false)
include h h0 h2 h3 hends hval

theorem cntConfig_stores (hok : cntBad (c.u32 4) (s.dev.profile (fieldOf (c.u32 4) fCNT_CFG_FILTER)) = false) :
    ∃ t, exec (.cntConfig m) s = .next t ∧ t.Done m 0 [] ∧ t.dev.rdN (rCNT_CFG (c.u16 0)) = c.u32 4 := by
  have hprofile : cntBad (c.u32 4) (s.start.profile (fieldOf (c.u32 4) fCNT_CFG_FILTER)) = false := hok
  refine State.run_ends h (e := s.start.wrN (rCNT_CFG (c.u16 0)) (c.u32 4)) ((Cmd.checks_pass c _ ?checks _).trans ?runs) (by decide)
    (by decide) ?_
  case checks => simp [Cmd.mustOwn, inForm, hown, h0, h2, h3, hends, hval, hprofile, Cmd.only, nbit]
  case runs => simp only [h2]; rfl
  rw [State.after_rdN, Dev.rdN_congr (Dev.rd_finish_above _ m.isLt _ _ (by unfold rCNT_CFG; omega)), Dev.rdN_wrN_same,
    Nat.mod_eq_of_lt (c.u32_lt 4)]

theorem cntConfig_refused (hbad : cntBad (c.u32 4) (s.dev.profile (fieldOf (c.u32 4) fCNT_CFG_FILTER)) = true) :
    ∃ t, exec (.cntConfig m) s = .next t ∧ t.Done m resBadParam [] ∧ s.OnlyAnswers t m := by
  have hprofile : cntBad (c.u32 4) (s.start.profile (fieldOf (c.u32 4) fCNT_CFG_FILTER)) = true := hbad
  refine State.run_refused h (Cmd.checks_fail (b := false) c s.start ?fails _) (by decide)
  simp [Cmd.mustOwn, inForm, hown, h0, h2, h3, hends, hval, hprofile, Cmd.only, nbit]

end

section
variable (h : s.Ready m 0x0B02 c) (h1 : 1 ≤ c.u8 2) (h2 : c.u8 2 ≤ 128) (h0 : c.u16 0 + c.u8 2 ≤ 4096) (hends : c.endsAt 4 = true)
include h h1 h2 h0 hends

theorem cntRead_snapshot (h3 : c.u8 3 = 0) : ∃ t, exec (.cntRead m) s = .next t ∧ s.OnlyAnswers t m ∧
      t.Done m 0 (leB 8 (s.dev.rd64 rSNAP_TICK_LO rSNAP_TICK_HI) ++
        (List.range (c.u8 2)).flatMap (fun i => leB 8 (s.dev.rd64 (rSNAP_LO (c.u16 0 + i)) (rSNAP_HI (c.u16 0 + i)))) ++
        stickyBytes (fun n => nbit (s.dev.rdN (rSNAP_OVF (n / 32))) (n % 32)) (c.u16 0) (c.u8 2)) := by
  refine State.run_shows h ((Cmd.checks_pass c _ ?checks _).trans ?runs) (by decide) (length_cntRead _ _ _ _ h2)
  case checks => simp [inForm, Cmd.mayExpert, hown, h1, h2, h0, h3, hends, Cmd.only]
  case runs =>
    simp only [h3, Dev.cntMine, hown, Bool.true_or, Bool.not_true, Bool.true_and, Bool.false_eq_true, if_false,
      show nbit 0 0 = false from rfl, show nbit 0 1 = false from rfl]
    rfl

theorem cntRead_live (h3 : c.u8 3 = 1) : ∃ t, exec (.cntRead m) s = .next t ∧ s.OnlyAnswers t m ∧
      t.Done m 0 (leB 8 (s.dev.rd64 rSNAP_TICK_LO rSNAP_TICK_HI) ++
        (List.range (c.u8 2)).flatMap (fun i => leB 8 (s.dev.rd64 (rEVC_LO (c.u16 0 + i)) (rEVC_HI (c.u16 0 + i)))) ++
        stickyBytes (fun n => nbit (s.dev.rdN (rCNT_OVF (n / 32))) (n % 32)) (c.u16 0) (c.u8 2)) := by
  refine State.run_shows h ((Cmd.checks_pass c _ ?checks _).trans ?runs) (by decide) (length_cntRead _ _ _ _ h2)
  case checks => simp [inForm, Cmd.mayExpert, hown, h1, h2, h0, h3, hends, Cmd.only]
  case runs =>
    simp only [h3, Dev.cntMine, hown, Bool.true_or, Bool.not_true, Bool.true_and, Bool.false_eq_true, if_false, if_true,
      show nbit 1 0 = true from rfl, show nbit 1 1 = false from rfl]
    rfl

end

theorem cntSnapshot_binds (h : s.Ready m 0x0B03 c) (h0 : c.u8 0 = 0) (h1 : c.zero 1 7 = true) (hends : c.endsAt 8 = true) :
    ∃ t, exec (.cntSnapshot m) s = .next t ∧ t.Done m 0 (leB 8 s.dev.nextEffect) ∧
      t.dev.tick = (if s.dev.cutOff then { s.dev.tick with late := Nat.lor s.dev.tick.late 1 }
        else { s.dev.tick with onTime := Nat.lor s.dev.tick.onTime 1 }) := by
  refine State.run_ends h (e := s.start.reqNext 1) ((Cmd.checks_pass c _ ?checks _).trans ?runs) (by decide)
    (by rw [length_leB]; decide) ?_
  case checks => simp [Cmd.mustOwn, inForm, hown, h0, h1, hends, Cmd.only, Cmd.expert, nbit]
  case runs => simp only [Cmd.expert, h0, show nbit 0 7 = false from rfl, Bool.false_eq_true, if_false, Dev.schedule_next, if_true, State.start_nextEffect, Cmd.ok]; rfl
  rw [State.after_tick, Dev.finish_tick, Dev.reqNext_snapshot, s.start_cutOff, s.start_tick]

end

/-- Settles O48: the configurations are stored or refused, a clear zeroes its counters alone, and the commands answer the values. -/
theorem countersAreConfiguredAndRead : Obligations.CountersAreConfiguredAndRead := by
  unfold Obligations.CountersAreConfiguredAndRead
  refine ⟨fun s n val hs => ⟨cntCfgWrite_refused hs, cntCfgWrite_stores hs⟩, fun s p w val hs => ⟨cntFltWrite_fixed hs w val,
    cntFltWrite_address hs val, cntFltWrite_stores hs, cntFltWrite_clashes hs⟩, fun s val hs h => cntClear_clears hs h, ?_, ?_, ?_⟩
  · intro s m c h hown h0 h2 h3 hends hval
    exact ⟨cntConfig_stores hown h h0 h2 h3 hends hval, cntConfig_refused hown h h0 h2 h3 hends hval⟩
  · intro s m c h hown h1 h2 h0 hends
    exact ⟨cntRead_snapshot hown h h1 h2 h0 hends, cntRead_live hown h h1 h2 h0 hends⟩
  · intro s m c h hown h0 h1 hends
    exact cntSnapshot_binds hown h h0 h1 hends

end Sys2Proof.Machine

/-! The temperature trip and a command that waits on a tree's RSSI trigger: the counterexample to the obligation on the die
(03_tree_line.md R77, R86; 22_electrical.md R637, R645). -/

namespace Sys2Proof.Machine

/-! A tree that is neither enabled nor live (R73). -/

theorem Dev.treeCan_disabled {d : Dev} {t : Nat} (h : d.treeEn t = false) : d.treeCan t = false := by
  rw [Dev.treeCan, h]
  rfl

theorem Dev.writes_lineQuiet (d : Dev) (t : Nat) : Dev.Writes (· = rTREE_LINE_STATUS t) d (d.lineQuiet t) := by
  unfold Dev.lineQuiet
  have hquiet := ((Dev.writes_put (P := (· = rTREE_LINE_STATUS t)) d fTREE_LINE_STATUS_FRAMING 0 rfl).trans
    (Dev.writes_put _ fTREE_LINE_STATUS_COUNTDOWN 0 rfl)).trans (Dev.writes_put _ fTREE_LINE_STATUS_DS_PRECODE_ACTIVE 0 rfl)
  exact .ite hquiet (hquiet.trans (Dev.writes_put _ _ _ rfl))

/-- A tree that cannot send is first taken down where it was live, and then only its line's status follows. -/
theorem Dev.writes_treeUpdate {d : Dev} {t : Nat} (h : d.treeEn t = false) :
    Dev.Writes (· = rTREE_LINE_STATUS t) (if (d.tree t).live then d.treeDown t else d) (d.treeUpdate t) := by
  have hcan : d.treeCan t = false := Dev.treeCan_disabled h
  unfold Dev.treeUpdate
  simp only [hcan, Bool.false_and, Bool.false_eq_true, if_false, Bool.not_false, Bool.true_and]
  refine (Dev.writes_lineQuiet _ t).trans (.ite (.refl _ _) ?_)
  exact (Dev.writes_put (P := (· = rTREE_LINE_STATUS t)) _ _ _ rfl).trans (Dev.writes_emit ..)

/-- No tree is enabled or live, and the device shows no thermal trip. -/
def Dev.Dark (d : Dev) : Prop :=
  (∀ t < 48, d.treeEn t = false ∧ (d.tree t).live = false) ∧ d.bit rPIN_STATUS fPIN_STATUS_THERM_TRIP = false

theorem Dev.Dark.writes {d e : Dev} {t : Nat} (hd : d.Dark) (h : d.Writes (· = rTREE_LINE_STATUS t) e) (ht : t < 48) : e.Dark := by
  obtain ⟨htrees, htrip⟩ := hd
  refine ⟨fun k hk => ?_, ?_⟩
  · have hline : rTREE_LINE_CTRL k ≠ rTREE_LINE_STATUS t := by unfold rTREE_LINE_CTRL rTREE_LINE_STATUS; omega
    have htree : e.trees = d.trees := (congrArg Dev.trees h.rest).trans rfl
    rw [Dev.treeEn, Dev.bit_congr (h.rd _ hline), Dev.tree, htree]
    exact htrees k hk
  · rw [Dev.bit_congr (h.rd _ (by unfold rPIN_STATUS rTREE_LINE_STATUS; omega))]
    exact htrip

theorem Dev.Dark.treeUpdate {d : Dev} (hd : d.Dark) {t : Nat} (ht : t < 48) : (d.treeUpdate t).Dark := by
  obtain ⟨hen, hlive⟩ := hd.1 t ht
  have hw := Dev.writes_treeUpdate hen
  rw [hlive] at hw
  exact hd.writes hw ht

theorem Dev.Dark.treeUpdates {d : Dev} (hd : d.Dark) {l : List Nat} (hl : ∀ t ∈ l, t < 48) : (l.foldl Dev.treeUpdate d).Dark := by
  induction l generalizing d with
  | nil => exact hd
  | cons t l ih => exact ih (hd.treeUpdate (hl t (.head _))) fun k hk => hl k (.tail _ hk)

theorem Dev.rd_pinUpdate (d : Dev) (k a : Nat) : (d.pinUpdate k).rd a = d.rd a := by
  unfold Dev.pinUpdate
  dsimp only
  split
  · rfl
  · exact Dev.rd_emit ..

theorem Dev.rd_pinUpdateAll (d : Dev) (a : Nat) : d.pinUpdateAll.rd a = d.rd a :=
  foldl_keeps (f := Dev.pinUpdate) (fun d : Dev => d.rd a) (fun d k => d.rd_pinUpdate k a) _ d

/-! The counterexample. -/

/-- A TREE_RSSI of tree 0 that waits, under a mailbox number whose status would stand at the address of PIN_STATUS. -/
def rssiWaits : Cmd := ⟨0x1bc0, 0x0103, [], none, true, [0]⟩

/-- A running device with tree 0 live and its RSSI trigger armed. -/
def armedDev : Dev :=
  { clk := { sup := .run }
    trees := [(0, { live := true })]
    glk := { cmds := [rssiWaits] }
    pin := { warm := true }
    regs := [(rGLK_ALERT_MASK, 0xFFFFFFFF#32), (rTREE_RSSI_CTRL 0, 0x80000000#32)] }

def armedState : State := { pending := [], mem := [], flash := [], dev := armedDev }

/-- The device as it shows a reading of 125 degrees. -/
def readDev : Dev :=
  let d := (armedDev.put rPIN_TEMP fPIN_TEMP_TJ 125).put rPIN_TEMP fPIN_TEMP_PEAK (sfield 16 125)
  { d with pin := { d.pin with read := true } }

/-- The device once the trip has begun, before the lasers follow. -/
def trippedDev : Dev := (readDev.put rPIN_STATUS fPIN_STATUS_THERM_TRIP 1).mark rPIN_ERR fPIN_ERR_THERM_TRIP

theorem armedState_runs : armedState.Runs := ⟨rfl, rfl, rfl⟩

theorem armedState_cold : armedState.dev.bit rPIN_STATUS fPIN_STATUS_THERM_TRIP = false := by rfl

theorem trippedDev_down : (trippedDev.treeDown 0).bit rPIN_STATUS fPIN_STATUS_THERM_TRIP = false := by rfl

theorem trippedDev_trees :
    (List.range 48).all (fun t => !((trippedDev.treeDown 0).treeEn t) && !((trippedDev.treeDown 0).tree t).live) = true := by rfl

theorem trippedDev_dark : (trippedDev.treeDown 0).Dark := by
  refine ⟨fun t ht => ?_, trippedDev_down⟩
  have hall := List.all_eq_true.1 trippedDev_trees t (List.mem_range.2 ht)
  simpa using hall

theorem trippedDev_off : trippedDev.treeEn 0 = false ∧ (trippedDev.tree 0).live = true := ⟨by rfl, by rfl⟩

theorem Dev.tripNow_begins {d : Dev} {c : Int} (hoff : d.bit rPIN_STATUS fPIN_STATUS_THERM_TRIP = false) (hc : 125 ≤ c) : d.tripNow c =
    (((d.put rPIN_STATUS fPIN_STATUS_THERM_TRIP 1).mark rPIN_ERR fPIN_ERR_THERM_TRIP).alert 0x1509 (p4 (sfield 32 c))).lasersNow := by
  rw [Dev.tripNow, hoff, decide_eq_true hc]
  rfl

theorem Dev.alert_masked {d : Dev} {code : Nat} (ps : List Byte) (h : nbit (d.rdN rGLK_ALERT_MASK) (code / 256) = true) :
    d.alert code ps = d := if_pos h

theorem readDev_warnNow : readDev.warnNow 125 = readDev := by rfl

theorem readDev_off : readDev.bit rPIN_STATUS fPIN_STATUS_THERM_TRIP = false := by rfl

theorem trippedDev_masked : nbit (trippedDev.rdN rGLK_ALERT_MASK) (0x1509 / 256) = true := by rfl

theorem readDev_tripNow : readDev.tripNow 125 = trippedDev.lasersNow := by
  rw [Dev.tripNow_begins readDev_off (by decide), ← trippedDev, Dev.alert_masked _ trippedDev_masked]

theorem exec_tempReading (temp : BitVec 16) (s : State) : exec (.tempReading temp) s = s.run (fun d =>
    let c := sval 16 temp.toNat
    let peak := if d.pin.read then max (sval 16 (d.get rPIN_TEMP fPIN_TEMP_PEAK)) c else c
    let d := (d.put rPIN_TEMP fPIN_TEMP_TJ temp.toNat).put rPIN_TEMP fPIN_TEMP_PEAK (sfield 16 peak)
    let d := { d with pin := { d.pin with read := true } }
    (d.warnNow c).tripNow c) := rfl

theorem tempReading_armed : exec (.tempReading 125) armedState = .next (armedState.after trippedDev.lasersNow) := by
  rw [exec_tempReading]
  refine State.run_after rfl ?_
  rw [← readDev_tripNow, ← readDev_warnNow]
  rfl

/-- Taking tree 0 down ends the trigger and the command, whose answer clears the trip that was just shown. -/
theorem trippedDev_untripped : trippedDev.lasersNow.bit rPIN_STATUS fPIN_STATUS_THERM_TRIP = false := by
  have hfirst := Dev.writes_treeUpdate trippedDev_off.1
  rw [trippedDev_off.2, if_pos rfl] at hfirst
  have hall : ((List.range 48).foldl Dev.treeUpdate trippedDev).Dark := by
    rw [List.range_succ_eq_map, List.foldl_cons]
    exact (trippedDev_dark.writes hfirst (by decide)).treeUpdates (by simp; omega)
  rw [Dev.lasersNow, Dev.bit_congr (Dev.rd_pinUpdateAll ..)]
  exact hall.2

/-- Refutes O50: where a command that waits on an armed RSSI trigger stands under a number that is no mailbox's, ending the trigger
writes its answer over PIN_STATUS, and a reading of 125 degrees leaves THERM_TRIP clear. -/
theorem not_theDieIsWatchedAndGuarded : ¬ Obligations.TheDieIsWatchedAndGuarded := by
  unfold Obligations.TheDieIsWatchedAndGuarded
  rintro ⟨htemp, -⟩
  obtain ⟨⟨t, hrun, -, -, -, htrip⟩, -⟩ := htemp armedState 125 armedState_runs
  rw [tempReading_armed, Host.Outcome.next.injEq] at hrun
  rw [← hrun, State.after_bit, trippedDev_untripped, armedState_cold] at htrip
  exact absurd htrip (by decide)

end Sys2Proof.Machine

/-! The Stacks and the Pantry: the lock, rebuilt lists, reserves, status and readiness (13_stacks_pantry.md R383-R405). -/

namespace Sys2Proof.Machine

/-- A bit that writing 1 sets reads 1 after such a write. -/
theorem Dev.bit_access_set (d : Dev) {a v : Nat} {f : Fld} (hone : f.hi = f.lo) (h32 : f.lo < 32)
    (hrow : (regFind a).any (fun x => nbit x.2.2.w1s f.lo) = true) (hv : nbit v f.lo = true) : (d.access a v).bit a f = true := by
  obtain ⟨⟨b, k, r⟩, hfind, hr⟩ := (Option.any_eq_true ..).mp hrow
  have hr' : r.w1s.testBit f.lo = true := (nbit_eq_testBit ..).symm.trans hr
  have hv' : v.testBit f.lo = true := (nbit_eq_testBit ..).symm.trans hv
  rw [Dev.bit_eq_nbit _ _ hone, nbit_eq_testBit, Dev.rdN_access_same]
  simp only [Dev.stored, hfind, Nat.testBit_mod_two_pow, testBit_accessWord, h32, hr', hv', decide_true, Bool.and_self, Bool.or_true]

/-! What the Pantry shows (R393, R394, R401). -/

/-- The registers that show the Pantry's totals and pools. -/
def panShown (a : Nat) : Prop := a = rPAN_TOTAL ∨ a = rPAN_SHARED_SIZE ∨ ∃ p < 4, a = rPAN_POOL_FREE p ∨ a = rPAN_POOL_TOTAL p

theorem Dev.writes_showPan (d : Dev) : d.Writes panShown d.showPan := by
  unfold Dev.showPan
  dsimp only
  split
  · refine ((d.writes_wrN _ (.inl rfl)).trans (Dev.writes_wrN _ _ (.inr (.inl rfl)))).trans (Dev.Writes.foldl (fun e p hp => ?_) _)
    have hp4 := List.mem_range.1 hp
    exact (e.writes_wrN _ (.inr (.inr ⟨p, hp4, .inl rfl⟩))).trans (Dev.writes_wrN _ _ (.inr (.inr ⟨p, hp4, .inr rfl⟩)))
  · exact .refl ..

theorem Dev.rd_showPan (d : Dev) {a : Nat} (h : a < 0x11000c ∨ 0x110014 ≤ a ∧ a < 0x110040 ∨ 0x110060 ≤ a) : d.showPan.rd a = d.rd a := by
  refine d.writes_showPan.rd a ?_
  unfold panShown rPAN_TOTAL rPAN_SHARED_SIZE rPAN_POOL_FREE rPAN_POOL_TOTAL
  rintro (h | h | ⟨p, hp, h | h⟩) <;> omega

theorem Dev.showPan_pan (d : Dev) : d.showPan.pan = d.pan := (congrArg Dev.pan d.writes_showPan.rest).trans rfl

/-! STK_LOCK (R383). -/

theorem Dev.bankState_congr {d e : Dev} (h : ∀ a, d.rd a = e.rd a) (b : Nat) : d.bankState b = e.bankState b := Dev.get_congr (h _) _

theorem Dev.bankOwner_congr {d e : Dev} (h : ∀ a, d.rd a = e.rd a) (b : Nat) : d.bankOwner b = e.bankOwner b := Dev.get_congr (h _) _

theorem Dev.heldBanks_congr {d e : Dev} (h : ∀ a, d.rd a = e.rd a) (o : Nat) : d.heldBanks o = e.heldBanks o := by
  simp only [Dev.heldBanks, Dev.bankState_congr h, Dev.bankOwner_congr h]

theorem State.start_heldBanks (s : State) (o : Nat) : s.start.heldBanks o = s.dev.heldBanks o := Dev.heldBanks_congr (fun _ => rfl) o

theorem exec_stkLock (val : Word) (s : State) : exec (.stkLock val) s = s.run (fun d => d.writeStkCtrl (Nat.lor val.toNat (2 ^ 31))) := rfl

/-- The lock bit of a word written with it set. -/
theorem nbit_lockWord (v : Nat) : nbit (Nat.lor v (2 ^ 31)) 31 = true := (clearWord v).1

section
variable {s : State} (hs : s.Runs)
include hs

theorem stkLock_locks (val : Word) (h : ∀ o ∈ [2, 3, 4, 5], s.dev.heldBanks o = needBanks o) :
    ∃ t, exec (.stkLock val) s = .next t ∧ t.dev.rdN rSTK_CTRL = s.dev.stored rSTK_CTRL (Nat.lor val.toNat (2 ^ 31)) ∧
      t.dev.stkLocked = true ∧ s.OnlyChanges t [rSTK_CTRL] s.dev := by
  have hany : [2, 3, 4, 5].any (fun o => s.start.heldBanks o != needBanks o) = false :=
    List.any_eq_false.2 fun o ho => by rw [s.start_heldBanks, h o ho]; simp
  have hw : s.start.writeStkCtrl (Nat.lor val.toNat (2 ^ 31)) = s.start.access rSTK_CTRL (Nat.lor val.toNat (2 ^ 31)) := by
    rw [Dev.writeStkCtrl, hany, Bool.and_false, if_neg Bool.false_ne_true]
  obtain ⟨hrun, honly⟩ := State.run_writes_regs hs (f := fun d => d.writeStkCtrl (Nat.lor val.toNat (2 ^ 31))) hw
    (s.start.writes_access _ (.head _))
  refine ⟨_, hrun, ?_, Dev.bit_access_set _ (by decide) (by decide) (by decide) (nbit_lockWord _), honly⟩
  rw [Dev.rdN_access_same]
  exact Dev.stored_congr (d := s.start) (e := s.dev) rfl _

theorem stkLock_refused (val : Word) (hfree : s.dev.stkLocked = false) {o : Nat} (ho : o ∈ [2, 3, 4, 5])
    (h : s.dev.heldBanks o ≠ needBanks o) : ∃ t, exec (.stkLock val) s = .next t ∧
      t.dev.bit rSTK_ERR fSTK_ERR_MAP_BAD = true ∧ s.OnlyChanges t [rSTK_ERR] s.dev := by
  have hany : [2, 3, 4, 5].any (fun o => s.start.heldBanks o != needBanks o) = true :=
    List.any_eq_true.2 ⟨o, ho, by rw [s.start_heldBanks]; exact bne_iff_ne.2 h⟩
  have hfree' : s.start.stkLocked = false := hfree
  refine State.run_marks hs (f := fun d => d.writeStkCtrl (Nat.lor val.toNat (2 ^ 31))) rfl (by decide) ?_
  rw [Dev.writeStkCtrl, hany, nbit_lockWord, hfree']
  rfl

end

/-! LIST_REBUILT and PANTRY_READY (R391, R399). -/

theorem exec_listRebuilt (b : Fin 40) (s : State) : exec (.listRebuilt b) s =
    s.run (fun d => if (d.bankX b.val).off then (d.updBankX b.val BankX.rebuilt).showPan else d) := rfl

theorem Dev.bankX_congr {d e : Dev} (h : d.pan = e.pan) (b : Nat) : d.bankX b = e.bankX b := by rw [Dev.bankX, h, Dev.bankX]

theorem listRebuilt_rebuilds {s : State} (hs : s.Runs) {b : Fin 40} (h : (s.dev.bankX b.val).off = true) :
    ∃ t, exec (.listRebuilt b) s = .next t ∧ t.dev.bankX b.val = (s.dev.bankX b.val).rebuilt := by
  rw [exec_listRebuilt]
  refine ⟨_, State.run_after hs.1 (if_pos h), ?_⟩
  rw [Dev.bankX_congr (show (s.after _).dev.pan = (s.start.updBankX b.val BankX.rebuilt).showPan.pan from rfl),
    Dev.bankX_congr (Dev.showPan_pan _), Dev.bankX_updBankX_same]
  rfl

theorem exec_pantryReady (s : State) : exec .pantryReady s = s.run (fun d => if d.bit rPAN_STATUS fPAN_STATUS_READY then d
    else (((allBanks.filter (fun b => d.bankState b == bkOwned && d.bankOwner b == ownPantry)).foldl Dev.threadBank d).mark rPAN_STATUS
      fPAN_STATUS_READY).showPan) := rfl

theorem pantryReady_shows {s : State} (hs : s.Runs) (h : s.dev.bit rPAN_STATUS fPAN_STATUS_READY = false) :
    ∃ t, exec .pantryReady s = .next t ∧ t.dev.bit rPAN_STATUS fPAN_STATUS_READY = true := by
  rw [exec_pantryReady]
  refine ⟨_, State.run_after hs.1 (if_neg (ne_true_of_eq_false h)), ?_⟩
  rw [State.after_bit, Dev.bit_congr (Dev.rd_showPan _ (by decide))]
  exact Dev.bit_put_one _ _ (by decide)

/-! PAN_RESERVE_WRITE (R393). -/

theorem exec_panReserveWrite (ten : Bool) (i : Fin 98) (w : Fin 2) (val : Word) (s : State) :
    exec (.panReserveWrite ten i w val) s = s.run (fun d => d.writePanRes ten i.val w.val val.toNat) := rfl

/-- An entry stands above what the Pantry shows. -/
theorem panEntry_high (ten : Bool) (i : Nat) : 0x110060 ≤ panEntry ten i := by
  unfold panEntry rPAN_TEN_MIN rPAN_ENT_MIN
  split <;> omega

theorem Dev.minOk_congr {d e : Dev} (h : ∀ a, d.rd a = e.rd a) (a b v : Nat) : d.minOk a b v = e.minOk a b v := by
  have hsum : d.sumMin = e.sumMin := by simp only [Dev.sumMin, Dev.rdN_congr (h _)]
  rw [Dev.minOk, hsum, Dev.rdN_congr (h a), Dev.rdN_congr (h b), Dev.rdN_congr (h rPAN_TOTAL), Dev.minOk]

section
variable {s : State} (hs : s.Runs) {ten : Bool} {i : Fin 98} (val : Word) (hhas : panHas ten i.val = true)
include hs hhas

theorem panReserveWrite_max : ∃ t, exec (.panReserveWrite ten i 1 val) s = .next t ∧
      t.dev.rdN (panEntry ten i.val + 4) = s.dev.stored (panEntry ten i.val + 4) val.toNat ∧
      s.OnlyChanges t [panEntry ten i.val + 4] s.dev :=
  State.run_stores hs (f := fun d => d.writePanRes ten i.val (1 : Fin 2).val val.toNat)
    ((if_neg (by rw [hhas]; decide)).trans (if_pos rfl))

theorem panReserveWrite_min (h : s.dev.minOk (panEntry ten i.val) (panEntry ten i.val + 8) (val.toNat % 2 ^ 28) = true) :
    ∃ t, exec (.panReserveWrite ten i 0 val) s = .next t ∧
      t.dev.rdN (panEntry ten i.val) = s.dev.stored (panEntry ten i.val) val.toNat := by
  have hok : s.start.minOk (panEntry ten i.val) (panEntry ten i.val + 8) (val.toNat % 2 ^ 28) = true :=
    (Dev.minOk_congr (fun _ => rfl) ..).trans h
  have hw : s.start.writePanRes ten i.val (0 : Fin 2).val val.toNat = (s.start.access (panEntry ten i.val) val.toNat).showPan := by
    unfold Dev.writePanRes
    dsimp only
    rw [hhas, if_neg (by decide), if_neg (by decide), if_pos hok]
  rw [exec_panReserveWrite]
  refine ⟨_, State.run_after hs.1 (f := fun d => d.writePanRes ten i.val (0 : Fin 2).val val.toNat) hw, ?_⟩
  rw [State.after_rdN, Dev.rdN_congr (Dev.rd_showPan _ (.inr (.inr (panEntry_high ten i.val)))), Dev.rdN_access_same]
  exact Dev.stored_congr (d := s.start) (e := s.dev) rfl _

theorem panReserveWrite_refused (h : s.dev.minOk (panEntry ten i.val) (panEntry ten i.val + 8) (val.toNat % 2 ^ 28) = false) :
    ∃ t, exec (.panReserveWrite ten i 0 val) s = .next t ∧ t.dev.bit rPAN_ERR fPAN_ERR_MIN_CFG = true ∧
      s.OnlyChanges t [rPAN_ERR] s.dev := by
  have hbad : s.start.minOk (panEntry ten i.val) (panEntry ten i.val + 8) (val.toNat % 2 ^ 28) = false :=
    (Dev.minOk_congr (fun _ => rfl) ..).trans h
  refine State.run_marks hs (f := fun d => d.writePanRes ten i.val (0 : Fin 2).val val.toNat) rfl (by decide) ?_
  unfold Dev.writePanRes
  dsimp only
  rw [hhas, if_neg (by decide), if_neg (by decide), if_neg (ne_true_of_eq_false hbad)]

end

/-! STACKS_RESERVE and STACKS_STATUS (R404, R405). -/

/-- Words answered one after the other. -/
theorem length_words (w : Nat → Nat) (n : Nat) : ((List.range n).flatMap (fun k => leB 4 (w k))).length = 4 * n := by
  simp only [List.length_flatMap, length_leB, List.map_const', List.sum_replicate, List.length_range, smul_eq_mul]
  omega

theorem stacksReserve_answers {s : State} {m : Fin 64} {c : Cmd} (h : s.Ready m 0x0D02 c) (h0 : c.u8 0 < 2)
    (hhas : panHas (c.u8 0 == 1) (c.u8 1) = true) (h2 : c.u8 2 = 1) (h3 : c.zero 3 1 = true) (hends : c.endsAt 0x0C = true)
    (hmay : c.isOwner = true ∨ (c.u8 0 = 1 ∧ c.caller = some (c.u8 1))) : ∃ t, exec (.stacksReserve m) s = .next t ∧ s.OnlyAnswers t m ∧
      t.Done m 0 ((List.range 4).flatMap (fun k => leB 4 (s.dev.rdN (panEntry (c.u8 0 == 1) (c.u8 1) + 4 * k))) ++
        leB 4 (s.dev.rdN rPAN_SHARED_SIZE) ++ leB 4 (s.dev.rdN rPAN_SHARED_USED)) := by
  have hright : (match c.caller with | none => true | some t => c.u8 0 == 1 && c.u8 1 == t && nbit (c.u8 2) 0) = true := by
    rcases hmay with hown | ⟨hten, hcaller⟩
    · rw [Option.isNone_iff_eq_none.1 hown]
    · rw [hcaller, hten, h2]
      simp [nbit]
  refine State.run_shows h ((Cmd.checks_pass c _ ?checks _).trans ?runs) (by decide) ?length
  case checks =>
    simp only [List.forall_mem_cons, List.not_mem_nil, false_imp_iff, implies_true, and_true]
    refine ⟨hright, ?_, ?_, ?_⟩ <;> simp [Cmd.mayExpert, inForm, Cmd.expert, Cmd.only, h2, h0, hhas, h3, hends, nbit]
  case runs => simp only [h2, show nbit 1 0 = true from rfl, if_true]; rfl
  case length => rw [List.length_append, List.length_append, length_words, length_leB, length_leB]; decide

theorem stacksStatus_answers {s : State} {m : Fin 64} {c : Cmd} (h : s.Ready m 0x0D03 c) (hown : c.isOwner = true)
    (hends : c.endsAt 0 = true) : ∃ t, exec (.stacksStatus m) s = .next t ∧ s.OnlyAnswers t m ∧
      t.Done m 0 (allBanks.flatMap (fun b => leB 4 (s.dev.rdN (rSTK_BANK b))) ++
        (List.range 4).flatMap (fun p => leB 4 (s.dev.rdN (rPAN_POOL_FREE p)) ++ leB 4 (s.dev.rdN (rPAN_POOL_TOTAL p))) ++
        leB 4 (s.dev.rdN rPAN_TOTAL)) := by
  refine State.run_shows h ((Cmd.checks_pass c _ ?checks _).trans rfl) (by decide) ?length
  case checks => simp [Cmd.mustOwn, inForm, hown, hends]
  case length =>
    rw [List.length_append, List.length_append, length_leB, allBanks, length_words, List.length_flatMap]
    simp only [List.length_append, length_leB, List.map_const', List.sum_replicate, List.length_range]
    decide

/-- Settles O31: the lock counts the fixed owners' banks, the reserves obey R393, and the commands answer the registers. -/
theorem thePantryIsReservedAndShown : Obligations.ThePantryIsReservedAndShown := by
  unfold Obligations.ThePantryIsReservedAndShown
  refine ⟨fun s val hs hfree => ⟨stkLock_locks hs val, fun o ho => stkLock_refused hs val hfree ho⟩,
    fun s b hs => listRebuilt_rebuilds hs, fun s ten i val hs hhas => ⟨panReserveWrite_max hs val hhas,
    panReserveWrite_min hs val hhas, panReserveWrite_refused hs val hhas⟩, ?_, ?_, fun s hs => pantryReady_shows hs⟩
  · intro s m c h h0 hhas h2 h3 hends hmay
    exact stacksReserve_answers h h0 hhas h2 h3 hends hmay
  · intro s m c h hown hends
    exact stacksStatus_answers h hown hends

end Sys2Proof.Machine

/-! The Almanac's servo, latch, source, pulse input and pulse outputs, and the obligation on them (18_almanac.md R525-R542). -/

namespace Sys2Proof.Machine

theorem sfield_lt (w : Nat) (x : Int) : sfield w x < 2 ^ w := by
  have hpos : (0 : Int) < 2 ^ w := Int.pow_pos (by decide)
  have hlt := Int.emod_lt_of_pos x hpos
  have hnn := Int.emod_nonneg x (ne_of_gt hpos)
  have hcast : ((2 ^ w : Nat) : Int) = 2 ^ w := by norm_cast
  rw [sfield]
  omega

/-! TIME_OK (R531). -/

theorem Dev.rd_pickMaster (d : Dev) {a : Nat} (h : a ≠ rFAB_STATUS) : d.pickMaster.rd a = d.rd a := by
  have hfab : ∀ (e : Dev) (x : FabState), Dev.rd { e with fab := x } a = e.rd a := fun _ _ => rfl
  have hput : ∀ (e : Dev) g v, (e.put rFAB_STATUS g v).rd a = e.rd a := fun e g v => Dev.rd_put_ne e g v h
  unfold Dev.pickMaster
  dsimp only
  split <;> rw [hfab, hput, hput, hput]

/-- The device as TIME_OK changes. -/
def Dev.timeOkChanged (d : Dev) (v : Nat) : Dev :=
  let d := (d.put rALM_STATUS fALM_STATUS_TIME_OK v).put rPIN_STATUS fPIN_STATUS_TIME_OK v
  ((d.emit .pin 1 [1, v]).alert 0x1103 (p4 v ++ p8 d.tickNow)).pickMaster

theorem Dev.showTimeOk_eq (d : Dev) : d.showTimeOk =
    if d.get rALM_STATUS fALM_STATUS_TIME_OK = b2n d.timeGood then d else d.timeOkChanged (b2n d.timeGood) := rfl

theorem Dev.get_timeOkChanged (d : Dev) {v : Nat} (hv : v < 2) : (d.timeOkChanged v).get rALM_STATUS fALM_STATUS_TIME_OK = v ∧
    ∀ g, fALM_STATUS_TIME_OK.disjoint g → (d.timeOkChanged v).get rALM_STATUS g = d.get rALM_STATUS g := by
  have hrd : ∀ (e : Dev) ps, ((e.emit .pin 1 [1, v]).alert 0x1103 ps).pickMaster.rd rALM_STATUS = e.rd rALM_STATUS :=
    fun e ps => (Dev.rd_pickMaster _ (by decide)).trans ((Dev.rd_alert _ _ _ (by decide)).trans (Dev.rd_emit ..))
  unfold Dev.timeOkChanged
  dsimp only
  refine ⟨?_, fun g hg => ?_⟩
  · rw [Dev.get_congr (hrd _ _), Dev.get_put_ne _ _ _ _ (by decide)]
    exact Dev.get_put_eq _ _ ⟨by decide, by decide, hv⟩
  · rw [Dev.get_congr (hrd _ _), Dev.get_put_ne _ _ _ _ (by decide), Dev.get_put_disjoint _ _ _ hg]

/-- Showing TIME_OK makes it what R531 lays down, and changes no other field of ALM_STATUS. -/
theorem Dev.get_showTimeOk (d : Dev) : d.showTimeOk.get rALM_STATUS fALM_STATUS_TIME_OK = b2n d.timeGood ∧
    ∀ g, fALM_STATUS_TIME_OK.disjoint g → d.showTimeOk.get rALM_STATUS g = d.get rALM_STATUS g := by
  have hv : b2n d.timeGood < 2 := by cases d.timeGood <;> decide
  rw [Dev.showTimeOk_eq]
  by_cases h : d.get rALM_STATUS fALM_STATUS_TIME_OK = b2n d.timeGood
  · rw [if_pos h]
    exact ⟨h, fun _ _ => rfl⟩
  · rw [if_neg h]
    exact d.get_timeOkChanged hv

theorem Dev.servo_showTimeOk (d : Dev) : d.showTimeOk.servo = d.servo := d.get_showTimeOk.2 _ (by decide)

/-! What an offset does (R528). -/

/-- The device with the correction that an offset gives. -/
def Dev.corrected (d : Dev) (theta : Int) : Dev :=
  { d with alm := { d.alm with
      p := clampI (-(theta * d.get rALM_SERVO fALM_SERVO_KP)) (256 * (d.get rALM_LIMITS fALM_LIMITS_SLEW : Int))
      r := clampI (d.alm.r - (theta * d.get rALM_SERVO fALM_SERVO_KI).tdiv 256) d.freqLimit } }

theorem Dev.corrected_alm (d : Dev) (theta : Int) : (d.corrected theta).alm.p =
      clampI (-(theta * d.get rALM_SERVO fALM_SERVO_KP)) (256 * (d.get rALM_LIMITS fALM_LIMITS_SLEW : Int)) ∧
    (d.corrected theta).alm.r = clampI (d.alm.r - (theta * d.get rALM_SERVO fALM_SERVO_KI).tdiv 256) d.freqLimit := ⟨rfl, rfl⟩

theorem Dev.servoUse_eq (d : Dev) (theta : Int) : d.servoUse theta =
    (((d.corrected theta).wrN rALM_FREQ (sfield 32 (clampI ((d.corrected theta).alm.r + (d.corrected theta).alm.p) d.freqLimit))).wrN
      rALM_OFFSET (sfield 32 (max (-(2 ^ 31)) (min theta (2 ^ 31 - 1))))).bump (rALM_CNT 0) := rfl

/-- The registers that taking an offset writes. -/
def offsetRegs : List Nat := [rALM_FREQ, rALM_OFFSET, rALM_CNT 0]

theorem Dev.servoUse_shown (d : Dev) (theta : Int) : Dev.Writes (· ∈ offsetRegs) (d.corrected theta) (d.servoUse theta) ∧
    (d.servoUse theta).rdN rALM_FREQ = sfield 32 (clampI ((d.corrected theta).alm.r + (d.corrected theta).alm.p) d.freqLimit) ∧
    (d.servoUse theta).rdN rALM_OFFSET = sfield 32 (max (-(2 ^ 31)) (min theta (2 ^ 31 - 1))) ∧
    (d.servoUse theta).rdN (rALM_CNT 0) % 2 ^ 31 = (d.rdN (rALM_CNT 0) + 1) % 2 ^ 31 := by
  rw [Dev.servoUse_eq]
  have hf := sfield_lt 32 (clampI ((d.corrected theta).alm.r + (d.corrected theta).alm.p) d.freqLimit)
  have ho := sfield_lt 32 (max (-(2 ^ 31)) (min theta (2 ^ 31 - 1)))
  generalize sfield 32 (clampI ((d.corrected theta).alm.r + (d.corrected theta).alm.p) d.freqLimit) = f,
    sfield 32 (max (-(2 ^ 31)) (min theta (2 ^ 31 - 1))) = o at hf ho ⊢
  have hcnt : (d.corrected theta).rdN (rALM_CNT 0) = d.rdN (rALM_CNT 0) := rfl
  generalize d.corrected theta = e at hcnt ⊢
  refine ⟨((e.writes_wrN f (.head _)).trans (Dev.writes_wrN _ o (.tail _ (.head _)))).trans (Dev.writes_bump _ (.tail _ (.tail _ (.head _)))),
    ?_, ?_, ?_⟩
  · rw [Dev.bump, Dev.rdN_congr ((Dev.writes_bumpBy (P := (· = rALM_CNT 0)) _ 1 rfl).rd _ (by decide)), Dev.rdN_wrN_ne _ _ (by decide),
      Dev.rdN_wrN_same, Nat.mod_eq_of_lt hf]
  · rw [Dev.bump, Dev.rdN_congr ((Dev.writes_bumpBy (P := (· = rALM_CNT 0)) _ 1 rfl).rd _ (by decide)), Dev.rdN_wrN_same, Nat.mod_eq_of_lt ho]
  · rw [Dev.bump, Dev.rdN_bumpBy_same, Dev.rdN_wrN_ne _ _ (by decide), Dev.rdN_wrN_ne _ _ (by decide), hcnt]

/-! ALM_MEAS (R526, R528, R542). -/

theorem exec_almMeas (val : Word) (ns : Fin 125000) (s : State) :
    exec (.almMeas val ns) s = s.run (fun d => (d.seen ns.val).writeMeas true val.toNat) := rfl

/-- What has been seen of the tick is in no register. -/
theorem Dev.rd_seen (d : Dev) (ns a : Nat) : (d.seen ns).rd a = d.rd a := rfl

theorem Dev.srcKind_congr {d e : Dev} (h : d.rd rALM_SRC = e.rd rALM_SRC) : d.srcKind = e.srcKind := by
  simp only [Dev.srcKind, Dev.get_congr h]

theorem almMeas_refused {s : State} (hs : s.Runs) {val : Word} {ns : Fin 125000} (h1 : s.dev.srcKind ≠ 1) (h4 : s.dev.srcKind ≠ 4) :
    ∃ t, exec (.almMeas val ns) s = .next t ∧ t.dev.bit rALM_ERR fALM_ERR_MEAS_REFUSED = true ∧
      s.OnlyChanges t [rALM_ERR] { s.dev with tick := t.dev.tick } := by
  have hkind : (s.start.seen ns.val).srcKind = s.dev.srcKind := Dev.srcKind_congr rfl
  have hw : (s.start.seen ns.val).writeMeas true val.toNat = (s.start.seen ns.val).mark rALM_ERR fALM_ERR_MEAS_REFUSED :=
    if_pos (by rw [hkind]; exact ⟨h1, h4⟩)
  obtain ⟨hrun, honly⟩ := State.run_writes hs (d := s.dev.seen ns.val) (o := []) (l := [rALM_ERR]) ⟨rfl, rfl, rfl⟩
    (f := fun d => (d.seen ns.val).writeMeas true val.toNat) hw (Dev.writes_mark _ _ (.head _))
  exact ⟨_, hrun, Dev.bit_put_one _ _ (by decide), honly⟩

theorem Dev.rd_withAlm (d : Dev) (x : AlmState) (a : Nat) : Dev.rd { d with alm := x } a = d.rd a := rfl

theorem Dev.servo_withAlm (d : Dev) (x : AlmState) : Dev.servo { d with alm := x } = d.servo := Dev.get_congr (d.rd_withAlm x _) _

theorem Dev.unlockThr_withAlm (d : Dev) (x : AlmState) : Dev.unlockThr { d with alm := x } = d.unlockThr := by
  rw [Dev.unlockThr, Dev.get_congr (d.rd_withAlm x _), Dev.unlockThr]

/-- The device as an offset comes in: its source is active. -/
def Dev.offsetSeen (d : Dev) : Dev :=
  let d := (d.put rALM_STATUS fALM_STATUS_SRC_ACTIVE 1)
  { d with alm := { d.alm with lastOff := d.tickNow } }

/-- The device with no outlier in a row. -/
def Dev.noOutlier (d : Dev) : Dev := { d with alm := { d.alm with outRow := 0 } }

theorem Dev.offset_eq (d : Dev) (theta : Int) : d.offset theta =
    if d.offsetSeen.servo = svLocked then
      if (theta.natAbs : Int) ≤ d.offsetSeen.unlockThr then d.offsetSeen.noOutlier.servoUse theta
      else if d.offsetSeen.alm.outRow < 3 then
        (({ d.offsetSeen with alm := { d.offsetSeen.alm with outRow := d.offsetSeen.alm.outRow + 1 } }).bump (rALM_CNT 1)).mark rALM_ERR
          fALM_ERR_OUTLIER
      else (d.offsetSeen.servoUse theta).toAcquire
    else if d.offsetSeen.servo = svHoldover then
      if (theta.natAbs : Int) ≤ (d.offsetSeen.servoUse theta).lockThr then (d.offsetSeen.servoUse theta).toLocked
      else (d.offsetSeen.servoUse theta).toAcquire
    else d.offsetSeen.acquire theta := rfl

theorem Dev.rd_offsetSeen (d : Dev) {a : Nat} (h : a ≠ rALM_STATUS) : d.offsetSeen.rd a = d.rd a :=
  (Dev.rd_withAlm _ _ _).trans (Dev.rd_put_ne _ _ _ h)

theorem Dev.servo_offsetSeen (d : Dev) : d.offsetSeen.servo = d.servo :=
  (Dev.servo_withAlm _ _).trans (Dev.get_put_disjoint _ _ _ (by decide))

/-- An offset within UNLOCK_THR, taken while LOCKED, corrects the frequency and keeps the lock (R529). -/
theorem Dev.offset_locked {d : Dev} {theta : Int} (hl : d.servo = svLocked) (hthr : (theta.natAbs : Int) ≤ d.unlockThr) :
    d.offset theta = d.offsetSeen.noOutlier.servoUse theta := by
  have hunlock : d.offsetSeen.unlockThr = d.unlockThr := by
    rw [Dev.unlockThr, Dev.get_congr (d.rd_offsetSeen (by decide)), Dev.unlockThr]
  rw [Dev.offset_eq, d.servo_offsetSeen, if_pos hl, hunlock, if_pos hthr]

/-- The device whose servo takes a measured offset. -/
def Dev.measured (d : Dev) (v : Nat) : Dev := (d.wrN rALM_MEAS_HI v).offsetSeen.noOutlier

theorem Dev.measured_alm (d : Dev) (v : Nat) : (d.measured v).alm.p = d.alm.p ∧ (d.measured v).alm.r = d.alm.r := by
  simp [Dev.measured, Dev.noOutlier, Dev.offsetSeen]

theorem Dev.rd_measured (d : Dev) (v : Nat) {a : Nat} (h1 : a ≠ rALM_MEAS_HI) (h2 : a ≠ rALM_STATUS) : (d.measured v).rd a = d.rd a :=
  ((Dev.rd_withAlm _ _ _).trans (Dev.rd_offsetSeen _ h2)).trans (Dev.rd_wrN_ne _ _ h1)

theorem Dev.servo_measured (d : Dev) (v : Nat) : (d.measured v).servo = d.servo :=
  ((Dev.servo_withAlm _ _).trans (Dev.servo_offsetSeen _)).trans (Dev.get_wrN_ne _ _ _ (by decide))

theorem Dev.writeMeas_locked {d : Dev} {v : Nat} {theta : Int} (hkind : d.srcKind = 1 ∨ d.srcKind = 4) (hl : d.servo = svLocked)
    (hv : v < 2 ^ 32) (htheta : theta = sval 64 (d.rdN rALM_MEAS_LO + 2 ^ 32 * v)) (hthr : (theta.natAbs : Int) ≤ d.unlockThr) :
    d.writeMeas true v = (d.measured v).servoUse theta := by
  have h64 : (d.wrN rALM_MEAS_HI v).rd64 rALM_MEAS_LO rALM_MEAS_HI = d.rdN rALM_MEAS_LO + 2 ^ 32 * v := by
    rw [Dev.rd64, Dev.rdN_wrN_ne _ _ (by decide), Dev.rdN_wrN_same, Nat.mod_eq_of_lt hv]
  have hthr' : (theta.natAbs : Int) ≤ (d.wrN rALM_MEAS_HI v).unlockThr := by
    rw [Dev.unlockThr, Dev.get_wrN_ne _ _ _ (by decide)]
    exact hthr
  unfold Dev.writeMeas
  rw [if_neg (by omega), if_pos rfl]
  dsimp only
  rw [h64, ← htheta]
  exact Dev.offset_locked ((Dev.get_wrN_ne _ _ _ (by decide)).trans hl) hthr'

/-- What the correction of a measured offset comes to (R528). -/
theorem Dev.measured_shown (d : Dev) (v : Nat) (theta : Int) : ((d.measured v).servoUse theta).servo = d.servo ∧
    ((d.measured v).servoUse theta).rdN (rALM_CNT 0) % 2 ^ 31 = (d.rdN (rALM_CNT 0) + 1) % 2 ^ 31 ∧
    ((d.measured v).servoUse theta).alm.p =
      clampI (-(theta * d.get rALM_SERVO fALM_SERVO_KP)) (256 * (d.get rALM_LIMITS fALM_LIMITS_SLEW : Int)) ∧
    ((d.measured v).servoUse theta).alm.r = clampI (d.alm.r - (theta * d.get rALM_SERVO fALM_SERVO_KI).tdiv 256) d.freqLimit ∧
    ((d.measured v).servoUse theta).rdN rALM_FREQ = sfield 32
      (clampI (((d.measured v).servoUse theta).alm.r + ((d.measured v).servoUse theta).alm.p) d.freqLimit) ∧
    ((d.measured v).servoUse theta).rdN rALM_OFFSET = sfield 32 (max (-(2 ^ 31)) (min theta (2 ^ 31 - 1))) := by
  obtain ⟨hw, hfreq, hoff, hcnt⟩ := (d.measured v).servoUse_shown theta
  have hlimit : (d.measured v).freqLimit = d.freqLimit := by
    rw [Dev.freqLimit, Dev.get_congr (d.rd_measured v (by decide) (by decide)), Dev.freqLimit]
  have hgain : ∀ g, (d.measured v).get rALM_SERVO g = d.get rALM_SERVO g := Dev.get_congr (d.rd_measured v (by decide) (by decide))
  have hslew : (d.measured v).get rALM_LIMITS fALM_LIMITS_SLEW = d.get rALM_LIMITS fALM_LIMITS_SLEW :=
    Dev.get_congr (d.rd_measured v (by decide) (by decide)) _
  rw [hw.alm, hfreq, hoff, hcnt, hlimit, Dev.rdN_congr (d.rd_measured v (by decide) (by decide))]
  refine ⟨?_, rfl, ?_, ?_, rfl, rfl⟩
  · exact (Dev.get_congr (hw.rd _ (by decide)) _).trans ((Dev.servo_withAlm _ _).trans (d.servo_measured v))
  · rw [(Dev.corrected_alm _ _).1, hgain, hslew]
  · rw [(Dev.corrected_alm _ _).2, hgain, hlimit, (d.measured_alm v).2]

@[simp] theorem State.after_servo (s : State) (e : Dev) : (s.after e).dev.servo = e.servo := (rfl)

/-- What has been seen of the tick is no more than that. -/
theorem State.seen_shown (s : State) (ns : Nat) : ∃ e : Dev, s.start.seen ns = e ∧ (∀ a, e.rd a = s.dev.rd a) ∧ e.alm = s.dev.alm :=
  ⟨_, rfl, fun _ => rfl, rfl⟩

theorem almMeas_corrects {s : State} (hs : s.Runs) {val : Word} {ns : Fin 125000} {theta : Int}
    (hkind : s.dev.srcKind = 1 ∨ s.dev.srcKind = 4) (hl : s.dev.servo = svLocked)
    (htheta : theta = sval 64 (s.dev.rdN rALM_MEAS_LO + 2 ^ 32 * val.toNat)) (hthr : (theta.natAbs : Int) ≤ s.dev.unlockThr) :
    ∃ t, exec (.almMeas val ns) s = .next t ∧ t.dev.servo = svLocked ∧ s.Counts t (rALM_CNT 0) 1 ∧
        t.dev.alm.p = clampI (-(theta * s.dev.get rALM_SERVO fALM_SERVO_KP)) (256 * (s.dev.get rALM_LIMITS fALM_LIMITS_SLEW : Int)) ∧
        t.dev.alm.r = clampI (s.dev.alm.r - (theta * s.dev.get rALM_SERVO fALM_SERVO_KI).tdiv 256) s.dev.freqLimit ∧
        t.dev.rdN rALM_FREQ = sfield 32 (clampI (t.dev.alm.r + t.dev.alm.p) s.dev.freqLimit) ∧
        t.dev.rdN rALM_OFFSET = sfield 32 (max (-(2 ^ 31)) (min theta (2 ^ 31 - 1))) := by
  obtain ⟨e, he, hrd, halm⟩ := s.seen_shown ns.val
  have hthr' : e.unlockThr = s.dev.unlockThr := by rw [Dev.unlockThr, Dev.get_congr (hrd _), Dev.unlockThr]
  have hservo : e.servo = svLocked := (Dev.get_congr (hrd _) _).trans hl
  have hw := Dev.writeMeas_locked (d := e) (v := val.toNat) (theta := theta) (by rw [Dev.srcKind_congr (hrd _)]; exact hkind)
    hservo val.isLt (by rw [Dev.rdN_congr (hrd _)]; exact htheta) (by rw [hthr']; exact hthr)
  have hshown := e.measured_shown val.toNat theta
  have hlimit : e.freqLimit = s.dev.freqLimit := by rw [Dev.freqLimit, Dev.get_congr (hrd _), Dev.freqLimit]
  rw [halm, hlimit, Dev.rdN_congr (hrd _), Dev.get_congr (hrd rALM_SERVO), Dev.get_congr (hrd rALM_LIMITS), Dev.get_congr (hrd rALM_SERVO),
    hservo] at hshown
  generalize (e.measured val.toNat).servoUse theta = x at hw hshown
  rw [exec_almMeas]
  refine ⟨_, State.run_after hs.1 (f := fun d => (d.seen ns.val).writeMeas true val.toNat) (e := x) (by rw [he]; exact hw), ?_⟩
  simpa only [State.after_servo, State.Counts, State.after_rdN, State.after_alm] using hshown

end Sys2Proof.Machine

/-! HOLDOVER, the latch, the source, the pulse input and the pulse outputs, and the obligation on the servo (18_almanac.md R525-R542). -/

namespace Sys2Proof.Machine

/-! HOLDOVER (R529, R531). -/

theorem exec_sourceTimeout (s : State) : exec .sourceTimeout s =
    s.run (fun d => if d.alm.lastOff + d.srcTimeout ≤ d.tickNow then d.toHoldover 0 else d) := rfl

theorem exec_holdQualExpiry (s : State) : exec .holdQualExpiry s = s.run Dev.holdSecs := rfl

theorem Dev.srcTimeout_congr {d e : Dev} (h : d.rd rALM_HOLD = e.rd rALM_HOLD) : d.srcTimeout = e.srcTimeout := by
  rw [Dev.srcTimeout, Dev.get_congr h, Dev.srcTimeout]

/-- The device as its servo enters HOLDOVER, in ALM_STATUS. -/
def Dev.sourceGone (d : Dev) : Dev :=
  ((d.put rALM_STATUS fALM_STATUS_SRC_ACTIVE 0).put rALM_STATUS fALM_STATUS_STATE svHoldover).put rALM_STATUS fALM_STATUS_HOLD_SEC 0

/-- The device with a servo that begins to hold over: no proportional part. -/
def Dev.holding (d : Dev) : Dev := { d with alm := { d.alm with p := 0, holdTick := d.tickNow, inRow := 0, outRow := 0 } }

/-- The device in HOLDOVER, before the alert and TIME_OK. -/
def Dev.heldOver (d : Dev) : Dev := (d.sourceGone.holding.setFreq d.sourceGone.holding.alm.r).mark rALM_ERR fALM_ERR_SOURCE_LOST

theorem Dev.holding_alm (d : Dev) : d.holding.alm.p = 0 ∧ d.holding.alm.r = d.alm.r := ⟨rfl, rfl⟩

theorem Dev.rd_holding (d : Dev) (a : Nat) : d.holding.rd a = d.rd a := rfl

theorem Dev.sourceGone_alm (d : Dev) : d.sourceGone.alm = d.alm := by
  rw [Dev.sourceGone, Dev.put_alm, Dev.put_alm, Dev.put_alm]

theorem Dev.sourceGone_shown (d : Dev) : d.sourceGone.get rALM_STATUS fALM_STATUS_STATE = svHoldover ∧
    d.sourceGone.get rALM_STATUS fALM_STATUS_HOLD_SEC = 0 :=
  ⟨(Dev.get_put_disjoint _ _ _ (by decide)).trans (Dev.get_put_eq _ _ (by decide)), Dev.get_put_eq _ _ (by decide)⟩

theorem Dev.rd_sourceGone (d : Dev) {a : Nat} (h : a ≠ rALM_STATUS) : d.sourceGone.rd a = d.rd a := by
  rw [Dev.sourceGone, Dev.rd_put_ne _ _ _ h, Dev.rd_put_ne _ _ _ h, Dev.rd_put_ne _ _ _ h]

theorem Dev.toHoldover_eq {d : Dev} (cause : Nat) (h : d.servo ≠ svHoldover) : ∃ ps,
    d.toHoldover cause = (d.heldOver.alert 0x1102 ps).showTimeOk := by
  have hservo : ¬(d.put rALM_STATUS fALM_STATUS_SRC_ACTIVE 0).servo = svHoldover := by
    rw [Dev.servo, Dev.get_put_disjoint _ _ _ (by decide), ← Dev.servo]
    exact h
  exact ⟨_, if_neg hservo⟩

theorem Dev.heldOver_alm (d : Dev) : d.heldOver.alm.p = 0 ∧ d.heldOver.alm.r = d.alm.r := by
  have h : d.heldOver.alm = d.sourceGone.holding.alm := rfl
  rw [h, d.sourceGone.holding_alm.1, d.sourceGone.holding_alm.2, d.sourceGone_alm]
  exact ⟨rfl, rfl⟩

theorem Dev.get_heldOver (d : Dev) (g : Fld) : d.heldOver.get rALM_STATUS g = d.sourceGone.get rALM_STATUS g := by
  rw [Dev.heldOver, Dev.mark, Dev.get_put_ne _ _ _ _ (by decide), Dev.setFreq, Dev.get_wrN_ne _ _ _ (by decide), Dev.get_congr (Dev.rd_holding _ _)]

theorem Dev.rd_heldOver (d : Dev) {a : Nat} (h1 : a ≠ rALM_STATUS) (h2 : a ≠ rALM_FREQ) (h3 : a ≠ rALM_ERR) : d.heldOver.rd a = d.rd a := by
  rw [Dev.heldOver, Dev.mark, Dev.rd_put_ne _ _ _ h3, Dev.setFreq, Dev.rd_wrN_ne _ _ h2, Dev.rd_holding, Dev.rd_sourceGone _ h1]

theorem Dev.freq_heldOver (d : Dev) : d.heldOver.rdN rALM_FREQ = sfield 32 d.alm.r := by
  rw [Dev.heldOver, Dev.mark, Dev.rdN_put_ne _ _ _ (by decide), Dev.setFreq, Dev.rdN_wrN_same, Nat.mod_eq_of_lt (sfield_lt 32 _),
    d.sourceGone.holding_alm.2, d.sourceGone_alm]

/-- What the entry to HOLDOVER shows of a servo that was LOCKED (R529). -/
theorem Dev.toHoldover_shown {d : Dev} (cause : Nat) (h : d.servo = svLocked) : (d.toHoldover cause).servo = svHoldover ∧
    (d.toHoldover cause).bit rALM_ERR fALM_ERR_SOURCE_LOST = true ∧ (d.toHoldover cause).rdN rALM_FREQ = sfield 32 d.alm.r ∧
    (d.toHoldover cause).alm.p = 0 ∧ (d.toHoldover cause).alm.r = d.alm.r ∧
    (d.toHoldover cause).get rALM_STATUS fALM_STATUS_HOLD_SEC = 0 ∧ (d.toHoldover cause).rdN rALM_SRC = d.rdN rALM_SRC := by
  obtain ⟨ps, he⟩ := Dev.toHoldover_eq (d := d) cause (by rw [h]; decide)
  rw [he]
  have hshown := Dev.timeShown_showTimeOk (d.heldOver.alert 0x1102 ps)
  have hrd : ∀ a, a ∉ timeOkRegs → a ∉ alertRegs → ((d.heldOver.alert 0x1102 ps).showTimeOk).rd a = d.heldOver.rd a :=
    fun a h1 h2 => (hshown.rd a h1).trans (Dev.rd_alert _ _ _ h2)
  have hst : ∀ g, fALM_STATUS_TIME_OK.disjoint g → ((d.heldOver.alert 0x1102 ps).showTimeOk).get rALM_STATUS g = d.sourceGone.get rALM_STATUS g :=
    fun g hg => ((Dev.get_showTimeOk _).2 g hg).trans ((Dev.get_alert _ _ _ _ (by decide)).trans (d.get_heldOver g))
  have halm : ((d.heldOver.alert 0x1102 ps).showTimeOk).alm = d.heldOver.alm := hshown.alm.trans (Dev.alert_alm ..)
  rw [halm, d.heldOver_alm.1, d.heldOver_alm.2, Dev.servo, hst _ (by decide), hst _ (by decide), d.sourceGone_shown.1, d.sourceGone_shown.2,
    Dev.bit_congr (hrd rALM_ERR (by decide) (by decide)), Dev.rdN_congr (hrd rALM_FREQ (by decide) (by decide)),
    Dev.rdN_congr (hrd rALM_SRC (by decide) (by decide)), d.freq_heldOver, Dev.rdN_congr (d.rd_heldOver (by decide) (by decide) (by decide))]
  exact ⟨rfl, Dev.bit_put_one _ _ (by decide), rfl, rfl, rfl, rfl, rfl⟩

theorem Dev.timeGood_expired {d : Dev} (h : d.servo = svHoldover)
    (hq : d.get rALM_HOLD fALM_HOLD_HOLD_QUAL ≤ d.get rALM_STATUS fALM_STATUS_HOLD_SEC) : d.timeGood = false := by
  simp only [Dev.timeGood, h, Nat.not_lt.mpr hq, decide_false, Bool.and_false, Bool.or_false, Bool.false_and,
    show (svHoldover == svLocked) = false from rfl]

/-- HOLD_SEC come to HOLD_QUAL leaves the time no longer good (R531). -/
theorem Dev.holdSecs_expired {d : Dev} (h : d.servo = svHoldover) {n : Nat} (hn : n = min 65535 ((d.tickNow - d.alm.holdTick) / 8000))
    (hq : d.get rALM_HOLD fALM_HOLD_HOLD_QUAL ≤ n) : d.holdSecs.get rALM_STATUS fALM_STATUS_TIME_OK = 0 ∧ d.holdSecs.servo = svHoldover ∧
    d.holdSecs.get rALM_STATUS fALM_STATUS_HOLD_SEC = n := by
  have he : d.holdSecs = (d.put rALM_STATUS fALM_STATUS_HOLD_SEC n).showTimeOk := by rw [hn]; exact if_pos h
  have hlt : n < 2 ^ 16 := by omega
  have hsec : (d.put rALM_STATUS fALM_STATUS_HOLD_SEC n).get rALM_STATUS fALM_STATUS_HOLD_SEC = n :=
    Dev.get_put_eq _ _ ⟨by decide, by decide, hlt⟩
  have hservo : (d.put rALM_STATUS fALM_STATUS_HOLD_SEC n).servo = svHoldover := (Dev.get_put_disjoint _ _ _ (by decide)).trans h
  have hgood : (d.put rALM_STATUS fALM_STATUS_HOLD_SEC n).timeGood = false := by
    refine Dev.timeGood_expired hservo ?_
    rw [hsec, Dev.get_put_ne _ _ _ _ (by decide)]
    exact hq
  obtain ⟨hok, hrest⟩ := Dev.get_showTimeOk (d.put rALM_STATUS fALM_STATUS_HOLD_SEC n)
  rw [he]
  exact ⟨hok.trans (by rw [hgood]; rfl), (Dev.servo_showTimeOk _).trans hservo, (hrest _ (by decide)).trans hsec⟩

section
variable {s : State} (hs : s.Runs)
include hs

theorem sourceTimeout_early (h : s.dev.tickNow < s.dev.alm.lastOff + s.dev.srcTimeout) :
    ∃ t, exec .sourceTimeout s = .next t ∧ s.OnlyChanges t [] s.dev := by
  rw [exec_sourceTimeout]
  exact State.run_nothing hs (if_neg (Nat.not_le.mpr h))

theorem sourceTimeout_due (h : s.dev.alm.lastOff + s.dev.srcTimeout ≤ s.dev.tickNow) (hl : s.dev.servo = svLocked) :
    ∃ t, exec .sourceTimeout s = .next t ∧ t.dev.servo = svHoldover ∧ t.dev.bit rALM_ERR fALM_ERR_SOURCE_LOST = true ∧
      t.dev.rdN rALM_FREQ = sfield 32 s.dev.alm.r ∧ t.dev.alm.p = 0 ∧ t.dev.alm.r = s.dev.alm.r ∧
      t.dev.get rALM_STATUS fALM_STATUS_HOLD_SEC = 0 := by
  obtain ⟨hservo, hlost, hfreq, hp, hr, hsec, -⟩ := Dev.toHoldover_shown (d := s.start) 0 hl
  rw [exec_sourceTimeout]
  refine ⟨_, State.run_after hs.1 (e := s.start.toHoldover 0) (if_pos h), ?_⟩
  simp only [State.after_servo, State.after_bit, State.after_rdN, State.after_alm, State.after_get]
  exact ⟨hservo, hlost, hfreq, hp, hr, hsec⟩

theorem holdQualExpiry_elsewhere (h : s.dev.servo ≠ svHoldover) : ∃ t, exec .holdQualExpiry s = .next t ∧ s.OnlyChanges t [] s.dev := by
  rw [exec_holdQualExpiry]
  exact State.run_nothing hs (if_neg h)

theorem holdQualExpiry_due (h : s.dev.servo = svHoldover)
    (hq : s.dev.get rALM_HOLD fALM_HOLD_HOLD_QUAL ≤ min 65535 ((s.dev.tickNow - s.dev.alm.holdTick) / 8000)) :
    ∃ t, exec .holdQualExpiry s = .next t ∧ t.dev.get rALM_STATUS fALM_STATUS_TIME_OK = 0 ∧ t.dev.servo = svHoldover ∧
      t.dev.get rALM_STATUS fALM_STATUS_HOLD_SEC = min 65535 ((s.dev.tickNow - s.dev.alm.holdTick) / 8000) := by
  rw [exec_holdQualExpiry]
  refine ⟨_, State.run_after hs.1 (e := s.start.holdSecs) rfl, ?_⟩
  simp only [State.after_servo, State.after_get]
  exact Dev.holdSecs_expired (d := s.start) h rfl hq

end

end Sys2Proof.Machine

/-! The latch, the source, the pulse input and the pulse outputs, and the obligation on the servo (18_almanac.md R525-R542). -/

namespace Sys2Proof.Machine

/-! ALM_LATCH (R525). -/

theorem exec_almLatch (val : Word) (ns : Fin 125000) (frac : Fin 65536) (s : State) :
    exec (.almLatch val ns frac) s = s.run (fun d => (d.seen ns.val).latchTime val.toNat frac.val) := rfl

/-- The registers of the latched time. -/
def latchRegs : List Nat := [rALM_TIME_NS, rALM_TIME_SEC_LO, rALM_TIME_SEC_HI, rALM_TIME_FRAC]

theorem Dev.showTime_shown (d : Dev) (x : Nat) {frac : Nat} (hf : frac < 65536) : Dev.Writes (· ∈ latchRegs) d (d.showTime x frac) ∧
    (d.showTime x frac).rdN rALM_TIME_NS = x % 1000000000 ∧ (d.showTime x frac).rdN rALM_TIME_SEC_LO = x / 1000000000 % 2 ^ 32 ∧
    (d.showTime x frac).rdN rALM_TIME_SEC_HI = x / 1000000000 / 2 ^ 32 % 65536 ∧ (d.showTime x frac).rdN rALM_TIME_FRAC = frac := by
  have hns : x % nsPerSec < 2 ^ 32 := lt_trans (Nat.mod_lt _ (by decide)) (by decide)
  have hhi : x / nsPerSec / 2 ^ 32 % 65536 < 2 ^ 32 := lt_trans (Nat.mod_lt _ (by decide)) (by decide)
  unfold Dev.showTime
  dsimp only
  refine ⟨(((d.writes_wrN _ (.tail _ (.head _))).trans (Dev.writes_wrN _ _ (.tail _ (.tail _ (.head _))))).trans
    (Dev.writes_wrN _ _ (.head _))).trans (Dev.writes_wrN _ _ (.tail _ (.tail _ (.tail _ (.head _))))), ?_, ?_, ?_, ?_⟩
  · rw [Dev.rdN_wrN_ne _ _ (by decide), Dev.rdN_wrN_same, Nat.mod_eq_of_lt hns]
    rfl
  · rw [Dev.rdN_wrN_ne _ _ (by decide), Dev.rdN_wrN_ne _ _ (by decide), Dev.rdN_wrN_ne _ _ (by decide), Dev.rdN_wrN_same, Nat.mod_mod]
    rfl
  · rw [Dev.rdN_wrN_ne _ _ (by decide), Dev.rdN_wrN_ne _ _ (by decide), Dev.rdN_wrN_same, Nat.mod_eq_of_lt hhi]
    rfl
  · rw [Dev.rdN_wrN_same, Nat.mod_eq_of_lt (lt_trans hf (by decide))]

theorem State.seen_timeNow (s : State) (ns : Nat) : (s.start.seen ns).timeNow = s.dev.tickNow * 125000 + max s.dev.tick.now ns := rfl

section
variable {s : State} (hs : s.Runs) {val : Word} {ns : Fin 125000}
include hs

theorem almLatch_off (frac : Fin 65536) (h : nbit val.toNat 0 = false) : ∃ t, exec (.almLatch val ns frac) s = .next t ∧
    s.OnlyChanges t [] { s.dev with tick := t.dev.tick } := by
  obtain ⟨hrun, honly⟩ := State.run_writes hs (d := s.dev.seen ns.val) (o := []) (l := []) ⟨rfl, rfl, rfl⟩
    (f := fun d => (d.seen ns.val).latchTime val.toNat frac.val) (if_neg (ne_true_of_eq_false h)) (.refl _ _)
  exact ⟨_, hrun, honly⟩

theorem almLatch_shows (frac : Fin 65536) {x : Nat} (h : nbit val.toNat 0 = true)
    (hx : x = s.dev.tickNow * 125000 + max s.dev.tick.now ns.val) : ∃ t, exec (.almLatch val ns frac) s = .next t ∧
      t.dev.rdN rALM_TIME_NS = x % 1000000000 ∧ t.dev.rdN rALM_TIME_SEC_LO = x / 1000000000 % 2 ^ 32 ∧
      t.dev.rdN rALM_TIME_SEC_HI = x / 1000000000 / 2 ^ 32 % 65536 ∧ t.dev.rdN rALM_TIME_FRAC = frac.val ∧
      s.OnlyChanges t [rALM_TIME_NS, rALM_TIME_SEC_LO, rALM_TIME_SEC_HI, rALM_TIME_FRAC] { s.dev with tick := t.dev.tick } := by
  have he : (s.start.seen ns.val).latchTime val.toNat frac.val = (s.start.seen ns.val).showTime x frac.val :=
    (if_pos h).trans (by rw [s.seen_timeNow, ← hx])
  obtain ⟨hw, hns, hlo, hhi, hfrac⟩ := (s.start.seen ns.val).showTime_shown x frac.isLt
  obtain ⟨hrun, honly⟩ := State.run_writes hs (d := s.dev.seen ns.val) (o := []) (l := latchRegs) ⟨rfl, rfl, rfl⟩
    (f := fun d => (d.seen ns.val).latchTime val.toNat frac.val) he hw
  have htick : ((s.start.seen ns.val).showTime x frac.val).tick = (s.dev.seen ns.val).tick := rfl
  refine ⟨_, hrun, hns, hlo, hhi, hfrac, ?_⟩
  show s.OnlyChanges _ _ { s.dev with tick := ((s.start.seen ns.val).showTime x frac.val).tick }
  rw [htick]
  exact honly

end

/-! ALM_SRC (R527). -/

theorem exec_almSrcWrite (val : Word) (s : State) : exec (.almSrcWrite val) s = s.run (fun d => d.writeSrc val.toNat) := rfl

theorem Dev.srcKind_access (d : Dev) (v : Nat) : (d.access rALM_SRC v).srcKind =
    if fieldOf v fALM_SRC_KIND < 5 then fieldOf v fALM_SRC_KIND else 0 := by
  rw [Dev.srcKind, Dev.get_access_rw _ _ (by decide) (by decide)]

theorem Dev.writeSrc_kept {d : Dev} {v : Nat} (hk : fieldOf v fALM_SRC_KIND = d.get rALM_SRC fALM_SRC_KIND)
    (hi : fieldOf v fALM_SRC_INDEX = d.get rALM_SRC fALM_SRC_INDEX) : d.writeSrc v = d.access rALM_SRC v := by
  refine if_pos ?_
  rw [Dev.srcKind_access, Dev.get_access_rw _ _ (by decide) (by decide), hk, hi, Dev.srcKind]

theorem Dev.writeSrc_changed {d : Dev} {v : Nat} (h5 : fieldOf v fALM_SRC_KIND < 5) (hk : fieldOf v fALM_SRC_KIND ≠ d.srcKind) :
    d.writeSrc v = (d.access rALM_SRC v).toHoldover 1 := by
  refine if_neg fun h => hk ?_
  have hkind := congrArg Prod.fst h
  rw [Dev.srcKind_access, if_pos h5] at hkind
  exact hkind

theorem almSrcWrite_kept {s : State} (hs : s.Runs) {val : Word} (hk : fieldOf val.toNat fALM_SRC_KIND = s.dev.get rALM_SRC fALM_SRC_KIND)
    (hi : fieldOf val.toNat fALM_SRC_INDEX = s.dev.get rALM_SRC fALM_SRC_INDEX) : ∃ t, exec (.almSrcWrite val) s = .next t ∧
      t.dev.rdN rALM_SRC = s.dev.stored rALM_SRC val.toNat ∧ s.OnlyChanges t [rALM_SRC] s.dev :=
  State.run_stores hs (f := fun d => d.writeSrc val.toNat) (Dev.writeSrc_kept (d := s.start) hk hi)

theorem almSrcWrite_changed {s : State} (hs : s.Runs) {val : Word} (h5 : fieldOf val.toNat fALM_SRC_KIND < 5)
    (hk : fieldOf val.toNat fALM_SRC_KIND ≠ s.dev.srcKind) (hl : s.dev.servo = svLocked) : ∃ t, exec (.almSrcWrite val) s = .next t ∧
      t.dev.rdN rALM_SRC = s.dev.stored rALM_SRC val.toNat ∧ t.dev.servo = svHoldover ∧ t.dev.bit rALM_ERR fALM_ERR_SOURCE_LOST = true := by
  have hservo : (s.start.access rALM_SRC val.toNat).servo = svLocked := by
    rw [Dev.servo, Dev.get_congr ((Dev.rewrites_access _ _ _).rd _ (by decide))]
    exact hl
  obtain ⟨hst, hlost, -, -, -, -, hsrc⟩ := Dev.toHoldover_shown 1 hservo
  rw [exec_almSrcWrite]
  refine ⟨_, State.run_after hs.1 (f := fun d => d.writeSrc val.toNat) (Dev.writeSrc_changed (d := s.start) h5 hk), ?_⟩
  simp only [State.after_servo, State.after_bit, State.after_rdN]
  refine ⟨hsrc.trans ?_, hst, hlost⟩
  rw [Dev.rdN_access_same]
  exact Dev.stored_congr (d := s.start) (e := s.dev) rfl _

/-! The pulse input (R536). -/

theorem exec_pulseInputEdge (ns : Fin 125000) (s : State) : exec (.pulseInputEdge ns) s =
    s.run (fun d => if d.bit rALM_PIN_CTRL fALM_PIN_CTRL_EN then (d.seen ns.val).pinEdge else d) := rfl

/-- The device whose last active edge is now. -/
def Dev.edgeSeen (d : Dev) : Dev := { d with alm := { d.alm with lastEdge := some d.timeNow } }

/-- The stamp of an edge that comes now. -/
def Dev.edgeStamp (d : Dev) : Nat := shiftTime d.timeNow (-(sval 16 (d.get rALM_PIN_CTRL fALM_PIN_CTRL_DELAY)))

/-- The device with one stamp more. -/
def Dev.stamped (d : Dev) (x : Nat) : Dev := { d with alm := { d.alm with stamps := d.alm.stamps ++ [x] } }

theorem Dev.rd_edgeSeen (d : Dev) (a : Nat) : d.edgeSeen.rd a = d.rd a := rfl
theorem Dev.stamps_edgeSeen (d : Dev) : d.edgeSeen.alm.stamps = d.alm.stamps := rfl
theorem Dev.stamps_stamped (d : Dev) (x : Nat) : (d.stamped x).alm.stamps = d.alm.stamps ++ [x] := rfl

/-- The first edge of a source that is not the pulse input is stamped, or counted where the FIFO is full. -/
theorem Dev.pinEdge_first {d : Dev} (hn : d.alm.lastEdge = none) (hk : d.srcKind ≠ 3) : d.pinEdge =
    if d.edgeSeen.alm.stamps.length < 16 then
      (d.edgeSeen.stamped d.edgeStamp).put rALM_PIN_CTRL fALM_PIN_CTRL_DEPTH (d.edgeSeen.stamped d.edgeStamp).alm.stamps.length
    else (d.edgeSeen.bump (rALM_CNT 4)).mark rALM_ERR fALM_ERR_PIN_OVF := by
  have hk' : ¬d.edgeSeen.srcKind = 3 := by rw [Dev.srcKind_congr (d.rd_edgeSeen _)]; exact hk
  unfold Dev.pinEdge
  dsimp only
  rw [hn]
  dsimp only
  rw [if_neg (by decide)]
  exact congrArg (fun e : Dev => if e.alm.stamps.length < 16 then
      (e.stamped d.edgeStamp).put rALM_PIN_CTRL fALM_PIN_CTRL_DEPTH (e.stamped d.edgeStamp).alm.stamps.length
    else (e.bump (rALM_CNT 4)).mark rALM_ERR fALM_ERR_PIN_OVF) (if_neg hk')

section
variable {s : State} (hs : s.Runs) {ns : Fin 125000}
include hs

theorem pulseInputEdge_off (h : s.dev.bit rALM_PIN_CTRL fALM_PIN_CTRL_EN = false) :
    ∃ t, exec (.pulseInputEdge ns) s = .next t ∧ s.OnlyChanges t [] s.dev := by
  rw [exec_pulseInputEdge]
  exact State.run_nothing hs (if_neg (ne_true_of_eq_false h))

theorem pulseInputEdge_stamps (h : s.dev.bit rALM_PIN_CTRL fALM_PIN_CTRL_EN = true) (hn : s.dev.alm.lastEdge = none)
    (hk : s.dev.srcKind ≠ 3) (hl : s.dev.alm.stamps.length < 16) : ∃ t, exec (.pulseInputEdge ns) s = .next t ∧
      t.dev.alm.stamps = s.dev.alm.stamps ++ [shiftTime (s.dev.tickNow * 125000 + max s.dev.tick.now ns.val)
        (-(sval 16 (s.dev.get rALM_PIN_CTRL fALM_PIN_CTRL_DELAY)))] ∧
      t.dev.get rALM_PIN_CTRL fALM_PIN_CTRL_DEPTH = s.dev.alm.stamps.length + 1 := by
  have hstamp : (s.start.seen ns.val).edgeStamp = shiftTime (s.dev.tickNow * 125000 + max s.dev.tick.now ns.val)
      (-(sval 16 (s.dev.get rALM_PIN_CTRL fALM_PIN_CTRL_DELAY))) := by
    rw [Dev.edgeStamp, s.seen_timeNow]
    rfl
  rw [exec_pulseInputEdge, ← hstamp]
  obtain ⟨e, he, hrd, halm⟩ := s.seen_shown ns.val
  have hlen : e.edgeSeen.alm.stamps.length < 16 := by rw [e.stamps_edgeSeen, halm]; exact hl
  refine ⟨_, State.run_after hs.1 ((if_pos h).trans (Dev.pinEdge_first (d := s.start.seen ns.val) hn hk)), ?_⟩
  rw [he, if_pos hlen, State.after_alm, State.after_get, Dev.put_alm, Dev.stamps_stamped, e.stamps_edgeSeen, halm]
  refine ⟨rfl, (Dev.get_put_eq _ _ ⟨by decide, by decide, ?_⟩).trans (List.length_append ..)⟩
  rw [List.length_append]
  exact lt_trans (Nat.succ_lt_succ hl) (by decide)

theorem pulseInputEdge_full (h : s.dev.bit rALM_PIN_CTRL fALM_PIN_CTRL_EN = true) (hn : s.dev.alm.lastEdge = none)
    (hk : s.dev.srcKind ≠ 3) (hl : 16 ≤ s.dev.alm.stamps.length) : ∃ t, exec (.pulseInputEdge ns) s = .next t ∧
      t.dev.alm.stamps = s.dev.alm.stamps ∧ t.dev.bit rALM_ERR fALM_ERR_PIN_OVF = true ∧ s.Counts t (rALM_CNT 4) 1 := by
  rw [exec_pulseInputEdge]
  obtain ⟨e, he, hrd, halm⟩ := s.seen_shown ns.val
  have hlen : ¬e.edgeSeen.alm.stamps.length < 16 := by rw [e.stamps_edgeSeen, halm]; exact Nat.not_lt.mpr hl
  have hw : Dev.Writes (· ∈ [rALM_CNT 4, rALM_ERR]) e.edgeSeen ((e.edgeSeen.bump (rALM_CNT 4)).mark rALM_ERR fALM_ERR_PIN_OVF) :=
    (Dev.writes_bump _ (.head _)).trans (Dev.writes_mark _ _ (.tail _ (.head _)))
  refine ⟨_, State.run_after hs.1 ((if_pos h).trans (Dev.pinEdge_first (d := s.start.seen ns.val) hn hk)), ?_⟩
  rw [he, if_neg hlen, State.Counts, State.after_alm, State.after_bit, State.after_rdN, hw.alm, e.stamps_edgeSeen, halm]
  refine ⟨rfl, Dev.bit_put_one _ _ (by decide), ?_⟩
  rw [Dev.mark, Dev.rdN_put_ne _ _ _ (by decide), Dev.bump, Dev.rdN_bumpBy_same, Dev.rdN_congr (e.rd_edgeSeen _), Dev.rdN_congr (hrd _)]

end

/-! ALM_PIN_POP (R536) and ALM_PULSE_WRITE (R538). -/

theorem exec_almPinPop (s : State) : exec .almPinPop s = s.run Dev.pinPop := rfl

/-- The device without its oldest stamp. -/
def Dev.withStamps (d : Dev) (q : List Nat) : Dev := { d with alm := { d.alm with stamps := q } }

theorem Dev.stamps_withStamps (d : Dev) (q : List Nat) : (d.withStamps q).alm.stamps = q := rfl

theorem Dev.pinPop_cons {d : Dev} {x : Nat} {q : List Nat} (h : d.alm.stamps = x :: q) : d.pinPop =
    ((((d.withStamps q).put rALM_PIN_CTRL fALM_PIN_CTRL_DEPTH q.length).wrN rALM_PIN_SEC_LO (x / nsPerSec % 2 ^ 32)).wrN rALM_PIN_NS
      (x % nsPerSec)).wrN rALM_PIN_SEC_HI (2 ^ 31 + x / nsPerSec / 2 ^ 32 % 65536) := by
  unfold Dev.pinPop
  rw [h]
  rfl

theorem Dev.pinPop_nil {d : Dev} (h : d.alm.stamps = []) : d.pinPop = d.put rALM_PIN_SEC_HI fALM_PIN_SEC_HI_VALID 0 := by
  unfold Dev.pinPop
  rw [h]

theorem exec_almPulseWrite (k : Fin 4) (w : Fin 7) (val : Word) (s : State) :
    exec (.almPulseWrite k w val) s = s.run (fun d => d.writePulse k.val w.val val.toNat) := rfl

/-- A pulse output whose word `w` has been written: it takes effect at the next boundary. -/
def PulseX.written (w : Nat) (x : PulseX) : PulseX := { x with dirty := true, recount := x.recount || w == 6 }

theorem Dev.writePulse_eq (d : Dev) (k w v : Nat) : d.writePulse k w v =
    (d.updPulse k (PulseX.written w)).access (rALM_PULSE_CTRL k + 4 * w) v := by
  unfold Dev.writePulse Dev.access
  split <;> rfl

section
variable {s : State} (hs : s.Runs)
include hs

theorem almPinPop_empty (h : s.dev.alm.stamps = []) : ∃ t, exec .almPinPop s = .next t ∧
    t.dev.bit rALM_PIN_SEC_HI fALM_PIN_SEC_HI_VALID = false ∧ s.OnlyChanges t [rALM_PIN_SEC_HI] s.dev := by
  obtain ⟨hrun, honly⟩ := State.run_writes_regs hs (Dev.pinPop_nil (d := s.start) h) (s.start.writes_put _ _ (.head _))
  exact ⟨_, hrun, Dev.bit_put_zero _ _ (by decide), honly⟩

theorem almPinPop_oldest {x : Nat} {q : List Nat} (h : s.dev.alm.stamps = x :: q) : ∃ t, exec .almPinPop s = .next t ∧
    t.dev.alm.stamps = q ∧ t.dev.rdN rALM_PIN_NS = x % 1000000000 ∧ t.dev.rdN rALM_PIN_SEC_LO = x / 1000000000 % 2 ^ 32 ∧
    t.dev.rdN rALM_PIN_SEC_HI = 2 ^ 31 + x / 1000000000 / 2 ^ 32 % 65536 := by
  rw [exec_almPinPop]
  refine ⟨_, State.run_after hs.1 (Dev.pinPop_cons (d := s.start) h), ?_⟩
  have hns : x % nsPerSec < 2 ^ 32 := lt_trans (Nat.mod_lt _ (by decide)) (by decide)
  have hhi : 2 ^ 31 + x / nsPerSec / 2 ^ 32 % 65536 < 2 ^ 32 := Nat.add_lt_add_left (lt_trans (Nat.mod_lt _ (by decide)) (by decide)) (2 ^ 31)
  rw [State.after_alm, State.after_rdN, State.after_rdN, State.after_rdN, Dev.wrN_alm, Dev.wrN_alm, Dev.wrN_alm, Dev.put_alm,
    Dev.stamps_withStamps, Dev.rdN_wrN_same, Dev.rdN_wrN_ne _ _ (by decide), Dev.rdN_wrN_same, Dev.rdN_wrN_ne _ _ (by decide),
    Dev.rdN_wrN_ne _ _ (by decide), Dev.rdN_wrN_same, Nat.mod_eq_of_lt hns, Nat.mod_mod, Nat.mod_eq_of_lt hhi]
  exact ⟨rfl, rfl, rfl, rfl⟩

theorem almPulseWrite_stores (k : Fin 4) (w : Fin 7) (val : Word) : ∃ t, exec (.almPulseWrite k w val) s = .next t ∧
    t.dev.rdN (rALM_PULSE_CTRL k.val + 4 * w.val) = s.dev.stored (rALM_PULSE_CTRL k.val + 4 * w.val) val.toNat ∧
    (t.dev.pulse k.val).dirty = true ∧
    s.OnlyChanges t [rALM_PULSE_CTRL k.val + 4 * w.val] { s.dev with alm := { s.dev.alm with pulses := t.dev.alm.pulses } } := by
  have hw := (s.start.updPulse k.val (PulseX.written w.val)).writes_access (P := (· ∈ [rALM_PULSE_CTRL k.val + 4 * w.val])) val.toNat (.head _)
  obtain ⟨hrun, honly⟩ := State.run_writes hs (d := s.dev.updPulse k.val (PulseX.written w.val)) (o := []) ⟨rfl, rfl, rfl⟩
    (f := fun d => d.writePulse k.val w.val val.toNat) (Dev.writePulse_eq ..) hw
  rw [exec_almPulseWrite]
  refine ⟨_, hrun, ?_, ?_, ?_⟩
  · rw [Dev.rdN_access_same]
    exact Dev.stored_congr (e := s.dev) rfl _
  · have hpulse : ((s.start.updPulse k.val (PulseX.written w.val)).access (rALM_PULSE_CTRL k.val + 4 * w.val) val.toNat).pulse k.val =
        (s.start.updPulse k.val (PulseX.written w.val)).pulse k.val := congrArg (fun x : AlmState => sget noPulse x.pulses k.val) hw.alm
    rw [hpulse, Dev.pulse_updPulse_same]
    rfl
  · show s.OnlyChanges _ _ { s.dev with alm := { s.dev.alm with pulses :=
      ((s.start.updPulse k.val (PulseX.written w.val)).access (rALM_PULSE_CTRL k.val + 4 * w.val) val.toNat).alm.pulses } }
    rw [hw.alm]
    exact honly

end

/-- Settles O40: the servo, the latch, the source, the pulse input and the pulse outputs each do what R525-R542 lay down. -/
theorem theServoKeepsTime : Obligations.TheServoKeepsTime := by
  unfold Obligations.TheServoKeepsTime
  refine ⟨fun s val ns hs => ⟨fun h1 h4 => almMeas_refused hs h1 h4, fun _ hk hl ht hthr => almMeas_corrects hs hk hl ht hthr⟩,
    fun s hs => ⟨sourceTimeout_early hs, sourceTimeout_due hs, holdQualExpiry_elsewhere hs, holdQualExpiry_due hs⟩,
    fun s val ns frac hs => ⟨almLatch_off hs frac, fun _ h hx => almLatch_shows hs frac h hx⟩,
    fun s val hs => ⟨almSrcWrite_kept hs, almSrcWrite_changed hs⟩,
    fun s ns hs => ⟨pulseInputEdge_off hs, fun h hn hk => ⟨pulseInputEdge_stamps hs h hn hk, pulseInputEdge_full hs h hn hk⟩⟩,
    fun s hs => ⟨almPinPop_empty hs, fun _ _ h => almPinPop_oldest hs h⟩,
    fun s k w val hs => almPulseWrite_stores hs k w val⟩

end Sys2Proof.Machine

/-! Time of day and the frequency messages (18_almanac.md R534, R535; 19_gellen.md R554, R558). -/

namespace Sys2Proof.Machine

/-! TIME_OF_DAY (R535). -/

theorem exec_timeOfDay (s : State) : exec .timeOfDay s = s.run Dev.timeOfDay := rfl

/-- A device that differs from another in the state of the trees alone. -/
structure Dev.TreesOnly (d e : Dev) : Prop where
  rd : ∀ a, e.rd a = d.rd a
  alm : e.alm = d.alm

theorem Dev.timeOf_congr {d e : Dev} (h : ∀ a, d.rd a = e.rd a) (t n : Nat) : d.timeOf t n = e.timeOf t n := by
  rw [Dev.timeOf, Dev.fullTick, Dev.tickNow_congr h, Dev.get_congr (h _), ← Dev.fullTick, ← Dev.timeOf]

theorem Dev.todContent_congr {d e : Dev} (h : ∀ a, d.rd a = e.rd a) (t : Nat) : d.todContent t = e.todContent t := by
  unfold Dev.todContent
  dsimp only
  rw [Dev.tickNow_congr h, Dev.get_congr (h _), Dev.timeOf_congr h]

/-- One tree's message queued: it alone has one message more. -/
theorem Dev.queuePloam_shown (d : Dev) (t : Nat) (k : PloamKind) (dest : Nat) (content : List Byte) :
    d.TreesOnly (d.queuePloam t k dest content) ∧ (∀ j, j ≠ t → (d.queuePloam t k dest content).tree j = d.tree j) ∧
    (d.framing t = true → ((d.queuePloam t k dest content).tree t).ploam = (d.tree t).ploam ++ [⟨k, dest, content⟩]) := by
  unfold Dev.queuePloam
  refine ⟨?_, fun j hj => ?_, fun h => ?_⟩
  · split
    · exact ⟨fun _ => rfl, rfl⟩
    · exact ⟨fun _ => rfl, rfl⟩
  · split
    · exact Dev.tree_updTree_ne d _ hj
    · rfl
  · rw [if_pos h, Dev.tree_updTree_same]

/-- The time of day queued on the trees of a list. -/
def Dev.todQueued (d : Dev) (l : List Nat) : Dev := l.foldl (fun d t => d.queuePloam t .timeOfDay 0x3FF (d.todContent t)) d

theorem Dev.todQueued_shown (l : List Nat) : ∀ d : Dev, l.Nodup → d.TreesOnly (d.todQueued l) ∧
    (∀ j, j ∉ l → (d.todQueued l).tree j = d.tree j) ∧
    ∀ j ∈ l, d.framing j = true → ((d.todQueued l).tree j).ploam = (d.tree j).ploam ++ [⟨.timeOfDay, 0x3FF, d.todContent j⟩] := by
  induction l with
  | nil => exact fun d _ => ⟨⟨fun _ => rfl, rfl⟩, fun _ _ => rfl, fun _ h => absurd h List.not_mem_nil⟩
  | cons t l ih =>
    intro d hnd
    obtain ⟨htl, hnd⟩ := List.nodup_cons.mp hnd
    obtain ⟨honly, hne, heq⟩ := d.queuePloam_shown t .timeOfDay 0x3FF (d.todContent t)
    obtain ⟨ihonly, ihne, iheq⟩ := ih (d.queuePloam t .timeOfDay 0x3FF (d.todContent t)) hnd
    have hcons : d.todQueued (t :: l) = (d.queuePloam t .timeOfDay 0x3FF (d.todContent t)).todQueued l := rfl
    rw [hcons]
    refine ⟨⟨fun a => (ihonly.rd a).trans (honly.rd a), ihonly.alm.trans honly.alm⟩, fun j hj => ?_, fun j hj hf => ?_⟩
    · rw [ihne j (fun h => hj (.tail _ h)), hne j (fun h => hj (h ▸ .head _))]
    · rcases List.mem_cons.mp hj with rfl | hjl
      · rw [ihne _ htl, heq hf]
      · have hjt : j ≠ t := fun h => htl (h ▸ hjl)
        rw [iheq j hjl (by rw [Dev.framing, hne j hjt, Dev.bit_congr (honly.rd _)]; exact hf), hne j hjt, Dev.todContent_congr honly.rd]

/-- The device as it sends the time of day. -/
def Dev.todSent (d : Dev) : Dev := { d with alm := { d.alm with todTick := some d.tickNow } }

/-- The trees that take the time of day. -/
def Dev.todTrees (d : Dev) : List Nat := (List.range 48).filter (fun t => d.mode t == 2 && d.framing t)

theorem Dev.timeOfDay_first {d : Dev} (h : d.bit rALM_CTRL fALM_CTRL_TOD_EN = true) (hn : d.alm.todTick = none) :
    d.timeOfDay = d.todSent.todQueued d.todSent.todTrees := by
  unfold Dev.timeOfDay
  rw [hn, if_neg (by rw [h]; simp)]
  rfl

section
variable {s : State} (hs : s.Runs)
include hs

theorem timeOfDay_off (h : s.dev.bit rALM_CTRL fALM_CTRL_TOD_EN = false) : ∃ t, exec .timeOfDay s = .next t ∧ s.OnlyChanges t [] s.dev := by
  rw [exec_timeOfDay]
  refine State.run_nothing hs (if_pos ?_)
  rw [Dev.bit_congr (d := s.start) (e := s.dev) rfl, h]
  rfl

theorem timeOfDay_queues (h : s.dev.bit rALM_CTRL fALM_CTRL_TOD_EN = true) (hn : s.dev.alm.todTick = none) :
    ∃ t, exec .timeOfDay s = .next t ∧ t.dev.alm.todTick = some s.dev.tickNow ∧
      (∀ k < 48, s.dev.mode k = 2 → s.dev.framing k = true →
        (t.dev.tree k).ploam = (s.dev.tree k).ploam ++ [⟨.timeOfDay, 0x3FF, s.dev.todContent k⟩]) ∧
      (∀ k, s.dev.mode k ≠ 2 → t.dev.tree k = s.dev.tree k) := by
  have hrun := State.run_after hs.1 (Dev.timeOfDay_first (d := s.start) h hn)
  have hnd : s.start.todSent.todTrees.Nodup := List.nodup_range.filter _
  obtain ⟨honly, hne, heq⟩ := Dev.todQueued_shown _ s.start.todSent hnd
  have hmem : ∀ k, k ∈ s.start.todSent.todTrees ↔ k < 48 ∧ s.dev.mode k = 2 ∧ s.dev.framing k = true := fun k => by
    rw [Dev.todTrees, List.mem_filter, List.mem_range, Bool.and_eq_true, beq_iff_eq]
    rfl
  have hcontent : ∀ k, s.start.todSent.todContent k = s.dev.todContent k := Dev.todContent_congr fun _ => rfl
  generalize s.start.todSent.todQueued s.start.todSent.todTrees = e at hrun honly hne heq
  refine ⟨_, hrun, ?_, fun k hk hm hf => ?_, fun k hm => ?_⟩
  · rw [State.after_alm, honly.alm]
    rfl
  · exact (heq k ((hmem k).mpr ⟨hk, hm, hf⟩) hf).trans (by rw [hcontent]; rfl)
  · exact hne k fun hk => hm ((hmem k).mp hk).2.1

end

/-! The frequency messages (R554, R558). -/

theorem exec_freqAck (p : Fin 2) (seq applied : Fin 65536) (freq : Word) (s : State) : exec (.freqAck p seq applied freq) s =
    s.run (fun d => match d.receive p.val seq.val 2 3 true with
      | (false, d) => d
      | (true, d) => if d.glk.freqSent ∧ applied.val = d.glk.freqSeq ∧ freq.toNat = sfield 32 d.alm.sent then
          d.put rGLK_STATUS fGLK_STATUS_FREQ_ACKED 1 else d) := rfl

theorem exec_freqNoack (s : State) : exec .freqNoack s = s.run (fun d =>
    if d.glk.freqSent && !(d.bit rGLK_STATUS fGLK_STATUS_FREQ_ACKED) then
      ((d.mark rGLK_ERR fGLK_ERR_FREQ_NOACK).alert 0x1204 (p4 d.glk.freqSeq)).freqAgain
    else d) := rfl

section
variable {s : State} (hs : s.Runs) {p : Fin 2} {seq applied : Fin 65536} {freq : Word}
include hs

theorem freqAck_down (h : s.dev.portState p.val ≠ 4) : ∃ t, exec (.freqAck p seq applied freq) s = .next t ∧ s.OnlyChanges t [] s.dev := by
  rw [exec_freqAck]
  exact State.run_nothing hs (by rw [Dev.receive_of_not_up (d := s.start) h])

/-- A frequency message's acknowledgement, accepted. -/
theorem exec_freqAck_taken (ht : s.dev.Takes p.val seq.val) : ∃ e : Dev, Dev.Talk [rGLK_CNT 1] s.start e ∧
    (e.port p.val).rxNext = (seq.val + 1) % 65536 ∧ exec (.freqAck p seq applied freq) s = .next (s.after
      (if s.dev.glk.freqSent ∧ applied.val = s.dev.glk.freqSeq ∧ freq.toNat = sfield 32 s.dev.alm.sent then
        e.put rGLK_STATUS fGLK_STATUS_FREQ_ACKED 1 else e)) := by
  have htake := Dev.receive_of_takes (d := s.start) ht 2 3
  have htalk := s.start.talk_taken p.val seq.val 2 3
  have hport := s.start.port_taken p.val seq.val 2 3
  generalize s.start.taken p.val seq.val 2 3 = e at htake htalk hport
  have hglk : e.glk.freqSent = s.dev.glk.freqSent ∧ e.glk.freqSeq = s.dev.glk.freqSeq ∧ e.alm = s.dev.alm := by
    rw [htalk.rest]
    exact ⟨rfl, rfl, rfl⟩
  refine ⟨e, htalk, by rw [hport], (exec_freqAck ..).trans (State.run_after hs.1 ?_)⟩
  rw [htake]
  dsimp only
  rw [hglk.1, hglk.2.1, hglk.2.2]

theorem freqAck_newest (ht : s.dev.Takes p.val seq.val) (hsent : s.dev.glk.freqSent = true) (hseq : applied.val = s.dev.glk.freqSeq)
    (hf : freq.toNat = sfield 32 s.dev.alm.sent) : ∃ t, exec (.freqAck p seq applied freq) s = .next t ∧
      t.dev.bit rGLK_STATUS fGLK_STATUS_FREQ_ACKED = true ∧ (t.dev.port p.val).rxNext = (seq.val + 1) % 65536 := by
  obtain ⟨e, -, hnext, hrun⟩ := exec_freqAck_taken (applied := applied) (freq := freq) hs ht
  rw [if_pos ⟨hsent, hseq, hf⟩] at hrun
  refine ⟨_, hrun, ?_, ?_⟩
  · rw [State.after_bit]
    exact Dev.bit_put_one _ _ (by decide)
  · rw [State.after_port, Dev.port_congr (e.put_glk ..)]
    exact hnext

theorem freqAck_older (ht : s.dev.Takes p.val seq.val) (hseq : applied.val ≠ s.dev.glk.freqSeq) :
    ∃ t, exec (.freqAck p seq applied freq) s = .next t ∧ (t.dev.port p.val).rxNext = (seq.val + 1) % 65536 ∧
      s.OnlyChanges t [rGLK_CNT 1] { s.dev with glk := { s.dev.glk with portA := t.dev.glk.portA, portB := t.dev.glk.portB } } := by
  obtain ⟨e, htalk, hnext, hrun⟩ := exec_freqAck_taken (applied := applied) (freq := freq) hs ht
  have hrest := htalk.rest
  have hlog : e.glk.log = s.dev.glk.log := htalk.log.resolve_left (by decide)
  rw [if_neg fun h => hseq h.2.1, State.after_quiet (htalk.replies.trans hs.2.1) (htalk.wipes.trans hs.2.2)] at hrun
  refine ⟨_, hrun, hnext, fun a ha => htalk.rd a ha, ?_⟩
  rw [hlog] at hrest
  generalize e.regs = r, e.out = o, e.glk.portA = pa, e.glk.portB = pb at hrest
  rw [hrest]
  rfl

omit hs in
/-- What the resending of a frequency correction does is the link's work. -/
theorem Dev.linkWork_freqAgain (d : Dev) : d.LinkWork d.freqAgain :=
  ((d.linkWork_send ..).trans (Dev.linkWork_send ..)).trans (Dev.linkWork_bumpBy _ _ (linkWorkReg_cnt (by decide)))

theorem freqNoack_idle (h : s.dev.glk.freqSent = false ∨ s.dev.bit rGLK_STATUS fGLK_STATUS_FREQ_ACKED = true) :
    ∃ t, exec .freqNoack s = .next t ∧ s.OnlyChanges t [] s.dev := by
  rw [exec_freqNoack]
  refine State.run_nothing hs (if_neg ?_)
  rw [Dev.bit_congr (d := s.start) (e := s.dev) rfl]
  rcases h with h | h
  · rw [show s.start.glk = s.dev.glk from rfl, h]
    simp
  · rw [h]
    simp

theorem freqNoack_again (hsent : s.dev.glk.freqSent = true) (h : s.dev.bit rGLK_STATUS fGLK_STATUS_FREQ_ACKED = false) :
    ∃ t, exec .freqNoack s = .next t ∧ t.dev.bit rGLK_ERR fGLK_ERR_FREQ_NOACK = true ∧ t.dev.alm = s.dev.alm := by
  have hc : (s.start.glk.freqSent && !(s.start.bit rGLK_STATUS fGLK_STATUS_FREQ_ACKED)) = true := by
    rw [Dev.bit_congr (d := s.start) (e := s.dev) rfl, h, show s.start.glk = s.dev.glk from rfl, hsent]
    rfl
  have hwork : (s.start.mark rGLK_ERR fGLK_ERR_FREQ_NOACK).LinkWork
      ((s.start.mark rGLK_ERR fGLK_ERR_FREQ_NOACK).alert 0x1204 (p4 s.start.glk.freqSeq)).freqAgain :=
    (Dev.linkWork_alert ..).trans (Dev.linkWork_freqAgain _)
  have herr := congrArg (· == 1) (hwork.err fGLK_ERR_FREQ_NOACK (by decide) (by decide))
  rw [exec_freqNoack]
  refine ⟨_, State.run_after hs.1 (if_pos hc), ?_⟩
  rw [State.after_alm, State.after_bit, hwork.alm, Dev.mark, Dev.put_alm]
  exact ⟨herr.trans (Dev.bit_put_one _ _ (by decide)), rfl⟩

end

end Sys2Proof.Machine

/-! The commands of the Almanac (18_almanac.md R534, R544). -/

namespace Sys2Proof.Machine

/-- The entry to HOLDOVER leaves the source as it is. -/
theorem Dev.src_toHoldover (d : Dev) (cause : Nat) : (d.toHoldover cause).rd rALM_SRC = d.rd rALM_SRC := by
  by_cases h : d.servo = svHoldover
  · have hservo : (d.put rALM_STATUS fALM_STATUS_SRC_ACTIVE 0).servo = svHoldover := (Dev.get_put_disjoint _ _ _ (by decide)).trans h
    exact (congrArg (fun e : Dev => e.rd rALM_SRC) (if_pos hservo)).trans (Dev.rd_put_ne _ _ _ (by decide))
  · obtain ⟨ps, he⟩ := Dev.toHoldover_eq cause h
    rw [he, (Dev.timeShown_showTimeOk _).rd _ (by decide), Dev.rd_alert _ _ _ (by decide), d.rd_heldOver (by decide) (by decide) (by decide)]

theorem Dev.src_writeSrc (d : Dev) (v : Nat) : (d.writeSrc v).rdN rALM_SRC = d.stored rALM_SRC v := by
  rw [← Dev.rdN_access_same]
  unfold Dev.writeSrc
  dsimp only
  split
  · rfl
  · exact Dev.rdN_congr (Dev.src_toHoldover ..)

theorem timeStatus_answers {s : State} {m : Fin 64} {c : Cmd} (h : s.Ready m 0x0702 c) (h0 : c.u8 0 = 0) (hends : c.endsAt 1 = true) :
    ∃ t, exec (.timeStatus m) s = .next t ∧ s.OnlyAnswers t m ∧ t.Done m 0
      ([rALM_STATUS, rALM_FREQ, rALM_OFFSET, rALM_SRC].flatMap (fun a => leB 4 (s.dev.rdN a)) ++ s.dev.latchedBytes) := by
  refine State.run_shows h ((Cmd.checks_pass c _ ?checks _).trans ?runs) (by decide) ?_
  case checks => simp [inForm, Cmd.mayExpert, h0, hends, Cmd.only, Cmd.expert, nbit]
  case runs =>
    simp only [Cmd.expert, h0, show nbit 0 7 = false from rfl, Bool.false_eq_true, if_false, List.append_nil]
    rfl
  rw [List.length_append, length_registers]
  simp [Dev.latchedBytes, length_leB]

section
variable {s : State} {m : Fin 64} {c : Cmd} (hown : c.isOwner = true)
include hown

theorem timeSource_stores (h : s.Ready m 0x0703 c) (h0 : c.u8 0 < 8) (hkind : c.u8 0 ≠ 1) (h1 : c.u8 1 < 64) (h2 : c.u8 2 = 0)
    (h3 : c.zero 3 1 = true) (hends : c.endsAt 4 = true) : ∃ t, exec (.timeSource m) s = .next t ∧
      t.dev.rdN rALM_SRC = s.dev.stored rALM_SRC (c.u8 0 * 2 ^ 29 + c.u8 1) ∧
      t.Done m 0 (leB 4 (t.dev.rdN rALM_SRC) ++ leB 4 (t.dev.rdN rALM_STATUS)) := by
  have hv : c.u8 0 % 8 * 2 ^ 29 + c.u8 1 % 64 = c.u8 0 * 2 ^ 29 + c.u8 1 := by rw [Nat.mod_eq_of_lt h0, Nat.mod_eq_of_lt h1]
  have habove : ∀ (e : Dev) resp a, 0x90000 ≤ a → (s.after (e.finish m.val 0 resp)).dev.rdN a = e.rdN a := fun e resp a ha => by
    rw [State.after_rdN, Dev.rdN_congr (Dev.rd_finish_above _ m.isLt _ _ ha)]
  have hdone : ∃ t, exec (.timeSource m) s = .next t ∧ t.Done m 0 (leB 4 ((s.start.writeSrc (c.u8 0 * 2 ^ 29 + c.u8 1)).rdN rALM_SRC) ++
        leB 4 ((s.start.writeSrc (c.u8 0 * 2 ^ 29 + c.u8 1)).rdN rALM_STATUS)) ∧
      t.dev.rdN rALM_SRC = (s.start.writeSrc (c.u8 0 * 2 ^ 29 + c.u8 1)).rdN rALM_SRC ∧
      t.dev.rdN rALM_STATUS = (s.start.writeSrc (c.u8 0 * 2 ^ 29 + c.u8 1)).rdN rALM_STATUS := by
    refine State.run_ends h ((Cmd.checks_pass c _ ?checks _).trans ?runs) (by decide) (by simp [length_leB])
      ⟨habove _ _ _ (by decide), habove _ _ _ (by decide)⟩
    case checks => simp [Cmd.mustOwn, inForm, hown, h0, hkind, h1, h2, h3, hends, Cmd.only, Cmd.expert, nbit]
    case runs =>
      simp only [Cmd.expert, h2, show nbit 0 7 = false from rfl, Bool.false_eq_true, if_false, hv]
      rfl
  obtain ⟨t, hrun, hdone, hsrc, hst⟩ := hdone
  rw [← hsrc, ← hst] at hdone
  exact ⟨t, hrun, hsrc.trans ((Dev.src_writeSrc _ _).trans (Dev.stored_congr (d := s.start) (e := s.dev) rfl _)), hdone⟩

theorem timeSet_refused (h : s.Ready m 0x0704 c) (h6 : c.zero 6 2 = true) (h8 : c.u32 8 < 1000000000) (hends : c.endsAt 0xC = true)
    (hbusy : s.dev.stepFree = false) : ∃ t, exec (.timeSet m) s = .next t ∧ t.Done m resBusy [] ∧
      t.dev.bit rTICK_ERR fTICK_ERR_STEP_REFUSED = true ∧ t.dev.tickNow = s.dev.tickNow := by
  have hbusy' : s.start.stepFree = false := hbusy
  have hrd : ∀ (d : Dev) resp a, a < 0x200 → (d.finish m.val resBusy resp).rd a = d.rd a := fun d resp a ha =>
    d.rd_finish _ _ _ (by unfold rGLK_CNT; omega) (by unfold rMBX_STATUS; omega) (by unfold rMBX_INFO; omega)
  refine State.run_ends h (e := s.start.mark rTICK_ERR fTICK_ERR_STEP_REFUSED) ((Cmd.checks_pass c _ ?checks _).trans ?runs) (by decide)
    (by decide) ?_
  case checks => simp [Cmd.mustOwn, inForm, hown, h6, h8, hends, nsPerSec]
  case runs => simp only [hbusy', Bool.false_eq_true, if_false]; rfl
  rw [State.after_bit, Dev.bit_congr (hrd _ _ _ (by decide))]
  refine ⟨Dev.bit_put_one _ _ (by decide), ?_⟩
  rw [Dev.tickNow, Dev.rd64, State.after_rdN, State.after_rdN, Dev.rdN_congr (hrd _ _ _ (by decide)), Dev.rdN_congr (hrd _ _ _ (by decide)),
    Dev.mark, Dev.rdN_put_ne _ _ _ (by decide), Dev.rdN_put_ne _ _ _ (by decide)]
  rfl

theorem timeTod_answers (h : s.Ready m 0x0706 c) (hok : s.dev.treeOk (c.u8 0) = true) (h1 : c.zero 1 1 = true)
    (hn : leAt c.req 2 7 < 2 ^ 51) (hends : c.endsAt 9 = true) : ∃ t, exec (.timeTod m) s = .next t ∧ s.OnlyAnswers t m ∧
      t.Done m 0 (leB 6 (s.dev.timeOf (c.u8 0) (leAt c.req 2 7)).1 ++ leB 2 0 ++ leB 4 (s.dev.timeOf (c.u8 0) (leAt c.req 2 7)).2 ++
        leB 1 (s.dev.get rALM_STATUS fALM_STATUS_TIME_OK)) := by
  have hok' : s.start.treeOk (c.u8 0) = true := hok
  have hcaller : c.caller = none := by simpa [Cmd.isOwner] using hown
  refine State.run_shows h ((Cmd.checks_pass c _ ?checks _).trans ?runs) (by decide) ?_
  case checks => simpa [inForm, hcaller, hok', h1, hends] using hn
  case runs => rfl
  simp [length_leB]

section
variable (h : s.Ready m 0x0707 c) (h1 : c.zero 1 3 = true) (h4 : c.u32 4 < 2 ^ 24) (h8 : c.u16 8 < 1024) (hends : c.endsAt 0xA = true)
include h h1 h4 h8 hends

omit hown in
theorem timeRadio_answers (h0 : c.u8 0 = 1) : ∃ t, exec (.timeRadio m) s = .next t ∧ s.OnlyAnswers t m ∧
    t.Done m 0 (leB 4 (s.dev.rdN rALM_RADIO) ++ leB 4 (s.dev.rdN rALM_SFN_ADJ) ++ leB 4 (s.dev.rdN rALM_RADIO_STATUS) ++
      leB 8 s.dev.tickNow) := by
  refine State.run_shows h ((Cmd.checks_pass c _ ?checks _).trans ?runs) (by decide) (by simp [length_leB])
  case checks => simpa [inForm, h0, h1, h8, hends, Cmd.only, Cmd.expert, nbit] using h4
  case runs =>
    simp only [h0, show nbit 1 0 = true from rfl, if_true]
    rfl

theorem timeRadio_stores (h0 : c.u8 0 = 0) : ∃ t, exec (.timeRadio m) s = .next t ∧ t.dev.rdN rALM_RADIO = c.u32 4 ∧
    t.dev.rdN rALM_SFN_ADJ = c.u16 8 ∧
    t.Done m 0 (leB 4 (c.u32 4) ++ leB 4 (c.u16 8) ++ leB 4 (s.dev.rdN rALM_RADIO_STATUS) ++ leB 8 s.dev.tickNow) := by
  have habove : ∀ (e : Dev) resp a, 0x90000 ≤ a → (s.after (e.finish m.val 0 resp)).dev.rdN a = e.rdN a := fun e resp a ha => by
    rw [State.after_rdN, Dev.rdN_congr (Dev.rd_finish_above _ m.isLt _ _ ha)]
  have hsfn : c.u16 8 % 2 ^ 32 = c.u16 8 := Nat.mod_eq_of_lt (lt_trans h8 (by decide))
  have hradio : c.u32 4 % 2 ^ 32 = c.u32 4 := Nat.mod_eq_of_lt (c.u32_lt 4)
  have hwritten : ((s.start.wrN rALM_RADIO (c.u32 4)).wrN rALM_SFN_ADJ (c.u16 8)).rdN rALM_RADIO = c.u32 4 ∧
      ((s.start.wrN rALM_RADIO (c.u32 4)).wrN rALM_SFN_ADJ (c.u16 8)).rdN rALM_SFN_ADJ = c.u16 8 := by
    rw [Dev.rdN_wrN_ne _ _ (by decide), Dev.rdN_wrN_same, Dev.rdN_wrN_same, hsfn, hradio]
    exact ⟨rfl, rfl⟩
  have hkept : ∀ a, a ≠ rALM_RADIO → a ≠ rALM_SFN_ADJ → ((s.start.wrN rALM_RADIO (c.u32 4)).wrN rALM_SFN_ADJ (c.u16 8)).rdN a = s.dev.rdN a :=
    fun a ha hb => by rw [Dev.rdN_wrN_ne _ _ hb, Dev.rdN_wrN_ne _ _ ha]; rfl
  have hdone : ∃ t, exec (.timeRadio m) s = .next t ∧
      t.Done m 0 (leB 4 (c.u32 4) ++ leB 4 (c.u16 8) ++ leB 4 (s.dev.rdN rALM_RADIO_STATUS) ++ leB 8 s.dev.tickNow) ∧
      t.dev.rdN rALM_RADIO = c.u32 4 ∧ t.dev.rdN rALM_SFN_ADJ = c.u16 8 := by
    refine State.run_ends h (e := (s.start.wrN rALM_RADIO (c.u32 4)).wrN rALM_SFN_ADJ (c.u16 8)) ((Cmd.checks_pass c _ ?checks _).trans ?runs)
      (by decide) (by simp [length_leB])
      ⟨(habove _ _ _ (by decide)).trans hwritten.1, (habove _ _ _ (by decide)).trans hwritten.2⟩
    case checks => simpa [inForm, hown, h0, h1, h8, hends, Cmd.only, Cmd.expert, nbit] using h4
    case runs =>
      simp only [h0, show nbit 0 0 = false from rfl, Bool.false_eq_true, if_false, hwritten.1, hwritten.2, hkept rALM_RADIO_STATUS (by decide) (by decide),
        Dev.tickNow, Dev.rd64, hkept rTICK_COUNT_LO (by decide) (by decide), hkept rTICK_COUNT_HI (by decide) (by decide)]
      rfl
  obtain ⟨t, hrun, hdone, hr, hs⟩ := hdone
  exact ⟨t, hrun, hr, hs, hdone⟩

end

/-! TIME_PULSE. -/

/-- The words of a pulse output written one after the other. -/
def Dev.pulseWritten (d : Dev) (k : Nat) (v : Nat → Nat) (n : Nat) : Dev := (List.range n).foldl (fun d w => d.writePulse k w (v w)) d

omit hown in
theorem Dev.pulseWritten_succ (d : Dev) (k : Nat) (v : Nat → Nat) (n : Nat) :
    d.pulseWritten k v (n + 1) = (d.pulseWritten k v n).writePulse k n (v n) := by
  rw [Dev.pulseWritten, List.range_succ, List.foldl_concat, ← Dev.pulseWritten]

omit hown in
theorem Dev.rd_writePulse (d : Dev) (k w v : Nat) {a : Nat} (h : a ≠ rALM_PULSE_CTRL k + 4 * w) : (d.writePulse k w v).rd a = d.rd a := by
  rw [Dev.writePulse_eq, (Dev.rewrites_access _ _ _).rd _ h]
  rfl

omit hown in
theorem Dev.pulseWritten_shown (d : Dev) (k : Nat) (v : Nat → Nat) (n : Nat) :
    (∀ a, (∀ w < n, a ≠ rALM_PULSE_CTRL k + 4 * w) → (d.pulseWritten k v n).rd a = d.rd a) ∧
    ∀ w < n, (d.pulseWritten k v n).rdN (rALM_PULSE_CTRL k + 4 * w) = d.stored (rALM_PULSE_CTRL k + 4 * w) (v w) := by
  induction n with
  | zero => exact ⟨fun _ _ => rfl, fun _ h => absurd h (Nat.not_lt_zero _)⟩
  | succ n ih =>
    obtain ⟨hkept, hstored⟩ := ih
    rw [Dev.pulseWritten_succ]
    refine ⟨fun a ha => (Dev.rd_writePulse _ _ _ _ (ha n (Nat.lt_succ_self n))).trans (hkept a fun w hw => ha w (Nat.lt_succ_of_lt hw)),
      fun w hw => ?_⟩
    by_cases hn : w = n
    · subst hn
      rw [Dev.writePulse_eq, Dev.rdN_access_same]
      exact Dev.stored_congr (hkept _ fun x hx => by omega) _
    · rw [Dev.rdN_congr (Dev.rd_writePulse _ _ _ _ (by omega))]
      exact hstored w (by omega)

omit hown in
theorem Dev.dirty_writePulse (d : Dev) (k w v : Nat) : ((d.writePulse k w v).pulse k).dirty = true := by
  have halm := (d.updPulse k (PulseX.written w)).writes_access (P := (· = rALM_PULSE_CTRL k + 4 * w)) v rfl
  rw [Dev.writePulse_eq, Dev.pulse, halm.alm, ← Dev.pulse, Dev.pulse_updPulse_same]
  rfl

theorem timePulse_stores (h : s.Ready m 0x0705 c) (h0 : c.u8 0 < 4) (h1 : c.zero 1 3 = true) (hends : c.endsAt 0x20 = true)
    (hval : ∀ w < 7, badValue (rALM_PULSE_CTRL (c.u8 0) + 4 * w) (c.u32 (4 + 4 * w)) = false) :
    ∃ t, exec (.timePulse m) s = .next t ∧ t.Done m 0 (leB 8 (s.dev.tickNow + 1)) ∧ (t.dev.pulse (c.u8 0)).dirty = true ∧
      ∀ w < 7, t.dev.rdN (rALM_PULSE_CTRL (c.u8 0) + 4 * w) = s.dev.stored (rALM_PULSE_CTRL (c.u8 0) + 4 * w) (c.u32 (4 + 4 * w)) := by
  obtain ⟨hkept, hstored⟩ := s.start.pulseWritten_shown (c.u8 0) (fun w => c.u32 (4 + 4 * w)) 7
  have hdirty : ((s.start.pulseWritten (c.u8 0) (fun w => c.u32 (4 + 4 * w)) 7).pulse (c.u8 0)).dirty = true := by
    rw [Dev.pulseWritten_succ]
    exact Dev.dirty_writePulse ..
  have htick : (s.start.pulseWritten (c.u8 0) (fun w => c.u32 (4 + 4 * w)) 7).tickNow = s.dev.tickNow := by
    rw [Dev.tickNow, Dev.rd64, Dev.rdN_congr (hkept _ fun w hw => by unfold rTICK_COUNT_LO rALM_PULSE_CTRL; omega),
      Dev.rdN_congr (hkept _ fun w hw => by unfold rTICK_COUNT_HI rALM_PULSE_CTRL; omega)]
    rfl
  have hall : (List.range 7).all (fun w => !(badValue (rALM_PULSE_CTRL (c.u8 0) + 4 * w) (c.u32 (4 + 4 * w)))) = true :=
    List.all_eq_true.mpr fun w hw => by rw [hval w (List.mem_range.mp hw)]; rfl
  have hruns : ∀ d : Dev, (List.range 7).foldl (fun d w => d.writePulse (c.u8 0) w (c.u32 (4 + 4 * w))) d =
      d.pulseWritten (c.u8 0) (fun w => c.u32 (4 + 4 * w)) 7 := fun _ => rfl
  refine State.run_ends h (e := s.start.pulseWritten (c.u8 0) (fun w => c.u32 (4 + 4 * w)) 7) ((Cmd.checks_pass c _ ?checks _).trans ?runs)
    (by decide) (by rw [length_leB]; decide) ?_
  case checks =>
    simp only [List.forall_mem_cons, Cmd.mustOwn, inForm, hown, decide_eq_true h0, h1, hends, hall, Bool.and_self]
    decide
  case runs =>
    simp only [hruns, htick]
    rfl
  generalize s.start.pulseWritten (c.u8 0) (fun w => c.u32 (4 + 4 * w)) 7 = e at hstored hdirty
  refine ⟨?_, fun w hw => ?_⟩
  · rw [Dev.pulse, State.after_alm, Dev.finish_alm]
    exact hdirty
  · rw [State.after_rdN, Dev.rdN_congr (Dev.rd_finish_above _ m.isLt _ _ (by unfold rALM_PULSE_CTRL; omega)), hstored w hw]
    exact Dev.stored_congr (d := s.start) (e := s.dev) rfl _

end

end Sys2Proof.Machine

/-! What the boundary of a tick leaves alone: once the tick counter is set, nothing of the boundary writes it again (01_tick.md R13, R18). -/

namespace Sys2Proof.Machine

/-- From one state of the device to another the tick counter stands as it was. -/
structure Dev.CountKept (d e : Dev) : Prop where
  lo : e.rd rTICK_COUNT_LO = d.rd rTICK_COUNT_LO
  hi : e.rd rTICK_COUNT_HI = d.rd rTICK_COUNT_HI

section
variable {d e f : Dev}

theorem Dev.CountKept.refl (d : Dev) : d.CountKept d := ⟨rfl, rfl⟩

theorem Dev.CountKept.trans (h : d.CountKept e) (k : e.CountKept f) : d.CountKept f := ⟨k.lo.trans h.lo, k.hi.trans h.hi⟩

theorem Dev.CountKept.tickNow (h : d.CountKept e) : e.tickNow = d.tickNow := by
  rw [Dev.tickNow, Dev.rd64, Dev.rdN_congr h.lo, Dev.rdN_congr h.hi, Dev.tickNow, Dev.rd64]

/-- What keeps every register of the blocks below the link keeps the counter. -/
theorem Dev.CoreKept.count (h : d.CoreKept e) : d.CountKept e := ⟨h.rd _ (by decide), h.rd _ (by decide)⟩

theorem Dev.CountKept.ite {c : Prop} [Decidable c] (h : d.CountKept e) (k : d.CountKept f) : d.CountKept (if c then e else f) := by
  split
  · exact h
  · exact k

theorem Dev.CountKept.foldl {α : Type} {g : Dev → α → Dev} {l : List α} (h : ∀ d : Dev, ∀ x ∈ l, d.CountKept (g d x)) (d : Dev) :
    d.CountKept (l.foldl g d) :=
  List.foldlRecOn (motive := fun e : Dev => d.CountKept e) l g (.refl d) fun e he x hx => he.trans (h e x hx)

theorem Dev.CountKept.when (d : Dev) (c : Bool) {g : Dev → Dev} (h : ∀ d : Dev, d.CountKept (g d)) : d.CountKept (d.when c g) :=
  .ite (h d) (.refl d)

/-- A further effect, where a condition asks for it. -/
theorem Dev.CountKept.extendThen {c : Prop} [Decidable c] (h : d.CountKept e) (k : e.CountKept f) : d.CountKept (if c then f else e) :=
  .ite (h.trans k) h

/-- A further effect, where a condition does not forbid it. -/
theorem Dev.CountKept.extend {c : Prop} [Decidable c] (h : d.CountKept e) (k : e.CountKept f) : d.CountKept (if c then e else f) :=
  .ite h (h.trans k)

theorem Dev.Writes.count {P : Nat → Prop} (h : Dev.Writes P d e) (hl : ¬P rTICK_COUNT_LO) (hh : ¬P rTICK_COUNT_HI) : d.CountKept e :=
  ⟨h.rd _ hl, h.rd _ hh⟩

end

theorem Dev.countKept_wrN (d : Dev) {a : Nat} (v : Nat) (h : 0x110 ≤ a) : d.CountKept (d.wrN a v) :=
  ⟨Dev.rd_wrN_ne _ _ (by unfold rTICK_COUNT_LO; omega), Dev.rd_wrN_ne _ _ (by unfold rTICK_COUNT_HI; omega)⟩

theorem Dev.countKept_put (d : Dev) {a : Nat} (g : Fld) (v : Nat) (h : 0x110 ≤ a) : d.CountKept (d.put a g v) := d.countKept_wrN _ h

theorem Dev.countKept_mark (d : Dev) {a : Nat} (g : Fld) (h : 0x110 ≤ a) : d.CountKept (d.mark a g) := d.countKept_put g 1 h

theorem Dev.countKept_bumpBy (d : Dev) {a : Nat} (n : Nat) (h : 0x110 ≤ a) : d.CountKept (d.bumpBy a n) := d.countKept_wrN _ h

theorem Dev.countKept_bump (d : Dev) {a : Nat} (h : 0x110 ≤ a) : d.CountKept (d.bump a) := d.countKept_bumpBy 1 h

theorem Dev.countKept_alert (d : Dev) (code : Nat) (ps : List Byte) : d.CountKept (d.alert code ps) :=
  ⟨Dev.rd_alert _ _ _ (by decide), Dev.rd_alert _ _ _ (by decide)⟩

theorem Dev.countKept_alertOnce (d : Dev) (code key : Nat) (ps : List Byte) : d.CountKept (d.alertOnce code key ps) :=
  ⟨Dev.rd_alertOnce _ _ _ _ (by decide), Dev.rd_alertOnce _ _ _ _ (by decide)⟩

theorem Dev.countKept_emit (d : Dev) (k : OutKind) (p : Nat) (l : List Nat) (b : List Byte) : d.CountKept (d.emit k p l b) :=
  ⟨Dev.rd_emit .., Dev.rd_emit ..⟩

theorem Dev.countKept_showTimeOk (d : Dev) : d.CountKept d.showTimeOk :=
  ⟨d.timeShown_showTimeOk.rd _ (by decide), d.timeShown_showTimeOk.rd _ (by decide)⟩

/-! Requests, Editions and the page of a bundle (R18, R20). -/

theorem Dev.countKept_takeReqs (d : Dev) : d.CountKept d.takeReqs.2 := by
  have hshow : ∀ x : Dev, x.CountKept x.showReq := fun x => (x.rewrites_showReq.writes).count (by decide) (by decide)
  unfold Dev.takeReqs
  dsimp only
  refine .trans (.trans ?_ (.when _ _ fun x => x.countKept_mark _ (by decide))) (hshow _)
  exact ⟨rfl, rfl⟩

theorem Dev.rd_skeep (d : Dev) {a : Nat} (p : Nat → Bool) (h : p a = true) : Dev.rd { d with regs := skeep p d.regs } a = d.rd a :=
  sget_skeep _ _ _ h

theorem Dev.countKept_snapshot (d : Dev) : d.CountKept d.snapshot := by
  have hkeep : ∀ l : List (Nat × BitVec 32), (∀ x ∈ l, 0xA0000 ≤ x.1) → ∀ e : Dev, e.CountKept (l.foldl (fun d x => d.wr (x.1 + 0x10000) x.2) e) :=
    fun l hl e => .foldl (fun x y hy => ⟨Dev.rd_wr_ne _ _ (by have := hl y hy; unfold rTICK_COUNT_LO; omega),
      Dev.rd_wr_ne _ _ (by have := hl y hy; unfold rTICK_COUNT_HI; omega)⟩) e
  unfold Dev.snapshot
  dsimp only
  refine .trans (.trans ?_ (hkeep _ (fun x hx => ?_) _)) (.trans (Dev.countKept_wrN _ _ (by decide)) (Dev.countKept_wrN _ _ (by decide)))
  · exact ⟨d.rd_skeep _ (by decide), d.rd_skeep _ (by decide)⟩
  · have hx := (List.mem_filter.mp hx).2
    simp only [Bool.and_eq_true, decide_eq_true_eq] at hx
    exact hx.1

theorem Dev.countKept_setEd (d : Dev) (i : Nat) (x : Edition) : d.CountKept (d.setEd i x) := ⟨rfl, rfl⟩

theorem Dev.countKept_edChange (d : Dev) : d.CountKept d.edChange := by
  unfold Dev.edChange
  split
  · exact d.countKept_mark _ (by decide)
  · exact .trans (.trans (d.countKept_setEd ..) (Dev.countKept_setEd ..)) (Dev.countKept_alert ..)

theorem Dev.countKept_edRetire (d : Dev) : d.CountKept d.edRetire := by
  unfold Dev.edRetire
  exact .foldl (fun x i _ => .ite (x.countKept_setEd i _) (.refl x)) d

theorem Dev.countKept_pageSwap (d : Dev) : d.CountKept d.pageSwap := by
  have hlane : ∀ (x : Dev) (f : Nat), x.CountKept (x.put (rFAB_LANE_STATUS f) fFAB_LANE_STATUS_TX_STBY_VALID 0) :=
    fun x f => x.countKept_put _ _ (by unfold rFAB_LANE_STATUS; omega)
  refine .foldl (fun x b _ => .ite (.refl x) (.ite (.trans ?_ (.foldl (fun y f _ => hlane y f) _)) (.ite ?_ (.refl x)))) d
  · exact x.countKept_put _ _ (by unfold rFAB_BND_STATUS; omega)
  · exact x.countKept_mark _ (by unfold rFAB_ERR; omega)

theorem Dev.countKept_fabSlip (d : Dev) (b : Nat) : d.CountKept (d.fabSlip b) :=
  .ite (.refl d) ((d.countKept_bump (by unfold rFAB_CNT; omega)).trans
    ((Dev.countKept_mark _ _ (by unfold rFAB_ERR; omega)).trans (Dev.countKept_alertOnce ..)))

theorem Dev.countKept_fabFrames (d : Dev) : d.CountKept d.fabFrames := by
  unfold Dev.fabFrames
  refine .ite (.refl d) (.foldl (fun x b _ => .ite (.refl x) (.trans (.foldl (fun y s _ => ?_) _) (.foldl (fun y f _ => ?_) _))) d)
  · exact .ite (.refl y) (y.countKept_fabSlip s)
  · exact y.countKept_emit ..

/-! The Ladle's and the downstream's budgets. -/

theorem Dev.countKept_setLadA (d : Dev) (h : Nat) (x : LadAlloc) : d.CountKept (d.setLadA h x) := ⟨rfl, rfl⟩
theorem Dev.countKept_updChNode (d : Dev) (c : Nat) (f : DsNode → DsNode) : d.CountKept (d.updChNode c f) := ⟨rfl, rfl⟩
theorem Dev.countKept_updTenNode (d : Dev) (k : Nat) (f : DsNode → DsNode) : d.CountKept (d.updTenNode k f) := ⟨rfl, rfl⟩

theorem Dev.countKept_ladTakes (d : Dev) : d.CountKept d.ladTakes := by
  have htake : ∀ (x : Dev) h a, x.CountKept (x.ladTake h a) := fun x h a => by
    unfold Dev.ladTake
    exact .ite (x.countKept_setLadA ..) (.ite (x.countKept_setLadA ..) (x.countKept_setLadA ..))
  have hcat : ∀ x : CatState, d.CountKept { d with cat := x } := fun _ => ⟨rfl, rfl⟩
  unfold Dev.ladTakes
  exact .trans (hcat _) (.foldl (fun x (e : Nat × AllocRec) _ => htake x e.1 e.2) _)

theorem Dev.countKept_dsRefill (d : Dev) : d.CountKept d.dsRefill := by
  unfold Dev.dsRefill
  exact .trans (.foldl (fun x _ _ => x.countKept_updChNode ..) d)
    (.foldl (fun x _ _ => .ite (.foldl (fun y _ _ => y.countKept_updTenNode ..) x) (.refl x)) _)

theorem Dev.countKept_budgets (d : Dev) : d.CountKept (((d.ladTakes).ladRefill).ladReports).dsRefill := by
  have hrefill : ∀ x : Dev, x.CountKept x.ladRefill.ladReports := fun _ => ⟨rfl, rfl⟩
  exact (d.countKept_ladTakes.trans (hrefill _)).trans (Dev.countKept_dsRefill _)

end Sys2Proof.Machine

/-! The tick counter through the frames, the pulses and the trees of a boundary (01_tick.md R13, R18). -/

namespace Sys2Proof.Machine

/-! Parts of the device beside its registers. -/

theorem Dev.countKept_updLadT (d : Dev) (t : Nat) (g : LadTree → LadTree) : d.CountKept (d.updLadT t g) := ⟨rfl, rfl⟩
theorem Dev.countKept_updActOf (d : Dev) (h : Nat) (g : TermAct → TermAct) : d.CountKept (d.updActOf h g) := ⟨rfl, rfl⟩
theorem Dev.countKept_updActT (d : Dev) (t : Nat) (g : ActTree → ActTree) : d.CountKept (d.updActT t g) := ⟨rfl, rfl⟩
theorem Dev.countKept_updTree (d : Dev) (t : Nat) (g : TreeX → TreeX) : d.CountKept (d.updTree t g) := ⟨rfl, rfl⟩
theorem Dev.countKept_updPair (d : Dev) (t : Nat) (g : PairX → PairX) : d.CountKept (d.updPair t g) := ⟨rfl, rfl⟩
theorem Dev.countKept_setKeyEnt (d : Dev) (k : Nat) (x : KeyEnt) : d.CountKept (d.setKeyEnt k x) := ⟨rfl, rfl⟩
theorem Dev.countKept_setOvrRun (d : Dev) (k : Nat) (x : Nat) : d.CountKept (d.setOvrRun k x) := ⟨rfl, rfl⟩
theorem Dev.countKept_withNotices (d : Dev) (l : List Notice) : d.CountKept { d with notices := l } := ⟨rfl, rfl⟩
theorem Dev.countKept_setPulse (d : Dev) (k : Nat) (x : PulseX) : d.CountKept (d.setPulse k x) := ⟨rfl, rfl⟩
theorem Dev.countKept_setHistOf (d : Dev) (k : Nat) (x : List Nat) : d.CountKept (d.setHistOf k x) := ⟨rfl, rfl⟩
theorem Dev.countKept_withCiph (d : Dev) (x : CipherState) : d.CountKept { d with ciph := x } := ⟨rfl, rfl⟩
theorem Dev.countKept_setTokensOf (d : Dev) (k : Nat) (x : Option Nat) : d.CountKept (d.setTokensOf k x) := ⟨rfl, rfl⟩
theorem Dev.countKept_setBankX (d : Dev) (k : Nat) (x : BankX) : d.CountKept (d.setBankX k x) := ⟨rfl, rfl⟩
theorem Dev.countKept_withPan (d : Dev) (x : PanState) : d.CountKept { d with pan := x } := ⟨rfl, rfl⟩
theorem Dev.countKept_withDs (d : Dev) (x : DsState) : d.CountKept { d with ds := x } := ⟨rfl, rfl⟩
theorem Dev.countKept_setTreeV (d : Dev) (k : Nat) (x : Nat) : d.CountKept (d.setTreeV k x) := ⟨rfl, rfl⟩
theorem Dev.countKept_setChNode (d : Dev) (k : Nat) (x : DsNode) : d.CountKept (d.setChNode k x) := ⟨rfl, rfl⟩
theorem Dev.countKept_updFabBnd (d : Dev) (b : Nat) (g : FabBnd → FabBnd) : d.CountKept (d.updFabBnd b g) := ⟨rfl, rfl⟩

/-! A frame (R18; 03_tree_line.md R60; 10_cipher.md R299). -/

theorem Dev.countKept_keyFrame (d : Dev) (h sfc : Nat) : d.CountKept (d.keyFrame h sfc) := by
  have hslot : ∀ (x : Dev) n, x.CountKept (x.noteSlot h n) := fun x n => by
    unfold Dev.noteSlot
    exact .ite (x.countKept_updPair ..) (.refl x)
  have htake : ∀ (x : Dev) i e n, x.CountKept ((x.setKeyEnt i e).noteSlot h n) := fun x i e n => (x.countKept_setKeyEnt ..).trans (hslot ..)
  unfold Dev.keyFrame
  dsimp only
  split
  · exact (htake ..).trans (.when _ _ fun x => x.countKept_bump (by decide))
  · refine .ite ?_ (.refl d)
    split
    · exact htake ..
    · exact .refl d

theorem Dev.countKept_framePloams (d : Dev) (t : Nat) : d.CountKept (d.framePloams t).2 := by
  unfold Dev.framePloams
  dsimp only
  exact (d.countKept_updActT ..).trans (Dev.countKept_updTree ..)

theorem Dev.countKept_rtCarried (d : Dev) (t : Nat) (m : Ploam) : d.CountKept (d.rtCarried t m) := by
  unfold Dev.rtCarried
  refine .ite ?_ (.refl d)
  split
  · exact d.countKept_updActOf ..
  · exact .refl d

theorem Dev.countKept_stopsDone (d : Dev) (t : Nat) : d.CountKept (d.stopsDone t) := by
  unfold Dev.stopsDone
  refine (d.countKept_updActT ..).trans (.foldl (fun x s _ => ?_) _)
  split
  · exact (x.coreKept_finish ..).count
  · exact .refl x

theorem Dev.countKept_lineStatus (d : Dev) (t : Nat) (g : Fld) (v : Nat) : d.CountKept (d.put (rTREE_LINE_STATUS t) g v) :=
  d.countKept_put _ _ (by unfold rTREE_LINE_STATUS; omega)

theorem Dev.countKept_precodeNow (d : Dev) (t : Nat) : d.CountKept (d.precodeNow t) :=
  (d.countKept_lineStatus ..).trans (Dev.countKept_lineStatus ..)

theorem Dev.countKept_precodeStep (d : Dev) (t : Nat) : d.CountKept (d.precodeStep t) :=
  .ite (.refl d) (.ite (d.countKept_lineStatus ..) (.ite (d.countKept_precodeNow t) (d.countKept_lineStatus ..)))

theorem Dev.countKept_sendMap (d : Dev) (t : Nat) (m : MapRec) : d.CountKept (d.sendMap t m) := by
  have hovr : ∀ (x : Dev) g v, x.CountKept (x.put (rTICK_OVR t) g v) := fun x g v => x.countKept_put _ _ (by unfold rTICK_OVR; omega)
  unfold Dev.sendMap
  dsimp only
  refine .ite (.trans (.trans (.trans (.trans (.trans (.trans ?sent (hovr ..)) (.when _ _ fun x => hovr ..)) (hovr ..))
    (Dev.countKept_setOvrRun ..)) (.when _ _ fun x => x.countKept_alert ..)) (.when _ _ fun x => x.countKept_alert ..))
    (.trans ?sent (Dev.countKept_setOvrRun ..))
  exact (((d.countKept_bumpBy _ (by decide)).trans (Dev.countKept_put _ _ _ (by unfold rLADLE_MAP_STAT0; omega))).trans
    (Dev.countKept_put _ _ _ (by unfold rLADLE_MAP_STAT4; omega))).trans (Dev.countKept_updLadT ..)

theorem Dev.countKept_sendFrame (d : Dev) (t : Nat) (m : MapRec) : d.CountKept (d.sendFrame t m) := by
  unfold Dev.sendFrame
  refine .trans (.trans (.trans (.trans (.trans (.trans ((d.countKept_precodeStep t).trans (Dev.countKept_updTree ..))
    (.foldl (fun x h _ => x.countKept_keyFrame ..) _)) (Dev.countKept_framePloams ..)) (.ite (.refl _) (Dev.countKept_emit ..)))
    (.foldl (fun x p _ => ?_) _)) (Dev.countKept_stopsDone ..)) (Dev.countKept_sendMap ..)
  exact .trans (.ite (.refl x) (x.countKept_emit ..)) (Dev.countKept_rtCarried ..)

theorem Dev.countKept_actStatus (d : Dev) (t : Nat) (g : Fld) (v : Nat) : d.CountKept (d.put (rACT_STATUS t) g v) :=
  (d.coreKept_actStatus ..).count

theorem Dev.countKept_beginMap (d : Dev) (t : Nat) : d.CountKept (d.beginMap t) := by
  have hmissed : ∀ (x : Dev) ns, x.CountKept (x.noticesMissed t ns) := fun x ns => by
    unfold Dev.noticesMissed
    split
    · exact .refl x
    · exact ((x.countKept_bumpBy _ (by decide)).trans (Dev.countKept_mark _ _ (by decide))).trans (Dev.countKept_alertOnce ..)
  have hasks : ∀ (x : Dev) tick m, x.CountKept (x.windowAsks t tick m) := fun x tick m =>
    (x.countKept_updActT ..).trans (Dev.countKept_actStatus ..)
  have hpending : ∀ (x : Dev) v, x.CountKept (x.put rLADLE_STATUS fLADLE_STATUS_PENDING v) := fun x v => x.countKept_put _ _ (by decide)
  have hbase : ∀ tick m l v ns, d.CountKept ((Dev.put { d.windowAsks t tick m with notices := l } rLADLE_STATUS fLADLE_STATUS_PENDING v).noticesMissed t ns) :=
    fun tick m l v ns => (((hasks d tick m).trans (Dev.countKept_withNotices _ l)).trans (hpending _ v)).trans (hmissed _ ns)
  unfold Dev.beginMap
  dsimp only
  refine .trans ?_ (Dev.countKept_updLadT ..)
  split
  · exact hbase ..
  · exact (hbase ..).trans ((Dev.countKept_mark _ _ (by decide)).trans (Dev.countKept_alertOnce ..))

theorem Dev.countKept_treeFrame (d : Dev) (t : Nat) : d.CountKept (d.treeFrame t) := by
  unfold Dev.treeFrame
  refine .ite ((d.countKept_sendFrame ..).trans (Dev.countKept_updLadT ..)) ?_
  split
  · exact (d.countKept_sendFrame ..).trans (Dev.countKept_beginMap ..)
  · exact (d.countKept_sendFrame ..).trans (Dev.countKept_beginMap ..)

/-! Pulses, the radio grid and TIME_OK (18_almanac.md R531, R537-R540). -/

theorem Dev.countKept_pulseTick (d : Dev) (k a b : Nat) : d.CountKept (d.pulseTick k a b) := by
  have hlate : ∀ x : Dev, x.CountKept (x.pulseLate k) := fun x =>
    ((x.countKept_mark _ (by decide)).trans (Dev.countKept_bump _ (by decide))).trans (Dev.countKept_alert ..)
  unfold Dev.pulseTick
  dsimp only
  refine .trans (.trans (.trans (.trans (.when d _ hlate) (.ite (.refl _) (.foldl (fun x e _ => x.countKept_emit ..) _)))
    (Dev.countKept_setPulse ..)) (.when _ _ fun x => ?_)) (Dev.countKept_put _ _ _ (by decide))
  exact x.countKept_wrN _ (by unfold rALM_PULSE_COUNT; omega)

theorem Dev.countKept_holdSecs (d : Dev) : d.CountKept d.holdSecs :=
  .ite ((d.countKept_put _ _ (by decide)).trans (Dev.countKept_showTimeOk _)) (.refl d)

theorem Dev.countKept_clocks (d : Dev) : d.CountKept ((d.pulses).radioTick).holdSecs := by
  have hradio : ∀ x : Dev, x.CountKept x.radioTick := fun x => (x.countKept_put _ _ (by decide)).trans (Dev.countKept_put _ _ _ (by decide))
  exact ((Dev.CountKept.foldl (fun x k _ => x.countKept_pulseTick ..) d).trans (hradio _)).trans (Dev.countKept_holdSecs _)

/-! Histograms, spares, tokens and banks. -/

theorem Dev.countKept_histCopy (d : Dev) : d.CountKept d.histCopy := by
  have hcmd : ∀ (x : Dev) h g v, x.CountKept (x.put (rDSQ_HIST_CMD h) g v) := fun x h g v => x.countKept_put _ _ (by unfold rDSQ_HIST_CMD; omega)
  unfold Dev.histCopy
  refine .foldl (fun x h _ => .ite ?_ (.refl x)) d
  refine .trans (.trans (.trans (.trans (.foldl (fun y i _ => ?_) x) (.extendThen (.refl _) (Dev.countKept_setHistOf ..))) (hcmd ..))
    (hcmd ..)) (hcmd ..)
  exact y.countKept_wrN _ (by unfold rDSQ_HIST_BIN; omega)

theorem Dev.countKept_histReplies (d : Dev) : d.CountKept d.histReplies :=
  .foldl (fun x _ _ => (x.coreKept_finish ..).count) d

theorem Dev.countKept_dramDown (d : Dev) (c cause : Nat) : d.CountKept (d.dramDown c cause) := by
  have hch : ∀ (x : Dev) g v, x.CountKept (x.put (rDRAM_CH_STATUS c) g v) := fun x g v => x.countKept_put _ _ (by unfold rDRAM_CH_STATUS; omega)
  unfold Dev.dramDown
  exact .ite (.refl d) (.trans (.trans (.trans (.trans (hch ..) (hch ..)) (Dev.countKept_put _ _ _ (by decide)))
    (Dev.countKept_mark _ _ (by decide))) (Dev.countKept_alert ..))

theorem Dev.countKept_spareBoundary (d : Dev) : d.CountKept d.spareBoundary := by
  have hcheck : ∀ x : Dev, x.CountKept x.dramEngineCheck := .foldl fun x c _ => .ite (x.countKept_dramDown ..) (.refl x)
  have hshow : ∀ x : Dev, x.CountKept x.showEngines := fun x => (x.countKept_put _ _ (by decide)).trans (Dev.countKept_put _ _ _ (by decide))
  unfold Dev.spareBoundary
  refine .trans (.trans (.trans (d.countKept_withCiph _) (.foldl (fun x e _ => .ite (.refl x) ?_) _)) (hcheck _)) (hshow _)
  split
  · exact x.countKept_withCiph _
  · exact .refl x

theorem Dev.countKept_excRefill (d : Dev) : d.CountKept d.excRefill := by
  unfold Dev.excRefill
  exact .foldl (fun x e _ => x.countKept_setTokensOf ..) d

theorem Dev.countKept_showPan (d : Dev) : d.CountKept d.showPan :=
  d.writes_showPan.count (by unfold panShown rTICK_COUNT_LO rPAN_TOTAL rPAN_SHARED_SIZE rPAN_POOL_FREE rPAN_POOL_TOTAL; omega)
    (by unfold panShown rTICK_COUNT_HI rPAN_TOTAL rPAN_SHARED_SIZE rPAN_POOL_FREE rPAN_POOL_TOTAL; omega)

theorem Dev.countKept_stkBoundary (d : Dev) : d.CountKept d.stkBoundary := by
  have hend : ∀ (x : Dev) j r, x.CountKept (x.bankEnd j r) := fun x j r => by
    unfold Dev.bankEnd
    have hshown : x.CountKept ((Dev.put (Dev.put { x with pan := { x.pan with job := none } } rSTK_CMD fSTK_CMD_BUSY 0) rSTK_CMD fSTK_CMD_RESULT r).showPan) := by
      have hcmd : ∀ (y : Dev) g v, y.CountKept (y.put rSTK_CMD g v) := fun y g v => y.countKept_put _ _ (by decide)
      exact (((x.countKept_withPan _).trans (hcmd ..)).trans (hcmd ..)).trans (Dev.countKept_showPan _)
    dsimp only
    split
    · exact hshown
    · exact .ite (hshown.trans (Dev.coreKept_finish ..).count) (hshown.trans (Dev.coreKept_finish ..).count)
  have hbank : ∀ (x : Dev) b g v, x.CountKept (x.put (rSTK_BANK b) g v) := fun x b g v => x.countKept_put _ _ (by unfold rSTK_BANK; omega)
  unfold Dev.stkBoundary Dev.jobIn
  split
  · refine .ite ?_ (.refl d)
    dsimp only
    split
    · exact .refl d
    · refine .ite (.refl d) (.trans (.trans (hbank ..) (.when _ _ fun x => ?_)) (hend ..))
      exact (x.countKept_setBankX ..).trans (hbank ..)
  · exact .refl d

/-! Trees that start, stop or go on (03_tree_line.md R58-R66), protection and the fabric's signal. -/

theorem Dev.countKept_treeStart (d : Dev) (t : Nat) : d.CountKept (d.treeStart t) := by
  have hfill : ∀ (x : Dev) c, x.CountKept (x.fillChan c) := fun x c => by
    unfold Dev.fillChan
    exact x.countKept_updChNode ..
  have hten : ∀ (x : Dev) n, x.CountKept (x.fillTen t n) := fun x n => by
    unfold Dev.fillTen
    exact x.countKept_updTenNode ..
  have hds : ∀ x : Dev, x.CountKept (x.dsEnable t) := fun x => by
    unfold Dev.dsEnable
    dsimp only
    exact .trans (.trans (.trans ((x.countKept_setTreeV ..).trans (Dev.countKept_withDs ..)) (.foldl (fun y n _ => hten y n) _))
      (.foldl (fun y c _ => (y.countKept_setChNode ..).trans (hfill ..)) _)) (Dev.coreKept_gateEnd ..).count
  have hlad : ∀ x : Dev, x.CountKept (x.ladEnable t) := fun x => by
    unfold Dev.ladEnable
    refine .trans (.trans (.trans (.foldl (fun y e _ => y.countKept_setLadA ..) x) (Dev.countKept_updLadT ..)) (Dev.coreKept_dropNotices ..).count)
      (.foldl (fun y j _ => ?_) _)
    exact (y.countKept_wrN _ (by unfold rLADLE_NSRC_LAST_SEQ; omega)).trans (Dev.countKept_put _ _ _ (by unfold rLADLE_NSRC_W8; omega))
  exact ((hds d).trans (hlad _)).trans (Dev.countKept_updActT ..)

theorem Dev.countKept_treeConfigDone (d : Dev) (t : Nat) : d.CountKept (d.treeConfigDone t) :=
  .foldl (fun x _ _ => .ite (x.coreKept_finish ..).count (.refl x)) d

theorem Dev.countKept_treeUpdate (d : Dev) (t : Nat) : d.CountKept (d.treeUpdate t) := by
  have hquiet : ∀ x : Dev, x.CountKept (x.lineQuiet t) := fun x =>
    (x.writes_lineQuiet t).count (by unfold rTICK_COUNT_LO rTREE_LINE_STATUS; omega) (by unfold rTICK_COUNT_HI rTREE_LINE_STATUS; omega)
  have hstart : ∀ f, d.CountKept (((d.treeStart t).updTree t f).precodeNow t) := fun f =>
    ((d.countKept_treeStart t).trans (Dev.countKept_updTree ..)).trans (Dev.countKept_precodeNow ..)
  have hlaser : ∀ (x : Dev) v l, x.CountKept ((x.put (rTREE_LINE_STATUS t) fTREE_LINE_STATUS_LASER_ON v).emit .txdis t l) := fun x v l =>
    (x.countKept_lineStatus ..).trans (Dev.countKept_emit ..)
  unfold Dev.treeUpdate
  dsimp only
  refine .ite (.refl d) (.extendThen (.extend (.extend (.ite (hstart _) (.ite (d.coreKept_treeDown t).count (.refl d))) (hquiet _)) (hlaser ..))
    (Dev.countKept_treeConfigDone ..))

theorem Dev.countKept_treeFrameEnd (d : Dev) (t : Nat) : d.CountKept (d.treeFrameEnd t) := by
  have henable : ∀ x : Dev, x.CountKept (x.treeEnable t) := fun x => by
    unfold Dev.treeEnable
    refine .ite (.refl x) (.trans (.trans (.trans ((x.countKept_lineStatus ..).trans (Dev.countKept_updTree ..)) (.when _ _ fun y => ?_))
      (Dev.countKept_treeStart ..)) (Dev.countKept_treeUpdate ..))
    exact (y.countKept_mark _ (by unfold rACT_ERR; omega)).trans (Dev.countKept_alert ..)
  exact .ite ((d.countKept_lineStatus ..).trans (henable _)) (d.countKept_treeUpdate t)

theorem Dev.countKept_protBoundary (d : Dev) : d.CountKept d.protBoundary := by
  have hrole : ∀ (x : Dev) t r, x.CountKept (x.takeRole t r) := fun x t r =>
    .ite (.refl x) ((x.countKept_put _ _ (by unfold rPROT_PAIR_STATE; omega)).trans (Dev.countKept_treeUpdate ..))
  have htook : ∀ (x : Dev) t, x.CountKept (x.tookOver t) := fun x t =>
    (((x.countKept_updPair ..).trans (Dev.countKept_bump _ (by decide))).trans (Dev.countKept_mark _ _ (by decide))).trans (Dev.countKept_alert ..)
  unfold Dev.protBoundary
  exact .foldl (fun x e _ => .ite (((x.countKept_updPair ..).trans (hrole ..)).trans (htook ..)) (.refl x)) d

theorem Dev.countKept_losClear (d : Dev) (b : Nat) : d.CountKept (d.losClear b) := by
  unfold Dev.losClear
  refine .ite (d.countKept_updFabBnd ..) ?_
  split
  · exact d.countKept_updFabBnd ..
  · exact .ite (.ite (d.countKept_put _ _ (by unfold rFAB_DEFECT; omega)) (.refl d)) (.refl d)

theorem Dev.countKept_refRevert (d : Dev) : d.CountKept d.refRevert := by
  have hswitch : ∀ (x : Dev) r, x.CountKept (x.refSwitch r) := fun x r =>
    .ite (.refl x) (((x.countKept_put _ _ (by decide)).trans (Dev.countKept_mark _ _ (by decide))).trans (Dev.countKept_alert ..))
  exact .ite (hswitch ..) (.refl d)

/-! The boundary itself. -/

/-- The device in which a tick of another number has begun. -/
def Dev.tickCounted (d : Dev) (tick : Nat) : Dev := d.wr64 rTICK_COUNT_LO rTICK_COUNT_HI (tick % 2 ^ 64)

/-- The device before the counter of the new tick is set: every framer has a map. -/
def Dev.tickLeft (d : Dev) (left : Nat) : Dev :=
  let d := d.evc 0x0001 (coreCycles (left - d.tick.origin)) {}
  d.framers.foldl (fun d t => d.takeMap t) d

/-- The new tick as its status shows it. -/
def Dev.tickOpened (d : Dev) (tick origin : Nat) : Dev :=
  let d := (d.put rTICK_STATUS fTICK_STATUS_TICK_IN_SEC (tick % 8000)).put rTICK_STATUS fTICK_STATUS_CUTOFF 0
  { d with once := [], tick := { d.tick with now := origin, origin := origin } }

/-- The requests that act at the boundary, the fabric's frames and protection. -/
def Dev.tickRequested (d : Dev) : Dev :=
  let r := d.takeReqs
  let d := r.2
  let d := d.when (nbit r.1 0) Dev.snapshot
  let d := d.when (nbit r.1 1) Dev.edChange
  let d := d.edRetire
  ((d.when (nbit r.1 2) Dev.pageSwap).fabFrames).protBoundary

/-- The trees' frames of the new tick. -/
def Dev.tickFramed (d : Dev) : Dev :=
  let d := (((d.ladTakes).ladRefill).ladReports).dsRefill
  d.framers.foldl (fun d t => d.treeFrame t) d

/-- What else is due at the boundary. -/
def Dev.tickSettled (d : Dev) : Dev :=
  let d := ((d.pulses).radioTick).holdSecs
  let d := ((d.histCopy).histReplies).spareBoundary
  let d := (d.excRefill).stkBoundary
  let d := (List.range 48).foldl (fun d t => (d.treeFrameEnd t).showQw t d.tickNow) d
  let d := ((List.range 48).filter (fun b => d.bndEn b)).foldl (fun d b => d.losClear b) d
  d.refRevert

theorem Dev.tickBegin_eq (d : Dev) (tick origin left : Nat) : d.tickBegin tick origin left =
    ((((d.tickLeft left).tickCounted tick).tickOpened tick origin).tickRequested.tickFramed).tickSettled := rfl

theorem Dev.tickCounted_tickNow (d : Dev) (tick : Nat) : (d.tickCounted tick).tickNow = tick % 2 ^ 64 :=
  (Dev.rd64_wr64 d _ (by decide)).trans (Nat.mod_mod ..)

theorem Dev.countKept_tickOpened (d : Dev) (tick origin : Nat) : d.CountKept (d.tickOpened tick origin) := by
  have hstatus : ∀ (x : Dev) g v, x.CountKept (x.put rTICK_STATUS g v) := fun x g v =>
    (x.writes_put (P := (· = rTICK_STATUS)) g v rfl).count (by decide) (by decide)
  have hnew : ∀ (x : Dev) l k, x.CountKept { x with once := l, tick := k } := fun _ _ _ => ⟨rfl, rfl⟩
  exact ((hstatus d ..).trans (hstatus ..)).trans (hnew ..)

theorem Dev.countKept_tickRequested (d : Dev) : d.CountKept d.tickRequested :=
  .trans (.trans (.trans (.trans (.trans (.trans d.countKept_takeReqs (.when _ _ Dev.countKept_snapshot)) (.when _ _ Dev.countKept_edChange))
    (Dev.countKept_edRetire _)) (.when _ _ Dev.countKept_pageSwap)) (Dev.countKept_fabFrames _)) (Dev.countKept_protBoundary _)

theorem Dev.countKept_tickFramed (d : Dev) : d.CountKept d.tickFramed :=
  d.countKept_budgets.trans (.foldl (fun x t _ => x.countKept_treeFrame t) _)

theorem Dev.countKept_tickSettled (d : Dev) : d.CountKept d.tickSettled := by
  refine .trans (.trans (.trans (.trans (.trans (.trans (.trans (.trans d.countKept_clocks (Dev.countKept_histCopy _)) (Dev.countKept_histReplies _))
    (Dev.countKept_spareBoundary _)) (Dev.countKept_excRefill _)) (Dev.countKept_stkBoundary _)) (.foldl (fun x t _ => ?_) _))
    (.foldl (fun x b _ => x.countKept_losClear b) _)) (Dev.countKept_refRevert _)
  exact (x.countKept_treeFrameEnd t).trans (Dev.countKept_actStatus ..)

/-- The boundary leaves the counter at the number of the tick that begins. -/
theorem Dev.tickBegin_tickNow (d : Dev) (tick origin left : Nat) : (d.tickBegin tick origin left).tickNow = tick % 2 ^ 64 := by
  rw [Dev.tickBegin_eq, (Dev.countKept_tickSettled _).tickNow, (Dev.countKept_tickFramed _).tickNow, (Dev.countKept_tickRequested _).tickNow,
    (Dev.countKept_tickOpened _ _ _).tickNow, Dev.tickCounted_tickNow]

end Sys2Proof.Machine

/-! A phase step by command, and the obligation on the time of day and the Almanac's commands (01_tick.md R13; 18_almanac.md R534-R544). -/

namespace Sys2Proof.Machine

theorem Dev.phaseStep_tickNow (d : Dev) {time : Nat} (h : time / tickNs < 2 ^ 64) : (d.phaseStep time).tickNow = time / tickNs := by
  have halm : ∀ (x : Dev) a, x.CountKept { x with alm := a } := fun _ _ => ⟨rfl, rfl⟩
  have hstep : (d.stepTo d.tick.now time).tickNow = time / tickNs := by
    rw [Dev.stepTo, (Dev.countKept_alert _ _ _).tickNow, Dev.tickBegin_tickNow, Nat.mod_eq_of_lt h]
  exact (halm _ _).tickNow.trans hstep

theorem timeSet_steps {s : State} {m : Fin 64} {c : Cmd} (hown : c.isOwner = true) (h : s.Ready m 0x0704 c) (h6 : c.zero 6 2 = true)
    (h8 : c.u32 8 < 1000000000) (hends : c.endsAt 0xC = true) (hfree : s.dev.stepFree = true) :
    ∃ t, exec (.timeSet m) s = .next t ∧ t.Done m 0 [] ∧
      t.dev.tickNow = ((c.u32 0 + 2 ^ 32 * c.u16 4) * 1000000000 + c.u32 8) / 125000 := by
  have hfree' : s.start.stepFree = true := hfree
  have hlo := c.u32_lt 0
  have hhi : c.u16 4 < 2 ^ 16 := leAt_lt c.req 4 2
  have hbound : ((c.u32 0 + 2 ^ 32 * c.u16 4) * nsPerSec + c.u32 8) / tickNs < 2 ^ 64 := by
    unfold nsPerSec tickNs
    omega
  refine State.run_ends h (e := s.start.phaseStep ((c.u32 0 + 2 ^ 32 * c.u16 4) * nsPerSec + c.u32 8))
    ((Cmd.checks_pass c _ ?checks _).trans ?runs) (by decide) (by decide) ?_
  case checks => simp [Cmd.mustOwn, inForm, hown, h6, h8, hends, nsPerSec]
  case runs =>
    simp only [hfree', if_true]
    rfl
  have hcount := (Dev.coreKept_finish (s.start.phaseStep ((c.u32 0 + 2 ^ 32 * c.u16 4) * nsPerSec + c.u32 8)) m.val 0 []).count
  rw [Dev.tickNow, Dev.rd64, State.after_rdN, State.after_rdN, ← Dev.rd64, ← Dev.tickNow, hcount.tickNow, Dev.phaseStep_tickNow _ hbound]
  rfl

/-- Settles O41: the time of day and the frequency messages go out and are acknowledged, and the commands answer, store or step. -/
theorem timeIsToldAndSet : Obligations.TimeIsToldAndSet := by
  unfold Obligations.TimeIsToldAndSet
  refine ⟨fun s hs => ⟨timeOfDay_off hs, timeOfDay_queues hs⟩,
    fun s p seq applied freq hs => ⟨freqAck_down hs, fun ht => ⟨freqAck_newest hs ht, freqAck_older hs ht⟩⟩,
    fun s hs => ⟨freqNoack_idle hs, freqNoack_again hs⟩, fun s m c h h0 hends => timeStatus_answers h h0 hends, ?_, ?_, ?_, ?_, ?_⟩
  · intro s m c h hown h0 hkind h1 h2 h3 hends
    exact timeSource_stores hown h h0 hkind h1 h2 h3 hends
  · intro s m c h hown h6 h8 hends
    exact ⟨timeSet_refused hown h h6 h8 hends, timeSet_steps hown h h6 h8 hends⟩
  · intro s m c h hown h0 h1 hends hval
    exact timePulse_stores hown h h0 h1 hends hval
  · intro s m c h hown hok h1 hn hends
    exact timeTod_answers hown h hok h1 hn hends
  · intro s m c h h1 h4 h8 hends
    exact ⟨timeRadio_answers h h1 h4 h8 hends, fun h0 hown => timeRadio_stores hown h h1 h4 h8 hends h0⟩

end Sys2Proof.Machine

/-! A switchover and a buffer whose entitlement is out of range: the counterexample to the obligation on streams and pairs
(09_downstream.md R261; 13_stacks_pantry.md R392; 17_protection.md R512, R522). -/

namespace Sys2Proof.Machine

/-- A buffer charged to the reserve of an entitlement that does not exist: its register would stand at PROT_PAIR_STATE of tree 0. -/
def strayBuf : Buf := { pool := 0, bank := 0, idx := 0, size := 0x56000000, charge := 0, ent := 0x7FD0, ten := 0 }

/-- A packet that waits in that buffer. -/
def strayHeld : Held := { pkt := ⟨[], 0, 0, none, 0, false, none, 0, []⟩, buf := some strayBuf, ent := 0, ten := 0, tick := 0, ns := 0 }

/-- PROT_SWITCH of tree 0, taken by mailbox 0. -/
def switchCmd : Cmd := ⟨0, 0x0904, [0#8, 0#8], none, false, []⟩

/-- A running device whose tree 0 is live without its line being enabled, the ACTIVE side of a PAIRED pair of KIND 1 with a fit standby;
the packet waits on its channel 0. -/
def switchDev : Dev :=
  { clk := { sup := .run }
    trees := [(0, { live := true })]
    glk := { cmds := [switchCmd] }
    pan := { banks := [(0, { fresh := 1 })] }
    chanQ := [(0, [strayHeld])]
    regs := [(rGLK_ALERT_MASK, 0xFFFFFFFF#32), (rPROT_PAIR_CFG 0, 0xC0000000#32), (rPROT_PAIR_STATE 0, 0x6E000000#32)] }

def switchState : State := { pending := [], mem := [], flash := [], dev := switchDev }

theorem switchState_ready : switchState.Ready 0 0x0904 switchCmd := ⟨⟨rfl, rfl, rfl⟩, rfl, rfl, by decide, rfl⟩

theorem switchState_pair : switchState.dev.pairEn 0 = true ∧ switchState.dev.pairKind 0 = 1 ∧ switchState.dev.pairState 0 = prPaired ∧
    switchState.dev.role 0 = roActive ∧ switchState.dev.bit (rPROT_PAIR_STATE 0) fPROT_PAIR_STATE_STBY_OK = true := by
  refine ⟨?_, ?_, ?_, ?_, ?_⟩ <;> rfl

/-- Giving up the role takes the live tree down; the packet's buffer is credited to PROT_PAIR_STATE, whose ROLE reads ACTIVE again. -/
theorem switchState_yield : ((switchState.start.yield_ 0).sendReport 0 (switchState.start.tickNow - 1)).role 0 = roActive := by decide +kernel

theorem exec_protSwitch_ready : exec (.protSwitch 0) switchState = .next (switchState.after
    (((switchState.start.yield_ 0).sendReport 0 (switchState.start.tickNow - 1)).finish 0 0 (leB 8 1))) := by
  refine State.run_answers switchState_ready ((Cmd.checks_pass switchCmd _ ?checks _).trans ?runs)
  case checks => decide +kernel
  case runs => rfl

/-- Refutes O39: where a packet waits in a buffer charged to an entitlement that does not exist, freeing it as the active side gives up
its role credits PROT_PAIR_STATE, and PROT_SWITCH leaves the side ACTIVE. -/
theorem not_streamsAndPairsAnswer : ¬ Obligations.StreamsAndPairsAnswer := by
  unfold Obligations.StreamsAndPairsAnswer
  rintro ⟨-, -, -, -, -, hswitch⟩
  obtain ⟨hen, hkind, hpaired, hactive, hfit⟩ := switchState_pair
  obtain ⟨u, hrun, hrole, -⟩ := hswitch switchState 0 switchCmd switchState_ready rfl rfl rfl rfl hen hkind hpaired hactive hfit (by decide)
  rw [exec_protSwitch_ready, Host.Outcome.next.injEq] at hrun
  rw [← hrun, Dev.role, State.after_get, Dev.get_congr (Dev.rd_finish_above _ (by decide) _ _ (by decide)), ← Dev.role] at hrole
  exact hrole switchState_yield

end Sys2Proof.Machine

/-! A health report and a buffer whose entitlement is out of range: the counterexample to the obligation on pairs
(13_stacks_pantry.md R392; 17_protection.md R493, R494). -/

namespace Sys2Proof.Machine

/-- The report of a mate that agrees with the side below: version 1, no role, tree 0. -/
def meetBody : List Byte := [1#8, 0#8, 0#8, 0#8]

/-- A running device whose tree 0 is live without its line being enabled, one side of a SEEKING pair of KIND 0; a packet waits on its
channel 0 in a buffer charged to the entitlement whose register would stand at PROT_PAIR_STATE. -/
def meetDev : Dev :=
  { clk := { sup := .run }
    trees := [(0, { live := true })]
    pan := { banks := [(0, { fresh := 1 })] }
    chanQ := [(0, [{ strayHeld with buf := some { strayBuf with size := 0x04000000 } }])]
    regs := [(rGLK_ALERT_MASK, 0xFFFFFFFF#32), (rPROT_PAIR_CFG 0, 0x80000000#32), (rPROT_PAIR_STATE 0, 0x20000000#32)] }

def meetState : State := { pending := [], mem := [], flash := [], dev := meetDev }

theorem meetState_runs : meetState.Runs := ⟨rfl, rfl, rfl⟩

theorem meetState_agrees : meetState.dev.treeOk 0 = true ∧ meetState.dev.pairEn 0 = true ∧ byteAt meetBody 0 = 1 ∧
    byteAt meetBody 3 = meetState.dev.mateTree 0 ∧ nbit (byteAt meetBody 2) 0 = false ∧ meetState.dev.reportAgrees 0 meetBody = true ∧
    meetState.dev.reportEdition meetBody = true ∧ meetState.dev.pairState 0 = prSeeking := by decide +kernel

theorem meetState_settles : meetState.dev.settledRole 0 (byteAt meetBody 1) (nbit (byteAt meetBody 2) 6) = roMate := by decide +kernel

/-- The side takes MATE, its live tree goes down, and the packet's buffer is credited to PROT_PAIR_STATE, whose ROLE then reads HOME. -/
theorem meetState_role : (meetState.start.healthReport 0 0 meetBody).role 0 = roHome := by decide +kernel

theorem exec_healthReport_meets : exec (.healthReport 0 0 meetBody) meetState = .next (meetState.after (meetState.start.healthReport 0 0 meetBody)) :=
  State.run_after rfl (f := fun d => d.toPair 0 (fun d => d.healthReport 0 0 meetBody)) (if_pos (by decide +kernel))

/-- Refutes O38: where a packet waits in a buffer charged to an entitlement that does not exist, freeing it as the side takes the role
of MATE credits PROT_PAIR_STATE, and the report leaves the side HOME. -/
theorem not_pairsMeetAndExchange : ¬ Obligations.PairsMeetAndExchange := by
  unfold Obligations.PairsMeetAndExchange
  rintro ⟨-, hreport, -⟩
  obtain ⟨hok, hen, hversion, htree, hstays, hagrees, hedition, hseeks⟩ := meetState_agrees
  obtain ⟨-, hmeets⟩ := hreport meetState 0 0 meetBody meetState_runs
  obtain ⟨u, hrun, -, hrole⟩ := (hmeets hok hen hversion htree hstays).1 hagrees hedition hseeks
  rw [exec_healthReport_meets, Host.Outcome.next.injEq] at hrun
  rw [← hrun, Dev.role, State.after_get, ← Dev.role] at hrole
  exact absurd (meetState_role.symm.trans (hrole.trans meetState_settles)) (by decide)

end Sys2Proof.Machine

/-! What the admission of a packet to the Pantry leaves alone (13_stacks_pantry.md R388-R395). -/

namespace Sys2Proof.Machine

/-- From one state of the device to another nothing changes but registers, the link's work, the Pantry and the Stockpot. -/
structure Dev.BufWork (d e : Dev) : Prop where
  rest : e = { d with regs := e.regs, out := e.out, glk := e.glk, once := e.once, pan := e.pan, dram := e.dram }

section
variable {d e f : Dev}

theorem Dev.BufWork.refl (d : Dev) : d.BufWork d := ⟨rfl⟩

theorem Dev.BufWork.trans (h : d.BufWork e) (k : e.BufWork f) : d.BufWork f := by
  have hrest := k.rest
  rw [h.rest] at hrest
  exact ⟨hrest⟩

theorem Dev.BufWork.ite {c : Prop} [Decidable c] (h : d.BufWork e) (k : d.BufWork f) : d.BufWork (if c then e else f) := by
  split
  · exact h
  · exact k

theorem Dev.BufWork.when (d : Dev) (c : Bool) {g : Dev → Dev} (h : ∀ d : Dev, d.BufWork (g d)) : d.BufWork (d.when c g) := .ite (h d) (.refl d)

theorem Dev.BufWork.uplQ (h : d.BufWork e) : e.uplQ = d.uplQ := (congrArg Dev.uplQ h.rest).trans rfl

theorem Dev.Writes.bufWork {P : Nat → Prop} (h : Dev.Writes P d e) : d.BufWork e := by
  have hrest := h.rest
  generalize e.regs = r, e.out = o at hrest
  rw [hrest]
  exact ⟨rfl⟩

theorem Dev.Talk.bufWork {l : List Nat} (h : Dev.Talk l d e) : d.BufWork e := by
  have hrest := h.rest
  generalize e.regs = r, e.out = o, e.glk.portA = pa, e.glk.portB = pb, e.glk.log = g at hrest
  rw [hrest]
  exact ⟨rfl⟩

end

theorem Dev.bufWork_wrN (d : Dev) (a v : Nat) : d.BufWork (d.wrN a v) := (d.writes_wrN (P := fun _ => True) v trivial).bufWork
theorem Dev.bufWork_put (d : Dev) (a : Nat) (g : Fld) (v : Nat) : d.BufWork (d.put a g v) := (d.writes_put (P := fun _ => True) g v trivial).bufWork
theorem Dev.bufWork_bump (d : Dev) (a : Nat) : d.BufWork (d.bump a) := (d.writes_bump (P := fun _ => True) trivial).bufWork
theorem Dev.bufWork_evc (d : Dev) (ev n : Nat) (a : EvAttr) : d.BufWork (d.evc ev n a) := (d.rewrites_evc ev n a).writes.bufWork
theorem Dev.bufWork_setBankX (d : Dev) (b : Nat) (x : BankX) : d.BufWork (d.setBankX b x) := ⟨rfl⟩
theorem Dev.bufWork_withPan (d : Dev) (x : PanState) : d.BufWork { d with pan := x } := ⟨rfl⟩
theorem Dev.bufWork_alert (d : Dev) (code : Nat) (ps : List Byte) : d.BufWork (d.alert code ps) := (d.talk_alert code ps).bufWork
theorem Dev.bufWork_withOnce (d : Dev) (l : List (Nat × Nat)) : d.BufWork { d with once := l } := ⟨rfl⟩

theorem Dev.bufWork_alertOnce (d : Dev) (code key : Nat) (ps : List Byte) : d.BufWork (d.alertOnce code key ps) :=
  .ite (.refl d) ((d.bufWork_alert code ps).trans (Dev.bufWork_withOnce ..))

theorem Dev.bufWork_listFault (d : Dev) (b : Nat) : d.BufWork (d.listFault b) :=
  ((((d.bufWork_setBankX ..).trans (Dev.bufWork_bump ..)).trans (Dev.bufWork_put ..)).trans (Dev.bufWork_alert ..)).trans
    (Dev.writes_showPan _).bufWork

theorem Dev.bufWork_takeFrom (d : Dev) (b : Nat) : d.BufWork (d.takeFrom b).2 := by
  unfold Dev.takeFrom
  dsimp only
  split
  · split
    · exact d.bufWork_listFault b
    · exact (d.bufWork_setBankX ..).trans (Dev.bufWork_put ..)
  · split
    · exact (d.bufWork_setBankX ..).trans (Dev.bufWork_put ..)
    · exact .refl d

theorem bufWork_takeFirst (l : List Nat) : ∀ d : Dev, d.BufWork (takeFirst d l).2 := by
  induction l with
  | nil => exact fun d => .refl d
  | cons b l ih =>
    intro d
    have hfrom := d.bufWork_takeFrom b
    unfold takeFirst
    split
    next i e he => rw [he] at hfrom; exact hfrom
    next e he => rw [he] at hfrom; exact hfrom.trans (ih e)

theorem Dev.bufWork_takePool (d : Dev) (p : Nat) : d.BufWork (d.takePool p).2 := by
  have hfirst := fun l => bufWork_takeFirst l d
  unfold Dev.takePool
  dsimp only
  split
  next b i e he => exact (((congrArg (d.BufWork ·.2) he).mp (hfirst _)).trans (Dev.bufWork_withPan ..)).trans (Dev.bufWork_wrN ..)
  next e he => exact (congrArg (d.BufWork ·.2) he).mp (hfirst _)

theorem Dev.bufWork_chargeTo (d : Dev) (ent ten charge z : Nat) (add : Bool) : d.BufWork (d.chargeTo ent ten charge z add) := by
  have hused : ∀ v w, d.BufWork ((d.wrN (rPAN_ENT_USED ent) v).wrN (rPAN_TEN_USED ten) w) := fun v w =>
    (d.bufWork_wrN _ v).trans (Dev.bufWork_wrN _ _ w)
  unfold Dev.chargeTo
  dsimp only
  exact .ite ((hused ..).trans (Dev.bufWork_wrN ..)) (.ite ((hused ..).trans (Dev.bufWork_wrN ..)) ((hused ..).trans (Dev.bufWork_wrN ..)))

theorem Dev.bufWork_panDrop (d : Dev) (step ent ten prio : Nat) (mirror : Bool) : d.BufWork (d.panDrop step ent ten prio mirror) := by
  have hcount : d.BufWork ((d.bump (rPAN_CNT (stepCounter step mirror))).evc 0x0201 1 { req := some ten, tc := some prio }) :=
    (d.bufWork_bump _).trans (Dev.bufWork_evc ..)
  have herr : ∀ x : Dev, x.BufWork (x.mark rPAN_ERR fPAN_ERR_DROP) := fun x => x.bufWork_put ..
  unfold Dev.panDrop
  dsimp only
  generalize (d.bump (rPAN_CNT (stepCounter step mirror))).evc 0x0201 1 { req := some ten, tc := some prio } = e at hcount ⊢
  exact .ite hcount ((hcount.trans (herr e)).trans (Dev.bufWork_alertOnce ..))

theorem Dev.bufWork_admitBuf (d : Dev) (ent ten bytes prio : Nat) (yellow mirror : Bool) :
    d.BufWork (d.admitBuf ent ten bytes prio yellow mirror).2 := by
  unfold Dev.admitBuf
  split
  · dsimp only
    exact d.bufWork_panDrop ..
  split
  · dsimp only
    exact d.bufWork_panDrop ..
  next p hp =>
    have hpool := d.bufWork_takePool p
    dsimp only
    split
    · dsimp only
      exact d.bufWork_panDrop ..
    split
    next e he =>
      rw [he] at hpool
      dsimp only
      exact hpool.trans (Dev.bufWork_panDrop ..)
    next b i e he =>
      rw [he] at hpool
      dsimp only
      exact (((hpool.trans (.when _ _ fun x => x.bufWork_bump _)).trans (Dev.bufWork_bump ..)).trans (Dev.bufWork_chargeTo ..)).trans
        (Dev.bufWork_evc ..)

/-- A queue that does not spill stores a packet by admission to the Pantry alone. -/
theorem Dev.bufWork_store (d : Dev) (q : List Held) (ent ten bytes prio : Nat) (yellow mirror : Bool) :
    d.BufWork (d.store q none ent ten bytes prio yellow mirror).2 := by
  have hadmit := d.bufWork_admitBuf ent ten bytes prio yellow mirror
  unfold Dev.store
  dsimp only
  split
  next b e he => rw [he] at hadmit; exact hadmit
  next e he => rw [he] at hadmit; exact hadmit

end Sys2Proof.Machine

/-! Bridges, conflicts and following an Edition, and the obligation on them (16_fabric.md R477, R481). -/

namespace Sys2Proof.Machine

/-! BRIDGE_HELLO_SEND (R477). -/

theorem bridgePath (b : Fin 16) : pathBridge (2 ^ 15 + 2 ^ 8 * b.val) = true ∧ pathIndex (2 ^ 15 + 2 ^ 8 * b.val) = b.val := by
  revert b
  decide

/-- The hello of a bridge as the device composes it, without its tunnel. -/
def Dev.bridgeBody (d : Dev) : List Byte :=
  let c := d.helloCell (List.replicate 12 0#8) (List.replicate 64 0#8)
  slice c 12 34 ++ slice c 68 64

/-- The packet of a bridge's hello to a peer. -/
def Dev.bridgePacket (d : Dev) (dest : Nat) : List Byte :=
  fabHeader 3 7 false d.initHops d.bridgeBody.length dest d.shelfmark 0 none ++ d.bridgeBody

/-- The carried packet of a bridge's hello. -/
def bridgePkt (bytes : List Byte) : Pkt := ⟨bytes, 0x1F, 0xC0, none, 0, false, none, 0, []⟩

/-- The peer's shelfmark as far as it is known. -/
def Dev.bridgePeer (d : Dev) (b : Nat) : Nat := match (d.bridgeX b).hello with | some h => h.sm | none => 0

/-- The hello put in the queue of a bridge's port. -/
def Dev.bridgeQueued (d : Dev) (b : Nat) : Dev :=
  d.fabEnqueue (2 ^ 15 + 2 ^ 8 * b) 0 7 0x1F (bridgePkt d.bridgeBody)
    (fabHeader 3 7 false d.initHops d.bridgeBody.length (d.bridgePeer b) d.shelfmark 0 none) false

/-- What the sending of a bridge's hello does. -/
def Dev.bridgeSent (b : Nat) (d : Dev) : Dev := if !(d.bridgeOk b) || d.zeroised then d else d.bridgeQueued b

theorem exec_bridgeHelloSend (b : Fin 16) (s : State) : exec (.bridgeHelloSend b) s = s.run (Dev.bridgeSent b.val) := rfl

theorem Dev.bridgeSent_valid {d : Dev} {b : Nat} (h : d.bridgeOk b = true) (hz : d.zeroised = false) : d.bridgeSent b = d.bridgeQueued b :=
  if_neg (by rw [h, hz]; decide)

theorem Dev.fabEnqueue_down {d : Dev} {b : Fin 16} (h : d.linkUp (d.bridgePort b.val) = false) (trib prio tenant : Nat) (p : Pkt)
    (hdr : List Byte) (mirror : Bool) : d.fabEnqueue (2 ^ 15 + 2 ^ 8 * b.val) trib prio tenant p hdr mirror =
      d.bump (rUPL_CNT (d.bridgePort b.val) 4) := by
  unfold Dev.fabEnqueue
  dsimp only
  rw [(bridgePath b).1, (bridgePath b).2, if_pos rfl]
  exact if_pos (by rw [← Dev.linkUp, h]; rfl)

/-- The packet that waits at a bridge's port. -/
def Dev.tunnelHeld (d : Dev) (p : Pkt) (frame : List Byte) (buf : Buf) (tenant : Nat) : Held :=
  { pkt := { p with bytes := frame }, buf := some buf, ent := entFabric, ten := chargeTenant tenant, tick := d.tickNow, ns := d.tick.now,
    mirror := false, hdr := [] }

theorem Dev.fabEnqueue_up {d e : Dev} {b : Fin 16} {p : Pkt} {hdr : List Byte} {tenant : Nat} {buf : Buf} {i j : Nat}
    (h : d.linkUp (d.bridgePort b.val) = true)
    (hstore : d.store [] none entFabric (chargeTenant tenant) (d.tunnelFrame b.val (hdr ++ p.bytes)).length 7 p.yellow false =
      (some (some buf, i, j), e)) :
    d.fabEnqueue (2 ^ 15 + 2 ^ 8 * b.val) 0 7 tenant p hdr false =
      e.updUpQ (8 * d.bridgePort b.val + 7) (fun q => q ++ [e.tunnelHeld p (d.tunnelFrame b.val (hdr ++ p.bytes)) buf tenant]) := by
  have hlen : ([] : List Byte).length + (d.tunnelFrame b.val (hdr ++ p.bytes)).length = (d.tunnelFrame b.val (hdr ++ p.bytes)).length :=
    Nat.zero_add _
  unfold Dev.fabEnqueue
  dsimp only
  rw [(bridgePath b).1, (bridgePath b).2, if_pos rfl, if_neg (by rw [← Dev.linkUp, h]; decide), hlen, hstore]
  rfl

theorem State.after_upQ (s : State) (e : Dev) (k : Nat) : (s.after e).dev.upQ k = e.upQ k := rfl

theorem State.start_tickNow (s : State) : s.start.tickNow = s.dev.tickNow := Dev.tickNow_congr fun _ => rfl
theorem State.start_bridgeX (s : State) (b : Nat) : s.start.bridgeX b = s.dev.bridgeX b := rfl
theorem State.start_fab (s : State) : s.start.fab = s.dev.fab := rfl

theorem bridgeCtrl_apart (b : Fin 16) : rFAB_BRIDGE_CTRL b.val ∉ alertRegs := by
  revert b
  decide

theorem exec_bridgeTimeout (b : Fin 16) (s : State) : exec (.bridgeTimeout b) s = s.run (fun d =>
    if d.bit (rFAB_BRIDGE_CTRL b.val) fFAB_BRIDGE_CTRL_UP && decide ((d.bridgeX b.val).lastTick + 64 ≤ d.tickNow) then
      (d.put (rFAB_BRIDGE_CTRL b.val) fFAB_BRIDGE_CTRL_UP 0).alert 0x0F01 (p4 (48 + b.val) ++ p4 bsUp)
    else d) := rfl

section
variable {s : State} (hs : s.Runs) {b : Fin 16}
include hs

theorem bridgeHelloSend_invalid (h : s.dev.bridgeOk b.val = false) : ∃ t, exec (.bridgeHelloSend b) s = .next t ∧ s.OnlyChanges t [] s.dev := by
  have h' : s.start.bridgeOk b.val = false := h
  rw [exec_bridgeHelloSend]
  exact State.run_nothing hs (f := Dev.bridgeSent b.val) (if_pos (by rw [h']; rfl))

theorem bridgeHelloSend_down (h : s.dev.bridgeOk b.val = true) (hz : s.dev.zeroised = false)
    (hl : s.dev.linkUp (s.dev.bridgePort b.val) = false) : ∃ t, exec (.bridgeHelloSend b) s = .next t ∧
      s.Counts t (rUPL_CNT (s.dev.bridgePort b.val) 4) 1 ∧ s.OnlyChanges t [rUPL_CNT (s.dev.bridgePort b.val) 4] s.dev := by
  rw [exec_bridgeHelloSend]
  obtain ⟨hrun, honly⟩ := State.run_writes_regs hs (f := Dev.bridgeSent b.val)
    ((Dev.bridgeSent_valid (d := s.start) h hz).trans (Dev.fabEnqueue_down (d := s.start) hl ..))
    (Dev.writes_bump (P := (· ∈ [rUPL_CNT (s.dev.bridgePort b.val) 4])) _ (.head _))
  refine ⟨_, hrun, ?_, honly⟩
  rw [State.Counts]
  exact Dev.rdN_bumpBy_same ..

theorem bridgeHelloSend_queues (h : s.dev.bridgeOk b.val = true) (hz : s.dev.zeroised = false) {f : List Byte} {buf : Buf} {d' : Dev}
    (hl : s.dev.linkUp (s.dev.bridgePort b.val) = true) (hn : (s.dev.bridgeX b.val).hello = none)
    (hf : f = s.dev.tunnelFrame b.val (s.dev.bridgePacket 0))
    (hstore : s.start.store [] none entFabric (chargeTenant 0x1F) f.length 7 false false = (some (some buf, 0, 0), d')) :
    ∃ t e, exec (.bridgeHelloSend b) s = .next t ∧ e.pkt.bytes = f ∧ e.buf = some buf ∧
      t.dev.upQ (8 * s.dev.bridgePort b.val + 7) = s.dev.upQ (8 * s.dev.bridgePort b.val + 7) ++ [e] := by
  have hpeer : s.start.bridgePeer b.val = 0 := by
    rw [Dev.bridgePeer, show (s.start.bridgeX b.val).hello = none from hn]
  have hkept := s.start.bufWork_store [] entFabric (chargeTenant 0x1F) f.length 7 false false
  rw [hstore] at hkept
  subst hf
  rw [exec_bridgeHelloSend]
  refine ⟨_, d'.tunnelHeld (bridgePkt s.start.bridgeBody) (s.dev.tunnelFrame b.val (s.dev.bridgePacket 0)) buf 0x1F,
    State.run_after hs.1 (f := Dev.bridgeSent b.val)
      ((Dev.bridgeSent_valid (d := s.start) h hz).trans (Dev.fabEnqueue_up (d := s.start) (tenant := 0x1F) hl (by rw [hpeer]; exact hstore))), rfl, rfl, ?_⟩
  have hport : s.start.bridgePort b.val = s.dev.bridgePort b.val := rfl
  rw [hpeer, State.after_upQ, hport, Dev.upQ_updUpQ_same, Dev.upQ, hkept.uplQ]
  rfl

theorem bridgeTimeout_down (hup : s.dev.bit (rFAB_BRIDGE_CTRL b.val) fFAB_BRIDGE_CTRL_UP = true)
    (ht : (s.dev.bridgeX b.val).lastTick + 64 ≤ s.dev.tickNow) : ∃ t, exec (.bridgeTimeout b) s = .next t ∧
      t.dev.bit (rFAB_BRIDGE_CTRL b.val) fFAB_BRIDGE_CTRL_UP = false := by
  have hdue : (s.start.bit (rFAB_BRIDGE_CTRL b.val) fFAB_BRIDGE_CTRL_UP && decide ((s.start.bridgeX b.val).lastTick + 64 ≤ s.start.tickNow)) = true := by
    rw [Dev.bit_congr (d := s.start) (e := s.dev) rfl, hup, s.start_tickNow, s.start_bridgeX, decide_eq_true ht]
    rfl
  rw [exec_bridgeTimeout]
  refine ⟨_, State.run_after hs.1 (if_pos hdue), ?_⟩
  rw [State.after_bit, Dev.bit_congr (Dev.rd_alert _ _ _ (bridgeCtrl_apart b))]
  exact Dev.bit_put_zero _ _ (by decide)

end

/-! CONFLICT_CLEAR (R481). -/

/-- The conflict shown cleared. -/
def Dev.conflictOver (d : Dev) : Dev := d.put rFAB_STATUS fFAB_STATUS_CONFLICT 0

/-- The conflict cleared where it is old enough. -/
def Dev.conflictAged (d : Dev) : Dev := if d.fab.dupTick + 8000 ≤ d.tickNow then d.conflictOver else d

theorem exec_conflictClear (s : State) : exec .conflictClear s = s.run Dev.conflictAged := rfl

section
variable {s : State} (hs : s.Runs)
include hs

theorem conflictClear_due (h : s.dev.fab.dupTick + 8000 ≤ s.dev.tickNow) : ∃ t, exec .conflictClear s = .next t ∧
    t.dev.bit rFAB_STATUS fFAB_STATUS_CONFLICT = false ∧ s.OnlyChanges t [rFAB_STATUS] s.dev := by
  rw [← s.start_fab, ← s.start_tickNow] at h
  have hover : s.start.conflictAged = s.start.conflictOver := if_pos h
  have hbit : s.start.conflictOver.bit rFAB_STATUS fFAB_STATUS_CONFLICT = false := Dev.bit_put_zero _ _ (by decide)
  obtain ⟨hrun, honly⟩ := State.run_writes_regs hs hover (s.start.writes_put (P := (· ∈ [rFAB_STATUS])) fFAB_STATUS_CONFLICT 0 (.head _))
  rw [exec_conflictClear]
  exact ⟨_, hrun, hbit, honly⟩

theorem conflictClear_early (h : s.dev.tickNow < s.dev.fab.dupTick + 8000) :
    ∃ t, exec .conflictClear s = .next t ∧ s.OnlyChanges t [] s.dev := by
  rw [← s.start_fab, ← s.start_tickNow] at h
  have hkept : s.start.conflictAged = s.start := if_neg (Nat.not_le.mpr h)
  rw [exec_conflictClear]
  exact State.run_nothing hs hkept

end

/-! EDITION_FOLLOW (R481). -/

theorem Dev.commitEdition_highest {d e : Dev} {q : CommitReq} {k : Nat} (h : d.commitEdition q = (resOk, k, e)) : e.col.highest = q.number := by
  have hres : ∀ {r j x}, (r, j, x) = (resOk, k, e) → r = resOk := fun h => congrArg Prod.fst h
  unfold Dev.commitEdition at h
  split at h
  · exact absurd (hres h) (by decide)
  split at h
  · exact absurd (hres h) (by decide)
  split at h
  · exact absurd (hres h) (by decide)
  dsimp only at h
  split at h
  · exact absurd (hres h) (by decide)
  · exact (congrArg (fun x : Nat × Nat × Dev => x.2.2.col.highest) h).symm

theorem Dev.reqNext_col (d : Dev) (v : Nat) : (d.reqNext v).col = d.col := by
  have hact : (d.reqActions v).2.col = d.col := by
    unfold Dev.reqActions
    dsimp only
    split
    · exact Dev.put_col ..
    · rfl
  rw [Dev.reqNext, Dev.showReq, Dev.wrN_col, Dev.wrN_col]
  exact hact

/-- The device that has followed an Edition: the staging image is closed, and the change is asked for the next boundary. -/
def Dev.followed (d : Dev) : Dev :=
  let d := d.setStaging none
  ({ d with fab := { d.fab with followTick := none } }).reqNext 2

theorem Dev.followed_shown (d : Dev) : (∀ k, d.followed.ed k = d.ed k) ∧ d.followed.col.staging = none ∧
    d.followed.col.highest = d.col.highest := by
  have hcol : d.followed.col = (d.setStaging none).col := Dev.reqNext_col ..
  refine ⟨fun k => (Dev.ed_congr hcol k).trans rfl, ?_, ?_⟩
  · rw [hcol]; rfl
  · rw [hcol]; rfl

/-- The Edition of one action and no rule that a hello names, committed. -/
theorem Dev.followEdition_commits {d e : Dev} {h : Hello} {df : Bool} {miss k : Nat} {a : List Byte} (ha : entryReason 1 0 a = 0)
    (hc : (d.setStaging (some (Staging.put ⟨[], []⟩ 1 0 a))).commitEdition ⟨df, 0, 1, miss, h.number, h.digest⟩ = (resOk, k, e)) :
    d.followEdition h df miss [] [a] = e.followed := by
  unfold Dev.followEdition
  simp only [List.zipIdx_nil, List.zipIdx_cons, List.any_nil, List.any_cons, List.foldl_nil, List.foldl_cons, List.length_nil,
    List.length_singleton, ha, bne_self_eq_false, Bool.or_false, Bool.false_eq_true, if_false]
  rw [hc]
  rfl

/-- An Edition is not followed now: following is off, an image is staged, or the last attempt failed too short a time ago. -/
def Dev.followHeld (d : Dev) : Bool :=
  let early := match d.fab.followTick with | some k => decide (d.tickNow < k + 8000) | none => false
  !(d.bit rFAB_CTRL fFAB_CTRL_ED_FOLLOW) || d.col.staging.isSome || early

/-- What the firmware's fetch of a peer's Edition does. -/
def Dev.editionFollowed (b : Nat) (df : Bool) (miss : Nat) (rules actions : List (List Byte)) (d : Dev) : Dev :=
  match d.higherEdition b with
  | none => d
  | some h => if d.followHeld then d else d.followEdition h df miss rules actions

theorem exec_editionFollow (b : Fin 48) (df : Bool) (miss : Word) (rules actions : List (List Byte)) (s : State) :
    exec (.editionFollow b df miss rules actions) s = s.run (Dev.editionFollowed b.val df miss.toNat rules actions) := rfl

theorem Dev.followHeld_off {d : Dev} (h : d.bit rFAB_CTRL fFAB_CTRL_ED_FOLLOW = false) : d.followHeld = true := by
  rw [Dev.followHeld, h]
  rfl

theorem Dev.followHeld_not {d : Dev} (h : d.bit rFAB_CTRL fFAB_CTRL_ED_FOLLOW = true) (hst : d.col.staging = none)
    (ht : d.fab.followTick = none) : d.followHeld = false := by
  rw [Dev.followHeld, h, hst, ht]
  rfl

section
variable {s : State} (hs : s.Runs) {b : Fin 48} {df : Bool} {miss : Word}
include hs

theorem editionFollow_off (h : s.dev.bit rFAB_CTRL fFAB_CTRL_ED_FOLLOW = false) :
    ∃ t, exec (.editionFollow b df miss [] []) s = .next t ∧ s.OnlyChanges t [] s.dev := by
  have hheld : s.start.followHeld = true := Dev.followHeld_off h
  rw [exec_editionFollow]
  refine State.run_nothing hs ?_
  unfold Dev.editionFollowed
  split
  · rfl
  · exact if_pos hheld

theorem editionFollow_commits {h : Hello} {a : List Byte} {k : Nat} {e : Dev} (hon : s.dev.bit rFAB_CTRL fFAB_CTRL_ED_FOLLOW = true)
    (hh : s.dev.higherEdition b.val = some h) (hst : s.dev.col.staging = none) (ht : s.dev.fab.followTick = none)
    (ha : entryReason 1 0 a = 0)
    (hc : (s.start.setStaging (some (Staging.put ⟨[], []⟩ 1 0 a))).commitEdition ⟨df, 0, 1, miss.toNat, h.number, h.digest⟩ = (resOk, k, e)) :
    ∃ t, exec (.editionFollow b df miss [] [a]) s = .next t ∧ t.dev.ed k = e.ed k ∧ t.dev.col.staging = none ∧
      t.dev.col.highest = h.number := by
  have hheld : s.start.followHeld = false := Dev.followHeld_not hon hst ht
  have hhigher : s.start.higherEdition b.val = some h := hh
  have hgo : s.start.editionFollowed b.val df miss.toNat [] [a] = e.followed := by
    rw [Dev.editionFollowed, hhigher]
    exact (if_neg (by rw [hheld]; decide)).trans (Dev.followEdition_commits ha hc)
  obtain ⟨hed, hstaging, hhighest⟩ := e.followed_shown
  rw [exec_editionFollow]
  exact ⟨_, State.run_after hs.1 hgo, hed k, hstaging, hhighest.trans (Dev.commitEdition_highest hc)⟩

end

/-- Settles O37: hellos go to the ports of bridges that are up, bridges and conflicts time out, and a higher Edition is followed. -/
theorem bridgesAndDisagreement : Obligations.BridgesAndDisagreement := by
  unfold Obligations.BridgesAndDisagreement
  refine ⟨fun s b hs => ⟨bridgeHelloSend_invalid hs, fun h hz => ⟨bridgeHelloSend_down hs h hz, ?_⟩⟩,
    fun s b hs hup ht => bridgeTimeout_down hs hup ht, fun s hs => ⟨conflictClear_due hs, conflictClear_early hs⟩,
    fun s b df miss hs => ⟨editionFollow_off hs, ?_⟩⟩
  · intro c body f buf d' hl hn hc hbody hf hstore
    subst hc hbody
    exact bridgeHelloSend_queues hs h hz hl hn hf hstore
  · intro h a k e hon hh hst ht ha hc
    exact editionFollow_commits hs hon hh hst ht ha hc

end Sys2Proof.Machine

/-! The registers that DRAM and the Stockpot refuse, and the reports on them (14_dram.md R408, R410, R426, R435, R436). -/

namespace Sys2Proof.Machine

/-! DRAM_CTRL (R408). -/

/-- A value of DRAM_CTRL with RATE, CAP and CH8 as they stand. -/
def Dev.dramKept (d : Dev) (v : Nat) : Nat :=
  fieldPut (fieldPut (fieldPut v fDRAM_CTRL_RATE (d.get rDRAM_CTRL fDRAM_CTRL_RATE)) fDRAM_CTRL_CAP (d.get rDRAM_CTRL fDRAM_CTRL_CAP))
    fDRAM_CTRL_CH8 (d.get rDRAM_CTRL fDRAM_CTRL_CH8)

/-- A field replaced by a field of the same shape reads it. -/
theorem fieldOf_fieldPut_get (w : Nat) (f : Fld) (d : Dev) (a : Nat) : fieldOf (fieldPut w f (d.get a f)) f = d.get a f := by
  rw [fieldOf_fieldPut_same]
  exact Nat.mod_eq_of_lt (fieldOf_lt ..)

theorem Dev.dramKept_fields (d : Dev) (v : Nat) : fieldOf (d.dramKept v) fDRAM_CTRL_RATE = d.get rDRAM_CTRL fDRAM_CTRL_RATE ∧
    fieldOf (d.dramKept v) fDRAM_CTRL_CAP = d.get rDRAM_CTRL fDRAM_CTRL_CAP := by
  unfold Dev.dramKept
  constructor
  · rw [fieldOf_fieldPut_ne _ _ (Fld.disjoint.apart (by decide)), fieldOf_fieldPut_ne _ _ (Fld.disjoint.apart (by decide)),
      fieldOf_fieldPut_get]
  · rw [fieldOf_fieldPut_ne _ _ (Fld.disjoint.apart (by decide)), fieldOf_fieldPut_get]

theorem Dev.writeDramCtrl_free {d : Dev} {v : Nat} (hc : d.part = .c) (h : d.dramCtrlBusy v = false) :
    d.writeDramCtrl v = d.access rDRAM_CTRL v := by
  rw [Dev.writeDramCtrl, h, hc]
  rfl

theorem Dev.writeDramCtrl_busy {d : Dev} {v : Nat} (hc : d.part = .c) (h : d.dramCtrlBusy v = true) :
    d.writeDramCtrl v = (d.access rDRAM_CTRL (d.dramKept v)).mark rDRAM_ERR fDRAM_ERR_CFG_BUSY := by
  rw [Dev.writeDramCtrl, h, hc]
  rfl

theorem State.start_dramCtrlBusy (s : State) (v : Nat) : s.start.dramCtrlBusy v = s.dev.dramCtrlBusy v := rfl

section
variable {s : State} (hs : s.Runs) (hc : s.dev.part = .c) {val : Word}
include hs hc

theorem dramCtrlWrite_stores (h : s.dev.dramCtrlBusy val.toNat = false) : ∃ t, exec (.dramCtrlWrite val) s = .next t ∧
    t.dev.rdN rDRAM_CTRL = s.dev.stored rDRAM_CTRL val.toNat ∧ s.OnlyChanges t [rDRAM_CTRL] s.dev :=
  State.run_stores hs (f := fun d => d.writeDramCtrl val.toNat) (Dev.writeDramCtrl_free (d := s.start) hc ((s.start_dramCtrlBusy _).trans h))

theorem dramCtrlWrite_busy (h : s.dev.dramCtrlBusy val.toNat = true) : ∃ t, exec (.dramCtrlWrite val) s = .next t ∧
    t.dev.bit rDRAM_ERR fDRAM_ERR_CFG_BUSY = true ∧ t.dev.get rDRAM_CTRL fDRAM_CTRL_RATE = s.dev.get rDRAM_CTRL fDRAM_CTRL_RATE ∧
    t.dev.get rDRAM_CTRL fDRAM_CTRL_CAP = s.dev.get rDRAM_CTRL fDRAM_CTRL_CAP ∧ s.OnlyChanges t [rDRAM_CTRL, rDRAM_ERR] s.dev := by
  obtain ⟨hrate, hcap⟩ := s.start.dramKept_fields val.toNat
  obtain ⟨hrun, honly⟩ := State.run_writes_regs hs (f := fun d => d.writeDramCtrl val.toNat)
    (Dev.writeDramCtrl_busy (d := s.start) hc ((s.start_dramCtrlBusy _).trans h))
    ((s.start.writes_access (P := (· ∈ [rDRAM_CTRL, rDRAM_ERR])) _ (.head _)).trans (Dev.writes_mark _ _ (.tail _ (.head _))))
  have hkept : ∀ f, f.lo ≤ f.hi ∧ f.hi < 32 → softField rDRAM_CTRL f = true →
      ((s.start.access rDRAM_CTRL (s.start.dramKept val.toNat)).mark rDRAM_ERR fDRAM_ERR_CFG_BUSY).get rDRAM_CTRL f =
        fieldOf (s.start.dramKept val.toNat) f := fun f hf hrw => (Dev.get_put_ne _ _ _ _ (by decide)).trans (Dev.get_access_rw _ _ hf hrw)
  exact ⟨_, hrun, Dev.bit_mark_same _ _ rfl (by decide), (hkept _ (by decide) (by decide)).trans hrate,
    (hkept _ (by decide) (by decide)).trans hcap, honly⟩

end

/-! The Stockpot's region (R410, R426). -/

theorem State.start_spHeld (s : State) : s.start.spHeld = s.dev.spHeld := rfl
theorem State.start_spBad (s : State) (base mib : Nat) : s.start.spBad base mib = s.dev.spBad base mib := rfl
theorem State.start_spBase (s : State) : s.start.spBase = s.dev.spBase := rfl

theorem Dev.writeSpRegion_size {d : Dev} (h : d.spHeld = false) (v : Nat) : d.writeSpRegion 2 v =
    if d.spBad d.spBase (v % 2 ^ 17) then d.mark rSP_ERR fSP_ERR_CFG_BAD
    else ((d.wrN rSP_BASE_LO (d.rdN rSP_BASE_LO)).wrN rSP_BASE_HI (d.rdN rSP_BASE_HI)).wrN rSP_SIZE (v % 2 ^ 17) := by
  rw [Dev.writeSpRegion, h, if_neg Bool.false_ne_true]
  rfl

/-- A register written with what it holds reads the same. -/
theorem Dev.rd_wrN_back (d : Dev) (a b : Nat) : (d.wrN a (d.rdN a)).rd b = d.rd b := by
  by_cases hb : b = a
  · subst hb
    rw [Dev.rd_wrN_same, Dev.rdN, BitVec.ofNat_toNat, BitVec.setWidth_eq]
  · exact Dev.rd_wrN_ne _ _ hb

theorem Dev.writes_wrN_back (P : Nat → Prop) (d : Dev) (a : Nat) : d.Writes P (d.wrN a (d.rdN a)) := ⟨fun b _ => d.rd_wrN_back a b, rfl⟩

/-- The region's base written back and its size written. -/
theorem Dev.writes_spSize (d : Dev) (n : Nat) : Dev.Writes (· ∈ [rSP_SIZE]) d
    (((d.wrN rSP_BASE_LO (d.rdN rSP_BASE_LO)).wrN rSP_BASE_HI (d.rdN rSP_BASE_HI)).wrN rSP_SIZE n) := by
  have hhi : d.rdN rSP_BASE_HI = (d.wrN rSP_BASE_LO (d.rdN rSP_BASE_LO)).rdN rSP_BASE_HI := (Dev.rdN_wrN_ne _ _ (by decide)).symm
  rw [hhi]
  exact ((d.writes_wrN_back _ _).trans (Dev.writes_wrN_back ..)).trans (Dev.writes_wrN _ _ (.head _))

section
variable {s : State} (hs : s.Runs) {val : Word}
include hs

theorem spRegionWrite_held (h : s.dev.spHeld = true) (w : Fin 3) :
    ∃ t, exec (.spRegionWrite w val) s = .next t ∧ s.OnlyChanges t [] s.dev :=
  State.run_nothing hs (f := fun d => d.writeSpRegion w.val val.toNat) (if_pos ((s.start_spHeld).trans h))

theorem spRegionWrite_size (h : s.dev.spHeld = false) (hok : s.dev.spBad s.dev.spBase (val.toNat % 2 ^ 17) = false) :
    ∃ t, exec (.spRegionWrite 2 val) s = .next t ∧ t.dev.rdN rSP_SIZE = val.toNat % 2 ^ 17 ∧ s.OnlyChanges t [rSP_SIZE] s.dev := by
  rw [← s.start_spHeld] at h
  rw [← s.start_spBad, ← s.start_spBase] at hok
  obtain ⟨hrun, honly⟩ := State.run_writes_regs hs (f := fun d => d.writeSpRegion 2 val.toNat)
    ((Dev.writeSpRegion_size h _).trans (if_neg (ne_true_of_eq_false hok))) (Dev.writes_spSize _ _)
  refine ⟨_, hrun, (Dev.rdN_wrN_same ..).trans (Nat.mod_eq_of_lt ?_), honly⟩
  exact Nat.lt_of_lt_of_le (Nat.mod_lt _ (by decide)) (by decide)

theorem spRegionWrite_bad (h : s.dev.spHeld = false) (hbad : s.dev.spBad s.dev.spBase (val.toNat % 2 ^ 17) = true) :
    ∃ t, exec (.spRegionWrite 2 val) s = .next t ∧ t.dev.bit rSP_ERR fSP_ERR_CFG_BAD = true ∧ s.OnlyChanges t [rSP_ERR] s.dev := by
  rw [← s.start_spHeld] at h
  rw [← s.start_spBad, ← s.start_spBase] at hbad
  exact State.run_marks hs (f := fun d => d.writeSpRegion 2 val.toNat) rfl (by decide)
    ((Dev.writeSpRegion_size h _).trans (if_pos hbad))

end

/-! DIAG_DRAM and STACKS_SPILL (R435, R436). -/

theorem diagDram_answers {s : State} {m : Fin 64} {c : Cmd} (h : s.Ready m 0x0C02 c) (hown : c.isOwner = true)
    (hch : s.dev.dramOk (c.u8 0) = true) (h1 : c.u8 1 = 0) (hends : c.endsAt 2 = true) : ∃ t, exec (.diagDram m) s = .next t ∧
      s.OnlyAnswers t m ∧ t.Done m 0 (leB 4 (s.dev.rdN rDRAM_STATUS) ++ leB 4 (s.dev.rdN (rDRAM_CH_STATUS (c.u8 0))) ++
        leB 4 (s.dev.rdN (rDRAM_CH_UE_LO (c.u8 0))) ++ leB 4 (s.dev.rdN (rDRAM_CH_UE_HI (c.u8 0))) ++
        (List.range 8).flatMap (fun i => leB 4 (s.dev.rdN (rDRAM_CH_CNT (c.u8 0) i)))) := by
  have hx : c.expert 1 = false := by rw [Cmd.expert, h1]; rfl
  have hwords : diagDramRegs.zipIdx.filter (fun _ => false) = [] := List.filter_false _
  refine State.run_shows h ((Cmd.checks_pass c _ ?checks _).trans ?runs) (by decide) ?length
  case checks =>
    have hch' : s.start.dramOk (c.u8 0) = true := hch
    simp [Cmd.mustOwn, inForm, Cmd.only, hown, hx, h1, hends, hch']
  case runs => simp only [hx, Bool.false_and, hwords, Bool.false_eq_true, if_false, List.foldl_nil]; rfl
  case length => simp only [List.length_append, length_words, length_leB]; decide

theorem stacksSpill_answers {s : State} {m : Fin 64} {c : Cmd} (h : s.Ready m 0x0D04 c) (hown : c.isOwner = true) (h0 : c.u8 0 = 2)
    (h1 : c.zero 1 3 = true) (hends : c.endsAt 0x1C = true) : ∃ t, exec (.stacksSpill m) s = .next t ∧ s.OnlyAnswers t m ∧
      t.Done m 0 (leB 4 (s.dev.rdN rSP_STATUS) ++ leB 4 (s.dev.rdN rSP_PAGES_FREE) ++
        (List.range 8).flatMap (fun i => leB 4 (s.dev.rdN (rSP_CNT i)))) := by
  have hquery : nbit (c.u8 0) 1 = true := by rw [h0]; rfl
  refine State.run_shows h ((Cmd.checks_pass c _ ?checks _).trans ?runs) (by decide) ?length
  case checks => simp [Cmd.mustOwn, inForm, Cmd.only, hown, show nbit 2 1 = true from rfl, h0, h1, hends]
  case runs => simp only [hquery, if_true]; rfl
  case length => simp only [List.length_append, length_words, length_leB]; decide

end Sys2Proof.Machine

/-! The spills and fetches of the Stockpot, and the obligation on it (14_dram.md R427, R429). -/

namespace Sys2Proof.Machine

/-! What taking a buffer writes: nothing of DRAM's registers or above (13_stacks_pantry.md R389-R391). -/

section
variable {a : Nat} (ha : 0x120000 ≤ a ∧ a < 0x121000)
include ha

theorem dramReg_not_alert : a ∉ alertRegs := by
  have hall : ∀ b ∈ alertRegs, b < 0x120000 ∨ 0x121000 ≤ b := by decide
  intro h
  have hout := hall a h
  omega

theorem Dev.rd_listFault_high (d : Dev) (b : Nat) : (d.listFault b).rd a = d.rd a := by
  have hcnt : a ≠ rPAN_CNT 12 := by unfold rPAN_CNT; omega
  have herr : a ≠ rPAN_ERR := by unfold rPAN_ERR; omega
  unfold Dev.listFault
  dsimp only
  rw [Dev.rd_showPan _ (.inr (.inr (by omega))), Dev.rd_alert _ _ _ (dramReg_not_alert ha), Dev.mark, Dev.rd_put_ne _ _ _ herr,
    (Dev.writes_bump (P := (· = rPAN_CNT 12)) _ rfl).rd a hcnt]
  rfl

theorem Dev.rd_takeFrom_high (d : Dev) {b : Nat} (hb : b < 40) : (d.takeFrom b).2.rd a = d.rd a := by
  have hbank : ∀ x v, ((d.setBankX b x).put (rSTK_BANK b) fSTK_BANK_FREE_BUFS v).rd a = d.rd a := fun x v =>
    Dev.rd_put_ne _ _ _ (by unfold rSTK_BANK; omega)
  unfold Dev.takeFrom
  dsimp only
  split
  · split
    · exact d.rd_listFault_high ha b
    · exact hbank ..
  · split
    · exact hbank ..
    · rfl

theorem rd_takeFirst_high {l : List Nat} (hl : ∀ b ∈ l, b < 40) : ∀ d : Dev, (takeFirst d l).2.rd a = d.rd a := by
  induction l with
  | nil => exact fun d => rfl
  | cons b l ih =>
    intro d
    have hfrom := d.rd_takeFrom_high ha (hl b (.head _))
    unfold takeFirst
    split
    next i e he => rw [he] at hfrom; exact hfrom
    next e he => rw [he] at hfrom; exact (ih (fun c hc => hl c (.tail _ hc)) e).trans hfrom

theorem Dev.rd_takePool_high (d : Dev) {p : Nat} (hp : p < 4) : (d.takePool p).2.rd a = d.rd a := by
  have hbanks : ∀ q r : Nat → Bool, ∀ b ∈ (d.poolBanks p).filter q ++ (d.poolBanks p).filter r, b < 40 := by
    intro q r b hb
    have hbank : b ∈ d.poolBanks p := (List.mem_append.1 hb).elim List.mem_of_mem_filter List.mem_of_mem_filter
    exact List.mem_range.1 (List.mem_of_mem_filter hbank)
  have hfirst := rd_takeFirst_high ha (hbanks (fun b => decide (d.pan.last.getD p 0 < b)) (fun b => decide (b ≤ d.pan.last.getD p 0))) d
  unfold Dev.takePool
  dsimp only
  split
  next b i e he => rw [he] at hfirst; exact (Dev.rd_wrN_ne _ _ (by unfold rPAN_POOL_FREE; omega)).trans hfirst
  next e he => rw [he] at hfirst; exact hfirst

end

/-- The bytes charged to an entity and a tenant stand in the third and fourth words of a line. -/
theorem Dev.rd_chargeTo (d : Dev) (ent ten charge z : Nat) (add : Bool) {a : Nat} (ha : 0x120000 ≤ a) (hw : a % 16 = 4) :
    (d.chargeTo ent ten charge z add).rd a = d.rd a := by
  have he : a ≠ rPAN_ENT_USED ent := by unfold rPAN_ENT_USED; omega
  have ht : a ≠ rPAN_TEN_USED ten := by unfold rPAN_TEN_USED; omega
  have her : a ≠ rPAN_ENT_RES_USED ent := by unfold rPAN_ENT_RES_USED; omega
  have htr : a ≠ rPAN_TEN_RES_USED ten := by unfold rPAN_TEN_RES_USED; omega
  have hsh : a ≠ rPAN_SHARED_USED := by unfold rPAN_SHARED_USED; omega
  unfold Dev.chargeTo
  dsimp only
  split
  · rw [Dev.rd_wrN_ne _ _ her, Dev.rd_wrN_ne _ _ ht, Dev.rd_wrN_ne _ _ he]
  split
  · rw [Dev.rd_wrN_ne _ _ htr, Dev.rd_wrN_ne _ _ ht, Dev.rd_wrN_ne _ _ he]
  · rw [Dev.rd_wrN_ne _ _ hsh, Dev.rd_wrN_ne _ _ ht, Dev.rd_wrN_ne _ _ he]

/-! A spilled packet leaves its chain (R429). -/

theorem Dev.spRelease_shown (d : Dev) (key page : Nat) : (d.spRelease key page).chanQ = d.chanQ ∧
    ∀ a, a ≠ rSP_PAGES_FREE → a ≠ rSP_STATUS → (d.spRelease key page).rd a = d.rd a :=
  ⟨rfl, fun _ h1 h2 => (Dev.rd_put_ne _ _ _ h2).trans (Dev.rd_wrN_ne _ _ h1)⟩

/-- A packet leaves a channel's chain, and the fetch is counted. -/
def Dev.fetchCounted (d : Dev) (q : Nat) (l : List Held) (page i : Nat) : Dev := ((d.setChQ q l).spRelease q page).bump (rSP_CNT i)

theorem Dev.fetchCounted_shown (d : Dev) (q : Nat) (l : List Held) (page i : Nat) :
    (d.fetchCounted q l page i).chQ q = l ∧ (d.fetchCounted q l page i).rdN (rSP_CNT i) % 2 ^ 31 = (d.rdN (rSP_CNT i) + 1) % 2 ^ 31 := by
  obtain ⟨hq, hrd⟩ := (d.setChQ q l).spRelease_shown q page
  have hcnt : ((d.setChQ q l).spRelease q page).rdN (rSP_CNT i) = d.rdN (rSP_CNT i) :=
    Dev.rdN_congr (hrd _ (by unfold rSP_CNT rSP_PAGES_FREE; omega) (by unfold rSP_CNT rSP_STATUS; omega))
  refine ⟨?_, ?_⟩
  · have hbump : (d.fetchCounted q l page i).chanQ = (d.setChQ q l).chanQ := hq
    rw [Dev.chQ, hbump, ← Dev.chQ, Dev.chQ_setChQ_same]
  · rw [Dev.fetchCounted, Dev.bump, Dev.rdN_bumpBy_same, hcnt]

/-! SPILL_WRITE_DONE (R427). -/

theorem Dev.spQueue_chan (d : Dev) (q : Fin 262144) : d.spQueue q.val = d.chQ q.val := if_neg (by omega)

theorem Dev.setSpQueue_chan (d : Dev) (q : Fin 262144) (l : List Held) : d.setSpQueue q.val l = d.setChQ q.val l := if_neg (by omega)

/-- What the end of a spill's write does. -/
def Dev.spillWritten (q : Nat) (d : Dev) : Dev := if d.dramReady && !d.cipherOff then d.spillDone q else d

theorem exec_spillWriteDone (q : Fin 262144) (s : State) : exec (.spillWriteDone false q) s = s.run (Dev.spillWritten q.val) := rfl

/-- The oldest spill of a channel written. -/
def Dev.spillCleared (d : Dev) (q : Nat) (l : List Held) (units : Nat) : Dev :=
  let d := d.setChQ q l
  { d with dram := { d.dram with backlog := d.dram.backlog - 64 * units } }

theorem Dev.chQ_spillCleared (d : Dev) (q : Nat) (l : List Held) (units : Nat) : (d.spillCleared q l units).chQ q = l :=
  sget_sset_same ..

theorem Dev.spillWritten_first {d : Dev} {q : Fin 262144} {h : Held} {hs : List Held} (hr : d.dramReady = true) (hc : d.cipherOff = false)
    (hq : d.chQ q.val = h :: hs) (hb : h.buf = none) (hw : h.written = false) :
    d.spillWritten q.val = d.spillCleared q.val ({ h with written := true } :: hs) h.units := by
  have hp : (h.buf.isNone && !h.written) = true := by rw [hb, hw]; rfl
  rw [Dev.spillWritten, hr, hc, if_pos (by decide), Dev.spillDone, Dev.spQueue_chan, hq]
  simp only [List.find?_cons, hp, mapFirst, if_true, Dev.setSpQueue_chan]
  rfl

theorem State.start_chQ (s : State) (q : Nat) : s.start.chQ q = s.dev.chQ q := rfl
theorem State.start_rdN (s : State) (a : Nat) : s.start.rdN a = s.dev.rdN a := rfl
theorem State.start_dramReady (s : State) : s.start.dramReady = s.dev.dramReady := rfl
theorem State.start_cipherOff (s : State) : s.start.cipherOff = s.dev.cipherOff := rfl
theorem State.after_chQ (s : State) (e : Dev) (q : Nat) : (s.after e).dev.chQ q = e.chQ q := rfl
theorem State.after_dram (s : State) (e : Dev) : (s.after e).dev.dram = e.dram := rfl

section
variable {s : State} (hs : s.Runs) {q : Fin 262144} {h : Held} {l : List Held} (hr : s.dev.dramReady = true)
  (hc : s.dev.cipherOff = false) (hq : s.dev.chQ q.val = h :: l) (hb : h.buf = none)
include hs hr hc hq hb

theorem spillWriteDone_written (hw : h.written = false) : ∃ t, exec (.spillWriteDone false q) s = .next t ∧
    t.dev.chQ q.val = { h with written := true } :: l ∧
    t.dev.dram = { s.dev.dram with backlog := s.dev.dram.backlog - 64 * h.units } := by
  rw [← s.start_chQ] at hq
  rw [exec_spillWriteDone]
  refine ⟨_, State.run_after hs.1 (f := Dev.spillWritten q.val)
    (Dev.spillWritten_first (d := s.start) ((s.start_dramReady).trans hr) ((s.start_cipherOff).trans hc) hq hb hw), ?_, rfl⟩
  rw [State.after_chQ, Dev.chQ_spillCleared]

end

/-! STOCKPOT_FETCH (R429). -/

theorem exec_stockpotFetch (q : Fin 262144) (bad : Bool) (s : State) :
    exec (.stockpotFetch false q bad) s = s.run (fun d => d.spFetch q.val bad) := rfl

/-- A fetch may begin: the channel's first packet stands written in the Stockpot, and its buffers hold too few bytes. -/
structure Dev.FetchDue (d : Dev) (q : Nat) (h : Held) (l : List Held) : Prop where
  ready : d.dramReady = true
  serves : d.cipherOff = false
  queue : d.chQ q = h :: l
  spilled : h.buf = none
  written : h.written = true
  few : bufferedBytes (h :: l) < d.rdN rSP_PREFETCH

theorem State.start_fetchDue {s : State} {q : Nat} {h : Held} {l : List Held} (hd : s.dev.FetchDue q h l) : s.start.FetchDue q h l := by
  obtain ⟨hr, hc, hq, hb, hw, hf⟩ := hd
  exact ⟨hr, hc, hq, hb, hw, hf⟩

/-- The queue's first packet in a buffer. -/
def Held.fetchedTo (h : Held) (b : Buf) : Held := { h with buf := some b, fetched := true, page := 0, units := 0 }

section
variable {d e : Dev} {q : Fin 262144} {h : Held} {l : List Held} (hd : d.FetchDue q.val h l)
include hd

theorem Dev.spFetch_bad : d.spFetch q.val true = d.fetchCounted q.val l h.page 7 := by
  obtain ⟨hr, hc, hq, hb, hw, hf⟩ := hd
  have hp : h.buf.isNone = true := by rw [hb]; rfl
  have hgo : (!h.written || decide (d.rdN rSP_PREFETCH ≤ bufferedBytes (h :: l)) || !(d.dramReady) || d.cipherOff) = false := by
    rw [hr, hc, hw, decide_eq_false (Nat.not_le.2 hf)]
    rfl
  rw [Dev.spFetch, Dev.spQueue_chan, hq]
  simp only [List.find?_cons, hp, hgo, Bool.false_eq_true, if_false, if_true, List.erase_cons_head, Dev.setSpQueue_chan]
  rfl

theorem Dev.spFetch_taken {pool x charge b i : Nat} (hpool : d.choosePool h.pkt.bytes.length = some pool)
    (hadmit : d.admitStep h.ent h.ten (poolSize pool) h.pkt.yellow h.mirror = (x, some charge)) (htake : d.takePool pool = (some (b, i), e)) :
    d.spFetch q.val false = (e.chargeTo h.ent h.ten charge (poolSize pool) true).fetchCounted q.val
      (h.fetchedTo ⟨pool, b, i, poolSize pool, charge, h.ent, h.ten⟩ :: l) h.page 1 := by
  obtain ⟨hr, hc, hq, hb, hw, hf⟩ := hd
  have hp : h.buf.isNone = true := by rw [hb]; rfl
  have hgo : (!h.written || decide (d.rdN rSP_PREFETCH ≤ bufferedBytes (h :: l)) || !(d.dramReady) || d.cipherOff) = false := by
    rw [hr, hc, hw, decide_eq_false (Nat.not_le.2 hf)]
    rfl
  rw [Dev.spFetch, Dev.spQueue_chan, hq]
  simp only [List.find?_cons, hp, hgo, Bool.false_eq_true, if_false, if_true, hpool, hadmit, htake, mapFirst, Dev.setSpQueue_chan]
  rfl

end

section
variable {s : State} (hs : s.Runs) {q : Fin 262144} {h : Held} {l : List Held} (hd : s.dev.FetchDue q.val h l)
include hs hd

theorem stockpotFetch_bad : ∃ t, exec (.stockpotFetch false q true) s = .next t ∧ t.dev.chQ q.val = l ∧ s.Counts t (rSP_CNT 7) 1 := by
  obtain ⟨hq, hcnt⟩ := s.start.fetchCounted_shown q.val l h.page 7
  rw [exec_stockpotFetch]
  refine ⟨_, State.run_after hs.1 (f := fun d => d.spFetch q.val true) (Dev.spFetch_bad (State.start_fetchDue hd)), ?_, ?_⟩
  · rw [State.after_chQ, hq]
  · rw [State.Counts, State.after_rdN, hcnt, s.start_rdN]

theorem stockpotFetch_placed {pool x charge b i : Nat} {e : Dev} (hpool : s.dev.choosePool h.pkt.bytes.length = some pool)
    (hadmit : s.dev.admitStep h.ent h.ten (poolSize pool) h.pkt.yellow h.mirror = (x, some charge))
    (htake : s.start.takePool pool = (some (b, i), e)) : ∃ t, exec (.stockpotFetch false q false) s = .next t ∧
      s.Counts t (rSP_CNT 1) 1 ∧ t.dev.chQ q.val = h.fetchedTo ⟨pool, b, i, poolSize pool, charge, h.ent, h.ten⟩ :: l := by
  have hp4 : pool < 4 := List.mem_range.1 (List.mem_of_find?_eq_some hpool)
  have hkept : e.rd (rSP_CNT 1) = s.dev.rd (rSP_CNT 1) := by
    have hrd := s.start.rd_takePool_high (a := rSP_CNT 1) (by decide) hp4
    rw [htake] at hrd
    exact hrd
  obtain ⟨hq, hcnt⟩ := (e.chargeTo h.ent h.ten charge (poolSize pool) true).fetchCounted_shown q.val
    (h.fetchedTo ⟨pool, b, i, poolSize pool, charge, h.ent, h.ten⟩ :: l) h.page 1
  rw [Dev.rdN_congr (Dev.rd_chargeTo _ _ _ _ _ _ (by decide) (by decide)), Dev.rdN_congr hkept] at hcnt
  rw [exec_stockpotFetch]
  refine ⟨_, State.run_after hs.1 (f := fun d => d.spFetch q.val false)
    (Dev.spFetch_taken (State.start_fetchDue hd) hpool hadmit htake), ?_, ?_⟩
  · rw [State.Counts, State.after_rdN, hcnt]
  · rw [State.after_chQ, hq]

end

/-- Settles O33: the registers refuse what R408 and R410 refuse, spills and fetches move packets, and the reports show. -/
theorem theStockpotSpillsAndFetches : Obligations.TheStockpotSpillsAndFetches := by
  unfold Obligations.TheStockpotSpillsAndFetches
  refine ⟨fun s val hs hc => ⟨dramCtrlWrite_stores hs hc, dramCtrlWrite_busy hs hc⟩,
    fun s val hs => ⟨spRegionWrite_held hs, spRegionWrite_size hs, spRegionWrite_bad hs⟩, ?_, ?_, ?_⟩
  · intro s q h l hs hr hc hq hb
    refine ⟨spillWriteDone_written hs hr hc hq hb, fun hw hf => ⟨stockpotFetch_bad hs ⟨hr, hc, hq, hb, hw, hf⟩, ?_⟩⟩
    intro pool x charge b i e hpool hadmit htake
    exact stockpotFetch_placed hs ⟨hr, hc, hq, hb, hw, hf⟩ hpool hadmit htake
  · intro s m c h hown hch h1 hends
    exact diagDram_answers h hown hch h1 hends
  · intro s m c h hown h0 h1 hends
    exact stacksSpill_answers h hown h0 h1 hends

end Sys2Proof.Machine

/-! The DRAM controllers: what one request meets, the pick of its channel, and what its access does (14_dram.md R409-R419). -/

namespace Sys2Proof.Machine

/-! The registers and the memory. -/

/-- A register that shows a channel's state. -/
def dramShown (a : Nat) : Prop := ∃ c, a = rDRAM_CH_STATUS c

theorem dramShown_low {a : Nat} (h : dramShown a) : a % 4096 = 0 := by
  obtain ⟨c, rfl⟩ := h
  unfold rDRAM_CH_STATUS
  omega

theorem not_dramShown {a : Nat} (h : a % 4096 ≠ 0) : ¬dramShown a := fun hs => h (dramShown_low hs)

theorem dramCnt_not_shown (c : Nat) (i : Fin 8) : ¬dramShown (rDRAM_CH_CNT c i.val) := not_dramShown (by unfold rDRAM_CH_CNT; omega)

theorem dramCnt_not_inCnt (c : Nat) (i : Fin 8) : ¬inCnt (rDRAM_CH_CNT c i.val) := by
  unfold inCnt rDRAM_CH_CNT
  omega

theorem Dev.Writes.dram {P : Nat → Prop} {d e : Dev} (h : d.Writes P e) : e.dram = d.dram := (congrArg Dev.dram h.rest).trans rfl
theorem Dev.Writes.ciph {P : Nat → Prop} {d e : Dev} (h : d.Writes P e) : e.ciph = d.ciph := (congrArg Dev.ciph h.rest).trans rfl

theorem Dev.writes_showReqs (d : Dev) : d.Writes dramShown d.showReqs :=
  .foldl (fun e c _ => .ite (e.writes_put _ _ ⟨c, rfl⟩) (.refl _ e)) d

theorem Dev.showReqs_out (d : Dev) : d.showReqs.out = d.out :=
  foldl_keeps Dev.out (fun e c => by split <;> rfl) _ d

theorem Dev.get_showReqs (d : Dev) (a : Nat) {f : Fld} (hf : fDRAM_CH_STATUS_OUTSTANDING.disjoint f) : d.showReqs.get a f = d.get a f := by
  refine foldl_keeps (fun e : Dev => e.get a f) (fun e c => ?_) _ d
  split
  · by_cases ha : a = rDRAM_CH_STATUS c
    · rw [ha, Dev.get_put_disjoint _ _ _ hf]
    · exact Dev.get_put_ne _ _ _ _ ha
  · rfl

/-- What the address map of DRAM depends on stands alike in two devices. -/
structure Dev.DramLike (d e : Dev) : Prop where
  part : e.part = d.part
  ctrl : e.rd rDRAM_CTRL = d.rd rDRAM_CTRL

section
variable {d e f : Dev}

theorem Dev.DramLike.trans (h : d.DramLike e) (k : e.DramLike f) : d.DramLike f := ⟨k.part.trans h.part, k.ctrl.trans h.ctrl⟩

theorem Dev.DramLike.dramN (h : d.DramLike e) : e.dramN = d.dramN := by rw [Dev.dramN, h.part, Dev.bit_congr h.ctrl, Dev.dramN]

theorem Dev.DramLike.dramChan (h : d.DramLike e) (a : Nat) : e.dramChan a = d.dramChan a := by rw [Dev.dramChan, h.dramN, Dev.dramChan]

theorem Dev.DramLike.dramLocal (h : d.DramLike e) (a : Nat) : e.dramLocal a = d.dramLocal a := by rw [Dev.dramLocal, h.dramN, Dev.dramLocal]

theorem Dev.Writes.dramLike {P : Nat → Prop} (h : d.Writes P e) (hP : ¬P rDRAM_CTRL) : d.DramLike e :=
  ⟨(congrArg Dev.part h.rest).trans rfl, h.rd _ hP⟩

theorem Dev.dramLike_showReqs (d : Dev) : d.DramLike d.showReqs := d.writes_showReqs.dramLike (not_dramShown (by decide))

theorem Dev.dramLike_withDram (d : Dev) (x : DramState) : d.DramLike { d with dram := x } := ⟨rfl, rfl⟩

end

/-! One request reaches an idle controller. -/

/-- The device with one request in a bank queue. -/
def Dev.queued (d : Dev) (r : DramReq) : Dev := { d with dram := { d.dram with waits := [], reqs := [r] } }

/-- A DRAM that takes requests for an address: READY, the cipher block serving, the channel in service. -/
structure Dev.DramServes (d : Dev) (a : Nat) : Prop where
  ready : d.dramReady = true
  cipher : d.cipherOff = false
  up : d.dramIsDown (d.dramChan a) = false

theorem Dev.maxOut_pos (d : Dev) (p : Nat) : 0 < d.maxOut p := by
  unfold Dev.maxOut
  omega

theorem Dev.hasPlace_idle {d : Dev} (h : d.dram.reqs = []) (r : DramReq) (now : Nat) : d.hasPlace r now = true := by
  have hnone : ∀ c, d.chanReqs c = [] := fun c => by rw [Dev.chanReqs, h]; rfl
  have hroom : 0 < if d.urgency r now < 3 then 240 else 256 := by split <;> decide
  rw [Dev.hasPlace, hnone]
  simp only [List.filter_nil, List.length_nil, hroom, d.maxOut_pos, decide_true, Bool.and_self, Nat.zero_lt_succ]

theorem Dev.dramPlace_idle {d : Dev} {r : DramReq} (now : Nat) (hsrv : d.DramServes r.addr) (ha : r.addr < d.dramSize) (hq : d.dram.reqs = []) :
    d.dramPlace r now = some { d with dram := { d.dram with reqs := [r] } } := by
  obtain ⟨hready, hcipher, hup⟩ := hsrv
  rw [Dev.dramPlace, if_neg (Nat.not_le.2 ha), hready, hcipher, hup, Dev.hasPlace_idle hq, hq]
  simp only [List.filter_nil, List.isEmpty_nil, Bool.not_true, Bool.and_false, Bool.or_self, Bool.false_eq_true, if_false, if_true, List.nil_append]

theorem Dev.arrive_one {d : Dev} {r : DramReq} (now : Nat) (hsrv : d.DramServes r.addr) (ha : r.addr < d.dramSize) (hq : d.dram.reqs = [])
    (hw : d.dram.waits = []) : d.arrive now [r] = (d.queued r).showReqs := by
  have hplace : Dev.dramPlace { d with dram := { d.dram with waits := [] } } r now = some (d.queued r) :=
    Dev.dramPlace_idle (d := { d with dram := { d.dram with waits := [] } }) now ⟨hsrv.ready, hsrv.cipher, hsrv.up⟩ ha hq
  rw [Dev.arrive, hw, List.nil_append, Dev.placeAll]
  simp only [List.contains_nil, Bool.false_eq_true, if_false, hplace]
  rfl

theorem Dev.arrive_none {d : Dev} (now : Nat) (hw : d.dram.waits = []) : d.arrive now [] = d.showReqs := by
  have hsame : ({ d with dram := { d.dram with waits := [] } } : Dev) = d := by rw [← hw]
  rw [Dev.arrive, hw, hsame]
  rfl

/-! The pick (R413, R414). -/

theorem localBank_lt (l : Nat) : localBank l < 32 := by
  have hx : Nat.xor (l / 2 ^ 12 % 16) (localRow l % 16) < 2 ^ 4 := Nat.xor_lt_two_pow (by omega) (by omega)
  unfold localBank
  omega

/-- The only request of a channel whose banks hold no row open is what its bank queue offers, and no other offers any. -/
theorem Dev.bankHead_one {d : Dev} {r : DramReq} (hq : d.dram.reqs = [r]) (hrows : d.dram.rows = []) (b now : Nat) :
    d.bankHead b now = if d.reqBank r = b then some (r, false) else none := by
  rw [Dev.bankHead, hq, hrows]
  by_cases h : d.reqBank r = b
  · rw [List.filter_cons_of_pos (by rw [h]; exact beq_self_eq_true b), if_pos h]
    rfl
  · rw [List.filter_cons_of_neg (by rw [beq_iff_eq]; exact h), if_neg h]
    rfl

/-- The rotating order of a channel's bank queues names every one. -/
theorem mem_rotation (last : Nat) {b : Nat} (h : b < 32) : b ∈ (List.range 32).map (fun i => (last + 1 + i) % 32) :=
  List.mem_map.2 ⟨(b + 31 * (last + 1)) % 32, List.mem_range.2 (Nat.mod_lt _ (by decide)), by omega⟩

/-- A pick among one and the same offer is that offer. -/
theorem foldl_pick {α : Type} {g : Option α → α → Option α} {x : α} (hfirst : g none x = some x) (hnext : g (some x) x = some x)
    {l : List α} (hne : l ≠ []) (h : ∀ y ∈ l, y = x) : l.foldl g none = some x := by
  have hrest : ∀ k : List α, (∀ y ∈ k, y = x) → k.foldl g (some x) = some x := by
    intro k hk
    induction k with
    | nil => rfl
    | cons y k ih => rw [List.foldl_cons, hk y (.head _), hnext]; exact ih fun z hz => hk z (.tail _ hz)
  cases l with
  | nil => exact absurd rfl hne
  | cons y l => rw [List.foldl_cons, h y (.head _), hfirst]; exact hrest l fun z hz => h z (.tail _ hz)

theorem Dev.dramPick_one {d : Dev} {r : DramReq} (hq : d.dram.reqs = [r]) (hrows : d.dram.rows = []) (now : Nat) {ready : BitVec 32}
    (hready : ready.getLsbD (localBank (d.dramLocal r.addr)) = true) :
    d.dramPick (d.dramChan r.addr) now ready = some (localBank (d.dramLocal r.addr), r, false) := by
  have hlt := localBank_lt (d.dramLocal r.addr)
  have hbank : ∀ b, d.reqBank r = 32 * d.dramChan r.addr + b ↔ b = localBank (d.dramLocal r.addr) := fun b => by
    rw [Dev.reqBank]
    omega
  unfold Dev.dramPick
  refine foldl_pick rfl (ite_self _) (List.ne_nil_of_mem (a := (localBank (d.dramLocal r.addr), r, false)) ?_) fun y hy => ?_
  · refine List.mem_filterMap.2 ⟨_, mem_rotation _ hlt, ?_⟩
    rw [if_pos hready, Dev.bankHead_one hq hrows, if_pos ((hbank _).2 rfl)]
    rfl
  · obtain ⟨b, -, hb⟩ := List.mem_filterMap.1 hy
    split at hb
    · rw [Dev.bankHead_one hq hrows] at hb
      split at hb
      next heq =>
        rw [Option.map_some, Option.some.injEq, (hbank b).1 heq] at hb
        exact hb.symm
      · cases hb
    · cases hb

/-! The access (R415, R416, R418). -/

/-- The channel's turn taken and the bank's row left as the hint says, the request gone. -/
def Dev.picked (d : Dev) (c b : Nat) (r : DramReq) : Dev :=
  let d := { d with dram := { d.dram with reqs := d.dram.reqs.erase r, turn := (c, b) :: d.dram.turn.filter (fun x => x.1 != c) } }
  d.rowAfter (32 * c + b) r false

theorem Dev.picked_shown {d : Dev} (c b : Nat) {r : DramReq} (hq : d.dram.reqs = [r]) : (d.picked c b r).dram.reqs = [] ∧
    (d.picked c b r).dram.waits = d.dram.waits ∧ (d.picked c b r).dram.units = d.dram.units := by
  refine ⟨?_, rfl, rfl⟩
  have herase : (d.picked c b r).dram.reqs = d.dram.reqs.erase r := rfl
  rw [herase, hq, List.erase_cons_head]

/-- A read of a clean unit, counted. -/
def Dev.readClean (d : Dev) (port a : Nat) : Dev :=
  (d.bump (rDRAM_CH_CNT (d.dramChan a) 0)).evc 0x0300 1 { req := some port, addr := some a }

theorem Dev.dramRead_clean (d : Dev) (port a : Nat) : d.dramRead port a 0 = (false, d.readClean port a) := rfl

/-- The counter of a read or write and the event counters. -/
def dramCounted (c i a : Nat) : Prop := a = rDRAM_CH_CNT c i ∨ inCnt a

theorem dramCounted_ctrl (c : Nat) (i : Fin 8) : ¬dramCounted c i.val rDRAM_CTRL := by
  unfold dramCounted inCnt rDRAM_CH_CNT rDRAM_CTRL
  omega

/-- A counter bumped, and then event counters. -/
theorem Dev.counted_shown (d : Dev) (c : Nat) (i : Fin 8) (ev : Nat) (x : EvAttr) :
    d.Writes (dramCounted c i.val) ((d.bump (rDRAM_CH_CNT c i.val)).evc ev 1 x) ∧
      ((d.bump (rDRAM_CH_CNT c i.val)).evc ev 1 x).rdN (rDRAM_CH_CNT c i.val) % 2 ^ 31 = (d.rdN (rDRAM_CH_CNT c i.val) + 1) % 2 ^ 31 := by
  have hev := (Dev.rewrites_evc (d.bump (rDRAM_CH_CNT c i.val)) ev 1 x).writes
  refine ⟨(Dev.writes_bump (P := dramCounted c i.val) d (.inl rfl)).trans (hev.mono fun _ => .inr), ?_⟩
  rw [Dev.rdN_congr (hev.rd _ (dramCnt_not_inCnt c i)), Dev.bump, Dev.rdN_bumpBy_same]

theorem Dev.dramServe_row {d : Dev} {r : DramReq} (hrows : d.dram.rows = []) (hd : r.data = none) (c b : Nat) :
    d.dramServe c b r false 0 = ((d.picked c b r).readClean r.port.val r.addr).dramAnswer r false
      (((d.picked c b r).readClean r.port.val r.addr).unitAt (unitOf r.addr)) := by
  unfold Dev.dramServe
  rw [hrows, hd]
  rfl

/-- A unit's bytes replaced. -/
def Dev.withUnit (d : Dev) (u : Nat) (bs : List Byte) : Dev := { d with dram := { d.dram with units := sset unitZero d.dram.units u bs } }

/-- The unit of an address as a write leaves it, and the write counted. -/
def Dev.unitWritten (d : Dev) (r : DramReq) (bs : List Byte) : Dev :=
  (d.withUnit (unitOf r.addr) (unitMerge (d.unitAt (unitOf r.addr)) r.addr bs)).dramWrote r.port.val r.addr

theorem Dev.dramServe_whole {d : Dev} {r : DramReq} {bs : List Byte} (hrows : d.dram.rows = []) (hd : r.data = some bs) (ha : r.addr % 64 = 0)
    (hl : bs.length = 64) (c b : Nat) : d.dramServe c b r false 0 = (d.picked c b r).unitWritten r bs := by
  have hwhole : (r.addr % 64 == 0 && decide (64 ≤ bs.length)) = true := by rw [ha, hl]; rfl
  unfold Dev.dramServe
  rw [hrows, hd]
  simp only [hwhole, if_true]
  rfl

/-- A whole write leaves nothing of the unit's old bytes. -/
theorem unitMerge_whole {old bs : List Byte} {a : Nat} (ha : a % 64 = 0) (hold : old.length = 64) (hl : bs.length = 64) :
    unitMerge old a bs = bs := by
  unfold unitMerge
  rw [ha, hl, List.take_of_length_le (by omega : bs.length ≤ 64 - 0), List.drop_eq_nil_of_le (by omega)]
  simp only [List.take_zero, List.nil_append, List.append_nil]

end Sys2Proof.Machine

/-! The commands of the DRAM controllers, and the obligation on them (14_dram.md R413-R424). -/

namespace Sys2Proof.Machine

/-! DRAM_ACCESS_DONE (R413-R418). -/

/-- What the end of an access does. -/
def Dev.accessDone (c : Nat) (now : Nat) (rs : List DramReq) (ready : BitVec 32) (bad : Nat) (d : Dev) : Dev :=
  let d := d.arrive now rs
  if !(d.dramReady) || d.cipherOff || d.dramIsDown c then d else
  match d.dramPick c now ready with
  | some (b, r, passed) => ((d.dramServe c b r passed bad).arrive now []).showReqs
  | none => d

theorem exec_dramAccessDone (c : Fin 16) (ns : Fin 125000) (rs : List DramReq) (ready : BitVec 32) (bad : Fin 73) (s : State) :
    exec (.dramAccessDone c ns rs ready bad) s =
      s.run (fun d => d.accessDone c.val (instant d.tickNow ns.val) rs ready bad.val) := rfl

/-- The device with one request in a bank queue, and the channels' states shown. -/
def Dev.held (d : Dev) (r : DramReq) : Dev := (d.queued r).showReqs

theorem Dev.held_dram (d : Dev) (r : DramReq) : (d.held r).dram = (d.queued r).dram := (Dev.writes_showReqs _).dram

theorem Dev.dramLike_held (d : Dev) (r : DramReq) : d.DramLike (d.held r) :=
  (d.dramLike_withDram { d.dram with waits := [], reqs := [r] }).trans (Dev.dramLike_showReqs _)

theorem Dev.rd_held (d : Dev) (r : DramReq) {a : Nat} (h : ¬dramShown a) : (d.held r).rd a = d.rd a := (Dev.writes_showReqs _).rd a h

theorem Dev.held_unitAt (d : Dev) (r : DramReq) (u : Nat) : (d.held r).unitAt u = d.unitAt u := by
  rw [Dev.unitAt, d.held_dram]
  rfl

theorem Dev.held_serves {d : Dev} {r : DramReq} (h : d.DramServes r.addr) : (d.held r).DramServes r.addr := by
  obtain ⟨hready, hcipher, hup⟩ := h
  refine ⟨?_, ?_, ?_⟩
  · rw [Dev.dramReady, Dev.bit_congr (d.rd_held r (not_dramShown (by decide))), ← Dev.dramReady, hready]
  · rw [Dev.cipherOff, Dev.zeroised, Dev.bit_congr (d.rd_held r (not_dramShown (by decide))), ← Dev.zeroised,
      show (d.held r).ciph = d.ciph from (Dev.writes_showReqs _).ciph, ← Dev.cipherOff, hcipher]
  · have hget : (d.held r).dramIsDown (d.dramChan r.addr) = d.dramIsDown (d.dramChan r.addr) :=
      congrArg (· == 1) ((d.queued r).get_showReqs _ (by decide))
    rw [(d.dramLike_held r).dramChan, hget, hup]

/-- The channel's access of the only request, and the channels' states shown. -/
def Dev.dramAccessed (d : Dev) (r : DramReq) : Dev :=
  ((d.held r).dramServe (d.dramChan r.addr) (localBank (d.dramLocal r.addr)) r false 0).showReqs.showReqs

theorem Dev.accessDone_one {d : Dev} {r : DramReq} (now : Nat) {ready : BitVec 32} (hsrv : d.DramServes r.addr) (ha : r.addr < d.dramSize)
    (hq : d.dram.reqs = []) (hw : d.dram.waits = []) (hrows : d.dram.rows = [])
    (hready : ready.getLsbD (localBank (d.dramLocal r.addr)) = true)
    (hserve : ((d.held r).dramServe (d.dramChan r.addr) (localBank (d.dramLocal r.addr)) r false 0).dram.waits = []) :
    d.accessDone (d.dramChan r.addr) now [r] ready 0 = d.dramAccessed r := by
  have hdram := d.held_dram r
  have hlike := d.dramLike_held r
  obtain ⟨hR, hC, hU⟩ := Dev.held_serves hsrv
  have hpick : (d.held r).dramPick (d.dramChan r.addr) now ready = some (localBank (d.dramLocal r.addr), r, false) := by
    rw [← hlike.dramLocal] at hready
    have hone := Dev.dramPick_one (d := d.held r) (now := now) (by rw [hdram]; rfl) (by rw [hdram]; exact hrows) hready
    rwa [hlike.dramLocal, hlike.dramChan] at hone
  rw [hlike.dramChan] at hU
  unfold Dev.accessDone
  rw [Dev.arrive_one now hsrv ha hq hw, ← Dev.held]
  simp only [hR, hC, hU, hpick, Bool.not_true, Bool.or_self, Bool.false_eq_true, if_false]
  rw [Dev.arrive_none now hserve, Dev.dramAccessed]

/-- A read's data, as its port gets it. -/
def Dev.answerOut (d : Dev) (r : DramReq) (bs : List Byte) : Out := ⟨.dram, r.port.val, [d.dramChan r.addr, r.addr, 0, 0], bs⟩

theorem Dev.dramAnswer_data (d : Dev) (r : DramReq) (bs : List Byte) :
    d.dramAnswer r false bs = { d with out := d.answerOut r bs :: d.out } := rfl

theorem Dev.dramLike_picked (d : Dev) (c b : Nat) (r : DramReq) : d.DramLike (d.picked c b r) := ⟨rfl, rfl⟩

/-- What a clean read leaves in a channel whose only request it is. -/
theorem Dev.readClean_shown {d : Dev} (c b : Nat) {r : DramReq} (hq : d.dram.reqs = [r]) :
    ∃ e, (d.picked c b r).readClean r.port.val r.addr = e ∧ d.DramLike e ∧ e.dram.reqs = [] ∧ e.dram.waits = d.dram.waits ∧
      e.dram.units = d.dram.units ∧
      e.rdN (rDRAM_CH_CNT (d.dramChan r.addr) 0) % 2 ^ 31 = (d.rdN (rDRAM_CH_CNT (d.dramChan r.addr) 0) + 1) % 2 ^ 31 := by
  obtain ⟨hreqs, hwaits, hunits⟩ := d.picked_shown c b hq
  have hlike := d.dramLike_picked c b r
  obtain ⟨hw, hcnt⟩ := (d.picked c b r).counted_shown (d.dramChan r.addr) 0 0x0300 { req := some r.port.val, addr := some r.addr }
  have hread : (d.picked c b r).readClean r.port.val r.addr =
      ((d.picked c b r).bump (rDRAM_CH_CNT (d.dramChan r.addr) 0)).evc 0x0300 1 { req := some r.port.val, addr := some r.addr } := by
    rw [Dev.readClean, hlike.dramChan]
  refine ⟨_, hread, hlike.trans (hw.dramLike (dramCounted_ctrl _ 0)), ?_, ?_, ?_, hcnt⟩
  · exact (congrArg DramState.reqs hw.dram).trans hreqs
  · exact (congrArg DramState.waits hw.dram).trans hwaits
  · exact (congrArg DramState.units hw.dram).trans hunits

theorem Dev.served_read {d : Dev} {r : DramReq} (b : Nat) (hq : d.dram.reqs = [r]) (hrows : d.dram.rows = []) (hd : r.data = none) :
    ∃ e, d.dramServe (d.dramChan r.addr) b r false 0 = e ∧ e.dram.reqs = [] ∧ e.dram.waits = d.dram.waits ∧
      e.rdN (rDRAM_CH_CNT (d.dramChan r.addr) 0) % 2 ^ 31 = (d.rdN (rDRAM_CH_CNT (d.dramChan r.addr) 0) + 1) % 2 ^ 31 ∧
      d.answerOut r (d.unitAt (unitOf r.addr)) ∈ e.out := by
  obtain ⟨e, he, hlike, hreqs, hwaits, hunits, hcnt⟩ := Dev.readClean_shown (d.dramChan r.addr) b hq
  have hunit : e.unitAt (unitOf r.addr) = d.unitAt (unitOf r.addr) := by rw [Dev.unitAt, hunits, Dev.unitAt]
  have hout : e.answerOut r (e.unitAt (unitOf r.addr)) = d.answerOut r (d.unitAt (unitOf r.addr)) := by
    rw [Dev.answerOut, hlike.dramChan, hunit, Dev.answerOut]
  rw [Dev.dramServe_row hrows hd, he, Dev.dramAnswer_data, hout]
  exact ⟨_, rfl, hreqs, hwaits, hcnt, .head _⟩

/-- What a whole write leaves in a channel whose only request it is. -/
theorem Dev.served_whole {d : Dev} {r : DramReq} {bs : List Byte} (b : Nat) (hq : d.dram.reqs = [r]) (hrows : d.dram.rows = [])
    (hd : r.data = some bs) (ha : r.addr % 64 = 0) (hl : bs.length = 64) (hold : (d.unitAt (unitOf r.addr)).length = 64) :
    ∃ e, d.dramServe (d.dramChan r.addr) b r false 0 = e ∧ e.dram.reqs = [] ∧ e.dram.waits = d.dram.waits ∧
      e.unitAt (unitOf r.addr) = bs ∧
      e.rdN (rDRAM_CH_CNT (d.dramChan r.addr) 1) % 2 ^ 31 = (d.rdN (rDRAM_CH_CNT (d.dramChan r.addr) 1) + 1) % 2 ^ 31 := by
  obtain ⟨hreqs, hwaits, hunits⟩ := d.picked_shown (d.dramChan r.addr) b hq
  have hunit : (d.picked (d.dramChan r.addr) b r).unitAt (unitOf r.addr) = d.unitAt (unitOf r.addr) := by
    rw [Dev.unitAt, hunits, Dev.unitAt]
  rw [Dev.dramServe_whole hrows hd ha hl]
  rw [Dev.unitWritten, hunit, unitMerge_whole ha hold hl]
  generalize hE : (d.picked (d.dramChan r.addr) b r).withUnit (unitOf r.addr) bs = e
  have hlike : d.DramLike e := by subst hE; exact ⟨rfl, rfl⟩
  obtain ⟨hw, hcnt⟩ := e.counted_shown (d.dramChan r.addr) 1 0x0301 { req := some r.port.val, addr := some r.addr }
  rw [Dev.dramWrote, hlike.dramChan]
  refine ⟨_, rfl, (congrArg DramState.reqs hw.dram).trans ?_, (congrArg DramState.waits hw.dram).trans ?_, ?_, hcnt.trans ?_⟩
  · subst hE; exact hreqs
  · subst hE; exact hwaits
  · refine (congrArg (fun x => sget unitZero x.units (unitOf r.addr)) hw.dram).trans ?_
    subst hE
    exact sget_sset_same ..
  · subst hE; rfl

end Sys2Proof.Machine

/-! Accesses, refresh, strobes, scrub and start-up of DRAM, and the obligation on them (14_dram.md R413-R424). -/

namespace Sys2Proof.Machine

theorem State.start_dramServes {s : State} {a : Nat} (h : s.dev.DramServes a) : s.start.DramServes a := ⟨h.ready, h.cipher, h.up⟩
theorem State.start_dramN (s : State) : s.start.dramN = s.dev.dramN := rfl
theorem State.after_dramReady (s : State) (e : Dev) : (s.after e).dev.dramReady = e.dramReady := rfl
theorem State.start_dramLocal (s : State) (a : Nat) : s.start.dramLocal a = s.dev.dramLocal a := rfl
theorem State.start_dramChan (s : State) (a : Nat) : s.start.dramChan a = s.dev.dramChan a := rfl
theorem State.start_dramSize (s : State) : s.start.dramSize = s.dev.dramSize := rfl
theorem State.start_unitAt (s : State) (u : Nat) : s.start.unitAt u = s.dev.unitAt u := rfl
theorem State.start_dram (s : State) : s.start.dram = s.dev.dram := rfl
theorem State.after_unitAt (s : State) (e : Dev) (u : Nat) : (s.after e).dev.unitAt u = e.unitAt u := rfl
theorem State.after_out (s : State) (e : Dev) : (s.after e).dev.out = e.out := rfl

/-- The channels' states shown twice over leave everything else of a device. -/
theorem Dev.showReqs_twice (d : Dev) : d.showReqs.showReqs.dram = d.dram ∧ d.showReqs.showReqs.out = d.out ∧
    ∀ c i, i < 8 → d.showReqs.showReqs.rdN (rDRAM_CH_CNT c i) = d.rdN (rDRAM_CH_CNT c i) := by
  have hw := d.writes_showReqs.trans d.showReqs.writes_showReqs
  exact ⟨hw.dram, by rw [Dev.showReqs_out, Dev.showReqs_out],
    fun c i hi => Dev.rdN_congr (hw.rd _ (dramCnt_not_shown c ⟨i, hi⟩))⟩

theorem State.held_count (s : State) (c : Fin 16) (r : DramReq) (i : Nat) (hi : i < 8 := by decide) :
    (s.start.held r).rdN (rDRAM_CH_CNT c.val i) = s.dev.rdN (rDRAM_CH_CNT c.val i) :=
  Dev.rdN_congr (Dev.rd_held s.start r (dramCnt_not_shown c.val ⟨i, hi⟩))

/-- An idle controller that takes one request, whose bank is ready. -/
structure State.Access (s : State) (c : Fin 16) (r : DramReq) (ready : BitVec 32) : Prop where
  runs : s.Runs
  serves : s.dev.DramServes r.addr
  chan : c.val = s.dev.dramChan r.addr
  inside : r.addr < s.dev.dramSize
  idle : s.dev.dram.reqs = [] ∧ s.dev.dram.waits = [] ∧ s.dev.dram.rows = []
  bank : ready.getLsbD (localBank (s.dev.dramLocal r.addr)) = true

section
variable {s : State} {c : Fin 16} {r : DramReq} {ready : BitVec 32} (h : s.Access c r ready) (ns : Fin 125000)
include h

/-- The access serves the one request at once. -/
theorem dramAccessDone_serves {e : Dev} (hserve : (s.start.held r).dramServe ((s.start.held r).dramChan r.addr)
    (localBank (s.dev.dramLocal r.addr)) r false 0 = e) (hwaits : e.dram.waits = []) :
    exec (.dramAccessDone c ns [r] ready 0) s = .next (s.after e.showReqs.showReqs) := by
  obtain ⟨hs, hsrv, hc, ha, ⟨hq, hw, hrows⟩, hbank⟩ := h
  rw [(s.start.dramLike_held r).dramChan, s.start_dramChan] at hserve
  rw [← s.start_dramLocal] at hbank hserve
  have hdone := Dev.accessDone_one (d := s.start) (instant s.start.tickNow ns.val) (State.start_dramServes hsrv) (s.start_dramSize ▸ ha)
    hq hw hrows hbank
  rw [s.start_dramChan, hserve, Dev.dramAccessed, s.start_dramChan, hserve, ← hc] at hdone
  rw [exec_dramAccessDone]
  exact State.run_after hs.1 (f := fun d => d.accessDone c.val (instant d.tickNow ns.val) [r] ready 0) (hdone hwaits)

theorem dramAccessDone_read (hd : r.data = none) : ∃ t, exec (.dramAccessDone c ns [r] ready 0) s = .next t ∧ t.dev.dram.reqs = [] ∧
    s.Counts t (rDRAM_CH_CNT c.val 0) 1 ∧ ⟨.dram, r.port.val, [c.val, r.addr, 0, 0], s.dev.unitAt (unitOf r.addr)⟩ ∈ t.dev.out := by
  obtain ⟨hq, hw, hrows⟩ := h.idle
  have hdram := s.start.held_dram r
  have hchan : (s.start.held r).dramChan r.addr = c.val := ((s.start.dramLike_held r).dramChan _).trans h.chan.symm
  obtain ⟨e, he, hreqs, hwaits, hcnt, hout⟩ := Dev.served_read (d := s.start.held r) (localBank (s.dev.dramLocal r.addr))
    (by rw [hdram]; rfl) (by rw [hdram]; exact hrows) hd
  obtain ⟨hD, hO, hR⟩ := e.showReqs_twice
  rw [hchan, s.held_count c r 0] at hcnt
  rw [Dev.answerOut, hchan, Dev.held_unitAt, s.start_unitAt] at hout
  refine ⟨_, dramAccessDone_serves h ns he (hwaits.trans (by rw [hdram]; rfl)), ?_, ?_, ?_⟩
  · rw [State.after_dram, hD, hreqs]
  · rw [State.Counts, State.after_rdN, hR _ _ (by decide), hcnt]
  · rw [State.after_out, hO]
    exact hout

theorem dramAccessDone_write {bs : List Byte} (hd : r.data = some bs) (ha : r.addr % 64 = 0) (hl : bs.length = 64)
    (hold : (s.dev.unitAt (unitOf r.addr)).length = 64) : ∃ t, exec (.dramAccessDone c ns [r] ready 0) s = .next t ∧ t.dev.dram.reqs = [] ∧
      t.dev.unitAt (unitOf r.addr) = bs ∧ s.Counts t (rDRAM_CH_CNT c.val 1) 1 := by
  obtain ⟨hq, hw, hrows⟩ := h.idle
  have hdram := s.start.held_dram r
  have hchan : (s.start.held r).dramChan r.addr = c.val := ((s.start.dramLike_held r).dramChan _).trans h.chan.symm
  obtain ⟨e, he, hreqs, hwaits, hunit, hcnt⟩ := Dev.served_whole (d := s.start.held r) (localBank (s.dev.dramLocal r.addr))
    (by rw [hdram]; rfl) (by rw [hdram]; exact hrows) hd ha hl (by rw [Dev.held_unitAt, s.start_unitAt, hold])
  obtain ⟨hD, -, hR⟩ := e.showReqs_twice
  rw [hchan, s.held_count c r 1] at hcnt
  refine ⟨_, dramAccessDone_serves h ns he (hwaits.trans (by rw [hdram]; rfl)), ?_, ?_, ?_⟩
  · rw [State.after_dram, hD, hreqs]
  · rw [State.after_unitAt, Dev.unitAt, hD, ← Dev.unitAt, hunit]
  · rw [State.Counts, State.after_rdN, hR _ _ (by decide), hcnt]

end

/-! REFRESH, REFRESH_RATE_READ and READ_STROBE_CHECK (R416, R423, R424). -/

/-- A bank's open row closed. -/
def Dev.rowClosed (b : Nat) (d : Dev) : Dev := { d with dram := { d.dram with rows := d.dram.rows.filter (fun x => x.1 != b) } }

theorem exec_refresh (c : Fin 16) (b : Fin 32) (s : State) : exec (.refresh c b) s = s.run (Dev.rowClosed (32 * c.val + b.val)) := rfl

theorem refresh_closes {s : State} (hs : s.Runs) (c : Fin 16) (b : Fin 32) : ∃ t, exec (.refresh c b) s = .next t ∧
    (∀ x ∈ t.dev.dram.rows, x.1 ≠ 32 * c.val + b.val) ∧
    s.OnlyChanges t [] { s.dev with dram := { s.dev.dram with rows := t.dev.dram.rows } } := by
  obtain ⟨hrun, honly⟩ := State.run_writes hs (f := Dev.rowClosed (32 * c.val + b.val)) (l := []) (o := [])
    (d := s.dev.rowClosed (32 * c.val + b.val)) ⟨rfl, rfl, rfl⟩ rfl (.refl ..)
  rw [exec_refresh]
  refine ⟨_, hrun, fun x hx => ?_, honly⟩
  exact bne_iff_ne.1 (List.mem_filter.1 hx).2

/-- A refresh code shown, and whether the channel is too hot. -/
def Dev.codeShown (d : Dev) (c code : Nat) (hot : Bool) : Dev :=
  let d' := d.put (rDRAM_CH_STATUS c) fDRAM_CH_STATUS_REFRESH_CODE code
  { d' with dram := { d.dram with hot := d.dram.hot - b2n (nbit d.dram.hot c) * 2 ^ c + b2n hot * 2 ^ c } }

/-- What the reading of a channel's refresh rate does. -/
def Dev.rateRead (c code : Nat) (hot : Bool) (d : Dev) : Dev :=
  if !(d.dramOn c) then d else
  if hot && !(nbit d.dram.hot c) then ((d.codeShown c code hot).mark rDRAM_ERR fDRAM_ERR_HOT).alert 0x0D04 (p4 c ++ p4 code)
  else d.codeShown c code hot

theorem exec_refreshRateRead (c : Fin 16) (code : Fin 256) (hot : Bool) (s : State) :
    exec (.refreshRateRead c code hot) s = s.run (Dev.rateRead c.val code.val hot) := rfl

section
variable {d : Dev} {c : Nat} (hcool : nbit d.dram.hot c = false) (code : Nat)
include hcool

theorem Dev.codeShown_cool : d.codeShown c code false = d.put (rDRAM_CH_STATUS c) fDRAM_CH_STATUS_REFRESH_CODE code := by
  have hhot : d.dram.hot - b2n (nbit d.dram.hot c) * 2 ^ c + b2n false * 2 ^ c = d.dram.hot := by
    rw [hcool, show b2n false = 0 from rfl, Nat.zero_mul, Nat.sub_zero, Nat.add_zero]
  rw [Dev.codeShown, hhot]
  rfl

theorem Dev.codeShown_hot : (d.codeShown c code true).dram.hot = d.dram.hot + 2 ^ c := by
  have hhot : d.dram.hot - b2n (nbit d.dram.hot c) * 2 ^ c + b2n true * 2 ^ c = d.dram.hot + 2 ^ c := by
    rw [hcool, show b2n false = 0 from rfl, show b2n true = 1 from rfl, Nat.zero_mul, Nat.sub_zero, Nat.one_mul]
  exact hhot

end

theorem Dev.rateRead_on {d : Dev} {c : Nat} (hon : d.dramOn c = true) (hcool : nbit d.dram.hot c = false) (code : Nat)
    (hot : Bool) : d.rateRead c code hot =
    if hot then ((d.codeShown c code hot).mark rDRAM_ERR fDRAM_ERR_HOT).alert 0x0D04 (p4 c ++ p4 code) else d.codeShown c code hot := by
  rw [Dev.rateRead, hon, hcool, Bool.not_false, Bool.and_true, if_neg (by decide)]

/-- A channel retrained in this tick. -/
def Dev.retrained (d : Dev) (c : Nat) : Dev := { d with dram := { d.dram with retrainTick := some d.tickNow } }.bump (rDRAM_CH_CNT c 5)

theorem exec_readStrobeCheck (c : Fin 16) (drifted : Bool) (s : State) : exec (.readStrobeCheck c drifted) s = s.run (fun d =>
    if !drifted || !(d.dramOn c.val) || d.dram.retrainTick == some d.tickNow then d else d.retrained c.val) := rfl

theorem State.start_dramOn (s : State) (c : Nat) : s.start.dramOn c = s.dev.dramOn c := rfl

section
variable {s : State} (hs : s.Runs) {c : Fin 16} (hon : s.dev.dramOn c.val = true)
include hs hon

theorem refreshRateRead_cool (code : Fin 256) (hcool : nbit s.dev.dram.hot c.val = false) :
    ∃ t, exec (.refreshRateRead c code false) s = .next t ∧
      t.dev.get (rDRAM_CH_STATUS c.val) fDRAM_CH_STATUS_REFRESH_CODE = code.val ∧ s.OnlyChanges t [rDRAM_CH_STATUS c.val] s.dev := by
  have hread : s.start.rateRead c.val code.val false = s.start.put (rDRAM_CH_STATUS c.val) fDRAM_CH_STATUS_REFRESH_CODE code.val :=
    ((Dev.rateRead_on (d := s.start) hon hcool code.val false).trans (if_neg Bool.false_ne_true)).trans
      (Dev.codeShown_cool (d := s.start) hcool code.val)
  obtain ⟨hrun, honly⟩ := State.run_writes_regs hs hread (s.start.writes_put _ _ (.head _))
  rw [exec_refreshRateRead]
  exact ⟨_, hrun, Dev.get_put_eq _ _ ⟨by decide, by decide, code.isLt⟩, honly⟩

theorem refreshRateRead_hot (code : Fin 256) (hcool : nbit s.dev.dram.hot c.val = false) :
    ∃ t, exec (.refreshRateRead c code true) s = .next t ∧ t.dev.bit rDRAM_ERR fDRAM_ERR_HOT = true ∧
      t.dev.dram.hot = s.dev.dram.hot + 2 ^ c.val := by
  have hread := (Dev.rateRead_on (d := s.start) hon hcool code.val true).trans (if_pos rfl)
  have hhot : (s.start.codeShown c.val code.val true).dram.hot = s.dev.dram.hot + 2 ^ c.val := Dev.codeShown_hot (d := s.start) hcool code.val
  rw [exec_refreshRateRead]
  refine ⟨_, State.run_after hs.1 hread, ?_, ?_⟩
  · rw [State.after_bit, Dev.bit_alert _ _ _ _ (by decide)]
    exact Dev.bit_mark_same _ _ rfl (by decide)
  · rw [State.after_dram, Dev.alert_dram, Dev.mark, Dev.put_dram, hhot]

theorem readStrobeCheck_drifted (hnew : s.dev.dram.retrainTick ≠ some s.dev.tickNow) :
    ∃ t, exec (.readStrobeCheck c true) s = .next t ∧ t.dev.dram.retrainTick = some s.dev.tickNow ∧ s.Counts t (rDRAM_CH_CNT c.val 5) 1 := by
  have hgo : (!true || !(s.start.dramOn c.val) || s.start.dram.retrainTick == some s.start.tickNow) = false := by
    rw [s.start_dramOn, hon, s.start_dram, s.start_tickNow, beq_eq_false_iff_ne.2 hnew]
    rfl
  have hcnt : (s.start.retrained c.val).rdN (rDRAM_CH_CNT c.val 5) % 2 ^ 31 = (s.start.rdN (rDRAM_CH_CNT c.val 5) + 1) % 2 ^ 31 :=
    Dev.rdN_bumpBy_same ..
  have htick : (s.start.retrained c.val).dram.retrainTick = some s.start.tickNow := rfl
  rw [exec_readStrobeCheck]
  refine ⟨_, State.run_after hs.1 (if_neg (ne_true_of_eq_false hgo)), ?_, ?_⟩
  · rw [State.after_dram, htick, s.start_tickNow]
  · rw [State.Counts, State.after_rdN, hcnt, s.start_rdN]

end

theorem readStrobeCheck_steady {s : State} (hs : s.Runs) (c : Fin 16) :
    ∃ t, exec (.readStrobeCheck c false) s = .next t ∧ s.OnlyChanges t [] s.dev := by
  rw [exec_readStrobeCheck]
  exact State.run_nothing hs (if_pos rfl)

/-! SCRUB_READ (R421). -/

/-- The scrub's next address taken. -/
def Dev.scrubMoved (d : Dev) : Dev := { d with dram := { d.dram with scrubAt := (d.dram.scrubAt + 64) % d.dramSize } }

theorem Dev.rdN_scrubMoved (d : Dev) (a : Nat) : d.scrubMoved.rdN a = d.rdN a := rfl
theorem Dev.dramChan_scrubMoved (d : Dev) (a : Nat) : d.scrubMoved.dramChan a = d.dramChan a := rfl

/-- What a read of the patrol scrub does. -/
def Dev.scrubbed (bad : Nat) (raced : Bool) (d : Dev) : Dev :=
  if !(d.bit rDRAM_CTRL fDRAM_CTRL_SCRUB_EN) || !(d.dramReady) || d.cipherOff then d else
  if d.scrubMoved.dramIsDown (d.dramChan d.dram.scrubAt) then d.scrubMoved.bump (rDRAM_CH_CNT (d.dramChan d.dram.scrubAt) 6) else
  let n := d.scrubMoved.rdN (rDRAM_CH_CNT (d.dramChan d.dram.scrubAt) 3)
  let x := d.scrubMoved.dramRead 4 d.dram.scrubAt bad
  let fixed := !x.1 && x.2.rdN (rDRAM_CH_CNT (d.dramChan d.dram.scrubAt) 3) != n
  if fixed && !raced then (x.2.dramWrote 4 d.dram.scrubAt).bump (rDRAM_CH_CNT (d.dramChan d.dram.scrubAt) 7) else x.2

theorem exec_scrubRead (bad : Fin 73) (raced : Bool) (s : State) :
    exec (.scrubRead bad raced) s = s.run (Dev.scrubbed bad.val raced) := rfl

/-- A scrub that reads a clean unit repairs nothing. -/
theorem Dev.scrubbed_clean {d : Dev} (raced : Bool) (hen : d.bit rDRAM_CTRL fDRAM_CTRL_SCRUB_EN = true) (hsrv : d.DramServes d.dram.scrubAt) :
    d.scrubbed 0 raced = d.scrubMoved.readClean 4 d.dram.scrubAt := by
  obtain ⟨hready, hcipher, hup⟩ := hsrv
  have hup' : d.scrubMoved.dramIsDown (d.dramChan d.dram.scrubAt) = false := hup
  have hchan : d.scrubMoved.dramChan d.dram.scrubAt = d.dramChan d.dram.scrubAt := rfl
  have hfix : (d.scrubMoved.readClean 4 d.dram.scrubAt).rdN (rDRAM_CH_CNT (d.dramChan d.dram.scrubAt) 3) =
      d.scrubMoved.rdN (rDRAM_CH_CNT (d.dramChan d.dram.scrubAt) 3) := by
    have hw := (d.scrubMoved.counted_shown (d.dramChan d.dram.scrubAt) 0 0x0300 { req := some 4, addr := some d.dram.scrubAt }).1
    rw [Dev.readClean, hchan]
    refine Dev.rdN_congr (hw.rd _ ?_)
    unfold dramCounted inCnt rDRAM_CH_CNT
    simp only [Fin.val_zero]
    omega
  unfold Dev.scrubbed
  rw [hen, hready, hcipher, if_neg (by decide), hup', if_neg (by decide), Dev.dramRead_clean]
  simp only [hfix, bne_self_eq_false, Bool.and_false, Bool.false_and, Bool.false_eq_true, if_false]

theorem scrubRead_clean {s : State} (hs : s.Runs) (raced : Bool) (hen : s.dev.bit rDRAM_CTRL fDRAM_CTRL_SCRUB_EN = true)
    (hsrv : s.dev.DramServes s.dev.dram.scrubAt) : ∃ t, exec (.scrubRead 0 raced) s = .next t ∧
      t.dev.dram = { s.dev.dram with scrubAt := (s.dev.dram.scrubAt + 64) % s.dev.dramSize } ∧
      s.Counts t (rDRAM_CH_CNT (s.dev.dramChan s.dev.dram.scrubAt) 0) 1 := by
  have hread : s.start.scrubbed 0 raced = s.start.scrubMoved.readClean 4 s.dev.dram.scrubAt :=
    Dev.scrubbed_clean (d := s.start) raced hen (State.start_dramServes hsrv)
  have hmoved : s.start.scrubMoved.dram = { s.dev.dram with scrubAt := (s.dev.dram.scrubAt + 64) % s.dev.dramSize } := by
    rw [Dev.scrubMoved, s.start_dram, s.start_dramSize]
  have hcount : ∀ a, s.start.scrubMoved.rdN a = s.dev.rdN a := s.start.rdN_scrubMoved
  have hchan : s.start.scrubMoved.dramChan s.dev.dram.scrubAt = s.dev.dramChan s.dev.dram.scrubAt := s.start.dramChan_scrubMoved _
  obtain ⟨hw, hcnt⟩ := s.start.scrubMoved.counted_shown (s.dev.dramChan s.dev.dram.scrubAt) 0 0x0300
    { req := some 4, addr := some s.dev.dram.scrubAt }
  rw [exec_scrubRead]
  refine ⟨_, State.run_after hs.1 (f := Dev.scrubbed (0 : Fin 73).val raced) hread, ?_, ?_⟩
  · rw [State.after_dram, Dev.readClean, hchan]
    exact hw.dram.trans hmoved
  · rw [State.Counts, State.after_rdN, Dev.readClean, hchan, ← hcount]
    exact hcnt

/-! DRAM_INIT_DONE (R422). -/

/-- A channel trained. -/
def Dev.trained (d : Dev) (c : Nat) : Dev := d.put (rDRAM_CH_STATUS c) fDRAM_CH_STATUS_TRAINED 1

/-- Every channel trained. -/
def Dev.allTrained (d : Dev) : Dev := (List.range d.dramN).foldl Dev.trained d

theorem Dev.writes_allTrained (d : Dev) : d.Writes dramShown d.allTrained := .foldl (fun e c _ => e.writes_put _ _ ⟨c, rfl⟩) d

theorem Dev.trained_keeps (d : Dev) (j : Nat) {c : Nat} (h : d.bit (rDRAM_CH_STATUS c) fDRAM_CH_STATUS_TRAINED = true) :
    (d.trained j).bit (rDRAM_CH_STATUS c) fDRAM_CH_STATUS_TRAINED = true := by
  by_cases hc : rDRAM_CH_STATUS c = rDRAM_CH_STATUS j
  · rw [hc]
    exact Dev.bit_put_one _ _ (by decide)
  · rw [Dev.trained, Dev.bit_put_ne _ _ _ _ hc, h]

theorem Dev.allTrained_trained (d : Dev) {c : Nat} (hc : c < d.dramN) :
    d.allTrained.bit (rDRAM_CH_STATUS c) fDRAM_CH_STATUS_TRAINED = true := by
  have hfold : ∀ (l : List Nat) (e : Dev), c ∈ l ∨ e.bit (rDRAM_CH_STATUS c) fDRAM_CH_STATUS_TRAINED = true →
      (l.foldl Dev.trained e).bit (rDRAM_CH_STATUS c) fDRAM_CH_STATUS_TRAINED = true := by
    intro l
    induction l with
    | nil => exact fun e h => h.resolve_left (by simp)
    | cons j l ih =>
      intro e h
      rw [List.foldl_cons]
      refine ih _ ?_
      rcases h with h | h
      · rcases List.mem_cons.1 h with rfl | hl
        · exact .inr (Dev.bit_put_one _ _ (by decide))
        · exact .inl hl
      · exact .inr (e.trained_keeps j h)
  exact hfold _ d (.inl (List.mem_range.2 hc))

/-- The scrub begun anew, and DRAM shown READY. -/
def Dev.fillDone (d : Dev) : Dev := { d with dram := { d.dram with scrubAt := 0 } }.mark rDRAM_STATUS fDRAM_STATUS_READY

theorem Dev.fillDone_dram (d : Dev) : d.fillDone.dram = { d.dram with scrubAt := 0 } := rfl

/-- The channels' ends of training and fill, with those that failed. -/
def Dev.fillEnd (fails : List (Fin 16 × Nat)) (d : Dev) : Dev :=
  let failed := fun (c : Nat) => fails.any (fun f => f.1.val == c)
  let d := (List.range d.dramN).foldl (fun d c => if failed c then d else d.trained c) d
  let d := fails.foldl (fun d f =>
    if d.dramOn f.1.val then
      (((d.mark rDRAM_ERR fDRAM_ERR_TRAIN_FAIL).alert 0x0D03 (p4 f.1.val ++ p4 f.2)).dramDown f.1.val 1)
    else d) d
  if (List.range d.dramN).any failed then d else d.fillDone.arrive d.nowNs []

/-- The failures that CH8 mends, and training begun again. -/
def Dev.fillDegraded (fails : List (Fin 16 × Nat)) (d : Dev) : Dev :=
  let d := fails.foldl (fun d f => (d.mark rDRAM_ERR fDRAM_ERR_TRAIN_FAIL).alert 0x0D03 (p4 f.1.val ++ p4 f.2)) d
  (d.put rDRAM_CTRL fDRAM_CTRL_CH8 1).put rDRAM_STATUS fDRAM_STATUS_INIT_BUSY 1

/-- What the end of training and fill does. -/
def Dev.trainingDone (fails : List (Fin 16 × Nat)) (d : Dev) : Dev :=
  if d.dramDegrades fails then d.fillDegraded fails else d.fillEnd fails

/-- INIT_BUSY shown ended. -/
def Dev.initEnded (d : Dev) : Dev := d.put rDRAM_STATUS fDRAM_STATUS_INIT_BUSY 0

/-- What DRAM_INIT_DONE does. -/
def Dev.initDone (fails : List (Fin 16 × Nat)) (d : Dev) : Dev :=
  if !(d.bit rDRAM_STATUS fDRAM_STATUS_INIT_BUSY) then d else d.initEnded.trainingDone fails

theorem exec_dramInitDone (fails : List (Fin 16 × Nat)) (s : State) : exec (.dramInitDone fails) s = s.run (Dev.initDone fails) := rfl

theorem Dev.not_dramDegrades (d : Dev) : d.dramDegrades [] = false := by
  rw [Dev.dramDegrades, List.isEmpty_nil, Bool.not_true, Bool.and_false, Bool.false_and, Bool.false_and]

theorem Dev.trainingDone_eq {d : Dev} (hw : d.dram.waits = []) : d.trainingDone [] = d.allTrained.fillDone.showReqs := by
  have hdram : d.allTrained.dram = d.dram := d.writes_allTrained.dram
  have harrive : ∀ now, d.allTrained.fillDone.arrive now [] = d.allTrained.fillDone.showReqs := fun now =>
    Dev.arrive_none now (by rw [Dev.fillDone_dram, hdram, hw])
  rw [Dev.trainingDone, d.not_dramDegrades, if_neg Bool.false_ne_true, Dev.fillEnd]
  simp only [List.any_nil, List.foldl_nil, Bool.false_eq_true, if_false]
  exact (if_neg (by simp)).trans (harrive _)

theorem Dev.rd_fillDone (d : Dev) {a : Nat} (h : a ≠ rDRAM_STATUS) : d.fillDone.rd a = d.rd a := Dev.rd_put_ne _ _ _ h

/-- Training and fill ended: READY, every channel trained, the scrub at the beginning, and the status otherwise as it was. -/
theorem Dev.trainingDone_shown {d : Dev} (hw : d.dram.waits = []) : (d.trainingDone []).dramReady = true ∧
    (∀ f, fDRAM_STATUS_READY.disjoint f → (d.trainingDone []).get rDRAM_STATUS f = d.get rDRAM_STATUS f) ∧
    (∀ c < d.dramN, (d.trainingDone []).bit (rDRAM_CH_STATUS c) fDRAM_CH_STATUS_TRAINED = true) ∧ (d.trainingDone []).dram.scrubAt = 0 := by
  have hshown := d.allTrained.fillDone.writes_showReqs
  have hstatus := hshown.rd rDRAM_STATUS (not_dramShown (by decide))
  rw [Dev.trainingDone_eq hw]
  refine ⟨?_, fun f hf => ?_, fun c hc => ?_, ?_⟩
  · rw [Dev.dramReady, Dev.bit_congr hstatus]
    exact Dev.bit_mark_same _ _ rfl (by decide)
  · rw [Dev.get_congr hstatus]
    exact (Dev.get_put_disjoint _ _ _ hf).trans (Dev.get_congr (d.writes_allTrained.rd _ (not_dramShown (by decide))) f)
  · have hne : rDRAM_CH_STATUS c ≠ rDRAM_STATUS := by unfold rDRAM_CH_STATUS rDRAM_STATUS; omega
    rw [Dev.bit, Dev.get_showReqs _ _ (by decide), ← Dev.bit, Dev.bit_congr (Dev.rd_fillDone _ hne)]
    exact d.allTrained_trained hc
  · rw [hshown.dram, Dev.fillDone_dram]

theorem dramInitDone_shows {s : State} (hs : s.Runs) (hbusy : s.dev.bit rDRAM_STATUS fDRAM_STATUS_INIT_BUSY = true)
    (hwaits : s.dev.dram.waits = []) : ∃ t, exec (.dramInitDone []) s = .next t ∧ t.dev.dramReady = true ∧
      t.dev.bit rDRAM_STATUS fDRAM_STATUS_INIT_BUSY = false ∧
      (∀ c < s.dev.dramN, t.dev.bit (rDRAM_CH_STATUS c) fDRAM_CH_STATUS_TRAINED = true) ∧ t.dev.dram.scrubAt = 0 := by
  have hbusy' : s.start.bit rDRAM_STATUS fDRAM_STATUS_INIT_BUSY = true := hbusy
  have hwaits' : s.start.initEnded.dram.waits = [] := by rw [Dev.initEnded, Dev.put_dram, s.start_dram, hwaits]
  have hlike : s.start.DramLike s.start.initEnded :=
    (s.start.writes_put (P := (· = rDRAM_STATUS)) fDRAM_STATUS_INIT_BUSY 0 rfl).dramLike (by decide)
  have hdone : s.start.initDone [] = s.start.initEnded.trainingDone [] := by
    rw [Dev.initDone, hbusy', Bool.not_true, if_neg Bool.false_ne_true]
  obtain ⟨hready, hstatus, htrained, hscrub⟩ := Dev.trainingDone_shown (d := s.start.initEnded) hwaits'
  have hended : s.start.initEnded.bit rDRAM_STATUS fDRAM_STATUS_INIT_BUSY = false := Dev.bit_put_zero _ _ (by decide)
  rw [exec_dramInitDone]
  refine ⟨_, State.run_after hs.1 hdone, ?_, ?_, fun c hc => ?_, ?_⟩
  · rw [State.after_dramReady, hready]
  · rw [State.after_bit, Dev.bit, hstatus _ (by decide), ← Dev.bit, hended]
  · rw [State.after_bit]
    exact htrained c (by rw [hlike.dramN, s.start_dramN]; exact hc)
  · rw [State.after_dram, hscrub]

/-- Settles O32: an idle controller serves a request at once, and refresh, strobes, scrub and start-up do what they name. -/
theorem dramServesItsPorts : Obligations.DramServesItsPorts := by
  unfold Obligations.DramServesItsPorts
  refine ⟨?_, fun s c b hs => refresh_closes hs c b,
    fun s c code hs hon hcool => ⟨refreshRateRead_cool hs hon code hcool, refreshRateRead_hot hs hon code hcool⟩,
    fun s c hs hon => ⟨readStrobeCheck_drifted hs hon, readStrobeCheck_steady hs c⟩,
    fun s raced hs hen hr hc hup => scrubRead_clean hs raced hen ⟨hr, hc, hup⟩, fun s hs => dramInitDone_shows hs⟩
  intro s ns c r ready hs hr hc hchan hup ha hq hw hrows hbank
  have haccess : s.Access c r ready := ⟨hs, ⟨hr, hc, hchan ▸ hup⟩, hchan, ha, ⟨hq, hw, hrows⟩, hbank⟩
  exact ⟨dramAccessDone_read haccess ns, fun bs hd ha hl hold => dramAccessDone_write haccess ns hd ha hl hold⟩

end Sys2Proof.Machine

/-! Bundles: configuration, lanes and states (16_fabric.md R456, R457, R460). -/

namespace Sys2Proof.Machine

/-! What a write of FAB_BND_CTRL does. -/

/-- A field written with what it holds leaves the word. -/
theorem fieldPut_self (w : Nat) (f : Fld) : fieldPut w f (fieldOf w f) = w := by
  have hle : fieldOf w f * 2 ^ f.lo ≤ w := by
    unfold fieldOf
    exact (Nat.mul_le_mul_right _ (Nat.mod_le ..)).trans (Nat.div_mul_le_self ..)
  rw [fieldPut, Nat.mod_eq_of_lt (fieldOf_lt w f)]
  omega

theorem enWord_kept (v : Nat) : fieldPut v fFAB_BND_CTRL_EN (b2n (nbit v 0)) = v := by
  have hbit : b2n (nbit v 0) = fieldOf v fFAB_BND_CTRL_EN := by
    rcases Nat.mod_two_eq_zero_or_one v with h | h <;> simp [b2n, nbit, fieldOf, fFAB_BND_CTRL_EN, h]
  rw [hbit, fieldPut_self]

section
variable {d : Dev} {b v : Nat} (hfirst : d.firstLane b = true)
include hfirst

theorem Dev.writeBnd_refused (h : d.bndRefused b v = true) : d.writeBnd b v = d.mark (rFAB_ERR b) fFAB_ERR_CFG_BAD := by
  rw [Dev.writeBnd, hfirst, if_neg (by decide), if_pos h]

theorem Dev.writeBnd_kept (h : d.bndRefused b v = false) (hen : nbit v 0 = d.bndEn b) : d.writeBnd b v = d.access (rFAB_BND_CTRL b) v := by
  have hkeep : fieldPut v fFAB_BND_CTRL_EN (b2n (d.bndEn b)) = v := by rw [← hen, enWord_kept]
  rw [Dev.writeBnd, hfirst, if_neg (by decide), if_neg (ne_true_of_eq_false h)]
  dsimp only
  rw [hkeep, hen, if_neg (by cases d.bndEn b <;> decide), if_neg (by cases d.bndEn b <;> decide)]

theorem Dev.writeBnd_starts (h : d.bndRefused b v = false) (hen : d.bndEn b = false) (hv : nbit v 0 = true) :
    d.writeBnd b v = (d.access (rFAB_BND_CTRL b) (fieldPut v fFAB_BND_CTRL_EN 0)).bndStart b := by
  rw [Dev.writeBnd, hfirst, if_neg (by decide), if_neg (ne_true_of_eq_false h), hen, hv]
  rfl

theorem Dev.writeBnd_stops (h : d.bndRefused b v = false) (hen : d.bndEn b = true) (hv : nbit v 0 = false) :
    d.writeBnd b v = (d.access (rFAB_BND_CTRL b) (fieldPut v fFAB_BND_CTRL_EN 1)).bndStop b := by
  rw [Dev.writeBnd, hfirst, if_neg (by decide), if_neg (ne_true_of_eq_false h), hen, hv]
  rfl

end

/-! Lanes begin and end: nothing changes of the bundles' registers. -/

/-- A register of a bundle, below its lane's own. -/
def bndReg (a : Nat) : Prop := a % 0x10000 < 0x200

theorem laneBase_fab (f : Nat) : laneBase (fabLaneId f) % 0x10000 = 0xC000 := by
  show (0x180C000 + 0x10000 * (f % 48)) % 0x10000 = 0xC000
  omega

section
variable {a : Nat} (ha : bndReg a)
include ha

theorem bndReg_ne_lane (f : Nat) : a ≠ rLANE_CTRL (laneBase (fabLaneId f)) ∧ a ≠ rLANE_STATUS (laneBase (fabLaneId f)) := by
  have hbase := laneBase_fab f
  unfold bndReg at ha
  unfold rLANE_CTRL rLANE_STATUS
  omega

theorem bndReg_ne_laneStatus (f : Nat) : a ≠ rFAB_LANE_STATUS f := by
  unfold bndReg at ha
  unfold rFAB_LANE_STATUS
  omega

theorem Dev.rd_startLanes_bnd (d : Dev) (fs : List Nat) : (d.startLanes (fs.map fabLaneId)).rd a = d.rd a := by
  rw [Dev.startLanes, List.foldl_map]
  refine foldl_keeps (fun e : Dev => e.rd a) (fun e f => ?_) _ d
  obtain ⟨hctrl, hstatus⟩ := bndReg_ne_lane ha f
  have hput : ∀ g v w, ((e.put (rLANE_CTRL (laneBase (fabLaneId f))) g v).put (rLANE_CTRL (laneBase (fabLaneId f))) fLANE_CTRL_TX_EN w).rd a =
      e.rd a := fun g v w => (Dev.rd_put_ne _ _ _ hctrl).trans (Dev.rd_put_ne _ _ _ hctrl)
  dsimp only
  split
  · exact ((Dev.laneStep_enterDetect (P := (· = rLANE_STATUS (laneBase (fabLaneId f)))) _ _ rfl).rd a hstatus).trans (hput ..)
  · exact hput ..

/-- A lane of a bundle that stops. -/
def Dev.laneStopped (d : Dev) (f : Nat) : Dev := ((d.laneOff (fabLaneId f)).setFabLane f {}).put (rFAB_LANE_STATUS f) fFAB_LANE_STATUS_SYNC 0

theorem Dev.rd_laneStopped (d : Dev) (f : Nat) : (d.laneStopped f).rd a = d.rd a := by
  obtain ⟨hctrl, hstatus⟩ := bndReg_ne_lane ha f
  rw [Dev.laneStopped, Dev.rd_put_ne _ _ _ (bndReg_ne_laneStatus ha f), Dev.rd_setFabLane]
  exact (Dev.rd_wr_ne _ _ hstatus).trans (Dev.rd_put_ne _ _ _ hctrl)

theorem Dev.rd_lanesStopped (d : Dev) (fs : List Nat) : (fs.foldl Dev.laneStopped d).rd a = d.rd a :=
  foldl_keeps (fun e : Dev => e.rd a) (fun e f => e.rd_laneStopped ha f) fs d

end

theorem bndReg_ctrl (b : Nat) : bndReg (rFAB_BND_CTRL b) := by unfold bndReg rFAB_BND_CTRL; omega
theorem bndReg_status (b : Nat) : bndReg (rFAB_BND_STATUS b) := by unfold bndReg rFAB_BND_STATUS; omega
theorem bndReg_defect (b : Nat) : bndReg (rFAB_DEFECT b) := by unfold bndReg rFAB_DEFECT; omega
theorem rFAB_BND_CTRL_ne_status (b : Nat) : rFAB_BND_CTRL b ≠ rFAB_BND_STATUS b := by unfold rFAB_BND_CTRL rFAB_BND_STATUS; omega
theorem rFAB_BND_CTRL_ne_defect (b : Nat) : rFAB_BND_CTRL b ≠ rFAB_DEFECT b := by unfold rFAB_BND_CTRL rFAB_DEFECT; omega
theorem rFAB_BND_STATUS_ne_defect (b : Nat) : rFAB_BND_STATUS b ≠ rFAB_DEFECT b := by unfold rFAB_BND_STATUS rFAB_DEFECT; omega

/-! The bundle's start and stop (R457). -/

theorem Dev.bndStart_shown (d : Dev) (b : Nat) : (d.bndStart b).bndEn b = true ∧ (d.bndStart b).bndState b = bsTraining := by
  generalize he : ((d.put (rFAB_BND_CTRL b) fFAB_BND_CTRL_EN 1).setBnd b bsTraining).setFabBnd b {} = e
  have hstart : d.bndStart b = e.startLanes ((e.bndMembers b).map fabLaneId) := by rw [← he]; rfl
  have hen : e.bndEn b = true := by
    rw [← he, Dev.bndEn, Dev.bit_congr (Dev.rd_setFabBnd ..), Dev.setBnd, Dev.bit_put_ne _ _ _ _ (rFAB_BND_CTRL_ne_status b)]
    exact Dev.bit_put_one _ _ (by decide)
  have hst : e.bndState b = bsTraining := by
    rw [← he, Dev.bndState, Dev.get_congr (Dev.rd_setFabBnd ..), Dev.setBnd]
    exact Dev.get_put_eq _ _ (by decide)
  rw [hstart, Dev.bndEn, Dev.bit_congr (Dev.rd_startLanes_bnd (bndReg_ctrl b) ..), Dev.bndState,
    Dev.get_congr (Dev.rd_startLanes_bnd (bndReg_status b) ..)]
  exact ⟨hen, hst⟩

theorem bnd_not_alert (b : Fin 48) : rFAB_BND_CTRL b.val ∉ alertRegs ∧ rFAB_BND_STATUS b.val ∉ alertRegs := by
  revert b
  decide

theorem Dev.bndFall_shown (d : Dev) (b : Fin 48) {st : Nat} (hst : st < 8) : (d.bndFall b.val st).bndState b.val = st ∧
    (d.bndFall b.val st).bndEn b.val = d.bndEn b.val := by
  have hset : (d.setBnd b.val st).bndState b.val = st := Dev.get_put_eq _ _ ⟨by decide, by decide, hst⟩
  have hen : (d.setBnd b.val st).bndEn b.val = d.bndEn b.val := Dev.bit_put_ne _ _ _ _ (rFAB_BND_CTRL_ne_status _)
  unfold Dev.bndFall Dev.when
  dsimp only
  split
  · exact ⟨(Dev.get_alert _ _ _ _ (bnd_not_alert b).2).trans hset, (Dev.bit_alert _ _ _ _ (bnd_not_alert b).1).trans hen⟩
  · exact ⟨hset, hen⟩

theorem Dev.bndStop_shown (d : Dev) (b : Fin 48) : (d.bndStop b.val).bndEn b.val = false ∧ (d.bndStop b.val).bndState b.val = bsDown ∧
    (d.bndStop b.val).rdN (rFAB_DEFECT b.val) = 0 := by
  obtain ⟨hst, hen⟩ := (d.put (rFAB_BND_CTRL b.val) fFAB_BND_CTRL_EN 0).bndFall_shown b (st := bsDown) (by decide)
  generalize he : (((d.put (rFAB_BND_CTRL b.val) fFAB_BND_CTRL_EN 0).bndFall b.val bsDown).setFabBnd b.val {}).wrN (rFAB_DEFECT b.val) 0 = e
  have hstop : d.bndStop b.val = (d.bndMembers b.val).foldl Dev.laneStopped e := by rw [← he]; rfl
  have hkept : ∀ a, a ≠ rFAB_DEFECT b.val → e.rd a = ((d.put (rFAB_BND_CTRL b.val) fFAB_BND_CTRL_EN 0).bndFall b.val bsDown).rd a := by
    intro a ha
    rw [← he]
    exact Dev.rd_wrN_ne _ _ ha
  rw [hstop]
  refine ⟨?_, ?_, ?_⟩
  · rw [Dev.bndEn, Dev.bit_congr (Dev.rd_lanesStopped (bndReg_ctrl _) ..), Dev.bit_congr (hkept _ (rFAB_BND_CTRL_ne_defect _)), ← Dev.bndEn, hen]
    exact Dev.bit_put_zero _ _ (by decide)
  · rw [Dev.bndState, Dev.get_congr (Dev.rd_lanesStopped (bndReg_status _) ..), Dev.get_congr (hkept _ (rFAB_BND_STATUS_ne_defect _)),
      ← Dev.bndState, hst]
  · rw [Dev.rdN_congr (Dev.rd_lanesStopped (bndReg_defect _) ..), ← he, Dev.rdN_wrN_same, Nat.zero_mod]

/-! The commands on bundles. -/

theorem exec_fabBndCtrlWrite (b : Fin 48) (val : Word) (s : State) :
    exec (.fabBndCtrlWrite b val) s = s.run (fun d => d.writeBndCtrl b.val val.toNat) := rfl
theorem exec_bundleEnable (b : Fin 48) (s : State) : exec (.bundleEnable b) s =
    s.run (fun d => d.writeBndCtrl b.val (fieldPut (d.rdN (rFAB_BND_CTRL b.val)) fFAB_BND_CTRL_EN 1)) := rfl
theorem exec_bundleDisable (b : Fin 48) (s : State) : exec (.bundleDisable b) s =
    s.run (fun d => d.writeBndCtrl b.val (fieldPut (d.rdN (rFAB_BND_CTRL b.val)) fFAB_BND_CTRL_EN 0)) := rfl

theorem State.start_firstLane (s : State) (b : Nat) : s.start.firstLane b = s.dev.firstLane b := rfl
theorem State.start_bndRefused (s : State) (b v : Nat) : s.start.bndRefused b v = s.dev.bndRefused b v := rfl
theorem State.start_bndEn (s : State) (b : Nat) : s.start.bndEn b = s.dev.bndEn b := rfl
theorem State.after_bndEn (s : State) (e : Dev) (b : Nat) : (s.after e).dev.bndEn b = e.bndEn b := rfl
theorem State.after_bndState (s : State) (e : Dev) (b : Nat) : (s.after e).dev.bndState b = e.bndState b := rfl

theorem nbit_en (w v : Nat) : nbit (fieldPut w fFAB_BND_CTRL_EN v) 0 = (v % 2 == 1) := nbit_fieldPut_same w v (f := fFAB_BND_CTRL_EN) rfl

section
variable {s : State} (hs : s.Runs) {b : Fin 48} (hfirst : s.dev.firstLane b.val = true)
include hs hfirst

theorem fabBndCtrlWrite_refused {val : Word} (h : s.dev.bndRefused b.val val.toNat = true) : ∃ t, exec (.fabBndCtrlWrite b val) s = .next t ∧
    t.dev.bit (rFAB_ERR b.val) fFAB_ERR_CFG_BAD = true ∧ t.dev.rd (rFAB_BND_CTRL b.val) = s.dev.rd (rFAB_BND_CTRL b.val) := by
  have hne : rFAB_BND_CTRL b.val ≠ rFAB_ERR b.val := by unfold rFAB_BND_CTRL rFAB_ERR; omega
  have hw := Dev.writeBnd_refused (d := s.start) (s.start_firstLane _ ▸ hfirst) (s.start_bndRefused .. ▸ h)
  rw [exec_fabBndCtrlWrite]
  refine ⟨_, State.run_after hs.1 (f := fun d => d.writeBndCtrl b.val val.toNat) (congrArg Dev.pinUpdateAll hw), ?_, ?_⟩
  · rw [State.after_bit, Dev.bit_congr (Dev.rd_pinUpdateAll ..)]
    exact Dev.bit_mark_same _ _ rfl (by decide)
  · rw [State.after_rd, Dev.rd_pinUpdateAll]
    exact Dev.rd_put_ne _ _ _ hne

theorem fabBndCtrlWrite_stores {val : Word} (h : s.dev.bndRefused b.val val.toNat = false) (hen : nbit val.toNat 0 = s.dev.bndEn b.val) :
    ∃ t, exec (.fabBndCtrlWrite b val) s = .next t ∧ t.dev.rdN (rFAB_BND_CTRL b.val) = s.dev.stored (rFAB_BND_CTRL b.val) val.toNat := by
  have hw := Dev.writeBnd_kept (d := s.start) (s.start_firstLane _ ▸ hfirst) (s.start_bndRefused .. ▸ h) (s.start_bndEn _ ▸ hen)
  rw [exec_fabBndCtrlWrite]
  refine ⟨_, State.run_after hs.1 (f := fun d => d.writeBndCtrl b.val val.toNat) (congrArg Dev.pinUpdateAll hw), ?_⟩
  rw [State.after_rdN, Dev.rdN_congr (Dev.rd_pinUpdateAll ..), Dev.rdN_access_same]
  exact Dev.stored_congr (d := s.start) (e := s.dev) rfl _

theorem bundleEnable_trains (hen : s.dev.bndEn b.val = false)
    (h : s.dev.bndRefused b.val (fieldPut (s.dev.rdN (rFAB_BND_CTRL b.val)) fFAB_BND_CTRL_EN 1) = false) :
    ∃ t, exec (.bundleEnable b) s = .next t ∧ t.dev.bndEn b.val = true ∧ t.dev.bndState b.val = bsTraining := by
  rw [← s.start_rdN, ← s.start_bndRefused] at h
  have hw := Dev.writeBnd_starts (d := s.start) (s.start_firstLane _ ▸ hfirst) h (s.start_bndEn _ ▸ hen) (nbit_en ..)
  obtain ⟨hen', hst⟩ := Dev.bndStart_shown (s.start.access (rFAB_BND_CTRL b.val)
    (fieldPut (fieldPut (s.start.rdN (rFAB_BND_CTRL b.val)) fFAB_BND_CTRL_EN 1) fFAB_BND_CTRL_EN 0)) b.val
  rw [exec_bundleEnable]
  refine ⟨_, State.run_after hs.1 (f := fun d => d.writeBndCtrl b.val (fieldPut (d.rdN (rFAB_BND_CTRL b.val)) fFAB_BND_CTRL_EN 1))
    (congrArg Dev.pinUpdateAll hw), ?_, ?_⟩
  · rw [State.after_bndEn, Dev.bndEn, Dev.bit_congr (Dev.rd_pinUpdateAll ..), ← Dev.bndEn, hen']
  · rw [State.after_bndState, Dev.bndState, Dev.get_congr (Dev.rd_pinUpdateAll ..), ← Dev.bndState, hst]

theorem bundleDisable_stops (hen : s.dev.bndEn b.val = true)
    (h : s.dev.bndRefused b.val (fieldPut (s.dev.rdN (rFAB_BND_CTRL b.val)) fFAB_BND_CTRL_EN 0) = false) :
    ∃ t, exec (.bundleDisable b) s = .next t ∧ t.dev.bndEn b.val = false ∧ t.dev.bndState b.val = bsDown ∧
      t.dev.rdN (rFAB_DEFECT b.val) = 0 := by
  rw [← s.start_rdN, ← s.start_bndRefused] at h
  have hw := Dev.writeBnd_stops (d := s.start) (s.start_firstLane _ ▸ hfirst) h (s.start_bndEn _ ▸ hen) (nbit_en ..)
  obtain ⟨hen', hst, hdef⟩ := Dev.bndStop_shown (s.start.access (rFAB_BND_CTRL b.val)
    (fieldPut (fieldPut (s.start.rdN (rFAB_BND_CTRL b.val)) fFAB_BND_CTRL_EN 0) fFAB_BND_CTRL_EN 1)) b
  rw [exec_bundleDisable]
  refine ⟨_, State.run_after hs.1 (f := fun d => d.writeBndCtrl b.val (fieldPut (d.rdN (rFAB_BND_CTRL b.val)) fFAB_BND_CTRL_EN 0))
    (congrArg Dev.pinUpdateAll hw), ?_, ?_, ?_⟩
  · rw [State.after_bndEn, Dev.bndEn, Dev.bit_congr (Dev.rd_pinUpdateAll ..), ← Dev.bndEn, hen']
  · rw [State.after_bndState, Dev.bndState, Dev.get_congr (Dev.rd_pinUpdateAll ..), ← Dev.bndState, hst]
  · rw [State.after_rdN, Dev.rdN_congr (Dev.rd_pinUpdateAll ..), hdef]

end

end Sys2Proof.Machine

/-! Bundles: the lanes trained, the overhead cell's framing, the reports, and the obligation on them (16_fabric.md R457-R488). -/

namespace Sys2Proof.Machine

/-! BUNDLE_LANES_TRAINED (R457, R460). -/

/-- A lane has a tick at which its frames begin: the one it had, or the next that is a multiple of 64. -/
def Dev.framesBegun (d : Dev) (f : Nat) : Dev :=
  d.updFabLane f (fun x => { x with framesFrom := some (x.framesFrom.getD ((d.tickNow / 64 + 1) * 64)) })

/-- What the training of a bundle's lanes does. -/
def Dev.lanesTrained (b : Nat) (d : Dev) : Dev :=
  if d.bndEn b && d.bndState b == bsTraining && (d.bndMembers b).all (fun f => d.trainState (fabLaneId f) == tsData) then
    (d.bndMembers b).foldl Dev.framesBegun (d.setBnd b bsAlign)
  else d

theorem exec_bundleLanesTrained (b : Fin 48) (s : State) : exec (.bundleLanesTrained b) s = s.run (Dev.lanesTrained b.val) := rfl

theorem Dev.framesBegun_keeps (d : Dev) (g : Nat) {f : Nat} (h : (d.fabLane f).framesFrom ≠ none) :
    ((d.framesBegun g).fabLane f).framesFrom ≠ none := by
  by_cases hf : f = g
  · subst hf
    rw [Dev.framesBegun, Dev.fabLane_updFabLane_same]
    exact Option.some_ne_none _
  · rw [Dev.framesBegun, Dev.fabLane_updFabLane_ne _ _ hf]
    exact h

theorem Dev.framesBegun_all {f : Nat} (fs : List Nat) : ∀ d : Dev, f ∈ fs ∨ (d.fabLane f).framesFrom ≠ none →
    ((fs.foldl Dev.framesBegun d).fabLane f).framesFrom ≠ none := by
  induction fs with
  | nil => exact fun d h => h.resolve_left (List.not_mem_nil)
  | cons g fs ih =>
    intro d h
    rw [List.foldl_cons]
    refine ih _ ?_
    rcases h with h | h
    · rcases List.mem_cons.1 h with rfl | hfs
      · refine .inr ?_
        rw [Dev.framesBegun, Dev.fabLane_updFabLane_same]
        exact Option.some_ne_none _
      · exact .inl hfs
    · exact .inr (d.framesBegun_keeps g h)

theorem Dev.rd_framesBegun (d : Dev) (fs : List Nat) (a : Nat) : (fs.foldl Dev.framesBegun d).rd a = d.rd a :=
  foldl_keeps (fun e : Dev => e.rd a) (fun e f => Dev.rd_updFabLane ..) fs d

theorem State.start_bndMembers (s : State) (b : Nat) : s.start.bndMembers b = s.dev.bndMembers b := rfl
theorem State.start_bndState (s : State) (b : Nat) : s.start.bndState b = s.dev.bndState b := rfl
theorem State.start_trainState (s : State) (l : LaneId) : s.start.trainState l = s.dev.trainState l := rfl
theorem State.after_fabLane (s : State) (e : Dev) (f : Nat) : (s.after e).dev.fabLane f = e.fabLane f := rfl

theorem bundleLanesTrained_aligns {s : State} (hs : s.Runs) {b : Fin 48} (hen : s.dev.bndEn b.val = true)
    (hst : s.dev.bndState b.val = bsTraining) (hdata : ∀ f ∈ s.dev.bndMembers b.val, s.dev.trainState (fabLaneId f) = tsData) :
    ∃ t, exec (.bundleLanesTrained b) s = .next t ∧ t.dev.bndState b.val = bsAlign ∧
      ∀ f ∈ s.dev.bndMembers b.val, (t.dev.fabLane f).framesFrom ≠ none := by
  have hall : (s.dev.bndMembers b.val).all (fun f => s.start.trainState (fabLaneId f) == tsData) = true :=
    List.all_eq_true.2 fun f hf => by rw [s.start_trainState, hdata f hf]; exact beq_self_eq_true _
  have hgo : s.start.lanesTrained b.val = (s.dev.bndMembers b.val).foldl Dev.framesBegun (s.start.setBnd b.val bsAlign) := by
    rw [Dev.lanesTrained, s.start_bndEn, hen, s.start_bndState, hst, s.start_bndMembers, hall]
    rfl
  rw [exec_bundleLanesTrained]
  refine ⟨_, State.run_after hs.1 hgo, ?_, fun f hf => ?_⟩
  · rw [State.after_bndState, Dev.bndState, Dev.get_congr (Dev.rd_framesBegun ..)]
    exact Dev.get_put_eq _ _ (by decide)
  · rw [State.after_fabLane]
    exact Dev.framesBegun_all _ _ (.inl hf)

/-! FAB_OVERHEAD_CELL (R461, R463). -/

/-- What the frame before a cell counted, added where nothing was. -/
def Dev.cellSeen (d : Dev) (b ns : Nat) : Dev := (((d.seen ns).bumpBy (rFAB_CNT b 2) 0).bumpBy (rFAB_CNT b 3) 0).bumpBy (rFAB_CNT b 5) 0

theorem Dev.sync_cellSeen (d : Dev) (b ns f : Nat) : (d.cellSeen b ns).sync f = d.sync f := by
  have hcnt : ∀ i < 10, rFAB_LANE_STATUS f ≠ rFAB_CNT b i := by
    intro i hi
    unfold rFAB_LANE_STATUS rFAB_CNT
    omega
  refine Dev.get_congr ?_ _
  exact (((d.seen ns).writes_bumpBy (P := fun a => ∃ i < 10, a = rFAB_CNT b i) 0 ⟨2, by decide, rfl⟩).trans
    (Dev.writes_bumpBy _ 0 ⟨3, by decide, rfl⟩) |>.trans (Dev.writes_bumpBy _ 0 ⟨5, by decide, rfl⟩)).rd _
      fun ⟨i, hi, h⟩ => hcnt i hi h

/-- A cell at a lane that is not synchronised after it says where the frame begins, and nothing else. -/
theorem Dev.fabCell_hunts {d e : Dev} {b f ns diff : Nat} {cell : List Byte} (hb : d.bundleOf f = some b)
    (hdata : d.trainState (fabLaneId f) = tsData)
    (he : (d.cellSeen b ns).findFrame b f diff (crc32c ((slice cell 0 252).drop 8) == beAt cell 252 4) = e) (hsync : e.sync f ≠ 2) :
    d.fabCell f ns diff cell 0 0 0 = e := by
  have hfind : (((((d.seen ns).bumpBy (rFAB_CNT b 2) 0).bumpBy (rFAB_CNT b 3) 0).bumpBy (rFAB_CNT b 5) 0).findFrame b f diff
    (crc32c ((slice cell 0 252).drop 8) == beAt cell 252 4)) = e := he
  unfold Dev.fabCell
  rw [hb]
  dsimp only
  rw [if_neg (not_not_intro hdata), hfind, if_pos hsync]

theorem exec_fabOverheadCell (f : Fin 48) (ns : Fin 125000) (diff : Fin 65) (cell : List Byte) (s : State) :
    exec (.fabOverheadCell f ns diff cell 0 0 0) s = s.run (fun d => d.fabCell f.val ns.val diff.val cell 0 0 0) := rfl

theorem State.start_bundleOf (s : State) (f : Nat) : s.start.bundleOf f = s.dev.bundleOf f := rfl
theorem State.start_sync (s : State) (f : Nat) : s.start.sync f = s.dev.sync f := rfl
theorem State.after_sync (s : State) (e : Dev) (f : Nat) : (s.after e).dev.sync f = e.sync f := rfl

theorem Dev.setSync_sync (d : Dev) (f : Nat) {st : Nat} (h : st < 4) : (d.setSync f st).sync f = st :=
  Dev.get_put_eq _ _ ⟨by decide, by decide, h⟩

section
variable {s : State} (hs : s.Runs) {f : Fin 48} {ns : Fin 125000} {diff : Fin 65} {cell : List Byte}
include hs

theorem fabOverheadCell_unbundled (h : s.dev.bundleOf f.val = none) :
    ∃ t, exec (.fabOverheadCell f ns diff cell 0 0 0) s = .next t ∧ s.OnlyChanges t [] s.dev := by
  rw [exec_fabOverheadCell]
  refine State.run_nothing hs ?_
  rw [Dev.fabCell, s.start_bundleOf, h]

variable {b : Nat} (hb : s.dev.bundleOf f.val = some b) (hdata : s.dev.trainState (fabLaneId f.val) = tsData)
include hb hdata

/-- The framing a cell leads to, short of synchronisation. -/
theorem fabOverheadCell_frames {e : Dev} (he : (s.start.cellSeen b ns.val).findFrame b f.val diff.val
    (crc32c ((slice cell 0 252).drop 8) == beAt cell 252 4) = e) (hsync : e.sync f.val ≠ 2) :
    ∃ t, exec (.fabOverheadCell f ns diff cell 0 0 0) s = .next t ∧ t.dev.sync f.val = e.sync f.val := by
  rw [exec_fabOverheadCell]
  exact ⟨_, State.run_after hs.1 (f := fun d => d.fabCell f.val ns.val diff.val cell 0 0 0)
    (Dev.fabCell_hunts (d := s.start) ((s.start_bundleOf _).trans hb) ((s.start_trainState _).trans hdata) he hsync), State.after_sync ..⟩

theorem fabOverheadCell_presync (hsync : s.dev.sync f.val = 0) (hd : diff = 0) (hcrc : crc32c ((slice cell 0 252).drop 8) = beAt cell 252 4) :
    ∃ t, exec (.fabOverheadCell f ns diff cell 0 0 0) s = .next t ∧ t.dev.sync f.val = 1 := by
  have he : (s.start.cellSeen b ns.val).findFrame b f.val diff.val (crc32c ((slice cell 0 252).drop 8) == beAt cell 252 4) =
      (s.start.cellSeen b ns.val).setSync f.val 1 := by
    rw [Dev.findFrame, Dev.sync_cellSeen, s.start_sync, hsync, if_pos rfl, hd, hcrc, if_pos ⟨rfl, beq_self_eq_true _⟩]
  have hone := Dev.setSync_sync (s.start.cellSeen b ns.val) f.val (st := 1) (by decide)
  obtain ⟨t, hrun, ht⟩ := fabOverheadCell_frames hs hb hdata he (by rw [hone]; decide)
  exact ⟨t, hrun, ht.trans hone⟩

theorem fabOverheadCell_hunt (hsync : s.dev.sync f.val = 1) (hd : diff ≠ 0) :
    ∃ t, exec (.fabOverheadCell f ns diff cell 0 0 0) s = .next t ∧ t.dev.sync f.val = 0 := by
  have hd' : diff.val ≠ 0 := fun h => hd (Fin.ext h)
  have he : (s.start.cellSeen b ns.val).findFrame b f.val diff.val (crc32c ((slice cell 0 252).drop 8) == beAt cell 252 4) =
      (s.start.cellSeen b ns.val).setSync f.val 0 := by
    rw [Dev.findFrame, Dev.sync_cellSeen, s.start_sync, hsync, if_neg (by decide), if_pos rfl, if_neg hd']
  have hzero := Dev.setSync_sync (s.start.cellSeen b ns.val) f.val (st := 0) (by decide)
  obtain ⟨t, hrun, ht⟩ := fabOverheadCell_frames hs hb hdata he (by rw [hzero]; decide)
  exact ⟨t, hrun, ht.trans hzero⟩

end

/-! FAB_BUNDLE and FAB_PEERS (R485, R488). -/

theorem length_bundleReport (d : Dev) (b : Nat) : (d.bundleReport b).length = 64 := by
  simp only [Dev.bundleReport, List.length_flatMap, length_leB, List.map_const', List.sum_replicate, List.length_append, List.length_map,
    List.length_range, List.length_cons, List.length_nil]
  rfl

theorem fabBundle_answers {s : State} {m : Fin 64} {c : Cmd} (h : s.Ready m 0x0A01 c) (hown : c.isOwner = true) (h0 : c.u8 0 < 48)
    (h1 : c.u8 1 = 0) (h2 : c.u8 2 = 0) (h3 : c.zero 3 1 = true) (hends : c.endsAt 8 = true) (hfirst : s.dev.firstLane (c.u8 0) = true) :
    ∃ t, exec (.fabBundle m) s = .next t ∧ s.OnlyAnswers t m ∧ t.Done m 0 (s.dev.bundleReport (c.u8 0)) := by
  have hx : c.expert 2 = false := by rw [Cmd.expert, h2]; rfl
  refine State.run_shows h ((Cmd.checks_pass c _ ?checks _).trans ?runs) (by decide) ?length
  case checks =>
    have hfirst' : s.start.firstLane (c.u8 0) = true := hfirst
    simp [Cmd.mustOwn, inForm, Cmd.only, hown, hx, h0, h1, h2, h3, hends, hfirst']
  case runs => simp only [h1, show ((0 : Nat) == 1) = false from rfl, Bool.false_eq_true, if_false]; rfl
  case length => rw [length_bundleReport]; decide

/-- Entries of a fixed length, one for some of the numbers below a bound. -/
theorem length_flatten_filterMap_le {k : Nat} {g : Nat → Option (List Byte)} (hg : ∀ b x, g b = some x → x.length = k) (n : Nat) :
    ((List.range n).filterMap g).flatten.length ≤ k * n := by
  have hlen : ((List.range n).filterMap g).length ≤ n := (List.length_filterMap_le ..).trans (List.length_range ..).le
  have hall : ∀ x ∈ (List.range n).filterMap g, x.length = k := fun x hx => by
    obtain ⟨b, -, hb⟩ := List.mem_filterMap.1 hx
    exact hg b x hb
  rw [List.length_flatten, List.map_congr_left hall, List.map_const', List.sum_replicate, smul_eq_mul, Nat.mul_comm]
  exact Nat.mul_le_mul_left k hlen

theorem length_peerBytes (i : Nat) (h : Hello) : (peerBytes i h).length = 20 := by simp only [peerBytes, List.length_append, length_leB]

theorem fabPeers_answers {s : State} {m : Fin 64} {c : Cmd} (h : s.Ready m 0x0A04 c) (hown : c.isOwner = true) (hends : c.endsAt 0 = true) :
    ∃ t, exec (.fabPeers m) s = .next t ∧ s.OnlyAnswers t m ∧ t.Done m 0 (leB 4 (s.dev.rdN rFAB_STATUS) ++
      ((List.range 48).filterMap (fun b => if s.dev.bndEn b && s.dev.bndState b == bsUp then (s.dev.fabBnd b).hello.map (peerBytes b) else none) ++
       (List.range 16).filterMap (fun b =>
         if s.dev.bit (rFAB_BRIDGE_CTRL b) fFAB_BRIDGE_CTRL_UP then (s.dev.bridgeX b).hello.map (peerBytes (48 + b)) else none)).flatten) := by
  refine State.run_shows h ((Cmd.checks_pass c _ ?checks _).trans rfl) (by decide) ?length
  case checks => simp [Cmd.mustOwn, inForm, hown, hends]
  case length =>
    have hentry : ∀ (c : Bool) (x : Option Hello) (i : Nat) y, (if c then x.map (peerBytes i) else none) = some y → y.length = 20 := by
      intro c x i y hy
      split at hy
      · obtain ⟨hello, -, rfl⟩ := Option.map_eq_some_iff.1 hy
        exact length_peerBytes i hello
      · cases hy
    have hbnd := length_flatten_filterMap_le (k := 20) (n := 48)
      (g := fun b => if s.dev.bndEn b && s.dev.bndState b == bsUp then (s.dev.fabBnd b).hello.map (peerBytes b) else none)
      fun b x => hentry _ _ b x
    have hbridge := length_flatten_filterMap_le (k := 20) (n := 16)
      (g := fun b => if s.dev.bit (rFAB_BRIDGE_CTRL b) fFAB_BRIDGE_CTRL_UP then (s.dev.bridgeX b).hello.map (peerBytes (48 + b)) else none)
      fun b x => hentry _ _ (48 + b) x
    rw [List.length_append, length_leB, List.flatten_append, List.length_append]
    omega

/-- Settles O35: bundles are configured and come up, a lane's framing follows its cells, and the reports show. -/
theorem bundlesComeUpAndReport : Obligations.BundlesComeUpAndReport := by
  unfold Obligations.BundlesComeUpAndReport
  refine ⟨fun s b val hs hfirst => ⟨fabBndCtrlWrite_refused hs hfirst, fabBndCtrlWrite_stores hs hfirst, bundleEnable_trains hs hfirst,
    bundleDisable_stops hs hfirst, bundleLanesTrained_aligns hs⟩, fun s f ns diff cell hs => ⟨fabOverheadCell_unbundled hs, fun b hb hdata =>
    ⟨fabOverheadCell_presync hs hb hdata, fabOverheadCell_hunt hs hb hdata⟩⟩, fun s m c hown => ⟨?_, ?_⟩⟩
  · intro h h0 h1 h2 h3 hends hfirst
    exact fabBundle_answers h hown h0 h1 h2 h3 hends hfirst
  · intro h hends
    exact fabPeers_answers h hown hends

end Sys2Proof.Machine

/-! A port taken out of use and a buffer whose bank is out of range: the counterexample to the obligation on uplink ports
(13_stacks_pantry.md R389; 15_uplinks.md R441). -/

namespace Sys2Proof.Machine

/-- A buffer of a bank that does not exist: its register would stand at UPL_PORT_CTRL of port 0. -/
def farBuf : Buf := { pool := 0, bank := 4980672, idx := 0, size := 256, charge := 2, ent := 0, ten := 0 }

/-- A packet that waits in that buffer. -/
def farHeld : Held := { pkt := ⟨[], 0, 0, none, 0, false, none, 0, []⟩, buf := some farBuf, ent := 0, ten := 0, tick := 0, ns := 0 }

/-- A running device whose port 0, of one lane, is enabled; the packet waits in its queue of PRIO 0. -/
def portDev : Dev :=
  { clk := { sup := .run }
    pan := { banks := [(4980672, { fresh := 1 })] }
    uplQ := [(0, [farHeld])]
    regs := [(rUPL_PORT_CTRL 0, 1#32)] }

def portState : State := { pending := [], mem := [], flash := [], dev := portDev }

theorem portState_runs : portState.Runs := ⟨rfl, rfl, rfl⟩

theorem portState_port : portState.dev.uplFirst 0 = 0 ∧ portState.dev.uplMembers 0 = [0] ∧
    portState.dev.bit (rUPL_PORT_CTRL 0) fUPL_PORT_CTRL_EN = true ∧
    portState.dev.uplRefused 0 (fieldPut (portState.dev.rdN (rUPL_PORT_CTRL 0)) fUPL_PORT_CTRL_EN 0) = false := by
  refine ⟨?_, ?_, ?_, ?_⟩ <;> decide +kernel

/-- What a write that clears EN of the port leaves. -/
def portStopped : Dev := portState.start.writeUplCtrl 0 (fieldPut (portState.start.rdN (rUPL_PORT_CTRL 0)) fUPL_PORT_CTRL_EN 0)

/-- Discarding the packet returns its buffer to the bank that is not, and EN of the port reads 1 again. -/
theorem portStopped_en : portStopped.bit (rUPL_PORT_CTRL 0) fUPL_PORT_CTRL_EN = true := by decide +kernel

theorem exec_uplinkDisable_port : exec (.uplinkDisable 0) portState = .next (portState.after portStopped) :=
  State.run_after rfl (f := fun d => d.writeUplCtrl 0 (fieldPut (d.rdN (rUPL_PORT_CTRL 0)) fUPL_PORT_CTRL_EN 0)) rfl

/-- Refutes O34: where a packet waits in a buffer of a bank that does not exist, discarding it as its port is disabled counts a free
buffer in UPL_PORT_CTRL, and UPLINK_DISABLE leaves EN set. -/
theorem not_uplinkPortsComeUpAndCarryFrames : ¬ Obligations.UplinkPortsComeUpAndCarryFrames := by
  unfold Obligations.UplinkPortsComeUpAndCarryFrames
  rintro ⟨-, hports, -⟩
  obtain ⟨hfirst, hmembers, hen, hallowed⟩ := portState_port
  obtain ⟨-, hdisable, -⟩ := hports portState 0 portState_runs hfirst hmembers
  obtain ⟨t, hrun, hclear, -⟩ := hdisable hen hallowed
  rw [exec_uplinkDisable_port, Host.Outcome.next.injEq] at hrun
  rw [← hrun, State.after_bit] at hclear
  exact ne_true_of_eq_false hclear portStopped_en

end Sys2Proof.Machine
